-- ==== Sys2Proof/Word.lean ====
section
/-! DEFINITION. The word types of the module: registers are 32 bits (R5), memory is bytes. -/

namespace Sys2Proof

/-- A register or a memory word: 32 bits, little-endian in memory (spec/00_scope.md R5). -/
abbrev Word := BitVec 32

/-- One byte of memory. -/
abbrev Byte := BitVec 8

/-- A land address of the house-core map (R20): 32 bits. -/
abbrev Addr := BitVec 32

end Sys2Proof
end

