-- ==== Sys2Proof/Syntax.lean ====
section
/-! DEFINITION. The commands of the block as data: who issues an access, what the environment brings with an
event, and one constructor per row of spec/opcode_table.json. -/

namespace Sys2Proof

/-- The bus masters of R21; `press` stands for the cores, samplers and scheduler. -/
inductive Master where
  | hc0 | hc1 | nc | press | dma | ingress | raster | corridor | trellis | porch
  deriving DecidableEq, Repr

/-- One bus access's sender: the master, the world it asks for (what R21 fixes wins over it), for a press core the core
number, and for master 9 whether a command of the Porch makes it, and not a debugger over JTAG (R549). -/
structure Access where
  master : Master
  secure : Bool := false
  core : Fin 16 := 0
  rom : Bool := false
  deriving DecidableEq, Repr

/-- The levels of the strap lands at a release of reset (R559). -/
structure Straps where
  porchEn : Bool := true
  pairEn : Bool := false
  pairAb : Bool := false
  stkPos : Fin 8 := 0
  deriving DecidableEq, Repr

/-- The IPv4 and UDP header fields of a PTP message that R33 looks at: source and destination address, destination port. -/
structure PtpTo where
  src : BitVec 32 := 0
  ip : BitVec 32 := 0xE0000181
  udp : Nat
  deriving DecidableEq, Repr

/-- What a PTP Announce says of its sender (IEEE 1588 data set fields, R35). -/
structure Announce where
  domain : Nat
  clk : BitVec 64
  gm : BitVec 64
  prio1 : Nat
  cls : Nat
  acc : Nat
  var : Nat
  prio2 : Nat
  steps : Nat
  /-- logAnnounceInterval (R34) -/
  log : Int := 0
  dst : PtpTo := { udp := 320 }
  deriving DecidableEq, Repr

/-- A Sync or Follow_Up as NC takes it (R34, R44): `followUp` tells which; `twoStep` is the Sync's flag; `origin` is
originTimestamp or preciseOriginTimestamp in ns, `corr` the correction in ns, `rx` the receive timestamp of a Sync. -/
structure SyncMsg where
  domain : Nat
  clk : BitVec 64
  seq : BitVec 16
  followUp : Bool := false
  twoStep : Bool := false
  origin : Nat
  corr : Int := 0
  rx : Nat := 0
  /-- logSyncInterval (R34) -/
  log : Int := 0
  dst : PtpTo := { udp := if followUp then 320 else 319 }
  deriving DecidableEq, Repr

/-- A Delay_Resp as NC takes it (R33): `rcv` is receiveTimestamp in ns. -/
structure DelayResp where
  domain : Nat
  clk : BitVec 64
  seq : BitVec 16
  rcv : Nat
  corr : Int := 0
  dst : PtpTo := { udp := 320 }
  deriving DecidableEq, Repr

/-- A frame on the wire, from the destination address to the last byte before the FCS; whether its FCS matches and
whether the PCS coded it without error (R79); `sfd` is the local clock at the tick that registers its start. -/
structure WireFrame where
  bytes : List Byte
  fcsOk : Bool := true
  codeOk : Bool := true
  sfd : Nat
  deriving DecidableEq, Repr

/-- What wakes the Cellar controller (R169). -/
inductive WakeCause where
  | read | posted | scrub | refresh | tol
  deriving DecidableEq, Repr

/-- A cell on a port's receive lands: header, 62 payload slots and CRC trailer (R296), whether its START came at cell spacing
from the one before, and the local time of its START in quarters of a ns. -/
structure RxCell where
  head : Word
  slots : List Word
  trailer : Word
  spaced : Bool := true
  quarter : Nat := 0
  /-- inserts received inside the cell: the slot each came before, and its words (R299) -/
  inserts : List (Nat × List Word) := []
  deriving DecidableEq, Repr

/-- What a DMX port receives after an RDM message: the response bytes, checksum included (none: no response), whether a
framing error was met, and whether a response break came before them. -/
structure RdmReply where
  bytes : List Byte
  framing : Bool := false
  brk : Bool := true
  deriving DecidableEq, Repr


/-- A Corridor HELLO (R365): vintage, cask version range, device number, side, state and epoch. -/
structure CdrHello where
  vintage : Word
  verMin : Nat
  verMax : Nat
  dev : Nat
  sideB : Bool
  state : Fin 5
  epoch : BitVec 16
  deriving DecidableEq, Repr

/-- A Corridor STATE message (R365): state with the revert flag, epochs, adopted ports, last cask applied. -/
structure CdrState where
  state : Fin 5
  revert : Bool := false
  epoch : BitVec 16
  peerEpoch : BitVec 16
  adopted : BitVec 48
  lastCask : Word
  deriving DecidableEq, Repr

/-- A Trellis message as a side receives it (R398): the side, DEST, BCAST, MSEQ, body, and whether its CRC is right. -/
structure TrlMsg where
  fromUp : Bool
  dest : Fin 8
  bcast : Bool := false
  mseq : BitVec 12 := 0
  body : List Word
  crcOk : Bool := true
  deriving DecidableEq, Repr

/-- The commissioning registers of R341: DRV_COMM_KNEE_MAX, _FLOOR_MIN, _TRIP_MAX, and CODE_MAX of the node that
DRV_NODE_SEL names. -/
inductive CommReg where
  | knee | floor | trip | code
  deriving DecidableEq, Repr

/-- A UDP payload as NC takes it (R413): the bytes, the sender's address and port, the receive timestamp of its frame in
ns, the MAC it came by, whether it was an IPv4 fragment, and the address and port it was sent to (by default the group and
the port a module listens to). `relayed`: it came in a STACK message (R440). -/
structure DopMsg where
  bytes : List Byte
  ip : BitVec 32
  udp : BitVec 16
  ts : Nat
  port : Fin 3 := 0
  frag : Bool := false
  relayed : Bool := false
  dest : BitVec 32 := 0xEF4D0001
  destPort : BitVec 16 := 30480
  deriving DecidableEq, Repr

/-- What happens to the claims of a frame start: the canvases whose state word ING changes under every one of the four
attempts (R185), and those whose chosen buffer ING claims first (R117). -/
structure Contested where
  lost : BitVec 4 := 0
  filling : BitVec 4 := 0
  deriving DecidableEq, Repr

/-- The commands of the block: one constructor per row of spec/opcode_table.json. -/
inductive Instr where
  /-- REGISTER_WRITE (R6): A write to a register or field that has no row of its own sets its fields according to their access codes. -/
  | registerWrite (a : Access) (addr : Addr) (v : Word)
  /-- PLL_LOCK_LOST (R30): A bit of SYS_CLKSTAT falls, raising interrupt 2, logging SYS_PLL_LOST and holding the domain in reset. -/
  | pllLockLost (b : Fin 18)
  /-- PLL_LOCK_REGAINED (R30): A SYS_CLKSTAT bit returns to 1 and the domain leaves reset. -/
  | pllLockRegained (b : Fin 18)
  /-- WATCHDOG_KICK (R531): A write to SYS_WDOGc_KICK restarts the watchdog count. -/
  | watchdogKick (a : Access) (w : Fin 3) (v : Word)
  /-- WATCHDOG_EXPIRY (R531): A watchdog count reaches TIMEOUT without a kick, raises interrupt 3 + c and restarts; a second HC0 expiry with RSTEN takes a warm reset. -/
  | watchdogExpiry (w : Fin 3)
  /-- WD_REL (R273): HC0 in world S writes PORT_BCTRL.WD_REL to release a bank's watchdog hold, so its ports resume at the next window opening. -/
  | wdRel (a : Access) (k : Fin 6) (v : Word)
  /-- SOFT_RESET_REQUEST (R529): A world-S write of SYS_RSTREQ with the acceptance key requests a warm reset. -/
  | softResetRequest (a : Access) (v : Word)
  /-- RESET_PIN (R560): RESET_N held low for at least 10 µs causes a reset with PIN set. -/
  | resetPin (low : Bool)
  /-- VIN_RISE (R565): VIN rises through 4.5 V and starts the power-up sequence with RESET_OUT_N and PFW_N low. -/
  | vinRise
  /-- RAILS_START (R565): After VIN has held 4.5 V for 10 ms the internal rails start in sequence and VAUX soft-starts. -/
  | railsStart
  /-- RESET_RELEASE (R565): Once REF_CLK has toggled for 1 ms and RESET_N is high, the straps are sampled and the controller reset is released. -/
  | resetRelease (x : Straps)
  /-- RESET_OUT_RISE (R561): RESET_OUT_N rises 20 ms after the controller reset is released. -/
  | resetOutRise
  /-- POWER_FAIL_WARNING (R563): VIN below 4.3 V for 2 µs puts the warning in force: PFW_N goes low, interrupt 6 is raised, and ports, links and VAUX stop. -/
  | powerFailWarning
  /-- POWER_DOWN_RESET (R564): The module resets 500 µs after the warning, or earlier when VIN falls below 3.0 V. -/
  | powerDownReset
  /-- VAUX_CURRENT_LIMIT (R558): A VAUX current limit lasting 1 ms switches VAUX off, sets AUX_FAULT and logs PWR_AUX_FAULT. -/
  | vauxCurrentLimit
  /-- VAUX_RETRY (R558): VAUX retries 100 ms after being switched off by its limit. -/
  | vauxRetry
  /-- THERMAL_REMOVAL (R567): The die reaching 150 °C removes every internal rail until it is below 125 °C. -/
  | thermalRemoval
  /-- THERMAL_RESTORE (R567): The die falls below 125 °C and the module starts by power-up. -/
  | thermalRestore
  /-- PWR_TEMP (R569): TDIE rising to TH sets TALARM, raises interrupt 7 and logs PWR_TEMP. -/
  | pwrTemp (t : BitVec 8)
  /-- TIME_ADDEND_WRITE (R37): A write of TIME_ADDEND changes the clock rate from the tick after the write completes. -/
  | timeAddendWrite (a : Access) (v : Word)
  /-- STEP (R41): A write of TIME_CTRL.STEP requests an absolute or relative clock step and sets STEP_PEND. -/
  | stepWrite (a : Access) (v : Word)
  /-- STEP_APPLY (R41): On the tick after the STEP request the clock is stepped, STEPPED is set, interrupt 17 is raised and the step is logged. -/
  | stepApply
  /-- TIME_SNAP_READ (R40): A read of TIME_SNAPm_NS copies the local clock into the reading master's snapshot set and returns the nanoseconds. -/
  | timeSnapRead (a : Access) (m : Fin 4)
  /-- TXTS_POP (R43): A read of TIME_TXTS_TAG pops the oldest transmit timestamp. -/
  | txtsPop (a : Access)
  /-- ARM (R592): A write of ARM to TIME_CMPn_CTRL latches the comparator's settings and arms or re-arms it, or refuses MODE 3. -/
  | cmpArm (a : Access) (n : Fin 16) (v : Word)
  /-- DISARM (R54): A write of DISARM disarms a comparator after the match of the same tick. -/
  | cmpDisarm (a : Access) (n : Fin 16) (v : Word)
  /-- CMP_FIRE (R49): A comparator fires on the first tick at or after its target, delivers to its destination, advances its target and optionally queues a record and raises interrupt 28. -/
  | cmpFire (n : Fin 16) (t : Nat)
  /-- CAPTURE_EDGE (R56): A selected edge on a capture source is counted against PRESCALE and, on the recorded edge, queues a capture record. -/
  | captureEdge (src : Fin 32) (rising : Bool)
  /-- APPLY (R62): A write of TIME_GRID_CTRL.APPLY schedules the new grid values and sets PEND. -/
  | gridApply (a : Access) (v : Word)
  /-- GRID_SWITCH (R62): At the switch tick every gridded comparator changes to the new grid and interrupt 31 is raised at the first new frame start. -/
  | gridSwitch
  /-- PPS_RISE (R65): PPS_OUT rises on the first tick of each second in the gated servo states. -/
  | ppsRise
  /-- PPS_FALL (R65): PPS_OUT falls WIDTH microseconds after it rose. -/
  | ppsFall
  /-- TIME_OUT_PULSE_END (R66): A TIME_OUT pulse ends after TIME_OUT_PW ticks. -/
  | timeOutPulseEnd (j : Fin 4)
  /-- ANNOUNCE_RX (R35): NC takes a PTP Announce and runs the best master clock algorithm, selecting the parent and PTP port. -/
  | announceRx (p : Fin 3) (m : Announce)
  /-- SYNC_RX (R44): NC takes a PTP Sync or Follow_Up and corrects offset and rate, moving between ACQUIRING and LOCKED. -/
  | syncRx (p : Fin 3) (m : SyncMsg)
  /-- DELAY_RESP_RX (R33): NC takes a Delay_Resp and updates the mean path delay. -/
  | delayRespRx (p : Fin 3) (m : DelayResp)
  /-- DELAY_REQ_SEND (R33): NC sends a Delay_Req at the interval of logMinDelayReqInterval. -/
  | delayReqSend
  /-- PARENT_LOST (R45): Loss of Announce, Sync or link puts the servo in HOLDOVER with the averaged rate held. -/
  | parentLost
  /-- HOLDOVER_EXPIRED (R45): Holdover age passes HOLDOVER_MAX and the HOLDOVER_EXPIRED flag is set. -/
  | holdoverExpired
  /-- SETTLING_END (R47): At the end of the settle period the servo slews or steps to the new parent and enters ACQUIRING. -/
  | settlingEnd
  /-- TS_STATE (R67): A write of a new TIME_SERVO.STATE raises interrupt 16 and gates PPS_OUT. -/
  | tsState (a : Access) (v : Word)
  /-- MAC_ENABLE (R72): A write of MAC_CTRL.EN enables or disables a port, restarting the 1 ms link count or forcing LINK to 0. -/
  | macEnable (a : Access) (p : Fin 3) (v : Word)
  /-- LINK_UP (R72): Block lock held for 1 ms with RX_LOS low raises LINK, loads the latency registers and logs LINK_UP. -/
  | linkUp (p : Fin 3)
  /-- LINK_DOWN (R72): Loss of block lock or RX_LOS drops LINK, counts it and logs LINK_DOWN. -/
  | linkDown (p : Fin 3)
  /-- SFP_SIDEBAND_CHANGE (R73): A change of Nx_MODABS, Nx_RXLOS or Nx_TXFAULT updates MAC_STATUS, raises interrupt 44 and logs SFP_FAULT on TXFAULT rising. -/
  | sfpSidebandChange (p : Fin 2) (modabs rxlos txfault : Bool)
  /-- MDIO_TRANSACTION (R73): A write of MAC_MDIO with GO runs one Clause 22 management frame to the PHY. -/
  | mdioTransaction (a : Access) (v : Word)
  /-- MDIO_DONE (R73): The Clause 22 frame ends and MAC_MDIO GO/BUSY clears with read data. -/
  | mdioDone (data : BitVec 16)
  /-- FRAME_RECEIVE (R84): A frame received on NA, NB or the service MAC is timestamped, filtered, checked, steered to a queue and passed to its crossing or urgent parser. -/
  | frameReceive (p : Fin 3) (f : WireFrame)
  /-- PAUSE_RX (R95): A received PAUSE or PFC frame holds transmit queues from the next frame start. -/
  | pauseRx (p : Fin 3)
  /-- PAUSE_QUANTA_EXPIRY (R95): The quanta of a received pause run out and the held unit transmits again. -/
  | pauseQuantaExpiry (p : Fin 3) (u : Fin 9)
  /-- PAUSE_WDOG (R96): A hold lasting MAC_PAUSE_WDOG microseconds is broken, counted, logged and further pause ignored for a period. -/
  | pauseWdog (p : Fin 3) (u : Fin 5)
  /-- PAUSE_IGNORE_END (R96): A further PAUSE_WDOG period after a break ends and the unit honours pause afresh. -/
  | pauseIgnoreEnd (p : Fin 3) (u : Fin 5)
  /-- FLOW_CONTROL_FRAME_TX (R94): At the next inter-frame gap a flow-control frame carrying the changed assertion state is sent. -/
  | flowControlFrameTx (p : Fin 3)
  /-- FLOW_CONTROL_REPEAT (R94): Every half quanta time of an assertion the flow-control frame is repeated. -/
  | flowControlRepeat (p : Fin 3)
  /-- CNT_CLR (R106): A write of MAC_CTRL.CNT_CLR clears all the MAC's counters in one cycle. -/
  | cntClr (a : Access) (p : Fin 3) (v : Word)
  /-- ING_FRAME_CLAIM (R109): A frame leaving a receive crossing is offered to merge slots, stream slots, the E1.31 receiver and otherwise its ring. -/
  | ingFrameClaim (p : Fin 3)
  /-- RQ_TAIL_WRITE (R86): A write of ING_RQ_TAIL returns descriptors to hardware, or is ignored and logged if it would give too many. -/
  | rqTailWrite (a : Access) (p : Fin 3) (q : Fin 8) (v : Word)
  /-- TQ_TAIL_WRITE (R97): A write of ING_TQ_TAIL hands transmit descriptors to hardware. -/
  | tqTailWrite (a : Access) (p : Fin 3) (t : Fin 4) (v : Word)
  /-- FRAME_TRANSMIT (R97): A transmit frame leaves in strict priority and its descriptors are written DD, or it is dropped while the link is down. -/
  | frameTransmit (p : Fin 3)
  /-- MRG_SLOT_ENABLE (R101): A write of ING_MRG_CTRL.EN from 0 to 1 clears the window, counters and PATH_DOWN bits. -/
  | mrgSlotEnable (a : Access) (i : Fin 16) (v : Word)
  /-- SKEWMAX_WRITE (R104): A write of 0 to ING_MRG_SKEWMAX clears it; other values are ignored. -/
  | skewmaxWrite (a : Access) (i : Fin 16) (v : Word)
  /-- E131_HOLD_EXPIRY (R130): HOLD microseconds after the first packet the E1.31 canvas frame closes. -/
  | e131HoldExpiry (c : Fin 4)
  /-- E131_SOURCE_TIMEOUT (R128): A source with no packet for 2.5 s is dropped. -/
  | e131SourceTimeout (u : Fin 1024) (i : Fin 2)
  /-- CANV_STALE (R132): TOUT milliseconds with no READY frame makes a canvas stale, raises interrupt 48 + c and logs CANV_STALE. -/
  | canvStale (c : Fin 4)
  /-- CANVAS_ENABLE (R114): A write of ING_CANVc_CTRL.EN enables a canvas if its buffers fit, or disables it and frees every buffer. -/
  | canvasEnable (a : Access) (cv : Fin 4) (v : Word)
  /-- CANVAS_TOUT_WRITE (R132): A write of ING_CANVc_TOUT takes effect at once and can make the canvas stale or fresh. -/
  | canvasToutWrite (a : Access) (cv : Fin 4) (v : Word)
  /-- SLOT_REWRITE (R118): Disabling a slot or rewriting KIND, MRG_EN, MRG, CANVAS or PORTS closes its open frame incomplete. -/
  | slotRewrite (a : Access) (i : Fin 32) (v : Word)
  /-- DLC_FRAME (R134): The urgent parser consumes a DLC frame, checks format, tag and replay, and builds and queues its insert. -/
  | dlcFrame (p : Fin 2)
  /-- ESCAPE_INSERT (R139): A port places an escape insert from its urgent queue at the next 32-bit word boundary, or discards it outside LANE mode. -/
  | escapeInsert (n : Fin 48)
  /-- CELLAR_ENABLE (R159): A write of CEL_CTRL.EN starts the controller, which fills the Cellar with clean zero codewords after power-on. -/
  | cellarEnable (a : Access) (v : Word)
  /-- CELLAR_FILL_DONE (R159): The fill completes and FILL_DONE rises. -/
  | cellarFillDone
  /-- CELLAR_READ (R147): A client read is served by its class and decoded, correcting, poisoning or reporting double errors. -/
  | cellarRead (a : Access) (addr : Addr)
  /-- CELLAR_WRITE (R153): A client write stores a clean codeword, or a narrow write read-modify-writes, subject to the region masks. -/
  | cellarWrite (a : Access) (addr : Addr) (bytes : List Byte)
  /-- CELLAR_CAS (R157): The controller performs an indivisible compare-and-swap on a 32-bit word. -/
  | cellarCas (a : Access) (addr : Addr) (expect new : Word)
  /-- CELLAR_WRITEBACK (R149): A queued corrected or poison write-back is performed unless a client write cancelled it. -/
  | cellarWriteback
  /-- SCRUB_BURST (R148): Every INTERVAL microseconds the scrubber reads the next burst when no client waits, counting passes and setting SCRUB_BEHIND when late. -/
  | scrubBurst (behind : Bool)
  /-- ECC_INJ_WRITE (R591): A world-S write of CEL_ECC_INJ arms a check-bit flip on the next word written by world S. -/
  | eccInjWrite (a : Access) (v : Word)
  /-- TOL_MESSAGE (R166): A tolerance message from the raster engine updates the controller's TOL. -/
  | tolMessage (tol : Word)
  /-- TOL_TIMEOUT (R166): No tolerance message for 2 µs makes the controller treat TOL as 0. -/
  | tolTimeout
  /-- CELLAR_POWER_ENTRY (R168): After IDLE cycles with the conditions met the controller enters the deepest allowed power state. -/
  | cellarPowerEntry
  /-- CELLAR_WAKE (R169): A read, full posted buffer, due scrub or refresh, or falling TOL wakes the controller to ACTIVE. -/
  | cellarWake (why : WakeCause)
  /-- FRAME_START (R175): At a CMP0 fire the raster engine takes the TS80, claims presentation buffers, selects banks, tests staleness and begins fetching, or detects a jump or resumes. -/
  | frameStart (contested : Contested)
  /-- RASTER_FETCH_DATA (R208): Fetched canvas and calibration data pass through the five pipeline stages into port buffer words. -/
  | rasterFetchData (p : Fin 48)
  /-- GO (R190): A write of RAS_COMMIT.GO requests a commit, applied at once while the engine is disabled. -/
  | rasGo (a : Access) (v : Word)
  /-- CANCEL (R193): A write of RAS_COMMIT.CANCEL before the snapshot withdraws the pending GO. -/
  | rasCancel (a : Access) (v : Word)
  /-- RASTER_ENABLE (R193): A write of RAS_CTRL.EN starts the engine following frame starts, or stops it at the next cell boundary with HOLD sent. -/
  | rasterEnable (a : Access) (v : Word)
  /-- COMMIT_GUARD_CLOSE (R192): When the guard closes with GO set the shadow registers are snapshotted and ARMED is set. -/
  | commitGuardClose
  /-- COMMIT_POINT (R192): At P(k) the snapshot becomes active, signatures and proof record are written, the freeze detector runs, and mode commits enter HOLD. -/
  | commitPoint
  /-- PRESENT_SEND (R327): At the first cell boundary at or after P(k) each LANE port sends PRESENT with COUNT and round trips, then its STATUS and blanking cells. -/
  | presentSend (p : Fin 48)
  /-- LUT_FILL (R215): A write of PIX_LUT_FILL.GO copies a supplied curve into a transfer table, or is refused for an active table. -/
  | lutFill (a : Access) (v : Word)
  /-- LUT_FILL_DONE (R215): The curve copy ends and interrupt 88 is raised. -/
  | lutFillDone
  /-- LUT_WINDOW_WRITE (R216): A write through the table window sets a table entry, or is refused as a bus error for an active table. -/
  | lutWindowWrite (a : Access) (t : Fin 8) (i : Fin 1025) (v : Word)
  /-- CVT_START (R220): A write of PIX_CVT_CTRL.GO starts a calibration conversion, or refuses it and raises interrupt 90. -/
  | cvtStart (a : Access) (v : Word)
  /-- CVT_DONE (R220): The conversion writes base record and deltas, ends, raises interrupt 89 and logs any clamp. -/
  | cvtDone
  /-- PRS_RUN_WRITE (R232): HC0 in world S writes PRS_RUN to release press cores or hold them in reset, faulting running items. -/
  | prsRunWrite (a : Access) (v : Word)
  /-- PCW_NEXT (R231): A press core reads PCW_NEXT and stalls until an item is dispatched to it. -/
  | pcwNext (core : Fin 16)
  /-- ITEM_DISPATCH (R243): The dispatcher assigns a ready item to an eligible stalled core by priority, affinity and age. -/
  | itemDispatch
  /-- AFF_WAIT_EXPIRY (R243): An item waiting AFF_WAIT cycles for its recorded core goes to the lowest-numbered eligible core. -/
  | affWaitExpiry (slot : Fin 8192)
  /-- PCW_DONE (R239): A write of PCW_DONE completes the running item, decrements its successor counters, releases items and frees the slot. -/
  | pcwDone (core : Fin 16)
  /-- PCW_FAULT (R233): A write of PCW_FAULT completes the running item as faulted, counts and logs it. -/
  | pcwFault (core : Fin 16)
  /-- ITEM_WATCHDOG (R233): An item running PRS_WDOG cycles is faulted and its core reset and released again. -/
  | itemWatchdog (core : Fin 16)
  /-- WORK_SUBMIT (R236): A write of word 7 of a submit window submits an item, returning DONE, BUSY or ERR. -/
  | workSubmit (a : Access) (m : Option (Fin 16)) (v : Word)
  /-- PRS_CNT_SET (R241): A write of PRS_CNT_SET sets a counter and clears FIRED, or with 0 fires it and releases its waiters. -/
  | prsCntSet (a : Access) (v : Word)
  /-- AFF_CLR (R243): A write of PRS_CTRL.AFF_CLR invalidates the affinity table. -/
  | affClr (a : Access) (v : Word)
  /-- PRESS_KICK (R245): A CMP2 fire expands the frame-kick template: overrun check, buffer latch, counter initialisation and descriptor submission. -/
  | pressKick
  /-- RASTER_EVENT_SUBMIT (R248): A raster HOLD, RESUME or P(k) event word reaches PRS, which submits the raster-event descriptor at P(k). -/
  | rasterEventSubmit
  /-- SAMPLE_REQUEST (R250): A write of PCW_SMP_REQ2 issues a sampler request, stalling at a ninth outstanding. -/
  | sampleRequest (core : Fin 16) (v : Word)
  /-- SAMPLE_RESULT (R252): A sampler completes a point, bilinear, area, pattern or live sample. -/
  | sampleResult (core : Fin 16)
  /-- SAMPLE_POP (R250): A read of PCW_SMP_B removes the oldest sample result. -/
  | samplePop (core : Fin 16)
  /-- PCW_STG_POST (R258): A write of PCW_STG_POST posts a staging record for a port, or refuses it. -/
  | pcwStgPost (core : Fin 16) (v : Word)
  /-- STAGING_MOVE (R258): The stager moves a posted record into the port's filling bank once it holds credits, replacing an unsent record. -/
  | stagingMove (p : Fin 48)
  /-- PORT_SETTINGS_APPLY (R264): At a commit point MODE, PSHARE and RING writes take effect, credit pools reset and a family change relocks the bank. -/
  | portSettingsApply (k : Fin 6)
  /-- WINDOW_OPEN (R271): The window of frame k opens on a LANE port, which sends its first cell, RESUME, or HOLD on loss of drive. -/
  | windowOpen (p : Fin 48)
  /-- LANE_CELL_LAUNCH (R270): A LANE port sends the next committed cell with its sequence and CRC and returns spent credits. -/
  | laneCellLaunch (p : Fin 48)
  /-- LANE_CELL_RECEIVE (R275): A cell received on a LANE port updates receive lock and passes STATUS and DISCOVER_REPLY cells to the return path. -/
  | laneCellReceive (p : Fin 48) (x : RxCell)
  /-- RING_RESTORE (R278): Both ports of a ring pair holding lock for 1 ms clears RING_BROKEN. -/
  | ringRestore (p : Fin 48)
  /-- RX_LOCK_TIMEOUT (R275): Two cell times without a START mark drops receive lock. -/
  | rxLockTimeout (p : Fin 48)
  /-- BANK_RETRAIN_START (R276): A lane-rate entry arrives and the bank completes its cells, stops and reprograms its PLL. -/
  | bankRetrainStart (k : Fin 6)
  /-- BANK_PLL_LOCK (R276): The bank PLL locks and LANE ports start sending TRAIN cells. -/
  | bankPllLock (k : Fin 6)
  /-- BANK_READY (R276): After MIN and lock on every LANE port the bank returns its credits and RETRAIN clears. -/
  | bankReady (k : Fin 6)
  /-- PORT_TRAIN_FAIL (R276): At 50 ms an unlocked port sets TRAIN_FAIL and logs it, and the bank becomes ready. -/
  | portTrainFail (k : Fin 6)
  /-- REFRESH_START (R279): A PULSE or DMX port reaches its refresh start and swaps banks or repeats, or skips if still busy. -/
  | refreshStart (p : Fin 48)
  /-- REFRESH_END (R282): The pulse latch or DMX packet ends and the refresh ends. -/
  | refreshEnd (p : Fin 48)
  /-- RDM_GO (R286): A write of PORT_RDM_CTRL.GO requests an RDM transaction. -/
  | rdmGo (a : Access) (p : Fin 48) (v : Word)
  /-- RDM_START (R287): When the next refresh is at least RSV away the port sends the RDM break, message and checksum. -/
  | rdmStart (p : Fin 48)
  /-- RDM_DONE (R288): The transaction ends with a result, sets DONE, clears GO and raises RDM_DONE. -/
  | rdmDone (p : Fin 48) (r : RdmReply)
  /-- DISCOVER_GO (R320): A write of PORT_LDISC.GO requests a DISCOVER of the chosen operation. -/
  | discoverGo (a : Access) (p : Fin 48) (v : Word)
  /-- DISCOVER_LAUNCH (R320): At the next allowed cell boundary the port launches the DISCOVER with a new TOKEN. -/
  | discoverLaunch (p : Fin 48)
  /-- PORT_DISC_TIMEOUT (R320): No reply within 10 ms sets TIMEOUT and logs PORT_DISC_TIMEOUT. -/
  | portDiscTimeout (p : Fin 48)
  /-- DRV_EVALUATE (R335): At E(k) DRV builds the frame set: derate, modulation, fallback colours, drive words, DIAG selection and AGE advance. -/
  | drvEvaluate
  /-- RETURN_RECORD (R343): DRV takes a node's STATUS record of frame k, for temperature and lamp-health update. -/
  | returnRecord
  /-- COMMISSIONING_WRITE (R342): HC0 in world S writes a commissioning register while LOCK is 0, with values beyond absolute limits replaced. -/
  | commissioningWrite (a : Access) (r : CommReg) (v : Word)
  /-- LOCK (R341): A write of DRV_COMM_CTRL.LOCK locks commissioning, raises interrupt 166 and logs DRV_COMM_LOCK. -/
  | drvLock (a : Access) (v : Word)
  /-- DRV_PAT_RUN (R346): HC0 in world S writes RUN to release or stop the pattern engines, logging PAT_RUN. -/
  | drvPatRun (a : Access) (v : Word)
  /-- PAIRING_ENABLE (R369): A write of CDR_CTRL.EN moves the unit between SOLO and JOINING. -/
  | pairingEnable (a : Access) (v : Word)
  /-- CORRIDOR_LINK_UP (R364): All four Corridor lanes hold block lock and HELLO is received each way. -/
  | corridorLinkUp
  /-- CORRIDOR_LINK_DOWN (R364): Loss of block lock on any Corridor lane brings the link down. -/
  | corridorLinkDown
  /-- CORRIDOR_STATE_TIMEOUT (R364): No STATE message for 500 µs brings the Corridor link down. -/
  | corridorStateTimeout
  /-- HELLO (R391): A Corridor HELLO fixes the cask version and may move JOINING to ACTIVE or SYNCING. -/
  | corridorHello (m : CdrHello) (crcOk : Bool)
  /-- STATE (R365): A Corridor STATE message updates peer state, epochs and adoptions, and the lower epoch demotes. -/
  | corridorState (m : CdrState) (crcOk : Bool)
  /-- STATE_SEND (R365): Every 100 µs the unit sends its STATE message. -/
  | stateSend
  /-- CASK (R382): A Corridor CASK message's segment is written into the standby's cask bank. -/
  | caskMsg (q : Word) (off : Nat) (ws : List Word) (crcOk : Bool)
  /-- SEAL (R382): A SEAL with every word present and a matching CRC seals the standby's cask and sends ACK. -/
  | sealMsg (q : Word) (n : Nat) (crc sl : Word) (crcOk : Bool)
  /-- ACK (R382): An ACK records the cask as acknowledged in CDR_CASK_ACK. -/
  | ackMsg (q : Word) (crcOk : Bool)
  /-- SWAP (R389): The standby takes a SWAP for frame k and answers SWAP_ACK. -/
  | swapMsg (k : Word) (e : BitVec 16) (crcOk : Bool)
  /-- SWAP_ACK (R389): The active unit takes SWAP_ACK, accepting or refusing the planned swap. -/
  | swapAck (k : Word) (ok crcOk : Bool)
  /-- BULK (R387): A BULK message writes part of a Cellar region on the syncing unit. -/
  | bulkMsg (r off : Nat) (ws : List Word) (crcOk : Bool)
  /-- BULK_END (R387): BULK_END completes a region when its CRC matches. -/
  | bulkEnd (r : Nat) (crc : Word) (crcOk : Bool)
  /-- RELEASE_MSG (R377): A RELEASE message returns adopted ports to witness mode at frame k + 1. -/
  | releaseMsg (ports : BitVec 48) (k : Word) (crcOk : Bool)
  /-- FWMSG (R365): A Corridor FWMSG carries firmware data such as the policy image. -/
  | fwmsg (ws : List Word) (crcOk : Bool)
  /-- HEARTBEAT_OUT (R366): The unit drives PEER_ALIVE_OUT high for 100 ns at each microsecond unless stopped. -/
  | heartbeatOut
  /-- HEARTBEAT_EDGE (R367): A rising edge on PEER_ALIVE_IN restores the heartbeat. -/
  | heartbeatEdge
  /-- CDR_HB_LOST (R367): No heartbeat edge for HB_MISS microseconds marks the heartbeat lost. -/
  | cdrHbLost
  /-- WITNESS_GONE (R370): A witness port hearing no non-keepalive cell for 2 cell times shows the peer gone. -/
  | witnessGone (p : Fin 48)
  /-- ASSUME_SEND (R372): At the next word boundary each paired port sends ASSUME, then HOLD, IDLE and RESUME at its window. -/
  | assumeSend (p : Fin 48)
  /-- HEARTBEAT_STOP (R366): An ACTIVE unit whose heartbeat stops puts its paired ports in witness mode and enters SYNCING. -/
  | heartbeatStop
  /-- START_WAIT_EXPIRY (R369): Corridor down for START_WAIT with every witness port gone moves JOINING to ACTIVE. -/
  | startWaitExpiry
  /-- CASK_BUILD (R382): After the frame set is complete the active unit builds, seals and sends the cask of frame k. -/
  | caskBuild
  /-- SWAP_GO (R389): A write of CDR_SWAP.GO schedules a planned swap and sends SWAP. -/
  | swapGo (a : Access) (v : Word)
  /-- RELEASE (R377): A write of CDR_SWAP.RELEASE sends a RELEASE for the ports in CDR_RELMASK. -/
  | cdrRelease (a : Access) (v : Word)
  /-- REVERT_DELAY_EXPIRY (R390): The side-A standby in revertive mode, after REVERT_DELAY in lockstep, requests a swap. -/
  | revertDelayExpiry
  /-- TRELLIS_LINK_UP (R397): A Trellis side holds block lock on all lanes and receives HELLO. -/
  | trellisLinkUp (up : Bool)
  /-- TRELLIS_LINK_DOWN (R397): A Trellis side loses block lock. -/
  | trellisLinkDown (up : Bool)
  /-- TRELLIS_HELLO (R397): A Trellis HELLO checks the neighbour's position and counts answering modules. -/
  | trellisHello (m : TrlMsg)
  /-- TIME (R400): A follower takes a Trellis TIME message and copies TIME_ADDEND, stepping if the edge time disagrees. -/
  | trellisTime (m : TrlMsg)
  /-- TRELLIS_TIME_SEND (R400): The master sends a TIME message once per millisecond. -/
  | trellisTimeSend
  /-- SLICE (R408): A follower's TRL writes SLICE pixel groups into its destination canvas buffer. -/
  | sliceMsg (m : TrlMsg)
  /-- SLICE_END (R408): A SLICE_END counts toward closing the follower's canvas frame as READY. -/
  | sliceEnd (m : TrlMsg)
  /-- STACK (R440): A STACK message carries firmware data or a relayed DOP message. -/
  | stackMsg (m : TrlMsg)
  /-- SLICE_FORWARD_DONE (R407): Forwarding of a frame ends, and the newest waiting frame starts, passing others over as late. -/
  | sliceForwardDone (cv : Fin 4)
  /-- SLICE_ENABLE (R406): A write of TRL_SLs_CTRL.EN enables a slice descriptor or refuses it with CFG_ERR. -/
  | sliceEnable (a : Access) (q : Fin 16) (v : Word)
  /-- STK_SYNC_EDGE (R401): A follower times an STK_SYNC edge, updates phase error and ALIGNED, and drives STK_ACK in its slot. -/
  | stkSyncEdge (off : Int) (timed : Bool)
  /-- STK_ACK_SAMPLE (R405): The master samples STK_ACK 30 ns after its edge, recording the slot and detecting lost or stuck reports. -/
  | stkAckSample (low : Bool)
  /-- TRL_MASTER_LOST (R409): No STK_SYNC edge for SYNC_MISS µs or upstream link down marks the master lost. -/
  | trlMasterLost
  /-- DOP_HELLO (R417): A HELLO opens a HALF session, derives keys at its level and answers HELLO_REPLY. -/
  | dopHello (m : DopMsg)
  /-- CLOSE (R420): A CLOSE ends an OPEN session. -/
  | dopClose (m : DopMsg)
  /-- KEEPALIVE (R420): A KEEPALIVE is echoed sealed and keeps the session open. -/
  | dopKeepalive (m : DopMsg)
  /-- GET (R437): A GET is answered at parsing with the values in effect. -/
  | dopGet (m : DopMsg)
  /-- SET (R436): A SET is authenticated, checked for replay and queued in the control tick of its receive timestamp. -/
  | dopSet (m : DopMsg)
  /-- CONTROL_TICK_APPLY (R436): At the start of tick m + 2 firmware applies the writes of tick m and scheduled writes due, answering each. -/
  | controlTickApply
  /-- HALF_SESSION_EXPIRY (R420): A HALF session expires after 2 s. -/
  | halfSessionExpiry (sid : BitVec 32)
  /-- SESSION_IDLE_TIMEOUT (R420): An OPEN session closes after its idle timeout without an accepted message. -/
  | sessionIdleTimeout (sid : BitVec 32)
  /-- ASSEMBLY_TIMEOUT (R429): A BLOB assembly with no new segment for 10 s is discarded. -/
  | assemblyTimeout (i : Fin 4)
  /-- STORE_FLUSH (R435): A persistent value is appended to the object store within 10 s, compacting halves when full. -/
  | storeFlush
  /-- DB (R463): A doorbell write starts an idle channel, sets DBPEND, re-reads a parked tail or counts DBEARLY. -/
  | dmaDb (a : Access) (n : Fin 16)
  /-- STOP (R461): A STOP write puts a channel in STOPPING, ending its burst and entering IDLE. -/
  | dmaStop (a : Access) (n : Fin 16)
  /-- CLR (R459): A CLR write moves a channel from ERROR to IDLE. -/
  | dmaClr (a : Access) (n : Fin 16)
  /-- DMA_DISABLE (R461): A write of DMA_CTRL.EN = 0 stops every channel. -/
  | dmaDisable (a : Access)
  /-- DMA_CHANNEL_ENABLE (R450): A write of DMA_CHn_CFG.EN enables a channel or refuses a self-triggering configuration with error 7. -/
  | dmaChannelEnable (a : Access) (n : Fin 16) (v : Word)
  /-- DMA_TRIGGER_EVENT (R451): A comparator or completion event reaches a channel and is counted in PEND or lost. -/
  | dmaTriggerEvent (n : Fin 16)
  /-- DMA_BURST (R454): The engine chooses and runs a burst of source and destination beats by priority and round robin. -/
  | dmaBurst (i2cRx i2cTx : Bool)
  /-- DESCRIPTOR_COMPLETE (R458): After the read-back returns the descriptor completes, writes word 6, sets EOC and delivers completion events. -/
  | descriptorComplete (n : Fin 16)
  /-- TAIL_RECHECK (R462): The re-read of a completed tail's word 0 continues the chain or parks the channel in TAIL. -/
  | tailRecheck (n : Fin 16)
  /-- QUEUE_PTR_MISMATCH (R467): A pointer mismatch lasting 3 cycles resets a dual-clock queue, counting and logging the entries lost. -/
  | queuePtrMismatch (id : Fin 256) (lost : Nat)
  /-- CREDIT_MISMATCH (R469): A credit-count mismatch stops the producer for that port until the next commit point. -/
  | creditMismatch (p : Fin 48)
  /-- MAILBOX_PUSH (R471): A write of QUE_PUSHq pushes a message or is dropped on a full queue. -/
  | mailboxPush (a : Access) (q : Fin 32) (v : Word)
  /-- MAILBOX_POP (R472): A read of QUE_POPq pops the oldest message or returns 0. -/
  | mailboxPop (a : Access) (q : Fin 32)
  /-- MAILBOX_DISABLE (R470): A write of QUE_CFGq.EN from 1 to 0 empties the queue. -/
  | mailboxDisable (a : Access) (q : Fin 32)
  /-- QUE_STALE (R473): A non-empty mailbox not popped for QUE_STALEq µs becomes stale and is logged. -/
  | queStale (q : Fin 32)
  /-- VLT_LC_REQ (R479): A write of VLT_LC_REQ requests a life-cycle change, destroying keys and blowing the target fuse group. -/
  | vltLcReq (a : Access) (v : Word)
  /-- FUSE_BLOW_DONE (R493): The target fuse group is blown and verified, the new state applies and LC_DONE is set. -/
  | fuseBlowDone
  /-- HMAC (R489): The Vault computes HMAC-SHA-256 under a slot. -/
  | vltHmac (a : Access) (w : Fin 4) (slot : Fin 64)
  /-- SEAL_OP (R489): The Vault encrypts with AES-256-GCM under a slot or session entry. -/
  | sealOp (a : Access) (w : Fin 4) (slot : Fin 64)
  /-- OPEN (R489): The Vault decrypts and checks an AES-256-GCM tag. -/
  | openOp (a : Access) (w : Fin 4) (slot : Fin 64)
  /-- DERIVE (R485): The Vault derives a key into a destination slot. -/
  | vltDerive (a : Access) (w : Fin 4) (slot dslot : Fin 64)
  /-- SESSION (R484): The Vault fills a session entry with DOP session or group keys. -/
  | vltSession (a : Access) (w : Fin 4) (entry : Fin 64)
  /-- ATTEST (R490): The Vault builds the attestation message and its tag. -/
  | vltAttest (a : Access) (w : Fin 4) (slot : Fin 64)
  /-- UNONCE (R491): The Vault returns and keeps a fresh unlock nonce. -/
  | unonce (a : Access) (w : Fin 4) (slot : Fin 64)
  /-- UNLOCK (R491): The Vault checks an unlock response and puts an installer or vendor unlock in force. -/
  | unlock (a : Access) (w : Fin 4) (slot : Fin 64)
  /-- LOAD_URG (R489): The Vault loads a cue key into both urgent parsers and resets their LASTSEQ. -/
  | loadUrg (a : Access) (w : Fin 4) (slot : Fin 64)
  /-- INSTALL (R497): The Vault installs a plaintext or wrapped key into a slot and stores its record. -/
  | vltInstall (a : Access) (w : Fin 4) (slot : Fin 64)
  /-- DELETE (R496): The Vault erases a slot with a DELETE record. -/
  | vltDelete (a : Access) (w : Fin 4) (slot : Fin 64)
  /-- EXTEND (R486): The Vault extends a measurement register. -/
  | vltExtend (a : Access) (w : Fin 4)
  /-- RANDOM (R489): The Vault returns conditioned random bytes. -/
  | vltRandom (a : Access) (w : Fin 4)
  /-- SETATTR (R482): The Vault writes the attributes of an empty free slot. -/
  | vltSetattr (a : Access) (w : Fin 4) (slot : Fin 64)
  /-- COMMREC (R494): The Vault stores the commissioning record under kcom in PROVISIONED. -/
  | commrec (a : Access) (w : Fin 4) (slot : Fin 64)
  /-- MFINAL (R486): A write of VLT_CTRL.MFINAL freezes the measurements until reset. -/
  | mfinal (a : Access)
  /-- VLT_VINTAGE_WRITE (R488): The first write of VLT_VINTAGE after reset sets the attested vintage. -/
  | vltVintageWrite (a : Access) (v : Word)
  /-- VAULT_SCAN (R495): The Vault scans both record areas, loading slots, destroying records and counting invalid ones. -/
  | vaultScan
  /-- BOOT_ROM_START (R508): After reset release the boot ROM arms the watchdog, reads straps, opens the break watch and trains the Cellar. -/
  | bootRomStart
  /-- BREAK_WATCH_END (R509): At the end of the 100 ms break watch the ROM enters the Porch or chooses and starts a slot. -/
  | breakWatchEnd (held : Bool)
  /-- FLASH_PAGE_PROGRAM (R502): SYS_FLASH_CTRL GO with OP 1 starts a page program, or refuses it for the running slot or under the warning. -/
  | flashPageProgram (a : Access)
  /-- FLASH_SECTOR_ERASE (R502): SYS_FLASH_CTRL GO with OP 2 starts a sector erase, or refuses it. -/
  | flashSectorErase (a : Access)
  /-- FLASH_OP_DONE (R528): A flash program or erase ends, setting DONE and raising interrupt 200. -/
  | flashOpDone
  /-- FLASH_RUNSLOT_WRITE (R529): The first write of SYS_FLASH_RUNSLOT after reset sets the protected slot. -/
  | flashRunslotWrite (a : Access) (v : Word)
  /-- ANNOUNCE (R514): A write of object 0xA010 announces a container and enters DOWNLOADING. -/
  | updAnnounce (v : List Byte)
  /-- PIECE (R515): A write of object 0xA011 stores a container piece, reads it back and clears its bitmap bit. -/
  | updPiece (v : List Byte) (p : Fin 3) (group : Bool)
  /-- STAGING_ERASE_DONE (R516): The background erase of staging completes and a waiting announce is answered. -/
  | stagingEraseDone
  /-- UPDATE_VERIFY (R519): A downloaded container is verified, entering VERIFIED or returning to IDLE with an error. -/
  | updateVerify
  /-- BUILD_CHUNK (R521): One chunk is erased, built, programmed, read back and journalled, reaching BUILT at the end. -/
  | buildChunk
  /-- ARM_UPDATE (R523): A write of object 0xA013 arms activation or leaves an arm pending. -/
  | armUpdate (v : List Byte)
  /-- ACTIVATION (R522): At the armed time or dark rise firmware stops the raster, writes a TRIAL boot configuration and warm-resets. -/
  | activation
  /-- UPD_ARM_EXPIRED (R522): A dark-period arm whose UNTIL passes without a rise stays ARMED and is logged. -/
  | updArmExpired
  /-- ABORT (R514): Command 1 of object 0xA014 aborts the update and returns to IDLE. -/
  | updAbort
  /-- CONFIRM (R524): Command 2 confirms a TRIAL image and writes STATE NORMAL. -/
  | updConfirm
  /-- ROLLBACK (R524): Command 3 in TRIAL rolls back to PREV and warm-resets. -/
  | updRollback
  /-- REFRESH_NOW (R526): Command 4 starts a flash refresh of the running image. -/
  | refreshNow
  /-- AUTO_CONFIRM (R524): The raster engine running for the auto-confirm time confirms the TRIAL image. -/
  | autoConfirm
  /-- UPD_REFRESH (R526): An image, store or key area 36 months old is copied and refreshed and the refresh logged. -/
  | updRefresh (what : Fin 3)
  /-- ERROR_REPORT (R535): A block's report reaches its source queue and is stamped, or is dropped and counted when full. -/
  | errorReport (src : Fin 70) (code : BitVec 8) (detail : Word)
  /-- ERR_RECORD (R537): Every 2 fabric cycles ERR records the earliest queue head, coalescing or opening an entry. -/
  | errRecord
  /-- ERR_RDSEQ_WRITE (R538): A write of ERR_RDSEQ marks the next entry firmware will read. -/
  | errRdseqWrite (a : Access) (v : Word)
  /-- FATAL_DUMP (R540): The fatal handler writes an Attic dump and requests a warm reset. -/
  | fatalDump (who : Fin 3) (cause : Word) (cores nc fw : List Byte)
  /-- AUTOBAUD (R543): A Porch line of 0x55 bytes sets UART0 to the measured rate. -/
  | autobaud (rate : BitVec 32)
  /-- HELP (R545): The Porch lists the commands available now. -/
  | porchHelp
  /-- ID (R545): The Porch prints device type and identity record. -/
  | porchId
  /-- PEEK (R545): The Porch reads one word as master 9. -/
  | porchPeek (addr : Addr)
  /-- POKE (R545): The Porch writes one word as master 9. -/
  | porchPoke (addr : Addr) (v : Word)
  /-- DUMP (R545): The Porch prints n bytes of memory. -/
  | porchDump (addr : Addr) (n : BitVec 32)
  /-- FILL (R545): The Porch writes a word over n bytes. -/
  | porchFill (addr : Addr) (n : BitVec 32) (v : Word)
  /-- LOAD (R547): The Porch answers READY and takes a block transfer into memory. -/
  | porchLoad (addr : Addr) (n : BitVec 32)
  /-- LOAD_STAGE (R547): The Porch erases staging and takes a container transfer into it. -/
  | loadStage (n : BitVec 32)
  /-- LOAD_BLOCK (R547): A LOAD block is checked and stored with 0x06, or refused with 0x15. -/
  | loadBlock (num : Byte) (len : BitVec 16) (data : List Byte) (crc : Word)
  /-- LOAD_END (R547): 0x04 ends a transfer; a staged container is journalled as DOWNLOADED. -/
  | loadEnd
  /-- LOAD_TIMEOUT (R547): 10 s without a byte ends the transfer with ERR TIMEOUT. -/
  | loadTimeout
  /-- PORCH_GO (R548): GO checks an image copy and starts it as the ROM would. -/
  | porchGo (addr : Addr)
  /-- ATTIC (R545): The Porch prints the validity, header and sections of a dump area. -/
  | porchAttic (i : Fin 2)
  /-- ATTIC_CLR (R545): The Porch writes MAGIC 0 in both dump areas. -/
  | atticClr
  /-- LIFE (R545): The Porch prints the life-cycle state. -/
  | porchLife
  /-- LIFE_REQUEST (R545): The Porch makes a life-cycle request as master 9. -/
  | lifeRequest (code : Byte)
  /-- CHAL_NONCE (R545): The Porch prints an unlock nonce from UNONCE. -/
  | chalNonce (vendor : Bool)
  /-- CHAL_RESPONSE (R545): The Porch runs UNLOCK with the given response. -/
  | chalResponse (vendor : Bool) (r : List Byte)
  /-- BOOT (R545): The Porch leaves and runs the slot choice. -/
  | porchBoot
  /-- PORCH_WDOG_KICK (R542): While in the Porch the ROM kicks the HC0 watchdog every 500 ms. -/
  | porchWdogKick
  /-- DBG_ATTACH (R549): A debugger attaches over JTAG and DBG_ATTACH is logged. -/
  | dbgAttach
  /-- UART_BREAK (R580): RXD held low for 11 bit times sets UART_STAT.BREAK. -/
  | uartBreak (n : Fin 2)
  /-- VIN_DIP_DURING_POWER_UP (R565): VIN falling below 4.5 V during power-up steps 1 and 2 restarts the 10 ms count before the rails start. -/
  | vinDipDuringPowerUp
  /-- VIN_ABSENT (R566): VIN falling below 1.0 V after the power-down reset puts every output land, PFW_N included, in high impedance. -/
  | vinAbsent
  /-- TEMP_ALARM_REARM (R569): TDIE falling 5 °C below TH re-arms the die temperature alarm so that it can fire again. -/
  | tempAlarmRearm (t : BitVec 8)
  /-- CELLAR_TEMP_HI (R584): The Cellar DRAM reporting above or back below 85 °C sets or clears CEL_STATUS.TEMP_HI and doubles or restores refresh. -/
  | cellarTempHi (high : Bool)
  /-- BULK_TRANSFER (R387): The active unit sends the next BULK message of a region at no more than CDR_BULK.RATE, and clears RUNNING after BULK_END of the last region. -/
  | bulkTransfer
  /-- UART_RX_BYTE (R580): A byte arriving on UART RXD enters the 256-byte receive FIFO, updates the held count and can assert the receive DMA request or RX interrupt. -/
  | uartRxByte (n : Fin 2) (b : Byte) (framing : Bool)
  /-- UART_TX_BYTE (R580): A byte leaves the UART transmit FIFO on TXD, freeing room and possibly asserting the transmit DMA request or TX interrupt. -/
  | uartTxByte (n : Fin 2)
  /-- REGISTER_READ (R23): A bus-master read whose access has behaviour of its own: an unmapped, world-refused or timed-out read completes as a bus error returning 0, and a read of a MAC byte counter _LO latches its _HI. -/
  | registerRead (a : Access) (addr : Addr)
  deriving DecidableEq, Repr

end Sys2Proof
end

