-- ==== Sys2Proof/Config.lean ====
section
/-! DEFINITION. What the spec leaves to the part or leaves open: free values are opaque, so that no proof can see
what they are; each is named by a log entry of notes/assumptions. -/

namespace Sys2Proof.Config

/-- A value the spec leaves undefined, drawn by the command count and a place: nothing constrains it. -/
opaque freeWord : Nat → Nat → Word

/-- The conditioned random bytes of the Vault (R489): byte `j` of the draw at command count `n`. -/
opaque randomByte : Nat → Nat → Byte

/-- TIME_ADDEND the NC servo computes from its measured offset; its gains are not stated (R44, R47). -/
opaque servoAddend : Nat → Int → Int

/-- The fixed synchroniser delay of an external capture or timestamp is 2 cycles plus this many modulo 2 (R18). -/
opaque syncExtra : Nat

/-- Which of the odd-weight columns left the check matrix of the Cellar's code gives data bit `i` (R146): the spec does
not give the matrix. -/
opaque eccPick : Nat → Nat

/-- NC's own clockIdentity (R33): the spec does not say how it is formed. -/
opaque clockId : BitVec 64

/-- The log code under which a block that lists none reports a limit applied (R27): the spec does not give it. -/
opaque limitCode : Nat → Nat

/-- Byte `j` of a sector whose erase was abandoned at command count `n` (R503): the spec does not say what it holds. -/
opaque freeByte : Nat → Nat → Byte

/-- Whether the training of the Cellar's channels succeeds at command count `n` (R159, R171). -/
opaque trains : Nat → Bool

/-- DETAIL of PORCH_ENTRY for entry case 0 strap, 1 break, 2 dump, 3 no image (R542): its numbers are not stated. -/
opaque porchCase : Nat → Word

/-- Where the Press's tables begin in region 3 (0 fixtures, 1 elements, 2 personalities), where byte `i` of a port's assembly
area stands in press SRAM, and where the `j`-th staging record of a port is built, in 512-byte units: the press sub-image
sets them and the spec does not (R255, R257). -/
opaque fixTable : Nat → Nat
opaque asmArea : Nat → Nat → Nat
opaque stgUnit : Nat → Nat → Nat

end Sys2Proof.Config
end

