-- ==== Sys2Proof/Machine/Maps.lean ====
section
/-! DEFINITION. Sparse maps in one canonical form: the register file, the memory and every array of like
records of the machine are lists of (key, value) pairs, keys strictly rising, no value equal to what an
unlisted key reads as. -/

namespace Sys2Proof.Machine

/-- What key `k` of the map `m` holds; an unlisted key reads as `d`. -/
def mget {α : Type} (d : α) : List (Nat × α) → Nat → α
  | [], _ => d
  | (j, v) :: t, k => if j = k then v else mget d t k

/-- `(k, v)` put before the first entry with a greater key. -/
def minsert {α : Type} (k : Nat) (v : α) : List (Nat × α) → List (Nat × α)
  | [] => [(k, v)]
  | (j, w) :: t => if k < j then (k, v) :: (j, w) :: t else (j, w) :: minsert k v t

/-- `m` with key `k` holding `v`; `d` is what key `k` reads as when unlisted, so writing `d` removes the entry. -/
def mset {α : Type} [DecidableEq α] (d : α) (m : List (Nat × α)) (k : Nat) (v : α) : List (Nat × α) :=
  let m := m.filter fun p => p.1 ≠ k
  if v = d then m else minsert k v m

/-- The keys of `m` rise strictly and each is above `lo`, and no entry equals its default `dflt key`. -/
def mwfFrom {α : Type} [DecidableEq α] (dflt : Nat → α) : Option Nat → List (Nat × α) → Bool
  | _, [] => true
  | lo, (k, v) :: t =>
    (match lo with
     | none => true
     | some l => decide (l < k)) && decide (v ≠ dflt k) && mwfFrom dflt (some k) t

/-- The canonical form of a map whose unlisted keys read as `dflt`. -/
def mwf {α : Type} [DecidableEq α] (dflt : Nat → α) (m : List (Nat × α)) : Bool := mwfFrom dflt none m

end Sys2Proof.Machine
end

