-- ==== Sys2Proof/Machine/Regs.lean ====
section
/-! DEFINITION. The register maps of the spec as rows: where each register stands in the house-core map (R8, R20),
its reset value, and the access code of each of its bits (R6). What a write or a read does beyond the access
codes is the row's `hook`, whose effect stands in Machine/Bus.lean. -/

namespace Sys2Proof.Machine

/-- Which accesses may write a restricted register or field (R591); `any`: no restriction. -/
inductive Who where
  | any
  | ncOrS      -- master 2, or world S (R38)
  | worldS     -- world S
  | hc0S       -- HC0 in world S
  | none       -- no master on the bus
  deriving DecidableEq, Repr

/-- The behaviour of its own a register has on a read or a write, by the register it belongs to. -/
inductive Hook where
  | plain
  | sysRstreq | sysPwr | sysBuserrInfo | sysTemp | wdogCtrl | wdogKick | sysRunslot | flashCtrl
  | timeCtrl | ppsCtrl | timeServo | timeSnap | txtsTag | gridCtrl | cmpCtrl | capCtrl | frameIdx | timeStatus
  | errRdseq | uartData | uartStat | uartCtrl
  | macCtrl | macMaxlen | macFc | macMdio | macCounters | macQclass | macStatus
  | rqTail | tqTail | rqCtrl | tqCtrl | mrgCtrl | skewMax | mrgDst
  | canvCtrl | canvTout | canvStat | slotCtrl | slotMap | urgCtrl | cueTable | e131 | uniMap
  | celCtrl | celMask | eccInj | celRgn | celStatus
  | rasCommit | rasCtrl | rasShadow | rasShadowMode | rasStatus | rasStat2
  | lutFill | lutWin | cvtCtrl | pixZone | pixTbl
  | prsRun | prsCnt | prsCtrl | prsSub | prsSubSts | pcwNext | pcwDone | pcwFault | pcwSmpReq | pcwSmpB | pcwStg | pcwSub | prsStatus
  | portCtrl | portShare | portRing | portBctrl | portIrq | ldisc | rdmCtrl | portPulse | portStat | portLane
  | drvCtrl | drvLock | drvCommReg | drvPolicy | drvChange | prsKick | drvPatRun | drvUcode | drvStatus | drvNode | drvDerate
  | cdrCtrl | cdrSwap | cdrEpoch | cdrStatus | cdrMask | cdrHb
  | trlCtrl | trlSl | trlDcanv | trlStatus
  | dmaCtrl | dmaCfg | dmaCmd | dmaDesc | dmaStat | dmaActive
  | queCfg | queMask | quePush | quePop | queStat | queRes | queNe
  | vltCtrl | vltLcReq | vltVintage | vltCmd | vltBuf | vltStatus | vltSlot | vltMeas | fuse
  deriving DecidableEq, Repr

/-- One row of a register map: registers at `base + i * s1 + j * s2` for `i < n1`, `j < n2`. -/
structure RegRow where
  name : String
  base : Nat
  n1 : Nat := 1
  s1 : Nat := 0
  n2 : Nat := 1
  s2 : Nat := 0
  reset : Nat := 0
  /-- bits a write sets -/
  rw : Nat := 0
  /-- bits a write of 1 clears -/
  w1c : Nat := 0
  /-- WO and W1S bits that start an action -/
  act : Nat := 0
  who : Who := .any
  /-- the bits the restriction `who` covers; 0: the whole register -/
  whoMask : Nat := 0
  hook : Hook := .plain
  deriving DecidableEq, Repr

/-- The house-core address of register (i, j) of the row. -/
def RegRow.addr (r : RegRow) (i j : Nat) : Nat := r.base + i * r.s1 + j * r.s2

/-- Which register of the row stands at word address `a`. -/
def RegRow.find (r : RegRow) (a : Nat) : Option (Nat × Nat) :=
  if a < r.base then none else
  let off := a - r.base
  let i := if r.s1 = 0 then 0 else min (off / r.s1) (r.n1 - 1)
  let rest := off - i * r.s1
  let j := if r.s2 = 0 then 0 else min (rest / r.s2) (r.n2 - 1)
  if r.base + i * r.s1 + j * r.s2 = a then some (i, j) else none

/-! ## SYS (0x1000_0000): spec/01, spec/17 and spec/19 -/

def rRSTCAUSE : RegRow := { name := "SYS_RSTCAUSE", base := 0x10000010 }
def rRSTREQ : RegRow := { name := "SYS_RSTREQ", base := 0x10000014, act := 0xFFFFFFFF, who := .worldS, hook := .sysRstreq }
def rSTRAP : RegRow := { name := "SYS_STRAP", base := 0x10000018 }
def rPWR : RegRow := { name := "SYS_PWR", base := 0x1000001C, w1c := 0x20000000, hook := .sysPwr }
def rCLKSTAT : RegRow := { name := "SYS_CLKSTAT", base := 0x10000020 }
def rTEMP : RegRow := { name := "SYS_TEMP", base := 0x10000024, reset := 0x00A50000, rw := 0x00FF0000, w1c := 0x80000000, hook := .sysTemp }
def rBUSERR_INFO : RegRow := { name := "SYS_BUSERR_INFO", base := 0x10000040, w1c := 0xC0000000 }
def rBUSERR_ADDR : RegRow := { name := "SYS_BUSERR_ADDR", base := 0x10000044 }
def rWDOG_CTRL : RegRow := { name := "SYS_WDOGc_CTRL", base := 0x10000060, n1 := 3, s1 := 8, rw := 0x0000FFFF, act := 0xC0000000, hook := .wdogCtrl }
def rWDOG_KICK : RegRow := { name := "SYS_WDOGc_KICK", base := 0x10000064, n1 := 3, s1 := 8, act := 0xFFFFFFFF, hook := .wdogKick }
def rFLASH_CTRL : RegRow := { name := "SYS_FLASH_CTRL", base := 0x10000100, rw := 0x3, act := 0x80000000, hook := .flashCtrl }
def rFLASH_STAT : RegRow := { name := "SYS_FLASH_STAT", base := 0x10000104, w1c := 0x1E }
def rFLASH_ADDR : RegRow := { name := "SYS_FLASH_ADDR", base := 0x10000108, rw := 0x03FFFFFF }
def rFLASH_SRC : RegRow := { name := "SYS_FLASH_SRC", base := 0x1000010C, rw := 0xFFFFFFFF }
def rFLASH_LEN : RegRow := { name := "SYS_FLASH_LEN", base := 0x10000110, rw := 0x1FF }
def rRUNSLOT : RegRow := { name := "SYS_FLASH_RUNSLOT", base := 0x10000114, reset := 3, act := 0x3, hook := .sysRunslot }

/-- The registers of SYS. -/
def regsSYS : List RegRow :=
  [rRSTCAUSE, rRSTREQ, rSTRAP, rPWR, rCLKSTAT, rTEMP, rBUSERR_INFO, rBUSERR_ADDR, rWDOG_CTRL, rWDOG_KICK,
   rFLASH_CTRL, rFLASH_STAT, rFLASH_ADDR, rFLASH_SRC, rFLASH_LEN, rRUNSLOT]

/-! ## TIME (0x1001_0000): spec/02 -/

def rTIME_CTRL : RegRow := { name := "TIME_CTRL", base := 0x10010000, reset := 1, rw := 0xB, act := 0x4, who := .ncOrS, whoMask := 0x4, hook := .timeCtrl }
def rTIME_STATUS : RegRow := { name := "TIME_STATUS", base := 0x10010004, w1c := 0x1A }
def rTIME_ADDEND : RegRow := { name := "TIME_ADDEND", base := 0x10010008, rw := 0xFFFFFFFF, who := .ncOrS }
def rTIME_SERVO : RegRow := { name := "TIME_SERVO", base := 0x1001000C, rw := 0x7, hook := .timeServo }
def rSTEP_NS : RegRow := { name := "TIME_STEP_NS", base := 0x10010010, rw := 0x3FFFFFFF, who := .ncOrS }
def rSTEP_SLO : RegRow := { name := "TIME_STEP_SLO", base := 0x10010014, rw := 0xFFFFFFFF, who := .ncOrS }
def rSTEP_SHI : RegRow := { name := "TIME_STEP_SHI", base := 0x10010018, rw := 0x8000FFFF, who := .ncOrS }
/-- TIME_SNAPm_NS, _SLO, _SHI, _FRAC: word j of group m; the values are the reading master's snapshot (R40). -/
def rSNAP : RegRow := { name := "TIME_SNAPm", base := 0x10010040, n1 := 4, s1 := 0x10, n2 := 4, s2 := 4, hook := .timeSnap }
def rLAT_N_TX : RegRow := { name := "TIME_LAT_Nx_TX", base := 0x10010080, n1 := 2, s1 := 8, rw := 0xFFFF, reset := 608 }
def rLAT_N_RX : RegRow := { name := "TIME_LAT_Nx_RX", base := 0x10010084, n1 := 2, s1 := 8, rw := 0xFFFF, reset := 840 }
def rLAT_SV_TX : RegRow := { name := "TIME_LAT_SV_TX", base := 0x10010090, rw := 0xFFFF, reset := 384 }
def rLAT_SV_RX : RegRow := { name := "TIME_LAT_SV_RX", base := 0x10010094, rw := 0xFFFF, reset := 480 }
def rTXTS_TAG : RegRow := { name := "TIME_TXTS_TAG", base := 0x100100A0, hook := .txtsTag }
/-- TIME_TXTS_NS, _SLO, _SHI. -/
def rTXTS : RegRow := { name := "TIME_TXTS_NS/SLO/SHI", base := 0x100100A4, n1 := 3, s1 := 4 }
def rGRID_NUM : RegRow := { name := "TIME_GRID_NUM", base := 0x10010100, reset := 1, rw := 0xFFFF }
def rGRID_DEN : RegRow := { name := "TIME_GRID_DEN", base := 0x10010104, reset := 0x78, rw := 0xFFFFFF }
def rGRID_OFS : RegRow := { name := "TIME_GRID_OFS", base := 0x10010108, rw := 0xFFFFFFFF }
def rGRID_CTRL : RegRow := { name := "TIME_GRID_CTRL", base := 0x1001010C, act := 1, hook := .gridCtrl }
/-- TIME_FRAME_IDX_LO, _HI: computed from the grid in force and the clock (R60). -/
def rFRAME_IDX : RegRow := { name := "TIME_FRAME_IDX_LO/HI", base := 0x10010118, n1 := 2, s1 := 4, hook := .frameIdx }
def rPPS_CTRL : RegRow := { name := "TIME_PPS_CTRL", base := 0x10010120, reset := 0x00061A82, rw := 0xFFFFFFFF, hook := .ppsCtrl }
def rOUT_CTRL : RegRow := { name := "TIME_OUT_CTRL", base := 0x10010124, rw := 0x7F7F7F7F }
def rOUT_PW : RegRow := { name := "TIME_OUT_PW", base := 0x10010128, reset := 0x32, rw := 0xFFFF }
def rCMP_CTRL : RegRow := { name := "TIME_CMPn_CTRL", base := 0x10010400, n1 := 16, s1 := 0x20, rw := 0x3FFF803C, act := 0x3, hook := .cmpCtrl }
def rCMP_NS : RegRow := { name := "TIME_CMPn_NS", base := 0x10010404, n1 := 16, s1 := 0x20, rw := 0xFFFFFFFF }
def rCMP_SLO : RegRow := { name := "TIME_CMPn_SLO", base := 0x10010408, n1 := 16, s1 := 0x20, rw := 0xFFFFFFFF }
def rCMP_SHI : RegRow := { name := "TIME_CMPn_SHI", base := 0x1001040C, n1 := 16, s1 := 0x20, rw := 0xFFFF }
def rCMP_PER_NS : RegRow := { name := "TIME_CMPn_PER_NS", base := 0x10010410, n1 := 16, s1 := 0x20, rw := 0xFFFFFFFF }
def rCMP_PER_REM : RegRow := { name := "TIME_CMPn_PER_REM", base := 0x10010414, n1 := 16, s1 := 0x20, rw := 0xFFFFFF }
def rCMP_PER_DEN : RegRow := { name := "TIME_CMPn_PER_DEN", base := 0x10010418, n1 := 16, s1 := 0x20, reset := 1, rw := 0xFFFFFF }
def rCAP_CTRL : RegRow := { name := "TIME_CAPu_CTRL", base := 0x10010800, n1 := 8, s1 := 0x10, rw := 0xFFFF3FE1, hook := .capCtrl }
def rCMP_PEND : RegRow := { name := "TIME_CMP_PEND", base := 0x10010900, w1c := 0xFFFFFFFF }
def rCAP_LOST : RegRow := { name := "TIME_CAP_LOST", base := 0x10010904 }

/-- The registers of TIME. -/
def regsTIME : List RegRow :=
  [rTIME_CTRL, rTIME_STATUS, rTIME_ADDEND, rTIME_SERVO, rSTEP_NS, rSTEP_SLO, rSTEP_SHI, rSNAP, rLAT_N_TX, rLAT_N_RX,
   rLAT_SV_TX, rLAT_SV_RX, rTXTS_TAG, rTXTS, rGRID_NUM, rGRID_DEN, rGRID_OFS, rGRID_CTRL, rFRAME_IDX, rPPS_CTRL,
   rOUT_CTRL, rOUT_PW, rCMP_CTRL, rCMP_NS, rCMP_SLO, rCMP_SHI, rCMP_PER_NS, rCMP_PER_REM, rCMP_PER_DEN, rCAP_CTRL,
   rCMP_PEND, rCAP_LOST]

/-! ## MACA, MACB, SVC (0x1002_0000, 0x1003_0000, 0x1004_0000): spec/03 -/

def rMAC_CTRL : RegRow := { name := "MAC_CTRL", base := 0x10020000, n1 := 3, s1 := 0x10000, reset := 0x000A2B0C, rw := 0x003FFFCF, act := 0x80000000, hook := .macCtrl }
def rMAC_STATUS : RegRow := { name := "MAC_STATUS", base := 0x10020004, n1 := 3, s1 := 0x10000, w1c := 0xC0 }
def rMAC_MAXLEN : RegRow := { name := "MAC_MAXLEN", base := 0x1002000C, n1 := 3, s1 := 0x10000, reset := 0x2400, rw := 0x3FFF, hook := .macMaxlen }
def rMAC_FC : RegRow := { name := "MAC_FC_CTRL", base := 0x10020010, n1 := 3, s1 := 0x10000, rw := 0x13 }
def rPAUSE_WDOG : RegRow := { name := "MAC_PAUSE_WDOG", base := 0x10020014, n1 := 3, s1 := 0x10000, reset := 0x7D0, rw := 0xFFFF }
def rPFC_MAP : RegRow := { name := "MAC_PFC_MAP", base := 0x10020018, n1 := 3, s1 := 0x10000, reset := 0xC0300C03, rw := 0xFFFFFFFF }
def rPAUSE_QUANTA : RegRow := { name := "MAC_PAUSE_QUANTA", base := 0x1002001C, n1 := 3, s1 := 0x10000, reset := 0xFFFF, rw := 0xFFFF }
def rMAC_ADDR_LO : RegRow := { name := "MAC_ADDR_LO", base := 0x10020020, n1 := 3, s1 := 0x10000, rw := 0xFFFFFFFF }
def rMAC_ADDR_HI : RegRow := { name := "MAC_ADDR_HI", base := 0x10020024, n1 := 3, s1 := 0x10000, rw := 0xFFFF }
def rMAC_VLAN : RegRow := { name := "MAC_VLANi", base := 0x10020028, n1 := 3, s1 := 0x10000, n2 := 4, s2 := 4, rw := 0x8FFF }
def rPCP_MAP : RegRow := { name := "MAC_PCP_MAP", base := 0x10020038, n1 := 3, s1 := 0x10000, reset := 0x76543210, rw := 0x77777777 }
/-- MAC_DSCP_MAPi, i 0..7 (R82). -/
def rDSCP_MAP (i : Nat) : RegRow := { name := "MAC_DSCP_MAPi", base := 0x10020040 + 4 * i, n1 := 3, s1 := 0x10000, reset := if i = 5 then 0x56555555 else i * 0x11111111, rw := 0x77777777 }
def rQCLASS : RegRow := { name := "MAC_QCLASS", base := 0x10020060, n1 := 3, s1 := 0x10000, reset := 0xFA50, rw := 0xFFFF, hook := .macQclass }
def rMDIO : RegRow := { name := "MAC_MDIO", base := 0x10040090, rw := 0x07FFFFFF, act := 0x80000000, hook := .macMdio }
def rPM_LO : RegRow := { name := "MAC_PMi_LO", base := 0x10020300, n1 := 3, s1 := 0x10000, n2 := 8, s2 := 8, rw := 0xFFFFFFFF }
def rPM_HI : RegRow := { name := "MAC_PMi_HI", base := 0x10020304, n1 := 3, s1 := 0x10000, n2 := 8, s2 := 8, rw := 0x8000FFFF }
def rHASH : RegRow := { name := "MAC_HASHj", base := 0x10020400, n1 := 3, s1 := 0x10000, n2 := 128, s2 := 4, rw := 0xFFFFFFFF }
/-- The MAC counters of R106, word j of 0x0800..0x0850. -/
def rMAC_CNT : RegRow := { name := "MAC counters", base := 0x10020800, n1 := 3, s1 := 0x10000, n2 := 21, s2 := 4, hook := .macCounters }

/-- The registers of the MACs. -/
def regsMAC : List RegRow :=
  [rMAC_CTRL, rMAC_STATUS, rMAC_MAXLEN, rMAC_FC, rPAUSE_WDOG, rPFC_MAP, rPAUSE_QUANTA, rMAC_ADDR_LO, rMAC_ADDR_HI, rMAC_VLAN,
   rPCP_MAP, rDSCP_MAP 0, rDSCP_MAP 1, rDSCP_MAP 2, rDSCP_MAP 3, rDSCP_MAP 4, rDSCP_MAP 5, rDSCP_MAP 6, rDSCP_MAP 7, rQCLASS,
   rMDIO, rPM_LO, rPM_HI, rHASH, rMAC_CNT]

/-! ## ING rings and merge slots (0x1005_0000): spec/03 -/

def rRQ_BASE : RegRow := { name := "ING_RQ_BASE", base := 0x10050400, n1 := 3, s1 := 0x100, n2 := 8, s2 := 0x20, rw := 0xFFFFFFE0 }
def rRQ_CTRL : RegRow := { name := "ING_RQ_CTRL", base := 0x10050404, n1 := 3, s1 := 0x100, n2 := 8, s2 := 0x20, rw := 0xC000000F, hook := .rqCtrl }
def rRQ_HEAD : RegRow := { name := "ING_RQ_HEAD", base := 0x10050408, n1 := 3, s1 := 0x100, n2 := 8, s2 := 0x20 }
def rRQ_TAIL : RegRow := { name := "ING_RQ_TAIL", base := 0x1005040C, n1 := 3, s1 := 0x100, n2 := 8, s2 := 0x20, act := 0xFFFF, hook := .rqTail }
def rRQ_DONE : RegRow := { name := "ING_RQ_DONE", base := 0x10050410, n1 := 3, s1 := 0x100, n2 := 8, s2 := 0x20 }
def rRQ_WM : RegRow := { name := "ING_RQ_WM", base := 0x10050414, n1 := 3, s1 := 0x100, n2 := 8, s2 := 0x20, rw := 0xFFFFFFFF, hook := .rqCtrl }
def rRQ_NOBUF : RegRow := { name := "ING_RQ_NOBUF", base := 0x10050418, n1 := 3, s1 := 0x100, n2 := 8, s2 := 0x20 }
def rRQ_TRUNC : RegRow := { name := "ING_RQ_TRUNC", base := 0x1005041C, n1 := 3, s1 := 0x100, n2 := 8, s2 := 0x20 }
def rTQ_BASE : RegRow := { name := "ING_TQ_BASE", base := 0x10050700, n1 := 3, s1 := 0x80, n2 := 4, s2 := 0x20, rw := 0xFFFFFFE0 }
def rTQ_CTRL : RegRow := { name := "ING_TQ_CTRL", base := 0x10050704, n1 := 3, s1 := 0x80, n2 := 4, s2 := 0x20, rw := 0xC000000F }
def rTQ_HEAD : RegRow := { name := "ING_TQ_HEAD", base := 0x10050708, n1 := 3, s1 := 0x80, n2 := 4, s2 := 0x20 }
def rTQ_TAIL : RegRow := { name := "ING_TQ_TAIL", base := 0x1005070C, n1 := 3, s1 := 0x80, n2 := 4, s2 := 0x20, act := 0xFFFF, hook := .tqTail }
def rTQ_DONE : RegRow := { name := "ING_TQ_DONE", base := 0x10050710, n1 := 3, s1 := 0x80, n2 := 4, s2 := 0x20 }
def rMRG_CTRL : RegRow := { name := "ING_MRG_CTRL", base := 0x10050A00, n1 := 16, s1 := 0x40, reset := 0x7FFF, rw := 0xC0007FFF, hook := .mrgCtrl }
/-- ING_MRG_DSTA, _DSTB (j 0, 1) and ING_MRG_SRCA, _SRCB (j 2, 3). -/
def rMRG_IP : RegRow := { name := "ING_MRG_DSTA/DSTB/SRCA/SRCB", base := 0x10050A04, n1 := 16, s1 := 0x40, n2 := 4, s2 := 4, rw := 0xFFFFFFFF }
def rMRG_PORTS : RegRow := { name := "ING_MRG_PORTS", base := 0x10050A14, n1 := 16, s1 := 0x40, rw := 0xFFFFFFFF }
/-- ING_MRG_FIRST_A, _FIRST_B, _DUP, _LATE, _MISS_A, _MISS_B, _LOST, _RESYNC (j 0..7). -/
def rMRG_CNT : RegRow := { name := "ING_MRG counters", base := 0x10050A18, n1 := 16, s1 := 0x40, n2 := 8, s2 := 4 }
def rMRG_SKEW : RegRow := { name := "ING_MRG_SKEW", base := 0x10050A38, n1 := 16, s1 := 0x40 }
def rMRG_SKEWMAX : RegRow := { name := "ING_MRG_SKEWMAX", base := 0x10050A3C, n1 := 16, s1 := 0x40, act := 0xFFFFFFFF, hook := .skewMax }

/-- The ring and merge registers of ING. -/
def regsRING : List RegRow :=
  [rRQ_BASE, rRQ_CTRL, rRQ_HEAD, rRQ_TAIL, rRQ_DONE, rRQ_WM, rRQ_NOBUF, rRQ_TRUNC, rTQ_BASE, rTQ_CTRL, rTQ_HEAD, rTQ_TAIL,
   rTQ_DONE, rMRG_CTRL, rMRG_IP, rMRG_PORTS, rMRG_CNT, rMRG_SKEW, rMRG_SKEWMAX]

/-! ## ING canvases, slots, universes (0x1005_0000) and the urgent parsers (0x1002_0C00, 0x1003_0C00): spec/04 -/

def rCANV_CTRL : RegRow := { name := "ING_CANVc_CTRL", base := 0x10050100, n1 := 4, s1 := 0x40, rw := 0x800000E3, hook := .canvCtrl }
def rCANV_SIZE : RegRow := { name := "ING_CANVc_SIZE", base := 0x10050104, n1 := 4, s1 := 0x40, rw := 0x1FFF1FFF }
def rCANV_BASE : RegRow := { name := "ING_CANVc_BASEb", base := 0x10050108, n1 := 4, s1 := 0x40, n2 := 3, s2 := 4, rw := 0xFFFFFFFF }
def rCANV_PDLY : RegRow := { name := "ING_CANVc_PDLY", base := 0x10050114, n1 := 4, s1 := 0x40, rw := 0xFFFFFFFF }
def rCANV_TOUT : RegRow := { name := "ING_CANVc_TOUT", base := 0x10050118, n1 := 4, s1 := 0x40, reset := 0x1F4, rw := 0xFFFF, hook := .canvTout }
def rCANV_STAT : RegRow := { name := "ING_CANVc_STAT", base := 0x1005011C, n1 := 4, s1 := 0x40 }
def rCANV_SIG : RegRow := { name := "ING_CANVc_SIG", base := 0x10050120, n1 := 4, s1 := 0x40 }
/-- ING_CANVc_FRAMES, _INCOMPLETE, _OVERRUN, _LATEPKT, _OUTSIDE (j 0..4). -/
def rCANV_CNT : RegRow := { name := "ING_CANVc counters", base := 0x10050124, n1 := 4, s1 := 0x40, n2 := 5, s2 := 4 }
def rCANV_E131 : RegRow := { name := "ING_CANVc_E131", base := 0x10050138, n1 := 4, s1 := 0x40, reset := 0x07D00000, rw := 0xFFFFFFFF }
def rGRP : RegRow := { name := "ING_GRPi", base := 0x10050E00, n1 := 32, s1 := 4, rw := 0xFFFFFFFF }
def rGRP_DROP : RegRow := { name := "ING_GRP_DROP", base := 0x10050E80 }
def rE131_DROP : RegRow := { name := "ING_E131_DROP", base := 0x10050E84 }
def rSLOT_CTRL : RegRow := { name := "ING_SLOT_CTRL", base := 0x10051000, n1 := 32, s1 := 0x20, rw := 0xFFF0FE00, hook := .slotCtrl }
def rSLOT_DST : RegRow := { name := "ING_SLOT_DST", base := 0x10051004, n1 := 32, s1 := 0x20, rw := 0xFFFFFFFF }
def rSLOT_SRC : RegRow := { name := "ING_SLOT_SRC", base := 0x10051008, n1 := 32, s1 := 0x20, rw := 0xFFFFFFFF }
def rSLOT_ORG : RegRow := { name := "ING_SLOT_ORG", base := 0x1005100C, n1 := 32, s1 := 0x20, rw := 0x1FFF1FFF }
def rSLOT_EXT : RegRow := { name := "ING_SLOT_EXT", base := 0x10051010, n1 := 32, s1 := 0x20, rw := 0x1FFF1FFF }
def rSLOT_PKTS : RegRow := { name := "ING_SLOT_PKTS", base := 0x10051014, n1 := 32, s1 := 0x20 }
def rSLOT_DROP : RegRow := { name := "ING_SLOT_DROP", base := 0x10051018, n1 := 32, s1 := 0x20 }
def rSLOT_UPORT : RegRow := { name := "ING_SLOT_UPORT", base := 0x1005101C, n1 := 32, s1 := 0x20, rw := 0xFFFF }
def rUNI_W0 : RegRow := { name := "ING_UNIu_W0", base := 0x10052000, n1 := 1024, s1 := 0x10, rw := 0x8003FFFF, hook := .uniMap }
def rUNI_W1 : RegRow := { name := "ING_UNIu_W1", base := 0x10052004, n1 := 1024, s1 := 0x10, rw := 0x01FF03FF }
def rUNI_W2 : RegRow := { name := "ING_UNIu_W2", base := 0x10052008, n1 := 1024, s1 := 0x10, rw := 0x03FFFFFF }
def rUNI_W3 : RegRow := { name := "ING_UNIu_W3", base := 0x1005200C, n1 := 1024, s1 := 0x10 }

/-- The stream and canvas registers of ING. -/
def regsING : List RegRow :=
  [rCANV_CTRL, rCANV_SIZE, rCANV_BASE, rCANV_PDLY, rCANV_TOUT, rCANV_STAT, rCANV_SIG, rCANV_CNT, rCANV_E131, rGRP, rGRP_DROP,
   rE131_DROP, rSLOT_CTRL, rSLOT_DST, rSLOT_SRC, rSLOT_ORG, rSLOT_EXT, rSLOT_PKTS, rSLOT_DROP, rSLOT_UPORT, rUNI_W0, rUNI_W1,
   rUNI_W2, rUNI_W3]

def rURG_CTRL : RegRow := { name := "URG_CTRL", base := 0x10020C00, n1 := 2, s1 := 0x10000, rw := 0x80000000 }
def rURG_STATUS : RegRow := { name := "URG_STATUS", base := 0x10020C04, n1 := 2, s1 := 0x10000 }
def rURG_GAP : RegRow := { name := "URG_GAP", base := 0x10020C08, n1 := 2, s1 := 0x10000, reset := 0x7D0, rw := 0xFFFF }
def rURG_LASTSEQ : RegRow := { name := "URG_LASTSEQk", base := 0x10020C0C, n1 := 2, s1 := 0x10000, n2 := 2, s2 := 4 }
/-- URG_RX, _AUTHFAIL, _REPLAY, _BADFMT, _NOCUE, _QFULL, _BURST (j 0..6). -/
def rURG_CNT : RegRow := { name := "URG counters", base := 0x10020C20, n1 := 2, s1 := 0x10000, n2 := 7, s2 := 4 }
def rCUE_MLO : RegRow := { name := "URG_CUEc_MLO", base := 0x10020E00, n1 := 2, s1 := 0x10000, n2 := 32, s2 := 0x10, rw := 0xFFFFFFFF }
def rCUE_MHI : RegRow := { name := "URG_CUEc_MHI", base := 0x10020E04, n1 := 2, s1 := 0x10000, n2 := 32, s2 := 0x10, rw := 0xC000FFFF }
def rCUE_TPL : RegRow := { name := "URG_CUEc_TPL", base := 0x10020E08, n1 := 2, s1 := 0x10000, n2 := 32, s2 := 0x10, rw := 0xFFFFFFFF }

/-- The registers of the urgent parsers. -/
def regsURG : List RegRow :=
  [rURG_CTRL, rURG_STATUS, rURG_GAP, rURG_LASTSEQ, rURG_CNT, rCUE_MLO, rCUE_MHI, rCUE_TPL]

/-! ## CEL (0x1006_0000): spec/05 -/

def rCEL_CTRL : RegRow := { name := "CEL_CTRL", base := 0x10060000, reset := 0x100A, rw := 0xFF0F, hook := .celCtrl }
def rCEL_STATUS : RegRow := { name := "CEL_STATUS", base := 0x10060004, w1c := 0x60 }
def rCEL_SCRUB : RegRow := { name := "CEL_SCRUB", base := 0x10060008, reset := 0x190, rw := 0xFFFFF }
def rCEL_SCRUB_POS : RegRow := { name := "CEL_SCRUB_POS", base := 0x1006000C }
def rCEL_PWR : RegRow := { name := "CEL_PWR", base := 0x10060010, reset := 0x00C84030, rw := 0xFFFFFF30 }
def rCEL_TOL : RegRow := { name := "CEL_TOL", base := 0x10060014 }
def rECC_INFO : RegRow := { name := "CEL_ECC_INFO", base := 0x10060020, w1c := 0x80000000 }
def rECC_ADDR : RegRow := { name := "CEL_ECC_ADDR", base := 0x10060024 }
def rECC_INJ : RegRow := { name := "CEL_ECC_INJ", base := 0x10060028, rw := 0x800000FF, who := .worldS }
/-- CEL_SEC_CNT, _DED_CNT, _POISON_RD, _SCRUB_PASS, _TOL_MISS, _RGN_DENY, _WB_CANCEL (j 0..6). -/
def rCEL_CNT : RegRow := { name := "CEL counters", base := 0x10060030, n1 := 7, s1 := 4 }
def rRGN_WMASK : RegRow := { name := "CEL_RGN_WMASKr", base := 0x10060060, n1 := 9, s1 := 4, reset := 0xFFFF, rw := 0xFFFF, who := .worldS }
/-- CEL_RES_PD, _SR, _SRPHY (j 0..2). -/
def rCEL_RES : RegRow := { name := "CEL_RES", base := 0x10060100, n1 := 3, s1 := 4 }

/-- The registers of CEL. -/
def regsCEL : List RegRow :=
  [rCEL_CTRL, rCEL_STATUS, rCEL_SCRUB, rCEL_SCRUB_POS, rCEL_PWR, rCEL_TOL, rECC_INFO, rECC_ADDR, rECC_INJ, rCEL_CNT,
   rRGN_WMASK, rCEL_RES]

/-! ## ERR (0x1011_0000) and UART (0x1010_0000): spec/18 -/

def rERR_CTRL : RegRow := { name := "ERR_CTRL", base := 0x10110000, reset := 1, rw := 7 }
def rERR_STATUS : RegRow := { name := "ERR_STATUS", base := 0x10110004, w1c := 3 }
def rERR_SEQ : RegRow := { name := "ERR_SEQ", base := 0x10110008 }
def rERR_RDSEQ : RegRow := { name := "ERR_RDSEQ", base := 0x1011000C, rw := 0xFFFFFFFF }
def rERR_COAL : RegRow := { name := "ERR_COAL", base := 0x10110010 }
def rERR_BASE : RegRow := { name := "ERR_BASE", base := 0x10110014, reset := 0x0103F000 }
def rERR_LOST : RegRow := { name := "ERR_LOSTs", base := 0x10110400, n1 := 70, s1 := 4 }
def regsERR : List RegRow := [rERR_CTRL, rERR_STATUS, rERR_SEQ, rERR_RDSEQ, rERR_COAL, rERR_BASE, rERR_LOST]

def rUART_CTRL : RegRow := { name := "UART_CTRL", base := 0x10100000, n1 := 2, s1 := 0x100, reset := 1, rw := 0xF }
def rUART_DIV : RegRow := { name := "UART_DIV", base := 0x10100004, n1 := 2, s1 := 0x100, reset := 0x364, rw := 0xFFFFF }
def rUART_STAT : RegRow := { name := "UART_STAT", base := 0x10100008, n1 := 2, s1 := 0x100, w1c := 7, hook := .uartStat }
def rUART_DATA : RegRow := { name := "UART_DATA", base := 0x1010000C, n1 := 2, s1 := 0x100, act := 0xFF, hook := .uartData }
def regsUART : List RegRow := [rUART_CTRL, rUART_DIV, rUART_STAT, rUART_DATA]

/-! ## VLT (0x100F_0000) and FUSE (0x1012_0000): spec/16 -/

def rVLT_CTRL : RegRow := { name := "VLT_CTRL", base := 0x100F0000, act := 1, hook := .vltCtrl }
def rVLT_STATUS : RegRow := { name := "VLT_STATUS", base := 0x100F0004, w1c := 0xE, hook := .vltStatus }
def rLC_REQ : RegRow := { name := "VLT_LC_REQ", base := 0x100F0008, act := 0xFFFFFFFF, hook := .vltLcReq }
def rVINTAGE : RegRow := { name := "VLT_VINTAGE", base := 0x100F000C, act := 0xFFFFFFFF, hook := .vltVintage }
def rVLT_SEQ : RegRow := { name := "VLT_SEQ_LO/HI", base := 0x100F0010, n1 := 2, s1 := 4 }
/-- VLT_DENY_CNT, _REC_BAD, _STORE_FAIL, _OPS (j 0..3). -/
def rVLT_CNT : RegRow := { name := "VLT counters", base := 0x100F0020, n1 := 4, s1 := 4 }
def rMEAS : RegRow := { name := "VLT_MEASi_j", base := 0x100F0100, n1 := 8, s1 := 0x30, n2 := 12, s2 := 4 }
/-- VLT_SLOTs_ATTR0 of slot `s`: the fixed slots of R482, else 0. -/
def rATTR0 (s : Nat) : RegRow :=
  { name := "VLT_SLOTs_ATTR0", base := 0x100F0400 + 0x10 * s
    reset := match s with
      | 0 => 0x00011E10 | 1 => 0x00078D84 | 2 => 0x00078D84 | 3 => 0x02079D84 | 4 => 0x00010C44 | 5 => 0x00010C44 | _ => 0
    hook := .vltSlot }
/-- VLT_SLOTs_ATTR1 of slot `s`. -/
def rATTR1 (s : Nat) : RegRow :=
  { name := "VLT_SLOTs_ATTR1", base := 0x100F0404 + 0x10 * s
    reset := match s with
      | 0 => 0x10 | 1 => 0x18 | 2 => 0x18 | 3 => 0x10 | 4 => 0x18 | 5 => 0x18 | _ => 0 }
/-- VLT_SLOTs_STAT: LOADED and FIXED are read from the slot. -/
def rSLOT_STAT : RegRow := { name := "VLT_SLOTs_STAT", base := 0x100F0408, n1 := 64, s1 := 0x10, hook := .vltSlot }
def rVLT_CMD : RegRow := { name := "VLT_Ww_CMD", base := 0x100F1000, n1 := 4, s1 := 0x800, act := 0xFFFFFFFF, hook := .vltCmd }
def rVLT_STS : RegRow := { name := "VLT_Ww_STS", base := 0x100F1004, n1 := 4, s1 := 0x800, hook := .vltBuf }
def rVLT_ARG : RegRow := { name := "VLT_Ww_ARG0..5", base := 0x100F1008, n1 := 4, s1 := 0x800, n2 := 6, s2 := 4, rw := 0xFFFFFFFF, hook := .vltBuf }
def rVLT_BUF : RegRow := { name := "VLT_Ww_BUF", base := 0x100F1400, n1 := 4, s1 := 0x800, n2 := 256, s2 := 4, rw := 0xFFFFFFFF, hook := .vltBuf }
def regsVLT : List RegRow :=
  [rVLT_CTRL, rVLT_STATUS, rLC_REQ, rVINTAGE, rVLT_SEQ, rVLT_CNT, rMEAS, rSLOT_STAT, rVLT_CMD, rVLT_STS, rVLT_ARG, rVLT_BUF] ++
  (List.range 64).map rATTR0 ++ (List.range 64).map rATTR1

/-- The FUSE block's registers are views of the fuses; its rows hold no state. -/
def rFUSE : RegRow := { name := "FUSE registers", base := 0x10120000, n1 := 21, s1 := 4, hook := .fuse }
def regsFUSE : List RegRow := [rFUSE]

/-! ## TRL (0x100D_0000): spec/13 -/

def rTRL_CTRL : RegRow := { name := "TRL_CTRL", base := 0x100D0000, reset := 0x00044000, rw := 0x000FF00F, hook := .trlCtrl }
def rTRL_STATUS : RegRow := { name := "TRL_STATUS", base := 0x100D0004, w1c := 0x3E0, hook := .trlStatus }
def rTRL_STKDLY : RegRow := { name := "TRL_STKDLY", base := 0x100D0008, rw := 0xFFF }
def rTRL_PHERR : RegRow := { name := "TRL_PHERR", base := 0x100D000C }
def rTRL_ACKSTAT : RegRow := { name := "TRL_ACKSTAT", base := 0x100D0010 }
def rTRL_FAULTMASK : RegRow := { name := "TRL_FAULTMASK", base := 0x100D0014, rw := 0xFFFE }
/-- TRL_SL_FWD, _SL_LATE, _SL_ABORT, _CRC_ERR, _ACK_MISS, _SYNC_MISS (j 0..5). -/
def rTRL_CNT : RegRow := { name := "TRL counters", base := 0x100D0020, n1 := 6, s1 := 4 }
def rTRL_SL : RegRow := { name := "TRL_SLs_CTRL", base := 0x100D0100, n1 := 16, s1 := 0x20, rw := 0xFF000000, hook := .trlSl }
def rTRL_SL_ORG : RegRow := { name := "TRL_SLs_ORG", base := 0x100D0104, n1 := 16, s1 := 0x20, rw := 0x1FFF1FFF }
def rTRL_SL_EXT : RegRow := { name := "TRL_SLs_EXT", base := 0x100D0108, n1 := 16, s1 := 0x20, rw := 0x1FFF1FFF }
def rTRL_SL_DORG : RegRow := { name := "TRL_SLs_DORG", base := 0x100D010C, n1 := 16, s1 := 0x20, rw := 0x1FFF1FFF }
def rTRL_DCANV : RegRow := { name := "TRL_DCANVc_CTRL", base := 0x100D0400, n1 := 4, s1 := 0x20, rw := 0x80000F03, hook := .trlDcanv }
def rTRL_DSIZE : RegRow := { name := "TRL_DCANVc_SIZE", base := 0x100D0404, n1 := 4, s1 := 0x20, rw := 0x1FFF1FFF }
def rTRL_DBASE : RegRow := { name := "TRL_DCANVc_BASEb", base := 0x100D0408, n1 := 4, s1 := 0x20, n2 := 3, s2 := 4, rw := 0xFFFFFFFF }

/-- The registers of TRL. -/
def regsTRL : List RegRow :=
  [rTRL_CTRL, rTRL_STATUS, rTRL_STKDLY, rTRL_PHERR, rTRL_ACKSTAT, rTRL_FAULTMASK, rTRL_CNT, rTRL_SL, rTRL_SL_ORG, rTRL_SL_EXT,
   rTRL_SL_DORG, rTRL_DCANV, rTRL_DSIZE, rTRL_DBASE]

/-! ## RAS (0x1007_0000): spec/06 -/

def rRAS_CTRL : RegRow := { name := "RAS_CTRL", base := 0x10070000, reset := 0x18, rw := 0x1F, hook := .rasCtrl }
def rRAS_STATUS : RegRow := { name := "RAS_STATUS", base := 0x10070004, w1c := 0x10090 }
def rRAS_GUARD : RegRow := { name := "RAS_GUARD", base := 0x10070008, reset := 0xFA0, rw := 0xFFFF }
def rRAS_COMMIT : RegRow := { name := "RAS_COMMIT", base := 0x10070010, rw := 0x60000000, act := 0x90000000, hook := .rasCommit }
def rRAS_EPOCH : RegRow := { name := "RAS_EPOCH", base := 0x10070014 }
def rRAS_TOL_BW : RegRow := { name := "RAS_TOL_BW", base := 0x10070018, reset := 0x1400, rw := 0xFFFF }
def rRAS_FREEZE : RegRow := { name := "RAS_FREEZE", base := 0x1007001C, reset := 0xC, rw := 0xFF }
def rRAS_FB : RegRow := { name := "RAS_FB", base := 0x10070020, rw := 0xFF }
def rRAS_FB_TOUT : RegRow := { name := "RAS_FBc_TOUT", base := 0x10070024, n1 := 4, s1 := 4, reset := 0x1F4, rw := 0xFFFF }
/-- RAS_LATE_CNT, _HOLD_CNT, _UNDERRUN, _CUT, _CLAIM_FAIL, _PROOF_LATE, _LIMIT_CNT, _MAPERR (i 0..7). -/
def rRAS_CNT : RegRow := { name := "RAS counters", base := 0x10070040, n1 := 8, s1 := 4 }
def rPLOG_BASE : RegRow := { name := "RAS_PLOG_BASE", base := 0x10070060, reset := 0x95000000, rw := 0xFFFFFFC0 }
def rPLOG_SIZE : RegRow := { name := "RAS_PLOG_SIZE", base := 0x10070064, reset := 0x01000000, rw := 0xFFFFFFC0 }
def rPLOG_WR : RegRow := { name := "RAS_PLOG_WR", base := 0x10070068, reset := 0x95000000 }
def rRAS_PRES : RegRow := { name := "RAS_PRESc", base := 0x10070070, n1 := 4, s1 := 4, reset := 0xFFFFFFFF }
/-- RAS_SH_SEL, _BRIGHT, _TW, _LEAD, _MODE, _NUM, _DEN: the shadow (j 0) and the active copy (j 1) of each. -/
def rSH_SEL : RegRow := { name := "RAS_SH_SEL", base := 0x10070100, n2 := 2, s2 := 0x100, rw := 0x7F, hook := .rasShadow }
def rSH_BRIGHT : RegRow := { name := "RAS_SH_BRIGHT", base := 0x10070104, n2 := 2, s2 := 0x100, reset := 0x8000, rw := 0xFFFF, hook := .rasShadow }
def rSH_TW : RegRow := { name := "RAS_SH_TW", base := 0x10070108, n2 := 2, s2 := 0x100, reset := 0x7270E0, rw := 0xFFFFFFFF, hook := .rasShadow }
def rSH_LEAD : RegRow := { name := "RAS_SH_LEAD", base := 0x1007010C, n2 := 2, s2 := 0x100, reset := 0x4E20, rw := 0xFFFFFFFF, hook := .rasShadow }
def rSH_MODE : RegRow := { name := "RAS_SH_MODE", base := 0x10070110, n2 := 2, s2 := 0x100, reset := 0x01000FFF, rw := 0x3F000FFF, hook := .rasShadow }
def rSH_NUM : RegRow := { name := "RAS_SH_NUM", base := 0x10070114, n2 := 2, s2 := 0x100, reset := 1, rw := 0xFFFF, hook := .rasShadow }
def rSH_DEN : RegRow := { name := "RAS_SH_DEN", base := 0x10070118, n2 := 2, s2 := 0x100, reset := 0x78, rw := 0xFFFFFF, hook := .rasShadow }
def rSH_FORCE : RegRow := { name := "RAS_SH_FORCEc", base := 0x10070120, n1 := 4, s1 := 4, n2 := 2, s2 := 0x100, rw := 0xFFFFF001, hook := .rasShadow }
def rRAS_SIG : RegRow := { name := "RAS_SIGp", base := 0x10070400, n1 := 48, s1 := 4 }

/-- The registers of RAS. -/
def regsRAS : List RegRow :=
  [rRAS_CTRL, rRAS_STATUS, rRAS_GUARD, rRAS_COMMIT, rRAS_EPOCH, rRAS_TOL_BW, rRAS_FREEZE, rRAS_FB, rRAS_FB_TOUT, rRAS_CNT, rPLOG_BASE,
   rPLOG_SIZE, rPLOG_WR, rRAS_PRES, rSH_SEL, rSH_BRIGHT, rSH_TW, rSH_LEAD, rSH_MODE, rSH_NUM, rSH_DEN, rSH_FORCE, rRAS_SIG]

/-! ## PIX (0x1008_0000): spec/07 -/

def rPIX_CTRL : RegRow := { name := "PIX_CTRL", base := 0x10080000, reset := 1, rw := 1 }
def rPIX_STATUS : RegRow := { name := "PIX_STATUS", base := 0x10080004, w1c := 0xA }
def rLUT_FILL : RegRow := { name := "PIX_LUT_FILL", base := 0x10080010, rw := 0x77, act := 0x80000000, hook := .lutFill }
def rCVT_CTRL : RegRow := { name := "PIX_CVT_CTRL", base := 0x10080020, rw := 1, act := 0x80000000, hook := .cvtCtrl }
def rCVT_SRC : RegRow := { name := "PIX_CVT_SRC", base := 0x10080024, rw := 0xFFFFFFE0 }
def rCVT_TILE : RegRow := { name := "PIX_CVT_TILE", base := 0x10080028, rw := 0x1FFFF }
def rCVT_IDX : RegRow := { name := "PIX_CVT_IDX", base := 0x1008002C, rw := 0x7FFFFF }
def rCVT_CNT : RegRow := { name := "PIX_CVT_CNT", base := 0x10080030, rw := 0xFFFF }
/-- PIX_CAL_CLAMP, _CVT_CLAMP, _BF_PAD, _DER_RANGE, _TBL_DENY, _ZERO (i 0..5). -/
def rPIX_CNT : RegRow := { name := "PIX counters", base := 0x10080040, n1 := 6, s1 := 4 }
def rTBL_ADDR : RegRow := { name := "PIX_TBL_ADDR", base := 0x10080060, rw := 0x19FFF }
def rTBL_DATA : RegRow := { name := "PIX_TBL_DATA", base := 0x10080064, hook := .pixTbl }
def rDERBASE : RegRow := { name := "PIX_DERBASEp", base := 0x10080100, n1 := 48, s1 := 4, rw := 0x1FFF }
def rPIX_ZONE : RegRow := { name := "PIX_ZONEb_z", base := 0x10081000, n1 := 2, s1 := 0x400, n2 := 256, s2 := 4, reset := 1, rw := 3, hook := .pixZone }
def rPIX_LUT : RegRow := { name := "PIX_LUTt_i", base := 0x10082000, n1 := 8, s1 := 0x1400, n2 := 1025, s2 := 4, rw := 0x1FFFFF, hook := .lutWin }

/-- The registers of PIX. -/
def regsPIX : List RegRow :=
  [rPIX_CTRL, rPIX_STATUS, rLUT_FILL, rCVT_CTRL, rCVT_SRC, rCVT_TILE, rCVT_IDX, rCVT_CNT, rPIX_CNT, rTBL_ADDR, rTBL_DATA, rDERBASE,
   rPIX_ZONE, rPIX_LUT]

/-! ## PORT (0x100A_0000): spec/09 and spec/10 -/

def rPORT_CTRL : RegRow := { name := "PORT_CTRL", base := 0x100A0000, n1 := 48, s1 := 0x400, rw := 0x07FFF007, hook := .portCtrl }
def rPORT_STATUS : RegRow := { name := "PORT_STATUS", base := 0x100A0004, n1 := 48, s1 := 0x400, w1c := 0x20 }
/-- PORT_STAG of port `n`: reset n × 160 ns. -/
def rPORT_STAG (n : Nat) : RegRow := { name := "PORT_STAG", base := 0x100A0008 + 0x400 * n, reset := 160 * n, rw := 0x1FFFF }
def rPORT_TSTART : RegRow := { name := "PORT_TSTART", base := 0x100A000C, n1 := 48, s1 := 0x400, reset := 0x7A120, rw := 0x3FFFFFF }
def rPULSE0 : RegRow := { name := "PORT_PULSE0", base := 0x100A0010, n1 := 48, s1 := 0x400, reset := 0x01F4A028, rw := 0x07FFFFFF, hook := .portPulse }
def rPULSE1 : RegRow := { name := "PORT_PULSE1", base := 0x100A0014, n1 := 48, s1 := 0x400, reset := 0x0A170000, rw := 0x3FFF1FFF, hook := .portPulse }
def rPORT_DMX : RegRow := { name := "PORT_DMX", base := 0x100A0018, n1 := 48, s1 := 0x400, reset := 0x0B003200, rw := 0x3FFFFFFF }
def rDMX_SC : RegRow := { name := "PORT_DMX_SC", base := 0x100A001C, n1 := 48, s1 := 0x400, rw := 0xFF }
def rRDM_CTRL : RegRow := { name := "PORT_RDM_CTRL", base := 0x100A0020, n1 := 48, s1 := 0x400, rw := 0x600000FF, act := 0x80000000, hook := .rdmCtrl }
def rRDM_STS : RegRow := { name := "PORT_RDM_STS", base := 0x100A0024, n1 := 48, s1 := 0x400, w1c := 0x80000000 }
def rRDM_TIME : RegRow := { name := "PORT_RDM_TIME", base := 0x100A0028, n1 := 48, s1 := 0x400, reset := 0x0AF010CC, rw := 0x0FFFFFFF }
def rPIRQ_EN : RegRow := { name := "PORT_IRQ_EN", base := 0x100A002C, n1 := 48, s1 := 0x400, rw := 0x3FF }
def rPIRQ_STAT : RegRow := { name := "PORT_IRQ_STAT", base := 0x100A0030, n1 := 48, s1 := 0x400, w1c := 0x3FF }
/-- TX_CELLS, RX_CELLS, RX_CRC, RX_LOCKLOSS, LOSS_HOLD, REPEAT, REPLACED, SKIP, DMX_LATE, URG_INS, URG_DISC, RDM_TX,
RDM_FAIL, TX_REFRESH (j 0..13). -/
def rPORT_CNT : RegRow := { name := "PORT counters", base := 0x100A0040, n1 := 48, s1 := 0x400, n2 := 14, s2 := 4 }
def rRX256 : RegRow := { name := "PORT_RDM_RX256", base := 0x100A0078, n1 := 48, s1 := 0x400 }
def rTXBUF : RegRow := { name := "PORT_RDM_TXBUF", base := 0x100A0100, n1 := 48, s1 := 0x400, n2 := 64, s2 := 4, rw := 0xFFFFFFFF }
def rRXBUF : RegRow := { name := "PORT_RDM_RXBUF", base := 0x100A0200, n1 := 48, s1 := 0x400, n2 := 64, s2 := 4 }
def rLCTRL : RegRow := { name := "PORT_LCTRL", base := 0x100A0300, n1 := 48, s1 := 0x400, reset := 0x301, rw := 0x0FFF0703 }
def rLDISC : RegRow := { name := "PORT_LDISC", base := 0x100A0304, n1 := 48, s1 := 0x400, rw := 0x7FFFF000, act := 0x80000000, hook := .ldisc }
def rLDSTAT : RegRow := { name := "PORT_LDSTAT", base := 0x100A0308, n1 := 48, s1 := 0x400, w1c := 0xC0000000 }
def rLRTT : RegRow := { name := "PORT_LRTT", base := 0x100A030C, n1 := 48, s1 := 0x400 }
def rLT0A : RegRow := { name := "PORT_LT0A", base := 0x100A0310, n1 := 48, s1 := 0x400, rw := 0xFFFFFFFF }
def rLT0B : RegRow := { name := "PORT_LT0B", base := 0x100A0314, n1 := 48, s1 := 0x400, rw := 0xFFFFFFFF }
def rLRSTAT : RegRow := { name := "PORT_LRSTAT", base := 0x100A0318, n1 := 48, s1 := 0x400 }
def rLV1DROP : RegRow := { name := "PORT_LV1DROP", base := 0x100A031C, n1 := 48, s1 := 0x400 }
def rLTOKEN : RegRow := { name := "PORT_LTOKEN", base := 0x100A0320, n1 := 48, s1 := 0x400 }
def rLDCAP : RegRow := { name := "PORT_LDCAPw", base := 0x100A0324, n1 := 48, s1 := 0x400, n2 := 55, s2 := 4 }
def rBCTRL : RegRow := { name := "PORT_BCTRL", base := 0x100AC000, n1 := 6, s1 := 0x100, rw := 0xF, act := 0x100, who := .hc0S, whoMask := 0x100, hook := .portBctrl }
def rBSTAT : RegRow := { name := "PORT_BSTAT", base := 0x100AC004, n1 := 6, s1 := 0x100 }
def rBTRAIN : RegRow := { name := "PORT_BTRAIN", base := 0x100AC008, n1 := 6, s1 := 0x100, reset := 0x7D0, rw := 0xFFFF }

/-- The registers of the ports and their banks. -/
def regsPORT : List RegRow :=
  [rPORT_CTRL, rPORT_STATUS, rPORT_TSTART, rPULSE0, rPULSE1, rPORT_DMX, rDMX_SC, rRDM_CTRL, rRDM_STS, rRDM_TIME, rPIRQ_EN, rPIRQ_STAT,
   rPORT_CNT, rRX256, rTXBUF, rRXBUF, rLCTRL, rLDISC, rLDSTAT, rLRTT, rLT0A, rLT0B, rLRSTAT, rLV1DROP, rLTOKEN, rLDCAP, rBCTRL, rBSTAT,
   rBTRAIN] ++ (List.range 48).map rPORT_STAG

/-! ## CDR (0x100C_0000): spec/12 -/

def rCDR_CTRL : RegRow := { name := "CDR_CTRL", base := 0x100C0000, reset := 0xE, rw := 0x3F, hook := .cdrCtrl }
def rCDR_STATUS : RegRow := { name := "CDR_STATUS", base := 0x100C0004, w1c := 0x5000 }
def rCDR_EPOCH : RegRow := { name := "CDR_EPOCH", base := 0x100C0008, rw := 0xFFFF, who := .worldS, whoMask := 0xFFFF, hook := .cdrEpoch }
def rCDR_HB : RegRow := { name := "CDR_HB", base := 0x100C000C, reset := 4, rw := 0xF, hook := .cdrHb }
def rCDR_TIMERS : RegRow := { name := "CDR_TIMERS", base := 0x100C0010, reset := 0x000A0258, rw := 0xFFFFFFFF }
def rCDR_PMASK_LO : RegRow := { name := "CDR_PMASK_LO", base := 0x100C0014, reset := 0xFFFFFFFF, rw := 0xFFFFFFFF, hook := .cdrMask }
def rCDR_PMASK_HI : RegRow := { name := "CDR_PMASK_HI", base := 0x100C0018, reset := 0xFFFF, rw := 0xFFFF, hook := .cdrMask }
def rCDR_WMASK_LO : RegRow := { name := "CDR_WMASK_LO", base := 0x100C001C, reset := 0x01000001, rw := 0xFFFFFFFF, hook := .cdrMask }
def rCDR_WMASK_HI : RegRow := { name := "CDR_WMASK_HI", base := 0x100C0020, rw := 0xFFFF, hook := .cdrMask }
/-- CDR_ADOPT_LO, _HI. -/
def rCDR_ADOPT : RegRow := { name := "CDR_ADOPT_LO/HI", base := 0x100C0024, n1 := 2, s1 := 4 }
def rCDR_SWAP : RegRow := { name := "CDR_SWAP", base := 0x100C002C, act := 0xC0000000, hook := .cdrSwap }
def rCDR_RELMASK : RegRow := { name := "CDR_RELMASK_LO/HI", base := 0x100C0030, n1 := 2, s1 := 4, rw := 0xFFFFFFFF }
def rCASK_SEQ : RegRow := { name := "CDR_CASK_SEQ", base := 0x100C0038 }
def rCASK_ACK : RegRow := { name := "CDR_CASK_ACK", base := 0x100C003C }
def rCDR_VER : RegRow := { name := "CDR_VER", base := 0x100C0040, reset := 0x101 }
def rCDR_BULK : RegRow := { name := "CDR_BULK", base := 0x100C0044, reset := 0xC8, rw := 0xFFFF }
def rPOL_BASE : RegRow := { name := "CDR_POL_BASE", base := 0x100C0048, reset := 0x96120000, rw := 0xFFFFFFFF }
def rPOL_LEN : RegRow := { name := "CDR_POL_LEN", base := 0x100C004C, rw := 0x3FFF }
/-- CDR_TAKEOVER_CNT, _DEMOTE_CNT, _ADOPT_CNT, _HB_LOSS_CNT, _CASK_DISCARD, _CASK_OVF, _LOCKSTEP_MISS, _CRC_ERR (i 0..7). -/
def rCDR_CNT : RegRow := { name := "CDR counters", base := 0x100C0060, n1 := 8, s1 := 4 }

/-- The registers of CDR. -/
def regsCDR : List RegRow :=
  [rCDR_CTRL, rCDR_STATUS, rCDR_EPOCH, rCDR_HB, rCDR_TIMERS, rCDR_PMASK_LO, rCDR_PMASK_HI, rCDR_WMASK_LO, rCDR_WMASK_HI, rCDR_ADOPT,
   rCDR_SWAP, rCDR_RELMASK, rCASK_SEQ, rCASK_ACK, rCDR_VER, rCDR_BULK, rPOL_BASE, rPOL_LEN, rCDR_CNT]

/-! ## DRV (0x100B_0000): spec/11 -/


/-- DRV_CTRL: DIAG_CELLS, DARK, DIAG_DARK, DIAG_EN, EN. -/
def rDRV_CTRL : RegRow := { name := "DRV_CTRL", base := 0x100B0000, reset := 0x40, rw := 0xFF, hook := .drvCtrl }
def rDRV_STATUS : RegRow := { name := "DRV_STATUS", base := 0x100B0004, w1c := 0x10 }
def rPAT_RUN : RegRow := { name := "DRV_PAT_RUN", base := 0x100B0008, rw := 1, who := .hc0S, hook := .drvPatRun }
def rDRV_KNEE : RegRow := { name := "DRV_KNEE", base := 0x100B0010, reset := 0x46, rw := 0xFF, hook := .drvPolicy }
def rDRV_SLOPE : RegRow := { name := "DRV_SLOPE", base := 0x100B0014, reset := 0x28F, rw := 0xFFFF }
def rDRV_FLOOR : RegRow := { name := "DRV_FLOOR", base := 0x100B0018, reset := 0x2000, rw := 0xFFFF, hook := .drvPolicy }
def rDRV_TRIP : RegRow := { name := "DRV_TRIP", base := 0x100B001C, reset := 0x6E, rw := 0xFF, hook := .drvPolicy }
def rDRV_RISE : RegRow := { name := "DRV_RISE", base := 0x100B0020, reset := 0x21, rw := 0xFFFF }
def rDRV_TLOSS : RegRow := { name := "DRV_TLOSS", base := 0x100B0024, reset := 0x78, rw := 0xFFFF }
def rDRV_EVAL : RegRow := { name := "DRV_EVAL", base := 0x100B0028, reset := 0x4E20, rw := 0xFFFFF }
def rDIAG_AGE : RegRow := { name := "DRV_DIAG_AGE", base := 0x100B002C, reset := 0x4B0, rw := 0xFFFFFF }
def rDIAG_PULSE : RegRow := { name := "DRV_DIAG_PULSE", base := 0x100B0030, reset := 0x012C0008, rw := 0xFFFF00FF }
def rCOMM_KNEE : RegRow := { name := "DRV_COMM_KNEE_MAX", base := 0x100B0040, reset := 0x69, rw := 0xFF, who := .hc0S, hook := .drvCommReg }
def rCOMM_FLOOR : RegRow := { name := "DRV_COMM_FLOOR_MIN", base := 0x100B0044, rw := 0xFFFF, who := .hc0S, hook := .drvCommReg }
def rCOMM_TRIP : RegRow := { name := "DRV_COMM_TRIP_MAX", base := 0x100B0048, reset := 0x7D, rw := 0xFF, who := .hc0S, hook := .drvCommReg }
/-- DESIGN CHOICE (log entry 219): LOCK acts for HC0 in world S alone, as the registers it locks do. -/
def rCOMM_CTRL : RegRow := { name := "DRV_COMM_CTRL", base := 0x100B004C, act := 1, who := .hc0S, hook := .drvLock }
def rNODE_SEL : RegRow := { name := "DRV_NODE_SEL", base := 0x100B0050, rw := 0x1FFF }
/-- DRV_NODE_W0 and _W1 of the node DRV_NODE_SEL names: views of the node tables. -/
def rNODE_W0 : RegRow := { name := "DRV_NODE_W0", base := 0x100B0054, reset := 0x00FF0000, hook := .drvNode }
def rNODE_W1 : RegRow := { name := "DRV_NODE_W1", base := 0x100B0058, reset := 0x8000, hook := .drvNode }
/-- DRV_LIMIT_CNT, _TRIP_CNT, _TLOSS_CNT, _FAULT_CNT, _DIAG_CNT, _CUT_CNT, _LATEREC (i 0..6). -/
def rDRV_CNT : RegRow := { name := "DRV counters", base := 0x100B0060, n1 := 7, s1 := 4 }
def rPWM_CNT : RegRow := { name := "DRV_PWM_CNT", base := 0x100B0080 }
/-- DRV_LHS_OK, _OPEN, _SHORT, _UNMEAS, _OLDEST (i 0..4). -/
def rLHS : RegRow := { name := "DRV_LHS", base := 0x100B0090, n1 := 5, s1 := 4 }
def rNBASE : RegRow := { name := "DRV_NBASE", base := 0x100B0100, n1 := 48, s1 := 4, rw := 0x1FFF }
/-- DRV_PHASEp, whose reset value is round(16p/3) << 8 (R339). -/
def rPHASE (p : Nat) : RegRow := { name := "DRV_PHASE", base := 0x100B0200 + 4 * p, reset := (32 * p + 3) / 6 * 256, rw := 0xFFFF }
def rPAT_CTRL : RegRow := { name := "DRV_PAT_CTRL", base := 0x100B1000, n1 := 64, s1 := 0x40, rw := 0x8F0FFFFF, hook := .drvChange }
def rPAT_LEVEL : RegRow := { name := "DRV_PAT_LEVEL", base := 0x100B1004, n1 := 64, s1 := 0x40, reset := 0x80000000, rw := 0xFFFFFFFF, hook := .drvChange }
def rPAT_PER : RegRow := { name := "DRV_PAT_PER", base := 0x100B1008, n1 := 64, s1 := 0x40, reset := 0xF4240, rw := 0xFFFFFFFF, hook := .drvChange }
def rPAT_ANS : RegRow := { name := "DRV_PAT_ANCH_NS", base := 0x100B100C, n1 := 64, s1 := 0x40, rw := 0x3FFFFFFF, hook := .drvChange }
def rPAT_ASL : RegRow := { name := "DRV_PAT_ANCH_SLO", base := 0x100B1010, n1 := 64, s1 := 0x40, rw := 0xFFFFFFFF, hook := .drvChange }
def rPAT_ASH : RegRow := { name := "DRV_PAT_ANCH_SHI", base := 0x100B1014, n1 := 64, s1 := 0x40, rw := 0xFFFF, hook := .drvChange }
def rPAT_SHAPE : RegRow := { name := "DRV_PAT_SHAPE", base := 0x100B1018, n1 := 64, s1 := 0x40, reset := 0x8000, rw := 0xFFFFFFFF, hook := .drvChange }
def rPAT_SEED : RegRow := { name := "DRV_PAT_SEED", base := 0x100B101C, n1 := 64, s1 := 0x40, reset := 1, rw := 0xFFFFFFFF, hook := .drvChange }
def rZ_ROUTE : RegRow := { name := "DRV_ZONE_ROUTE", base := 0x100B3000, n1 := 256, s1 := 0x10, rw := 0xBFBF0000, hook := .drvChange }
def rZ_RG : RegRow := { name := "DRV_ZONE_COL_RG", base := 0x100B3004, n1 := 256, s1 := 0x10, rw := 0xFFFFFFFF, hook := .drvChange }
def rZ_B : RegRow := { name := "DRV_ZONE_COL_B", base := 0x100B3008, n1 := 256, s1 := 0x10, rw := 0xFFFF, hook := .drvChange }
def rUCODE : RegRow := { name := "DRV_UCODE", base := 0x100B4000, n1 := 1024, s1 := 4, rw := 0xFFFFFFFF, who := .hc0S, hook := .drvUcode }

/-- The registers of DRV. -/
def regsDRV : List RegRow :=
  [rDRV_CTRL, rDRV_STATUS, rPAT_RUN, rDRV_KNEE, rDRV_SLOPE, rDRV_FLOOR, rDRV_TRIP, rDRV_RISE, rDRV_TLOSS, rDRV_EVAL, rDIAG_AGE, rDIAG_PULSE,
   rCOMM_KNEE, rCOMM_FLOOR, rCOMM_TRIP, rCOMM_CTRL, rNODE_SEL, rNODE_W0, rNODE_W1, rDRV_CNT, rPWM_CNT, rLHS, rNBASE, rPAT_CTRL, rPAT_LEVEL,
   rPAT_PER, rPAT_ANS, rPAT_ASL, rPAT_ASH, rPAT_SHAPE, rPAT_SEED, rZ_ROUTE, rZ_RG, rZ_B, rUCODE] ++ (List.range 48).map rPHASE

/-! ## PRS (0x1009_0000): spec/08 -/

def rPRS_CTRL : RegRow := { name := "PRS_CTRL", base := 0x10090000, rw := 1, act := 2, hook := .prsCtrl }
def rPRS_STATUS : RegRow := { name := "PRS_STATUS", base := 0x10090004, w1c := 3 }
def rPRS_RUN : RegRow := { name := "PRS_RUN", base := 0x10090008, rw := 0xFFFF, who := .hc0S, hook := .prsRun }
def rCORE_EN : RegRow := { name := "PRS_CORE_EN", base := 0x1009000C, reset := 0xFFFF, rw := 0xFFFF }
def rAFF_WAIT : RegRow := { name := "PRS_AFF_WAIT", base := 0x10090010, reset := 0xC8, rw := 0xFFFF }
def rPRS_WDOG : RegRow := { name := "PRS_WDOG", base := 0x10090014, reset := 0xF4240, rw := 0xFFFFFFFF }
def rPRS_RSV : RegRow := { name := "PRS_RSV", base := 0x10090018, reset := 0x40, rw := 0x1FFF }
def rPRS_POOL : RegRow := { name := "PRS_POOL", base := 0x1009001C }
def rCNT_SET : RegRow := { name := "PRS_CNT_SET", base := 0x10090020, act := 0x0FFF3FFF, hook := .prsCnt }
def rCNT_SEL : RegRow := { name := "PRS_CNT_SEL", base := 0x10090024, rw := 0xFFF }
def rCNT_VAL : RegRow := { name := "PRS_CNT_VAL", base := 0x10090028, hook := .prsCnt }
def rKICK_CTRL : RegRow := { name := "PRS_KICK_CTRL", base := 0x10090030, reset := 2, rw := 7, hook := .prsKick }
def rKICK_T : RegRow := { name := "PRS_KICK_T0/T1", base := 0x10090034, n1 := 2, s1 := 4, reset := 0x40000000, rw := 0xFFFFFFE0 }
def rHWSUB : RegRow := { name := "PRS_HWSUB", base := 0x1009003C, rw := 3 }
def rSMP_BUF : RegRow := { name := "PRS_SMP_BUF", base := 0x10090040, n1 := 4, s1 := 4 }
def rPRS_FORCE : RegRow := { name := "PRS_FORCE", base := 0x10090050, n1 := 4, s1 := 4, rw := 0xFFFFF001 }
def rPRS_FB : RegRow := { name := "PRS_FB", base := 0x10090060, rw := 0xFF }
def rLIVE_BASE : RegRow := { name := "PRS_LIVE_BASE", base := 0x10090064, reset := 0x401F8000, rw := 0xFFFFFFF8 }
def rRAS_D : RegRow := { name := "PRS_RAS_D0..7", base := 0x10090080, n1 := 8, s1 := 4, rw := 0xFFFFFFFF }
/-- PRS_GRAPH_DONE, _KICK_OVR, _FAULT_CNT, _UNDERFLOW, _BUSY_CNT, _LATE_SMP, _STG_REJECT, _BADDESC (i 0..7). -/
def rPRS_CNT : RegRow := { name := "PRS counters", base := 0x100900A0, n1 := 8, s1 := 4 }
def rPRS_SUB : RegRow := { name := "PRS_SUB_W0..W7", base := 0x10090100, n1 := 16, s1 := 0x40, n2 := 8, s2 := 4, rw := 0xFFFFFFFF, hook := .prsSub }
def rPRS_SUBSTS : RegRow := { name := "PRS_SUBMIT_STS", base := 0x10090120, n1 := 16, s1 := 0x40 }

/-- The registers of PRS. -/
def regsPRS : List RegRow :=
  [rPRS_CTRL, rPRS_STATUS, rPRS_RUN, rCORE_EN, rAFF_WAIT, rPRS_WDOG, rPRS_RSV, rPRS_POOL, rCNT_SET, rCNT_SEL, rCNT_VAL, rKICK_CTRL, rKICK_T,
   rHWSUB, rSMP_BUF, rPRS_FORCE, rPRS_FB, rLIVE_BASE, rRAS_D, rPRS_CNT, rPRS_SUB, rPRS_SUBSTS]

/-! ## Press core windows (R231): core `i`'s window stands at 2^33 + 0x100 * i, outside the house-core map -/

def rPCW_SUB : RegRow := { name := "PCW_SUB0..7", base := 0x200000040, n1 := 16, s1 := 0x100, n2 := 8, s2 := 4, rw := 0xFFFFFFFF, hook := .pcwSub }
def rPCW_SUBSTS : RegRow := { name := "PCW_SUBSTS", base := 0x200000060, n1 := 16, s1 := 0x100 }
def rSMP_REQ0 : RegRow := { name := "PCW_SMP_REQ0", base := 0x200000080, n1 := 16, s1 := 0x100, rw := 0xFFFC0FFF }
def rSMP_REQ1 : RegRow := { name := "PCW_SMP_REQ1", base := 0x200000084, n1 := 16, s1 := 0x100, rw := 0x1FFFFF }
/-- PCW_NEXT, PCW_DONE, PCW_FAULT, PCW_D0..7, PCW_SMP_REQ2, _RG, _B, PCW_STG_POST, _STS: no storage of their own. -/
def rPCW_NEXT : RegRow := { name := "PCW_NEXT", base := 0x200000000, n1 := 16, s1 := 0x100, hook := .pcwNext }
def rPCW_DONE : RegRow := { name := "PCW_DONE", base := 0x200000004, n1 := 16, s1 := 0x100, act := 0xFFFFFFFF, hook := .pcwDone }
def rPCW_FAULT : RegRow := { name := "PCW_FAULT", base := 0x200000008, n1 := 16, s1 := 0x100, act := 0xFFFFFFFF, hook := .pcwFault }
def rPCW_D : RegRow := { name := "PCW_D0..7", base := 0x200000020, n1 := 16, s1 := 0x100, n2 := 8, s2 := 4, hook := .pcwNext }
def rSMP_REQ2 : RegRow := { name := "PCW_SMP_REQ2", base := 0x200000088, n1 := 16, s1 := 0x100, act := 0x1FFFFF, hook := .pcwSmpReq }
def rSMP_RG : RegRow := { name := "PCW_SMP_RG", base := 0x20000008C, n1 := 16, s1 := 0x100, hook := .pcwSmpB }
def rSMP_B : RegRow := { name := "PCW_SMP_B", base := 0x200000090, n1 := 16, s1 := 0x100, hook := .pcwSmpB }
def rSTG_POST : RegRow := { name := "PCW_STG_POST", base := 0x2000000A0, n1 := 16, s1 := 0x100, act := 0xFFF0003F, hook := .pcwStg }
def rSTG_STS : RegRow := { name := "PCW_STG_STS", base := 0x2000000A4, n1 := 16, s1 := 0x100, hook := .pcwStg }

/-- The registers of the press core windows. -/
def regsPCW : List RegRow :=
  [rPCW_SUB, rPCW_SUBSTS, rSMP_REQ0, rSMP_REQ1, rPCW_NEXT, rPCW_DONE, rPCW_FAULT, rPCW_D, rSMP_REQ2, rSMP_RG, rSMP_B, rSTG_POST, rSTG_STS]


/-! ## DMA (0x100E_0000) and QUE (0x1013_0000): spec/15 -/

def rDMA_CTRL : RegRow := { name := "DMA_CTRL", base := 0x100E0000, rw := 1, hook := .dmaCtrl }
/-- DMA_ACTIVE: which channels are in RUN. -/
def rDMA_ACTIVE : RegRow := { name := "DMA_ACTIVE", base := 0x100E0004, hook := .dmaActive }
def rDMA_POISON : RegRow := { name := "DMA_POISON_CNT", base := 0x100E0008 }
def rDMA_TLOST : RegRow := { name := "DMA_TRIG_LOST", base := 0x100E000C }
def rDMA_CFG : RegRow := { name := "DMA_CHn_CFG", base := 0x100E0100, n1 := 16, s1 := 0x40, reset := 0x003C0000, rw := 0xFFFC3C00, who := .worldS, whoMask := 0x40000000, hook := .dmaCfg }
def rDMA_CMD : RegRow := { name := "DMA_CHn_CMD", base := 0x100E0104, n1 := 16, s1 := 0x40, act := 7, hook := .dmaCmd }
def rDMA_STAT : RegRow := { name := "DMA_CHn_STAT", base := 0x100E0108, n1 := 16, s1 := 0x40, w1c := 0xF }
def rDMA_DESC : RegRow := { name := "DMA_CHn_DESC", base := 0x100E010C, n1 := 16, s1 := 0x40, rw := 0xFFFFFFE0, hook := .dmaDesc }
def rDMA_CUR : RegRow := { name := "DMA_CHn_CUR", base := 0x100E0110, n1 := 16, s1 := 0x40 }
def rDMA_REM : RegRow := { name := "DMA_CHn_REM", base := 0x100E0114, n1 := 16, s1 := 0x40 }
/-- DMA_CHn_SADR, _DADR (j 0, 1). -/
def rDMA_ADR : RegRow := { name := "DMA_CHn_SADR/DADR", base := 0x100E0118, n1 := 16, s1 := 0x40, n2 := 2, s2 := 4 }
def rDMA_DONE : RegRow := { name := "DMA_CHn_DONE", base := 0x100E0120, n1 := 16, s1 := 0x40 }
def rDMA_EADR : RegRow := { name := "DMA_CHn_ERRADDR", base := 0x100E0124, n1 := 16, s1 := 0x40 }
def rDMA_EARLY : RegRow := { name := "DMA_CHn_DBEARLY", base := 0x100E0128, n1 := 16, s1 := 0x40 }

/-- The registers of DMA. -/
def regsDMA : List RegRow :=
  [rDMA_CTRL, rDMA_ACTIVE, rDMA_POISON, rDMA_TLOST, rDMA_CFG, rDMA_CMD, rDMA_STAT, rDMA_DESC, rDMA_CUR, rDMA_REM, rDMA_ADR, rDMA_DONE,
   rDMA_EADR, rDMA_EARLY]

/-- QUE_NE: which mailboxes are not empty. -/
def rQUE_NE : RegRow := { name := "QUE_NE", base := 0x10130000, hook := .queNe }
def rQUE_NE_EN : RegRow := { name := "QUE_NE_EN", base := 0x10130004, rw := 0xFFFFFFFF }
def rQUE_STALE_STAT : RegRow := { name := "QUE_STALE_STAT", base := 0x10130008, w1c := 0xFFFFFFFF }
def rQUE_STALE_EN : RegRow := { name := "QUE_STALE_EN", base := 0x1013000C, rw := 0xFFFFFFFF }
/-- QUE_RES: the reading master's own copy. -/
def rQUE_RES : RegRow := { name := "QUE_RES", base := 0x10130010, hook := .queRes }
def rQUE_XLOST : RegRow := { name := "QUE_XLOST", base := 0x10130020 }
def rQUE_XRESETS : RegRow := { name := "QUE_XRESETS", base := 0x10130024 }
def rQUE_CFG : RegRow := { name := "QUE_CFGq", base := 0x10130100, n1 := 32, s1 := 0x20, reset := 0x40000, rw := 0xC0070000, who := .worldS, hook := .queCfg }
def rQUE_MASK : RegRow := { name := "QUE_MASKq", base := 0x10130104, n1 := 32, s1 := 0x20, reset := 0x00070007, rw := 0xFFFFFFFF, who := .worldS, hook := .queMask }
def rQUE_PUSH : RegRow := { name := "QUE_PUSHq", base := 0x10130108, n1 := 32, s1 := 0x20, act := 0xFFFFFFFF, hook := .quePush }
def rQUE_POP : RegRow := { name := "QUE_POPq", base := 0x1013010C, n1 := 32, s1 := 0x20, hook := .quePop }
def rQUE_STAT : RegRow := { name := "QUE_STATq", base := 0x10130110, n1 := 32, s1 := 0x20, w1c := 0x40000000, hook := .queStat }
def rQUE_STALE : RegRow := { name := "QUE_STALEq", base := 0x10130114, n1 := 32, s1 := 0x20, reset := 0x2710, rw := 0xFFFFFF }
def rQUE_DROP : RegRow := { name := "QUE_DROPq", base := 0x10130118, n1 := 32, s1 := 0x20 }

/-- The registers of QUE. -/
def regsQUE : List RegRow :=
  [rQUE_NE, rQUE_NE_EN, rQUE_STALE_STAT, rQUE_STALE_EN, rQUE_RES, rQUE_XLOST, rQUE_XRESETS, rQUE_CFG, rQUE_MASK, rQUE_PUSH, rQUE_POP,
   rQUE_STAT, rQUE_STALE, rQUE_DROP]

end Sys2Proof.Machine
end

