-- ==== Sys2Proof/Machine/State.lean ====
section
/-! DEFINITION. The state of the module as plain data: every register, queue, buffer, counter, mode and land the
spec names, one structure per block, and the queue of commands that wait. An array of like things (comparators,
ports, nodes, slots) is a sparse map of Machine/Maps.lean: what it does not list is at its reset record. -/

namespace Sys2Proof.Machine

/-- No command of this block ends in a fault: the block has no exception entry, a refused access is a bus error the
module records itself (R23), and every memory byte reads. The one constructor stands so that the type is not empty;
nothing raises it (safe: no command is stopped by it). -/
inductive Fault where
  /-- Raised by no command. -/
  | none
  deriving DecidableEq, Repr

/-- Why a command has no next state. -/
inductive Refusal where
  /-- Raised by an arm of exec that has no meaning yet, naming the row's mnemonic (safe: nothing is concluded). -/
  | notModelled (mnemonic : String)
  deriving DecidableEq, Repr

/-- What the bus answered to the last access: the data of a read (0 after a write or an error) and the error (R23). -/
structure Rsp where
  val : Word := 0
  err : Bool := false
  deriving DecidableEq, Repr

/-! ## SYS: power, reset, interrupts, log (spec/01, 18, 19) -/

/-- Where the module stands between VIN and running (R565, R566, R567). -/
inductive Phase where
  | off        -- VIN absent, or the reset at the end of the power-down sequence
  | vinWait    -- steps 1 and 2 of power-up: the 10 ms count
  | rails      -- steps 3 to 5: rails up, the controller's reset held
  | running    -- the controller's reset released
  | thermal    -- rails removed at 150 °C
  deriving DecidableEq, Repr

/-- Supplies, reset and strap lands. -/
structure PwrSt where
  phase : Phase := .running
  /-- VIN has fallen below 1.0 V (R566 step 6): the output lands are high impedance -/
  vinAbsent : Bool := false
  /-- power-fail warning in force (R562) -/
  pfw : Bool := false
  /-- level of PFW_N: true released -/
  pfwN : Bool := true
  /-- level of RESET_OUT_N (R561) -/
  resetOutN : Bool := false
  /-- RESET_N held low: the release waits (R560) -/
  resetNLow : Bool := false
  /-- VAUX switched on -/
  vaux : Bool := true
  /-- VAUX is off by its limit and retries (R558) -/
  vauxRetry : Bool := false
  /-- SYS_TEMP's alarm may fire (R569) -/
  alarmArmed : Bool := true
  /-- the reset causes of the release to come -/
  cause : BitVec 4 := 1
  deriving DecidableEq, Repr

/-- One report in a source's queue (R535). `cyc` orders reports of one clock reading by acceptance. -/
structure Rep where
  code : Nat
  detail : Word
  t : Nat
  cyc : Nat
  deriving DecidableEq, Repr

/-- The open entry of a source (R537). -/
structure OpenEnt where
  seq : Nat
  code : Nat
  t : Nat
  count : Nat
  deriving DecidableEq, Repr

/-- The error log beside its registers and its ring in SRAM. -/
structure ErrSt where
  queues : List (Nat × List Rep) := []
  opens : List (Nat × Option OpenEnt) := []
  deriving DecidableEq, Repr

/-- One UART (R543, R580). -/
structure Uart where
  rx : List Byte := []
  tx : List Byte := []
  deriving DecidableEq, Repr

/-! ## TIME (spec/02) -/

/-- One time comparator: what ARM latched (R592) and where it stands. Times are ns of the PTP timescale. -/
structure Cmp where
  armed : Bool := false
  /-- 0 one-shot, 1 periodic, 2 gridded -/
  mode : Nat := 0
  div : Nat := 1
  target : Nat := 0
  perNs : Nat := 0
  perRem : Nat := 0
  perDen : Nat := 1
  rem : Nat := 0
  /-- signed offset from the frame start, gridded mode -/
  ofs : Int := 0
  /-- index k * DIV + j of the target, gridded mode -/
  idx : Int := 0
  deriving DecidableEq, Repr

/-- A frame grid in force or waiting: FRAME_NUM, FRAME_DEN (0 already read as 1) and the signed offset (R60). -/
structure Grid where
  num : Nat := 1
  den : Nat := 120
  ofs : Int := 0
  deriving DecidableEq, Repr

/-- A grid that APPLY scheduled: the new grid, its switch frame and the switch tick in ns (R62). -/
structure GridPend where
  grid : Grid
  k : Int
  tick : Int
  deriving DecidableEq, Repr

/-- A requested clock step (R41). -/
structure StepReq where
  rel : Bool
  /-- the written TS80 in ns, or the signed offset -/
  val : Int
  deriving DecidableEq, Repr

/-- One master's snapshot copy (R40). -/
structure Snap where
  t : Nat := 0
  frac : BitVec 32 := 0
  deriving DecidableEq, Repr

/-- One entry of the transmit-timestamp queue (R43). -/
structure TxTs where
  port : Nat
  seq : Nat
  t : Nat
  deriving DecidableEq, Repr

/-- A master the best master clock algorithm knows, from its newest Announce (R35). -/
structure Foreign where
  port : Nat
  clk : BitVec 64
  gm : BitVec 64
  prio1 : Nat
  cls : Nat
  acc : Nat
  var : Nat
  prio2 : Nat
  steps : Nat
  /-- where its Delay_Req goes: the group, or the master's own address when it sends unicast (R33) -/
  reply : BitVec 32 := 0xE0000181
  deriving DecidableEq, Repr

/-- The PTP servo that runs on NC (R44..R47): parent, measurements and the counts its rules name. -/
structure Servo where
  foreigns : List Foreign := []
  parent : Option Foreign := none
  /-- a parent has been selected since start -/
  everParent : Bool := false
  /-- grandmasterIdentity of the last parent (R46) -/
  lastGm : BitVec 64 := 0
  fromFreerun : Bool := true
  offset : Int := 0
  delay : Int := 0
  /-- clock reading from which the age of the holdover counts; a step moves it along (R45) -/
  holdStart : Int := 0
  /-- ns spent in ACQUIRING and LOCKED up to the last change of state, and the clock reading of that change; a step moves
  the reading along (R45) -/
  runAcc : Int := 0
  runMark : Int := 0
  okRun : Nat := 0
  badRun : Nat := 0
  settleOffs : List Int := []
  settleLen : Nat := 0
  heldAddend : Int := 0
  /-- the values TIME_ADDEND had in ACQUIRING or LOCKED, newest first, each with the ns spent in those states when it was
  written -/
  addHist : List (Int × Int) := []
  /-- sequenceId, receive time and correction of a two-step Sync waiting for its Follow_Up -/
  syncWait : Option (Nat × Nat × Int) := none
  /-- origin and receive time of the newest Sync -/
  lastSync : Option (Int × Nat) := none
  reqSeq : Nat := 0
  /-- sequenceId and transmit time of the Delay_Req outstanding -/
  reqWait : Option (Nat × Nat) := none
  /-- a slew in progress is limited to SLEW_MAX about heldAddend (R47) -/
  slewing : Bool := false
  deriving DecidableEq, Repr

/-- The TIME block beside its registers. -/
structure TimeSt where
  /-- the local clock: seconds * 10^9 + ns, below 2^48 * 10^9 (R36) -/
  now : Nat := 0
  frac : BitVec 32 := 0
  stepReq : Option StepReq := none
  snaps : List (Nat × Snap) := []
  txts : List TxTs := []
  cmps : List (Nat × Cmp) := []
  grid : Grid := {}
  gridPend : Option GridPend := none
  /-- the next frame start is the switch frame of a grid just applied (R18, SWITCH) -/
  switchMark : Bool := false
  /-- edges counted by each capture unit since its last record (R56) -/
  capCnt : List (Nat × Nat) := []
  /-- the clock reading at which each capture unit took its last edge, while that tick lasts (R58) -/
  capTick : List (Nat × Option Nat) := []
  /-- XQ_TS_EVT, oldest first: 96-bit records (R59) -/
  evtQ : List (BitVec 96) := []
  /-- records the SYS side has taken from XQ_TS_EVT, newest first -/
  evtOut : List (BitVec 96) := []
  /-- XQ_TS_PIX, oldest first: TS80 in ns, and SWITCH -/
  pixQ : List (Nat × Bool) := []
  /-- the WIDTH of a second's pulse runs; the level of PPS_OUT, which GATE can hold low (R65) -/
  ppsPulse : Bool := false
  ppsOut : Bool := false
  /-- levels of TIME_OUT0..3, and which of them are in a pulse (R66) -/
  outLvl : BitVec 4 := 0
  outPulse : BitVec 4 := 0
  servo : Servo := {}
  deriving DecidableEq, Repr

/-! ## MACs, rings and merge (spec/03) -/

/-- A frame as the MAC passes it on (R79..R84): the bytes from the destination address to the end of the data field
as received, the flags of R79, and what steering and filtering found. -/
structure RxFrame where
  bytes : List Byte
  fcs : Bool := false
  runt : Bool := false
  oversize : Bool := false
  code : Bool := false
  lenerr : Bool := false
  /-- receive timestamp in ns -/
  ts : Nat := 0
  queue : Nat := 0
  cls : Nat := 0
  pcp : Nat := 0
  pm : Option Nat := none
  hidx : Nat := 0
  deriving DecidableEq, Repr

/-- A received PAUSE (`pfc` false: quanta of the port) or PFC frame (eight quanta with enables). -/
structure PauseIn where
  pfc : Bool
  enable : BitVec 8
  quanta : List Nat
  deriving DecidableEq, Repr

/-- One MAC beside its registers. -/
structure Mac where
  /-- receive FIFO and crossing, oldest first -/
  rxq : List RxFrame := []
  /-- DLC frames the urgent parser of the port takes, oldest first -/
  dlcIn : List RxFrame := []
  pauseIn : List PauseIn := []
  rxBytes : Nat := 0
  txBytes : Nat := 0
  /-- the port is held by PAUSE; the PCP values held by PFC, as class t honours them in byte t -/
  pausePort : Bool := false
  pausedPcp : BitVec 32 := 0
  /-- the watchdog broke the hold and received pause is ignored: the port, the classes -/
  ignPort : Bool := false
  ignCls : BitVec 4 := 0
  /-- receive queues asserted (R92) -/
  asrtQ : BitVec 8 := 0
  /-- class assertion state of the last flow-control frame sent -/
  fcSent : BitVec 4 := 0
  /-- the Clause 22 frame in progress on MAC_MDIO is a read (R73) -/
  mdioRead : Bool := false
  deriving DecidableEq, Repr

/-- What one merge slot holds for one key of its window (R101). -/
structure MrgKey where
  a : Bool := false
  b : Bool := false
  /-- first copy: on path A, and its timestamp (kept for keys whose low 8 bits are zero, R104) -/
  firstA : Bool := false
  ts : Nat := 0
  deriving DecidableEq, Repr

/-- One ST 2022-7 merge slot beside its registers. -/
structure Mrg where
  started : Bool := false
  newest : BitVec 32 := 0
  win : Nat := 32768
  /-- how many positions of the window, from the newest down, hold a key -/
  valid : Nat := 0
  keys : List (Nat × MrgKey) := []
  lateRun : Nat := 0
  downA : Nat := 0
  downB : Nat := 0
  upA : Nat := 0
  upB : Nat := 0
  deriving DecidableEq, Repr

/-! ## Canvases, slots, E1.31 and the urgent parsers (spec/04) -/

/-- One canvas beside its registers and its record in the Cellar (R112..R120, R132). -/
structure Canv where
  /-- the current tag (R119) -/
  tag : Option (BitVec 32) := none
  /-- the open canvas frame: the FILLING buffer, its PTS in ns -/
  openBuf : Option Nat := none
  pts : Nat := 0
  /-- slots that closed their frame of the current tag, and whether every one closed complete -/
  closedSlots : BitVec 32 := 0
  allComplete : Bool := true
  /-- local time of the last READY or of the enable (R132) -/
  since : Nat := 0
  /-- E1.31: a packet has been written since the last close -/
  e131Open : Bool := false
  deriving DecidableEq, Repr

/-- One stream slot's open frame (R118, R124). -/
structure SlotSt where
  tag : Option (BitVec 32) := none
  pixels : Nat := 0
  marker : Bool := false
  tiles : Nat := 0
  tilesWant : Nat := 0
  /-- the tag of the frame it closed last (R119, R126) -/
  last : Option (BitVec 32) := none
  deriving DecidableEq, Repr

/-- One E1.31 source of a universe (R128, R129). -/
structure E131Src where
  cid : List Byte
  prio : Nat
  last : BitVec 8
  seen : Nat
  deriving DecidableEq, Repr

/-- One entry of the universe map beside its registers: whether it was received since the last close (R130). -/
structure Uni where
  got : Bool := false
  deriving DecidableEq, Repr

/-- One urgent parser beside its registers (R134..R140). -/
structure Urg where
  /-- the keys the Vault loaded; no master reads them -/
  key0 : Option (List Byte) := none
  key1 : Option (List Byte) := none
  lastAccept : Option Nat := none
  deriving DecidableEq, Repr

/-- One 40-bit entry of XQ_URG, with the ports of its mask that have still to place or discard it (R138). -/
structure UrgEnt where
  mask : BitVec 8
  word : Word
  /-- 1 on the first word of an insert: number of words of it -/
  words : Nat
  ts : Nat
  left : BitVec 8
  deriving DecidableEq, Repr

/-! ## The Cellar controller (spec/05) -/

/-- A queued write-back (R149, R150): the word, and whether it is written back poisoned. -/
structure WriteBack where
  addr : Nat
  data : Word
  poison : Bool
  deriving DecidableEq, Repr

/-- The Cellar controller beside its registers. -/
structure CelSt where
  /-- words whose codeword is not clean: word index to (P, C xor SECDED(data)) as bits 7 and 6..0 (R146, R147) -/
  ecc : List (Nat × BitVec 8) := []
  wb : List WriteBack := []
  /-- accepting client requests: filled after power-on, or out of self-refresh after a warm reset (R159, R160) -/
  serving : Bool := false
  /-- bytes of posted writes held (R169) -/
  posted : Nat := 0
  /-- corrected errors in second `secAt` of local time (R151) -/
  secCount : Nat := 0
  secAt : Nat := 0
  /-- no tolerance message for 2 µs: TOL acts as 0 (R166) -/
  tolStale : Bool := true
  /-- a scrub burst is due and not issued (R148, R168) -/
  scrubDue : Bool := false
  /-- when the power state was entered -/
  since : Nat := 0
  /-- retention registers: the training values are kept, and WARM (R160) -/
  trained : Bool := false
  warm : Bool := false
  deriving DecidableEq, Repr

/-! ## Raster and pixel pipeline (spec/06, 07) -/

/-- Where the pixels of a canvas come from in a frame (R184, R187). -/
inductive View where
  | zero
  /-- read from this Cellar base -/
  | base (a : Nat)
  /-- the fallback colour of each pixel's zone -/
  | pattern
  deriving DecidableEq, Repr

/-- The snapshot of the shadow registers and of RAS_COMMIT.MODE and GRID (R192). -/
structure Snapshot where
  sel : Word
  bright : Word
  tw : Word
  lead : Word
  lmode : Word
  num : Word
  den : Word
  force : List Word
  mode : Bool
  grid : Bool
  deriving DecidableEq, Repr

/-- A hold in force (R195, R200): its Pc, whether the switch frame is awaited, and whether the hold waits for the next
commit point to take a Pc again (R201). -/
structure HoldSt where
  pc : Nat
  grid : Bool
  rearm : Bool := false
  deriving DecidableEq, Repr

/-- What a run entry says (R181): canvas, first pixel, node, whether a node's payload begins, step, length, zone, tile, and
whether a word of it came poisoned. -/
structure Run where
  cv : Nat
  y : Nat
  x : Nat
  node : Nat
  new : Bool
  step : Nat
  len : Nat
  zone : Nat
  tile : Nat
  bad : Bool
  deriving DecidableEq, Repr

/-- The fetch of one port's payload in a frame (R181): the run, the pixel in it, the emission index, the node whose
payload is open, and the bits of that payload not yet in a cell. -/
structure Fetch where
  code : Nat
  run0 : Nat
  nruns : Nat
  cal0 : Nat
  run : Nat := 0
  /-- the entry of that run, once it has been read -/
  entry : Option Run := none
  pos : Nat := 0
  emis : Nat := 0
  /-- pixels passed, sent or skipped: the calibration index past CAL0 -/
  cal : Nat := 0
  /-- this run has been counted in RAS_MAPERR -/
  erred : Bool := false
  node : Option Nat := none
  /-- the next cell is the node's first of the frame (F0) -/
  first : Bool := true
  /-- payload bits waiting for a cell: their value and number -/
  acc : Nat := 0
  nacc : Nat := 0
  /-- components of an unfinished BF43 group, pixel by pixel -/
  grp : List (Nat × Nat × Nat) := []
  /-- a run-map word came poisoned: the rest is zero pixels (R152) -/
  bad : Bool := false
  done : Bool := false
  deriving DecidableEq, Repr

/-- What a port sent in the window of the frame in progress (R202, R204). -/
structure PortSum where
  crc : BitVec 32 := 0xFFFFFFFF
  words : Nat := 0
  cells : Nat := 0
  cut : Bool := false
  underrun : Bool := false
  /-- a cell of the window has left -/
  started : Bool := false
  deriving DecidableEq, Repr

/-- A proof record whose echoes may still come (R205): frame index, first node entry's address, the nodes by port and
address in record order, and floor(F(k+2)). -/
structure ProofRec where
  k : Nat
  ents : Nat
  nodes : List (Nat × Nat)
  /-- the expected signatures of the nodes, in the order of `nodes` (R202) -/
  sigs : List Word
  deadline : Nat
  deriving DecidableEq, Repr

/-- The raster engine beside its registers. -/
structure RasSt where
  /-- what the engine knows of the PRESENTING buffer of a canvas: its number, sequence number and signature (R117, R186) -/
  kept : List (Nat × Option (Nat × Word × Word)) := []
  /-- the canvases the run map of the frame names -/
  named : List Nat := []
  /-- TS80 of the previous frame start, of the frame in progress, and its index -/
  lastStart : Option Nat := none
  start : Nat := 0
  k : Nat := 0
  /-- a frame was presented at the last frame start: its window runs until the commit point -/
  inFrame : Bool := false
  /-- the guard of the frame has closed -/
  guarded : Bool := false
  /-- the window of this frame opens with RESUME -/
  resume : Bool := false
  snap : Option Snapshot := none
  hold : Option HoldSt := none
  /-- the grid switch frame has been seen since the hold began -/
  switched : Bool := false
  views : List (Nat × View) := []
  /-- the highest sequence number seen of a canvas and when it last changed (R187) -/
  seqSeen : List (Nat × (Nat × Nat)) := []
  /-- signatures of the presented canvases of the previous frame, and the freeze counter (R203) -/
  lastSigs : List (Nat × Word) := []
  frz : Nat := 0
  fetch : List (Nat × Fetch) := []
  sums : List (Nat × PortSum) := []
  /-- raw CRC of the payload words addressed to a node since the last PRESENT, by port * 4096 + address -/
  nodeCrc : List (Nat × BitVec 32) := []
  /-- fires of a comparator of destination 2 that have still to reach the engine (R55) -/
  commitDue : Nat := 0
  /-- derate entries out of range in this frame have been logged -/
  derLogged : Bool := false
  proofs : List ProofRec := []
  deriving DecidableEq, Repr

/-- The pixel pipeline beside its registers: the active and shadow copies of the modulation and derate tables and of the
zones' fallback colours (R222, R350), default 1.0 and black. -/
structure PixSt where
  /-- the fill that runs: curve and table (R215); the conversion that runs: source, tile, index, count, bank (R220) -/
  fill : Option (Nat × Nat) := none
  cvt : Option (Nat × Nat × Nat × Nat × Nat) := none
  modA : List (Nat × Nat) := []
  modS : List (Nat × Nat) := []
  derA : List (Nat × Nat) := []
  derS : List (Nat × Nat) := []
  fbA : List (Nat × (Nat × Nat × Nat)) := []
  fbS : List (Nat × (Nat × Nat × Nat)) := []
  deriving DecidableEq, Repr

/-! ## The Press (spec/08) -/

/-- Where a pool slot's item stands (R235); a slot no item of the pool names is FREE. -/
inductive ItemSt where
  | waiting
  | ready
  | running (core : Nat)
  deriving DecidableEq, Repr

/-- A work item in the pool: its slot, its descriptor, its state, and whether it has been READY for AFF_WAIT (R243). -/
structure Item where
  slot : Nat
  desc : List Word
  st : ItemSt
  waited : Bool := false
  deriving DecidableEq, Repr

/-- A sampler request (R250) and its result, once there: three N16 components. -/
structure SmpReq where
  w0 : Word
  u : Nat
  v : Nat
  res : Option (Nat × Nat × Nat) := none
  deriving DecidableEq, Repr

/-- One press core beside its memories and its window's registers. -/
structure PCore where
  /-- stalled in a PCW_NEXT read; what the last PCW_NEXT read returned -/
  stalled : Bool := false
  next : Word := 0
  /-- sampler requests outstanding, oldest first, at most 8, and the ninth that stalls -/
  smp : List SmpReq := []
  ninth : Option SmpReq := none
  /-- stalled in a read of PCW_SMP_RG (false) or PCW_SMP_B (true) until the oldest result is ready (R231) -/
  smpStall : Option Bool := none
  /-- the last post was refused (R258) -/
  refused : Bool := false
  deriving DecidableEq, Repr

/-- The frame-kick expander paused between two descriptors (R238): the next descriptor's address, how many are left, and
the frame index. -/
structure Expand where
  addr : Nat
  left : Nat
  k : Word
  deriving DecidableEq, Repr

/-- An event word of the raster engine (R248). -/
inductive RasEvent where
  | hold
  | resume
  | commit (k : Word)
  deriving DecidableEq, Repr

/-- A staging record posted and not yet moved: its core and its address in press SRAM (R258). -/
structure Posted where
  core : Nat
  addr : Nat
  deriving DecidableEq, Repr

/-- The Press beside its registers. -/
structure PrsSt where
  /-- the pool, oldest submission first -/
  items : List Item := []
  /-- dependence counters: value and FIRED; affinity records by family -/
  cnts : List (Nat × (Nat × Bool)) := []
  aff : List (Nat × Option Nat) := []
  cores : List (Nat × PCore) := []
  exp : Option Expand := none
  /-- event words on the bridge from the raster engine; P(k) events that wait for a credit -/
  rasEv : List RasEvent := []
  evQ : List Word := []
  /-- a raster HOLD is in force, as far as PRS has heard -/
  held : Bool := false
  /-- fires of a comparator of destination 3 that have still to reach PRS (R55) -/
  kickDue : Nat := 0
  /-- the graph-done counter of the graph in progress -/
  done : Option Nat := none
  /-- frame index at the last latch of the canvas buffers -/
  kickK : Option Int := none
  /-- the samplers' cache: lines of 64 bytes by their first address, most recently used first, with poison (R253) -/
  cache : List (Nat × List (Byte × Bool)) := []
  /-- local time of the last interrupt 101 -/
  busyAt : Option Nat := none
  /-- records posted for each port, oldest first -/
  stg : List (Nat × List Posted) := []
  deriving DecidableEq, Repr

/-! ## Ports and lanes (spec/09, 10) -/

/-- A committed cell of a LANE port: its header, from the raster or the Press, and where its payload words stand in
that producer's ring of payload words (R266..R269). -/
structure PCell where
  raster : Bool
  head : Word
  pos : Nat
  len : Nat
  deriving DecidableEq, Repr

/-- A cell the engine sends of its own: PRESENT, HOLD, RESUME, ASSUME, STATUS, drive, DIAG, DISCOVER: its header without
SEQ and its payload. -/
structure OwnCell where
  head : Word
  words : List Word
  deriving DecidableEq, Repr

/-- What a land of a port is used for (R265). -/
inductive LandUse where
  | highZ
  | ignored
  | laneTrue
  | laneComplement
  /-- single-ended output, at this level when nothing is sent -/
  | output (idle : Bool)
  /-- the driver enable of an RS-485 transceiver: high to drive -/
  | driverEnable
  /-- the transceiver's receiver output, ignored while the driver enable is high -/
  | receiver
  deriving DecidableEq, Repr

/-- The lands PnTXP, PnTXN, PnRXP, PnRXN of a port (R265). -/
structure Lands where
  txp : LandUse
  txn : LandUse
  rxp : LandUse
  rxn : LandUse
  deriving DecidableEq, Repr

/-- A whole record of a PULSE or DMX port (R281): the element or slot the body begins at, and the body's length; its
words stand in the bank. -/
structure Record where
  addr : Nat
  len : Nat
  deriving DecidableEq, Repr

/-- A STATUS or DISCOVER_REPLY cell taken by the return path (R310): its header, payload and receive time. -/
structure RetCell where
  port : Nat
  head : Word
  words : List Word
  t : Nat
  deriving DecidableEq, Repr

/-- An RDM transaction (R286): the message and checksum sent, whether it runs. -/
structure Rdm where
  waiting : Bool := false
  running : Bool := false
  /-- a refresh start met the response: the refresh follows it (R287) -/
  delayed : Bool := false
  deriving DecidableEq, Repr

/-- A DISCOVER (R320). -/
structure Disc where
  asked : Bool := false
  /-- launched with this TOKEN at this time, in ns -/
  out : Option (Word × Nat) := none
  deriving DecidableEq, Repr

/-- One port engine beside its registers. -/
structure Port where
  /-- payload words written to and sent from each producer's ring since the last reset of its pool (R267) -/
  rasWr : Nat := 0
  rasRd : Nat := 0
  prsWr : Nat := 0
  prsRd : Nat := 0
  cells : List PCell := []
  /-- cells due at the next cell boundaries, ahead of everything else -/
  urgent : List OwnCell := []
  /-- blanking cells of the frame: STATUS, then drive, then DIAG -/
  blank : List OwnCell := []
  /-- the show instant the blanking cells keep clear of (R317, R337) -/
  blankEnd : Nat := 0
  /-- EN was written 0: witness mode ends at the next window opening (R369) -/
  soloWait : Bool := false
  /-- the heartbeat has stopped: witness mode begins once the HOLD that is due has gone (R366) -/
  holdFirst : Bool := false
  window : Bool := false
  /-- the window of the frame in progress has opened -/
  opened : Bool := false
  presentDue : Bool := false
  /-- HOLD was sent and RESUME has not been since -/
  held : Bool := false
  /-- loss of drive in the frame in progress: its raster cells are discarded as they commit (R271) -/
  loss : Bool := false
  /-- WD_REL was written: RESUME at the next window opening -/
  released : Bool := false
  seq : BitVec 8 := 0
  ftag : BitVec 8 := 0
  /-- cells with a valid CRC at cell spacing in a row, and with a CRC error in a row (R275) -/
  rxGood : Nat := 0
  rxBad : Nat := 0
  disc : Disc := {}
  /-- PSHARE and ring in effect -/
  pshare : Nat := 0
  ringNow : Bool := false
  /-- MODE and PSHARE of a commit point whose change waits for the end of the refresh or transaction that runs (R264) -/
  pendApply : Option (Nat × Nat) := none
  /-- a witness-mode port has returned a cell since it last sent (R362) -/
  returned : Bool := false
  /-- the port has sent a PRESENT: a counting frame of its nodes since the last evaluation (R343), and its frame -/
  present : Option Nat := none
  draining : Option Record := none
  filling : Option Record := none
  drain : Bool := false
  rdm : Rdm := {}
  /-- a credit count has come wrong: nothing more is written to the port until a commit point (R469) -/
  crdBad : Bool := false
  /-- settings refused: the port holds its line low (R283) -/
  refused : Bool := false
  deriving DecidableEq, Repr

/-- One bank of ports beside its registers: its retraining (R276). -/
structure Bank where
  /-- a new lane rate or family has arrived and the retraining has not started -/
  pend : Bool := false
  rate : Nat := 3
  family : Nat := 0
  newRate : Nat := 3
  newFamily : Nat := 0
  /-- steps of R276: 0 none, 1 stopped, 2 training -/
  step : Nat := 0
  wdhold : Bool := false
  /-- local time at which the bank last became ready -/
  readyAt : Nat := 0
  deriving DecidableEq, Repr

/-! ## Drive, patterns and lamp health (spec/11) -/

/-- One node of the drive tables (R336, R344). -/
structure NodeSt where
  codeMax : Nat := 0
  code : Nat := 255
  /-- TEMP of the newest record, °C + 40; none before the first -/
  temp : Option Nat := none
  trip : Bool := false
  tloss : Bool := false
  /-- counting frames without a record -/
  tl : Nat := 0
  dPrev : Nat := 32768
  wait : Nat := 0
  /-- a record of the frame has been taken -/
  got : Bool := false
  /-- the drive word of the frame set last built, and that of the set in use from its frame start on (R335, R339) -/
  word : Word := 0
  wordA : Word := 0
  /-- TRIP as the last drive word sent had it (R338) -/
  sentTrip : Bool := false
  deriving DecidableEq, Repr

/-- One port's blanking: where the drive cells and the DIAG search go on, and the DIAG cells chosen for the frame (node
and mask), in the frame set last built and in the one in use. -/
structure DrvPort where
  cursor : Nat := 0
  diagCur : Nat := 1
  diag : List (Nat × Nat) := []
  diagA : List (Nat × Nat) := []
  deriving DecidableEq, Repr

/-- The DRV block beside its registers. -/
structure DrvSt where
  nodes : List (Nat × NodeSt) := []
  ports : List (Nat × DrvPort) := []
  /-- the frame whose set was built last -/
  evalK : Option Int := none
  /-- DRV_DIAG_PULSE as sampled for the frame set last built, and for the one in use (R335) -/
  pulse : Word := 0
  pulseA : Word := 0
  deriving DecidableEq, Repr

/-! ## The pair (spec/12) -/

/-- What a cask mirrors (R381): a pattern engine, a zone, a node of the drive tables, a Lamp Health Table entry. -/
inductive MirKind where
  | pattern | zone | derate | lht
  deriving DecidableEq, Repr

/-- A value that has changed since the cask last acknowledged (R384): the casks that hold its current value, and how many
casks it has waited for room. -/
structure Change where
  kind : MirKind
  idx : Nat
  casks : List Word := []
  waited : Nat := 0
  deriving DecidableEq, Repr

/-- A planned swap (R389): the frame of its commit point, the incoming unit's epoch, whether this unit comes in, and
whether the peer has accepted. -/
structure SwapSt where
  k : BitVec 32
  epoch : BitVec 16
  incoming : Bool
  agreed : Bool := false
  /-- P(k) has passed: the units change over at the next window opening -/
  due : Bool := false
  deriving DecidableEq, Repr

/-- The cask a standby receives (R382): its SEQ and the words written so far. -/
structure CaskIn where
  seq : Word
  got : List Nat := []
  deriving DecidableEq, Repr

/-- A bulk transfer in progress (R387): the region and the byte offset reached (sender), or what has come (receiver). -/
structure BulkSt where
  region : Nat
  off : Nat
  deriving DecidableEq, Repr

/-- The pair logic beside its registers. -/
structure CdrSt where
  /-- all four lanes hold block lock; HELLO received -/
  lock : Bool := false
  hello : Bool := false
  mseq : BitVec 16 := 0
  /-- ports on which a cell other than a keepalive was heard within 2 cell times (R370) -/
  heard : BitVec 48 := 0
  /-- HC0's watchdog has expired: a cause of R366 -/
  wdExpired : Bool := false
  /-- the cask version range and the device number of the peer -/
  peerVer : Option (Nat × Nat) := none
  peerDev : Nat := 0
  peerAdopt : BitVec 48 := 0
  peerAcked : Word := 0
  /-- the revert request of R390 in the STATE messages -/
  askRevert : Bool := false
  /-- frames in lockstep one after another, and the last of them (R388) -/
  lockRun : Nat := 0
  lockAt : BitVec 32 := 0
  swap : Option SwapSt := none
  /-- ports that have still to change over in a swap under way, and whether this unit goes out -/
  swapLeft : BitVec 48 := 0
  swapOut : Bool := false
  /-- releases of adopted ports, each due at a frame, oldest first (R377) -/
  releases : List (BitVec 48 × BitVec 32) := []
  changes : List Change := []
  caskIn : Option CaskIn := none
  /-- a cask sealed and acknowledged, not yet applied -/
  sealed_ : Option Word := none
  applied : Word := 0
  /-- this unit has become ACTIVE since its last evaluation: one last cask may be applied (R383) -/
  fresh : Bool := false
  /-- POLICY records queued for firmware, oldest first -/
  policy : List (List Word) := []
  /-- regions received whole (bit r for region r) -/
  regions : BitVec 5 := 0
  /-- the region being sent, and those to be sent after it (bit r for region r) -/
  bulkOut : Option BulkSt := none
  bulkTodo : BitVec 5 := 0
  /-- the peer, in SYNCING, has been sent regions, or is being sent them; the policy image has been sent to it -/
  bulkSent : Bool := false
  imageSent : Bool := false
  /-- the region being received, and those of which something was lost (R365) -/
  bulkIn : Option BulkSt := none
  bulkLost : BitVec 5 := 0
  /-- bodies of FWMSG messages, oldest first -/
  fwmsg : List (List Word) := []
  /-- own port signatures of the latest frames: frame index, RAS_SIG0..47, ports that transmitted (R388) -/
  sigs : List (BitVec 32 × List Word × BitVec 48) := []
  deriving DecidableEq, Repr

/-! ## The Trellis (spec/13) -/

/-- A canvas frame the master forwards: its buffer, and what its descriptor held when the read began (R407). -/
structure SlJob where
  buf : Nat
  seq : Word
  ts : List Word
  incomplete : Bool
  /-- the slices being forwarded -/
  slices : List Nat
  deriving DecidableEq, Repr

/-- Forwarding of one source canvas: the frame being forwarded, the newest frame that waits (its buffer). -/
structure SlFwd where
  cur : Option SlJob := none
  waiting : Option Nat := none
  deriving DecidableEq, Repr

/-- A destination canvas's open frame in a follower (R408). -/
structure DCanv where
  openBuf : Option Nat := none
  seq : Option Word := none
  ends : Nat := 0
  incomplete : Bool := false
  ts : Nat := 0
  deriving DecidableEq, Repr

/-- One side of the Trellis: block lock held, a HELLO received that is in order. -/
structure TrlSide where
  lock : Bool := false
  hello : Bool := false
  deriving DecidableEq, Repr

/-- The Trellis beside its registers. -/
structure TrlSt where
  up : TrlSide := {}
  down : TrlSide := {}
  /-- the bodies of the HELLOs that came from downstream, one of each position -/
  hellos : List (List Word) := []
  mseq : BitVec 12 := 0
  /-- followers lost after having been present; consecutive own slots without and with a low, by position -/
  lost : BitVec 8 := 0
  missRun : List (Nat × Nat) := []
  lowRun : List (Nat × Nat) := []
  /-- the TIME message whose edge has not come: time in ns, fraction -/
  timeMsg : Option (Nat × Word) := none
  /-- the phase errors of the average in progress, their count, and the PLL's output phase in steps of 0.125 ns -/
  phSum : Int := 0
  phN : Nat := 0
  phase : Int := 0
  /-- STK_SYNC edges arrive -/
  edges : Bool := false
  fwd : List (Nat × SlFwd) := []
  dst : List (Nat × DCanv) := []
  /-- bodies of STACK messages taken, oldest first -/
  stackIn : List (List Word) := []
  deriving DecidableEq, Repr

/-! ## The object protocol and the persistent store (spec/14) -/

/-- What a receiver keeps against replays (R421): the highest SEQ accepted, and the accepted ones among the 1,024 from
it down. -/
structure Replay where
  top : Nat := 0
  seen : List Nat := []
  deriving DecidableEq, Repr

/-- A reply kept for a repeated request (R426). -/
structure KeptReply where
  req : Nat
  type : Nat
  body : List Byte
  deriving DecidableEq, Repr

/-- A unicast session (R417..R422). -/
structure DopSess where
  sid : BitVec 32
  /-- the controller, as SRC of its messages -/
  src : Nat
  level : Nat
  ver : Nat
  maxBody : Nat
  /-- its entry of the Vault's session table; none at level none -/
  entry : Option Nat
  /-- OPEN, not HALF -/
  opened : Bool := false
  /-- when its last accepted message came -/
  at_ : Nat
  rx : Replay := {}
  tx : Nat := 0
  cache : List KeptReply := []
  /-- the 126 bytes of object 0x9020 sub 2 (R490) -/
  att : List Byte := []
  /-- where the latest accepted message came from -/
  ip : BitVec 32 := 0
  deriving DecidableEq, Repr

/-- One entry of the group replay table (R424), with the member's own SEQ counter (R425). -/
structure DopGrp where
  dst : Nat
  src : Nat
  ke : Nat
  rx : Replay := {}
  at_ : Nat := 0
  deriving DecidableEq, Repr

/-- The group keys that a Vault session entry holds: DST, KE and level. -/
structure GrpKey where
  entry : Nat
  dst : Nat
  ke : Nat
  level : Nat
  deriving DecidableEq, Repr

/-- One item of a request (R426); `status` once it is decided. -/
structure DopItem where
  idx : Nat
  sub : Nat
  ty : Nat
  flags : Nat
  vlen : Nat
  off : Nat := 0
  total : Nat := 0
  /-- AT, ns -/
  at_ : Nat := 0
  val : List Byte := []
  status : Option Nat := none
  deriving DecidableEq, Repr

/-- A SET that waits for its control tick or has items that do (R436). -/
structure DopReq where
  /-- receive timestamp, SRC, DST as received -/
  ts : Nat
  src : Nat
  dst : Nat
  ver : Nat
  level : Nat
  /-- the session, or the group message's KE and whether it asked for a reply -/
  sid : BitVec 32
  group : Bool := false
  ack : Bool := false
  req : Nat
  items : List DopItem
  ip : BitVec 32
  udp : BitVec 16
  port : Nat := 0
  relayed : Bool := false
  deriving DecidableEq, Repr

/-- An assembly of a segmented BLOB (R429): the object and session, TOTAL, the segments as (offset, bytes) newest first,
and when the last came. -/
structure DopAsm where
  sid : BitVec 32
  idx : Nat
  sub : Nat
  total : Nat
  /-- offset and length of the segments staged in region 8 of the Cellar -/
  parts : List (Nat × Nat) := []
  at_ : Nat := 0
  deriving DecidableEq, Repr

/-- A mirrored write that waits for its commit point (R386): k′, the object, the value. -/
structure Mirror where
  k : BitVec 32
  idx : Nat
  sub : Nat
  val : List Byte
  deriving DecidableEq, Repr

/-- A discovery that firmware carries out (R334): the direction, what the last DISCOVER was (0 ASSIGN, 1 QUERY, 2
CONFIRM), the nodes counted, the first address of the page, the version and the records so far. -/
structure DiscRun where
  dir : Nat
  op : Nat
  count : Nat := 0
  first : Nat := 1
  ver : Nat := 1
  recs : List Word := []
  deriving DecidableEq, Repr

/-- The protocol and the store, as firmware holds them. -/
structure DopSt where
  /-- the sessions, oldest first -/
  sess : List DopSess := []
  grps : List DopGrp := []
  keys : List GrpKey := []
  /-- the highest KE of a group entry evicted; none yet (R424) -/
  keFloor : Option Nat := none
  /-- the SEQ of the last reply sent for a DST and KE (R425) -/
  replies : List ((Nat × Nat) × Nat) := []
  reqs : List DopReq := []
  asms : List (Nat × Option DopAsm) := []
  /-- the counters of object 0x1102 in its order -/
  counts : List (Nat × Nat) := []
  /-- the last control tick applied (R436) -/
  tick : Option Nat := none
  /-- values to be stored (R434), oldest first -/
  dirty : List (Nat × List Byte) := []
  /-- the half in use, its generation, where the next record goes, the next record's number (R435) -/
  half : Nat := 0
  gen : Nat := 0
  off : Nat := 0
  rseq : Nat := 0
  /-- RWC values without a hardware shadow, and RAS_EPOCH when they were put there -/
  rwc : List (Nat × List Byte) := []
  rwcEpoch : Word := 0
  mirror : List Mirror := []
  /-- a grid change for which APPLY is still to be written (R197) -/
  gridApply : Bool := false
  /-- the stored domain feature level, and a change waiting for its TIME (R444) -/
  dfl : Nat := 1
  dflNext : Option (Nat × Nat) := none
  /-- discoveries under way, by port; the node records found, by port -/
  disc : List (Nat × Option DiscRun) := []
  recs : List (Nat × List Word) := []
  deriving DecidableEq, Repr

/-! ## DMA and mailboxes (spec/15) -/

/-- Where a channel in RUN or STOPPING stands in its descriptor (R458, R462). -/
inductive DmaPhase where
  /-- beats are left, and a burst may be chosen -/
  | beats
  /-- the last destination beat is written; the read-back is out -/
  | readBack
  /-- the descriptor has completed with LAST = 1; the tail re-check is out -/
  | recheck
  deriving DecidableEq, Repr

/-- One DMA channel beside its registers. -/
structure DmaCh where
  /-- the descriptor in progress, words 0..7 -/
  desc : List Word := []
  phase : DmaPhase := .beats
  /-- the 16-byte holding register: bytes read and not yet written, each with whether its word was poisoned -/
  hold : List (Byte × Bool) := []
  src : Nat := 0
  dst : Nat := 0
  /-- bytes of the descriptor still to read and to write -/
  toRead : Nat := 0
  toWrite : Nat := 0
  /-- the descriptor's trigger has been taken (PACE 0) -/
  begun : Bool := false
  /-- destination beats that a burst cut into by a higher priority has still to issue (R457) -/
  left : Nat := 0
  /-- a poisoned word was written as 0 outside the Cellar, at this address (R460) -/
  poison : Option Nat := none
  deriving DecidableEq, Repr

/-- The DMA engine beside its registers. -/
structure DmaSt where
  chs : List (Nat × DmaCh) := []
  /-- the round-robin pointer of each priority (R457) -/
  rr : List (Nat × Nat) := []
  /-- PRS credits claimed by a PACK and not yet used (R452) -/
  claimed : Nat := 0
  /-- the channels that fires of comparators with DEST 6 have still to reach, in order (R55) -/
  cmpReq : List Nat := []
  deriving DecidableEq, Repr

/-- The mailboxes beside their registers: messages, oldest first, and each master's copy of QUE_RES, press core `k` at
16 + k (R471). -/
structure QueSt where
  qs : List (Nat × List Word) := []
  res : List (Nat × Word) := []
  /-- the dual-clock queues whose last reset lost entries in flight: the next use of each is what the reset caught (R468; log
  entry 211) -/
  cut : List Nat := []
  deriving DecidableEq, Repr

/-! ## Fuses and the Vault (spec/16) -/

/-- The fuses (R480); groups as blown bits. The contents are the part's: State.reset takes a blank part (log entry). -/
structure Fuses where
  /-- DUS, VKH, SERIAL and MACBASE as bytes in their stored order -/
  dus : List Byte := List.replicate 32 0
  vkh : List Byte := List.replicate 48 0
  serial : BitVec 64 := 0
  mac : BitVec 48 := 0
  crc : Word := 0xCDD3E9D0
  p : BitVec 3 := 0
  d : BitVec 3 := 0
  r : BitVec 3 := 0
  s : BitVec 3 := 0
  deriving DecidableEq, Repr

/-- One key slot: the key no master can read, and the SEQ of its record. -/
structure KeySlot where
  key : Option (List Byte) := none
  seq : Nat := 0
  deriving DecidableEq, Repr

/-- One entry of the session table (R484): the pseudorandom key, the keys derived from it, whether it is a group's,
and when it was last used. -/
structure SessEnt where
  used : Bool := false
  group : Bool := false
  sid : List Byte := []
  prk : List Byte := []
  keyIn : List Byte := []
  keyOut : List Byte := []
  /-- the confirmation key of a session (R418) -/
  keyCf : List Byte := []
  at_ : Nat := 0
  deriving DecidableEq, Repr

/-- An operation queued: the access that wrote CMD, its window, and what it wrote (R483). -/
structure VltWait where
  from_ : Access
  win : Nat
  cmd : Word
  deriving DecidableEq, Repr

/-- The Vault beside its registers. -/
structure VltSt where
  slots : List (Nat × KeySlot) := []
  sess : List (Nat × SessEnt) := []
  /-- the unlock nonce kept for each window (R491) -/
  nonces : List (Nat × Option (List Byte)) := []
  fails : Nat := 0
  /-- the target of a life-cycle change that runs (R493) -/
  lcTarget : Option Nat := none
  /-- the slots whose keys that change destroys (R492) -/
  lcSlots : List Nat := []
  /-- the active record area, its first free unit, and whether a broken unit ended its scan (R495) -/
  area : Nat := 0
  unit : Nat := 0
  broken : Bool := false
  /-- VLT_VINTAGE has been written since reset (R488) -/
  vintageWritten : Bool := false
  /-- operations queued, in the order of their CMD writes (R483) -/
  queue : List VltWait := []
  /-- the slot from which each urgent parser key was loaded (R492) -/
  urgFrom : List (Nat × Nat) := []
  deriving DecidableEq, Repr

/-! ## Start-up, flash and update (spec/17), the Porch (spec/18) -/

/-- What HC0 runs. -/
inductive Hc0Mode where
  /-- reset released, the boot ROM not yet begun -/
  | reset
  /-- the boot ROM, in the 100 ms break watch -/
  | rom
  /-- the Porch -/
  | porch
  /-- the secure monitor and policy firmware -/
  | monitor
  deriving DecidableEq, Repr

/-- The flash controller's operation that runs (R502). -/
inductive FlashOp where
  | program (off : Nat) (bytes : List Byte)
  | erase (off : Nat)
  deriving DecidableEq, Repr

/-- A LOAD in progress (R547): where it stores (`none`: staging), bytes asked for and taken, the last block number. -/
structure PorchLoad where
  addr : Option Nat
  want : Nat
  got : Nat := 0
  block : Byte := 0
  deriving DecidableEq, Repr

/-- Start-up beside its registers. -/
structure BootSt where
  hc0 : Hc0Mode := .reset
  /-- HC1 and NC have been released (R10, R511) -/
  hc1Run : Bool := false
  ncRun : Bool := false
  /-- vintage and length of the image that runs; 0 before one has started -/
  vint : Nat := 0
  len : Nat := 0
  /-- highest domain feature level of the image that runs (R443) -/
  dfl : Nat := 1
  /-- the flash operation that runs; an erase abandoned under the warning and not yet logged (R503) -/
  flashOp : Option FlashOp := none
  abandoned : Bool := false
  /-- offsets of the flash sectors whose erase was abandoned and that have not been erased since (R503) -/
  badSectors : List Nat := []
  /-- firmware waits to enable the raster engine (R511) -/
  rasWait : Bool := false
  /-- SYS_FLASH_RUNSLOT has been written since reset -/
  runslotWritten : Bool := false
  /-- HC0's, HC1's and NC's watchdogs have expired without a kick since (R531) -/
  wdogOnce : BitVec 3 := 0
  /-- a LOAD in progress -/
  load : Option PorchLoad := none
  /-- UART0's rate in baud as the Porch has set it (R543) -/
  baud : Nat := 115200
  deriving DecidableEq, Repr

/-- An arm value (R522): 28 bytes of object 0xA013. -/
structure Arm where
  mode : Nat
  trials : Nat
  from_ : Nat
  until_ : Nat
  /-- the 28 bytes as written -/
  bytes : List Byte
  deriving DecidableEq, Repr

/-- The update state machine of firmware (R514..R526). -/
structure UpdSt where
  /-- state code of R518 -/
  state : Nat := 0
  err : Nat := 0
  cid : List Byte := []
  clen : Nat := 0
  fromV : Nat := 0
  toV : Nat := 0
  built : Nat := 0
  /-- the arm in force or pending (R522, R523) -/
  arm : Option Arm := none
  /-- CID prefix and index of the last piece stored -/
  last : List Byte := []
  /-- staging is being erased; the announces that wait for it -/
  erasing : Bool := false
  waiting : List (List Byte) := []
  /-- bits counted against the rate cap in second `rateAt` of local time (R517) -/
  rateBits : Nat := 0
  rateAt : Nat := 0
  /-- the journal half in force, the number of records in it, and the last SEQ written (R520) -/
  half : Nat := 0
  recs : Nat := 0
  seq : Nat := 0
  /-- the last command written to 0xA014 -/
  cmd : Nat := 0
  /-- DRV_CTRL.DARK has risen in the window of the arm in force (R522); the passed UNTIL of that arm has been logged -/
  rose : Bool := false
  expired : Bool := false
  /-- pieces over the rate cap (R517) -/
  capped : Nat := 0
  deriving DecidableEq, Repr

/-! ## The whole module -/

/-- Everything the module sends on a land, in the order sent. -/
inductive Emit where
  /-- a frame on an Ethernet port, from the destination address to the FCS -/
  | eth (port : Nat) (bytes : List Byte)
  /-- a Clause 22 frame (R73) -/
  | mdio (word : Word)
  /-- a comparator's fire on its XS_TCMP crossing: comparator and destination (R55) -/
  | tcmp (n dest : Nat)
  /-- the four lands of a port put to the use of its mode (R265) -/
  | lands (port : Nat) (use : Lands)
  /-- a cell on a lane, its 64 words: header, 62 payload slots, CRC (R296); an insert, its header and argument -/
  | cell (port : Nat) (words : List Word)
  | insert (port : Nat) (words : List Word)
  /-- a PULSE or DMX refresh: element words or slot bytes, and the levels of PnTXP and PnTXN in turn, each with its time in
  ns (R282, R285) -/
  | refresh (port : Nat) (words : List Word) (txp txn : List (Bool × Nat))
  /-- an RDM message with its checksum, and the levels of PnTXP and PnTXN (R286) -/
  | rdm (port : Nat) (bytes : List Byte) (txp txn : List (Bool × Nat))
  /-- STK_SYNC driven high for 20 ns (R403) -/
  | stkSync
  /-- STK_ACK pulled low in the own slot (R404) -/
  | stkAck
  /-- a message on the Trellis: downstream or upstream, header, body and CRC (R398) -/
  | trl (down : Bool) (words : List Word)
  /-- a message on the Corridor: header, body and CRC (R365) -/
  | cdr (words : List Word)
  /-- a PTP message NC sends over UDP and IPv4 from an Ethernet port: destination address, source and destination port,
  payload (R33) -/
  | ptp (port : Nat) (ip : BitVec 32) (udp : Nat) (bytes : List Byte)
  /-- PEER_ALIVE_OUT high for 100 ns (R366) -/
  | heartbeat
  /-- bytes on UART n's TXD -/
  | uart (n : Nat) (bytes : List Byte)
  /-- a UDP payload from port 30480 to an address and port (R413) -/
  | dop (ip : BitVec 32) (udp : BitVec 16) (bytes : List Byte)
  deriving DecidableEq, Repr

/-- The on-die memories' 39-bit codewords (R1, R13): the words whose codeword is not that of their data, with the bits that
differ, by the address of the word; and the single errors corrected. -/
structure SramSt where
  errs : List (Nat × BitVec 39) := []
  fixed : Nat := 0
  deriving DecidableEq, Repr

/-- The interrupt controller beside the pending bits (R24): the priority of each source, what each target enables and its
threshold (targets 0 HC0-M, 1 HC0-S, 2 HC1-M, 3 HC1-S, 4 NC), and the sources claimed and not yet completed. -/
structure Plic where
  prio : List (Nat × Nat) := []
  enable : List (Nat × BitVec 224) := []
  threshold : List (Nat × Nat) := []
  claimed : BitVec 224 := 0
  deriving DecidableEq, Repr

/-- The module: every piece of state the spec names but the queue of commands. -/
structure Chip where
  /-- the registers, by house-core address; an unlisted register is at its row's reset value -/
  regs : List (Nat × Word) := []
  /-- every memory of R13, by house-core byte address; core-local memories of the Press stand from 2^32 on -/
  mem : List Host.Cell := []
  sram : SramSt := {}
  /-- interrupt sources pending at the controller (R24); bit 0 is never set -/
  irqs : BitVec 224 := 0
  plic : Plic := {}
  rsp : Rsp := {}
  /-- the model's own count of commands carried out: orders reports of one clock reading and draws free values -/
  cyc : Nat := 0
  /-- domains held in reset by a loss of lock, by their bit of SYS_CLKSTAT (R30) -/
  held : BitVec 18 := 0
  /-- everything sent, newest first -/
  wire : List Emit := []
  pwr : PwrSt := {}
  /-- object values firmware holds, by index * 256 + sub; unlisted objects are at their defaults (spec/14) -/
  objs : List (Nat × Option (List Byte)) := []
  err : ErrSt := {}
  uarts : List (Nat × Uart) := []
  time : TimeSt := {}
  macs : List (Nat × Mac) := []
  mrgs : List (Nat × Mrg) := []
  canvs : List (Nat × Canv) := []
  slots : List (Nat × SlotSt) := []
  unis : List (Nat × Uni) := []
  /-- the sources of each universe, by its number (R128) -/
  uniSrcs : List (Nat × List E131Src) := []
  urgs : List (Nat × Urg) := []
  /-- XQ_URG queues: A0..A5 at 0..5, B0..B5 at 6..11 -/
  urgQ : List (Nat × List UrgEnt) := []
  cel : CelSt := {}
  fuses : Fuses := {}
  vlt : VltSt := {}
  ras : RasSt := {}
  pix : PixSt := {}
  ports : List (Nat × Port) := []
  banks : List (Nat × Bank) := []
  /-- XQ_RET: STATUS cells on their way to the return path, oldest first -/
  retQ : List RetCell := []
  trl : TrlSt := {}
  prs : PrsSt := {}
  drv : DrvSt := {}
  cdr : CdrSt := {}
  dma : DmaSt := {}
  boot : BootSt := {}
  upd : UpdSt := {}
  que : QueSt := {}
  dop : DopSt := {}
  deriving DecidableEq, Repr

/-- The state of the block: the commands that wait, first in first out, and the module. -/
structure State where
  pending : List Instr := []
  chip : Chip := {}
  deriving DecidableEq, Repr

/-- The registers whose value at the release of a power-on reset is not their row's: SYS_RSTCAUSE with POR, the
straps at their default levels, VAUX on (R559, R565). -/
def resetRegs : List (Nat × Word) :=
  [(0x10000010, 0x00000001), (0x10000018, 0x00000020), (0x1000001C, 0x40000000)]

/-- The module right after the release of a power-on reset: nothing waits. -/
def State.reset : State := { pending := [], chip := { regs := resetRegs } }

end Sys2Proof.Machine
end

