-- ==== Sys2Proof/Machine/Ops.lean ====
section
/-! DEFINITION. The named operations over registers, memory, interrupts, the error log and the bus response, and the
two ways a command takes effect: `run` and the guards of reset, loss of lock and power-fail. -/

namespace Sys2Proof.Machine

/-! ## Fields of a word -/

/-- Bits [hi:lo] of a word, as a number. -/
def fld (w : Word) (hi lo : Nat) : Nat := w.toNat / 2 ^ lo % 2 ^ (hi + 1 - lo)

/-- Bit `i` of a word. -/
def bit (w : Word) (i : Nat) : Bool := w.toNat / 2 ^ i % 2 == 1

/-- The word with ones at bits [hi:lo]. -/
def mask (hi lo : Nat) : Word := BitVec.ofNat 32 (2 ^ (hi + 1 - lo) - 1) <<< lo

/-- `w` with bits [hi:lo] replaced by the low bits of `v`. -/
def setFld (w : Word) (hi lo v : Nat) : Word := (w &&& ~~~mask hi lo) ||| (BitVec.ofNat 32 v <<< lo &&& mask hi lo)

/-- `w` with bit `i` set to `v`. -/
def setBit (w : Word) (i : Nat) (v : Bool) : Word := setFld w i i (if v then 1 else 0)

/-- A word read as a signed number. -/
def sgn (w : Word) : Int := w.toInt

/-- The word of a number, signed or not. -/
def wordOf (i : Int) : Word := BitVec.ofInt 32 i

/-- 1 for true. -/
def b2n (b : Bool) : Nat := if b then 1 else 0

/-! ## Registers -/

/-- What register (i, j) of row `r` holds. -/
def Chip.rd (c : Chip) (r : RegRow) (i : Nat := 0) (j : Nat := 0) : Word :=
  mget (BitVec.ofNat 32 r.reset) c.regs (r.addr i j)

/-- Register (i, j) of row `r` set to `v`, whatever its access codes: what the hardware itself does. -/
def Chip.wr (c : Chip) (r : RegRow) (i j : Nat) (v : Word) : Chip :=
  { c with regs := mset (BitVec.ofNat 32 r.reset) c.regs (r.addr i j) v }

/-- Field [hi:lo] of register (i, j). -/
def Chip.rf (c : Chip) (r : RegRow) (i j hi lo : Nat) : Nat := fld (c.rd r i j) hi lo

/-- Bit `k` of register (i, j). -/
def Chip.rb (c : Chip) (r : RegRow) (i j k : Nat) : Bool := bit (c.rd r i j) k

/-- Field [hi:lo] of register (i, j) set to `v`. -/
def Chip.wf (c : Chip) (r : RegRow) (i j hi lo v : Nat) : Chip := c.wr r i j (setFld (c.rd r i j) hi lo v)

/-- Bit `k` of register (i, j) set to `v`. -/
def Chip.wb (c : Chip) (r : RegRow) (i j k : Nat) (v : Bool) : Chip := c.wr r i j (setBit (c.rd r i j) k v)

/-- A reset of one of the dual-clock queues `ids` caught what passes through it next (R468). -/
def Chip.cutOff (c : Chip) (ids : List Nat) : Bool := c.que.cut.any ids.contains

/-- What those resets caught has been lost. -/
def Chip.cutDone (c : Chip) (ids : List Nat) : Chip := { c with que := { c.que with cut := c.que.cut.filter fun i => !ids.contains i } }

/-- A 32-bit wrapping counter advanced by `n` (R533). -/
def Chip.inc (c : Chip) (r : RegRow) (i j : Nat) (n : Nat := 1) : Chip :=
  c.wr r i j (c.rd r i j + BitVec.ofNat 32 n)

/-- A counter of the kind that stops at all ones. -/
def Chip.incSat (c : Chip) (r : RegRow) (i j : Nat) (n : Nat := 1) : Chip :=
  c.wr r i j (BitVec.ofNat 32 (min 0xFFFFFFFF ((c.rd r i j).toNat + n)))

/-! ## Interrupts, local time, the error log -/

/-- Interrupt source `n` raised. -/
def Chip.irq (c : Chip) (n : Nat) : Chip :=
  { c with irqs := c.irqs ||| (1#224 <<< n) }

/-- 10^9. -/
def nsPerSec : Nat := 1000000000

/-- The local clock wraps at 2^48 seconds (R36, R41). -/
def clockMod : Nat := 2 ^ 48 * nsPerSec

/-- Word 0, 1 or 2 of a TS80 given in ns (R39). -/
def tsWord (t : Nat) : Nat → Word
  | 0 => BitVec.ofNat 32 (t % nsPerSec)
  | 1 => BitVec.ofNat 32 (t / nsPerSec % 2 ^ 32)
  | _ => BitVec.ofNat 32 (t / nsPerSec / 2 ^ 32 % 2 ^ 16)

/-- The TS80 of three words (R39), in ns. -/
def tsOf (w0 w1 w2 : Word) : Nat := (fld w2 15 0 * 2 ^ 32 + w1.toNat) * nsPerSec + fld w0 29 0

/-- The packed 80-bit TS80 (R39). -/
def tsPack (t : Nat) : BitVec 80 := BitVec.ofNat 80 (t / nsPerSec * 2 ^ 32 + t % nsPerSec)

/-- The local clock, in ns. -/
def Chip.now (c : Chip) : Nat := c.time.now

/-- Source ids of the error log (R535): the sources 0x00..0x45 have queues. -/
def errSources : Nat := 0x46

/-- A report of `code` with `detail` reaches the queue of source `src` and is stamped, or is dropped and counted when
the queue holds 4, or is dropped uncounted while ERR_CTRL.EN = 0 (R535). Where the spec states no DETAIL for a code, the
report carries a free value. -/
def Chip.log (c : Chip) (src code : Nat) (detail : Word := Config.freeWord c.cyc code) : Chip :=
  if !c.rb rERR_CTRL 0 0 0 || src ≥ errSources then c else
  let q := mget [] c.err.queues src
  if q.length ≥ 4 then
    let c := (c.inc rERR_LOST src 0).wb rERR_STATUS 0 0 1 true
    if c.rb rERR_CTRL 0 0 2 then c.irq 209 else c
  else
    let q' := q ++ [{ code := code, detail := detail, t := c.now, cyc := c.cyc }]
    { c with err := { c.err with queues := mset [] c.err.queues src q' } }

/-- The DETAIL of QUEUE_PTR_MISMATCH: the queue ID above the entries lost. DESIGN CHOICE (log entry 210): R467 gives the contents
and no places. -/
def lostDetail (id n : Nat) : Word := BitVec.ofNat 32 (id * 2 ^ 24 + min n 0xFFFFFF)

/-! ## Memory -/

/-- What a byte of memory that nothing has written reads as: erased flash in the flash window, 0 elsewhere. -/
def memDefault (a : Nat) : Byte := if 0x20000000 ≤ a && a < 0x24000000 then 0xFF else 0

/-- The canonical form of the memory. -/
def Memory.wf (m : List Host.Cell) : Bool := mwf memDefault m

/-- The byte at `a`, as decoded. -/
def Chip.byte (c : Chip) (a : Nat) : Byte := mget (memDefault a) c.mem a

/-- The byte at `a` set to `v`. -/
def Chip.setByte (c : Chip) (a : Nat) (v : Byte) : Chip := { c with mem := mset (memDefault a) c.mem a v }

/-- The bytes from `a` on. -/
def Chip.bytes (c : Chip) (a : Nat) : Nat → List Byte
  | 0 => []
  | n + 1 => c.byte a :: c.bytes (a + 1) n

/-- How many bits of the codeword of the on-die word at `a` are wrong (R1, R13). -/
def Chip.upsets (c : Chip) (a : Nat) : Nat :=
  let e := mget 0#39 c.sram.errs (a / 4 * 4)
  ((List.range 39).filter fun i => e.getLsbD i).length

/-- The word at `a` of an on-die memory read: a single error is corrected, scrubbed and counted; whether more is wrong (R1). -/
def Chip.sramRead (c : Chip) (a : Nat) : Chip × Bool :=
  match c.upsets a with
  | 0 => (c, false)
  | 1 => ({ c with sram := { errs := mset 0#39 c.sram.errs (a / 4 * 4) 0, fixed := c.sram.fixed + 1 } }, false)
  | _ => (c, true)

/-- Bytes [a, a + n) of an on-die memory stored: their words get clean codewords. -/
def Chip.sramStore (c : Chip) (a n : Nat) : Chip :=
  { c with sram := { c.sram with errs := c.sram.errs.filter fun e => e.1 + 4 ≤ a || a + n ≤ e.1 } }

/-- The bytes `l` stored from `a` on. -/
def Chip.setBytes (c : Chip) (a : Nat) : List Byte → Chip
  | [] => c
  | v :: t => (c.setByte a v).setBytes (a + 1) t

/-- `n` bytes from `a` on cleared: in a memory that reads as 0 where nothing is listed. -/
def Chip.clearBytes (c : Chip) (a n : Nat) : Chip :=
  { c with mem := c.mem.filter fun x => x.1 < a || a + n ≤ x.1 }.sramStore a n

/-- A word of four bytes, the lowest address first (R5). -/
def wordOfBytes (b0 b1 b2 b3 : Byte) : Word := b3 ++ b2 ++ b1 ++ b0

/-- Byte `k` of a word, 0 the least significant. -/
def byteOf (w : Word) (k : Nat) : Byte := w.extractLsb' (8 * k) 8

/-- The four bytes of a word, least significant first. -/
def wordBytes (w : Word) : List Byte := [byteOf w 0, byteOf w 1, byteOf w 2, byteOf w 3]

/-- The four bytes of a word, most significant first. -/
def wordBytesBE (w : Word) : List Byte := [byteOf w 3, byteOf w 2, byteOf w 1, byteOf w 0]

/-- The little-endian word at `a`. -/
def Chip.word (c : Chip) (a : Nat) : Word := wordOfBytes (c.byte a) (c.byte (a + 1)) (c.byte (a + 2)) (c.byte (a + 3))

/-- The little-endian word at `a` set to `w`. -/
def Chip.setWord (c : Chip) (a : Nat) (w : Word) : Chip := c.setBytes a (wordBytes w)

/-- Words stored from `a` on. -/
def Chip.setWords (c : Chip) (a : Nat) : List Word → Chip
  | [] => c
  | w :: t => (c.setWord a w).setWords (a + 4) t

/-- The number spelt by bytes, most significant first. -/
def beNat (l : List Byte) : Nat := l.foldl (fun n b => n * 256 + b.toNat) 0

/-- The number spelt by bytes, least significant first. -/
def leNat (l : List Byte) : Nat := l.foldr (fun b n => n * 256 + b.toNat) 0

/-- `n` bytes of a number, most significant first. -/
def natBE (n v : Nat) : List Byte := (List.range n).map fun k => BitVec.ofNat 8 (v / 256 ^ (n - 1 - k))

/-- `n` bytes of a number, least significant first. -/
def natLE (n v : Nat) : List Byte := (List.range n).map fun k => BitVec.ofNat 8 (v / 256 ^ k)

/-- Bytes [lo, lo + n) of a list. -/
def slice (l : List Byte) (lo n : Nat) : List Byte := (l.drop lo).take n

/-- The list's word at byte offset `o`, little-endian, short lists read as 0. -/
def leWordAt (l : List Byte) (o : Nat) : Word := BitVec.ofNat 32 (leNat (slice l o 4))

/-- The value written to an object that firmware holds; none where nothing was written. -/
def Chip.heldAt (c : Chip) (idx sub : Nat) : Option (List Byte) := mget none c.objs (idx * 256 + sub)

/-- What an object holds as an unsigned little-endian number, its default where nothing was written. -/
def Chip.objNat (c : Chip) (idx sub dflt : Nat) : Nat :=
  match c.heldAt idx sub with
  | none => dflt
  | some l => leNat l

/-! ## Bus masters, worlds and bus errors (R11, R21..R23, R31) -/

/-- The master ID of R21. -/
def masterId : Master → Nat
  | .hc0 => 0 | .hc1 => 1 | .nc => 2 | .press => 3 | .dma => 4
  | .ingress => 5 | .raster => 6 | .corridor => 7 | .trellis => 8 | .porch => 9

/-- A processor of the SYS domain: the house cores, NC and the press cores (R9, R17). -/
def sysProc : Master → Bool
  | .hc0 | .hc1 | .nc | .press => true
  | _ => false

/-- A fuse group counts as blown when at least two of its bits are. -/
def groupBlown (g : BitVec 3) : Bool :=
  b2n (g.getLsbD 0) + b2n (g.getLsbD 1) + b2n (g.getLsbD 2) ≥ 2

/-- Bits `m` of the group of life-cycle state `t` blown; a blown bit stays (R477, R493). -/
def Fuses.blow (f : Fuses) (t : Nat) (m : BitVec 3) : Fuses :=
  match t with
  | 1 => { f with p := f.p ||| m }
  | 2 => { f with d := f.d ||| m }
  | 3 => { f with r := f.r ||| m }
  | 4 => { f with s := f.s ||| m }
  | _ => f

/-- The life-cycle state code decided from the fuses (R477): 0 BLANK .. 4 SCRAP. -/
def lcOf (f : Fuses) : Nat :=
  if groupBlown f.s then 4 else if groupBlown f.r then 3 else if groupBlown f.d then 2 else if groupBlown f.p then 1 else 0

/-- The current life-cycle state. -/
def Chip.lc (c : Chip) : Nat := lcOf c.fuses

/-- Whether what makes access `a` executes: HC1, NC and each press core only from its release on (R10); in SCRAP the JTAG
path reaches no bus, and only the Porch's own commands use master 9 (R549). -/
def Chip.runs (c : Chip) (a : Access) : Bool :=
  match a.master with
  | .hc1 => c.boot.hc1Run
  | .nc => c.boot.ncRun
  | .press => c.rb rPRS_RUN 0 0 a.core
  | .porch => a.rom || c.lc ≠ 4
  | _ => true


/-- The bus's answer recorded. -/
def Chip.answer (c : Chip) (v : Word) : Chip := { c with rsp := { val := v, err := false } }

/-- An access completes as a bus error (R23): the answer is 0 and an error, SYS_BUSERR_INFO and SYS_BUSERR_ADDR
record it unless one is recorded, in which case OVERRUN is set (R31); it is logged under source 0x00 with the code of
its CAUSE (R590) and interrupt 1 is raised. -/
def Chip.busErr (c : Chip) (m : Master) (secure write : Bool) (addr : Word) (cause : Nat) : Chip :=
  let c := { c with rsp := { val := 0, err := true } }
  let c :=
    if c.rb rBUSERR_INFO 0 0 31 then c.wb rBUSERR_INFO 0 0 30 true
    else (c.wr rBUSERR_INFO 0 0 (BitVec.ofNat 32
        (2 ^ 31 + b2n (c.rb rBUSERR_INFO 0 0 30) * 2 ^ 30 + masterId m * 2 ^ 20 + b2n secure * 2 ^ 19
          + b2n write * 2 ^ 18 + cause % 4 * 2 ^ 16))).wr rBUSERR_ADDR 0 0 addr
  (c.log 0x00 (cause % 4 + 1) addr).irq 1

/-! ## Domains, reset and the power-fail warning -/

/-- What a command's effect needs running: a clock domain of R17, or a block that the power-fail warning stops. -/
inductive Dom where
  | sys | neta | netb | svc | ts | cel | pix | bank (k : Nat) | cdr | trl | slow | prs | drv
  deriving DecidableEq, Repr

/-- The bit of SYS_CLKSTAT whose fall holds the domain in reset (R30). -/
def Dom.lockBit : Dom → Nat
  | .sys | .prs | .drv => 1
  | .neta => 3 | .netb => 4 | .svc => 5 | .ts => 6 | .cel => 7 | .pix => 8
  | .bank k => 9 + k
  | .cdr => 15 | .trl => 16 | .slow => 17

/-- Whether the power-fail warning stops the domain's work (R563). -/
def Dom.stopsAtPfw : Dom → Bool
  | .pix | .bank _ | .cdr | .trl | .prs | .drv => true
  | _ => false

/-- Held in reset by a loss of lock: its own bit, or for the SYS blocks the fabric clock's or the reference's. -/
def Chip.domHeld (c : Chip) (d : Dom) : Bool :=
  c.held.getLsbD d.lockBit || c.held.getLsbD 0 || (d.lockBit == 1 && c.held.getLsbD 2)

/-- The controller's reset is released and the domain is not held in reset. -/
def Chip.alive (c : Chip) (d : Dom) : Bool := c.pwr.phase == .running && !c.domHeld d

/-- Access `a` can be made: the reset is released, so is its master, and the fabric that carries it, in SYS, is not held in
reset (R17, R30). -/
def Chip.mayAccess (c : Chip) (a : Access) : Bool := c.alive .sys && c.runs a

/-- The domain is alive and not stopped by the power-fail warning. -/
def Chip.up (c : Chip) (d : Dom) : Bool := c.alive d && !(c.pwr.pfw && d.stopsAtPfw)

/-- The MAC domains. -/
def macDom (p : Nat) : Dom := if p = 0 then .neta else if p = 1 then .netb else .svc

/-- The transmitter of NA or NB has stopped under the power-fail warning; the service MAC's goes on (R563). -/
def Chip.txStop (c : Chip) (p : Nat) : Bool := c.pwr.pfw && p < 2

/-- `f` applied where `ok` holds, nothing otherwise. -/
def Chip.when (c : Chip) (ok : Bool) (f : Chip → Chip) : Chip := if ok then f c else c

/-- `f` folded over a list. -/
def Chip.each {α : Type} (c : Chip) (l : List α) (f : Chip → α → Chip) : Chip := l.foldl f c

/-- Something sent on a land. -/
def Chip.emit (c : Chip) (e : Emit) : Chip := { c with wire := e :: c.wire }

end Sys2Proof.Machine
end

