-- ==== Sys2Proof/Machine/Operands.lean ====
section
/-! DEFINITION. How an access's operands are read: the life-cycle state and its gates, the world an access carries,
where an address falls in the house-core map, and the fields of the frames the module takes. -/

namespace Sys2Proof.Machine

/-! ## Life-cycle state and gates (R477, R478) -/

/-- VLT_STATUS.UNLK: 0 none, 1 installer, 2 vendor (R491). -/
def Chip.unlk (c : Chip) : Nat := c.rf rVLT_STATUS 0 0 7 6

/-- Whether master 9 is in world S (R478). -/
def Chip.gateOpen (c : Chip) : Bool :=
  match c.lc with
  | 0 => true
  | 1 => c.unlk ≥ 1
  | 2 | 3 => c.unlk = 2
  | _ => false

/-- The world an access carries (R21): what a house core or a DMA channel asks for, what the gate gives master 9,
and N for every other master. DESIGN CHOICE (log entry 178): the world of a house core (R11) is an operand. -/
def Chip.worldS (c : Chip) (a : Access) : Bool :=
  match a.master with
  | .hc0 | .hc1 | .dma => a.secure
  | .porch => c.gateOpen
  | _ => false

/-- Whether an access satisfies a write restriction (R591). -/
def Chip.allowed (c : Chip) (a : Access) : Who → Bool
  | .any => true
  | .ncOrS => a.master == .nc || c.worldS a
  | .worldS => c.worldS a
  | .hc0S => a.master == .hc0 && c.worldS a
  | .none => false

/-! ## The address map (R13, R16, R20) -/

/-- What stands at an address for a master. -/
inductive Area where
  | rom | sram | flash | press | portBuf | cellar | regs | local_ | unmapped
  deriving DecidableEq, Repr

/-- The area of a house-core address (R13, R8). -/
def areaOf (a : Nat) : Area :=
  if a < 0x10000 then .rom
  else if 0x01000000 ≤ a && a < 0x01100000 then .sram
  else if 0x10000000 ≤ a && a < 0x10140000 then .regs
  else if 0x20000000 ≤ a && a < 0x24000000 then .flash
  else if 0x40000000 ≤ a && a < 0x40200000 then .press
  else if 0x50000000 ≤ a && a < 0x50180000 then .portBuf
  else if 0x80000000 ≤ a && a < 0xA0000000 then .cellar
  else .unmapped

/-- The area of an address as a master sees it: a press core has its own local memories, no boot ROM, house SRAM,
VLT or FUSE (R16). -/
def areaFor (m : Master) (a : Nat) : Area :=
  if m == .press then
    if a < 0x8000 || (0x10000 ≤ a && a < 0x18000) then .local_
    else if a < 0x10000000 then .unmapped
    else if a / 0x10000 = 0x100F || a / 0x10000 = 0x1012 then .unmapped
    else areaOf a
  else areaOf a

/-- The memory key of a press core's local byte: outside the 32-bit house view. -/
def localKey (core : Fin 16) (a : Nat) : Nat := 2 ^ 32 + core.val * 0x20000 + a

/-- The targets that accept only world S (R22). -/
def worldSOnly (a : Nat) : Bool :=
  a < 0x10000 || (0x01000000 ≤ a && a < 0x01040000) || a / 0x10000 = 0x100F || a / 0x10000 = 0x1012
    || (0x10000100 ≤ a && a < 0x10000200) || (0x23040000 ≤ a && a < 0x23080000)

/-- The clock domain of a register block's registers (R8). -/
def regDom (a : Nat) : Dom :=
  match a / 0x10000 with
  | 0x1001 => .ts
  | 0x1002 => .neta
  | 0x1003 => .netb
  | 0x1004 => .svc
  | 0x1006 => .cel
  | 0x1007 | 0x1008 => .pix
  | 0x100A => if a % 0x10000 < 0xC000 then .bank (a % 0x10000 / 0x400 / 8) else .bank (min 5 ((a % 0x10000 - 0xC000) / 0x100))
  | 0x100C => .cdr
  | 0x100D => .trl
  | 0x1010 => .slow
  | _ => .sys

/-! ## Fields of Ethernet, IPv4 and UDP frames -/

/-- What a frame's headers say, as the MAC and ING read them (R75..R83, R109, R110). -/
structure Hdr where
  da : List Byte := []
  tagged : Bool := false
  tpid88a8 : Bool := false
  pcpTag : Nat := 0
  vid : Nat := 0
  etype : Nat := 0
  ipv4 : Bool := false
  dscp : Nat := 0
  src : BitVec 32 := 0
  dst : BitVec 32 := 0
  udp : Bool := false
  sport : Nat := 0
  dport : Nat := 0
  payload : List Byte := []
  deriving DecidableEq, Repr

/-- The headers of a frame from its destination address on; an 802.1Q tag is read when present. -/
def parseHdr (b : List Byte) : Hdr :=
  let t := beNat (slice b 12 2)
  let tagged := t = 0x8100
  let o := if tagged then 18 else 14
  let et := if tagged then beNat (slice b 16 2) else t
  let tci := if tagged then beNat (slice b 14 2) else 0
  let ip := b.drop o
  let v4 := et = 0x0800 && ip.length ≥ 20 && (ip.getD 0 0).toNat / 16 = 4
  let ihl := (ip.getD 0 0).toNat % 16 * 4
  let tot := beNat (slice ip 2 2)
  let l4 := (ip.take tot).drop ihl
  let frag := beNat (slice ip 6 2) % 0x4000
  let udp := v4 && (ip.getD 9 0).toNat = 17 && frag = 0 && l4.length ≥ 8
  { da := b.take 6
    tagged := tagged
    tpid88a8 := t = 0x88A8
    pcpTag := tci / 0x2000
    vid := tci % 0x1000
    etype := et
    ipv4 := v4
    dscp := if v4 then (ip.getD 1 0).toNat / 4 else 0
    src := if v4 then BitVec.ofNat 32 (beNat (slice ip 12 4)) else 0
    dst := if v4 then BitVec.ofNat 32 (beNat (slice ip 16 4)) else 0
    udp := udp
    sport := if udp then beNat (slice l4 0 2) else 0
    dport := if udp then beNat (slice l4 2 2) else 0
    payload := if udp then (l4.take (beNat (slice l4 4 2))).drop 8 else [] }

end Sys2Proof.Machine
end

