-- ==== Sys2Proof/Machine/Flags.lean ====
section
/-! DEFINITION. The interrupts that follow the state by level, computed afresh after every command (spec/09 R291; spec/15
R473, R474), and `run`, by which every command takes effect. -/

namespace Sys2Proof.Machine

/-- QUE_NE: bit q tells that mailbox q holds a message (R473). -/
def Chip.queNe (c : Chip) : Word :=
  BitVec.ofNat 32 ((List.range 32).foldl (fun n q => n + if mget [] c.que.qs q = ([] : List Word) then 0 else 2 ^ q) 0)

/-- The sources driven by level: the two of the mailboxes, the DMA channels, the ports. -/
def levelSources : List Nat := [8, 9] ++ (List.range 16).map (64 + ·) ++ (List.range 48).map (112 + ·)

/-- The level at source `n`: QUE_NE AND QUE_NE_EN, QUE_STALE_STAT AND QUE_STALE_EN (R473), the causes of a DMA channel AND
their enables (R474), PORT_IRQ_STAT AND PORT_IRQ_EN (R291). -/
def Chip.level (c : Chip) (n : Nat) : Bool :=
  if n = 8 then (c.queNe &&& c.rd rQUE_NE_EN) ≠ 0
  else if n = 9 then (c.rd rQUE_STALE_STAT &&& c.rd rQUE_STALE_EN) ≠ 0
  else if n < 112 then
    let i := n - 64
    (c.rb rDMA_STAT i 0 3 && c.rb rDMA_CFG i 0 10) || (c.rb rDMA_STAT i 0 2 && c.rb rDMA_CFG i 0 11)
      || (c.rb rDMA_STAT i 0 1 && c.rb rDMA_CFG i 0 12) || (c.rb rDMA_STAT i 0 0 && c.rb rDMA_CFG i 0 13)
  else (c.rd rPIRQ_STAT (n - 112) &&& c.rd rPIRQ_EN (n - 112)) ≠ 0

/-- Bit `n` of the pending sources set to `l`. -/
def irqBit (w : BitVec 224) (n : Nat) (l : Bool) : BitVec 224 := if l then w ||| (1#224 <<< n) else w &&& ~~~(1#224 <<< n)

/-- Every interrupt that follows the state by level brought up to date. -/
def settle (c : Chip) : Chip := { c with irqs := levelSources.foldl (fun w n => irqBit w n (c.level n)) c.irqs }

/-- The state after a command's effect `f`: the queue is left as it is, the command is counted, and the level-driven
interrupts follow. -/
def State.after (s : State) (f : Chip → Chip) : State := { s with chip := settle (f { s.chip with cyc := s.chip.cyc + 1 }) }

/-- A command that has the effect `f`. -/
def run (f : Chip → Chip) (s : State) : Host.Outcome State Fault Refusal := .next (s.after f)

end Sys2Proof.Machine
end

