-- ==== Sys2Proof/Machine/Cellar.lean ====
section
/-! DEFINITION. The Cellar controller (spec/05): codewords and their decoding, reads and writes by their clients,
region masks, compare-and-swap, write-back, scrub and power states. -/

namespace Sys2Proof.Machine

/-- The first address of the Cellar. -/
def celBase : Nat := 0x80000000

/-! ## Codewords (R146, R147) -/

/-- What a read of a codeword finds. -/
inductive CwStatus where
  | clean
  | corrected (data : Word) (poison : Bool)
  | poisoned
  | double
  deriving DecidableEq, Repr

/-- The 7-bit words of `w` ones, in rising order. -/
def weightCols (w : Nat) : List (BitVec 7) :=
  ((List.range 128).map (BitVec.ofNat 7)).filter fun v => (List.range 7).foldl (fun n i => n + b2n (v.getLsbD i)) 0 = w

/-- `n` of the columns `l`, each chosen by Config.eccPick among those left. -/
def pickCols : Nat → List (BitVec 7) → List (BitVec 7)
  | 0, _ => []
  | n + 1, l => match l[Config.eccPick n % l.length]? with
    | none => []
    | some v => v :: pickCols n (l.erase v)

/-- The check-matrix column of data bit `i` (R146): 32 different words of 3 or 5 ones, whichever they are, beside the seven
unit words of the check bits. Every column being odd and none twice, one error is corrected and two are detected, and 0x7F
is no column. DESIGN CHOICE (log entry 179): which columns they are is Config's. -/
def eccColumn (i : Nat) : BitVec 7 := (pickCols 32 (weightCols 3 ++ weightCols 5)).getD i 0

/-- The number of ones in a syndrome. -/
def synWeight (s : BitVec 7) : Nat := (List.range 7).foldl (fun n i => n + b2n (s.getLsbD i)) 0

/-- A single-bit pattern: a check bit's own column, or the column of a data bit. -/
inductive SynBit where
  | check
  | data (i : Nat)
  | none
  deriving DecidableEq, Repr

/-- Which single bit a nonzero syndrome names (R146): one check bit, or a data bit's column; a syndrome of two ones is
the sum of two check columns and names none, and 0x7F is no single bit's. -/
def synBit (s : BitVec 7) : SynBit :=
  if synWeight s = 1 then .check
  else if synWeight s = 2 || s = 0x7F then .none
  else match (List.range 32).find? (fun i => eccColumn i == s) with
    | some i => .data i
    | Option.none => .none

/-- The status of a word whose stored data is `d` and whose check bits differ from the clean ones by `e`: bit 7 is P,
bits 6..0 the syndrome (R147). -/
def cwDecode (d : Word) (e : BitVec 8) : CwStatus :=
  let s := e.setWidth 7
  if e.getLsbD 7 then
    if s = 0x7F then .poisoned
    else if s = 0 then .corrected d false
    else if synBit (s ^^^ 0x7F) = .none then .double else .poisoned
  else
    if s = 0 then .clean
    else if s = 0x7F then .corrected d true
    else match synBit s with
      | .check => .corrected d false
      | .data i => .corrected (d ^^^ (1#32 <<< i)) false
      | .none => .double

/-- The deviation of word `a` from a clean codeword. -/
def Chip.ecc (c : Chip) (a : Nat) : BitVec 8 := mget 0 c.cel.ecc (a / 4)

/-- The deviation of word `a` set. -/
def Chip.setEcc (c : Chip) (a : Nat) (e : BitVec 8) : Chip :=
  { c with cel := { c.cel with ecc := mset 0 c.cel.ecc (a / 4) e } }

/-- A write-back queued (R149, R150). -/
def Chip.queueWb (c : Chip) (a : Nat) (d : Word) (poison : Bool) : Chip :=
  { c with cel := { c.cel with wb := c.cel.wb ++ [{ addr := a, data := d, poison := poison }] } }

/-- A corrected error counted; the threshold within one second of local time raises interrupt 56 (R151). -/
def Chip.countSec (c : Chip) (a : Nat) : Chip :=
  let sec := c.now / nsPerSec
  let n := if c.cel.secAt = sec then c.cel.secCount + 1 else 1
  let c := { c with cel := { c.cel with secAt := sec, secCount := n } }
  let c := c.inc rCEL_CNT 0 0
  let th := c.rf rCEL_CTRL 0 0 15 8
  if th ≠ 0 && n = th then (c.log 0x06 0x70 (BitVec.ofNat 32 a)).irq 56 else c

/-- A read of a poisoned word counted, logged and signalled (R150). -/
def Chip.poisonRead (c : Chip) (a : Nat) : Chip :=
  ((c.inc rCEL_CNT 2 0).log 0x06 0x72 (BitVec.ofNat 32 a)).irq 58

/-- Who reads a codeword: the scrubber, a bus master, or DRV, which has no master ID of its own (R21). -/
inductive CelReader where
  | scrub
  | master (m : Master)
  | drv
  deriving DecidableEq, Repr

/-- CEL_ECC_INFO.MASTER of a reader. DESIGN CHOICE (log entry 183): the spec gives DRV no master ID, so that its reads
leave a free value there. -/
def Chip.readerId (c : Chip) : CelReader → Nat
  | .scrub => 0
  | .master m => masterId m
  | .drv => fld (Config.freeWord c.cyc 0x0B) 3 0

/-- A double error: recorded if none is, counted, logged, its word queued for write-back poisoned (R150). -/
def Chip.doubleError (c : Chip) (who : CelReader) (a : Nat) (d : Word) : Chip :=
  let c := (c.inc rCEL_CNT 1 0).wb rCEL_STATUS 0 0 6 true
  let c := if c.rb rECC_INFO 0 0 31 then c else
    (c.wr rECC_INFO 0 0 (BitVec.ofNat 32 (2 ^ 31 + b2n (who == .scrub) * 2 ^ 30 + c.readerId who * 2 ^ 20 + a / 256 % 2 * 2 ^ 19
      + ((c.ecc a).setWidth 7).toNat))).wr rECC_ADDR 0 0 (BitVec.ofNat 32 a)
  ((c.log 0x06 0x71 (BitVec.ofNat 32 a)).irq 57).queueWb a d true

/-- One word read by `who`: what it receives, and whether it is poisoned (R147, R150). -/
def Chip.celRead (c : Chip) (who : CelReader) (a : Nat) : Chip × Word × Bool :=
  let d := c.word a
  if c.cel.wb.any (fun w => w.addr = a && w.poison) then (c.poisonRead a, d, true) else
  match cwDecode d (c.ecc a) with
  | .clean => (c, d, false)
  | .corrected d' false =>
    let c := c.countSec a
    (if who == .scrub || c.rb rCEL_CTRL 0 0 3 then c.queueWb a d' false else c, d', false)
  | .corrected d' true =>
    let c := (c.countSec a).poisonRead a
    (if who == .scrub || c.rb rCEL_CTRL 0 0 3 then c.queueWb a d' true else c, d', true)
  | .poisoned => (c.poisonRead a, d, true)
  | .double => (c.doubleError who a d, d, true)

/-- The word at `a` as a read would give it, with none of a read's effects: its data corrected, or none when it is poisoned. -/
def Chip.celView (c : Chip) (a : Nat) : Option Word :=
  if c.cel.wb.any (fun w => w.addr = a && w.poison) then none else
  match cwDecode (c.word a) (c.ecc a) with
  | .clean => some (c.word a)
  | .corrected d false => some d
  | _ => none

/-- The write-backs waiting for word `a` cancelled by a client's write (R149). -/
def Chip.cancelWb (c : Chip) (a : Nat) : Chip :=
  let n := (c.cel.wb.filter (fun w => w.addr = a)).length
  if n = 0 then c else
    { c.inc rCEL_CNT 6 0 n with cel := { c.cel with wb := c.cel.wb.filter (fun w => w.addr ≠ a) } }

/-- One whole word stored as a clean codeword (R153), with the bits of CEL_ECC_INJ flipped when it is armed and the
write is world S's. -/
def Chip.celStore (c : Chip) (secure : Bool) (a : Nat) (d : Word) : Chip :=
  let c := (c.cancelWb a).setWord a d
  if secure && c.rb rECC_INJ 0 0 31 then
    (c.setEcc a ((c.rd rECC_INJ).setWidth 8)).wb rECC_INJ 0 0 31 false
  else c.setEcc a 0

/-- Bytes [o, o + l.length) of word `a` replaced: a read-modify-write that leaves a poisoned or doubly wrong word as it
is (R153). The flag tells that it was. -/
def Chip.celNarrow (c : Chip) (m : Master) (secure : Bool) (a o : Nat) (l : List Byte) : Chip × Bool :=
  let (c, d, bad) := c.celRead (.master m) a
  if bad then (c, true) else
    let ob := wordBytes d
    (c.celStore secure a (BitVec.ofNat 32 (leNat (ob.take o ++ l ++ ob.drop (o + l.length)))), false)

/-! ## Regions (R154, R155) -/

/-- The region an address of the Cellar lies in. -/
def celRegion (a : Nat) : Nat :=
  if a < 0x8C000000 then 0 else if a < 0x92000000 then 1 else if a < 0x93000000 then 2 else if a < 0x94000000 then 3
  else if a < 0x95000000 then 4 else if a < 0x96000000 then 5 else if a < 0x96100000 then 6 else if a < 0x97000000 then 7
  else if a < 0x9FC00000 then 8 else 9

/-- The Attic's accesses: HC0, HC1 and master 9, in world S. -/
def atticOk (m : Master) (secure : Bool) : Bool := (m == .hc0 || m == .hc1 || m == .porch) && secure

/-- Whether master `m` may write at `a`. -/
def Chip.celMayWrite (c : Chip) (m : Master) (secure : Bool) (a : Nat) : Bool :=
  let r := celRegion a
  if r = 9 then atticOk m secure else c.rb rRGN_WMASK r 0 (masterId m)

/-- Whether master `m` may read at `a`. -/
def celMayRead (m : Master) (secure : Bool) (a : Nat) : Bool := celRegion a ≠ 9 || atticOk m secure

/-- A region violation counted, logged and signalled. -/
def Chip.celDeny (c : Chip) (a : Nat) : Chip := ((c.inc rCEL_CNT 5 0).log 0x06 0x73 (BitVec.ofNat 32 a)).irq 59

/-! ## Power states (R165..R170) -/

/-- The exit latency of a power state, ns. -/
def celExit : Nat → Nat
  | 1 => 40 | 2 => 320 | 3 => 1250 | _ => 0

/-- The power state. -/
def Chip.pstate (c : Chip) : Nat := c.rf rCEL_STATUS 0 0 4 3

/-- The tolerance the controller goes by. -/
def Chip.tol (c : Chip) : Nat := if c.cel.tolStale then 0 else (c.rd rCEL_TOL).toNat

/-- CEL_PWR.GUARD in use. -/
def Chip.celGuard (c : Chip) : Nat := max 100 (c.rf rCEL_PWR 0 0 31 16)

/-- The controller back in ACTIVE: the time in the state it leaves is added to its residence counter, and the posted
writes are performed (R169). -/
def Chip.celWake (c : Chip) : Chip :=
  let s := c.pstate
  if s = 0 then c else
    let c := c.incSat rCEL_RES (s - 1) 0 ((c.now - c.cel.since) / 1000)
    let c := c.wf rCEL_STATUS 0 0 4 3 0
    { c with cel := { c.cel with posted := 0 } }

/-- A raster request that finds the controller asleep with too little tolerance (R170). -/
def Chip.tolCheck (c : Chip) (m : Master) : Chip :=
  if m == .raster && c.pstate ≠ 0 && c.tol < celExit c.pstate then
    ((c.inc rCEL_CNT 4 0).log 0x06 0x75 (c.rd rCEL_TOL)).irq 62
  else c

/-- The controller accepts client requests. -/
def Chip.celUp (c : Chip) : Bool := c.cel.serving && c.rb rCEL_CTRL 0 0 0 && c.alive .cel

/-! ## Client accesses -/

/-- How a client's access ended. -/
inductive CelRes where
  | ok | denied | poison | down
  deriving DecidableEq, Repr

/-- A client's read of the word at `a`. -/
def Chip.celClientRead (c : Chip) (m : Master) (secure : Bool) (a : Nat) : Chip × Word × CelRes :=
  if !c.celUp then (c, 0, .down)
  else if !celMayRead m secure a then (c.celDeny a, 0, .denied)
  else
    let (c, d, bad) := ((c.tolCheck m).celWake).celRead (.master m) a
    if bad then (c, 0, .poison) else (c, d, .ok)

/-- Writes of `l` from `a` on, word by word; `fuel` bounds the words. A write refused is counted once (R155). -/
def Chip.celWriteLoop (c : Chip) (m : Master) (secure : Bool) : Nat → Nat → List Byte → CelRes → Chip × CelRes
  | 0, _, _, r => (c, r)
  | _, _, [], r => (c, r)
  | n + 1, a, l, r =>
    let o := a % 4
    let k := min (4 - o) l.length
    let w := a - o
    if !c.celMayWrite m secure w then
      (if r == .denied then c else c.celDeny w).celWriteLoop m secure n (w + 4) (l.drop k) .denied
    else if k = 4 then (c.celStore secure w (leWordAt l 0)).celWriteLoop m secure n (w + 4) (l.drop 4) r
    else
      let (c, bad) := c.celNarrow m secure w o (l.take k)
      c.celWriteLoop m secure n (w + 4) (l.drop k) (if bad && r == .ok then .poison else r)

/-- How many of the `n` bytes from `a` on are accepted from master `m` (R155). -/
def Chip.celTaken (c : Chip) (m : Master) (secure : Bool) (a n : Nat) : Nat :=
  ((List.range n).filter fun i => c.celMayWrite m secure (a + i)).length

/-- Bytes posted while the controller sleeps; 32 KiB of them wake it (R169). -/
def Chip.celPost (c : Chip) (n : Nat) : Chip :=
  if c.pstate = 0 then c else
    let c := { c with cel := { c.cel with posted := c.cel.posted + n } }
    if c.cel.posted ≥ 32768 then c.celWake else c

/-- A client's write of bytes: while the controller sleeps it is posted, and 32 KiB of posted writes wake it (R169). -/
def Chip.celClientWrite (c : Chip) (m : Master) (secure : Bool) (a : Nat) (l : List Byte) : Chip × CelRes :=
  if !c.celUp then (c, .down) else
  let (c, r) := (c.tolCheck m).celWriteLoop m secure (l.length + 2) a l .ok
  (if c.pstate = 0 then c else c.celPost (c.celTaken m secure a l.length), r)

/-- A compare-and-swap on the word at `a` (R157): the word as found, and how it ended. -/
def Chip.celSwap (c : Chip) (m : Master) (secure : Bool) (a : Nat) (expect new : Word) : Chip × Word × CelRes :=
  if !c.celUp then (c, 0, .down)
  else if !c.celMayWrite m secure a then (c.celDeny a, 0, .denied)
  else
    let (c, d, bad) := ((c.tolCheck m).celWake).celRead (.master m) a
    if bad then (c, 0, .poison) else (if d = expect then c.celStore secure a new else c, d, .ok)

/-- A compare-and-swap of an engine: `none` when the word is poisoned or may not be written. -/
def Chip.celCas (c : Chip) (m : Master) (secure : Bool) (a : Nat) (expect new : Word) : Chip × Option Word :=
  match c.celSwap m secure a expect new with
  | (c, d, .ok) => (c, some d)
  | (c, _, _) => (c, none)

/-- A word read by an engine; none when it is poisoned or not to be had. -/
def Chip.celGet (c : Chip) (m : Master) (a : Nat) : Chip × Option Word :=
  match c.celClientRead m false a with
  | (c, d, .ok) => (c, some d)
  | (c, _, _) => (c, none)

/-- Words read by an engine as a whole: none when one of them is poisoned or not to be had. -/
def Chip.celGets (c : Chip) (m : Master) (a : Nat) : Nat → Chip × Option (List Word)
  | 0 => (c, some [])
  | n + 1 =>
    let (c, w) := c.celGet m a
    let (c, l) := c.celGets m (a + 4) n
    (c, match w, l with
      | some w, some l => some (w :: l)
      | _, _ => none)

/-- A word of region 4 read by DRV, and whether it is poisoned (R152). -/
def Chip.drvGet (c : Chip) (a : Nat) : Chip × Word × Bool := if c.celUp then c.celWake.celRead .drv a else (c, 0, true)

/-- A whole word of region 4 written by DRV. -/
def Chip.drvPut (c : Chip) (a : Nat) (w : Word) : Chip := if c.celUp then (c.celStore false a w).celPost 4 else c

/-- Words read by an engine, as (word, poisoned); a word it does not get reads as poisoned 0. -/
def Chip.celWords (c : Chip) (m : Master) (a : Nat) : Nat → Chip × List (Word × Bool)
  | 0 => (c, [])
  | n + 1 =>
    let (c, d, r) := c.celClientRead m false a
    let (c, l) := c.celWords m (a + 4) n
    (c, (if r == .ok then d else 0, r != .ok) :: l)

/-- The `n` bytes from `a` on of the words that hold them, read by `f`. -/
def bytesBy (f : Nat → Nat → Chip × List (Word × Bool)) (a n : Nat) : Chip × List (Byte × Bool) :=
  let w := a / 4 * 4
  let (c, l) := f w ((a - w + n + 3) / 4)
  (c, ((l.flatMap fun p => (wordBytes p.1).map fun b => (b, p.2)).drop (a - w)).take n)

/-- Bytes an engine reads from `a` on, each with whether its word was poisoned; a fetch of the raster engine that a reset of its
queues caught comes poisoned (R468). -/
def Chip.celBytes (c : Chip) (m : Master) (a n : Nat) : Chip × List (Byte × Bool) :=
  let (c, l) := bytesBy (c.celWords m) a n
  if m == .raster && c.cutOff [0x22, 0x23] then (c.cutDone [0x22, 0x23], l.map fun b => (b.1, true)) else (c, l)

/-- Words a processor loads: each that it does not get reads as 0 after a bus error, CAUSE 2 for a poisoned one (R152), 1 for
one refused (R155), 3 where nothing serves. -/
def Chip.celLoadWords (c : Chip) (m : Master) (secure : Bool) (a : Nat) : Nat → Chip × List (Word × Bool)
  | 0 => (c, [])
  | n + 1 =>
    let (c, d, r) := c.celClientRead m secure a
    let c := match r with
      | .ok => c
      | .poison => c.busErr m secure false (BitVec.ofNat 32 a) 2
      | .denied => c.busErr m secure false (BitVec.ofNat 32 a) 1
      | .down => c.busErr m secure false (BitVec.ofNat 32 a) 3
    let (c, l) := c.celLoadWords m secure (a + 4) n
    (c, (if r == .ok then d else 0, r != .ok) :: l)

/-- Bytes a processor loads from `a` on, each with whether it did not get its word. -/
def Chip.celLoads (c : Chip) (m : Master) (secure : Bool) (a n : Nat) : Chip × List (Byte × Bool) := bytesBy (c.celLoadWords m secure) a n

/-- A master of the SYS domain (R17, R21). -/
def sysMaster : Master → Bool
  | .raster | .corridor | .trellis => false
  | _ => true

/-- A write by any master, with the bus error a SYS-domain one gets for bytes that fell on a poisoned word (R153). -/
def Chip.celWrite (c : Chip) (m : Master) (secure : Bool) (a : Nat) (l : List Byte) : Chip × CelRes :=
  let (c, r) := c.celClientWrite m secure a l
  (if r == .poison && sysMaster m then c.busErr m secure true (BitVec.ofNat 32 a) 2 else c, r)

/-- Bytes from `a` on in the pieces of them that fall into one word each; the fuel bounds the words. -/
def wordPieces : Nat → Nat → List (Byte × Bool) → List (Nat × List (Byte × Bool))
  | 0, _, _ => []
  | n + 1, a, l => if l.isEmpty then [] else (a, l.take (4 - a % 4)) :: wordPieces n (a / 4 * 4 + 4) (l.drop (4 - a % 4))

/-- A word written poisoned by a master (R152, R460). -/
def Chip.celPoison (c : Chip) (m : Master) (secure : Bool) (w : Nat) : Chip × CelRes :=
  if !c.celUp then (c, .down)
  else if !c.celMayWrite m secure w then (c.celDeny w, .denied)
  else ((((c.cancelWb w).setWord w 0).setEcc w 0xFF).celPost 4, .ok)

/-- Bytes of DMA's class written with their poison: a word that takes a poisoned byte is written poisoned (R152, R460). -/
def Chip.celWriteFlagged (c : Chip) (m : Master) (secure : Bool) (a : Nat) (l : List (Byte × Bool)) : Chip × CelRes :=
  if !(l.any (·.2)) then c.celWrite m secure a (l.map (·.1)) else
  (wordPieces (l.length + 1) a l).foldl (fun (x : Chip × CelRes) p =>
    let (c, r) := if p.2.any (·.2) then x.1.celPoison m secure (p.1 / 4 * 4) else x.1.celWrite m secure p.1 (p.2.map (·.1))
    (c, if r == .ok then x.2 else r)) (c, .ok)

/-- Bytes an engine writes. -/
def Chip.celPut (c : Chip) (m : Master) (a : Nat) (l : List Byte) : Chip := (c.celWrite m false a l).1

/-- How an access that reached the Cellar ends for its master (R152, R153, R155): the answer `d`, or an error, which is a bus
error for a processor; for master 9 too, but for a write its mask refuses; and for every master where nothing serves. -/
def Chip.celEnd (c : Chip) (a : Access) (write : Bool) (addr : Word) (d : Word) (r : CelRes) : Chip :=
  let s := c.worldS a
  match r with
  | .ok => c.answer d
  | .poison => if sysProc a.master || a.master == .porch then c.busErr a.master s write addr 2
    else { c with rsp := { val := 0, err := true } }
  | .denied => if sysProc a.master || (a.master == .porch && celRegion addr.toNat = 9) then c.busErr a.master s write addr 1
    else { c with rsp := { val := 0, err := true } }
  | .down => c.busErr a.master s write addr 3

/-- A bus master's read of the Cellar. -/
def Chip.celBusRead (c : Chip) (a : Access) (addr : Word) : Chip :=
  let (c, d, r) := c.celClientRead a.master (c.worldS a) (addr.toNat / 4 * 4)
  c.celEnd a false addr d r

/-- A bus master's write of the Cellar: its bytes on a poisoned word are a bus error for a SYS-domain master (R153). -/
def Chip.celBusWrite (c : Chip) (a : Access) (addr : Word) (l : List Byte) : Chip :=
  let (c', r) := c.celWrite a.master (c.worldS a) addr.toNat l
  if r == .poison && sysMaster a.master then c' else c'.celEnd a true addr 0 r

/-! ## What the commands do -/

/-- CEL_CTRL.EN written (R159, R160): after a warm reset that kept the contents, or with the fill already done, the
controller serves at once; otherwise it fills. -/
def Chip.celEnable (c : Chip) (en : Bool) : Chip :=
  if !en then { c with cel := { c.cel with serving := false } }
  else if c.rb rCEL_STATUS 0 0 1 || c.rb rCEL_STATUS 0 0 2 then { c with cel := { c.cel with serving := true } }
  else c

/-- The boot ROM's training of both channels (R159, R171): trained, EN is written; failed, interrupt 63 and the log tell of
it. DESIGN CHOICE (log entry 191): a failure leaves EN as it is. -/
def Chip.celTrain (c : Chip) (ok : Bool) : Chip :=
  let c := { c.wb rCEL_STATUS 0 0 0 ok with cel := { c.cel with trained := ok } }
  if ok then (c.wb rCEL_CTRL 0 0 0 true).celEnable true else (c.log 0x06 0x76).irq 63

/-- The fill completed: every word of the Cellar a clean zero, FILL_DONE set, requests accepted (R159). -/
def Chip.celFillDone (c : Chip) : Chip :=
  if c.alive .cel && c.rb rCEL_CTRL 0 0 0 && !c.cel.serving then
    let c := { c with mem := c.mem.filter (fun p => p.1 < celBase || 0xA0000000 ≤ p.1) }
    let c := { c with cel := { c.cel with ecc := [], wb := [], serving := true } }
    c.wb rCEL_STATUS 0 0 2 true
  else c

/-- CELLAR_FILL_DONE (R159). -/
def execCellarFillDone (s : State) : Host.Outcome State Fault Refusal := run Chip.celFillDone s

/-- CELLAR_READ (R147): a client's read of a word. -/
def execCellarRead (a : Access) (addr : Addr) (s : State) : Host.Outcome State Fault Refusal :=
  run (fun c => if !c.mayAccess a then c else if areaOf addr.toNat == Area.cellar then c.celBusRead a addr
    else c.busErr a.master (c.worldS a) false addr 0) s

/-- CELLAR_WRITE (R153): a client's write of bytes. -/
def execCellarWrite (a : Access) (addr : Addr) (bytes : List Byte) (s : State) : Host.Outcome State Fault Refusal :=
  run (fun c => if !c.mayAccess a then c else if areaOf addr.toNat == Area.cellar && addr.toNat + bytes.length ≤ 0xA0000000 then c.celBusWrite a addr bytes
    else c.busErr a.master (c.worldS a) true addr 0) s

/-- CELLAR_CAS (R157): the answer is the word as found. -/
def execCellarCas (a : Access) (addr : Addr) (expect new : Word) (s : State) : Host.Outcome State Fault Refusal :=
  run (fun c => if !c.mayAccess a then c else if areaOf addr.toNat == Area.cellar then
      let (c, d, r) := c.celSwap a.master (c.worldS a) (addr.toNat / 4 * 4) expect new
      c.celEnd a true addr d r
    else c.busErr a.master (c.worldS a) true addr 0) s

/-- CELLAR_WRITEBACK (R149, R150): the oldest queued write-back performed. -/
def execCellarWriteback (s : State) : Host.Outcome State Fault Refusal :=
  run (fun c => if !c.alive .cel then c else
    match c.cel.wb with
    | [] => c
    | w :: t =>
      let c := { c with cel := { c.cel with wb := t } }
      if w.poison then (c.setWord w.addr w.data).setEcc w.addr 0xFF else (c.setWord w.addr w.data).setEcc w.addr 0) s

/-- The sixteen words of a burst read by the scrubber. -/
def Chip.scrubWords (c : Chip) (a : Nat) : Nat → Chip
  | 0 => c
  | n + 1 => (c.celRead .scrub a).1.scrubWords (a + 4) n

/-- SCRUB_BURST (R148): the next burst read, or, when the last one is still unissued, the scrubber behind
and that burst due (R168). -/
def execScrubBurst (behind : Bool) (s : State) : Host.Outcome State Fault Refusal :=
  run (fun c => if !(c.celUp && c.rb rCEL_CTRL 0 0 1) then c
    else if behind then
      let c := { c with cel := { c.cel with scrubDue := true } }
      ((c.wb rCEL_STATUS 0 0 5 true).log 0x06 0x74 (c.rd rCEL_SCRUB_POS)).irq 61
    else
      let c := { c with cel := { c.cel with scrubDue := false } }
      let p := c.rf rCEL_SCRUB_POS 0 0 22 0
      let c := c.celWake.scrubWords (celBase + 64 * p) 16
      let c := c.wr rCEL_SCRUB_POS 0 0 (BitVec.ofNat 32 ((p + 1) % 2 ^ 23))
      if p + 1 = 2 ^ 23 then (c.inc rCEL_CNT 3 0).irq 60 else c) s

/-- TOL_TIMEOUT (R166): no message for 2 µs. -/
def execTolTimeout (s : State) : Host.Outcome State Fault Refusal :=
  run (fun c => c.when (c.alive .cel) fun c => { c with cel := { c.cel with tolStale := true } }) s

/-- The deepest state up to `m` whose exit latency plus the guard is below the tolerance (R168). -/
def Chip.deepest (c : Chip) : Nat → Nat
  | 0 => 0
  | m + 1 => if c.tol > celExit (m + 1) + c.celGuard then m + 1 else c.deepest m

/-- CELLAR_POWER_ENTRY (R168): IDLE cycles have passed with no request waiting. -/
def execCellarPowerEntry (s : State) : Host.Outcome State Fault Refusal :=
  run (fun c =>
    if c.celUp && c.rb rCEL_CTRL 0 0 2 && c.pstate = 0 && c.cel.posted < 32768 && c.cel.wb.isEmpty && !(c.cel.scrubDue && c.rb rCEL_CTRL 0 0 1) then
      let d := c.deepest (c.rf rCEL_PWR 0 0 5 4)
      if d = 0 then c else
        let c := c.wf rCEL_STATUS 0 0 4 3 d
        { c with cel := { c.cel with since := c.now } }
    else c) s

/-- CELLAR_WAKE (R169): one of the wake events; a refresh wakes PD alone, TOL only when it no longer suffices; a scrub burst that
is pending stays due until it is read (R168). -/
def execCellarWake (why : WakeCause) (s : State) : Host.Outcome State Fault Refusal :=
  run (fun c => c.when (c.alive .cel) fun c =>
    let c := if why == .scrub then { c with cel := { c.cel with scrubDue := true } } else c
    let ok := match why with
      | .read | .posted | .scrub => true
      | .refresh => c.pstate = 1
      | .tol => c.tol ≤ celExit c.pstate + c.celGuard
    if ok then c.celWake else c) s

/-- CELLAR_TEMP_HI (R584): the DRAM reports above, or back below, 85 °C. -/
def execCellarTempHi (high : Bool) (s : State) : Host.Outcome State Fault Refusal :=
  run (fun c => c.when (c.alive .cel) fun c => c.wb rCEL_STATUS 0 0 7 high) s

end Sys2Proof.Machine
end

