-- ==== Sys2Proof/Machine/FixedMath.lean ====
section
/-! DEFINITION. Fixed-point arithmetic for the formulas of the spec's ROM tables: numbers scaled by 2^96. -/

namespace Sys2Proof.Machine

/-- The scale. -/
def fxOne : Int := 2 ^ 96

/-- Product and quotient of scaled numbers, rounded down. -/
def fxMul (a b : Int) : Int := a * b / fxOne

/-- Quotient of scaled numbers, rounded down. -/
def fxDiv (a b : Int) : Int := a * fxOne / b

/-- The scaled number n / d. -/
def fxOf (n d : Int) : Int := n * fxOne / d

/-- Terms x^k / k! summed while `n` lasts. -/
def expSum (x : Int) : Nat → Int → Nat → Int
  | 0, _, _ => 0
  | n + 1, t, k => t + expSum x n (fxMul t x / ((k : Int) + 1)) (k + 1)

/-- `a` squared `n` times. -/
def squareN (a : Int) : Nat → Int
  | 0 => a
  | n + 1 => squareN (fxMul a a) n

/-- e^x. -/
def fxExp (x : Int) : Int := squareN (expSum (x / 4096) 16 fxOne 0) 12

/-- Terms of 2 * atanh(z): z^(2k+1) / (2k+1). -/
def atanhSum (z2 : Int) : Nat → Int → Nat → Int
  | 0, _, _ => 0
  | n + 1, t, k => t / (2 * (k : Int) + 1) + atanhSum z2 n (fxMul t z2) (k + 1)

/-- ln of a scaled number between 1/2 and 2. -/
def lnNear (x : Int) : Int :=
  let z := fxDiv (x - fxOne) (x + fxOne)
  2 * atanhSum (fxMul z z) 40 z 0

/-- ln 2. -/
def fxLn2 : Int := lnNear (2 * fxOne)

/-- ln of a positive scaled number below 2: doubled at most `n` times until it is at least 1. -/
def lnDown : Nat → Int → Int
  | 0, x => lnNear x
  | n + 1, x => if x ≥ fxOne then lnNear x else lnDown n (2 * x) - fxLn2

/-- ln x for 2^-64 ≤ x < 2. -/
def fxLn (x : Int) : Int := lnDown 64 x

/-- x^y for positive x below 2. -/
def fxPow (x y : Int) : Int := fxExp (fxMul y (fxLn x))

/-- Terms of the cosine series. -/
def cosSum (x2 : Int) : Nat → Int → Nat → Int
  | 0, _, _ => 0
  | n + 1, t, k => t + cosSum x2 n (-(fxMul t x2) / ((2 * (k : Int) + 1) * (2 * k + 2))) (k + 1)

/-- π, to 45 decimals. -/
def fxPi : Int := fxOf 3141592653589793238462643383279502884197169399 1000000000000000000000000000000000000000000000

/-- cos x for 0 ≤ x ≤ 2π. -/
def fxCos (x : Int) : Int := cosSum (fxMul x x) 30 fxOne 0

/-- A scaled number rounded to the nearest integer. -/
def fxRound (x : Int) : Int := (x + fxOne / 2) / fxOne

end Sys2Proof.Machine
end

