-- ==== Sys2Proof/Machine/Crypto.lean ====
section
/-! DEFINITION. The published functions the spec names: CRC-32 (IEEE 802.3), CRC-32C (R297), SHA-256 and SHA-384
(FIPS 180-4), HMAC-SHA-256 (RFC 2104), HKDF (RFC 5869), AES-256-GCM (FIPS 197, SP 800-38D) and the key wrap of RFC 3394.
PRESUMED: written from those standards, which the spec names and does not print. -/

namespace Sys2Proof.Machine

/-! ## CRCs -/

/-- One byte into a reflected CRC-32 register with reflected polynomial `poly`. -/
def crcByte (poly : BitVec 32) (r : BitVec 32) (b : Byte) : BitVec 32 :=
  (List.range 8).foldl (fun r _ => if r.getLsbD 0 then (r >>> 1) ^^^ poly else r >>> 1) (r ^^^ b.setWidth 32)

/-- CRC-32 of IEEE 802.3 over bytes in transmission order: initial value all ones, final complement (R78). -/
def crc32 (l : List Byte) : BitVec 32 := ~~~(l.foldl (crcByte 0xEDB88320) 0xFFFFFFFF)

/-- CRC-32C of R297: reflected polynomial 0x82F6_3B78, initial value all ones, final complement. -/
def crc32c (l : List Byte) : BitVec 32 := ~~~(l.foldl (crcByte 0x82F63B78) 0xFFFFFFFF)

/-! ## SHA-2 -/

/-- The greatest `x < 2 ^ n` with `x ^ k ≤ v`, by bits. -/
def iroot (k v : Nat) : Nat → Nat → Nat
  | 0, x => x
  | n + 1, x => let y := x + 2 ^ n; iroot k v n (if y ^ k ≤ v then y else x)

/-- The first 80 primes, on which FIPS 180-4 defines its constants. -/
def shaPrimes : List Nat :=
  [2, 3, 5, 7, 11, 13, 17, 19, 23, 29, 31, 37, 41, 43, 47, 53, 59, 61, 67, 71] ++
  [73, 79, 83, 89, 97, 101, 103, 107, 109, 113, 127, 131, 137, 139, 149, 151, 157, 163, 167, 173] ++
  [179, 181, 191, 193, 197, 199, 211, 223, 227, 229, 233, 239, 241, 251, 257, 263, 269, 271, 277, 281] ++
  [283, 293, 307, 311, 313, 317, 331, 337, 347, 349, 353, 359, 367, 373, 379, 383, 389, 397, 401, 409]

/-- The first 64 bits of the fractional part of the cube root of `p`. -/
def cbrtFrac (p : Nat) : Nat := iroot 3 (p * 2 ^ 192) 70 0 % 2 ^ 64

/-- The first 64 bits of the fractional part of the square root of `p`. -/
def sqrtFrac (p : Nat) : Nat := iroot 2 (p * 2 ^ 128) 70 0 % 2 ^ 64

/-- The parameters by which the two SHA-2 functions differ: word width, rounds, rotations. -/
structure ShaKind where
  w : Nat
  rounds : Nat
  s0 : Nat × Nat × Nat
  s1 : Nat × Nat × Nat
  e0 : Nat × Nat × Nat
  e1 : Nat × Nat × Nat

/-- SHA-256's parameters. -/
def sha256Kind : ShaKind := ⟨32, 64, (7, 18, 3), (17, 19, 10), (2, 13, 22), (6, 11, 25)⟩

/-- SHA-384's parameters (those of SHA-512). -/
def sha384Kind : ShaKind := ⟨64, 80, (1, 8, 7), (19, 61, 6), (28, 34, 39), (14, 18, 41)⟩

/-- Rotation right of a `w`-bit number. -/
def rotr (w x n : Nat) : Nat := x / 2 ^ n + x % 2 ^ n * 2 ^ (w - n)

/-- The message schedule, newest word first, extended by `n` words. -/
def shaSchedule (k : ShaKind) : Nat → List Nat → List Nat
  | 0, l => l
  | n + 1, l =>
    let g := fun i => l.getD i 0
    let sg := fun (t : Nat × Nat × Nat) x => rotr k.w x t.1 ^^^ rotr k.w x t.2.1 ^^^ (x / 2 ^ t.2.2)
    shaSchedule k n ((sg k.s1 (g 1) + g 6 + sg k.s0 (g 14) + g 15) % 2 ^ k.w :: l)

/-- One round on the eight working variables. -/
def shaRound (k : ShaKind) (v : List Nat) (kw : Nat) : List Nat :=
  match v with
  | [a, b, c, d, e, f, g, h] =>
    let bs := fun (t : Nat × Nat × Nat) x => rotr k.w x t.1 ^^^ rotr k.w x t.2.1 ^^^ rotr k.w x t.2.2
    let t1 := h + bs k.e1 e + ((e &&& f) ^^^ ((2 ^ k.w - 1 - e) &&& g)) + kw
    let t2 := bs k.e0 a + ((a &&& b) ^^^ (a &&& c) ^^^ (b &&& c))
    [(t1 + t2) % 2 ^ k.w, a, b, c, (d + t1) % 2 ^ k.w, e, f, g]
  | v => v

/-- Sixteen words of `n` bytes each, most significant byte first. -/
def shaWords (n : Nat) : Nat → List Byte → List Nat
  | 0, _ => []
  | i + 1, l => beNat (l.take n) :: shaWords n i (l.drop n)

/-- The compression of blocks, `n` of them, into the hash value. -/
def shaBlocks (k : ShaKind) (ks : List Nat) : Nat → List Byte → List Nat → List Nat
  | 0, _, h => h
  | n + 1, l, h =>
    let w := (shaSchedule k (k.rounds - 16) (shaWords (k.w / 8) 16 l).reverse).reverse
    let v := (List.zipWith (· + ·) w ks).foldl (shaRound k) h
    shaBlocks k ks n (l.drop (2 * k.w)) (List.zipWith (fun x y => (x + y) % 2 ^ k.w) h v)

/-- A message with its padding and length. -/
def shaPad (k : ShaKind) (l : List Byte) : List Byte :=
  let blk := 2 * k.w
  let len := k.w / 4
  let z := (blk - (l.length + 1 + len) % blk) % blk
  l ++ [0x80] ++ List.replicate z 0 ++ natBE len (8 * l.length)

/-- SHA-256. -/
def sha256 (l : List Byte) : List Byte :=
  let m := shaPad sha256Kind l
  let ks := (shaPrimes.take 64).map fun p => cbrtFrac p / 2 ^ 32
  let iv := (shaPrimes.take 8).map fun p => sqrtFrac p / 2 ^ 32
  (shaBlocks sha256Kind ks (m.length / 64) m iv).flatMap (natBE 4)

/-- SHA-384. -/
def sha384 (l : List Byte) : List Byte :=
  let m := shaPad sha384Kind l
  let ks := shaPrimes.map cbrtFrac
  let iv := ((shaPrimes.drop 8).take 8).map sqrtFrac
  ((shaBlocks sha384Kind ks (m.length / 128) m iv).flatMap (natBE 8)).take 48

/-- HMAC-SHA-256 under key `k`. -/
def hmac (k l : List Byte) : List Byte :=
  let k := if k.length > 64 then sha256 k else k
  let k := k ++ List.replicate (64 - k.length) 0
  sha256 (k.map (· ^^^ 0x5C) ++ sha256 (k.map (· ^^^ 0x36) ++ l))

/-- HKDF-Expand of RFC 5869, `n` blocks. -/
def hkdfBlocks (prk info : List Byte) : Nat → Nat → List Byte → List Byte
  | 0, _, _ => []
  | n + 1, i, t => let t := hmac prk (t ++ info ++ [BitVec.ofNat 8 i]); t ++ hkdfBlocks prk info n (i + 1) t

/-- HKDF-Expand to `len` bytes. -/
def hkdfExpand (prk info : List Byte) (len : Nat) : List Byte :=
  (hkdfBlocks prk info ((len + 31) / 32) 1 []).take len

/-- HKDF of R485: extract with `salt`, expand with `info`. -/
def hkdf (salt ikm info : List Byte) (len : Nat) : List Byte := hkdfExpand (hmac salt ikm) info len

/-! ## AES-256 and GCM -/

/-- Doubling in GF(2^8). -/
def xtime (b : Byte) : Byte := if b.getLsbD 7 then (b <<< 1) ^^^ 0x1B else b <<< 1

/-- The product in GF(2^8) as numbers, over `n` bits of the second factor. -/
def gmulNat : Nat → Nat → Nat → Nat → Nat
  | 0, p, _, _ => p
  | n + 1, p, a, b => gmulNat n (p ^^^ b % 2 * a) (2 * a ^^^ a / 128 * 0x11B) (b / 2)

/-- The product in GF(2^8). -/
def gmul (a b : Byte) : Byte := BitVec.ofNat 8 (gmulNat 8 0 a.toNat b.toNat)

/-- The inverse in GF(2^8), 0 for 0: the 254th power. -/
def ginv (a : Byte) : Byte :=
  let a2 := gmul a a; let a3 := gmul a2 a; let a6 := gmul a3 a3; let a12 := gmul a6 a6; let a15 := gmul a12 a3
  let a30 := gmul a15 a15; let a60 := gmul a30 a30; let a120 := gmul a60 a60; let a126 := gmul a120 a6
  let a127 := gmul a126 a; gmul a127 a127

/-- The AES S-box (FIPS 197, figure 7), a row of 16 bytes a number. -/
def sboxRows : List Nat :=
  [0x637C777BF26B6FC53001672BFED7AB76, 0xCA82C97DFA5947F0ADD4A2AF9CA472C0,
   0xB7FD9326363FF7CC34A5E5F171D83115, 0x04C723C31896059A071280E2EB27B275,
   0x09832C1A1B6E5AA0523BD6B329E32F84, 0x53D100ED20FCB15B6ACBBE394A4C58CF,
   0xD0EFAAFB434D338545F9027F503C9FA8, 0x51A3408F929D38F5BCB6DA2110FFF3D2,
   0xCD0C13EC5F974417C4A77E3D645D1973, 0x60814FDC222A908846EEB814DE5E0BDB,
   0xE0323A0A4906245CC2D3AC629195E479, 0xE7C8376D8DD54EA96C56F4EA657AAE08,
   0xBA78252E1CA6B4C6E8DD741F4BBD8B8A, 0x703EB5664803F60E613557B986C11D9E,
   0xE1F8981169D98E949B1E87E9CE5528DF, 0x8CA1890DBFE6426841992D0FB054BB16]

/-- The AES S-box. -/
def sbox (a : Byte) : Byte :=
  BitVec.ofNat 8 (sboxRows.getD (a.toNat / 16) 0 / 2 ^ (8 * (15 - a.toNat % 16)))

/-- The inverse S-box. -/
def isbox (a : Byte) : Byte :=
  ginv (a.rotateLeft 1 ^^^ a.rotateLeft 3 ^^^ a.rotateLeft 6 ^^^ 0x05)

/-- Bytes xored place by place. -/
def xorBytes (a b : List Byte) : List Byte := List.zipWith (· ^^^ ·) a b

/-- The key schedule of AES-256, newest word first: `n` words more from word index `i` on. -/
def aesExpand : Nat → Nat → Byte → List (List Byte) → List (List Byte)
  | 0, _, _, l => l
  | n + 1, i, rc, l =>
    let t := l.getD 0 []
    let t := if i % 8 = 0 then xorBytes ((t.drop 1 ++ t.take 1).map sbox) [rc, 0, 0, 0]
             else if i % 8 = 4 then t.map sbox else t
    aesExpand n (i + 1) (if i % 8 = 0 then xtime rc else rc) (xorBytes (l.getD 7 []) t :: l)

/-- The words of a 32-byte key. -/
def quads : Nat → List Byte → List (List Byte)
  | 0, _ => []
  | n + 1, l => l.take 4 :: quads n (l.drop 4)

/-- The 15 round keys of 16 bytes. -/
def aesKeys (key : List Byte) : List (List Byte) :=
  let w := (aesExpand 52 8 1 (quads 8 key).reverse).reverse
  (List.range 15).map fun r => ((w.drop (4 * r)).take 4).flatten

/-- ShiftRows on a column-major block; `inv` shifts back. -/
def shiftRows (inv : Bool) (s : List Byte) : List Byte :=
  (List.range 16).map fun i =>
    let r := i % 4; let c := i / 4
    s.getD (4 * ((if inv then c + 4 - r else c + r) % 4) + r) 0

/-- MixColumns with first-row coefficients `m`. -/
def mixColumns (m : List Byte) (s : List Byte) : List Byte :=
  (List.range 16).map fun i =>
    let r := i % 4; let c := i / 4
    (List.range 4).foldl (fun acc k => acc ^^^ gmul (m.getD ((k + 4 - r) % 4) 0) (s.getD (4 * c + k) 0)) 0

/-- The middle rounds of encryption. -/
def aesRounds (s : List Byte) (ks : List (List Byte)) : List Byte :=
  ks.foldl (fun s k => xorBytes (mixColumns [2, 3, 1, 1] (shiftRows false (s.map sbox))) k) s

/-- AES-256 encryption of one block. -/
def aesEnc (ks : List (List Byte)) (s : List Byte) : List Byte :=
  let s := aesRounds (xorBytes s (ks.getD 0 [])) ((ks.drop 1).take 13)
  xorBytes (shiftRows false (s.map sbox)) (ks.getD 14 [])

/-- AES-256 decryption of one block. -/
def aesDec (ks : List (List Byte)) (s : List Byte) : List Byte :=
  let s := (shiftRows true (xorBytes s (ks.getD 14 []))).map isbox
  let s := ((ks.drop 1).take 13).reverse.foldl
    (fun s k => (shiftRows true (mixColumns [14, 11, 13, 9] (xorBytes s k))).map isbox) s
  xorBytes s (ks.getD 0 [])

/-- The product in GF(2^128) of GCM, operands as numbers with bit 0 the leftmost. -/
def ghMul (x h : BitVec 128) : BitVec 128 :=
  ((List.range 128).foldl (fun (p : BitVec 128 × BitVec 128) i =>
    (if x.getMsbD i then p.1 ^^^ p.2 else p.1,
     if p.2.getLsbD 0 then (p.2 >>> 1) ^^^ (0xE1#128 <<< 120) else p.2 >>> 1)) (0, h)).1

/-- GHASH over `n` blocks. -/
def ghash (h : BitVec 128) : Nat → List Byte → BitVec 128 → BitVec 128
  | 0, _, y => y
  | n + 1, l, y => ghash h n (l.drop 16) (ghMul (y ^^^ BitVec.ofNat 128 (beNat (l.take 16))) h)

/-- Zeros up to a multiple of 16 bytes. -/
def pad16 (l : List Byte) : List Byte := l ++ List.replicate ((16 - l.length % 16) % 16) 0

/-- The key stream applied from counter value `ctr` on, `n` blocks. -/
def gctr (ks : List (List Byte)) (nonce : List Byte) : Nat → Nat → List Byte → List Byte
  | 0, _, _ => []
  | n + 1, ctr, l => xorBytes (l.take 16) (aesEnc ks (nonce ++ natBE 4 ctr)) ++ gctr ks nonce n (ctr + 1) (l.drop 16)

/-- The GCM tag of ciphertext `ct` with additional data `aad`. -/
def gcmTag (ks : List (List Byte)) (nonce aad ct : List Byte) : List Byte :=
  let h := BitVec.ofNat 128 (beNat (aesEnc ks (List.replicate 16 0)))
  let m := pad16 aad ++ pad16 ct ++ natBE 8 (8 * aad.length) ++ natBE 8 (8 * ct.length)
  let s := ghash h (m.length / 16) m 0
  xorBytes (natBE 16 s.toNat) (aesEnc ks (nonce ++ natBE 4 1))

/-- AES-256-GCM encryption: ciphertext and 16-byte tag. -/
def gcmSeal (key nonce aad pt : List Byte) : List Byte × List Byte :=
  let ks := aesKeys key
  let ct := gctr ks nonce ((pt.length + 15) / 16) 2 pt
  (ct, gcmTag ks nonce aad ct)

/-- AES-256-GCM decryption: the plaintext when the tag matches. -/
def gcmOpen (key nonce aad ct tag : List Byte) : Option (List Byte) :=
  let ks := aesKeys key
  if gcmTag ks nonce aad ct = tag then some (gctr ks nonce ((ct.length + 15) / 16) 2 ct) else none

/-! ## RFC 3394 key wrap -/

/-- One pass of the wrap over the registers `rs` with step numbers from `t` on. -/
def wrapPass (ks : List (List Byte)) : List (List Byte) → Nat → List Byte → List Byte × List (List Byte)
  | [], _, a => (a, [])
  | r :: rs, t, a =>
    let b := aesEnc ks (a ++ r)
    let (a', rs') := wrapPass ks rs (t + 1) (xorBytes (b.take 8) (natBE 8 t))
    (a', b.drop 8 :: rs')

/-- A 32-byte key wrapped under `kek`: 40 bytes. -/
def keyWrap (kek key : List Byte) : List Byte :=
  let ks := aesKeys kek
  let rs := (List.range 4).map fun i => slice key (8 * i) 8
  let (a, rs) := (List.range 6).foldl (fun (p : List Byte × List (List Byte)) j => wrapPass ks p.2 (4 * j + 1) p.1)
    (List.replicate 8 0xA6, rs)
  a ++ rs.flatten

/-- One pass of the unwrap over the registers, last first, step numbers down from `t`. -/
def unwrapPass (ks : List (List Byte)) : List (List Byte) → Nat → List Byte → List Byte × List (List Byte)
  | [], _, a => (a, [])
  | r :: rs, t, a =>
    let b := aesDec ks (xorBytes a (natBE 8 t) ++ r)
    let (a', rs') := unwrapPass ks rs (t - 1) (b.take 8)
    (a', b.drop 8 :: rs')

/-- The key a 40-byte wrap holds under `kek`, when its integrity check passes. -/
def keyUnwrap (kek w : List Byte) : Option (List Byte) :=
  let ks := aesKeys kek
  let rs := ((List.range 4).map fun i => slice w (8 + 8 * i) 8).reverse
  let (a, rs) := (List.range 6).foldl (fun (p : List Byte × List (List Byte)) j => unwrapPass ks p.2 (24 - 4 * j) p.1)
    (w.take 8, rs)
  if w.length = 40 && a == List.replicate 8 0xA6 then some rs.reverse.flatten else none

end Sys2Proof.Machine
end

