-- ==== Sys2Proof/Machine/Slices.lean ====
section
/-! DEFINITION. Samples of pixel groups, Trellis messages, and the master's forwarding of slices (spec/04 R112, R113;
spec/13 R398, R406, R407; spec/05 R152). -/

namespace Sys2Proof.Machine

/-! ## Pixel groups (R112, R113) -/

/-- Pixels per pixel group of a sample format (R112). -/
def ppgOf : Nat → Nat
  | 1 => 4 | 2 => 2 | _ => 1

/-- Bytes of a pixel group (R112). -/
def groupBytes : Nat → Nat
  | 0 => 3 | 1 => 15 | 2 => 9 | _ => 6

/-- Bits of one sample. -/
def sampleBits : Nat → Nat
  | 0 => 8 | 1 => 10 | 2 => 12 | _ => 16

/-- Whether a pixel of a group has a sample in a poisoned word: pixel `i` of the group's bytes. -/
def pixelBad (fmt i : Nat) (l : List (Byte × Bool)) : Bool :=
  let b := 3 * sampleBits fmt
  ((l.take ((i * b + b + 7) / 8)).drop (i * b / 8)).any (·.2)

/-- Whether sample `j` of pixel `i` of a group's bytes has a bit in a poisoned word. -/
def sampleBad (fmt i j : Nat) (l : List (Byte × Bool)) : Bool :=
  let b := (3 * i + j) * sampleBits fmt
  ((l.take ((b + sampleBits fmt + 7) / 8)).drop (b / 8)).any (·.2)

/-- Sample `j` (0 red, 1 green, 2 blue) of pixel `i` of a group, most significant bit first. -/
def sampleOf (fmt i j : Nat) (l : List Byte) : Nat :=
  let d := sampleBits fmt
  beNat l / 2 ^ (8 * l.length - (3 * i + j + 1) * d) % 2 ^ d

/-- A group's bytes with every pixel that has a sample in a poisoned word zero (R152). -/
def cleanGroup (fmt : Nat) (l : List (Byte × Bool)) : List Byte :=
  if !(l.any (·.2)) then l.map (·.1) else
  let bs := l.map (·.1)
  let d := sampleBits fmt
  let v := (List.range (ppgOf fmt * 3)).foldl (fun v k =>
    v * 2 ^ d + (if pixelBad fmt (k / 3) l then 0 else sampleOf fmt (k / 3) (k % 3) bs)) 0
  natBE (groupBytes fmt) v

/-- Bytes of whole groups with their poisoned pixels zero; `fuel` bounds the groups. -/
def cleanGroups (fmt : Nat) : Nat → List (Byte × Bool) → List Byte
  | 0, _ => []
  | n + 1, l => if l.isEmpty then [] else cleanGroup fmt (l.take (groupBytes fmt)) ++ cleanGroups fmt n (l.drop (groupBytes fmt))

/-! ## Messages (R398, R297) -/

/-- A message's CRC word: CRC-32C over header and body, each word's least significant byte first. -/
def wordsCrc (l : List Word) : Word := crc32c (l.flatMap wordBytes)

/-- The header of a Trellis message (R398). -/
def trlHead (type dest : Nat) (bcast : Bool) (len : Nat) (mseq : BitVec 12) : Word :=
  BitVec.ofNat 32 (type * 2 ^ 28 + dest * 2 ^ 25 + b2n bcast * 2 ^ 24 + len * 2 ^ 12 + mseq.toNat)

/-- Words that go out on a side as a Trellis message; what a reset of XQ_TRL_TX caught is lost (R468). -/
def Chip.trlPass (c : Chip) (down : Bool) (l : List Word) : Chip :=
  if c.cutOff [0x42] then c.cutDone [0x42] else c.emit (.trl down (l ++ [wordsCrc l]))

/-- A Trellis message sent on one side, where that side is up (R397). -/
def Chip.trlRaw (c : Chip) (down : Bool) (type dest : Nat) (bcast : Bool) (mseq : BitVec 12) (body : List Word) : Chip :=
  if c.up .trl && c.rb rTRL_STATUS 0 0 (if down then 2 else 1) then c.trlPass down (trlHead type dest bcast body.length mseq :: body) else c

/-- A message of the module's own, with the next sequence number. -/
def Chip.trlSend (c : Chip) (down : Bool) (type dest : Nat) (bcast : Bool) (body : List Word) : Chip :=
  let m := c.trl.mseq
  ({ c with trl := { c.trl with mseq := m + 1 } }).trlRaw down type dest bcast m body

/-- The module's stack position (R395). -/
def Chip.pos (c : Chip) : Nat := c.rf rSTRAP 0 0 2 0

/-! ## Slice forwarding (R406, R407) -/

/-- Forwarding of canvas `cv`. -/
def Chip.fwd (c : Chip) (cv : Nat) : SlFwd := mget ({} : SlFwd) c.trl.fwd cv

/-- Forwarding of canvas `cv` set. -/
def Chip.setFwd (c : Chip) (cv : Nat) (x : SlFwd) : Chip := { c with trl := { c.trl with fwd := mset ({} : SlFwd) c.trl.fwd cv x } }

/-- Whether the master can reach the follower at position `q`: its downstream side is up and the follower is not lost
(R409, R410). -/
def Chip.trlReach (c : Chip) (q : Nat) : Bool := c.rb rTRL_STATUS 0 0 2 && !c.trl.lost.getLsbD q

/-- The enabled slices of source canvas `cv` that can be sent. -/
def Chip.slicesOf (c : Chip) (cv : Nat) : List Nat :=
  (List.range 16).filter fun s =>
    c.rb rTRL_SL s 0 31 && c.rf rTRL_SL s 0 27 26 = cv && c.trlReach (c.rf rTRL_SL s 0 30 28)

/-- Words of bytes, the last one padded with zero bytes. -/
def packWords : Nat → List Byte → List Word
  | 0, _ => []
  | n + 1, l => if l.isEmpty then [] else leWordAt l 0 :: packWords n (l.drop 4)

/-- One row of a slice sent as SLICE messages of at most 1,024 words each, whole pixel groups in whole words. -/
def Chip.sliceRow (c : Chip) (dest dcanv fmt row : Nat) : Nat → Nat → List Byte → Chip
  | 0, _, _ => c
  | n + 1, col, l =>
    if l.isEmpty then c else
    let gb := groupBytes fmt
    let groups := 4096 / (4 * gb) * 4
    let part := l.take (groups * gb)
    let w := BitVec.ofNat 32 (dcanv * 2 ^ 30 + row * 2 ^ 16 + col)
    (c.trlSend true 3 dest false (w :: packWords part.length part)).sliceRow dest dcanv fmt row n
      (col + groups * ppgOf fmt) (l.drop (groups * gb))

/-- Slice `s` of buffer `b` read as master 8 in row order and sent (R407). -/
def Chip.sliceSend (c : Chip) (cv b s : Nat) : Chip :=
  let fmt := c.rf rCANV_CTRL cv 0 1 0
  let gb := groupBytes fmt
  let ppg := ppgOf fmt
  let rowB := (c.rf rCANV_SIZE cv 0 12 0 + 1 + ppg - 1) / ppg * gb
  let stride := (rowB + 63) / 64 * 64
  let base := (c.rd rCANV_BASE cv b).toNat
  let x := c.rf rTRL_SL_ORG s 0 12 0
  let y := c.rf rTRL_SL_ORG s 0 28 16
  let w := c.rf rTRL_SL_EXT s 0 12 0 + 1
  let h := c.rf rTRL_SL_EXT s 0 28 16 + 1
  let n := w / ppg * gb
  c.each (List.range h) fun c i =>
    let (c, l) := c.celBytes .trellis (base + (y + i) * stride + x / ppg * gb) n
    c.sliceRow (c.rf rTRL_SL s 0 30 28) (c.rf rTRL_SL s 0 25 24) fmt (c.rf rTRL_SL_DORG s 0 28 16 + i) (n + 1)
      (c.rf rTRL_SL_DORG s 0 12 0) (cleanGroups fmt (n + 1) l)

/-- Slices abandoned with no SLICE_END (R407). -/
def Chip.sliceAbandon (c : Chip) (n : Nat) : Chip := ((c.inc rTRL_CNT 2 0 n).log 0x0E 0xE6).irq 187

/-- Forwarding of buffer `b` of canvas `cv` starts. DESIGN CHOICE (log entry 188): a frame whose descriptor reads poisoned
is abandoned. -/
def Chip.sliceStart (c : Chip) (cv b : Nat) : Chip :=
  let sl := c.slicesOf cv
  if sl.isEmpty then c.setFwd cv {} else
  match c.celGets .trellis (0x96000000 + 0x80 * cv + 0x20 * (b + 1)) 5 with
  | (c, none) => (c.sliceAbandon sl.length).setFwd cv {}
  | (c, some d) =>
    let j : SlJob := { buf := b, seq := d.getD 1 0, ts := (d.drop 2).take 3, incomplete := bit (d.getD 0 0) 0, slices := sl }
    (c.setFwd cv { cur := some j, waiting := none }).each sl fun c s => c.sliceSend cv b s

/-- SLICE_FORWARD (R407): a source canvas frame became READY in buffer `b`. A frame that finds an earlier one still
being forwarded waits; only the newest waits, each passed over is counted. -/
def Chip.sliceForward (c : Chip) (cv b : Nat) : Chip :=
  if !(c.up .trl && c.pos = 0 && c.rb rTRL_CTRL 0 0 0 && c.rb rTRL_CTRL 0 0 3) || (c.slicesOf cv).isEmpty then c else
  let f := c.fwd cv
  match f.cur with
  | none => c.sliceStart cv b
  | some _ =>
    let c := if f.waiting.isSome then (((c.inc rTRL_CNT 1 0).wb rTRL_STATUS 0 0 5 true).log 0x0E 0xE5).irq 187 else c
    c.setFwd cv { f with waiting := some b }

/-- The newest waiting frame starts when forwarding of canvas `cv` ends. -/
def Chip.sliceNext (c : Chip) (cv : Nat) : Chip :=
  match (c.fwd cv).waiting with
  | some b => c.sliceStart cv b
  | none => c.setFwd cv {}

/-- A frame being forwarded whose buffer has left READY and PRESENTING is abandoned with no SLICE_END (R407). -/
def Chip.sliceCheck (c : Chip) (cv : Nat) : Chip :=
  match (c.fwd cv).cur with
  | none => c
  | some j =>
    match c.celGet .trellis (0x96000000 + 0x80 * cv) with
    | (c, none) => c
    | (c, some w) => if fld w (2 * j.buf + 1) (2 * j.buf) ≥ 2 then c else (c.sliceAbandon j.slices.length).sliceNext cv

/-- The forwarding of canvas `cv` ends: SLICE_END for each of its slices, and the newest waiting frame starts. -/
def Chip.sliceDone (c : Chip) (cv : Nat) : Chip :=
  let c := c.sliceCheck cv
  match (c.fwd cv).cur with
  | none => c
  | some j =>
    let c := c.each j.slices fun c s =>
      (c.trlSend true 4 (c.rf rTRL_SL s 0 30 28) false
        ([BitVec.ofNat 32 (c.rf rTRL_SL s 0 25 24 * 2 ^ 30), j.seq] ++ j.ts ++ [BitVec.ofNat 32 (b2n j.incomplete)])).inc rTRL_CNT 0 0
    c.sliceNext cv

end Sys2Proof.Machine
end

