-- ==== Sys2Proof/Machine/Pixel.lean ====
section
/-! DEFINITION. The pixel pipeline (spec/07): its five stages in exact integer arithmetic, the transfer tables and their
supplied curves, calibration records and their conversion. -/

namespace Sys2Proof.Machine

/-! ## Stage 1 (R211) -/

/-- A sample widened to N16 by replicating its top bits. -/
def n16 (fmt v : Nat) : Nat :=
  match fmt with
  | 0 => v * 256 + v
  | 1 => v * 64 + v / 16
  | 2 => v * 16 + v / 256
  | _ => v

/-! ## Stage 2 (R212..R214) -/

/-- The table canvas `cv` uses. -/
def Chip.lutOf (c : Chip) (cv : Nat) : Nat := 2 * cv + b2n (c.rb rSH_SEL 0 1 (2 + cv))

/-- Stage 2 on one component with table `t`. -/
def Chip.linear (c : Chip) (t x : Nat) : Nat :=
  let i := x / 64
  let f := x % 64
  min 1048575 (((c.rd rPIX_LUT t i).toNat * (64 - f) + (c.rd rPIX_LUT t (i + 1)).toNat * f + 32) / 64)

/-- The greatest `y` below `hi` with `p y`, for a `p` that is true up to some number: halving `n` times from `lo`. -/
def bisect (p : Nat → Bool) : Nat → Nat → Nat → Nat
  | 0, lo, _ => lo
  | n + 1, lo, hi => let m := (lo + hi) / 2; if p m then bisect p n m hi else bisect p n lo m

/-- round(1,048,575 × (x / 65,535)^(a/5)), exactly: the greatest y with (2y − 1)^5 · 65,535^a ≤ (2 · 1,048,575)^5 · x^a. -/
def gammaEntry (a x : Nat) : Nat :=
  bisect (fun y => y = 0 || (2 * y - 1) ^ 5 * 65535 ^ a ≤ (2 * 1048575) ^ 5 * x ^ a) 22 0 (2 ^ 21)

/-- The ST 2084 EOTF of x / 65,535, as a fraction of 10,000 cd/m². -/
def pqCurve (x : Nat) : Int :=
  if x = 0 then 0 else
  let p := fxPow (fxOf x 65535) (fxOf 4096 (2523 * 128))
  let c1 := fxOf 3424 4096
  let c2 := fxOf (2413 * 32) 4096
  let c3 := fxOf (2392 * 32) 4096
  let q := fxDiv (max 0 (p - c1)) (c2 - fxMul c3 p)
  if q ≤ 0 then 0 else fxPow q (fxOf 16384 2610)

/-- The inverse OETF of BT.2100 HLG of x / 65,535. -/
def hlgCurve (x : Nat) : Int :=
  let e := fxOf x 65535
  if 2 * x ≤ 65535 then fxMul e e / 3
  else (fxExp (fxDiv (e - fxOf 55991073 100000000) (fxOf 17883277 100000000)) + fxOf 28466892 100000000) / 12

/-- Entry `i` of supplied curve `v` (R214). -/
def curveEntry (v i : Nat) : Nat :=
  let x := 64 * i
  match v with
  | 0 => (2 * 1048575 * x + 65535) / (2 * 65535)
  | 1 => gammaEntry 11 x
  | 2 => gammaEntry 12 x
  | 3 => (fxRound (1048575 * pqCurve x)).toNat
  | _ => (fxRound (1048575 * hlgCurve x)).toNat

/-! ## Stage 3 (R217..R219) -/

/-- The base address of calibration bank `b`. -/
def calBank (b : Nat) : Nat := 0x8C000000 + b * 0x03000000

/-- The address of tile record `t` of bank `b`. -/
def tileAddr (b t : Nat) : Nat := calBank b + 0x02D00000 + 32 * t

/-- A 16-bit two's complement number of two bytes, least significant first. -/
def s16 (b0 b1 : Byte) : Int := (b1 ++ b0 : BitVec 16).toInt

/-- Coefficient `i` of a tile record: its value, and whether its deltas are added (R219). -/
def coefOf (l : List (Byte × Bool)) (i : Nat) : Int × Bool :=
  let b0 := l.getD (2 * i) (0, false)
  let b1 := l.getD (2 * i + 1) (0, false)
  if b0.2 || b1.2 then (if i % 4 = 0 then 8192 else 0, false) else (s16 b0.1 b1.1, true)

/-- The coefficient and delta of place `i` combined and saturated (R218). -/
def coefSum (tile delta : List (Byte × Bool)) (i : Nat) : Int :=
  let (m, add) := coefOf tile i
  let d := delta.getD i (0, false)
  let k := if add && !d.2 then m + 4 * d.1.toInt else m
  max (-32768) (min 32767 k)

/-- Stage 3: the three outputs and how many were clamped. -/
def calibrate (tile delta : List (Byte × Bool)) (x : Nat × Nat × Nat) : (Nat × Nat × Nat) × Nat :=
  let row := fun r =>
    let acc := coefSum tile delta (3 * r) * x.1 + coefSum tile delta (3 * r + 1) * x.2.1 + coefSum tile delta (3 * r + 2) * x.2.2
    (acc + 4096) / 8192
  let cl := fun (y : Int) => y < 0 || y > 1048575
  let lim := fun (y : Int) => (max 0 (min 1048575 y)).toNat
  ((lim (row 0), lim (row 1), lim (row 2)), b2n (cl (row 0)) + b2n (cl (row 1)) + b2n (cl (row 2)))

/-! ## Stage 4 (R221, R222) -/

/-- The gain of three u1.15 factors. -/
def gainOf (b m d : Nat) : Nat := (min 65535 ((b * m + 16384) / 32768) * d + 16384) / 32768

/-- Stage 4 on one component. -/
def applyGain (g x : Nat) : Nat := min 1048575 ((x * g + 16384) / 32768)

/-- A derate factor as used: above 1.0 acts as 1.0. -/
def derUse (d : Nat) : Nat := min 0x8000 d

/-- The derate factor of node `a` of port `p`; none when its index is beyond the table. -/
def Chip.derate (c : Chip) (p a : Nat) : Option Nat :=
  let i := c.rf rDERBASE p 0 12 0 + a - 1
  if i > 8191 then none else some (derUse (mget 0x8000 c.pix.derA i))

/-- The factors B and M that zone `z` uses. -/
def Chip.zoneFactors (c : Chip) (z : Nat) : Nat × Nat :=
  let e := c.rd rPIX_ZONE (b2n (c.rb rSH_SEL 0 1 6)) z
  (if bit e 0 then (c.rd rSH_BRIGHT 0 1).toNat else 0x8000, if bit e 1 then mget 0x8000 c.pix.modA z else 0x8000)

/-- The fallback colour of zone `z` in the set in use. -/
def Chip.zoneColour (c : Chip) (z : Nat) : Nat × Nat × Nat := mget (0, 0, 0) c.pix.fbA z

/-! ## Stage 5 (R223..R225) -/

/-- Four bits reversed. -/
def bitrev4 (n : Nat) : Nat := n % 2 * 8 + n / 2 % 2 * 4 + n / 4 % 2 * 2 + n / 8 % 2

/-- A component reduced to 16 bits with dither value `d`. -/
def reduce16 (y d : Nat) : Nat := min 65535 ((y + d) / 16)

/-- The dither value of component `j` of emission `i` in frame `k`. -/
def Chip.dither (c : Chip) (k i j : Nat) : Nat := if c.rb rPIX_CTRL 0 0 0 then bitrev4 ((k + i + 4 * j) % 16) else 8

/-- The exponent of a BF43 block: the smallest from 0 to 6 that brings the maximum to ten bits. -/
def bfExp (m : Nat) : Nat := ((List.range 7).find? fun e => m / 2 ^ e ≤ 1023).getD 6

/-- A BF43 block of four components, 43 bits. -/
def bfBlock (a b x d : Nat) : Nat :=
  let e := bfExp (max (max a b) (max x d))
  (((e * 1024 + a / 2 ^ e) * 1024 + b / 2 ^ e) * 1024 + x / 2 ^ e) * 1024 + d / 2 ^ e

/-- The three blocks of four pixels, 129 bits. -/
def bfGroup (p q r s : Nat × Nat × Nat) : Nat :=
  (bfBlock p.1 q.1 r.1 s.1 * 2 ^ 43 + bfBlock p.2.1 q.2.1 r.2.1 s.2.1) * 2 ^ 43 + bfBlock p.2.2 q.2.2 r.2.2 s.2.2

/-! ## The transfer tables (R215, R216) -/

/-- Whether transfer table `t` is active for its canvas. -/
def Chip.lutActive (c : Chip) (t : Nat) : Bool := c.lutOf (t / 2) = t

/-- A refused fill or window write (R216). -/
def Chip.tblDeny (c : Chip) : Chip := ((c.inc rPIX_CNT 4 0).log 0x08 0x92).irq 91

/-- PIX_LUT_FILL written with GO (R215): the fill starts, or is refused for an active table or a reserved curve. -/
def Chip.lutFill (c : Chip) (old v : Word) : Chip :=
  if !bit v 31 then c
  else if bit old 31 then c.wr rLUT_FILL 0 0 (setBit (c.rd rLUT_FILL) 31 true)
  else
    let t := fld v 2 0
    let k := fld v 6 4
    if c.lutActive t || k > 4 then (c.wb rPIX_STATUS 0 0 1 true).tblDeny
    else
      let c := (c.wb rLUT_FILL 0 0 31 true).wb rPIX_STATUS 0 0 0 true
      { c with pix := { c.pix with fill := some (k, t) } }

/-- LUT_FILL_DONE (R215): the 1,025 entries are in the table. -/
def execLutFillDone (s : State) : Host.Outcome State Fault Refusal :=
  run (fun c => match if c.alive .pix then c.pix.fill else none with
    | none => c
    | some (k, t) =>
      let c := { c with pix := { c.pix with fill := none } }
      let c := (c.wb rLUT_FILL 0 0 31 false).wb rPIX_STATUS 0 0 0 false
      (c.each (List.range 1025) fun c i => c.wr rPIX_LUT t i (BitVec.ofNat 32 (curveEntry k i))).irq 88) s

/-- PIX_TBL_DATA: the entry at PIX_TBL_ADDR (R222). -/
def Chip.tblData (c : Chip) : Word :=
  let a := c.rd rTBL_ADDR
  let i := fld a 12 0
  BitVec.ofNat 32 (match bit a 16, bit a 15 with
    | false, false => mget 0x8000 c.pix.modA (i % 256)
    | false, true => mget 0x8000 c.pix.modS (i % 256)
    | true, false => mget 0x8000 c.pix.derA i
    | true, true => mget 0x8000 c.pix.derS i)

/-- A node's drive word of the frame set last built comes into use. -/
def NodeSt.use (x : NodeSt) : NodeSt := { x with wordA := x.word }

/-- The rest of the frame set comes into use (R335): the drive words, the DIAG selections, the pulse. -/
def Chip.driveSwap (c : Chip) : Chip :=
  let x := c.drv
  { c with drv := { x with
    nodes := (x.nodes.map fun n => (n.1, n.2.use)).filter fun n => n.2 ≠ {}
    ports := (x.ports.map fun p => (p.1, { p.2 with diagA := p.2.diag })).filter fun p => p.2 ≠ {}
    pulseA := x.pulse } }

/-- TABLE_SWAP (R222): the active and shadow copies of the tables change places. -/
def Chip.tableSwap (c : Chip) : Chip :=
  let c := c.driveSwap
  let x := c.pix
  { c with pix := { x with modA := x.modS, modS := x.modA, derA := x.derS, derS := x.derA, fbA := x.fbS, fbS := x.fbA } }

/-! ## Conversion (R220) -/

/-- A conversion refused. -/
def Chip.cvtRefuse (c : Chip) : Chip := ((c.wb rPIX_STATUS 0 0 3 true).log 0x08 0x91).irq 90

/-- PIX_CVT_CTRL written with GO: the conversion starts, or is refused; the destination leaves the bank when its deltas or its
tile record do not end within the bank's 48 MiB. -/
def Chip.cvtCtrl (c : Chip) (old v : Word) : Chip :=
  if !bit v 31 then c
  else if bit old 31 then (c.wb rCVT_CTRL 0 0 31 true).cvtRefuse
  else
    let b := fld v 0 0
    let tile := (c.rd rCVT_TILE).toNat
    let idx := (c.rd rCVT_IDX).toNat
    let n := (c.rd rCVT_CNT).toNat
    if b = c.rf rSH_SEL 0 1 1 1 || tile > 98303 || 9 * (idx + n) > 0x03000000 then c.cvtRefuse
    else
      let c := (c.wb rCVT_CTRL 0 0 31 true).wb rPIX_STATUS 0 0 2 true
      { c with pix := { c.pix with cvt := some ((c.rd rCVT_SRC).toNat, tile, idx, n, b) } }

/-- One delta: the nearest step, ties away from zero, and whether it was clamped. -/
def cvtDelta (coef base : Int) : Int × Bool :=
  let q := coef - base
  let d : Int := (q.natAbs + 2) / 4
  let d := if q < 0 then -d else d
  (max (-128) (min 127 d), d > 127 || d < -128)

/-- Coefficient `i` of a source record, and whether a word of it came poisoned. -/
def cvtCoef (l : List (Byte × Bool)) (i : Nat) : Int × Bool :=
  let x := l.getD (2 * i) (0, false)
  let y := l.getD (2 * i + 1) (0, false)
  (s16 x.1 y.1, x.2 || y.2)

/-- The nine deltas of a pixel record against the base record: their bytes, poisoned where a coefficient they come from is
(R152), and how many were clamped. -/
def cvtPixel (base pix : List (Byte × Bool)) : List (Byte × Bool) × Nat :=
  let d := (List.range 9).map fun i =>
    let p := cvtCoef pix i
    let b := cvtCoef base i
    (cvtDelta p.1 b.1, p.2 || b.2)
  (d.map fun x => (BitVec.ofInt 8 x.1.1, x.2), (d.filter fun x => x.1.2 && !x.2).length)

/-- The deltas of `n` pixel records from `src` on, one after another, and how many coefficients were clamped. -/
def Chip.cvtLoop (c : Chip) (base : List (Byte × Bool)) (src : Nat) : Nat → List (Byte × Bool) → Nat → Chip × List (Byte × Bool) × Nat
  | 0, o, k => (c, o, k)
  | n + 1, o, k =>
    let (c, l) := c.celBytes .dma src 18
    let (d, m) := cvtPixel base l
    c.cvtLoop base (src + 18) n (o ++ d) (k + m)

/-- CVT_DONE (R220): the base record and the deltas are in the bank. -/
def execCvtDone (s : State) : Host.Outcome State Fault Refusal :=
  run (fun c => match if c.alive .pix then c.pix.cvt else none with
    | none => c
    | some (src, tile, idx, n, b) =>
      let c := { c with pix := { c.pix with cvt := none } }
      let c := (c.wb rCVT_CTRL 0 0 31 false).wb rPIX_STATUS 0 0 2 false
      let (c, base) := c.celBytes .dma src 32
      let c := (c.celWriteFlagged .dma true (tileAddr b tile) base).1
      let (c, d, k) := c.cvtLoop base (src + 32) n [] 0
      let c := (c.celWriteFlagged .dma true (calBank b + 9 * idx) d).1
      let c := if k > 0 then (c.inc rPIX_CNT 1 0 k).log 0x08 0x90 else c
      c.irq 89) s

end Sys2Proof.Machine
end

