-- ==== Sys2Proof/Machine/PortState.lean ====
section
/-! DEFINITION. Ports as the raster engine, the Press, DRV and the pair see them: their state, mode, rate and payload
rings, and the cells they send (spec/09 R262..R270; spec/10 R296..R312; spec/12 R361, R362). -/

namespace Sys2Proof.Machine

/-- Port `p` beside its registers. -/
def Chip.port (c : Chip) (p : Nat) : Port := mget ({} : Port) c.ports p

/-- Port `p` set. -/
def Chip.setPort (c : Chip) (p : Nat) (x : Port) : Chip := { c with ports := mset ({} : Port) c.ports p x }

/-- The DRV block's part of the state set. -/
def Chip.setDrv (c : Chip) (x : DrvSt) : Chip := { c with drv := x }

/-- A port's blanking state. -/
def Chip.drvPort (c : Chip) (p : Nat) : DrvPort := mget ({} : DrvPort) c.drv.ports p

/-- A port's blanking state set. -/
def Chip.setDrvPort (c : Chip) (p : Nat) (x : DrvPort) : Chip := c.setDrv { c.drv with ports := mset ({} : DrvPort) c.drv.ports p x }

/-- The number of a drive cell, from its item header. -/
def OwnCell.driveIdx (k : OwnCell) : Nat := (fld (k.words.getD 0 0) 15 0 - 1) / 61

/-- Port `p` sends no more blanking cells in this frame; the next one starts at the first drive cell not sent (R337, R338). -/
def Chip.blankStop (c : Chip) (p : Nat) : Chip :=
  let l := (c.port p).blank
  let c := c.setPort p { c.port p with blank := [] }
  match l.find? fun k => fld k.head 31 28 = 3 with
  | some k => c.setDrvPort p { c.drvPort p with cursor := k.driveIdx }
  | none => c

/-- Bank `k` beside its registers. -/
def Chip.bank (c : Chip) (k : Nat) : Bank := mget ({} : Bank) c.banks k

/-- Bank `k` set; PORT_BSTAT, with the family its modes make and the rate of the active RAS_SH_MODE (R263), and the RETRAIN and WDHOLD bits of its ports
follow. -/
def Chip.setBank (c : Chip) (k : Nat) (x : Bank) : Chip :=
  let c := { c with banks := mset ({} : Bank) c.banks k x }
  let busy := x.pend || x.step ≠ 0
  let c := c.wr rBSTAT k 0 (BitVec.ofNat 32 (b2n (!busy && x.newFamily ≠ 0) * 2 ^ 31 + b2n busy * 2 ^ 30 + b2n x.wdhold * 2 ^ 29
    + x.newFamily * 2 ^ 24 + (if x.newFamily = 1 then x.newRate else 0)))
  c.each (List.range 8) fun c i => (c.wb rPORT_STATUS (8 * k + i) 0 12 busy).wb rPORT_STATUS (8 * k + i) 0 13 (x.wdhold && c.rf rPORT_STATUS (8 * k + i) 0 1 0 = 1)

/-- MODE_NOW of port `p`: 0 OFF, 1 LANE, 2 PULSE, 3 DMX. -/
def Chip.modeNow (c : Chip) (p : Nat) : Nat := c.rf rPORT_STATUS p 0 1 0

/-- Port `p` runs in LANE mode. -/
def Chip.isLane (c : Chip) (p : Nat) : Bool := c.modeNow p = 1

/-- A port's bank. -/
def bankOf (p : Nat) : Nat := p / 8

/-- The odd port of a ring pair (R277). -/
def Chip.ringOdd (c : Chip) (p : Nat) : Bool := p % 2 = 1 && (c.port p).ringNow

/-- A port cause set (R291); settle raises the interrupt. -/
def Chip.portCause (c : Chip) (p b : Nat) : Chip := c.wb rPIRQ_STAT p 0 b true

/-- A setting refused (R263, R277, R279, R283): CFG_ERR, its cause and the log. -/
def Chip.cfgErr (c : Chip) (p : Nat) : Chip := ((c.wb rPORT_STATUS p 0 5 true).portCause p 7).log (0x10 + p) 0xB5

/-- One cell time at the lane rate of port `p`'s bank, in ns: 64 words of 32 bits (R178). -/
def Chip.cellTime (c : Chip) (p : Nat) : Nat := 2048 * 2 ^ (3 - (c.bank (bankOf p)).rate % 4)

/-! ## Pairs (R361, R362, R368) -/

/-- CDR_STATUS.STATE: 0 SOLO, 1 JOINING, 2 SYNCING, 3 STANDBY, 4 ACTIVE. -/
def Chip.pairState (c : Chip) : Nat := c.rf rCDR_STATUS 0 0 2 0

/-- Bit `p` of a 48-bit mask held in two registers. -/
def maskBit (lo hi : Word) (p : Nat) : Bool := if p < 32 then bit lo p else bit hi (p - 32)

/-- Port `p` is a paired port: a LANE port of CDR_PMASK while the unit is paired (R359). -/
def Chip.paired (c : Chip) (p : Nat) : Bool :=
  c.pairState ≠ 0 && c.isLane p && maskBit (c.rd rCDR_PMASK_LO) (c.rd rCDR_PMASK_HI) p

/-- Port `p`'s chain is adopted (R376). -/
def Chip.adopted (c : Chip) (p : Nat) : Bool := maskBit (c.rd rCDR_ADOPT 0) (c.rd rCDR_ADOPT 1) p

/-- Port `p` is in witness mode: a paired port of a unit that is not ACTIVE, its chain not adopted, or a port of a unit
that has left the pair and waits for its window; it renders in shadow and sends nothing of its own (R361, R362, R369).
In a planned swap each port keeps its role until its window opens (R389). -/
def Chip.witness (c : Chip) (p : Nat) : Bool :=
  if c.cdr.swapLeft.getLsbD p then !c.cdr.swapOut
  else (c.paired p && c.pairState ≠ 4 && !c.adopted p && !(c.port p).holdFirst) || (c.port p).soloWait

/-- PULSE and DMX outputs are suppressed while a paired unit is not ACTIVE (R363). -/
def Chip.suppressed (c : Chip) : Bool := c.pairState ≠ 0 && c.pairState ≠ 4

/-- The epoch of port `p`'s own cells: 0 for an unpaired module, the peer's on an adopted port (R311, R376). -/
def Chip.epoch (c : Chip) (p : Nat) : Nat :=
  if c.pairState = 0 then 0 else if c.pairState ≠ 4 && c.adopted p then c.rf rCDR_EPOCH 0 0 31 16 else c.rf rCDR_EPOCH 0 0 15 0

/-! ## Payload rings (R266, R267, R269) -/

/-- The words of one bank of a producer's region on port `p`. -/
def Chip.region (c : Chip) (p : Nat) (raster : Bool) : Nat :=
  let s := min 64 (c.port p).pshare
  if raster then (64 - s) * 64 else s * 64

/-- The address of word `w` of a producer's ring. -/
def Chip.ringAddr (c : Chip) (p : Nat) (raster : Bool) (w : Nat) : Nat :=
  let r := max 1 (c.region p raster)
  0x50000000 + p * 0x8000 + w / r % 2 * 0x4000 + 4 * ((if raster then 0 else c.region p true) + w % r)

/-- A producer holds credits for `n` more words: it writes only into blocks of 64 words that have come back, and the
cell list holds 128 headers (R266, R267). -/
def Chip.room (c : Chip) (p : Nat) (raster : Bool) (n : Nat) : Bool :=
  let x := c.port p
  let wr := if raster then x.rasWr else x.prsWr
  let rd := if raster then x.rasRd else x.prsRd
  !x.crdBad && wr + n ≤ rd / 64 * 64 + 2 * c.region p raster && x.cells.length < 128

/-- Words stored in a producer's ring from word `w` on. -/
def Chip.ringPut (c : Chip) (p : Nat) (raster : Bool) : Nat → List Word → Chip
  | _, [] => c
  | w, v :: t => (c.setWord (c.ringAddr p raster w) v).ringPut p raster (w + 1) t

/-- Words of a producer's ring from word `w` on. -/
def Chip.ringGet (c : Chip) (p : Nat) (raster : Bool) (w n : Nat) : List Word :=
  (List.range n).map fun i => c.word (c.ringAddr p raster (w + i))

/-! ### Port queue entries (R268) -/

/-- An entry of XQ_PIX_Bk or XQ_STG_Bk for port `p`: operation `op`, up to four data words. -/
def pqEntry (p op : Nat) (ws : List Word) : BitVec 160 :=
  BitVec.ofNat 160 (p % 8 * 2 ^ 157 + op * 2 ^ 155 + (ws.length - 1) % 4 * 2 ^ 153
    + (ws.getD 3 0).toNat * 2 ^ 96 + (ws.getD 2 0).toNat * 2 ^ 64 + (ws.getD 1 0).toNat * 2 ^ 32 + (ws.getD 0 0).toNat)

/-- PORT, OP and data word `i` of an entry, and the words an entry of OP 1 carries. -/
def pqPort (e : BitVec 160) : Nat := (e.extractLsb' 157 3).toNat
def pqOp (e : BitVec 160) : Nat := (e.extractLsb' 155 2).toNat
def pqWord (e : BitVec 160) (i : Nat) : Word := e.extractLsb' (32 * i) 32
def pqWords (e : BitVec 160) : List Word := (List.range ((e.extractLsb' 153 2).toNat + 1)).map (pqWord e)

/-- Words in the entries of OP 1 that carry them, four to an entry. -/
def pqPayload (p : Nat) : List Word → List (BitVec 160)
  | a :: b :: c :: d :: t => pqEntry p 1 [a, b, c, d] :: pqPayload p t
  | [] => []
  | l => [pqEntry p 1 l]

/-- A cell, or with `op` 3 a record, as entries: its header, then its words. -/
def pqUnit (p op : Nat) (head : Word) (ws : List Word) : List (BitVec 160) := pqEntry p op [head] :: pqPayload p ws

/-- A cell committed: its payload in the producer's ring, its header in the cell list (R269); a port in loss of drive or
watchdog hold discards the raster's cells as they commit (R271, R273). -/
def Chip.cellWhole (c : Chip) (p : Nat) (raster : Bool) (head : Word) (ws : List Word) : Chip :=
  let x := c.port p
  if raster && (x.loss || (c.bank (p / 8)).wdhold) then c else
  let pos := if raster then x.rasWr else x.prsWr
  let c := c.ringPut p raster pos ws
  let x := { x with cells := x.cells ++ [({ raster := raster, head := head, pos := pos, len := ws.length } : PCell)] }
  c.setPort p (if raster then { x with rasWr := pos + ws.length } else { x with prsWr := pos + ws.length })

/-- A record committed (R258, R281): its body from the start of the filling bank, its header in the port's record register; it
takes the place of a whole record not yet sent. -/
def Chip.recordWhole (c : Chip) (p : Nat) (h : Word) (ws : List Word) : Chip :=
  let x := c.port p
  let d := if x.filling.isSome then c.inc rPORT_CNT p 6 else c
  let d := d.setWords (0x50000000 + p * 0x8000 + b2n (!x.drain) * 0x4000) ws
  d.setPort p { x with filling := some { addr := fld h 27 16, len := ws.length } }

/-- A cell, a record or a bank control taken from bank `k`'s queue (R268): a header with [15:8] 0 and the words that follow it, a
record header and its body, or the new lane rate with which the bank is to retrain (R196). DEDUCED (log entry 197): the queue
passes an entry at once. -/
def Chip.pqTake (c : Chip) (k : Nat) (raster : Bool) : List (BitVec 160) → Chip
  | [] => c
  | e :: t =>
    if pqOp e = 2 then c.setBank k { c.bank k with pend := true, newRate := fld (pqWord e 0) 1 0, newFamily := 1 }
    else if pqOp e = 3 then c.recordWhole (8 * k + pqPort e) (pqWord e 0) ((t.flatMap pqWords).take (fld (pqWord e 0) 15 0))
    else c.cellWhole (8 * k + pqPort e) raster (setFld (pqWord e 0) 15 8 0) (t.flatMap pqWords)

/-- A cell or record written through a bank's queue, XQ_PIX_Bk or XQ_STG_Bk; one that a reset of the queue caught is discarded
and holds no credits (R268, R468). -/
def Chip.viaQueue (c : Chip) (p : Nat) (raster : Bool) (l : List (BitVec 160)) : Chip :=
  let q := (if raster then 0x28 else 0x30) + bankOf p
  if c.cutOff [q] then c.cutDone [q] else c.pqTake (bankOf p) raster l

/-- A cell written by a producer through its bank's queue. -/
def Chip.commitCell (c : Chip) (p : Nat) (raster : Bool) (head : Word) (ws : List Word) : Chip := c.viaQueue p raster (pqUnit p 0 head ws)

/-- A record written by the stager through its bank's queue. -/
def Chip.commitRecord (c : Chip) (p : Nat) (h : Word) (ws : List Word) : Chip := c.viaQueue p false (pqUnit p 3 h ws)

/-- A cell's words leave its producer's ring: credits return with the block (R270). -/
def Port.consume (x : Port) (k : PCell) : Port :=
  if k.raster then { x with rasRd := k.pos + k.len } else { x with prsRd := k.pos + k.len }

/-- Every raster cell of the port discarded and its credits returned (R271, R272). -/
def Chip.dropRaster (c : Chip) (p : Nat) : Chip :=
  let x := c.port p
  c.setPort p { x with cells := x.cells.filter fun k => !k.raster, rasRd := x.rasWr }

/-! ## Cells (R296, R311, R312) -/

/-- A cell header with SEQ 0 (R296). -/
def cellHead (type addr len f0 : Nat) : Word := BitVec.ofNat 32 (type * 2 ^ 28 + addr % 4096 * 2 ^ 16 + len % 64 * 4 + f0)

/-- The epoch word (R311) of port `p` with frame tag `t`. -/
def Chip.epochWord (c : Chip) (p : Nat) (t : BitVec 8) : Word := BitVec.ofNat 32 (c.epoch p * 2 ^ 16 + t.toNat * 256)

/-- IDLE and HOLD cells of port `p`. -/
def Chip.idleCell (c : Chip) (p : Nat) : OwnCell := { head := cellHead 0 0 1 0, words := [c.epochWord p (c.port p).ftag] }
def Chip.holdCell (c : Chip) (p : Nat) : OwnCell := { head := cellHead 6 0 1 0, words := [c.epochWord p (c.port p).ftag] }

/-- The lane version port `p` runs: 1 or 2 (R325). -/
def Chip.laneVer (c : Chip) (p : Nat) : Nat := if c.rf rLCTRL p 0 1 0 = 2 then 2 else 1

/-- RECW in use: 3..6, other values act as 3. -/
def Chip.recw (c : Chip) (p : Nat) : Nat :=
  let r := c.rf rLCTRL p 0 10 8
  if 3 ≤ r && r ≤ 6 then r else 3

/-- The words of a cell the CRC covers: header, payload, pads (R296). -/
def cellBody (head : Word) (ws : List Word) : List Word := head :: (ws ++ List.replicate (62 - ws.length) 0)

/-- The trailer of a cell (R297). -/
def cellCrc (head : Word) (ws : List Word) : Word := wordsCrc (cellBody head ws)

/-- The 64 words of a cell (R296). -/
def cellWire (head : Word) (ws : List Word) : List Word := cellBody head ws ++ [cellCrc head ws]

/-- A cell goes out on port `p`, and on the odd port of its ring pair: SEQ in the header, the trailer appended, TX_CELLS
counted (R270, R277). -/
def Chip.putCell (c : Chip) (p : Nat) (head : Word) (ws : List Word) : Chip :=
  let x := c.port p
  let h := setFld head 15 8 x.seq.toNat
  let c := ((c.setPort p { x with seq := x.seq + 1 }).inc rPORT_CNT p 0).emit (.cell p (cellWire h ws))
  if p % 2 = 0 && x.ringNow then (c.inc rPORT_CNT (p + 1) 0).emit (.cell (p + 1) (cellWire h ws)) else c

/-- A keepalive: an IDLE cell with REFL = 1 and EPOCH 0 (R362). -/
def Chip.keepalive (c : Chip) (p : Nat) : Chip :=
  c.putCell p (setBit (cellHead 0 0 1 0) 1 true) [BitVec.ofNat 32 ((c.port p).ftag.toNat * 256)]

/-- A cell of the port's own: sent, or in witness mode consumed unsent, a keepalive filling the lane where no received
cell was returned (R361, R362). -/
def Chip.sendCell (c : Chip) (p : Nat) (head : Word) (ws : List Word) : Chip :=
  if !c.witness p then c.putCell p head ws
  else if (c.port p).returned then c.setPort p { c.port p with returned := false }
  else c.keepalive p

/-- A raw CRC carried on over words. -/
def crcOn (r : BitVec 32) (ws : List Word) : BitVec 32 := (ws.flatMap wordBytes).foldl (crcByte 0x82F63B78) r

/-- Payload words addressed to node `a` added to its expected signature (R202, R315). -/
def Chip.nodeCrcAdd (c : Chip) (p a : Nat) (ws : List Word) : Chip :=
  let k := p * 4096 + a
  { c with ras := { c.ras with nodeCrc := mset (0xFFFFFFFF : BitVec 32) c.ras.nodeCrc k (crcOn (mget 0xFFFFFFFF c.ras.nodeCrc k) ws) } }

/-- Port `p` has a VALID record in the run map of the frame in progress. -/
def Chip.fed (c : Chip) (p : Nat) : Bool := c.ras.fetch.any fun f => f.1 = p

/-- LANE port `p` is in no loss of drive and no watchdog hold, owes no RESUME after a HOLD, and repeats no other port. -/
def Chip.laneLive (c : Chip) (p : Nat) : Bool :=
  c.isLane p && !c.rb rPORT_STATUS p 0 14 && !(c.bank (bankOf p)).wdhold && !(c.port p).held && !c.ringOdd p

/-- Port `p` transmits: a live LANE port fed by the run map. -/
def Chip.transmitting (c : Chip) (p : Nat) : Bool := c.laneLive p && c.fed p

/-- A port's bank is up and neither relocking nor waiting to. -/
def Chip.bankReady (c : Chip) (p : Nat) : Bool :=
  let b := c.bank (bankOf p)
  c.up (.bank (bankOf p)) && !b.pend && b.step = 0

/-- A cell of the engine's own due at the next cell boundary. -/
def Chip.urge (c : Chip) (p : Nat) (k : OwnCell) : Chip :=
  let x := c.port p
  c.setPort p { x with urgent := x.urgent ++ [k] }

end Sys2Proof.Machine
end

