-- ==== Sys2Proof/Machine/Time.lean ====
section
/-! DEFINITION. The TIME block (spec/02): the local clock and its steps, comparators, the frame grid, capture units,
PPS_OUT and TIME_OUT, snapshots and transmit timestamps. -/

namespace Sys2Proof.Machine

/-! ## The local clock (R36, R41) -/

/-- One TS tick of the local clock (R36), while TIME_CTRL.RUN = 1. -/
def Chip.tick (c : Chip) : Chip :=
  if c.alive .ts && c.rb rTIME_CTRL 0 0 0 then
    let acc : Int := (c.time.now % nsPerSec : Nat) * 2 ^ 32 + c.time.frac.toNat + 2 * 2 ^ 32 + sgn (c.rd rTIME_ADDEND)
    let t := (c.time.now / nsPerSec * nsPerSec + (acc / 2 ^ 32).toNat) % clockMod
    { c with time := { c.time with now := t, frac := BitVec.ofInt 32 acc } }
  else c

/-- The clock a step request asks for (R41): the written TS80, or the exact signed sum, modulo 2^48 s. -/
def stepTarget (now : Nat) (r : StepReq) : Nat :=
  (((if r.rel then (now : Int) else 0) + r.val) % (clockMod : Int)).toNat

/-- The step request the registers spell (R41). DESIGN CHOICE (log entry 161): a NS field of 10^9 or more carries into the
seconds. -/
def Chip.stepRequest (c : Chip) : StepReq :=
  let mag := tsOf (c.rd rSTEP_NS) (c.rd rSTEP_SLO) (c.rd rSTEP_SHI)
  if c.rb rTIME_CTRL 0 0 3 then
    { rel := true, val := if c.rb rSTEP_SHI 0 0 31 then -(mag : Int) else mag }
  else { rel := false, val := mag }

/-- A write of TIME_CTRL.STEP = 1 (R41): the request is held, STEP_PEND reads 1; a pending one is replaced. -/
def Chip.stepWrite (c : Chip) (v : Word) : Chip :=
  if bit v 2 then
    let r := c.stepRequest
    let c := c.wb rTIME_STATUS 0 0 2 true
    { c with time := { c.time with stepReq := some r } }
  else c

/-- NC steps the clock by a signed offset (R41, R47, R400): it writes the step registers and STEP. -/
def Chip.stepBy (c : Chip) (d : Int) : Chip :=
  let m := d.natAbs
  let c := ((c.wr rSTEP_NS 0 0 (tsWord m 0)).wr rSTEP_SLO 0 0 (tsWord m 1)).wr rSTEP_SHI 0 0 (setBit (tsWord m 2) 31 (d < 0))
  (c.wb rTIME_CTRL 0 0 3 true).stepWrite (setBit 0 2 true)

/-! ## The frame grid (R60, R62) -/

/-- floor(F(k)) of a grid, in ns (R60). -/
def gridF (g : Grid) (k : Int) : Int := k * (g.num * nsPerSec) / g.den + g.ofs

/-- The least integer at or above a / b, for positive b. -/
def ceilDiv (a b : Int) : Int := -((-a) / b)

/-- The frame in progress at time `t`: the last k with floor(F(k)) at or before `t`, the most recent frame start (R60). -/
def gridK (g : Grid) (t : Nat) : Int := ceilDiv (((t : Int) + 1 - g.ofs) * g.den) (g.num * nsPerSec) - 1

/-- floor(F(k) + OFS_NS + j * P / DIV) for m = k * DIV + j (R51). -/
def gridTarget (g : Grid) (ofs : Int) (div : Nat) (m : Int) : Int :=
  m * (g.num * nsPerSec) / (g.den * div) + g.ofs + ofs

/-- The least m whose target is at or after `t`. -/
def gridFirst (g : Grid) (ofs : Int) (div : Nat) (t : Int) : Int :=
  ceilDiv ((t - g.ofs - ofs) * (g.den * div)) (g.num * nsPerSec)

/-- A value of 0 acts as 1 (R50, R60). -/
def zeroAsOne (n : Nat) : Nat := if n = 0 then 1 else n

/-- The grid now written in TIME_GRID_NUM, _DEN and _OFS (R60). -/
def Chip.gridWritten (c : Chip) : Grid :=
  { num := zeroAsOne (c.rf rGRID_NUM 0 0 15 0), den := zeroAsOne (c.rf rGRID_DEN 0 0 23 0), ofs := sgn (c.rd rGRID_OFS) }

/-- The switch frame of grid `g` for an APPLY at `t`: its first frame start at least two of its periods later (R62). -/
def switchFrame (g : Grid) (t : Nat) : Int := 2 + ceilDiv (((t : Int) - g.ofs) * g.den) (g.num * nsPerSec)

/-- A write of TIME_GRID_CTRL.APPLY (R62): schedules the grid now written; a pending one is replaced. -/
def Chip.gridApply (c : Chip) (v : Word) : Chip :=
  if bit v 0 then
    let g := c.gridWritten
    let k := switchFrame g c.now
    let c := c.wb rGRID_CTRL 0 0 1 true
    { c with time := { c.time with gridPend := some { grid := g, k := k, tick := gridF g k } } }
  else c

/-! ## Comparators (R49..R55, R592) -/

/-- Comparator `n`. -/
def Chip.cmp (c : Chip) (n : Nat) : Cmp := mget ({} : Cmp) c.time.cmps n

/-- Comparator `n` set; TIME_CMPn_CTRL.ARM reads 1 while it is armed. -/
def Chip.setCmp (c : Chip) (n : Nat) (x : Cmp) : Chip :=
  let c := c.wb rCMP_CTRL n 0 0 x.armed
  { c with time := { c.time with cmps := mset ({} : Cmp) c.time.cmps n x } }

/-- DIV in use: 0 means 1, above 64 acts as 64. -/
def divOf (n : Nat) : Nat := if n = 0 then 1 else min n 64

/-- What ARM latches from comparator `n`'s registers, with its first target (R51, R52, R592). -/
def Chip.armed (c : Chip) (n : Nat) : Cmp :=
  let mode := c.rf rCMP_CTRL n 0 3 2
  let div := divOf (c.rf rCMP_CTRL n 0 29 23)
  if mode = 2 then
    let ofs := sgn (c.rd rCMP_NS n)
    let m := gridFirst c.time.grid ofs div (c.now + 1)
    { armed := true, mode := 2, div := div, ofs := ofs, idx := m, target := (gridTarget c.time.grid ofs div m).toNat }
  else
    { armed := true, mode := mode, div := div, target := tsOf (c.rd rCMP_NS n) (c.rd rCMP_SLO n) (c.rd rCMP_SHI n)
      perNs := (c.rd rCMP_PER_NS n).toNat, perRem := c.rf rCMP_PER_REM n 0 23 0, perDen := zeroAsOne (c.rf rCMP_PER_DEN n 0 23 0) }

/-- A periodic comparator's target after one fire (R50). -/
def Cmp.advance (x : Cmp) : Cmp :=
  let r := x.rem + x.perRem
  if r ≥ x.perDen then { x with target := x.target + x.perNs + 1, rem := r - x.perDen }
  else { x with target := x.target + x.perNs, rem := r }

/-- A periodic comparator advanced by whole periods to its first target after `t` (R53). -/
def Cmp.catchUp (x : Cmp) (t : Nat) : Cmp :=
  let q := x.perNs * x.perDen + x.perRem
  let need : Int := ((t : Int) + 1 - x.target) * x.perDen - x.rem
  let j := if q = 0 then 1 else (ceilDiv need q).toNat
  let r := x.rem + j * x.perRem
  { x with target := x.target + j * x.perNs + r / x.perDen, rem := r % x.perDen }

/-- A 96-bit record into XQ_TS_EVT (R59): kind, unit and TS80 or phase. A record that finds the queue full is lost,
counted, logged and signalled (R58). -/
def Chip.evtPush (c : Chip) (kind unit : Nat) (body : BitVec 80) : Chip :=
  if c.time.evtQ.length ≥ 16 then ((c.incSat rCAP_LOST 0 0).log 0x01 0x12).irq 18
  else
    let r : BitVec 96 := BitVec.ofNat 8 kind ++ BitVec.ofNat 8 unit ++ body
    { c with time := { c.time with evtQ := c.time.evtQ ++ [r] } }

/-! ## Edges at the capture units (R56..R59) -/

/-- The fixed synchroniser delay of an external source, ns: 2 or 3 TS ticks (R18). -/
def syncDelay : Nat := 4 + 2 * (Config.syncExtra % 2)

/-- Capture unit `u` records an edge of source `src` registered at clock reading `now`. -/
def Chip.capture (c : Chip) (u src now : Nat) : Chip :=
  let t := if src ≤ 9 then now - syncDelay else now
  let body : BitVec 80 :=
    if c.rb rCAP_CTRL u 0 12 then
      (BitVec.ofInt 32 ((t : Int) - gridF c.time.grid (gridK c.time.grid t))).setWidth 80
    else tsPack t
  let full := c.time.evtQ.length ≥ 16
  let c := c.evtPush 1 u body
  if !full && c.rb rCAP_CTRL u 0 13 then c.irq (20 + u) else c

/-- Capture unit `u` selects this edge of source `src` (R56). -/
def Chip.selects (c : Chip) (src : Nat) (rising : Bool) (u : Nat) : Bool :=
  let e := c.rf rCAP_CTRL u 0 11 10
  c.rb rCAP_CTRL u 0 0 && c.rf rCAP_CTRL u 0 9 5 = src && (e = 2 || (e = 0 && rising) || (e = 1 && !rising))

/-- An edge at clock reading `now` offered to capture unit `u` (R56): counted against PRESCALE when the unit selects it; a
second one in the same tick is not (R58). -/
def Chip.edgeAt (c : Chip) (src : Nat) (rising : Bool) (now u : Nat) : Chip :=
  if c.selects src rising u && mget none c.time.capTick u ≠ some now then
    let n := mget 0 c.time.capCnt u + 1
    let hit := n > c.rf rCAP_CTRL u 0 31 16
    let c := { c with time := { c.time with capCnt := mset 0 c.time.capCnt u (if hit then 0 else n), capTick := mset none c.time.capTick u (some now) } }
    if hit then c.capture u src now else c
  else c

/-- An edge of source `src` at clock reading `now`, offered to every capture unit. -/
def Chip.edge (c : Chip) (src : Nat) (rising : Bool) (now : Nat := c.now) : Chip := c.each (List.range 8) fun c u => c.edgeAt src rising now u

/-- TIME_OUTj follows a fire of comparator `n` (R66). -/
def Chip.timeOut (c : Chip) (n j : Nat) : Chip :=
  let f := fld (c.rd rOUT_CTRL) (8 * j + 7) (8 * j)
  if f / 64 % 2 = 1 && f % 16 = n then
    let l := c.time.outLvl; let p := c.time.outPulse; let m := 1#4 <<< j
    match f / 16 % 4 with
    | 0 => { c with time := { c.time with outLvl := l ||| m } }
    | 1 => { c with time := { c.time with outLvl := l &&& ~~~m } }
    | 2 => { c with time := { c.time with outLvl := l ^^^ m } }
    | _ => { c with time := { c.time with outLvl := l ||| m, outPulse := p ||| m } }
  else c

/-- The stack master drives STK_SYNC from the comparator of destination 5 (R403). -/
def Chip.stkDrive (c : Chip) : Chip :=
  if c.rf rSTRAP 0 0 2 0 = 0 && c.rb rTRL_CTRL 0 0 1 then c.emit .stkSync else c

/-- What a fire of comparator `n` at clock reading `t` delivers (R55, R66): its destination, its event record, its
PEND and LATE bits, the TIME_OUT lands that follow it, and one rising edge for the capture units that select it (R56;
DEDUCED, log entry 173). -/
def Chip.deliver (c : Chip) (n t : Nat) (late : Bool) : Chip :=
  let ctl := c.rd rCMP_CTRL n
  let dest := fld ctl 18 15
  let c := c.emit (.tcmp n dest)
  let c :=
    if dest = 1 then
      let e := (if late then t else (c.cmp n).target, c.time.switchMark)
      let q := if c.time.pixQ.length < 4 then c.time.pixQ ++ [e] else c.time.pixQ
      { c with time := { c.time with pixQ := q, switchMark := false } }
    else if dest = 2 then { c with ras := { c.ras with commitDue := c.ras.commitDue + 1 } }
    else if dest = 3 then { c with prs := { c.prs with kickDue := c.prs.kickDue + 1 } }
    else if dest = 4 then c.inc rPWM_CNT 0 0
    else if dest = 5 then c.stkDrive
    else if dest = 6 then { c with dma := { c.dma with cmpReq := c.dma.cmpReq ++ [fld ctl 22 19] } } else c
  let c := if bit ctl 4 then c.evtPush (if late then 3 else 2) n (tsPack t) else c
  let c := if late then ((c.wb rCMP_PEND 0 0 (16 + n) true).log 0x01 0x13).irq 29 else c
  let c := if bit ctl 5 then (c.wb rCMP_PEND 0 0 n true).irq 28 else c
  (c.each [0, 1, 2, 3] fun c j => c.timeOut n j).edge (16 + n) true t

/-- A comparator after its fire at `t`; `passed` when a forward step passed its target (R49, R50, R51, R53). -/
def Chip.afterFire (c : Chip) (x : Cmp) (t : Nat) (passed : Bool) : Cmp :=
  match x.mode with
  | 0 => { x with armed := false }
  | 1 => if passed then x.catchUp t else x.advance
  | _ =>
    let m := if passed then gridFirst c.time.grid x.ofs x.div (t + 1) else x.idx + 1
    { x with idx := m, target := (gridTarget c.time.grid x.ofs x.div m).toNat }

/-- Comparator `n` fires at `t`. -/
def Chip.fire (c : Chip) (n t : Nat) (late passed : Bool) : Chip :=
  let x := c.cmp n
  (c.deliver n t late).setCmp n (c.afterFire x t passed)

/-- Whether comparator `n` fires on a tick whose clock reading is `t` (R49, R52, R62): it is armed, and `t` is the first
reading at or after its target; a gridded one drops its targets from the switch tick of a pending grid on. -/
def Chip.fires (c : Chip) (n t : Nat) : Bool :=
  let x := c.cmp n
  let first := if x.target ≤ c.now then t = c.now
    else x.target ≤ t && t ≤ x.target + 2 && c.rb rTIME_CTRL 0 0 0
  let dropped := match c.time.gridPend with
    | some p => x.mode = 2 && p.tick ≤ (x.target : Int)
    | none => false
  x.armed && first && !dropped

/-- A comparator whose match of the tick in progress has not been taken yet fires (R54). -/
def Chip.matchNow (c : Chip) (n : Nat) : Chip :=
  if c.alive .ts && (c.cmp n).target ≤ c.now && c.fires n c.now then c.fire n c.now false false else c

/-- A write of TIME_CMPn_CTRL with its ARM and DISARM bits (R592): both leave it disarmed, an ARM of MODE 3 is refused
and leaves it disarmed; one of a target that has passed fires it on the next tick, late (R52; DEDUCED,
log entry 180). -/
def Chip.cmpCtrl (c : Chip) (n : Nat) (v : Word) : Chip :=
  if bit v 1 then c.setCmp n { c.cmp n with armed := false }
  else if bit v 0 then
    if c.rf rCMP_CTRL n 0 3 2 = 3 then c.setCmp n { c.cmp n with armed := false }
    else
      let past := (c.armed n).mode ≠ 2 && (c.armed n).target ≤ c.now
      let c := c.setCmp n (c.armed n)
      if past then c.fire n c.tick.now true false else c
  else c

/-- CMP_FIRE (R49): comparator `n` fires on the tick whose clock reading is `t`. -/
def execCmpFire (n : Fin 16) (t : Nat) (s : State) : Host.Outcome State Fault Refusal :=
  run (fun c => if c.alive .ts && c.fires n t then
      let c := { c with time := { c.time with now := t } }
      c.fire n t false false
    else c) s

/-! ## Steps (R41, R53, R65) -/

/-- PPS_OUT may be driven in the servo state now written (R65). -/
def Chip.ppsAllowed (c : Chip) : Bool :=
  let st := c.rf rTIME_SERVO 0 0 2 0
  match c.rf rPPS_CTRL 0 0 1 0 with
  | 0 => false
  | 1 => true
  | 2 => st = 2 || st = 3
  | _ => st = 2

/-- A rising edge of PPS_OUT, where its land is driven; the pulse runs whether it is or not. -/
def Chip.ppsRise (c : Chip) : Chip :=
  let c := { c with time := { c.time with ppsPulse := true } }
  if c.ppsAllowed then ({ c.irq 30 with time := { c.time with ppsOut := true } }).edge 10 true else c

/-- PPS_OUT goes low. -/
def Chip.ppsLow (c : Chip) : Chip :=
  if c.time.ppsOut then ({ c with time := { c.time with ppsOut := false } }).edge 10 false else c

/-- GATE or the servo state has changed (R65): outside the states selected PPS_OUT is held low; within them a pulse that
runs drives it, its rise an edge as any other (DESIGN CHOICE, log entry 221). -/
def Chip.ppsGate (c : Chip) : Chip :=
  if !c.ppsAllowed then c.ppsLow
  else if c.time.ppsPulse && !c.time.ppsOut then c.ppsRise else c

/-- The pending step takes effect (R41): the clock, STEPPED, interrupt 17 and the log; a forward step fires each
comparator whose target it passed once, late (R53; a target equal to the new time counts as passed: DESIGN CHOICE, log entry
162); a crossed second boundary gives one edge of PPS_OUT (R65). -/
def Chip.stepApply (c : Chip) : Chip :=
  match c.time.stepReq with
  | none => c
  | some r =>
    let old := c.now
    let t := stepTarget old r
    let x := c.time.servo
    let d : Int := (t : Int) - old
    let c := { c with time := { c.time with now := t, frac := 0, stepReq := none, servo := { x with holdStart := x.holdStart + d, runMark := x.runMark + d } } }
    let c := (((c.wb rTIME_STATUS 0 0 2 false).wb rTIME_STATUS 0 0 1 true).log 0x01 0x11).irq 17
    let c := c.each (List.range 16) fun c n =>
      if (c.cmp n).armed && old < (c.cmp n).target && (c.cmp n).target ≤ t then c.fire n t true true else c
    if t / nsPerSec ≠ old / nsPerSec then c.ppsRise else c

/-- STEP_APPLY (R41). -/
def execStepApply (s : State) : Host.Outcome State Fault Refusal := run (fun c => c.when (c.alive .ts) Chip.stepApply) s

/-- GRID_SWITCH (R62): at the switch tick every gridded comparator takes the earliest new-grid target at or after it;
interrupt 31 is raised. A forward step past the switch tick changes neither that choice nor the old-grid targets still
fired until this command (DESIGN CHOICE, log entry 163). -/
def Chip.gridSwitch (c : Chip) : Chip :=
  match c.time.gridPend with
  | none => c
  | some p =>
    if (c.now : Int) < p.tick && !c.rb rTIME_CTRL 0 0 0 then c else
    let t := max c.now p.tick.toNat
    let c := { c with time := { c.time with now := t, grid := p.grid, gridPend := none, switchMark := true } }
    let c := c.wb rGRID_CTRL 0 0 1 false
    let c := c.each (List.range 16) fun c n =>
      let x := c.cmp n
      if x.armed && x.mode = 2 then
        let m := gridFirst p.grid x.ofs x.div p.tick
        c.setCmp n { x with idx := m, target := (gridTarget p.grid x.ofs x.div m).toNat }
      else c
    (c.log 0x01 0x14).irq 31

/-- GRID_SWITCH (R62). -/
def execGridSwitch (s : State) : Host.Outcome State Fault Refusal := run (fun c => c.when (c.alive .ts) Chip.gridSwitch) s

/-- PPS_RISE (R65): the first tick of a second, in a gated servo state. -/
def execPpsRise (s : State) : Host.Outcome State Fault Refusal := run (fun c => c.when (c.alive .ts) Chip.ppsRise) s

/-- PPS_FALL (R65): WIDTH microseconds after the rise. -/
def execPpsFall (s : State) : Host.Outcome State Fault Refusal :=
  run (fun c => c.when (c.alive .ts) fun c => ({ c with time := { c.time with ppsPulse := false } }).ppsLow) s

/-- TIME_OUT_PULSE_END (R66): the pulse of TIME_OUTj ends. -/
def execTimeOutPulseEnd (j : Fin 4) (s : State) : Host.Outcome State Fault Refusal :=
  run (fun c => c.when (c.alive .ts && c.time.outPulse.getLsbD j) fun c =>
    let m := ~~~(1#4 <<< j.val)
    { c with time := { c.time with outLvl := c.time.outLvl &&& m, outPulse := c.time.outPulse &&& m } }) s

/-! ## Capture units (R56..R58) -/

/-- CAPTURE_EDGE (R56): an edge of a source outside the TIME block; its own, PPS_OUT and the comparators' fires, reach
the units as they happen. -/
def execCaptureEdge (src : Fin 32) (rising : Bool) (s : State) : Host.Outcome State Fault Refusal :=
  run (fun c => c.when (c.alive .ts && src.val ≤ 9) fun c => c.edge src rising) s

/-- Enabling a capture unit restarts its prescale count. -/
def Chip.capCtrl (c : Chip) (u : Nat) (old v : Word) : Chip :=
  if bit v 0 && !bit old 0 then { c with time := { c.time with capCnt := mset 0 c.time.capCnt u 0 } } else c

/-! ## Snapshots and transmit timestamps (R40, R43) -/

/-- The snapshot copy of a master and core (R40). -/
def snapSet (a : Access) : Nat :=
  match a.master with
  | .hc0 => 0 | .hc1 => 1 | .nc => 2
  | .press => 16 + a.core.val
  | _ => 3

/-- A read of TIME_SNAPm word `j`: _NS takes the snapshot, the others return the reading master's copy (R40). -/
def Chip.snapRead (c : Chip) (a : Access) (j : Nat) : Chip × Word :=
  let k := snapSet a
  let c := if j = 0 then
      let x : Snap := { t := c.now, frac := c.time.frac }
      { c with time := { c.time with snaps := mset ({} : Snap) c.time.snaps k x } }
    else c
  let s := mget ({} : Snap) c.time.snaps k
  (c, if j = 3 then s.frac else tsWord s.t j)

/-- A transmit timestamp into its queue of 8 (R43), interrupt 19; a full queue loses it. -/
def Chip.txtsPush (c : Chip) (p seq t : Nat) : Chip :=
  if c.time.txts.length ≥ 8 then c.wb rTIME_STATUS 0 0 3 true
  else
    let q := c.time.txts ++ [{ port := p, seq := seq, t := t }]
    { c.irq 19 with time := { c.time with txts := q } }

/-- A read of TIME_TXTS_TAG pops the oldest entry into TIME_TXTS_TAG, _NS, _SLO and _SHI (R43); an empty queue reads
not VALID. -/
def Chip.txtsPop (c : Chip) : Chip × Word :=
  match c.time.txts with
  | [] => (c.wr rTXTS_TAG 0 0 0, 0)
  | x :: q =>
    let tag := BitVec.ofNat 32 (2 ^ 31 + x.port % 4 * 2 ^ 16 + x.seq % 2 ^ 16)
    let c := { c with time := { c.time with txts := q } }
    ((((c.wr rTXTS_TAG 0 0 tag).wr rTXTS 0 0 (tsWord x.t 0)).wr rTXTS 1 0 (tsWord x.t 1)).wr rTXTS 2 0 (tsWord x.t 2), tag)

/-- TIME_FRAME_IDX: k of the latest frame start of the grid in force (R60). -/
def Chip.frameIdx (c : Chip) (hi : Nat) : Word :=
  let k := (gridK c.time.grid c.now % 2 ^ 48).toNat
  if hi = 0 then BitVec.ofNat 32 k else BitVec.ofNat 32 (k / 2 ^ 32)

/-- TIME_SERVO.STATE written (R45, R65, R67): a new value raises interrupt 16 and gates PPS_OUT, and the age of a holdover counts
from its entry; entry to or exit from LOCKED is logged. -/
def Chip.servoState (c : Chip) (old new : Nat) : Chip :=
  if old = new then c else
    let c := if new = 3 then { c with time := { c.time with servo := { c.time.servo with holdStart := c.now } } } else c
    let c := if old = 2 || new = 2 then c.log 0x01 0x10 else c
    (c.irq 16).ppsGate

/-! ## With no command waiting (R36, R59) -/

/-- One TS tick, and the oldest record of XQ_TS_EVT taken on the SYS side. -/
def Chip.idle (c : Chip) : Chip :=
  let c := c.tick
  let c := { c with time := { c.time with capTick := c.time.capTick.filter fun x => x.2 = some c.now } }
  match c.time.evtQ with
  | [] => c
  | r :: t => { c with time := { c.time with evtQ := t, evtOut := r :: c.time.evtOut } }

end Sys2Proof.Machine
end

