-- ==== Sys2Proof/Machine/Drive.lean ====
section
/-! DEFINITION. The DRV block: node tables, pattern engines, the Lamp Health Table, drive and DIAG cells (spec/11). -/

namespace Sys2Proof.Machine

/-- DRV_CTRL written: a rise of DARK in the window of a dark-period arm in force is that arm's activation moment (R522). -/
def Chip.darkRise (c : Chip) (old : Word) : Chip :=
  match c.upd.arm with
  | some a =>
    if c.upd.state = 6 && a.mode = 2 && !bit old 3 && c.rb rDRV_CTRL 0 0 3 && a.from_ ≤ c.now && c.now ≤ a.until_ then
      { c with upd := { c.upd with rose := true } }
    else c
  | none => c

/-- The node of index `n`. -/
def Chip.node (c : Chip) (n : Nat) : NodeSt := mget ({} : NodeSt) c.drv.nodes n

/-- The node index of address `a` on port `p` (R336). -/
def Chip.nodeIdx (c : Chip) (p a : Nat) : Nat := c.rf rNBASE p 0 12 0 + a - 1

/-- The nodes of port `p`, PORT_LCTRL.NODES. -/
def Chip.portNodes (c : Chip) (p : Nat) : Nat := c.rf rLCTRL p 0 27 16

/-! ## What the casks mirror (R384) -/

/-- A mirrored value has changed: it is listed, oldest change first, for the casks to come; a value that changes again
is no longer held by the casks that took it. -/
def Chip.changed (c : Chip) (kind : MirKind) (idx : Nat) : Chip :=
  if !c.rb rSTRAP 0 0 3 then c else
  let l := c.cdr.changes
  let l := if l.any (fun x => x.kind = kind && x.idx = idx)
    then l.map fun x => if x.kind = kind && x.idx = idx then { x with casks := [] } else x
    else l ++ [{ kind := kind, idx := idx }]
  { c with cdr := { c.cdr with changes := l } }

/-- Node `n` set; a change of what a DERATE record holds is mirrored. -/
def Chip.setNode (c : Chip) (n : Nat) (x : NodeSt) : Chip :=
  let o := c.node n
  let c := c.setDrv { c.drv with nodes := mset ({} : NodeSt) c.drv.nodes n x }
  if o.dPrev = x.dPrev && o.trip = x.trip && o.tloss = x.tloss && o.tl = x.tl then c else c.changed .derate n

/-- DRV takes no STATUS records, and computes nothing from them: a paired unit that is not ACTIVE (R383). -/
def Chip.drvFollows (c : Chip) : Bool := c.pairState ≠ 0 && c.pairState ≠ 4

/-! ## Limits (R341, R342) -/

/-- A limit applied (R27, R342). -/
def Chip.drvLimit (c : Chip) : Chip := ((c.inc rDRV_CNT 0 0).log 0x40 0xC4).irq 164

/-- KNEE_eff, TRIP_eff and FLOOR_eff. -/
def Chip.kneeEff (c : Chip) : Nat := min (c.rd rDRV_KNEE).toNat (c.rd rCOMM_KNEE).toNat
def Chip.tripEff (c : Chip) : Nat := min (c.rd rDRV_TRIP).toNat (c.rd rCOMM_TRIP).toNat
def Chip.floorEff (c : Chip) : Nat := min (max (c.rd rDRV_FLOOR).toNat (c.rd rCOMM_FLOOR).toNat) 0x8000

/-- DRV_COMM_CTRL.LOCK. -/
def Chip.commLocked (c : Chip) : Bool := c.rb rCOMM_CTRL 0 0 0

/-- Policy register `r` written: a value beyond its commissioned limit stays in the register and is counted (R342). -/
def Chip.drvPolicy (c : Chip) (r : RegRow) : Chip :=
  if (r = rDRV_KNEE && (c.rd rDRV_KNEE).toNat > (c.rd rCOMM_KNEE).toNat)
      || (r = rDRV_TRIP && (c.rd rDRV_TRIP).toNat > (c.rd rCOMM_TRIP).toNat)
      || (r = rDRV_FLOOR && (c.rd rDRV_FLOOR).toNat ≠ c.floorEff) then c.drvLimit else c

/-- A commissioning register after a write that was accepted: a value beyond the absolute limit is replaced (R342). -/
def Chip.commLimits (c : Chip) : Chip :=
  let c := if (c.rd rCOMM_KNEE).toNat > 105 then (c.wr rCOMM_KNEE 0 0 105).drvLimit else c
  let c := if (c.rd rCOMM_TRIP).toNat > 125 then (c.wr rCOMM_TRIP 0 0 125).drvLimit else c
  if (c.rd rCOMM_FLOOR).toNat > 0x8000 then (c.wr rCOMM_FLOOR 0 0 0x8000).drvLimit else c

/-- LOCK written 1 (R341). -/
def Chip.commLock (c : Chip) (v : Word) : Chip :=
  if bit v 0 && !c.commLocked then
    (((c.wb rCOMM_CTRL 0 0 0 true).wb rDRV_STATUS 0 0 0 true).log 0x40 0xC6).irq 166
  else c

/-- DRV_NODE_W0 and _W1 of the node DRV_NODE_SEL names. -/
def Chip.nodeWord (c : Chip) (w1 : Bool) : Word :=
  let x := c.node (c.rd rNODE_SEL).toNat
  if w1 then BitVec.ofNat 32 (min 65535 x.tl * 65536 + x.dPrev)
  else BitVec.ofNat 32 (x.codeMax * 2 ^ 24 + x.code * 2 ^ 16 + x.temp.getD 0 * 256 + b2n x.trip * 128 + b2n x.tloss * 64 + x.wait)

/-- DRV_NODE_W0 written by an access that may: CODE_MAX when the write acts on it, CODE always (R341, R342). -/
def Chip.nodeWrite (c : Chip) (v : Word) : Chip :=
  let n := (c.rd rNODE_SEL).toNat
  let c := c.setNode n { c.node n with codeMax := fld v 31 24, code := fld v 23 16 }
  if (c.node n).code > (c.node n).codeMax then c.drvLimit else c

/-! ## Pattern engines (R346..R349) -/

/-- Table entry `i` of RC: round(32,768 (1 − cos(2π · 64 i / 65,536)) / 2). -/
def rcEntry (i : Nat) : Nat := (fxRound (16384 * (fxOne - fxCos (fxPi * 2 * i / 1024)))).toNat

/-- Table entry `i` of EX with `n` halvings a period: round(32,768 · 2^(−n · 64 i / 65,536)). -/
def exEntry (n i : Nat) : Nat := (fxRound (32768 * fxExp (-(fxLn2 * (n * i : Nat) / 1024)))).toNat

/-- The interpolation of R213 in a table. -/
def interp (l : Nat → Nat) (x : Nat) : Nat := (l (x / 64) * (64 - x % 64) + l (x / 64 + 1) * (x % 64) + 32) / 64

/-- RC(x). -/
def rcWave (x : Nat) : Nat := interp rcEntry x

/-- EX(x). -/
def exWave (n x : Nat) : Nat := interp (exEntry n) x

/-- The shift register of R348 run `n` times. -/
def twinkle : Nat → Nat → Nat
  | 0, s => s
  | n + 1, s => twinkle n (if s % 2 = 1 then (BitVec.ofNat 32 (s / 2) ^^^ 0x80200003#32).toNat else s / 2)

/-- The waveform of engine `e` at phase `x`, position `pos` and cycle `cyc` (R348); none: the output is LOW. -/
def Chip.wave (c : Chip) (e x pos : Nat) (cyc : Int) : Option Nat :=
  let ctl := c.rd rPAT_CTRL e
  let duty := c.rf rPAT_SHAPE e 0 15 0
  match fld ctl 27 24 with
  | 0 => some 32768
  | 1 => some (rcWave x)
  | 2 => some (exWave (max 1 (fld ctl 19 16)) x)
  | 3 => some (if x < 32768 then x else 65536 - x)
  | 4 => some (x / 2)
  | 5 => some (if x < duty then 32768 else 0)
  | 6 => some (if x < duty then rcWave (x * 65536 / duty) else 0)
  | 7 =>
    let s := (c.rd rPAT_SEED e ^^^ wordOf cyc ^^^ BitVec.ofNat 32 (pos * 0x01010101)).toNat
    let r := twinkle 16 (if s = 0 then 1 else s) % 65536
    some (if r < fld ctl 15 8 * 256 then rcWave x else 0)
  | _ => none

/-- The output of engine `e` for zone `z` at `t` ns (R347, R349). -/
def Chip.patOut (c : Chip) (e z : Nat) (t : Int) : Nat :=
  if !c.rb rPAT_CTRL e 0 31 then 0x8000 else
  let anchor := tsOf (c.rd rPAT_ANS e) (c.rd rPAT_ASL e) (c.rd rPAT_ASH e)
  let per : Int := max 1000 (c.rd rPAT_PER e).toNat * 1000
  let d := t - anchor
  let cyc := d / per
  let phi := (d - cyc * per) * 65536 / per
  let pos := (z + 256 - c.rf rPAT_CTRL e 0 7 0) % 256
  let x := ((phi - c.rf rPAT_SHAPE e 0 31 16 * pos) % 65536).toNat
  let lo := c.rf rPAT_LEVEL e 0 15 0
  let hi := c.rf rPAT_LEVEL e 0 31 16
  match c.wave e x pos cyc with
  | none => lo
  | some w => (max 0 (min 65535 ((lo : Int) + (((hi : Int) - lo) * w + 16384) / 32768))).toNat

/-- The modulation of zone `z` at `t`. -/
def Chip.zoneMod (c : Chip) (z : Nat) (t : Int) : Nat :=
  if c.rb rPAT_RUN 0 0 0 && c.rb rZ_ROUTE z 0 31 then c.patOut (c.rf rZ_ROUTE z 0 29 24) z t else 0x8000

/-- The fallback colour of zone `z` at `t`. -/
def Chip.zoneFall (c : Chip) (z : Nat) (t : Int) : Nat × Nat × Nat :=
  let l := if c.rb rPAT_RUN 0 0 0 && c.rb rZ_ROUTE z 0 23 then c.patOut (c.rf rZ_ROUTE z 0 21 16) z t else 0x8000
  let f := fun x => min 65535 ((x * l + 16384) / 32768)
  (f (c.rf rZ_RG z 0 31 16), f (c.rf rZ_RG z 0 15 0), f (c.rf rZ_B z 0 15 0))

/-- The zones' modulation and fallback colours written to the shadow tables (R335). -/
def Chip.zonesBuild (c : Chip) (t : Int) : Chip :=
  c.each (List.range 256) fun c z =>
    { c with pix := { c.pix with modS := mset 0x8000 c.pix.modS z (c.zoneMod z t), fbS := mset (0, 0, 0) c.pix.fbS z (c.zoneFall z t) } }

/-- DRV_PAT_RUN changed (R346). -/
def Chip.patRun (c : Chip) (old : Word) : Chip := if c.rd rPAT_RUN = old then c else c.log 0x41 0xC8

/-! ## The Lamp Health Table (R158, R351, R352) -/

/-- A port's record: VALID, BASE, NODES, CHANS. -/
structure LhtPort where
  valid : Bool
  base : Nat
  nodes : Nat
  chans : Nat
  deriving DecidableEq, Repr

/-- The port record of `p` as DRV reads it. DESIGN CHOICE (log entry 184): a record with a poisoned word is taken as not
VALID. -/
def Chip.lhtPort (c : Chip) (p : Nat) : Chip × LhtPort :=
  let a := 0x94000000 + 16 * p
  let (c, w0, b0) := c.drvGet a
  let (c, w1, b1) := c.drvGet (a + 4)
  let (c, w2, b2) := c.drvGet (a + 8)
  (c, { valid := bit w0 31 && !b0 && !b1 && !b2, base := fld w0 21 0, nodes := fld w1 11 0, chans := min 64 (fld w2 6 0) })

/-- The index of the entry of channel `ch` of node address `a`. -/
def LhtPort.entry (l : LhtPort) (a ch : Nat) : Nat := l.base + (a - 1) * l.chans + ch

/-- The address of entry `i` of the Lamp Health Table. -/
def lhtAddr (i : Nat) : Nat := 0x94000400 + 4 * i

/-- Entry `i` as a reader takes it when it is poisoned (R152): UNMEASURED with the greatest AGE. DESIGN CHOICE (log entry
185): its LAST, of which the rule says nothing, is a free value. -/
def Chip.lhtLost (c : Chip) (i : Nat) : Nat × Nat × Nat := (3, (Config.freeWord c.cyc i).toNat % 4, 16777215)

/-- The word of an entry (R158). -/
def lhtWord (st last age : Nat) : Word := BitVec.ofNat 32 (st * 2 ^ 30 + last * 2 ^ 28 + min age 16777215)

/-- Entry `i` read: STATE, LAST, AGE (R152, R158). -/
def Chip.lhtRead (c : Chip) (i : Nat) : Chip × Nat × Nat × Nat :=
  match c.drvGet (lhtAddr i) with
  | (c, w, false) => (c, fld w 31 30, fld w 29 28, fld w 23 0)
  | (c, _, true) => (c, c.lhtLost i)

/-- Entry `i` written as the word `w`; a change is mirrored. -/
def Chip.lhtPut (c : Chip) (i : Nat) (w : Word) : Chip :=
  let same := c.celView (lhtAddr i) == some w
  let c := c.drvPut (lhtAddr i) w
  if same then c else c.changed .lht i

/-- Entry `i` written. -/
def Chip.lhtWrite (c : Chip) (i st last age : Nat) : Chip := c.lhtPut i (lhtWord st last age)

/-- DETAIL of DRV_LAMP_FAULT: port, node index and channel (R352). DESIGN CHOICE (log entry 94): the rule names them and gives no
places. -/
def lampDetail (p n ch : Nat) : Word := BitVec.ofNat 32 (p * 2 ^ 24 + n % 2 ^ 16 * 2 ^ 8 + ch)

/-- A channel's state reported by node `a` of port `p` (R351, R352). -/
def Chip.lampReport (c : Chip) (l : LhtPort) (p a ch s : Nat) : Chip :=
  let i := l.entry a ch
  let (c, _, last, age) := c.lhtRead i
  if s = 3 then c.lhtWrite i 3 last (age + 1)
  else
    let c := c.lhtWrite i s s 0
    if s ≠ 0 && last = 0 then ((c.inc rDRV_CNT 3 0).log 0x40 0xC3 (lampDetail p (c.nodeIdx p a) ch)).irq 163 else c

/-- A node that gave no record ages each of its channels (R351). -/
def Chip.lampAge (c : Chip) (l : LhtPort) (a : Nat) : Chip :=
  c.each (List.range l.chans) fun c ch =>
    let (c, st, last, age) := c.lhtRead (l.entry a ch)
    c.lhtWrite (l.entry a ch) st last (age + 1)

/-- The entries of every VALID port counted by STATE, and the largest AGE (R352). -/
def Chip.lhtCount (c : Chip) : Chip :=
  let acc := (List.range 48).foldl (fun (x : Chip × List Nat × Nat) p =>
    let (c, l) := x.1.lhtPort p
    (List.range (if l.valid then l.nodes * l.chans else 0)).foldl (fun (x : Chip × List Nat × Nat) i =>
      let (c, st, _, age) := x.1.lhtRead (l.base + i)
      (c, x.2.1.mapIdx fun j n => if j = st then n + 1 else n, max x.2.2 age)) (c, x.2)) (c, [0, 0, 0, 0], 0)
  (acc.1.each (List.range 4) fun c j => c.wr rLHS j 0 (BitVec.ofNat 32 (acc.2.1.getD j 0))).wr rLHS 4 0 (BitVec.ofNat 32 acc.2.2)

/-! ## The frame set's nodes (R339, R344, R345) -/

/-- The next state of a node at E(k): `counting` when its port sent PRESENT since the last E (R343, R344). -/
def Chip.nodeNext (c : Chip) (x : NodeSt) (counting : Bool) : NodeSt :=
  let tl := if x.got then 0 else if counting then min 65535 (x.tl + 1) else x.tl
  let lossy : Bool := tl ≥ (c.rd rDRV_TLOSS).toNat
  let fl := c.floorEff
  -- a node without a record since reset keeps what it has: D_prev, 0x8000 at reset, and its trip (assumption log)
  let t : Int := match x.temp with
    | some v => (v : Int) - 40
    | none => -40
  let known := x.temp.isSome
  let te : Int := c.tripEff
  let ke : Int := c.kneeEff
  let trip := if lossy then x.trip
    else if !x.trip && t ≥ te then true
    else if x.trip && known && t ≤ te - 10 then false
    else x.trip
  let tgt := if lossy then fl
    else if !known then x.dPrev
    else if t ≤ ke then 32768
    else max fl (32768 - (c.rd rDRV_SLOPE).toNat * (t - ke).toNat)
  let d := if trip then 0 else if tgt ≤ x.dPrev then tgt else min tgt (x.dPrev + (c.rd rDRV_RISE).toNat)
  { x with tl := tl, tloss := lossy, trip := trip, dPrev := d, got := false, wait := x.wait - 1 }

/-- The drive word of node address `a` of port `p` (R339). -/
def Chip.driveWord (c : Chip) (p a : Nat) (x : NodeSt) : Word :=
  let ph := (c.rf (rPHASE p) 0 0 15 8 + c.rf (rPHASE p) 0 0 7 0 * (a - 1)) % 256
  BitVec.ofNat 32 ((if x.trip then 0 else min x.code x.codeMax) * 2 ^ 24 + ph * 2 ^ 16 + b2n x.trip * 2 ^ 15 + x.dPrev / 2)

/-- What a change of a node at E(k) raises (R345). -/
def Chip.nodeEvents (c : Chip) (o x : NodeSt) : Chip :=
  let c := if x.trip && !o.trip then ((c.inc rDRV_CNT 1 0).log 0x40 0xC0).irq 160 else c
  let c := if !x.trip && o.trip then (c.log 0x40 0xC1).irq 161 else c
  if x.tloss && !o.tloss then ((c.inc rDRV_CNT 2 0).log 0x40 0xC2).irq 162 else c

/-- Node address `a` of port `p` at E(k): its derate entry and its drive word. A unit that follows casks takes D_prev as
they gave it, and so does one that has just become ACTIVE, in its `first` frame set, for a node without a record (R383). -/
def Chip.nodeEval (c : Chip) (p a : Nat) (counting : Bool) (first : Bool := false) : Chip :=
  let n := c.nodeIdx p a
  if n > 8191 then c else
  let o := c.node n
  let x := if c.drvFollows || (first && !o.got) then { o with got := false, wait := o.wait - 1 } else c.nodeNext o counting
  let c := c.nodeEvents o x
  let c := c.setNode n { x with word := c.driveWord p a x }
  { c with pix := { c.pix with derS := mset 0x8000 c.pix.derS n (if x.trip then 0 else x.dPrev) } }

/-! ## DIAG selection (R353) -/

/-- The mask of node `a`'s channels that qualify, as bits. -/
def Chip.diagMask (c : Chip) (l : LhtPort) (a : Nat) : Chip × Nat :=
  (List.range l.chans).foldl (fun (x : Chip × Nat) ch =>
    let (c, st, _, age) := x.1.lhtRead (l.entry a ch)
    (c, if st = 3 && age ≥ (c.rd rDIAG_AGE).toNat then x.2 + 2 ^ ch else x.2)) (c, 0)

/-- The search from the cursor: `fuel` nodes are examined, at most `n` chosen. DESIGN CHOICE (log entry 229): a node of an index
above 8,191 has no DIAG_WAIT and is not chosen. -/
def Chip.diagLoop (c : Chip) (p : Nat) (l : LhtPort) : Nat → Nat → Nat → Chip
  | 0, _, _ => c
  | _, 0, _ => c
  | fuel + 1, n + 1, a =>
    let next := if a ≥ l.nodes then 1 else a + 1
    let i := c.nodeIdx p a
    let x := c.node i
    if x.trip || x.wait ≠ 0 || i > 8191 then c.diagLoop p l fuel (n + 1) next
    else match c.diagMask l a with
      | (c, 0) => c.diagLoop p l fuel (n + 1) next
      | (c, m) =>
        let d := c.drvPort p
        ((c.setNode i { x with wait := 15 }).setDrvPort p { d with diag := d.diag ++ [(a, m)], diagCur := next }).diagLoop p l fuel n next

/-- The DIAG cells of port `p` for the frame (R353). -/
def Chip.diagSelect (c : Chip) (p : Nat) : Chip :=
  let c := c.setDrvPort p { c.drvPort p with diag := [] }
  let (c, l) := c.lhtPort p
  if c.isLane p && c.laneVer p = 2 && l.valid && c.rb rDRV_CTRL 0 0 1 && (!c.rb rDRV_CTRL 0 0 3 || c.rb rDRV_CTRL 0 0 2) then
    let a := (c.drvPort p).diagCur
    c.diagLoop p l l.nodes (c.rf rDRV_CTRL 0 0 7 4) (if a = 0 || a > l.nodes then 1 else a)
  else c

/-! ## Blanking cells (R317, R337, R338, R354) -/

/-- The STATUS cells of port `p` (R317): first addresses and record counts. -/
def Chip.statusCells (c : Chip) (p : Nat) : List OwnCell :=
  let w := c.recw p
  let n := 62 / w
  let nodes := c.portNodes p
  (List.range ((nodes + n - 1) / n)).map fun i =>
    let m := min n (nodes - i * n)
    { head := cellHead 0xC (1 + i * n) (w * m) 0, words := List.replicate (w * m) 0 }

/-- Drive cell `i` of port `p`, of the frame set in use (R338). -/
def Chip.driveCell (c : Chip) (p i : Nat) : OwnCell :=
  let a0 := 61 * i + 1
  let n := min 61 (c.portNodes p - 61 * i)
  let ws := (List.range n).map fun j => if c.nodeIdx p (a0 + j) > 8191 then 0 else (c.node (c.nodeIdx p (a0 + j))).wordA
  { head := cellHead 3 0 (n + 1) 0, words := BitVec.ofNat 32 (0x10 * 2 ^ 24 + n * 2 ^ 16 + a0) :: ws }

/-- The order of the drive cells of a frame: those with a node whose TRIP bit has changed since its last drive word, then
the others from the cursor on, wrapping round (R338). -/
def Chip.driveOrder (c : Chip) (p : Nat) : List Nat :=
  let m := (c.portNodes p + 60) / 61
  let l := (List.range m).map fun i => ((c.drvPort p).cursor + i) % m
  let hot := fun i => (List.range (min 61 (c.portNodes p - 61 * i))).any fun j =>
    let x := c.node (c.nodeIdx p (61 * i + 1 + j))
    bit x.wordA 15 != x.sentTrip
  l.filter hot ++ l.filter fun i => !hot i

/-- DIAG cell of node `a` with mask `m` (R354). -/
def Chip.diagCell (c : Chip) (a m : Nat) : OwnCell :=
  { head := cellHead 8 a 3 0, words := [BitVec.ofNat 32 m, BitVec.ofNat 32 (m / 2 ^ 32), c.drv.pulseA] }

/-- The blanking cells of port `p` (R317, R337): STATUS, then drive, then DIAG; a version 1 port sends no DIAG (R325). -/
def Chip.blankCells (c : Chip) (p : Nat) : List OwnCell :=
  c.statusCells p ++
    (if !c.rb rDRV_CTRL 0 0 0 then [] else
      (c.driveOrder p).map (c.driveCell p) ++
      (if c.laneVer p = 2 then (c.drvPort p).diagA.map fun x => c.diagCell x.1 x.2 else []))

/-- A blanking cell has been sent, `rest` are still to come: the TRIP bits of a drive cell's words are now known to its
nodes, and with the last drive cell the next frame starts in address order again; a DIAG cell is counted and enters its
node's signature (R338, R353, R355). -/
def Chip.blankSent (c : Chip) (p : Nat) (k : OwnCell) (rest : List OwnCell) : Chip :=
  match fld k.head 31 28 with
  | 3 =>
    let i := k.driveIdx
    let c := c.each (List.range (k.words.length - 1)) fun c j =>
      let n := c.nodeIdx p (61 * i + 1 + j)
      c.setNode n { c.node n with sentTrip := bit (k.words.getD (j + 1) 0) 15 }
    if rest.any fun r => fld r.head 31 28 = 3 then c else c.setDrvPort p { c.drvPort p with cursor := 0 }
  | 8 => (c.inc rDRV_CNT 4 0).nodeCrcAdd p (fld k.head 27 16) k.words
  | _ => c

/-- The drive and DIAG cells left are cut (R337, R338). -/
def Chip.blankCut (c : Chip) (p : Nat) : Chip :=
  let l := (c.port p).blank.filter fun k => fld k.head 31 28 ≠ 0xC
  let c := c.blankStop p
  if l.isEmpty then c else
  (((c.inc rDRV_CNT 5 0 l.length).wb rDRV_STATUS 0 0 4 true).log 0x40 0xC5).irq 165

end Sys2Proof.Machine
end

