-- ==== Sys2Proof/Machine/Engine.lean ====
section
/-! DEFINITION. Memory as the module's engines reach it: rings, descriptors and buffers in any memory of R13 that a
world-N master reaches, with the Cellar's own rules where they lie in the Cellar. -/

namespace Sys2Proof.Machine

/-- Whether an engine's access at `a` reaches a memory (R13, R22): an access to anything else is a bus error. -/
def engReach (a : Nat) (secure : Bool) : Bool :=
  match areaOf a with
  | .sram | .flash | .rom => secure || !worldSOnly a
  | .press | .portBuf | .cellar => true
  | _ => false

/-- The port-buffer window at `n` takes accesses: its port's MODE is OFF, so no bank drains (R14, R269, R461). -/
def Chip.bufOpen (c : Chip) (n : Nat) : Bool := c.rf rPORT_STATUS ((n - 0x50000000) / 0x8000) 0 1 0 = 0

/-- The CAUSE of the bus error of an access that does not reach what stands at `a`: 0 unmapped, 1 refused (R23). DESIGN CHOICE (log
entry 218): a register block or a memory not written counts as refused. -/
def engCause (a : Nat) : Nat := if areaOf a == .unmapped then 0 else 1

/-- The run of `n` addresses from `a` on in pieces that end at 4 KiB boundaries, where every edge of the map lies. -/
def pieces (a n : Nat) : Nat → List (Nat × Nat)
  | 0 => [(a, n)]
  | f + 1 => if n ≤ 4096 - a % 4096 then [(a, n)] else (a, 4096 - a % 4096) :: pieces (a + (4096 - a % 4096)) (n - (4096 - a % 4096)) f

/-- The pieces of a run of `n` addresses from `a` on; none where it is empty. -/
def runPieces (a n : Nat) : List (Nat × Nat) := if n = 0 then [] else pieces a n (n / 4096 + 1)

/-- Bytes of an on-die memory as an engine reads them: those of a word with a double error come flagged, after a bus error of
CAUSE 2 (R1, R13, R590). -/
def Chip.sramBytes (c : Chip) (m : Master) (secure : Bool) (a n : Nat) : Chip × List (Byte × Bool) :=
  let c := c.each ((c.sram.errs.map (·.1)).filter fun k => k < a + n && a < k + 4) fun c k =>
    let (c, bad) := c.sramRead k
    if bad then c.busErr m secure false (BitVec.ofNat 32 k) 2 else c
  (c, (c.bytes a n).zipIdx.map fun b => (b.1, decide (1 < c.upsets (a + b.2))))

/-- One piece of an engine's read: 0 after a bus error where it is not reached, or where a reset of the queue caught it (R468). -/
def Chip.engPiece (c : Chip) (m : Master) (secure : Bool) (a n : Nat) : Chip × List (Byte × Bool) :=
  if !engReach a secure || (areaOf a == .portBuf && !c.bufOpen a) then (c.busErr m secure false (BitVec.ofNat 32 a) (engCause a), List.replicate n (0, false))
  else if areaOf a == .cellar && c.cutOff [0x20, 0x21] then
    ((c.cutDone [0x20, 0x21]).busErr m secure false (BitVec.ofNat 32 a) 3, List.replicate n (0, true))
  else if areaOf a == .cellar then (if sysProc m then c.celLoads m secure a n else c.celBytes m a n)
  else if c.sram.errs.isEmpty || areaOf a == .flash then (c, (c.bytes a n).map fun b => (b, false))
  else c.sramBytes m secure a n

/-- Bytes an engine reads from `a` on, each with whether its word was poisoned; what it does not reach, at the start of
the run or further on, reads as 0 after a bus error (R22, R23). -/
def Chip.engBytes (c : Chip) (m : Master) (secure : Bool) (a n : Nat) : Chip × List (Byte × Bool) :=
  (runPieces a n).foldl (fun (x : Chip × List (Byte × Bool)) p =>
    let (c, l) := x.1.engPiece m secure p.1 p.2
    (c, x.2 ++ l)) (c, [])

/-- The data of bytes read. -/
def datas (l : List (Byte × Bool)) : List Byte := l.map (·.1)

/-- Whether any of the bytes came poisoned. -/
def anyBad (l : List (Byte × Bool)) : Bool := l.any (·.2)

/-- One piece of an engine's write: a bus error and no effect where it may not be made (R14, R23), lost where a reset of the queue
caught it (R468). -/
def Chip.engPutPiece (c : Chip) (m : Master) (secure : Bool) (a : Nat) (l : List Byte) : Chip :=
  if !engReach a secure || areaOf a == .rom || areaOf a == .flash || (areaOf a == .portBuf && !c.bufOpen a) then
    c.busErr m secure true (BitVec.ofNat 32 a) (engCause a)
  else if areaOf a == .cellar && c.cutOff [0x20, 0x21] then c.cutDone [0x20, 0x21]
  else if areaOf a == .cellar then (c.celWrite m secure a l).1
  else (c.setBytes a l).sramStore a l.length

/-- Bytes an engine writes from `a` on. -/
def Chip.engPut (c : Chip) (m : Master) (secure : Bool) (a : Nat) (l : List Byte) : Chip :=
  c.each (runPieces a l.length) fun c p => c.engPutPiece m secure p.1 (slice l (p.1 - a) p.2)

/-- The little-endian word an engine reads at `a`. -/
def Chip.engWord (c : Chip) (m : Master) (secure : Bool) (a : Nat) : Chip × Word :=
  let (c, l) := c.engBytes m secure a 4
  (c, leWordAt (datas l) 0)

/-- A word an engine writes at `a`. -/
def Chip.engSetWord (c : Chip) (m : Master) (secure : Bool) (a : Nat) (w : Word) : Chip :=
  c.engPut m secure a (wordBytes w)

end Sys2Proof.Machine
end

