-- ==== Sys2Proof/Machine/Mac.lean ====
section
/-! DEFINITION. The MACs (spec/03): links, frame reception with its filters, checks and steering, flow control both ways,
counters, and the frame rings on the SYS side. -/

namespace Sys2Proof.Machine

/-! ## State of a port -/

/-- MAC `p`: 0 NA, 1 NB, 2 the service MAC. -/
def Chip.mac (c : Chip) (p : Nat) : Mac := mget ({} : Mac) c.macs p

/-- MAC `p` set. -/
def Chip.setMac (c : Chip) (p : Nat) (x : Mac) : Chip := { c with macs := mset ({} : Mac) c.macs p x }

/-- The log source of a port (R107). -/
def macSrc (p : Nat) : Nat := 2 + p

/-- MAC_STATUS.LINK. -/
def Chip.link (c : Chip) (p : Nat) : Bool := c.rb rMAC_STATUS p 0 0

/-- The port's fault interrupt with its log code (R107). -/
def Chip.macFault (c : Chip) (p code : Nat) : Chip := (c.log (macSrc p) code).irq (35 + 4 * p)

/-- The counters of R106 by their word of 0x0800. -/
def Chip.macCnt (c : Chip) (p j : Nat) : Chip := c.inc rMAC_CNT p j

/-- Received bytes counted in the 64-bit counter. -/
def Chip.macRxBytes (c : Chip) (p n : Nat) : Chip :=
  c.setMac p { c.mac p with rxBytes := ((c.mac p).rxBytes + n) % 2 ^ 64 }

/-- Sent frames and bytes counted. -/
def Chip.macTxBytes (c : Chip) (p n : Nat) : Chip :=
  (c.setMac p { c.mac p with txBytes := ((c.mac p).txBytes + n) % 2 ^ 64 }).macCnt p 13

/-- A read of the counter word `j` (R106): the _LO word of a byte counter latches its _HI word. -/
def Chip.macCntRead (c : Chip) (p j : Nat) : Chip × Word :=
  if j = 1 then (c.wr rMAC_CNT p 2 (BitVec.ofNat 32 ((c.mac p).rxBytes / 2 ^ 32)), BitVec.ofNat 32 (c.mac p).rxBytes)
  else if j = 14 then (c.wr rMAC_CNT p 15 (BitVec.ofNat 32 ((c.mac p).txBytes / 2 ^ 32)), BitVec.ofNat 32 (c.mac p).txBytes)
  else (c, c.rd rMAC_CNT p j)

/-- MAC_CTRL.CNT_CLR (R106): every counter of the MAC cleared. -/
def Chip.cntClr (c : Chip) (p : Nat) : Chip :=
  let c := c.each (List.range 21) fun c j => c.wr rMAC_CNT p j 0
  c.setMac p { c.mac p with rxBytes := 0, txBytes := 0 }

/-! ## Links (R71..R73) -/

/-- The latency registers loaded for the mode reached (R42, R71). -/
def Chip.loadLat (c : Chip) (p : Nat) : Chip :=
  if p = 2 then (c.wr rLAT_SV_TX 0 0 384).wr rLAT_SV_RX 0 0 480
  else
    let ctl := c.rd rMAC_CTRL p
    let (tx, rx) : Word × Word := if bit ctl 1 then (1480, 1888) else if fld ctl 7 6 = 1 then (1024, 2984) else (608, 840)
    (c.wr rLAT_N_TX p 0 tx).wr rLAT_N_RX p 0 rx

/-- LINK rises (R72): EN is 1 and the receive signal is present. -/
def Chip.linkUp (c : Chip) (p : Nat) : Chip :=
  if c.alive (macDom p) && c.rb rMAC_CTRL p 0 0 && !c.rb rMAC_STATUS p 0 4 && !c.link p then
    (((c.wb rMAC_STATUS p 0 0 true).loadLat p).log (macSrc p) 0x20).irq (32 + 4 * p)
  else c

/-- LINK falls: counted, logged, signalled (R72, R106). -/
def Chip.linkFall (c : Chip) (p : Nat) : Chip :=
  if c.link p then (((c.wb rMAC_STATUS p 0 0 false).macCnt p 20).log (macSrc p) 0x21).irq (32 + 4 * p) else c

/-- LINK_UP (R72): block lock held for 1 ms while EN = 1 and RX_LOS is low. -/
def execLinkUp (p : Fin 3) (s : State) : Host.Outcome State Fault Refusal := run (fun c => c.linkUp p) s

/-- The levels of Nx_TXDIS and Nx_RS0/RS1 (R73). -/
def Chip.sfpOut (c : Chip) (p : Nat) : Bool × Bool :=
  (!c.rb rMAC_CTRL p 0 0 || c.rb rMAC_CTRL p 0 8, !c.rb rMAC_CTRL p 0 1)

/-- A write of MAC_MDIO with GO (R73): the Clause 22 frame starts; a busy interface takes no second. -/
def Chip.mdioWrite (c : Chip) (old v : Word) : Chip :=
  if bit v 31 then
    if bit old 31 then c.wr rMDIO 0 0 old
    else
      let c := c.wb rMDIO 0 0 31 true
      (c.setMac 2 { c.mac 2 with mdioRead := bit v 26 }).emit (.mdio v)
  else c

/-- MDIO_DONE (R73): the frame ends; a read leaves the PHY's data. -/
def execMdioDone (data : BitVec 16) (s : State) : Host.Outcome State Fault Refusal :=
  run (fun c => c.when (c.alive .svc && c.rb rMDIO 0 0 31) fun c =>
    let c := c.wb rMDIO 0 0 31 false
    if (c.mac 2).mdioRead then c.wf rMDIO 0 0 15 0 data.toNat else c) s

/-! ## Reception (R74..R85) -/

/-- MAC_ADDR, or entry `i` of the perfect-match table, as six bytes. -/
def addrBytes (lo hi : Word) : List Byte := wordBytes lo ++ [byteOf hi 0, byteOf hi 1]

/-- The perfect-match entry that holds an address (R77). -/
def Chip.pmFind (c : Chip) (p : Nat) (da : List Byte) : Option Nat :=
  (List.range 8).find? fun i => c.rb rPM_HI p i 31 && addrBytes (c.rd rPM_LO p i) (c.rd rPM_HI p i) == da

/-- The hash index of a destination address (R78). -/
def hashIdx (da : List Byte) : Nat := (crc32 da).toNat / 2 ^ 20

/-- Whether the address filter accepts a destination address (R77). -/
def Chip.daAccept (c : Chip) (p : Nat) (da : List Byte) : Bool :=
  let ctl := c.rd rMAC_CTRL p
  if !(da.getD 0 0).getLsbD 0 then da == addrBytes (c.rd rMAC_ADDR_LO p) (c.rd rMAC_ADDR_HI p)
  else if da == List.replicate 6 0xFF then bit ctl 3
  else (c.pmFind p da).isSome || (bit ctl 11 && c.rb rHASH p (hashIdx da / 32) (hashIdx da % 32))

/-- Whether the VLAN rules accept a frame (R75). DESIGN CHOICE (log entry 171): a tag of VID 0 is judged with the untagged
frames alone, whatever entries hold VID 0. -/
def Chip.vlanAccept (c : Chip) (p : Nat) (h : Hdr) : Bool :=
  if h.tpid88a8 then false
  else if h.tagged && h.vid ≠ 0 then
    (List.range 4).any fun i => c.rb rMAC_VLAN p i 15 && c.rf rMAC_VLAN p i 11 0 = h.vid
  else c.rb rMAC_CTRL p 0 2

/-- The frame size limit (R74). -/
def Chip.maxLen (c : Chip) (p : Nat) (tagged : Bool) : Nat := c.rf rMAC_MAXLEN p 0 13 0 + (if tagged then 4 else 0)

/-- The length/type fault of R79. DESIGN CHOICE (log entry 169): the data field of an oversize frame is the whole one on
the wire. -/
def lenErr (h : Hdr) (n : Nat) : Bool :=
  let data := n - (if h.tagged then 18 else 14)
  let m := if h.tagged then 42 else 46
  h.etype < 1536 && h.etype ≠ data && !(h.etype < m && data = m)

/-- The queue steering gives a frame (R81). -/
def Chip.steer (c : Chip) (p : Nat) (h : Hdr) (pcp : Nat) : Nat :=
  let byPcp := fld (c.rd rPCP_MAP p) (4 * pcp + 2) (4 * pcp)
  let byDscp := fld (c.rd (rDSCP_MAP (h.dscp / 8)) p) (4 * (h.dscp % 8) + 2) (4 * (h.dscp % 8))
  match c.rf rMAC_CTRL p 0 13 12 with
  | 0 => byPcp
  | 1 => if h.ipv4 then byDscp else 0
  | _ => if h.ipv4 then byDscp else byPcp

/-- The class of a queue. -/
def Chip.qClass (c : Chip) (p q : Nat) : Nat := fld (c.rd rQCLASS p) (2 * q + 1) (2 * q)

/-- The queue under which a class-3 frame not consumed passes (R83). -/
def Chip.spillQueue (c : Chip) (p : Nat) : Option Nat :=
  let q := c.rf rMAC_CTRL p 0 19 17
  if c.qClass p q ≠ 3 then some q else (List.range 8).find? fun q => c.qClass p q ≠ 3

/-- A frame of the Dalilo Live Cue format (R134). -/
def isDlc (h : Hdr) : Bool := h.udp && h.dport = 30482

/-- Receive latency of a port, in 1/16 ns. -/
def Chip.rxLat (c : Chip) (p : Nat) : Nat :=
  if p = 2 then (c.rd rLAT_SV_RX).toNat else (c.rd rLAT_N_RX p).toNat

/-- Transmit latency of a port, in 1/16 ns. -/
def Chip.txLat (c : Chip) (p : Nat) : Nat :=
  if p = 2 then (c.rd rLAT_SV_TX).toNat else (c.rd rLAT_N_TX p).toNat

/-- The receive timestamp (R42): the clock at the tick that registers the start, less the synchroniser and the latency.
DESIGN CHOICE (log entry 167): the latency's 1/16 ns are floored. -/
def Chip.rxStamp (c : Chip) (p sfd : Nat) : Nat := (16 * sfd - 16 * syncDelay - c.rxLat p) / 16

/-- The bytes a port's FIFO and crossing hold. -/
def Mac.held (m : Mac) : Nat := m.rxq.foldl (fun n f => n + f.bytes.length) 0

/-- The PAUSE or PFC request a MAC control frame spells (R95). -/
def pauseOf (b : List Byte) (o : Nat) : Option PauseIn :=
  match beNat (slice b o 2) with
  | 0x0001 => some { pfc := false, enable := 0, quanta := [beNat (slice b (o + 2) 2)] }
  | 0x0101 => some { pfc := true, enable := BitVec.ofNat 8 (beNat (slice b (o + 2) 2))
                     quanta := (List.range 8).map fun i => beNat (slice b (o + 4 + 2 * i) 2) }
  | _ => none

/-- A frame that has passed the filters goes to the urgent parser or, through the FIFO, to the crossing, flagged or not
(R83..R85). -/
def Chip.rxPass (c : Chip) (p : Nat) (h : Hdr) (f : RxFrame) : Chip :=
  if f.cls = 3 && p ≤ 1 && c.rb rURG_CTRL p 0 31 && isDlc h then
    c.setMac p { c.mac p with dlcIn := (c.mac p).dlcIn ++ [f] }
  else
    match if f.cls = 3 then c.spillQueue p else some f.queue with
    | none => c.macCnt p 8
    | some q =>
      if (c.mac p).held + f.bytes.length > 65536 then
        ((c.macCnt p 11).wb rMAC_STATUS p 0 6 true).macFault p 0x23
      else c.setMac p { c.mac p with rxq := (c.mac p).rxq ++ [{ f with queue := q, cls := c.qClass p q }] }

/-- The fault counters of R79, for the flags set. -/
def Chip.cntFlags (c : Chip) (p : Nat) (f : RxFrame) : Chip :=
  let c := if f.fcs then c.macCnt p 3 else c
  let c := if f.runt then c.macCnt p 4 else c
  let c := if f.oversize then c.macCnt p 5 else c
  let c := if f.code then c.macCnt p 6 else c
  if f.lenerr then c.macCnt p 7 else c

/-- A frame on the wire of port `p` (R72..R85). DESIGN CHOICE: the faults of a frame that R75 or R76 drops are not counted (log
entry 168); a flow-control frame with a fault is not honoured and not counted in RX_PAUSE (log entry 226). -/
def Chip.frameRx (c : Chip) (p : Nat) (w : WireFrame) : Chip :=
  if !(c.alive (macDom p) && c.link p) then c else
  let h := parseHdr w.bytes
  if !c.daAccept p h.da then c.macCnt p 8 else
  let len := w.bytes.length + 4
  let lim := c.maxLen p (h.tagged || h.tpid88a8)
  let c := (c.macCnt p 0).macRxBytes p (min len lim)
  if !c.vlanAccept p h then (if h.tagged || h.tpid88a8 then c.macCnt p 9 else c)
  else if h.etype = 0x86DD then c.macCnt p 10
  else
    let pcp := if h.tagged then h.pcpTag else c.rf rMAC_CTRL p 0 16 14
    let q := c.steer p h pcp
    let f : RxFrame :=
      { bytes := w.bytes.take lim, fcs := !w.fcsOk, runt := len < 64, oversize := len > lim, code := !w.codeOk
        lenerr := lenErr h w.bytes.length, ts := c.rxStamp p w.sfd, queue := q, cls := c.qClass p q, pcp := pcp
        pm := if (h.da.getD 0 0).getLsbD 0 && h.da != List.replicate 6 0xFF then c.pmFind p h.da else none, hidx := hashIdx h.da }
    let c := c.cntFlags p f
    if h.etype = 0x8808 then
      if f.fcs || f.runt || f.oversize || f.code then c else
      match pauseOf w.bytes (if h.tagged then 18 else 14) with
      | some x => (c.macCnt p 12).setMac p { (c.macCnt p 12).mac p with pauseIn := (c.mac p).pauseIn ++ [x] }
      | none => c
    else c.rxPass p h f

/-- FRAME_RECEIVE (R84). -/
def execFrameReceive (p : Fin 3) (f : WireFrame) (s : State) : Host.Outcome State Fault Refusal :=
  run (fun c => c.frameRx p f) s

/-! ## Received pause (R95, R96) -/

/-- The PCP set of class `t`. -/
def Chip.pfcSet (c : Chip) (p t : Nat) : BitVec 8 := BitVec.ofNat 8 (fld (c.rd rPFC_MAP p) (8 * t + 7) (8 * t))

/-- The PCP values of class `t` that received PFC holds and the class honours. -/
def Chip.pcpHeld (c : Chip) (p t : Nat) : BitVec 8 := (c.mac p).pausedPcp.extractLsb' (8 * t) 8 &&& c.pfcSet p t

/-- Whether transmit queue `t` is held by received pause. -/
def Chip.txHeld (c : Chip) (p t : Nat) : Bool := (c.mac p).pausePort || c.pcpHeld p t != 0

/-- MAC_STATUS.PAUSED follows the holds. -/
def Chip.pausedBit (c : Chip) (p : Nat) : Chip :=
  c.wb rMAC_STATUS p 0 2 ((List.range 4).any fun t => c.txHeld p t)

/-- A mask of PCP values given to each class of `cls`. -/
def perCls (cls : BitVec 4) (m : BitVec 8) : BitVec 32 :=
  (List.range 4).foldl (fun x t => if cls.getLsbD t then x ||| (m.setWidth 32 <<< (8 * t)) else x) 0

/-- The PCP values of a PFC frame with their pause on (`on`) or off. -/
def pfcMask (x : PauseIn) (on : Bool) : BitVec 8 :=
  (List.range 8).foldl (fun m i =>
    if x.enable.getLsbD i && (x.quanta.getD i 0 ≠ 0) = on then m ||| (1#8 <<< i) else m) 0

/-- The effect of one received PAUSE or PFC frame. -/
def Chip.pauseApply (c : Chip) (p : Nat) (x : PauseIn) : Chip :=
  let m := c.mac p
  if x.pfc then
    let off := pfcMask x false
    let ign := (List.range 4).foldl (fun g t => if (off &&& c.pfcSet p t) != 0 then g &&& ~~~(1#4 <<< t) else g) m.ignCls
    c.setMac p { m with pausedPcp := (m.pausedPcp &&& ~~~(perCls 15 off)) ||| perCls (~~~ign) (pfcMask x true), ignCls := ign }
  else if x.quanta.getD 0 0 = 0 then c.setMac p { m with pausePort := false, ignPort := false }
  else if m.ignPort then c else c.setMac p { m with pausePort := true }

/-- PAUSE_RX (R95): the oldest received flow-control frame takes effect from the next frame start. -/
def execPauseRx (p : Fin 3) (s : State) : Host.Outcome State Fault Refusal :=
  run (fun c => match (c.mac p).pauseIn with
    | [] => c
    | x :: t =>
      let c := c.setMac p { c.mac p with pauseIn := t }
      if c.rb rMAC_FC p 0 4 then (c.pauseApply p x).pausedBit p else c) s

/-- PAUSE_QUANTA_EXPIRY (R95): the quanta of a PCP value (0..7) or of the port (8) run out. -/
def execPauseQuantaExpiry (p : Fin 3) (u : Fin 9) (s : State) : Host.Outcome State Fault Refusal :=
  run (fun c =>
    let m := c.mac p
    let c := if u.val = 8 then c.setMac p { m with pausePort := false }
      else c.setMac p { m with pausedPcp := m.pausedPcp &&& ~~~(perCls 15 (1#8 <<< u.val)) }
    c.pausedBit p) s

/-- Whether a watchdog unit is held: a class (0..3) under PFC, the port (4) under PAUSE. -/
def Chip.unitHeld (c : Chip) (p u : Nat) : Bool :=
  if u = 4 then (c.mac p).pausePort else c.pcpHeld p u != 0

/-- PAUSE_WDOG (R96): a hold has lasted MAC_PAUSE_WDOG microseconds. -/
def execPauseWdog (p : Fin 3) (u : Fin 5) (s : State) : Host.Outcome State Fault Refusal :=
  run (fun c => c.when (c.unitHeld p u && c.rf rPAUSE_WDOG p 0 15 0 ≠ 0) fun c =>
    let m := c.mac p
    let c := if u.val = 4 then c.setMac p { m with pausePort := false, ignPort := true }
      else c.setMac p { m with pausedPcp := m.pausedPcp &&& ~~~(perCls (1#4 <<< u.val) 255), ignCls := m.ignCls ||| (1#4 <<< u.val) }
    (((c.macCnt p 19).wb rMAC_STATUS p 0 7 true).pausedBit p).macFault p 0x24) s

/-- PAUSE_IGNORE_END (R96): a further watchdog period has passed; the unit honours pause afresh. -/
def execPauseIgnoreEnd (p : Fin 3) (u : Fin 5) (s : State) : Host.Outcome State Fault Refusal :=
  run (fun c =>
    let m := c.mac p
    if u.val = 4 then c.setMac p { m with ignPort := false }
    else c.setMac p { m with ignCls := m.ignCls &&& ~~~(1#4 <<< u.val) }) s

/-! ## Flow control sent (R91..R94) -/

/-- The ring size exponent in use: 6..12, else the ring is disabled. -/
def Chip.rqLog (c : Chip) (p q : Nat) : Option Nat :=
  let k := c.rf rRQ_CTRL p q 3 0
  if 6 ≤ k && k ≤ 12 then some k else none

/-- Descriptors hardware owns of a ring of 2^`k` (R86): never more than the ring has. -/
def Chip.rqOwned (c : Chip) (p q k : Nat) : Nat :=
  min (2 ^ k) ((c.rf rRQ_TAIL p q 15 0 + 2 ^ 16 - c.rf rRQ_HEAD p q 15 0) % 2 ^ 16)

/-- The assertion of queue `q`, which has a ring in use, after its occupancy may have changed (R92). -/
def Chip.asrtQueue (c : Chip) (p q : Nat) : Bool :=
  let hi := c.rf rRQ_WM p q 31 16
  let lo := c.rf rRQ_WM p q 15 0
  match c.rqLog p q with
  | none => false
  | some k =>
    if hi = 0 || lo ≥ hi || !c.rb rRQ_CTRL p q 31 then false else
    let occ := 2 ^ k - c.rqOwned p q k
    if occ ≥ hi then true else if occ ≤ lo then false else (c.mac p).asrtQ.getLsbD q

/-- The classes asserted (R93). -/
def Chip.asrtCls (c : Chip) (p : Nat) : BitVec 4 :=
  (List.range 8).foldl (fun m q =>
    if (c.mac p).asrtQ.getLsbD q && c.qClass p q ≠ 3 then m ||| (1#4 <<< c.qClass p q) else m) 0

/-- MAC_STATUS.PAUSE_TX follows the classes asserted (R93). -/
def Chip.pauseTx (c : Chip) (p : Nat) : Chip := c.wb rMAC_STATUS p 0 1 (c.asrtCls p != 0)

/-- FLOW_CONTROL_ASSERT (R92, R93): queue `q`'s assertion brought up to date and MAC_STATUS.PAUSE_TX with it. -/
def Chip.flowUpdate (c : Chip) (p q : Nat) : Chip :=
  let m := c.mac p
  let b := 1#8 <<< q
  (c.setMac p { m with asrtQ := if c.asrtQueue p q then m.asrtQ ||| b else m.asrtQ &&& ~~~b }).pauseTx p

/-- The flow-control mode in force: 2 is reserved on the service MAC. -/
def Chip.fcMode (c : Chip) (p : Nat) : Nat :=
  let m := c.rf rMAC_FC p 0 1 0
  if m = 1 || (m = 2 && p ≤ 1) then m else 0

/-- A frame sent on a port: padded to 64 bytes, the FCS appended (R97); `bad` inverts the FCS (R99). -/
def Chip.sendEth (c : Chip) (p : Nat) (b : List Byte) (bad : Bool := false) : Chip :=
  let b := b ++ List.replicate (60 - b.length) 0
  let f := if bad then ~~~(crc32 b) else crc32 b
  (c.macTxBytes p (b.length + 4)).emit (.eth p (b ++ wordBytes f))

/-- A flow-control frame (R94): under PFC the PCP sets of the classes `chg`, with quanta on for the PCP values that a class
of `on` pauses (R93). -/
def Chip.sendFc (c : Chip) (p : Nat) (chg on : BitVec 4) : Chip :=
  let q := c.rf rPAUSE_QUANTA p 0 15 0
  let head : List Byte := [0x01, 0x80, 0xC2, 0, 0, 1] ++ addrBytes (c.rd rMAC_ADDR_LO p) (c.rd rMAC_ADDR_HI p) ++ [0x88, 0x08]
  let setOf := fun (m : BitVec 4) => (List.range 4).foldl (fun s t => if m.getLsbD t then s ||| c.pfcSet p t else s) 0#8
  let body := if c.fcMode p = 1 then [0, 1] ++ natBE 2 (if on != 0 then q else 0)
    else [1, 1] ++ natBE 2 (setOf chg).toNat ++
      (List.range 8).flatMap fun i => natBE 2 (if (setOf on).getLsbD i then q else 0)
  (c.sendEth p (head ++ body)).macCnt p 16

/-- What the flow-control state to send is, by mode. -/
def Chip.fcState (c : Chip) (p : Nat) : BitVec 4 :=
  if c.fcMode p = 1 then (if c.asrtCls p != 0 then 0xF else 0) else c.asrtCls p

/-- FLOW_CONTROL_FRAME_TX (R94): at an inter-frame gap, the changed state is sent; an unchanged one sends nothing. -/
def execFlowControlFrameTx (p : Fin 3) (s : State) : Host.Outcome State Fault Refusal :=
  run (fun c =>
    let st := c.fcState p
    let old := (c.mac p).fcSent
    if c.up (macDom p) && !c.txStop p && c.link p && c.fcMode p ≠ 0 && st != old then
      let c := c.sendFc p (st ^^^ old) st
      c.setMac p { c.mac p with fcSent := st }
    else c) s

/-- FLOW_CONTROL_REPEAT (R94): half the quanta time has passed while an assertion sent lasts. -/
def execFlowControlRepeat (p : Fin 3) (s : State) : Host.Outcome State Fault Refusal :=
  run (fun c =>
    let on := (c.mac p).fcSent &&& c.fcState p
    if c.up (macDom p) && !c.txStop p && c.link p && c.fcMode p ≠ 0 && on != 0 then c.sendFc p on on else c) s

/-! ## Receive rings (R86..R90) -/

/-- The address of descriptor `n` of receive ring (p, q). -/
def Chip.rqDesc (c : Chip) (p q k n : Nat) : Nat := (c.rd rRQ_BASE p q).toNat + 32 * (n % 2 ^ k)

/-- A frame's bytes with its 802.1Q tag removed. -/
def untag (b : List Byte) (tagged : Bool) : List Byte := if tagged then b.take 12 ++ b.drop 16 else b

/-- Words 1..7 of the descriptor of buffer `i` of `n` of a frame of `d` data bytes delivered, `len` in this buffer
(the receive descriptor of R86). -/
def rqWords (f : RxFrame) (h : Hdr) (i n len d : Nat) (trunc : Bool) : List Word :=
  let grp := (h.da.getD 0 0).getLsbD 0
  let bc := h.da == List.replicate 6 0xFF
  [BitVec.ofNat 32 (2 ^ 31 + b2n (i == 0) * 2 ^ 30 + b2n (i + 1 == n) * 2 ^ 29 + b2n (trunc && i + 1 == n) * 2 ^ 28
      + b2n f.fcs * 2 ^ 27 + b2n f.runt * 2 ^ 26 + b2n f.oversize * 2 ^ 25 + b2n f.code * 2 ^ 24 + b2n f.lenerr * 2 ^ 23 + len),
   BitVec.ofNat 32 ((if i = 0 then d else 0) * 2 ^ 16 + f.pcp * 2 ^ 13 + h.dscp * 2 ^ 7 + f.queue * 2 ^ 4 + f.cls * 2 ^ 2
      + b2n h.tagged * 2 + b2n (h.udp && h.dport = 319)),
   BitVec.ofNat 32 (b2n (grp && !bc) * 2 ^ 31 + b2n bc * 2 ^ 30 + b2n f.pm.isSome * 2 ^ 29 + f.pm.getD 0 * 2 ^ 26
      + f.hidx * 2 ^ 12 + h.vid),
   tsWord f.ts 0, tsWord f.ts 1, tsWord f.ts 2, 0]

/-- The buffers of a frame filled, `n` of them from count `cnt` on. -/
def Chip.rqFill (c : Chip) (p q k cnt : Nat) : Nat → List Byte → Chip
  | 0, _ => c
  | n + 1, d =>
    let (c, buf) := c.engWord .ingress false (c.rqDesc p q k cnt)
    (c.engPut .ingress false (buf.toNat / 64 * 64) (d.take 2048)).rqFill p q k (cnt + 1) n (d.drop 2048)

/-- A frame handed over in `n` buffers (R87): descriptors from the last to the first, DONE and HEAD advanced, the
receive interrupt. -/
def Chip.rqHand (c : Chip) (p q k n : Nat) (f : RxFrame) (h : Hdr) (d : List Byte) (trunc : Bool) : Chip :=
  let head := c.rf rRQ_HEAD p q 15 0
  let tot := min d.length (2048 * n)
  let c := c.each (List.range n).reverse fun c i =>
    c.engPut .ingress false (c.rqDesc p q k (head + i) + 4)
      ((rqWords f h i n (min 2048 (tot - 2048 * i)) tot trunc).flatMap wordBytes)
  let c := (c.wf rRQ_HEAD p q 15 0 (head + n)).wf rRQ_DONE p q 15 0 (c.rf rRQ_DONE p q 15 0 + n)
  if c.rb rRQ_CTRL p q 30 then c.irq (33 + 4 * p) else c

/-- A frame carries a fault of R79. -/
def RxFrame.flagged (f : RxFrame) : Bool := f.fcs || f.runt || f.oversize || f.code || f.lenerr

/-- RX_RING_DELIVER, RX_RING_NOBUF, RX_RING_DRY: a frame for the ring of its queue (R86..R90); with DELIVER_BAD = 0 a flagged one
is rewound when it ends (R80, R90). DESIGN CHOICE (log entry 170): the four bytes of the FCS are not put into the buffers. -/
def Chip.ringDeliver (c : Chip) (p : Nat) (f : RxFrame) : Chip :=
  let q := f.queue
  let h := parseHdr f.bytes
  let d := untag f.bytes h.tagged
  let n := max 1 ((d.length + 2047) / 2048)
  match c.rqLog p q with
  | none => c.inc rRQ_NOBUF p q
  | some k =>
    let own := c.rqOwned p q k
    if !c.rb rRQ_CTRL p q 31 || own = 0 then c.inc rRQ_NOBUF p q
    else
      let cnt := c.rf rRQ_HEAD p q 15 0
      if n ≤ own then
        let c := c.rqFill p q k cnt n d
        if f.flagged && !c.rb rMAC_CTRL p 0 9 then c else (c.rqHand p q k n f h d false).flowUpdate p q
      else
        let c := ((c.rqFill p q k cnt own d).inc rRQ_TRUNC p q).macFault p 0x22
        if c.rb rMAC_CTRL p 0 9 then (c.rqHand p q k own f h d true).flowUpdate p q else c

/-- A write of ING_RQ_TAIL (R86): refused and logged when it would give hardware more than 2^k descriptors. -/
def Chip.rqTailWrite (c : Chip) (p q : Nat) (v : Word) : Chip :=
  let own := (fld v 15 0 + 2 ^ 16 - c.rf rRQ_HEAD p q 15 0) % 2 ^ 16
  if own > 2 ^ c.rf rRQ_CTRL p q 3 0 then c.macFault p 0x26
  else (c.wf rRQ_TAIL p q 15 0 (fld v 15 0)).flowUpdate p q

/-! ## Transmit rings (R97..R99) -/

/-- The transmit ring size exponent in use, 4..10. -/
def Chip.tqLog (c : Chip) (p t : Nat) : Option Nat :=
  let k := c.rf rTQ_CTRL p t 3 0
  if c.rb rTQ_CTRL p t 31 && 4 ≤ k && k ≤ 10 then some k else none

/-- Descriptors hardware owns on transmit ring t of 2^`k` (R97, as R86). -/
def Chip.tqOwned (c : Chip) (p t k : Nat) : Nat :=
  min (2 ^ k) ((c.rf rTQ_TAIL p t 15 0 + 2 ^ 16 - c.rf rTQ_HEAD p t 15 0) % 2 ^ 16)

/-- A write of ING_TQ_TAIL, as R86 for a transmit ring (R97). -/
def Chip.tqTailWrite (c : Chip) (p t : Nat) (v : Word) : Chip :=
  let own := (fld v 15 0 + 2 ^ 16 - c.rf rTQ_HEAD p t 15 0) % 2 ^ 16
  if own > 2 ^ c.rf rTQ_CTRL p t 3 0 then c.macFault p 0x26 else c.wf rTQ_TAIL p t 15 0 (fld v 15 0)

/-- What the descriptors of the frame at a ring's head spell. -/
structure TxFrame where
  bytes : List Byte := []
  n : Nat := 0
  bad : Bool := false
  done : Bool := false
  csum : Bool := false
  tag : Option Word := none

/-- The frame at the head of a transmit ring read descriptor by descriptor to its EOF, at most `own` of them. -/
def Chip.tqGather (c : Chip) (base k cnt : Nat) : Nat → TxFrame → Chip × TxFrame
  | 0, x => (c, x)
  | own + 1, x =>
    let a := base + 16 * (cnt % 2 ^ k)
    let (c, l) := c.engBytes .ingress false a 16
    let w := datas l
    let w1 := leWordAt w 4
    let (c, b) := c.engBytes .ingress false (leWordAt w 0).toNat (fld w1 13 0)
    let x := { x with bytes := x.bytes ++ datas b, n := x.n + 1, bad := x.bad || anyBad b || anyBad l
                      csum := x.csum || bit w1 28, tag := if bit w1 27 && x.n = 0 then some (leWordAt w 8) else x.tag }
    if bit w1 29 then (c, { x with done := true }) else c.tqGather base k (cnt + 1) own x

/-- The one's complement checksum of 16-bit words. -/
def onesSum (l : List Byte) : Nat → Nat → Nat
  | 0, s => s
  | n + 1, s =>
    let s := s + (l.getD 0 0).toNat * 256 + (l.getD 1 0).toNat
    onesSum (l.drop 2) n (s % 65536 + s / 65536)

/-- The Internet checksum of bytes. -/
def inetSum (l : List Byte) : Nat := 65535 - onesSum l ((l.length + 1) / 2) 0

/-- Bytes `v` put in place of those at offset `o`. -/
def patch (l : List Byte) (o : Nat) (v : List Byte) : List Byte := l.take o ++ v ++ l.drop (o + v.length)

/-- The IPv4 header checksum and the UDP checksum inserted (R97, CSUM). -/
def insertCsum (b : List Byte) : List Byte :=
  let h := parseHdr b
  if !h.ipv4 then b else
  let o := if h.tagged then 18 else 14
  let ihl := (b.getD o 0).toNat % 16 * 4
  let b := patch b (o + 10) [0, 0]
  let b := patch b (o + 10) (natBE 2 (inetSum (slice b o ihl)))
  if !h.udp then b else
  let u := o + ihl
  let n := beNat (slice b (u + 4) 2)
  let b := patch b (u + 6) [0, 0]
  let x := inetSum (slice b (o + 12) 8 ++ [0, 17] ++ natBE 2 n ++ slice b u n)
  patch b (u + 6) (natBE 2 (if x = 0 then 65535 else x))

/-- The descriptors of a sent or dropped frame written DD (R97..R99), HEAD and DONE advanced, the transmit interrupt. -/
def Chip.tqDone (c : Chip) (p t k n : Nat) (dropped : Bool) : Chip :=
  let head := c.rf rTQ_HEAD p t 15 0
  let base := (c.rd rTQ_BASE p t).toNat
  let c := c.each (List.range n) fun c i =>
    let a := base + 16 * ((head + i) % 2 ^ k) + 4
    let (c, w) := c.engWord .ingress false a
    c.engSetWord .ingress false a (setBit (setBit w 31 true) 26 dropped)
  let c := (c.wf rTQ_HEAD p t 15 0 (head + n)).wf rTQ_DONE p t 15 0 (c.rf rTQ_DONE p t 15 0 + n)
  if c.rb rTQ_CTRL p t 30 then c.irq (34 + 4 * p) else c

/-- The transmit timestamp (R42): the clock, less the synchroniser, plus the latency; floored (log entry 167). -/
def Chip.txStamp (c : Chip) (p : Nat) : Nat := (16 * c.now - 16 * syncDelay + c.txLat p) / 16

/-- The dual-clock queue of port `p`'s transmit frames: XQ_NA_TX, XQ_NB_TX, XQ_SV_TX (R468). -/
def txQueue (p : Nat) : Nat := if p = 2 then 5 else 2 + p

/-- One frame of transmit queue `t`, when one is whole and the queue is not held; the flag tells that it went. DESIGN CHOICE: a
queue held by received pause is not drained while the link is down (log entry 224), and an aborted frame counts as sent too (log
entry 225). A frame that a reset of the queue caught ends as R99 says (R468). -/
def Chip.txFrom (c : Chip) (p t : Nat) : Chip × Bool :=
  match c.tqLog p t with
  | none => (c, false)
  | some k =>
    if c.tqOwned p t k = 0 || c.txHeld p t then (c, false) else
    let (c', x) := c.tqGather (c.rd rTQ_BASE p t).toNat k (c.rf rTQ_HEAD p t 15 0) (c.tqOwned p t k) {}
    if !x.done then (c, false)
    else if !c.link p then
      if c.rb rMAC_CTRL p 0 10 then ((c'.macCnt p 18).tqDone p t k x.n true, true) else (c, false)
    else
      let b := match x.tag with
        | some w => x.bytes.take 12 ++ [0x81, 0x00] ++ natBE 2 (fld w 15 0) ++ x.bytes.drop 12
        | none => x.bytes
      let b := if x.csum then insertCsum b else b
      if x.bad || c'.cutOff [txQueue p] then (((((c'.cutDone [txQueue p]).sendEth p b true).macCnt p 17).macFault p 0x25).tqDone p t k x.n true, true)
      else
        let c := c'.sendEth p b
        let h := parseHdr b
        let c := if h.udp && h.dport = 319 && c.rb rTIME_CTRL 0 0 1 then
            c.txtsPush p (beNat (slice h.payload 30 2)) (c.txStamp p) else c
        (c.tqDone p t k x.n false, true)

/-- FRAME_TRANSMIT (R97): the next frame in strict priority, TQ3 first. -/
def execFrameTransmit (p : Fin 3) (s : State) : Host.Outcome State Fault Refusal :=
  run (fun c => if !c.up (macDom p) || c.txStop p then c else
    ([3, 2, 1, 0].foldl (fun (x : Chip × Bool) t => if x.2 then x else x.1.txFrom p t) (c, false)).1) s

end Sys2Proof.Machine
end

