-- ==== Sys2Proof/Machine/Urgent.lean ====
section
/-! DEFINITION. The urgent parsers: Dalilo Live Cues into lane inserts (spec/04 R134..R138, R140). -/

namespace Sys2Proof.Machine

/-- Urgent parser `p` beside its registers. -/
def Chip.urg (c : Chip) (p : Nat) : Urg := mget ({} : Urg) c.urgs p

/-- Urgent parser `p` set. -/
def Chip.setUrg (c : Chip) (p : Nat) (x : Urg) : Chip := { c with urgs := mset ({} : Urg) c.urgs p x }

/-- A counter of the parser: 0 URG_RX, 1 AUTHFAIL, 2 REPLAY, 3 BADFMT, 4 NOCUE, 5 QFULL, 6 BURST. -/
def Chip.urgCnt (c : Chip) (p j : Nat) : Chip := c.inc rURG_CNT p j

/-- The queue XQ_URG_Ak (`p` 0) or XQ_URG_Bk. -/
def Chip.urgQueue (c : Chip) (p k : Nat) : List UrgEnt := mget [] c.urgQ (6 * p + k)

/-- The queue set. -/
def Chip.setUrgQueue (c : Chip) (p k : Nat) (l : List UrgEnt) : Chip := { c with urgQ := mset [] c.urgQ (6 * p + k) l }

/-- The ports of bank `k` in the mask of cue `q`. -/
def Chip.cueMask (c : Chip) (p q k : Nat) : BitVec 8 :=
  BitVec.ofNat 8 (((c.rf rCUE_MHI p q 15 0 * 2 ^ 32 + (c.rd rCUE_MLO p q).toNat) / 2 ^ (8 * k)) % 256)

/-- The words of the insert of cue `q` (R137). -/
def Chip.cueWords (c : Chip) (p q : Nat) (seq : BitVec 32) (arg : Option Word) : List Word :=
  let a := match arg with
    | some w => if c.rb rCUE_MHI p q 30 then [w] else []
    | none => []
  setFld (setFld (c.rd rCUE_TPL p q) 15 8 seq.toNat) 3 2 a.length :: a

/-- The insert of a frame received at `ts` written to the queue of bank `k` (R138); without room for all of it, nothing is. -/
def Chip.urgPush (c : Chip) (p k : Nat) (m : BitVec 8) (ws : List Word) (ts : Nat) : Chip :=
  if m = 0 then c else
  let q := c.urgQueue p k
  if q.length + ws.length > 16 then ((c.urgCnt p 5).log (macSrc p) 0x29).irq (35 + 4 * p)
  else c.setUrgQueue p k (q ++ ws.mapIdx fun i w => { mask := m, word := w, words := if i = 0 then ws.length else 0, ts := ts, left := m })

/-- The first 8 bytes of the tag R135 asks for. -/
def dlcTag (key : List Byte) (src : BitVec 32) (b : List Byte) : List Byte :=
  (gcmSeal key (natBE 4 src.toNat ++ slice b 4 4 ++ [0, 0, 0, 0]) (b.take 16) []).2.take 8

/-- A cue whose layout is good: tag, replay, table, inserts (R135..R138, R140). -/
def Chip.cue (c : Chip) (p : Nat) (src : BitVec 32) (b : List Byte) (ts : Nat) : Chip :=
  let kid := (b.getD 8 0).toNat
  let key := if kid = 0 then (c.urg p).key0 else (c.urg p).key1
  let seq : BitVec 32 := BitVec.ofNat 32 (beNat (slice b 4 4))
  let bad := match key with
    | none => true
    | some k => dlcTag k src b != slice b 16 8
  if bad then ((c.urgCnt p 1).log (macSrc p) 0x28).irq (35 + 4 * p)
  else if seq.toNat ≤ (c.rd rURG_LASTSEQ p kid).toNat then c.urgCnt p 2
  else
    let x := c.urg p
    let burst := match x.lastAccept with
      | none => false
      | some t => c.now < t + c.rf rURG_GAP p 0 15 0
    let c := (c.wr rURG_LASTSEQ p kid seq).setUrg p { x with lastAccept := some c.now }
    let c := if burst then c.urgCnt p 6 else c
    let q := (b.getD 9 0).toNat
    if !c.rb rCUE_MHI p q 31 then c.urgCnt p 4 else
    let arg := if (b.getD 3 0).getLsbD 0 then some (BitVec.ofNat 32 (beNat (slice b 12 4))) else none
    let ws := c.cueWords p q seq arg
    c.each (List.range 6) fun c k => c.urgPush p k (c.cueMask p q k) ws ts

/-- A DLC frame after its FCS decision (R134). -/
def Chip.dlc (c : Chip) (p : Nat) (f : RxFrame) : Chip :=
  let c := c.urgCnt p 0
  let h := parseHdr f.bytes
  let b := h.payload
  if f.flagged || b.length ≠ 24 || beNat (slice b 0 2) ≠ 0x444C || (b.getD 2 0) ≠ 1
      || (b.getD 3 0).toNat ≥ 2 || (b.getD 8 0).toNat ≥ 2 || (b.getD 9 0).toNat ≥ 32 || slice b 10 2 != [0, 0] then c.urgCnt p 3
  else c.cue p h.src b f.ts

/-- DLC_FRAME (R134): the oldest frame the urgent parser of port `p` has taken. -/
def execDlcFrame (p : Fin 2) (s : State) : Host.Outcome State Fault Refusal :=
  run (fun c => if !c.alive (macDom p) then c else
    match (c.mac p).dlcIn with
    | [] => c
    | f :: t => (c.setMac p { c.mac p with dlcIn := t }).dlc p f) s

end Sys2Proof.Machine
end

