-- ==== Sys2Proof/Machine/Inserts.lean ====
section
/-! DEFINITION. Escape inserts on the lanes (spec/04 R137..R139; spec/09 R274, R277; spec/10 R299..R301, R325). -/

namespace Sys2Proof.Machine

/-! ## Escape inserts (R137..R139, R274, R277, R325) -/

/-- The oldest insert of a queue that has still to reach the port of bit `i`: its place, and its words. -/
def urgFind (q : List UrgEnt) (i : Nat) : Option (Nat × Nat) :=
  ((List.range q.length).find? fun j => match q[j]? with
    | some e => e.words ≠ 0 && e.left.getLsbD i
    | none => false).map fun j => (j, match q[j]? with | some e => e.words | none => 0)

/-- Inserts at the front of a queue that no port waits for any more leave it. -/
def urgTrim : Nat → List UrgEnt → List UrgEnt
  | 0, q => q
  | _, [] => []
  | n + 1, e :: t => if e.left = 0 then urgTrim n (t.drop (e.words - 1)) else e :: t

/-- The words of an insert on a lane (R299, R301, R325): its header and as many argument words as [3:2] of it says, none on a lane
of version 1. It carries no CRC, and it enters no cell: no LEN, no CRC and no signature counts its words (R300). -/
def insertWords (ver : Nat) (ws : List Word) : List Word :=
  if ver = 1 then [setFld (ws.getD 0 0) 3 2 0] else ws.take (1 + fld (ws.getD 0 0) 3 2)

/-- An insert placed on LANE port `p`, or discarded there and counted (R139, R274). -/
def Chip.insertAt (c : Chip) (p : Nat) (ws : List Word) : Chip :=
  if c.ringOdd p then c
  else if c.isLane p && c.bankReady p then
    let l := insertWords (c.laneVer p) ws
    let c := (c.inc rPORT_CNT p 9).emit (.insert p l)
    if (c.port p).ringNow then (c.inc rPORT_CNT (p + 1) 9).emit (.insert (p + 1) l) else c
  else ((c.inc rPORT_CNT p 10).portCause p 8).log (0x10 + p) 0xB6

/-- The parser whose insert port `n` takes next: 0 NA, 1 NB; the earlier receive timestamp first, NA at a tie (R29). -/
def Chip.insertFrom (c : Chip) (n : Nat) : Option (Nat × Nat × Nat) :=
  let at_ (u : Nat) := (urgFind (c.urgQueue u (bankOf n)) (n % 8)).map fun r => (u, r)
  let ts (x : Nat × Nat × Nat) : Nat := ((c.urgQueue x.1 (bankOf n))[x.2.1]?.map (·.ts)).getD 0
  match at_ 0, at_ 1 with
  | some x, some y => if ts y < ts x then some y else some x
  | some x, none => some x
  | none, y => y

/-- Port `n` places or discards the insert it takes next, if one waits for it (R139). -/
def Chip.insertNext (c : Chip) (n : Nat) : Chip :=
  let k := bankOf n
  match c.insertFrom n with
  | none => c
  | some (u, j, w) =>
    let q := c.urgQueue u k
    let ws := ((q.drop j).take w).map (·.word)
    let q := q.mapIdx fun m e => if m = j then { e with left := e.left &&& ~~~(1#8 <<< (n % 8)) } else e
    (c.setUrgQueue u k (urgTrim 16 q)).insertAt n ws

/-- Every insert that waits for port `p` placed, before the next START mark (R139, R299); each queue holds 16 words. -/
def Chip.insertsAt (c : Chip) (p : Nat) : Chip := c.each (List.range 32) fun c _ => c.insertNext p

/-- ESCAPE_INSERT (R139): port `n` takes the next insert that waits for it. -/
def execEscapeInsert (n : Fin 48) (s : State) : Host.Outcome State Fault Refusal :=
  run (fun c => c.when (c.up (.bank (bankOf n))) fun c => c.insertNext n) s

end Sys2Proof.Machine
end

