-- ==== Sys2Proof/Machine/Pair.lean ====
section
/-! DEFINITION. The pair's states, epochs, witnesses, takeover, adoption and demotion (spec/12 R359..R379), and the messages
a unit sends. -/

namespace Sys2Proof.Machine

/-- The pair logic's part of the state set. -/
def Chip.setCdr (c : Chip) (x : CdrSt) : Chip := { c with cdr := x }

/-- Side B, by the PAIR_AB strap. -/
def Chip.sideB (c : Chip) : Bool := c.rb rSTRAP 0 0 4

/-- The Corridor link is up. -/
def Chip.corridorUp (c : Chip) : Bool := c.rb rCDR_STATUS 0 0 9

/-- A pair counter: 0 TAKEOVER, 1 DEMOTE, 2 ADOPT, 3 HB_LOSS, 4 CASK_DISCARD, 5 CASK_OVF, 6 LOCKSTEP_MISS, 7 CRC_ERR. -/
def Chip.cdrCnt (c : Chip) (i : Nat) : Chip := c.inc rCDR_CNT i 0

/-- A Corridor message sent (R365); one that a reset of XQ_CDR_TX caught is lost (R468). -/
def Chip.cdrMsg (c : Chip) (type : Nat) (body : List Word) : Chip :=
  let m := c.cdr.mseq
  if c.cutOff [0x40] then (c.setCdr { c.cdr with mseq := m + 1 }).cutDone [0x40] else
  let l := BitVec.ofNat 32 (type * 2 ^ 28 + body.length % 4096 * 2 ^ 16 + m.toNat) :: body
  (c.setCdr { c.cdr with mseq := m + 1 }).emit (.cdr (l ++ [wordsCrc l]))

/-- A Corridor message sent while the link is up. -/
def Chip.cdrSend (c : Chip) (type : Nat) (body : List Word) : Chip := if c.corridorUp then c.cdrMsg type body else c

/-- The paired ports. -/
def Chip.pairedPorts (c : Chip) : List Nat := (List.range 48).filter fun p => c.paired p

/-! ## Epochs (R329, R373) -/

/-- Epoch `a` is higher than `b`, modulo 2^16. -/
def epochHigher (a b : Nat) : Bool := let d := (a + 65536 - b) % 65536; 1 ≤ d && d ≤ 32767

/-- The smallest new epoch above OWN and PEER with the side's parity, not 0 (R373), of side `b`. -/
def newEpoch (own peer : Nat) (b : Bool) : Nat :=
  (((List.range 65536).map fun i => (own + 1 + i) % 65536).find? fun e =>
    epochHigher e own && epochHigher e peer && e % 2 = b2n b && e ≠ 0).getD own

/-- CDR_EPOCH.OWN and PEER. -/
def Chip.ownEpoch (c : Chip) : Nat := c.rf rCDR_EPOCH 0 0 15 0
def Chip.peerEpoch (c : Chip) : Nat := c.rf rCDR_EPOCH 0 0 31 16

/-- An epoch seen from the peer: the highest non-zero one is kept (R373). -/
def Chip.seeEpoch (c : Chip) (e : Nat) : Chip :=
  if e ≠ 0 && (c.peerEpoch = 0 || epochHigher e c.peerEpoch) then c.wf rCDR_EPOCH 0 0 31 16 e else c

/-! ## Casks and regions left unfinished (R385, R387) -/

/-- A cask discarded (R385). -/
def Chip.caskDiscard (c : Chip) : Chip := ((c.cdrCnt 4).log 0x0D 0xD8).irq 182

/-- The cask that is being received, if one is, lacks its SEAL and is discarded (R385). -/
def Chip.caskDrop (c : Chip) : Chip :=
  if c.cdr.caskIn.isSome then (c.setCdr { c.cdr with caskIn := none }).caskDiscard else c

/-- The transfer of region `r` begins (R387). -/
def Chip.bulkStart (c : Chip) (r : Nat) : Chip :=
  ((c.setCdr { c.cdr with bulkOut := some { region := r, off := 0 }, bulkTodo := c.cdr.bulkTodo &&& ~~~(1#5 <<< r) }).wb rCDR_BULK 0 0 31 true).wf rCDR_BULK 0 0 19 16 r

/-- No region is being sent, and none is to be. -/
def Chip.bulkStop (c : Chip) : Chip := (c.setCdr { c.cdr with bulkOut := none, bulkTodo := 0 }).wb rCDR_BULK 0 0 31 false

/-- The next region to be sent, in region order; with none left the transfer ends (R387). -/
def Chip.bulkGo (c : Chip) : Chip :=
  match [1, 2, 3, 4].find? fun r => c.cdr.bulkTodo.getLsbD r with
  | some r => c.bulkStart r
  | none => c.bulkStop

/-- Regions wanted, besides those already to be sent (R384, R387). -/
def Chip.bulkAsk (c : Chip) (m : BitVec 5) : Chip :=
  let c := c.setCdr { c.cdr with bulkTodo := c.cdr.bulkTodo ||| m }
  if c.cdr.bulkOut.isSome then c else c.bulkGo

/-- Something of the region being received was lost: it is to be sent again whole (R365). -/
def Chip.bulkSpoil (c : Chip) : Chip :=
  match c.cdr.bulkIn with
  | some b => c.setCdr { c.cdr with bulkIn := none, bulkLost := c.cdr.bulkLost ||| (1#5 <<< b.region) }
  | none => c

/-! ## States (R368, R369) -/

/-- The two units' HELLOs have left no common cask version (R391). -/
def Chip.noVersion (c : Chip) : Bool := c.cdr.peerVer.isSome && c.rf rCDR_VER 0 0 23 16 = 0

/-- The unit that joins finds no common version (R391): VERSION_ERR, interrupt 176, CDR_VERSION. -/
def Chip.versionCheck (c : Chip) : Chip :=
  if c.noVersion && c.pairState = 2 then ((c.wb rCDR_STATUS 0 0 14 true).log 0x0D 0xDB).irq 176 else c

/-- CDR_STATUS.STATE changed (R369): interrupt 176 and CDR_STATE. A unit that enters SYNCING has no region yet and is not
in lockstep; one that is ACTIVE has adopted no port, and one that is not sends no region (DEDUCED, log entry 202). -/
def Chip.setPair (c : Chip) (st : Nat) : Chip :=
  if c.pairState = st then c else
  let c := ((c.wf rCDR_STATUS 0 0 2 0 st).log 0x0D 0xD0).irq 176
  let c := c.setCdr { c.cdr with askRevert := false, fresh := st = 4 }
  let c := if st = 4 then (c.wr rCDR_ADOPT 0 0 0).wr rCDR_ADOPT 1 0 0 else c.bulkStop.setCdr { c.bulkStop.cdr with bulkSent := false, imageSent := false }
  if st = 2 then ((c.setCdr { c.cdr with regions := 0, lockRun := 0, bulkIn := none, bulkLost := 0 }).wb rCDR_STATUS 0 0 13 false).versionCheck else c

/-- A paired port that comes to drive its chain: the raster cells of the frame in progress go, unless its window is still to open,
and its nodes need RESUME at its next window (R372). -/
def Chip.needResume (c : Chip) (p : Nat) : Chip :=
  let ahead := c.ras.inFrame && !(c.port p).opened
  let c := if ahead then c else c.dropRaster p
  c.setPort p { c.port p with held := true, window := false, blank := [], loss := c.ras.inFrame && !ahead, holdFirst := false }

/-- The unit becomes ACTIVE from JOINING: with a new epoch (R373), its ports drive from the next window. -/
def Chip.activate (c : Chip) : Chip :=
  let e := newEpoch c.ownEpoch c.peerEpoch c.sideB
  let c := (c.wf rCDR_EPOCH 0 0 15 0 e).setPair 4
  c.each c.pairedPorts fun c p => c.needResume p

/-- A unit in JOINING goes on as the peer allows (R369). -/
def Chip.joinCheck (c : Chip) : Chip :=
  if c.pairState ≠ 1 || !c.corridorUp then c else
  let peer := c.rf rCDR_STATUS 0 0 5 3
  if peer = 4 || (peer = 1 && c.sideB) then c.setPair 2
  else if !c.sideB && (peer = 1 || peer = 2) then c.activate
  else c

/-- A unit in SYNCING that is complete enters STANDBY (R388); one without a common cask version stays (R391). -/
def Chip.syncCheck (c : Chip) : Chip :=
  if c.pairState = 2 && c.cdr.regions = 0b11110 && c.rb rCDR_STATUS 0 0 13 && !c.noVersion then c.setPair 3 else c

/-! ## Swaps refused or abandoned (R389, R392) -/

/-- A swap refused: GO clears, CDR_SWAP_REFUSED is logged. -/
def Chip.swapRefuse (c : Chip) : Chip :=
  (((c.setCdr { c.cdr with swap := none }).wb rCDR_SWAP 0 0 31 false).wb rCDR_STATUS 0 0 15 false).log 0x0D 0xDD

/-- A swap whose SWAP_ACK has not come before P(k − 1), by the grid, is refused (R389). -/
def Chip.swapLate (c : Chip) : Chip :=
  match c.cdr.swap with
  | none => c
  | some x =>
    let n := gridK c.time.grid c.now
    let k := n + (x.k - BitVec.ofInt 32 n).toInt
    if !x.incoming && !x.agreed && gridF c.time.grid (k - 1) + (c.rd rSH_TW 0 1).toNat ≤ c.now then c.swapRefuse else c

/-! ## Takeover, adoption, demotion (R370..R378) -/

/-- The witness ports: paired, in the mask, not adopted. -/
def Chip.witnessPorts (c : Chip) : List Nat :=
  c.pairedPorts.filter fun p => maskBit (c.rd rCDR_WMASK_LO) (c.rd rCDR_WMASK_HI) p && !c.adopted p

/-- Every witness port shows the peer gone (R370). -/
def Chip.witnessGone (c : Chip) : Bool := c.witnessPorts.all fun p => !c.cdr.heard.getLsbD p

/-- The heartbeat is present (R367). -/
def Chip.hbOk (c : Chip) : Bool := c.rb rCDR_STATUS 0 0 8

/-- Takeover is armed (R368). -/
def Chip.takeArmed (c : Chip) : Bool :=
  (c.pairState = 3 && c.rb rCDR_CTRL 0 0 1)
    || (c.pairState = 2 && c.rb rCDR_CTRL 0 0 3 && c.cdr.regions.getLsbD 1 && c.cdr.regions.getLsbD 2 && c.cdr.regions.getLsbD 3)

/-- The ASSUME cell of port `p` (R312, R372). -/
def Chip.assumeCell (c : Chip) (p : Nat) : OwnCell :=
  { head := cellHead 0xB 0 2 0, words := [c.epochWord p (c.port p).ftag, BitVec.ofNat 32 (c.objNat 0x1010 0 16383 % 16384)] }

/-- The sequence of R372 on port `p`: ASSUME (a version 1 port sends none), HOLD, then IDLE; the frame in progress is
discarded. -/
def Chip.assumeSeq (c : Chip) (p : Nat) : Chip :=
  let c := c.needResume p
  let l := if c.laneVer p = 2 then [c.assumeCell p, c.holdCell p] else [c.holdCell p]
  c.setPort p { c.port p with urgent := l, presentDue := false }

/-- The unit takes over (R371). -/
def Chip.takeover (c : Chip) : Chip :=
  let c := if c.cdr.swap.isSome then c.swapRefuse else c
  let c := c.caskDrop
  let c := c.wf rCDR_EPOCH 0 0 15 0 (newEpoch c.ownEpoch c.peerEpoch c.sideB)
  let c := (((c.setPair 4).cdrCnt 0).log 0x0D 0xD1).irq 177
  c.each c.pairedPorts fun c p => c.assumeSeq p

/-- Port `p` adopts its chain (R376): IDLE with the peer's epoch, then HOLD. -/
def Chip.adopt (c : Chip) (p : Nat) : Chip :=
  let c := c.wb rCDR_ADOPT (p / 32) 0 (p % 32) true
  let c := ((c.cdrCnt 2).log 0x0D 0xD7).irq 181
  let c := c.needResume p
  c.setPort p { c.port p with urgent := [c.idleCell p, c.holdCell p], presentDue := false }

/-- The ports that adopt: of a unit that is not ACTIVE, with ADOPT_EN and the heartbeat present, each that shows the peer
gone (R376). -/
def Chip.adoptCheck (c : Chip) : Chip :=
  if c.pairState ≠ 4 && c.rb rCDR_CTRL 0 0 2 && c.hbOk then
    c.each (c.pairedPorts.filter fun p => !c.adopted p && !c.cdr.heard.getLsbD p) fun c p => c.adopt p
  else c

/-- CORRIDOR_DOWN (R375), for a unit that takes part in a pair: each change raises interrupt 180 and is logged. -/
def Chip.downCheck (c : Chip) : Chip :=
  let d := c.pairState ≠ 0 && (!c.corridorUp || (!c.hbOk && !c.witnessGone))
  if c.rb rCDR_STATUS 0 0 7 = d then c
  else ((c.wb rCDR_STATUS 0 0 7 d).log 0x0D (if d then 0xD5 else 0xD6)).irq 180

/-- What the pair logic concludes after an event (R369..R376): WITNESS_GONE, takeover, ARMED, CORRIDOR_DOWN. -/
def Chip.pairCheck (c : Chip) : Chip :=
  let c := c.joinCheck.syncCheck
  let c := c.wb rCDR_STATUS 0 0 10 (c.pairState ≠ 0 && c.witnessGone)
  let c := if c.takeArmed && !c.hbOk && c.witnessGone then c.takeover else c
  (c.wb rCDR_STATUS 0 0 11 c.takeArmed).downCheck

/-- The unit demotes itself (R378): witness mode on every paired port, SYNCING. -/
def Chip.demote (c : Chip) : Chip :=
  let c := if c.cdr.swap.isSome then c.swapRefuse else c
  let c := ((((c.setPair 2).cdrCnt 1).log 0x0D 0xD2).irq 178)
  (c.each c.pairedPorts fun c p => c.setPort p { c.port p with urgent := [], blank := [] }).adoptCheck.pairCheck

/-- An epoch-bearing cell or STATE message with epoch `e` (R373, R378). -/
def Chip.epochSeen (c : Chip) (e : Nat) : Chip :=
  let c := c.seeEpoch e
  if c.pairState = 4 && e ≠ 0 && epochHigher e c.ownEpoch then c.demote else c

/-! ## Heartbeat (R366, R367) -/

/-- PEER_ALIVE_OUT is stopped (R366). -/
def Chip.hbStopped (c : Chip) : Bool :=
  !c.rb rCDR_CTRL 0 0 0 || c.rb rCDR_CTRL 0 0 5 || c.cdr.wdExpired || c.pwr.pfw || !c.rb rCLKSTAT 0 0 6 || !c.rb rCLKSTAT 0 0 15

/-- HEARTBEAT_OUT (R366). -/
def execHeartbeatOut (s : State) : Host.Outcome State Fault Refusal :=
  run (fun c => c.when (c.alive .cdr && c.alive .ts && !c.hbStopped) fun c => c.emit .heartbeat) s

/-- HEARTBEAT_EDGE (R367): the heartbeat is restored at the first rising edge. -/
def execHeartbeatEdge (s : State) : Host.Outcome State Fault Refusal :=
  run (fun c => c.when (c.up .cdr) fun c =>
    if c.hbOk then c else (((c.wb rCDR_STATUS 0 0 8 true).log 0x0D 0xD4).irq 179).adoptCheck.pairCheck) s

/-- CDR_HB_LOST (R367): HB_MISS microseconds without an edge. -/
def execCdrHbLost (s : State) : Host.Outcome State Fault Refusal :=
  run (fun c => c.when (c.up .cdr && c.hbOk) fun c =>
    ((((c.wb rCDR_STATUS 0 0 8 false).cdrCnt 3).log 0x0D 0xD3).irq 179).pairCheck) s

/-- WITNESS_GONE (R370): port `p` has heard no cell but keepalives for 2 cell times. -/
def execWitnessGone (p : Fin 48) (s : State) : Host.Outcome State Fault Refusal :=
  run (fun c => c.when (c.up .cdr) fun c =>
    let c := c.setCdr { c.cdr with heard := c.cdr.heard &&& ~~~(1#48 <<< p.val) }
    c.pairCheck.adoptCheck.pairCheck) s

/-- The CDR domain has lost its clock (R30, R366): a unit in a pair beyond JOINING goes on in SYNCING, its paired ports in witness
mode, each after a HOLD that is due on it. DESIGN CHOICE (log entry 231). -/
def Chip.pairDrop (c : Chip) : Chip :=
  if c.pairState < 3 then c else
  let c := if c.cdr.swap.isSome then c.swapRefuse else c
  let c := c.each c.pairedPorts fun c p =>
    c.setPort p { c.port p with holdFirst := (c.port p).urgent.any fun k => fld k.head 31 28 = 6 }
  c.setPair 2

/-- HEARTBEAT_STOP (R366): an ACTIVE unit whose heartbeat is stopped leaves its chains, each port after a HOLD that is due on
it. -/
def execHeartbeatStop (s : State) : Host.Outcome State Fault Refusal :=
  run (fun c => if c.alive .cdr && c.pairState = 4 && c.hbStopped then
      let c := if c.cdr.swap.isSome then c.swapRefuse else c
      let c := c.each c.pairedPorts fun c p =>
        c.setPort p { c.port p with holdFirst := (c.port p).urgent.any fun k => fld k.head 31 28 = 6 }
      (c.setPair 2).adoptCheck.pairCheck
    else c) s

/-- START_WAIT_EXPIRY (R369): the Corridor has been down for START_WAIT and every witness port shows the peer gone. -/
def execStartWaitExpiry (s : State) : Host.Outcome State Fault Refusal :=
  run (fun c => if c.up .cdr && c.pairState = 1 && !c.corridorUp && c.witnessGone then c.activate.pairCheck else c) s

/-- CDR_CTRL written (R359, R369): EN moves the unit between SOLO and JOINING; ports that leave the pair drive again from
their next window. -/
def Chip.cdrCtrl (c : Chip) (old : Word) : Chip :=
  let en := c.rb rCDR_CTRL 0 0 0
  if en && !bit old 0 && c.rb rSTRAP 0 0 3 && c.pairState = 0 then (c.setPair 1).adoptCheck.pairCheck
  else if !en && c.pairState ≠ 0 then
    let c := if c.cdr.swap.isSome then c.swapRefuse else c
    let c := c.each c.pairedPorts fun c p => if c.witness p then c.setPort p { c.port p with soloWait := true } else c
    let c := ((c.setPair 0).wr rCDR_ADOPT 0 0 0).wr rCDR_ADOPT 1 0 0
    (c.setCdr { c.cdr with swapLeft := 0 }).pairCheck
  else
    let c := if c.rb rCDR_CTRL 0 0 4 then c else c.setCdr { c.cdr with askRevert := false }
    c.adoptCheck.pairCheck

/-- CDR_HB written: HB_MISS is held to 2..15 (R367; DESIGN CHOICE, log entry 230). -/
def Chip.hbClamp (c : Chip) : Chip := if c.rf rCDR_HB 0 0 3 0 < 2 then c.wf rCDR_HB 0 0 3 0 2 else c

/-- CDR_EPOCH written (R379): OWN changes only by world S and in SOLO or JOINING; PEER is the hardware's. -/
def Chip.epochWrite (c : Chip) (old : Word) : Chip := if c.pairState ≤ 1 then c else c.wr rCDR_EPOCH 0 0 old

/-- REVERT_DELAY_EXPIRY (R390): the side-A unit asks for a swap in its STATE messages. -/
def execRevertDelayExpiry (s : State) : Host.Outcome State Fault Refusal :=
  run (fun c => if c.up .cdr && c.pairState = 3 && !c.sideB && c.rb rCDR_CTRL 0 0 4 && c.rb rCDR_STATUS 0 0 13 then
      c.setCdr { c.cdr with askRevert := true } else c) s

/-- ASSUME_SEND (R372): port `p` sends the ASSUME that stands at the head of its cells, the inserts that wait before its START
(R299, R392). -/
def execAssumeSend (p : Fin 48) (s : State) : Host.Outcome State Fault Refusal :=
  run (fun c =>
    match if c.up (.bank (bankOf p)) && (c.bank (bankOf p)).step = 0 then (c.port p).urgent else [] with
    | k :: t =>
      if fld k.head 31 28 = 0xB then
        let c := c.insertsAt p
        (c.setPort p { c.port p with urgent := t }).sendCell p k.head k.words
      else c
    | [] => c) s

end Sys2Proof.Machine
end

