-- ==== Sys2Proof/Machine/Canvas.lean ====
section
/-! DEFINITION. Canvases in the Cellar: their geometry, the canvas record, claims by compare-and-swap, pixel writes,
signatures and the close of a frame (spec/04 R112..R120, R124, R131, R132, R593; spec/05 R156). -/

namespace Sys2Proof.Machine

/-! ## Geometry -/

/-- A canvas as its three buffers and its pixels; ING's and the Trellis's registers give the same figures. -/
structure Geom where
  fmt : Nat
  w : Nat
  h : Nat
  base0 : Nat
  base1 : Nat
  base2 : Nat
  deriving DecidableEq, Repr

/-- The base address of buffer `b`. -/
def Geom.base (g : Geom) (b : Nat) : Nat := if b = 0 then g.base0 else if b = 1 then g.base1 else g.base2

/-- The stored pixel bytes of a row, without padding. -/
def Geom.rowBytes (g : Geom) : Nat := (g.w + ppgOf g.fmt - 1) / ppgOf g.fmt * groupBytes g.fmt

/-- The row stride (R156). -/
def Geom.stride (g : Geom) : Nat := (g.rowBytes + 63) / 64 * 64

/-- The bytes a buffer occupies. -/
def Geom.size (g : Geom) : Nat := g.stride * g.h

/-- The geometry ING's registers give canvas `cv`. -/
def Chip.geom (c : Chip) (cv : Nat) : Geom :=
  { fmt := c.rf rCANV_CTRL cv 0 1 0, w := c.rf rCANV_SIZE cv 0 12 0 + 1, h := c.rf rCANV_SIZE cv 0 28 16 + 1
    base0 := (c.rd rCANV_BASE cv 0).toNat, base1 := (c.rd rCANV_BASE cv 1).toNat, base2 := (c.rd rCANV_BASE cv 2).toNat }

/-- The geometry of an enabled canvas. -/
def Chip.canvOn (c : Chip) (cv : Nat) : Bool := c.rb rCANV_CTRL cv 0 31

/-- Canvas `cv` beside its registers. -/
def Chip.canv (c : Chip) (cv : Nat) : Canv := mget ({} : Canv) c.canvs cv

/-- Canvas `cv` set. -/
def Chip.setCanv (c : Chip) (cv : Nat) (x : Canv) : Chip := { c with canvs := mset ({} : Canv) c.canvs cv x }

/-! ## The canvas record (R156, R157, R593) -/

/-- The address of a canvas's record. -/
def recAddr (cv : Nat) : Nat := 0x96000000 + 0x80 * cv

/-- The address of the descriptor of buffer `b`. -/
def descAddr (cv b : Nat) : Nat := recAddr cv + 0x20 * (b + 1)

/-- The state of buffer `b` in a state word: 0 FREE, 1 FILLING, 2 READY, 3 PRESENTING. -/
def bufState (w : Word) (b : Nat) : Nat := fld w (2 * b + 1) (2 * b)

/-- A state word with buffer `b` in state `s`. -/
def setBufState (w : Word) (b s : Nat) : Word := setFld w (2 * b + 1) (2 * b) s

/-- The state word of a canvas as master `m` reads it; none when it is poisoned or not to be had. -/
def Chip.canvState (c : Chip) (m : Master) (cv : Nat) : Chip × Option Word := c.celGet m (recAddr cv)

/-- A change of the state word by compare-and-swap; false when the word reads poisoned (R593). -/
def Chip.canvCas (c : Chip) (m : Master) (cv : Nat) (f : Word → Word) : Chip × Bool :=
  match c.canvState m cv with
  | (c, none) => (c, false)
  | (c, some w) =>
    match c.celCas m false (recAddr cv) w (f w) with
    | (c, some _) => (c, true)
    | (c, none) => (c, false)

/-- The buffers in state `s`. -/
def bufsIn (w : Word) (s : Nat) : List Nat := [0, 1, 2].filter fun b => bufState w b = s

/-- What a claim reads of a buffer's descriptor: its sequence number, its presentation time, its signature. -/
structure BufDesc where
  buf : Nat
  seq : Word
  pts : Nat
  sig : Word
  deriving DecidableEq, Repr

/-- The descriptors of some buffers as master `m` reads them; none when a word of them is poisoned: the claim that needs
them fails (R152). -/
def Chip.bufDescs (c : Chip) (m : Master) (cv : Nat) : List Nat → Chip × Option (List BufDesc)
  | [] => (c, some [])
  | b :: t =>
    match c.celGets m (descAddr cv b + 4) 5 with
    | (c, some ws) =>
      let w := fun i => ws.getD i 0
      let (c, l) := c.bufDescs m cv t
      (c, l.map fun l => { buf := b, seq := w 0, pts := tsOf (w 1) (w 2) (w 3), sig := w 4 } :: l)
    | (c, none) => (c, none)

/-- Sequence number `x` is above `y`. -/
def seqAbove (x y : Word) : Bool := (x - y).toInt > 0

/-- Descriptors oldest first by their sequence numbers. -/
def byAge (l : List BufDesc) : List BufDesc := l.mergeSort fun a b => !seqAbove a.seq b.seq

/-- The buffer a new frame takes (R115): a FREE one, else the oldest READY that is not the newest READY. -/
def Chip.claimable (c : Chip) (m : Master) (cv : Nat) (w : Word) : Chip × Option Nat :=
  match bufsIn w 0 with
  | b :: _ => (c, some b)
  | [] =>
    let (c, l) := c.bufDescs m cv (bufsIn w 2)
    (c, match l.map byAge with
      | some (d :: _ :: _) => some d.buf
      | _ => none)

/-- A buffer claimed for a new frame (R115, R593): its number, none when the claim fails. -/
def Chip.canvClaim (c : Chip) (m : Master) (cv : Nat) : Chip × Option Nat :=
  match c.canvState m cv with
  | (c, none) => (c, none)
  | (c, some w) =>
    match c.claimable m cv w with
    | (c, none) => (c, none)
    | (c, some b) =>
      match c.canvCas m cv (fun w => setBufState w b 1) with
      | (c, true) =>
        (if bufState w b = 2 then ((c.inc rCANV_CNT cv 2).log 0x05 0x53 (BitVec.ofNat 32 cv)).sliceCheck cv else c, some b)
      | (c, false) => (c, none)

/-! ## Pixels and signatures -/

/-- The `n` bytes of the Cellar from `a` on as they are stored, single-bit errors corrected; reading them is no access. -/
def Chip.celStored (c : Chip) (a n : Nat) : List Byte :=
  (((List.range (n / 4 + 2)).flatMap fun i =>
    let w := a / 4 * 4 + 4 * i
    wordBytes ((c.celView w).getD (c.word w))).drop (a % 4)).take n

/-- Bytes whose first bit falls `k` bits into the first byte of `old`, the most significant bit first: `old` with them in
place, its other bits kept. -/
def bitsInto (old : List Byte) (k : Nat) (l : List Byte) : List Byte :=
  let below := 2 ^ (8 * old.length - k - 8 * l.length)
  let v := beNat old
  let kept := v / 2 ^ (8 * old.length - k) * 2 ^ (8 * old.length - k) + v % below
  natBE old.length (kept + beNat l * below)

/-- Pixels stored at column `x` of row `y` of buffer `b`, with the row's padding when they reach its end: a column that is no
whole number of pixel groups starts inside a byte, whose other bits stay (R113, R122). -/
def Chip.canvPut (c : Chip) (m : Master) (g : Geom) (b x y : Nat) (l : List Byte) : Chip :=
  let bits := x * (groupBytes g.fmt * 8 / ppgOf g.fmt)
  let o := bits / 8
  let a := g.base b + y * g.stride + o
  let l := if bits % 8 = 0 || l.isEmpty then l else bitsInto (c.celStored a (l.length + 1)) (bits % 8) l
  let l := if o + l.length = g.rowBytes then l ++ List.replicate (g.stride - g.rowBytes) 0 else l
  c.celPut m a l

/-- The stored pixel bytes of a buffer in row order, padding excluded: as they are stored, its single-bit errors corrected.
DEDUCED (log entry 181): ING forms the signature as it writes, so that it reads nothing (R131, R164). -/
def Chip.canvBytes (c : Chip) (g : Geom) (b : Nat) : List Byte :=
  (List.range g.h).flatMap fun y => c.celStored (g.base b + y * g.stride) g.rowBytes

/-- The signature of a buffer (R131). -/
def Chip.canvSig (c : Chip) (g : Geom) (b : Nat) : Word := crc32c (c.canvBytes g b)

/-! ## READY and stale (R117, R131, R132) -/

/-- CANV_FRESH (R132): a stale canvas becomes fresh. -/
def Chip.canvFresh (c : Chip) (cv : Nat) : Chip :=
  if c.rb rCANV_STAT cv 0 2 then ((c.wb rCANV_STAT cv 0 2 false).log 0x05 0x51 (BitVec.ofNat 32 cv)).irq (48 + cv) else c

/-- The canvas becomes stale (R132). -/
def Chip.canvStale (c : Chip) (cv : Nat) : Chip :=
  if c.canvOn cv && c.rf rCANV_TOUT cv 0 15 0 ≠ 0 && !c.rb rCANV_STAT cv 0 2 then
    ((c.wb rCANV_STAT cv 0 2 true).log 0x05 0x50 (BitVec.ofNat 32 cv)).irq (48 + cv)
  else c

/-- CANV_STALE (R132): TOUT milliseconds have passed with no frame becoming READY. -/
def execCanvStale (cv : Fin 4) (s : State) : Host.Outcome State Fault Refusal := run (fun c => c.canvStale cv) s

/-- The descriptor of a frame written, its buffer made READY and the frame counted (R117, R124, R131, R593); a state
word that reads poisoned loses the frame. -/
def Chip.canvReady (c : Chip) (cv b pts : Nat) (incomplete : Bool) : Chip :=
  let g := c.geom cv
  let seq := c.rd rCANV_CNT cv 0 + 1
  let sig := c.canvSig g b
  let c := c.celPut .ingress (descAddr cv b)
    (([BitVec.ofNat 32 (b2n incomplete), seq, tsWord pts 0, tsWord pts 1, tsWord pts 2, sig, 0, 0] : List Word).flatMap wordBytes)
  match c.canvCas .ingress cv (fun w => setBufState w b 2) with
  | (c, false) => c
  | (c, true) =>
    let c := (c.wr rCANV_CNT cv 0 seq).wr rCANV_SIG cv 0 sig
    let c := c.canvFresh cv
    let c := c.setCanv cv { c.canv cv with since := c.now }
    let c := if c.rb rCANV_CTRL cv 0 7 then c.irq (52 + cv) else c
    c.sliceForward cv b

/-- The buffer of a discarded frame becomes FREE (R124). -/
def Chip.canvDrop (c : Chip) (cv b : Nat) : Chip := (c.canvCas .ingress cv (fun w => setBufState w b 0)).1

/-- CANVAS_FRAME_CLOSE (R120, R124): the open frame becomes READY, or is discarded when it is incomplete and INCOMP = 0. -/
def Chip.canvClose (c : Chip) (cv : Nat) (complete : Bool) : Chip :=
  let x := c.canv cv
  match x.openBuf with
  | none => c
  | some b =>
    let c := c.setCanv cv { x with openBuf := none, closedSlots := 0, allComplete := true, e131Open := false }
    if complete then c.canvReady cv b x.pts false
    else
      let c := (c.inc rCANV_CNT cv 1).log 0x05 0x52 (BitVec.ofNat 32 cv)
      if c.rb rCANV_CTRL cv 0 6 then c.canvReady cv b x.pts true else c.canvDrop cv b

/-! ## Enable and timeout (R114, R132, R593) -/

/-- Two ranges of addresses overlap. -/
def overlap (a n b m : Nat) : Bool := a < b + m && b < a + n

/-- Whether the buffers of a canvas stand as R114 asks: 4 KiB aligned, inside region 0, apart from one another. -/
def Geom.fits (g : Geom) : Bool :=
  ([0, 1, 2].all fun b => g.base b % 4096 = 0 && celBase ≤ g.base b && g.base b + g.size ≤ 0x8C000000) &&
    !overlap g.base0 g.size g.base1 g.size && !overlap g.base0 g.size g.base2 g.size && !overlap g.base1 g.size g.base2 g.size

/-- Two canvases share no byte. -/
def Geom.apart (g k : Geom) : Bool :=
  [0, 1, 2].all fun a => [0, 1, 2].all fun b => !overlap (g.base a) g.size (k.base b) k.size

/-- ING_CANVc_CTRL written (R114, R132, R593): EN 0 to 1 needs buffers that fit and apart from every other enabled
canvas's, else EN stays 0 and NOFIT is set; a follower's destination canvas keeps it 0 (R408); EN 1 to 0 stores a clean state word with the three buffers FREE. -/
def Chip.canvCtrl (c : Chip) (cv : Nat) (old v : Word) : Chip :=
  if bit v 31 && !bit old 31 then
    let g := c.geom cv
    if c.pos ≠ 0 && c.rb rTRL_DCANV cv 0 31 then c.wb rCANV_CTRL cv 0 31 false else
    let ok := g.fits && ([0, 1, 2, 3].all fun k => k = cv || !c.canvOn k || g.apart (c.geom k))
    if ok then
      (c.wb rCANV_STAT cv 0 3 false).setCanv cv { since := c.now }
    else (c.wb rCANV_CTRL cv 0 31 false).wb rCANV_STAT cv 0 3 true
  else if !bit v 31 && bit old 31 then
    let c := c.celPut .ingress (recAddr cv) [0, 0, 0, 0]
    let c := (c.wb rCANV_STAT cv 0 2 false).wf rCANV_STAT cv 0 1 0 0
    let c := (c.setCanv cv {}).sliceCheck cv
    let c := c.each (List.range 1024) fun c u =>
      if c.rf rUNI_W0 u 0 17 16 = cv then { c with unis := mset ({} : Uni) c.unis u {} } else c
    c.each (List.range 32) fun c i =>
      if c.rf rSLOT_CTRL i 0 24 23 = cv then { c with slots := mset ({} : SlotSt) c.slots i {} } else c
  else c

/-- ING_CANVc_TOUT written (R132): 0 makes a stale canvas fresh; a value already passed makes it stale at once. -/
def Chip.canvTout (c : Chip) (cv : Nat) (v : Word) : Chip :=
  let t := fld v 15 0
  if t = 0 then c.canvFresh cv
  else if c.canvOn cv && c.now ≥ (c.canv cv).since + t * 1000000 then c.canvStale cv else c

end Sys2Proof.Machine
end

