-- ==== Sys2Proof/Machine/Raster.lean ====
section
/-! DEFINITION. The raster engine (spec/06): presentation, fallback, fetch, commits, holds, the freeze detector and the
proof log. -/

namespace Sys2Proof.Machine

/-- The raster engine's part of the state set. -/
def Chip.setRas (c : Chip) (x : RasSt) : Chip := { c with ras := x }

/-! ## The active settings -/

/-- The active run map's base address (R180). -/
def Chip.mapBase (c : Chip) : Nat := 0x92000000 + c.rf rSH_SEL 0 1 0 0 * 0x00800000

/-- The active frame period as NUM and DEN: P = NUM · 10^9 / DEN ns (R189); 0 acts as 1. -/
def Chip.period (c : Chip) : Nat × Nat := (zeroAsOne (c.rf rSH_NUM 0 1 15 0), zeroAsOne (c.rf rSH_DEN 0 1 23 0))

/-- floor(P) of a period. -/
def periodFloor (p : Nat × Nat) : Nat := p.1 * nsPerSec / p.2

/-- The active transmit window, ns. -/
def Chip.tw (c : Chip) : Nat := (c.rd rSH_TW 0 1).toNat

/-- P(k) of the frame in progress. -/
def Chip.commitTime (c : Chip) : Nat := c.ras.start + c.tw

/-- S(k) = floor(F(k+1)), the show instant of the frame in progress (R178). -/
def Chip.showTime (c : Chip) : Nat := (gridF c.time.grid (gridK c.time.grid c.ras.start + 1)).toNat

/-- The largest transmit window the period allows (R174). -/
def twLimit (p : Nat × Nat) : Nat := min (9 * p.1 * nsPerSec / (10 * p.2)) (p.1 * nsPerSec / p.2 - 40000)

/-- A limited value replaced (R27): counted and logged. -/
def Chip.rasLimit (c : Chip) : Chip := (c.inc rRAS_CNT 6 0).log 0x07 (Config.limitCode 7)

/-! ## Fetch (R180..R182, R208, R219, R223..R227) -/

/-- A run-map word and whether it was poisoned. DESIGN CHOICE (log entry 227): the pixels it would have told of are sent as zero
(R152), and how many they are is a free value. -/
def Chip.mapWord (c : Chip) (a : Nat) : Chip × Word × Bool :=
  if c.cutOff [0x22, 0x23] then (c.cutDone [0x22, 0x23], Config.freeWord c.cyc a, true) else
  match c.celClientRead .raster false a with
  | (c, w, .ok) => (c, w, false)
  | (c, _, _) => (c, Config.freeWord c.cyc a, true)

/-- The address of run entry `r`. -/
def Chip.runAddr (c : Chip) (r : Nat) : Nat := c.mapBase + 0x400 + 16 * r

/-- A run-map error (R182). -/
def Chip.mapErr (c : Chip) : Chip := (c.inc rRAS_CNT 7 0).log 0x07 0x88

/-- Run entry `r` read. -/
def Chip.readRun (c : Chip) (r : Nat) : Chip × Run :=
  let a := c.runAddr r
  let (c, w0, b0) := c.mapWord a
  let (c, w1, b1) := c.mapWord (a + 4)
  let (c, w2, b2) := c.mapWord (a + 8)
  (c, { cv := fld w0 31 30, y := fld w0 28 16, x := fld w0 12 0, node := fld w1 31 20, new := bit w1 18, step := fld w1 17 16
        len := fld w1 15 0, zone := fld w2 24 17, tile := fld w2 16 0, bad := b0 || b1 || b2 })

/-- The entry of the run a fetch has come to: read once, when the run begins. -/
def Chip.fetchRun (c : Chip) (f : Fetch) : Chip × Run :=
  match f.entry with
  | some r => (c, r)
  | none => c.readRun (f.run0 + f.run)

/-- The canvas position of pixel `j` of a run; none when it leaves the top or the left edge (R181). -/
def Run.at_ (r : Run) (j : Nat) : Option (Nat × Nat) :=
  match r.step with
  | 0 => some (r.x + j, r.y)
  | 1 => if j ≤ r.x then some (r.x - j, r.y) else none
  | 2 => some (r.x, r.y + j)
  | _ => if j ≤ r.y then some (r.x, r.y - j) else none

/-- The geometry canvas `cv` is read with: ING's registers, or the Trellis's for a follower's destination canvas (R408). -/
def Chip.viewGeom (c : Chip) (cv : Nat) : Geom :=
  if c.pos ≠ 0 && c.rb rTRL_DCANV cv 0 31 then
    { fmt := c.rf rTRL_DCANV cv 0 1 0, w := c.rf rTRL_DSIZE cv 0 12 0 + 1, h := c.rf rTRL_DSIZE cv 0 28 16 + 1
      base0 := (c.rd rTRL_DBASE cv 0).toNat, base1 := (c.rd rTRL_DBASE cv 1).toNat, base2 := (c.rd rTRL_DBASE cv 2).toNat }
  else c.geom cv

/-- A pixel's N16 components, none for a pixel that is zero under R152, R182 or R184; the flag tells a pixel outside its
canvas. -/
def Chip.pixelIn (c : Chip) (r : Run) (j : Nat) : Chip × Option (Nat × Nat × Nat) × Bool :=
  let g := c.viewGeom r.cv
  match r.at_ j with
  | none => (c, none, true)
  | some (x, y) =>
    if x ≥ g.w || y ≥ g.h then (c, none, true) else
    match mget View.zero c.ras.views r.cv with
    | .zero => (c, none, false)
    | .pattern => (c, some (c.zoneColour r.zone), false)
    | .base a =>
      let (c, l) := c.celBytes .raster (a + y * g.stride + x / ppgOf g.fmt * groupBytes g.fmt) (groupBytes g.fmt)
      let i := x % ppgOf g.fmt
      let bs := l.map (·.1)
      if pixelBad g.fmt i l then (c, none, false)
      else (c, some (n16 g.fmt (sampleOf g.fmt i 0 bs), n16 g.fmt (sampleOf g.fmt i 1 bs), n16 g.fmt (sampleOf g.fmt i 2 bs)), false)

/-- The gain of a pixel of zone `z` and node `a` on port `p`; an index beyond the derate table takes the commissioned
floor and is counted (R222). -/
def Chip.gain (c : Chip) (p z a : Nat) : Chip × Nat :=
  let (b, m) := c.zoneFactors z
  match c.derate p a with
  | some d => (c, gainOf b m d)
  | none =>
    let d := derUse (c.rd rCOMM_FLOOR).toNat
    let c := c.inc rPIX_CNT 3 0
    let c := if c.ras.derLogged then c else (c.log 0x08 0x94).setRas { c.ras with derLogged := true }
    (c, gainOf b m d)

/-- Stages 2 to 5 on a pixel of canvas `cv` (R208). -/
def Chip.pixelOut (c : Chip) (p : Nat) (f : Fetch) (r : Run) (x : Option (Nat × Nat × Nat)) : Chip × (Nat × Nat × Nat) :=
  match x with
  | none => (c.inc rPIX_CNT 5 0, (0, 0, 0))
  | some v =>
    let t := c.lutOf r.cv
    let v := (c.linear t v.1, c.linear t v.2.1, c.linear t v.2.2)
    let b := c.rf rSH_SEL 0 1 1 1
    let (c, tile) := c.celBytes .raster (tileAddr b r.tile) 18
    let (c, del) := c.celBytes .raster (calBank b + 9 * (f.cal0 + f.cal)) 9
    let (v, n) := calibrate tile del v
    let c := if n > 0 then c.inc rPIX_CNT 0 0 n else c
    let (c, g) := c.gain p r.zone r.node
    let o := fun j y => reduce16 (applyGain g y) (c.dither c.ras.k f.emis j)
    (c, (o 0 v.1, o 1 v.2.1, o 2 v.2.2))

/-- Bits appended to a node's payload. -/
def Fetch.put (f : Fetch) (v n : Nat) : Fetch := { f with acc := f.acc * 2 ^ n + v, nacc := f.nacc + n }

/-- One coded pixel appended: RGB16 at once, BF43 by groups of four (R224, R225). -/
def Fetch.pixel (f : Fetch) (o : Nat × Nat × Nat) : Fetch :=
  if f.code = 0 then f.put ((o.1 * 65536 + o.2.1) * 65536 + o.2.2) 48
  else match f.grp with
    | [a, b, d] => { f with grp := [] }.put (bfGroup a b d o) 129
    | g => { f with grp := g ++ [o] }

/-- The end of a node's payload: an unfinished BF43 group padded with zero components and counted (R227), the last word
padded with zero bits. -/
def Chip.flushNode (c : Chip) (f : Fetch) : Chip × Fetch :=
  let (c, f) := if f.grp.isEmpty then (c, f) else
    let g := f.grp ++ List.replicate (4 - f.grp.length) (0, 0, 0)
    ((c.inc rPIX_CNT 2 0).log 0x08 0x93,
     { f with grp := [] }.put (bfGroup (g.getD 0 (0, 0, 0)) (g.getD 1 (0, 0, 0)) (g.getD 2 (0, 0, 0)) (g.getD 3 (0, 0, 0))) 129)
  (c, f.put 0 ((32 - f.nacc % 32) % 32))

/-- The first `n` words of a node's payload bits. -/
def Fetch.words (f : Fetch) (n : Nat) : List Word :=
  (List.range n).map fun i => BitVec.ofNat 32 (f.acc / 2 ^ (f.nacc - 32 * (i + 1)))

/-- A PIXEL or PIXEL_BF cell of the open node with its first `n` payload words. -/
def Chip.emitPixels (c : Chip) (p : Nat) (f : Fetch) (n : Nat) : Chip × Fetch :=
  match f.node with
  | none => (c, f)
  | some a =>
    let ws := f.words n
    let c := c.commitCell p true (cellHead (if f.code = 0 then 1 else 2) a n (b2n f.first)) ws
    (c, { f with first := false, acc := f.acc % 2 ^ (f.nacc - 32 * n), nacc := f.nacc - 32 * n })

/-- A node's payload closed: its last cell emitted when words are left, else the node left open no more; the flag tells
that a cell went. -/
def Chip.closeNode (c : Chip) (p : Nat) (f : Fetch) : Chip × Fetch × Bool :=
  let (c, f) := c.flushNode f
  if f.nacc = 0 then (c, { f with node := none }, false)
  else
    let (c, f) := c.emitPixels p f (min 62 (f.nacc / 32))
    (c, f, true)

/-- The fetch carried on until one cell is committed or `n` steps are done. -/
def Chip.fetchLoop (c : Chip) (p : Nat) : Nat → Fetch → Chip × Fetch
  | 0, f => (c, f)
  | n + 1, f =>
    if f.nacc ≥ 1984 then c.emitPixels p f 62
    else if f.run ≥ f.nruns then
      if f.node.isNone then (c, { f with done := true })
      else match c.closeNode p f with
        | (c, f, true) => (c, f)
        | (c, f, false) => (c, { f with done := true })
    else
      let (c, r) := c.fetchRun f
      let f := { f with entry := some r, bad := f.bad || r.bad }
      let next := { f with run := f.run + 1, entry := none, pos := 0, erred := false }
      if r.node = 0 || r.node = 0xFFF then (if r.bad then c else c.mapErr).fetchLoop p n { next with cal := f.cal + r.len }
      else if f.pos = 0 && f.node.isSome && r.new && !(f.node = some r.node && f.first && f.nacc = 0 && f.grp.isEmpty) then
        match c.closeNode p f with
        | (c, f, true) => (c, f)
        | (c, f, false) => c.fetchLoop p n f
      else if f.pos ≥ r.len then c.fetchLoop p n next
      else
        let f := if f.node.isNone then { f with node := some r.node, first := true } else f
        let (c, x, out) := c.pixelIn r f.pos
        let c := if out && !f.erred && !f.bad then c.mapErr else c
        let (c, o) := c.pixelOut p f r (if f.bad then none else x)
        c.fetchLoop p n { f.pixel o with pos := f.pos + 1, emis := f.emis + 1, cal := f.cal + 1, erred := f.erred || out }

/-- The runs that hold no pixel to send passed over, and the fetch done when nothing is left (R176, R182). -/
def Chip.fetchAdvance (c : Chip) : Nat → Fetch → Chip × Fetch
  | 0, f => (c, f)
  | n + 1, f =>
    if f.run ≥ f.nruns then (c, { f with done := f.nacc = 0 && f.grp.isEmpty })
    else
      let (c, r) := c.fetchRun f
      let f := { f with entry := some r, bad := f.bad || r.bad }
      let next := { f with run := f.run + 1, entry := none, pos := 0, erred := false }
      if r.node = 0 || r.node = 0xFFF then (if r.bad then c else c.mapErr).fetchAdvance n { next with cal := f.cal + r.len }
      else if f.pos ≥ r.len then c.fetchAdvance n next
      else (c, f)

/-- Port `p`'s fetch carried on by one cell. -/
def Chip.fetchPort (c : Chip) (p : Nat) : Chip :=
  match c.ras.fetch.find? (fun f => f.1 = p) with
  | none => c
  | some (_, f) =>
    let (c, f) := c.fetchLoop p 200 f
    let (c, f) := if f.done then (c, f) else c.fetchAdvance (f.nruns - f.run + 1) f
    c.setRas { c.ras with fetch := c.ras.fetch.map fun x => if x.1 = p then (p, f) else x }

/-! ## Latency tolerance (R165, R183) -/

/-- The instant the first cell of port `p`'s next window may leave: of the frame in progress while its window has not
opened, else of the next (R175). -/
def Chip.nextWindow (c : Chip) (p : Nat) : Nat :=
  let lead := c.rf rSH_LEAD 0 1 31 0 + min 100000 (c.rd (rPORT_STAG p)).toNat
  let t := c.ras.start + lead
  if c.ras.inFrame && c.now < t then t else c.showTime + lead

/-- Words of payload committed on port `p` and not yet sent. -/
def Chip.unsent (c : Chip) (p : Nat) : Nat := ((c.port p).cells.map (·.len)).sum

/-- DPHASE in use (R279). -/
def Chip.dphase (c : Chip) (p : Nat) : Nat :=
  if c.rf rPORT_CTRL p 0 15 12 > c.rf rPORT_CTRL p 0 19 16 then 0 else c.rf rPORT_CTRL p 0 15 12

/-- The delay of port `p`'s refresh starts after a frame start: TSTART and the stagger (R279, R289). -/
def Chip.refreshOfs (c : Chip) (p : Nat) : Nat := (c.rd rPORT_TSTART p).toNat + min 100000 (c.rd (rPORT_STAG p)).toNat

/-- The first refresh start of port `p` after now. -/
def Chip.nextRefresh (c : Chip) (p : Nat) : Int :=
  let o := c.refreshOfs p
  let d : Int := c.rf rPORT_CTRL p 0 19 16 + 1
  let k := gridK c.time.grid (c.now - o) + 1
  let k := k + (((c.dphase p : Int) - k) % d)
  gridF c.time.grid k + o

/-- The time port `p`'s refresh takes (R284, R285), in ns. -/
def Chip.refreshTime (c : Chip) (p : Nat) : Nat :=
  if c.modeNow p = 2 then
    10 * c.rf rPULSE0 p 0 26 18 * (c.rf rPULSE1 p 0 20 16 + 1) * c.rf rPULSE1 p 0 12 0 + 1000 * c.rf rPULSE1 p 0 29 21
  else
    let n := c.rf rPORT_DMX p 0 9 0
    1000 * (c.rf rPORT_DMX p 0 29 20 + c.rf rPORT_DMX p 0 19 10) + 44000 * ((if n = 0 then 512 else min n 512) + 1)

/-- t_dry of port `p` (R165): the time its buffered payload lasts and the time to its next start between windows: of a LANE port
62 words a cell time; of a PULSE or DMX port one refresh for a record not yet sent, from its next refresh start on. DESIGN
CHOICE (log entry 189): a port whose payload of the frame is all fetched needs no more before its next window; a cell or a
refresh under way counts as sent. -/
def Chip.tDry (c : Chip) (p : Nat) : Nat :=
  if c.isLane p then
    let done := (c.ras.fetch.find? fun f => f.1 = p).all (·.2.done)
    c.unsent p * c.cellTime p / 62 + (if (c.port p).window && !done then 0 else c.nextWindow p - c.now)
  else (c.nextRefresh p - c.now).toNat + if (c.port p).filling.isSome then c.refreshTime p else 0

/-- Port `p` is in LANE, PULSE or DMX transmission: a live LANE port fed by the run map, or one that has a record to send. -/
def Chip.inTransmission (c : Chip) (p : Nat) : Bool :=
  c.transmitting p || (c.bankReady p && c.modeNow p ≥ 2 && !(c.port p).refused && ((c.port p).filling.isSome || (c.port p).draining.isSome))

/-- Bytes to read for the free words of port `p`'s filling bank: a pixel takes its sample's bytes and 9 of calibration,
and fills 48 bits of RGB16 or 32.25 of BF43 (R165, R179). -/
def Chip.fillBytes (c : Chip) (p : Nat) (f : Fetch) : Nat :=
  let x := c.port p
  let n := c.region p true
  let free := min (x.rasRd / 64 * 64 + 2 * n - x.rasWr) (n - x.rasWr % max 1 n)
  let g := (c.viewGeom (fld (c.celView (c.runAddr (f.run0 + f.run))|>.getD 0) 31 30)).fmt
  let eighths := 8 * groupBytes g / ppgOf g + 72
  if f.done then 0 else if f.code = 0 then free * 32 * eighths / (48 * 8) else free * 128 * eighths / (129 * 8)

/-- TOL (R165). DESIGN CHOICE (log entry 189): fractions of a nanosecond are dropped, and an RAS_TOL_BW of 0 gives 0 where bytes
are to be read. -/
def Chip.tolNow (c : Chip) : Word :=
  let ps := (List.range 48).filter fun p => c.inTransmission p
  match (ps.map fun p => c.tDry p).min? with
  | none => 0xFFFFFFFF
  | some d =>
    let n := (c.ras.fetch.map fun f => if c.transmitting f.1 then c.fillBytes f.1 f.2 else 0).sum
    let bw := c.rf rRAS_TOL_BW 0 0 15 0
    BitVec.ofNat 32 (min 0xFFFFFFFF (if bw = 0 then (if n = 0 then d else 0) else d - (n * 256 + bw - 1) / bw))

/-- The port whose bursts are issued next (R183): of those with payload left and credits for a cell, the one with the
smallest t_dry, the lower number among equals. -/
def Chip.fetchNext (c : Chip) : Option Nat :=
  let l := (c.ras.fetch.filter fun f => !f.2.done && c.room f.1 true 62).map fun f => (c.tDry f.1, f.1)
  (l.foldl (fun (m : Option (Nat × Nat)) x => match m with
    | some y => if x.1 < y.1 || (x.1 = y.1 && x.2 < y.2) then some x else m
    | none => some x) none).map (·.2)

/-- RASTER_FETCH_DATA (R183, R208): data fetched for port `p` pass the stages. Data come only for the port whose bursts are
issued next. -/
def execRasterFetchData (p : Fin 48) (s : State) : Host.Outcome State Fault Refusal :=
  run (fun c => c.when (c.up .pix && c.ras.inFrame && c.ras.hold.isNone && c.fetchNext == some p.val) fun c => c.fetchPort p) s

/-- TOL_MESSAGE (R165, R166): the raster engine's message reaches the controller. The only one it sends carries the
tolerance of the moment. -/
def execTolMessage (tol : Word) (s : State) : Host.Outcome State Fault Refusal :=
  run (fun c => c.when (c.up .pix && c.alive .cel && tol == c.tolNow) fun c =>
    let c := c.wr rCEL_TOL 0 0 tol
    { c with cel := { c.cel with tolStale := false } }) s

/-- The fetch of every VALID port begins: a VALID record of a port that is not in LANE mode, or is the odd port of a
ring pair, or has a reserved code, is ignored and counted (R182, R277). -/
def Chip.fetchStart (c : Chip) : Chip :=
  let c := c.setRas { c.ras with fetch := [], sums := [], derLogged := false }
  c.each (List.range 48) fun c p =>
    let c := c.setPort p { c.port p with loss := false, opened := false }
    let (c, w0, b0) := c.mapWord (c.mapBase + 16 * p)
    if !bit w0 31 then c
    else if !c.isLane p || c.ringOdd p || fld w0 1 0 > 1 then (if b0 then c else c.mapErr)
    else
      let (c, w1, b1) := c.mapWord (c.mapBase + 16 * p + 4)
      let (c, w2, b2) := c.mapWord (c.mapBase + 16 * p + 8)
      let (c, w3, b3) := c.mapWord (c.mapBase + 16 * p + 12)
      let f : Fetch := { code := fld w0 1 0, run0 := fld w1 18 0, nruns := fld w2 15 0, cal0 := fld w3 22 0, bad := b0 || b1 || b2 || b3, done := fld w2 15 0 = 0 }
      c.setRas { c.ras with fetch := c.ras.fetch ++ [(p, f)] }

/-! ## Presentation (R184..R188) -/

/-- The canvases the active run map names: those of any run of a VALID record of a LANE port. -/
def Chip.namedCanvases (c : Chip) : List Nat :=
  let cv := c.ras.fetch.flatMap fun x => (List.range x.2.nruns).filterMap fun r => (c.celView (c.runAddr (x.2.run0 + r))).map (fld · 31 30)
  [0, 1, 2, 3].filter fun k => cv.any fun j => j = k

/-- The newest of descriptors by sequence number. -/
def newest (l : List BufDesc) : Option BufDesc := (byAge l).getLast?

/-- The state word after the claim of buffer `b`: it PRESENTING, the one that was and every READY one older FREE (R116). -/
def claimWord (l : List BufDesc) (b : BufDesc) (w : Word) : Word :=
  [0, 1, 2].foldl (fun v d =>
    if d = b.buf then setBufState v d 3
    else if bufState w d = 3 then setBufState v d 0
    else if bufState w d = 2 && l.any fun x => x.buf = d && seqAbove b.seq x.seq then setBufState v d 0
    else v) w

/-- A canvas's source in the frame. -/
def Chip.setView (c : Chip) (cv : Nat) (v : View) : Chip := c.setRas { c.ras with views := mset View.zero c.ras.views cv v }

/-- What the engine knows of canvas `cv`'s PRESENTING buffer. -/
def Chip.keptBuf (c : Chip) (cv : Nat) : Option (Nat × Word × Word) := mget none c.ras.kept cv

/-- The PRESENTING buffer of canvas `cv` as the engine now knows it, and RAS_PRESc (R186): its sequence number. -/
def Chip.keepBuf (c : Chip) (cv : Nat) (x : Option (Nat × Word × Word)) : Chip :=
  let c := c.setRas { c.ras with kept := mset none c.ras.kept cv x }
  match x with
  | some (b, seq, _) => (c.wr rRAS_PRES cv 0 seq).wf rCANV_STAT cv 0 1 0 b
  | none => c.wr rRAS_PRES cv 0 0xFFFFFFFF

/-- The PRESENTING buffer that the engine knows is shown; none: zero (R184). -/
def Chip.showKept (c : Chip) (cv : Nat) : Chip :=
  let c := c.keepBuf cv (c.keptBuf cv)
  c.setView cv (match c.keptBuf cv with
    | some (b, _, _) => .base ((c.viewGeom cv).base b)
    | none => .zero)

/-- The canvas's staleness test at a frame start (R187, R188): the highest sequence number among its READY and
PRESENTING descriptors against when it last changed. -/
def Chip.staleTest (c : Chip) (cv ts : Nat) (l : List BufDesc) : Chip :=
  let hi := match newest l with
    | some d => d.seq.toNat
    | none => 0
  let seen := c.ras.seqSeen.find? fun x => x.1 = cv
  let e := match seen with
    | some (_, s, t) => if s = hi then (s, t) else (hi, ts)
    | none => (hi, ts)
  let c := c.setRas { c.ras with seqSeen := c.ras.seqSeen.filter (fun x => x.1 ≠ cv) ++ [(cv, e)] }
  let tout := c.rf rRAS_FB_TOUT cv 0 15 0
  let stale := tout ≠ 0 && ts ≥ e.2 + tout * 1000000
  let was := c.rb rRAS_STATUS 0 0 (8 + cv)
  if stale = was then c
  else ((c.wb rRAS_STATUS 0 0 (8 + cv) stale).log 0x07 (if stale then 0x84 else 0x85)).irq 85

/-- How ING met a claim of the raster engine: it changed the state word under every one of four attempts (R185), or it had
claimed the chosen buffer itself (R117). -/
structure Contest where
  lost : Bool
  filling : Bool

/-- The presentation of canvas `cv` under R184: of the buffers `l` of the record with state word `w`, the newest READY one
whose time has come is claimed; a claim lost four times (R185), one that finds its buffer FILLING (R117) and one that meets
a poisoned word (R152) keep the PRESENTING buffer. -/
def Chip.presentClaim (c : Chip) (cv ts : Nat) (w : Word) (l : List BufDesc) (x : Contest) : Chip :=
  match newest (l.filter fun d => bufState w d.buf = 2 && d.pts ≤ ts) with
  | none => c.showKept cv
  | some d =>
    if x.filling then c.showKept cv
    else if x.lost then ((c.inc rRAS_CNT 4 0).log 0x07 0x89).showKept cv
    else match c.canvCas .raster cv (claimWord l d) with
      | (c, true) => ((c.setRas { c.ras with kept := mset none c.ras.kept cv (some (d.buf, d.seq, d.sig)) }).showKept cv).sliceCheck cv
      | (c, false) => c.showKept cv

/-- A canvas left out of the freeze tests: forced, or under fallback (R203). -/
def Chip.freezeOut (c : Chip) (cv : Nat) : Bool := c.rb rRAS_STATUS 0 0 (12 + cv) || c.rb rRAS_STATUS 0 0 (8 + cv)

/-- The freeze counter advanced; at FREEZE_N the freeze is declared (R203). -/
def Chip.freezeUp (c : Chip) : Chip :=
  let n := c.ras.frz + 1
  let c := c.setRas { c.ras with frz := n }
  if n = max 2 (c.rf rRAS_FREEZE 0 0 7 0) then ((c.wb rRAS_STATUS 0 0 6 true).log 0x07 0x83).irq 84 else c

/-- The frame-start test of R203: a READY buffer due and newer than the one presented that the presentation did not take. -/
def Chip.freezeStart (c : Chip) (cv ts : Nat) (w : Word) (l : List BufDesc) (before : Word) : Chip :=
  let now := c.rd rRAS_PRES cv
  let due := l.any fun d => bufState w d.buf = 2 && d.pts ≤ ts && seqAbove d.seq now
  if c.rb rRAS_CTRL 0 0 3 && !c.freezeOut cv && due && now = before then c.freezeUp else c

/-- The record of a canvas as the raster engine reads it: its state word, and the descriptors of its READY and PRESENTING
buffers; none when a word of it reads poisoned (R152). -/
def Chip.presRecord (c : Chip) (cv : Nat) : Chip × Option (Word × List BufDesc) :=
  match c.canvState .raster cv with
  | (c, none) => (c, none)
  | (c, some w) =>
    let (c, l) := c.bufDescs .raster cv (bufsIn w 2 ++ bufsIn w 3)
    (c, l.map fun l => (w, l))

/-- One named canvas at frame start `ts` (R184..R188, R203). -/
def Chip.presentCanvas (c : Chip) (cv ts : Nat) (x : Contest) : Chip :=
  let before := c.rd rRAS_PRES cv
  let force := c.rd rSH_FORCE cv 1
  let base := View.base (force.toNat / 4096 * 4096)
  let (c, r) := c.presRecord cv
  let c := match r with
    | some (w, l) =>
      let pres := (l.find? fun (d : BufDesc) => bufState w d.buf = 3).map fun (d : BufDesc) => (d.buf, d.seq, d.sig)
      (c.setRas { c.ras with kept := mset none c.ras.kept cv pres }).staleTest cv ts l
    | none => c
  let pol := if c.rb rRAS_STATUS 0 0 (8 + cv) then c.rf rRAS_FB 0 0 (2 * cv + 1) (2 * cv) else 0
  let forced := bit force 0 && (pol = 0 || pol = 2)
  let c := c.wb rRAS_STATUS 0 0 (12 + cv) forced
  if pol ≠ 0 then
    let c := (c.showKept cv).setView cv (match pol with | 1 => .zero | 2 => base | _ => .pattern)
    if forced then c.wr rRAS_PRES cv 0 0xFFFFFFFF else c
  else if forced then (c.wr rRAS_PRES cv 0 0xFFFFFFFF).setView cv base
  else
    match r with
      | some (w, l) => (c.presentClaim cv ts w l x).freezeStart cv ts w l before
      | none => c.showKept cv

/-- Frame `k` presented at `ts` (R175): banks selected, canvases claimed, fetch begun. A canvas that the run map does not
name is read from no forced base. -/
def Chip.present (c : Chip) (ts : Nat) (lost filling : BitVec 4) : Chip :=
  let c := c.setRas { c.ras with start := ts, k := (gridK c.time.grid ts % 2 ^ 32).toNat, inFrame := true, guarded := false }
  let c := c.fetchStart
  let l := c.namedCanvases
  let c := c.setRas { c.ras with named := l, seqSeen := c.ras.seqSeen.filter fun x => l.any fun k => k = x.1 }
  let c := c.each ([0, 1, 2, 3].filter fun cv => !l.any fun k => k = cv) fun c cv => c.wb rRAS_STATUS 0 0 (12 + cv) false
  c.each l fun c cv => c.presentCanvas cv ts { lost := lost.getLsbD cv, filling := filling.getLsbD cv }

/-! ## Commits (R189..R194) -/

/-- The shadow registers and RAS_COMMIT.MODE and GRID as they stand (R192). -/
def Chip.snapshot (c : Chip) : Snapshot :=
  { sel := c.rd rSH_SEL, bright := c.rd rSH_BRIGHT, tw := c.rd rSH_TW, lead := c.rd rSH_LEAD, lmode := c.rd rSH_MODE
    num := c.rd rSH_NUM, den := c.rd rSH_DEN, force := (List.range 4).map fun i => c.rd rSH_FORCE i
    mode := c.rb rRAS_COMMIT 0 0 30, grid := c.rb rRAS_COMMIT 0 0 29 }

/-- Whether a commit of the snapshot is a mode commit (R195). -/
def Chip.modeCommit (c : Chip) (x : Snapshot) : Bool :=
  x.mode || x.tw != c.rd rSH_TW 0 1 || x.lmode != c.rd rSH_MODE 0 1 || x.num != c.rd rSH_NUM 0 1 || x.den != c.rd rSH_DEN 0 1

/-- TIME_CMP1_NS follows the active TW, and an armed CMP1 takes it (R173). -/
def Chip.cmp1Follow (c : Chip) : Chip :=
  let c := c.wr rCMP_NS 1 0 (c.rd rSH_TW 0 1)
  if (c.cmp 1).armed then c.cmpCtrl 1 1 else c

/-- The snapshot made active, with its limits (R174, R192), and new lane rates passed to the banks (R196). -/
def Chip.applyCommit (c : Chip) (x : Snapshot) : Chip :=
  let oldTw := c.rd rSH_TW 0 1
  let c := (((c.wr rSH_SEL 0 1 x.sel).wr rSH_BRIGHT 0 1 x.bright).wr rSH_NUM 0 1 x.num).wr rSH_DEN 0 1 x.den
  let lim := twLimit c.period
  let c := if x.tw.toNat > lim then (c.wr rSH_TW 0 1 (BitVec.ofNat 32 lim)).rasLimit else c.wr rSH_TW 0 1 x.tw
  let lead := max 10000 (min 1000000 x.lead.toNat)
  let c := if lead ≠ x.lead.toNat then (c.wr rSH_LEAD 0 1 (BitVec.ofNat 32 lead)).rasLimit else c.wr rSH_LEAD 0 1 x.lead
  let oldRate := c.rd rSH_MODE 0 1
  let c := c.wr rSH_MODE 0 1 x.lmode
  let c := c.each (List.range 4) fun c i => c.wr rSH_FORCE i 1 (x.force.getD i 0)
  let c := c.each (List.range 6) fun c k =>
    let r := fld x.lmode (2 * k + 1) (2 * k)
    if r = fld oldRate (2 * k + 1) (2 * k) then c else
    let b := c.bank k
    if b.newFamily = 1 then (c.pqTake k true [pqEntry 0 2 [BitVec.ofNat 32 r]]).wb rRAS_STATUS 0 0 2 true
    else c.setBank k { b with rate := r, newRate := r }
  let c := (c.wb rRAS_COMMIT 0 0 31 false).wb rRAS_STATUS 0 0 3 false
  let c := (c.setRas { c.ras with snap := none }).inc rRAS_EPOCH 0 0
  let c := if c.rd rSH_TW 0 1 ≠ oldTw then c.cmp1Follow else c
  if c.rb rRAS_CTRL 0 0 2 then c.irq 80 else c

/-- A late commit (R194). -/
def Chip.commitLate (c : Chip) : Chip :=
  let c := c.inc rRAS_CNT 0 0
  if c.rb rRAS_CTRL 0 0 1 then ((c.wb rRAS_STATUS 0 0 4 true).log 0x07 0x80).irq 81 else c

/-- RAS_COMMIT written: GO, MODE and GRID stored, CANCEL before the snapshot (R190, R193, R201). `old` is what the
register held. -/
def Chip.rasCommit (c : Chip) (old v : Word) : Chip :=
  let c :=
    if bit v 31 && !bit old 31 then
      let c := c.wb rRAS_COMMIT 0 0 31 true
      if !c.rb rRAS_CTRL 0 0 0 then c.applyCommit c.snapshot
      else if c.ras.hold.isNone && c.ras.guarded then c.commitLate else c
    else c
  if bit v 28 && c.ras.snap.isNone then c.wb rRAS_COMMIT 0 0 31 false else c

/-- The instant the commit window of the frame in progress closes: COMMIT_GUARD, RAS_GUARD but at least 1,000 ns, before
P(k) (R191). -/
def Chip.guardTime (c : Chip) : Nat := c.ras.start + (c.tw - max 1000 (c.rf rRAS_GUARD 0 0 15 0))

/-- COMMIT_GUARD_CLOSE (R191, R192): the guard counter has reached its value. -/
def execCommitGuardClose (s : State) : Host.Outcome State Fault Refusal :=
  run (fun c => if !(c.up .pix && c.rb rRAS_CTRL 0 0 0 && c.ras.inFrame && c.ras.hold.isNone && !c.ras.guarded && c.guardTime ≤ c.now) then c else
    let c := c.setRas { c.ras with guarded := true }
    if c.rb rRAS_COMMIT 0 0 31 then (c.setRas { c.ras with snap := some c.snapshot }).wb rRAS_STATUS 0 0 3 true else c) s

/-! ## Holds (R195, R198, R200, R201) -/

/-- An event word sent to PRS over the bridge (R248). -/
def Chip.prsEvent (c : Chip) (e : RasEvent) : Chip := { c with prs := { c.prs with rasEv := c.prs.rasEv ++ [e] } }

/-- HOLD at the next cell boundary of every transmitting LANE port; the payload and the blanking cells left are sent no
more, and the signatures of the frame are not completed (R200, R202, R337). -/
def Chip.holdAll (c : Chip) : Chip :=
  let c := c.each (List.range 48) fun c p =>
    let t := c.transmitting p
    let c := if t then c.urge p (c.holdCell p) else c
    let c := (if c.isLane p then c.dropRaster p else c).blankStop p
    c.setPort p { c.port p with held := t || (c.port p).held, window := false }
  c.setRas { c.ras with nodeCrc := [], inFrame := false }

/-- An unplanned jump at frame start `ts` (R200). -/
def Chip.gridJump (c : Chip) (ts : Nat) : Chip :=
  let c := c.holdAll
  let c := c.setRas { c.ras with hold := some { pc := ts, grid := false }, switched := false }
  ((((c.wb rRAS_STATUS 0 0 16 true).wb rRAS_STATUS 0 0 1 true).log 0x07 0x87).irq 87).prsEvent .hold

/-- Whether the interval from the previous frame start is irregular (R200). -/
def Chip.irregular (c : Chip) (ts : Nat) : Bool :=
  match c.ras.lastStart with
  | none => false
  | some t =>
    let f := periodFloor c.period
    let d : Int := (ts : Int) - t
    let up : Int := if c.period.1 * nsPerSec % c.period.2 = 0 then f else f + 1
    (d - f).natAbs > 2 && (d - up).natAbs > 2

/-- F(j) ≥ t + 2 P for the frame start `ts` = floor(F(j)), in exact arithmetic (R60, R198). -/
def Chip.twoPeriods (c : Chip) (ts t : Nat) : Bool :=
  let (n, d) := c.period
  let g := c.time.grid
  let f := gridK g ts * (g.num * nsPerSec) + g.ofs * g.den
  decide (f * d ≥ ((t : Int) * d + 2 * n * nsPerSec) * g.den)

/-- Whether the engine resumes at frame start `ts` (R198). -/
def Chip.mayResume (c : Chip) (ts : Nat) (h : HoldSt) : Bool :=
  !h.rearm && c.twoPeriods ts h.pc && (!h.grid || c.ras.switched) &&
    (List.range 6).all fun k => let b := c.bank k; b.family ≠ 1 || (!b.pend && b.step = 0 && b.readyAt + 10000 ≤ ts)

/-- RAS_RESUME (R198). -/
def Chip.rasResume (c : Chip) : Chip :=
  let c := c.setRas { c.ras with hold := none, resume := true }
  (((c.wb rRAS_STATUS 0 0 1 false).log 0x07 0x82).irq 83).prsEvent .resume

/-- A frame start while a hold is in force (R198, R201): a pending GO is applied when the engine would resume; if that is
a mode commit the engine holds on until another commit point gives its Pc. -/
def Chip.heldStart (c : Chip) (ts : Nat) (lost filling : BitVec 4) (h : HoldSt) : Chip :=
  if !c.mayResume ts h then c.setRas { c.ras with start := ts }
  else
    let x := c.snapshot
    let go := c.rb rRAS_COMMIT 0 0 31
    let again := go && c.modeCommit x
    let c := if go then c.applyCommit x else c
    if again then c.setRas { c.ras with start := ts, hold := some { pc := ts, grid := x.grid, rearm := true }, switched := false }
    else (c.setRas { c.ras with resume := true }).rasResume.present ts lost filling

/-- FRAME_START (R175): a CMP0 fire reaches the raster engine; `lost` marks the canvases whose state word ING changed under
every one of the four attempts of a claim (R185), `filling` those whose chosen buffer ING claimed first (R117). -/
def Chip.frameStart (c : Chip) (lost filling : BitVec 4) : Chip :=
  let c := c.tableSwap
  let e := c.time.pixQ.head?
  let c := { c with time := { c.time with pixQ := c.time.pixQ.tail } }
  if !c.rb rRAS_CTRL 0 0 0 then c else
  let ts := match e with | some x => x.1 | none => c.now
  let sw := match e with | some x => x.2 | none => false
  let jump := e.isNone || sw || c.irregular ts
  let c := c.setRas { c.ras with lastStart := some ts, switched := c.ras.switched || sw }
  match c.ras.hold with
  | some h => c.heldStart ts lost filling h
  | none =>
    if jump then c.gridJump ts
    else (if c.ras.resume then c.prsEvent .resume else c).present ts lost filling

/-- FRAME_START (R175). -/
def execFrameStart (contested : Contested) (s : State) : Host.Outcome State Fault Refusal :=
  run (fun c => c.when (c.up .pix) fun c => c.frameStart contested.lost contested.filling) s

/-- RAS_CTRL written: EN 0 to 1 follows frame starts from the next one on, whose window opens with RESUME; EN 1 to 0
stops at the next cell boundary with HOLD sent (R193, RAS_CTRL), of which PRS is told (R248). -/
def Chip.rasCtrl (c : Chip) (old v : Word) : Chip :=
  if bit v 0 && !bit old 0 then
    let c := c.setRas { c.ras with lastStart := none, inFrame := false, guarded := false, resume := true, snap := none, hold := none
                                   seqSeen := [], frz := 0, lastSigs := [] }
    (c.wb rRAS_STATUS 0 0 0 true).cmp1Follow
  else if !bit v 0 && bit old 0 then
    let c := c.holdAll
    let c := (c.setRas { c.ras with snap := none, hold := none, fetch := [] }).prsEvent .hold
    ((c.wb rRAS_STATUS 0 0 0 false).wb rRAS_STATUS 0 0 3 false).wb rRAS_STATUS 0 0 1 false
  else c

/-! ## The commit point: signatures, cuts, freeze, proof (R176, R202..R205) -/

/-- What port `p` sent in the window so far. -/
def Chip.sum (c : Chip) (p : Nat) : PortSum := mget ({} : PortSum) c.ras.sums p

/-- The sum set. -/
def Chip.setSum (c : Chip) (p : Nat) (x : PortSum) : Chip := c.setRas { c.ras with sums := mset ({} : PortSum) c.ras.sums p x }

/-- RAS_CUT (R176): payload of port `p` discarded, counted once in a frame. -/
def Chip.rasCut (c : Chip) (p : Nat) : Chip :=
  let x := c.sum p
  if x.cut then c
  else ((((c.setSum p { x with cut := true }).inc rRAS_CNT 3 0).wb rRAS_STATUS 0 0 7 true).log 0x07 0x86).irq 86

/-- The expected signature of node `a` of port `p` set to a free value. -/
def Chip.nodeCrcFree (c : Chip) (p a : Nat) : Chip :=
  let k := p * 4096 + a
  c.setRas { c.ras with nodeCrc := mset (0xFFFFFFFF : BitVec 32) c.ras.nodeCrc k (Config.freeWord c.cyc k) }

/-- The nodes of port `p` whose payload was discarded: the words committed enter the expected signatures, and DESIGN CHOICE
(log entry 190) those of nodes with payload not fetched are free values (R176, R202). -/
def Chip.cutNodes (c : Chip) (p : Nat) : Chip :=
  let c := c.each ((c.port p).cells.filter (·.raster)) fun c k => c.nodeCrcAdd p (fld k.head 27 16) (c.ringGet p true k.pos k.len)
  match c.ras.fetch.find? fun f => f.1 = p && !f.2.done with
  | none => c
  | some (_, f) =>
    let c := match f.node with
      | some a => c.nodeCrcFree p a
      | none => c
    c.each (List.range (f.nruns - f.run)) fun c i =>
      let a := fld ((c.celView (c.runAddr (f.run0 + f.run + i) + 4)).getD 0) 31 20
      if a = 0 || a = 0xFFF then c else c.nodeCrcFree p a

/-- Payload of the frame that has not started is discarded at P(k) (R176, R272). -/
def Chip.cutPort (c : Chip) (p : Nat) : Chip :=
  let left := (c.port p).cells.any (·.raster) || c.ras.fetch.any fun f => f.1 = p && !f.2.done
  let c := if left && c.transmitting p then (c.rasCut p).cutNodes p else c
  c.dropRaster p

/-- The signature of the buffer canvas `cv` presents; 0 where it presents none (R204). -/
def Chip.presSig (c : Chip) (cv : Nat) : Word :=
  if c.rd rRAS_PRES cv = 0xFFFFFFFF then 0
  else match c.keptBuf cv with
    | some (_, _, sig) => sig
    | none => 0

/-- The test of R203 at P(k): a canvas signature has changed and no port's has; a port signature that changed clears. -/
def Chip.freezeTest (c : Chip) (portChanged : Bool) : Chip :=
  let l := (c.ras.named.filter fun cv => !c.freezeOut cv && c.rd rRAS_PRES cv ≠ 0xFFFFFFFF).map fun cv => (cv, c.presSig cv)
  let changed := l.any fun x => (c.ras.lastSigs.find? fun y => y.1 = x.1).any fun y => y.2 != x.2
  let c := c.setRas { c.ras with lastSigs := l }
  if !c.rb rRAS_CTRL 0 0 3 then c
  else if portChanged then (c.setRas { c.ras with frz := 0 }).wb rRAS_STATUS 0 0 6 false
  else if changed then c.freezeUp else c

/-- The node entries of port `p` in a proof record: 1..NODES and every node its payload names, in address order. -/
def Chip.proofNodes (c : Chip) (p : Nat) : List Nat :=
  (List.range 4095).filter fun a => a ≠ 0 && (a ≤ c.rf rLCTRL p 0 27 16 || c.ras.nodeCrc.any fun x => x.1 = p * 4096 + a)

/-- The expected signature of node `a` (R202). -/
def Chip.nodeSig (c : Chip) (p a : Nat) : Word := ~~~(mget (0xFFFFFFFF : BitVec 32) c.ras.nodeCrc (p * 4096 + a))

/-- The words of the proof record of the frame in progress (R204). -/
def Chip.proofWords (c : Chip) (nodes : List (Nat × Nat)) (units : Nat) : List Word :=
  let ports := List.range 48
  let any := fun (f : PortSum → Bool) => b2n (ports.any fun p => f (c.sum p))
  let st := c.rd rRAS_STATUS
  let flags := b2n (bit st 6) * 16 + any (·.cut) * 8 + any (·.underrun) * 4 + b2n (fld st 15 12 ≠ 0) * 2
    + b2n (c.ras.named.any fun cv => bit st (8 + cv))
  [0x504F4431, BitVec.ofNat 32 (flags * 2 ^ 16 + units), tsWord c.ras.start 0, tsWord c.ras.start 1, tsWord c.ras.start 2,
   BitVec.ofNat 32 c.ras.k, BitVec.ofNat 32 nodes.length, c.rd rRAS_EPOCH,
   c.rd rRAS_PRES 0, c.rd rRAS_PRES 1, c.rd rRAS_PRES 2, c.rd rRAS_PRES 3, c.presSig 0, c.presSig 1, c.presSig 2, c.presSig 3] ++
  (ports.flatMap fun p =>
    let x := c.sum p
    [c.rd rRAS_SIG p, BitVec.ofNat 32 (b2n x.cut * 2 ^ 17 + b2n x.underrun * 2 ^ 16 + (nodes.filter fun n => n.1 = p).length),
     BitVec.ofNat 32 x.words, BitVec.ofNat 32 x.cells]) ++
  (nodes.flatMap fun n => [c.nodeSig n.1 n.2, 0, BitVec.ofNat 32 n.2, 0])

/-- PROOF_RECORD (R205): the record of the frame in progress written to the ring; a record kept of an earlier frame with its tag
is no longer waited for. -/
def Chip.proofRecord (c : Chip) : Chip :=
  let c := c.setRas { c.ras with proofs := c.ras.proofs.filter fun r => r.k % 256 ≠ c.ras.k % 256 }
  if !c.rb rRAS_CTRL 0 0 4 then c else
  let nodes := c.ras.fetch.flatMap fun f => (c.proofNodes f.1).map fun a => (f.1, a)
  let units := (832 + 16 * nodes.length + 63) / 64
  let base := (c.rd rPLOG_BASE).toNat
  let fin := base + (c.rd rPLOG_SIZE).toNat
  let wr0 := (c.rd rPLOG_WR).toNat
  let wr := if base ≤ wr0 && wr0 < fin then wr0 else base
  if base + 64 * units > fin then c else
  let wrap := wr + 64 * units > fin
  let c := if wrap then c.celPut .raster wr (([0x504F4431, 0] : List Word).flatMap wordBytes) else c
  let wr := if wrap then base else wr
  let ws := c.proofWords nodes units
  let c := c.celPut .raster wr ((ws ++ List.replicate (16 * units - ws.length) 0).flatMap wordBytes)
  let dl := (gridF c.time.grid (gridK c.time.grid c.ras.start + 2)).toNat
  let r : ProofRec := { k := c.ras.k, ents := wr + 832, nodes := nodes, sigs := nodes.map fun n => c.nodeSig n.1 n.2, deadline := dl }
  (c.wr rPLOG_WR 0 0 (BitVec.ofNat 32 (wr + 64 * units))).setRas { c.ras with proofs := r :: c.ras.proofs.take 3 }

/-- floor(F(k + 2)) of the newest frame with tag `t` that has begun (R205, R318). -/
def Chip.echoEnd (c : Chip) (t : Nat) : Int :=
  let k := gridK c.time.grid c.ras.start
  gridF c.time.grid (k - (k - t) % 256 + 2)

/-- An echo of node `a` of port `p` with frame tag `t` (R205, R318): entered in the proof record of the newest frame with
that tag, or late. -/
def Chip.echo (c : Chip) (p a : Nat) (t : Nat) (sig : Word) (follow : Nat) : Chip :=
  match c.ras.proofs.find? fun r => r.k % 256 = t with
  | none => if c.now > c.echoEnd t then c.inc rRAS_CNT 5 0 else c
  | some r =>
    if c.now > r.deadline then c.inc rRAS_CNT 5 0
    else match (List.range r.nodes.length).find? fun i => r.nodes.getD i (0, 0) = (p, a) with
      | none => c
      | some i =>
        let e := r.ents + 16 * i
        let ok := r.sigs.getD i 0 = sig
        c.celPut .raster (e + 4) (([sig, BitVec.ofNat 32 (2 ^ 31 + b2n ok * 2 ^ 30 + a), BitVec.ofNat 32 follow] : List Word).flatMap wordBytes)

/-- The LANE ports whose signature P(k) writes: those that transmit, and those that sent no more than CMD cells (R202). -/
def Chip.signs (c : Chip) (p : Nat) : Bool := c.transmitting p || (c.laneLive p && (c.sum p).started)

/-- The signatures of the frame in progress to RAS_SIG; the flag tells that one changed (R202, R203). -/
def Chip.portSigs (c : Chip) : Chip × Bool :=
  (List.range 48).foldl (fun (x : Chip × Bool) p =>
    let s := ~~~(x.1.sum p).crc
    if !x.1.signs p then x else (x.1.wr rRAS_SIG p 0 s, x.2 || x.1.rd rRAS_SIG p != s)) (c, false)

/-- P(k) of a frame that was presented (R192, R195, R202..R205, R272): payload left is cut, signatures and the proof
record are written, PRESENT falls due, and an armed snapshot becomes active; a mode commit holds the lanes. -/
def Chip.endWindow (c : Chip) : Chip :=
  let c := c.each (c.ras.fetch.map (·.1)) fun c p => c.cutPort p
  let (c, ch) := c.portSigs
  let c := ((c.freezeTest ch).proofRecord).prsEvent (.commit (BitVec.ofNat 32 c.ras.k))
  let c := c.setRas { c.ras with nodeCrc := [] }
  let c := c.each (List.range 48) fun c p =>
    if c.isLane p then c.setPort p { c.port p with window := false, presentDue := c.transmitting p } else c
  match c.ras.snap with
  | none => c
  | some x =>
    let m := c.modeCommit x
    let pc := c.commitTime
    let c := c.applyCommit x
    if !m then c else
    let c := c.each (List.range 48) fun c p =>
      if c.transmitting p then (c.urge p (c.holdCell p)).setPort p { (c.urge p (c.holdCell p)).port p with held := true } else c
    let c := c.setRas { c.ras with hold := some { pc := pc, grid := x.grid }, switched := false }
    ((((c.wb rRAS_STATUS 0 0 1 true).inc rRAS_CNT 1 0).log 0x07 0x81).irq 82).prsEvent .hold

/-- The commit point as the raster engine takes it: a held engine whose GO was itself a mode commit takes its Pc here
(R201). -/
def Chip.rasCommitPoint (c : Chip) : Chip :=
  if !(c.up .pix && c.rb rRAS_CTRL 0 0 0) then c else
  match c.ras.hold with
  | some h => if h.rearm then c.setRas { c.ras with hold := some { h with rearm := false, pc := c.now } } else c
  | none =>
    if !c.ras.inFrame then c else
    let c := c.endWindow
    c.setRas { c.ras with inFrame := false, resume := false }

end Sys2Proof.Machine
end

