-- ==== Sys2Proof/Machine/Cask.lean ====
section
/-! DEFINITION. Cask A and Cask B: built, sealed, sent, received, applied; lockstep (spec/12 R380..R385, R388). -/

namespace Sys2Proof.Machine

/-- The bank of the cask with sequence number `q` (R380). -/
def caskBank (q : Word) : Nat := if bit q 0 then 0x96110000 else 0x96100000

/-- The record header (R381). -/
def recHead (type nw : Nat) : Word := BitVec.ofNat 32 (type * 2 ^ 24 + nw)

/-! ## Building (R381, R382, R384) -/

/-- The FRAME record: the frame, RAS_EPOCH, RAS_PRES, and the port signatures of frame k − 1. -/
def Chip.frameRec (c : Chip) (k : Word) : List Word :=
  recHead 1 54 :: k :: c.rd rRAS_EPOCH :: ((List.range 4).map (fun i => c.rd rRAS_PRES i) ++ (List.range 48).map fun p => c.rd rRAS_SIG p)

/-- The words of a changed value; none where its entry reads poisoned (R152). -/
def Chip.changeWords (c : Chip) (x : Change) : Chip × Option (List Word) :=
  match x.kind with
  | .pattern => (c, some <| BitVec.ofNat 32 x.idx :: [c.rd rPAT_CTRL x.idx, c.rd rPAT_LEVEL x.idx, c.rd rPAT_PER x.idx, c.rd rPAT_ANS x.idx,
      c.rd rPAT_ASL x.idx, c.rd rPAT_ASH x.idx, c.rd rPAT_SHAPE x.idx, c.rd rPAT_SEED x.idx])
  | .zone => (c, some [BitVec.ofNat 32 x.idx, c.rd rZ_ROUTE x.idx, c.rd rZ_RG x.idx, c.rd rZ_B x.idx])
  | .derate =>
    let n := c.node x.idx
    (c, some [BitVec.ofNat 32 (x.idx % 8192 * 2 ^ 19 + b2n n.trip * 2 ^ 18 + b2n n.tloss * 2 ^ 17 + min 65535 n.tl), BitVec.ofNat 32 n.dPrev])
  | .lht =>
    let (c, w) := c.celGet .corridor (lhtAddr x.idx)
    (c, w.map fun w => [BitVec.ofNat 32 x.idx, w])

/-- Words a kind's value takes. -/
def kindWords : MirKind → Nat
  | .pattern => 9
  | .zone => 4
  | .derate => 2
  | .lht => 2

/-- Record type of a kind. -/
def kindType : MirKind → Nat
  | .pattern => 2
  | .zone => 3
  | .derate => 5
  | .lht => 6

/-- The changes that fit in `room` words, oldest first; each kind's record header takes one word of it. -/
def fitChanges : List Change → Nat → List MirKind → List Change
  | [], _, _ => []
  | x :: t, room, seen =>
    let n := kindWords x.kind + (if seen.any (fun k => k = x.kind) then 0 else 1)
    if n ≤ room then x :: fitChanges t (room - n) (x.kind :: seen) else []

/-- The words of changed values in turn; none where one reads poisoned. -/
def Chip.changesWords (c : Chip) : List Change → Chip × Option (List Word)
  | [] => (c, some [])
  | x :: t =>
    let (c, w) := c.changeWords x
    let (c, l) := c.changesWords t
    (c, match w, l with
      | some w, some l => some (w ++ l)
      | _, _ => none)

/-- The records of one kind; NW has 16 bits. -/
def Chip.kindRec (c : Chip) (l : List Change) (k : MirKind) : Chip × Option (List Word) :=
  let (c, ws) := c.changesWords (l.filter fun x => x.kind = k)
  (c, ws.map fun ws => if ws.isEmpty then [] else recHead (kindType k) ws.length :: ws)

/-- The records of some kinds in turn. -/
def Chip.kindRecs (c : Chip) (l : List Change) : List MirKind → Chip × Option (List (List Word))
  | [] => (c, some [])
  | k :: t =>
    let (c, r) := c.kindRec l k
    let (c, rs) := c.kindRecs l t
    (c, match r, rs with
      | some r, some rs => some (r :: rs)
      | _, _ => none)

/-- Region 4 is to be sent by BULK, after what is being sent (R384). DESIGN CHOICE (log entry 204): the full derate state, for which BULK has no
region, goes in the casks to come: every node's counts as changed. -/
def Chip.caskOverflow (c : Chip) : Chip :=
  let c := (((c.wb rCDR_STATUS 0 0 12 true).cdrCnt 5).log 0x0D 0xD9).irq 182
  let c := (c.each (c.drv.nodes.map (·.1)) fun c n => c.changed .derate n).bulkAsk 0b10000
  if c.rf rCDR_STATUS 0 0 5 3 = 3 then c.setCdr { c.cdr with bulkSent := true } else c

/-- The POLICY words at CDR_POL_BASE, as many as a cask has room for beside the FRAME record (DESIGN CHOICE, log entry 203);
none when one is poisoned (R152, R385). -/
def Chip.policyWords (c : Chip) : Chip × Option (List Word) :=
  let n := min 16310 (c.rd rPOL_LEN).toNat
  let (c, l) := c.celWords .corridor (c.rd rPOL_BASE).toNat n
  (c, if l.any (·.2) then none else some (l.map (·.1)))

/-- A message sequence of at most 1,024 words each (R365). -/
def Chip.caskSend (c : Chip) (q : Word) : Nat → Nat → List Word → Chip
  | 0, _, _ => c
  | n + 1, off, l =>
    if l.isEmpty then c else
    (c.cdrSend 3 (q :: BitVec.ofNat 32 off :: l.take 1024)).caskSend q n (off + 1024) (l.drop 1024)

/-- Trailer 1 of the cask that stands in a bank cleared (R382). -/
def Chip.caskUnseal (c : Chip) (b : Nat) : Chip :=
  let (c, n) := c.celGet .corridor (b + 12)
  c.celPut .corridor (b + 4 * (16 + min 16366 (n.getD 0).toNat + 1)) [0, 0, 0, 0]

/-- CASK_BUILD (R382): the cask of frame `k` built in its bank, sealed and sent. -/
def Chip.caskBuild (c : Chip) : Chip :=
  match if c.up .cdr && c.pairState = 4 then c.drv.evalK else none with
  | none => c
  | some k =>
    let kw := wordOf k
    let q := c.rd rCASK_SEQ + 1
    let b := caskBank q
    let c := c.caskUnseal b
    let (c, pol) := c.policyWords
    match pol with
    | none => c.caskDiscard
    | some pol =>
      let fr := c.frameRec kw
      let pr := if pol.isEmpty then [] else recHead 4 pol.length :: pol
      let take := fitChanges c.cdr.changes (16366 - fr.length - pr.length) []
      match c.kindRecs take [.pattern, .zone, .derate, .lht] with
      | (c, none) => c.caskDiscard
      | (c, some ks) =>
      let kinds := ks.take 2 ++ [pr] ++ ks.drop 2
      let body := fr ++ kinds.flatten
      let n := 1 + (kinds.filter fun l => !l.isEmpty).length
      let t := (gridF c.time.grid k).toNat
      let head : List Word := [0x4341534B, BitVec.ofNat 32 (c.rf rCDR_VER 0 0 23 16 * 65536 + n), q, BitVec.ofNat 32 body.length,
        tsWord t 0, tsWord t 1, tsWord t 2, kw, BitVec.ofNat 32 c.ownEpoch] ++ List.replicate 7 0
      let l := head ++ body
      let crc := wordsCrc l
      let c := c.celPut .corridor b ((l ++ [crc, q]).flatMap wordBytes)
      let c := (c.wr rCASK_SEQ 0 0 q).wr rPOL_LEN 0 0 0
      let late := (c.cdr.changes.drop take.length).any fun x => x.casks.isEmpty && x.waited + 1 = 8
      let ch := c.cdr.changes.mapIdx fun i x => if i < take.length then { x with casks := q :: x.casks, waited := 0 } else { x with waited := x.waited + 1 }
      let c := c.setCdr { c.cdr with changes := ch }
      let c := c.caskSend q 17 0 l
      let c := c.cdrSend 4 [q, BitVec.ofNat 32 l.length, crc, q]
      if late then c.caskOverflow else c

/-- CASK_BUILD (R382). -/
def execCaskBuild (s : State) : Host.Outcome State Fault Refusal := run Chip.caskBuild s

/-! ## Receiving (R382, R385) -/

/-- Sequence number `a` is at or below `b`. -/
def seqOld (a b : Word) : Bool := decide ((a - b).toInt ≤ 0)

/-- A CASK segment taken by a unit in SYNCING or STANDBY. -/
def Chip.caskTake (c : Chip) (q : Word) (off : Nat) (ws : List Word) : Chip :=
  if !(c.pairState = 2 || c.pairState = 3) || (c.cdr.applied ≠ 0 && seqOld q c.cdr.applied) then c else
  let b := caskBank q
  let c := match c.cdr.caskIn with
    | some x => if x.seq = q then c else
        let c := (c.caskUnseal b).caskDrop
        c.setCdr { c.cdr with caskIn := some { seq := q } }
    | none =>
        let c := c.caskUnseal b
        c.setCdr { c.cdr with caskIn := some { seq := q } }
  let ws := ws.take (16384 - off)
  let c := c.celPut .corridor (b + 4 * off) (ws.flatMap wordBytes)
  match c.cdr.caskIn with
  | some x => c.setCdr { c.cdr with caskIn := some { x with got := (List.range ws.length).map (· + off) ++ x.got } }
  | none => c

/-- A SEAL (R382): every word present and the CRC equal, the cask is sealed and acknowledged; else, or where none of its
segments has come, it is discarded (R385). -/
def Chip.sealTake (c : Chip) (q : Word) (n : Nat) (crc sl : Word) : Chip :=
  if !(c.pairState = 2 || c.pairState = 3) || (c.cdr.applied ≠ 0 && seqOld q c.cdr.applied) then c else
  match c.cdr.caskIn.filter fun x => x.seq = q with
  | none => c.caskDiscard
  | some x =>
    let c := c.setCdr { c.cdr with caskIn := none }
    let b := caskBank q
    let ok := sl = q && n ≤ 16384 && ((List.range n).all fun i => x.got.any fun j => j = i)
    let (c, l) := c.celGets .corridor b (if ok then n else 0)
    if !ok || l.map wordsCrc ≠ some crc then c.caskDiscard
    else
      let c := c.celPut .corridor (b + 4 * n) ([crc, q].flatMap wordBytes)
      (c.setCdr { c.cdr with sealed_ := some q }).cdrSend 5 [q]

/-- An ACK (R382, R384): the values the acknowledged cask holds need not be sent again. -/
def Chip.ackTake (c : Chip) (q : Word) : Chip :=
  (c.wr rCASK_ACK 0 0 q).setCdr { (c.wr rCASK_ACK 0 0 q).cdr with changes := c.cdr.changes.filter fun x => !x.casks.any fun y => y = q }

/-! ## Applying (R383, R388) -/

/-- The comparison of the FRAME record's signatures with this unit's of the same frame (R388). -/
def Chip.lockstep (c : Chip) (k : Word) (sig : List Word) : Chip :=
  match c.cdr.sigs.find? fun x => x.1 = k - 1 with
  | none => c
  | some (_, own, mask) =>
    if (List.range 48).all fun p => !mask.getLsbD p || own.getD p 0 = sig.getD p 0 then
      let c := c.setCdr { c.cdr with lockRun := (if c.cdr.lockAt + 1 = k then c.cdr.lockRun else 0) + 1, lockAt := k }
      if c.cdr.lockRun ≥ 8 then c.wb rCDR_STATUS 0 0 13 true else c
    else
      let c := (c.setCdr { c.cdr with lockRun := 0, lockAt := k, askRevert := false }).wb rCDR_STATUS 0 0 13 false
      (((c.cdrCnt 6).log 0x0D 0xDA).irq 183)

/-- Groups of `n` words. -/
def groupsOf (n : Nat) : Nat → List Word → List (List Word)
  | 0, _ => []
  | m + 1, l => if l.isEmpty then [] else l.take n :: groupsOf n m (l.drop n)

/-- One record of a cask applied (R383); an unknown type is skipped (R381). -/
def Chip.caskRecord (c : Chip) (type : Nat) (l : List Word) : Chip :=
  let w := fun (g : List Word) i => g.getD i (0 : Word)
  match type with
  | 1 => c.lockstep (w l 0) (l.drop 6)
  | 2 => c.each (groupsOf 9 64 l) fun c g =>
      let e := (w g 0).toNat % 64
      let c := (((c.wr rPAT_CTRL e 0 (w g 1)).wr rPAT_LEVEL e 0 (w g 2)).wr rPAT_PER e 0 (w g 3)).wr rPAT_ANS e 0 (w g 4)
      ((((c.wr rPAT_ASL e 0 (w g 5)).wr rPAT_ASH e 0 (w g 6)).wr rPAT_SHAPE e 0 (w g 7)).wr rPAT_SEED e 0 (w g 8)).changed .pattern e
  | 3 => c.each (groupsOf 4 256 l) fun c g =>
      let z := (w g 0).toNat % 256
      (((c.wr rZ_ROUTE z 0 (w g 1)).wr rZ_RG z 0 (w g 2)).wr rZ_B z 0 (w g 3)).changed .zone z
  | 4 => (c.setCdr { c.cdr with policy := c.cdr.policy ++ [l] }).irq 182
  | 5 => c.each (groupsOf 2 8192 l) fun c g =>
      let n := fld (w g 0) 31 19
      c.setNode n { c.node n with trip := bit (w g 0) 18, tloss := bit (w g 0) 17, tl := fld (w g 0) 15 0, dPrev := fld (w g 1) 15 0 }
  | 6 => c.each (groupsOf 2 8192 l) fun c g =>
      c.lhtPut (fld (w g 0) 21 0) (w g 1)
  | _ => c

/-- The records of a cask's body in turn. -/
def Chip.caskRecords (c : Chip) : Nat → List Word → Chip
  | 0, _ => c
  | _, [] => c
  | n + 1, h :: t =>
    let nw := fld h 15 0
    (c.caskRecord (fld h 31 24) (t.take nw)).caskRecords n (t.drop nw)

/-- CASK_APPLY (R383): the newest cask sealed and acknowledged and not yet applied, by a unit that follows, or once by one
that has just become ACTIVE. DESIGN CHOICE (log entry 186): a cask that reads poisoned is discarded unapplied. -/
def Chip.caskApply (c : Chip) : Chip :=
  match if c.drvFollows || c.cdr.fresh then c.cdr.sealed_ else none with
  | none => c.setCdr { c.cdr with fresh := false }
  | some q =>
    let b := caskBank q
    let (c, n) := c.celGet .corridor (b + 12)
    match c.celGets .corridor (b + 64) (min 16366 (n.getD 0).toNat) with
    | (c, none) => c.caskDiscard.setCdr { c.caskDiscard.cdr with sealed_ := none, fresh := false }
    | (c, some l) =>
      let c := c.caskRecords 16366 l
      let c := c.setCdr { c.cdr with sealed_ := none, applied := q, fresh := false }
      (c.wr rCASK_SEQ 0 0 q).pairCheck

/-- The unit's own port signatures of the frame just ended kept for the lockstep check. -/
def Chip.keepSigs (c : Chip) (k : BitVec 32) (mask : BitVec 48) : Chip :=
  c.setCdr { c.cdr with sigs := (k, (List.range 48).map (fun p => c.rd rRAS_SIG p), mask) :: c.cdr.sigs.take 3 }

end Sys2Proof.Machine
end

