-- ==== Sys2Proof/Machine/Evaluate.lean ====
section
/-! DEFINITION. The evaluation point E(k) of DRV, the return path's records, and the accesses of the commissioning registers
beyond their access codes (spec/11 R335, R343, R351, R353). -/

namespace Sys2Proof.Machine

/-- DRV_EVAL, held to its range (R335). -/
def Chip.evalLead (c : Chip) : Nat := max 15000 (min 1000000 (c.rd rDRV_EVAL).toNat)

/-- The ports whose nodes the frame set covers. -/
def Chip.drivePorts (c : Chip) : List Nat := (List.range 48).filter fun p => c.isLane p && !c.ringOdd p

/-- The nodes that gave no record in a counting frame age their channels (R351). -/
def Chip.ageAll (c : Chip) : Chip :=
  if c.drvFollows then c else
  c.each (c.drivePorts.filter fun p => (c.port p).present.isSome) fun c p =>
    let (c, l) := c.lhtPort p
    c.each ((List.range (if l.valid then l.nodes else 0)).map (· + 1)) fun c a => if (c.node (c.nodeIdx p a)).got then c else c.lampAge l a

/-- No node has given a record of the frame that begins now (R343); a node of an index above 8,191, which has no entry, is forgotten
with that. -/
def Chip.gotClear (c : Chip) : Chip :=
  let l := (c.drv.nodes.map fun x => (x.1, { x.2 with got := false, temp := if x.1 > 8191 then none else x.2.temp })).filter fun x => x.2 ≠ {}
  c.setDrv { c.drv with nodes := l }

/-- DRV_EVALUATE (R335): the frame set of the frame whose start is DRV_EVAL away. -/
def Chip.drvEvaluate (c : Chip) : Chip :=
  let k := gridK c.time.grid (c.now + c.evalLead)
  let first := c.cdr.fresh && c.cdr.sealed_.isSome
  let c := (c.caskApply).ageAll
  let c := c.each c.drivePorts fun c p =>
    let cnt := (c.port p).present.isSome
    c.each ((List.range (c.portNodes p)).map (· + 1)) fun c a => c.nodeEval p a cnt first
  let c := c.gotClear.each (List.range 48) fun c p => c.setPort p { c.port p with present := none }
  let ns := c.drivePorts.flatMap fun p =>
    ((List.range (c.portNodes p)).map fun i => c.nodeIdx p (i + 1)).filter (· ≤ 8191)
  let any := fun (f : NodeSt → Bool) => ns.any fun n => f (c.node n)
  let c := ((c.wb rDRV_STATUS 0 0 1 (any (·.trip))).wb rDRV_STATUS 0 0 2 (any fun x => x.trip || x.dPrev < 0x8000)).wb rDRV_STATUS 0 0 3 (any (·.tloss))
  let c := (c.zonesBuild (gridF c.time.grid (k + 1))).lhtCount
  let c := c.each c.drivePorts fun c p => c.diagSelect p
  c.setDrv { c.drv with evalK := some k, pulse := c.rd rDIAG_PULSE }

/-- DRV_EVALUATE (R335). -/
def execDrvEvaluate (s : State) : Host.Outcome State Fault Refusal :=
  run (fun c => c.when (c.up .drv && c.rb rDRV_CTRL 0 0 0) Chip.drvEvaluate) s

/-! ## The return path (R205, R318, R343, R351) -/

/-- One record of a STATUS cell, of node address `a` of port `p`: its echo to the proof log, and its temperature and lamp
states to DRV, when it is of the frame of the last evaluation and the node's first. -/
def Chip.takeRecord (c : Chip) (p a : Nat) (r : List Word) : Chip :=
  let w0 := r.getD 0 0
  let tag := fld w0 7 0
  let c := c.echo p a tag (r.getD 1 0) (fld w0 11 10)
  if c.drvFollows then c else
  match c.drv.evalK with
  | none => c
  | some k =>
    let n := c.nodeIdx p a
    if tag = (k % 256).toNat then
      if (c.node n).got then c else
      let c := c.setNode n { c.node n with got := true, temp := some (fld w0 19 12) }
      let (c, l) := c.lhtPort p
      if !l.valid then c else
      c.each (List.range l.chans) fun c ch =>
        let s := match r[2 + ch / 16]? with
          | some w => fld w (2 * (ch % 16) + 1) (2 * (ch % 16))
          | none => 3
        c.lampReport l p a ch s
    else c.inc rDRV_CNT 6 0

/-- The records of a STATUS cell: the slots that are not zero and whose ADDR is the slot's own (R343). -/
def Chip.takeStatus (c : Chip) (x : RetCell) : Chip :=
  let p := if c.ringOdd x.port then x.port - 1 else x.port
  let w := c.recw p
  let first := fld x.head 27 16
  c.each (List.range (x.words.length / w)) fun c i =>
    let r := (x.words.drop (i * w)).take w
    if r.all (· = 0) || fld (r.getD 0 0) 31 20 ≠ first + i then c else c.takeRecord p (first + i) r

/-- RETURN_RECORD (R343): the oldest cell of XQ_RET taken; DRV takes the records of STATUS cells. -/
def execReturnRecord (s : State) : Host.Outcome State Fault Refusal :=
  run (fun c => match if c.up .drv then c.retQ else [] with
    | [] => c
    | x :: t => let c := { c with retQ := t }
      if fld x.head 31 28 = 0xC then c.takeStatus x else c) s

end Sys2Proof.Machine
end

