-- ==== Sys2Proof/Machine/Lane.lean ====
section
/-! DEFINITION. LANE ports: windows, cells sent and received, receive lock, ring pairs, inserts, discovery, watchdog hold
(spec/09 R270..R278; spec/10). -/

namespace Sys2Proof.Machine

/-! ## Receive lock (R275, R278) -/

/-- The even port of the ring pair of port `p` loses its ring (R278). -/
def Chip.ringBreak (c : Chip) (p : Nat) : Chip :=
  let e := p / 2 * 2
  if (c.port e).ringNow && !c.rb rPORT_STATUS e 0 9 then
    ((c.wb rPORT_STATUS e 0 9 true).portCause e 3).log (0x10 + e) 0xB2
  else c

/-- Receive lock of port `p` lost (RX_LOCK_CHANGE); a LANE port transmits, IDLE at least, unless its bank has stopped. -/
def Chip.rxLose (c : Chip) (p : Nat) : Chip :=
  let c := c.setPort p { c.port p with rxGood := 0, rxBad := 0 }
  if !c.rb rPORT_STATUS p 0 10 then c else
  let c := ((c.wb rPORT_STATUS p 0 10 false).portCause p 2).inc rPORT_CNT p 3
  let c := if c.isLane p && (c.bank (bankOf p)).step ≠ 1 then c.log (0x10 + p) 0xB1 else c
  c.ringBreak p

/-- Receive lock gained: TRAIN_FAIL clears (R276). -/
def Chip.rxGain (c : Chip) (p : Nat) : Chip :=
  if c.rb rPORT_STATUS p 0 10 then c
  else ((c.wb rPORT_STATUS p 0 10 true).wb rPORT_STATUS p 0 11 false).portCause p 2

/-- RX_LOCK_TIMEOUT (R275): two cell times without a START mark. -/
def execRxLockTimeout (p : Fin 48) (s : State) : Host.Outcome State Fault Refusal :=
  run (fun c => c.when (c.up (.bank (bankOf p)) && c.isLane p) fun c => c.rxLose p) s

/-- RING_RESTORE (R278): both ports of the pair have held lock for 1 ms. -/
def execRingRestore (p : Fin 48) (s : State) : Host.Outcome State Fault Refusal :=
  run (fun c =>
    let e := p.val / 2 * 2
    if c.up (.bank (bankOf p)) && (c.port e).ringNow && c.rb rPORT_STATUS e 0 9 && c.rb rPORT_STATUS e 0 10 && c.rb rPORT_STATUS (e + 1) 0 10 then
      (c.wb rPORT_STATUS e 0 9 false).portCause e 3
    else c) s

/-! ## Retraining (R276) -/

/-- RAS_STATUS.RETRAIN follows the banks (R196). -/
def Chip.retrainFlag (c : Chip) : Chip :=
  c.wb rRAS_STATUS 0 0 2 ((List.range 6).any fun k => let b := c.bank k; b.family = 1 && (b.pend || b.step ≠ 0))

/-- The LANE ports of bank `k`. -/
def Chip.laneOf (c : Chip) (k : Nat) : List Nat := ((List.range 8).map fun i => 8 * k + i).filter fun p => c.isLane p

/-- Step 1: the bank's LANE ports stop at a cell boundary; nothing is received while the clock stands. -/
def Chip.bankStop (c : Chip) (k : Nat) : Chip :=
  let b := c.bank k
  let c := c.setBank k { b with pend := false, step := 1 }
  (c.each (c.laneOf k) fun c p => c.rxLose p).retrainFlag

/-- Both payload pools of a port reset: cells and records go, each producer holds its whole region again (R267, R276). -/
def Chip.poolReset (c : Chip) (p : Nat) : Chip :=
  c.setPort p { c.port p with rasWr := 0, rasRd := 0, prsWr := 0, prsRd := 0, cells := [] }

/-- Step 5: credits returned in full; IDLE until RESUME. -/
def Chip.bankDone (c : Chip) (k : Nat) : Chip :=
  let b := c.bank k
  let c := c.setBank k { b with step := 0, readyAt := c.now }
  (c.each (c.laneOf k) fun c p =>
    let c := (c.poolReset p).blankStop p
    c.setPort p { c.port p with held := true, window := false, urgent := [] }).retrainFlag

/-- BANK_RETRAIN_START (R276): the new lane rate reaches bank `k`. -/
def execBankRetrainStart (k : Fin 6) (s : State) : Host.Outcome State Fault Refusal :=
  run (fun c => c.when (c.up (.bank k) && (c.bank k).pend) fun c => c.bankStop k) s

/-- BANK_PLL_LOCK (R276): the PLL of bank `k` has locked for the new rate or family: LANE ports train; a bank of PULSE and
DMX ports, or of none, is ready at once. -/
def execBankPllLock (k : Fin 6) (s : State) : Host.Outcome State Fault Refusal :=
  run (fun c => if c.up (.bank k) && (c.bank k).step = 1 then
      let b := c.bank k
      let c := c.setBank k { b with step := 2, rate := b.newRate, family := b.newFamily }
      if b.newFamily = 1 then c else c.bankDone k
    else c) s

/-- BANK_READY (R276): MIN has passed and every LANE port of bank `k` is locked. -/
def execBankReady (k : Fin 6) (s : State) : Host.Outcome State Fault Refusal :=
  run (fun c => if c.up (.bank k) && (c.bank k).step = 2 && (c.laneOf k).all fun p => c.rb rPORT_STATUS p 0 10 then c.bankDone k else c) s

/-- PORT_TRAIN_FAIL (R276): 50 ms have passed: the ports still unlocked fail, and bank `k` is ready. -/
def execPortTrainFail (k : Fin 6) (s : State) : Host.Outcome State Fault Refusal :=
  run (fun c => if c.up (.bank k) && (c.bank k).step = 2 && (c.laneOf k).any fun p => !c.rb rPORT_STATUS p 0 10 then
      let c := c.each ((c.laneOf k).filter fun p => !c.rb rPORT_STATUS p 0 10) fun c p =>
        ((c.wb rPORT_STATUS p 0 11 true).portCause p 4).log (0x10 + p) 0xB3
      c.bankDone k
    else c) s

/-! ## Watchdog hold (R273) -/

/-- HC0's watchdog has expired: every LANE port sends HOLD and then IDLE, no PRESENT or blanking cell that was due (R273, R337), and
WDHOLD is set in every bank. -/
def Chip.wdHold (c : Chip) : Chip :=
  c.each (List.range 6) fun c k =>
    let b := c.bank k
    let c := c.each ((c.laneOf k).filter fun p => !c.ringOdd p) fun c p =>
      let c := if b.wdhold then c else c.urge p (c.holdCell p)
      let c := ((c.dropRaster p).blankStop p).portCause p 9
      c.setPort p { c.port p with held := true, window := false, released := false, presentDue := false }
    (c.setBank k { b with wdhold := true }).log (0x10 + 8 * k) 0xB7

/-- PORT_BCTRL written (R273, R277): WD_REL releases bank `k`'s watchdog hold; RING is checked against the modes set. -/
def Chip.bctrl (c : Chip) (k : Nat) (v : Word) : Chip :=
  let c := if bit v 8 && (c.bank k).wdhold then
      let c := c.setBank k { c.bank k with wdhold := false }
      c.each (c.laneOf k) fun c p => c.setPort p { c.port p with released := true }
    else c
  c.each [0, 1, 2, 3] fun c j =>
    let e := 8 * k + 2 * j
    if c.rb rBCTRL k 0 j && !(c.rf rPORT_CTRL e 0 1 0 = 1 && c.rf rPORT_CTRL (e + 1) 0 1 0 = 1) then
      (c.wb rBCTRL k 0 j false).cfgErr e
    else c

/-! ## Windows (R271, R272) -/

/-- The RESUME cell of port `p` (R312): epoch word with j, the period, PWM and lane rate, and launch − F(j), which its launch writes. -/
def Chip.resumeCell (c : Chip) (p : Nat) : OwnCell :=
  let (n, d) := c.period
  let m := max 1 (c.rf rSH_MODE 0 1 29 24)
  { head := cellHead 7 0 4 0
    words := [c.epochWord p (BitVec.ofNat 8 c.ras.k), BitVec.ofNat 32 (16 * n * nsPerSec / d),
      BitVec.ofNat 32 (m * 2 ^ 24 + (c.bank (bankOf p)).rate % 4), BitVec.ofNat 32 (c.now - c.ras.start)] }

/-- A planned swap reaches port `p` at its window opening (R389): the outgoing unit's port enters witness mode, the
incoming unit's sends ASSUME as the cell that ends here; the first port changes the unit's state. -/
def Chip.swapWindow (c : Chip) (p : Nat) : Chip :=
  let c := match c.cdr.swap with
    | none => c
    | some x =>
      if !x.due then c else
      let l := c.pairedPorts.foldl (fun (m : BitVec 48) q => m ||| (1#48 <<< q)) 0
      let c := c.setCdr { c.cdr with swap := none, swapLeft := l, swapOut := !x.incoming }
      let c := ((c.wr rCDR_ADOPT 0 0 0).wr rCDR_ADOPT 1 0 0).wb rCDR_STATUS 0 0 15 false
      if x.incoming then (c.wf rCDR_EPOCH 0 0 15 0 x.epoch.toNat).setPair 4
      else (c.wb rCDR_SWAP 0 0 31 false).setPair 3
  let c := c.pairCheck
  if !c.cdr.swapLeft.getLsbD p then c else
  let inc := !c.cdr.swapOut
  let c := c.setCdr { c.cdr with swapLeft := c.cdr.swapLeft &&& ~~~(1#48 <<< p) }
  if inc && c.laneVer p = 2 then (c.insertsAt p).sendCell p (c.assumeCell p).head (c.assumeCell p).words else c

/-- A port released by RELEASE for the frame before returns to witness mode at this opening, and adopts again if it shows the
peer gone (R377, R392). -/
def Chip.releaseWindow (c : Chip) (p : Nat) : Chip :=
  let due := fun (x : BitVec 48 × BitVec 32) => x.1.getLsbD p && decide ((BitVec.ofNat 32 c.ras.k - (x.2 + 1)).toInt ≥ 0)
  if !c.cdr.releases.any due then c else
  let c := c.wb rCDR_ADOPT (p / 32) 0 (p % 32) false
  let l := (c.cdr.releases.map fun x => if due x then (x.1 &&& ~~~(1#48 <<< p), x.2) else x).filter fun x => x.1 ≠ 0
  (c.setCdr { c.cdr with releases := l }).pairCheck.adoptCheck.pairCheck

/-- The window of the frame in progress opens on LANE port `p` (R271). -/
def Chip.windowOpen (c : Chip) (p : Nat) : Chip :=
  let c := ((c.setPort p { c.port p with soloWait := false, opened := true }).swapWindow p).releaseWindow p
  let c := c.blankCut p
  let x := c.port p
  if (c.bank (bankOf p)).wdhold then c.setPort p { x with window := false }
  else
    let has := !x.cells.isEmpty
    if c.fed p && !has then
      -- loss of drive
      let c := c.setPort p { x with window := false, held := true, released := false, loss := true }
      let c := (((c.wb rPORT_STATUS p 0 14 true).inc rPORT_CNT p 4).portCause p 0).log (0x10 + p) 0xB0
      c.urge p (c.holdCell p)
    else
      let lost := c.rb rPORT_STATUS p 0 14
      let res := c.ras.resume || ((x.held || x.released || lost) && has)
      let c := if res then c.urge p (c.resumeCell p) else c
      let c := if lost && has then (c.wb rPORT_STATUS p 0 14 false).portCause p 1 else c
      c.setPort p { c.port p with window := true, held := x.held && !res, released := x.released && !res }

/-- WINDOW_OPEN (R271). -/
def execWindowOpen (p : Fin 48) (s : State) : Host.Outcome State Fault Refusal :=
  run (fun c => c.when (c.up .pix && c.rb rRAS_CTRL 0 0 0 && c.ras.inFrame && c.ras.hold.isNone && c.isLane p && !c.ringOdd p && c.bankReady p)
    fun c => c.windowOpen p) s

/-! ## Cells sent (R270, R272, R317, R325, R337) -/

/-- A committed cell leaves (R202, R270, R325): its words enter the port signature and that of the node they are addressed to. -/
def Chip.launchCommitted (c : Chip) (p : Nat) (k : PCell) (t : List PCell) : Chip :=
  let ws := c.ringGet p k.raster k.pos k.len
  let c := c.setPort p { (c.port p).consume k with cells := t }
  let type := fld k.head 31 28
  if type = 2 && c.laneVer p = 1 then
    let i := c.idleCell p
    ((c.inc rLV1DROP p 0).log (0x10 + p) 0xB9).sendCell p i.head i.words
  else
    let x := c.sum p
    let c := c.setSum p { x with crc := crcOn x.crc ws, words := x.words + ws.length, cells := x.cells + 1, started := true }
    let c := if fld k.head 27 16 ≠ 0 then c.nodeCrcAdd p (fld k.head 27 16) ws else c
    c.sendCell p k.head ws

/-- An IDLE cell; inside the window, after the first cell and with payload still to come, it is an underrun (R177). -/
def Chip.launchIdle (c : Chip) (p : Nat) : Chip :=
  let x := c.sum p
  let dry := (c.port p).window && (c.port p).cells.isEmpty && x.started && c.ras.fetch.any fun f => f.1 = p && !f.2.done
  let c := if dry then
      let first := !(List.range 48).any fun q => (c.sum q).underrun
      let c := ((c.setSum p { x with underrun := true }).inc rRAS_CNT 2 0)
      if first then (c.log 0x07 0x86).irq 86 else c
    else c
  let i := c.idleCell p
  c.sendCell p i.head i.words

/-- A blanking cell at the head of the port's list: a STATUS cell that may still start, a drive or DIAG cell that may
still end, goes out; else it, and all drive and DIAG cells after it, do not (R317, R337). -/
def Chip.launchBlank (c : Chip) (p : Nat) : Nat → Chip
  | 0 => c.launchIdle p
  | n + 1 =>
    let x := c.port p
    match x.blank with
    | [] => c.launchIdle p
    | k :: t =>
      if fld k.head 31 28 = 0xC then
        let c := c.setPort p { x with blank := t }
        if c.now < x.blankEnd then c.sendCell p k.head k.words else c.launchBlank p n
      else if 8 * (c.now + c.cellTime p) + (c.rd rLT0A p).toNat + 16000 ≤ 8 * x.blankEnd then
        ((c.setPort p { x with blank := t }).blankSent p k t).sendCell p k.head k.words
      else (c.blankCut p).launchIdle p

/-- The TRAIN cell (R312). -/
def trainWords : List Word := (List.range 62).map fun i => if i % 2 = 0 then 0xFFFFFFFF else 0

/-- A cell of the port's own as it is launched: RESUME carries the launch of its START after F(j) (R312). -/
def Chip.ownAtLaunch (c : Chip) (k : OwnCell) : OwnCell :=
  if fld k.head 31 28 = 7 then { k with words := k.words.take 3 ++ [BitVec.ofNat 32 (c.now - c.ras.start)] } else k

/-- LANE port `p` at a cell boundary: TRAIN in retraining; else a cell that is due at once; else a committed cell that ends
by P(k) in the window; else a blanking cell; else IDLE. The PRESENT that is due at P(k) is PRESENT_SEND's. -/
def Chip.launch (c : Chip) (p : Nat) : Chip :=
  let b := c.bank (bankOf p)
  let x := c.port p
  if b.step = 2 then c.sendCell p (cellHead 0xA 0 62 0) trainWords
  else if b.step = 1 || x.presentDue then c
  else match x.urgent with
    | k :: t =>
      let c := (c.setPort p { x with urgent := t }).sendCell p (c.ownAtLaunch k).head (c.ownAtLaunch k).words
      if fld k.head 31 28 = 6 then c.setPort p { c.port p with holdFirst := false } else c
    | [] =>
      if x.window then
        match x.cells with
        | k :: t => if c.now + c.cellTime p ≤ c.commitTime then c.launchCommitted p k t else c.launchIdle p
        | [] => c.launchIdle p
      else c.launchBlank p 64

/-- LANE_CELL_LAUNCH (R270): port `p` at its next cell boundary, the inserts that wait before its START (R332). -/
def execLaneCellLaunch (p : Fin 48) (s : State) : Host.Outcome State Fault Refusal :=
  run (fun c => c.when (c.up (.bank (bankOf p)) && c.isLane p && !c.ringOdd p) fun c => (c.insertsAt p).launch p) s

/-! ## Cells received (R275, R309, R310, R319, R320, R362, R370, R378) -/

/-- The DISCOVER_REPLY with the TOKEN waited for (R320). -/
def Chip.discoverReply (c : Chip) (p : Nat) (head : Word) (ws : List Word) (t : Nat) : Chip :=
  match (c.port p).disc.out with
  | none => c
  | some (tok, t0) =>
    if ws.getD 1 0 ≠ tok then c else
    let c := c.setPort p { c.port p with disc := {} }
    let c := c.wr rLRTT p 0 (BitVec.ofNat 32 (t - t0))
    let c := c.each (List.range 55) fun c w => c.wr rLDCAP p w ((head :: ws).getD w 0)
    let w0 := ws.getD 0 0
    let c := ((c.wb rLDSTAT p 0 31 true).wf rLDSTAT p 0 27 16 (fld w0 23 12)).wf rLDSTAT p 0 11 8 (fld w0 27 24)
    c.wb rLDISC p 0 31 false

/-- The cell a witness-mode port sends back, with the trailer of what it now is (R307, R309, R362). -/
def Chip.reflect (c : Chip) (p : Nat) (head : Word) (ws : List Word) : Chip :=
  let h := setBit (setBit head 1 true) 0 false
  let h := if fld h 31 28 = 9 then setFld h 31 28 0xD else h
  let c := c.setPort p { c.port p with returned := true }
  (c.inc rPORT_CNT p 0).emit (.cell p (cellWire h ws))

/-- What a unit of a pair concludes from a cell with a valid CRC on port `p` (R362, R370, R373, R378): that the peer is there,
unless it is a keepalive; it is sent back in witness mode; its epoch counts. -/
def Chip.pairHears (c : Chip) (p : Nat) (head : Word) (ws : List Word) : Chip :=
  let type := fld head 31 28
  let keep := type = 0 && bit head 1 && fld (ws.getD 0 0) 31 16 = 0
  let c := if keep then c else c.setCdr { c.cdr with heard := c.cdr.heard ||| (1#48 <<< p) }
  if !c.paired p then c else
  let c := if c.witness p && !bit head 1 then c.reflect p head ws else c
  let c := if type = 0 || type = 5 || type = 6 || type = 7 || type = 0xB then c.epochSeen (fld (ws.getD 0 0) 31 16) else c
  c.pairCheck

/-- A cell with a valid CRC (R310, R319, R320): the NACK of a reflected cell is kept; on a locked port STATUS and
DISCOVER_REPLY cells go to the return path. -/
def Chip.cellTaken (c : Chip) (p : Nat) (head : Word) (ws : List Word) (t : Nat) : Chip :=
  let type := fld head 31 28
  let nack := bit head 0
  let c :=
    if bit head 1 then
      let was := c.rb rLRSTAT p 0 1
      let c := (c.wb rLRSTAT p 0 0 true).wb rLRSTAT p 0 1 nack
      if nack && !was then c.log (0x10 + p) 0xBA else c
    else c.wb rLRSTAT p 0 0 false
  if !c.rb rPORT_STATUS p 0 10 || (type ≠ 0xC && type ≠ 0xD) then c else
  let d : Chip := { c with retQ := c.retQ ++ [{ port := p, head := head, words := ws, t := t }] }
  if type = 0xD then d.discoverReply p head ws t else d

/-- A received cell without the inserts inside it: the port discards every insert it receives, and the words of the cell keep their
order and their slots (R300, R301). -/
def rxOwn (x : RxCell) : RxCell := { x with inserts := [] }

/-- The trailer of a received cell is the CRC of its header and slots (R297). -/
def cellOk (x : RxCell) : Bool := wordsCrc (x.head :: x.slots) == x.trailer

/-- A cell on the receive lands of LANE port `p` (R275). -/
def Chip.cellReceive (c : Chip) (p : Nat) (x : RxCell) : Chip :=
  let s := c.port p
  let ws := x.slots.take (fld x.head 7 2)
  if !cellOk x then
    let c := (c.inc rPORT_CNT p 2).setPort p { s with rxGood := 0, rxBad := s.rxBad + 1 }
    if s.rxBad + 1 ≥ 4 then c.rxLose p else c
  else
    let good := if x.spaced then s.rxGood + 1 else 1
    let c := (c.inc rPORT_CNT p 1).setPort p { s with rxGood := good, rxBad := 0 }
    let c := if good ≥ 3 then c.rxGain p else c
    (c.cellTaken p x.head ws x.quarter).pairHears p x.head ws

/-- LANE_CELL_RECEIVE (R275); nothing is received while the bank's clock stands (R276). -/
def execLaneCellReceive (p : Fin 48) (x : RxCell) (s : State) : Host.Outcome State Fault Refusal :=
  run (fun c => c.when (c.up (.bank (bankOf p)) && c.isLane p && (c.bank (bankOf p)).step ≠ 1) fun c => c.cellReceive p (rxOwn x)) s

/-! ## Discovery (R320..R325) -/

/-- PORT_LDISC written: GO asks for a DISCOVER; it reads 1 until DONE or TIMEOUT. -/
def Chip.ldisc (c : Chip) (p : Nat) (old v : Word) : Chip :=
  if bit v 31 || bit old 31 then
    let c := c.wb rLDISC p 0 31 true
    if bit old 31 then c else c.setPort p { c.port p with disc := { asked := true } }
  else c

/-- The DISCOVER cell of port `p` with TOKEN `tok` (R320..R324). -/
def Chip.discoverCell (c : Chip) (p : Nat) (tok : Word) : OwnCell :=
  let d := c.rd rLDISC p
  let op := fld d 30 29
  let n := min 13 (fld d 15 12)
  let w0 := BitVec.ofNat 32 (op * 2 ^ 30 + fld d 28 28 * 2 ^ 29 + (if op = 0 then 2 else c.laneVer p) * 2 ^ 24 + fld d 27 16 * 2 ^ 12 + n * 2 ^ 8 + c.recw p)
  let len := match op with | 1 => 2 + 4 * n | 3 => 4 | _ => 2
  { head := cellHead 9 0 len 0, words := w0 :: tok :: List.replicate (len - 2) 0 }

/-- Whether a DISCOVER may be launched at this cell boundary, at which no PRESENT and no cell of the port's own is due (R327): the raster engine is stopped or holding, or the lane is in
blanking after its STATUS cells. -/
def Chip.discoverOk (c : Chip) (p : Nat) : Bool :=
  !(c.port p).presentDue && (c.port p).urgent.isEmpty && (!c.rb rRAS_CTRL 0 0 0 || c.ras.hold.isSome
    || (!(c.port p).window && !c.ras.inFrame && !(c.port p).blank.any fun k => fld k.head 31 28 = 0xC))

/-- DISCOVER_LAUNCH (R320); the odd port of a ring pair sends the even port's stream alone (R277). -/
def execDiscoverLaunch (p : Fin 48) (s : State) : Host.Outcome State Fault Refusal :=
  run (fun c => if c.isLane p && !c.ringOdd p && c.bankReady p && (c.port p).disc.asked && c.discoverOk p then
      let c := c.insertsAt p
      let tok := c.rd rLTOKEN p + 1
      let k := c.discoverCell p tok
      let c := (c.wr rLTOKEN p 0 tok).setPort p { c.port p with disc := { out := some (tok, 4 * c.now) } }
      c.sendCell p k.head k.words
    else c) s

/-- PORT_DISC_TIMEOUT (R320). -/
def execPortDiscTimeout (p : Fin 48) (s : State) : Host.Outcome State Fault Refusal :=
  run (fun c => if c.up (.bank (bankOf p)) && (c.port p).disc.out.isSome then
      let c := c.setPort p { c.port p with disc := {} }
      ((c.wb rLDSTAT p 0 30 true).wb rLDISC p 0 31 false).log (0x10 + p) 0xB8
    else c) s

end Sys2Proof.Machine
end

