-- ==== Sys2Proof/Machine/Refresh.lean ====
section
/-! DEFINITION. Port settings at the commit point, PULSE and DMX refreshes, RDM transactions (spec/09 R263, R264, R279..R288). -/

namespace Sys2Proof.Machine

/-! ## Settings (R263, R264, R267, R277, R283) -/

/-- PORT_CTRL written (R263, R279): a MODE that would mix the families of the bank is refused; a DPHASE of DIV or more is
an error. -/
def Chip.portCtrl (c : Chip) (p : Nat) (old : Word) : Chip :=
  let m := c.rf rPORT_CTRL p 0 1 0
  let clash := (List.range 8).any fun i =>
    let q := p / 8 * 8 + i
    let o := c.rf rPORT_CTRL q 0 1 0
    q ≠ p && ((m = 1 && o ≥ 2) || (m ≥ 2 && o = 1))
  let c := if clash then (c.wf rPORT_CTRL p 0 1 0 (fld old 1 0)).cfgErr p else c
  if c.rf rPORT_CTRL p 0 15 12 > c.rf rPORT_CTRL p 0 19 16 then c.cfgErr p else c

/-- Whether port `p`'s PULSE settings are within their limits (R283). -/
def Chip.pulseOk (c : Chip) (p : Nat) : Bool :=
  let t := c.rf rPULSE0 p 0 26 18
  let h1 := c.rf rPULSE0 p 0 17 9
  let h0 := c.rf rPULSE0 p 0 8 0
  let latch := c.rf rPULSE1 p 0 29 21
  let n := c.rf rPULSE1 p 0 12 0
  40 ≤ t && t ≤ 500 && 1 ≤ h0 && h0 < h1 && h1 + 1 ≤ t && 50 ≤ latch && latch ≤ 300 && 1 ≤ n && n ≤ 4096

/-- A PULSE setting written (R283): one outside the table is refused and the port holds its line low. -/
def Chip.pulseWrite (c : Chip) (p : Nat) : Chip :=
  if c.modeNow p = 2 && !c.pulseOk p then (c.setPort p { c.port p with refused := true }).cfgErr p else c

/-- The lands of a port in a mode (R265). -/
def landsOf : Nat → Lands
  | 1 => { txp := .laneTrue, txn := .laneComplement, rxp := .laneTrue, rxn := .laneComplement }
  | 2 => { txp := .output false, txn := .output false, rxp := .ignored, rxn := .ignored }
  | 3 => { txp := .output true, txn := .driverEnable, rxp := .receiver, rxn := .ignored }
  | _ => { txp := .highZ, txn := .highZ, rxp := .ignored, rxn := .ignored }

/-- MODE `m` takes effect on port `p`: what the port was doing in the mode it leaves ends, its receive lock with it, and
its lands change their use. A DISCOVER or an RDM transaction asked for and not ended stays so. -/
def Chip.modeChange (c : Chip) (p m : Nat) : Chip :=
  let c := (c.wf rPORT_STATUS p 0 1 0 m).rxLose p
  let c := c.setPort p { c.port p with
    urgent := [], blank := [], window := false, presentDue := false, held := m = 1, released := false, loss := false, rxGood := 0, rxBad := 0
    draining := none, filling := none, drain := false, soloWait := false, present := none }
  let c := ((c.wb rPORT_STATUS p 0 14 false).wb rPORT_STATUS p 0 11 false).wb rPORT_STATUS p 0 6 false
  ((c.wb rPORT_STATUS p 0 15 false).wb rPORT_STATUS p 0 13 (m = 1 && (c.bank (bankOf p)).wdhold)).emit (.lands p (landsOf m))

/-- MODE `m` and PSHARE `sh` take effect on port `p`, and, on a PULSE port, settings that are valid again. A change of MODE
or PSHARE resets both pools (R267). -/
def Chip.applyPort (c : Chip) (p m sh : Nat) : Chip :=
  let x := c.port p
  let was := c.modeNow p
  let c := c.setPort p { x with pshare := sh, pendApply := none }
  let c := if m ≠ was || sh ≠ x.pshare then c.poolReset p else c
  let c := if m = was then c else c.modeChange p m
  if m = 2 && !c.pulseOk p then
    if (c.port p).refused then c else (c.setPort p { c.port p with refused := true }).cfgErr p
  else c.setPort p { c.port p with refused := false }

/-- The family that modes make. -/
def familyOf (m : List Nat) : Nat := if m.any (· = 1) then 1 else if m.any (· ≥ 2) then 2 else 0

/-- The ports of bank `k`. -/
def bankPorts (k : Nat) : List Nat := (List.range 8).map (8 * k + ·)

/-- Ring pairs and the family of bank `k` after its settings took effect (R263, R264, R276, R277). -/
def Chip.applyBank (c : Chip) (k : Nat) : Chip :=
  let c := c.each [0, 1, 2, 3] fun c j =>
    let e := 8 * k + 2 * j
    let on := c.rb rBCTRL k 0 j && c.isLane e && c.isLane (e + 1)
    let c := if !on && c.rb rPORT_STATUS e 0 9 then (c.wb rPORT_STATUS e 0 9 false).portCause e 3 else c
    (c.setPort e { c.port e with ringNow := on }).setPort (e + 1) { c.port (e + 1) with ringNow := on }
  let f := familyOf ((bankPorts k).map c.modeNow)
  let b := c.bank k
  if f = b.newFamily then c
  else
    let r := fld (c.rd rSH_MODE 0 1) (2 * k + 1) (2 * k)
    (c.setBank k { b with newFamily := f, newRate := r }).bankStop k

/-- A refresh, or an RDM transaction, runs on port `p`. -/
def Chip.portBusy (c : Chip) (p : Nat) : Bool := c.rb rPORT_STATUS p 0 7 || (c.port p).rdm.running

/-- The change that waits for port `p` takes effect, if one does (R264). -/
def Chip.applyWaiting (c : Chip) (p : Nat) : Chip :=
  match (c.port p).pendApply with
  | some (m, sh) => c.applyPort p m sh
  | none => c

/-- MODE that port `p` is to have. -/
def Chip.modeNext (c : Chip) (p : Nat) : Nat :=
  match (c.port p).pendApply with
  | some (m, _) => m
  | none => c.modeNow p

/-- What waits in bank `k` takes effect on every port whose refresh or transaction has ended; where the family changes, on
no port before the last of them has ended, since the change stops the whole bank (R264). -/
def Chip.applyBankWaiting (c : Chip) (k : Nat) : Chip :=
  let f := familyOf ((bankPorts k).map c.modeNext)
  let now := familyOf ((bankPorts k).map c.modeNow)
  if f ≠ 0 && now ≠ 0 && f ≠ now && (bankPorts k).any c.portBusy then c
  else (c.each ((bankPorts k).filter fun p => !c.portBusy p) Chip.applyWaiting).applyBank k

/-- PORT_SETTINGS_APPLY (R264): the commit point for MODE, PSHARE and RING of bank `k`. -/
def execPortSettingsApply (k : Fin 6) (s : State) : Host.Outcome State Fault Refusal :=
  run (fun c => c.when (c.up (.bank k)) fun c =>
    (c.each (bankPorts k) fun c p =>
      c.setPort p { c.port p with pendApply := some (c.rf rPORT_CTRL p 0 1 0, c.rf rPORT_CTRL p 0 26 20) }).applyBankWaiting k) s

/-- Port `p`'s refresh or transaction has ended: what waited for that. -/
def Chip.applyLate (c : Chip) (p : Nat) : Chip := if (c.port p).pendApply.isSome then c.applyBankWaiting (bankOf p) else c

/-! ## Refreshes (R279..R285) -/

/-- Word `w` of port `p`'s bank `b`. -/
def Chip.bankWord (c : Chip) (p b w : Nat) : Word := c.word (0x50000000 + p * 0x8000 + b * 0x4000 + 4 * w)

/-- The element words of a PULSE refresh (R282): the low BITS bits of each. -/
def Chip.pulseWords (c : Chip) (p : Nat) (r : Record) : List Word :=
  let bits := c.rf rPULSE1 p 0 20 16 + 1
  (List.range (c.rf rPULSE1 p 0 12 0)).map fun e =>
    if r.addr ≤ e && e < r.addr + r.len then BitVec.ofNat 32 ((c.bankWord p (b2n (c.port p).drain) (e - r.addr)).toNat % 2 ^ bits) else 0

/-- Levels of a line in turn, each with its time in ns. -/
abbrev Wave := List (Bool × Nat)

/-- The time a waveform lasts, in ns. -/
def waveTime (w : Wave) : Nat := (w.map (·.2)).sum

/-- PnTXP of a PULSE refresh (R282): of each element BITS bits, most significant first, each TBIT long and high for T0H or
T1H from its start; then LATCH low. -/
def Chip.pulseWave (c : Chip) (p : Nat) (ws : List Word) : Wave :=
  let bits := c.rf rPULSE1 p 0 20 16 + 1
  let t := 10 * c.rf rPULSE0 p 0 26 18
  ws.flatMap (fun w => (List.range bits).flatMap fun i =>
    let h := 10 * if bit w (bits - 1 - i) then c.rf rPULSE0 p 0 17 9 else c.rf rPULSE0 p 0 8 0
    [(true, h), (false, t - h)]) ++ [(false, 1000 * c.rf rPULSE1 p 0 29 21)]

/-- One slot at 250 kb/s (R285): a start bit, eight bits least significant first, two stop bits. -/
def slotWave (b : Word) : Wave := (false, 4000) :: (List.range 8).map (fun i => (bit b i, 4000)) ++ [(true, 8000)]

/-- Break, mark-after-break and slots (R285, R286). -/
def Chip.dmxWave (c : Chip) (p : Nat) (ws : List Word) : Wave :=
  (false, 1000 * c.rf rPORT_DMX p 0 29 20) :: (true, 1000 * c.rf rPORT_DMX p 0 19 10) :: ws.flatMap slotWave

/-- The start code and slots of a DMX packet (R285). DESIGN CHOICE (log entry 199): an NSLOTS above 512 counts as 512. -/
def Chip.dmxWords (c : Chip) (p : Nat) (r : Record) : List Word :=
  let n := c.rf rPORT_DMX p 0 9 0
  let n := if n = 0 then 512 else min n 512
  c.rd rDMX_SC p :: (List.range n).map fun i =>
    let s := i + 1
    if r.addr ≤ s && s < r.addr + 4 * r.len then
      BitVec.ofNat 32 (fld (c.bankWord p (b2n (c.port p).drain) ((s - r.addr) / 4)) (8 * ((s - r.addr) % 4) + 7) (8 * ((s - r.addr) % 4)))
    else 0

/-- The refresh sends the draining bank, PnTXN high over a DMX packet and low over a PULSE refresh (R265, R285); a paired unit
that is not ACTIVE suppresses its output (R363). -/
def Chip.refreshSend (c : Chip) (p : Nat) (r : Record) : Chip :=
  let c := (c.wb rPORT_STATUS p 0 7 true).inc rPORT_CNT p 13
  if c.suppressed then c
  else if c.modeNow p = 2 then
    let ws := c.pulseWords p r
    let w := c.pulseWave p ws
    c.emit (.refresh p ws w [(false, waveTime w)])
  else
    let ws := c.dmxWords p r
    let w := c.dmxWave p ws
    c.emit (.refresh p ws w [(true, waveTime w), (false, 0)])

/-- The refresh start of port `p` proper (R280); in a watchdog hold the draining bank is repeated (R273). -/
def Chip.refreshGo (c : Chip) (p : Nat) : Chip :=
  let x := c.port p
  match if (c.bank (bankOf p)).wdhold then none else x.filling, x.draining with
  | some r, _ =>
    let c := c.setPort p { x with filling := none, draining := some r, drain := !x.drain }
    ((c.wb rPORT_STATUS p 0 6 false).wb rPORT_STATUS p 0 15 (!x.drain)).refreshSend p r
  | none, some r => ((c.wb rPORT_STATUS p 0 6 true).inc rPORT_CNT p 5).refreshSend p r
  | none, none => c

/-- REFRESH_START (R279): port `p`'s refresh start in a frame of its phase. DEDUCED (log entry 200): a port that waits for
the other ports of its bank to end, before a change of family, starts none. -/
def Chip.refreshStart (c : Chip) (p : Nat) : Chip :=
  let k := gridK c.time.grid (c.now - c.refreshOfs p)
  if k % (c.rf rPORT_CTRL p 0 19 16 + 1 : Nat) ≠ c.dphase p || (c.port p).refused then c
  else if (c.port p).pendApply.isSome && !c.portBusy p then c
  else if c.rb rPORT_STATUS p 0 7 then ((c.inc rPORT_CNT p 7).portCause p 6).log (0x10 + p) 0xB4
  else if (c.port p).rdm.running then
    (c.setPort p { c.port p with rdm := { (c.port p).rdm with delayed := true } }).inc rPORT_CNT p 8
  else c.refreshGo p

/-- REFRESH_START (R279). -/
def execRefreshStart (p : Fin 48) (s : State) : Host.Outcome State Fault Refusal :=
  run (fun c => c.when (c.bankReady p && c.modeNow p ≥ 2) fun c => c.refreshStart p) s

/-- REFRESH_END (R282, R285): the latch or the packet has ended. -/
def execRefreshEnd (p : Fin 48) (s : State) : Host.Outcome State Fault Refusal :=
  run (fun c => c.when (c.up (.bank (bankOf p)) && c.rb rPORT_STATUS p 0 7) fun c => (c.wb rPORT_STATUS p 0 7 false).applyLate p) s

/-! ## RDM (R286..R288) -/

/-- PORT_RDM_CTRL written: GO asks for a transaction where RDM_EN allows one; it reads 1 until DONE. -/
def Chip.rdmCtrl (c : Chip) (p : Nat) (old v : Word) : Chip :=
  if bit old 31 then c.wb rRDM_CTRL p 0 31 true
  else if bit v 31 && c.rb rPORT_CTRL p 0 2 && c.modeNow p = 3 then
    ((c.wb rRDM_CTRL p 0 31 true).wb rPORT_STATUS p 0 8 true).setPort p { c.port p with rdm := { waiting := true } }
  else c

/-- Byte `i` of the message buffer. -/
def Chip.txByte (c : Chip) (p i : Nat) : Byte := byteOf (c.rd rTXBUF p (i / 4)) (i % 4)

/-- The sum of bytes modulo 65,536. -/
def sum16 (l : List Byte) : Nat := l.foldl (fun n b => n + b.toNat) 0 % 65536

/-- RDM_START (R286, R287): the waiting transaction begins when the next refresh start is at least RSV away: break,
mark-after-break and message; PnTXN falls 2 µs after the last stop bit, and after a broadcast the line stays released for
176 µs. -/
def execRdmStart (p : Fin 48) (s : State) : Host.Outcome State Fault Refusal :=
  run (fun c =>
    let x := c.port p
    if c.bankReady p && c.modeNow p = 3 && x.rdm.waiting && !c.portBusy p && x.pendApply.isNone
        && decide (c.nextRefresh p - c.now ≥ 1000 * c.rf rRDM_TIME p 0 15 0) then
      let l := (List.range (c.rf rRDM_CTRL p 0 7 0)).map fun i => c.txByte p i
      let l := l ++ natBE 2 (sum16 l)
      let c := (c.setPort p { x with rdm := { running := true } }).inc rPORT_CNT p 11
      let w := c.dmxWave p (l.map (·.setWidth 32))
      if c.suppressed then c
      else c.emit (.rdm p l w ((true, waveTime w + 2000) :: if c.rb rRDM_CTRL p 0 29 then [(false, 176000)] else [(false, 0)]))
    else c) s

/-- The checksum of a response is good: of a discovery response, the 12 encoded UID bytes against the 4 after them; of any
other, all bytes against the last two (ANSI E1.20). -/
def rdmGood (disc : Bool) (l : List Byte) : Bool :=
  if disc then
    let b := (l.dropWhile (· = 0xFE)).drop 1
    let e := fun i => (b.getD i 0).toNat
    let pair := fun i => Nat.land (e i) (e (i + 1))
    b.length ≥ 16 && sum16 (b.take 12) = pair 12 * 256 + pair 14
  else l.length > 2 && sum16 (l.take (l.length - 2)) = beNat (l.drop (l.length - 2))

/-- What reception takes of a response (R286): a break opens it, or in discovery a first byte. -/
def rdmHeard (noresp disc : Bool) (r : RdmReply) : RdmReply := if !noresp && (r.brk || disc) then r else { bytes := [] }

/-- RESULT of a transaction (R288). -/
def rdmResult (noresp disc : Bool) (r : RdmReply) : Nat :=
  if noresp then 5 else if r.bytes.isEmpty && !r.framing then 1 else if r.framing then 3 else if r.bytes.length > 257 then 4
  else if rdmGood disc r.bytes then 0 else 2

/-- RDM_DONE (R288): the transaction of port `p` ends with what was received. DEDUCED (log entry 198): it stands for the
moment at which the line is free again, so a refresh that waited follows it at once (R287). -/
def Chip.rdmDone (c : Chip) (p : Nat) (r : RdmReply) : Chip :=
  let x := c.port p
  let no := c.rb rRDM_CTRL p 0 29
  let r := rdmHeard no (c.rb rRDM_CTRL p 0 30) r
  let res := rdmResult no (c.rb rRDM_CTRL p 0 30) r
  let l := r.bytes.take 257
  let c := c.each (List.range (min 64 ((l.length + 3) / 4))) fun c w => c.wr rRXBUF p w (leWordAt (l.take 256) (4 * w))
  let c := if l.length = 257 then c.wr rRX256 p 0 ((l.getD 256 0).setWidth 32) else c
  let c := c.wr rRDM_STS p 0 (BitVec.ofNat 32 (2 ^ 31 + res * 2 ^ 28 + l.length))
  let c := ((c.wb rRDM_CTRL p 0 31 false).wb rPORT_STATUS p 0 8 false).portCause p 5
  let c := if 1 ≤ res && res ≤ 4 then c.inc rPORT_CNT p 12 else c
  let c := c.setPort p { c.port p with rdm := {} }
  let c := if x.rdm.delayed then c.refreshGo p else c
  c.applyLate p

/-- RDM_DONE (R288). -/
def execRdmDone (p : Fin 48) (r : RdmReply) (s : State) : Host.Outcome State Fault Refusal :=
  run (fun c => c.when (c.up (.bank (bankOf p)) && (c.port p).rdm.running) fun c => c.rdmDone p r) s

end Sys2Proof.Machine
end

