-- ==== Sys2Proof/Machine/Commit.lean ====
section
/-! DEFINITION. The commit point beyond the raster engine, and PRESENT (spec/10 R317, R327; spec/12 R388, R389). -/

namespace Sys2Proof.Machine

/-- What is due of a planned swap at P(k) of the frame in progress (R389): refused where no SWAP_ACK came before P(k − 1),
due at P(k). -/
def Chip.swapExecute (c : Chip) : Chip :=
  match c.cdr.swap with
  | none => c
  | some x =>
    let k := BitVec.ofNat 32 c.ras.k
    if !x.incoming && !x.agreed && k + 1 = x.k then c.swapRefuse
    else if (k - x.k).toInt ≥ 0 && x.agreed then c.setCdr { c.cdr with swap := some { x with due := true } }
    else c

/-- The ports that transmit in the active unit, as a mask: those that the run maps and modes, the same on both units (R359), make
transmit, whatever this unit's own ports meet (R388). -/
def Chip.sendMask (c : Chip) : BitVec 48 :=
  (List.range 48).foldl (fun (m : BitVec 48) p => if c.isLane p && c.fed p && !c.ringOdd p then m ||| (1#48 <<< p) else m) 0

/-- The ports whose credit count came wrong: both pools reset, logged under the bank's queue ID (R469). -/
def Chip.creditReset (c : Chip) : Chip :=
  c.each ((List.range 48).filter fun p => (c.port p).crdBad) fun c p =>
    let c := c.poolReset p
    ((c.setPort p { c.port p with crdBad := false }).inc rQUE_XRESETS 0 0).log 0x0F 0x38 (lostDetail (0x48 + bankOf p) 0)

/-- P(k): what the raster engine does, the signatures kept for the lockstep check, and the planned swap (R192, R388, R389). -/
def Chip.commitPoint (c : Chip) : Chip :=
  let m := c.sendMask
  let live := c.up .pix && c.rb rRAS_CTRL 0 0 0 && c.ras.hold.isNone && c.ras.inFrame
  let k := BitVec.ofNat 32 c.ras.k
  let c := c.creditReset.rasCommitPoint
  if live then (if c.pairState = 0 then c else (c.keepSigs k m)).swapExecute else c.swapLate

/-- The PRESENT cell of port `p` launched now (R312, R327); a paired port may be one end of a paired ring, whose T0B its PORT_LT0B
holds (R360). -/
def Chip.presentCell (c : Chip) (p : Nat) : OwnCell :=
  let k := BitVec.ofNat 8 c.ras.k
  { head := cellHead 5 0 4 0
    words := [c.epochWord p k, BitVec.ofNat 32 (c.showTime - c.now), c.rd rLT0A p, if (c.port p).ringNow || c.paired p then c.rd rLT0B p else 0] }

/-- PRESENT sent on port `p`; its STATUS and drive blanking cells are to follow, none while the port holds (R317, R337),
which carries this PRESENT's FTAG (R311). -/
def Chip.presentSend (c : Chip) (p : Nat) : Chip :=
  let k := c.presentCell p
  let w := c.witness p
  let c := c.sendCell p k.head k.words
  let bl := if c.ras.hold.isSome || (c.port p).held then [] else c.blankCells p
  let c := c.setPort p { c.port p with
    ftag := BitVec.ofNat 8 c.ras.k, presentDue := false, present := if w then none else some c.ras.k
    blank := bl, blankEnd := c.showTime }
  c.setPort p { c.port p with urgent := (c.port p).urgent.map fun u => if fld u.head 31 28 = 6 then c.holdCell p else u }

/-- PRESENT_SEND (R327); an insert that waits goes before its START (R299). -/
def execPresentSend (p : Fin 48) (s : State) : Host.Outcome State Fault Refusal :=
  run (fun c => c.when (c.up (.bank (bankOf p)) && c.isLane p && !c.ringOdd p && (c.port p).presentDue && (c.bank (bankOf p)).step = 0)
    fun c => (c.insertsAt p).presentSend p) s

end Sys2Proof.Machine
end

