-- ==== Sys2Proof/Machine/Corridor.lean ====
section
/-! DEFINITION. The Corridor's link and its messages, bulk transfers, planned swaps and releases (spec/12 R364, R365, R377,
R387..R391). -/

namespace Sys2Proof.Machine

/-- A message is taken: the link's domain runs, its lanes hold lock, its CRC is right; a wrong CRC is counted, and spoils the
region being received (R365). -/
def Chip.cdrTake (c : Chip) (crcOk : Bool) (f : Chip → Chip) : Chip :=
  if !(c.up .cdr && c.cdr.lock) then c else if !crcOk then (c.cdrCnt 7).bulkSpoil else f c

/-! ## Link (R364) -/

/-- The body of HELLO (R365): vintage, cask versions, device number, side, state, epoch. -/
def Chip.helloBody (c : Chip) : List Word :=
  [c.rd rVINTAGE, BitVec.ofNat 32 (c.rf rCDR_VER 0 0 15 0), BitVec.ofNat 32 (c.objNat 0x1010 0 16383 % 16384), BitVec.ofNat 32 (b2n c.sideB),
   BitVec.ofNat 32 c.pairState, BitVec.ofNat 32 c.ownEpoch]

/-- The link goes down: HELLO is wanted again, a swap under way is refused (R364, R389). -/
def Chip.linkDown (c : Chip) : Chip :=
  let c := c.caskDrop.bulkStop
  let c := c.setCdr { c.cdr with lock := false, hello := false, bulkSent := false, imageSent := false, bulkIn := none }
  if !c.corridorUp then c.pairCheck
  else
    let c := c.wb rCDR_STATUS 0 0 9 false
    let c := match c.cdr.swap with
      | some x => if !x.agreed then c.swapRefuse else c
      | none => c
    c.pairCheck

/-- The link comes up once all four lanes hold lock and HELLO has come each way (R364). -/
def Chip.linkCheck (c : Chip) : Chip :=
  if c.cdr.lock && c.cdr.hello && !c.corridorUp then (c.wb rCDR_STATUS 0 0 9 true).pairCheck else c

/-- CORRIDOR_LINK_UP (R364): the lanes gain block lock; the unit sends HELLO. -/
def execCorridorLinkUp (s : State) : Host.Outcome State Fault Refusal :=
  run (fun c => c.when (c.up .cdr && !c.cdr.lock) fun c =>
    ((c.setCdr { c.cdr with lock := true }).cdrMsg 1 c.helloBody).linkCheck) s

/-- CORRIDOR_LINK_DOWN (R364). -/
def execCorridorLinkDown (s : State) : Host.Outcome State Fault Refusal := run (fun c => c.when (c.alive .cdr) fun c => c.linkDown) s

/-- CORRIDOR_STATE_TIMEOUT (R364): the link is down until HELLO comes again; the lanes still hold lock, and the unit sends its
own (DESIGN CHOICE, log entry 201). -/
def execCorridorStateTimeout (s : State) : Host.Outcome State Fault Refusal :=
  run (fun c => c.when (c.up .cdr && c.corridorUp) fun c =>
    let l := c.cdr.lock
    let c := c.linkDown
    (c.setCdr { c.cdr with lock := l }).cdrMsg 1 c.helloBody) s

/-- The peer's state (CDR_STATUS.PEER_STATE, PEER_ACTIVE). -/
def Chip.peerIs (c : Chip) (st : Nat) : Chip := (c.wf rCDR_STATUS 0 0 5 3 st).wb rCDR_STATUS 0 0 6 (st = 4)

/-- The regions sent to a peer in SYNCING, once each time it comes to be so (R387). -/
def Chip.bulkCheck (c : Chip) (was : Nat) : Chip :=
  let st := c.rf rCDR_STATUS 0 0 5 3
  if st ≠ 2 then (if was = 2 then c.bulkStop.setCdr { c.bulkStop.cdr with bulkSent := false, imageSent := false } else c)
  else if c.pairState = 4 && c.corridorUp && !c.cdr.bulkSent && !c.noVersion then (c.setCdr { c.cdr with bulkSent := true }).bulkAsk 0b11110 else c

/-- A HELLO (R365, R391): the cask version is the highest both ranges hold. Its epoch counts before the link comes up (R379).
A HELLO on a link that is up is answered with one: the peer has lost the link (DESIGN CHOICE, log entry 201). -/
def Chip.hello (c : Chip) (m : CdrHello) : Chip :=
  let lo := max (c.rf rCDR_VER 0 0 7 0) m.verMin
  let hi := min (c.rf rCDR_VER 0 0 15 8) m.verMax
  let was := c.rf rCDR_STATUS 0 0 5 3
  let c := if c.corridorUp then c.cdrMsg 1 c.helloBody else c
  let c := c.setCdr { c.cdr with hello := true, peerVer := some (m.verMin, m.verMax), peerDev := m.dev }
  let c := (c.wf rCDR_VER 0 0 23 16 (if lo ≤ hi then hi else 0)).versionCheck
  ((((c.seeEpoch m.epoch.toNat).peerIs m.state).linkCheck.epochSeen m.epoch.toNat).pairCheck).bulkCheck was

/-- HELLO (R391). -/
def execCorridorHello (m : CdrHello) (crcOk : Bool) (s : State) : Host.Outcome State Fault Refusal :=
  run (fun c => c.cdrTake crcOk fun c => c.hello m) s

/-! ## Planned swaps and releases (R377, R389, R390) -/

/-- The first frame whose P(k) is at least four periods away. -/
def Chip.swapFrame (c : Chip) : Int :=
  let (n, d) := c.period
  let at_ := c.now + (4 * n * nsPerSec + d - 1) / d
  let k := gridK c.time.grid (at_ - c.tw)
  if gridF c.time.grid k + c.tw ≥ at_ then k else k + 1

/-- RAS_SH_LEAD leaves room for ASSUME on every paired port (R389). -/
def Chip.swapLead (c : Chip) : Bool := c.pairedPorts.all fun p => (c.rd rSH_LEAD 0 1).toNat ≥ c.cellTime p + 1000

/-- A swap asked for on the active unit (R389). -/
def Chip.swapGo (c : Chip) : Chip :=
  if c.pairState ≠ 4 || c.cdr.swap.isSome then c else
  let c := c.wb rCDR_SWAP 0 0 31 true
  if !c.corridorUp || c.rf rCDR_STATUS 0 0 5 3 ≠ 3 || !c.swapLead then c.swapRefuse
  else
    let k := wordOf c.swapFrame
    let e := BitVec.ofNat 16 (newEpoch c.ownEpoch c.peerEpoch (!c.sideB))
    (c.setCdr { c.cdr with swap := some { k := k, epoch := e, incoming := false } }).cdrSend 6 [k, BitVec.ofNat 32 e.toNat]

/-- A RELEASE sent (R377). -/
def Chip.releaseGo (c : Chip) : Chip :=
  if c.pairState = 4 && c.corridorUp then
    c.cdrSend 0xA [c.rd rCDR_RELMASK 0, BitVec.ofNat 32 (c.rf rCDR_RELMASK 1 0 15 0), wordOf c.swapFrame]
  else c

/-- CDR_SWAP written. -/
def Chip.cdrSwap (c : Chip) (v : Word) : Chip :=
  let c := if bit v 31 then c.swapGo else c
  if bit v 30 then c.releaseGo else c

/-- SWAP (R389): the standby accepts where it is in STANDBY and in lockstep, and answers. -/
def Chip.swapTake (c : Chip) (k : Word) (e : BitVec 16) : Chip :=
  let ok := c.pairState = 3 && c.rb rCDR_STATUS 0 0 13 && c.corridorUp && c.swapLead
  let c := if ok then
      ((c.setCdr { c.cdr with swap := some { k := k, epoch := e, incoming := true, agreed := true } }).wb rCDR_STATUS 0 0 15 true).log 0x0D 0xDC
    else c
  c.cdrSend 7 [k, BitVec.ofNat 32 (b2n ok)]

/-- SWAP (R389). -/
def execSwapMsg (k : Word) (e : BitVec 16) (crcOk : Bool) (s : State) : Host.Outcome State Fault Refusal :=
  run (fun c => c.cdrTake crcOk fun c => c.swapTake k e) s

/-- SWAP_ACK (R389): the swap of frame `k` is accepted or refused. -/
def Chip.swapAck (c : Chip) (k : Word) (ok : Bool) : Chip :=
  let c := c.swapLate
  match c.cdr.swap with
  | none => c
  | some x =>
    if x.incoming || x.k ≠ k || x.agreed then c
    else if !ok then c.swapRefuse
    else ((c.setCdr { c.cdr with swap := some { x with agreed := true } }).wb rCDR_STATUS 0 0 15 true).log 0x0D 0xDC

/-- SWAP_ACK (R389). -/
def execSwapAck (k : Word) (ok crcOk : Bool) (s : State) : Host.Outcome State Fault Refusal :=
  run (fun c => c.cdrTake crcOk fun c => c.swapAck k ok) s

/-- RELEASE_MSG (R377): the ports return to witness mode at the window of frame k + 1. -/
def execReleaseMsg (ports : BitVec 48) (k : Word) (crcOk : Bool) (s : State) : Host.Outcome State Fault Refusal :=
  run (fun c => c.cdrTake crcOk fun c =>
    if c.pairState ≠ 4 then c.setCdr { c.cdr with releases := c.cdr.releases ++ [(ports, k)] } else c) s

/-! ## STATE (R365, R387, R390) -/

/-- A 48-bit mask's two words. -/
def maskWords (m : BitVec 48) : List Word := [BitVec.ofNat 32 m.toNat, BitVec.ofNat 32 (m.toNat / 2 ^ 32)]

/-- STATE_SEND (R365). -/
def Chip.stateSend (c : Chip) : Chip :=
  let c := c.swapLate
  c.cdrSend 2 ([BitVec.ofNat 32 (b2n c.cdr.askRevert * 2 ^ 31 + c.pairState), BitVec.ofNat 32 c.ownEpoch, BitVec.ofNat 32 c.peerEpoch,
    c.rd rCDR_ADOPT 0, c.rd rCDR_ADOPT 1, c.cdr.applied])

/-- STATE_SEND (R365). -/
def execStateSend (s : State) : Host.Outcome State Fault Refusal := run (fun c => c.when (c.up .cdr) fun c => c.stateSend) s

/-- A STATE message (R365): the peer's state, epochs and adoptions; a peer that has come to SYNCING gets the regions; a revert
asked for is done as if GO had been written (R390). -/
def Chip.stateTake (c : Chip) (m : CdrState) : Chip :=
  let was := c.rf rCDR_STATUS 0 0 5 3
  let c := (c.setCdr { c.cdr with peerAdopt := m.adopted, peerAcked := m.lastCask }).peerIs m.state
  let c := (c.epochSeen m.epoch.toNat).adoptCheck.pairCheck
  let c := c.bulkCheck was
  if m.revert && c.pairState = 4 then c.swapGo else c

/-- STATE (R365). -/
def execCorridorState (m : CdrState) (crcOk : Bool) (s : State) : Host.Outcome State Fault Refusal :=
  run (fun c => c.cdrTake crcOk fun c => if c.corridorUp then c.stateTake m else c) s

/-! ## Casks (R382) -/

/-- CASK (R382). -/
def execCaskMsg (q : Word) (off : Nat) (ws : List Word) (crcOk : Bool) (s : State) : Host.Outcome State Fault Refusal :=
  run (fun c => c.cdrTake crcOk fun c => c.caskTake q off (ws.take 1024)) s

/-- SEAL (R382). -/
def execSealMsg (q : Word) (n : Nat) (crc sl : Word) (crcOk : Bool) (s : State) : Host.Outcome State Fault Refusal :=
  run (fun c => c.cdrTake crcOk fun c => c.sealTake q n crc sl) s

/-- ACK (R382). -/
def execAckMsg (q : Word) (crcOk : Bool) (s : State) : Host.Outcome State Fault Refusal :=
  run (fun c => c.cdrTake crcOk fun c => if c.pairState = 4 then c.ackTake q else c) s

/-! ## Bulk transfers (R387) -/

/-- The base address and bytes of Cellar regions 1..4. -/
def bulkBase : Nat → Nat
  | 1 => 0x8C000000 | 2 => 0x92000000 | 3 => 0x93000000 | _ => 0x94000000
def bulkSize (r : Nat) : Nat := if r = 1 then 0x06000000 else 0x01000000

/-- A region sent again to a unit in STANDBY takes it back to SYNCING until the transfer ends (R384); what it has of the other
regions, and LOCKSTEP, stay. -/
def Chip.resync (c : Chip) : Chip :=
  let g := c.cdr.regions
  let n := c.cdr.lockRun
  let l := c.rb rCDR_STATUS 0 0 13
  let c := (c.setPair 2).wb rCDR_STATUS 0 0 13 l
  c.setCdr { c.cdr with regions := g, lockRun := n }

/-- A BULK segment: written where it continues the region; a gap spoils the region, which is to be sent again whole, as is one whose
end has not come when the next begins (R365). -/
def Chip.bulkTake (c : Chip) (r off : Nat) (ws : List Word) : Chip :=
  if !(c.pairState = 2 || c.pairState = 3) || r < 1 || r > 4 || off + 4 * ws.length > bulkSize r then c else
  let c := if c.pairState = 3 then c.resync else c
  let at_ := match c.cdr.bulkIn with
    | some b => if b.region = r then b.off else 0
    | none => 0
  let c := if c.cdr.bulkIn.any fun b => b.region ≠ r then c.bulkSpoil else c
  if off ≠ 0 && off ≠ at_ then c.setCdr { c.cdr with bulkIn := none, bulkLost := c.cdr.bulkLost ||| (1#5 <<< r) } else
  let c := if off = 0 then c.setCdr { c.cdr with bulkLost := c.cdr.bulkLost &&& ~~~(1#5 <<< r) } else c
  let c := c.celPut .corridor (bulkBase r + off) (ws.flatMap wordBytes)
  (c.setCdr { c.cdr with bulkIn := some { region := r, off := off + 4 * ws.length }, regions := c.cdr.regions &&& ~~~(1#5 <<< r) }).pairCheck

/-- BULK (R387). -/
def execBulkMsg (r off : Nat) (ws : List Word) (crcOk : Bool) (s : State) : Host.Outcome State Fault Refusal :=
  run (fun c => c.cdrTake crcOk fun c => c.bulkTake r off (ws.take 1024)) s

/-- The CRC-32C of `n` words of a region, carried on as master 7 reads them. DESIGN CHOICE (log entry 187): a poisoned word
counts as the 0 a BULK message carries in its place. -/
def Chip.regionCrc (c : Chip) (a : Nat) : Nat → BitVec 32 → Chip × BitVec 32
  | 0, r => (c, ~~~r)
  | n + 1, r =>
    let (c, w) := c.celGet .corridor a
    c.regionCrc (a + 4) n ((wordBytes (w.getD 0)).foldl (crcByte 0x82F63B78) r)

/-- A BULK_END (R387): the region is complete where its CRC matches; else something of it was lost. -/
def Chip.bulkEnd (c : Chip) (r : Nat) (crc : Word) : Chip :=
  if c.pairState ≠ 2 || r < 1 || r > 4 then c else
  let (c, own) := (c.setCdr { c.cdr with bulkIn := none }).regionCrc (bulkBase r) (bulkSize r / 4) 0xFFFFFFFF
  if own = crc then
    (c.setCdr { c.cdr with regions := c.cdr.regions ||| (1#5 <<< r), bulkLost := c.cdr.bulkLost &&& ~~~(1#5 <<< r) }).pairCheck
  else c.setCdr { c.cdr with bulkLost := c.cdr.bulkLost ||| (1#5 <<< r) }

/-- BULK_END (R387). -/
def execBulkEnd (r : Nat) (crc : Word) (crcOk : Bool) (s : State) : Host.Outcome State Fault Refusal :=
  run (fun c => c.cdrTake crcOk fun c => c.bulkEnd r crc) s

/-- BULK_TRANSFER (R387): the next 1,024 words of the region, or its BULK_END; then the next region, to the fourth. -/
def Chip.bulkNext (c : Chip) : Chip :=
  match if c.corridorUp then c.cdr.bulkOut else none with
  | none => c
  | some b =>
    if b.off < bulkSize b.region then
      let (c, l) := c.celWords .corridor (bulkBase b.region + b.off) 1024
      let c := c.cdrSend 8 (BitVec.ofNat 32 b.region :: BitVec.ofNat 32 b.off :: l.map (·.1))
      c.setCdr { c.cdr with bulkOut := some { b with off := b.off + 4096 } }
    else
      let (c, crc) := c.regionCrc (bulkBase b.region) (bulkSize b.region / 4) 0xFFFFFFFF
      let c := c.cdrSend 9 [BitVec.ofNat 32 b.region, crc]
      c.bulkGo

/-- BULK_TRANSFER (R387). -/
def execBulkTransfer (s : State) : Host.Outcome State Fault Refusal := run (fun c => c.when (c.up .cdr) fun c => c.bulkNext) s

/-- FWMSG (R365): firmware takes the message's words (DESIGN CHOICE, log entry 205). -/
def execFwmsg (ws : List Word) (crcOk : Bool) (s : State) : Host.Outcome State Fault Refusal :=
  run (fun c => c.cdrTake crcOk fun c => c.setCdr { c.cdr with fwmsg := c.cdr.fwmsg ++ [ws.take 4095] }) s

end Sys2Proof.Machine
end

