-- ==== Sys2Proof/Machine/Trellis.lean ====
section
/-! DEFINITION. The Trellis and the stack bus (spec/13): links, time, slices received, STK_SYNC and STK_ACK. -/

namespace Sys2Proof.Machine

/-- The Trellis's part of the state set. -/
def Chip.setTrl (c : Chip) (x : TrlSt) : Chip := { c with trl := x }

/-- A side, and it set: upstream or downstream. -/
def Chip.trlSide (c : Chip) (up : Bool) : TrlSide := if up then c.trl.up else c.trl.down
def Chip.setSide (c : Chip) (up : Bool) (x : TrlSide) : Chip :=
  if up then c.setTrl { c.trl with up := x } else c.setTrl { c.trl with down := x }

/-- The bit of TRL_STATUS of a side: ULINK, DLINK. -/
def linkBit (up : Bool) : Nat := if up then 1 else 2

/-! ## The servo's state and the master (R401, R409) -/

/-- NC writes TIME_SERVO.STATE (R401, R67). -/
def Chip.stackServo (c : Chip) (st : Nat) : Chip :=
  let old := c.rf rTIME_SERVO 0 0 2 0
  if old = st then c else (c.wf rTIME_SERVO 0 0 2 0 st).servoState old st

/-- LOCKED while aligned, ACQUIRING while not with the master present (R401); HOLDOVER stays while the master is lost (R409). -/
def Chip.alignedServo (c : Chip) : Chip :=
  if c.rb rTRL_STATUS 0 0 3 then c else c.stackServo (if c.rb rTRL_STATUS 0 0 4 then 2 else 1)

/-- ALIGNED changed (R401). -/
def Chip.setAligned (c : Chip) (a : Bool) : Chip :=
  if c.rb rTRL_STATUS 0 0 4 = a then c
  else ((((c.wb rTRL_STATUS 0 0 4 a).irq 189).log 0x0E 0xE8)).alignedServo

/-- The follower has lost its master (R409). -/
def Chip.masterLost (c : Chip) : Chip :=
  if c.pos = 0 || c.rb rTRL_STATUS 0 0 3 then c
  else (((c.wb rTRL_STATUS 0 0 3 true).irq 185).log 0x0E 0xE2).stackServo 3

/-- The master is present: edges arrive and the link is up. MASTER_LOST clears (R409), and NC's servo is the stack servo
while the phase loop runs (R401). -/
def Chip.masterBack (c : Chip) : Chip :=
  if c.pos = 0 || !c.trl.edges || !c.rb rTRL_STATUS 0 0 1 then c else
  let c := if c.rb rTRL_STATUS 0 0 3 then (c.wb rTRL_STATUS 0 0 3 false).irq 185 else c
  if c.rb rTRL_CTRL 0 0 2 then c.alignedServo else c

/-- TRL_MASTER_LOST (R409): no STK_SYNC edge for SYNC_MISS microseconds. -/
def execTrlMasterLost (s : State) : Host.Outcome State Fault Refusal :=
  run (fun c => c.when (c.up .trl && c.pos ≠ 0) fun c =>
    ((c.setTrl { c.trl with edges := false }).inc rTRL_CNT 5 0).masterLost) s

/-! ## Links and HELLO (R397) -/

/-- A side's up bit follows its lock and HELLO. -/
def Chip.sideCheck (c : Chip) (up : Bool) : Chip :=
  let x := c.trlSide up
  let now := x.lock && x.hello && c.rb rTRL_CTRL 0 0 0
  if c.rb rTRL_STATUS 0 0 (linkBit up) = now then c else
  let c := ((c.wb rTRL_STATUS 0 0 (linkBit up) now).irq 186).log 0x0E 0xE3
  if !up then c else if now then c.masterBack else c.masterLost

/-- The bodies of the HELLOs heard downstream, one of each position; NPOS of the master counts them (R397). -/
def Chip.setHellos (c : Chip) (l : List (List Word)) : Chip :=
  (c.setTrl { c.trl with hellos := l }).wf rTRL_STATUS 0 0 20 18 (if c.pos = 0 then l.length else 0)

/-- The running vintage, as HELLO carries it. -/
def Chip.runVintage (c : Chip) : Word := c.rd rVINTAGE

/-- The module's own HELLO on a side: position, lane protocol version, running vintage. -/
def Chip.trlHello (c : Chip) (up : Bool) : Chip :=
  let dest := if up then (c.pos + 7) % 8 else (c.pos + 1) % 8
  let m := c.trl.mseq
  (c.setTrl { c.trl with mseq := m + 1 }).trlPass (!up) (trlHead 1 dest false 3 m :: [BitVec.ofNat 32 c.pos, 2, c.runVintage])

/-- The HELLO of a follower further down passed on towards the master, which counts the modules that answer. DESIGN CHOICE (log
entry 232): a HELLO goes each hop, and no rule says how one from beyond position 1 reaches the master. -/
def Chip.helloUp (c : Chip) (b : List Word) : Chip :=
  if c.pos = 0 || !c.trl.up.lock then c else
  let m := c.trl.mseq
  (c.setTrl { c.trl with mseq := m + 1 }).trlPass false (trlHead 1 ((c.pos + 7) % 8) false b.length m :: b)

/-- TRELLIS_LINK_UP (R397): a side gains block lock on all lanes. -/
def execTrellisLinkUp (up : Bool) (s : State) : Host.Outcome State Fault Refusal :=
  run (fun c => c.when (c.up .trl && c.rb rTRL_CTRL 0 0 0 && !(c.trlSide up).lock) fun c =>
    let c := (c.setSide up { c.trlSide up with lock := true }).trlHello up
    (if up then c.each c.trl.hellos Chip.helloUp else c).sideCheck up) s

/-- A side without lock. -/
def Chip.sideDown (c : Chip) (up : Bool) : Chip :=
  let c := (c.setSide up {}).sideCheck up
  if up then c else c.setHellos []

/-- TRELLIS_LINK_DOWN (R397). -/
def execTrellisLinkDown (up : Bool) (s : State) : Host.Outcome State Fault Refusal := run (fun c => c.when (c.alive .trl) fun c => c.sideDown up) s

/-- TRL_CTRL written: EN 0 takes both sides down. -/
def Chip.trlCtrl (c : Chip) : Chip := if c.rb rTRL_CTRL 0 0 0 then c else (c.sideDown true).sideDown false

/-- A message on a side (R398): a wrong CRC is counted; one for another position goes on towards DEST, a broadcast on to the
other side; one for this position, and a broadcast, is taken. On a side that is not up only HELLO counts; it
goes one hop and is taken whatever its DEST (R397). -/
def Chip.trlTake (c : Chip) (type : Nat) (m : TrlMsg) (f : Chip → Chip) : Chip :=
  if !(c.up .trl && (c.trlSide m.fromUp).lock && c.rb rTRL_CTRL 0 0 0) then c
  else if !m.crcOk then c.inc rTRL_CNT 3 0
  else if type ≠ 1 && !c.rb rTRL_STATUS 0 0 (linkBit m.fromUp) then c
  else if type = 1 then f c
  else
    let mine := m.dest.val = c.pos
    let on := if m.bcast then m.fromUp else decide (c.pos < m.dest.val)
    let c := if !mine || m.bcast then c.trlRaw on type m.dest m.bcast m.mseq m.body else c
    if mine || m.bcast then f c else c

/-- A HELLO taken (R397). -/
def Chip.trlHelloTake (c : Chip) (fromUp : Bool) (b : List Word) : Chip :=
  let at_ := fun (b : List Word) => (b.getD 0 0).toNat % 8
  let pos := at_ b
  if !fromUp then
    let c := c.setSide false { c.trlSide false with hello := true }
    ((c.setHellos (c.trl.hellos.filter (fun x => at_ x ≠ pos) ++ [b])).helloUp b).sideCheck false
  else if pos + 1 = c.pos then (c.setSide true { c.trlSide true with hello := true }).sideCheck true
  else ((((c.wb rTRL_STATUS 0 0 8 true).log 0x0E 0xE4).irq 186).setSide true { c.trlSide true with hello := false }).sideCheck true

/-- TRELLIS_HELLO (R397): a HELLO goes one hop. -/
def execTrellisHello (m : TrlMsg) (s : State) : Host.Outcome State Fault Refusal :=
  run (fun c => c.trlTake 1 m fun c => c.trlHelloTake m.fromUp m.body) s

/-! ## Time (R399..R401) -/

/-- The SYNC edge a TIME message names: the first multiple of 1,000 ns at least 10 µs away. -/
def syncEdge (now : Nat) : Nat := (now + 10000 + 999) / 1000 * 1000

/-- What the local clock holds at the tick that reaches `t`: ns and fraction, at the present ADDEND (R36). -/
def Chip.clockAt (c : Chip) (t : Nat) : Nat × Word :=
  let v : Int := (c.now : Int) * 2 ^ 32 + c.time.frac.toNat
  let step : Int := 2 * 2 ^ 32 + sgn (c.rd rTIME_ADDEND)
  let w := v + ceilDiv ((t : Int) * 2 ^ 32 - v) step * step
  ((w / 2 ^ 32).toNat % clockMod, BitVec.ofInt 32 w)

/-- TRELLIS_TIME_SEND (R400). -/
def execTrellisTimeSend (s : State) : Host.Outcome State Fault Refusal :=
  run (fun c => c.when (c.up .trl && c.pos = 0 && c.rb rTRL_CTRL 0 0 0) fun c =>
    let (t, f) := c.clockAt (syncEdge c.now)
    c.trlSend true 2 7 true [tsWord t 0, tsWord t 1, tsWord t 2, f, c.rd rTIME_ADDEND]) s

/-- A TIME message taken by a follower: NC copies TIME_ADDEND (R399), which it holds while the master is lost (R409). -/
def Chip.timeTake (c : Chip) (b : List Word) : Chip :=
  if c.pos = 0 then c else
  let w := fun i => b.getD i (0 : Word)
  let c := if c.rb rTRL_STATUS 0 0 3 then c else c.wr rTIME_ADDEND 0 0 (w 4)
  c.setTrl { c.trl with timeMsg := some (tsOf (w 0) (w 1) (w 2), w 3) }

/-- TIME (R399). -/
def execTrellisTime (m : TrlMsg) (s : State) : Host.Outcome State Fault Refusal := run (fun c => c.trlTake 2 m fun c => c.timeTake m.body) s

/-- One phase error entered, in eighths of a ns: every 64 edges TRL_PHERR, one phase step, and ALIGNED follow (R401). -/
def Chip.phaseErr (c : Chip) (e : Int) : Chip :=
  let sum := c.trl.phSum + e
  let n := c.trl.phN + 1
  if n < 64 then c.setTrl { c.trl with phSum := sum, phN := n } else
  let avg := sum / 64
  let c := c.setTrl { c.trl with phSum := 0, phN := 0, phase := c.trl.phase + (if avg > 0 then -1 else if avg < 0 then 1 else 0) }
  let c := c.wr rTRL_PHERR 0 0 (BitVec.ofNat 32 ((avg % 65536).toNat))
  if avg.natAbs ≤ 8 then c.setAligned true
  else if avg.natAbs > 16 then c.setAligned false else c

/-- The whole nanoseconds of a TIME edge compared, which came `off` eighths of a ns after the own tick, less the board delay (R400):
more than 2 ns apart, TIME_ERR (R411), and NC steps the clock. -/
def Chip.timeEdge (c : Chip) (off : Int) : Chip :=
  match c.trl.timeMsg with
  | none => c
  | some (t, _) =>
    let c := c.setTrl { c.trl with timeMsg := none }
    let d : Int := (t : Int) - (8 * (c.now : Int) + off - c.rf rTRL_STKDLY 0 0 11 0) / 8
    if d.natAbs ≤ 2 then c else
    let c := (((c.wb rTRL_STATUS 0 0 7 true).irq 189).log 0x0E 0xE8).setAligned false
    c.stepBy d

/-- The follower is ready (R404). -/
def Chip.stkReady (c : Chip) : Bool :=
  c.rb rTRL_STATUS 0 0 4 && c.rb rRAS_STATUS 0 0 0 && (c.rd rTRL_FAULTMASK &&& BitVec.ofNat 32 (c.irqs.toNat % 2 ^ 16)) = 0

/-- STK_SYNC_EDGE (R400, R401, R404): a follower's edge, `off` eighths of a ns after its own tick; `timed` marks the edge of
the newest TIME message. A PLL that has lost the master keeps its phase (R409). In its own slot a ready follower pulls STK_ACK
low. -/
def Chip.syncEdgeAt (c : Chip) (off : Int) (timed : Bool) : Chip :=
  let c := (c.setTrl { c.trl with edges := true }).masterBack
  let c := if timed then c.timeEdge off else c
  let c := if c.rb rTRL_CTRL 0 0 2 && !c.rb rTRL_STATUS 0 0 3 then c.phaseErr (off - c.rf rTRL_STKDLY 0 0 11 0) else c
  if c.rb rTRL_CTRL 0 0 1 && (c.now + 500) / 1000 % 8 = c.pos && c.stkReady then c.emit .stkAck else c

/-- STK_SYNC_EDGE (R400). -/
def execStkSyncEdge (off : Int) (timed : Bool) (s : State) : Host.Outcome State Fault Refusal :=
  run (fun c => c.when (c.up .trl && c.alive .ts && c.pos ≠ 0) fun c => c.syncEdgeAt off timed) s

/-! ## The stack bus at the master (R405) -/

/-- The report of follower `q`. -/
def Chip.ackOf (c : Chip) (q : Nat) (low : Bool) : Chip :=
  let here := c.rb rTRL_STATUS 0 0 (24 + q)
  let x := c.trl
  if low then
    let n := mget 0 x.lowRun q + 1
    let c := c.setTrl { x with lowRun := mset 0 x.lowRun q n, missRun := mset 0 x.missRun q 0 }
    if here || n < 4 then c
    else (((c.wb rTRL_STATUS 0 0 (24 + q) true).setTrl { c.trl with lost := c.trl.lost &&& ~~~(1#8 <<< q) }).irq 184).log 0x0E 0xE1
  else
    let n := mget 0 x.missRun q + 1
    let c := c.setTrl { x with missRun := mset 0 x.missRun q n, lowRun := mset 0 x.lowRun q 0 }
    if !here then c else
    let c := c.inc rTRL_CNT 4 0
    if n < max 2 (c.rf rTRL_CTRL 0 0 19 16) then c
    else (((c.wb rTRL_STATUS 0 0 (24 + q) false).setTrl { c.trl with lost := c.trl.lost ||| (1#8 <<< q) }).irq 184).log 0x0E 0xE0

/-- STK_ACK_SAMPLE (R405): the line 30 ns after the master's edge. -/
def Chip.ackSample (c : Chip) (low : Bool) : Chip :=
  let q := c.now / 1000 % 8
  let c := c.wb rTRL_ACKSTAT 0 0 q low
  if q ≠ 0 then c.ackOf q low
  else if low then ((c.wb rTRL_STATUS 0 0 6 true).irq 188).log 0x0E 0xE7 else c

/-- STK_ACK_SAMPLE (R405). -/
def execStkAckSample (low : Bool) (s : State) : Host.Outcome State Fault Refusal :=
  run (fun c => c.when (c.up .trl && c.pos = 0 && c.rb rTRL_CTRL 0 0 1) fun c => c.ackSample low) s

/-! ## Slices (R406..R408) -/

/-- SLICE_FORWARD_DONE (R407). -/
def execSliceForwardDone (cv : Fin 4) (s : State) : Host.Outcome State Fault Refusal := run (fun c => c.when (c.up .trl) fun c => c.sliceDone cv) s

/-- TRL_SLs_CTRL written with EN (R406): a descriptor with a part of a pixel group or no follower is refused. -/
def Chip.trlSl (c : Chip) (s : Nat) (v : Word) : Chip :=
  if !bit v 31 then c else
  let ppg := ppgOf (c.rf rCANV_CTRL (fld v 27 26) 0 1 0)
  if c.rf rTRL_SL_ORG s 0 12 0 % ppg = 0 && c.rf rTRL_SL_DORG s 0 12 0 % ppg = 0 && (c.rf rTRL_SL_EXT s 0 12 0 + 1) % ppg = 0 && fld v 30 28 ≠ 0 then c
  else (c.wb rTRL_SL s 0 31 false).wb rTRL_STATUS 0 0 9 true

/-- TRL_DCANVc_CTRL written (R408): refused while ING has the canvas; a canvas given up is left clean. -/
def Chip.trlDcanv (c : Chip) (cv : Nat) (old v : Word) : Chip :=
  if bit v 31 && !bit old 31 then (if c.canvOn cv then c.wb rTRL_DCANV cv 0 31 false else c)
  else if !bit v 31 && bit old 31 && c.pos ≠ 0 then
    (c.celPut .trellis (recAddr cv) [0, 0, 0, 0]).setTrl { c.trl with dst := mset ({} : DCanv) c.trl.dst cv {} }
  else c

/-- The destination canvas's open frame, and it set. -/
def Chip.dcanv (c : Chip) (cv : Nat) : DCanv := mget ({} : DCanv) c.trl.dst cv
def Chip.setDcanv (c : Chip) (cv : Nat) (x : DCanv) : Chip := c.setTrl { c.trl with dst := mset ({} : DCanv) c.trl.dst cv x }

/-- TRL writes canvas `cv` (R408). -/
def Chip.dcanvOn (c : Chip) (cv : Nat) : Bool := c.pos ≠ 0 && c.rb rTRL_DCANV cv 0 31

/-- A frame opened where none is open (R115, R408). -/
def Chip.dcanvOpen (c : Chip) (cv : Nat) : Chip :=
  if (c.dcanv cv).openBuf.isSome then c else
  let (c, b) := c.canvClaim .trellis cv
  c.setDcanv cv { c.dcanv cv with openBuf := b }

/-- A SLICE taken: its whole pixel groups stored where they lie inside the canvas. -/
def Chip.sliceTake (c : Chip) (b : List Word) : Chip :=
  let h := b.getD 0 0
  let cv := fld h 31 30
  if !c.dcanvOn cv then c else
  let c := c.dcanvOpen cv
  match (c.dcanv cv).openBuf with
  | none => c
  | some k =>
    let g := c.viewGeom cv
    let x := fld h 12 0
    let y := fld h 28 16
    let gb := groupBytes g.fmt
    let l := (b.drop 1).flatMap wordBytes
    let n := min (l.length / gb) ((g.w + ppgOf g.fmt - 1 - x) / ppgOf g.fmt)
    if x ≥ g.w || y ≥ g.h || x % ppgOf g.fmt ≠ 0 then c else c.canvPut .trellis g k x y (l.take (n * gb))

/-- SLICE (R408). -/
def execSliceMsg (m : TrlMsg) (s : State) : Host.Outcome State Fault Refusal := run (fun c => c.trlTake 3 m fun c => c.sliceTake m.body) s

/-- The open frame of a destination canvas becomes READY (R117, R131, R408). -/
def Chip.dcanvReady (c : Chip) (cv b : Nat) (x : DCanv) (incomplete : Bool) : Chip :=
  let sig := c.canvSig (c.viewGeom cv) b
  let t := x.ts
  let c := c.celPut .trellis (descAddr cv b)
    (([BitVec.ofNat 32 (b2n incomplete), x.seq.getD 0, tsWord t 0, tsWord t 1, tsWord t 2, sig, 0, 0] : List Word).flatMap wordBytes)
  match c.canvCas .trellis cv (fun w => setBufState w b 2) with
  | (c, false) => c.setDcanv cv {}
  | (c, true) => (c.wr rCANV_SIG cv 0 sig).setDcanv cv {}

/-- A SLICE_END taken (R408): NSL of one sequence number close the frame; a newer number closes it as incomplete. -/
def Chip.sliceEndTake (c : Chip) (b : List Word) : Chip :=
  let w := fun i => b.getD i (0 : Word)
  let cv := fld (w 0) 31 30
  if !c.dcanvOn cv then c else
  let x := c.dcanv cv
  let old := match x.seq with | some q => decide ((w 1 - q).toInt < 0) | none => false
  if old then c else
  let newer := match x.seq with | some q => decide ((w 1 - q).toInt > 0) | none => false
  let c := if newer then (match x.openBuf with
      | some k => c.dcanvReady cv k x true
      | none => c.setDcanv cv {}) else c
  let c := c.dcanvOpen cv
  let x := c.dcanv cv
  let x := { x with seq := some (w 1), ends := x.ends + 1, incomplete := x.incomplete || bit (w 5) 0, ts := tsOf (w 2) (w 3) (w 4) }
  if x.ends ≥ max 1 (c.rf rTRL_DCANV cv 0 11 8) then
    (match x.openBuf with
      | some k => c.dcanvReady cv k x x.incomplete
      | none => c.setDcanv cv {})
  else c.setDcanv cv x

/-- SLICE_END (R408). -/
def execSliceEnd (m : TrlMsg) (s : State) : Host.Outcome State Fault Refusal := run (fun c => c.trlTake 4 m fun c => c.sliceEndTake m.body) s

end Sys2Proof.Machine
end

