-- ==== Sys2Proof/Machine/Queues.lean ====
section
/-! DEFINITION. The 32 mailboxes and the resets of the dual-clock queues (spec/15 R466..R473). -/

namespace Sys2Proof.Machine

/-! ## Mailboxes (R470..R473) -/

/-- The messages of mailbox `q`, oldest first. -/
def Chip.mail (c : Chip) (q : Nat) : List Word := mget [] c.que.qs q

/-- Mailbox `q` set, with QUE_STATq.COUNT. -/
def Chip.setMail (c : Chip) (q : Nat) (l : List Word) : Chip :=
  ({ c with que := { c.que with qs := mset [] c.que.qs q l } }).wf rQUE_STAT q 0 6 0 l.length

/-- The messages mailbox `q` holds at most: 2^LOG2, LOG2 taken into 2..6. -/
def Chip.mailSize (c : Chip) (q : Nat) : Nat := 2 ^ max 2 (min 6 (c.rf rQUE_CFG q 0 18 16))

/-- Which copy of QUE_RES an access has. -/
def resCopy (a : Access) : Nat := if a.master == .press then 16 + a.core.val else masterId a.master

/-- The reading master's QUE_RES. -/
def Chip.queRes (c : Chip) (a : Access) : Word := mget 0 c.que.res (resCopy a)

/-- The result of a push recorded: taken, and its queue. -/
def Chip.resPush (c : Chip) (a : Access) (q : Nat) (ok : Bool) : Chip :=
  { c with que := { c.que with res := mset 0 c.que.res (resCopy a) (setFld (setBit (c.queRes a) 31 ok) 28 24 q) } }

/-- The result of a pop recorded: a message came, and its queue. -/
def Chip.resPop (c : Chip) (a : Access) (q : Nat) (ok : Bool) : Chip :=
  { c with que := { c.que with res := mset 0 c.que.res (resCopy a) (setFld (setBit (c.queRes a) 30 ok) 20 16 q) } }

/-- Whether the mask of mailbox `q` and SONLY let access `a` push (`pop` false) or pop (R470). -/
def Chip.mailMay (c : Chip) (a : Access) (q : Nat) (pop : Bool) : Bool :=
  c.rb rQUE_MASK q 0 (masterId a.master + if pop then 16 else 0) && (!c.rb rQUE_CFG q 0 30 || c.worldS a)

/-- A permitted push (R471): a full mailbox drops it; a disabled one takes nothing. -/
def Chip.mailPush (c : Chip) (a : Access) (q : Nat) (v : Word) : Chip :=
  if !c.rb rQUE_CFG q 0 31 then c.resPush a q false
  else if (c.mail q).length ≥ c.mailSize q then
    ((((c.inc rQUE_DROP q 0).wb rQUE_STAT q 0 30 true).log 0x0F 0x3A)).resPush a q false
  else (c.setMail q (c.mail q ++ [v])).resPush a q true

/-- A permitted pop (R471, R473): the oldest message, and STALE cleared; an empty mailbox returns 0. -/
def Chip.mailPop (c : Chip) (a : Access) (q : Nat) : Chip × Word :=
  match c.mail q with
  | [] => (c.resPop a q false, 0)
  | v :: t => (((c.setMail q t).wb rQUE_STAT q 0 31 false).resPop a q true, v)

/-- QUE_CFGq written: only while EN was 0, or to clear EN, which empties the mailbox (R470). -/
def Chip.queCfg (c : Chip) (q : Nat) (old : Word) : Chip :=
  if !bit old 31 then c
  else
    let c := if c.rb rQUE_CFG q 0 31 then c else (c.setMail q []).wb rQUE_STAT q 0 31 false
    c.wr rQUE_CFG q 0 (setBit old 31 (c.rb rQUE_CFG q 0 31))

/-- QUE_MASKq written: only while EN = 0. -/
def Chip.queMask (c : Chip) (q : Nat) (old : Word) : Chip := if c.rb rQUE_CFG q 0 31 then c.wr rQUE_MASK q 0 old else c

/-- QUE_STALE (R473): mailbox `q` has not been popped for QUE_STALEq µs. -/
def execQueStale (q : Fin 32) (s : State) : Host.Outcome State Fault Refusal :=
  run (fun c => if c.alive .sys && c.mail q ≠ [] && c.rf rQUE_STALE q 0 23 0 ≠ 0 then
      (((c.wb rQUE_STAT q 0 31 true).wb rQUE_STALE_STAT 0 0 q true).log 0x0F 0x39)
    else c) s

/-! ## Dual-clock queues (R467, R468) -/

/-- The queue IDs of R468. -/
def queueId (id : Nat) : Bool :=
  id ≤ 5 || (0x08 ≤ id && id ≤ 0x0D) || (0x10 ≤ id && id ≤ 0x15) || (0x18 ≤ id && id ≤ 0x23) || (0x28 ≤ id && id ≤ 0x2D)
    || (0x30 ≤ id && id ≤ 0x35) || (0x38 ≤ id && id ≤ 0x3D) || (0x40 ≤ id && id ≤ 0x43) || (0x80 ≤ id && id ≤ 0x93)
    || (0xA0 ≤ id && id ≤ 0xA5)

/-- The urgent queue of parser `p`, bank `k`, emptied: its inserts counted in URG_DISC of each port that waits for one. -/
def Chip.urgReset (c : Chip) (p k : Nat) : Chip :=
  let q := c.urgQueue p k
  let c := c.each (q.filter fun e => e.words ≠ 0) fun c e =>
    c.each (List.range 8) fun c i => if e.left.getLsbD i then c.inc rPORT_CNT (8 * k + i) 10 else c
  c.setUrgQueue p k []

/-- The frames a follower's canvases have open close as incomplete (R408). -/
def Chip.slicesReset (c : Chip) : Chip :=
  c.each (List.range 4) fun c cv => match (c.dcanv cv).openBuf with
    | some b => c.dcanvReady cv b (c.dcanv cv) true
    | none => c

/-- Entries of `w` bytes that received frames take in a crossing (R18). -/
def rxEntries (w : Nat) (l : List RxFrame) : Nat := l.foldl (fun n f => n + (f.bytes.length + w - 1) / w) 0

/-- The frames left when the first `n` entries of `w` bytes are lost: a frame that lost an entry is lost (R468). -/
def rxLeft (w : Nat) : Nat → List RxFrame → List RxFrame
  | _, [] => []
  | n, f :: t => if n = 0 then f :: t else rxLeft w (n - (f.bytes.length + w - 1) / w) t

/-- The receive crossing of port `p`, `d` entries of `w` bytes, reset: the frames at the front of the FIFO with an entry among the
`lost` are lost. -/
def Chip.rxCross (c : Chip) (p w d lost : Nat) : Chip × Nat :=
  let n := min lost (min d (rxEntries w (c.mac p).rxq))
  (c.setMac p { c.mac p with rxq := rxLeft w n (c.mac p).rxq }, n)

/-- What the blocks at the two ends of queue `id` lose, and how many entries were lost: those of a queue the model holds; of any
other queue `lost` entries, which belong to what passes through it next (DESIGN CHOICE, log entry 211). -/
def Chip.queueLose (c : Chip) (id lost : Nat) : Chip × Nat :=
  if id = 0x00 || id = 0x01 then c.rxCross id 32 64 lost
  else if id = 0x04 then c.rxCross 2 8 32 lost
  else if 0x08 ≤ id && id ≤ 0x15 then
    let p := if id < 0x10 then 0 else 1
    let k := id % 8
    (c.urgReset p k, (c.urgQueue p k).length)
  else if id = 0x18 then
    let n := c.time.evtQ.length
    (({ c with time := { c.time with evtQ := [] } }).inc rCAP_LOST 0 0 n, n)
  else if id = 0x19 then ({ c with time := { c.time with pixQ := [] } }, c.time.pixQ.length)
  else if 0x1A ≤ id && id ≤ 0x1F then
    (c.each ((List.range 8).map fun i => 8 * (id - 0x1A) + i) fun c p => c.setPort p { c.port p with presentDue := false }, lost)
  else if 0x38 ≤ id && id ≤ 0x3D then
    let keep := c.retQ.filter fun x => bankOf x.port ≠ id - 0x38
    ({ c with retQ := keep }, c.retQ.length - keep.length)
  else if id = 0x41 then (c.setCdr { c.cdr with caskIn := none }, lost)
  else if id = 0x43 then (c.slicesReset, lost)
  else if lost = 0 then (c, 0)
  else ({ c with que := { c.que with cut := c.que.cut ++ [id] } }, lost)

/-- QUEUE_PTR_MISMATCH (R467, R468): queue `id` reset; `lost` entries were written and not yet read. -/
def execQueuePtrMismatch (id : Fin 256) (lost : Nat) (s : State) : Host.Outcome State Fault Refusal :=
  run (fun c => if !(c.alive .sys && queueId id) then c else
    let (c, n) := c.queueLose id lost
    ((c.inc rQUE_XLOST 0 0 n).inc rQUE_XRESETS 0 0).log 0x0F 0x38 (lostDetail id n)) s

/-- CREDIT_MISMATCH (R469): the credit count of port `p` has come wrong; its producers write nothing until a commit
point resets both pools. -/
def execCreditMismatch (p : Fin 48) (s : State) : Host.Outcome State Fault Refusal :=
  run (fun c => c.when (c.up (.bank (bankOf p))) fun c => c.setPort p { c.port p with crdBad := true }) s

end Sys2Proof.Machine
end

