-- ==== Sys2Proof/Machine/Flash.lean ====
section
/-! DEFINITION. The module flash as its structures are kept in it (spec/17 R501, R502): programming clears bits, an
erase sets a sector to ones, and a record's magic number is programmed last. -/

namespace Sys2Proof.Machine

/-- The house-core address of flash offset 0. -/
def flashBase : Nat := 0x20000000

/-- Bytes programmed at flash offset `o`: a programmed bit only falls to 0. -/
def Chip.flashProg (c : Chip) (o : Nat) : List Byte → Chip
  | [] => c
  | b :: t => (c.setByte (flashBase + o) (c.byte (flashBase + o) &&& b)).flashProg (o + 1) t

/-- `n` bytes erased from flash offset `o` on; a sector whose erase was abandoned is good again (R503). -/
def Chip.flashErase (c : Chip) (o n : Nat) : Chip :=
  { c with mem := c.mem.filter fun p => p.1 < flashBase + o || flashBase + o + n ≤ p.1
           boot := { c.boot with badSectors := c.boot.badSectors.filter fun k => k < o || o + n ≤ k } }

/-- No sector of [o, o + n) is one whose erase was abandoned (R503). -/
def Chip.sectorsOk (c : Chip) (o n : Nat) : Bool := c.boot.badSectors.all fun k => k + 0x10000 ≤ o || o + n ≤ k

/-- A program, and an erase, that firmware, the ROM or the Vault has the flash controller carry out to its end: interrupt 200
(R502, R528; DEDUCED, log entry 212). -/
def Chip.fwProg (c : Chip) (o : Nat) (l : List Byte) : Chip := (c.flashProg o l).irq 200
def Chip.fwErase (c : Chip) (o n : Nat) : Chip := (c.flashErase o n).irq 200

/-- `n` bytes of flash from offset `o` on. -/
def Chip.flashBytes (c : Chip) (o n : Nat) : List Byte := c.bytes (flashBase + o) n

/-- The little-endian number in `n` bytes of flash at offset `o`. -/
def Chip.flashNat (c : Chip) (o n : Nat) : Nat := leNat (c.flashBytes o n)

end Sys2Proof.Machine
end

