-- ==== Sys2Proof/Machine/Servo.lean ====
section
/-! DEFINITION. The PTP servo that runs on NC (spec/02 R32..R35, R44..R47), and the loss of a link, which it sees. -/

namespace Sys2Proof.Machine

/-- The servo set. -/
def Chip.setServo (c : Chip) (x : Servo) : Chip := { c with time := { c.time with servo := x } }

/-- TIME_SERVO.STATE. -/
def Chip.servoNow (c : Chip) : Nat := c.rf rTIME_SERVO 0 0 2 0

/-- NC writes TIME_SERVO.STATE (R67). -/
def Chip.setServoState (c : Chip) (st : Nat) : Chip := (c.wf rTIME_SERVO 0 0 2 0 st).servoState c.servoNow st

/-- The ns the servo has spent in ACQUIRING and LOCKED (R45). -/
def Chip.servoRun (c : Chip) : Int :=
  c.time.servo.runAcc + if c.servoNow = 1 || c.servoNow = 2 then (c.now : Int) - c.time.servo.runMark else 0

/-- The servo goes from its state to `st`: what it has spent in ACQUIRING and LOCKED is kept. -/
def Chip.servoEnter (c : Chip) (st : Nat) : Chip :=
  (c.setServo { c.time.servo with runAcc := c.servoRun, runMark := c.now }).setServoState st

/-! ## The parent (R35, R46) -/

/-- The rank of a master in the comparison of data sets: lower is better (R35). -/
def Chip.rank (c : Chip) (f : Foreign) : List Nat :=
  let pref := if f.port = 2 then 2 else if c.objNat 0x2010 4 0 = 1 then 1 - f.port else f.port
  [f.prio1, f.cls, f.acc, f.var, f.prio2, f.gm.toNat, f.steps, pref, f.clk.toNat]

/-- The first of two lists in lexical order. -/
def lexLt : List Nat → List Nat → Bool
  | [], [] => false
  | [], _ => true
  | _, [] => false
  | a :: s, b :: t => a < b || (a = b && lexLt s t)

/-- The best of the masters heard (R35). DESIGN CHOICE (log entry 165): a master heard stays in the comparison until it was
the parent and is lost. -/
def Chip.bestMaster (c : Chip) : Option Foreign :=
  c.time.servo.foreigns.foldl (fun b f => match b with
    | none => some f
    | some g => if lexLt (c.rank f) (c.rank g) then some f else b) none

/-- The settle period for a new parent, in seconds (R46). -/
def Chip.settleFor (c : Chip) (f : Foreign) : Nat :=
  if c.time.servo.everParent && f.gm = c.time.servo.lastGm then c.objNat 0x2020 6 1 else c.objNat 0x2020 5 5

/-- A new parent (R46): the servo settles with the rate held. -/
def Chip.newParent (c : Chip) (f : Foreign) : Chip :=
  let x := c.time.servo
  let c := c.setServo { x with
    parent := some f, everParent := true, lastGm := f.gm, fromFreerun := !x.everParent, settleOffs := [], settleLen := c.settleFor f
    heldAddend := sgn (c.rd rTIME_ADDEND), syncWait := none, lastSync := none, reqWait := none, okRun := 0, badRun := 0, slewing := false }
  c.servoEnter 4

/-- The best master clock algorithm after an Announce (R35, R46). -/
def Chip.bmca (c : Chip) : Chip :=
  match c.bestMaster with
  | none => c
  | some f =>
    match c.time.servo.parent with
    | some g => if g.clk = f.clk && g.port = f.port then c.setServo { c.time.servo with parent := some f, lastGm := f.gm } else c.newParent f
    | none => c.newParent f

/-- The PTP group address 224.0.1.129 (R33). -/
def ptpGroup : BitVec 32 := 0xE0000181

/-- A message to the group or to a unicast address, at UDP port `port` (R33). -/
def ptpTo (t : PtpTo) (port : Nat) : Bool := t.udp = port && (t.ip = ptpGroup || t.ip.toNat < 0xE0000000)

/-- A port on which NC, once released, takes PTP messages: it exists in object 0x2010 sub 3 and its link is up; a follower's NC
runs the stack servo instead (R10, R399). -/
def Chip.ptpOn (c : Chip) (p dom : Nat) : Bool :=
  c.alive .ts && c.boot.ncRun && c.rf rSTRAP 0 0 2 0 = 0 && c.link p && c.objNat 0x2010 3 3 / 2 ^ p % 2 = 1 && c.objNat 0x2010 2 127 = dom

/-- A clockIdentity on the acceptable-master list, or the list empty (R35). -/
def Chip.acceptable (c : Chip) (clk : BitVec 64) : Bool :=
  let l := (List.range 8).map fun i => c.objNat 0x2010 (7 + i) 0
  l.all (· = 0) || (clk ≠ 0 && l.any (· = clk.toNat))

/-- ANNOUNCE_RX (R33..R35): a general message, logAnnounceInterval −3 to +3. -/
def execAnnounceRx (p : Fin 3) (m : Announce) (s : State) : Host.Outcome State Fault Refusal :=
  run (fun c => c.when (c.ptpOn p m.domain && ptpTo m.dst 320 && -3 ≤ m.log && m.log ≤ 3 && c.acceptable m.clk) fun c =>
    let f : Foreign := { port := p, clk := m.clk, gm := m.gm, prio1 := m.prio1, cls := m.cls, acc := m.acc, var := m.var, prio2 := m.prio2, steps := m.steps, reply := if m.dst.ip = ptpGroup then ptpGroup else m.dst.src }
    let l := c.time.servo.foreigns.filter fun g => !(g.clk = m.clk && g.port = p.val)
    (c.setServo { c.time.servo with foreigns := l ++ [f] }).bmca) s

/-! ## Offsets (R44, R45, R47) -/

/-- The corrections NC makes: ±500 ppm (R37). -/
def addendLimit : Int := 4294967

/-- A slew's limit about the held rate, in steps of TIME_ADDEND (R47). -/
def Chip.slewLimit (c : Chip) : Int := (c.objNat 0x2020 4 10000 * 2 ^ 33 / nsPerSec : Nat)

/-- The rate corrected for offset `o`: the servo's own value, within its limits. -/
def Chip.correct (c : Chip) (o : Int) : Chip :=
  let x := c.time.servo
  let a := max (-addendLimit) (min addendLimit (Config.servoAddend c.cyc o))
  let a := if x.slewing then max (x.heldAddend - c.slewLimit) (min (x.heldAddend + c.slewLimit) a) else a
  let h := (c.servoRun, a) :: x.addHist.filter fun e => e.1 + 16 * nsPerSec ≥ c.servoRun
  (c.wr rTIME_ADDEND 0 0 (wordOf a)).setServo { x with addHist := h }

/-- The lock counts after an offset: 16 within LOCK_NS lock, 4 above twice it unlock (R44). -/
def Chip.lockCount (c : Chip) (o : Int) : Chip :=
  let x := c.time.servo
  let l := c.objNat 0x2020 1 50
  let ok := if o.natAbs ≤ l then x.okRun + 1 else 0
  let bad := if o.natAbs > 2 * l then x.badRun + 1 else 0
  let c := c.setServo { x with okRun := ok, badRun := bad }
  if c.servoNow = 1 && ok ≥ 16 then (c.setServo { c.time.servo with slewing := false, badRun := 0 }).servoEnter 2
  else if c.servoNow = 2 && bad ≥ 4 then (c.setServo { c.time.servo with okRun := 0 }).servoEnter 1
  else c

/-- An offset from the parent: `org` is when it sent, `rx` when the message came, both in ns. -/
def Chip.offset (c : Chip) (org : Int) (rx : Nat) : Chip :=
  let o := (rx : Int) - org - c.time.servo.delay
  let c := c.setServo { c.time.servo with offset := o, lastSync := some (org, rx) }
  match c.servoNow with
  | 4 => c.setServo { c.time.servo with settleOffs := o :: c.time.servo.settleOffs }
  | 1 | 2 => (c.correct o).lockCount o
  | _ => c

/-- The asymmetry entry of object 0x2010 (R42). -/
def Chip.asym (c : Chip) : Int := (BitVec.ofNat 32 (c.objNat 0x2010 6 0)).toInt

/-- A Sync or Follow_Up of the parent (R34): a one-step Sync gives its offset at once, a two-step one with its
Follow_Up, the corrections of both added. -/
def Chip.syncRx (c : Chip) (m : SyncMsg) : Chip :=
  let x := c.time.servo
  let rx : Nat := (m.rx - c.asym).toNat
  if m.followUp then
    match x.syncWait with
    | some (q, t, k) => if q = m.seq.toNat then (c.setServo { x with syncWait := none }).offset (m.origin + k + m.corr) t else c
    | none => c
  else if m.twoStep then c.setServo { x with syncWait := some (m.seq.toNat, rx, m.corr) }
  else c.offset (m.origin + m.corr) rx

/-- A message comes from the parent. -/
def Chip.fromParent (c : Chip) (p : Nat) (clk : BitVec 64) : Bool :=
  match c.time.servo.parent with
  | some f => f.port = p && f.clk = clk
  | none => false

/-- SYNC_RX (R33, R34, R44): a Sync is an event message, a Follow_Up a general one, logSyncInterval −7 to +1. -/
def execSyncRx (p : Fin 3) (m : SyncMsg) (s : State) : Host.Outcome State Fault Refusal :=
  run (fun c => c.when (c.ptpOn p m.domain && ptpTo m.dst (if m.followUp then 320 else 319) && -7 ≤ m.log && m.log ≤ 1 && c.fromParent p m.clk)
    fun c => c.syncRx m) s

/-- The 44 bytes of a Delay_Req of sequenceId `q` in domain `d`, as IEEE 1588-2019 lays them out (R32, R33; log entry 174). -/
def delayReqBytes (d q : Nat) : List Byte :=
  [0x01, 0x12] ++ natBE 2 44 ++ natBE 1 d ++ List.replicate 15 0 ++ natBE 8 Config.clockId.toNat ++ natBE 2 1 ++ natBE 2 q ++ [0x01, 0x7F] ++ List.replicate 10 0

/-- DELAY_REQ_SEND (R33, R42): its transmit timestamp, where TS_STAMP_EN gives one and the queue of R43 takes it, waits for the
Delay_Resp. -/
def execDelayReqSend (s : State) : Host.Outcome State Fault Refusal :=
  run (fun c => match c.time.servo.parent with
    | none => c
    | some f =>
      if !(c.alive .ts && c.boot.ncRun && c.link f.port) || c.txStop f.port then c else
      let q := (c.time.servo.reqSeq + 1) % 65536
      let c := (c.setServo { c.time.servo with reqSeq := q, reqWait := none }).emit (.ptp f.port f.reply 319 (delayReqBytes (c.objNat 0x2010 2 127) q))
      if c.rb rTIME_CTRL 0 0 1 then
        let t := c.txStamp f.port
        let c := if c.time.txts.length < 8 then c.setServo { c.time.servo with reqWait := some (q, ((t : Int) + c.asym).toNat) } else c
        c.txtsPush f.port q t
      else c) s

/-- DELAY_RESP_RX (R33): half the sum of the two ways is the mean path delay, a negative one taken as 0 (DESIGN CHOICE, log
entry 164); the answer to this module's own Delay_Req is known by its sequenceId (DESIGN CHOICE, log entry 220). -/
def execDelayRespRx (p : Fin 3) (m : DelayResp) (s : State) : Host.Outcome State Fault Refusal :=
  run (fun c => c.when (c.ptpOn p m.domain && ptpTo m.dst 320 && c.fromParent p m.clk) fun c =>
    match c.time.servo.reqWait, c.time.servo.lastSync with
    | some (q, t3), some (t1, t2) =>
      if q ≠ m.seq.toNat then c else
      let d := (((t2 : Int) - t1) + ((m.rcv : Int) - m.corr - t3)) / 2
      c.setServo { c.time.servo with reqWait := none, delay := max 0 d }
    | _, _ => c) s

/-! ## Loss, holdover, settling (R45..R47) -/

/-- The mean of the values TIME_ADDEND had over the last 16 s in ACQUIRING or LOCKED (R45): of the values written in them, each
counted once, rounded toward minus infinity (DESIGN CHOICE, log entry 166). -/
def Chip.meanAddend (c : Chip) : Int :=
  let l := c.time.servo.addHist.filter fun e => e.1 + 16 * nsPerSec ≥ c.servoRun
  if l.isEmpty then sgn (c.rd rTIME_ADDEND) else (l.foldl (fun n e => n + e.2) 0) / (l.length : Int)

/-- The parent is lost (R45). -/
def Chip.parentLost (c : Chip) : Chip :=
  match c.time.servo.parent with
  | none => c
  | some f =>
    let a := c.meanAddend
    let l := c.time.servo.foreigns.filter fun g => !(g.clk = f.clk && g.port = f.port)
    let c := c.setServo { c.time.servo with parent := none, foreigns := l, holdStart := c.now, syncWait := none, reqWait := none, slewing := false }
    (c.wr rTIME_ADDEND 0 0 (wordOf a)).servoEnter 3

/-- PARENT_LOST (R45): no Announce or no Sync for too long. -/
def execParentLost (s : State) : Host.Outcome State Fault Refusal := run (fun c => c.when (c.alive .ts && c.boot.ncRun) fun c => c.parentLost) s

/-- HOLDOVER_EXPIRED (R45): the age of the holdover has passed HOLDOVER_MAX. -/
def execHoldoverExpired (s : State) : Host.Outcome State Fault Refusal :=
  run (fun c => c.when (c.alive .ts && c.boot.ncRun && c.servoNow = 3) fun c => c.wb rTIME_STATUS 0 0 4 true) s

/-- The DL4805 is showing (R47). -/
def Chip.showing (c : Chip) : Bool :=
  c.ras.hold.isNone && (List.range 48).any fun p =>
    c.transmitting p || (c.modeNow p ≥ 2 && (c.port p).draining.isSome && !c.suppressed)

/-- The median of a list of offsets: the middle one, of an even number the mean of the two. -/
def median (l : List Int) : Int :=
  let s := l.mergeSort fun a b => decide (a ≤ b)
  let n := s.length
  if n % 2 = 1 then s.getD (n / 2) 0 else (s.getD (n / 2 - 1) 0 + s.getD (n / 2) 0) / 2

/-- SETTLING_END (R47): slew or step. -/
def execSettlingEnd (s : State) : Host.Outcome State Fault Refusal :=
  run (fun c => c.when (c.alive .ts && c.boot.ncRun && c.servoNow = 4 && !c.time.servo.settleOffs.isEmpty) fun c =>
    let x := c.time.servo
    let m := median x.settleOffs
    let pol := c.objNat 0x2020 3 1
    let big := m.natAbs > c.objNat 0x2020 2 10000
    let step := x.fromFreerun || (big && (pol = 0 || (pol = 1 && !c.showing)))
    let c := c.setServo { x with settleOffs := [], okRun := 0, badRun := 0, fromFreerun := false, slewing := !step }
    let c := c.servoEnter 1
    if step then c.stepBy (-m) else c) s

/-! ## Links (R45, R72, R73) -/

/-- The link of port `p` falls; the parent is lost with the PTP port's link (R45, R72). -/
def Chip.linkLost (c : Chip) (p : Nat) : Chip :=
  let c := c.linkFall p
  match c.time.servo.parent with
  | some f => if f.port = p then c.parentLost else c
  | none => c

/-- LINK_DOWN (R72): block lock is lost. -/
def execLinkDown (p : Fin 3) (s : State) : Host.Outcome State Fault Refusal :=
  run (fun c => c.when (c.alive (macDom p)) fun c => c.linkLost p) s

/-- MAC_CTRL written (R70, R72, R106): the service MAC has no RATE and no FEC, MACA and MACB no clock delays; EN 0 forces LINK to 0; CNT_CLR clears the counters. -/
def Chip.macCtrl (c : Chip) (p : Nat) (v : Word) : Chip :=
  let c := if p = 2 then (c.wb rMAC_CTRL p 0 1 false).wf rMAC_CTRL p 0 7 6 0 else c.wf rMAC_CTRL p 0 21 20 0
  let c := if bit v 31 then c.cntClr p else c
  if !c.rb rMAC_CTRL p 0 0 then c.linkLost p else c

/-- SFP_SIDEBAND_CHANGE (R73): the levels of Nx_MODABS, Nx_RXLOS and Nx_TXFAULT mirrored; RX_LOS forces LINK to 0, a
rising TXFAULT is logged. -/
def execSfpSidebandChange (p : Fin 2) (modabs rxlos txfault : Bool) (s : State) : Host.Outcome State Fault Refusal :=
  run (fun c => c.when (c.alive (macDom p)) fun c =>
    let st := c.rd rMAC_STATUS p.val
    if bit st 3 = modabs && bit st 4 = rxlos && bit st 5 = txfault then c else
    let c := ((c.wb rMAC_STATUS p 0 3 modabs).wb rMAC_STATUS p 0 4 rxlos).wb rMAC_STATUS p 0 5 txfault
    let c := if txfault && !bit st 5 then c.log (macSrc p) 0x27 else c
    let c := if rxlos then c.linkLost p else c
    c.irq 44) s

end Sys2Proof.Machine
end

