-- ==== Sys2Proof/Machine/Reset.lean ====
section
/-! DEFINITION. Supplies, resets, losses of lock, watchdogs and the flash controller (spec/01 R30; spec/05 R160, R161;
spec/17 R502, R503, R529, R531; spec/19 R557..R569). -/

namespace Sys2Proof.Machine

/-- Supplies set. -/
def Chip.setPwr (c : Chip) (x : PwrSt) : Chip := { c with pwr := x }

/-- Start-up state set. -/
def Chip.setBoot (c : Chip) (x : BootSt) : Chip := { c with boot := x }

/-! ## Reset (R160, R161, R560, R564) -/

/-- The Cellar's channels stand in self-refresh after a warm reset (R160, R161): the fill had been done, or they stood in it
already with the contents kept, and no warning is in force. -/
def Chip.selfRefresh (c : Chip) : Bool := (c.cel.serving || c.rb rCEL_STATUS 0 0 2 || c.cel.warm) && !c.pwr.pfw

/-- What a warm reset leaves of the Cellar: contents and codewords where self-refresh was entered; training kept. -/
def Chip.celWarm (c : Chip) : CelSt :=
  { ecc := c.cel.ecc, trained := c.cel.trained, warm := c.selfRefresh }

/-- CEL_STATUS as its retention registers leave it: WARM. -/
def Chip.celRetain (c : Chip) : Chip := if c.cel.warm then c.wb rCEL_STATUS 0 0 1 true else c

/-- The fuses as a reset finds them: while a life-cycle change blows its group, none to all three of the bits are blown, in turn
(R493; how many is a free value, log entry 235). -/
def Chip.fusesCut (c : Chip) : Fuses :=
  match c.vlt.lcTarget with
  | some t => c.fuses.blow t (BitVec.ofNat 3 (2 ^ ((Config.freeWord c.cyc 0x493).toNat % 4) - 1))
  | none => c.fuses

/-- The module held in reset, for cause bit `cause` of SYS_RSTCAUSE: every register and every block at its reset state;
the flash, the fuses and an abandoned erase's mark stand, and at a warm reset the other memories, the Cellar as it was
kept. -/
def Chip.resetTo (c : Chip) (cause : BitVec 4) (por : Bool) : Chip :=
  { mem := if por then c.mem.filter fun p => flashBase ≤ p.1 && p.1 < 0x24000000 else c.mem
    sram := if por then {} else { errs := c.sram.errs }
    cyc := c.cyc, wire := c.wire, fuses := c.fusesCut, rsp := c.rsp
    cel := if por then {} else c.celWarm
    boot := { abandoned := c.boot.abandoned, badSectors := c.boot.badSectors }
    pwr := { c.pwr with phase := .rails, resetOutN := false, cause := if por then cause else c.pwr.cause ||| cause, alarmArmed := true } }

/-- A warm reset requested or taken: while the power-fail warning is in force, it governs (R568). -/
def Chip.warmReset (c : Chip) (cause : BitVec 4) : Chip :=
  if c.pwr.phase == .running && !c.pwr.pfw then
    let c := c.setPwr { c.pwr with cause := 0 }
    c.resetTo cause false
  else c

/-- SYS_RSTREQ written by world S with the acceptance key (R529). -/
def Chip.rstReq (c : Chip) (v : Word) : Chip := if fld v 31 8 = 0x525354 && bit v 0 then c.warmReset 4 else c

/-- RESET_PIN (R560): RESET_N has been low for 10 µs, or has risen. -/
def execResetPin (low : Bool) (s : State) : Host.Outcome State Fault Refusal :=
  run (fun c =>
    let c := if low then c.warmReset 2 else c
    c.setPwr { c.pwr with resetNLow := low }) s

/-- MAC_ADDR of Ethernet port `p` as the fuses give it (R480): MACBASE, and one and two more. -/
def Chip.loadMacAddr (c : Chip) (p : Nat) : Chip :=
  let b := natBE 6 ((c.fuses.mac.toNat + p) % 2 ^ 48)
  (c.wr rMAC_ADDR_LO p 0 (leWordAt b 0)).wr rMAC_ADDR_HI p 0 (leWordAt b 4)

/-- The strap lands as SYS_STRAP holds them. -/
def strapWord (x : Straps) : Word :=
  BitVec.ofNat 32 (b2n x.porchEn * 32 + b2n x.pairAb * 16 + b2n x.pairEn * 8 + x.stkPos.val)

/-- RESET_RELEASE (R565, R559): REF_CLK has toggled for 1 ms and RESET_N is high: straps sampled, reset released; the
FUSE block's CRC is checked (R480). -/
def execResetRelease (x : Straps) (s : State) : Host.Outcome State Fault Refusal :=
  run (fun c => if c.pwr.phase == .rails && !c.pwr.resetNLow then
      let c := c.setPwr { c.pwr with phase := .running, cause := 0, }
      let c := ((c.wr rRSTCAUSE 0 0 (s.chip.pwr.cause.setWidth 32)).wr rSTRAP 0 0 (strapWord x)).wb rPWR 0 0 30 c.pwr.vaux
      let c := c.celRetain.each [0, 1, 2] Chip.loadMacAddr
      if crc32c (c.fuses.dus ++ c.fuses.vkh ++ natLE 8 c.fuses.serial.toNat ++ natBE 6 c.fuses.mac.toNat) == c.fuses.crc then c
      else (c.log 0x0B 0x46).irq 196
    else c) s

/-- RESET_OUT_RISE (R561): 20 ms after the release. -/
def execResetOutRise (s : State) : Host.Outcome State Fault Refusal :=
  run (fun c => if c.pwr.phase == .running then c.setPwr { c.pwr with resetOutN := true } else c) s

/-! ## Power-up and power-down (R562..R568) -/

/-- VIN at or above 4.5 V: step 1 of power-up (R565). -/
def Chip.vinRise (c : Chip) : Chip :=
  c.setPwr { c.pwr with phase := .vinWait, vinAbsent := false, pfw := false, pfwN := false, resetOutN := false, vaux := false, vauxRetry := false }

/-- VIN_RISE (R565). -/
def execVinRise (s : State) : Host.Outcome State Fault Refusal :=
  run (fun c => if c.pwr.phase == .off then c.vinRise else c) s

/-- VIN_DIP_DURING_POWER_UP (R565): the 10 ms count starts again. -/
def execVinDipDuringPowerUp (s : State) : Host.Outcome State Fault Refusal :=
  run (fun c => if c.pwr.phase == .vinWait then c.vinRise else c) s

/-- RAILS_START (R565): the rails are in regulation, PFW_N is released, VAUX starts. -/
def execRailsStart (s : State) : Host.Outcome State Fault Refusal :=
  run (fun c => if c.pwr.phase == .vinWait then c.setPwr { c.pwr with phase := .rails, pfwN := true, vaux := true } else c) s

/-- The erase of the sector at flash offset `o` abandoned (R503): the sector holds nothing one can name, and is invalid until it has
been erased again. -/
def Chip.eraseAbandon (c : Chip) (o : Nat) : Chip :=
  let c := c.setBytes (flashBase + o) ((List.range 0x10000).map fun j => Config.freeByte c.cyc j)
  let c := c.setBoot { c.boot with flashOp := none, abandoned := true, badSectors := o :: c.boot.badSectors.filter (· ≠ o) }
  (((c.wb rFLASH_STAT 0 0 4 true).wb rFLASH_STAT 0 0 0 false).wb rFLASH_CTRL 0 0 31 false).irq 201

/-- Staging, erased in the background sector by sector (R516): the first `k` of its sectors are erased. -/
def stagingBase : Nat := 0x034A0000
def stagingSize : Nat := 0x007E0000

/-- The erase that runs when the warning comes is abandoned: the flash controller's, or that of a sector of staging (which one is a
free value). -/
def Chip.flashAbandon (c : Chip) : Chip :=
  match c.boot.flashOp with
  | some (.erase o) => c.eraseAbandon o
  | some _ => c
  | none =>
    if !c.upd.erasing then c else
    let k := (Config.freeWord c.cyc 0x503).toNat % (stagingSize / 0x10000)
    (c.flashErase stagingBase (k * 0x10000)).eraseAbandon (stagingBase + k * 0x10000)

/-- POWER_FAIL_WARNING (R562, R563): VIN has been below 4.3 V for 2 µs; before a reset's release it loses the Cellar (R161). -/
def execPowerFailWarning (s : State) : Host.Outcome State Fault Refusal :=
  run (fun c => if (c.pwr.phase == .running || c.pwr.phase == .rails) && !c.pwr.pfw then
      let c := c.setPwr { c.pwr with pfw := true, pfwN := false, vaux := false, vauxRetry := false }
      if c.pwr.phase == .running then
        ((((c.wb rPWR 0 0 31 true).wb rPWR 0 0 30 false).irq 6).log 0x45 0x01).flashAbandon
      else { c with cel := { c.cel with warm := false } }
    else c) s

/-- POWER_DOWN_RESET (R564): 500 µs after the warning, or VIN below 3.0 V. -/
def execPowerDownReset (s : State) : Host.Outcome State Fault Refusal :=
  run (fun c => if c.pwr.pfw then
      let c := c.resetTo 1 true
      c.setPwr { c.pwr with phase := .off }
    else c) s

/-- VIN_ABSENT (R566): VIN below 1.0 V; every output land is high impedance. -/
def execVinAbsent (s : State) : Host.Outcome State Fault Refusal :=
  run (fun c => if c.pwr.phase == .off then c.setPwr { c.pwr with vinAbsent := true } else c) s

/-- VAUX_CURRENT_LIMIT (R558): a limit has lasted 1 ms. -/
def execVauxCurrentLimit (s : State) : Host.Outcome State Fault Refusal :=
  run (fun c => if c.pwr.vaux && !c.pwr.pfw then
      let c := c.setPwr { c.pwr with vaux := false, vauxRetry := true }
      if c.pwr.phase == .running then ((c.wb rPWR 0 0 30 false).wb rPWR 0 0 29 true).log 0x45 0x02 else c
    else c) s

/-- VAUX_RETRY (R558): 100 ms later. -/
def execVauxRetry (s : State) : Host.Outcome State Fault Refusal :=
  run (fun c => if c.pwr.vauxRetry && !c.pwr.pfw then
      let c := c.setPwr { c.pwr with vaux := true, vauxRetry := false }
      if c.pwr.phase == .running then c.wb rPWR 0 0 30 true else c
    else c) s

/-- THERMAL_REMOVAL (R567): the die has reached 150 °C. -/
def execThermalRemoval (s : State) : Host.Outcome State Fault Refusal :=
  run (fun c => if c.pwr.phase == .off || c.pwr.phase == .thermal then c else
    let c := c.flashAbandon.resetTo 1 true
    c.setPwr { c.pwr with phase := .thermal, pfw := false, pfwN := false, vaux := false, vauxRetry := false }) s

/-- THERMAL_RESTORE (R567): the die is below 125 °C: power-up from step 1. -/
def execThermalRestore (s : State) : Host.Outcome State Fault Refusal :=
  run (fun c => if c.pwr.phase == .thermal then c.vinRise else c) s

/-! ## Die temperature (R569) -/

/-- TDIE updated: at TH or above the alarm fires if it is armed; 5 °C below TH arms it again. -/
def Chip.tdie (c : Chip) (t : BitVec 8) : Chip :=
  let c := c.wf rTEMP 0 0 7 0 t.toNat
  let th := c.rf rTEMP 0 0 23 16
  if t.toNat ≥ th && c.pwr.alarmArmed then
    (((c.setPwr { c.pwr with alarmArmed := false }).wb rTEMP 0 0 31 true).irq 7).log 0x45 0x03
  else if t.toNat + 5 ≤ th then c.setPwr { c.pwr with alarmArmed := true }
  else c

/-- PWR_TEMP (R569). -/
def execPwrTemp (t : BitVec 8) (s : State) : Host.Outcome State Fault Refusal :=
  run (fun c => c.when (c.alive .sys) fun c => c.tdie t) s

/-- TEMP_ALARM_REARM (R569). -/
def execTempAlarmRearm (t : BitVec 8) (s : State) : Host.Outcome State Fault Refusal :=
  run (fun c => c.when (c.alive .sys) fun c => c.tdie t) s

/-! ## Loss of lock (R30) -/

/-- The register blocks of the domain that bit `b` of SYS_CLKSTAT stands for; SYS itself keeps its record. DESIGN CHOICE (log
entry 217): the reference affects every domain, as each PLL's reference is lost with it. -/
def lockBlocks (b : Nat) (a : Nat) : Bool :=
  let k := a / 0x10000
  if b = 0 then k ≠ 0x1000
  else if b = 1 || b = 2 then k = 0x1005 || k = 0x1009 || k = 0x100B || k = 0x100E || k = 0x100F || k = 0x1011 || k = 0x1013
  else if b = 3 then k = 0x1002
  else if b = 4 then k = 0x1003
  else if b = 5 then k = 0x1004
  else if b = 6 then k = 0x1001
  else if b = 7 then k = 0x1006
  else if b = 8 then k = 0x1007 || k = 0x1008
  else if b < 15 then k = 0x100A && decide (regDom a = .bank (b - 9))
  else if b = 15 then k = 0x100C
  else if b = 16 then k = 0x100D
  else k = 0x1010

/-- The pair's settings and epochs, which outlast a loss of the CDR domain's clock alone: R366 gives an ACTIVE unit witness mode and
SYNCING at CDR_LK = 0, not the SOLO of reset (DESIGN CHOICE, log entry 231). -/
def pairKept (a : Nat) : Bool :=
  [rCDR_CTRL, rCDR_EPOCH, rCDR_HB, rCDR_TIMERS, rCDR_PMASK_LO, rCDR_PMASK_HI, rCDR_WMASK_LO, rCDR_WMASK_HI].any fun r => r.base = a

/-- The blocks of a domain at their reset state: registers and what stands beside them; the processors are blocks of SYS (R17), so
that its loss leaves HC0 before its boot ROM, NC and the others held (R10), and nothing of what they ran (R422). -/
def Chip.lockReset (c : Chip) (b : Nat) : Chip :=
  let all := b = 0
  let sys := all || b = 1 || b = 2
  let inBank := fun p : Nat => all || (9 ≤ b && b < 15 && p / 8 = b - 9)
  Chip.each { c with
    regs := c.regs.filter fun r => !lockBlocks b r.1 || (b = 15 && pairKept r.1)
    macs := c.macs.filter fun m => !(all || m.1 + 3 = b)
    urgs := c.urgs.filter fun m => !(all || m.1 + 3 = b)
    urgQ := c.urgQ.filter fun q => !(all || q.1 / 6 + 3 = b)
    time := if all || b = 6 then {} else if sys then { c.time with servo := {} } else c.time
    cel := if all || b = 7 then c.celWarm else c.cel
    ras := if all || b = 8 then {} else c.ras
    pix := if all || b = 8 then {} else c.pix
    ports := c.ports.filter fun p => !inBank p.1
    banks := c.banks.filter fun k => !(all || k.1 + 9 = b)
    retQ := c.retQ.filter fun x => !inBank x.port
    dop := if sys then {} else { c.dop with disc := c.dop.disc.filter fun d => !inBank d.1 }
    upd := if sys then {} else c.upd
    objs := if sys then [] else c.objs
    boot := if sys then { flashOp := c.boot.flashOp, abandoned := c.boot.abandoned, badSectors := c.boot.badSectors, runslotWritten := c.boot.runslotWritten, wdogOnce := c.boot.wdogOnce } else c.boot
    cdr := if all || b = 15 then {} else c.cdr
    trl := if all || b = 16 then {} else c.trl
    uarts := if all || b = 17 then [] else c.uarts
    mrgs := if sys then [] else c.mrgs
    canvs := if sys then [] else c.canvs
    slots := if sys then [] else c.slots
    unis := if sys then [] else c.unis
    uniSrcs := if sys then [] else c.uniSrcs
    prs := if sys then {} else c.prs
    drv := if sys then {} else c.drv
    dma := if sys then {} else c.dma
    que := if sys then {} else c.que
    plic := if sys then {} else c.plic
    vlt := if sys then {} else c.vlt
    fuses := if sys then c.fusesCut else c.fuses
    err := if sys then {} else c.err } ([0, 1, 2].filter fun p => all || p + 3 = b) Chip.loadMacAddr

/-- PLL_LOCK_LOST (R30): bit `b` of SYS_CLKSTAT falls; with a MAC goes its link, and the parent heard on it (R45). -/
def execPllLockLost (b : Fin 18) (s : State) : Host.Outcome State Fault Refusal :=
  run (fun c => if c.pwr.phase == .running && c.rb rCLKSTAT 0 0 b then
      let c := (c.wb rCLKSTAT 0 0 b false).irq 2
      let c := c.when (b.val = 15) Chip.pairDrop
      let st := if b.val = 15 then c.pairState else 0
      let c := (c.lockReset b).when (st ≠ 0) fun c => c.wf rCDR_STATUS 0 0 2 0 st
      let c := c.when (c.time.servo.parent.any fun f => f.port + 3 = b.val) Chip.parentLost
      let c := if b.val = 0 || b.val = 7 then c.celRetain else c
      ({ c with held := c.held ||| (1#18 <<< b.val) }).log 0x00 0x05 (BitVec.ofNat 32 b)
    else c) s

/-- PLL_LOCK_REGAINED (R30): bit `b` of SYS_CLKSTAT rises, and the domain's reset ends. -/
def execPllLockRegained (b : Fin 18) (s : State) : Host.Outcome State Fault Refusal :=
  run (fun c => if c.pwr.phase == .running then
      let c := c.wb rCLKSTAT 0 0 b true
      { c with held := c.held &&& ~~~(1#18 <<< b.val) }
    else c) s

/-! ## Watchdogs (R531) -/

/-- SYS_WDOGc_CTRL written: EN and RSTEN are set and stay; RSTEN is HC0's alone. -/
def Chip.wdogCtrl (c : Chip) (w : Nat) (old v : Word) : Chip :=
  let c := c.wb rWDOG_CTRL w 0 31 (bit old 31 || bit v 31)
  c.wb rWDOG_CTRL w 0 30 (bit old 30 || (bit v 30 && w = 0))

/-- SYS_WDOGc_KICK written. -/
def Chip.wdogKick (c : Chip) (w : Nat) : Chip :=
  let c := c.setBoot { c.boot with wdogOnce := c.boot.wdogOnce &&& ~~~(1#3 <<< w) }
  if w = 0 then { c with cdr := { c.cdr with wdExpired := false } } else c

/-- WATCHDOG_EXPIRY (R531): the count has reached TIMEOUT without a kick; HC0's expiry puts the lanes on hold (R273), and
its second one with RSTEN takes a warm reset. -/
def execWatchdogExpiry (w : Fin 3) (s : State) : Host.Outcome State Fault Refusal :=
  run (fun c => if !(c.alive .sys && c.rb rWDOG_CTRL w 0 31) then c
    else
      let again := c.boot.wdogOnce.getLsbD w
      let c := c.irq (3 + w)
      if w.val = 0 && again && c.rb rWDOG_CTRL 0 0 30 then c.warmReset 8
      else
        let c := c.setBoot { c.boot with wdogOnce := c.boot.wdogOnce ||| (1#3 <<< w.val) }
        if w.val = 0 then { c.wdHold with cdr := { c.wdHold.cdr with wdExpired := true } } else c) s

/-! ## The flash controller (R502, R503, R528) -/

/-- Whether bytes [o, o + n) of the flash touch the slot in SYS_FLASH_RUNSLOT. -/
def Chip.inRunSlot (c : Chip) (o n : Nat) : Bool :=
  match c.rf rRUNSLOT 0 0 1 0 with
  | 0 => o < 0x01840000 && 0x00040000 < o + n
  | 1 => o < 0x03040000 && 0x01840000 < o + n
  | _ => false

/-- An operation refused: its bit of SYS_FLASH_STAT, interrupt 201. -/
def Chip.flashRefuse (c : Chip) (b : Nat) : Chip := (c.wb rFLASH_STAT 0 0 b true).irq 201

/-- An operation started. -/
def Chip.flashStart (c : Chip) (op : FlashOp) : Chip :=
  (((c.setBoot { c.boot with flashOp := some op }).wb rFLASH_CTRL 0 0 31 true).wb rFLASH_STAT 0 0 0 true).wb rFLASH_STAT 0 0 1 false

/-- SYS_FLASH_CTRL written with GO. -/
def Chip.flashCtrl (c : Chip) (v : Word) : Chip :=
  if !bit v 31 || c.boot.flashOp.isSome then c else
  let o := c.rf rFLASH_ADDR 0 0 25 0
  let n := c.rf rFLASH_LEN 0 0 8 0
  match fld v 1 0 with
  | 1 =>
    if c.pwr.pfw then c.flashRefuse 3
    else if n = 0 || n > 256 || o % 256 + n > 256 || c.inRunSlot o n then c.flashRefuse 2
    else
      let (c, l) := c.engBytes .hc0 true (c.rd rFLASH_SRC).toNat n
      c.flashStart (.program o (datas l))
  | 2 =>
    let o := o / 0x10000 * 0x10000
    if c.pwr.pfw then c.flashRefuse 3
    else if c.inRunSlot o 0x10000 then c.flashRefuse 2
    else c.flashStart (.erase o)
  | _ => c

/-- FLASH_OP_DONE (R528). -/
def execFlashOpDone (s : State) : Host.Outcome State Fault Refusal :=
  run (fun c => match if c.alive .sys then c.boot.flashOp else none with
    | none => c
    | some op =>
      let c := match op with
        | .program o l => c.flashProg o l
        | .erase o => c.flashErase o 0x10000
      let c := c.setBoot { c.boot with flashOp := none }
      (((c.wb rFLASH_CTRL 0 0 31 false).wb rFLASH_STAT 0 0 0 false).wb rFLASH_STAT 0 0 1 true).irq 200) s

/-- SYS_FLASH_RUNSLOT written: the first write after reset counts (R529). -/
def Chip.runslot (c : Chip) (v : Word) : Chip :=
  if c.boot.runslotWritten then c
  else (c.setBoot { c.boot with runslotWritten := true }).wr rRUNSLOT 0 0 (BitVec.ofNat 32 (fld v 1 0))

end Sys2Proof.Machine
end

