-- ==== Sys2Proof/Machine/Press.lean ====
section
/-! DEFINITION. The Press (spec/08): work items and their pool, dependence counters, dispatch, the frame kick, the canvas
samplers, staging. -/

namespace Sys2Proof.Machine

/-- The Press set. -/
def Chip.setPrs (c : Chip) (x : PrsSt) : Chip := { c with prs := x }

/-- Core `k` beside its memories. -/
def Chip.core (c : Chip) (k : Nat) : PCore := mget ({} : PCore) c.prs.cores k

/-- Core `k` set. -/
def Chip.setCore (c : Chip) (k : Nat) (x : PCore) : Chip := c.setPrs { c.prs with cores := mset ({} : PCore) c.prs.cores k x }

/-! ## Items (R234, R235) -/

/-- The item has left the WAITING state: READY or RUNNING. -/
def Item.awake (x : Item) : Bool := x.st != .waiting

/-- The pool set; PRS_POOL follows. -/
def Chip.setItems (c : Chip) (l : List Item) : Chip :=
  (c.setPrs { c.prs with items := l }).wr rPRS_POOL 0 0 (BitVec.ofNat 32 ((l.filter Item.awake).length * 2 ^ 16 + l.length))

/-- Descriptor word `i`. -/
def Item.word (x : Item) (i : Nat) : Word := x.desc.getD i 0

/-- PRIO, FAMILY and WAIT of an item. -/
def Item.prio (x : Item) : Nat := fld (x.word 0) 31 30
def Item.family (x : Item) : Nat := fld (x.word 0) 27 16
def Item.waitsOn (x : Item) : Nat := fld (x.word 2) 11 0

/-- A descriptor with a reserved bit set (R234, R235). -/
def descBad (w : List Word) : Bool :=
  let g := fun i => w.getD i 0
  bit (g 0) 28 || fld (g 0) 15 10 ≠ 0 || fld (g 2) 30 12 ≠ 0 || fld (g 3) 30 28 ≠ 0 || fld (g 3) 14 12 ≠ 0 || g 6 != 0 || g 7 != 0

/-- A refused descriptor counted. -/
def Chip.badDesc (c : Chip) : Chip := (c.inc rPRS_CNT 7 0).log 0x09 0xA6

/-- The slots of the pool. -/
def poolSlots : Nat := 8192

/-- Free slots. -/
def Chip.freeSlots (c : Chip) : Nat := poolSlots - c.prs.items.length

/-- The hardware reserve PRS_RSV, from 3 to 1,024 (R238). -/
def Chip.reserve (c : Chip) : Nat := max 3 (min 1024 (c.rf rPRS_RSV 0 0 12 0))

/-- The lowest free slot. -/
def Chip.freeSlot (c : Chip) : Option Nat := (List.range poolSlots).find? fun k => !c.prs.items.any fun x => x.slot = k

/-- Counter `i`: its value and FIRED. -/
def Chip.cntOf (c : Chip) (i : Nat) : Nat × Bool := mget (0, false) c.prs.cnts i

/-- Counter `i` set. -/
def Chip.setCnt (c : Chip) (i : Nat) (x : Nat × Bool) : Chip := c.setPrs { c.prs with cnts := mset (0, false) c.prs.cnts i x }

/-- A descriptor enters the pool in slot `k`, WAITING, or READY where it waits on nothing or its counter has fired (R240). -/
def Chip.enter (c : Chip) (k : Nat) (w : List Word) : Chip :=
  let x : Item := { slot := k, desc := w, st := .waiting }
  let ready := !bit (x.word 2) 31 || c.cntOf x.waitsOn = (0, true)
  c.setItems (c.prs.items ++ [if ready then { x with st := .ready } else x])

/-! ## Counters (R239..R241) -/

/-- Counter `i` fires: FIRED set, its waiting items READY in order of age; the graph-done counter is reported (R240, R245). -/
def Chip.cntFire (c : Chip) (i : Nat) : Chip :=
  let was := (c.cntOf i).2
  let c := c.setCnt i (0, true)
  let c := c.setItems (c.prs.items.map fun x =>
    if x.st = .waiting && bit (x.word 2) 31 && x.waitsOn = i then { x with st := .ready } else x)
  if !was && c.prs.done = some i then (c.inc rPRS_CNT 0 0).irq 97 else c

/-- A decrement of counter `i` (R241). -/
def Chip.cntDec (c : Chip) (i : Nat) : Chip :=
  let (v, f) := c.cntOf i
  if v = 0 then ((c.inc rPRS_CNT 3 0).irq 100).log 0x09 0xA2
  else if v = 1 then c.cntFire i
  else c.setCnt i (v - 1, f)

/-- A SET of counter `i` (R241). -/
def Chip.cntSet (c : Chip) (i v : Nat) : Chip := if v = 0 then c.cntFire i else c.setCnt i (v, false)

/-- PRS_CNT_SET written. -/
def Chip.cntWrite (c : Chip) (v : Word) : Chip := c.cntSet (fld v 27 16) (fld v 13 0)

/-- PRS_CNT_VAL read: the counter PRS_CNT_SEL selects. -/
def Chip.cntVal (c : Chip) : Word :=
  let (v, f) := c.cntOf (c.rf rCNT_SEL 0 0 11 0)
  BitVec.ofNat 32 (b2n f * 2 ^ 31 + v)

/-! ## Hardware submitters (R238, R245, R248) -/

/-- EXPANDING follows the expander. -/
def Chip.setExp (c : Chip) (e : Option Expand) : Chip := (c.setPrs { c.prs with exp := e }).wb rPRS_STATUS 0 0 2 e.isSome

/-- Step 5 of R245. -/
def Chip.expanded (c : Chip) : Chip :=
  let c := (c.setExp none).wb rPRS_STATUS 0 0 0 true
  if c.rb rKICK_CTRL 0 0 2 then c.irq 96 else c

/-- Eight words at a press-core address. -/
def Chip.descAt (c : Chip) (a : Nat) : Chip × List Word :=
  let (c, l) := c.engBytes .press false a 32
  (c, (List.range 8).map fun i => leWordAt (datas l) (4 * i))

/-- The slot a hardware submitter's credit gives it now: none when every free slot is a credit DMA has claimed, or while
PRS_CTRL.EN is 0 (R238). -/
def Chip.hwSlot (c : Chip) : Option Nat := if c.freeSlots ≤ c.dma.claimed || !c.rb rPRS_CTRL 0 0 0 then none else c.freeSlot

/-- Step 4 of R245: `n` descriptors from `a` on submitted, until there is no credit. -/
def Chip.expand (c : Chip) (k : Word) : Nat → Nat → Chip
  | 0, _ => c.expanded
  | n + 1, a =>
    match c.hwSlot with
    | none => c.setExp (some { addr := a, left := n + 1, k := k })
    | some q =>
      let (c, w) := c.descAt a
      if descBad w then c.badDesc.expand k n (a + 32)
      else (c.enter q (if bit (w.getD 0 0) 29 then w.set 5 k else w)).expand k n (a + 32)

/-- The descriptor of a P(k) event (R248): the registers' words with k in word 5. -/
def Chip.rasDesc (c : Chip) (k : Word) : List Word := ((List.range 8).map fun i => c.rd rRAS_D i).set 5 k

/-- One P(k) event submitted, or left at the head of its queue without a credit. -/
def Chip.evSubmit (c : Chip) : Chip :=
  match c.prs.evQ with
  | [] => c
  | k :: t =>
    let w := c.rasDesc k
    if descBad w then (c.setPrs { c.prs with evQ := t }).badDesc
    else match c.hwSlot with
      | none => c
      | some q => (c.setPrs { c.prs with evQ := t }).enter q w

/-- A credit has returned: the expander goes on, then the events (R237, R238). -/
def Chip.credit (c : Chip) : Chip :=
  let c := match c.prs.exp with
    | some e => c.expand e.k e.left e.addr
    | none => c
  if c.prs.exp.isSome then c else c.evSubmit

/-! ## Completion (R233, R239) -/

/-- The item running on core `k`. -/
def Chip.runningOn (c : Chip) (k : Nat) : Option Item := c.prs.items.find? fun x => x.st = .running k

/-- DETAIL of PRS_ITEM_FAULT: the slot and the function index (R233). DESIGN CHOICE (log entry 195): FUNC in [31:16], the
slot in [12:0]. -/
def Item.faultDetail (x : Item) : Word := BitVec.ofNat 32 (fld (x.word 0) 9 0 * 2 ^ 16 + x.slot)

/-- Core `k`'s item completes, as faulted or not. -/
def Chip.complete (c : Chip) (k : Nat) (fault : Bool) : Chip :=
  match c.runningOn k with
  | none => c
  | some x =>
    let w := x.word 3
    let c := if bit w 31 then c.cntDec (fld w 27 16) else c
    let c := if bit w 15 then c.cntDec (fld w 11 0) else c
    let c := c.setItems (c.prs.items.filter fun y => y.slot ≠ x.slot)
    let c := c.setPrs { c.prs with aff := mset none c.prs.aff x.family (some k) }
    let c := if fault then ((c.inc rPRS_CNT 2 0).irq 99).log 0x09 0xA1 (x.faultDetail) else c
    c.credit

/-- A press core executes: the Press runs and its PRS_RUN bit is 1 (R232). -/
def Chip.coreOn (c : Chip) (k : Nat) : Bool := c.up .prs && c.rb rPRS_RUN 0 0 k

/-- A core at its reset vector: nothing stalls, no sample is asked for. -/
def Chip.coreReset (c : Chip) (k : Nat) : Chip := c.setCore k { c.core k with stalled := false, smp := [], ninth := none, smpStall := none }

/-- ITEM_WATCHDOG (R233): the item on core `core` has run for PRS_WDOG cycles; the core is reset and released again. -/
def execItemWatchdog (core : Fin 16) (s : State) : Host.Outcome State Fault Refusal :=
  run (fun c => if c.coreOn core && c.rd rPRS_WDOG ≠ 0 && (c.runningOn core).isSome then (c.complete core true).coreReset core else c) s

/-- PRS_RUN written (R232): cores put back in reset complete their items as faulted. -/
def Chip.prsRun (c : Chip) (old : Word) : Chip :=
  c.each (List.range 16) fun c k =>
    if bit old k && !c.rb rPRS_RUN 0 0 k then (c.complete k true).coreReset k else c

/-- PRS_CTRL written: AFF_CLR clears the affinity table (R243); with EN what waits for credits goes on. -/
def Chip.prsCtrl (c : Chip) (v : Word) : Chip :=
  let c := if bit v 1 then c.setPrs { c.prs with aff := [] } else c
  if bit v 0 then c.credit else c

/-! ## Dispatch (R242, R243) -/

/-- Core `k` can take an item. -/
def Chip.eligible (c : Chip) (k : Nat) : Bool := c.coreOn k && c.rb rCORE_EN 0 0 k && (c.core k).stalled

/-- The item in slot `q` goes to core `k`, whose PCW_NEXT read returns. -/
def Chip.assign (c : Chip) (q k : Nat) : Chip :=
  let v := BitVec.ofNat 32 (2 ^ 31 + q)
  let c := c.setItems (c.prs.items.map fun x => if x.slot = q then { x with st := .running k } else x)
  (c.setCore k { c.core k with stalled := false, next := v }).answer v

/-- The core an item goes to now. -/
def Chip.coreFor (c : Chip) (x : Item) : Option Nat :=
  let low := (List.range 16).find? fun k => c.eligible k
  match mget none c.prs.aff x.family with
  | some k => if c.eligible k then some k else if x.waited then low else none
  | none => low

/-- The items the dispatcher examines, in order: by priority, the 16 oldest of each. -/
def Chip.examined (c : Chip) : List Item :=
  [3, 2, 1, 0].flatMap fun q => (c.prs.items.filter fun x => x.st = .ready && x.prio = q).take 16

/-- One cycle of the dispatcher. -/
def Chip.dispatch (c : Chip) : Chip :=
  if !(c.up .prs && c.rb rPRS_CTRL 0 0 0) then c else
  c.each c.examined fun c x => match c.coreFor x with
    | some k => c.assign x.slot k
    | none => c

/-- ITEM_DISPATCH (R242). -/
def execItemDispatch (s : State) : Host.Outcome State Fault Refusal := run (fun c => c.dispatch) s

/-- AFF_WAIT_EXPIRY (R243): the item in slot `slot` has been READY for PRS_AFF_WAIT cycles. -/
def execAffWaitExpiry (slot : Fin 8192) (s : State) : Host.Outcome State Fault Refusal :=
  run (fun c => (c.setItems (c.prs.items.map fun x => if x.slot = slot.val && x.st = .ready then { x with waited := true } else x)).dispatch) s

/-- PCW_NEXT read by core `k` (R231): a core with an item running reads VALID 0 at once, any other stalls. -/
def Chip.pcwNext (c : Chip) (k : Nat) : Chip :=
  if !c.coreOn k then c
  else if (c.runningOn k).isSome then (c.setCore k { c.core k with next := 0 }).answer 0
  else c.setCore k { c.core k with stalled := true }

/-- PCW_NEXT (R231). -/
def execPcwNext (core : Fin 16) (s : State) : Host.Outcome State Fault Refusal := run (fun c => c.pcwNext core) s

/-- PCW_D word `i` of core `k`: a descriptor word of its running item; 0 with none. -/
def Chip.pcwDesc (c : Chip) (k i : Nat) : Word := match c.runningOn k with | some x => x.word i | none => 0

/-! ## Software submission (R236) -/

/-- A submission of eight words: what the submitter's status register reads after it. The hardware reserve is not kept
from a hardware submitter (R238). -/
def Chip.submit (c : Chip) (hw : Bool) (w : List Word) : Chip × Word :=
  if !c.rb rPRS_CTRL 0 0 0 || c.freeSlots ≤ (if hw then 0 else c.reserve) then
    let c := (c.inc rPRS_CNT 4 0).log 0x09 0xA3
    let due := match c.prs.busyAt with | none => true | some t => t + 1000000 ≤ c.now
    (if due then (c.setPrs { c.prs with busyAt := some c.now }).irq 101 else c, BitVec.ofNat 32 (2 ^ 30))
  else if descBad w then (c.badDesc, BitVec.ofNat 32 (2 ^ 29))
  else match c.freeSlot with
    | none => (c, BitVec.ofNat 32 (2 ^ 30))
    | some q => (c.enter q w, BitVec.ofNat 32 (2 ^ 31 + q))

/-- The status register after a submission: its result; SLOT stays that of the last item accepted (R236). -/
def subStatus (old v : Word) : Word := if bit v 31 then v else v ||| (old &&& 0x1FFF)

/-- Word 7 of window `m` of PRS written: its eight words submitted; window 4 is the DMA submitter's and uses a credit a
PACK has claimed (R452). -/
def Chip.winSubmit (c : Chip) (m : Nat) : Chip :=
  let c := if m = 4 then { c with dma := { c.dma with claimed := c.dma.claimed - 1 } } else c
  let (c, v) := c.submit (m = 4) ((List.range 8).map fun i => c.rd rPRS_SUB m i)
  c.wr rPRS_SUBSTS m 0 (subStatus (c.rd rPRS_SUBSTS m) v)

/-- PCW_SUB7 of core `k` written. -/
def Chip.coreSubmit (c : Chip) (k : Nat) : Chip :=
  let (c, v) := c.submit false ((List.range 8).map fun i => c.rd rPCW_SUB k i)
  c.wr rPCW_SUBSTS k 0 (subStatus (c.rd rPCW_SUBSTS k) v)

/-! ## The frame kick (R245..R248) -/

/-- Step 2: the sampled buffer of each canvas latched, the samplers' cache invalidated (R251, R253). -/
def Chip.latchBufs (c : Chip) : Chip :=
  let c := c.each (List.range 4) fun c cv =>
    let f := c.rd rPRS_FORCE cv
    let (c, w) := c.canvState .press cv
    let pres := match w with | some w => (bufsIn w 3).head? | none => none
    c.wr rSMP_BUF cv 0 (if bit f 0 then BitVec.ofNat 32 (f.toNat / 4096 * 4096) else match pres with
      | some b => BitVec.ofNat 32 ((c.viewGeom cv).base b)
      | none => 1)
  c.setPrs { c.prs with kickK := some (gridK c.time.grid c.now), cache := [] }

/-- Step 3: `n` initialisation entries from `a` on. -/
def Chip.initCnts (c : Chip) : Nat → Nat → Chip
  | 0, _ => c
  | n + 1, a =>
    let (c, w) := c.engWord .press false a
    (c.cntSet (fld w 27 16) (fld w 13 0)).initCnts n (a + 4)

/-- A kick (R245..R247). -/
def Chip.kick (c : Chip) : Chip :=
  if !(c.up .prs && c.rb rPRS_CTRL 0 0 0) then c
  else if c.prs.held && c.rb rKICK_CTRL 0 0 1 then c
  else
    let a := (c.rd rKICK_T (c.rf rKICK_CTRL 0 0 0 0)).toNat
    let (c, h) := c.descAt a
    let w1 := h.getD 1 0
    if c.prs.exp.isSome || (bit w1 31 && !(c.cntOf (fld w1 11 0)).2) then
      (((c.inc rPRS_CNT 1 0).wb rPRS_STATUS 0 0 1 true).irq 98).log 0x09 0xA0
    else
      let k := BitVec.ofInt 32 (gridK c.time.grid c.now)
      let c := c.latchBufs
      let c := c.setPrs { c.prs with done := if bit w1 31 then some (fld w1 11 0) else none }
      let c := c.initCnts (fld (h.getD 0 0) 12 0) (h.getD 2 0).toNat
      c.expand k (fld (h.getD 0 0) 31 16) (h.getD 3 0).toNat

/-- PRESS_KICK (R245): a fire of a comparator with DEST 3 reaches PRS. -/
def execPressKick (s : State) : Host.Outcome State Fault Refusal :=
  run (fun c => c.when (c.prs.kickDue ≠ 0) fun c => (c.setPrs { c.prs with kickDue := c.prs.kickDue - 1 }).kick) s

/-- PRS_STATUS.HELD follows the raster's hold and HOLD_SUP (R247). -/
def Chip.heldFlag (c : Chip) : Chip := c.wb rPRS_STATUS 0 0 3 (c.prs.held && c.rb rKICK_CTRL 0 0 1)

/-- The oldest event word from the raster engine taken (R248): a P(k) event waits on the bridge while four wait for credits. -/
def Chip.rasterEvent (c : Chip) : Chip :=
  match c.prs.rasEv with
  | [] => c
  | .hold :: t => (c.setPrs { c.prs with rasEv := t, held := true }).heldFlag
  | .resume :: t => (c.setPrs { c.prs with rasEv := t, held := false }).heldFlag
  | .commit k :: t =>
    if !c.rb rHWSUB 0 0 0 then c.setPrs { c.prs with rasEv := t }
    else if c.prs.evQ.length ≥ 4 then c
    else
      let c := c.setPrs { c.prs with rasEv := t, evQ := c.prs.evQ ++ [k] }
      if c.prs.exp.isSome then c else c.evSubmit

/-- RASTER_EVENT_SUBMIT (R248). -/
def execRasterEventSubmit (s : State) : Host.Outcome State Fault Refusal := run (fun c => c.when (c.up .prs) fun c => c.rasterEvent) s

/-! ## Canvas samplers (R250..R254) -/

/-- The 64-byte line at `a` read through the samplers' cache of 128 lines: a hit makes it the most recently used, a miss
reads the whole line and drops the least recently used (R253). `fresh` reads the Cellar in any case
(DESIGN CHOICE, log entry 194). -/
def Chip.smpLine (c : Chip) (fresh : Bool) (a : Nat) : Chip × List (Byte × Bool) :=
  let old := c.prs.cache.filter fun x => x.1 ≠ a
  match if fresh then none else c.prs.cache.find? fun x => x.1 = a with
  | some x => (c.setPrs { c.prs with cache := x :: old }, x.2)
  | none =>
    let (c, l) := c.celBytes .press a 64
    (c.setPrs { c.prs with cache := ((a, l) :: old).take 128 }, l)

/-- `n` bytes at `a` by whole lines. -/
def Chip.smpBytes (c : Chip) (fresh : Bool) (a n : Nat) : Chip × List (Byte × Bool) :=
  let (c, l) := (List.range ((a % 64 + n + 63) / 64)).foldl (fun (x : Chip × List (Byte × Bool)) i =>
    let (c, l) := x.1.smpLine fresh (a / 64 * 64 + 64 * i)
    (c, x.2 ++ l)) (c, [])
  (c, (l.drop (a % 64)).take n)

/-- The components of canvas pixel (x, y), edge-clamped, of the buffer at `a`; a component from a poisoned word is 0
(R152, R252). -/
def Chip.samplePixel (c : Chip) (g : Geom) (fresh : Bool) (a x y : Nat) : Chip × (Nat × Nat × Nat) :=
  let x := min x (g.w - 1)
  let y := min y (g.h - 1)
  let (c, l) := c.smpBytes fresh (a + y * g.stride + x / ppgOf g.fmt * groupBytes g.fmt) (groupBytes g.fmt)
  let i := x % ppgOf g.fmt
  let comp := fun j => if sampleBad g.fmt i j l then 0 else n16 g.fmt (Sys2Proof.Machine.sampleOf g.fmt i j (datas l))
  (c, (comp 0, comp 1, comp 2))

/-- A function of component and place combined over the three components. -/
def comp3 (f : (Nat × Nat × Nat → Nat) → Nat) : Nat × Nat × Nat := (f (·.1), f (·.2.1), f (·.2.2))

/-- Bilinear interpolation of four corner components (R252). -/
def bilerp (fx fy a b d e : Nat) : Nat := ((a * (256 - fx) + b * fx) * (256 - fy) + (d * (256 - fx) + e * fx) * fy + 32768) / 65536

/-- The area mean of the sum `s` of `n` components (R252). -/
def areaMean (s n : Nat) : Nat := (s * ((2 ^ 25 + n) / (2 * n)) + 2 ^ 23) / 2 ^ 24

/-- A frame has started since the last latch (R254). -/
def Chip.smpLate (c : Chip) : Bool :=
  match c.prs.kickK with
  | some k => decide (gridK c.time.grid c.now > k)
  | none => false

/-- Canvas `cv` sampled from the buffer at `a` (R252); `late` tells of a sample whose
buffer may have been refilled, which returns what it holds now (R254). -/
def Chip.sampleCanvas (c : Chip) (late : Bool) (cv a : Nat) (r : SmpReq) : Chip × (Nat × Nat × Nat) :=
  let g := c.viewGeom cv
  match fld r.w0 29 28 with
  | 0 => c.samplePixel g late a (r.u / 256) (r.v / 256)
  | 1 =>
    let u := r.u - 128
    let v := r.v - 128
    let (c, p) := c.samplePixel g late a (u / 256) (v / 256)
    let (c, q) := c.samplePixel g late a (u / 256 + 1) (v / 256)
    let (c, s) := c.samplePixel g late a (u / 256) (v / 256 + 1)
    let (c, t) := c.samplePixel g late a (u / 256 + 1) (v / 256 + 1)
    (c, comp3 fun h => bilerp (u % 256) (v % 256) (h p) (h q) (h s) (h t))
  | _ =>
    let w := fld r.w0 25 22 + 1
    let n := w * (fld r.w0 21 18 + 1)
    let (c, l) := (List.range n).foldl (fun (z : Chip × (Nat × Nat × Nat)) i =>
      let (c, p) := z.1.samplePixel g late a (r.u / 256 + i % w) (r.v / 256 + i / w)
      (c, (z.2.1 + p.1, z.2.2.1 + p.2.1, z.2.2.2 + p.2.2))) (c, (0, 0, 0))
    (c, comp3 fun h => areaMean (h l) n)

/-- A canvas request under the fallback policy of R251; before the first kick nothing is latched. -/
def Chip.sampleFb (c : Chip) (cv : Nat) (r : SmpReq) : Chip × (Nat × Nat × Nat) :=
  let buf := c.rd rSMP_BUF cv
  let held := if bit buf 0 || c.prs.kickK.isNone then (c, (0, 0, 0)) else c.sampleCanvas c.smpLate cv buf.toNat r
  if !c.rb rCANV_STAT cv 0 2 then held
  else match c.rf rPRS_FB 0 0 (2 * cv + 1) (2 * cv) with
    | 0 => held
    | 1 => (c, (0, 0, 0))
    | 2 => c.sampleCanvas c.smpLate cv ((c.rd rPRS_FORCE cv).toNat / 4096 * 4096) r
    | _ => (c, c.zoneColour (fld r.w0 7 0))

/-- A request's result (R250, R252). -/
def Chip.sampleOf (c : Chip) (r : SmpReq) : Chip × (Nat × Nat × Nat) :=
  if fld r.w0 29 28 = 3 then (c, (0, 0, 0)) else
  match fld r.w0 31 30 with
  | 0 => c.sampleFb (fld r.w0 27 26) r
  | 1 => (c, c.zoneColour (fld r.w0 7 0))
  | 2 =>
    let (c, l) := c.engBytes .press false ((c.rd rLIVE_BASE).toNat + 8 * fld r.w0 11 0) 8
    let d := datas l
    (c, (leNat (slice d 0 2), leNat (slice d 2 2), leNat (slice d 4 2)))
  | _ => (c, (0, 0, 0))

/-- A canvas request after the next frame start is late (R254). -/
def Chip.lateSample (c : Chip) (w0 : Word) : Chip :=
  if fld w0 31 30 = 0 && c.smpLate then ((c.inc rPRS_CNT 5 0).irq 102).log 0x09 0xA4 else c

/-- PCW_SMP_REQ2 written by core `k`: the request issued; the ninth outstanding stalls the core (R250). -/
def Chip.sampleRequest (c : Chip) (k : Nat) (v : Word) : Chip :=
  if !c.coreOn k || (c.core k).ninth.isSome then c else
  let r : SmpReq := { w0 := c.rd rSMP_REQ0 k, u := c.rf rSMP_REQ1 k 0 20 0, v := fld v 20 0 }
  let x := c.core k
  if x.smp.length ≥ 8 then c.setCore k { x with ninth := some r }
  else (c.setCore k { x with smp := x.smp ++ [r] }).lateSample r.w0

/-- SAMPLE_REQUEST (R250). -/
def execSampleRequest (core : Fin 16) (v : Word) (s : State) : Host.Outcome State Fault Refusal :=
  run (fun c => c.sampleRequest core v) s

/-- The first request without a result, counted from the oldest. -/
def firstOpen (l : List SmpReq) : Nat := (l.takeWhile fun r => r.res.isSome).length

/-- PCW_SMP_B's answer by core `k` for the ready result `v`: B, and the result goes; a ninth request takes its place. -/
def Chip.smpTake (c : Chip) (k : Nat) (v : Nat × Nat × Nat) : Chip :=
  let x := c.core k
  let c := c.answer (BitVec.ofNat 32 v.2.2)
  match x.ninth with
  | none => c.setCore k { x with smp := x.smp.tail, smpStall := none }
  | some r => (c.setCore k { x with smp := x.smp.tail ++ [r], ninth := none, smpStall := none }).lateSample r.w0

/-- A read of PCW_SMP_RG, or with `b` of PCW_SMP_B, by core `k`: answered when the oldest result is ready, else stalled
(R231). -/
def Chip.smpRead (c : Chip) (k : Nat) (b : Bool) : Chip :=
  match (c.core k).smp.head?.bind (·.res) with
  | none => c.setCore k { c.core k with smpStall := some b }
  | some v => if b then c.smpTake k v else (c.setCore k { c.core k with smpStall := none }).answer (BitVec.ofNat 32 (v.1 * 2 ^ 16 + v.2.1))

/-- SAMPLE_RESULT (R250, R252): the oldest request of core `core` that has no result gets it, and a read stalled for it is
answered (R231). -/
def execSampleResult (core : Fin 16) (s : State) : Host.Outcome State Fault Refusal :=
  run (fun c =>
    let l := (c.core core).smp
    match if c.coreOn core then l[firstOpen l]? else none with
    | none => c
    | some r =>
      let (c, v) := c.sampleOf r
      let c := c.setCore core { c.core core with smp := l.set (firstOpen l) { r with res := some v } }
      match (c.core core).smpStall with
      | none => c
      | some b => c.smpRead core b) s

/-- SAMPLE_POP (R231): PCW_SMP_B read by core `core`. -/
def execSamplePop (core : Fin 16) (s : State) : Host.Outcome State Fault Refusal :=
  run (fun c => c.when (c.coreOn core) fun c => c.smpRead core true) s

/-! ## Staging (R258, R281) -/

/-- The KIND a port's mode takes. -/
def kindOf : Nat → Nat
  | 1 => 0 | 2 => 2 | 3 => 1 | _ => 16

/-- The records core `k` has posted that wait. -/
def Chip.stgWaiting (c : Chip) (k : Nat) : Nat := ((c.prs.stg.flatMap (·.2)).filter fun r => r.core = k).length

/-- PCW_STG_STS of core `k`. -/
def Chip.stgStatus (c : Chip) (k : Nat) : Word := BitVec.ofNat 32 (b2n (c.core k).refused * 2 ^ 31 + c.stgWaiting k % 65536)

/-- PCW_STG_POST written by core `k` (R258). -/
def Chip.stgPost (c : Chip) (k : Nat) (v : Word) : Chip :=
  if !c.coreOn k then c else
  let a := 0x40000000 + fld v 31 20 * 512
  let p := fld v 5 0
  let h := c.word a
  let n := fld h 15 0
  if p ≥ 48 || kindOf (c.modeNow p) ≠ fld h 31 28 || c.ringOdd p || n = 0 || n > 4096 || (c.isLane p && n > 62) then
    (((c.setCore k { c.core k with refused := true }).inc rPRS_CNT 6 0).irq 103).log 0x09 0xA5
  else
    let c := c.setCore k { c.core k with refused := false }
    c.setPrs { c.prs with stg := mset [] c.prs.stg p (mget [] c.prs.stg p ++ [({ core := k, addr := a } : Posted)]) }

/-- PCW_STG_POST (R258). -/
def execPcwStgPost (core : Fin 16) (v : Word) (s : State) : Host.Outcome State Fault Refusal := run (fun c => c.stgPost core v) s

/-- `n` words at `a`. -/
def Chip.wordsAt (c : Chip) (a n : Nat) : List Word := (List.range n).map fun i => c.word (a + 4 * i)

/-- The oldest record posted for port `p` moved into its filling bank (R258, R281): a LANE_CMD record becomes a CMD cell when
the Press holds credits for it; a PULSE or DMX record takes the place of a whole record not yet sent. A port whose credit count
came wrong takes nothing (R469). -/
def Chip.stgMove (c : Chip) (p : Nat) : Chip :=
  match mget [] c.prs.stg p with
  | [] => c
  | r :: t =>
    let h := c.word r.addr
    let n := fld h 15 0
    let ws := c.wordsAt (r.addr + 4) n
    let d := c.setPrs { c.prs with stg := mset [] c.prs.stg p t }
    if (c.port p).crdBad then c
    else if c.isLane p && fld h 31 28 = 0 then (if c.room p false n then d.commitCell p false (cellHead 3 (fld h 27 16) n 0) ws else c)
    else if kindOf (c.modeNow p) ≠ fld h 31 28 then d
    else d.commitRecord p h ws

/-- STAGING_MOVE (R258). -/
def execStagingMove (p : Fin 48) (s : State) : Host.Outcome State Fault Refusal :=
  run (fun c => c.when (c.up .prs && c.up (.bank (bankOf p))) fun c => c.stgMove p) s

end Sys2Proof.Machine
end

