-- ==== Sys2Proof/Machine/Service.lean ====
section
/-! DEFINITION. The error log, the UARTs and the Attic dump (spec/18 R533..R541, R580). -/

namespace Sys2Proof.Machine

/-! ## The error log (R534..R538) -/

/-- The address of entry `q`. -/
def errEntry (q : Nat) : Nat := 0x0103F000 + 16 * (q % 256)

/-- Every queue head, as (source, report). -/
def Chip.errHeads (c : Chip) : List (Nat × Rep) :=
  c.err.queues.filterMap fun p => match p.2 with
    | r :: _ => some (p.1, r)
    | [] => none

/-- The head accepted earliest; of heads of one moment the lower source. -/
def firstHead (l : List (Nat × Rep)) : Option (Nat × Rep) :=
  l.foldl (fun m x => match m with
    | some y => if x.2.cyc < y.2.cyc then some x else m
    | none => some x) none

/-- Word 2 of an entry. -/
def errWord2 (src code count : Nat) : Word := BitVec.ofNat 32 (src * 2 ^ 24 + code % 256 * 2 ^ 16 + min count 65535)

/-- Report `r` of source `src` coalesced into its open entry, when the three conditions of R537 hold. -/
def Chip.errCoalesce (c : Chip) (src : Nat) (r : Rep) : Option Chip :=
  match mget none c.err.opens src with
  | none => none
  | some e =>
    if e.code = r.code && r.t < e.t + 1000000 && ((c.rd rERR_SEQ) - BitVec.ofNat 32 e.seq).toNat ≤ 256 then
      let e' := { e with count := min 65535 (e.count + 1) }
      let c := (c.setWord (errEntry e.seq + 8) (errWord2 src e.code e'.count)).setWord (errEntry e.seq + 12) r.detail
      let c := (c.sramStore (errEntry e.seq + 8) 8).inc rERR_COAL 0 0
      some { c with err := { c.err with opens := mset none c.err.opens src (some e') } }
    else none

/-- A new entry opened for report `r` of source `src` (R537, R538, R551). -/
def Chip.errOpen (c : Chip) (src : Nat) (r : Rep) : Chip :=
  let q := (c.rd rERR_SEQ).toNat
  let full := (c.rd rERR_SEQ - c.rd rERR_RDSEQ).toNat ≥ 256
  let c := (c.setWords (errEntry q) [tsWord r.t 0, tsWord r.t 1, errWord2 src r.code 1, r.detail]).sramStore (errEntry q) 16
  let c := c.inc rERR_SEQ 0 0
  let e : OpenEnt := { seq := q, code := r.code, t := r.t, count := 1 }
  let c := { c with err := { c.err with opens := mset none c.err.opens src (some e) } }
  let c := if full then (c.wb rERR_STATUS 0 0 0 true).irq 210 else c
  if c.rb rERR_CTRL 0 0 1 then c.irq 208 else c

/-- ERROR_REPORT (R535): a report of source `src`. -/
def execErrorReport (src : Fin 70) (code : BitVec 8) (detail : Word) (s : State) : Host.Outcome State Fault Refusal :=
  run (fun c => c.when (c.alive .sys) fun c => c.log src code.toNat detail) s

/-- The earliest queue head recorded. -/
def Chip.errRecord (c : Chip) : Chip :=
  match firstHead c.errHeads with
  | none => c
  | some (src, r) =>
    let q := (mget [] c.err.queues src).drop 1
    let c := { c with err := { c.err with queues := mset [] c.err.queues src q } }
    match c.errCoalesce src r with
    | some c => c
    | none => c.errOpen src r

/-- ERR_RECORD (R536, R537). -/
def execErrRecord (s : State) : Host.Outcome State Fault Refusal := run (fun c => if !c.alive .sys then c else c.errRecord) s

/-- Every report in the queues recorded: a reset that firmware requests comes after the entries it has logged (R536; DEDUCED, log
entry 237). -/
def Chip.errFlush (c : Chip) : Chip := c.each (List.range (4 * errSources)) fun c _ => c.errRecord

/-! ## UARTs (R543, R580) -/

/-- UART `n` beside its registers. -/
def Chip.uart (c : Chip) (n : Nat) : Uart := mget ({} : Uart) c.uarts n

/-- UART `n` set. -/
def Chip.setUart (c : Chip) (n : Nat) (x : Uart) : Chip := { c with uarts := mset ({} : Uart) c.uarts n x }

/-- UART_STAT: the bytes held and free beside its stored bits. -/
def Chip.uartStat (c : Chip) (n : Nat) : Word :=
  setFld (setFld (c.rd rUART_STAT n) 24 16 (c.uart n).rx.length) 8 3 ((256 - (c.uart n).tx.length) / 8)

/-- UART_DATA read: the oldest byte received, 0 where there is none. -/
def Chip.uartRead (c : Chip) (n : Nat) : Chip × Word :=
  match (c.uart n).rx with
  | [] => (c, 0)
  | b :: t => (c.setUart n { c.uart n with rx := t }, b.setWidth 32)

/-- UART_DATA written: a byte queued; a full FIFO does not take it. -/
def Chip.uartWrite (c : Chip) (n : Nat) (v : Word) : Chip :=
  let x := c.uart n
  if x.tx.length ≥ 256 then c else c.setUart n { x with tx := x.tx ++ [v.setWidth 8] }

/-- UART_RX_BYTE (R580): a byte from RXD, with a framing error or not; a full FIFO loses it. -/
def execUartRxByte (n : Fin 2) (b : Byte) (framing : Bool) (s : State) : Host.Outcome State Fault Refusal :=
  run (fun c => if !(c.alive .slow && c.rb rUART_CTRL n 0 0) then c else
    let c := if framing then c.wb rUART_STAT n 0 1 true else c
    let x := c.uart n
    if x.rx.length ≥ 256 then c.wb rUART_STAT n 0 0 true else c.setUart n { x with rx := x.rx ++ [b] }) s

/-- UART_TX_BYTE (R580): the oldest byte of the transmit FIFO leaves on TXD. -/
def execUartTxByte (n : Fin 2) (s : State) : Host.Outcome State Fault Refusal :=
  run (fun c => if !(c.alive .slow && c.rb rUART_CTRL n 0 0) then c else
    match (c.uart n).tx with
    | [] => c
    | b :: t => (c.setUart n { c.uart n with tx := t }).emit (.uart n [b])) s

/-- UART_BREAK (R580): RXD has been low for 11 bit times. -/
def execUartBreak (n : Fin 2) (s : State) : Host.Outcome State Fault Refusal :=
  run (fun c => c.when (c.alive .slow && c.rb rUART_CTRL n 0 0) fun c => c.wb rUART_STAT n 0 2 true) s

/-! ## The Attic dump (R539..R541) -/

/-- The address of dump area `a` and its size. -/
def dumpArea (a : Nat) : Nat := 0x9FC00000 + a * 0x200000
def dumpSize : Nat := 0x200000

/-- The MAGIC of a dump. -/
def dumpMagic : Nat := 0x43545441

/-- A dump area's bytes as HC0 reads them; a word it does not get reads as 0 after a bus error (R152). -/
def Chip.attic (c : Chip) (a o n : Nat) : Chip × List Byte :=
  let (c, l) := c.celLoads .hc0 true (dumpArea a + o) n
  (c, l.map (·.1))

/-- Whether the first `n` sections of the header `h` of area `a` lie in it and match their CRCs. -/
def Chip.dumpSecs (c : Chip) (a : Nat) (h : List Byte) : Nat → Chip × Bool
  | 0 => (c, true)
  | n + 1 =>
    let f := fun k => leNat (slice h (48 + 16 * n + k) 4)
    if f 4 + f 8 > dumpSize then (c, false) else
    let (c, l) := c.attic a (f 4) (f 8)
    if f 12 = (crc32c l).toNat then c.dumpSecs a h n else (c, false)

/-- Dump area `a` as read: its header, and whether the dump is valid (R539). -/
def Chip.dumpRead (c : Chip) (a : Nat) : Chip × List Byte × Bool :=
  let (c, h) := c.attic a 0 256
  let ns := leNat (slice h 6 2)
  if leNat (h.take 4) = dumpMagic && leNat (slice h 252 4) = (crc32c (slice h 4 32 ++ slice h 40 212)).toNat && 1 ≤ ns && ns ≤ 8 then
    let (c, ok) := c.dumpSecs a h ns
    (c, h, ok)
  else (c, h, false)

/-- The SEQ in a dump's header, and its PORCH flag. -/
def dumpSeq (h : List Byte) : Nat := leNat (slice h 8 4)
def dumpPorchFlag (h : List Byte) : Bool := (h.getD 36 0).getLsbD 0

/-- The area of the valid dump with the highest SEQ, and its header. -/
def Chip.newestDump (c : Chip) : Chip × Option (Nat × List Byte) :=
  let (c, h0, ok0) := c.dumpRead 0
  let (c, h1, ok1) := c.dumpRead 1
  (c, match ok0, ok1 with
    | true, true => some (if dumpSeq h1 > dumpSeq h0 then (1, h1) else (0, h0))
    | true, false => some (0, h0)
    | false, true => some (1, h1)
    | false, false => none)

/-- Bytes HC0 writes in the Attic: on a poisoned word a bus error with CAUSE 2 (R153), with no answer one with CAUSE 3 (R23). -/
def Chip.atticPut (c : Chip) (a o : Nat) (l : List Byte) : Chip :=
  let n := dumpArea a + o
  let (c, r) := c.celWrite .hc0 true n l
  if r == .down then c.busErr .hc0 true true (BitVec.ofNat 32 n) 3 else c

/-- TRL_STATUS: its stored bits, the position and whether it is the master's. -/
def Chip.trlStatusWord (c : Chip) : Word := setFld (setBit (c.rd rTRL_STATUS) 0 (c.pos = 0)) 23 21 c.pos

/-- Section 3: the RUNNING item of each press core; the cycles it has run are not the model's. -/
def Chip.dumpPress (c : Chip) : List Word :=
  (List.range 16).flatMap fun k => match c.runningOn k with
    | some x => [BitVec.ofNat 32 x.slot, BitVec.ofNat 32 (fld (x.word 0) 9 0), BitVec.ofNat 32 x.family, Config.freeWord c.cyc (0x300 + k)]
    | none => [0xFFFFFFFF, 0, 0, 0]

/-- Section 4: the error log. -/
def Chip.dumpLog (c : Chip) : List Word :=
  let q := c.rd rERR_SEQ
  ((List.range 256).flatMap fun i =>
    let e := errEntry (q - 256 + BitVec.ofNat 32 i).toNat
    [c.word e, c.word (e + 4), c.word (e + 8), c.word (e + 12)])
  ++ [q, c.rd rERR_RDSEQ, c.rd rERR_STATUS] ++ (List.range 70).map fun i => c.rd rERR_LOST i

/-- Section 5: the queues. -/
def Chip.dumpQueues (c : Chip) : List Word :=
  [c.queNe, c.rd rQUE_XLOST, c.rd rQUE_XRESETS] ++ ((List.range 32).map fun q => c.rd rQUE_STAT q)
  ++ (List.range 16).flatMap fun n => [c.rd rDMA_STAT n, c.rd rDMA_CUR n, c.rd rDMA_REM n]

/-- Section 6: the frame state. -/
def Chip.dumpFrame (c : Chip) : List Word :=
  [c.rd rRAS_STATUS, c.rd rRAS_EPOCH] ++ ((List.range 4).map fun i => c.rd rRAS_PRES i) ++ ((List.range 48).map fun p => c.rd rRAS_SIG p)
  ++ [tsWord c.now 0, tsWord c.now 1, tsWord c.now 2, c.time.frac]
  ++ [c.rd rCEL_STATUS, c.rd rPRS_STATUS, c.rd rCDR_STATUS, c.trlStatusWord]

/-- A list of bytes cut or filled with zeros to `n`. -/
def fitBytes (l : List Byte) (n : Nat) : List Byte := l.take n ++ List.replicate (n - l.length) 0

/-- The section table: each section's kind and bytes, laid out from offset 256 on. -/
def dumpTable : Nat → List (Nat × List Byte) → List (Nat × Nat × List Byte)
  | _, [] => []
  | o, (k, l) :: t => (k, o, l) :: dumpTable (o + l.length) t

/-- FATAL_DUMP (R540): the fatal event of processor `who` (0 HC0, 1 HC1, 2 NC), its CAUSE, the captured images of the
house cores and of NC and firmware's own section, which only the environment has; then a warm reset. -/
def execFatalDump (who : Fin 3) (cause : Word) (cores nc fw : List Byte) (s : State) : Host.Outcome State Fault Refusal :=
  run (fun c => if c.pwr.phase != .running then c else
    let t := c.now
    let c := (c.log (0x42 + who) 0xF9).errFlush
    let (c, newest) := c.newestDump
    let a := match newest with | some x => 1 - x.1 | none => 0
    let seq := match newest with | some x => dumpSeq x.2 + 1 | none => 1
    let words := fun l : List Word => l.flatMap wordBytes
    let secs := dumpTable 256 [(1, fitBytes cores 1024), (2, fitBytes nc 256), (3, words c.dumpPress), (4, words c.dumpLog),
      (5, words c.dumpQueues), (6, words c.dumpFrame), (7, fw.take 0x100000)]
    let head := natLE 2 1 ++ natLE 2 7 ++ natLE 4 seq ++ words [tsWord t 0, tsWord t 1, tsWord t 2] ++ wordBytes cause
      ++ natLE 4 c.ras.k ++ wordBytes (c.rd rVINTAGE)
    let tail := List.replicate 8 0 ++ fitBytes (secs.flatMap fun x =>
        natLE 4 x.1 ++ natLE 4 x.2.1 ++ natLE 4 x.2.2.length ++ wordBytes (crc32c x.2.2)) 128 ++ List.replicate 76 0
    let flags := natLE 4 (c.objNat 0xB100 5 0 % 2)
    let c := c.atticPut a 0 [0, 0, 0, 0]
    let c := c.each secs fun c x => c.atticPut a x.2.1 x.2.2
    let c := c.atticPut a 4 (head ++ flags ++ tail ++ wordBytes (crc32c (head ++ tail)))
    let c := c.atticPut a 0 (natLE 4 dumpMagic)
    c.warmReset 4) s

/-- DBG_ATTACH (R549): a debugger attaches over JTAG. -/
def execDbgAttach (s : State) : Host.Outcome State Fault Refusal :=
  run (fun c => c.when (c.pwr.phase == .running) fun c => c.log 0x00 0x0A) s

end Sys2Proof.Machine
end

