-- ==== Sys2Proof/Machine/Vault.lean ====
section
/-! DEFINITION. The Vault: key slots, measurements, its fifteen operations, persistent records and the life-cycle
change (spec/16). -/

namespace Sys2Proof.Machine

/-! ## Fuses (R477, R480) -/

/-- MACBASE as bytes, byte 0 the most significant, as in a frame (DEDUCED, log entry 138). -/
def Fuses.macBytes (f : Fuses) : List Byte := natBE 6 f.mac.toNat

/-- Whether the CRC field of the fuses checks. -/
def Fuses.crcOk (f : Fuses) : Bool := crc32c (f.dus ++ f.vkh ++ natLE 8 f.serial.toNat ++ f.macBytes) == f.crc

/-- The device-unique secret is usable: the CRC checks and the state is not SCRAP. -/
def Chip.dusOk (c : Chip) : Bool := c.fuses.crcOk && c.lc ≠ 4

/-- Register word `i` of the FUSE block. -/
def Chip.fuseWord (c : Chip) (i : Nat) : Word :=
  let f := c.fuses
  if i = 0 then BitVec.ofNat 32 (c.lc * 2 ^ 29 + f.s.toNat * 2 ^ 12 + f.r.toNat * 2 ^ 8 + f.d.toNat * 2 ^ 4 + f.p.toNat)
  else if i = 1 then BitVec.ofNat 32 (b2n c.dusOk * 2 + b2n f.crcOk)
  else if i = 4 then BitVec.ofNat 32 f.serial.toNat
  else if i = 5 then BitVec.ofNat 32 (f.serial.toNat / 2 ^ 32)
  else if i = 6 then leWordAt f.macBytes 0
  else if i = 7 then leWordAt f.macBytes 4
  else if 8 ≤ i && i < 20 then leWordAt f.vkh (4 * (i - 8))
  else if i = 20 then f.crc
  else 0

/-- VLT_STATUS: its stored bits, DUS_OK and STATE. -/
def Chip.vltStatus (c : Chip) : Word :=
  setFld (setBit (c.rd rVLT_STATUS) 8 c.dusOk) 11 9 c.lc

/-- The serial number as bytes, most significant first. -/
def Chip.serialBytes (c : Chip) : List Byte := natBE 8 c.fuses.serial.toNat

/-! ## Slots (R481, R482) -/

/-- The Vault beside its registers, set. -/
def Chip.setVlt (c : Chip) (x : VltSt) : Chip := { c with vlt := x }

/-- Key slot `s`. -/
def Chip.keySlot (c : Chip) (s : Nat) : KeySlot := mget ({} : KeySlot) c.vlt.slots s

/-- Key slot `s` set. -/
def Chip.setKeySlot (c : Chip) (s : Nat) (x : KeySlot) : Chip := c.setVlt { c.vlt with slots := mset ({} : KeySlot) c.vlt.slots s x }

/-- The key in slot `s`. -/
def Chip.keyOf (c : Chip) (s : Nat) : List Byte := (c.keySlot s).key.getD []

/-- VLT_SLOTs_STAT: LOADED and FIXED. -/
def Chip.slotStat (c : Chip) (s : Nat) : Word :=
  BitVec.ofNat 32 (b2n (c.keySlot s).key.isSome * 2 ^ 31 + (if s < 6 then 2 ^ 30 else 0))

/-- Fields of ATTR0: LIFECYCLE admits the state, the DESTROY_ON mask, BOUND, PERSIST. -/
def Chip.attrLc (c : Chip) (s : Nat) : Bool := c.lc ≠ 4 && c.rb (rATTR0 s) 0 0 (9 + c.lc)
def Chip.destroyOn (c : Chip) (s : Nat) : Nat := c.rf (rATTR1 s) 0 0 4 0
def Chip.bound (c : Chip) (s : Nat) : Bool := c.rb (rATTR0 s) 0 0 3
def Chip.persist (c : Chip) (s : Nat) : Bool := c.rb (rATTR0 s) 0 0 2

/-- How an operation ends (R489): with output, refused by a slot's attributes or state (R481), with a result code, or not
at all while the power-fail warning keeps a record from being begun (R496). -/
inductive VRes where
  | ok (out : List Byte)
  | refuse (code : Nat)
  | code (n : Nat)
  | waits
  deriving DecidableEq, Repr

/-- DENIED, EMPTY, FAIL, STORE, PARAM, LIFECYCLE. -/
def vDenied : VRes := .refuse 1
def vEmpty : VRes := .refuse 2
def vFail : VRes := .code 3
def vStore : VRes := .code 4
def vParam : VRes := .code 5
def vLife : VRes := .refuse 6

/-- The master and world of access `a` satisfy MASTERS and WORLD of slot `s`. -/
def Chip.slotFor (c : Chip) (a : Access) (s : Nat) : Bool :=
  c.rb (rATTR0 s) 0 0 (16 + masterId a.master) &&
  match c.rf (rATTR0 s) 0 0 15 14 with
  | 0 => c.worldS a
  | 1 => !c.worldS a
  | 2 => true
  | _ => false

/-- What refuses an operation of access `a` on slot `s` that needs USAGE bit `u` (R481). -/
def Chip.slotRefusal (c : Chip) (a : Access) (s u : Nat) : Option VRes :=
  if !c.slotFor a s || !c.rb (rATTR0 s) 0 0 (4 + u) then some vDenied
  else if !c.attrLc s then some vLife
  else if (c.keySlot s).key.isNone then some vEmpty
  else none

/-! ## Measurements (R486, R487) -/

/-- The 48 bytes of MEASi. -/
def Chip.meas (c : Chip) (i : Nat) : List Byte := (List.range 12).flatMap fun j => wordBytes (c.rd rMEAS i j)

/-- MEASi set. -/
def Chip.setMeas (c : Chip) (i : Nat) (l : List Byte) : Chip :=
  c.each (List.range 12) fun c j => c.wr rMEAS i j (leWordAt l (4 * j))

/-- MEASi extended with `v`. -/
def Chip.extend (c : Chip) (i : Nat) (v : List Byte) : Chip := c.setMeas i (sha384 (c.meas i ++ v))

/-- The measurement digest md. -/
def Chip.md (c : Chip) : List Byte := sha384 ((List.range 8).flatMap fun i => c.meas i)

/-- MFINAL is set. -/
def Chip.mfinal (c : Chip) : Bool := c.rb rVLT_STATUS 0 0 4

/-- VLT_CTRL written with MFINAL. -/
def Chip.vltCtrl (c : Chip) (v : Word) : Chip := if bit v 0 then (c.wb rVLT_STATUS 0 0 4 true).wb rVLT_CTRL 0 0 0 true else c

/-- VLT_VINTAGE written: the first write after reset counts (R488). -/
def Chip.vltVintage (c : Chip) (v : Word) : Chip :=
  if c.vlt.vintageWritten then c else (c.setVlt { c.vlt with vintageWritten := true }).wr rVINTAGE 0 0 v

/-! ## Derivation (R485) -/

/-- The bytes of an ASCII string. -/
def ascii (s : String) : List Byte := s.toList.map fun ch => BitVec.ofNat 8 ch.toNat

/-- 48 zero bytes. -/
def z48 : List Byte := List.replicate 48 0

/-- A key derived from the device-unique secret, under z48 or md. -/
def Chip.dusKey (c : Chip) (bound : Bool) (info : String) : List Byte :=
  hkdf (if bound then c.md else z48) c.fuses.dus (ascii info) 32

/-- kcom; the keys that wrap and check a record. -/
def Chip.kcom (c : Chip) : List Byte := c.dusKey false "VLT-COMM"
def Chip.kek (c : Chip) (bound : Bool) : List Byte := c.dusKey bound (if bound then "VLT-KEK-B" else "VLT-KEK-U")
def Chip.kmac (c : Chip) (bound : Bool) : List Byte := c.dusKey bound (if bound then "VLT-MAC-B" else "VLT-MAC-U")

/-! ## Persistent records (R494..R497) -/

/-- The flash offset of an area of the key-record region, its size, and its units of 32 bytes. -/
def vltArea (a : Nat) : Nat := 0x03040000 + a * 0x20000
def vltAreaSize : Nat := 0x20000
def vltUnits : Nat := 4096

/-- The MAGIC of a key record and of a commissioning record. -/
def magicKey : Nat := 0x564B5231
def magicComm : Nat := 0x564B4331

/-- A record met by a scan: where it is, its length in units, its slot (0xC0: commissioning), DELETE, SEQ, and whether it
is valid. -/
structure VRec where
  off : Nat
  len : Nat
  slot : Nat
  del : Bool
  seq : Nat
  valid : Bool
  deriving DecidableEq, Repr

/-- The record of `n` units at flash offset `o` read and checked. -/
def Chip.vrec (c : Chip) (o n : Nat) : VRec :=
  let b := c.flashBytes o (32 * n)
  let m := leNat (b.take 4)
  let slot := (b.getD 8 0).toNat
  let body := slice b 4 (32 * n - 36)
  let mac := b.drop (32 * n - 32)
  let ok :=
    if m = magicKey then n = 4 && slot < 64 && hmac (c.kmac ((b.getD 24 0).getLsbD 3)) body == mac
    else if m = magicComm then slot = 0xC0 && n ≥ 2 && hmac c.kcom body == mac
    else false
  { off := o, len := n, slot := slot, del := slot ≠ 0xC0 && (b.getD 9 0).getLsbD 0, seq := leNat (slice b 16 8), valid := ok && c.sectorsOk o (32 * n) }

/-- The records of an area from unit `u` on, the first free unit, and whether a broken unit ended the scan. A unit of
zeros, left by a destroyed record, is passed over; an erased unit ends the area. -/
def Chip.scanFrom (c : Chip) (a : Nat) : Nat → Nat → List VRec × Nat × Bool
  | 0, u => ([], u, false)
  | f + 1, u =>
    let o := vltArea a + 32 * u
    let n := c.flashNat (o + 4) 2
    let inv := c.flashNat (o + 6) 2
    if u ≥ vltUnits then ([], u, false)
    else if c.flashBytes o 32 == List.replicate 32 0 then c.scanFrom a f (u + 1)
    else if n + inv = 0xFFFF && 1 ≤ n && u + n ≤ vltUnits then
      let (l, e, x) := c.scanFrom a f (u + n)
      (c.vrec o n :: l, e, x)
    else ([], u, !(n = 0xFFFF && inv = 0xFFFF))

/-- An area scanned. -/
def Chip.scanArea (c : Chip) (a : Nat) : List VRec × Nat × Bool := c.scanFrom a (vltUnits + 1) 0

/-- The newest of some records. -/
def newestRec (l : List VRec) : Option VRec :=
  l.foldl (fun m r => match m with
    | some x => if r.seq > x.seq then some r else m
    | none => some r) none

/-- The record of slot `s` that a start would take: the valid one of the highest SEQ. -/
def takenRec (l : List VRec) (s : Nat) : Option VRec := newestRec (l.filter fun r => r.valid && r.slot = s)

/-- The next record SEQ, from VLT_SEQ. -/
def Chip.nextSeq (c : Chip) : Nat := (c.rd rVLT_SEQ 1).toNat * 2 ^ 32 + (c.rd rVLT_SEQ 0).toNat

/-- VLT_SEQ set. -/
def Chip.setSeq (c : Chip) (n : Nat) : Chip := (c.wr rVLT_SEQ 0 0 (BitVec.ofNat 32 n)).wr rVLT_SEQ 1 0 (BitVec.ofNat 32 (n / 2 ^ 32))

/-- A record's bytes from 4 on: LEN and its complement, `kind` (slot and flags, 8 bytes), SEQ, `rest` to the MAC, MAC. -/
def recBytes (n : Nat) (kind : List Byte) (seq : Nat) (rest key : List Byte) : List Byte :=
  let body := natLE 2 n ++ natLE 2 (0xFFFF - n) ++ kind ++ natLE 8 seq ++ rest
  body ++ hmac key body

/-- One attempt at a record: programmed at the first free unit in the order of R496 and read back; MAGIC zeroed where it reads back
wrong, and nothing written where it does not fit. The flag tells that it was stored. -/
def Chip.recTry (c : Chip) (magic n : Nat) (kind rest key : List Byte) : Chip × Bool :=
  if c.vlt.unit + n > vltUnits then (c, false) else
  let o := vltArea c.vlt.area + 32 * c.vlt.unit
  let b := recBytes n kind c.nextSeq rest key
  let c := (c.fwProg (o + 4) b).fwProg o (natLE 4 magic)
  let good := c.flashBytes o (32 * n) == natLE 4 magic ++ b
  let c := (c.setVlt { c.vlt with unit := c.vlt.unit + n }).setSeq (c.nextSeq + 1)
  if good then (c, true) else (c.fwProg o (natLE 4 0), false)

/-- A record of a compaction stored, in `fuel` attempts. -/
def Chip.recStore (c : Chip) (magic n : Nat) (kind rest key : List Byte) : Nat → Chip × Bool
  | 0 => (c, false)
  | f + 1 => match c.recTry magic n kind rest key with
    | (c, true) => (c, true)
    | (c, false) => c.recStore magic n kind rest key f

/-- The copy of record `r`, which reads `b`, into the active area with a new SEQ (R497). -/
def Chip.recCopy (c : Chip) (r : VRec) (b : List Byte) : Chip × Bool :=
  let comm := r.slot = 0xC0
  let key := if comm then c.kcom else c.kmac ((b.getD 24 0).getLsbD 3)
  c.recStore (if comm then magicComm else magicKey) r.len (slice b 8 8) (slice b 24 (32 * r.len - 56)) key 4

/-- The active area compacted (R497): the other area erased, what a start would take copied into it slot by slot, then
the commissioning record, then the old area erased. DEDUCED (log entry 233): the records are read before the erase; where a copy
fails the old area stays and stays the active one, and the flag tells so. -/
def Chip.vltCompact (c : Chip) : Chip × Bool :=
  let l := (c.scanArea 0).1 ++ (c.scanArea 1).1
  let taken := (List.range 64 ++ [0xC0]).filterMap fun s => (takenRec l s).map fun (r : VRec) => (r, c.flashBytes r.off (32 * r.len))
  let v := c.vlt
  let c := c.fwErase (vltArea (1 - v.area)) vltAreaSize
  let c := c.setVlt { c.vlt with area := 1 - v.area, unit := 0, broken := false }
  let (c, ok) := taken.foldl (fun (x : Chip × Bool) (r : VRec × List Byte) =>
    if !x.2 then x else
    let (c, ok) := x.1.recCopy r.1 r.2
    (if r.1.slot < 64 && !r.1.del then c.setKeySlot r.1.slot { c.keySlot r.1.slot with seq := c.nextSeq - 1 } else c, ok)) (c, true)
  if ok then (c.fwErase (vltArea v.area) vltAreaSize, true)
  else (c.setVlt { c.vlt with area := v.area, unit := v.unit, broken := v.broken }, false)

/-- A record written in `fuel` attempts, each from step 1 on: the area compacted first where it lacks room (R496). -/
def Chip.recPut (c : Chip) (magic n : Nat) (kind rest key : List Byte) : Nat → Chip × Bool
  | 0 => (c, false)
  | f + 1 =>
    match (if c.vlt.broken || c.vlt.unit + n > vltUnits then c.vltCompact else (c, true)) with
    | (c, false) => (c, false)
    | (c, true) => match c.recTry magic n kind rest key with
      | (c, true) => (c, true)
      | (c, false) => c.recPut magic n kind rest key f

/-- A record stored (R496): the write and up to three repeats; a failure sets STORE_ERR. -/
def Chip.recWrite (c : Chip) (magic n : Nat) (kind rest key : List Byte) : Chip × Bool :=
  let (c, ok) := c.recPut magic n kind rest key 4
  if ok then (c, true)
  else ((((c.wb rVLT_STATUS 0 0 3 true).inc rVLT_CNT 2 0).log 0x0B 0x41).irq 193, false)

/-- The key record of slot `s`: the key wrapped, or a DELETE record. -/
def Chip.keyRecord (c : Chip) (s : Nat) (key : Option (List Byte)) : Chip × Bool :=
  let bound := c.bound s
  let w := match key with | some k => keyWrap (c.kek bound) k | none => List.replicate 40 0
  c.recWrite magicKey 4 ([BitVec.ofNat 8 s, if key.isNone then 1 else 0] ++ List.replicate 6 0)
    (wordBytes (c.rd (rATTR0 s)) ++ wordBytes (c.rd (rATTR1 s)) ++ w ++ List.replicate 24 0) (c.kmac bound)

/-- A record put in among others, by SEQ. -/
def seqInsert (r : VRec) : List VRec → List VRec
  | [] => [r]
  | x :: t => if r.seq < x.seq then r :: x :: t else x :: seqInsert r t

/-- Records overwritten with zeros, the oldest SEQ first (R492). -/
def Chip.recsZero (c : Chip) (l : List VRec) : Chip :=
  c.each (l.foldr seqInsert []) fun c r => c.fwProg r.off (List.replicate (32 * r.len) 0)

/-- The key records of slot `s` older than SEQ `keep` overwritten with zeros (R492, R496), the invalid ones too
(DEDUCED, log entry 215). -/
def Chip.zeroRecords (c : Chip) (s keep : Nat) : Chip :=
  c.recsZero (((c.scanArea 0).1 ++ (c.scanArea 1).1).filter fun r => r.slot = s && r.seq < keep)

/-- A key put in slot `s`, stored first where the slot is PERSIST. -/
def Chip.putKey (c : Chip) (s : Nat) (key : List Byte) : Chip × VRes :=
  if !c.persist s then (c.setKeySlot s { key := some key, seq := 0 }, .ok [])
  else if c.bound s && !c.mfinal then (c, vParam)
  else if !c.dusOk then (c, vLife)
  else if c.pwr.pfw then (c, .waits)
  else
    let (c, ok) := c.keyRecord s (some key)
    if ok then (c.setKeySlot s { key := some key, seq := c.nextSeq - 1 }, .ok []) else (c, vStore)

/-! ## The operations (R489) -/

/-- The window of a master. -/
def vltWindow : Master → Option Nat
  | .hc0 => some 0 | .hc1 => some 1 | .nc => some 2 | .porch => some 3
  | _ => none

/-- ARG word `i` and the first `n` bytes of BUF of window `w`. -/
def Chip.vltArg (c : Chip) (w i : Nat) : Nat := (c.rd rVLT_ARG w i).toNat
def Chip.vltBuf (c : Chip) (w n : Nat) : List Byte := ((List.range ((n + 3) / 4)).flatMap fun j => wordBytes (c.rd rVLT_BUF w j)).take n

/-- Bytes put at the start of BUF. -/
def Chip.setVltBuf (c : Chip) (w : Nat) (l : List Byte) : Chip :=
  let old := c.vltBuf w ((l.length + 3) / 4 * 4)
  let l := l ++ old.drop l.length
  c.each (List.range (l.length / 4)) fun c j => c.wr rVLT_BUF w j (leWordAt l (4 * j))

/-- Session entry `e`. -/
def Chip.sessEnt (c : Chip) (e : Nat) : SessEnt := mget ({} : SessEnt) c.vlt.sess e

/-- Session entry `e` set. -/
def Chip.setSess (c : Chip) (e : Nat) (x : SessEnt) : Chip := c.setVlt { c.vlt with sess := mset ({} : SessEnt) c.vlt.sess e x }

/-- The entry that a derivation with `salt` from key `k` fills (R418, R423): a session's info begins "DOP-S" and names
its SID, a group's is "DOP-G keys". -/
def sessionOf (k salt info : List Byte) (t : Nat) : SessEnt :=
  let prk := hmac salt k
  let okm := hkdfExpand prk info 96
  { used := true, group := info == ascii "DOP-G keys", sid := slice info 5 4, prk := prk
    keyIn := slice okm 0 32, keyOut := slice okm 32 32, keyCf := slice okm 64 32, at_ := t }

/-- The AEAD key an operation names: a slot's, or with ARG2[0] the session entry's, which is NC's alone (R484). -/
def Chip.aeadKey (c : Chip) (a : Access) (w s u : Nat) (out : Bool) : Chip × Except VRes (List Byte) :=
  if c.vltArg w 2 % 2 = 1 then
    let e := c.sessEnt s
    if a.master ≠ .nc then (c, .error vDenied)
    else if !e.used then (c, .error vEmpty)
    else (c.setSess s { e with at_ := c.now }, .ok (if out then e.keyOut else e.keyIn))
  else match c.slotRefusal a s u with
    | some r => (c, .error r)
    | none => (c, .ok (c.keyOf s))

/-- HMAC: ARG0 bytes of BUF. -/
def Chip.opHmac (c : Chip) (a : Access) (w s : Nat) : Chip × VRes :=
  match c.slotRefusal a s 0 with
  | some r => (c, r)
  | none => if c.vltArg w 0 > 1024 then (c, vParam) else (c, .ok (hmac (c.keyOf s) (c.vltBuf w (c.vltArg w 0))))

/-- SEAL: BUF holds the nonce, ARG1 bytes of additional data and ARG0 of plaintext. -/
def Chip.opSeal (c : Chip) (a : Access) (w s : Nat) : Chip × VRes :=
  let n := c.vltArg w 0
  let m := c.vltArg w 1
  match c.aeadKey a w s 1 true with
  | (c, .error r) => (c, r)
  | (c, .ok k) =>
    if 12 + m + n > 1024 || n + 16 > 1024 then (c, vParam) else
    let b := c.vltBuf w (12 + m + n)
    let (ct, tag) := gcmSeal k (b.take 12) (slice b 12 m) (b.drop (12 + m))
    (c, .ok (ct ++ tag))

/-- OPEN: BUF holds the nonce, ARG1 bytes of additional data, ARG0 of ciphertext and the tag. -/
def Chip.opOpen (c : Chip) (a : Access) (w s : Nat) : Chip × VRes :=
  let n := c.vltArg w 0
  let m := c.vltArg w 1
  match c.aeadKey a w s 2 false with
  | (c, .error r) => (c, r)
  | (c, .ok k) =>
    if 12 + m + n + 16 > 1024 then (c, vParam) else
    let b := c.vltBuf w (12 + m + n + 16)
    match gcmOpen k (b.take 12) (slice b 12 m) (slice b (12 + m) n) (b.drop (12 + m + n)) with
    | some p => (c, .ok p)
    | none => (c, vFail)

/-- DERIVE (R485): ARG0 [0] SRC_DUS, [1] BOUND, ARG1..4 the label; into free slot `d`. -/
def Chip.opDerive (c : Chip) (a : Access) (w s d : Nat) : Chip × VRes :=
  let dus := c.vltArg w 0 % 2 = 1
  let bound := c.vltArg w 0 / 2 % 2 = 1 || c.bound d
  let refusal := if dus then (if c.dusOk then none else some vLife) else c.slotRefusal a s 3
  match refusal with
  | some r => (c, r)
  | none =>
    if d < 6 || (bound && !c.mfinal) then (c, vParam)
    else if !c.slotFor a d then (c, vDenied)
    else
      let label := (List.range 4).flatMap fun i => wordBytes (c.rd rVLT_ARG w (1 + i))
      c.putKey d (hkdf (if bound then c.md else z48) (if dus then c.fuses.dus else c.keyOf s)
        (ascii "VLT-D" ++ label ++ [BitVec.ofNat 8 d]) 32)

/-- SESSION (R484): entry `e` from the slot of ARG2; BUF holds ARG0 bytes of salt and ARG1 of info. -/
def Chip.opSession (c : Chip) (a : Access) (w e : Nat) : Chip × VRes :=
  let n := c.vltArg w 0
  let m := c.vltArg w 1
  let s := c.vltArg w 2 % 64
  match c.slotRefusal a s 3 with
  | some r => (c, r)
  | none =>
    if n + m > 1024 then (c, vParam) else
    let b := c.vltBuf w (n + m)
    (c.setSess e (sessionOf (c.keyOf s) (b.take n) (b.drop n) c.now), .ok [])

/-- The attestation message over a challenge (R490). -/
def Chip.attestation (c : Chip) (ch : List Byte) : List Byte :=
  ch ++ c.serialBytes ++ [BitVec.ofNat 8 c.lc] ++ c.md ++ natBE 4 (c.rd rVINTAGE).toNat

/-- ATTEST: BUF holds the challenge. -/
def Chip.opAttest (c : Chip) (a : Access) (w s : Nat) : Chip × VRes :=
  match c.slotRefusal a s 4 with
  | some r => (c, r)
  | none => if !c.mfinal then (c, vParam) else
    let m := c.attestation (c.vltBuf w 32)
    (c, .ok (m ++ hmac (c.keyOf s) m))

/-- Unlocks are locked out (R491). -/
def Chip.unlkLocked (c : Chip) : Bool := c.rb rVLT_STATUS 0 0 5

/-- UNONCE: a fresh nonce, kept for window `w`. -/
def Chip.opUnonce (c : Chip) (a : Access) (w s : Nat) : Chip × VRes :=
  match c.slotRefusal a s 4 with
  | some r => (c, r)
  | none => if c.unlkLocked then (c, vLife) else
    let n := (List.range 32).map fun j => Config.randomByte c.cyc j
    (c.setVlt { c.vlt with nonces := mset none c.vlt.nonces w (some n) }, .ok n)

/-- What an unlock response must be. -/
def Chip.unlockMac (c : Chip) (s : Nat) (n : List Byte) : List Byte :=
  hmac (c.keyOf s) (ascii "DL-UNLOCK" ++ n ++ c.serialBytes ++ [BitVec.ofNat 8 c.lc])

/-- UNLOCK: BUF holds the response. A vendor unlock in force stays. -/
def Chip.opUnlock (c : Chip) (a : Access) (w s : Nat) : Chip × VRes :=
  match c.slotRefusal a s 4 with
  | some r => (c, r)
  | none =>
    if c.unlkLocked then (c, vLife)
    else if s ≠ 2 && s ≠ 3 then (c, vParam)
    else
      let kept := mget none c.vlt.nonces w
      let c := c.setVlt { c.vlt with nonces := mset none c.vlt.nonces w none }
      let ok := match kept with
        | some n => c.vltBuf w 32 == c.unlockMac s n
        | none => false
      if ok then (((c.wf rVLT_STATUS 0 0 7 6 (max c.unlk (s - 1))).irq 195).log 0x0B 0x43, .ok [])
      else
        let c := c.setVlt { c.vlt with fails := c.vlt.fails + 1 }
        (if c.vlt.fails ≥ 3 then ((c.wb rVLT_STATUS 0 0 5 true).irq 195).log 0x0B 0x43 else c, vFail)

/-- The key of the urgent parsers set, and whether it is loaded shown in URG_STATUS. -/
def Chip.urgKey (c : Chip) (k : Nat) (key : Option (List Byte)) : Chip :=
  c.each [0, 1] fun c p =>
    let x := mget ({} : Urg) c.urgs p
    let c := { c with urgs := mset ({} : Urg) c.urgs p (if k = 0 then { x with key0 := key } else { x with key1 := key }) }
    c.wb rURG_STATUS p 0 k key.isSome

/-- LOAD_URG: parser key ARG0[0], its URG_LASTSEQ reset on both parsers. -/
def Chip.opLoadUrg (c : Chip) (a : Access) (w s : Nat) : Chip × VRes :=
  match c.slotRefusal a s 2 with
  | some r => (c, r)
  | none =>
    let k := c.vltArg w 0
    if k > 1 then (c, vParam) else
    let c := c.urgKey k (some (c.keyOf s))
    let c := c.setVlt { c.vlt with urgFrom := mset 64 c.vlt.urgFrom k s }
    ((c.wr rURG_LASTSEQ 0 k 0).wr rURG_LASTSEQ 1 k 0, .ok [])

/-- kek_s of a session entry (R497). -/
def SessEnt.kekS (e : SessEnt) : List Byte := hkdfExpand e.prk (ascii "DOP-K" ++ e.sid) 32

/-- INSTALL (R497): in BLANK the plaintext key in BUF, from world S; else the 40-byte wrap in BUF under the session entry
of ARG0. -/
def Chip.opInstall (c : Chip) (a : Access) (w s : Nat) : Chip × VRes :=
  if s = 0 then (c, vParam)
  else if !c.slotFor a s then (c, vDenied)
  else if c.lc = 0 then (if c.worldS a then c.putKey s (c.vltBuf w 32) else (c, vDenied))
  else if !c.attrLc s then (c, vLife)
  else
    let e := c.sessEnt (c.vltArg w 0 % 64)
    if !e.used then (c, vParam) else
    match keyUnwrap e.kekS (c.vltBuf w 40) with
    | none => (c, vFail)
    | some k => c.putKey s k

/-- The key of slot `s` gone; a free slot's attributes with it, and what the urgent parsers loaded from it (R492). -/
def Chip.slotClear (c : Chip) (s : Nat) : Chip :=
  let c := c.setKeySlot s {}
  let c := c.each ([0, 1].filter fun k => mget 64 c.vlt.urgFrom k = s) fun c k => c.urgKey k none
  if s < 6 then c else (c.wr (rATTR0 s) 0 0 0).wr (rATTR1 s) 0 0 0

/-- DELETE (R496). -/
def Chip.opDelete (c : Chip) (a : Access) (s : Nat) : Chip × VRes :=
  if !c.slotFor a s || s = 0 then (c, vDenied)
  else if !c.attrLc s then (c, vLife)
  else if (c.keySlot s).key.isNone then (c, vEmpty)
  else if !c.persist s then (c.setKeySlot s {}, .ok [])
  else if c.bound s && !c.mfinal then (c, vParam)
  else if !c.dusOk then (c, vLife)
  else if c.pwr.pfw then (c, .waits)
  else
    let (c, ok) := c.keyRecord s none
    if ok then ((c.setKeySlot s {}).zeroRecords s (c.nextSeq - 1), .ok []) else (c, vStore)

/-- EXTEND: register ARG0, 48 bytes of BUF. -/
def Chip.opExtend (c : Chip) (a : Access) (w : Nat) : Chip × VRes :=
  if !((a.master == .hc0 || a.master == .hc1) && c.worldS a) then (c, vDenied)
  else if c.mfinal || c.vltArg w 0 > 7 then (c, vParam)
  else (c.extend (c.vltArg w 0) (c.vltBuf w 48), .ok [])

/-- RANDOM: ARG0 bytes. -/
def Chip.opRandom (c : Chip) (w : Nat) : Chip × VRes :=
  if c.vltArg w 0 > 1024 then (c, vParam)
  else (c, .ok ((List.range (c.vltArg w 0)).map fun j => Config.randomByte c.cyc j))

/-- SETATTR (R482): ATTR0 and ATTR1 from ARG0 and ARG1. -/
def Chip.opSetattr (c : Chip) (a : Access) (w s : Nat) : Chip × VRes :=
  if !c.worldS a then (c, vDenied)
  else if s < 6 || (c.keySlot s).key.isSome || (c.vltArg w 1 % 2 ^ (c.lc + 1) ≠ 0) then (c, vParam)
  else ((c.wr (rATTR0 s) 0 0 (BitVec.ofNat 32 (c.vltArg w 0 / 4 * 4))).wr (rATTR1 s) 0 0 (BitVec.ofNat 32 (c.vltArg w 1 % 32)), .ok [])

/-- COMMREC (R494): the record body, from KNEE_MAX on, in house SRAM at ARG0, ARG1 bytes. -/
def Chip.opCommrec (c : Chip) (a : Access) (w s : Nat) : Chip × VRes :=
  match c.slotRefusal a s 0 with
  | some r => (c, r)
  | none =>
    let o := c.vltArg w 0
    let n := c.vltArg w 1
    let b := c.bytes o n
    let nn := leNat (slice b 4 2)
    if c.lc ≠ 1 then (c, vLife)
    else if s ≠ 0 || o < 0x01000000 || o + n > 0x01100000 || n ≠ 8 + nn || nn > 8192 then (c, vParam)
    else if !c.dusOk then (c, vLife)
    else if c.pwr.pfw then (c, .waits)
    else
      let u := (nn + 31) / 32
      let (c, ok) := c.recWrite magicComm (2 + u) ([0xC0, 0] ++ List.replicate 6 0) (b ++ List.replicate (32 * u - nn) 0) c.kcom
      (c, if ok then .ok [] else vStore)

/-- Operation `op` of window `w` on slot or entry `s`, destination `d`. -/
def Chip.vltOp (c : Chip) (a : Access) (w op s d : Nat) : Chip × VRes :=
  match op with
  | 1 => c.opHmac a w s
  | 2 => c.opSeal a w s
  | 3 => c.opOpen a w s
  | 4 => c.opDerive a w s d
  | 5 => c.opSession a w s
  | 6 => c.opAttest a w s
  | 7 => c.opUnonce a w s
  | 8 => c.opUnlock a w s
  | 9 => c.opLoadUrg a w s
  | 10 => c.opInstall a w s
  | 11 => c.opDelete a s
  | 12 => c.opExtend a w
  | 13 => c.opRandom w
  | 14 => c.opSetattr a w s
  | 15 => c.opCommrec a w s
  | _ => (c, vParam)

/-- The end of an operation of window `w`: STS, BUF, the counters, and what a refusal raises (R481, R489). -/
def Chip.vltEnd (c : Chip) (w : Nat) : VRes → Chip
  | .ok out => ((c.setVltBuf w out).wr rVLT_STS w 0 (BitVec.ofNat 32 (2 ^ 30 + out.length))).inc rVLT_CNT 3 0
  | .code n => (c.wr rVLT_STS w 0 (BitVec.ofNat 32 (2 ^ 30 + n * 2 ^ 24))).inc rVLT_CNT 3 0
  | .refuse n =>
    let c := (c.wr rVLT_STS w 0 (BitVec.ofNat 32 (2 ^ 30 + n * 2 ^ 24))).inc rVLT_CNT 3 0
    ((if n = 1 then c.inc rVLT_CNT 0 0 else c).log 0x0B 0x42).irq 194
  | .waits => c.wr rVLT_STS w 0 0x80000000

/-- CMD of window `w` written by its owner (R483): one operation at a time, in the order of the writes; one written behind another
that waits, or while a life-cycle change runs, is queued (R493, R498). DESIGN CHOICE (log entry 234): a queued operation takes ARG
and BUF as they are when it runs. -/
def Chip.vltCmd (c : Chip) (a : Access) (w : Nat) (v : Word) : Chip :=
  let hold := fun c : Chip => c.setVlt { c.vlt with queue := c.vlt.queue ++ [{ from_ := a, win := w, cmd := v }] }
  if c.vlt.lcTarget.isSome || c.vlt.queue ≠ [] then (hold c).vltEnd w .waits else
  let (c, r) := c.vltOp a w (fld v 31 28) (fld v 21 16) (fld v 13 8)
  if r = .waits then (hold c).vltEnd w r else c.vltEnd w r

/-- The operations queued are performed in their order. -/
def Chip.vltDrain (c : Chip) : Chip :=
  (c.setVlt { c.vlt with queue := [] }).each c.vlt.queue fun c x => c.vltCmd x.from_ x.win x.cmd

/-! ## The scan at start (R495) -/

/-- A taken record loaded into its slot. -/
def Chip.loadRec (c : Chip) (r : VRec) : Chip :=
  if r.del then c else
  let b := c.flashBytes r.off 128
  match keyUnwrap (c.kek ((b.getD 24 0).getLsbD 3)) (slice b 32 40) with
  | none => c
  | some k =>
    let c := c.setKeySlot r.slot { key := some k, seq := r.seq }
    if r.slot < 6 then c else (c.wr (rATTR0 r.slot) 0 0 (leWordAt b 24)).wr (rATTR1 r.slot) 0 0 (leWordAt b 28)

/-- The record holds a DESTROY_ON bit of the current state or an earlier one. -/
def Chip.recDoomed (c : Chip) (r : VRec) : Bool := c.flashNat (r.off + 28) 1 % 32 % 2 ^ (c.lc + 1) ≠ 0

/-- The newest valid commissioning record's bytes (R494). -/
def Chip.commRecord (c : Chip) : Option (List Byte) :=
  if !c.dusOk then none
  else (takenRec ((c.scanArea 0).1 ++ (c.scanArea 1).1) 0xC0).map fun r => c.flashBytes r.off (32 * r.len)

/-- The Vault's start: slot 0 derived (R485), both areas scanned (R495); under the power-fail warning no record is zeroed
(R503). -/
def Chip.vaultScan (c : Chip) : Chip :=
  if !c.dusOk then c else
  let c := c.setKeySlot 0 { key := some c.kcom, seq := 0 }
  let (l0, u0, x0) := c.scanArea 0
  let (l1, u1, x1) := c.scanArea 1
  let l := l0 ++ l1
  let good := l.filter (·.valid)
  let bad := l.length - good.length
  let keys := good.filter fun r => r.slot ≠ 0xC0
  let dels := keys.filter (·.del)
  let gone := fun r : VRec => (r.valid && c.recDoomed r) || dels.any fun d => d.slot = r.slot && r.seq < d.seq
  let c1 := if c.pwr.pfw then c else c.recsZero (l.filter fun r => r.slot ≠ 0xC0 && gone r)
  let left := keys.filter fun r => !gone r
  let c := c1.each (List.range 64) fun c s => match takenRec left s with | some r => c.loadRec r | none => c
  let top := newestRec good
  let area := match top with | some r => if r.off < vltArea 1 then 0 else 1 | none => 0
  let c := c.setVlt { c.vlt with area := area, unit := if area = 0 then u0 else u1, broken := (if area = 0 then x0 else x1) || !c.sectorsOk (vltArea area) vltAreaSize }
  let c := match top with | some r => c.setSeq (r.seq + 1) | none => c
  if bad = 0 then c else (c.inc rVLT_CNT 1 0 bad).log 0x0B 0x44

/-- VAULT_SCAN (R495). -/
def execVaultScan (s : State) : Host.Outcome State Fault Refusal := run (fun c => c.when (c.alive .sys) fun c => c.vaultScan) s

/-! ## The life-cycle change (R479, R492, R493) -/

/-- Whether the change from the present state to `t` exists and its Vault condition holds for a request of `m`. -/
def Chip.lcMay (c : Chip) (m : Master) (t : Nat) : Bool :=
  match c.lc, t with
  | 0, 1 => (c.keySlot 2).key.isSome
  | 1, 2 => true
  | 2, 3 => c.unlk = 2 || m == .hc0 || m == .hc1
  | 4, _ => false
  | _, 4 => true
  | _, _ => false

/-- Steps 1 and 2 of R493: the target refused, or the keys its state destroys zeroised, the session table and the unlock
erased. -/
def Chip.lcRequest (c : Chip) (m : Master) (t : Nat) : Chip :=
  if !c.lcMay m t || c.pwr.pfw || c.rb rVLT_STATUS 0 0 0 then
    ((c.wb rVLT_STATUS 0 0 2 true).log 0x0B 0x40 (BitVec.ofNat 32 t)).irq 192
  else
    let l := (List.range 64).filter fun s => c.destroyOn s / 2 ^ t % 2 = 1 && (c.keySlot s).key.isSome
    let c := c.each l Chip.slotClear
    let c := c.setVlt { c.vlt with sess := [], lcTarget := some t, lcSlots := l }
    (c.wf rVLT_STATUS 0 0 7 6 0).wb rVLT_STATUS 0 0 0 true

/-- VLT_LC_REQ written: without the acceptance key it is ignored. -/
def Chip.vltLcReq (c : Chip) (m : Master) (v : Word) : Chip := if fld v 31 8 = 0x4C4354 then c.lcRequest m (fld v 7 0) else c


/-- The flash records that the change to state `t` destroys: those of the slots zeroised at its step 2, and the valid ones
whose own DESTROY_ON holds `t` (R492, R495). -/
def Chip.lcRecords (c : Chip) (t : Nat) : List VRec :=
  ((c.scanArea 0).1 ++ (c.scanArea 1).1).filter fun r => r.slot ≠ 0xC0 &&
    (c.vlt.lcSlots.contains r.slot || (c.dusOk && r.valid && c.flashNat (r.off + 28) 1 % 32 / 2 ^ t % 2 = 1))

/-- FUSE_BLOW_DONE (R493): steps 3 to 6; under the power-fail warning step 5 is left to the next start. The operations queued
meanwhile follow. -/
def execFuseBlowDone (s : State) : Host.Outcome State Fault Refusal :=
  run (fun c => match if c.alive .sys then c.vlt.lcTarget else none with
    | none => c
    | some t =>
      let doomed := c.lcRecords t
      let c := { c with fuses := c.fuses.blow t 7 }
      if c.pwr.pfw then (c.setVlt { c.vlt with lcTarget := none, lcSlots := [] }).vltDrain else
      let c := c.recsZero doomed
      let c := c.setVlt { c.vlt with lcTarget := none, lcSlots := [] }
      ((((c.wb rVLT_STATUS 0 0 0 false).wb rVLT_STATUS 0 0 1 true).irq 192).log 0x0B 0x40 (BitVec.ofNat 32 t)).vltDrain) s

end Sys2Proof.Machine
end

