-- ==== Sys2Proof/Machine/BusRead.lean ====
section
/-! DEFINITION. A bus master's access: which register an address names, what refuses an access (R22, R23, R30, R489),
and the read of a word (R5, R6). -/

namespace Sys2Proof.Machine

/-! ## Which register stands at an address -/

/-- The register rows of the 64 KiB block `b` of the house-core map; the windows of the press cores stand above it. -/
def regsOf (b : Nat) : List RegRow :=
  match b with
  | 0x1000 => regsSYS
  | 0x1001 => regsTIME
  | 0x1002 | 0x1003 => regsMAC ++ regsURG
  | 0x1004 => regsMAC
  | 0x1005 => regsRING ++ regsING
  | 0x1006 => regsCEL
  | 0x1007 => regsRAS
  | 0x1008 => regsPIX
  | 0x1009 => regsPRS
  | 0x100A => regsPORT
  | 0x100B => regsDRV
  | 0x100C => regsCDR
  | 0x100D => regsTRL
  | 0x100E => regsDMA
  | 0x100F => regsVLT
  | 0x1010 => regsUART
  | 0x1011 => regsERR
  | 0x1012 => regsFUSE
  | 0x1013 => regsQUE
  | _ => if b = 0x20000 then regsPCW else []

/-- The window of press core `k` as that core sees it: its first address (R231). -/
def pcwBase : Nat := 0x20000

/-- Where the window of press core `k` stands in the map of registers. -/
def pcwKey (k a : Nat) : Nat := 2 ^ 33 + 0x100 * k + (a - pcwBase)

/-- Whether an access is a press core's to its own window. -/
def inPcw (a : Access) (n : Nat) : Bool := a.master == .press && pcwBase ≤ n && n < pcwBase + 0x100

/-- The register at word address `n` of the map of registers: its row and place; none at a reserved offset (R20). -/
def regAt (n : Nat) : Option (RegRow × Nat × Nat) :=
  (regsOf (n / 0x10000)).findSome? fun r => (r.find n).map fun p => (r, p.1, p.2)

/-! ## What refuses an access -/

/-- The word address of an access (R5). -/
def wordAddr (addr : Word) : Nat := addr.toNat / 4 * 4

/-- A command window of the Vault is its master's alone (R489). -/
def vltMay (a : Access) (n : Nat) : Bool :=
  if 0x100F1000 ≤ n && n < 0x100F3000 then vltWindow a.master = some ((n - 0x100F1000) / 0x800) else true

/-- NC reaches its own window of the Vault from world N. -/
def ncWindow (a : Access) (n : Nat) : Bool := a.master == .nc && 0x100F2000 ≤ n && n < 0x100F2800

/-- The bank whose port buffer address `n` stands in. -/
def bufBank (n : Nat) : Nat := (n - 0x50000000) / 0x8000 / 8

/-- The CAUSE of the bus error an access to word address `n` meets before it reaches its target: 0 unmapped, 1 refused
for its world or master or a port buffer whose port's MODE is not OFF, 3 no answer from a domain held in reset (R23, R30, R31, R461). -/
def Chip.refusal (c : Chip) (a : Access) (n : Nat) : Option Nat :=
  match areaFor a.master n with
  | .unmapped => some 0
  | .local_ => none
  | .portBuf => if !c.alive (.bank (bufBank n)) then some 3 else if c.bufOpen n then none else some 1
  | .regs =>
    if (worldSOnly n && !c.worldS a && !ncWindow a n) || !vltMay a n then some 1
    else if c.alive (regDom n) then none else some 3
  | _ => if worldSOnly n && !c.worldS a then some 1 else none

/-- The dual-clock queues an access to word address `n` passes: to the Cellar, a port's buffer, or a block of another domain
(R18, R19). -/
def busQueues (m : Master) (n : Nat) : List Nat :=
  match areaFor m n with
  | .cellar => [0x20, 0x21]
  | .portBuf => [0x30 + bufBank n]
  | .regs => match regDom n with
    | .sys => []
    | .bank k => [0xA0 + k]
    | _ => [0x80 + n / 0x10000 % 0x100]
  | _ => []

/-! ## The read of a register -/

/-- The read of register (i, j) of row `r`: what it does and what it returns. Write-only bits read as 0 (R6). -/
def Chip.regRead (c : Chip) (a : Access) (r : RegRow) (i j : Nat) : Chip :=
  let v := c.rd r i j
  match r.hook with
  | .timeSnap => let (c, v) := c.snapRead a j; c.answer v
  | .txtsTag => let (c, v) := c.txtsPop; c.answer v
  | .frameIdx => c.answer (c.frameIdx i)
  | .macCounters => let (c, v) := c.macCntRead i j; c.answer v
  | .pixTbl => c.answer c.tblData
  | .prsCnt => c.answer (if r = rCNT_VAL then c.cntVal else 0)
  | .trlStatus => c.answer c.trlStatusWord
  | .drvNode => c.answer (c.nodeWord (r = rNODE_W1))
  | .pcwNext => if r = rPCW_NEXT then c.pcwNext i else c.answer (c.pcwDesc i j)
  | .pcwSmpB => c.smpRead i (r = rSMP_B)
  | .pcwStg => c.answer (if r = rSTG_STS then c.stgStatus i else 0)
  | .queRes => c.answer (c.queRes a)
  | .queNe => c.answer c.queNe
  | .quePop =>
    if c.mailMay a i true then let (c, v) := c.mailPop a i; c.answer v
    else c.busErr a.master (c.worldS a) false (BitVec.ofNat 32 (r.addr i j)) 1
  | .uartData => let (c, v) := c.uartRead i; c.answer v
  | .sysPwr => c.answer (setFld v 15 0 ((Config.freeWord c.cyc 0x1C).toNat % 65536))
  | .uartStat => c.answer (c.uartStat i)
  | .vltStatus => c.answer c.vltStatus
  | .vltSlot => c.answer (if r.name = rSLOT_STAT.name then c.slotStat i else v)
  | .fuse => c.answer (c.fuseWord i)
  | .dmaActive => c.answer (BitVec.ofNat 32 ((List.range 16).foldl (fun n k => n + b2n (c.rf rDMA_STAT k 0 18 16 = 1) * 2 ^ k) 0))
  | _ => c.answer v

/-- The read of the on-die word at `k` by access `a` to `addr` (R13): a double error is uncorrectable data, CAUSE 2 (R590;
DEDUCED, log entry 175). -/
def Chip.sramBusRead (c : Chip) (a : Access) (addr : Word) (k : Nat) : Chip :=
  let (c, bad) := c.sramRead k
  if bad then c.busErr a.master (c.worldS a) false addr 2 else c.answer (c.word k)

/-- A bus master's read of the word at `addr`; one that waited in a queue when it was reset ends with CAUSE 3 (R468). -/
def Chip.busRead (c : Chip) (a : Access) (addr : Word) : Chip :=
  let n := wordAddr addr
  if !c.mayAccess a then c
  else if inPcw a n then
    match regAt (pcwKey a.core.val n) with
    | none => c.answer 0
    | some (r, i, j) => if c.coreOn i then c.regRead a r i j else c
  else match c.refusal a n with
    | some cause => c.busErr a.master (c.worldS a) false addr cause
    | none =>
      if c.cutOff (busQueues a.master n) then (c.cutDone (busQueues a.master n)).busErr a.master (c.worldS a) false addr 3 else
      match areaFor a.master n with
      | .regs =>
        match regAt n with
        | none => c.answer 0
        | some (r, i, j) => c.regRead a r i j
      | .cellar => c.celBusRead a addr
      | .flash => c.answer (c.word n)
      | m => c.sramBusRead a addr (if m == .local_ then localKey a.core n else n)

/-- A bus master's write of the bytes `l` from `n` on into a memory: the boot ROM and the flash window are not written,
and a port-buffer window only while its port's MODE is OFF (R14, R269). -/
def Chip.memWrite (c : Chip) (a : Access) (n : Nat) (l : List Byte) : Chip :=
  let addr := BitVec.ofNat 32 n
  match areaFor a.master n with
  | .cellar => c.celBusWrite a addr l
  | .local_ => ((c.setBytes (localKey a.core n) l).sramStore (localKey a.core n) l.length).answer 0
  | .sram | .press => ((c.setBytes n l).sramStore n l.length).answer 0
  | .portBuf =>
    if c.bufOpen n then ((c.setBytes n l).sramStore n l.length).answer 0
    else c.busErr a.master (c.worldS a) true addr 1
  | _ => c.busErr a.master (c.worldS a) true addr 1

/-- REGISTER_READ (R23). -/
def execRegisterRead (a : Access) (addr : Addr) (s : State) : Host.Outcome State Fault Refusal :=
  run (fun c => c.busRead a addr) s

end Sys2Proof.Machine
end

