-- ==== Sys2Proof/Machine/Dma.lean ====
section
/-! DEFINITION. The DMA channels: descriptors, triggers, doorbells, stops and errors (spec/15 R447..R451, R458..R463). -/

namespace Sys2Proof.Machine

/-! ## Channel state -/

/-- Channel `n`. -/
def Chip.dmaCh (c : Chip) (n : Nat) : DmaCh := mget ({} : DmaCh) c.dma.chs n

/-- Channel `n` set, with DMA_CHn_REM, _SADR and _DADR. -/
def Chip.setDmaCh (c : Chip) (n : Nat) (x : DmaCh) : Chip :=
  ((({ c with dma := { c.dma with chs := mset ({} : DmaCh) c.dma.chs n x } }).wr rDMA_REM n 0 (BitVec.ofNat 32 x.toWrite)).wr
    rDMA_ADR n 0 (BitVec.ofNat 32 x.src)).wr rDMA_ADR n 1 (BitVec.ofNat 32 x.dst)

/-- DMA_CHn_STAT.STATE: 0 IDLE, 1 RUN, 2 TAIL, 3 ERROR, 4 STOPPING. -/
def Chip.dmaState (c : Chip) (n : Nat) : Nat := c.rf rDMA_STAT n 0 18 16

/-- STATE set. -/
def Chip.setDmaState (c : Chip) (n st : Nat) : Chip := c.wf rDMA_STAT n 0 18 16 st

/-- The engine and the channel are enabled. -/
def Chip.dmaOn (c : Chip) (n : Nat) : Bool := c.rb rDMA_CTRL 0 0 0 && c.rb rDMA_CFG n 0 31

/-- The access a channel makes (R447). -/
def Chip.dmaAccess (c : Chip) (n : Nat) : Access := { master := .dma, secure := c.rb rDMA_CFG n 0 30 }

/-- Word `i` of the descriptor in progress. -/
def DmaCh.word (x : DmaCh) (i : Nat) : Word := x.desc.getD i 0

/-- Source and destination width in bytes. -/
def DmaCh.sw (x : DmaCh) : Nat := 2 ^ fld (x.word 0) 27 25
def DmaCh.dw (x : DmaCh) : Nat := 2 ^ fld (x.word 0) 24 22

/-- COUNT in bytes. -/
def DmaCh.count (x : DmaCh) : Nat := let n := fld (x.word 1) 23 0; if n = 0 then 2 ^ 24 else n

/-- The address of the aligned word that holds the last destination byte written (R458). -/
def DmaCh.lastWord (x : DmaCh) : Nat :=
  let last := if bit (x.word 0) 20 then
      let k := fld (x.word 0) 14 10
      let m := if k = 0 then 2 ^ 32 else 2 ^ k
      x.dst / m * m + (x.dst + m - 1) % m
    else x.dst + x.dw - 1
  last / 4 * 4

/-- A channel that takes up the descriptor of words `l`. -/
def DmaCh.ofWords (l : List Word) : DmaCh :=
  let x : DmaCh := { desc := l }
  { x with src := (x.word 2).toNat, dst := (x.word 3).toNat, toRead := x.count, toWrite := x.count }

/-- A malformed descriptor (R449). -/
def DmaCh.malformed (x : DmaCh) : Bool :=
  let w := x.word 0
  let wrap (inc : Bool) (k : Nat) : Bool := (k ≠ 0 && !inc) || (1 ≤ k && k ≤ 3) || k > 24
  fld w 9 0 ≠ 0 || fld (x.word 1) 31 24 ≠ 0 || fld (x.word 4) 4 0 ≠ 0 || x.word 7 ≠ 0
    || fld w 27 25 ≥ 5 || fld w 24 22 ≥ 5
    || (x.word 2).toNat % x.sw ≠ 0 || (x.word 3).toNat % x.dw ≠ 0 || x.count % max x.sw x.dw ≠ 0
    || wrap (bit w 21) (fld w 19 15) || wrap (bit w 20) (fld w 14 10)

/-! ## The channel's accesses -/

/-- How an access of a channel ended. -/
inductive DmaRes where
  | ok | poison | error
  deriving DecidableEq, Repr

/-- The word a channel reads at word address `n`; the answer of a bus access stays as it was. -/
def Chip.dmaWord (c : Chip) (a : Access) (n : Nat) : Chip × Word × DmaRes :=
  if areaOf n == .cellar then
    match c.celClientRead .dma a.secure n with
    | (c, d, .ok) => (c, d, .ok)
    | (c, _, .poison) => (c, 0, .poison)
    | (c, _, .denied) => (c, 0, .ok)
    | (c, _, .down) => (c.busErr .dma a.secure false (BitVec.ofNat 32 n) 3, 0, .error)
  else
    let r := c.rsp
    let c := c.busRead a (BitVec.ofNat 32 n)
    let v := c.rsp
    ({ c with rsp := r }, v.val, if v.err then .error else .ok)

/-- Words read in turn: the words, whether every one came, and the address of the first that failed. -/
def Chip.dmaWords (c : Chip) (a : Access) (n : Nat) : Nat → Chip × List (Word × Bool) × Option Nat
  | 0 => (c, [], none)
  | k + 1 =>
    match c.dmaWord a n with
    | (c, _, .error) => (c, [], some n)
    | (c, w, r) =>
      let (c, l, e) := c.dmaWords a (n + 4) k
      (c, (w, r == .poison) :: l, e)

/-- A word a channel writes into its descriptor. -/
def Chip.dmaPutWord (c : Chip) (a : Access) (n : Nat) (w : Word) : Chip :=
  let r := c.rsp
  let c := match c.refusal a n with
    | some cause => c.busErr .dma a.secure true (BitVec.ofNat 32 n) cause
    | none => c.memWrite a n (wordBytes w)
  { c with rsp := r }

/-- Word 6 of the descriptor in progress written with RESULT `res` (R448). -/
def Chip.dmaWord6 (c : Chip) (n res : Nat) : Chip :=
  let x := c.dmaCh n
  c.dmaPutWord (c.dmaAccess n) ((c.rd rDMA_CUR n).toNat + 24) (BitVec.ofNat 32 (2 ^ 31 + res * 2 ^ 28 + (x.count - x.toWrite)))

/-- Channel `n` enters ERROR with `code` at address `n'` (R459). -/
def Chip.dmaError (c : Chip) (n code at_ : Nat) : Chip :=
  let c := ((c.setDmaState n 3).wf rDMA_STAT n 0 27 24 code).wr rDMA_EADR n 0 (BitVec.ofNat 32 at_)
  (c.wb rDMA_STAT n 0 1 true).log 0x0A 0x30

/-- An error of a descriptor that was readable: word 6 gets RESULT 3. -/
def Chip.dmaFail (c : Chip) (n code at_ : Nat) : Chip := (c.dmaWord6 n 3).dmaError n code at_

/-- The descriptor at `at_` fetched, and the channel in RUN (R448, R449). -/
def Chip.dmaFetch (c : Chip) (n at_ : Nat) : Chip :=
  let c := (c.setDmaState n 1).wr rDMA_CUR n 0 (BitVec.ofNat 32 at_)
  match c.dmaWords (c.dmaAccess n) at_ 8 with
  | (c, l, e) =>
    match (if e.isSome then e else if l.any (·.2) then some at_ else none) with
    | some f => c.dmaError n 1 f
    | none =>
      let x := DmaCh.ofWords (l.map (·.1))
      let c := c.setDmaCh n x
      if x.malformed then c.dmaFail n 2 at_ else c

/-- NEXT of the descriptor in progress. -/
def Chip.dmaNext (c : Chip) (n : Nat) : Nat := ((c.dmaCh n).word 4).toNat

/-- Word 0 of the parked or completed descriptor read again; LAST as it now reads (R462, R463). -/
def Chip.dmaReread (c : Chip) (n : Nat) : Chip × Option Bool :=
  let at_ := (c.rd rDMA_CUR n).toNat
  match c.dmaWord (c.dmaAccess n) at_ with
  | (c, w, .ok) => (c, some (bit w 31))
  | (c, _, _) => (c.dmaError n 1 at_, none)

/-- NEXT as the descriptor now holds it in memory: firmware wrote it before it cleared LAST (R464). -/
def Chip.dmaFollow (c : Chip) (n : Nat) : Chip :=
  let at_ := (c.rd rDMA_CUR n).toNat + 16
  match c.dmaWord (c.dmaAccess n) at_ with
  | (c, w, .ok) => c.dmaFetch n (w.toNat / 32 * 32)
  | (c, _, _) => c.dmaError n 1 at_

/-! ## Stops, doorbells, CLR (R459, R461, R463) -/

/-- The channel enters IDLE after a stop. -/
def Chip.dmaStopped (c : Chip) (n : Nat) : Chip := (c.setDmaState n 0).wb rDMA_STAT n 0 3 true

/-- The read-back of the word that holds the last destination byte (R458 step 1): the address it fails at. -/
def Chip.dmaReadBack (c : Chip) (n : Nat) : Chip × Option Nat :=
  let x := c.dmaCh n
  let at_ := x.lastWord
  match c.dmaWord (c.dmaAccess n) at_ with
  | (c, _, .error) => (c, some at_)
  | (c, _, _) => (c, none)

/-- A descriptor cut off between beats by STOP (R461). -/
def Chip.dmaStopBeats (c : Chip) (n : Nat) : Chip :=
  let x := c.dmaCh n
  let c := c.setDmaState n 4
  let (c, e) := if x.toWrite < x.count then c.dmaReadBack n else (c, none)
  match e with
  | some at_ => c.dmaFail n 5 at_
  | none => (if bit (x.word 0) 29 then c.dmaWord6 n 2 else c).dmaStopped n

/-- STOP (R461): between bursts the channel stops at once, and a burst in progress ends first; a descriptor whose last beat is
written completes first (R465). -/
def Chip.dmaStop (c : Chip) (n : Nat) : Chip :=
  let st := c.dmaState n
  let x := c.dmaCh n
  if st = 2 then c.dmaStopped n
  else if st ≠ 1 then c
  else match x.phase with
    | .readBack => c.setDmaState n 4
    | .recheck => c.dmaStopped n
    | .beats => if x.left ≠ 0 then c.setDmaState n 4 else c.dmaStopBeats n

/-- A doorbell (R463). -/
def Chip.dmaDoorbell (c : Chip) (n : Nat) : Chip :=
  match c.dmaState n with
  | 0 => if c.dmaOn n then (c.wb rDMA_STAT n 0 19 false).dmaFetch n (c.rd rDMA_DESC n).toNat else c
  | 1 | 4 => c.wb rDMA_STAT n 0 19 true
  | 2 =>
    match (c.wb rDMA_STAT n 0 19 false).dmaReread n with
    | (c, some false) => c.dmaFollow n
    | (c, some true) => c.inc rDMA_EARLY n 0
    | (c, none) => c
  | _ => c.inc rDMA_EARLY n 0

/-- DMA_CHn_CMD written: CLR, then STOP, then DB (R465). -/
def Chip.dmaCmd (c : Chip) (n : Nat) (v : Word) : Chip :=
  let c := if bit v 2 && c.dmaState n = 3 then c.setDmaState n 0 else c
  let c := if bit v 1 then c.dmaStop n else c
  if bit v 0 then c.dmaDoorbell n else c

/-- DMA_CTRL written: EN = 0 stops every channel (R461). -/
def Chip.dmaCtrl (c : Chip) : Chip :=
  if c.rb rDMA_CTRL 0 0 0 then c else c.each (List.range 16) fun c n => c.dmaStop n

/-- DMA_CHn_CFG written: a channel that would trigger itself is refused with error 7 (R450); EN = 0 acts as STOP. -/
def Chip.dmaCfg (c : Chip) (n : Nat) : Chip :=
  if !c.rb rDMA_CFG n 0 31 then c.dmaStop n
  else if c.rf rDMA_CFG n 0 27 26 = 3 && c.rf rDMA_CFG n 0 25 22 = n then
    (c.wb rDMA_CFG n 0 31 false).dmaError n 7 (rDMA_CFG.addr n 0)
  else c

/-- DMA_CHn_DESC written: outside IDLE the write is ignored (R465). -/
def Chip.dmaDesc (c : Chip) (n : Nat) (old : Word) : Chip := if c.dmaState n = 0 then c else c.wr rDMA_DESC n 0 old

/-! ## Events (R451) -/

/-- An event reaches channel `n`: counted in PEND in RUN and TAIL, lost at 255. -/
def Chip.dmaEvent (c : Chip) (n : Nat) : Chip :=
  if c.dmaState n = 1 || c.dmaState n = 2 then
    let p := c.rf rDMA_STAT n 0 15 8
    if p = 255 then (c.inc rDMA_TLOST 0 0).log 0x0A 0x32 else c.wf rDMA_STAT n 0 15 8 (p + 1)
  else c

/-- DMA_TRIGGER_EVENT (R450, R451): the fire of a comparator with DEST 6 and CHAN = `n` reaches channel `n`, which takes it
where its TRIG is 1. -/
def execDmaTriggerEvent (n : Fin 16) (s : State) : Host.Outcome State Fault Refusal :=
  run (fun c => c.when (c.alive .sys && c.dma.cmpReq.contains n.val) fun c =>
    let c := { c with dma := { c.dma with cmpReq := c.dma.cmpReq.erase n.val } }
    c.when (c.rf rDMA_CFG n 0 27 26 = 1) fun c => c.dmaEvent n) s

end Sys2Proof.Machine
end

