-- ==== Sys2Proof/Machine/Fixtures.lean ====
section
/-! DEFINITION. Fixtures, personalities and the standard functions of the press sub-image (spec/08 R255..R257). The spec gives
the records, the arithmetic and what each function builds; where the tables, the assembly areas and the staging records
stand is Config's, and how the words at ARG are laid out is the model's (log entry 196). -/

namespace Sys2Proof.Machine

/-! ## Records (R255, R256) -/

/-- A fixture record. -/
structure Fixture where
  valid : Bool
  pers : Nat
  port : Nat
  addr : Nat
  elem0 : Nat
  nelem : Nat
  dim : Nat
  deriving DecidableEq, Repr

/-- The fixture of 32 bytes. -/
def fixtureOf (l : List Byte) : Fixture :=
  let w := fun i => leWordAt l (4 * i)
  { valid := bit (w 0) 31, pers := fld (w 0) 25 16, port := fld (w 0) 5 0, addr := fld (w 1) 11 0
    elem0 := fld (w 2) 17 0, nelem := fld (w 3) 15 0, dim := fld (w 4) 15 0 }

/-- The sampler request of the 16 bytes of an element record. -/
def elementOf (l : List Byte) : SmpReq := { w0 := leWordAt l 0, u := fld (leWordAt l 4) 20 0, v := fld (leWordAt l 8) 20 0 }

/-- A personality record: its matrix row by row, and KIND and VAL of its channels. -/
structure Persona where
  foot : Nat
  nemit : Nat
  dimCh : Bool
  mat : List Int
  chans : List (Nat × Nat)
  deriving DecidableEq, Repr

/-- The personality of 128 bytes. -/
def personaOf (l : List Byte) : Persona :=
  { foot := (l.getD 0 0).toNat, nemit := (l.getD 1 0).toNat, dimCh := (l.getD 2 0).getLsbD 0
    mat := (List.range 24).map fun i => s16 (l.getD (4 + 2 * i) 0) (l.getD (5 + 2 * i) 0)
    chans := (List.range 32).map fun i => let w := leNat (slice l (64 + 2 * i) 2); (w / 4096, w % 256) }

/-- A number clamped to 16 bits. -/
def clamp16 (x : Int) : Nat := (max 0 (min 65535 x)).toNat

/-- Emitter `j` for the N16 sample `x` (R256). -/
def Persona.emit (m : Persona) (dim : Nat) (x : Nat × Nat × Nat) (j : Nat) : Nat :=
  let k := fun s => m.mat.getD (3 * j + s) 0
  let e := clamp16 ((k 0 * x.1 + k 1 * x.2.1 + k 2 * x.2.2 + 4096) / 8192)
  if m.dimCh then e else min 65535 ((e * dim + 16384) / 32768)

/-- The byte of a channel entry (R256); an emitter the record does not have gives a free value (log entry 196). -/
def Persona.chan (m : Persona) (dim : Nat) (x : Nat × Nat × Nat) (e : Nat × Nat) : Byte :=
  match e.1 with
  | 0 => if e.2 < m.nemit then BitVec.ofNat 8 (m.emit dim x e.2 / 256) else Config.freeByte e.2 0
  | 1 => if e.2 < m.nemit then BitVec.ofNat 8 (m.emit dim x e.2) else Config.freeByte e.2 1
  | 2 => BitVec.ofNat 8 e.2
  | 3 => BitVec.ofNat 8 (min (dim / 128) 255)
  | 4 => BitVec.ofNat 8 (2 * dim)
  | _ => 0

/-- The channel bytes of one element. -/
def Persona.bytes (m : Persona) (dim : Nat) (x : Nat × Nat × Nat) : List Byte := (m.chans.take m.foot).map (m.chan dim x)

/-! ## Where things stand -/

/-- The first address of a table in region 3: 0 fixtures, 1 elements, 2 personalities. -/
def fixTable (t : Nat) : Nat := 0x93000000 + Config.fixTable t % 0x01000000

/-- Where channel byte `i` of port `p`'s assembly area stands in press SRAM. -/
def asmAddr (p i : Nat) : Nat := 0x40000000 + Config.asmArea p i % 0x00200000

/-- The number of a channel byte in its port's assembly area: of channel `j` of element `e` of a fixture at `addr` with
`foot` channels, by the port's mode. A PULSE element is one word whose first channel is sent first (R282); a DMX channel is
a slot (R285); a node's channels follow one another (R313). -/
def asmPlace (mode addr foot e j : Nat) : Nat :=
  match mode with
  | 2 => 4 * (addr + e) + (foot - 1 - j)
  | 3 => addr - 1 + foot * e + j
  | _ => 4096 * addr + foot * e + j

/-- Bytes core `k` reads in its own view. -/
def Chip.coreGet (c : Chip) (k a n : Nat) : Chip × List Byte :=
  if a < 0x20000 then (c, c.bytes (localKey (Fin.ofNat 16 k) a) n)
  else
    let (c, l) := c.engBytes .press false a n
    (c, datas l)

/-- Bytes core `k` writes in its own view. -/
def Chip.corePut (c : Chip) (k a : Nat) (l : List Byte) : Chip :=
  if a < 0x20000 then c.setBytes (localKey (Fin.ofNat 16 k) a) l else c.engPut .press false a l

/-! ## The functions (R257) -/

/-- IMM0 and IMM1 of an item, and its ARG. -/
def Item.imm0 (x : Item) : Nat := (x.word 4).toNat
def Item.imm1 (x : Item) : Nat := (x.word 5).toNat
def Item.arg (x : Item) : Nat := (x.word 1).toNat

/-- A component triple in the element array: R, G, B, then 0. -/
def rgbBytes (v : Nat × Nat × Nat) : List Byte := natLE 2 v.1 ++ natLE 2 v.2.1 ++ natLE 2 v.2.2 ++ [0, 0]

/-- The component triple of 8 bytes of the element array. -/
def rgbOf (l : List Byte) : Nat × Nat × Nat := (leNat (slice l 0 2), leNat (slice l 2 2), leNat (slice l 4 2))

/-- MAP: elements IMM0 to IMM0 + IMM1 − 1 sampled into the array at ARG. -/
def Chip.stdMap (c : Chip) (k : Nat) (x : Item) : Chip :=
  c.each (List.range (min 0x40000 x.imm1)) fun c i =>
    let (c, l) := c.engBytes .press false (fixTable 1 + 16 * (x.imm0 + i)) 16
    let r := elementOf (datas l)
    let (c, v) := (c.lateSample r.w0).sampleOf r
    c.corePut k (x.arg + 8 * i) (rgbBytes v)

/-- One fixture: its personality applied to its elements, whose samples stand in the array that begins at `arr` with
element 0, into its port's assembly area. -/
def Chip.stdFixture (c : Chip) (k arr i : Nat) : Chip :=
  let (c, l) := c.engBytes .press false (fixTable 0 + 32 * i) 32
  let f := fixtureOf (datas l)
  if !f.valid then c else
  let (c, l) := c.engBytes .press false (fixTable 2 + 128 * f.pers) 128
  let m := personaOf (datas l)
  c.each (List.range f.nelem) fun c e =>
    let (c, l) := c.coreGet k (arr + 8 * (f.elem0 + e)) 8
    let b := m.bytes f.dim (rgbOf l)
    c.each (List.range b.length) fun c j =>
      c.engPut .press false (asmAddr f.port (asmPlace (c.modeNow f.port) f.addr m.foot e j)) [b.getD j 0]

/-- PERS: the IMM0 fixtures whose indices stand at ARG, one a word. -/
def Chip.stdPers (c : Chip) (k : Nat) (x : Item) : Chip :=
  c.each (List.range (min 0x10000 x.imm0)) fun c i =>
    let (c, l) := c.coreGet k (x.arg + 4 * i) 4
    c.stdFixture k x.imm1 (leNat l)

/-- `n` bytes of port `p`'s assembly area from number `i` on. -/
def Chip.asmGet (c : Chip) (p i n : Nat) : Chip × List Byte :=
  (List.range n).foldl (fun (z : Chip × List Byte) j =>
    let (c, l) := z.1.engBytes .press false (asmAddr p (i + j)) 1
    (c, z.2 ++ datas l)) (c, [])

/-- Bytes as words, the last one filled with zeros. -/
def byteWords (l : List Byte) : List Word := (List.range ((l.length + 3) / 4)).map fun i => leWordAt l (4 * i)

/-- A staging record built in the `j`-th place of port `p` and posted by core `k` (R258). -/
def Chip.stdPost (c : Chip) (k p j kind addr : Nat) (ws : List Word) : Chip :=
  let u := Config.stgUnit p j % 4096
  let c := c.engPut .press false (0x40000000 + 512 * u) ((BitVec.ofNat 32 (kind * 2 ^ 28 + addr * 2 ^ 16 + ws.length) :: ws).flatMap wordBytes)
  c.stgPost k (BitVec.ofNat 32 (u * 2 ^ 20 + p))

/-- ASM_LANE: a CHAN item of the first `n` channel bytes of node `a`, in records of at most 61 words of them (R258, R313). -/
def Chip.stdNode (c : Chip) (k p a n : Nat) : Chip :=
  c.each (List.range ((n + 243) / 244)) fun c i =>
    let m := min 244 (n - 244 * i)
    let (c, l) := c.asmGet p (asmPlace 1 a n 0 (244 * i)) m
    c.stdPost k p (64 * a + i) 0 a (BitVec.ofNat 32 (0x40 * 2 ^ 24 + (m + 3) / 4 * 2 ^ 16 + 244 * i) :: byteWords l)

/-- ASM_LANE, ASM_DMX, ASM_PULSE: the words at ARG name the port, the first node, slot or element, how many, and for LANE the
channels of a node. -/
def Chip.stdAsm (c : Chip) (k kind : Nat) (x : Item) : Chip :=
  let (c, l) := c.coreGet k x.arg 16
  let p := fld (leWordAt l 0) 5 0
  let a := fld (leWordAt l 4) 11 0
  let n := min 4096 (leWordAt l 8).toNat
  match kind with
  | 0 => c.each (List.range n) fun c i => c.stdNode k p (a + i) (min 4096 (leWordAt l 12).toNat)
  | 1 =>
    let (c, b) := c.asmGet p (asmPlace 3 a 1 0 0) n
    c.stdPost k p 0 1 a (byteWords b)
  | _ =>
    let (c, b) := c.asmGet p (asmPlace 2 a 1 0 0) (4 * n)
    c.stdPost k p 0 2 a (byteWords b)

/-- The work of a running item's function, done when its core completes it. NOP and the reserved functions do none; what a
function above 15 does is its author's, and its core's accesses are commands of their own. -/
def Chip.stdWork (c : Chip) (k : Nat) (x : Item) : Chip :=
  match fld (x.word 0) 9 0 with
  | 1 => c.stdMap k x
  | 2 => c.stdPers k x
  | 3 => c.stdAsm k 0 x
  | 4 => c.stdAsm k 1 x
  | 5 => c.stdAsm k 2 x
  | _ => c

/-! ## Completion by a core (R233, R239, R257) -/

/-- PCW_DONE written by core `k`: its item's function has done its work. -/
def Chip.pcwDone (c : Chip) (k : Nat) : Chip :=
  match if c.coreOn k then c.runningOn k else none with
  | none => c
  | some x => (c.stdWork k x).complete k false

/-- PCW_FAULT written by core `k` (R233): the item's output is missing. -/
def Chip.pcwFault (c : Chip) (k : Nat) : Chip := if c.coreOn k then c.complete k true else c

/-- PCW_DONE written by core `core`. -/
def execPcwDone (core : Fin 16) (s : State) : Host.Outcome State Fault Refusal := run (fun c => c.pcwDone core) s

/-- PCW_FAULT written by core `core` (R233). -/
def execPcwFault (core : Fin 16) (s : State) : Host.Outcome State Fault Refusal := run (fun c => c.pcwFault core) s

end Sys2Proof.Machine
end

