-- ==== Sys2Proof/Machine/Merge.lean ====
section
/-! DEFINITION. The ST 2022-7 merge slots of ING (spec/03 R100..R105). -/

namespace Sys2Proof.Machine

/-- Merge slot `s`. -/
def Chip.mrg (c : Chip) (s : Nat) : Mrg := mget ({} : Mrg) c.mrgs s

/-- Merge slot `s` set. -/
def Chip.setMrg (c : Chip) (s : Nat) (m : Mrg) : Chip := { c with mrgs := mset ({} : Mrg) c.mrgs s m }

/-- The lowest enabled merge slot whose path on port `p` a frame matches (R100, R109). -/
def Chip.mrgMatch (c : Chip) (p : Nat) (h : Hdr) : Option Nat :=
  if p > 1 || !h.udp then none else
  (List.range 16).find? fun s =>
    c.rb rMRG_CTRL s 0 31 && c.rd rMRG_IP s p == h.dst && (c.rd rMRG_IP s (2 + p) == 0 || c.rd rMRG_IP s (2 + p) == h.src)
      && (if p = 0 then c.rf rMRG_PORTS s 0 15 0 else c.rf rMRG_PORTS s 0 31 16) = h.dport

/-- Where the RTP payload begins: after the fixed header, the contributing sources and the extension. -/
def rtpHead (b : List Byte) : Nat :=
  let b0 := (b.getD 0 0).toNat
  let o := 12 + 4 * (b0 % 16)
  if b0 / 16 % 2 = 1 then o + 4 + 4 * beNat (slice b (o + 2) 2) else o

/-- The merge key of a packet (R101), when it is long enough to hold one. -/
def mrgKeyOf (dps : Bool) (b : List Byte) : Option (BitVec 32) :=
  if dps then (if b.length < 36 then none else some (BitVec.ofNat 32 (beNat (slice b 8 4))))
  else
    let o := rtpHead b
    if b.length < 12 || b.length < o + 2 then none
    else some (BitVec.ofNat 32 (beNat (slice b o 2) * 2 ^ 16 + beNat (slice b 2 2)))

/-- The down and up runs of one path and its PATH_DOWN bit, after a key that left: seen on the path, on the other. -/
structure PathRun where
  down : Nat
  up : Nat
  flag : Bool
  deriving DecidableEq, Repr

/-- One key's effect on a path's runs (R105). -/
def PathRun.account (r : PathRun) (seen other : Bool) : PathRun :=
  let down := if seen then 0 else if other then r.down + 1 else r.down
  let up := if r.flag then (if seen then r.up + 1 else 0) else 0
  if !r.flag && down ≥ 4096 then { down := down, up := 0, flag := true }
  else if r.flag && up ≥ 4096 then { down := down, up := 0, flag := false }
  else { down := down, up := up, flag := r.flag }

/-- A path's PATH_DOWN bit changed: interrupt 45 and the log (R105). -/
def Chip.pathChange (c : Chip) (s b : Nat) (old new : Bool) : Chip :=
  if old = new then c else ((c.wb rMRG_CTRL s 0 b new).log 0x05 (if new then 0x60 else 0x61)).irq 45

/-- A key leaves the window of slot `s` and is accounted for (R103, R105). -/
def Chip.mrgAccount (c : Chip) (s : Nat) (k : MrgKey) : Chip :=
  let m := c.mrg s
  let c := if k.a && !k.b then c.inc rMRG_CNT s 5 else if k.b && !k.a then c.inc rMRG_CNT s 4
    else if !k.a && !k.b then c.inc rMRG_CNT s 6 else c
  let fa := c.rb rMRG_CTRL s 0 29
  let fb := c.rb rMRG_CTRL s 0 28
  let ra := PathRun.account { down := m.downA, up := m.upA, flag := fa } k.a k.b
  let rb := PathRun.account { down := m.downB, up := m.upB, flag := fb } k.b k.a
  let c := c.setMrg s { c.mrg s with downA := ra.down, upA := ra.up, downB := rb.down, upB := rb.up }
  (c.pathChange s 29 fa ra.flag).pathChange s 28 fb rb.flag

/-- The window of slot `s` slid by `n` keys, at most its width: the keys that leave, oldest first; the empty positions below the
starting key leave unaccounted (R103). -/
def Chip.mrgSlide (c : Chip) (s n : Nat) : Chip :=
  c.each (List.range n) fun c i =>
    let m := c.mrg s
    let age := m.win - 1 - i
    let key := (m.newest - BitVec.ofNat 32 age).toNat
    let k := mget ({} : MrgKey) m.keys key
    let c := c.setMrg s { m with keys := mset ({} : MrgKey) m.keys key {} }
    if age < m.valid || k.a || k.b then c.mrgAccount s k else c

/-- Seen on path `p` set for a key, with the skew between its two copies (R101, R104). -/
def Chip.mrgSeen (c : Chip) (s p : Nat) (key : BitVec 32) (ts : Nat) : Chip :=
  let m := c.mrg s
  let k := mget ({} : MrgKey) m.keys key.toNat
  let dup := k.a || k.b
  let k' : MrgKey :=
    if dup then { k with a := k.a || p = 0, b := k.b || p = 1 }
    else { a := p = 0, b := p = 1, firstA := p = 0, ts := if key.toNat % 256 = 0 then ts else 0 }
  let c := c.setMrg s { m with keys := mset ({} : MrgKey) m.keys key.toNat k' }
  let other := if k.firstA then p = 1 && !k.b else p = 0 && !k.a
  if dup && other && key.toNat % 256 = 0 then
    let d : Int := if p = 1 then (ts : Int) - k.ts else (k.ts : Int) - ts
    let c := c.wr rMRG_SKEW s 0 (wordOf d)
    if d.natAbs > (c.rd rMRG_SKEWMAX s).toNat then c.wr rMRG_SKEWMAX s 0 (BitVec.ofNat 32 (min d.natAbs 0xFFFFFFFF)) else c
  else c

/-- MERGE_PACKET (R101, its pseudocode): a packet with key `key` of path `p`; the flag tells that it is accepted. -/
def Chip.mergePacket (c : Chip) (s p : Nat) (key : BitVec 32) (ts : Nat) : Chip × Bool :=
  let m := c.mrg s
  if !m.started then
    let c := c.setMrg s { started := true, newest := key, win := c.rf rMRG_CTRL s 0 14 0 + 1, valid := 1, lateRun := m.lateRun }
    ((c.mrgSeen s p key ts).inc rMRG_CNT s p, true)
  else
    let d := (key - m.newest).toInt
    if d > 0 then
      let n := min d.toNat m.win
      let c := c.mrgSlide s n
      let m := c.mrg s
      let c := c.setMrg s { m with newest := key, lateRun := 0, valid := min m.win (m.valid + d.toNat) }
      ((c.mrgSeen s p key ts).inc rMRG_CNT s p, true)
    else if d > -(m.win : Int) then
      let k := mget ({} : MrgKey) m.keys key.toNat
      let c := (c.setMrg s { m with lateRun := 0 }).mrgSeen s p key ts
      if k.a || k.b then (c.inc rMRG_CNT s 2, false) else (c.inc rMRG_CNT s p, true)
    else
      let c := (c.inc rMRG_CNT s 3).setMrg s { m with lateRun := m.lateRun + 1 }
      if m.lateRun + 1 = 256 then
        let c := c.setMrg s { c.mrg s with started := false }
        (((c.inc rMRG_CNT s 7).log 0x05 0x62).irq 45, false)
      else (c, false)

/-- ING_MRG_CTRL written: EN 0 to 1 clears the window, the counters and the PATH_DOWN bits (R101, R105). -/
def Chip.mrgCtrl (c : Chip) (s : Nat) (old v : Word) : Chip :=
  if bit v 31 && !bit old 31 then
    let c := c.setMrg s {}
    let c := (c.wb rMRG_CTRL s 0 29 false).wb rMRG_CTRL s 0 28 false
    c.each (List.range 8) fun c j => c.wr rMRG_CNT s j 0
  else c

/-- ING_MRG_SKEWMAX written: 0 clears it, anything else is ignored (R104). -/
def Chip.skewMax (c : Chip) (s : Nat) (v : Word) : Chip := if v = 0 then c.wr rMRG_SKEWMAX s 0 0 else c

end Sys2Proof.Machine
end

