-- ==== Sys2Proof/Machine/Ingress.lean ====
section
/-! DEFINITION. The claim steps of ING, stream slots, ST 2110-20, the Dalilo Pixel Stream and E1.31 (spec/04
R109..R111, R118..R130). -/

namespace Sys2Proof.Machine

/-! ## Stream slots (R110, R111, R118..R120) -/

/-- Slot `i`'s open frame. -/
def Chip.slot (c : Chip) (i : Nat) : SlotSt := mget ({} : SlotSt) c.slots i

/-- Slot `i`'s open frame set. -/
def Chip.setSlot (c : Chip) (i : Nat) (x : SlotSt) : Chip := { c with slots := mset ({} : SlotSt) c.slots i x }

/-- A packet of slot `i` discarded under R111. -/
def Chip.slotDrop (c : Chip) (i : Nat) : Chip := (c.inc rSLOT_DROP i 0).log 0x05 0x54 (BitVec.ofNat 32 i)

/-- The enabled slots of canvas `cv`. -/
def Chip.slotsOf (c : Chip) (cv : Nat) : List Nat :=
  (List.range 32).filter fun i => c.rb rSLOT_CTRL i 0 31 && c.rf rSLOT_CTRL i 0 24 23 = cv

/-- The pixels of slot `i`'s extent. -/
def Chip.slotPixels (c : Chip) (i : Nat) : Nat := (c.rf rSLOT_EXT i 0 12 0 + 1) * (c.rf rSLOT_EXT i 0 28 16 + 1)

/-- Whether slot `i`'s open frame is complete (R124). -/
def Chip.slotFull (c : Chip) (i : Nat) : Bool :=
  (c.slot i).pixels ≥ c.slotPixels i && (c.rb rSLOT_CTRL i 0 30 || (c.slot i).marker)

/-- Canvas `cv`'s open frame of stream slots closes when every enabled slot of it has closed its slot frame (R120). -/
def Chip.canvCheck (c : Chip) (cv : Nat) : Chip :=
  let x := c.canv cv
  if x.openBuf.isSome && !x.e131Open && ((c.slotsOf cv).all fun i => x.closedSlots.getLsbD i) then c.canvClose cv x.allComplete else c

/-- Slot `i` closes its frame of canvas `cv`'s open frame (R124). -/
def Chip.slotClose (c : Chip) (cv i : Nat) (complete : Bool) : Chip :=
  let x := c.canv cv
  let c := c.setCanv cv { x with closedSlots := x.closedSlots ||| (1#32 <<< i), allComplete := x.allComplete && complete }
  c.setSlot i { last := (c.slot i).tag }

/-- A newer tag closes the open canvas frame: its slot frames still open close by the test of R124, and a slot that
never opened one leaves it incomplete (R120). -/
def Chip.canvSupersede (c : Chip) (cv : Nat) : Chip :=
  let x := c.canv cv
  if x.openBuf.isNone then c else
  let c := c.each (List.range 32) fun c i =>
    if (c.slot i).tag.isSome && (c.slot i).tag = x.tag && c.rf rSLOT_CTRL i 0 24 23 = cv then c.slotClose cv i (c.slotFull i) else c
  let x := c.canv cv
  c.canvClose cv (x.allComplete && (c.slotsOf cv).all fun i => x.closedSlots.getLsbD i)

/-- What a packet brings to its slot: its tag, the groups it writes as (column, row, bytes), its pixels, its marker, the
tile count of its frame, its presentation time. -/
structure Packet where
  tag : BitVec 32
  puts : List (Nat × Nat × List Byte)
  pixels : Nat
  marker : Bool
  tiles : Nat
  pts : Nat
  deriving DecidableEq, Repr

/-- A packet written into the open canvas frame, and its slot frame closed where R124 and R126 close it. -/
def Chip.slotWrite (c : Chip) (cv i b : Nat) (k : Packet) : Chip :=
  let g := c.geom cv
  let x := c.slot i
  let x := if x.tag = some k.tag then x else { tag := some k.tag, tilesWant := k.tiles : SlotSt }
  let c := c.each k.puts fun c w => c.canvPut .ingress g b w.1 w.2.1 w.2.2
  let c := c.inc rSLOT_PKTS i 0
  let x := { x with pixels := x.pixels + k.pixels, marker := x.marker || k.marker, tiles := x.tiles + 1 }
  let c := c.setSlot i x
  let dps := c.rb rSLOT_CTRL i 0 30
  let done := if dps then x.tiles ≥ x.tilesWant || x.pixels ≥ c.slotPixels i else k.marker
  if done then (c.slotClose cv i (c.slotFull i)).canvCheck cv else c

/-- A packet too late for its canvas (R119). -/
def Chip.latePkt (c : Chip) (cv : Nat) : Chip := c.inc rCANV_CNT cv 3

/-- STREAM_PACKET (R119): a packet compared by tag with its canvas. -/
def Chip.streamPacket (c : Chip) (cv i : Nat) (k : Packet) : Chip :=
  let x := c.canv cv
  let newer := match x.tag with
    | none => true
    | some t => (k.tag - t).toInt > 0 && k.tag - t ≠ 0x80000000
  if newer then
    let c := c.canvSupersede cv
    match c.canvClaim .ingress cv with
    | (c, none) => c
    | (c, some b) =>
      (c.setCanv cv { c.canv cv with tag := some k.tag, openBuf := some b, pts := k.pts, closedSlots := 0, allComplete := true }).slotWrite
        cv i b k
  else
    match x.openBuf with
    | some b => if x.tag = some k.tag && !x.closedSlots.getLsbD i then c.slotWrite cv i b k else c.latePkt cv
    | none => c.latePkt cv

/-- SLOT_REWRITE (R118): ING_SLOT_CTRL written; a slot disabled or rewritten in KIND, MRG_EN, MRG, CANVAS or PORTS closes
its open frame incomplete. -/
def Chip.slotCtrl (c : Chip) (i : Nat) (old v : Word) : Chip :=
  let cut := (bit old 31 && !bit v 31) || fld old 30 20 ≠ fld v 30 20
  if !cut then c else
  let cv := fld old 24 23
  let x := c.canv cv
  let held := x.openBuf.isSome && (c.slot i).tag.isSome && (c.slot i).tag = x.tag
  let c := if held then c.slotClose cv i false else c.setSlot i {}
  (c.canvCheck cv).canvCheck (fld v 24 23)

/-! ## ST 2110-20 (R121..R123) -/

/-- The presentation time of an ST 2110-20 frame (R123). -/
def rtpPts (rtp : BitVec 32) (rx : Nat) (pdly : Int) : Nat :=
  let n : Int := ((rx : Int) * 90000 - rtp.toNat * nsPerSec + 2 ^ 31 * nsPerSec) / (2 ^ 32 * nsPerSec)
  (((rtp.toNat + n * 2 ^ 32) * nsPerSec / 90000 + pdly) % (clockMod : Int)).toNat

/-- The sample row data headers at `o`, at most three: (length, row, offset), and where they end. -/
def srdHeads (b : List Byte) : Nat → Nat → List (Nat × Nat × Nat) → Option (List (Nat × Nat × Nat) × Nat)
  | 0, _, _ => none
  | n + 1, o, l =>
    if b.length < o + 6 then none else
    let row := beNat (slice b (o + 2) 2)
    let off := beNat (slice b (o + 4) 2)
    if row ≥ 2 ^ 15 then none else
    let l := l ++ [(beNat (slice b o 2), row, off % 2 ^ 15)]
    if off < 2 ^ 15 then some (l, o + 6) else srdHeads b n (o + 6) l

/-- How a format check ends: the packet, or discarded, with or without a pixel outside the canvas. -/
inductive Check where
  | ok (k : Packet)
  | bad
  | outside
  deriving DecidableEq, Repr

/-- Slot `i`'s extent: its first column and row, and the ones after its last. -/
def Chip.extent (c : Chip) (i : Nat) : Nat × Nat × Nat × Nat :=
  let ox := c.rf rSLOT_ORG i 0 12 0
  let oy := c.rf rSLOT_ORG i 0 28 16
  (ox, oy, ox + c.rf rSLOT_EXT i 0 12 0 + 1, oy + c.rf rSLOT_EXT i 0 28 16 + 1)

/-- Some pixel of a rectangle falls outside slot `i`'s extent. -/
def Chip.leavesExtent (c : Chip) (i x y w h : Nat) : Bool :=
  let (ox, oy, ex, ey) := c.extent i
  w ≠ 0 && h ≠ 0 && (x < ox || y < oy || x + w > ex || y + h > ey)

/-- Some pixel of a rectangle falls inside slot `i`'s extent but outside canvas `cv`. -/
def Chip.leavesCanvas (c : Chip) (cv i x y w h : Nat) : Bool :=
  let (ox, oy, ex, ey) := c.extent i
  let g := c.geom cv
  let hx := min (x + w) ex
  let hy := min (y + h) ey
  max x ox < hx && max y oy < hy && (hx > g.w || hy > g.h)

/-- The groups of the sample rows placed (R122): (column, row, bytes, pixels) from the headers and the payload. -/
def srdPlace (fmt ox oy : Nat) : List (Nat × Nat × Nat) → List Byte → List (Nat × Nat × List Byte × Nat)
  | [], _ => []
  | (n, row, off) :: t, b => (ox + off, oy + row, b.take n, n / groupBytes fmt * ppgOf fmt) :: srdPlace fmt ox oy t (b.drop n)

/-- An ST 2110-20 packet of slot `i` checked (R121, R122). -/
def Chip.st2110 (c : Chip) (cv i : Nat) (b : List Byte) (rx : Nat) : Check :=
  let b0 := (b.getD 0 0).toNat
  let b1 := (b.getD 1 0).toNat
  let fmt := c.rf rCANV_CTRL cv 0 1 0
  let o := rtpHead b
  let pad := if b0 / 32 % 2 = 1 then (b.getLastD 0).toNat else 0
  if b.length < o + 2 || b0 / 64 ≠ 2 || b1 % 128 ≠ c.rf rSLOT_CTRL i 0 15 9 then .bad else
  match srdHeads b 3 (o + 2) [] with
  | none => .bad
  | some (hs, e) =>
    let data := (b.drop e).take (b.length - e - pad)
    let l := srdPlace fmt (c.rf rSLOT_ORG i 0 12 0) (c.rf rSLOT_ORG i 0 28 16) hs data
    if l.any fun p => c.leavesCanvas cv i p.1 p.2.1 p.2.2.2 1 then .outside
    else if (hs.map (·.1)).sum ≠ data.length || (hs.any fun h => h.1 % groupBytes fmt ≠ 0 || h.2.2 % ppgOf fmt ≠ 0)
        || (l.any fun p => c.leavesExtent i p.1 p.2.1 p.2.2.2 1) then .bad
    else
      let rtp := BitVec.ofNat 32 (beNat (slice b 4 4))
      .ok { tag := rtp, puts := l.map fun p => (p.1, p.2.1, p.2.2.1), pixels := (l.map fun p => p.2.2.2).sum
            marker := b1 ≥ 128, tiles := 0, pts := rtpPts rtp rx (sgn (c.rd rCANV_PDLY cv)) }

/-! ## Dalilo Pixel Stream (R125, R126) -/

/-- Rows of a tile: (column, row, bytes). -/
def tileRows (x y n : Nat) : Nat → List Byte → List (Nat × Nat × List Byte)
  | 0, _ => []
  | h + 1, b => (x, y, b.take n) :: tileRows x (y + 1) n h (b.drop n)

/-- A DPS packet of slot `i` checked (R125, R126); the TILES field of a later tile of the slot's frame, open
or closed, is not examined. -/
def Chip.dps (c : Chip) (cv i : Nat) (b : List Byte) : Check :=
  let u := fun o n => beNat (slice b o n)
  let fmt := c.rf rCANV_CTRL cv 0 1 0
  let x := u 26 2
  let y := u 28 2
  let w := u 30 2
  let h := u 32 2
  let row := w / ppgOf fmt * groupBytes fmt
  let tag : BitVec 32 := BitVec.ofNat 32 (u 12 4)
  let later := (c.slot i).tag = some tag || ((c.slot i).last = some tag && (c.canv cv).tag = some tag)
  if b.length < 36 then .bad
  else if !c.leavesExtent i x y w h && c.leavesCanvas cv i x y w h then .outside
  else if u 0 2 ≠ 0x4450 || u 2 1 ≠ 1 || u 3 1 ≠ 0 || u 4 1 ≠ cv || u 5 1 ≠ fmt || (u 6 2 = 0 && !later)
      || u 22 4 ≥ nsPerSec || w = 0 || w % ppgOf fmt ≠ 0 || h = 0 || u 34 2 ≠ 0 then .bad
  else if c.leavesExtent i x y w h || x % ppgOf fmt ≠ 0 || b.length - 36 ≠ row * h then .bad
  else .ok { tag := tag, puts := tileRows x y row h (b.drop 36), pixels := w * h, marker := false, tiles := u 6 2
             pts := u 16 6 * nsPerSec + u 22 4 }

/-- A packet handed to slot `i`, directly or by the merger. -/
def Chip.slotPacket (c : Chip) (i : Nat) (b : List Byte) (rx : Nat) : Chip :=
  let cv := c.rf rSLOT_CTRL i 0 24 23
  if c.rb rCANV_CTRL cv 0 5 then c.slotDrop i else
  match if c.rb rSLOT_CTRL i 0 30 then c.dps cv i b else c.st2110 cv i b rx with
  | .bad => c.slotDrop i
  | .outside => (c.inc rCANV_CNT cv 4).slotDrop i
  | .ok k => if c.canvOn cv then c.streamPacket cv i k else c

/-! ## E1.31 (R127..R130) -/

/-- One entry of the universe map beside its registers. -/
def Chip.uni (c : Chip) (u : Nat) : Uni := mget ({} : Uni) c.unis u

/-- The entry set. -/
def Chip.setUni (c : Chip) (u : Nat) (x : Uni) : Chip := { c with unis := mset ({} : Uni) c.unis u x }

/-- The sources of universe `n` set. -/
def Chip.setSrcs (c : Chip) (n : Nat) (l : List E131Src) : Chip := { c with uniSrcs := mset ([] : List E131Src) c.uniSrcs n l }

/-- The byte offset of stored pixel byte `k` of an E1.31 canvas in its buffer. -/
def uniByte (g : Geom) (k : Nat) : Nat := k / (3 * g.w) * g.stride + k % (3 * g.w)

/-- The canvas bytes of entry `u`: the first one's index and their count. -/
def Chip.uniRun (c : Chip) (u : Nat) : Nat × Nat := (3 * c.rf rUNI_W2 u 0 25 0, c.rf rUNI_W1 u 0 9 0)

/-- The enabled universes of canvas `cv`. -/
def Chip.unisOf (c : Chip) (cv : Nat) : List Nat :=
  (List.range 1024).filter fun u => c.rb rUNI_W0 u 0 31 && c.rf rUNI_W0 u 0 17 16 = cv

/-- Bytes written from canvas byte `k` on, row by row with the padding of each row they reach the end of (R156); those past
the canvas are not written. The fuel bounds the rows. -/
def Chip.uniPut (c : Chip) (g : Geom) (b : Nat) : Nat → Nat → List Byte → Chip
  | 0, _, _ => c
  | n + 1, k, l =>
    if l.isEmpty || k ≥ 3 * g.w * g.h then c else
    let m := 3 * g.w - k % (3 * g.w)
    let x := l.take m
    let pad := if x.length = m then List.replicate (g.stride - g.rowBytes) 0 else []
    (c.celPut .ingress (g.base b + uniByte g k) (x ++ pad)).uniPut g b n (k + m) (l.drop m)

/-- The buffer a close copies from: the newest READY, else the PRESENTING one; none when the record reads poisoned. -/
def Chip.uniSource (c : Chip) (cv : Nat) : Chip × Option Nat :=
  match c.canvState .ingress cv with
  | (c, none) => (c, none)
  | (c, some w) =>
    let (c, l) := c.bufDescs .ingress cv (bufsIn w 2 ++ bufsIn w 3)
    (c, match l with
      | some l => (byAge l).getLast?.map (·.buf)
      | none => none)

/-- Bytes of entry `u` read from canvas byte `k` of buffer `src` on, `n` rows at most; DESIGN CHOICE (log entry 182): a
poisoned byte is copied as a free value. -/
def Chip.uniGet (c : Chip) (g : Geom) (src : Nat) : Nat → Nat → Nat → Chip × List Byte
  | 0, _, _ => (c, [])
  | n + 1, k, len =>
    if len = 0 then (c, []) else
    let m := min len (3 * g.w - k % (3 * g.w))
    let (c, l) := c.celBytes .ingress (g.base src + uniByte g k) m
    let (c, t) := c.uniGet g src n (k + m) (len - m)
    (c, (l.mapIdx fun i x => if x.2 then Config.freeByte c.cyc (k + i) else x.1) ++ t)

/-- Entry `u`'s bytes copied from buffer `src` to buffer `b`. -/
def Chip.uniCopy (c : Chip) (g : Geom) (src b u : Nat) : Chip :=
  let (k, n) := c.uniRun u
  let (c, l) := c.uniGet g src 512 k (min n (3 * g.w * g.h - k))
  c.uniPut g b 512 k l

/-- The open E1.31 frame of canvas `cv` closes: the bytes of every universe not received are copied, and the frame is
READY, presented PDLY after now (R130). -/
def Chip.e131Close (c : Chip) (cv : Nat) : Chip :=
  match if (c.canv cv).e131Open then (c.canv cv).openBuf else none with
  | none => c
  | some b =>
    let g := c.geom cv
    let c := match c.uniSource cv with
      | (c, none) => c
      | (c, some src) => c.each ((c.unisOf cv).filter fun u => !(c.uni u).got) fun c u => c.uniCopy g src b u
    let c := c.each (c.unisOf cv) fun c u => c.setUni u {}
    let pts := (((c.now : Int) + sgn (c.rd rCANV_PDLY cv)) % (clockMod : Int)).toNat
    (c.setCanv cv { c.canv cv with pts := pts }).canvClose cv true

/-- An E1.31 canvas in use: enabled, SRC = 1, FMT 0 (R113). -/
def Chip.e131Canv (c : Chip) (cv : Nat) : Bool := c.canvOn cv && c.rb rCANV_CTRL cv 0 5 && c.rf rCANV_CTRL cv 0 1 0 = 0

/-- What an E1.31 packet is. -/
inductive E131Kind where
  | data | sync | discovery | other
  deriving DecidableEq, Repr

/-- The kind an E1.31 payload's vectors say (ANSI E1.31). -/
def e131Kind (b : List Byte) : E131Kind :=
  let u := fun o n => beNat (slice b o n)
  if b.length < 44 || u 0 4 ≠ 0x00100000 || slice b 4 12 != [0x41, 0x53, 0x43, 0x2D, 0x45, 0x31, 0x2E, 0x31, 0x37, 0, 0, 0] then .other
  else if u 18 4 = 4 && u 40 4 = 2 then .data
  else if u 18 4 = 8 && u 40 4 = 1 then .sync
  else if u 18 4 = 8 && u 40 4 = 2 then .discovery
  else .other

/-- The source that writes a universe: the highest priority, the one seen first among equals (R128). -/
def uniWinner (l : List E131Src) : Option E131Src :=
  l.foldl (fun w s => match w with
    | none => some s
    | some t => if s.prio > t.prio then some s else w) none

/-- A universe's data packet taken by its source's priority and sequence (R128, R129): the universe's new sources, and
whether the packet's data is written. -/
def e131Take (l : List E131Src) (cid : List Byte) (prio : Nat) (seq : BitVec 8) (last : Bool) (now : Nat) : List E131Src × Bool :=
  let known := l.any fun s => s.cid == cid
  let stale := l.any fun s => s.cid == cid && (-19 ≤ (seq - s.last).toInt && (seq - s.last).toInt ≤ 0)
  if stale then (l, false)
  else if last then (l.filter fun s => s.cid != cid, false)
  else
    let new : E131Src := { cid := cid, prio := prio, last := seq, seen := now }
    let srcs := if known then l.map fun s => if s.cid == cid then new else s
      else if l.length < 2 then l ++ [new] else l
    (srcs, match uniWinner srcs with | some w => w.cid == cid | none => false)

/-- An E1.31 packet consumed without effect (R111, R127). -/
def Chip.e131Drop (c : Chip) : Chip := c.inc rE131_DROP 0 0

/-- The open frame of canvas `cv` closes when every enabled universe of it has come and no synchronisation address rules it
(R130). -/
def Chip.e131Check (c : Chip) (cv : Nat) : Chip :=
  if c.rf rCANV_E131 cv 0 15 0 = 0 && (c.unisOf cv).any (fun v => (c.uni v).got) && (c.unisOf cv).all (fun v => (c.uni v).got) then
    c.e131Close cv
  else c

/-- ING_UNIu_W0 written: an entry disabled, or moved to another universe or canvas, has received nothing there (R130). -/
def Chip.uniMap (c : Chip) (u : Nat) (old v : Word) : Chip :=
  if old = v then c else
  let c := c.setUni u {}
  (c.e131Check (fld old 17 16)).e131Check (fld v 17 16)

/-- E131_PACKET for entry `u`: the data written to its canvas, its frame opened, and closed when every universe has
come (R127, R130). -/
def Chip.e131Entry (c : Chip) (u : Nat) (b : List Byte) (write : Bool) : Chip :=
  let cv := c.rf rUNI_W0 u 0 17 16
  if !c.e131Canv cv then (if c.canvOn cv then c.e131Drop else c) else
  let g := c.geom cv
  let prio := (b.getD 108 0).toNat
  let seq := b.getD 111 0
  if !write then c else
  let (c, buf) := match (c.canv cv).openBuf with
    | some k => (c, some k)
    | none => c.canvClaim .ingress cv
  match buf with
  | none => c
  | some k =>
    let c := c.setCanv cv { c.canv cv with openBuf := some k, e131Open := true }
    let first := c.rf rUNI_W1 u 0 24 16
    let c := c.uniPut g k 512 (c.uniRun u).1 (slice (b.drop 126) first (c.uniRun u).2)
    ((c.setUni u { got := true }).wr rUNI_W3 u 0 (BitVec.ofNat 32 (prio * 2 ^ 24 + seq.toNat))).e131Check cv

/-- The E1.31 receiver's packet, when step 3 of R109 claims it: an enabled universe's data, a synchronisation packet of
some E1.31 canvas, or a discovery packet. -/
def Chip.e131Rx (c : Chip) (b : List Byte) : Option Chip :=
  match e131Kind b with
  | .other => none
  | .discovery => some c.e131Drop
  | .sync =>
    let a := beNat (slice b 45 2)
    let l := (List.range 4).filter fun cv => c.rb rCANV_CTRL cv 0 5 && a ≠ 0 && c.rf rCANV_E131 cv 0 15 0 = a
    if l.isEmpty then none else some (c.each l fun c cv => if c.e131Canv cv then c.e131Close cv else c)
  | .data =>
    let us := (List.range 1024).filter fun u => c.rb rUNI_W0 u 0 31 && c.rf rUNI_W0 u 0 15 0 = beNat (slice b 113 2)
    if us.isEmpty then none
    else if b.length < 126 || (b.getD 117 0) ≠ 2 || (b.getD 118 0) ≠ 0xA1 || beNat (slice b 119 2) ≠ 0 || beNat (slice b 121 2) ≠ 1
        || b.length ≠ 125 + beNat (slice b 123 2) || (b.getD 125 0) ≠ 0 then some c.e131Drop
    else
      let n := beNat (slice b 113 2)
      let (l, write) := e131Take (mget ([] : List E131Src) c.uniSrcs n) (slice b 22 16) (b.getD 108 0).toNat (b.getD 111 0)
        ((b.getD 112 0).getLsbD 6) c.now
      some ((c.setSrcs n l).each us fun c u => c.e131Entry u b write)

/-- E131_HOLD_EXPIRY (R130): HOLD microseconds have passed since the first packet of the open frame. -/
def execE131HoldExpiry (cv : Fin 4) (s : State) : Host.Outcome State Fault Refusal :=
  run (fun c => c.when (c.e131Canv cv && (c.canv cv).e131Open && c.rf rCANV_E131 cv 0 15 0 = 0) fun c => c.e131Close cv) s

/-- E131_SOURCE_TIMEOUT (R128): a tracked source of entry `u`'s universe has sent nothing for 2.5 s. -/
def execE131SourceTimeout (u : Fin 1024) (i : Fin 2) (s : State) : Host.Outcome State Fault Refusal :=
  run (fun c =>
    let n := c.rf rUNI_W0 u 0 15 0
    let l := mget ([] : List E131Src) c.uniSrcs n
    if i.val < l.length then c.setSrcs n (l.eraseIdx i.val) else c) s

/-! ## The claim steps (R109) -/

/-- The enabled stream slots a merge slot feeds. -/
def Chip.mrgFeeds (c : Chip) (m : Nat) : List Nat :=
  (List.range 32).filter fun i => c.rb rSLOT_CTRL i 0 31 && c.rb rSLOT_CTRL i 0 29 && c.rf rSLOT_CTRL i 0 28 25 = m

/-- The stream slot a frame matches (R110). -/
def Chip.slotMatch (c : Chip) (p : Nat) (h : Hdr) : Option Nat :=
  if !h.udp then none else
  (List.range 32).find? fun i =>
    c.rb rSLOT_CTRL i 0 31 && !c.rb rSLOT_CTRL i 0 29 && c.rb rSLOT_CTRL i 0 (20 + p) && c.rd rSLOT_DST i == h.dst
      && h.dport = (if c.rb rSLOT_CTRL i 0 30 then 30481 else c.rf rSLOT_UPORT i 0 15 0)
      && (c.rd rSLOT_SRC i == 0 || c.rd rSLOT_SRC i == h.src)

/-- Step 1 of R109: the merger of slot `m`. -/
def Chip.claimMerge (c : Chip) (p m : Nat) (f : RxFrame) (h : Hdr) : Chip :=
  match mrgKeyOf (c.rb rMRG_CTRL m 0 30) h.payload with
  | none => c.each (c.mrgFeeds m) fun c i => c.slotDrop i
  | some key =>
    let (c, ok) := c.mergePacket m p key f.ts
    if ok then c.each (c.mrgFeeds m) fun c i => c.slotPacket i h.payload f.ts else c

/-- The four claim steps for a frame that left the crossing of port `p`. -/
def Chip.claim (c : Chip) (p : Nat) (f : RxFrame) : Chip :=
  let h := parseHdr f.bytes
  if f.flagged then c.ringDeliver p f else
  match c.mrgMatch p h with
  | some m => c.claimMerge p m f h
  | none =>
    match c.slotMatch p h with
    | some i => c.slotPacket i h.payload f.ts
    | none =>
      match if h.udp && h.dport = 5568 then c.e131Rx h.payload else none with
      | some c => c
      | none =>
        if h.ipv4 && h.dst.toNat / 2 ^ 28 = 14 && !((List.range 32).any fun i => c.rd rGRP i == h.dst) then
          (c.inc rGRP_DROP 0 0).log 0x05 0x55
        else c.ringDeliver p f

/-- ING_FRAME_CLAIM (R109): the oldest frame of a port's crossing offered to the claim steps in order. -/
def execIngFrameClaim (p : Fin 3) (s : State) : Host.Outcome State Fault Refusal :=
  run (fun c => if !c.alive .sys then c else
    match (c.mac p).rxq with
    | [] => c
    | f :: t => (c.setMac p { c.mac p with rxq := t }).claim p f) s

end Sys2Proof.Machine
end

