-- ==== Sys2Proof/Machine/Bus.lean ====
section
/-! DEFINITION. A bus master's write: the fields of a register by their access codes (R6), the restrictions of R591, and
what a write does beyond them. -/

namespace Sys2Proof.Machine

/-- `old` after a write of `v` by the row's access codes: RW bits taken, W1C bits cleared where `v` has 1 (R6). -/
def RegRow.merge (r : RegRow) (old v : Word) : Word :=
  let rw := BitVec.ofNat 32 r.rw
  let w1c := BitVec.ofNat 32 r.w1c
  ((old &&& ~~~rw) ||| (v &&& rw)) &&& ~~~(v &&& w1c)

/-- Whether a write of `v` acts on what the row restricts (R591): the whole register, or a field it changes or starts.
DEDUCED (log entry 216): a register whose one field is restricted is restricted whole. -/
def RegRow.acts (r : RegRow) (old v : Word) : Bool :=
  r.whoMask = 0 || ((v ^^^ old) &&& BitVec.ofNat 32 (r.whoMask &&& r.rw)) ≠ 0 || (v &&& BitVec.ofNat 32 (r.whoMask &&& r.act)) ≠ 0

/-- Whether the write of `v` to register (i, j) of row `r` is refused with CAUSE 1, and nothing of it written: R591, the
owner of a submit window (R236), LOCK (R341), the mask of a mailbox (R470), an active table (R216), the masters of
VLT_LC_REQ (R479). -/
def Chip.writeRefused (c : Chip) (a : Access) (r : RegRow) (i j : Nat) (v : Word) : Bool :=
  let old := c.rd r i j
  (r.who ≠ .any && r.acts old v && !c.allowed a r.who) ||
  match r.hook with
  | .prsSub => i ≠ masterId a.master
  | .drvCommReg => c.commLocked
  | .drvNode => r = rNODE_W0 && fld v 31 24 ≠ fld (c.nodeWord false) 31 24 && (c.commLocked || !c.allowed a .hc0S)
  | .quePush => !c.mailMay a i false
  | .lutWin => c.lutActive i
  | .pixZone => i = b2n (c.rb rSH_SEL 0 1 6)
  | .vltLcReq => !((a.master == .hc0 || a.master == .hc1 || a.master == .porch) && c.worldS a)
  | _ => false

/-- What the write of `v` to register (i, j) of row `r` does beyond storing its fields; `old` is what the register
held. -/
def Chip.afterWrite (c : Chip) (a : Access) (r : RegRow) (i j : Nat) (old v : Word) : Chip :=
  match r.hook with
  | .sysRstreq => c.rstReq v
  | .wdogCtrl => c.wdogCtrl i old v
  | .wdogKick => c.wdogKick i
  | .sysRunslot => c.runslot v
  | .flashCtrl => c.flashCtrl v
  | .timeCtrl => c.stepWrite v
  | .ppsCtrl => c.ppsGate
  | .timeServo => c.servoState (fld old 2 0) (fld v 2 0)
  | .gridCtrl => c.gridApply v
  | .cmpCtrl => c.cmpCtrl i v
  | .capCtrl => c.capCtrl i old v
  | .uartData => c.uartWrite i v
  | .macCtrl => c.macCtrl i v
  | .macMaxlen => c.wf rMAC_MAXLEN i 0 13 0 (max 1518 (min 9216 (fld v 13 0)))
  | .macMdio => c.mdioWrite old v
  | .macQclass => c.pauseTx i
  | .rqTail => c.rqTailWrite i j v
  | .rqCtrl => c.flowUpdate i j
  | .tqTail => c.tqTailWrite i j v
  | .mrgCtrl => c.mrgCtrl i old v
  | .skewMax => c.skewMax i v
  | .canvCtrl => c.canvCtrl i old v
  | .canvTout => c.canvTout i v
  | .slotCtrl => c.slotCtrl i old v
  | .uniMap => c.uniMap i (old &&& 0x8003FFFF) (v &&& 0x8003FFFF)
  | .celCtrl => c.celEnable (bit v 0)
  | .rasCommit => c.rasCommit old v
  | .rasCtrl => c.rasCtrl old v
  | .rasShadow => if j = 1 then c.wr r i j old else c
  | .lutFill => c.lutFill old v
  | .cvtCtrl => c.cvtCtrl old v
  | .prsCtrl => c.prsCtrl v
  | .prsRun => c.prsRun old
  | .prsCnt => if r = rCNT_SET then c.cntWrite v else c
  | .prsKick => c.heldFlag
  | .prsSub => if j = 7 then c.winSubmit i else c
  | .pcwSub => if j = 7 then c.coreSubmit i else c
  | .pcwDone => c.pcwDone i
  | .pcwFault => c.pcwFault i
  | .pcwSmpReq => c.sampleRequest i v
  | .pcwStg => if r = rSTG_POST then c.stgPost i v else c
  | .portCtrl => c.portCtrl i old
  | .portPulse => c.pulseWrite i
  | .portBctrl => c.bctrl i v
  | .ldisc => c.ldisc i old v
  | .rdmCtrl => c.rdmCtrl i old v
  | .drvCtrl => c.darkRise old
  | .drvLock => c.commLock v
  | .drvCommReg => c.commLimits
  | .drvPolicy => c.drvPolicy r
  | .drvChange =>
    if c.rd r i j = old then c
    else if r.base < 0x100B3000 then c.changed .pattern i else c.changed .zone i
  | .drvPatRun => c.patRun old
  | .drvUcode => if c.rb rPAT_RUN 0 0 0 then c.wr r i j old else c
  | .drvNode => if r = rNODE_W0 then c.nodeWrite v else c
  | .cdrCtrl => c.cdrCtrl old
  | .cdrSwap => c.cdrSwap v
  | .cdrEpoch => c.epochWrite old
  | .cdrMask => c.pairCheck.adoptCheck.pairCheck
  | .cdrHb => c.hbClamp
  | .trlCtrl => c.trlCtrl
  | .trlSl => c.trlSl i v
  | .trlDcanv => c.trlDcanv i old v
  | .dmaCtrl => c.dmaCtrl
  | .dmaCfg => c.dmaCfg i
  | .dmaCmd => c.dmaCmd i v
  | .dmaDesc => c.dmaDesc i old
  | .queCfg => c.queCfg i old
  | .queMask => c.queMask i old
  | .quePush => c.mailPush a i v
  | .vltCtrl => c.vltCtrl v
  | .vltLcReq => c.vltLcReq a.master v
  | .vltVintage => c.vltVintage v
  | .vltCmd => c.vltCmd a i v
  | _ => c

/-- The write of `v` to register (i, j) of row `r` by access `a`, to address `addr`; a comparator's match of the tick on which
its control is written comes first (R54). -/
def Chip.regWrite (c : Chip) (a : Access) (addr : Word) (r : RegRow) (i j : Nat) (v : Word) : Chip :=
  if c.writeRefused a r i j v then
    (if r.hook == .lutWin || r.hook == .pixZone then c.tblDeny else c).busErr a.master (c.worldS a) true addr 1
  else
    let c := if r.hook == .cmpCtrl then c.matchNow i else c
    let old := c.rd r i j
    ((c.wr r i j (r.merge old v)).answer 0).afterWrite a r i j old v

/-- A bus master's write of the word `v` at `addr`. -/
def Chip.busWrite (c : Chip) (a : Access) (addr v : Word) : Chip :=
  let n := wordAddr addr
  if !c.mayAccess a then c
  else if inPcw a n then
    match regAt (pcwKey a.core.val n) with
    | none => c.answer 0
    | some (r, i, j) => if c.coreOn i then c.regWrite a addr r i j v else c
  else match c.refusal a n with
    | some cause => c.busErr a.master (c.worldS a) true addr cause
    | none =>
      if c.cutOff (busQueues a.master n) then (c.cutDone (busQueues a.master n)).answer 0
      else if areaFor a.master n == .regs then
        match regAt n with
        | none => c.answer 0
        | some (r, i, j) => c.regWrite a addr r i j v
      else c.memWrite a n (wordBytes v)

end Sys2Proof.Machine
end

