-- ==== Sys2Proof/Machine/Dict.lean ====
section
/-! DEFINITION. The object dictionary (spec/14 and the object tables of every chapter): each object's type, access,
persistence, levels, range, default and what stands behind it. -/

namespace Sys2Proof.Machine

/-- Access codes of R432. -/
inductive ObjAcc where
  | ro | wo | rw | rwc
  deriving DecidableEq, Repr

/-- What an object's value is. -/
inductive Bind where
  /-- a value firmware holds -/
  | held
  /-- field [hi:lo] of the register at `addr`, `stride` apart by subindex -/
  | fld (addr stride hi lo : Nat)
  /-- the same of a raster shadow register, read in its active copy -/
  | sh (addr stride hi lo : Nat)
  /-- `w` bits of one register by subindex -/
  | nib (addr w : Nat)
  /-- a register pair, low word first -/
  | u64 (addr : Nat)
  /-- the words at these offsets of a register block, `stride` apart by subindex -/
  | words (addr stride : Nat) (offs : List Nat)
  /-- what Machine/ObjRead.lean and Machine/ObjWrite.lean say for the index -/
  | calc
  deriving DecidableEq, Repr

/-- One row of the dictionary: subindices `lo` to `hi` of `idx`; the type code of R428; whether it is stored (P); read and
write level; the default; the least and greatest value; the bytes of a BLOB of one size. -/
structure ObjRow where
  idx : Nat
  lo : Nat := 0
  hi : Nat := 0
  ty : Nat
  acc : ObjAcc := .ro
  p : Bool := false
  rl : Nat := 1
  wl : Nat := 2
  dflt : Int := 0
  least : Option Int := none
  most : Option Int := none
  size : Option Nat := none
  bind : Bind := .held
  deriving DecidableEq, Repr

/-- Type codes (R428). -/
def tBOOL : Nat := 0
def tU8 : Nat := 1
def tU16 : Nat := 2
def tU32 : Nat := 3
def tU64 : Nat := 4
def tS16 : Nat := 5
def tS32 : Nat := 6
def tTIME : Nat := 8
def tSTR : Nat := 9
def tBLOB : Nat := 10

/-- Bytes of a type; none for STR and BLOB. -/
def typeBytes : Nat → Option Nat
  | 0 => some 1 | 1 => some 1 | 2 => some 2 | 3 => some 4 | 4 => some 8 | 5 => some 2 | 6 => some 4 | 7 => some 4 | 8 => some 12
  | _ => none

/-- A read-only object. -/
def roRow (idx lo hi ty : Nat) (bind : Bind := .calc) (rl : Nat := 1) : ObjRow := { idx := idx, lo := lo, hi := hi, ty := ty, bind := bind, rl := rl }

/-- A written object kept in flash. -/
def pRow (idx lo hi ty : Nat) (dflt : Int) (bind : Bind := .held) (least : Option Int := none) (most : Option Int := none) : ObjRow :=
  { idx := idx, lo := lo, hi := hi, ty := ty, acc := .rw, p := true, dflt := dflt, bind := bind, least := least, most := most }

/-- A written object taking effect at a commit point, kept in flash. -/
def cRow (idx lo hi ty : Nat) (dflt : Int) (bind : Bind) (least : Option Int := none) (most : Option Int := none) : ObjRow :=
  { pRow idx lo hi ty dflt bind least most with acc := .rwc }

/-- A BLOB of `n` bytes kept in flash. -/
def bRow (idx lo hi n : Nat) (acc : ObjAcc) (bind : Bind := .calc) : ObjRow :=
  { idx := idx, lo := lo, hi := hi, ty := tBLOB, acc := acc, p := true, size := some n, bind := bind }

/-- A write-only object. -/
def woRow (idx lo hi ty : Nat) (wl : Nat := 2) (size : Option Nat := none) : ObjRow :=
  { idx := idx, lo := lo, hi := hi, ty := ty, acc := .wo, wl := wl, size := size, bind := .calc }

/-- The word offsets from `o` on, `n` of them. -/
def offsFrom (o n : Nat) : List Nat := (List.range n).map fun i => o + 4 * i

/-- Identity and communication (R3, R445). -/
def dictComm : List ObjRow := [
  roRow 0x1000 0 0 tU32 .calc 0,
  { pRow 0x1008 0 0 tSTR 0 with rl := 0 },
  roRow 0x1018 1 2 tU32 .calc 0, roRow 0x1018 3 3 tU8 .calc 0, roRow 0x1018 4 4 tU64 .calc 0, roRow 0x1018 5 5 tU32 .calc 0,
  pRow 0x1010 0 0 tU16 16383 .held none (some 16383),
  pRow 0x1011 1 16 tU16 0 .held none (some 16383),
  pRow 0x1012 1 1 tU32 0xEF4D0001, pRow 0x1012 2 4 tU32 0,
  pRow 0x1013 1 7 tU16 0 .held none (some 16383),
  woRow 0x1020 1 1 tBOOL,
  roRow 0x1030 0 0 tBLOB,
  roRow 0x1100 1 3 tU8 .calc 0,
  roRow 0x1101 1 1 tU8, roRow 0x1101 2 2 tBLOB, pRow 0x1101 3 3 tU16 30 .held (some 5) (some 3600),
  roRow 0x1102 0 0 tBLOB,
  roRow 0x1200 1 2 tU16 .calc 0, bRow 0x1200 3 3 14 .rw, roRow 0x1200 4 4 tBOOL]

/-- Time (R68); a width of PPS_OUT has no range (DESIGN CHOICE, log entry 222). -/
def dictTime : List ObjRow := [
  roRow 0x2000 1 1 tU8 (.fld rTIME_SERVO.base 0 2 0), roRow 0x2000 2 2 tS32, roRow 0x2000 3 4 tU32, roRow 0x2000 5 5 tU64,
  roRow 0x2000 6 6 tU8, roRow 0x2000 7 7 tTIME,
  pRow 0x2010 1 1 tU8 1 .held none (some 1), pRow 0x2010 2 2 tU8 127, pRow 0x2010 3 3 tU8 3 .held none (some 7),
  pRow 0x2010 4 4 tU8 0 .held none (some 1), pRow 0x2010 5 5 tS16 (-3), pRow 0x2010 6 6 tS32 0, pRow 0x2010 7 14 tU64 0,
  pRow 0x2020 1 1 tU32 50, pRow 0x2020 2 2 tU32 10000, pRow 0x2020 3 3 tU8 1 .held none (some 2),
  pRow 0x2020 4 4 tU32 10000 .held (some 1) (some 500000), pRow 0x2020 5 5 tU16 5 .held (some 1) (some 60),
  pRow 0x2020 6 6 tU16 1 .held (some 1) (some 60), pRow 0x2020 7 7 tU32 600,
  cRow 0x2030 1 1 tS32 0 .calc, pRow 0x2030 2 2 tU8 2 (.fld rPPS_CTRL.base 0 1 0), pRow 0x2030 3 3 tU32 100000 (.fld rPPS_CTRL.base 0 31 2)]

/-- Network ports (R108). -/
def dictNet : List ObjRow := [
  roRow 0x3000 1 3 tU8 (.fld rMAC_STATUS.base 0x10000 0 0),
  pRow 0x3001 1 2 tU8 0 .calc none (some 2), pRow 0x3001 3 3 tU8 3 .calc (some 3) (some 3),
  pRow 0x3010 1 3 tU32 0, pRow 0x3011 1 3 tU8 24 .held none (some 32), pRow 0x3012 1 3 tU32 0,
  pRow 0x3020 1 3 tU16 0 .calc none (some 4094),
  pRow 0x3021 1 3 tU8 2 (.fld rMAC_CTRL.base 0x10000 13 12), pRow 0x3022 1 3 tU8 0 (.fld rMAC_FC.base 0x10000 1 0) none (some 2),
  pRow 0x3023 1 3 tU16 2000 (.fld rPAUSE_WDOG.base 0x10000 15 0),
  { idx := 0x3024, lo := 1, hi := 3, ty := tBOOL, acc := .rw, bind := .fld rMAC_CTRL.base 0x10000 9 9 },
  roRow 0x3030 1 3 tBLOB (.words rMAC_CNT.base 0x10000 (offsFrom 0 21)),
  bRow 0x3100 1 16 24 .rwc (.words rMRG_CTRL.base 0x40 (offsFrom 0 6)),
  roRow 0x3110 1 16 tBLOB (.words rMRG_CTRL.base 0x40 (offsFrom 0x18 10))]

/-- Streams and canvases (R143). -/
def dictStream : List ObjRow := [
  bRow 0x4000 1 4 28 .rwc (.words rCANV_CTRL.base 0x40 (offsFrom 0 7)),
  roRow 0x4001 1 4 tBLOB (.words rCANV_CTRL.base 0x40 (offsFrom 0x1C 7)),
  pRow 0x4002 0 0 tU16 500 .calc,
  bRow 0x4010 1 32 24 .rwc (.words rSLOT_CTRL.base 0x20 (offsFrom 0 5 ++ [0x1C])),
  pRow 0x4020 1 32 tU32 0 (.fld rGRP.base 4 31 0),
  bRow 0x4030 1 4 3072 .rwc (.words rUNI_W0.base 0x1000 ((List.range 256).flatMap fun e => offsFrom (16 * e) 3)),
  bRow 0x4040 1 32 12 .rw,
  pRow 0x4041 0 0 tU16 2000 .calc,
  roRow 0x4042 1 2 tBLOB (.words rURG_CNT.base 0x10000 (offsFrom 0 7))]

/-- Raster and pixel pipeline (R207, R229). -/
def dictRaster : List ObjRow := [
  cRow 0x5000 1 1 tU16 1 (.sh rSH_NUM.base 0 15 0) (some 1), cRow 0x5000 2 2 tU32 120 (.sh rSH_DEN.base 0 23 0) (some 1),
  cRow 0x5000 3 3 tU32 7500000 (.sh rSH_TW.base 0 31 0), cRow 0x5000 4 4 tU32 20000 (.sh rSH_LEAD.base 0 31 0),
  pRow 0x5000 5 5 tU16 4000 (.fld rRAS_GUARD.base 0 15 0),
  { idx := 0x5000, lo := 6, hi := 6, ty := tBOOL, acc := .rw, bind := .fld rRAS_CTRL.base 0 1 1 },
  cRow 0x5000 7 7 tU8 1 (.sh rSH_MODE.base 0 29 24), cRow 0x5000 8 8 tU16 0xFFF (.sh rSH_MODE.base 0 11 0),
  cRow 0x5001 0 0 tU16 0x8000 (.sh rSH_BRIGHT.base 0 15 0),
  pRow 0x5002 1 4 tU8 0 (.nib rRAS_FB.base 2),
  { idx := 0x5003, lo := 1, hi := 4, ty := tU32, acc := .rwc, bind := .sh rSH_FORCE.base 4 31 0 },
  pRow 0x5004 0 0 tU8 12 (.fld rRAS_FREEZE.base 0 7 0),
  roRow 0x5005 0 0 tBLOB (.words rRAS_CTRL.base 0 ([0x04, 0x14] ++ offsFrom 0x70 4 ++ offsFrom 0x40 8)),
  roRow 0x5006 0 0 tBLOB,
  roRow 0x5007 1 48 tU32 (.fld rRAS_SIG.base 4 31 0),
  pRow 0x5010 1 8 tU8 0 .calc, bRow 0x5011 1 8 4100 .rw,
  pRow 0x5012 0 0 tBOOL 1 (.fld rPIX_CTRL.base 0 0 0),
  bRow 0x5020 1 2 256 .rw,
  pRow 0x5021 1 48 tU16 0 (.fld rDERBASE.base 4 12 0),
  woRow 0x5030 0 0 tBLOB 2 (some 16),
  roRow 0x5031 0 0 tBLOB (.words rPIX_CTRL.base 0 [0x04, 0x44, 0x40]), roRow 0x5032 0 0 tBLOB (.words rPIX_CTRL.base 0 (offsFrom 0x40 6))]

/-- Ports and lanes (R292, R334). -/
def dictPort : List ObjRow := [
  cRow 0x6000 1 48 tU8 0 (.fld rPORT_CTRL.base 0x400 1 0),
  bRow 0x6001 1 48 32 .rwc (.words rPORT_CTRL.base 0x400 [0x00, 0x08, 0x0C, 0x10, 0x14, 0x18, 0x1C, 0x28]),
  cRow 0x6002 1 6 tU8 0 (.fld rBCTRL.base 0x100 3 0),
  roRow 0x6003 1 48 tBLOB (.words rPORT_CTRL.base 0x400 (0x04 :: offsFrom 0x40 14)),
  woRow 0x6004 1 48 tBLOB, roRow 0x6005 1 48 tBLOB,
  roRow 0x6006 1 6 tU32 (.fld rBSTAT.base 0x100 31 0),
  pRow 0x6007 1 6 tU16 2000 (.fld rBTRAIN.base 0x100 15 0),
  roRow 0x6400 1 48 tU8 (.fld rLCTRL.base 0x400 1 0), roRow 0x6401 1 48 tU16 (.fld rLCTRL.base 0x400 27 16),
  roRow 0x6402 1 48 tU32 (.fld rLT0A.base 0x400 31 0), roRow 0x6403 1 48 tU32 (.fld rLT0B.base 0x400 31 0),
  woRow 0x6404 1 48 tU8, roRow 0x6405 1 48 tBLOB,
  roRow 0x6406 1 48 tBLOB (.words rPORT_CTRL.base 0x400 [0x318, 0x31C, 0x308])]

/-- Drive, patterns, lamp health and the Press (R358, R261). -/
def dictDrive : List ObjRow := [
  pRow 0x7000 1 1 tU8 70 (.fld rDRV_KNEE.base 0 7 0), pRow 0x7000 2 2 tU16 655 (.fld rDRV_SLOPE.base 0 15 0),
  pRow 0x7000 3 3 tU16 8192 (.fld rDRV_FLOOR.base 0 15 0), pRow 0x7000 4 4 tU8 110 (.fld rDRV_TRIP.base 0 7 0),
  pRow 0x7000 5 5 tU16 33 (.fld rDRV_RISE.base 0 15 0), pRow 0x7000 6 6 tU16 120 (.fld rDRV_TLOSS.base 0 15 0),
  pRow 0x7000 7 7 tU32 20000 (.fld rDRV_EVAL.base 0 19 0) (some 15000) (some 1000000),
  pRow 0x7001 1 1 tU16 105 .calc, pRow 0x7001 2 2 tU16 0 .calc, pRow 0x7001 3 3 tU16 125 .calc,
  { bRow 0x7002 1 48 0 .rw with size := none }, { bRow 0x7003 1 48 0 .rw with size := none },
  pRow 0x7004 1 48 tU16 0 .calc,
  pRow 0x7010 1 1 tU32 1 (.fld rDRV_CTRL.base 0 1 1), pRow 0x7010 2 2 tU32 0 (.fld rDRV_CTRL.base 0 2 2),
  pRow 0x7010 3 3 tU32 1200 (.fld rDIAG_AGE.base 0 23 0), pRow 0x7010 4 4 tU32 4 (.fld rDRV_CTRL.base 0 7 4),
  pRow 0x7010 5 5 tU32 300 (.fld rDIAG_PULSE.base 0 31 16) (some 100) (some 2000), pRow 0x7010 6 6 tU32 8 (.fld rDIAG_PULSE.base 0 7 0),
  { idx := 0x7011, ty := tBOOL, acc := .rw, wl := 1, bind := .fld rDRV_CTRL.base 0 3 3 },
  bRow 0x7020 1 64 32 .rw (.words rPAT_CTRL.base 0x40 (offsFrom 0 8)),
  bRow 0x7021 1 4 768 .rw (.words rZ_ROUTE.base 0x400 ((List.range 64).flatMap fun z => offsFrom (16 * z) 3)),
  roRow 0x7100 1 5 tU32 (.fld rLHS.base 4 31 0), roRow 0x7100 6 6 tU32 (.fld (rDRV_CNT.base + 12) 0 31 0),
  roRow 0x7101 1 48 tBLOB, roRow 0x7102 1 48 tBLOB,
  cRow 0x7E00 1 1 tS32 20000 .calc (some 10000),
  { idx := 0x7E00, lo := 2, hi := 2, ty := tU8, acc := .rw, bind := .fld rKICK_CTRL.base 0 0 0 },
  pRow 0x7E00 3 3 tBOOL 1 (.fld rKICK_CTRL.base 0 1 1), pRow 0x7E00 4 4 tU16 200 (.fld rAFF_WAIT.base 0 15 0),
  pRow 0x7E00 5 5 tU32 1000000 (.fld rPRS_WDOG.base 0 31 0),
  { woRow 0x7E01 0 0 tBLOB with p := true },
  pRow 0x7E02 1 4 tU8 0 (.nib rPRS_FB.base 2),
  { idx := 0x7E03, lo := 1, hi := 4096, ty := tU64, acc := .rw, bind := .calc },
  roRow 0x7E04 0 0 tBLOB (.words rPRS_CTRL.base 0 ([0x04, 0x1C] ++ offsFrom 0xA0 8))]

/-- Pairs and stacks (R394, R412). -/
def dictPair : List ObjRow := [
  roRow 0x8000 1 1 tU8 (.fld rCDR_STATUS.base 0 2 0), roRow 0x8000 2 2 tU16 (.fld rCDR_EPOCH.base 0 15 0),
  roRow 0x8000 3 3 tU8 (.fld rCDR_STATUS.base 0 5 3), roRow 0x8000 4 4 tU8 (.fld rSTRAP.base 0 4 4),
  roRow 0x8000 5 5 tU32 (.fld rCDR_STATUS.base 0 31 0), roRow 0x8000 6 6 tU64 (.u64 rCDR_ADOPT.base),
  pRow 0x8001 1 1 tBOOL 0 (.fld rCDR_CTRL.base 0 0 0), pRow 0x8001 2 2 tBOOL 1 (.fld rCDR_CTRL.base 0 1 1),
  pRow 0x8001 3 3 tBOOL 1 (.fld rCDR_CTRL.base 0 2 2), pRow 0x8001 4 4 tBOOL 1 (.fld rCDR_CTRL.base 0 3 3),
  pRow 0x8001 5 5 tBOOL 0 (.fld rCDR_CTRL.base 0 4 4), pRow 0x8001 6 6 tU16 600 (.fld rCDR_TIMERS.base 0 15 0),
  pRow 0x8001 7 7 tU16 10 (.fld rCDR_TIMERS.base 0 31 16),
  pRow 0x8001 8 8 tU64 0xFFFFFFFFFFFF (.u64 rCDR_PMASK_LO.base) none (some 0xFFFFFFFFFFFF),
  pRow 0x8001 9 9 tU64 0x000001000001 (.u64 rCDR_WMASK_LO.base) none (some 0xFFFFFFFFFFFF),
  pRow 0x8001 10 10 tU8 4 (.fld rCDR_HB.base 0 3 0) (some 2),
  woRow 0x8002 1 1 tBOOL 1, woRow 0x8002 2 2 tU64 1,
  roRow 0x8003 0 0 tBLOB (.words rCDR_CTRL.base 0 ([0x38, 0x3C, 0x40] ++ offsFrom 0x60 8)),
  { roRow 0x8004 0 0 tU16 with p := true, bind := .held },
  roRow 0x8100 1 1 tU32 (.fld rTRL_STATUS.base 0 31 0), roRow 0x8100 2 2 tS16 (.fld rTRL_PHERR.base 0 15 0),
  roRow 0x8100 3 3 tBLOB (.words rTRL_CTRL.base 0 (0x10 :: offsFrom 0x20 6)),
  pRow 0x8101 1 1 tBOOL 0 .calc, pRow 0x8101 2 2 tU16 0 (.fld rTRL_STKDLY.base 0 11 0),
  pRow 0x8101 3 3 tU8 4 (.fld rTRL_CTRL.base 0 19 16) (some 2), pRow 0x8101 4 4 tU8 4 (.fld rTRL_CTRL.base 0 15 12) (some 2),
  pRow 0x8101 5 5 tU16 0 (.fld rTRL_FAULTMASK.base 0 15 0),
  bRow 0x8110 1 16 16 .rwc (.words rTRL_SL.base 0x20 (offsFrom 0 4)),
  bRow 0x8120 1 4 20 .rwc (.words rTRL_DCANV.base 0x20 (offsFrom 0 5))]

/-- Security and update (R500, R532). -/
def dictSec : List ObjRow := [
  roRow 0x9000 1 1 tU8 .calc 0, woRow 0x9000 2 2 tU8,
  roRow 0x9001 1 64 tBLOB,
  woRow 0x9010 1 1 tBLOB 1 (some 40), woRow 0x9010 2 2 tBLOB 2 (some 40), woRow 0x9010 3 3 tBLOB 3 (some 40),
  woRow 0x9011 1 2 tBLOB 2 (some 40),
  woRow 0x9020 1 1 tBLOB 1 (some 32), roRow 0x9020 2 2 tBLOB,
  roRow 0x9021 0 0 tBLOB, roRow 0x9030 0 0 tBLOB,
  roRow 0xA000 1 1 tU8, roRow 0xA000 2 6 tU32, roRow 0xA000 7 8 tU8,
  { bRow 0xA010 0 0 44 .rw with p := false }, { bRow 0xA011 0 0 0 .rw with p := false, size := none },
  roRow 0xA012 0 0 tBLOB, { bRow 0xA013 0 0 28 .rw with p := false },
  { idx := 0xA014, ty := tU8, acc := .rw, bind := .calc },
  pRow 0xA020 1 1 tU32 2000000, pRow 0xA020 2 2 tU32 600, pRow 0xA020 3 3 tBOOL 1, pRow 0xA020 4 4 tU32 0 .calc,
  roRow 0xA030 0 0 tBLOB]

/-- Diagnostics: log, Attic, Cellar, DMA, queues, power (R172, R475, R552, R570). -/
def dictDiag : List ObjRow := [
  roRow 0xB000 1 1 tBLOB .calc 2, roRow 0xB000 2 2 tU32 (.fld rERR_SEQ.base 0 31 0) 2,
  roRow 0xB000 3 3 tBLOB (.words rERR_LOST.base 0 (offsFrom 0 70)) 2, roRow 0xB000 4 4 tU32 (.fld rERR_STATUS.base 0 31 0) 2,
  roRow 0xB100 1 3 tBLOB .calc 2, woRow 0xB100 4 4 tU8, { pRow 0xB100 5 5 tBOOL 0 with rl := 2 },
  roRow 0xB010 1 1 tBLOB (.words rCEL_CTRL.base 0 ([0x04, 0x20, 0x24] ++ offsFrom 0x30 7)),
  roRow 0xB010 2 2 tBLOB (.words rCEL_RES.base 0 (offsFrom 0 3)),
  pRow 0xB011 1 1 tBOOL 1 (.fld rCEL_CTRL.base 0 2 2), pRow 0xB011 2 2 tU8 3 (.fld rCEL_PWR.base 0 5 4),
  pRow 0xB011 3 3 tU16 200 (.fld rCEL_PWR.base 0 31 16), pRow 0xB011 4 4 tU32 400 (.fld rCEL_SCRUB.base 0 19 0),
  roRow 0xB020 0 0 tBLOB (.words rDMA_CTRL.base 0 ([0x04, 0x08, 0x0C] ++ (List.range 16).flatMap fun n => [0x108 + 0x40 * n, 0x120 + 0x40 * n])),
  roRow 0xB021 0 0 tBLOB (.words rQUE_NE.base 0 ([0x20, 0x24, 0x00, 0x08] ++ (List.range 32).map fun q => 0x118 + 0x20 * q)),
  roRow 0xB030 1 1 tU16 (.fld rPWR.base 0 15 0), roRow 0xB030 2 2 tS16, roRow 0xB030 3 3 tU32 (.fld rPWR.base 0 31 0),
  pRow 0xB030 4 4 tU8 125 .calc none (some 215), roRow 0xB030 5 5 tU8 (.fld rSTRAP.base 0 5 0)]

/-- The module's dictionary. -/
def dict : List ObjRow := dictComm ++ dictTime ++ dictNet ++ dictStream ++ dictRaster ++ dictPort ++ dictDrive ++ dictPair ++ dictSec ++ dictDiag

/-- The rows of an index. -/
def objRows (idx : Nat) : List ObjRow := dict.filter fun r => r.idx = idx

/-- The row of a subindex. -/
def objRow (idx sub : Nat) : Option ObjRow := (objRows idx).find? fun r => r.lo ≤ sub && sub ≤ r.hi

/-- The subindices of an index are counted from 1 (R433), and the highest; of 0x7E03, whose 4,096 subindices (R261) a U8 does
not hold, 255 (DESIGN CHOICE, log entry 228). -/
def objCounted (idx : Nat) : Bool := !(objRows idx).any fun r => r.lo = 0
def objHighest (idx : Nat) : Nat := min 255 ((objRows idx).foldl (fun m r => max m r.hi) 0)

/-- The level at which sub 0 of a counted index reads: the lowest of its rows. -/
def objLevel0 (idx : Nat) : Nat := (objRows idx).foldl (fun m r => min m r.rl) 3

/-- The field width of a row's register, where it is bound to one. -/
def ObjRow.width (r : ObjRow) : Option Nat :=
  match r.bind with
  | .fld _ _ hi lo | .sh _ _ hi lo => some (hi + 1 - lo)
  | .nib _ w => some w
  | _ => none

/-- A number as the bytes of type `ty`. -/
def encNum (ty : Nat) (n : Int) : List Byte :=
  let w := (typeBytes ty).getD 4
  natLE w (n % (2 ^ (8 * w) : Nat)).toNat

/-- The number that bytes of type `ty` spell. -/
def decNum (ty : Nat) (l : List Byte) : Int :=
  let n := leNat l
  if (ty = tS16 || ty = tS32) && n ≥ 2 ^ (8 * l.length - 1) then (n : Int) - (2 ^ (8 * l.length) : Nat) else n

/-- The key under which firmware holds and stores an object's value. -/
def objKey (idx sub : Nat) : Nat := idx * 256 + sub

/-- Objects mirrored to the standby (R439). -/
def mirrored (idx : Nat) : Bool := (0x2000 ≤ idx && idx < 0x3000) || (0x4000 ≤ idx && idx < 0x8000) || (0xC000 ≤ idx && idx < 0xF000)

/-- RWC objects whose registers have no shadow of their own: firmware writes them when the commit has been applied. -/
def rwcHeld (idx : Nat) : Bool := [0x3100, 0x4000, 0x4010, 0x4030, 0x6001, 0x7E00, 0x8110, 0x8120].any fun i => i = idx

/-- Objects whose default is "empty" though registers stand behind them: they read as an empty BLOB until they are written. -/
def emptyDflt (idx : Nat) : Bool := [0x3100, 0x4000, 0x4010, 0x4030, 0x4040, 0x8110, 0x8120].any fun i => i = idx

end Sys2Proof.Machine
end

