-- ==== Sys2Proof/Machine/Ecdsa.lean ====
section
/-! DEFINITION. ECDSA over P-384 (FIPS 186) as the boot ROM and the update verify signatures (spec/17 R504, R505, R512). -/

namespace Sys2Proof.Machine

/-- The field prime of P-384. -/
def p384 : Nat := 2 ^ 384 - 2 ^ 128 - 2 ^ 96 + 2 ^ 32 - 1

/-- The order of its base point. -/
def n384 : Nat := 0xFFFFFFFFFFFFFFFFFFFFFFFFFFFFFFFFFFFFFFFFFFFFFFFFC7634D81F4372DDF581A0DB248B0A77AECEC196ACCC52973

/-- The constant term of its curve. -/
def b384 : Nat := 0xB3312FA7E23EE7E4988E056BE3F82D19181D9C6EFE8141120314088F5013875AC656398D8A2ED19D2A85C8EDD3EC2AEF

/-- Its base point. -/
def g384 : Nat × Nat :=
  (0xAA87CA22BE8B05378EB1C71EF320AD746E1D3B628BA79B9859F741E082542A385502F25DBF55296C3A545E3872760AB7,
   0x3617DE4A96262C6F5D9E98BF9292DC29F8F41DBD289A147CE9DA3113B5F0B8C00A60B1CE1D7E819D7A431D7C90EA0E5F)

/-- `b ^ e` modulo `m`, over the low `k` bits of `e`. -/
def powMod (m : Nat) : Nat → Nat → Nat → Nat
  | 0, _, _ => 1
  | k + 1, b, e => (if e % 2 = 1 then b else 1) * powMod m k (b * b % m) (e / 2) % m

/-- The inverse of `a` modulo the prime `m`. -/
def invMod (m a : Nat) : Nat := powMod m 384 (a % m) (m - 2)

/-- The sum of two points; `none` is the point at infinity. -/
def ecAdd : Option (Nat × Nat) → Option (Nat × Nat) → Option (Nat × Nat)
  | none, q => q
  | p, none => p
  | some (x, y), some (u, v) =>
    if x = u && (y + v) % p384 = 0 then none else
    let l := if x = u then (3 * x * x + (p384 - 3)) * invMod p384 (2 * y) % p384
      else (v + p384 - y) * invMod p384 (u + p384 - x) % p384
    let w := (l * l + 2 * p384 - x - u) % p384
    some (w, (l * (x + p384 - w) + p384 - y) % p384)

/-- The low `n` bits of `k` times a point. -/
def ecMul : Nat → Nat → Option (Nat × Nat) → Option (Nat × Nat)
  | 0, _, _ => none
  | n + 1, k, q => ecAdd (if k % 2 = 1 then q else none) (ecMul n (k / 2) (ecAdd q q))

/-- Whether `sig` (r, s) is a signature over the digest `h` under the uncompressed public key `key`. -/
def ecdsaOk (key h sig : List Byte) : Bool :=
  let x := beNat (slice key 1 48)
  let y := beNat (slice key 49 48)
  let r := beNat (sig.take 48)
  let s := beNat (slice sig 48 48)
  key.getD 0 0 = 4 && x < p384 && y < p384 && (y * y) % p384 = (x * x * x + (p384 - 3) * x + b384) % p384
    && 1 ≤ r && r < n384 && 1 ≤ s && s < n384 &&
  let w := invMod n384 s
  match ecAdd (ecMul 384 (beNat h * w % n384) (some g384)) (ecMul 384 (r * w % n384) (some (x, y))) with
  | none => false
  | some (u, _) => u % n384 = r

end Sys2Proof.Machine
end

