-- ==== Sys2Proof/Machine/Image.lean ====
section
/-! DEFINITION. Firmware images and the boot configuration (spec/17 R504..R507). -/

namespace Sys2Proof.Machine

/-! ## Images (R504, R505) -/

/-- Flash offset of image slot `s`. -/
def slotBase (s : Nat) : Nat := if s = 0 then 0x00040000 else 0x01840000

/-- The longest image. -/
def imageMax : Nat := 25165824

/-- Bytes HC0 reads from `a` on, from the Cellar in world S by the ROM or the monitor: a word it does not get reads as 0 after a
bus error (R152), so that what is hashed does not match. -/
def Chip.hcBytes (c : Chip) (a n : Nat) : Chip × List Byte :=
  if a < celBase then (c, c.bytes a n)
  else
    let (c, l) := c.celLoads .hc0 true a n
    (c, l.map (·.1))

/-- The number in the `n` bytes at offset `o` of an image. -/
def imgNat (l : List Byte) (o n : Nat) : Nat := leNat (slice l o n)

/-- VINT and LEN of an image. -/
def imgVint (l : List Byte) : Nat := imgNat l 8 4
def imgLen (l : List Byte) : Nat := imgNat l 12 4

/-- The image that stands at address `a`, to its LEN but at least its header and at most the longest image. -/
def Chip.imageAt (c : Chip) (a : Nat) : Chip × List Byte :=
  let (c, h) := c.hcBytes a 1024
  let (c, l) := c.hcBytes (a + 1024) (min imageMax (imgLen h) - 1024)
  (c, h ++ l)

/-- One entry of SUB: KIND, offset, length, load address, digest. -/
structure SubImg where
  kind : Nat
  off : Nat
  len : Nat
  load : Nat
  dig : List Byte
  deriving DecidableEq, Repr

/-- Entry `i` of SUB. -/
def imgSub (l : List Byte) (i : Nat) : SubImg :=
  let e := 64 + 64 * i
  { kind := imgNat l e 1, off := imgNat l (e + 4) 4, len := imgNat l (e + 8) 4, load := imgNat l (e + 12) 4, dig := slice l (e + 16) 48 }

/-- The entries an image has. -/
def imgSubs (l : List Byte) : List SubImg := (List.range (imgNat l 6 2)).map (imgSub l)

/-- The entry of kind `k`. -/
def imgKind (l : List Byte) (k : Nat) : Option SubImg := (imgSubs l).find? fun e => e.kind = k

/-- The bytes of a sub-image. -/
def SubImg.of (e : SubImg) (l : List Byte) : List Byte := slice l e.off e.len

/-- A sub-image matches its digest. -/
def SubImg.ok (e : SubImg) (l : List Byte) : Bool := sha384 (e.of l) == e.dig

/-- A valid image (R505). -/
def Chip.imageValid (c : Chip) (l : List Byte) : Bool :=
  let n := imgNat l 6 2
  let len := imgLen l
  imgNat l 0 4 = 0x444C494D && imgNat l 4 2 = 1 && 1 ≤ n && n ≤ 5 && 1024 ≤ len && len ≤ imageMax
    && ((imgSubs l).all fun e => 1 ≤ e.kind && e.kind ≤ 5 && e.off + e.len ≤ len)
    && decide ((imgSubs l).map (·.kind)).Nodup
    && sha384 (slice l 576 97) == c.fuses.vkh
    && ecdsaOk (slice l 576 97) (sha384 (slice l 0 704)) (slice l 704 96)
    && (imgSubs l).all (·.ok l)

/-- The image digest. -/
def imgDigest (l : List Byte) : List Byte := sha384 (slice l 0 (imgLen l))

/-! ## The boot configuration (R506, R507) -/

/-- A boot configuration record. -/
structure BootCfg where
  gen : Nat := 0
  active : Nat := 0
  prev : Nat := 1
  /-- 0 NORMAL, 1 TRIAL, 2 ROLLED_BACK, 3 FALLBACK -/
  state : Nat := 0
  trials : Nat := 0
  vfloor : Nat := 0
  vintA : Nat := 0
  vintB : Nat := 0
  wrtA : Nat := 0
  wrtB : Nat := 0
  deriving DecidableEq, Repr

/-- Flash offset of copy `i`. -/
def cfgBase (i : Nat) : Nat := i * 0x20000

/-- MAGIC of a record. -/
def cfgMagic : Nat := 0x42434647

/-- The record in copy `i`, where it is valid. -/
def Chip.cfgAt (c : Chip) (i : Nat) : Option BootCfg :=
  let o := cfgBase i
  if c.sectorsOk o 64 && c.flashNat o 4 = cfgMagic && c.flashNat (o + 60) 4 = (crc32c (c.flashBytes o 60)).toNat then
    some { gen := c.flashNat (o + 4) 4, active := c.flashNat (o + 8) 1, prev := c.flashNat (o + 9) 1, state := c.flashNat (o + 10) 1
           trials := c.flashNat (o + 11) 1, vfloor := c.flashNat (o + 12) 4, vintA := c.flashNat (o + 16) 4, vintB := c.flashNat (o + 20) 4
           wrtA := c.flashNat (o + 24) 8, wrtB := c.flashNat (o + 32) 8 }
  else none

/-- The record in force and the copy it stands in. -/
def Chip.cfgIn (c : Chip) : BootCfg × Nat :=
  match c.cfgAt 0, c.cfgAt 1 with
  | some x, some y => if x.gen ≥ y.gen then (x, 0) else (y, 1)
  | some x, none => (x, 0)
  | none, some y => (y, 1)
  | none, none => ({}, 1)

/-- The record in force. -/
def Chip.cfg (c : Chip) : BootCfg := c.cfgIn.1

/-- The 60 bytes the CRC of a record covers. -/
def BootCfg.bytes (x : BootCfg) : List Byte :=
  natLE 4 cfgMagic ++ natLE 4 x.gen ++ natLE 1 x.active ++ natLE 1 x.prev ++ natLE 1 x.state ++ natLE 1 x.trials ++ natLE 4 x.vfloor
    ++ natLE 4 x.vintA ++ natLE 4 x.vintB ++ natLE 8 x.wrtA ++ natLE 8 x.wrtB ++ List.replicate 20 0

/-- A record written into the copy that does not hold the one in force, with the next GEN and MAGIC last (R507). -/
def Chip.cfgWrite (c : Chip) (x : BootCfg) : Chip :=
  let (old, i) := c.cfgIn
  let o := cfgBase (1 - i)
  let b := BootCfg.bytes { x with gen := old.gen + 1 }
  let c := c.fwErase o 0x10000
  (c.fwProg (o + 4) (b.drop 4 ++ natLE 4 (crc32c b).toNat)).fwProg o (b.take 4)

/-- VINT and WRT of slot `s` in a record. -/
def BootCfg.vint (x : BootCfg) (s : Nat) : Nat := if s = 0 then x.vintA else x.vintB
def BootCfg.wrt (x : BootCfg) (s : Nat) : Nat := if s = 0 then x.wrtA else x.wrtB

/-- VINT and WRT of slot `s` set. -/
def BootCfg.setSlot (x : BootCfg) (s vint wrt : Nat) : BootCfg :=
  if s = 0 then { x with vintA := vint, wrtA := wrt } else { x with vintB := vint, wrtB := wrt }

/-- The running slot, and the other. -/
def Chip.runSlot (c : Chip) : Nat := (c.rd rRUNSLOT).toNat
def Chip.otherSlot (c : Chip) : Nat := if c.runSlot = 0 then 1 else 0

/-- PTP seconds of local time. -/
def Chip.ptpSec (c : Chip) : Nat := c.now / nsPerSec

end Sys2Proof.Machine
end

