-- ==== Sys2Proof/Machine/Update.lean ====
section
/-! DEFINITION. The update state machine of firmware: announce, pieces, verification, build, arming, activation, trial
and refresh (spec/17 R512..R526). -/

namespace Sys2Proof.Machine

/-- The DOP statuses an update command is answered with (R430). -/
def stOk : Nat := 0
def stRange : Nat := 0x15
def stBusy : Nat := 0x16

/-- Firmware runs: HC0 has started it (R10, R511). -/
def Chip.fwRuns (c : Chip) : Bool := c.alive .sys && c.boot.hc0 == .monitor

/-- What NC parses reaches firmware: NC has been released too (R9, R10). -/
def Chip.dopRuns (c : Chip) : Bool := c.fwRuns && c.boot.ncRun

/-- Firmware's own access: HC0 in world S. -/
def fwAccess : Access := { master := .hc0, secure := true }

/-- Firmware writes a register; the bus's last answer stays. -/
def Chip.fwWrite (c : Chip) (addr : Nat) (v : Word) : Chip :=
  let r := c.rsp
  { c.busWrite fwAccess (BitVec.ofNat 32 addr) v with rsp := r }

/-- The update state machine set. -/
def Chip.setUpd (c : Chip) (x : UpdSt) : Chip := { c with upd := x }

/-! ## The journal (R516, R520) -/

/-- Flash offset of journal half `h`, and the records it holds. -/
def jrBase (h : Nat) : Nat := 0x03480000 + h * 0x10000
def jrRecs : Nat := 1008

/-- Flash offset of journal record `k` of half `h`. -/
def jrAt (h k : Nat) : Nat := jrBase h + 1024 + 64 * k

/-- MAGIC of a journal record. -/
def jrMagic : Nat := 0x5550444A

/-- The arm value is journalled with the state: ARMED, or an arm pending. -/
def UpdSt.armKept (x : UpdSt) : Bool := x.arm.isSome && 3 ≤ x.state && x.state ≤ 6

/-- Bytes 4 to 59 of a record, made a whole record. -/
def jrRecord (body : List Byte) : List Byte := natLE 4 jrMagic ++ body ++ natLE 4 (crc32c body).toNat

/-- The records of a state: one, or two with an arm. -/
def UpdSt.records (x : UpdSt) (seq : Nat) : List (List Byte) :=
  let cid := x.cid ++ List.replicate (32 - x.cid.length) 0
  let arm := match x.arm with | some a => if x.armKept then a.bytes else [] | none => []
  let head := natLE 4 seq ++ natLE 1 x.state ++ natLE 1 x.err ++ [0, 0] ++ natLE 4 x.built ++ natLE 4 x.toV ++ cid
  jrRecord (head ++ (if arm.isEmpty then List.replicate 8 0 else arm.take 8)) ::
    if arm.isEmpty then [] else [jrRecord (natLE 4 (seq + 1) ++ slice arm 8 20 ++ List.replicate 32 0)]

/-- A record programmed with MAGIC last. -/
def Chip.jrPut (c : Chip) (h k : Nat) (r : List Byte) : Chip := (c.fwProg (jrAt h k + 4) (r.drop 4)).fwProg (jrAt h k) (r.take 4)

/-- The other half made the one in force: erased, the bitmap's zero bits programmed where `keep`, the newest records
written; then the full half erased (R520). -/
def Chip.jrCompact (c : Chip) (keep : Bool) (l : List (List Byte)) : Chip :=
  let old := c.upd.half
  let h := 1 - old
  let bits := c.flashBytes (jrBase old) 1024
  let c := c.fwErase (jrBase h) 0x10000
  let c := if keep then c.fwProg (jrBase h) bits else c
  let c := c.each (l.zip (List.range l.length)) fun c r => c.jrPut h r.2 r.1
  (c.fwErase (jrBase old) 0x10000).setUpd { c.upd with half := h, recs := l.length }

/-- The state journalled (R520): compacted where the half is full, or where the state becomes IDLE, CONFIRMED or
ROLLED_BACK (`idle`). -/
def Chip.journal (c : Chip) (idle : Bool) : Chip :=
  let l := c.upd.records (c.upd.seq + 1)
  let c := c.setUpd { c.upd with seq := c.upd.seq + l.length }
  if idle then c.jrCompact false l
  else if c.upd.recs + l.length > jrRecs then c.jrCompact true l
  else
    let k := c.upd.recs
    (c.each (l.zip (List.range l.length)) fun c r => c.jrPut c.upd.half (k + r.2) r.1).setUpd { c.upd with recs := k + l.length }

/-- A state entered (R518): journalled, logged; the background erase of staging begins in IDLE, CONFIRMED and ROLLED_BACK
(R516). -/
def Chip.updState (c : Chip) (st err : Nat) : Chip :=
  let idle := st = 0 || st = 8 || st = 9
  let x := { c.upd with state := st, err := err }
  let x := if idle then { x with cid := [], clen := 0, built := 0, arm := none, erasing := true, last := [] } else x
  ((c.setUpd x).journal idle).log 0x0C 0x01

/-- A failure: error code, IDLE, and its log entry. -/
def Chip.updFail (c : Chip) (err code : Nat) : Chip := (c.updState 0 err).log 0x0C code

/-! ## Announce and pieces (R514..R517) -/

/-- Bytes of the container from offset `o`. -/
def Chip.ctr (c : Chip) (o n : Nat) : List Byte := c.flashBytes (stagingBase + o) n
def Chip.ctrNat (c : Chip) (o n : Nat) : Nat := leNat (c.ctr o n)

/-- Vintages an announce or a header may carry (R514). -/
def Chip.vintsOk (c : Chip) (vf vt : Nat) : Bool :=
  (vf = c.boot.vint || vf = 0) && vt > c.boot.vint && vt ≥ c.cfg.vfloor

/-- The announce taken once staging is erased. -/
def Chip.announceGo (c : Chip) (v : List Byte) : Chip × Nat :=
  let len := leNat (slice v 32 4)
  let f := leNat (slice v 36 4)
  let t := leNat (slice v 40 4)
  if v.length ≠ 44 || len = 0 || len > 8257536 || !c.vintsOk f t then (c, stRange)
  else
    let c := c.setUpd { c.upd with cid := v.take 32, clen := len, fromV := f, toV := t, built := 0, arm := none, last := [] }
    (c.updState 1 0, stOk)

/-- A write of 0xA010 (R514): `none` while it waits for the erase of staging. The container in progress announced again is
OK; where a restart has lost its length, the announce brings it back. -/
def Chip.announce (c : Chip) (v : List Byte) : Chip × Option Nat :=
  if c.upd.cid ≠ [] && v.take 32 = c.upd.cid then
    (if c.upd.clen = 0 then c.setUpd { c.upd with clen := leNat (slice v 32 4), fromV := leNat (slice v 36 4) } else c, some stOk)
  else if !(c.upd.state = 0 || c.upd.state = 8 || c.upd.state = 9) then (c, some stBusy)
  else if c.upd.erasing then (c, none)
  else let (c, st) := c.announceGo v; (c, some st)

/-- The pieces of the container: all there can be, where a restart has lost its length (R514, R521). -/
def UpdSt.pieces (x : UpdSt) : Nat := if x.clen = 0 then 8064 else (x.clen + 1023) / 1024

/-- The length of a container by its header and op stream (R512). -/
def Chip.ctrLen (c : Chip) : Nat := if c.ctrNat 0 4 = 0x444C5441 then 352 + 40 * c.ctrNat 116 4 + c.ctrNat 120 4 else 0

/-- Bit `p` of the bitmap in force: piece `p` is missing. -/
def Chip.missing (c : Chip) (p : Nat) : Bool := (c.flashNat (jrBase c.upd.half + p / 8) 1) / 2 ^ (p % 8) % 2 = 1

/-- The pieces held. -/
def Chip.piecesHeld (c : Chip) : Nat := ((List.range c.upd.pieces).filter fun p => !c.missing p).length

/-- Bit `p` programmed to 0. -/
def Chip.clearBit (c : Chip) (p : Nat) : Chip := c.fwProg (jrBase c.upd.half + p / 8) [~~~(1#8 <<< (p % 8))]

/-- A piece of NA or NB counted against the rate cap (R517); the flag tells that it is over. -/
def Chip.rateCap (c : Chip) (p : Nat) : Chip × Bool :=
  if p = 2 then (c, false) else
  let t := c.ptpSec
  let used := if c.upd.rateAt = t then c.upd.rateBits else 0
  if used + 8192 > c.objNat 0xA020 1 2000000 then ((c.setUpd { c.upd with capped := c.upd.capped + 1 }).log 0x0C 0x05, true)
  else (c.setUpd { c.upd with rateAt := t, rateBits := used + 8192 }, false)

/-- Piece `i` with data `d` is one of the container's; where its length is lost, any of at most 1,024 bytes (R515, R521). -/
def UpdSt.pieceFits (x : UpdSt) (i : Nat) (d : List Byte) : Bool :=
  i < x.pieces && (if x.clen = 0 then 1 ≤ d.length && d.length ≤ 1024 else d.length = min 1024 (x.clen - 1024 * i))

/-- Piece `i` programmed, read back and entered in the bitmap; the first one brings a lost length back (R515, R521). -/
def Chip.pieceStore (c : Chip) (v : List Byte) (i : Nat) (d : List Byte) : Chip × Option Nat :=
  let c := (c.fwProg (stagingBase + 1024 * i) d)
  let c := if c.ctr (1024 * i) d.length = d then c else c.fwProg (stagingBase + 1024 * i) d
  if c.ctr (1024 * i) d.length ≠ d then (c.updState 0 6, some 0x1A)
  else
    let c := (c.clearBit i).setUpd { c.upd with last := v.take 8 }
    let c := if c.upd.clen = 0 && i = 0 then c.setUpd { c.upd with clen := c.ctrLen, fromV := c.ctrNat 8 4 } else c
    (if c.upd.clen ≠ 0 && c.piecesHeld = c.upd.pieces then c.updState 2 0 else c, some stOk)

/-- A write of 0xA011 received on port `p` (R515, R517): of NA and NB each piece received counts against the cap; a group piece of
another container is not answered. -/
def Chip.piece (c : Chip) (v : List Byte) (p : Nat) (group : Bool) : Chip × Option Nat :=
  let i := leNat (slice v 4 4)
  let d := v.drop 8
  if c.upd.cid = [] || v.take 4 ≠ c.upd.cid.take 4 then (c, if group then none else some stRange)
  else
    let (c, full) := c.rateCap p
    if full then (c, some stBusy)
    else if !c.upd.pieceFits i d then (c, some stRange)
    else if !c.missing i then (c, some stOk)
    else if c.upd.state ≠ 1 || c.pwr.pfw then (c, some stBusy)
    else c.pieceStore v i d

/-! ## Verification (R512, R513, R519) -/

/-- Container header: NCHUNK, TO_LEN, OPLEN, FULL; where the op stream and the signature begin. -/
def Chip.nchunk (c : Chip) : Nat := c.ctrNat 116 4
def Chip.toLen (c : Chip) : Nat := c.ctrNat 112 4
def Chip.opLen (c : Chip) : Nat := c.ctrNat 120 4
def Chip.full (c : Chip) : Bool := c.ctrNat 6 1 % 2 = 1
def Chip.opsAt (c : Chip) : Nat := 256 + 40 * c.nchunk

/-- Chunk `i`: its bytes in the op stream, and whether they match the table. -/
def Chip.chunk (c : Chip) (i : Nat) : List Byte := c.ctr (c.opsAt + c.ctrNat (256 + 40 * i) 4) (c.ctrNat (260 + 40 * i) 4)
def Chip.chunkOk (c : Chip) (i : Nat) : Bool :=
  c.ctrNat (256 + 40 * i) 4 + c.ctrNat (260 + 40 * i) 4 ≤ c.opLen && sha256 (c.chunk i) == c.ctr (264 + 40 * i) 32

/-- The error code that verification ends with; 0 where it passes (R519; DEDUCED, log entry 214, for
reserved and unused fields). -/
def Chip.verifyErr (c : Chip) : Nat :=
  let run := flashBase + slotBase c.runSlot
  let n := c.nchunk
  if !c.sectorsOk stagingBase c.upd.clen || sha256 (c.ctr 0 c.upd.clen) ≠ c.upd.cid then 6
  else if c.ctrNat 0 4 ≠ 0x444C5441 || c.ctrNat 4 2 ≠ 1 || c.ctrNat 6 2 > 1 || n ≠ (c.toLen + 65535) / 65536 || c.toLen > imageMax
      || (c.ctr 124 132).any (· ≠ 0) || (c.full && (c.ctr 16 48).any (· ≠ 0)) || c.opsAt + c.opLen + 96 ≠ c.upd.clen then 8
  else if !c.vintsOk (c.ctrNat 8 4) (c.ctrNat 12 4) || c.ctrNat 8 4 ≠ c.upd.fromV || c.ctrNat 12 4 ≠ c.upd.toV
      || (c.full && c.ctrNat 8 4 ≠ 0) then 5
  else if !ecdsaOk (c.bytes (run + 576) 97) (sha384 (c.ctr 0 c.opsAt)) (c.ctr (c.opsAt + c.opLen) 96) then 2
  else if !((List.range n).all c.chunkOk) then 3
  else if !c.full && imgDigest (c.imageAt run).2 ≠ c.ctr 16 48 then 1
  else 0

/-- Firmware builds without being armed, or an arm is pending. -/
def Chip.buildsNow (c : Chip) : Bool := c.objNat 0xA020 3 1 ≠ 0 || c.upd.arm.isSome

/-- The container verified. -/
def Chip.verify (c : Chip) : Chip :=
  let e := c.verifyErr
  if e = 0 then c.updState 3 0 else c.updFail e 0x02

/-! ## Building (R513, R521) -/

/-- The output of a chunk's ops; `none` where an op is wrong. -/
def Chip.runOps (c : Chip) : Nat → List Byte → List Byte → Option (List Byte)
  | 0, _, _ => none
  | n + 1, ops, out =>
    if ops.isEmpty then some out else
    let h := leNat (ops.take 4)
    let len := h % 2 ^ 24
    match h / 2 ^ 28 with
    | 1 =>
      let src := leNat (slice ops 4 4)
      if ops.length < 8 || c.full || src + len > imageMax then none
      else c.runOps n (ops.drop 8) (out ++ c.flashBytes (slotBase c.runSlot + src) len)
    | 2 =>
      let pad := (len + 3) / 4 * 4
      if ops.length < 4 + pad then none else c.runOps n (ops.drop (4 + pad)) (out ++ slice ops 4 len)
    | _ => none

/-- The bytes chunk `i` produces. -/
def Chip.chunkLen (c : Chip) (i : Nat) : Nat := min 65536 (c.toLen - 65536 * i)

/-- ARMED entered with the arm in force or pending, or the arm dropped where its moment has passed (R523). -/
def Chip.enterArmed (c : Chip) : Chip :=
  match c.upd.arm with
  | none => c
  | some a =>
    if (a.mode = 1 && a.from_ < c.now) || (a.mode = 2 && a.until_ < c.now) then
      let c := c.setUpd { c.upd with arm := none }
      (if c.upd.state = 5 then c.journal false else c.updState 5 0).log 0x0C 0x0C
    else (c.setUpd { c.upd with expired := false, rose := false }).updState 6 0

/-- The other slot holds the valid image the container is for. -/
def Chip.builtOk (c : Chip) : Bool :=
  let b := flashBase + slotBase c.otherSlot
  c.sectorsOk (slotBase c.otherSlot) c.toLen && sha384 (c.bytes b c.toLen) == c.ctr 64 48 && c.imageValid (c.imageAt b).2

/-- The last chunk done: the new slot checked and its VINT and WRT written (R518, R521). -/
def Chip.buildEnd (c : Chip) : Chip :=
  if !c.builtOk then c.updFail 4 0x03
  else ((c.cfgWrite (c.cfg.setSlot c.otherSlot c.upd.toV c.ptpSec)).updState 5 0).enterArmed

/-- One chunk erased, built, programmed, read back and journalled (R521). -/
def Chip.buildChunk (c : Chip) : Chip :=
  let i := c.upd.built
  let o := slotBase c.otherSlot + 65536 * i
  match c.runOps ((c.chunk i).length + 1) (c.chunk i) [] with
  | none => c.updFail 3 0x03
  | some out =>
    if out.length ≠ c.chunkLen i then c.updFail 3 0x03 else
    let c := (c.fwErase o 65536).fwProg o out
    if c.flashBytes o out.length ≠ out then c.updFail 7 0x03
    else
      let c := (c.setUpd { c.upd with built := i + 1 }).journal false
      if i + 1 = c.nchunk then c.buildEnd else c

/-- BUILDING from VERIFIED: the verification repeated, the slot's VINT 0 in the boot configuration. -/
def Chip.buildStart (c : Chip) : Chip :=
  let e := c.verifyErr
  if e ≠ 0 then c.updFail e 0x02
  else ((c.setUpd { c.upd with built := 0 }).cfgWrite (c.cfg.setSlot c.otherSlot 0 (c.cfg.wrt c.otherSlot))).updState 4 0

/-- The next chunk, from VERIFIED or BUILDING. -/
def Chip.build (c : Chip) : Chip :=
  if c.upd.state = 3 && c.buildsNow then
    let c := c.buildStart
    if c.upd.state = 4 then c.buildChunk else c
  else if c.upd.state = 4 then c.buildChunk else c

/-! ## Arming, activation, trial (R522..R525) -/

/-- The TS80 of 12 bytes: words 0..2 of R39. -/
def ts80Of (l : List Byte) : Nat := tsOf (leWordAt l 0) (leWordAt l 4) (leWordAt l 8)

/-- A write of 0xA013 (R523). -/
def Chip.armWrite (c : Chip) (v : List Byte) : Chip × Nat :=
  let a : Arm := { mode := leNat (slice v 0 1), trials := leNat (slice v 1 1), from_ := ts80Of (slice v 4 12), until_ := ts80Of (slice v 16 12), bytes := v }
  if c.upd.state < 3 || 6 < c.upd.state then (c, stBusy)
  else if v.length ≠ 28 || !(a.mode = 1 || a.mode = 2) || a.trials = 0 || a.trials > 7 then (c, stRange)
  else
    let c := c.setUpd { c.upd with arm := some a }
    if c.upd.state ≥ 5 then (c.enterArmed, stOk) else (c.journal false, stOk)

/-- The activation moment of the arm in force has come: FROM, or the first rise of DARK in its window. -/
def Chip.activates (c : Chip) : Bool :=
  c.upd.state = 6 && !(c.pairState = 4 && c.rf rCDR_STATUS 0 0 5 3 = 3) &&
  match c.upd.arm with
  | some a =>
    if a.mode = 1 then a.from_ ≤ c.now else c.upd.rose
  | none => false

/-- Activation (R522): the raster stopped, the boot configuration written for a trial, a warm reset. -/
def Chip.activation (c : Chip) : Chip :=
  match c.upd.arm with
  | none => c
  | some a =>
    let c := c.fwWrite rRAS_CTRL.base (setBit (c.rd rRAS_CTRL) 0 false)
    (c.cfgWrite { c.cfg with active := c.otherSlot, prev := c.runSlot, state := 1, trials := a.trials }).errFlush.warmReset 4

/-- What firmware does when it looks at the arm. -/
def Chip.activationCheck (c : Chip) : Chip := c.when c.activates Chip.activation

/-- Confirmation (R524). -/
def Chip.confirm (c : Chip) : Chip := (c.cfgWrite { c.cfg with state := 0 }).updState 8 0

/-- Command 3 in TRIAL (R524, R525). -/
def Chip.rollback (c : Chip) : Chip :=
  ((c.cfgWrite { c.cfg with active := c.cfg.prev, state := 2 }).log 0x0C 0x07).errFlush.warmReset 4

/-! ## Refresh (R526) -/

/-- 36 months in seconds, as the model counts them. -/
def refreshAge : Nat := 36 * 2629800

/-- The store and the key area are refreshed by their own compaction; refresh does not run in TRIAL or ARMED, nor before
the servo has been LOCKED. -/
def Chip.mayRefresh (c : Chip) : Bool := c.upd.state ≠ 7 && c.upd.state ≠ 6 && !c.time.servo.fromFreerun && c.runSlot ≤ 1 && !c.pwr.pfw

/-- The running slot copied into the other, and the boot configuration written for it. -/
def Chip.refreshImage (c : Chip) : Chip :=
  let n := (imgLen (c.bytes (flashBase + slotBase c.runSlot) 1024) + 65535) / 65536
  let o := c.otherSlot
  let c := c.each (List.range (min n 384)) fun c i =>
    let b := c.flashBytes (slotBase c.runSlot + 65536 * i) 65536
    (c.fwErase (slotBase o + 65536 * i) 65536).fwProg (slotBase o + 65536 * i) b
  (c.cfgWrite ({ c.cfg with active := o, state := 0 }.setSlot o (c.cfg.vint c.runSlot) c.ptpSec)).log 0x0C 0x09

/-- The running image's WRT is known and 36 months old. -/
def Chip.refreshDue (c : Chip) : Bool :=
  let w := c.cfg.wrt c.runSlot
  w ≠ 0 && w + refreshAge ≤ c.ptpSec

/-! ## Commands of 0xA014 -/

/-- A write of 0xA014 (R514, R524, R526). -/
def Chip.updCommand (c : Chip) (k : Nat) : Chip × Nat :=
  let c := c.setUpd { c.upd with cmd := k }
  if c.pwr.pfw then (c, stBusy) else
  match k with
  | 1 => if c.upd.state = 7 then (c, stRange) else if c.upd.state = 0 then (c, stOk) else (c.updState 0 0, stOk)
  | 2 => if c.upd.state = 7 then (c.confirm, stOk) else (c, stRange)
  | 3 => if c.upd.state = 7 then (c.rollback, stOk) else (c, stRange)
  | 4 => if c.mayRefresh then (c.refreshImage, stOk) else (c, stBusy)
  | _ => (c, stRange)

/-- The status of an update command as the bus's answer; `none`: not answered. -/
def Chip.status (r : Chip × Option Nat) : Chip :=
  match r with
  | (c, some st) => c.answer (BitVec.ofNat 32 st)
  | (c, none) => c

/-- The same of a command that is always answered. -/
def Chip.statusOf (r : Chip × Nat) : Chip := Chip.status (r.1, some r.2)

/-! ## The commands -/

/-- ANNOUNCE (R514): a write of 0xA010, the status its answer; during the erase of staging it waits. -/
def execUpdAnnounce (v : List Byte) (s : State) : Host.Outcome State Fault Refusal :=
  run (fun c => c.when (c.fwRuns && !c.pwr.pfw) fun c => match c.announce v with
    | (c, some st) => c.answer (BitVec.ofNat 32 st)
    | (c, none) => c.setUpd { c.upd with waiting := c.upd.waiting ++ [v] }) s

/-- PIECE (R515): a write of 0xA011 received on port `p`, or by the group. -/
def execUpdPiece (v : List Byte) (p : Fin 3) (group : Bool) (s : State) : Host.Outcome State Fault Refusal :=
  run (fun c => c.when c.dopRuns fun c => Chip.status (c.piece v p group)) s

/-- STAGING_ERASE_DONE (R516): the announces that waited are answered in turn. -/
def execStagingEraseDone (s : State) : Host.Outcome State Fault Refusal :=
  run (fun c => if !(c.fwRuns && c.upd.erasing && !c.pwr.pfw) then c else
    let w := c.upd.waiting
    let c := (c.fwErase stagingBase stagingSize).setUpd { c.upd with erasing := false, waiting := [] }
    c.each w fun c v => Chip.status (c.announce v)) s

/-- UPDATE_VERIFY (R519). -/
def execUpdateVerify (s : State) : Host.Outcome State Fault Refusal :=
  run (fun c => c.when (c.fwRuns && c.upd.state = 2 && !c.pwr.pfw) fun c => c.verify) s

/-- BUILD_CHUNK (R521). -/
def execBuildChunk (s : State) : Host.Outcome State Fault Refusal :=
  run (fun c => c.when (c.fwRuns && !c.pwr.pfw) fun c => c.build) s

/-- ARM_UPDATE (R523): a write of 0xA013. -/
def execArmUpdate (v : List Byte) (s : State) : Host.Outcome State Fault Refusal :=
  run (fun c => c.when (c.fwRuns && !c.pwr.pfw) fun c => Chip.statusOf (c.armWrite v)) s

/-- ACTIVATION (R522). -/
def execActivation (s : State) : Host.Outcome State Fault Refusal :=
  run (fun c => c.when (c.fwRuns && !c.pwr.pfw) fun c => c.activationCheck) s

/-- UPD_ARM_EXPIRED (R522): UNTIL of a dark-period arm passes. -/
def execUpdArmExpired (s : State) : Host.Outcome State Fault Refusal :=
  run (fun c => match c.upd.arm with
    | some a => if c.fwRuns && c.upd.state = 6 && a.mode = 2 && a.until_ < c.now && !c.upd.rose && !c.upd.expired then
        (c.setUpd { c.upd with expired := true }).log 0x0C 0x0C
      else c
    | none => c) s

/-- ABORT: command 1 (R514). -/
def execUpdAbort (s : State) : Host.Outcome State Fault Refusal := run (fun c => c.when c.fwRuns fun c => Chip.statusOf (c.updCommand 1)) s

/-- CONFIRM: command 2 (R524). -/
def execUpdConfirm (s : State) : Host.Outcome State Fault Refusal := run (fun c => c.when c.fwRuns fun c => Chip.statusOf (c.updCommand 2)) s

/-- ROLLBACK: command 3 (R524). -/
def execUpdRollback (s : State) : Host.Outcome State Fault Refusal := run (fun c => c.when c.fwRuns fun c => Chip.statusOf (c.updCommand 3)) s

/-- REFRESH_NOW: command 4 (R526). -/
def execRefreshNow (s : State) : Host.Outcome State Fault Refusal := run (fun c => c.when c.fwRuns fun c => Chip.statusOf (c.updCommand 4)) s

/-- AUTO_CONFIRM (R524): the raster engine has run for the auto-confirm time. -/
def execAutoConfirm (s : State) : Host.Outcome State Fault Refusal :=
  run (fun c => if c.fwRuns && c.upd.state = 7 && c.rb rRAS_STATUS 0 0 0 && c.objNat 0xA020 2 600 ≠ 0 && !c.pwr.pfw then c.confirm else c) s

end Sys2Proof.Machine
end

