-- ==== Sys2Proof/Machine/Store.lean ====
section
/-! DEFINITION. The persistent object store (spec/14 R434, R435) and the refresh of the flash areas (spec/17 R526). -/

namespace Sys2Proof.Machine

/-- The protocol's and the store's state set. -/
def Chip.setDop (c : Chip) (x : DopSt) : Chip := { c with dop := x }

/-- A DOP counter (R445): 0 accepted, 1 discarded, 2 fragments, 3 tag failures, 4 replays, 5 HELLO refused, 6 relayed, 7 late
applies, 8 store failures. -/
def Chip.dopCount (c : Chip) (i : Nat) : Chip :=
  c.setDop { c.dop with counts := mset 0 c.dop.counts i ((mget 0 c.dop.counts i + 1) % 2 ^ 32) }

/-- Flash offset of half `h`, its size, and where its records begin: its first page is the header. -/
def stBase (h : Nat) : Nat := 0x03080000 + h * 0x00200000
def stSize : Nat := 0x00200000
def stFirst : Nat := 256

/-- The bytes of a store record. -/
def storeBytes (idx sub ty : Nat) (v : List Byte) (seq : Nat) : List Byte :=
  let head := natLE 2 0x5053 ++ natLE 2 idx ++ natLE 1 sub ++ natLE 1 ty ++ natLE 4 v.length ++ natLE 4 seq
  head ++ natLE 4 (crc32c (head ++ v)).toNat ++ v ++ List.replicate ((4 - v.length % 4) % 4) 0xFF

/-- The length of a record whose value has `n` bytes. -/
def storeLen (n : Nat) : Nat := 18 + (n + 3) / 4 * 4

/-- A record met by a scan. -/
structure StRec where
  idx : Nat
  sub : Nat
  ty : Nat
  seq : Nat
  val : List Byte
  valid : Bool
  deriving DecidableEq, Repr

/-- The records of half `h` from offset `o` on, oldest first, and the offset after the last; `fuel` bounds their number. -/
def Chip.stScan (c : Chip) (h : Nat) : Nat → Nat → List StRec × Nat
  | 0, o => ([], o)
  | f + 1, o =>
    let b := stBase h + o
    let n := c.flashNat (b + 6) 4
    if o + 18 > stSize || c.flashNat b 2 ≠ 0x5053 || o + storeLen n > stSize then ([], o)
    else
      let v := c.flashBytes (b + 18) n
      let r : StRec := { idx := c.flashNat (b + 2) 2, sub := c.flashNat (b + 4) 1, ty := c.flashNat (b + 5) 1, seq := c.flashNat (b + 10) 4, val := v
                         valid := c.sectorsOk b (storeLen n) && (crc32c (c.flashBytes b 14 ++ v)).toNat = c.flashNat (b + 14) 4 }
      let (l, e) := c.stScan h f (o + storeLen n)
      (r :: l, e)

/-- The records of half `h`. -/
def Chip.stRecs (c : Chip) (h : Nat) : List StRec × Nat := c.stScan h 116508 stFirst

/-- The generation in half `h`'s header, where it is valid. -/
def Chip.stGen (c : Chip) (h : Nat) : Option Nat :=
  let b := c.flashBytes (stBase h) 4
  if c.sectorsOk (stBase h) 256 && c.flashNat (stBase h + 4) 4 = (crc32c b).toNat && leNat b ≠ 0xFFFFFFFF then some (leNat b) else none

/-- The newest valid record of each object among `l`, in the order of the newest records. -/
def stLive (l : List StRec) : List StRec :=
  l.foldl (fun m r => if r.valid then m.filter (fun x => !(x.idx = r.idx && x.sub = r.sub)) ++ [r] else m) []

/-- The header of half `h` written with generation `g`. -/
def Chip.stHeader (c : Chip) (h g : Nat) : Chip := c.fwProg (stBase h) (natLE 4 g ++ natLE 4 (crc32c (natLE 4 g)).toNat)

/-- One record programmed at the append position; the flag tells that it reads back right. -/
def Chip.stPut (c : Chip) (idx sub ty : Nat) (v : List Byte) : Chip × Bool :=
  let o := c.dop.off
  if o + storeLen v.length > stSize then (c, false) else
  let b := storeBytes idx sub ty v (c.dop.rseq + 1)
  let c := c.fwProg (stBase c.dop.half + o) b
  let ok := c.flashBytes (stBase c.dop.half + o) b.length = b
  (c.setDop { c.dop with off := o + b.length, rseq := c.dop.rseq + 1 }, ok)

/-- The live records that `keep` names copied to the other half, its header written after the last copy, the old half
erased (R435). -/
def Chip.stCompact (c : Chip) (keep : StRec → Bool) : Chip :=
  let old := c.dop.half
  let l := (stLive (c.stRecs old).1).filter keep
  let h := 1 - old
  let c := c.fwErase (stBase h) stSize
  let c := c.setDop { c.dop with half := h, off := stFirst }
  let c := c.each l fun c r => (c.stPut r.idx r.sub r.ty r.val).1
  let c := (c.setDop { c.dop with gen := c.dop.gen + 1 }).stHeader h (c.dop.gen + 1)
  c.fwErase (stBase old) stSize

/-- A store failure counted and logged (R435). -/
def Chip.stFailed (c : Chip) : Chip := (c.dopCount 8).log 0x44 0xF3

/-- A value stored (R435), the half compacted first where it lacks room; none begun under the power-fail warning. The flag
tells that it was stored; a failure is counted and logged. -/
def Chip.stWrite (c : Chip) (idx sub ty : Nat) (v : List Byte) : Chip × Bool :=
  let c := if c.dop.off + storeLen v.length > stSize && !c.pwr.pfw then c.stCompact fun _ => true else c
  let (c, ok) := if c.pwr.pfw then (c, false) else c.stPut idx sub ty v
  if ok then (c, true) else (c.stFailed, false)

/-- The type of an object's value. -/
def objType (key : Nat) : Nat := match objRow (key / 256) (key % 256) with | some r => r.ty | none => tBLOB

/-- A value to be stored later: it takes the place of an older one of the same object (R434). -/
def Chip.stLater (c : Chip) (key : Nat) (v : List Byte) : Chip :=
  c.setDop { c.dop with dirty := c.dop.dirty.filter (fun x => x.1 ≠ key) ++ [(key, v)] }

/-- The oldest value that waits stored; under the warning it goes on waiting. -/
def Chip.stFlush (c : Chip) : Chip :=
  match c.dop.dirty with
  | [] => c
  | (key, v) :: t => if c.pwr.pfw then c else ((c.setDop { c.dop with dirty := t }).stWrite (key / 256) (key % 256) (objType key) v).1

/-- STORE_FLUSH (R434, R435). -/
def execStoreFlush (s : State) : Host.Outcome State Fault Refusal := run (fun c => c.when c.fwRuns fun c => c.stFlush) s

/-- The objects that restore defaults keeps (R434). -/
def keptObject (idx : Nat) : Bool := idx = 0x1010 || (0x3010 ≤ idx && idx ≤ 0x3012) || idx = 0x8004

/-- Every stored value erased but those kept (R434). -/
def Chip.stRestore (c : Chip) : Chip :=
  (c.setDop { c.dop with dirty := c.dop.dirty.filter fun x => keptObject (x.1 / 256) }).stCompact fun r => keptObject r.idx

/-- The half in use found at start: the higher generation with a valid header; with none, half 0 is made ready (R435). Where
a torn record lies after the last whole one, so that nothing can be appended there, the half is compacted (DEDUCED, log entry 209). -/
def Chip.stOpen (c : Chip) : Chip :=
  let pick := match c.stGen 0, c.stGen 1 with
    | some a, some b => some (if a ≥ b then (0, a) else (1, b))
    | some a, none => some (0, a)
    | none, some b => some (1, b)
    | none, none => none
  match pick with
  | some (h, g) =>
    let (l, o) := c.stRecs h
    let c := c.setDop { c.dop with half := h, gen := g, off := o, rseq := l.foldl (fun m r => max m r.seq) 0 }
    if (c.flashBytes (stBase h + o) (min 18 (stSize - o))).any (· ≠ 0xFF) && !c.pwr.pfw then c.stCompact fun _ => true else c
  | none =>
    let c := c.setDop { c.dop with half := 0, gen := 1, off := stFirst, rseq := 0 }
    if c.pwr.pfw then c else (c.fwErase (stBase 0) stSize).stHeader 0 1

/-- UPD_REFRESH (R526): the image, the object store (1) or the key-record area (2) has been found 36 months old. The image's
age is in the boot configuration; that of the store and of the key area firmware alone knows. -/
def execUpdRefresh (what : Fin 3) (s : State) : Host.Outcome State Fault Refusal :=
  run (fun c => c.when (c.fwRuns && c.mayRefresh) fun c =>
    if what.val = 0 then (if c.refreshDue then c.refreshImage else c)
    else if what.val = 1 then (c.stCompact fun _ => true).log 0x0C 0x09
    else c.vltCompact.1.log 0x0C 0x09) s

end Sys2Proof.Machine
end

