-- ==== Sys2Proof/Machine/ObjRead.lean ====
section
/-! DEFINITION. The value of each object as a GET finds it (spec/14 R432..R437 and the object tables). -/

namespace Sys2Proof.Machine

/-- Who asks: the level, the DOP version and the session of a request, and the MAC it came by. -/
structure DopCtx where
  level : Nat := 3
  ver : Nat := 3
  sid : BitVec 32 := 0xFFFFFFFF
  group : Bool := false
  port : Nat := 2
  deriving DecidableEq, Repr

/-- The session of an SID. -/
def Chip.dopSess (c : Chip) (sid : BitVec 32) : Option DopSess := c.dop.sess.find? fun s => s.sid = sid

/-- Firmware reads the word at `addr` as HC0 in world S; none on a bus error. The bus's last answer stays. -/
def Chip.fwRead (c : Chip) (addr : Nat) : Chip × Option Word :=
  let r := c.rsp
  let c := c.busRead fwAccess (BitVec.ofNat 32 addr)
  ({ c with rsp := r }, if c.rsp.err then none else some c.rsp.val)

/-- The words at some addresses, as bytes. -/
def Chip.fwWords (c : Chip) : List Nat → Chip × Option (List Byte)
  | [] => (c, some [])
  | a :: t =>
    match c.fwRead a with
    | (c, none) => (c, none)
    | (c, some w) =>
      let (c, l) := c.fwWords t
      (c, l.map fun l => wordBytes w ++ l)

/-- Field [hi:lo] of the register at `addr`, encoded as type `ty`. -/
def Chip.fwField (c : Chip) (addr hi lo ty : Nat) : Chip × Option (List Byte) :=
  let (c, w) := c.fwRead addr
  (c, w.map fun w => encNum ty (fld w hi lo))

/-- A value firmware holds, its default where none has been written. -/
def Chip.objHeld (c : Chip) (r : ObjRow) (sub : Nat) : List Byte :=
  match c.heldAt r.idx sub with
  | none => if r.ty = tSTR then (if r.idx = 0x1008 then ascii "DL4805" else []) else if r.ty = tBLOB then [] else encNum r.ty r.dflt
  | some l => l

/-- The highest domain feature level of the running image, and the level in effect (R443, R444). -/
def Chip.dflMax (c : Chip) : Nat := c.boot.dfl
def Chip.dflNow (c : Chip) : Nat := min c.dop.dfl c.dflMax

/-- A TS80 as its 12 bytes. -/
def tsBytes (t : Nat) : List Byte := [tsWord t 0, tsWord t 1, tsWord t 2].flatMap wordBytes

/-- The session table of object 0x1101 sub 2. -/
def Chip.sessTable (c : Chip) : List Byte :=
  (c.dop.sess.filter (·.opened)).flatMap fun s =>
    natLE 4 s.sid.toNat ++ natLE 2 s.src ++ natLE 1 s.level ++ natLE 1 s.ver ++ natLE 4 s.ip.toNat ++ natLE 4 ((c.now - s.at_) / 1000000)

/-- The proof record of the latest frame whose echo time has passed, to a whole multiple of 64 bytes (R204, R205, R207). -/
def Chip.latestProof (c : Chip) : Chip × Option (List Byte) :=
  match c.ras.proofs.find? fun r => r.deadline < c.now with
  | some r => c.fwWords (offsFrom (r.ents - 832) (16 * ((832 + 16 * r.nodes.length + 63) / 64)))
  | none => (c, some [])

/-- The nodes of port `p` in address order. -/
def Chip.portAddrs (c : Chip) (p : Nat) : List Nat := (List.range (c.portNodes p)).map (· + 1)

/-- Identity, communication, time; an offset or a delay beyond 32 bits is reported by its low 32 (DESIGN CHOICE, log entry 223). -/
def Chip.getComm (c : Chip) (x : DopCtx) (idx sub : Nat) : List Byte :=
  match idx, sub with
  | 0x1000, _ => natLE 4 0x4805
  | 0x1018, 1 => natLE 4 0x4858
  | 0x1018, 2 => natLE 4 0x4805
  | 0x1018, 3 => [0xA0]
  | 0x1018, 4 => natLE 8 c.fuses.serial.toNat
  | 0x1018, _ => natLE 4 c.boot.vint
  | 0x1100, 1 => [1]
  | 0x1100, 2 => [3]
  | 0x1100, _ => natLE 1 x.ver
  | 0x1101, 1 => natLE 1 (c.dop.sess.filter (·.opened)).length
  | 0x1101, _ => c.sessTable
  | 0x1102, _ => (List.range 9).flatMap fun i => natLE 4 (mget 0 c.dop.counts i)
  | 0x1200, 1 => natLE 2 c.dflNow
  | 0x1200, 2 => natLE 2 c.dflMax
  | 0x1200, 3 => (c.heldAt 0x1200 3).getD (natLE 2 1 ++ List.replicate 12 0)
  | 0x1200, _ => natLE 1 (b2n (c.dop.dfl > c.dflMax))
  | 0x2000, 2 => encNum tS32 c.time.servo.offset
  | 0x2000, 3 => encNum tU32 c.time.servo.delay
  | 0x2000, 4 => natLE 4 (if c.rf rTIME_SERVO 0 0 2 0 = 3 then ((c.now - c.time.servo.holdStart) / nsPerSec : Int).toNat else 0)
  | 0x2000, 5 => natLE 8 (match c.time.servo.parent with | some f => f.gm.toNat | none => 0)
  | 0x2000, 6 => natLE 1 (match c.time.servo.parent with | some f => f.port | none => 255)
  | 0x2000, _ => tsBytes c.now
  | 0x2030, _ => encNum tS32 c.time.grid.ofs
  | _, _ => []

/-- `n` entries of the Lamp Health Table from entry `i` on as firmware reads them (R152, R158). -/
def Chip.fwLamps (c : Chip) (i : Nat) : Nat → Chip × List Byte
  | 0 => (c, [])
  | n + 1 =>
    let (c, w) := c.fwRead (lhtAddr i)
    let x := c.lhtLost i
    let (c, l) := c.fwLamps (i + 1) n
    (c, wordBytes (w.getD (lhtWord x.1 x.2.1 x.2.2)) ++ l)

/-- Nodes, lamps, drive (R334, R358). -/
def Chip.getDrive (c : Chip) (idx sub : Nat) : Chip × List Byte :=
  let p := sub - 1
  let per := fun (f : NodeSt → List Byte) => (c.portAddrs p).flatMap fun a => f (c.node (c.nodeIdx p a))
  match idx with
  | 0x6005 =>
    let n := c.rf rRDM_STS p 0 8 0
    let l := (List.range 64).flatMap (fun j => wordBytes (c.rd rRXBUF p j)) ++ wordBytes (c.rd rRX256 p)
    (c, wordBytes (c.rd rRDM_STS p) ++ l.take n)
  | 0x6405 => (c, (mget [] c.dop.recs p).flatMap wordBytes)
  | 0x7001 => (c, natLE 2 (c.rd (if sub = 1 then rCOMM_KNEE else if sub = 2 then rCOMM_FLOOR else rCOMM_TRIP)).toNat)
  | 0x7002 => (c, per fun n => natLE 1 n.code)
  | 0x7003 => (c, per fun n => natLE 1 n.codeMax)
  | 0x7004 => (c, natLE 2 (c.rd (rPHASE p)).toNat)
  | 0x7101 =>
    let a := 0x94000000 + 16 * p
    match c.fwWords [a, a + 4, a + 8] with
    | (c, none) => (c, [])
    | (c, some l) =>
      if !bit (leWordAt l 0) 31 then (c, [])
      else c.fwLamps (fld (leWordAt l 0) 21 0) (fld (leWordAt l 4) 11 0 * min 64 (fld (leWordAt l 8) 6 0))
  | 0x7102 => (c, (c.portAddrs p).flatMap fun a =>
      let c := c.wr rNODE_SEL 0 0 (BitVec.ofNat 32 (c.nodeIdx p a))
      wordBytes (c.nodeWord false) ++ wordBytes (c.nodeWord true))
  | 0x7E00 => (c, encNum tS32 (sgn (c.rd rCMP_NS 2)))
  | 0x7E03 => (c, c.bytes ((c.rd rLIVE_BASE).toNat + 8 * p) 8)
  | _ => (c, [])

/-- A dump area's summary: valid, SEQ, TS80, CAUSE. -/
def Chip.dumpSummary (c : Chip) (a : Nat) : Chip × List Byte :=
  let (c, h, ok) := c.dumpRead a
  (c, natLE 1 (b2n ok) ++ slice h 8 20)

/-- Where the last of the first `n` sections of a header ends. -/
def dumpEnd (h : List Byte) (n : Nat) : Nat :=
  (List.range n).foldl (fun m i => max m (leNat (slice h (52 + 16 * i) 4) + leNat (slice h (56 + 16 * i) 4))) 256

/-- A valid dump's bytes, to the end of its last section; none where there is no valid dump. -/
def Chip.dumpBytes (c : Chip) (a : Nat) : Chip × List Byte :=
  match c.dumpRead a with
  | (c, h, true) => c.attic a 0 (dumpEnd h (leNat (slice h 6 2)))
  | (c, _, false) => (c, [])

/-- Security, update, diagnostics. -/
def Chip.getSys (c : Chip) (x : DopCtx) (idx sub : Nat) : List Byte :=
  match idx, sub with
  | 0x9000, _ => natLE 1 c.lc
  | 0x9001, _ =>
    let s := sub - 1
    wordBytes (c.rd (rATTR0 s)) ++ wordBytes (c.rd (rATTR1 s)) ++ wordBytes (c.slotStat s) ++ natLE 8 (c.keySlot s).seq
  | 0x9020, _ => match c.dopSess x.sid with | some s => s.att | none => []
  | 0x9021, _ => ((List.range 8).flatMap fun i => c.meas i) ++ c.md
  | 0x9030, _ => wordBytes c.vltStatus ++ wordBytes (c.fuseWord 1) ++ (List.range 4).flatMap fun i => wordBytes (c.rd rVLT_CNT i)
  | 0xA000, 1 => natLE 1 c.upd.state
  | 0xA000, 2 => natLE 4 c.upd.toV
  | 0xA000, 3 => natLE 4 c.piecesHeld
  | 0xA000, 4 => natLE 4 c.upd.pieces
  | 0xA000, 5 => natLE 4 c.upd.built
  | 0xA000, 6 => natLE 4 (if 3 ≤ c.upd.state && c.upd.state ≤ 6 then c.nchunk else 0)
  | 0xA000, 7 => natLE 1 c.cfg.trials
  | 0xA000, _ => natLE 1 c.upd.err
  | 0xA010, _ => c.upd.cid ++ List.replicate (32 - c.upd.cid.length) 0 ++ natLE 4 c.upd.clen ++ natLE 4 c.upd.fromV ++ natLE 4 c.upd.toV
  | 0xA011, _ => c.upd.last ++ List.replicate (8 - c.upd.last.length) 0
  | 0xA012, _ => c.flashBytes (jrBase c.upd.half) 1024
  | 0xA013, _ => match c.upd.arm with | some a => a.bytes | none => List.replicate 28 0
  | 0xA014, _ => natLE 1 c.upd.cmd
  | 0xA020, _ => natLE 4 c.cfg.vfloor
  | 0xA030, _ => let b := c.cfg.bytes; b ++ natLE 4 (crc32c b).toNat
  | 0xB000, _ => (List.range 256).flatMap fun i => c.bytes (errEntry (c.rd rERR_SEQ - 256 + BitVec.ofNat 32 i).toNat) 16
  | 0xB030, 2 => encNum tS16 ((c.rf rTEMP 0 0 7 0 : Nat) - 40)
  | 0xB030, _ => encNum tU8 ((c.rf rTEMP 0 0 23 16 : Nat) - 40)
  | _, _ => []

/-- Network, streams, pixel tables, the proof log and the dumps. -/
def Chip.getNet (c : Chip) (r : ObjRow) (sub : Nat) : Chip × Option (List Byte) :=
  let i := sub - 1
  match r.idx with
  | 0x4040 => c.fwWords (offsFrom (rCUE_MLO.base + 16 * i) 3)
  | 0x4041 => c.fwField rURG_GAP.base 15 0 tU16
  | 0x5020 =>
    let (c, l) := c.fwWords (offsFrom (rPIX_ZONE.base + 0x400 * i) 256)
    (c, l.map fun l => (List.range 256).map fun z => l.getD (4 * z) 0)
  | 0x8101 => c.fwField rTRL_CTRL.base 0 0 tBOOL
  | 0x5006 => c.latestProof
  | 0xB100 =>
    if sub = 3 then
      let (c, a) := c.dumpSummary 0
      let (c, b) := c.dumpSummary 1
      (c, some (a ++ b))
    else
      let (c, l) := c.dumpBytes (sub - 1)
      (c, some l)
  | _ => (c, some (c.objHeld r sub))

/-- The word of PORT_CTRL `w` with MODE and PSHARE as they are in effect on port `p` (R264). -/
def Chip.ctrlNow (c : Chip) (p : Nat) (w : Word) : Word := setFld (setFld w 1 0 (c.modeNow p)) 26 20 (c.port p).pshare

/-- The ring pairs of bank `k` in effect (R277). -/
def Chip.ringsNow (c : Chip) (k : Nat) : Nat :=
  (List.range 4).foldl (fun n j => n + b2n (c.port (8 * k + 2 * j)).ringNow * 2 ^ j) 0

/-- Port settings in effect: 0x6000, 0x6001, 0x6002, whose registers may already hold what waits for a commit point (R264, R432,
R437). -/
def Chip.portNow (c : Chip) (r : ObjRow) (i : Nat) (v : List Byte) : List Byte :=
  match r.idx with
  | 0x6000 => natLE 1 (c.modeNow i)
  | 0x6001 => wordBytes (c.ctrlNow i (leWordAt v 0)) ++ v.drop 4
  | 0x6002 => natLE 1 (c.ringsNow i)
  | _ => v

/-- The value of subindex `sub` of row `r` as request `x` reads it; none where its hardware does not answer. -/
def Chip.objGet (c : Chip) (x : DopCtx) (r : ObjRow) (sub : Nat) : Chip × Option (List Byte) :=
  let i := sub - r.lo
  if emptyDflt r.idx && (c.heldAt r.idx sub).isNone then (c, some []) else
  match r.bind with
  | .held => (c, some (c.objHeld r sub))
  | .fld a st hi lo =>
    let (c, v) := c.fwField (a + st * i) hi lo r.ty
    (c, v.map (c.portNow r i))
  | .sh a st hi lo => c.fwField (a + 0x100 + st * i) hi lo r.ty
  | .nib a w => c.fwField a (w * i + w - 1) (w * i) r.ty
  | .u64 a => c.fwWords [a, a + 4]
  | .words a st offs =>
    let (c, v) := c.fwWords (offs.map fun o => a + st * i + o)
    (c, v.map (c.portNow r i))
  | .calc =>
    if r.idx < 0x3000 then (c, some (c.getComm x r.idx sub))
    else if [0x6005, 0x6405, 0x7001, 0x7002, 0x7003, 0x7004, 0x7101, 0x7102, 0x7E00, 0x7E03].any (fun k => k = r.idx) then
      let (c, l) := c.getDrive r.idx sub
      (c, some l)
    else if r.idx < 0x9000 || r.idx = 0xB100 then c.getNet r sub
    else (c, some (c.getSys x r.idx sub))

end Sys2Proof.Machine
end

