-- ==== Sys2Proof/Machine/ObjWrite.lean ====
section
/-! DEFINITION. What an accepted write of each object does (spec/14 R432..R439 and the object tables). -/

namespace Sys2Proof.Machine

/-! ## Statuses and firmware's writes -/

/-- Status codes of R430 beside those of Machine/Update.lean. -/
def stLimited : Nat := 0x01
/-- The mark of a group piece that is ignored (R515): no status of R430, and never sent. -/
def stIgnored : Nat := 0x100
def stPartial : Nat := 0x02
def stNoObject : Nat := 0x10
def stNoSub : Nat := 0x11
def stAccess : Nat := 0x12
def stLevel : Nat := 0x13
def stType : Nat := 0x14
def stNotActive : Nat := 0x17
def stLifecycle : Nat := 0x18
def stFeature : Nat := 0x19
def stStore : Nat := 0x1A

/-- Firmware writes the word `v` at `addr`; the flag tells that the bus took it. -/
def Chip.fwPut (c : Chip) (addr : Nat) (v : Word) : Chip × Bool :=
  let r := c.rsp
  let c := c.busWrite fwAccess (BitVec.ofNat 32 addr) v
  ({ c with rsp := r }, !c.rsp.err)

/-- OK, or BUSY where the hardware refused. -/
def okBusy (r : Chip × Bool) : Chip × Nat := (r.1, if r.2 then stOk else stBusy)

/-- The bits of the register at `addr` that a write sets. -/
def rwBits (addr : Nat) : Word := match regAt addr with | some (r, _, _) => BitVec.ofNat 32 r.rw | none => 0xFFFFFFFF

/-- Field [hi:lo] of the register at `addr` set to `n`, its other RW fields kept. -/
def Chip.fwSet (c : Chip) (addr hi lo n : Nat) : Chip × Bool :=
  match c.fwRead addr with
  | (c, none) => (c, false)
  | (c, some w) => c.fwPut addr (setFld w hi lo n &&& rwBits addr)

/-- Words written one after another, up to the first that the bus refuses; the flag tells that it took all. -/
def Chip.fwRun (c : Chip) : List (Nat × Word) → Chip × Bool
  | [] => (c, true)
  | (a, w) :: t => match c.fwPut a w with
    | (c, true) => c.fwRun t
    | (c, false) => (c, false)

/-- Words that make one value, written where the bus takes all of them; where it refuses one, that write alone has been made, so
that the item changes nothing (R427). -/
def Chip.fwPuts (c : Chip) (l : List (Nat × Word)) : Chip × Bool :=
  match c.fwRun l with
  | (c, true) => (c, true)
  | (_, false) => match l.find? fun x => !(c.fwPut x.1 x.2).2 with
    | some x => ((c.fwPut x.1 x.2).1, false)
    | none => (c, false)

/-- The words of a BLOB written at `addrs`, the first one, which enables, last. -/
def Chip.fwBlob (c : Chip) (addrs : List Nat) (v : List Byte) : Chip × Bool :=
  let l := (List.range addrs.length).map fun i => (addrs.getD i 0, leWordAt v (4 * i))
  c.fwPuts (l.drop 1 ++ l.take 1)

/-- Values firmware holds. -/
def Chip.holdObj (c : Chip) (idx sub : Nat) (v : List Byte) : Chip := { c with objs := mset none c.objs (objKey idx sub) (some v) }

/-- OK, and the value held; or BUSY where the hardware refused, nothing held (R427). -/
def holdOk (idx sub : Nat) (v : List Byte) (r : Chip × Bool) : Chip × Nat :=
  if r.2 then (r.1.holdObj idx sub v, stOk) else (r.1, stBusy)

/-- Both derate bases of port `p` (R336). -/
def Chip.basePut (c : Chip) (p n : Nat) : Chip × Bool :=
  c.fwPuts [(rDERBASE.addr p 0, BitVec.ofNat 32 n), (rNBASE.addr p 0, BitVec.ofNat 32 n)]

/-! ## Commits (R190, R197, R437) -/

/-- GO written, with MODE and GRID; those of a GO still pending are kept. -/
def Chip.fwGo (c : Chip) (mode grid : Bool) : Chip :=
  let old := c.rd rRAS_COMMIT
  let m := mode || (bit old 31 && bit old 30)
  let g := grid || (bit old 31 && bit old 29)
  c.fwWrite rRAS_COMMIT.base (BitVec.ofNat 32 (2 ^ 31 + b2n m * 2 ^ 30 + b2n g * 2 ^ 29))

/-- The raster engine is stopped. -/
def Chip.rasStopped (c : Chip) : Bool := !c.rb rRAS_CTRL 0 0 0

/-- APPLY for a grid change, once the engine holds or is stopped (R197). -/
def Chip.gridCheck (c : Chip) : Chip :=
  if c.dop.gridApply && (c.ras.hold.isSome || c.rasStopped) then
    (c.setDop { c.dop with gridApply := false }).fwWrite rGRID_CTRL.base 1
  else c

/-- The word of PORT_CTRL `w` with MODE and PSHARE as the register of port `p` holds them. -/
def Chip.ctrlKept (c : Chip) (p : Nat) (w : Word) : Word :=
  setFld (setFld w 1 0 (c.rf rPORT_CTRL p 0 1 0)) 26 20 (c.rf rPORT_CTRL p 0 26 20)

/-- MODE and PSHARE of a value of 0x6001 written: the hardware keeps them for the commit point (R264). -/
def Chip.ctrlPut (c : Chip) (p : Nat) (w : Word) : Chip × Bool :=
  match c.fwRead (rPORT_CTRL.addr p 0) with
  | (c, none) => (c, false)
  | (c, some x) => c.fwPut (rPORT_CTRL.addr p 0) (setFld (setFld x 1 0 (fld w 1 0)) 26 20 (fld w 26 20) &&& rwBits (rPORT_CTRL.addr p 0))

/-- The registers of an RWC object without a hardware shadow written. -/
def Chip.rwcPut (c : Chip) (key : Nat) (v : List Byte) : Chip :=
  let idx := key / 256
  let i := key % 256 - 1
  let v := if idx = 0x6001 then wordBytes (c.ctrlKept i (leWordAt v 0)) ++ v.drop 4 else v
  match objRow idx (key % 256) with
  | some { bind := .words a st offs, .. } => (c.fwBlob (offs.map fun o => a + st * i + o) v).1.holdObj idx (key % 256) v
  | some _ => ((c.fwPut (rCMP_NS.base + 0x40) (wordOf (decNum tS32 v))).1.fwSet (rCMP_CTRL.base + 0x40) 0 0 1).1
  | none => c

/-- The waiting RWC values written, once RAS_EPOCH shows that their commit has been applied. -/
def Chip.rwcFlush (c : Chip) : Chip :=
  if c.dop.rwc.isEmpty || c.rd rRAS_EPOCH = c.dop.rwcEpoch then c
  else
    let l := c.dop.rwc
    (c.setDop { c.dop with rwc := [] }).each l fun c x => c.rwcPut x.1 x.2

/-- An RWC value kept for the commit point, and GO. -/
def Chip.rwcAdd (c : Chip) (key : Nat) (v : List Byte) : Chip :=
  let c := c.rwcFlush
  let c := c.setDop { c.dop with rwc := c.dop.rwc.filter (fun x => x.1 ≠ key) ++ [(key, v)], rwcEpoch := c.rd rRAS_EPOCH }
  (c.fwGo false false).rwcFlush

/-- A raster shadow set; the frame period goes to TIME too (R197, R207). -/
def Chip.shPut (c : Chip) (r : ObjRow) (addr hi lo : Nat) (n : Nat) : Chip × Bool :=
  let (c, ok) := if r.idx = 0x5003 then c.fwPut (rPRS_FORCE.base + (addr - rSH_FORCE.base)) (BitVec.ofNat 32 n) else (c, true)
  if !ok then (c, false) else
  let (c, ok) := c.fwSet addr hi lo n
  if !ok then (c, false) else
  let period := r.idx = 0x5000 && r.hi ≤ 2
  let c := if period then (c.fwWrite (if r.hi = 1 then rGRID_NUM.base else rGRID_DEN.base) (BitVec.ofNat 32 n)).setDop { c.dop with gridApply := true } else c
  let mode := r.idx = 0x5000 && r.hi ≠ 4
  ((c.fwGo mode period).gridCheck, true)

/-! ## The Vault (R489, R497, R498) -/

/-- An operation of HC0's window: ARG words and BUF filled, CMD written; its RESULT, STORE where it cannot be carried out
under the warning, and 7 where a life-cycle change keeps the Vault busy: firmware then writes nothing and answers BUSY (DESIGN
CHOICE, log entry 234). -/
def Chip.fwVlt (c : Chip) (op s d : Nat) (args : List Nat) (buf : List Byte) : Chip × Nat :=
  if c.vlt.lcTarget.isSome then (c, 7) else
  let c := c.each (List.range args.length) fun c i => c.wr rVLT_ARG 0 i (BitVec.ofNat 32 (args.getD i 0))
  let c := (c.setVltBuf 0 buf).vltCmd fwAccess 0 (BitVec.ofNat 32 (op * 2 ^ 28 + s * 2 ^ 16 + d * 2 ^ 8))
  (c, if c.rb rVLT_STS 0 0 31 then 4 else c.rf rVLT_STS 0 0 26 24)

/-- A Vault result as a DOP status. -/
def vltStatusOf : Nat → Nat
  | 0 => stOk
  | 1 => stAccess
  | 4 => stStore
  | 6 => stLifecycle
  | 7 => stBusy
  | _ => stRange

/-- A key installed from a request (R497); a cue key is loaded into the parsers. -/
def Chip.installKey (c : Chip) (x : DopCtx) (s : Nat) (v : List Byte) : Chip × Nat :=
  match (c.dopSess x.sid).bind (·.entry) with
  | none => (c, stRange)
  | some e =>
    let (c, n) := c.fwVlt 10 s 0 [e] v
    if n ≠ 0 || s < 4 then (c, vltStatusOf n)
    else
      let (c, n) := c.fwVlt 9 s 0 [s - 4] []
      (c, vltStatusOf n)

/-- The commissioning record stored from the registers (R341, R494). -/
def commArea : Nat := 0x0103C000
def Chip.commStore (c : Chip) : Chip × Nat :=
  let n := c.drv.nodes.foldl (fun m x => if x.2.codeMax ≠ 0 then max m (x.1 + 1) else m) 0
  let b := natLE 1 (c.rd rCOMM_KNEE).toNat ++ natLE 1 (c.rd rCOMM_TRIP).toNat ++ natLE 2 (c.rd rCOMM_FLOOR).toNat ++ natLE 2 n ++ [0, 0]
    ++ (List.range n).map fun i => BitVec.ofNat 8 (c.node i).codeMax
  let (c, r) := (c.setBytes commArea b).fwVlt 15 0 0 [commArea, 8 + n] []
  (c, vltStatusOf r)

/-- An attestation kept for its session (R490). -/
def Chip.attestFor (c : Chip) (x : DopCtx) (v : List Byte) : Chip × Nat :=
  let (c, n) := c.fwVlt 6 x.level 0 [] v
  if n ≠ 0 then (c, vltStatusOf n) else
  let b := c.vltBuf 0 125
  let a := b.take 93 ++ [BitVec.ofNat 8 x.level] ++ b.drop 93
  (c.setDop { c.dop with sess := c.dop.sess.map fun s => if s.sid = x.sid then { s with att := a } else s }, stOk)

/-- A life-cycle request (R479, R500): firmware locks commissioning before it asks for DEPLOYED (R341). -/
def Chip.lcAsk (c : Chip) (target : Nat) : Chip × Nat :=
  let c := if target = 2 && c.lc = 1 then c.fwWrite rCOMM_CTRL.base 1 else c
  let c := c.fwWrite rVLT_STATUS.base 0x4
  let c := c.fwWrite rLC_REQ.base (BitVec.ofNat 32 (0x4C4354 * 256 + target))
  (c, if c.rb rVLT_STATUS 0 0 2 then stLifecycle else stOk)

/-- The level object 0x9000 sub 2 asks for (R479); none where the target is not offered. -/
def Chip.lcLevel (c : Chip) (target : Nat) : Option Nat :=
  match target with
  | 2 => some 2
  | 3 => some 3
  | 4 => some (if c.lc = 3 then 3 else 2)
  | _ => none

/-! ## Objects of their own -/

/-- The line mode and the steering of a MAC take effect at the disable and enable that follow at once (R108). -/
def Chip.macSet (c : Chip) (p : Nat) (f : Word → Word) : Chip × Bool :=
  let a := rMAC_CTRL.base + 0x10000 * p
  match c.fwRead a with
  | (c, none) => (c, false)
  | (c, some w) =>
    let w := f w &&& rwBits a
    if !bit w 0 then c.fwPut a w else
    let c := c.fwWrite a (setBit w 0 false)
    c.fwPut a w

/-- MAC_CTRL.RATE and FEC of a line mode (R108). -/
def modeBits (m : Nat) (w : Word) : Word := setFld (setBit w 1 (m = 2)) 7 6 (if m = 1 then 1 else 0)

/-- Transfer table `t` filled from curve `v`, or from the custom table held (R215, R229). -/
def Chip.curveSet (c : Chip) (t v : Nat) (custom : List Byte) : Chip × Nat :=
  if v = 255 then
    if custom.isEmpty then (c, if c.lutActive t then stBusy else stOk) else okBusy (c.fwPuts ((List.range 1025).map fun i => (rPIX_LUT.base + 0x1400 * t + 4 * i, leWordAt custom (4 * i))))
  else if c.rb rLUT_FILL 0 0 31 then (c, stBusy)
  else
    let c := c.fwWrite rPIX_STATUS.base 0x2
    let c := c.fwWrite rLUT_FILL.base (BitVec.ofNat 32 (2 ^ 31 + v * 16 + t))
    (c, if c.rb rPIX_STATUS 0 0 1 then stBusy else stOk)

/-- A calibration conversion started (R220). -/
def Chip.cvtStart (c : Chip) (v : List Byte) : Chip × Nat :=
  let n := leWordAt v 12
  let c := c.fwWrite rPIX_STATUS.base 0x8
  let c := ((c.fwWrite rCVT_SRC.base (leWordAt v 0)).fwWrite rCVT_TILE.base (leWordAt v 4)).fwWrite rCVT_IDX.base (leWordAt v 8)
  let c := (c.fwWrite rCVT_CNT.base (setBit n 31 false)).fwWrite rCVT_CTRL.base (BitVec.ofNat 32 (2 ^ 31 + b2n (bit n 31)))
  (c, if c.rb rPIX_STATUS 0 0 3 then stBusy else stOk)

/-- An RDM request (R287, R292): byte 0 flags, then the message. -/
def Chip.rdmStart (c : Chip) (p : Nat) (v : List Byte) : Chip × Nat :=
  let m := v.drop 1
  if m.length < 24 || 255 < m.length then (c, stRange)
  else if c.rb rRDM_CTRL p 0 31 then (c, stBusy)
  else
    let (c, ok) := c.fwPuts ((List.range ((m.length + 3) / 4)).map fun j => (rTXBUF.addr p j, leWordAt m (4 * j)))
    if !ok then (c, stBusy) else
    okBusy (c.fwPut (rRDM_CTRL.addr p 0) (BitVec.ofNat 32 (2 ^ 31 + (v.getD 0 0).toNat / 2 % 2 * 2 ^ 30 + (v.getD 0 0).toNat % 2 * 2 ^ 29 + m.length)))

/-- PORT_LDISC written with GO. -/
def Chip.discGo (c : Chip) (p op dir count n : Nat) : Chip × Bool :=
  c.fwPut (rLDISC.addr p 0) (BitVec.ofNat 32 (2 ^ 31 + op * 2 ^ 29 + dir * 2 ^ 28 + count * 2 ^ 16 + n * 2 ^ 12))

/-- The discovery of port `p` as it stands, set. -/
def Chip.setDisc (c : Chip) (p : Nat) (d : Option DiscRun) : Chip := c.setDop { c.dop with disc := mset none c.dop.disc p d }

/-- A discovery begun with ASSIGN, what PORT_LDSTAT still shows of an earlier one cleared (R334). -/
def Chip.discStart (c : Chip) (p dir : Nat) : Chip × Nat :=
  if c.rb rLDISC p 0 31 || (mget none c.dop.disc p).isSome then (c, stBusy) else
  let (c, ok) := (c.fwWrite (rLDSTAT.addr p 0) 0xC0000000).discGo p 0 dir 1 0
  if ok then (c.setDisc p (some { dir := dir, op := 0 }), stOk) else (c, stBusy)

/-- RECW of nodes with at most `n` channels (R323). -/
def recwOf (n : Nat) : Nat := 2 + (n + 15) / 16

/-- The next QUERY page, or CONFIRM with VER and RECW set. -/
def Chip.discNext (c : Chip) (p : Nat) (d : DiscRun) : Chip :=
  if d.first ≤ d.count then
    (c.discGo p 1 d.dir d.first (min 13 (d.count + 1 - d.first))).1.setDisc p (some { d with op := 1 })
  else
    let chans := ((List.range (d.recs.length / 4)).map fun i => fld (d.recs.getD (4 * i) 0) 15 8).foldl max 1
    let c := (c.fwSet (rLCTRL.addr p 0) 10 8 (recwOf chans)).1
    (c.discGo p 2 d.dir 0 0).1.setDisc p (some { d with op := 2 })

/-- The reply of a DISCOVER taken by firmware (R334). -/
def Chip.discReply (c : Chip) (p : Nat) (d : DiscRun) : Chip :=
  let st := c.rd rLDSTAT p
  let c := c.fwWrite (rLDSTAT.addr p 0) 0xC0000000
  if d.op = 0 then
    let ver := if fld st 11 8 = 2 then 2 else 1
    let c := (c.fwSet (rLCTRL.addr p 0) 1 0 ver).1
    c.discNext p { d with count := fld st 27 16 - 1, ver := ver }
  else if d.op = 1 then
    let n := min 13 (d.count + 1 - d.first)
    c.discNext p { d with first := d.first + n, recs := d.recs ++ (List.range (4 * n)).map fun i => c.rd rLDCAP p (3 + i) }
  else
    let c := (c.fwSet (rLCTRL.addr p 0) 27 16 (min 4094 d.count)).1
    let c := if d.dir = 0 then c.fwWrite (rLT0A.addr p 0) (c.rd rLRTT p) else c.fwWrite (rLT0B.addr (if c.paired p then p else p / 2 * 2) 0) (c.rd rLRTT p)
    (c.setDop { c.dop with recs := mset [] c.dop.recs p d.recs }).setDisc p none

/-- The discoveries carried on: one that has its reply goes on, one that had none is given up. -/
def Chip.discPoll (c : Chip) : Chip :=
  c.each (List.range 48) fun c p =>
    match mget none c.dop.disc p with
    | none => c
    | some d =>
      if c.rb rLDSTAT p 0 31 then c.discReply p d
      else if c.rb rLDSTAT p 0 30 then (c.fwWrite (rLDSTAT.addr p 0) 0xC0000000).setDisc p none
      else c

/-- CODE or CODE_MAX of the nodes of port `p` from address 1 on; a node of an index above 8,191 has neither (R336, R339,
R341). -/
def Chip.codesPut (c : Chip) (p : Nat) (max : Bool) (v : List Byte) : Chip :=
  c.each (List.range v.length) fun c i =>
    let n := c.nodeIdx p (i + 1)
    let b := (v.getD i 0).toNat
    if n > 8191 then c else
    let c := c.fwWrite rNODE_SEL.base (BitVec.ofNat 32 n)
    c.fwWrite rNODE_W0.base (if max then BitVec.ofNat 32 (b * 2 ^ 24 + (c.node n).code * 2 ^ 16)
      else BitVec.ofNat 32 ((c.node n).codeMax * 2 ^ 24 + b * 2 ^ 16))

/-- Where firmware keeps kick template `i` in press SRAM. -/
def kickArea (i : Nat) : Nat := 0x40000000 + i * 0x00080000

/-- A template placed where KICK_CTRL.SEL does not point (R244, R261); firmware fills in the two addresses of its header. -/
def Chip.kickPut (c : Chip) (v : List Byte) : Chip × Nat :=
  let i := 1 - c.rf rKICK_CTRL 0 0 0 0
  let a := kickArea i
  let items := leNat (slice v 2 2)
  let cnts := leNat (slice v 0 2) % 8192
  if v.length ≠ 32 + 4 * cnts + 32 * items || items = 0 || items > 8191 || cnts > 4096 then (c, stRange)
  else
    let c := c.setBytes a (v.take 8 ++ natLE 4 (a + 32) ++ natLE 4 (a + 32 + 4 * cnts) ++ v.drop 16)
    okBusy (c.fwPut (rKICK_T.addr i 0) (BitVec.ofNat 32 a))

/-- CMP4 of a master armed for the next whole microsecond at least 10 µs away, and every one from there on (R55, R403). -/
def Chip.armStack (c : Chip) : Chip :=
  let t := (c.now + 10999) / 1000 * 1000 % clockMod
  let c := ((c.fwWrite (rCMP_NS.addr 4 0) (tsWord t 0)).fwWrite (rCMP_SLO.addr 4 0) (tsWord t 1)).fwWrite (rCMP_SHI.addr 4 0) (tsWord t 2)
  (c.fwWrite (rCMP_PER_NS.addr 4 0) 1000).fwWrite (rCMP_CTRL.addr 4 0) (BitVec.ofNat 32 (5 * 2 ^ 15 + 5))

/-- The stacking switch (R412): EN, BUS_EN, and FWD_EN of the master, which drives STK_SYNC then, or TIME_EN of a follower. -/
def Chip.stackSet (c : Chip) (on : Bool) : Chip × Bool :=
  match c.fwRead rTRL_CTRL.base with
  | (c, none) => (c, false)
  | (c, some w) =>
    let (c, ok) := c.fwPut rTRL_CTRL.base (setBit (setBit (setBit w 0 on) 1 on) (if c.pos = 0 then 3 else 2) on &&& rwBits rTRL_CTRL.base)
    (if ok && on && c.pos = 0 then c.armStack else c, ok)

/-- Where firmware keeps the level that is in effect, beside the scheduled one of sub 3, so that a restart before TIME finds it
(R444; DESIGN CHOICE, log entry 117). -/
def dflKey : Nat := 0x1200 * 256 + 1

/-- A change of the domain feature level takes place at its TIME (R444): at a commit point, or while the raster engine is
stopped. -/
def Chip.dflCheck (c : Chip) : Chip :=
  match c.dop.dflNext with
  | some (l, t) => if t ≤ c.now then (c.setDop { c.dop with dfl := l, dflNext := none }).stLater dflKey (natLE 2 l) else c
  | none => c

/-- A write of one of the objects below 0x6000 that have an effect of their own. -/
def Chip.putLow (c : Chip) (idx sub : Nat) (v : List Byte) : Chip × Nat :=
  let n := leNat v
  let i := sub - 1
  match idx with
  | 0x1020 => if n = 0 then (c, stOk) else if c.pwr.pfw then (c.stFailed, stStore) else (c.stRestore, stOk)
  | 0x1200 =>
    let l := leNat (v.take 2)
    let c := (c.holdObj idx sub v).setDop { c.dop with dflNext := some (l, ts80Of (v.drop 2)) }
    (if c.rasStopped then c.dflCheck else c, stOk)
  | 0x2030 =>
    let c := c.fwWrite rGRID_OFS.base (leWordAt v 0)
    let c := c.setDop { c.dop with gridApply := true }
    ((if c.rasStopped then c else c.fwGo true true).gridCheck, stOk)
  | 0x3001 =>
    if i = 2 then (c.holdObj idx sub v, stOk) else holdOk idx sub v (c.macSet i (modeBits n))
  | 0x3020 =>
    let (c, ok) := c.fwPut (rMAC_VLAN.addr i 0) (BitVec.ofNat 32 (if n = 0 then 0 else 0x8000 + n % 4096))
    if ok then holdOk idx sub v (c.macSet i id) else (c, stBusy)
  | 0x4002 => holdOk idx sub v (c.fwPuts ((List.range 4).map fun k => (rCANV_TOUT.addr k 0, BitVec.ofNat 32 n)))
  | 0x4040 => holdOk idx sub v (c.fwPuts ((List.range 3).flatMap fun k => [(rCUE_MLO.base + 16 * i + 4 * k, leWordAt v (4 * k)),
      (rCUE_MLO.base + 0x10000 + 16 * i + 4 * k, leWordAt v (4 * k))]))
  | 0x4041 => okBusy (c.fwPuts [(rURG_GAP.addr 0 0, BitVec.ofNat 32 n), (rURG_GAP.addr 1 0, BitVec.ofNat 32 n)])
  | 0x5010 =>
    let (c, st) := c.curveSet i n ((c.heldAt 0x5011 sub).getD [])
    (if st = stOk then c.holdObj idx sub v else c, st)
  | 0x5011 =>
    let (c, st) := if c.objNat 0x5010 sub 0 = 255 then c.curveSet i 255 v else (c, if c.lutActive i then stBusy else stOk)
    (if st = stOk then c.holdObj idx sub v else c, st)
  | 0x5020 => okBusy (c.fwPuts ((List.range 256).map fun z => (rPIX_ZONE.base + 0x400 * i + 4 * z, (v.getD z 0).setWidth 32)))
  | _ => if idx = 0x5030 then c.cvtStart v else (c, stOk)

/-- The same from 0x6000 to 0x8FFF. -/
def Chip.putMid (c : Chip) (idx sub : Nat) (v : List Byte) : Chip × Nat :=
  let n := leNat v
  let i := sub - 1
  match idx with
  | 0x6004 => c.rdmStart i v
  | 0x6404 => if n > 1 then (c, stRange) else c.discStart i n
  | 0x7001 =>
    let (c, ok) := c.fwPut (if i = 0 then rCOMM_KNEE.base else if i = 1 then rCOMM_FLOOR.base else rCOMM_TRIP.base)
      (BitVec.ofNat 32 (if i = 1 then n else min 255 n))
    if ok then c.commStore else (c, stBusy)
  | 0x7002 => (c.codesPut i false v, stOk)
  | 0x7003 => (c.codesPut i true v).commStore
  | 0x7004 => okBusy (c.fwPut (rPHASE i).base (BitVec.ofNat 32 n))
  | 0x7E01 => c.kickPut v
  | 0x7E03 => (c.setBytes ((c.rd rLIVE_BASE).toNat + 8 * i) v, stOk)
  | 0x8002 =>
    if i = 0 then (if n = 1 then okBusy (c.fwPut rCDR_SWAP.base 0x80000000) else (c, stOk))
    else
      okBusy (c.fwPuts [(rCDR_RELMASK.addr 0 0, leWordAt v 0), (rCDR_RELMASK.addr 1 0, leWordAt v 4), (rCDR_SWAP.base, 0x40000000)])
  | _ => if idx = 0x8101 then okBusy (c.stackSet (n = 1)) else (c, stOk)

/-- The same from 0x9000 on; `none`: the write waits (R516). -/
def Chip.putHigh (c : Chip) (x : DopCtx) (idx sub : Nat) (v : List Byte) : Chip × Option Nat :=
  let n := leNat v
  let s := fun (r : Chip × Nat) => (r.1, some r.2)
  match idx with
  | 0x9000 => s (c.lcAsk n)
  | 0x9010 => s (c.installKey x sub v)
  | 0x9011 => s (c.installKey x (3 + sub) v)
  | 0x9020 => s (c.attestFor x v)
  | 0xA010 => if c.pwr.pfw then (c, some stBusy) else c.announce v
  | 0xA011 => match c.piece v x.port x.group with
    | (c, none) => (c, some stIgnored)
    | (c, st) => (c, st)
  | 0xA013 => if c.pwr.pfw then (c, some stBusy) else s (c.armWrite v)
  | 0xA014 => s (c.updCommand n)
  | 0xA020 =>
    if n < c.cfg.vfloor then (c, some stRange)
    else if n = c.cfg.vfloor then (c, some stOk)
    else if c.pwr.pfw then (c, some stStore)
    else (c.cfgWrite { c.cfg with vfloor := n }, some stOk)
  | 0xB100 => (c.each [0, 1] fun c a => if n / 2 ^ a % 2 = 1 then c.atticPut a 0 [0, 0, 0, 0] else c, some stOk)
  | _ => if idx = 0xB030 then s (okBusy (c.fwSet rTEMP.base 23 16 (n + 40))) else (c, some stOk)

/-- The value `v` of subindex `sub` of row `r` put in force, or on its way to its commit point; its status, none while it
waits. -/
def Chip.objPut (c : Chip) (x : DopCtx) (r : ObjRow) (sub : Nat) (v : List Byte) : Chip × Option Nat :=
  let i := sub - r.lo
  let s := fun (y : Chip × Nat) => (y.1, some y.2)
  let n := leNat v
  if r.acc = .rwc && rwcHeld r.idx then
    let (c, ok) := if r.idx = 0x6001 then c.ctrlPut i (leWordAt v 0) else (c, true)
    s (okBusy (if ok then c.rwcAdd (objKey r.idx sub) v else c, ok))
  else match r.bind with
  | .held => (c.holdObj r.idx sub v, some stOk)
  | .fld a st hi lo =>
    if r.idx = 0x3021 then s (okBusy (c.macSet i fun w => setFld w hi lo n))
    else if r.idx = 0x5021 then s (okBusy (c.basePut i n)) else
    let (c, ok) := c.fwSet (a + st * i) hi lo n
    s (okBusy (if ok && r.acc = .rwc then c.fwGo false false else c, ok))
  | .sh a st hi lo => s (okBusy (c.shPut r (a + st * i) hi lo n))
  | .nib a w =>
    let (d, ok) := if r.idx = 0x5002 then c.fwSet rPRS_FB.base (w * i + w - 1) (w * i) n else (c, true)
    s (okBusy (if ok then d.fwSet a (w * i + w - 1) (w * i) n else (d, false)))
  | .u64 a => s (okBusy (c.fwPuts [(a, leWordAt v 0), (a + 4, leWordAt v 4)]))
  | .words a st offs =>
    let (c, ok) := c.fwBlob (offs.map fun o => a + st * i + o) v
    s (okBusy (if ok && r.acc = .rwc then c.fwGo false false else c, ok))
  | .calc => if r.idx < 0x6000 then s (c.putLow r.idx sub v) else if r.idx < 0x9000 then s (c.putMid r.idx sub v) else c.putHigh x r.idx sub v

/-! ## Checks (R428, R430, R432) -/

/-- Type and length of a value (R428). -/
def ObjRow.typeOk (r : ObjRow) (ty : Nat) (v : List Byte) : Bool :=
  ty = r.ty && match typeBytes r.ty with
    | some n => v.length = n
    | none => match r.size with
      | some n => v.length = n
      | none => r.ty ≠ tSTR || v.length ≤ 255

/-- Whether a value lies in its object's range. DESIGN CHOICE (log entry 172): a string may be any bytes, valid UTF-8 or
not (R3). -/
def Chip.rangeOk (c : Chip) (r : ObjRow) (sub : Nat) (v : List Byte) : Bool :=
  let n := decNum r.ty v
  let num := (typeBytes r.ty).isSome && r.ty ≠ tTIME
  (!num || ((r.ty ≠ tBOOL || n = 0 || n = 1)
    && (match r.least with | some m => m ≤ n | none => true) && (match r.most with | some m => n ≤ m | none => true)
    && (match r.width with | some w => (0 ≤ n || w = 32) && n < (2 ^ w : Nat) | none => true))) &&
  match r.idx with
  | 0x1008 => v.length ≤ 32
  | 0x1012 => n = 0 || n / 65536 = 0xEF4D
  | 0x5010 => n ≤ 4 || n = 255
  | 0x7002 | 0x7003 => v.length ≤ c.portNodes (sub - 1)
  | 0xB100 => sub ≠ 4 || n ≤ 3
  | _ => true

/-- What refuses a write of `v` as type `ty` by request `x`, in the order of R430's codes; `none`: it may be applied. -/
def Chip.objCheck (c : Chip) (x : DopCtx) (idx sub ty : Nat) (v : List Byte) : Except Nat ObjRow :=
  if objRows idx = [] then .error stNoObject
  else if objCounted idx && sub = 0 then .error stAccess
  else match objRow idx sub with
  | none => .error stNoSub
  | some r =>
    if r.acc = .ro then .error stAccess
    else if x.level < r.wl then .error stLevel
    else if (idx = 0x7001 || idx = 0x7003) && c.lc ≠ 1 then .error stLifecycle
    else if !r.typeOk ty v then .error stType
    else if !c.rangeOk r sub v then .error stRange
    else if idx = 0x1200 && leNat (v.take 2) > c.dflMax then .error stFeature
    else if idx = 0x9000 then
      match c.lcLevel (leNat v) with
      | none => .error stRange
      | some l => if x.level < l then .error stLevel else .ok r
    else .ok r

/-- A unit of a pair that is not ACTIVE refuses the write (R439). -/
def Chip.standbyRefuses (c : Chip) (r : ObjRow) : Bool :=
  c.pairState ≠ 0 && c.pairState ≠ 4 && (mirrored r.idx || (r.acc = .wo && r.idx / 256 ≠ 0x80))

/-! ## Applying and mirroring (R386, R434, R437, R439) -/

/-- A value put in force and, with P, stored: at once with SYNC, else later. -/
def Chip.objApply (c : Chip) (x : DopCtx) (r : ObjRow) (sub : Nat) (v : List Byte) (sync : Bool) : Chip × Option Nat :=
  let before := c.rd rDRV_CNT 0
  let (c, st) := c.objPut x r sub v
  if st ≠ some stOk then (c, st) else
  let st := if c.rd rDRV_CNT 0 = before then stOk else stLimited
  if !r.p then (c, some st)
  else if !sync then (c.stLater (objKey r.idx sub) v, some st)
  else
    let (c, ok) := (c.setDop { c.dop with dirty := c.dop.dirty.filter fun y => y.1 ≠ objKey r.idx sub }).stWrite r.idx sub r.ty v
    (c, some (if ok then st else stStore))

/-- The words of a POLICY record (R386). -/
def policyRec (m : Mirror) : List Word :=
  BitVec.ofNat 32 (m.idx * 65536 + m.sub * 256) :: m.k :: BitVec.ofNat 32 m.val.length ::
    (List.range ((m.val.length + 3) / 4)).map fun i => leWordAt m.val (4 * i)

/-- k′: the first commit point that R386 allows, two frames after the frame of the next cask; 0 while the raster engine is
stopped. -/
def Chip.policyFrame (c : Chip) : BitVec 32 :=
  if c.rasStopped then 0 else
  match c.drv.evalK with
  | some k => wordOf (k + 3)
  | none => BitVec.ofNat 32 (c.ras.k + 3)

/-- A mirrored write of the active unit: its POLICY record written, and the value kept for P(k′). -/
def Chip.policyAdd (c : Chip) (idx sub : Nat) (v : List Byte) : Chip × Nat :=
  let m : Mirror := { k := c.policyFrame, idx := idx, sub := sub, val := v }
  let l := policyRec m
  let o := (c.rd rPOL_LEN).toNat
  if o + l.length > 0x3FFF then (c, stBusy) else
  let (c, ok) := c.fwPuts ((List.range l.length).map fun i => ((c.rd rPOL_BASE).toNat + 4 * (o + i), l.getD i 0))
  if !ok then (c, stBusy)
  else ((c.fwWrite rPOL_LEN.base (BitVec.ofNat 32 (o + l.length))).setDop { c.dop with mirror := c.dop.mirror ++ [m] }, stOk)

/-- The mirrored values whose time has come, in order: an RW value at P(k′) or later, an RWC value one commit point before,
so that its GO makes P(k′). `k` is the frame whose commit point has passed; none: all that are immediate. Between two commit
points (`late`) an RW value that came after its P(k′) goes on waiting for the next. -/
def Chip.mirrorDue (c : Chip) (k : Option (BitVec 32)) (late : Bool := false) : Chip :=
  let due := fun (m : Mirror) => match objRow m.idx m.sub, k with
    | some r, some k => m.k = 0 || (if r.acc = .rwc then seqOld m.k (k + 1) else !late && seqOld m.k k)
    | _, _ => m.k = 0
  let now := c.dop.mirror.filter due
  let c := c.setDop { c.dop with mirror := c.dop.mirror.filter fun m => !due m }
  c.each now fun c m => match objRow m.idx m.sub with
    | some r => (c.objApply {} r m.sub m.val false).1
    | none => c

/-- The records in a standby's POLICY words. -/
def policyParse : Nat → List Word → List Mirror
  | 0, _ => []
  | _, [] => []
  | f + 1, h :: t =>
    let n := (t.getD 1 0).toNat
    let w := (n + 3) / 4
    { k := t.getD 0 0, idx := fld h 31 16, sub := fld h 15 8, val := ((t.drop 2).take w).flatMap wordBytes |>.take n } :: policyParse f (t.drop (2 + w))

/-- The POLICY records that casks have brought taken by firmware (R386). -/
def Chip.policyTake (c : Chip) : Chip :=
  let l := c.cdr.policy.flatMap fun r => policyParse r.length r
  (c.setCdr { c.cdr with policy := [] }).setDop { c.dop with mirror := c.dop.mirror ++ l }

/-- One write of a request, checked and applied: its status, none while it waits. A mirrored write is answered when its record
has been written (R439), LIMITED where the limits of that moment would act on it (R27, R430), and with SYNC once it is stored. -/
def Chip.objSet (c : Chip) (x : DopCtx) (idx sub ty : Nat) (v : List Byte) (sync : Bool) : Chip × Option Nat :=
  match c.objCheck x idx sub ty v with
  | .error st => (c, some st)
  | .ok r =>
    if c.standbyRefuses r then (c, some stNotActive)
    else if c.pairState = 4 && mirrored idx && r.acc ≠ .wo then
      let limited := (c.objApply x { r with p := false } sub v false).2 = some stLimited
      let (c, st) := c.policyAdd idx sub v
      if st ≠ stOk then (c, some st) else
      let (c, ok) := if r.p && sync then c.stWrite idx sub r.ty v else (c, true)
      (c.mirrorDue none, some (if !ok then stStore else if limited then stLimited else stOk))
    else c.objApply x r sub v sync

/-- The frame of the last commit point: by the frames sent, or, while the raster engine is stopped, by the grid (R61). -/
def Chip.lastCommit (c : Chip) : BitVec 32 :=
  if c.rasStopped then
    let n := gridK c.time.grid c.now
    BitVec.ofInt 32 (if gridF c.time.grid n + (c.rd rSH_TW 0 1).toNat ≤ c.now then n else n - 1)
  else BitVec.ofNat 32 c.ras.k - (if c.ras.inFrame then 1 else 0)

/-- One read of a request: its status and value (R432, R433). -/
def Chip.objRead (c : Chip) (x : DopCtx) (idx sub : Nat) : Chip × Nat × Nat × List Byte :=
  if objRows idx = [] then (c, stNoObject, 0xFF, [])
  else if objCounted idx && sub = 0 then
    if x.level < objLevel0 idx then (c, stLevel, tU8, []) else (c, stOk, tU8, natLE 1 (objHighest idx))
  else match objRow idx sub with
  | none => (c, stNoSub, 0xFF, [])
  | some r =>
    if r.acc = .wo then (c, stAccess, r.ty, [])
    else if x.level < r.rl then (c, stLevel, r.ty, [])
    else match c.objGet x r sub with
      | (c, some v) => (c, stOk, r.ty, v)
      | (c, none) => (c, stBusy, r.ty, [])

/-! ## Firmware's start (R341, R379, R434) -/

/-- The value a P object starts with: its newest stored one, or its default; `none` where it has neither (an empty BLOB). -/
def startValue (l : List StRec) (r : ObjRow) (sub : Nat) : Option (List Byte) :=
  match l.find? fun x => x.idx = r.idx && x.sub = sub with
  | some x => some x.val
  | none => if r.ty = tBLOB || r.ty = tSTR then none
      else some (encNum r.ty (if r.idx = 0x7004 then ((rPHASE (sub - 1)).reset : Nat) else r.dflt))

/-- Transfer table `t` filled at start. -/
def Chip.startLut (c : Chip) (t : Nat) (f : Nat → Word) : Chip :=
  c.each (List.range 1025) fun c i => c.wr rPIX_LUT t i (f i &&& 0x1FFFFF)

/-- One written object at start: its value put in force where it is not so already. DESIGN CHOICE (log entry 193): the
transfer and zone tables start with their values in the active banks too, which firmware reaches by commits of RAS_SH_SEL
while the raster engine is stopped. -/
def Chip.startObj (c : Chip) (l : List StRec) (r : ObjRow) (sub : Nat) : Chip :=
  match startValue (if r.p then l else []) r sub with
  | none => c
  | some v =>
    match r.idx with
    | 0x5010 =>
      let c := c.holdObj r.idx sub v
      if leNat v ≤ 4 then c.startLut (sub - 1) fun i => BitVec.ofNat 32 (curveEntry (leNat v) i) else c
    | 0x5011 =>
      let c := c.holdObj r.idx sub v
      if c.objNat 0x5010 sub 0 = 255 then c.startLut (sub - 1) fun i => leWordAt v (4 * i) else c
    | 0x5020 => c.each (List.range 256) fun c z => c.wr rPIX_ZONE (sub - 1) z ((v.getD z 0).setWidth 32 &&& 3)
    | 0x1200 => ((c.holdObj r.idx sub v).setDop { c.dop with dflNext := some (leNat (v.take 2), ts80Of (v.drop 2)) }).dflCheck
    | _ => if (c.objGet {} r sub).2 = some v then c else (c.objPut {} r sub v).1

/-- The level in effect at the last stop, from the store (R444). -/
def Chip.startLevel (c : Chip) (l : List StRec) : Chip :=
  c.setDop { c.dop with dfl := (match l.find? fun x => objKey x.idx x.sub = dflKey with | some x => leNat x.val | none => 1), dflNext := none }

/-- Objects that start leaves alone: those the Vault and the boot configuration hold, and the live values, which are cleared as
one. -/
def startSkips (r : ObjRow) : Bool := r.acc = .ro || r.acc = .wo && r.idx ≠ 0x7E01 || [0x7001, 0x7003, 0x7E03, 0xA010, 0xA011, 0xA013, 0xA014].any fun i => i = r.idx
  || (r.idx = 0xA020 && r.lo = 4)

/-- Every written object at its value of start; the stored epoch before pairing is enabled (R379). -/
def Chip.startObjs (c : Chip) : Chip :=
  let l := stLive (c.stRecs c.dop.half).1
  let ep := match l.find? fun x => x.idx = 0x8004 with | some x => leNat x.val | none => 0
  let c := (c.holdObj 0x8004 0 (natLE 2 ep)).fwWrite rCDR_EPOCH.base (BitVec.ofNat 32 ep)
  let c := c.startLevel l
  let c := c.clearBytes (c.rd rLIVE_BASE).toNat 32768
  let rows := dict.filter fun r => !startSkips r
  let last := fun (r : ObjRow) => r.idx = 0x8001 && r.lo = 1
  c.each (rows.filter (fun r => !last r) ++ rows.filter last) fun c r =>
    c.each (List.range (r.hi + 1 - r.lo)) fun c i => c.startObj l r (r.lo + i)

end Sys2Proof.Machine
end

