-- ==== Sys2Proof/Machine/Boot.lean ====
section
/-! DEFINITION. From reset to the firmware: the boot ROM's start, the slot choice, the start of an image, the secure monitor
and the firmware's own start (spec/17 R508..R511, R520, R525; spec/18 R541, R542). -/

namespace Sys2Proof.Machine

/-! ## The ROM's start (R508, R530) -/

/-- The first 30 ms: the watchdog armed, the Cellar trained and enabled, the MACs' start values, an abandoned erase
logged. How a training after power-on ends is a free value (R171, log entry 191); after a warm reset the retained training
serves (R160). -/
def Chip.romStart (c : Chip) : Chip :=
  let c := (c.wr rWDOG_CTRL 0 0 0xC00007D0).celTrain (c.rb rCEL_STATUS 0 0 1 || Config.trains c.cyc)
  let c := c.each [0, 1, 2] fun c p => (c.wb rMAC_CTRL p 0 9 false).wb rMAC_CTRL p 0 10 true
  let c := if c.boot.abandoned then (c.setBoot { c.boot with abandoned := false }).log 0x0C 0x0B else c
  c.setBoot { c.boot with hc0 := .rom }

/-- BOOT_ROM_START (R508). -/
def execBootRomStart (s : State) : Host.Outcome State Fault Refusal :=
  run (fun c => c.when (c.alive .sys && c.boot.hc0 = .reset) Chip.romStart) s

/-- The Porch entered (R542): case 0 strap, 1 break, 2 a dump's PORCH flag, 3 no image. -/
def Chip.enterPorch (c : Chip) (case : Nat) : Chip :=
  (c.setBoot { c.boot with hc0 := .porch, load := none }).log 0x42 0xF8 (Config.porchCase case)

/-! ## Starting an image (R510, R511) -/

/-- Where the ROM copies a slot to. -/
def imageCopy : Nat := 0x97000000

/-- HC0 stores bytes in a memory; the bus's last answer stays. -/
def Chip.hcStore (c : Chip) (a : Nat) (l : List Byte) : Chip :=
  let r := c.rsp
  { c.memWrite fwAccess a l with rsp := r }

/-- Measurements, vintage, running slot and sub-image 1 of the image `l` copied, for slot `slot` (R510). -/
def Chip.imageStart (c : Chip) (l : List Byte) (slot : Nat) : Chip :=
  let c := c.extend 0 (sha384 (slice l 0 1024))
  let c := c.each [1, 2, 3, 4, 5] fun c k => match imgKind l k with | some e => c.extend k e.dig | none => c
  let c := c.fwWrite rVINTAGE.base (BitVec.ofNat 32 (imgVint l))
  let c := if slot ≤ 1 then c.fwWrite rRUNSLOT.base (BitVec.ofNat 32 slot) else c
  let c := c.setBoot { c.boot with vint := imgVint l, len := imgLen l, dfl := imgNat l 16 2 }
  match imgKind l 1 with
  | some e => c.hcStore e.load (e.of l)
  | none => c

/-- The newest commissioning record loaded, and LOCK outside PROVISIONED (R341, R494). -/
def Chip.commLoad (c : Chip) : Chip :=
  let c := match c.commRecord with
    | none => c.log 0x0B 0x45
    | some b =>
      let w := fun (o n : Nat) => BitVec.ofNat 32 (leNat (slice b o n))
      let c := ((c.fwWrite rCOMM_KNEE.base (w 24 1)).fwWrite rCOMM_TRIP.base (w 25 1)).fwWrite rCOMM_FLOOR.base (w 26 2)
      c.each (List.range (leNat (slice b 28 2))) fun c i => c.setNode i { c.node i with codeMax := (b.getD (32 + i) 0).toNat }
  if c.lc = 1 then c else c.fwWrite rCOMM_CTRL.base 1

/-- Sub-image `k` where it belongs, and its processor or engine released (R10, R511). -/
def Chip.subLoad (c : Chip) (k load : Nat) (l : List Byte) : Chip :=
  match k with
  | 3 => let c := c.hcStore 0x010E0000 l; c.setBoot { c.boot with ncRun := true }
  | 2 => let c := c.hcStore load l; c.setBoot { c.boot with hc1Run := true }
  | 4 => (c.each (List.range 16) fun c i => c.setBytes (localKey (BitVec.ofNat 4 i).toFin (load % 0x20000)) l).fwWrite rPRS_RUN.base 0xFFFF
  | _ => (c.each (List.range (min 1024 ((l.length + 3) / 4))) fun c i => c.fwWrite (rUCODE.base + 4 * i) (leWordAt l (4 * i))).fwWrite rPAT_RUN.base 1

/-- Sub-images `ks` in order; the flag tells that all passed their check: one that fails is logged and stops the start. -/
def Chip.subLoads (c : Chip) (l : List Byte) : List Nat → Chip × Bool
  | [] => (c, true)
  | k :: t => match imgKind l k with
    | none => c.subLoads l t
    | some e => if e.ok l then (c.subLoad k e.load (e.of l)).subLoads l t else (c.log 0x0C 0x04, false)

/-- The secure monitor (R511); the flag tells that the firmware starts. -/
def Chip.monitor (c : Chip) (l : List Byte) : Chip × Bool :=
  let c := c.vaultScan.commLoad.vltCtrl 1
  let (c, ok) := c.subLoads l [3, 2, 4, 5]
  if ok then (c.setBoot { c.boot with hc0 := .monitor }, true) else (c.errFlush.warmReset 4, false)

/-! ## The journal at start (R520, R521, R525) -/

/-- Record `k` of half `h` where it is valid. -/
def Chip.jrRead (c : Chip) (h k : Nat) : Option (List Byte) :=
  let r := c.flashBytes (jrAt h k) 64
  if c.sectorsOk (jrBase h) 0x10000 && leNat (r.take 4) = jrMagic && leNat (slice r 60 4) = (crc32c (slice r 4 56)).toNat then some r else none

/-- The state a journal record, with the second of an arm, stands for. -/
def jrState (r second : List Byte) : UpdSt :=
  let v := slice r 52 8 ++ slice second 8 20
  let st := leNat (slice r 8 1)
  { state := st, err := leNat (slice r 9 1), built := leNat (slice r 12 4), toV := leNat (slice r 16 4), cid := if 1 ≤ st && st ≤ 6 then slice r 20 32 else []
    seq := leNat (slice r 4 4) + b2n !second.isEmpty
    arm := if second.isEmpty then none else some { mode := leNat (slice v 0 1), trials := leNat (slice v 1 1), from_ := ts80Of (slice v 4 12), until_ := ts80Of (slice v 16 12), bytes := v } }

/-- The newest whole state in half `h` from record `k` on, and the number of the first blank record. -/
def Chip.jrScan (c : Chip) (h : Nat) : Nat → Nat → Option UpdSt → Option UpdSt × Nat
  | 0, k, x => (x, k)
  | f + 1, k, x =>
    if k ≥ jrRecs || c.flashBytes (jrAt h k) 64 = List.replicate 64 0xFF then (x, k) else
    match c.jrRead h k with
    | none => c.jrScan h f (k + 1) x
    | some r =>
      if leNat (slice r 52 1) = 0 then c.jrScan h f (k + 1) (some (jrState r []))
      else match c.jrRead h (k + 1) with
        | some q => c.jrScan h f (k + 2) (some (jrState r q))
        | none => c.jrScan h f (k + 1) x

/-- The journalled state: the newest of both halves; IDLE where there is none. -/
def Chip.jrLoad (c : Chip) : UpdSt :=
  let (a, na) := c.jrScan 0 jrRecs 0 none
  let (b, nb) := c.jrScan 1 jrRecs 0 none
  match a, b with
  | some x, some y => if x.seq ≥ y.seq then { x with half := 0, recs := na } else { y with half := 1, recs := nb }
  | some x, none => { x with half := 0, recs := na }
  | none, some y => { y with half := 1, recs := nb }
  | none, none => { recs := if c.sectorsOk (jrBase 0) 0x10000 then na else jrRecs }

/-- The update state of this start; `rolled` tells that the ROM has just rolled a trial back. -/
def Chip.updStart (c : Chip) (rolled : Bool) : Chip :=
  let x := c.jrLoad
  let whole := c.ctrNat 0 4 = 0x444C5441 && 1 ≤ x.state && x.state ≤ 6
  let x := { x with fromV := if whole then c.ctrNat 8 4 else 0, clen := if whole then c.ctrLen else 0 }
  let cfg := c.cfg
  let st := if cfg.state = 1 then 7 else if rolled then 9 else if x.state = 7 then (if cfg.state = 2 then 9 else 8) else x.state
  let c := c.setUpd x
  let c := if st = x.state then (if st = 0 || st ≥ 8 then c.setUpd { c.upd with erasing := true } else c) else c.updState st 0
  let c := if cfg.state = 1 then c.log 0x0C 0x06 (BitVec.ofNat 32 cfg.trials) else if cfg.state = 3 then c.log 0x0C 0x08 else c
  if st = 5 && !c.builtOk then c.updFail 4 0x03 else c

/-! ## The firmware's start -/

/-- The comparators that HC0 arms at start (R55, R247): CMP0 for frame starts, CMP2 for kicks at 20,000 ns. -/
def Chip.armFrame (c : Chip) : Chip :=
  let c := c.fwWrite (rCMP_CTRL.addr 0 0) (BitVec.ofNat 32 (2 ^ 15 + 9))
  (c.fwWrite (rCMP_NS.addr 2 0) 20000).fwWrite (rCMP_CTRL.addr 2 0) (BitVec.ofNat 32 (3 * 2 ^ 15 + 9))

/-- Those of firmware (R55): CMP3 for PWM cycles, CMP4 for the stack ticks of a master. -/
def Chip.armOthers (c : Chip) : Chip :=
  let c := c.fwWrite (rCMP_CTRL.addr 3 0) (BitVec.ofNat 32 (c.rf rSH_MODE 0 0 29 24 * 2 ^ 23 + 4 * 2 ^ 15 + 9))
  if c.pos = 0 && c.rb rTRL_CTRL 0 0 0 then c.armStack else c

/-- Both dumps' PORCH flag cleared (R541). -/
def Chip.clearPorch (c : Chip) : Chip :=
  c.each [0, 1] fun c a =>
    let (c, h, ok) := c.dumpRead a
    if ok then c.atticPut a 36 [h.getD 36 0 &&& 0xFE] else c

/-- What firmware does once every processor runs. -/
def Chip.firmStart (c : Chip) (rolled : Bool) : Chip :=
  let c := c.stOpen
  let c := (c.updStart rolled).armFrame.startObjs.armOthers
  let c := if c.dop.dfl > c.dflMax then c.log 0x44 0xF2 else c
  (c.setBoot { c.boot with rasWait := true }).clearPorch.activationCheck

/-- The copy `l` of an image started (R510, R511). -/
def Chip.startImage (c : Chip) (l : List Byte) (slot : Nat) (rolled : Bool) : Chip :=
  let (c, ok) := (c.imageStart l slot).monitor l
  if ok then c.firmStart rolled else c

/-! ## The slot choice (R509) -/

/-- Slot `s` copied to the Cellar, and the copy read back. -/
def Chip.slotCopy (c : Chip) (s : Nat) : Chip × List Byte :=
  let (c, l) := c.imageAt (flashBase + slotBase s)
  (c.hcStore imageCopy l).imageAt imageCopy

/-- No sector of slot `s`'s image `l` is one whose erase was abandoned (R503). -/
def Chip.slotWhole (c : Chip) (s : Nat) (l : List Byte) : Bool := c.sectorsOk (slotBase s) (max 1024 (imgLen l))

/-- A copy may be started. -/
def Chip.copyOk (c : Chip) (l : List Byte) : Bool := c.imageValid l && c.cfg.vfloor ≤ imgVint l

/-- A trial start counted, or the trial given up (R509); the flag tells that it was given up. -/
def Chip.trialCount (c : Chip) : Chip × Bool :=
  let x := c.cfg
  if x.state ≠ 1 then (c, false)
  else if x.trials = 0 then (c.cfgWrite { x with active := x.prev, state := 2 }, true)
  else (c.cfgWrite { x with trials := x.trials - 1 }, false)

/-- The ROM's slot choice: ACTIVE, else the other slot, else the Porch. -/
def Chip.slotChoice (c : Chip) : Chip :=
  let (c, rolled) := c.trialCount
  let c := if rolled then c.log 0x0C 0x07 else c
  let a := if c.cfg.active = 1 then 1 else 0
  let (c, l) := c.slotCopy a
  if c.slotWhole a l && c.copyOk l then c.startImage l a rolled
  else
    let (c, l) := c.slotCopy (1 - a)
    if c.slotWhole (1 - a) l && c.copyOk l then
      let x := c.cfg
      let c := c.cfgWrite { x with active := 1 - a, state := if x.state = 1 then 2 else 3 }
      let c := if x.state = 1 then c.log 0x0C 0x07 else c
      c.startImage l (1 - a) (rolled || x.state = 1)
    else (c.log 0x0C 0x0A).enterPorch 3

/-- No image is started where the fuses' CRC fails (R508). -/
def Chip.bootChoice (c : Chip) : Chip := if c.fuses.crcOk then c.slotChoice else (c.log 0x0C 0x0A).enterPorch 3

/-- The dump that brings the Porch at a warm reset (R541). -/
def Chip.dumpPorch (c : Chip) : Chip × Bool :=
  if !c.rb rCEL_STATUS 0 0 1 then (c, false) else
  match c.newestDump with
  | (c, some x) => (c, dumpPorchFlag x.2)
  | (c, none) => (c, false)

/-- BREAK_WATCH_END (R508, R509, R542): `held` tells that a break was held throughout. -/
def execBreakWatchEnd (held : Bool) (s : State) : Host.Outcome State Fault Refusal :=
  run (fun c => c.when (c.alive .sys && c.boot.hc0 = .rom && !c.pwr.pfw) fun c =>
    let (c, dump) := c.dumpPorch
    if !c.rb rSTRAP 0 0 5 || held || dump then
      (if c.fuses.crcOk then c else c.log 0x0C 0x0A).enterPorch (if !c.rb rSTRAP 0 0 5 then 0 else if held then 1 else 2)
    else c.bootChoice) s

end Sys2Proof.Machine
end

