-- ==== Sys2Proof/Machine/DmaRun.lean ====
section
/-! DEFINITION. The bursts of the DMA engine and the completion of a descriptor (spec/15 R452..R462). -/

namespace Sys2Proof.Machine

/-! ## Which channel runs (R450..R453, R457) -/

/-- The level of peripheral request `k` (R452); the I2C block's levels come with the command. -/
def Chip.request (c : Chip) (k : Nat) (i2cRx i2cTx : Bool) : Bool :=
  match k with
  | 0 => c.rb rPRS_CTRL 0 0 0 && c.rb rHWSUB 0 0 1 && c.freeSlots > c.dma.claimed
  | 1 => (c.uart 0).rx.length ≥ 16
  | 2 => (c.uart 0).tx.length + 16 ≤ 256
  | 3 => (c.uart 1).rx.length ≥ 16
  | 4 => (c.uart 1).tx.length + 16 ≤ 256
  | 5 => i2cRx
  | 6 => i2cTx
  | _ => false

/-- The channel's trigger lets a burst start: an event for each descriptor or each burst, or the request. -/
def Chip.triggered (c : Chip) (n : Nat) (i2cRx i2cTx : Bool) : Bool :=
  let x := c.dmaCh n
  let first := bit (x.word 0) 28 || !x.begun
  match c.rf rDMA_CFG n 0 27 26 with
  | 0 => true
  | 2 => !first || c.request (c.rf rDMA_CFG n 0 25 22) i2cRx i2cTx
  | _ => !first || c.rf rDMA_STAT n 0 15 8 ≠ 0

/-- A burst of channel `n` is allowed to run. -/
def Chip.burstReady (c : Chip) (n : Nat) (i2cRx i2cTx : Bool) : Bool :=
  c.dmaOn n && c.dmaState n = 1 && (c.dmaCh n).phase = .beats && (c.dmaCh n).desc ≠ [] && c.triggered n i2cRx i2cTx

/-- The priority of channel `n`. -/
def Chip.dmaPrio (c : Chip) (n : Nat) : Nat := c.rf rDMA_CFG n 0 29 28

/-- A burst of channel `n` has started and not ended: it runs to its end, whatever its trigger does and in STOPPING too (R453,
R461). -/
def Chip.burstOpen (c : Chip) (n : Nat) : Bool := (c.dmaCh n).left ≠ 0 && (c.dmaState n = 1 || c.dmaState n = 4)

/-- The channel chosen: the highest priority with a burst to run, and in it a burst that has started, else the first ready one at or
after its pointer (R457). -/
def Chip.dmaChoose (c : Chip) (i2cRx i2cTx : Bool) : Option Nat :=
  [3, 2, 1, 0].findSome? fun p =>
    let r := mget 0 c.dma.rr p
    let l := ((List.range 16).map fun i => (r + i) % 16).filter fun n => c.dmaPrio n = p
    (l.find? c.burstOpen).or (l.find? fun n => c.burstReady n i2cRx i2cTx)

/-- A higher priority than channel `n`'s has a burst to run (R457). -/
def Chip.preempted (c : Chip) (n : Nat) (i2cRx i2cTx : Bool) : Bool :=
  (List.range 16).any fun m => c.dmaPrio m > c.dmaPrio n && (c.burstOpen m || c.burstReady m i2cRx i2cTx)

/-! ## Beats (R454..R456) -/

/-- Address `a` of a side after a beat of `w` bytes (R456). -/
def wrapAdd (inc : Bool) (k a w : Nat) : Nat :=
  if !inc then a
  else if k = 0 then (a + w) % 2 ^ 32
  else a / 2 ^ k * 2 ^ k + (a + w) % 2 ^ k

/-- One source beat of channel `n`: its bytes into the holding register; poisoned words bound for the Cellar are
counted (R460). -/
def Chip.srcBeat (c : Chip) (n : Nat) : Chip :=
  let x := c.dmaCh n
  let w := x.sw
  match c.dmaWords (c.dmaAccess n) (x.src / 4 * 4) (max 1 (w / 4)) with
  | (c, _, some at_) => c.dmaFail n 3 at_
  | (c, l, none) =>
    let bs := ((l.flatMap fun p => (wordBytes p.1).map fun b => (b, p.2)).drop (x.src % 4)).take w
    let bad := if w < 4 && x.src % 4 ≠ 0 && bit (x.word 0) 21 && x.toRead < x.count then 0 else (l.filter (·.2)).length
    let c := if areaOf x.dst == .cellar && bad ≠ 0 then (c.inc rDMA_POISON 0 0 bad).log 0x0A 0x31 else c
    c.setDmaCh n { x with hold := x.hold ++ bs, toRead := x.toRead - w
                          src := wrapAdd (bit (x.word 0) 21) (fld (x.word 0) 19 15) x.src w }

/-- A destination beat's words written to a register block in ascending order; a narrower write writes the whole word
(R5), whose other bytes the spec does not state. -/
def Chip.regBeat (c : Chip) (a : Access) (n : Nat) (l : List Byte) : Nat → Chip × Bool
  | 0 => (c, false)
  | k + 1 =>
    let r := c.rsp
    let v := if l.length ≥ 4 then leWordAt l 0
      else leWordAt (patch (wordBytes (Config.freeWord c.cyc n)) (n % 4) l) 0
    let c := c.busWrite a (BitVec.ofNat 32 (n / 4 * 4)) v
    let e := c.rsp.err
    let c := { c with rsp := r }
    if e then (c, true) else c.regBeat a (n + 4) (l.drop 4) k

/-- The bytes of a destination beat written to the Cellar (R460); the flag tells of a bus error, which clean bytes of part of a
poisoned word end in too (R153, R459). -/
def Chip.celBeat (c : Chip) (a : Access) (n : Nat) (l : List (Byte × Bool)) : Chip × Bool :=
  match c.celWriteFlagged .dma a.secure n l with
  | (c, .down) => (c.busErr .dma a.secure true (BitVec.ofNat 32 n) 3, true)
  | (c, r) => (c, r == .poison)

/-- One destination beat of channel `n`, from the holding register. -/
def Chip.dstBeat (c : Chip) (n : Nat) : Chip :=
  let x := c.dmaCh n
  let w := x.dw
  let l := x.hold.take w
  let a := c.dmaAccess n
  let zero := l.map fun p => if p.2 then 0 else p.1
  let (c, e) :=
    if areaOf x.dst == .cellar then c.celBeat a x.dst l
    else if areaOf x.dst == .regs then c.regBeat a x.dst zero (max 1 (w / 4))
    else
      let r := c.rsp
      let c := match c.refusal a x.dst with
        | some cause => c.busErr .dma a.secure true (BitVec.ofNat 32 x.dst) cause
        | none => c.memWrite a x.dst zero
      let e := c.rsp.err
      ({ c with rsp := r }, e)
  if e then c.dmaFail n 4 x.dst
  else
    let lost := areaOf x.dst != .cellar && l.any (·.2)
    let c := if lost && x.poison.isNone then c.log 0x0A 0x31 else c
    c.setDmaCh n { x with hold := x.hold.drop w, toWrite := x.toWrite - w
                          dst := wrapAdd (bit (x.word 0) 20) (fld (x.word 0) 14 10) x.dst w
                          poison := if lost && x.poison.isNone then some x.dst else x.poison }

/-- Source beats until a destination beat is fed. -/
def Chip.feed (c : Chip) (n : Nat) : Nat → Chip
  | 0 => c
  | k + 1 =>
    let x := c.dmaCh n
    if c.dmaState n ≠ 3 && x.hold.length < x.dw then (c.srcBeat n).feed n k else c

/-- A next destination beat would cross a 64-byte boundary or a wrap point (R454). -/
def DmaCh.atEdge (x : DmaCh) : Bool :=
  let k := fld (x.word 0) 14 10
  bit (x.word 0) 20 && (x.dst % 64 = 0 || (k ≠ 0 && x.dst % 2 ^ k = 0))

/-- The `k` destination beats left of a burst with the source beats that feed them (R454); a higher priority with a burst to run
cuts in at the next beat, and what is left waits (R457). -/
def Chip.beats (c : Chip) (n : Nat) (i2cRx i2cTx : Bool) : Nat → Chip
  | 0 => c
  | k + 1 =>
    let c := c.feed n 16
    if c.dmaState n = 3 then c else
    let c := c.dstBeat n
    if c.dmaState n = 3 || (c.dmaCh n).toWrite = 0 || (c.dmaCh n).atEdge then c
    else if k ≠ 0 && c.preempted n i2cRx i2cTx then c.setDmaCh n { c.dmaCh n with left := k }
    else c.beats n i2cRx i2cTx k

/-- What the start of a burst of channel `n` takes: the descriptor's or the burst's event, the PRS credit of its request
(R452). -/
def Chip.burstStart (c : Chip) (n : Nat) : Chip :=
  let x := c.dmaCh n
  let first := bit (x.word 0) 28 || !x.begun
  let trig := c.rf rDMA_CFG n 0 27 26
  let c := if first && (trig = 1 || trig = 3) then c.wf rDMA_STAT n 0 15 8 (c.rf rDMA_STAT n 0 15 8 - 1) else c
  let c := if first && trig = 2 && c.rf rDMA_CFG n 0 25 22 = 0 then { c with dma := { c.dma with claimed := c.dma.claimed + 1 } } else c
  c.setDmaCh n { x with begun := true, left := c.rf rDMA_CFG n 0 21 18 + 1 }

/-- A burst of channel `n`, started or gone on with; at its end it moves the pointer of its priority (R457), and a STOP that came in
it takes effect (R461). -/
def Chip.burst (c : Chip) (n : Nat) (i2cRx i2cTx : Bool) : Chip :=
  let c := if c.burstOpen n then c else c.burstStart n
  let k := (c.dmaCh n).left
  let c := (c.setDmaCh n { c.dmaCh n with left := 0 }).beats n i2cRx i2cTx k
  let x := c.dmaCh n
  if x.left ≠ 0 then c else
  let c := { c with dma := { c.dma with rr := mset 0 c.dma.rr (c.dmaPrio n) ((n + 1) % 16) } }
  if c.dmaState n = 3 then c
  else if x.toWrite = 0 then c.setDmaCh n { x with phase := .readBack }
  else if c.dmaState n = 4 then c.dmaStopBeats n
  else c

/-- DMA_BURST (R454, R457): the engine chooses a channel and runs its burst, to its end or to the beat at which a higher priority
cuts in. -/
def execDmaBurst (i2cRx i2cTx : Bool) (s : State) : Host.Outcome State Fault Refusal :=
  run (fun c => c.when (c.alive .sys) fun c => match c.dmaChoose i2cRx i2cTx with
    | some n => c.burst n i2cRx i2cTx
    | none => c) s

/-! ## Completion (R458, R460, R462) -/

/-- Where channel `n` goes after a descriptor has completed: IDLE when a STOP waits, ERROR after poison, the next
descriptor, or the tail re-check, which is issued here and clears a DBPEND set before it (R463). -/
def Chip.dmaAfter (c : Chip) (n : Nat) : Chip :=
  let x := c.dmaCh n
  match x.poison with
  | some at_ => c.dmaError n 6 at_
  | none =>
    if c.dmaState n = 4 then c.dmaStopped n
    else if bit (x.word 0) 31 then (c.setDmaCh n { x with phase := .recheck }).wb rDMA_STAT n 0 19 false
    else c.dmaFetch n (c.dmaNext n)

/-- Steps 1 to 5 of R458 for channel `n`. -/
def Chip.dmaComplete (c : Chip) (n : Nat) : Chip :=
  let x := c.dmaCh n
  match c.dmaReadBack n with
  | (c, some at_) => c.dmaFail n 5 at_
  | (c, none) =>
    let c := if bit (x.word 0) 29 then c.dmaWord6 n (if x.poison.isSome then 1 else 0) else c
    let c := c.inc rDMA_DONE n 0
    let c := if bit (x.word 0) 30 then c.wb rDMA_STAT n 0 0 true else c
    let c := c.each (List.range 16) fun c k =>
      if c.rf rDMA_CFG k 0 27 26 = 3 && c.rf rDMA_CFG k 0 25 22 = n then c.dmaEvent k else c
    c.dmaAfter n

/-- DESCRIPTOR_COMPLETE (R458): the read-back of channel `n` has returned. -/
def execDescriptorComplete (n : Fin 16) (s : State) : Host.Outcome State Fault Refusal :=
  run (fun c => if c.alive .sys && (c.dmaState n = 1 || c.dmaState n = 4) && (c.dmaCh n).phase = .readBack then c.dmaComplete n else c) s

/-- The re-read of a completed tail returns (R462); a doorbell that came while it was out makes the channel read once
more as it enters TAIL, or stays pending in RUN (R463, R465). -/
def Chip.dmaRecheck (c : Chip) (n : Nat) : Chip :=
  match c.dmaReread n with
  | (c, none) => c
  | (c, some false) => c.dmaFollow n
  | (c, some true) =>
    let again := c.rb rDMA_STAT n 0 19
    let c := (c.setDmaState n 2).wb rDMA_STAT n 0 2 true
    if again then c.dmaDoorbell n else c

/-- TAIL_RECHECK (R462). -/
def execTailRecheck (n : Fin 16) (s : State) : Host.Outcome State Fault Refusal :=
  run (fun c => if c.alive .sys && c.dmaState n = 1 && (c.dmaCh n).phase = .recheck then c.dmaRecheck n else c) s

end Sys2Proof.Machine
end

