-- ==== Sys2Proof/Machine/Sync.lean ====
section
/-! DEFINITION. What the firmware of a pair says to its peer by FWMSG (spec/12 R365, R387): the policy image, and the regions of which
something was lost. DESIGN CHOICE (log entry 205): the form of both. -/

namespace Sys2Proof.Machine

/-- The kinds of a FWMSG's first word, in [31:28]: records of the policy image; regions wanted again, in [4:0]. -/
def fwImage : Nat := 1
def fwRegions : Nat := 2

/-- The objects of the policy image: the mirrored ones that a controller may write and firmware's start puts in force. -/
def imageRows : List ObjRow := dict.filter fun r => mirrored r.idx && (r.acc = .rw || r.acc = .rwc) && !startSkips r

/-- The POLICY records of the policy image, for immediate application; a value that the hardware does not give is left out. -/
def Chip.imageRecs (c : Chip) (l : List (ObjRow × Nat)) : Chip × List (List Word) :=
  l.foldl (fun (x : Chip × List (List Word)) y =>
    match x.1.objGet {} y.1 y.2 with
    | (c, some v) => (c, x.2 ++ [policyRec { k := 0, idx := y.1.idx, sub := y.2, val := v }])
    | (c, none) => (c, x.2)) (c, [])

/-- Records put together in bodies of at most 4,094 words. -/
def packRecs (l : List (List Word)) : List (List Word) :=
  l.foldl (fun m r => match m with
    | [] => [r]
    | b :: t => if b.length + r.length ≤ 4094 then (b ++ r) :: t else r :: m) [] |>.reverse

/-- The active unit's policy image sent to a peer in SYNCING, once each time it comes to be so (R387). -/
def Chip.imageSend (c : Chip) : Chip :=
  if !(c.pairState = 4 && c.corridorUp && c.cdr.bulkSent && !c.cdr.imageSent) then c else
  let (c, recs) := c.imageRecs (imageRows.flatMap fun r => (List.range (r.hi + 1 - r.lo)).map fun i => (r, r.lo + i))
  let c := c.setCdr { c.cdr with imageSent := true }
  c.each (packRecs recs) fun c b => c.cdrSend 0xB (BitVec.ofNat 32 (fwImage * 2 ^ 28) :: b)

/-- A unit in SYNCING asks for the regions of which something was lost, until they begin again (R365). -/
def Chip.regionsAsk (c : Chip) : Chip :=
  if c.pairState = 2 && c.corridorUp && c.cdr.bulkLost ≠ 0 then
    c.cdrSend 0xB [BitVec.ofNat 32 (fwRegions * 2 ^ 28 + c.cdr.bulkLost.toNat)]
  else c

/-- Regions asked for: the one being sent begins anew, the others wait for their turn. -/
def Chip.regionsAgain (c : Chip) (m : BitVec 5) : Chip :=
  if c.pairState ≠ 4 then c else
  match c.cdr.bulkOut with
  | some b =>
    let c := c.bulkAsk (m &&& ~~~(1#5 <<< b.region))
    if m.getLsbD b.region then c.setCdr { c.cdr with bulkOut := some { b with off := 0 } } else c
  | none => c.bulkAsk m

/-- The FWMSG bodies that have come taken: an image's records are applied at once by a unit that follows, regions are sent again by the
active one; words of another kind stay for the firmware that knows them. -/
def Chip.fwTake (c : Chip) : Chip :=
  let l := c.cdr.fwmsg
  let kind := fun (b : List Word) => fld (b.getD 0 0) 31 28
  let c := c.setCdr { c.cdr with fwmsg := l.filter fun b => kind b ≠ fwImage && kind b ≠ fwRegions }
  c.each l fun c b =>
    if kind b = fwImage then
      if c.pairState = 2 || c.pairState = 3 then c.setDop { c.dop with mirror := c.dop.mirror ++ policyParse b.length (b.drop 1) } else c
    else if kind b = fwRegions then c.regionsAgain (BitVec.ofNat 5 (b.getD 0 0).toNat) else c

/-- What the firmware of a pair looks after at its control ticks. -/
def Chip.pairPoll (c : Chip) : Chip := c.fwTake.imageSend.regionsAsk

end Sys2Proof.Machine
end

