-- ==== Sys2Proof/Machine/Dop.lean ====
section
/-! DEFINITION. The object protocol: messages, sessions, groups, requests, the control tick (spec/14 R413..R444). -/

namespace Sys2Proof.Machine

/-! ## Messages (R414, R415) -/

/-- A DOP header (R414). -/
structure DopHdr where
  ver : Nat
  type : Nat
  src : Nat
  dst : Nat
  sid : BitVec 32
  seq : Nat
  len : Nat
  flags : Nat
  level : Nat
  deriving DecidableEq, Repr

/-- The header's 24 bytes. -/
def DopHdr.bytes (h : DopHdr) : List Byte :=
  natBE 2 0x444F ++ natBE 1 h.ver ++ natBE 1 h.type ++ natBE 2 h.src ++ natBE 2 h.dst ++ natBE 4 h.sid.toNat ++ natBE 8 h.seq
    ++ natBE 2 h.len ++ natBE 1 h.flags ++ natBE 1 h.level

/-- The header at the head of a message. -/
def dopHdr (b : List Byte) : DopHdr :=
  let f := fun lo n => beNat (slice b lo n)
  { ver := f 2 1, type := f 3 1, src := f 4 2, dst := f 6 2, sid := BitVec.ofNat 32 (f 8 4), seq := f 12 8, len := f 20 2, flags := f 22 1, level := f 23 1 }

/-- FLAGS of a header. -/
def DopHdr.plain (h : DopHdr) : Bool := h.flags % 2 = 1
def DopHdr.group (h : DopHdr) : Bool := h.flags / 2 % 2 = 1
def DopHdr.ackReq (h : DopHdr) : Bool := h.flags / 4 % 2 = 1

/-- The header is well formed and of a message of type `ty` (R415, R416). -/
def headOk (b : List Byte) (ty : Nat) : Bool :=
  let h := dopHdr b
  24 ≤ b.length && beNat (b.take 2) = 0x444F && h.type = ty && 1 ≤ h.ver && h.ver ≤ 3 && h.flags < 16 && h.level < 4 && h.len ≤ 9130
    && b.length = 24 + h.len + (if h.plain then 0 else 16) && (!h.group || h.sid.getLsbD 31)

/-- The module's device number. -/
def Chip.devNo (c : Chip) : Nat := c.objNat 0x1010 0 16383

/-- The module belongs to the group DST names. -/
def Chip.inGroup (c : Chip) (dst : Nat) : Bool :=
  dst = 0xFFFF || (0x8000 < dst && dst < 0xC000 && (List.range 16).any fun i => c.objNat 0x1011 (i + 1) 0 = dst - 0x8000)

/-- A bad message: discarded, and counted (R415). -/
def Chip.dopDiscard (c : Chip) : Chip := c.dopCount 1

/-! ## Sending (R413, R419, R440) -/

/-- Bytes of a DOP message as words, the last one padded with 0. -/
def dopWords (b : List Byte) : List Word := (List.range ((b.length + 3) / 4)).map fun i => leWordAt b (4 * i)

/-- A DOP message in STACK messages of at most 1,020 words each: kind 1 a relayed message, 2 a reply. -/
def Chip.stackSend (c : Chip) (down : Bool) (dest : Nat) (bcast : Bool) (kind : Nat) (m : DopMsg) : Chip :=
  c.each (List.range ((m.bytes.length + 4079) / 4080)) fun c i =>
    c.trlSend down 5 dest bcast ([BitVec.ofNat 32 (kind * 2 ^ 28 + m.port.val * 2 ^ 24 + c.pos * 2 ^ 20 + m.udp.toNat), m.ip, tsWord m.ts 0, tsWord m.ts 1,
      tsWord m.ts 2, BitVec.ofNat 32 (m.bytes.length * 65536 + 4080 * i)] ++ dopWords (slice m.bytes (4080 * i) 4080))

/-- A reply sent to where its request came from: to the network, or to the stack master for a relayed one. -/
def Chip.dopOut (c : Chip) (relayed : Bool) (ip : BitVec 32) (udp : BitVec 16) (port : Nat) (b : List Byte) : Chip :=
  if relayed then c.stackSend false 0 false 2 { bytes := b, ip := ip, udp := udp, ts := c.now, port := ⟨port % 3, Nat.mod_lt _ (by decide)⟩ }
  else c.emit (.dop ip udp b)

/-- A message sealed under `key` (R419). -/
def sealed (key : List Byte) (h : DopHdr) (body : List Byte) : List Byte :=
  let a := h.bytes
  let (ct, tag) := gcmSeal key (slice a 8 12) a body
  a ++ ct ++ tag

/-- The body of a sealed message, where its tag is right. -/
def unsealed (key b : List Byte) (len : Nat) : Option (List Byte) := gcmOpen key (slice b 8 12) (b.take 24) (slice b 24 len) (b.drop (24 + len))

/-! ## The replay window (R421) -/

/-- Whether `q` is refused. -/
def Replay.refuses (r : Replay) (q : Nat) : Bool := q = 0 || q + 1024 ≤ r.top || r.seen.contains q

/-- `q` entered. -/
def Replay.enter (r : Replay) (q : Nat) : Replay :=
  let t := max r.top q
  { top := t, seen := (q :: r.seen).filter fun x => t < x + 1024 }

/-! ## Sessions (R417..R422) -/

/-- The sessions changed. -/
def Chip.setSessions (c : Chip) (l : List DopSess) : Chip := c.setDop { c.dop with sess := l }
def Chip.modSession (c : Chip) (sid : BitVec 32) (f : DopSess → DopSess) : Chip := c.setSessions (c.dop.sess.map fun s => if s.sid = sid then f s else s)

/-- A session ended: its Vault entry is erased (R484). -/
def Chip.endSession (c : Chip) (s : DopSess) : Chip :=
  let c := match s.entry with
    | some e => c.setSess e {}
    | none => c
  c.setSessions (c.dop.sess.filter fun x => x.sid ≠ s.sid)

/-- A message of the module's own in session `s`: PLAIN at level none, sealed otherwise. -/
def Chip.sessSend (c : Chip) (s : DopSess) (type : Nat) (body : List Byte) (relayed : Bool) (ip : BitVec 32) (udp : BitVec 16) (port : Nat) : Chip :=
  if s.tx + 1 ≥ 2 ^ 64 - 1 then c else
  let h : DopHdr := { ver := s.ver, type := type, src := c.devNo, dst := s.src, sid := s.sid, seq := s.tx + 1, len := body.length
                      flags := b2n s.entry.isNone, level := s.level }
  let b := match s.entry with
    | some e => sealed (c.sessEnt e).keyOut h body
    | none => h.bytes ++ body
  (c.modSession s.sid fun x => { x with tx := s.tx + 1 }).dopOut relayed ip udp port b

/-- The levels the life-cycle state admits (R478). -/
def Chip.levelAdmitted (c : Chip) (l : Nat) : Bool := l = 0 || c.lc = 1 || c.lc = 2 || (c.lc = 3 && l = 3)

/-- NC's access to the Vault. -/
def ncAccess : Access := { master := .nc }

/-- What keeps the Vault from deriving under the show key of level `l`, as a DOP status. -/
def Chip.keyRefusal (c : Chip) (l : Nat) : Option Nat :=
  if !c.levelAdmitted l then some stLifecycle
  else if l = 0 then none
  else match c.slotRefusal ncAccess l 3 with
    | none => none
    | some (.refuse 6) => some stLifecycle
    | some _ => some 0x1C

/-- A Vault entry to fill: a free one, else the least recently used group entry (R484); none while a life-cycle change keeps the
Vault busy (DESIGN CHOICE, log entry 234). -/
def Chip.entryPick (c : Chip) : Option Nat :=
  if c.vlt.lcTarget.isSome then none else
  match (List.range 64).find? fun e => !(c.sessEnt e).used with
  | some e => some e
  | none =>
    ((List.range 64).filter fun e => (c.sessEnt e).group).foldl (fun m e => match m with
      | some x => if (c.sessEnt e).at_ < (c.sessEnt x).at_ then some e else m
      | none => some e) none

/-- A derivation entered in the Vault's table; the group keys that stood there are gone. -/
def Chip.enterKeys (c : Chip) (e : Nat) (x : SessEnt) : Chip :=
  ((c.setSess e x).setDop { c.dop with keys := c.dop.keys.filter fun k => k.entry ≠ e }).inc rVLT_CNT 3 0

/-- An SID no session has, [31:30] = 0. -/
def Chip.freshSid (c : Chip) : BitVec 32 :=
  let f := (Config.freeWord c.cyc 0x414).toNat
  match ((List.range 64).map fun i => BitVec.ofNat 32 ((f + i) % 2 ^ 30)).find? fun s => s ≠ 0 && (c.dopSess s).isNone with
  | some s => s
  | none => 0

/-- HELLO_REPLY sent (R417): its header and the first 40 bytes of its body; CONF after them. -/
def Chip.helloReply (c : Chip) (m : DopMsg) (h : DopHdr) (head : List Byte) (conf : List Byte) : Chip :=
  c.dopOut m.relayed m.ip m.udp m.port (h.bytes ++ head ++ conf)

/-- The first 40 bytes of a HELLO_REPLY's body. -/
def helloHead (status ver : Nat) (ns : List Byte) : List Byte := natBE 1 status ++ natBE 1 ver ++ natBE 2 9130 ++ [1, 3, 0, 0] ++ ns

/-- 32 bytes of 0. -/
def z32 : List Byte := List.replicate 32 0

/-- The header of a HELLO_REPLY. -/
def Chip.helloHdr (c : Chip) (h : DopHdr) (sid : BitVec 32) : DopHdr :=
  { ver := 1, type := 2, src := c.devNo, dst := h.src, sid := sid, seq := 0, len := 52, flags := 1, level := h.level }

/-- A HELLO refused with a status: counted, and answered without a session. -/
def Chip.helloRefuse (c : Chip) (m : DopMsg) (h : DopHdr) (status ver : Nat) : Chip :=
  (c.dopCount 5).helloReply m (c.helloHdr h 0) (helloHead status ver z32) (List.replicate 12 0)

/-- A ninth HALF session replaces the oldest (R420). -/
def Chip.halfRoom (c : Chip) : Chip :=
  let l := c.dop.sess.filter fun s => !s.opened
  match l with
  | s :: _ => if l.length ≥ 8 then c.endSession s else c
  | [] => c

/-- FLAGS.RELAYED (byte 22, bit 3) of a message set or cleared. -/
def relayedFlag (on : Bool) (b : List Byte) : List Byte :=
  b.take 22 ++ [(b.getD 22 0 &&& ~~~ 8#8) ||| (if on then 8#8 else 0#8)] ++ b.drop 23

/-- A session opened, HALF, and HELLO_REPLY sent (R417, R418); CONF covers the payload as the controller sent it, without the
master's RELAYED (DESIGN CHOICE, log entry 124). -/
def Chip.helloOpen (c : Chip) (m : DopMsg) (h : DopHdr) (ver : Nat) : Chip :=
  let c := (c.dopCount 0).halfRoom
  let body := m.bytes.drop 24
  let sid := c.freshSid
  let hd := c.helloHdr h sid
  let s : DopSess := { sid := sid, src := h.src, level := h.level, ver := ver, maxBody := min (beNat (slice body 2 2)) 9130, entry := none, at_ := c.now, ip := m.ip }
  if h.level = 0 then
    (c.setSessions (c.dop.sess ++ [s])).helloReply m hd (helloHead stOk ver z32) (List.replicate 12 0)
  else match c.entryPick with
  | none => c.helloRefuse m h stBusy ver
  | some e =>
    let ns := (List.range 32).map fun j => Config.randomByte c.cyc j
    let k := sessionOf (c.keyOf h.level) (slice body 8 32 ++ ns) (ascii "DOP-S" ++ slice hd.bytes 8 4 ++ slice hd.bytes 4 4) c.now
    let head := helloHead stOk ver ns
    ((c.enterKeys e k).setSessions (c.dop.sess ++ [{ s with entry := some e }])).helloReply m hd head
      ((hmac k.keyCf ((if m.relayed then relayedFlag false m.bytes else m.bytes) ++ hd.bytes ++ head)).take 12)

/-- The 32 OPEN sessions a module holds at most are there (R420). -/
def Chip.openFull (c : Chip) : Bool := 32 ≤ (c.dop.sess.filter (·.opened)).length

/-- A HELLO for this module. -/
def Chip.dopHello (c : Chip) (m : DopMsg) (h : DopHdr) : Chip :=
  let body := m.bytes.drop 24
  let vmin := beNat (slice body 0 1)
  let ver := min (beNat (slice body 1 1)) 3
  if h.ver ≠ 1 || h.sid ≠ 0 || h.seq ≠ 0 || !h.plain || h.len ≠ 40 || beNat (slice body 2 2) < 1024 || beNat (slice body 4 4) ≠ 0 then c.dopDiscard
  else if ver = 0 || ver < vmin then c.helloRefuse m h 0x1B 0
  else match c.keyRefusal h.level with
  | some st => c.helloRefuse m h st ver
  | none => if c.openFull then c.helloRefuse m h stBusy ver else c.helloOpen m h ver

/-- A tag or replay failure (R421). -/
def Chip.authFail (c : Chip) : Chip := (c.dopCount 3).log 0x44 0xF0
def Chip.replayFail (c : Chip) : Chip := (c.dopCount 4).log 0x44 0xF1

/-- The answer to a message of an unknown session (R422). -/
def Chip.noSession (c : Chip) (m : DopMsg) (h : DopHdr) : Chip :=
  let r : DopHdr := { ver := h.ver, type := if h.type = 0x10 then 0x11 else 0x13, src := c.devNo, dst := h.src, sid := h.sid, seq := 0, len := 5, flags := 1, level := h.level }
  c.dopOut m.relayed m.ip m.udp m.port (r.bytes ++ [0, 0, 0, 0, 0x1D])

/-- The session of an SID, its keys still in the Vault. -/
def Chip.liveSession (c : Chip) (sid : BitVec 32) : Option DopSess :=
  match c.dopSess sid with
  | some s => match s.entry with
    | some e => if (c.sessEnt e).used then some s else none
    | none => some s
  | none => none

/-- A message accepted in session `s`: it is OPEN, and its idle time begins anew. -/
def Chip.accept (c : Chip) (s : DopSess) (m : DopMsg) (q : Nat) : Chip :=
  (c.dopCount 0).modSession s.sid fun x => { x with opened := true, at_ := c.now, ip := m.ip, rx := if s.entry.isSome then x.rx.enter q else x.rx }

/-- An accepted message given to `f`; a HALF session that would be the 33rd OPEN one ends instead, and the message is
answered NOSESSION (DESIGN CHOICE, log entry 207). -/
def Chip.sessionEnter (c : Chip) (m : DopMsg) (h : DopHdr) (s : DopSess) (f : Chip → DopSess → List Byte → Chip) (body : List Byte) : Chip :=
  if !s.opened && c.openFull then (c.endSession s).noSession m h else f (c.accept s m h.seq) s body

/-- A message of a unicast session: answered NOSESSION, refused, or accepted and given to `f`. -/
def Chip.sessionTake (c : Chip) (m : DopMsg) (h : DopHdr) (f : Chip → DopSess → List Byte → Chip) : Chip :=
  match c.liveSession h.sid with
  | none => c.noSession m h
  | some s =>
    if h.plain ≠ s.entry.isNone then c.dopDiscard else
    match s.entry with
    | none => c.sessionEnter m h s f (m.bytes.drop 24)
    | some e =>
      match unsealed (c.sessEnt e).keyIn m.bytes h.len with
      | none => c.authFail
      | some body => if s.rx.refuses h.seq then c.replayFail else c.sessionEnter m h s f body

/-! ## Groups (R423..R425) -/

/-- The keys of a group (R423): those in the Vault, else a derivation. -/
def Chip.groupKeys (c : Chip) (dst ke level : Nat) : Option Nat × SessEnt :=
  match c.dop.keys.find? fun k => k.dst = dst && k.ke = ke && k.level = level && (c.sessEnt k.entry).used && (c.sessEnt k.entry).group with
  | some k => (some k.entry, c.sessEnt k.entry)
  | none => (none, sessionOf (c.keyOf level) (ascii "DOP-G" ++ natBE 2 dst ++ natBE 4 ke) (ascii "DOP-G keys") c.now)

/-- The group keys kept in the Vault, as used now. -/
def Chip.keepGroup (c : Chip) (dst ke level : Nat) : Chip :=
  match c.groupKeys dst ke level with
  | (some e, x) => c.setSess e { x with at_ := c.now }
  | (none, x) =>
    match c.entryPick with
    | none => c
    | some e =>
      let c := c.enterKeys e x
      c.setDop { c.dop with keys := c.dop.keys ++ [{ entry := e, dst := dst, ke := ke, level := level }] }

/-- Whether the replay table refuses SEQ `q` of (dst, src) under `ke` (R424). -/
def Chip.groupRefuses (c : Chip) (dst src ke q : Nat) : Bool :=
  match c.dop.grps.find? fun g => g.dst = dst && g.src = src with
  | some g => ke < g.ke || (ke = g.ke && g.rx.refuses q) || q = 0
  | none => q = 0 || (match c.dop.keFloor with | some f => ke ≤ f | none => false)

/-- The pair entered, the least recently used one evicted where the table holds 64. -/
def Chip.groupEnter (c : Chip) (dst src ke q : Nat) : Chip :=
  let l := c.dop.grps
  match l.find? fun g => g.dst = dst && g.src = src with
  | some g =>
    let g' := if ke = g.ke then { g with rx := g.rx.enter q, at_ := c.now } else { g with ke := ke, rx := ({} : Replay).enter q, at_ := c.now }
    c.setDop { c.dop with grps := l.filter (fun x => !(x.dst = dst && x.src = src)) ++ [g'] }
  | none =>
    let g : DopGrp := { dst := dst, src := src, ke := ke, rx := ({} : Replay).enter q, at_ := c.now }
    match l with
    | o :: t =>
      if l.length < 64 then c.setDop { c.dop with grps := l ++ [g] }
      else c.setDop { c.dop with grps := t ++ [g], keFloor := some (match c.dop.keFloor with | some f => max f o.ke | none => o.ke) }
    | [] => c.setDop { c.dop with grps := [g] }

/-- A group message (R423): a SET under a key of its level; anything else is discarded. -/
def Chip.groupTake (c : Chip) (m : DopMsg) (h : DopHdr) (f : Chip → List Byte → Chip) : Chip :=
  let ke := h.sid.toNat % 2 ^ 31
  if h.type ≠ 0x12 || h.ver < 2 || h.level = 0 || h.plain || h.dst < 0x8000 || (c.keyRefusal h.level).isSome then c.dopDiscard
  else match unsealed (c.groupKeys h.dst ke h.level).2.keyIn m.bytes h.len with
  | none => c.authFail
  | some body =>
    if c.groupRefuses h.dst h.src ke h.seq then c.replayFail
    else f (((c.dopCount 0).keepGroup h.dst ke h.level).groupEnter h.dst h.src ke h.seq) body

/-- The SEQ of the last reply for a DST and KE. -/
def Chip.replySeq (c : Chip) (k : Nat × Nat) : Nat := match c.dop.replies.find? (fun x => x.1 = k) with | some x => x.2 | none => 0

/-- A member's reply (R425): SEQ from the counter for that DST and KE, which outlives the replay entry and the Vault's; the keys
count as used now (R484). -/
def Chip.groupReply (c : Chip) (q : DopReq) (body : List Byte) : Chip :=
  let ke := q.sid.toNat % 2 ^ 31
  let c := c.keepGroup q.dst ke q.level
  let k := (q.dst, ke)
  let n := c.replySeq k + 1
  let h : DopHdr := { ver := q.ver, type := 0x13, src := c.devNo, dst := q.src, sid := BitVec.ofNat 32 (0x40000000 + c.devNo), seq := n, len := body.length, flags := 0, level := q.level }
  let b := sealed (c.groupKeys q.dst ke q.level).2.keyOut h body
  (c.setDop { c.dop with replies := (k, n) :: c.dop.replies.filter fun x => x.1 ≠ k }).dopOut q.relayed q.ip q.udp q.port b

/-! ## Taking a message (R415, R440) -/

/-- The message as the master passes it on: RELAYED is set in its FLAGS, but in a sealed message, which goes unchanged (R440). -/
def relayedMsg (m : DopMsg) (h : DopHdr) : DopMsg := if h.plain then { m with bytes := relayedFlag true m.bytes } else m

/-- The module is a stack master with a follower (R440). -/
def Chip.hasFollowers (c : Chip) : Bool := c.pos = 0 && (List.range 7).any fun i => c.objNat 0x1013 (i + 1) 0 ≠ 0

/-- A stack master passes on what is meant for its followers (R440). -/
def Chip.relay (c : Chip) (m : DopMsg) (h : DopHdr) : Chip :=
  if !c.hasFollowers || m.relayed then c
  else if h.group then (c.dopCount 6).stackSend true 7 true 1 (relayedMsg m h)
  else match (List.range 7).find? fun i => c.objNat 0x1013 (i + 1) 0 = h.dst && h.dst ≠ 0 with
  | some i => (c.dopCount 6).stackSend true (i + 1) false 1 (relayedMsg m h)
  | none => c

/-- Whether a message for DST is this module's (R415). -/
def Chip.forMe (c : Chip) (dst : Nat) : Bool := dst = c.devNo || c.inGroup dst

/-- DST is a follower's device number. -/
def Chip.followerDst (c : Chip) (h : DopHdr) : Bool := c.pos = 0 && h.dst ≠ 0 && (List.range 7).any fun i => c.objNat 0x1013 (i + 1) 0 = h.dst

/-- The datagram is for DOP here (R413): to the address of one of the three MACs (object 0x3010) or to a joined group (object
0x1012) inside 239.77.0.0/16, at port 30480. The port of a fragment is not asked for; a relayed message was asked by the
stack master. -/
def Chip.dopAddressed (c : Chip) (m : DopMsg) : Bool :=
  m.relayed
  || ((m.frag || m.destPort = 30480) && m.dest ≠ 0
    && (((List.range 3).any fun i => c.objNat 0x3010 (i + 1) 0 = m.dest.toNat)
      || (m.dest.toNat / 65536 = 0xEF4D && (List.range 4).any fun i => c.objNat 0x1012 (i + 1) (if i = 0 then 0xEF4D0001 else 0) = m.dest.toNat)))

/-- A datagram taken as a message of type `ty`: no message for DOP here, discarded, relayed, or given to `f`. -/
def Chip.dopTake (c : Chip) (m : DopMsg) (ty : Nat) (f : Chip → DopHdr → Chip) : Chip :=
  if !c.dopAddressed m then c
  else if m.frag then c.dopCount 2
  else if !headOk m.bytes ty then c.dopDiscard
  else
    let h := dopHdr m.bytes
    let c := c.relay m h
    if c.forMe h.dst then f c h
    else if !m.relayed && c.followerDst h then c
    else c.dopDiscard

/-! ## Requests (R426..R429) -/

/-- The items of a body: `n` of them and nothing after; none where it is malformed or sets a reserved flag. -/
def dopItems (get : Bool) : Nat → List Byte → Option (List DopItem)
  | 0, b => if b.isEmpty then some [] else none
  | n + 1, b =>
    let f := fun lo k => beNat (slice b lo k)
    let fl := f 4 1
    let sg := if fl % 2 = 1 then 8 else 0
    let at12 := if fl / 4 % 2 = 1 && !get then 12 else 0
    let vlen := f 6 2
    let head := 8 + sg + at12
    let all := head + (if get then 0 else (vlen + 3) / 4 * 4)
    if b.length < all || b.length < 8 || fl ≥ 8 then none else
    let it : DopItem := { idx := f 0 2, sub := f 2 1, ty := f 3 1, flags := fl, vlen := vlen
                          off := if sg = 8 then f 8 4 else 0, total := if sg = 8 then f 12 4 else 0
                          at_ := if at12 = 12 then tsOf (BitVec.ofNat 32 (f (8 + sg) 4)) (BitVec.ofNat 32 (f (12 + sg) 4)) (BitVec.ofNat 32 (f (16 + sg) 4)) else 0
                          val := if get then [] else slice b head vlen }
    (dopItems get n (b.drop all)).map fun l => it :: l

/-- REQ and the items of a GET or SET body. -/
def dopBody (get : Bool) (b : List Byte) : Option (Nat × List DopItem) :=
  if b.length < 4 then none else (dopItems get (beNat (slice b 2 2)) (b.drop 4)).map fun l => (beNat (b.take 2), l)

/-- Flags of an item, and whether version `v` has them (R426). -/
def DopItem.seg (it : DopItem) : Bool := it.flags % 2 = 1
def DopItem.sync (it : DopItem) : Bool := it.flags / 2 % 2 = 1
def DopItem.timed (it : DopItem) : Bool := it.flags / 4 % 2 = 1
def DopItem.featureOk (it : DopItem) (v : Nat) : Bool := (!it.seg || 2 ≤ v) && (!(it.sync || it.timed) || 3 ≤ v)

/-- A reply item: SEG's words stand where `total` is given. -/
def replyItem (it : DopItem) (ty st : Nat) (total : Option Nat) (v : List Byte) : List Byte :=
  natBE 2 it.idx ++ natBE 1 it.sub ++ natBE 1 ty ++ natBE 1 (b2n total.isSome) ++ natBE 1 st ++ natBE 2 v.length
    ++ (match total with | some t => natBE 4 it.off ++ natBE 4 t | none => []) ++ v ++ List.replicate ((4 - v.length % 4) % 4) 0

/-- A reply's body: whole items while they fit `most` bytes (R416). -/
def replyBody (req most : Nat) (l : List (List Byte)) : List Byte :=
  let fit := l.foldl (fun (x : List (List Byte) × Nat × Bool) i =>
    if x.2.2 && x.2.1 + i.length ≤ most then (x.1 ++ [i], x.2.1 + i.length, true) else (x.1, x.2.1, false)) ([], 4, true)
  natBE 2 req ++ natBE 2 fit.1.length ++ fit.1.flatten

/-- The reply sent in session `s`, and kept (R426). -/
def Chip.replyKept (c : Chip) (s : DopSess) (type req : Nat) (body : List Byte) (relayed : Bool) (ip : BitVec 32) (udp : BitVec 16) (port : Nat) : Chip :=
  (c.sessSend s type body relayed ip udp port).modSession s.sid fun x =>
    { x with cache := ({ req := req, type := type, body := body } :: x.cache).take 16 }

/-- A repeated request answered with the reply kept for it; else `f`. -/
def Chip.unlessKept (c : Chip) (s : DopSess) (m : DopMsg) (req : Nat) (f : Chip → Chip) : Chip :=
  match s.cache.find? fun k => k.req = req with
  | some k => c.sessSend s k.type k.body m.relayed m.ip m.udp m.port
  | none => f c

/-- One item of a GET answered (R426, R429, R432). -/
def Chip.getItem (c : Chip) (x : DopCtx) (it : DopItem) : Chip × List Byte :=
  if !it.featureOk x.ver then (c, replyItem it it.ty stFeature none []) else
  let (c, st, ty, v) := c.objRead x it.idx it.sub
  if st ≠ stOk then (c, replyItem it ty st none [])
  else if it.ty ≠ 0xFF && it.ty ≠ ty then (c, replyItem it ty stType none [])
  else if it.seg then (c, replyItem it ty stOk (some v.length) (slice v it.off it.vlen))
  else if v.length > it.vlen then (c, replyItem it ty stType none [])
  else (c, replyItem it ty stOk none v)

/-- The items of a GET answered in order. -/
def Chip.getItems (c : Chip) (x : DopCtx) : List DopItem → Chip × List (List Byte)
  | [] => (c, [])
  | it :: t =>
    let (c, b) := c.getItem x it
    let (c, l) := c.getItems x t
    (c, b :: l)

/-- A GET of session `s` answered with the values in effect (R437). -/
def Chip.getTake (c : Chip) (m : DopMsg) (s : DopSess) (body : List Byte) : Chip :=
  match dopBody true body with
  | none => c.dopDiscard
  | some (req, items) =>
    c.unlessKept s m req fun c =>
      let (c, l) := c.getItems { level := s.level, ver := s.ver, sid := s.sid, port := m.port } items
      c.replyKept s 0x11 req (replyBody req s.maxBody l) m.relayed m.ip m.udp m.port

/-! ## Segments (R429) -/

/-- How far the parts, in order of offset, cover the BLOB from its start, and the bytes they cover. -/
def asmBytes (parts : List (Nat × List Byte)) : List Byte :=
  parts.foldl (fun b p => if p.1 ≤ b.length then b ++ p.2.drop (b.length - p.1) else b) []

/-- A segment's range put in among those stored, in order of offset. -/
def rangePut (off n : Nat) : List (Nat × Nat) → List (Nat × Nat)
  | [] => [(off, n)]
  | p :: t => if off < p.1 then (off, n) :: p :: t else p :: rangePut off n t

/-- How many bytes from 0 on the ranges, in order of offset, cover without a gap. -/
def rangesCover (l : List (Nat × Nat)) : Nat := l.foldl (fun b p => if p.1 ≤ b then max b (p.1 + p.2) else b) 0

/-- Where assembly `i` is staged in region 8 of the Cellar (R429; DESIGN CHOICE, log entry 208: a place of 16 MiB for each). -/
def stagingAt (i : Nat) : Nat := 0x98000000 + i * 0x01000000

/-- The staging assemblies changed. -/
def Chip.setAsm (c : Chip) (i : Nat) (a : Option DopAsm) : Chip := c.setDop { c.dop with asms := mset none c.dop.asms i a }

/-- Bytes of staging that the assemblies other than `i` take. -/
def Chip.stagingUsed (c : Chip) (i : Nat) : Nat :=
  ((List.range 4).filter (fun j => j ≠ i)).foldl (fun n j => match mget none c.dop.asms j with | some a => n + a.total | none => n) 0

/-- HC0 can write the staging place of assembly `i`. -/
def Chip.stagingOpen (c : Chip) (i : Nat) : Bool := c.celUp && c.celMayWrite .hc0 true (stagingAt i)

/-- One segment: its bytes staged in region 8 and answered PARTIAL, or the BLOB read back from there and applied with `f` once it
is whole. BUSY where the Cellar cannot take the bytes; a BLOB that comes back poisoned is dropped with BUSY (DESIGN CHOICE, log
entry 208). -/
def Chip.segment (c : Chip) (sid : BitVec 32) (it : DopItem) (f : Chip → List Byte → Chip × Option Nat) : Chip × Option Nat :=
  let mine := fun i => match mget none c.dop.asms i with | some a => a.sid = sid && a.idx = it.idx && a.sub = it.sub | none => false
  let slot := match (List.range 4).find? mine with
    | some i => some i
    | none => (List.range 4).find? fun i => (mget none c.dop.asms i).isNone
  match slot with
  | none => (c, some stBusy)
  | some i =>
    if it.total > 16777215 || it.off + it.val.length > it.total then (c, some stRange)
    else if c.stagingUsed i + it.total > 16777216 || !c.stagingOpen i then (c, some stBusy)
    else
      let old := match mget none c.dop.asms i with
        | some a => if mine i && a.total = it.total then a.parts else []
        | none => []
      let parts := rangePut it.off it.val.length old
      let c := c.engPut .hc0 true (stagingAt i + it.off) it.val
      if rangesCover parts = it.total then
        let (c, b) := (c.setAsm i none).engBytes .hc0 true (stagingAt i) it.total
        if anyBad b then (c, some stBusy) else f c (datas b)
      else (c.setAsm i (some { sid := sid, idx := it.idx, sub := it.sub, total := it.total, parts := parts, at_ := c.now }), some stPartial)

/-! ## SET and the control tick (R436..R438) -/

/-- The control tick of a time in ns. -/
def tickOf (t : Nat) : Nat := t / 1000000

/-- One item applied: its status, none while it waits. -/
def Chip.itemApply (c : Chip) (q : DopReq) (it : DopItem) : Chip × Option Nat :=
  let x : DopCtx := { level := q.level, ver := q.ver, sid := q.sid, group := q.group, port := q.port }
  if q.level = 0 then (c, some stLevel)
  else if !it.seg then c.objSet x it.idx it.sub it.ty it.val it.sync
  else
    let early := match c.objCheck x it.idx it.sub it.ty [] with
      | .error st => if st ≤ stLevel then some st else none
      | .ok _ => none
    match early with
    | some st => (c, some st)
    | none => c.segment q.sid it fun c v => c.objSet x it.idx it.sub it.ty v it.sync

/-- Where an undecided item stands among the requests: its order, request and place. -/
structure DopDue where
  key : Nat × Nat × Nat
  req : Nat
  item : Nat
  deriving DecidableEq, Repr

/-- The order of two due items: by their keys, then as they came. -/
def dueBefore (a b : DopDue) : Bool :=
  a.key.1 < b.key.1 || (a.key.1 = b.key.1 && (a.key.2.1 < b.key.2.1 || (a.key.2.1 = b.key.2.1 && a.key.2.2 < b.key.2.2)))

/-- Insertion before the first later one. -/
def dueInsert (x : DopDue) : List DopDue → List DopDue
  | [] => [x]
  | y :: t => if dueBefore x y then x :: y :: t else y :: dueInsert x t

/-- The undecided items for which `f` gives a key, in order. -/
def Chip.dueItems (c : Chip) (f : DopReq → DopItem → Option (Nat × Nat × Nat)) : List DopDue :=
  let all := (List.range c.dop.reqs.length).flatMap fun i => match c.dop.reqs[i]? with
    | none => []
    | some q => (List.range q.items.length).filterMap fun j => match q.items[j]? with
      | some it => if it.status.isSome then none else (f q it).map fun k => ({ key := k, req := i, item := j } : DopDue)
      | none => none
  all.foldl (fun l x => dueInsert x l) []

/-- The status of one item entered. -/
def Chip.setStatus (c : Chip) (i j : Nat) (st : Option Nat) : Chip :=
  c.setDop { c.dop with reqs := c.dop.reqs.mapIdx fun i' q => if i' ≠ i then q else
    { q with items := q.items.mapIdx fun j' it => if j' ≠ j then it else { it with status := st } } }

/-- Due items applied one after another. -/
def Chip.applyDue (c : Chip) (l : List DopDue) : Chip :=
  c.each l fun c d => match c.dop.reqs[d.req]? with
    | none => c
    | some q => match q.items[d.item]? with
      | none => c
      | some it =>
        let (c, st) := c.itemApply q it
        c.setStatus d.req d.item st

/-- The answer to a request all of whose items are decided (R426, R436). -/
def Chip.setReply (c : Chip) (q : DopReq) : Chip :=
  let l := q.items.map fun it => replyItem it it.ty (it.status.getD 0) none []
  if q.group then (if q.ack && !q.items.any (·.status = some stIgnored) then c.groupReply q (replyBody q.req 9130 l) else c)
  else match c.liveSession q.sid with
  | some s => c.replyKept s 0x13 q.req (replyBody q.req s.maxBody l) q.relayed q.ip q.udp q.port
  | none => c

/-- All requests that are decided answered. -/
def Chip.answerAll (c : Chip) : Chip :=
  let done := fun (q : DopReq) => q.items.all (·.status.isSome)
  let l := c.dop.reqs.filter done
  (c.setDop { c.dop with reqs := c.dop.reqs.filter fun q => !done q }).each l fun c q => c.setReply q

/-- The scheduled writes held. -/
def Chip.scheduled (c : Chip) : Nat :=
  c.dop.reqs.foldl (fun n q => n + (q.items.filter fun it => it.timed && it.status.isNone).length) 0

/-- What is decided of an item when its request is taken: FEATURE, RANGE or BUSY (R426, R438). -/
def Chip.itemEarly (c : Chip) (v : Nat) (n : Nat) (it : DopItem) : Option Nat :=
  if !it.featureOk v then some stFeature
  else if !it.timed then none
  else if it.at_ > c.now + 604800 * nsPerSec then some stRange
  else if n ≥ 256 then some stBusy
  else none

/-- The items with those statuses; `n` scheduled writes are held already. -/
def Chip.itemsEarly (c : Chip) (v : Nat) : Nat → List DopItem → List DopItem
  | _, [] => []
  | n, it :: t =>
    let st := c.itemEarly v n it
    { it with status := st } :: c.itemsEarly v (if it.timed && st.isNone then n + 1 else n) t

/-- A late write: its control tick has been applied. -/
def Chip.isLate (c : Chip) (ts : Nat) : Bool := match c.dop.tick with | some t => tickOf ts ≤ t | none => false

/-- A SET queued for its control tick (R436); the writes of one whose tick has been applied are applied at once. -/
def Chip.setQueue (c : Chip) (q : DopReq) : Chip :=
  let q := { q with items := c.itemsEarly q.ver c.scheduled q.items }
  let i := c.dop.reqs.length
  let c := c.setDop { c.dop with reqs := c.dop.reqs ++ [q] }
  if !c.isLate q.ts then (if q.items.all (·.status.isSome) then c.answerAll else c)
  else
    let l := (List.range q.items.length).filterMap fun j => match q.items[j]? with
      | some it => if it.timed || it.status.isSome then none else some ({ key := (0, 0, 0), req := i, item := j } : DopDue)
      | none => none
    let c := c.each l fun c _ => c.dopCount 7
    (c.applyDue l).answerAll

/-- A SET of session `s`, or of a group. -/
def Chip.setTake (c : Chip) (m : DopMsg) (h : DopHdr) (s : Option DopSess) (body : List Byte) : Chip :=
  match dopBody false body with
  | none => c.dopDiscard
  | some (req, items) =>
    let q : DopReq := { ts := m.ts, src := h.src, dst := h.dst, ver := (match s with | some s => s.ver | none => h.ver)
                        level := (match s with | some s => s.level | none => h.level), sid := h.sid, group := s.isNone, ack := h.ackReq
                        req := req, items := items, ip := m.ip, udp := m.udp, port := m.port, relayed := m.relayed }
    match s with
    | none => c.setQueue q
    | some s => c.unlessKept s m req fun c => if c.dop.reqs.any fun r => r.sid = s.sid && r.req = req then c else c.setQueue q

/-- Start of control tick `m`: the writes of the ticks up to m − 2, then the scheduled ones whose AT falls before tick m
(R436). -/
def Chip.tickApply (c : Chip) : Chip :=
  let m := tickOf c.now
  let c := c.setDop { c.dop with tick := if m < 2 then c.dop.tick else some (m - 2) }
  let c := c.applyDue (c.dueItems fun q it => if !it.timed && tickOf q.ts + 2 ≤ m then some (q.ts, q.src, 0) else none)
  let c := c.applyDue (c.dueItems fun q it => if it.timed && tickOf it.at_ < m then some (it.at_, q.ts, q.src) else none)
  c.answerAll

/-- Firmware enables the raster engine, in strict mode, once after its start (R511): when the servo has reached LOCKED, or at once
where no PTP port is enabled. DEDUCED (log entry 236): a follower waits for ALIGNED, and a unit of a pair for SYNCING. -/
def Chip.rasStart (c : Chip) : Chip :=
  let ready := if c.pairState ≠ 0 then decide (2 ≤ c.pairState) else if c.pos ≠ 0 then c.rb rTRL_STATUS 0 0 4
    else c.objNat 0x2010 3 3 = 0 || c.rf rTIME_SERVO 0 0 2 0 = 2
  if c.boot.rasWait && ready then
    (c.setBoot { c.boot with rasWait := false }).fwWrite rRAS_CTRL.base (setBit (setBit (c.rd rRAS_CTRL) 0 true) 1 true)
  else c

/-- What firmware looks after at its control ticks beside the writes. -/
def Chip.firmPoll (c : Chip) : Chip :=
  let c := c.rasStart.rwcFlush.gridCheck.discPoll.pairPoll.policyTake
  let c := c.mirrorDue (some c.lastCommit) (!c.rasStopped)
  let c := if c.rasStopped then c.dflCheck else c
  let own := c.rf rCDR_EPOCH 0 0 15 0
  if own ≠ 0 && c.objNat 0x8004 0 0 ≠ own then (c.holdObj 0x8004 0 (natLE 2 own)).stLater (objKey 0x8004 0) (natLE 2 own) else c

/-! ## The commands -/

/-- DOP_HELLO (R417). -/
def execDopHello (m : DopMsg) (s : State) : Host.Outcome State Fault Refusal :=
  run (fun c => c.when c.dopRuns fun c => c.dopTake m 0x01 fun c h => c.dopHello m h) s

/-- CLOSE (R420). -/
def execDopClose (m : DopMsg) (s : State) : Host.Outcome State Fault Refusal :=
  run (fun c => c.when c.dopRuns fun c => c.dopTake m 0x03 fun c h =>
    if h.group then c.dopDiscard else c.sessionTake m h fun c x _ => c.endSession x) s

/-- KEEPALIVE (R420). -/
def execDopKeepalive (m : DopMsg) (s : State) : Host.Outcome State Fault Refusal :=
  run (fun c => c.when c.dopRuns fun c => c.dopTake m 0x04 fun c h =>
    if h.group then c.dopDiscard else c.sessionTake m h fun c x body =>
      if body.isEmpty then c.sessSend x 0x04 [] m.relayed m.ip m.udp m.port else c.dopDiscard) s

/-- GET (R426, R437). -/
def execDopGet (m : DopMsg) (s : State) : Host.Outcome State Fault Refusal :=
  run (fun c => c.when c.dopRuns fun c => c.dopTake m 0x10 fun c h =>
    if h.group then c.dopDiscard else c.sessionTake m h fun c x body => c.getTake m x body) s

/-- SET (R436). -/
def execDopSet (m : DopMsg) (s : State) : Host.Outcome State Fault Refusal :=
  run (fun c => c.when c.dopRuns fun c => c.dopTake m 0x12 fun c h =>
    if h.group then c.groupTake m h fun c body => c.setTake m h none body
    else c.sessionTake m h fun c x body => c.setTake m h (some x) body) s

/-- CONTROL_TICK_APPLY (R436). -/
def execControlTickApply (s : State) : Host.Outcome State Fault Refusal := run (fun c => c.when c.dopRuns fun c => c.tickApply.firmPoll) s

/-- HALF_SESSION_EXPIRY (R420). -/
def execHalfSessionExpiry (sid : BitVec 32) (s : State) : Host.Outcome State Fault Refusal :=
  run (fun c => c.when c.dopRuns fun c => match c.dopSess sid with
    | some x => if x.opened then c else c.endSession x
    | none => c) s

/-- SESSION_IDLE_TIMEOUT (R420). -/
def execSessionIdleTimeout (sid : BitVec 32) (s : State) : Host.Outcome State Fault Refusal :=
  run (fun c => c.when c.dopRuns fun c => match c.dopSess sid with
    | some x => if x.opened then c.endSession x else c
    | none => c) s

/-- ASSEMBLY_TIMEOUT (R429). -/
def execAssemblyTimeout (i : Fin 4) (s : State) : Host.Outcome State Fault Refusal := run (fun c => c.when c.dopRuns fun c => c.setAsm i none) s

/-! ## The stack's side (R440) -/

/-- The bytes of one STACK message: its offset and part. -/
def stackPart (b : List Word) : Nat × List Byte :=
  let w := (b.getD 5 0).toNat
  let total := w / 65536
  let off := w % 65536
  (off, ((b.drop 6).flatMap wordBytes).take (min 4080 (total - off)))

/-- A relayed message or a reply whole again. -/
def Chip.stackWhole (c : Chip) (kind : Nat) (m : DopMsg) : Chip :=
  if kind = 1 then
    if c.pos = 0 || !c.dopRuns then c else
    let m := { m with relayed := true }
    let sess := fun (c : Chip) (h : DopHdr) (f : Chip → DopSess → List Byte → Chip) => if h.group then c.dopDiscard else c.sessionTake m h f
    match (dopHdr m.bytes).type with
    | 0x01 => c.dopTake m 0x01 fun c h => c.dopHello m h
    | 0x03 => c.dopTake m 0x03 fun c h => sess c h fun c x _ => c.endSession x
    | 0x04 => c.dopTake m 0x04 fun c h => sess c h fun c x body => if body.isEmpty then c.sessSend x 0x04 [] true m.ip m.udp m.port else c.dopDiscard
    | 0x10 => c.dopTake m 0x10 fun c h => sess c h fun c x body => c.getTake m x body
    | 0x12 => c.dopTake m 0x12 fun c h =>
        if h.group then c.groupTake m h fun c body => c.setTake m h none body else c.sessionTake m h fun c x body => c.setTake m h (some x) body
    | _ => c.dopDiscard
  else if c.pos = 0 then c.emit (.dop m.ip m.udp m.bytes) else c

/-- A STACK message's words taken by firmware: parts are kept until they make a whole message; words of another kind are
firmware's own data and stay (R398). -/
def Chip.stackTake (c : Chip) (b : List Word) : Chip :=
  let w := b.getD 0 0
  let kind := fld w 31 28
  if kind ≠ 1 && kind ≠ 2 then c.setTrl { c.trl with stackIn := c.trl.stackIn ++ [b] } else
  let key := fun (x : List Word) => (x.take 5, (x.getD 5 0).toNat / 65536)
  let parts := (c.trl.stackIn.filter fun x => key x = key b && (stackPart x).1 < (stackPart b).1) ++ [b]
  let bytes := asmBytes (parts.map stackPart)
  let rest := c.trl.stackIn.filter fun x => key x ≠ key b
  if bytes.length < (b.getD 5 0).toNat / 65536 then c.setTrl { c.trl with stackIn := rest ++ parts }
  else (c.setTrl { c.trl with stackIn := rest }).stackWhole kind
    { bytes := bytes, ip := b.getD 1 0, udp := BitVec.ofNat 16 (fld w 15 0), ts := tsOf (b.getD 2 0) (b.getD 3 0) (b.getD 4 0)
      port := ⟨fld w 27 24 % 3, Nat.mod_lt _ (by decide)⟩ }

/-- STACK (R398, R440). -/
def execStackMsg (m : TrlMsg) (s : State) : Host.Outcome State Fault Refusal := run (fun c => c.trlTake 5 m fun c => c.stackTake m.body) s

/-! ## The commit point (R192, R386, R444) -/

/-- COMMIT_POINT (R55, R192): a fire of a comparator of destination 2 reaches the raster engine; and what firmware does at it: mirrored writes, RWC registers without a shadow, APPLY in HOLD, a
change of the domain feature level. -/
def execCommitPoint (s : State) : Host.Outcome State Fault Refusal :=
  run (fun c => c.when (c.ras.commitDue ≠ 0) fun c =>
    let c := c.setRas { c.ras with commitDue := c.ras.commitDue - 1 }
    let k := BitVec.ofNat 32 c.ras.k
    let live := c.up .pix && c.rb rRAS_CTRL 0 0 0
    let c := c.commitPoint
    c.when (live && c.fwRuns) fun c => (c.rwcFlush.policyTake.mirrorDue (some k)).dflCheck.gridCheck) s

end Sys2Proof.Machine
end

