-- ==== Sys2Proof/Machine/Porch.lean ====
section
/-! DEFINITION. The Porch (spec/18 R542..R548). -/

namespace Sys2Proof.Machine

/-! ## Lines -/

/-- A hexadecimal digit. -/
def hexDigit (n : Nat) : Byte := BitVec.ofNat 8 (if n < 10 then 0x30 + n else 0x37 + n)

/-- `k` hexadecimal digits of a number. -/
def hexOf (k v : Nat) : List Byte := (List.range k).map fun i => hexDigit (v / 16 ^ (k - 1 - i) % 16)

/-- A number without leading zeros. -/
def hexNat (v : Nat) : List Byte :=
  let l := (hexOf 16 v).dropWhile (· = 0x30)
  if l.isEmpty then [0x30] else l

/-- A byte, and bytes with spaces between. -/
def hexBytes : List Byte → List Byte
  | [] => []
  | [b] => hexOf 2 b.toNat
  | b :: t => hexOf 2 b.toNat ++ 0x20 :: hexBytes t

/-- The end of a line. -/
def crlf : List Byte := [0x0D, 0x0A]

/-- Words of a line, a space between two. -/
def joinWords : List (List Byte) → List Byte
  | [] => []
  | [w] => w
  | w :: t => w ++ 0x20 :: joinWords t

/-- A line the Porch prints on UART0. -/
def Chip.line (c : Chip) (l : List Byte) : Chip := c.emit (.uart 0 (l ++ crlf))

/-- Bytes printed 16 to a line. -/
def Chip.dumpLines (c : Chip) (l : List Byte) : Chip :=
  c.each (List.range ((l.length + 15) / 16)) fun c i => c.line (hexBytes (slice l (16 * i) 16))

/-! ## Commands (R544..R546) -/

/-- How a command ends. -/
inductive PorchEnd where
  | ok | locked | bus | range | timeout | fail
  deriving DecidableEq, Repr

/-- The line that says so. -/
def PorchEnd.text : PorchEnd → String
  | .ok => "OK"
  | .locked => "ERR LOCKED"
  | .bus => "ERR BUS"
  | .range => "ERR RANGE"
  | .timeout => "ERR TIMEOUT"
  | .fail => "ERR FAIL"

/-- The full command set is in force (R546). -/
def Chip.porchFull (c : Chip) : Bool :=
  c.fuses.crcOk && match c.lc with
    | 0 | 1 => true
    | 2 => c.unlk ≠ 0
    | 3 => c.unlk = 2
    | _ => false

/-- A command line: echoed, carried out where it is in the set in force, and ended. -/
def Chip.porchLine (c : Chip) (words : List (List Byte)) (readOnly : Bool) (f : Chip → Chip × PorchEnd) : Chip :=
  c.when (c.alive .sys && c.boot.hc0 = .porch && c.boot.load.isNone) fun c =>
    let c := c.line (joinWords words)
    let (c, e) := if readOnly || c.porchFull then f c else (c, .locked)
    c.line (ascii e.text)

/-- The Porch's access as master 9. -/
def porchAccess : Access := { master := .porch, rom := true }

/-- A word read by master 9; none on a bus error. -/
def Chip.porchRead (c : Chip) (a : Nat) : Chip × Option Word :=
  let c := c.busRead porchAccess (BitVec.ofNat 32 a)
  (c, if c.rsp.err then none else some c.rsp.val)

/-- Words read one after another, up to the first bus error. -/
def Chip.porchReads (c : Chip) (a : Nat) : Nat → Chip × Option (List Byte)
  | 0 => (c, some [])
  | n + 1 =>
    match c.porchRead a with
    | (c, none) => (c, none)
    | (c, some w) =>
      let (c, l) := c.porchReads (a + 4) n
      (c, l.map fun l => wordBytes w ++ l)

/-- The word `v` written over `n` words from `a` on, up to the first bus error. -/
def Chip.porchFills (c : Chip) (a : Nat) (v : Word) : Nat → Chip × PorchEnd
  | 0 => (c, .ok)
  | n + 1 =>
    let c := c.busWrite porchAccess (BitVec.ofNat 32 a) v
    if c.rsp.err then (c, .bus) else c.porchFills (a + 4) v n

/-- AUTOBAUD (R543): the rate measured over a line of 0x55 bytes. -/
def execAutobaud (rate : BitVec 32) (s : State) : Host.Outcome State Fault Refusal :=
  run (fun c => c.when (c.alive .sys && c.boot.hc0 = .porch && c.boot.load.isNone && 9600 ≤ rate.toNat && rate.toNat ≤ 3000000) fun c =>
    let c := (c.setBoot { c.boot with baud := rate.toNat }).wr rUART_DIV 0 0 (BitVec.ofNat 32 ((200000000 / rate.toNat + 1) / 2))
    c.line (joinWords [ascii "BAUD", hexNat rate.toNat])) s

/-- The read-only commands, and the others. -/
def porchNames (full : Bool) : List String :=
  ["HELP", "ID", "PEEK", "DUMP", "ATTIC", "LIFE", "CHAL", "BOOT"] ++ if full then ["POKE", "FILL", "LOAD", "GO", "ATTIC CLR", "LIFE c"] else []

/-- HELP (R545). -/
def execPorchHelp (s : State) : Host.Outcome State Fault Refusal :=
  run (fun c => c.porchLine [ascii "HELP"] true fun c => (c.each (porchNames c.porchFull) fun c n => c.line (ascii n), .ok)) s

/-- ID (R545): the device type, then the identity record. -/
def execPorchId (s : State) : Host.Outcome State Fault Refusal :=
  run (fun c => c.porchLine [ascii "ID"] true fun c =>
    (c.line (joinWords [hexNat 0x4805, hexNat 0x4858, hexNat 0x4805, hexNat 0xA0, hexNat c.fuses.serial.toNat, hexNat c.boot.vint]), .ok)) s

/-- PEEK a (R545). -/
def execPorchPeek (addr : Addr) (s : State) : Host.Outcome State Fault Refusal :=
  run (fun c => c.porchLine [ascii "PEEK", hexNat addr.toNat] true fun c => match c.porchRead addr.toNat with
    | (c, some w) => (c.line (hexOf 8 w.toNat), .ok)
    | (c, none) => (c, .bus)) s

/-- POKE a v (R545). -/
def execPorchPoke (addr : Addr) (v : Word) (s : State) : Host.Outcome State Fault Refusal :=
  run (fun c => c.porchLine [ascii "POKE", hexNat addr.toNat, hexNat v.toNat] false fun c => c.porchFills addr.toNat v 1) s

/-- DUMP a n (R545). -/
def execPorchDump (addr : Addr) (n : BitVec 32) (s : State) : Host.Outcome State Fault Refusal :=
  run (fun c => c.porchLine [ascii "DUMP", hexNat addr.toNat, hexNat n.toNat] true fun c =>
    let a := addr.toNat
    if n.toNat = 0 || n.toNat > 65536 then (c, .range)
    else match c.porchReads (a / 4 * 4) ((a + n.toNat + 3) / 4 - a / 4) with
      | (c, some l) => (c.dumpLines (slice l (a % 4) n.toNat), .ok)
      | (c, none) => (c, .bus)) s

/-- FILL a n v (R545). -/
def execPorchFill (addr : Addr) (n : BitVec 32) (v : Word) (s : State) : Host.Outcome State Fault Refusal :=
  run (fun c => c.porchLine [ascii "FILL", hexNat addr.toNat, hexNat n.toNat, hexNat v.toNat] false fun c =>
    if n.toNat % 4 ≠ 0 then (c, .range) else c.porchFills addr.toNat v (n.toNat / 4)) s

/-! ## LOAD (R547) -/

/-- A transfer begun: READY. -/
def Chip.loadStart (c : Chip) (words : List (List Byte)) (ok : Bool) (prep : Chip → Chip) (addr : Option Nat) (n : Nat) : Chip :=
  c.when (c.alive .sys && c.boot.hc0 = .porch && c.boot.load.isNone) fun c =>
    let c := c.line (joinWords words)
    if !c.porchFull then c.line (ascii "ERR LOCKED")
    else if !ok then c.line (ascii "ERR RANGE")
    else
      let c := prep c
      (c.setBoot { c.boot with load := some { addr := addr, want := n } }).line (ascii "READY")

/-- LOAD a n. -/
def execPorchLoad (addr : Addr) (n : BitVec 32) (s : State) : Host.Outcome State Fault Refusal :=
  run (fun c => c.loadStart [ascii "LOAD", hexNat addr.toNat, hexNat n.toNat] true id (some addr.toNat) n.toNat) s

/-- LOAD STAGE n: the staging sectors it needs are erased. -/
def execLoadStage (n : BitVec 32) (s : State) : Host.Outcome State Fault Refusal :=
  run (fun c => c.loadStart [ascii "LOAD", ascii "STAGE", hexNat n.toNat] (n.toNat ≤ stagingSize)
    (fun c => c.when (!c.pwr.pfw) fun c => c.fwErase stagingBase ((n.toNat + 65535) / 65536 * 65536)) none n.toNat) s

/-- The transfer ended. -/
def Chip.loadEnd (c : Chip) (e : PorchEnd) : Chip := (c.setBoot { c.boot with load := none }).line (ascii e.text)

/-- Master 9 stores bytes at `a`: words of registers, or a memory. -/
def Chip.porchStore (c : Chip) (a : Nat) (l : List Byte) : Chip × Bool :=
  let n := BitVec.ofNat 32 a
  match c.refusal porchAccess a with
  | some cause =>
    let c := c.busErr .porch (c.worldS porchAccess) true n cause
    (c, false)
  | none =>
    if areaOf a == .regs then
      let (c, e) := (List.range ((l.length + 3) / 4)).foldl (fun (x : Chip × PorchEnd) i =>
        if x.2 = .ok then x.1.porchFills (a + 4 * i) (leWordAt l (4 * i)) 1 else x) (c, .ok)
      (c, e = .ok)
    else
      let c := c.memWrite porchAccess a l
      (c, !c.rsp.err)

/-- A correct block stored: the first `want` bytes of the transfer. -/
def Chip.loadStore (c : Chip) (x : PorchLoad) (num : Byte) (data : List Byte) : Chip :=
  let keep := data.take (x.want - x.got)
  let c := c.setBoot { c.boot with load := some { x with got := x.got + data.length, block := num } }
  match x.addr with
  | none => if c.pwr.pfw then c.loadEnd .fail else (c.fwProg (stagingBase + x.got) keep).emit (.uart 0 [0x06])
  | some a => match c.porchStore (a + x.got) keep with
    | (c, true) => c.emit (.uart 0 [0x06])
    | (c, false) => c.loadEnd .bus

/-- LOAD_BLOCK (R547): a block's number, length field, data and CRC. -/
def execLoadBlock (num : Byte) (len : BitVec 16) (data : List Byte) (crc : Word) (s : State) : Host.Outcome State Fault Refusal :=
  run (fun c => match if c.alive .sys && c.boot.hc0 = .porch then c.boot.load else none with
    | none => c
    | some x =>
      if len = 0 || len.toNat > 1024 || data.length ≠ len.toNat || crc32c data ≠ crc then c.emit (.uart 0 [0x15])
      else if num = x.block + 1 then c.loadStore x num data
      else if num = x.block && x.got ≠ 0 then c.emit (.uart 0 [0x06])
      else c.emit (.uart 0 [0x15])) s

/-- A staged container journalled as DOWNLOADED, no piece missing. -/
def Chip.stageJournal (c : Chip) (n : Nat) : Chip :=
  let x := c.jrLoad
  let c := c.fwProg (jrBase x.half) (List.replicate 1024 0)
  (c.setUpd { x with state := 2, err := 0, built := 0, arm := none, toV := c.ctrNat 12 4, cid := sha256 (c.ctr 0 n) }).journal false

/-- LOAD_END (R547): the byte 0x04. -/
def execLoadEnd (s : State) : Host.Outcome State Fault Refusal :=
  run (fun c => match if c.alive .sys && c.boot.hc0 = .porch then c.boot.load else none with
    | none => c
    | some x =>
      if x.got ≠ x.want then c.loadEnd .range
      else if x.addr.isSome then c.loadEnd .ok
      else if c.pwr.pfw then c.loadEnd .fail
      else (c.stageJournal x.want).loadEnd .ok) s

/-- LOAD_TIMEOUT (R547): 10 s without a byte. -/
def execLoadTimeout (s : State) : Host.Outcome State Fault Refusal :=
  run (fun c => c.when (c.alive .sys && c.boot.hc0 = .porch && c.boot.load.isSome) fun c => c.loadEnd .timeout) s

/-! ## GO, the Attic, the life cycle, unlocking, BOOT (R545, R548) -/

/-- GO a (R548): the image copy at `a` is started where it is valid and not below VFLOOR. -/
def execPorchGo (addr : Addr) (s : State) : Host.Outcome State Fault Refusal :=
  run (fun c => c.when (c.alive .sys && c.boot.hc0 = .porch && c.boot.load.isNone) fun c =>
    let c := c.line (joinWords [ascii "GO", hexNat addr.toNat])
    if !c.porchFull then c.line (ascii "ERR LOCKED")
    else
      let (c, l) := c.imageAt addr.toNat
      if c.copyOk l then (c.line (ascii "OK")).startImage l 3 false else c.line (ascii "ERR FAIL")) s

/-- ATTIC i (R545). -/
def execPorchAttic (i : Fin 2) (s : State) : Host.Outcome State Fault Refusal :=
  run (fun c => c.porchLine [ascii "ATTIC", hexNat i] true fun c =>
    let (c, _, ok) := c.dumpRead i
    let c := c.line (ascii (if ok then "VALID" else "INVALID"))
    let (c, l) := c.dumpBytes i
    (c.dumpLines l, .ok)) s

/-- ATTIC CLR (R545). -/
def execAtticClr (s : State) : Host.Outcome State Fault Refusal :=
  run (fun c => c.porchLine [ascii "ATTIC", ascii "CLR"] false fun c => (c.each [0, 1] fun c a => c.atticPut a 0 [0, 0, 0, 0], .ok)) s

/-- The name of a life-cycle state. -/
def lcName : Nat → String
  | 0 => "BLANK"
  | 1 => "PROVISIONED"
  | 2 => "DEPLOYED"
  | 3 => "RETURN"
  | _ => "SCRAP"

/-- LIFE (R545). -/
def execPorchLife (s : State) : Host.Outcome State Fault Refusal :=
  run (fun c => c.porchLine [ascii "LIFE"] true fun c => (c.line (joinWords [hexNat c.lc, ascii (lcName c.lc)]), .ok)) s

/-- LIFE c (R545, R479): the request as master 9. -/
def execLifeRequest (code : Byte) (s : State) : Host.Outcome State Fault Refusal :=
  run (fun c => c.porchLine [ascii "LIFE", hexNat code.toNat] false fun c =>
    let c := c.busWrite porchAccess (BitVec.ofNat 32 rLC_REQ.base) (BitVec.ofNat 32 (0x4C4354 * 256 + code.toNat))
    (c, if c.rsp.err then .bus else if c.vlt.lcTarget = some code.toNat then .ok else .fail)) s

/-- The slot of CHAL I or CHAL V. -/
def chalSlot (vendor : Bool) : Nat := if vendor then 3 else 2

/-- The line of CHAL. -/
def chalWords (vendor : Bool) (r : List Byte) : List (List Byte) :=
  [ascii "CHAL", ascii (if vendor then "V" else "I")] ++ if r.isEmpty then [] else [r.flatMap fun b => hexOf 2 b.toNat]

/-- CHAL I, CHAL V (R545): a nonce from UNONCE. -/
def execChalNonce (vendor : Bool) (s : State) : Host.Outcome State Fault Refusal :=
  run (fun c => c.porchLine (chalWords vendor []) true fun c =>
    if !c.dusOk then (c, .fail) else
    let (c, n) := c.fwVlt 7 (chalSlot vendor) 0 [] []
    if n ≠ 0 then (c, .fail) else (c.line ((c.vltBuf 0 32).flatMap fun b => hexOf 2 b.toNat), .ok)) s

/-- CHAL I r, CHAL V r (R545, R491): UNLOCK with the response. -/
def execChalResponse (vendor : Bool) (r : List Byte) (s : State) : Host.Outcome State Fault Refusal :=
  run (fun c => c.porchLine (chalWords vendor r) true fun c =>
    if !c.dusOk then (c, .fail) else
    let (c, n) := c.fwVlt 8 (chalSlot vendor) 0 [] (fitBytes r 32)
    (c, if n = 0 then .ok else .fail)) s

/-- BOOT (R545): the slot choice of R509. -/
def execPorchBoot (s : State) : Host.Outcome State Fault Refusal :=
  run (fun c => c.when (c.alive .sys && c.boot.hc0 = .porch && c.boot.load.isNone && !c.pwr.pfw) fun c =>
    ((c.line (ascii "BOOT")).line (ascii "OK")).bootChoice) s

/-- PORCH_WDOG_KICK (R542). -/
def execPorchWdogKick (s : State) : Host.Outcome State Fault Refusal :=
  run (fun c => c.when (c.alive .sys && c.boot.hc0 = .porch) fun c => c.wdogKick 0) s

end Sys2Proof.Machine
end

