-- ==== Sys2Proof/Machine/RegCmds.lean ====
section
/-! DEFINITION. The commands that are a write or a read of one register: each is that access, with the bit that names
the command set in what is written. -/

namespace Sys2Proof.Machine

/-- Register (i, j) of row `r` written with `v` by access `a`. -/
def wrReg (a : Access) (r : RegRow) (i j : Nat) (v : Word) (s : State) : Host.Outcome State Fault Refusal :=
  run (fun c => c.busWrite a (BitVec.ofNat 32 (r.addr i j)) v) s

/-- Register (i, j) of row `r` read by access `a`. -/
def rdReg (a : Access) (r : RegRow) (i j : Nat) (s : State) : Host.Outcome State Fault Refusal :=
  run (fun c => c.busRead a (BitVec.ofNat 32 (r.addr i j))) s

/-- The CMD word of a Vault operation: OP, SLOT and DSLOT (R489). -/
def cmdWord (op slot dslot : Nat) : Word := BitVec.ofNat 32 (op * 2 ^ 28 + slot * 2 ^ 16 + dslot * 2 ^ 8)

/-! ## Any register -/

/-- REGISTER_WRITE (R6): a write of the word at `addr`. -/
def execRegisterWrite (a : Access) (addr : Addr) (v : Word) (s : State) : Host.Outcome State Fault Refusal :=
  run (fun c => c.busWrite a addr v) s

/-! ## SYS and TIME -/

/-- WATCHDOG_KICK (R531). -/
def execWatchdogKick (a : Access) (w : Fin 3) (v : Word) (s : State) : Host.Outcome State Fault Refusal :=
  wrReg a rWDOG_KICK w 0 v s

/-- SOFT_RESET_REQUEST (R529). -/
def execSoftResetRequest (a : Access) (v : Word) (s : State) : Host.Outcome State Fault Refusal :=
  wrReg a rRSTREQ 0 0 v s

/-- FLASH_PAGE_PROGRAM (R502): GO with OP 1. -/
def execFlashPageProgram (a : Access) (s : State) : Host.Outcome State Fault Refusal :=
  wrReg a rFLASH_CTRL 0 0 0x80000001 s

/-- FLASH_SECTOR_ERASE (R502): GO with OP 2. -/
def execFlashSectorErase (a : Access) (s : State) : Host.Outcome State Fault Refusal :=
  wrReg a rFLASH_CTRL 0 0 0x80000002 s

/-- FLASH_RUNSLOT_WRITE (R529). -/
def execFlashRunslotWrite (a : Access) (v : Word) (s : State) : Host.Outcome State Fault Refusal :=
  wrReg a rRUNSLOT 0 0 v s

/-- TIME_ADDEND_WRITE (R37, R38). -/
def execTimeAddendWrite (a : Access) (v : Word) (s : State) : Host.Outcome State Fault Refusal :=
  wrReg a rTIME_ADDEND 0 0 v s

/-- STEP (R41): TIME_CTRL written with STEP = 1. -/
def execStepWrite (a : Access) (v : Word) (s : State) : Host.Outcome State Fault Refusal :=
  wrReg a rTIME_CTRL 0 0 (v ||| 0x4) s

/-- TIME_SNAP_READ (R40): a read of TIME_SNAPm_NS. -/
def execTimeSnapRead (a : Access) (m : Fin 4) (s : State) : Host.Outcome State Fault Refusal :=
  rdReg a rSNAP m 0 s

/-- TXTS_POP (R43): a read of TIME_TXTS_TAG. -/
def execTxtsPop (a : Access) (s : State) : Host.Outcome State Fault Refusal :=
  rdReg a rTXTS_TAG 0 0 s

/-- ARM (R592): TIME_CMPn_CTRL written with ARM = 1. -/
def execCmpArm (a : Access) (n : Fin 16) (v : Word) (s : State) : Host.Outcome State Fault Refusal :=
  wrReg a rCMP_CTRL n 0 (v ||| 0x1) s

/-- DISARM (R54): TIME_CMPn_CTRL written with DISARM = 1. -/
def execCmpDisarm (a : Access) (n : Fin 16) (v : Word) (s : State) : Host.Outcome State Fault Refusal :=
  wrReg a rCMP_CTRL n 0 (v ||| 0x2) s

/-- APPLY (R62). -/
def execGridApply (a : Access) (v : Word) (s : State) : Host.Outcome State Fault Refusal :=
  wrReg a rGRID_CTRL 0 0 (v ||| 0x1) s

/-- TS_STATE (R67): TIME_SERVO written. -/
def execTsState (a : Access) (v : Word) (s : State) : Host.Outcome State Fault Refusal :=
  wrReg a rTIME_SERVO 0 0 v s

/-! ## MACs, ING, CEL -/

/-- MAC_ENABLE (R72): MAC_CTRL written. -/
def execMacEnable (a : Access) (p : Fin 3) (v : Word) (s : State) : Host.Outcome State Fault Refusal :=
  wrReg a rMAC_CTRL p 0 v s

/-- MDIO_TRANSACTION (R73): MAC_MDIO written with GO = 1. -/
def execMdioTransaction (a : Access) (v : Word) (s : State) : Host.Outcome State Fault Refusal :=
  wrReg a rMDIO 0 0 (v ||| 0x80000000) s

/-- CNT_CLR (R106): MAC_CTRL written with CNT_CLR = 1. -/
def execCntClr (a : Access) (p : Fin 3) (v : Word) (s : State) : Host.Outcome State Fault Refusal :=
  wrReg a rMAC_CTRL p 0 (v ||| 0x80000000) s

/-- RQ_TAIL_WRITE (R86). -/
def execRqTailWrite (a : Access) (p : Fin 3) (q : Fin 8) (v : Word) (s : State) : Host.Outcome State Fault Refusal :=
  wrReg a rRQ_TAIL p q v s

/-- TQ_TAIL_WRITE (R97). -/
def execTqTailWrite (a : Access) (p : Fin 3) (t : Fin 4) (v : Word) (s : State) : Host.Outcome State Fault Refusal :=
  wrReg a rTQ_TAIL p t v s

/-- MRG_SLOT_ENABLE (R101): ING_MRG_CTRL written with EN = 1. -/
def execMrgSlotEnable (a : Access) (i : Fin 16) (v : Word) (s : State) : Host.Outcome State Fault Refusal :=
  wrReg a rMRG_CTRL i 0 (v ||| 0x80000000) s

/-- SKEWMAX_WRITE (R104). -/
def execSkewmaxWrite (a : Access) (i : Fin 16) (v : Word) (s : State) : Host.Outcome State Fault Refusal :=
  wrReg a rMRG_SKEWMAX i 0 v s

/-- CANVAS_ENABLE (R114): ING_CANVc_CTRL written. -/
def execCanvasEnable (a : Access) (cv : Fin 4) (v : Word) (s : State) : Host.Outcome State Fault Refusal :=
  wrReg a rCANV_CTRL cv 0 v s

/-- CANVAS_TOUT_WRITE (R132). -/
def execCanvasToutWrite (a : Access) (cv : Fin 4) (v : Word) (s : State) : Host.Outcome State Fault Refusal :=
  wrReg a rCANV_TOUT cv 0 v s

/-- SLOT_REWRITE (R118): ING_SLOT_CTRL written. -/
def execSlotRewrite (a : Access) (i : Fin 32) (v : Word) (s : State) : Host.Outcome State Fault Refusal :=
  wrReg a rSLOT_CTRL i 0 v s

/-- CELLAR_ENABLE (R159): CEL_CTRL written with EN = 1. -/
def execCellarEnable (a : Access) (v : Word) (s : State) : Host.Outcome State Fault Refusal :=
  wrReg a rCEL_CTRL 0 0 (v ||| 0x1) s

/-- ECC_INJ_WRITE (R591). -/
def execEccInjWrite (a : Access) (v : Word) (s : State) : Host.Outcome State Fault Refusal :=
  wrReg a rECC_INJ 0 0 v s

/-! ## RAS and PIX -/

/-- GO (R190): RAS_COMMIT written with GO = 1. -/
def execRasGo (a : Access) (v : Word) (s : State) : Host.Outcome State Fault Refusal :=
  wrReg a rRAS_COMMIT 0 0 (v ||| 0x80000000) s

/-- CANCEL (R193): RAS_COMMIT written with CANCEL = 1. -/
def execRasCancel (a : Access) (v : Word) (s : State) : Host.Outcome State Fault Refusal :=
  wrReg a rRAS_COMMIT 0 0 (v ||| 0x10000000) s

/-- RASTER_ENABLE (R193): RAS_CTRL written. -/
def execRasterEnable (a : Access) (v : Word) (s : State) : Host.Outcome State Fault Refusal :=
  wrReg a rRAS_CTRL 0 0 v s

/-- LUT_FILL (R215): PIX_LUT_FILL written with GO = 1. -/
def execLutFill (a : Access) (v : Word) (s : State) : Host.Outcome State Fault Refusal :=
  wrReg a rLUT_FILL 0 0 (v ||| 0x80000000) s

/-- LUT_WINDOW_WRITE (R216). -/
def execLutWindowWrite (a : Access) (t : Fin 8) (i : Fin 1025) (v : Word) (s : State) : Host.Outcome State Fault Refusal :=
  wrReg a rPIX_LUT t i v s

/-- CVT_START (R220): PIX_CVT_CTRL written with GO = 1. -/
def execCvtStart (a : Access) (v : Word) (s : State) : Host.Outcome State Fault Refusal :=
  wrReg a rCVT_CTRL 0 0 (v ||| 0x80000000) s

/-! ## PRS -/

/-- PRS_RUN_WRITE (R232). -/
def execPrsRunWrite (a : Access) (v : Word) (s : State) : Host.Outcome State Fault Refusal :=
  wrReg a rPRS_RUN 0 0 v s

/-- WORK_SUBMIT (R236): word 7 of window `m` of PRS written, or PCW_SUB7 by a press core. -/
def execWorkSubmit (a : Access) (m : Option (Fin 16)) (v : Word) (s : State) : Host.Outcome State Fault Refusal :=
  match m with
  | some m => wrReg a rPRS_SUB m 7 v s
  | none => run (fun c => c.busWrite a (BitVec.ofNat 32 (pcwBase + 0x5C)) v) s

/-- PRS_CNT_SET (R241). -/
def execPrsCntSet (a : Access) (v : Word) (s : State) : Host.Outcome State Fault Refusal :=
  wrReg a rCNT_SET 0 0 v s

/-- AFF_CLR (R243): PRS_CTRL written with AFF_CLR = 1. -/
def execAffClr (a : Access) (v : Word) (s : State) : Host.Outcome State Fault Refusal :=
  wrReg a rPRS_CTRL 0 0 (v ||| 0x2) s

/-! ## PORT and DRV -/

/-- WD_REL (R273): PORT_BCTRL written with WD_REL = 1. -/
def execWdRel (a : Access) (k : Fin 6) (v : Word) (s : State) : Host.Outcome State Fault Refusal :=
  wrReg a rBCTRL k 0 (v ||| 0x100) s

/-- RDM_GO (R286): PORT_RDM_CTRL written with GO = 1. -/
def execRdmGo (a : Access) (p : Fin 48) (v : Word) (s : State) : Host.Outcome State Fault Refusal :=
  wrReg a rRDM_CTRL p 0 (v ||| 0x80000000) s

/-- DISCOVER_GO (R320): PORT_LDISC written with GO = 1. -/
def execDiscoverGo (a : Access) (p : Fin 48) (v : Word) (s : State) : Host.Outcome State Fault Refusal :=
  wrReg a rLDISC p 0 (v ||| 0x80000000) s

/-- COMMISSIONING_WRITE (R341, R342); CODE_MAX is written with CODE in DRV_NODE_W0. -/
def execCommissioningWrite (a : Access) (r : CommReg) (v : Word) (s : State) : Host.Outcome State Fault Refusal :=
  match r with
  | .knee => wrReg a rCOMM_KNEE 0 0 v s
  | .floor => wrReg a rCOMM_FLOOR 0 0 v s
  | .trip => wrReg a rCOMM_TRIP 0 0 v s
  | .code => wrReg a rNODE_W0 0 0 v s

/-- LOCK (R341): DRV_COMM_CTRL written with LOCK = 1. -/
def execDrvLock (a : Access) (v : Word) (s : State) : Host.Outcome State Fault Refusal :=
  wrReg a rCOMM_CTRL 0 0 (v ||| 0x1) s

/-- DRV_PAT_RUN (R346). -/
def execDrvPatRun (a : Access) (v : Word) (s : State) : Host.Outcome State Fault Refusal :=
  wrReg a rPAT_RUN 0 0 v s

/-! ## CDR and TRL -/

/-- PAIRING_ENABLE (R369): CDR_CTRL written. -/
def execPairingEnable (a : Access) (v : Word) (s : State) : Host.Outcome State Fault Refusal :=
  wrReg a rCDR_CTRL 0 0 v s

/-- SWAP_GO (R389): CDR_SWAP written with GO = 1. -/
def execSwapGo (a : Access) (v : Word) (s : State) : Host.Outcome State Fault Refusal :=
  wrReg a rCDR_SWAP 0 0 (v ||| 0x80000000) s

/-- RELEASE (R377): CDR_SWAP written with RELEASE = 1. -/
def execCdrRelease (a : Access) (v : Word) (s : State) : Host.Outcome State Fault Refusal :=
  wrReg a rCDR_SWAP 0 0 (v ||| 0x40000000) s

/-- SLICE_ENABLE (R406): TRL_SLs_CTRL written with EN = 1. -/
def execSliceEnable (a : Access) (q : Fin 16) (v : Word) (s : State) : Host.Outcome State Fault Refusal :=
  wrReg a rTRL_SL q 0 (v ||| 0x80000000) s

/-! ## DMA and mailboxes -/

/-- DB (R463): a doorbell. -/
def execDmaDb (a : Access) (n : Fin 16) (s : State) : Host.Outcome State Fault Refusal :=
  wrReg a rDMA_CMD n 0 1 s

/-- STOP (R461). -/
def execDmaStop (a : Access) (n : Fin 16) (s : State) : Host.Outcome State Fault Refusal :=
  wrReg a rDMA_CMD n 0 2 s

/-- CLR (R459). -/
def execDmaClr (a : Access) (n : Fin 16) (s : State) : Host.Outcome State Fault Refusal :=
  wrReg a rDMA_CMD n 0 4 s

/-- DMA_DISABLE (R461): DMA_CTRL.EN written 0. -/
def execDmaDisable (a : Access) (s : State) : Host.Outcome State Fault Refusal :=
  wrReg a rDMA_CTRL 0 0 0 s

/-- DMA_CHANNEL_ENABLE (R450): DMA_CHn_CFG written with EN = 1. -/
def execDmaChannelEnable (a : Access) (n : Fin 16) (v : Word) (s : State) : Host.Outcome State Fault Refusal :=
  wrReg a rDMA_CFG n 0 (v ||| 0x80000000) s

/-- MAILBOX_PUSH (R471). -/
def execMailboxPush (a : Access) (q : Fin 32) (v : Word) (s : State) : Host.Outcome State Fault Refusal :=
  wrReg a rQUE_PUSH q 0 v s

/-- MAILBOX_POP (R472): a read of QUE_POPq. -/
def execMailboxPop (a : Access) (q : Fin 32) (s : State) : Host.Outcome State Fault Refusal :=
  rdReg a rQUE_POP q 0 s

/-- MAILBOX_DISABLE (R470): QUE_CFGq written as it stands with EN = 0. -/
def execMailboxDisable (a : Access) (q : Fin 32) (s : State) : Host.Outcome State Fault Refusal :=
  run (fun c => c.busWrite a (BitVec.ofNat 32 (rQUE_CFG.addr q 0)) (setBit (c.rd rQUE_CFG q) 31 false)) s

/-! ## The Vault: an operation is the write of its window's CMD word with the operation's OP (R489) -/

/-- VLT_LC_REQ (R479). -/
def execVltLcReq (a : Access) (v : Word) (s : State) : Host.Outcome State Fault Refusal :=
  wrReg a rLC_REQ 0 0 v s

/-- MFINAL (R486): VLT_CTRL written with MFINAL = 1. -/
def execMfinal (a : Access) (s : State) : Host.Outcome State Fault Refusal :=
  wrReg a rVLT_CTRL 0 0 1 s

/-- VLT_VINTAGE_WRITE (R488). -/
def execVltVintageWrite (a : Access) (v : Word) (s : State) : Host.Outcome State Fault Refusal :=
  wrReg a rVINTAGE 0 0 v s

/-- HMAC (R489). -/
def execVltHmac (a : Access) (w : Fin 4) (slot : Fin 64) (s : State) : Host.Outcome State Fault Refusal :=
  wrReg a rVLT_CMD w 0 (cmdWord 1 slot 0) s

/-- SEAL_OP (R489). -/
def execSealOp (a : Access) (w : Fin 4) (slot : Fin 64) (s : State) : Host.Outcome State Fault Refusal :=
  wrReg a rVLT_CMD w 0 (cmdWord 2 slot 0) s

/-- OPEN (R489). -/
def execOpenOp (a : Access) (w : Fin 4) (slot : Fin 64) (s : State) : Host.Outcome State Fault Refusal :=
  wrReg a rVLT_CMD w 0 (cmdWord 3 slot 0) s

/-- DERIVE (R485). -/
def execVltDerive (a : Access) (w : Fin 4) (slot dslot : Fin 64) (s : State) : Host.Outcome State Fault Refusal :=
  wrReg a rVLT_CMD w 0 (cmdWord 4 slot dslot) s

/-- SESSION (R484). -/
def execVltSession (a : Access) (w : Fin 4) (entry : Fin 64) (s : State) : Host.Outcome State Fault Refusal :=
  wrReg a rVLT_CMD w 0 (cmdWord 5 entry 0) s

/-- ATTEST (R490). -/
def execVltAttest (a : Access) (w : Fin 4) (slot : Fin 64) (s : State) : Host.Outcome State Fault Refusal :=
  wrReg a rVLT_CMD w 0 (cmdWord 6 slot 0) s

/-- UNONCE (R491). -/
def execUnonce (a : Access) (w : Fin 4) (slot : Fin 64) (s : State) : Host.Outcome State Fault Refusal :=
  wrReg a rVLT_CMD w 0 (cmdWord 7 slot 0) s

/-- UNLOCK (R491). -/
def execUnlock (a : Access) (w : Fin 4) (slot : Fin 64) (s : State) : Host.Outcome State Fault Refusal :=
  wrReg a rVLT_CMD w 0 (cmdWord 8 slot 0) s

/-- LOAD_URG (R489). -/
def execLoadUrg (a : Access) (w : Fin 4) (slot : Fin 64) (s : State) : Host.Outcome State Fault Refusal :=
  wrReg a rVLT_CMD w 0 (cmdWord 9 slot 0) s

/-- INSTALL (R497). -/
def execVltInstall (a : Access) (w : Fin 4) (slot : Fin 64) (s : State) : Host.Outcome State Fault Refusal :=
  wrReg a rVLT_CMD w 0 (cmdWord 10 slot 0) s

/-- DELETE (R496). -/
def execVltDelete (a : Access) (w : Fin 4) (slot : Fin 64) (s : State) : Host.Outcome State Fault Refusal :=
  wrReg a rVLT_CMD w 0 (cmdWord 11 slot 0) s

/-- EXTEND (R486). -/
def execVltExtend (a : Access) (w : Fin 4) (s : State) : Host.Outcome State Fault Refusal :=
  wrReg a rVLT_CMD w 0 (cmdWord 12 0 0) s

/-- RANDOM (R489). -/
def execVltRandom (a : Access) (w : Fin 4) (s : State) : Host.Outcome State Fault Refusal :=
  wrReg a rVLT_CMD w 0 (cmdWord 13 0 0) s

/-- SETATTR (R482). -/
def execVltSetattr (a : Access) (w : Fin 4) (slot : Fin 64) (s : State) : Host.Outcome State Fault Refusal :=
  wrReg a rVLT_CMD w 0 (cmdWord 14 slot 0) s

/-- COMMREC (R494). -/
def execCommrec (a : Access) (w : Fin 4) (slot : Fin 64) (s : State) : Host.Outcome State Fault Refusal :=
  wrReg a rVLT_CMD w 0 (cmdWord 15 slot 0) s

/-! ## ERR -/

/-- ERR_RDSEQ_WRITE (R538). -/
def execErrRdseqWrite (a : Access) (v : Word) (s : State) : Host.Outcome State Fault Refusal :=
  wrReg a rERR_RDSEQ 0 0 v s

end Sys2Proof.Machine
end

