-- ==== Sys2Proof/Machine/Dispatch.lean ====
section
/-! DEFINITION. One arm per command: its meaning, called by its full name. -/

namespace Sys2Proof.Machine

/-- The effect of a command on everything but the queue it came from. -/
def exec (i : Instr) (s : State) : Host.Outcome State Fault Refusal :=
  match i with
  | .registerWrite a addr v => Sys2Proof.Machine.execRegisterWrite a addr v s
  | .pllLockLost b => Sys2Proof.Machine.execPllLockLost b s
  | .pllLockRegained b => Sys2Proof.Machine.execPllLockRegained b s
  | .watchdogKick a w v => Sys2Proof.Machine.execWatchdogKick a w v s
  | .watchdogExpiry w => Sys2Proof.Machine.execWatchdogExpiry w s
  | .wdRel a k v => Sys2Proof.Machine.execWdRel a k v s
  | .softResetRequest a v => Sys2Proof.Machine.execSoftResetRequest a v s
  | .resetPin low => Sys2Proof.Machine.execResetPin low s
  | .vinRise => Sys2Proof.Machine.execVinRise s
  | .railsStart => Sys2Proof.Machine.execRailsStart s
  | .resetRelease x => Sys2Proof.Machine.execResetRelease x s
  | .resetOutRise => Sys2Proof.Machine.execResetOutRise s
  | .powerFailWarning => Sys2Proof.Machine.execPowerFailWarning s
  | .powerDownReset => Sys2Proof.Machine.execPowerDownReset s
  | .vauxCurrentLimit => Sys2Proof.Machine.execVauxCurrentLimit s
  | .vauxRetry => Sys2Proof.Machine.execVauxRetry s
  | .thermalRemoval => Sys2Proof.Machine.execThermalRemoval s
  | .thermalRestore => Sys2Proof.Machine.execThermalRestore s
  | .pwrTemp t => Sys2Proof.Machine.execPwrTemp t s
  | .timeAddendWrite a v => Sys2Proof.Machine.execTimeAddendWrite a v s
  | .stepWrite a v => Sys2Proof.Machine.execStepWrite a v s
  | .stepApply => Sys2Proof.Machine.execStepApply s
  | .timeSnapRead a m => Sys2Proof.Machine.execTimeSnapRead a m s
  | .txtsPop a => Sys2Proof.Machine.execTxtsPop a s
  | .cmpArm a n v => Sys2Proof.Machine.execCmpArm a n v s
  | .cmpDisarm a n v => Sys2Proof.Machine.execCmpDisarm a n v s
  | .cmpFire n t => Sys2Proof.Machine.execCmpFire n t s
  | .captureEdge src rising => Sys2Proof.Machine.execCaptureEdge src rising s
  | .gridApply a v => Sys2Proof.Machine.execGridApply a v s
  | .gridSwitch => Sys2Proof.Machine.execGridSwitch s
  | .ppsRise => Sys2Proof.Machine.execPpsRise s
  | .ppsFall => Sys2Proof.Machine.execPpsFall s
  | .timeOutPulseEnd j => Sys2Proof.Machine.execTimeOutPulseEnd j s
  | .announceRx p m => Sys2Proof.Machine.execAnnounceRx p m s
  | .syncRx p m => Sys2Proof.Machine.execSyncRx p m s
  | .delayRespRx p m => Sys2Proof.Machine.execDelayRespRx p m s
  | .delayReqSend => Sys2Proof.Machine.execDelayReqSend s
  | .parentLost => Sys2Proof.Machine.execParentLost s
  | .holdoverExpired => Sys2Proof.Machine.execHoldoverExpired s
  | .settlingEnd => Sys2Proof.Machine.execSettlingEnd s
  | .tsState a v => Sys2Proof.Machine.execTsState a v s
  | .macEnable a p v => Sys2Proof.Machine.execMacEnable a p v s
  | .linkUp p => Sys2Proof.Machine.execLinkUp p s
  | .linkDown p => Sys2Proof.Machine.execLinkDown p s
  | .sfpSidebandChange p modabs rxlos txfault => Sys2Proof.Machine.execSfpSidebandChange p modabs rxlos txfault s
  | .mdioTransaction a v => Sys2Proof.Machine.execMdioTransaction a v s
  | .mdioDone data => Sys2Proof.Machine.execMdioDone data s
  | .frameReceive p f => Sys2Proof.Machine.execFrameReceive p f s
  | .pauseRx p => Sys2Proof.Machine.execPauseRx p s
  | .pauseQuantaExpiry p u => Sys2Proof.Machine.execPauseQuantaExpiry p u s
  | .pauseWdog p u => Sys2Proof.Machine.execPauseWdog p u s
  | .pauseIgnoreEnd p u => Sys2Proof.Machine.execPauseIgnoreEnd p u s
  | .flowControlFrameTx p => Sys2Proof.Machine.execFlowControlFrameTx p s
  | .flowControlRepeat p => Sys2Proof.Machine.execFlowControlRepeat p s
  | .cntClr a p v => Sys2Proof.Machine.execCntClr a p v s
  | .ingFrameClaim p => Sys2Proof.Machine.execIngFrameClaim p s
  | .rqTailWrite a p q v => Sys2Proof.Machine.execRqTailWrite a p q v s
  | .tqTailWrite a p t v => Sys2Proof.Machine.execTqTailWrite a p t v s
  | .frameTransmit p => Sys2Proof.Machine.execFrameTransmit p s
  | .mrgSlotEnable a idx v => Sys2Proof.Machine.execMrgSlotEnable a idx v s
  | .skewmaxWrite a idx v => Sys2Proof.Machine.execSkewmaxWrite a idx v s
  | .e131HoldExpiry c => Sys2Proof.Machine.execE131HoldExpiry c s
  | .e131SourceTimeout u idx => Sys2Proof.Machine.execE131SourceTimeout u idx s
  | .canvStale c => Sys2Proof.Machine.execCanvStale c s
  | .canvasEnable a cv v => Sys2Proof.Machine.execCanvasEnable a cv v s
  | .canvasToutWrite a cv v => Sys2Proof.Machine.execCanvasToutWrite a cv v s
  | .slotRewrite a idx v => Sys2Proof.Machine.execSlotRewrite a idx v s
  | .dlcFrame p => Sys2Proof.Machine.execDlcFrame p s
  | .escapeInsert n => Sys2Proof.Machine.execEscapeInsert n s
  | .cellarEnable a v => Sys2Proof.Machine.execCellarEnable a v s
  | .cellarFillDone => Sys2Proof.Machine.execCellarFillDone s
  | .cellarRead a addr => Sys2Proof.Machine.execCellarRead a addr s
  | .cellarWrite a addr bytes => Sys2Proof.Machine.execCellarWrite a addr bytes s
  | .cellarCas a addr expect new => Sys2Proof.Machine.execCellarCas a addr expect new s
  | .cellarWriteback => Sys2Proof.Machine.execCellarWriteback s
  | .scrubBurst behind => Sys2Proof.Machine.execScrubBurst behind s
  | .eccInjWrite a v => Sys2Proof.Machine.execEccInjWrite a v s
  | .tolMessage tol => Sys2Proof.Machine.execTolMessage tol s
  | .tolTimeout => Sys2Proof.Machine.execTolTimeout s
  | .cellarPowerEntry => Sys2Proof.Machine.execCellarPowerEntry s
  | .cellarWake why => Sys2Proof.Machine.execCellarWake why s
  | .frameStart contested => Sys2Proof.Machine.execFrameStart contested s
  | .rasterFetchData p => Sys2Proof.Machine.execRasterFetchData p s
  | .rasGo a v => Sys2Proof.Machine.execRasGo a v s
  | .rasCancel a v => Sys2Proof.Machine.execRasCancel a v s
  | .rasterEnable a v => Sys2Proof.Machine.execRasterEnable a v s
  | .commitGuardClose => Sys2Proof.Machine.execCommitGuardClose s
  | .commitPoint => Sys2Proof.Machine.execCommitPoint s
  | .presentSend p => Sys2Proof.Machine.execPresentSend p s
  | .lutFill a v => Sys2Proof.Machine.execLutFill a v s
  | .lutFillDone => Sys2Proof.Machine.execLutFillDone s
  | .lutWindowWrite a t idx v => Sys2Proof.Machine.execLutWindowWrite a t idx v s
  | .cvtStart a v => Sys2Proof.Machine.execCvtStart a v s
  | .cvtDone => Sys2Proof.Machine.execCvtDone s
  | .prsRunWrite a v => Sys2Proof.Machine.execPrsRunWrite a v s
  | .pcwNext core => Sys2Proof.Machine.execPcwNext core s
  | .itemDispatch => Sys2Proof.Machine.execItemDispatch s
  | .affWaitExpiry slot => Sys2Proof.Machine.execAffWaitExpiry slot s
  | .pcwDone core => Sys2Proof.Machine.execPcwDone core s
  | .pcwFault core => Sys2Proof.Machine.execPcwFault core s
  | .itemWatchdog core => Sys2Proof.Machine.execItemWatchdog core s
  | .workSubmit a m v => Sys2Proof.Machine.execWorkSubmit a m v s
  | .prsCntSet a v => Sys2Proof.Machine.execPrsCntSet a v s
  | .affClr a v => Sys2Proof.Machine.execAffClr a v s
  | .pressKick => Sys2Proof.Machine.execPressKick s
  | .rasterEventSubmit => Sys2Proof.Machine.execRasterEventSubmit s
  | .sampleRequest core v => Sys2Proof.Machine.execSampleRequest core v s
  | .sampleResult core => Sys2Proof.Machine.execSampleResult core s
  | .samplePop core => Sys2Proof.Machine.execSamplePop core s
  | .pcwStgPost core v => Sys2Proof.Machine.execPcwStgPost core v s
  | .stagingMove p => Sys2Proof.Machine.execStagingMove p s
  | .portSettingsApply k => Sys2Proof.Machine.execPortSettingsApply k s
  | .windowOpen p => Sys2Proof.Machine.execWindowOpen p s
  | .laneCellLaunch p => Sys2Proof.Machine.execLaneCellLaunch p s
  | .laneCellReceive p x => Sys2Proof.Machine.execLaneCellReceive p x s
  | .ringRestore p => Sys2Proof.Machine.execRingRestore p s
  | .rxLockTimeout p => Sys2Proof.Machine.execRxLockTimeout p s
  | .bankRetrainStart k => Sys2Proof.Machine.execBankRetrainStart k s
  | .bankPllLock k => Sys2Proof.Machine.execBankPllLock k s
  | .bankReady k => Sys2Proof.Machine.execBankReady k s
  | .portTrainFail k => Sys2Proof.Machine.execPortTrainFail k s
  | .refreshStart p => Sys2Proof.Machine.execRefreshStart p s
  | .refreshEnd p => Sys2Proof.Machine.execRefreshEnd p s
  | .rdmGo a p v => Sys2Proof.Machine.execRdmGo a p v s
  | .rdmStart p => Sys2Proof.Machine.execRdmStart p s
  | .rdmDone p r => Sys2Proof.Machine.execRdmDone p r s
  | .discoverGo a p v => Sys2Proof.Machine.execDiscoverGo a p v s
  | .discoverLaunch p => Sys2Proof.Machine.execDiscoverLaunch p s
  | .portDiscTimeout p => Sys2Proof.Machine.execPortDiscTimeout p s
  | .drvEvaluate => Sys2Proof.Machine.execDrvEvaluate s
  | .returnRecord => Sys2Proof.Machine.execReturnRecord s
  | .commissioningWrite a r v => Sys2Proof.Machine.execCommissioningWrite a r v s
  | .drvLock a v => Sys2Proof.Machine.execDrvLock a v s
  | .drvPatRun a v => Sys2Proof.Machine.execDrvPatRun a v s
  | .pairingEnable a v => Sys2Proof.Machine.execPairingEnable a v s
  | .corridorLinkUp => Sys2Proof.Machine.execCorridorLinkUp s
  | .corridorLinkDown => Sys2Proof.Machine.execCorridorLinkDown s
  | .corridorStateTimeout => Sys2Proof.Machine.execCorridorStateTimeout s
  | .corridorHello m crcOk => Sys2Proof.Machine.execCorridorHello m crcOk s
  | .corridorState m crcOk => Sys2Proof.Machine.execCorridorState m crcOk s
  | .stateSend => Sys2Proof.Machine.execStateSend s
  | .caskMsg q off ws crcOk => Sys2Proof.Machine.execCaskMsg q off ws crcOk s
  | .sealMsg q n crc sl crcOk => Sys2Proof.Machine.execSealMsg q n crc sl crcOk s
  | .ackMsg q crcOk => Sys2Proof.Machine.execAckMsg q crcOk s
  | .swapMsg k e crcOk => Sys2Proof.Machine.execSwapMsg k e crcOk s
  | .swapAck k ok crcOk => Sys2Proof.Machine.execSwapAck k ok crcOk s
  | .bulkMsg r off ws crcOk => Sys2Proof.Machine.execBulkMsg r off ws crcOk s
  | .bulkEnd r crc crcOk => Sys2Proof.Machine.execBulkEnd r crc crcOk s
  | .releaseMsg ports k crcOk => Sys2Proof.Machine.execReleaseMsg ports k crcOk s
  | .fwmsg ws crcOk => Sys2Proof.Machine.execFwmsg ws crcOk s
  | .heartbeatOut => Sys2Proof.Machine.execHeartbeatOut s
  | .heartbeatEdge => Sys2Proof.Machine.execHeartbeatEdge s
  | .cdrHbLost => Sys2Proof.Machine.execCdrHbLost s
  | .witnessGone p => Sys2Proof.Machine.execWitnessGone p s
  | .assumeSend p => Sys2Proof.Machine.execAssumeSend p s
  | .heartbeatStop => Sys2Proof.Machine.execHeartbeatStop s
  | .startWaitExpiry => Sys2Proof.Machine.execStartWaitExpiry s
  | .caskBuild => Sys2Proof.Machine.execCaskBuild s
  | .swapGo a v => Sys2Proof.Machine.execSwapGo a v s
  | .cdrRelease a v => Sys2Proof.Machine.execCdrRelease a v s
  | .revertDelayExpiry => Sys2Proof.Machine.execRevertDelayExpiry s
  | .trellisLinkUp up => Sys2Proof.Machine.execTrellisLinkUp up s
  | .trellisLinkDown up => Sys2Proof.Machine.execTrellisLinkDown up s
  | .trellisHello m => Sys2Proof.Machine.execTrellisHello m s
  | .trellisTime m => Sys2Proof.Machine.execTrellisTime m s
  | .trellisTimeSend => Sys2Proof.Machine.execTrellisTimeSend s
  | .sliceMsg m => Sys2Proof.Machine.execSliceMsg m s
  | .sliceEnd m => Sys2Proof.Machine.execSliceEnd m s
  | .stackMsg m => Sys2Proof.Machine.execStackMsg m s
  | .sliceForwardDone cv => Sys2Proof.Machine.execSliceForwardDone cv s
  | .sliceEnable a q v => Sys2Proof.Machine.execSliceEnable a q v s
  | .stkSyncEdge off timed => Sys2Proof.Machine.execStkSyncEdge off timed s
  | .stkAckSample low => Sys2Proof.Machine.execStkAckSample low s
  | .trlMasterLost => Sys2Proof.Machine.execTrlMasterLost s
  | .dopHello m => Sys2Proof.Machine.execDopHello m s
  | .dopClose m => Sys2Proof.Machine.execDopClose m s
  | .dopKeepalive m => Sys2Proof.Machine.execDopKeepalive m s
  | .dopGet m => Sys2Proof.Machine.execDopGet m s
  | .dopSet m => Sys2Proof.Machine.execDopSet m s
  | .controlTickApply => Sys2Proof.Machine.execControlTickApply s
  | .halfSessionExpiry sid => Sys2Proof.Machine.execHalfSessionExpiry sid s
  | .sessionIdleTimeout sid => Sys2Proof.Machine.execSessionIdleTimeout sid s
  | .assemblyTimeout idx => Sys2Proof.Machine.execAssemblyTimeout idx s
  | .storeFlush => Sys2Proof.Machine.execStoreFlush s
  | .dmaDb a n => Sys2Proof.Machine.execDmaDb a n s
  | .dmaStop a n => Sys2Proof.Machine.execDmaStop a n s
  | .dmaClr a n => Sys2Proof.Machine.execDmaClr a n s
  | .dmaDisable a => Sys2Proof.Machine.execDmaDisable a s
  | .dmaChannelEnable a n v => Sys2Proof.Machine.execDmaChannelEnable a n v s
  | .dmaTriggerEvent n => Sys2Proof.Machine.execDmaTriggerEvent n s
  | .dmaBurst i2cRx i2cTx => Sys2Proof.Machine.execDmaBurst i2cRx i2cTx s
  | .descriptorComplete n => Sys2Proof.Machine.execDescriptorComplete n s
  | .tailRecheck n => Sys2Proof.Machine.execTailRecheck n s
  | .queuePtrMismatch id lost => Sys2Proof.Machine.execQueuePtrMismatch id lost s
  | .creditMismatch p => Sys2Proof.Machine.execCreditMismatch p s
  | .mailboxPush a q v => Sys2Proof.Machine.execMailboxPush a q v s
  | .mailboxPop a q => Sys2Proof.Machine.execMailboxPop a q s
  | .mailboxDisable a q => Sys2Proof.Machine.execMailboxDisable a q s
  | .queStale q => Sys2Proof.Machine.execQueStale q s
  | .vltLcReq a v => Sys2Proof.Machine.execVltLcReq a v s
  | .fuseBlowDone => Sys2Proof.Machine.execFuseBlowDone s
  | .vltHmac a w slot => Sys2Proof.Machine.execVltHmac a w slot s
  | .sealOp a w slot => Sys2Proof.Machine.execSealOp a w slot s
  | .openOp a w slot => Sys2Proof.Machine.execOpenOp a w slot s
  | .vltDerive a w slot dslot => Sys2Proof.Machine.execVltDerive a w slot dslot s
  | .vltSession a w entry => Sys2Proof.Machine.execVltSession a w entry s
  | .vltAttest a w slot => Sys2Proof.Machine.execVltAttest a w slot s
  | .unonce a w slot => Sys2Proof.Machine.execUnonce a w slot s
  | .unlock a w slot => Sys2Proof.Machine.execUnlock a w slot s
  | .loadUrg a w slot => Sys2Proof.Machine.execLoadUrg a w slot s
  | .vltInstall a w slot => Sys2Proof.Machine.execVltInstall a w slot s
  | .vltDelete a w slot => Sys2Proof.Machine.execVltDelete a w slot s
  | .vltExtend a w => Sys2Proof.Machine.execVltExtend a w s
  | .vltRandom a w => Sys2Proof.Machine.execVltRandom a w s
  | .vltSetattr a w slot => Sys2Proof.Machine.execVltSetattr a w slot s
  | .commrec a w slot => Sys2Proof.Machine.execCommrec a w slot s
  | .mfinal a => Sys2Proof.Machine.execMfinal a s
  | .vltVintageWrite a v => Sys2Proof.Machine.execVltVintageWrite a v s
  | .vaultScan => Sys2Proof.Machine.execVaultScan s
  | .bootRomStart => Sys2Proof.Machine.execBootRomStart s
  | .breakWatchEnd held => Sys2Proof.Machine.execBreakWatchEnd held s
  | .flashPageProgram a => Sys2Proof.Machine.execFlashPageProgram a s
  | .flashSectorErase a => Sys2Proof.Machine.execFlashSectorErase a s
  | .flashOpDone => Sys2Proof.Machine.execFlashOpDone s
  | .flashRunslotWrite a v => Sys2Proof.Machine.execFlashRunslotWrite a v s
  | .updAnnounce v => Sys2Proof.Machine.execUpdAnnounce v s
  | .updPiece v p group => Sys2Proof.Machine.execUpdPiece v p group s
  | .stagingEraseDone => Sys2Proof.Machine.execStagingEraseDone s
  | .updateVerify => Sys2Proof.Machine.execUpdateVerify s
  | .buildChunk => Sys2Proof.Machine.execBuildChunk s
  | .armUpdate v => Sys2Proof.Machine.execArmUpdate v s
  | .activation => Sys2Proof.Machine.execActivation s
  | .updArmExpired => Sys2Proof.Machine.execUpdArmExpired s
  | .updAbort => Sys2Proof.Machine.execUpdAbort s
  | .updConfirm => Sys2Proof.Machine.execUpdConfirm s
  | .updRollback => Sys2Proof.Machine.execUpdRollback s
  | .refreshNow => Sys2Proof.Machine.execRefreshNow s
  | .autoConfirm => Sys2Proof.Machine.execAutoConfirm s
  | .updRefresh what => Sys2Proof.Machine.execUpdRefresh what s
  | .errorReport src code detail => Sys2Proof.Machine.execErrorReport src code detail s
  | .errRecord => Sys2Proof.Machine.execErrRecord s
  | .errRdseqWrite a v => Sys2Proof.Machine.execErrRdseqWrite a v s
  | .fatalDump who cause cores nc fw => Sys2Proof.Machine.execFatalDump who cause cores nc fw s
  | .autobaud rate => Sys2Proof.Machine.execAutobaud rate s
  | .porchHelp => Sys2Proof.Machine.execPorchHelp s
  | .porchId => Sys2Proof.Machine.execPorchId s
  | .porchPeek addr => Sys2Proof.Machine.execPorchPeek addr s
  | .porchPoke addr v => Sys2Proof.Machine.execPorchPoke addr v s
  | .porchDump addr n => Sys2Proof.Machine.execPorchDump addr n s
  | .porchFill addr n v => Sys2Proof.Machine.execPorchFill addr n v s
  | .porchLoad addr n => Sys2Proof.Machine.execPorchLoad addr n s
  | .loadStage n => Sys2Proof.Machine.execLoadStage n s
  | .loadBlock num len data crc => Sys2Proof.Machine.execLoadBlock num len data crc s
  | .loadEnd => Sys2Proof.Machine.execLoadEnd s
  | .loadTimeout => Sys2Proof.Machine.execLoadTimeout s
  | .porchGo addr => Sys2Proof.Machine.execPorchGo addr s
  | .porchAttic idx => Sys2Proof.Machine.execPorchAttic idx s
  | .atticClr => Sys2Proof.Machine.execAtticClr s
  | .porchLife => Sys2Proof.Machine.execPorchLife s
  | .lifeRequest code => Sys2Proof.Machine.execLifeRequest code s
  | .chalNonce vendor => Sys2Proof.Machine.execChalNonce vendor s
  | .chalResponse vendor r => Sys2Proof.Machine.execChalResponse vendor r s
  | .porchBoot => Sys2Proof.Machine.execPorchBoot s
  | .porchWdogKick => Sys2Proof.Machine.execPorchWdogKick s
  | .dbgAttach => Sys2Proof.Machine.execDbgAttach s
  | .uartBreak n => Sys2Proof.Machine.execUartBreak n s
  | .vinDipDuringPowerUp => Sys2Proof.Machine.execVinDipDuringPowerUp s
  | .vinAbsent => Sys2Proof.Machine.execVinAbsent s
  | .tempAlarmRearm t => Sys2Proof.Machine.execTempAlarmRearm t s
  | .cellarTempHi high => Sys2Proof.Machine.execCellarTempHi high s
  | .bulkTransfer => Sys2Proof.Machine.execBulkTransfer s
  | .uartRxByte n b framing => Sys2Proof.Machine.execUartRxByte n b framing s
  | .uartTxByte n => Sys2Proof.Machine.execUartTxByte n s
  | .registerRead a addr => Sys2Proof.Machine.execRegisterRead a addr s

end Sys2Proof.Machine
end

