-- ==== Sys2Proof/Safety.lean ====
section
/-! DEFINITION. What the claims about the block are stated in: that a command completes, what it leaves as it was, and that
the level-driven interrupts agree with the state. -/

namespace Sys2Proof.Machine

/-- The interrupts that follow the state by level (spec/09 R291; spec/15 R473, R474) are as the state gives them. -/
abbrev State.settled (s : State) : Prop := ∀ n ∈ levelSources, s.chip.irqs.getLsbD n = s.chip.level n

/-- The outcome `o` of a command in state `s` is a next state with the same queue, and `P` holds of the module in it. -/
def Does (s : State) (o : Host.Outcome State Fault Refusal) (P : Chip → Prop) : Prop :=
  ∃ t : State, o = .next t ∧ t.pending = s.pending ∧ P t.chip

/-- Every register at an address outside `l` holds in `c'` what it holds in `c`. -/
def SameRegs (l : List Nat) (c c' : Chip) : Prop := ∀ n, n ∉ l → ∀ d, mget d c'.regs n = mget d c.regs n

/-- Every interrupt source outside `l` that does not follow the state by level is pending in `c'` as it is in `c`. -/
def SameIrqs (l : List Nat) (c c' : Chip) : Prop :=
  ∀ n, n ∉ l → n ∉ levelSources → c'.irqs.getLsbD n = c.irqs.getLsbD n

/-- The frame of a command: it changes no register outside `regs` and raises or clears no source outside `irqs`. -/
def Frame (regs irqs : List Nat) (c c' : Chip) : Prop := SameRegs regs c c' ∧ SameIrqs irqs c c'

/-- Every byte of memory at an address that `p` does not hold of reads in `c'` as in `c`. -/
def SameBytes (p : Nat → Prop) (c c' : Chip) : Prop := ∀ n, ¬ p n → c'.byte n = c.byte n

/-- The module without its registers, its pending interrupts, the bus's last answer and the count of commands: two modules
with equal `rest` agree in everything else. -/
def Chip.rest (c : Chip) : Chip := { c with regs := [], irqs := 0, rsp := {}, cyc := 0 }

/-- The write of `v` by `a` to register (i, j) of row `r` reaches that register and is not refused: the reset and
the master are released (R10), nothing refuses an access of `a` there (R22, R23, R30), no restriction of the register refuses the
write (R591), and no queue it passes has lost it to a reset of its pointers (R468). -/
abbrev Chip.takes (c : Chip) (a : Access) (r : RegRow) (i j : Nat) (v : Word) : Prop :=
  c.mayAccess a = true ∧ c.refusal a (r.addr i j) = none ∧ c.writeRefused a r i j v = false
    ∧ c.cutOff (busQueues a.master (r.addr i j)) = false

/-- The read by `a` of register (i, j) of row `r` reaches that register. -/
abbrev Chip.reads (c : Chip) (a : Access) (r : RegRow) (i j : Nat) : Prop :=
  c.mayAccess a = true ∧ c.refusal a (r.addr i j) = none ∧ c.cutOff (busQueues a.master (r.addr i j)) = false

/-- Access `a` to word address `n`, not in a press core's own window, reaches what stands there: its master is released, nothing
refuses it and no queue it passes has lost it. -/
abbrev Chip.lands (c : Chip) (a : Access) (n : Nat) : Prop :=
  c.mayAccess a = true ∧ inPcw a n = false ∧ c.refusal a n = none ∧ c.cutOff (busQueues a.master n) = false

/-- The on-die memories under SECDED that an access reaches, the boot ROM apart, and the key of the word at `n` (R1, R13, R16). -/
abbrev onDie (a : Access) (n k : Nat) : Prop :=
  areaFor a.master n ∈ [.sram, .press, .local_, .portBuf] ∧ k = if areaFor a.master n = .local_ then localKey a.core n else n

/-- Register (i, j) of row `r` stands in the house-core map of registers at its address. -/
abbrev RegRow.stands (r : RegRow) (i j : Nat) : Prop :=
  regAt (r.addr i j) = some (r, i, j) ∧ 0x10000000 ≤ r.addr i j ∧ r.addr i j < 0x10140000 ∧ r.addr i j % 4 = 0

/-- A report of `code` from source `src` reached its queue, if reports are enabled and the queue had room (R535). -/
def Reports (src code : Nat) (c c' : Chip) : Prop :=
  c.rb rERR_CTRL 0 0 0 = true → (mget [] c.err.queues src).length < 4 →
    ∃ r : Rep, r.code = code ∧ mget [] c'.err.queues src = mget [] c.err.queues src ++ [r]

/-- The registers a report of source `src` can change: its count of lost reports and ERR_STATUS (R535). -/
def logRegs (src : Nat) : List Nat := [rERR_LOST.addr src 0, rERR_STATUS.addr 0 0]

/-- The registers that a change of TIME_SERVO.STATE can touch: STATE itself, and with PPS_OUT's edges the count of lost capture
records and the reports of the TIME block (R58, R65, R67). -/
def servoRegs : List Nat := rTIME_SERVO.addr 0 0 :: rCAP_LOST.addr 0 0 :: logRegs 0x01

/-- The interrupts that a change of TIME_SERVO.STATE can raise: its own, PPS_OUT's, the capture units', the log's. -/
def servoIrqs : List Nat := [16, 18, 20, 21, 22, 23, 24, 25, 26, 27, 30, 209]

/-- Reports of `codes` from source `src`, oldest first, reached its queue, if reports are enabled and the queue had room for
them (R535). -/
def Logs (src : Nat) (codes : List Nat) (c c' : Chip) : Prop :=
  c.rb rERR_CTRL 0 0 0 = true → (mget [] c.err.queues src).length + codes.length ≤ 4 →
    ∃ l : List Rep, l.map (·.code) = codes ∧ mget [] c'.err.queues src = mget [] c.err.queues src ++ l

/-- The parent of the servo is heard on port `p`. -/
def Chip.parentOn (c : Chip) (p : Nat) : Bool := c.time.servo.parent.any fun f => f.port = p

/-- What the loss of port `p`'s link does to LINK, its interrupt, the servo and everything beside registers (R45, R72): LINK
falls, with its interrupt where it stood; where the parent was heard on the port it is lost and the servo holds over at the mean
of TIME_ADDEND; else the time is as it was. -/
def LinkFalls (p : Nat) (c c' : Chip) : Prop :=
  c'.link p = false ∧ (c.link p = true → c'.irqs.getLsbD (32 + 4 * p) = true)
  ∧ (c.parentOn p = true → c'.time.servo.parent = none ∧ c'.time.servo.holdStart = c.time.now ∧ c'.rf rTIME_SERVO 0 0 2 0 = 3
      ∧ c'.rd rTIME_ADDEND = wordOf c.meanAddend)
  ∧ (c.parentOn p = false → c'.time = c.time)
  ∧ c'.time.now = c.time.now ∧ c'.rest = { c.rest with err := c'.err, time := c'.time, macs := c'.macs }

/-- The registers the loss of port `p`'s link can change: its status and its LINK_DOWNS with their reports where LINK stood, the
servo's where the parent was heard there. -/
def Chip.fallRegs (c : Chip) (p : Nat) : List Nat :=
  (if c.link p then rMAC_STATUS.addr p 0 :: rMAC_CNT.addr p 20 :: logRegs (2 + p) else [])
    ++ if c.parentOn p then rTIME_ADDEND.addr 0 0 :: servoRegs else []

/-- The interrupts that loss can raise. -/
def Chip.fallIrqs (c : Chip) (p : Nat) : List Nat :=
  (if c.link p then [32 + 4 * p, 209] else []) ++ if c.parentOn p then servoIrqs else []

/-- The Cellar serves and is awake, no word of it poisoned or wrong, none waiting to be written back (R146..R153). -/
abbrev Chip.celCalm (c : Chip) : Prop := c.celUp = true ∧ c.pstate = 0 ∧ c.cel.wb = [] ∧ c.cel.ecc = []

/-- The registers that reading words of the Cellar can change: its counts of corrected, double, poisoned and refused words and of
underestimated tolerances, the record of a double error, the power state with its residence, and a bus error's record. -/
def celRegs : List Nat :=
  [0, 1, 2, 4, 5].map (rCEL_CNT.addr · 0) ++ [rCEL_STATUS.addr 0 0, rECC_INFO.addr 0 0, rECC_ADDR.addr 0 0, rBUSERR_INFO.addr 0 0, rBUSERR_ADDR.addr 0 0]
    ++ [0, 1, 2].map (rCEL_RES.addr · 0) ++ logRegs 0x06 ++ logRegs 0x00

/-- The interrupts it can raise. -/
def celIrqs : List Nat := [1, 56, 57, 58, 59, 62, 209]

/-- Item `x` of core `k` leaves the pool `l` that stood after its counters were decremented (R239, R243): its slot is free, the core is
its family's, `under` decrements found their counter at 0 (R241), and a `fault` is counted (R233). -/
def ItemLeaves (k : Nat) (x : Item) (fault : Bool) (l : List Item) (under : Nat) (c c' : Chip) : Prop :=
  c'.prs.items = l.filter (fun y => y.slot ≠ x.slot) ∧ c'.prs.aff = mset none c.prs.aff x.family (some k)
  ∧ c'.rd rPRS_CNT 2 = c.rd rPRS_CNT 2 + (if fault then 1 else 0) ∧ c'.rd rPRS_CNT 3 = c.rd rPRS_CNT 3 + BitVec.ofNat 32 under
  ∧ Logs 0x09 (List.replicate under 0xA2 ++ if fault then [0xA1] else []) c c'
  ∧ (fault = true → c'.irqs.getLsbD 99 = true) ∧ (under ≠ 0 → c'.irqs.getLsbD 100 = true)

/-- The registers a completion can change, and the interrupts it can raise. -/
def leaveRegs (fault : Bool) (under : Nat) : List Nat :=
  rPRS_POOL.addr 0 0 :: (if fault then [rPRS_CNT.addr 2 0] else []) ++ (if under = 0 then [] else [rPRS_CNT.addr 3 0])
    ++ if fault || under ≠ 0 then logRegs 0x09 else []
def leaveIrqs (fault : Bool) (under : Nat) : List Nat :=
  (if fault then [99] else []) ++ (if under = 0 then [] else [100]) ++ if fault || under ≠ 0 then [209] else []

/-- `i` ends the item on core `k`: it completes it, faults it, or is the item watchdog (R233, R239). -/
abbrev Chip.ends (c : Chip) (i : Instr) (k : Fin 16) (fault : Bool) : Prop :=
  (i = .pcwDone k ∧ fault = false) ∨ (i = .pcwFault k ∧ fault = true) ∨ (i = .itemWatchdog k ∧ fault = true ∧ c.rd rPRS_WDOG ≠ 0)

/-- Words that leave port `p`, and with them the odd port of its ring pair, newest first (R277). -/
def Chip.onLanes (c : Chip) (p : Nat) (w : List Word) : List Emit := (if p % 2 = 0 ∧ (c.port p).ringNow = true then [.cell (p + 1) w] else []) ++ [.cell p w]

/-- Port `p` comes to a cell with header `h` and payload `ws` (R270, R277, R361, R362): out of witness mode it goes out with the
port's SEQ, as the 64 words of a cell, counted; in witness mode it does not, and a keepalive fills the lane where no received cell was sent back. -/
def Sends (p : Nat) (h : Word) (ws : List Word) (c c' : Chip) : Prop :=
  (c.witness p = false → c'.wire = c.onLanes p (cellWire (setFld h 15 8 (c.port p).seq.toNat) ws) ++ c.wire)
  ∧ (c.witness p = true → c'.wire = (if (c.port p).returned then [] else
      c.onLanes p (cellWire (setFld (setBit (cellHead 0 0 1 0) 1 true) 15 8 (c.port p).seq.toNat) [BitVec.ofNat 32 ((c.port p).ftag.toNat * 256)])) ++ c.wire)
  ∧ (if c.witness p = true ∧ (c.port p).returned = true then (c'.port p).seq = (c.port p).seq ∧ (c'.port p).returned = false ∧ c'.rd rPORT_CNT p 0 = c.rd rPORT_CNT p 0
    else (c'.port p).seq = (c.port p).seq + 1 ∧ (c'.port p).returned = (c.port p).returned ∧ c'.rd rPORT_CNT p 0 = c.rd rPORT_CNT p 0 + 1)

/-- The registers a cell that leaves port `p` can change. -/
def Chip.sendRegs (c : Chip) (p : Nat) : List Nat := rPORT_CNT.addr p 0 :: if p % 2 = 0 ∧ (c.port p).ringNow = true then [rPORT_CNT.addr (p + 1) 0] else []

/-- The pair logic has concluded all it can (R369..R376). -/
abbrev Chip.pairCalm (c : Chip) : Prop := c.pairCheck = c

/-- Whether the Corridor message that command `i` brings has a right CRC; none where it brings none (R365). -/
def cdrMessage : Instr → Option Bool
  | .corridorHello _ k | .corridorState _ k | .caskMsg _ _ _ k | .sealMsg _ _ _ _ k | .ackMsg _ k | .swapMsg _ _ k | .swapAck _ _ k | .bulkMsg _ _ _ k
  | .bulkEnd _ _ k | .releaseMsg _ _ k | .fwmsg _ k => some k
  | _ => none

/-- A Corridor message can be taken: the domain runs and all lanes hold lock (R364, R365). -/
abbrev Chip.cdrOpen (c : Chip) : Prop := c.up .cdr = true ∧ c.cdr.lock = true

/-- The regions of which something is lost once what is being received is given up, unless it is region `r` (R365). -/
def Chip.spoiled (c : Chip) (r : Nat) : BitVec 5 :=
  c.cdr.bulkLost ||| match c.cdr.bulkIn with
    | some b => if b.region = r then 0 else 1#5 <<< b.region
    | none => 0

/-- Cask `q` is wanted: the unit follows, and has applied none as new (R382, R385). -/
abbrev Chip.caskWanted (c : Chip) (q : Word) : Prop := (c.pairState = 2 ∨ c.pairState = 3) ∧ (c.cdr.applied = 0 ∨ seqOld q c.cdr.applied = false)

/-- The SWAP_ACK of the swap `x` asked for has not come before P(k - 1), by the grid (R389). -/
abbrev Chip.swapPast (c : Chip) (x : SwapSt) : Prop :=
  gridF c.time.grid (gridK c.time.grid c.now + (x.k - BitVec.ofInt 32 (gridK c.time.grid c.now)).toInt - 1) + (c.rd rSH_TW 0 1).toNat ≤ c.now

/-- The words of a RELEASE, and of a SWAP for the other side (R377, R389). -/
def Chip.releaseBody (c : Chip) : List Word := [c.rd rCDR_RELMASK 0, BitVec.ofNat 32 (c.rf rCDR_RELMASK 1 0 15 0), wordOf c.swapFrame]
def Chip.otherEpoch (c : Chip) : BitVec 16 := BitVec.ofNat 16 (newEpoch c.ownEpoch c.peerEpoch (!c.sideB))

/-- A Corridor message with a right CRC, or a command of the pair's builder or sender, for which the unit's state is not one that
takes it (R365, R382, R387). -/
def Chip.pairIdle (c : Chip) : Instr → Bool
  | .corridorState _ k => k && !c.corridorUp
  | .stateSend => !c.up .cdr || (!c.corridorUp && c.cdr.swap.all fun x => x.incoming || x.agreed)
  | .caskMsg q _ _ k | .sealMsg q _ _ _ k => k && decide (¬ c.caskWanted q)
  | .ackMsg _ k => k && c.pairState ≠ 4
  | .caskBuild => !c.up .cdr || c.pairState ≠ 4 || c.drv.evalK = none
  | .bulkMsg r off ws k => k && ((c.pairState ≠ 2 && c.pairState ≠ 3) || r < 1 || 4 < r || bulkSize r < off + 4 * (ws.take 1024).length)
  | .bulkEnd r _ k => k && (c.pairState ≠ 2 || r < 1 || 4 < r)
  | .bulkTransfer => !c.up .cdr || !c.corridorUp || c.cdr.bulkOut = none
  | .swapMsg _ _ k => k && (c.pairState ≠ 3 || !c.rb rCDR_STATUS 0 0 13) && !c.corridorUp
  | .swapAck k _ o => o && c.cdr.swap.all fun x => x.incoming || x.agreed
  | .releaseMsg _ _ k => k && c.pairState = 4
  | _ => false

/-- The registers that a cask given up can change, and the interrupts (R385). -/
def caskRegs : List Nat := rCDR_CNT.addr 4 0 :: logRegs 0x0D

/-- PEER_EPOCH once epoch `e` is seen: the higher, and any before 0 (R373). -/
def Chip.peerAfter (c : Chip) (e : Nat) : Nat := if e ≠ 0 ∧ (c.peerEpoch = 0 ∨ epochHigher e c.peerEpoch = true) then e else c.peerEpoch

/-- The registers the pair logic can change in what it concludes (R369..R378): its status, epochs, swap, transfer and adoptions,
its counts, and its reports. -/
def pairRegs : List Nat :=
  [rCDR_STATUS, rCDR_EPOCH, rCDR_SWAP, rCDR_BULK].map (·.addr 0 0) ++ [rCDR_ADOPT.addr 0 0, rCDR_ADOPT.addr 1 0]
    ++ [0, 1, 2, 3, 4].map (rCDR_CNT.addr · 0) ++ logRegs 0x0D

/-- The interrupts it can raise. -/
def pairIrqs : List Nat := [176, 177, 178, 179, 180, 181, 182, 209]

/-- Port `p` shows the peer gone and has yet to adopt its chain (R376). -/
def Chip.adoptable (c : Chip) (p : Nat) : Bool := c.paired p && !c.adopted p && !c.cdr.heard.getLsbD p

/-- The ports that `g` holds of adopt their chains (R376): each is marked and counted, has IDLE and then HOLD to send, and drives from its
next window, with interrupt 181; every other port is as it was. -/
def Adopts (g : Nat → Bool) (c c' : Chip) : Prop :=
  (∀ p : Fin 48, c'.adopted p = (c.adopted p || g p)
    ∧ if g p = true then (c'.port p).urgent = [c'.idleCell p, c'.holdCell p] ∧ (c'.port p).held = true ∧ (c'.port p).window = false ∧ (c'.port p).presentDue = false
      else c'.port p = c.port p)
  ∧ c'.rd rCDR_CNT 2 = c.rd rCDR_CNT 2 + BitVec.ofNat 32 ((List.range 48).filter g).length
  ∧ ((List.range 48).any g = true → c'.irqs.getLsbD 181 = true)

/-- Port `p` as it comes to drive its chain (R372): it holds, its window is still to open, no blank list or HOLD of before stands, and
the raster cells of the frame in progress are gone, its frame lost, unless that window is still to open in it. -/
def Chip.resumed (c : Chip) (p : Nat) : Port :=
  let x := c.port p
  let gone := !(c.ras.inFrame && !x.opened)
  { x with held := true, window := false, blank := [], holdFirst := false, loss := c.ras.inFrame && gone, cells := (if gone then x.cells.filter fun k => !k.raster else x.cells), rasRd := if gone then x.rasWr else x.rasRd }

/-- The unit takes over (R371, R372): ACTIVE with a new epoch, counted with interrupt 177; a swap is given up and a cask half received
discarded; every paired port has ASSUME, on lane version 2, and HOLD to send, every other is as it was. -/
def TakesOver (c c' : Chip) : Prop :=
  c'.pairState = 4 ∧ c'.ownEpoch = newEpoch c.ownEpoch c.peerEpoch c.sideB ∧ c'.rd rCDR_CNT 0 = c.rd rCDR_CNT 0 + 1 ∧ c'.irqs.getLsbD 177 = true
  ∧ c'.rd rCDR_CNT 4 = c.rd rCDR_CNT 4 + (if c.cdr.caskIn = none then 0 else 1)
  ∧ (∀ p : Fin 48, c'.adopted p = false ∧ c'.port p = if c.paired p then
      { c.resumed p with urgent := if c.laneVer p = 2 then [c'.assumeCell p, c'.holdCell p] else [c'.holdCell p], presentDue := false } else c.port p)
  ∧ c'.cdr = { c.cdr with swap := none, caskIn := none, askRevert := false, fresh := true, heard := c'.cdr.heard }

/-- What the ports of a pair, its logic and the log can hold besides: two modules that agree in the rest agree in everything the pair
logic does not touch. -/
def Chip.pairRest (c c' : Chip) : Chip := { c.rest with err := c'.err, cdr := c'.cdr, ports := c'.ports }

/-- A Corridor message of type `type` on its way out: nothing where a reset of XQ_CDR_TX has lost it (R365, R468). -/
def Chip.cdrOut (c : Chip) (type : Nat) (body : List Word) : List Emit :=
  let l := BitVec.ofNat 32 (type * 2 ^ 28 + body.length % 4096 * 2 ^ 16 + c.cdr.mseq.toNat) :: body
  if c.cutOff [0x40] = true then [] else [.cdr (l ++ [wordsCrc l])]

/-- The queues once a Corridor message has passed XQ_CDR_TX. -/
def Chip.cdrQue (c : Chip) : QueSt := (c.cutDone [0x40]).que

/-- The `n` words from `a` on. -/
def Chip.words (c : Chip) (a n : Nat) : List Word := (List.range n).map fun i => c.word (a + 4 * i)

/-- The words of the Corridor message of type `type` the unit would send next (R365). -/
def Chip.cdrWords (c : Chip) (type : Nat) (body : List Word) : List Word :=
  let l := BitVec.ofNat 32 (type * 2 ^ 28 + body.length % 4096 * 2 ^ 16 + c.cdr.mseq.toNat) :: body
  l ++ [wordsCrc l]

/-- The words of the Trellis message the module would send next (R398). -/
def Chip.trlWords (c : Chip) (type dest : Nat) (bcast : Bool) (body : List Word) : List Word :=
  let l := trlHead type dest bcast body.length c.trl.mseq :: body
  l ++ [wordsCrc l]

/-- Words that go out as a Trellis message: nothing where a reset of XQ_TRL_TX has lost them (R398, R468). -/
def Chip.trlOut (c : Chip) (down : Bool) (l : List Word) : List Emit := if c.cutOff [0x42] = true then [] else [.trl down (l ++ [wordsCrc l])]

/-- The queues once a Trellis message has passed XQ_TRL_TX. -/
def Chip.trlQue (c : Chip) : QueSt := (c.cutDone [0x42]).que

/-- The message that command `i` brings on a side of the Trellis, and its type (R398). -/
def trlMessage : Instr → Option (Nat × TrlMsg)
  | .trellisHello m => some (1, m)
  | .trellisTime m => some (2, m)
  | .sliceMsg m => some (3, m)
  | .sliceEnd m => some (4, m)
  | .stackMsg m => some (5, m)
  | _ => none

/-- A message can come in on side `up`: the Trellis runs, is enabled, and the side's lanes hold lock (R397). -/
abbrev Chip.trlOpen (c : Chip) (up : Bool) : Prop := c.up .trl = true ∧ c.rb rTRL_CTRL 0 0 0 = true ∧ (c.trlSide up).lock = true

/-- Message `m` is taken here: it comes in whole on a side that is up, and is for this position or for all (R398). -/
abbrev Chip.trlHere (c : Chip) (m : TrlMsg) : Prop :=
  c.trlOpen m.fromUp ∧ c.rb rTRL_STATUS 0 0 (linkBit m.fromUp) = true ∧ m.crcOk = true ∧ (m.dest.val = c.pos ∨ m.bcast = true)

/-- Message `m` of type `type` goes on where it is not for this position alone: towards its position, a broadcast to the other side,
where that side is up (R398). -/
abbrev Chip.trlGoes (c : Chip) (m : TrlMsg) : Prop :=
  (m.dest.val ≠ c.pos ∨ m.bcast = true) ∧ c.rb rTRL_STATUS 0 0 (if (if m.bcast then m.fromUp else decide (c.pos < m.dest.val)) then 2 else 1) = true
def Chip.trlOnward (c : Chip) (type : Nat) (m : TrlMsg) : List Emit :=
  if c.trlGoes m then c.trlOut (if m.bcast then m.fromUp else decide (c.pos < m.dest.val)) (trlHead type m.dest m.bcast m.body.length m.mseq :: m.body) else []
def Chip.trlQueOn (c : Chip) (m : TrlMsg) : QueSt := if c.trlGoes m then c.trlQue else c.que

/-- What NC writes the servo's state to while the stack's loop runs: LOCKED where ALIGNED, else ACQUIRING (R401). -/
def alignedState (a : Bool) : Nat := if a then 2 else 1

/-- The object protocol's message that command `i` brings, and its type (R416). -/
def dopMessage : Instr → Option (Nat × DopMsg)
  | .dopHello m => some (0x01, m)
  | .dopClose m => some (0x03, m)
  | .dopKeepalive m => some (0x04, m)
  | .dopGet m => some (0x10, m)
  | .dopSet m => some (0x12, m)
  | _ => none

/-- Firmware takes the datagram `m` of the network as a whole message of type `ty` with header `h` (R413..R415). -/
abbrev Chip.dopWhole (c : Chip) (m : DopMsg) (ty : Nat) (h : DopHdr) : Prop :=
  c.dopRuns = true ∧ c.dopAddressed m = true ∧ m.frag = false ∧ m.relayed = false ∧ headOk m.bytes ty = true ∧ h = dopHdr m.bytes

/-- That message is for this module, and not passed on to a follower (R415, R440). -/
abbrev Chip.dopMine (c : Chip) (m : DopMsg) (ty : Nat) (h : DopHdr) : Prop := c.dopWhole m ty h ∧ c.forMe h.dst = true ∧ c.relay m h = c

/-- The protocol's counters after counter `i` has counted. -/
def countsOf (l : List (Nat × Nat)) (i : Nat) : List (Nat × Nat) := mset 0 l i ((mget 0 l i + 1) % 2 ^ 32)

/-- The body of a message of session `x`, where its tag is right (R419). -/
def Chip.sessBody (c : Chip) (x : DopSess) (m : DopMsg) : Option (List Byte) :=
  match x.entry with
  | none => some (m.bytes.drop 24)
  | some e => unsealed (c.sessEnt e).keyIn m.bytes (dopHdr m.bytes).len

/-- The message of header `h` is accepted in session `x` with this body (R420..R422). -/
abbrev Chip.admits (c : Chip) (m : DopMsg) (h : DopHdr) (x : DopSess) (body : List Byte) : Prop :=
  c.liveSession h.sid = some x ∧ h.group = false ∧ h.plain = x.entry.isNone ∧ c.sessBody x m = some body
    ∧ (x.entry ≠ none → x.rx.refuses h.seq = false) ∧ (x.opened = true ∨ c.openFull = false)

/-- The sessions then: the message's is OPEN and its idle time begins anew; one with keys enters the SEQ. -/
def Chip.admitted (c : Chip) (m : DopMsg) (h : DopHdr) (x : DopSess) : List DopSess :=
  c.dop.sess.map fun y => if y.sid = x.sid then { y with opened := true, at_ := c.now, ip := m.ip, rx := if x.entry.isSome then y.rx.enter h.seq else y.rx } else y

/-- The message of type `type` that the module sends next in session `x`: plain without keys, else sealed (R419). -/
def Chip.sessMsg (c : Chip) (x : DopSess) (type : Nat) (body : List Byte) : List Byte :=
  let h : DopHdr := { ver := x.ver, type := type, src := c.devNo, dst := x.src, sid := x.sid, seq := x.tx + 1, len := body.length, flags := b2n x.entry.isNone, level := x.level }
  match x.entry with
  | none => h.bytes ++ body
  | some e => sealed (c.sessEnt e).keyOut h body

/-- The sessions of `l` once session `x` has sent it. -/
def sentIn (x : DopSess) (l : List DopSess) : List DopSess := l.map fun y => if y.sid = x.sid then { y with tx := x.tx + 1 } else y

/-- The sessions of `l` once the reply has been kept besides. -/
def keptIn (x : DopSess) (k : KeptReply) (l : List DopSess) : List DopSess := (sentIn x l).map fun y => if y.sid = x.sid then { y with cache := (k :: y.cache).take 16 } else y

/-- The answer to a message of a session that is not there (R422). -/
def Chip.noSessionMsg (c : Chip) (h : DopHdr) : List Byte :=
  DopHdr.bytes { ver := h.ver, type := if h.type = 0x10 then 0x11 else 0x13, src := c.devNo, dst := h.src, sid := h.sid, seq := 0, len := 5, flags := 1, level := h.level } ++ [0, 0, 0, 0, 0x1D]

/-- A HELLO's version range leaves a version, its show key can be used, and room is left: else the status that refuses it, with the
version named (R417, R478). -/
def Chip.helloStatus (c : Chip) (h : DopHdr) (b : List Byte) : Option (Nat × Nat) :=
  let ver := min (beNat (slice b 1 1)) 3
  if ver = 0 ∨ ver < beNat (slice b 0 1) then some (0x1B, 0)
  else match c.keyRefusal h.level with
    | some st => some (st, ver)
    | none => if c.openFull = true then some (stBusy, ver) else none

/-- A HELLO's header and body are in order (R417). -/
abbrev helloOk (h : DopHdr) (b : List Byte) : Prop := h.ver = 1 ∧ h.sid = 0 ∧ h.seq = 0 ∧ h.plain = true ∧ h.len = 40 ∧ 1024 ≤ beNat (slice b 2 2) ∧ beNat (slice b 4 4) = 0

/-- The words of the STACK message that carries `m` to a follower, one part (R398, R440). -/
def Chip.stackWords (c : Chip) (m : DopMsg) : List Word :=
  [BitVec.ofNat 32 (2 ^ 28 + m.port.val * 2 ^ 24 + c.pos * 2 ^ 20 + m.udp.toNat), m.ip, tsWord m.ts 0, tsWord m.ts 1, tsWord m.ts 2, BitVec.ofNat 32 (m.bytes.length * 65536)] ++ dopWords (slice m.bytes 0 4080)

/-- At a control tick firmware finds nothing to look after beside the writes (R192, R197, R386, R387, R444, R511). -/
abbrev Chip.firmQuiet (c : Chip) : Prop :=
  c.boot.rasWait = false ∧ c.dop.rwc = [] ∧ c.dop.gridApply = false ∧ c.dop.mirror = [] ∧ c.cdr.policy = [] ∧ c.cdr.fwmsg = [] ∧ (c.dop.dflNext = none ∨ c.rasStopped = false)
    ∧ (∀ p : Fin 48, mget none c.dop.disc p = none) ∧ (c.ownEpoch = 0 ∨ c.objNat 0x8004 0 0 = c.ownEpoch)
    ∧ (c.pairState = 4 → c.corridorUp = false ∨ c.cdr.bulkSent = false ∨ c.cdr.imageSent = true) ∧ (c.pairState = 2 → c.corridorUp = false ∨ c.cdr.bulkLost = 0)

/-- The request that the SET `m` of header `h` makes in session `x` (R436). -/
def setRequest (m : DopMsg) (h : DopHdr) (x : DopSess) (req : Nat) (items : List DopItem) : DopReq :=
  { ts := m.ts, src := h.src, dst := h.dst, ver := x.ver, level := x.level, sid := h.sid, ack := h.ackReq, req := req, items := items, ip := m.ip, udp := m.udp, port := m.port }

/-- The sessions once a reply of type `type` has gone out in session `x` and been kept. -/
def Chip.answered (c : Chip) (m : DopMsg) (h : DopHdr) (x : DopSess) (type req : Nat) (body : List Byte) : List DopSess :=
  keptIn x { req := req, type := type, body := body } (c.admitted m h x)

/-- What stands on the lands once the Porch has printed the lines `l` after `w`: the newest first. -/
def printed (l : List (List Byte)) (w : List Emit) : List Emit := (l.map fun x => Emit.uart 0 (x ++ crlf)).reverse ++ w

/-- The module is in the Porch, no transfer under way. -/
abbrev Chip.inPorch (c : Chip) : Prop := c.alive .sys = true ∧ c.boot.hc0 = .porch ∧ c.boot.load = none

/-- The Porch takes the blocks of transfer `x` (R547). -/
abbrev Chip.loading (c : Chip) (x : PorchLoad) : Prop := c.alive .sys = true ∧ c.boot.hc0 = .porch ∧ c.boot.load = some x

/-- A block with the number, length and CRC that transfer `x` waits for, and that transfer once it is stored. -/
abbrev PorchLoad.right (x : PorchLoad) (num : Byte) (len : BitVec 16) (data : List Byte) (crc : Word) : Prop :=
  1 ≤ len.toNat ∧ len.toNat ≤ 1024 ∧ data.length = len.toNat ∧ crc = crc32c data ∧ num = x.block + 1
def PorchLoad.next (x : PorchLoad) (num : Byte) (data : List Byte) : PorchLoad := { x with got := x.got + data.length, block := num }

/-- The module with transfer `x` under way. -/
def Chip.withLoad (c : Chip) (x : PorchLoad) : BootSt := { c.boot with load := some x }

/-- The module once the Porch has taken a line of the words `ws` and echoed it. -/
def Chip.echoed (c : Chip) (ws : List (List Byte)) : Chip := Chip.line { c with cyc := c.cyc + 1 } (joinWords ws)

/-! ## The DMA channels -/

/-- The descriptor at `d`, in the Cellar, reads without error. -/
abbrev Chip.descOk (c : Chip) (d : Nat) : Prop := celBase ≤ d ∧ d + 32 ≤ 0x9FC00000 ∧ d % 32 = 0 ∧ c.celCalm

/-- A channel that takes up the descriptor at `d`. -/
def Chip.descOf (c : Chip) (d : Nat) : DmaCh := DmaCh.ofWords (c.words d 8)

/-- The DMA engine may write `w` bytes at `d` in the Cellar. -/
abbrev Chip.dmaMay (c : Chip) (d w : Nat) : Prop :=
  celBase ≤ d ∧ d + w ≤ 0x9FC00000 ∧ c.celCalm ∧ c.rb rRGN_WMASK (celRegion d) 0 (masterId .dma) = true ∧ c.rb rECC_INJ 0 0 31 = false

/-- Channel `n` has taken up the descriptor at `d`: RUN, CUR, the counts and addresses (R448). -/
def Fetched (n d : Nat) (c : Chip) : Prop :=
  c.dmaCh n = c.descOf d ∧ c.dmaState n = 1 ∧ (c.rd rDMA_CUR n).toNat = d ∧ c.rd rDMA_REM n = BitVec.ofNat 32 (c.descOf d).count
  ∧ c.rd rDMA_ADR n 0 = c.word (d + 8) ∧ c.rd rDMA_ADR n 1 = c.word (d + 12)

/-- The registers of channel `n` that taking up a descriptor changes. -/
def fetchRegs (n : Nat) : List Nat := [rDMA_STAT.addr n 0, rDMA_CUR.addr n 0, rDMA_REM.addr n 0, rDMA_ADR.addr n 0, rDMA_ADR.addr n 1]

/-- Where channel `n` writes word 6 of its descriptor. -/
def Chip.word6At (c : Chip) (n : Nat) : Nat := (c.rd rDMA_CUR n).toNat + 24

/-- Word 6 with RESULT `res` and MOVED (R448). -/
def DmaCh.word6 (x : DmaCh) (res : Nat) : Word := BitVec.ofNat 32 (2 ^ 31 + res * 2 ^ 28 + (x.count - x.toWrite))

/-- If `w`, word 6 of channel `n`'s descriptor `x` gets RESULT `res`; no other byte changes. -/
def Wrote6 (n : Nat) (x : DmaCh) (w : Bool) (res : Nat) (c c' : Chip) : Prop :=
  (w = true → c'.word (c.word6At n) = x.word6 res) ∧ SameBytes (fun m => w = true ∧ c.word6At n ≤ m ∧ m < c.word6At n + 4) c c'

/-- Channel `k` is triggered by completions of channel `n` (R450). -/
def Chip.follows (c : Chip) (n k : Nat) : Bool := c.rf rDMA_CFG k 0 27 26 = 3 && c.rf rDMA_CFG k 0 25 22 = n

/-- Channel `k`'s status with a completion of channel `n` counted where it counts them (R451). -/
def Chip.heard (c : Chip) (n k : Nat) : Word :=
  if c.follows n k = true ∧ (c.dmaState k = 1 ∨ c.dmaState k = 2) then setFld (c.rd rDMA_STAT k) 15 8 (c.rf rDMA_STAT k 0 15 8 + 1) else c.rd rDMA_STAT k

/-- The last beat of channel `n`'s descriptor `x` is out in state `st`, its read-back and word 6 go to the Cellar, and no channel it
triggers is itself or has its count full. -/
abbrev Chip.completes (c : Chip) (n : Fin 16) (x : DmaCh) (st : Nat) : Prop :=
  c.alive .sys = true ∧ c.dmaState n = st ∧ (st = 1 ∨ st = 4) ∧ c.dmaCh n = x ∧ x.phase = .readBack ∧ celBase ≤ x.lastWord ∧ x.lastWord < 0x9FC00000 ∧ c.celCalm
    ∧ (bit (x.word 0) 29 = true → c.dmaMay (c.word6At n) 4 ∧ c.word6At n % 32 = 24) ∧ ∀ k : Fin 16, c.follows n k = true → k ≠ n ∧ c.rf rDMA_STAT k 0 15 8 < 255

/-- Steps 2 to 4 of R458: word 6 where it is asked for, the count, the interrupt's cause, the event of each channel that follows. -/
def Completed (n : Fin 16) (x : DmaCh) (res : Nat) (c c' : Chip) : Prop :=
  Wrote6 n x (bit (x.word 0) 29) res c c' ∧ c'.rd rDMA_DONE n = c.rd rDMA_DONE n + 1
  ∧ c'.rb rDMA_STAT n 0 0 = (bit (x.word 0) 30 || c.rb rDMA_STAT n 0 0) ∧ ∀ k : Fin 16, k ≠ n → c'.rd rDMA_STAT k = c.heard n k

/-- The registers a completion changes. -/
def doneRegs (n : Nat) : List Nat := rDMA_DONE.addr n 0 :: (List.range 16).map (rDMA_STAT.addr · 0)

/-- The status of channel `n` after STOP (R461, R465): in RUN with its descriptor's last beat or a burst out it is STOPPING; in TAIL and
else in RUN it is IDLE with the STOPPED cause; in any other state it is as it was. -/
def Chip.stopped (c : Chip) (n : Nat) : Word :=
  let x := c.dmaCh n
  let w := c.rd rDMA_STAT n
  if c.dmaState n = 1 && (x.phase == .readBack || (x.phase == .beats && x.left ≠ 0)) then setFld w 18 16 4
  else if c.dmaState n = 1 || c.dmaState n = 2 then setBit (setFld w 18 16 0) 3 true
  else w

/-- Dual-clock queue `id` was reset with `n` entries lost: both counts, and the report with its detail (R467). -/
def QueueReset (id n : Nat) (c c' : Chip) : Prop :=
  c'.rd rQUE_XLOST = c.rd rQUE_XLOST + BitVec.ofNat 32 n ∧ c'.rd rQUE_XRESETS = c.rd rQUE_XRESETS + 1
  ∧ (c.rb rERR_CTRL 0 0 0 = true → (mget [] c.err.queues 0x0F).length < 4 →
      ∃ r : Rep, r.code = 0x38 ∧ r.detail = lostDetail id n ∧ mget [] c'.err.queues 0x0F = mget [] c.err.queues 0x0F ++ [r])

/-- The registers such a reset changes. -/
def queueRegs : List Nat := rQUE_XLOST.addr 0 0 :: rQUE_XRESETS.addr 0 0 :: logRegs 0x0F

/-- The resets of the other queues that lost entries: what passes through each next (the model's choice, log entry 211). -/
def Chip.cutQue (c : Chip) (id lost : Nat) : QueSt := if lost = 0 then c.que else { c.que with cut := c.que.cut ++ [id] }

/-! ## The Vault -/

/-- The access, the window and the CMD word of a command that starts an operation of the Vault (R489). -/
def vltCmdOf : Instr → Option (Access × Fin 4 × Word)
  | .vltHmac a w k => some (a, w, cmdWord 1 k 0)
  | .sealOp a w k => some (a, w, cmdWord 2 k 0)
  | .openOp a w k => some (a, w, cmdWord 3 k 0)
  | .vltDerive a w k d => some (a, w, cmdWord 4 k d)
  | .vltSession a w e => some (a, w, cmdWord 5 e 0)
  | .vltAttest a w k => some (a, w, cmdWord 6 k 0)
  | .unonce a w k => some (a, w, cmdWord 7 k 0)
  | .unlock a w k => some (a, w, cmdWord 8 k 0)
  | .loadUrg a w k => some (a, w, cmdWord 9 k 0)
  | .vltInstall a w k => some (a, w, cmdWord 10 k 0)
  | .vltDelete a w k => some (a, w, cmdWord 11 k 0)
  | .vltExtend a w => some (a, w, cmdWord 12 0 0)
  | .vltRandom a w => some (a, w, cmdWord 13 0 0)
  | .vltSetattr a w k => some (a, w, cmdWord 14 k 0)
  | .commrec a w k => some (a, w, cmdWord 15 k 0)
  | _ => none

/-- The slot whose key an operation uses, and the USAGE bit it needs there (R489). -/
def Chip.vltNeeds (c : Chip) : Instr → Option (Access × Nat × Nat)
  | .vltHmac a _ k | .commrec a _ k => some (a, k, 0)
  | .sealOp a w k => if c.vltArg w 2 % 2 = 1 then none else some (a, k, 1)
  | .openOp a w k => if c.vltArg w 2 % 2 = 1 then none else some (a, k, 2)
  | .vltDerive a w k _ => if c.vltArg w 0 % 2 = 1 then none else some (a, k, 3)
  | .vltSession a w _ => some (a, c.vltArg w 2 % 64, 3)
  | .vltAttest a _ k | .unonce a _ k | .unlock a _ k => some (a, k, 4)
  | .loadUrg a _ k => some (a, k, 2)
  | _ => none

/-- An operation with a session entry is NC's, and the entry is in use (R484): the result that refuses it. -/
def Chip.entryWrong (c : Chip) (a : Access) (w e : Nat) : Option Nat :=
  if c.vltArg w 2 % 2 = 0 then none else if a.master ≠ .nc then some 1 else if !(c.sessEnt e).used then some 2 else none

/-- Slot `k` is stored and cannot be: md is not final, or the device-unique secret is not usable (R480, R487). -/
def Chip.storeWrong (c : Chip) (k : Nat) : Option Nat :=
  if !c.persist k then none else if c.bound k && !c.mfinal then some 5 else if !c.dusOk then some 6 else none

/-- The derivation of DERIVE is bound to md. -/
def Chip.bindsMd (c : Chip) (w d : Nat) : Bool := c.vltArg w 0 / 2 % 2 = 1 || c.bound d

/-- The result of an operation whose operands, master, state or target slot are out of order, the slot it uses being permitted
(R482, R484..R497). -/
def Chip.vltWrong (c : Chip) : Instr → Option Nat
  | .vltHmac _ w _ | .vltRandom _ w => if c.vltArg w 0 > 1024 then some 5 else none
  | .sealOp a w k => (c.entryWrong a w k).or (if c.vltArg w 2 % 2 = 0 ∧ (12 + c.vltArg w 1 + c.vltArg w 0 > 1024 ∨ c.vltArg w 0 + 16 > 1024) then some 5 else none)
  | .openOp a w k => (c.entryWrong a w k).or (if c.vltArg w 2 % 2 = 0 ∧ 12 + c.vltArg w 1 + c.vltArg w 0 + 16 > 1024 then some 5 else none)
  | .vltDerive a w _ d =>
    if c.vltArg w 0 % 2 = 1 && !c.dusOk then some 6
    else if d.val < 6 || (c.bindsMd w d && !c.mfinal) then some 5
    else if !c.slotFor a d then some 1 else c.storeWrong d
  | .vltSession _ w _ => if c.vltArg w 0 + c.vltArg w 1 > 1024 then some 5 else none
  | .vltAttest _ _ _ => if c.mfinal then none else some 5
  | .unonce _ _ _ => if c.unlkLocked then some 6 else none
  | .unlock _ _ k => if c.unlkLocked then some 6 else if k.val = 2 ∨ k.val = 3 then none else some 5
  | .loadUrg _ w _ => if c.vltArg w 0 > 1 then some 5 else none
  | .vltInstall a w k =>
    if k.val = 0 then some 5 else if !c.slotFor a k then some 1
    else if c.lc = 0 then (if c.worldS a then c.storeWrong k else some 1)
    else if !c.attrLc k then some 6
    else if !(c.sessEnt (c.vltArg w 0 % 64)).used then some 5
    else if (keyUnwrap (c.sessEnt (c.vltArg w 0 % 64)).kekS (c.vltBuf w 40)).isNone then some 3 else c.storeWrong k
  | .vltDelete a _ k =>
    if !c.slotFor a k || k.val = 0 then some 1 else if !c.attrLc k then some 6 else if (c.keySlot k).key.isNone then some 2 else c.storeWrong k
  | .vltExtend a w => if !((a.master == .hc0 || a.master == .hc1) && c.worldS a) then some 1 else if c.mfinal || c.vltArg w 0 > 7 then some 5 else none
  | .vltSetattr a w k =>
    if !c.worldS a then some 1 else if k.val < 6 || (c.keySlot k).key.isSome || c.vltArg w 1 % 2 ^ (c.lc + 1) ≠ 0 then some 5 else none
  | .commrec _ w k =>
    let n := leNat (slice (c.bytes (c.vltArg w 0) (c.vltArg w 1)) 4 2)
    if c.lc ≠ 1 then some 6
    else if k.val ≠ 0 || c.vltArg w 0 < 0x01000000 || c.vltArg w 0 + c.vltArg w 1 > 0x01100000 || c.vltArg w 1 ≠ 8 + n || n > 8192 then some 5
    else if !c.dusOk then some 6 else none
  | _ => none

/-- The Vault takes the CMD word of `i` and has no operation or life-cycle change before it. -/
abbrev Chip.vltTakes (c : Chip) (i : Instr) : Prop :=
  ∀ x ∈ vltCmdOf i, c.takes x.1 rVLT_CMD x.2.1 0 x.2.2 ∧ c.vlt.lcTarget = none ∧ c.vlt.queue = []

/-- The slot that `i` uses is permitted to it (R481). -/
abbrev Chip.slotGiven (c : Chip) (i : Instr) : Prop := ∀ y ∈ c.vltNeeds i, c.slotRefusal y.1 y.2.1 y.2.2 = none

/-- The Vault takes operation `i` and nothing refuses it. -/
abbrev Chip.vltGo (c : Chip) (i : Instr) : Prop := c.vltTakes i ∧ c.slotGiven i ∧ c.vltWrong i = none

/-- `i` writes a record of the flash. -/
def Chip.vltStores (c : Chip) : Instr → Bool
  | .vltDerive _ _ _ d => c.persist d
  | .vltInstall _ _ k | .vltDelete _ _ k => c.persist k
  | .commrec _ _ _ => true
  | _ => false

/-- An operation of window `w` ends with result `n` and `len` bytes: STS, the count of operations, and what a refusal counts,
raises and logs (R481, R489). -/
def VltEnds (w n len : Nat) (c c' : Chip) : Prop :=
  c'.rd rVLT_STS w = BitVec.ofNat 32 (2 ^ 30 + n * 2 ^ 24 + len) ∧ c'.rd rVLT_CNT 3 = c.rd rVLT_CNT 3 + 1
  ∧ c'.rd rVLT_CNT 0 = c.rd rVLT_CNT 0 + (if n = 1 then 1 else 0) ∧ (n = 1 ∨ n = 2 ∨ n = 6 → c'.irqs.getLsbD 194 = true ∧ Reports 0x0B 0x42 c c')

/-- The registers and interrupts of such an end. -/
def vltRegs (w : Nat) : List Nat := [rVLT_STS.addr w 0, rVLT_CNT.addr 3 0]
def refusedRegs (w n : Nat) : List Nat := vltRegs w ++ if n = 1 ∨ n = 2 ∨ n = 6 then rVLT_CNT.addr 0 0 :: logRegs 0x0B else []
def refusedIrqs (n : Nat) : List Nat := if n = 1 ∨ n = 2 ∨ n = 6 then [194, 209] else []

/-- BUF of window `w` with `l` at its start. -/
def Chip.bufWith (c : Chip) (w : Nat) (l : List Byte) : List Byte := l ++ (c.vltBuf w 1024).drop l.length

/-- The key of a SEAL (`out`) or OPEN on slot or entry `k`, and the Vault with the entry marked used (R484). -/
def Chip.aeadOf (c : Chip) (w k : Nat) (out : Bool) : List Byte :=
  if c.vltArg w 2 % 2 = 1 then (if out then (c.sessEnt k).keyOut else (c.sessEnt k).keyIn) else c.keyOf k
def Chip.aeadVlt (c : Chip) (w k : Nat) : VltSt :=
  if c.vltArg w 2 % 2 = 1 then (c.setSess k { c.sessEnt k with at_ := c.now }).vlt else c.vlt

/-- Where the next record goes in the flash. -/
def Chip.recAt (c : Chip) : Nat := vltArea c.vlt.area + 32 * c.vlt.unit

/-- A record of `n` units has room in the active area, on erased flash, and no warning is in force. -/
abbrev Chip.recRoom (c : Chip) (n : Nat) : Prop :=
  c.pwr.pfw = false ∧ c.vlt.area < 2 ∧ c.vlt.broken = false ∧ c.vlt.unit + n ≤ vltUnits ∧ ∀ i < 32 * n, c.byte (flashBase + c.recAt + i) = 0xFF

/-- The record of key `key` in slot `k`, or its DELETE record (R494). -/
def Chip.keyRec (c : Chip) (k : Nat) (key : Option (List Byte)) : List Byte :=
  let wrapped := match key with | some x => keyWrap (c.kek (c.bound k)) x | none => List.replicate 40 0
  natLE 4 magicKey ++ recBytes 4 ([BitVec.ofNat 8 k, if key.isNone then 1 else 0] ++ List.replicate 6 0) c.nextSeq
    (wordBytes (c.rd (rATTR0 k)) ++ wordBytes (c.rd (rATTR1 k)) ++ wrapped ++ List.replicate 24 0) (c.kmac (c.bound k))

/-- The bytes `r` are programmed as the next record (R496). -/
def RecordPut (r : List Byte) (c c' : Chip) : Prop :=
  c'.flashBytes c.recAt r.length = r ∧ c'.nextSeq = c.nextSeq + 1 ∧ c'.vlt.unit = c.vlt.unit + r.length / 32 ∧ c'.irqs.getLsbD 200 = true

/-- Key `key` is put in slot `k` by an operation of window `w`, in a record first where the slot is stored. -/
def KeyPut (w k : Nat) (key : List Byte) (c c' : Chip) : Prop :=
  c'.keySlot k = { key := some key, seq := if c.persist k then c.nextSeq else 0 } ∧ (∀ x : Fin 64, x.val ≠ k → c'.keySlot x = c.keySlot x) ∧ VltEnds w 0 0 c c'
  ∧ (c.persist k = true → RecordPut (c.keyRec k (some key)) c c')
  ∧ SameBytes (fun i => c.persist k = true ∧ flashBase + c.recAt ≤ i ∧ i < flashBase + c.recAt + 128) c c' ∧ c'.rest = { c.rest with vlt := c'.vlt, mem := c'.mem }

/-- The registers and interrupts of an operation that may store. -/
def putRegs (w : Nat) : List Nat := vltRegs w ++ [rVLT_SEQ.addr 0 0, rVLT_SEQ.addr 1 0]

/-! ## Start-up and update -/

/-- Firmware runs and no power-fail warning is in force. -/
abbrev Chip.firm (c : Chip) : Prop := c.fwRuns = true ∧ c.pwr.pfw = false

/-- An address of the journal and the piece bitmap (R516). -/
abbrev inJournal (n : Nat) : Prop := flashBase + jrBase 0 ≤ n ∧ n < flashBase + jrBase 0 + 0x20000

/-- The update state with its place in the journal as `y` has it. -/
def UpdSt.jr (y x : UpdSt) : UpdSt := { x with half := y.half, recs := y.recs, seq := y.seq }

/-- The update state with state `st` and error `err` entered (R516, R518). -/
def UpdSt.enter (x : UpdSt) (st err : Nat) : UpdSt :=
  if st = 0 ∨ st = 8 ∨ st = 9 then { x with state := st, err := err, cid := [], clen := 0, built := 0, arm := none, erasing := true, last := [] }
  else { x with state := st, err := err }

/-- The update state is journalled: where the journal's next records were blank they hold it, and nothing but the journal changes
(R518, R520). -/
def Journalled (c c' : Chip) : Prop :=
  (c'.upd.cid.length ≤ 32 → c'.upd.arm.all (fun a => a.bytes.length = 28) = true → (∀ i < 128, c.byte (flashBase + jrAt c.upd.half c.upd.recs + i) = 0xFF) →
    c'.flashBytes (jrAt c'.upd.half (c'.upd.recs - (c'.upd.records 0).length)) (64 * (c'.upd.records 0).length) = (c'.upd.records (c'.upd.seq + 1 - (c'.upd.records 0).length)).flatten)
  ∧ SameBytes inJournal c c'

/-- Update state `x` entered and journalled, with `codes` logged; nothing else changes. -/
def Enters (x : UpdSt) (codes : List Nat) (c c' : Chip) : Prop :=
  c'.upd = c'.upd.jr x ∧ Journalled c c' ∧ Logs 0x0C codes c c' ∧ c'.rest = { c.rest with mem := c'.mem, upd := c'.upd, err := c'.err, boot := c'.boot }
  ∧ c'.boot = { c.boot with badSectors := c'.boot.badSectors } ∧ Frame (logRegs 0x0C) [200, 209] c c'

/-- A boot configuration record whose numbers fit their places (R506). -/
abbrev BootCfg.fits (x : BootCfg) : Prop :=
  x.gen + 1 < 2 ^ 32 ∧ x.active < 256 ∧ x.prev < 256 ∧ x.state < 256 ∧ x.trials < 256 ∧ x.vfloor < 2 ^ 32 ∧ x.vintA < 2 ^ 32 ∧ x.vintB < 2 ^ 32 ∧ x.wrtA < 2 ^ 64 ∧ x.wrtB < 2 ^ 64

/-- An address of the boot configuration. -/
abbrev inCfg (n : Nat) : Prop := flashBase ≤ n ∧ n < flashBase + 0x40000

/-- The module is held in a reset of cause SOFT: every register and every block at its reset state but memory, what a warm reset keeps of
the Cellar, the fuses and the marks of abandoned erases (R529, R560). -/
def SoftReset (c c' : Chip) : Prop :=
  c'.pwr = { c.pwr with phase := .rails, resetOutN := false, cause := 4, alarmArmed := true } ∧ c'.boot = { abandoned := c.boot.abandoned, badSectors := c'.boot.badSectors }
  ∧ c'.rest = { ({} : Chip) with mem := c'.mem, sram := c'.sram, wire := c'.wire, fuses := c'.fuses, cel := c'.cel, boot := c'.boot, pwr := c'.pwr, cyc := 0 }
  ∧ (c.vlt.lcTarget = none → c'.fuses = c.fuses) ∧ ∀ n d, mget d c'.regs n = d

/-- Area `a` of the Attic has been written as a dump of a fatal event with `cause` (R539, R540): MAGIC, FMT 1 and 7 sections, its SEQ, the time, the
cause, the frame index and the vintage in its header, and the images of the cores from byte 256 on. -/
def DumpIn (a seq : Nat) (cause : Word) (cores nc : List Byte) (c c' : Chip) : Prop :=
  leNat (c'.bytes (dumpArea a) 8) = dumpMagic + 2 ^ 32 * (1 + 2 ^ 16 * 7) ∧ leNat (c'.bytes (dumpArea a + 8) 4) = seq % 2 ^ 32
  ∧ c'.bytes (dumpArea a + 12) 24 = wordBytes (tsWord c.now 0) ++ wordBytes (tsWord c.now 1) ++ wordBytes (tsWord c.now 2) ++ wordBytes cause ++ natLE 4 c.ras.k ++ wordBytes (c.rd rVINTAGE)
  ∧ c'.bytes (dumpArea a + 256) 1280 = fitBytes cores 1024 ++ fitBytes nc 256

/-- The bits that a piece of NA or NB has counted against the cap in the present second, whether port `p`'s next piece is over it, and the
update state with that piece counted (R517). -/
def Chip.rateUsed (c : Chip) : Nat := if c.upd.rateAt = c.ptpSec then c.upd.rateBits else 0
def Chip.overCap (c : Chip) (p : Nat) : Bool := p ≠ 2 && c.rateUsed + 8192 > c.objNat 0xA020 1 2000000
def Chip.rated (c : Chip) (p : Nat) : UpdSt := if p = 2 then c.upd else { c.upd with rateAt := c.ptpSec, rateBits := c.rateUsed + 8192 }

/-- The announce of the container of `v` (R514). -/
def UpdSt.announced (x : UpdSt) (v : List Byte) : UpdSt :=
  { x with cid := v.take 32, clen := leNat (slice v 32 4), fromV := leNat (slice v 36 4), toV := leNat (slice v 40 4), built := 0, arm := none, last := [] }

/-- A container that announce `v` may bring (R514). -/
abbrev Chip.announcable (c : Chip) (v : List Byte) : Prop :=
  v.length = 44 ∧ 0 < leNat (slice v 32 4) ∧ leNat (slice v 32 4) ≤ 8257536 ∧ c.vintsOk (leNat (slice v 36 4)) (leNat (slice v 40 4)) = true

end Sys2Proof.Machine
end

