-- ==== Sys2Proof/WellFormed.lean ====
section
/-! DEFINITION. Which operands can reach the block: the bounds the spec puts on what an event or a message carries. The
meanings are total: what is not well formed cannot arrive, and stops nothing. -/

namespace Sys2Proof

/-- A TS80 counts 48-bit seconds (R36), in ns. -/
def timeOk (t : Nat) : Bool := t < 2 ^ 48 * 1000000000

/-- The fields of an Announce have 8 or 16 bits (R35). -/
def Announce.wf (m : Announce) : Bool :=
  m.domain < 256 && m.prio1 < 256 && m.cls < 256 && m.acc < 256 && m.var < 65536 && m.prio2 < 256 && m.steps < 65536

/-- A cell is a header, 62 payload slots and a trailer (R296). -/
def RxCell.wf (x : RxCell) : Bool := x.slots.length = 62

/-- A Trellis message has at most 1,026 body words (R398). -/
def TrlMsg.wf (m : TrlMsg) : Bool := m.body.length ≤ 1026

/-- A DOP message fits the UDP payload of a 9,216-byte frame (R416). -/
def DopMsg.wf (m : DopMsg) : Bool := m.bytes.length ≤ 9170 && timeOk m.ts

/-- A Corridor message carries at most 1,024 words of a cask or a region (R365). -/
def corridorOk (ws : List Word) : Bool := ws.length ≤ 1024

/-- The operands are ones that can reach the block. -/
def Instr.wf : Instr → Bool
  | .cmpFire _ t => timeOk t
  | .dopHello m | .dopClose m | .dopKeepalive m | .dopGet m | .dopSet m => m.wf
  | .sliceMsg m | .sliceEnd m | .stackMsg m | .trellisTime m | .trellisHello m => m.wf
  | .caskMsg _ _ ws _ => corridorOk ws
  | .bulkMsg r _ ws _ => 1 ≤ r && r ≤ 4 && corridorOk ws
  | .fwmsg ws _ => ws.length ≤ 4095
  | .announceRx _ m => m.wf
  | .syncRx _ m => m.domain < 256 && timeOk m.origin && timeOk m.rx
  | .delayRespRx _ m => m.domain < 256 && timeOk m.rcv
  | .frameReceive _ f => timeOk f.sfd
  | .laneCellReceive _ x => x.wf
  | .bulkEnd r _ _ => 1 ≤ r && r ≤ 4
  | _ => true

end Sys2Proof
end

