-- ==== Sys2Proof/Certificates/Slice0/Obligations.lean ====
section
/-! DEFINITION. The statements about the block, each said in its docstring; `Does`, `Frame` and the other words they are
written in stand in Sys2Proof/Safety.lean. -/

open Sys2Proof Sys2Proof.Machine

/-- Power-up. VIN at its threshold starts step 1 from off, and a dip during the 10 ms count or the end of a thermal removal
starts it again: every supply output is off and nothing else changes. The rails' start releases PFW_N and switches VAUX on
and leaves the reset held. While the module runs RESET_OUT_N rises. Nothing else of the module changes. -/
def Obligations.supply_power_up : Prop :=
  (∀ s : State, s.chip.pwr.phase = .off → Does s (exec .vinRise s) fun c =>
    c.rest = { s.chip.rest with pwr := { s.chip.pwr with
      phase := .vinWait, vinAbsent := false, pfw := false, pfwN := false, resetOutN := false, vaux := false, vauxRetry := false } }
    ∧ Frame [] [] s.chip c) ∧
  (∀ s : State, s.chip.pwr.phase = .vinWait → Does s (exec .vinDipDuringPowerUp s) fun c =>
    c.rest = { s.chip.rest with pwr := { s.chip.pwr with
      vinAbsent := false, pfw := false, pfwN := false, resetOutN := false, vaux := false, vauxRetry := false } }
    ∧ Frame [] [] s.chip c) ∧
  (∀ s : State, s.chip.pwr.phase = .thermal → Does s (exec .thermalRestore s) fun c =>
    c.rest = { s.chip.rest with pwr := { s.chip.pwr with
      phase := .vinWait, vinAbsent := false, pfw := false, pfwN := false, resetOutN := false, vaux := false, vauxRetry := false } }
    ∧ Frame [] [] s.chip c) ∧
  (∀ s : State, s.chip.pwr.phase = .vinWait → Does s (exec .railsStart s) fun c =>
    c.rest = { s.chip.rest with pwr := { s.chip.pwr with phase := .rails, pfwN := true, vaux := true } }
    ∧ Frame [] [] s.chip c) ∧
  (∀ s : State, s.chip.pwr.phase = .running → Does s (exec .resetOutRise s) fun c =>
    c.rest = { s.chip.rest with pwr := { s.chip.pwr with resetOutN := true } }
    ∧ Frame [] [] s.chip c)

/-- The end of the power-down sequence resets the module while a warning is in force, and a thermal removal resets it from
any phase but off and removal; the registers are at their reset values, no interrupt that does not follow by level is pending, only
the flash keeps its contents (a thermal removal during an erase leaves that sector's bytes, and during the erase of staging its
region's, open), and the fuses stand where no life-cycle change is blowing them. VIN below 1.0 V after the sequence makes every
output land high impedance. -/
def Obligations.supply_power_down : Prop :=
  (∀ s : State, s.chip.pwr.pfw = true → Does s (exec .powerDownReset s) fun c =>
    c.pwr.phase = .off ∧ c.pwr.cause = 1 ∧ c.pwr.resetOutN = false ∧ c.regs = [] ∧ SameIrqs [] {} c ∧ (s.chip.vlt.lcTarget = none → c.fuses = s.chip.fuses)
    ∧ (∀ n, c.byte n = if flashBase ≤ n ∧ n < 0x24000000 then s.chip.byte n else memDefault n)) ∧
  (∀ s : State, s.chip.pwr.phase ≠ .off → s.chip.pwr.phase ≠ .thermal → Does s (exec .thermalRemoval s) fun c =>
    c.pwr.phase = .thermal ∧ c.pwr.cause = 1 ∧ c.pwr.vaux = false ∧ c.regs = [] ∧ SameIrqs [] {} c ∧ (s.chip.vlt.lcTarget = none → c.fuses = s.chip.fuses)
    ∧ (∀ n, (∀ o, s.chip.boot.flashOp = some (.erase o) → n < flashBase + o ∨ flashBase + o + 0x10000 ≤ n) →
        (s.chip.upd.erasing = true → n < flashBase + stagingBase ∨ flashBase + stagingBase + stagingSize ≤ n) →
        c.byte n = if flashBase ≤ n ∧ n < 0x24000000 then s.chip.byte n else memDefault n)) ∧
  (∀ s : State, s.chip.pwr.phase = .off → Does s (exec .vinAbsent s) fun c =>
    c.rest = { s.chip.rest with pwr := { s.chip.pwr with vinAbsent := true } }
    ∧ Frame [] [] s.chip c)

/-- While VAUX is on and no warning is in force, a current limit of 1 ms switches it off and, while the module runs, records the fault
in SYS_PWR with a report of source 0x45 code 0x02; 100 ms later a retry switches it on again, shown in SYS_PWR while the module
runs. Nothing else changes. -/
def Obligations.supply_vaux : Prop :=
  (∀ s : State, s.chip.pwr.phase = .running → s.chip.pwr.vaux = true → s.chip.pwr.pfw = false →
    Does s (exec .vauxCurrentLimit s) fun c =>
      c.rest = { s.chip.rest with pwr := { s.chip.pwr with vaux := false, vauxRetry := true }, err := c.err }
      ∧ c.rd rPWR = setBit (setBit (s.chip.rd rPWR) 30 false) 29 true
      ∧ Reports 0x45 0x02 s.chip c
      ∧ Frame (rPWR.addr 0 0 :: logRegs 0x45) [209] s.chip c) ∧
  (∀ s : State, s.chip.pwr.phase = .running → s.chip.pwr.vauxRetry = true → s.chip.pwr.pfw = false →
    Does s (exec .vauxRetry s) fun c =>
      c.rest = { s.chip.rest with pwr := { s.chip.pwr with vaux := true, vauxRetry := false } }
      ∧ c.rd rPWR = setBit (s.chip.rd rPWR) 30 true
      ∧ Frame [rPWR.addr 0 0] [] s.chip c) ∧
  (∀ s : State, s.chip.pwr.phase ≠ .running → s.chip.pwr.vaux = true → s.chip.pwr.pfw = false →
    Does s (exec .vauxCurrentLimit s) fun c =>
      c.rest = { s.chip.rest with pwr := { s.chip.pwr with vaux := false, vauxRetry := true } } ∧ Frame [] [] s.chip c) ∧
  (∀ s : State, s.chip.pwr.phase ≠ .running → s.chip.pwr.vauxRetry = true → s.chip.pwr.pfw = false →
    Does s (exec .vauxRetry s) fun c =>
      c.rest = { s.chip.rest with pwr := { s.chip.pwr with vaux := true, vauxRetry := false } } ∧ Frame [] [] s.chip c)

/-- RESET_N low for 10 µs, or SYS_RSTREQ written by world S with its key, while no warning is in force: the module is held in
reset with the cause's bit, its registers at their reset values, memory as it was, and the fuses where no life-cycle change is
blowing them. The pin's rise only ends the hold. The release samples the straps and records the causes and VAUX; where the FUSE CRC
fails it raises interrupt 196 and reports code 0x46 under source 0x0B. -/
def Obligations.warm_reset_pin_and_request : Prop :=
  (∀ s : State, s.chip.pwr.phase = .running → s.chip.pwr.pfw = false → Does s (exec (.resetPin true) s) fun c =>
    c.pwr = { s.chip.pwr with phase := .rails, resetOutN := false, cause := 2, alarmArmed := true, resetNLow := true }
    ∧ c.regs = [] ∧ c.mem = s.chip.mem ∧ (s.chip.vlt.lcTarget = none → c.fuses = s.chip.fuses) ∧ SameIrqs [] {} c) ∧
  (∀ s : State, Does s (exec (.resetPin false) s) fun c =>
    c.rest = { s.chip.rest with pwr := { s.chip.pwr with resetNLow := false } } ∧ Frame [] [] s.chip c) ∧
  (∀ (s : State) (a : Access) (v : Word), s.chip.takes a rRSTREQ 0 0 v → fld v 31 8 = 0x525354 → bit v 0 = true →
    s.chip.pwr.pfw = false → Does s (exec (.softResetRequest a v) s) fun c =>
    c.pwr = { s.chip.pwr with phase := .rails, resetOutN := false, cause := 4, alarmArmed := true }
    ∧ c.regs = [] ∧ c.mem = s.chip.mem ∧ (s.chip.vlt.lcTarget = none → c.fuses = s.chip.fuses) ∧ SameIrqs [] {} c) ∧
  (∀ (s : State) (x : Straps), s.chip.pwr.phase = .rails → s.chip.pwr.resetNLow = false → s.chip.fuses.crcOk = true →
    Does s (exec (.resetRelease x) s) fun c =>
    c.rest = { s.chip.rest with pwr := { s.chip.pwr with phase := .running, cause := 0 } }
    ∧ c.rd rRSTCAUSE = s.chip.pwr.cause.setWidth 32 ∧ c.rd rSTRAP = strapWord x
    ∧ c.rd rPWR = setBit (s.chip.rd rPWR) 30 s.chip.pwr.vaux
    ∧ Frame ([rRSTCAUSE.addr 0 0, rSTRAP.addr 0 0, rPWR.addr 0 0, rCEL_STATUS.addr 0 0]
        ++ (List.range 3).map (rMAC_ADDR_LO.addr · 0) ++ (List.range 3).map (rMAC_ADDR_HI.addr · 0)) [] s.chip c) ∧
  (∀ (s : State) (x : Straps), s.chip.pwr.phase = .rails → s.chip.pwr.resetNLow = false → s.chip.fuses.crcOk = false →
    Does s (exec (.resetRelease x) s) fun c =>
    c.rest = { s.chip.rest with pwr := { s.chip.pwr with phase := .running, cause := 0 }, err := c.err }
    ∧ c.rd rRSTCAUSE = s.chip.pwr.cause.setWidth 32 ∧ c.rd rSTRAP = strapWord x
    ∧ c.rd rPWR = setBit (s.chip.rd rPWR) 30 s.chip.pwr.vaux ∧ c.irqs.getLsbD 196 = true ∧ Reports 0x0B 0x46 s.chip c
    ∧ Frame ([rRSTCAUSE.addr 0 0, rSTRAP.addr 0 0, rPWR.addr 0 0, rCEL_STATUS.addr 0 0] ++ logRegs 0x0B
        ++ (List.range 3).map (rMAC_ADDR_LO.addr · 0) ++ (List.range 3).map (rMAC_ADDR_HI.addr · 0)) [196, 209] s.chip c)

/-- A power-fail warning while the module runs and no sector is being erased: PFW_N is driven low, VAUX is switched off,
SYS_PWR shows the warning, interrupt 6 is raised and code 0x01 is reported under source 0x45; nothing else changes. With an erase
of the flash controller running, the erase is abandoned too: ABANDONED is set, BUSY and GO fall, interrupt 201 is raised, its
sector is marked, and no byte outside its sector changes. Before the release, the warning is kept and the Cellar's contents are
given up. -/
def Obligations.power_fail_warning : Prop :=
  (∀ s : State, s.chip.pwr.phase = .running → s.chip.pwr.pfw = false → (∀ o, s.chip.boot.flashOp ≠ some (.erase o)) →
    (s.chip.boot.flashOp = none → s.chip.upd.erasing = false) →
    Does s (exec .powerFailWarning s) fun c =>
      c.rest = { s.chip.rest with
        pwr := { s.chip.pwr with pfw := true, pfwN := false, vaux := false, vauxRetry := false }, err := c.err }
      ∧ c.rd rPWR = setBit (setBit (s.chip.rd rPWR) 31 true) 30 false
      ∧ c.irqs.getLsbD 6 = true ∧ Reports 0x45 0x01 s.chip c
      ∧ Frame (rPWR.addr 0 0 :: logRegs 0x45) [6, 209] s.chip c) ∧
  (∀ (s : State) (o : Nat), s.chip.pwr.phase = .running → s.chip.pwr.pfw = false → s.chip.boot.flashOp = some (.erase o) →
    Does s (exec .powerFailWarning s) fun c =>
      c.pwr = { s.chip.pwr with pfw := true, pfwN := false, vaux := false, vauxRetry := false }
      ∧ c.boot = { s.chip.boot with flashOp := none, abandoned := true, badSectors := o :: s.chip.boot.badSectors.filter (· ≠ o) }
      ∧ SameBytes (fun n => flashBase + o ≤ n ∧ n < flashBase + o + 0x10000) s.chip c
      ∧ c.rd rPWR = setBit (setBit (s.chip.rd rPWR) 31 true) 30 false
      ∧ c.rd rFLASH_STAT = setBit (setBit (s.chip.rd rFLASH_STAT) 4 true) 0 false
      ∧ c.rd rFLASH_CTRL = setBit (s.chip.rd rFLASH_CTRL) 31 false
      ∧ c.irqs.getLsbD 6 = true ∧ c.irqs.getLsbD 201 = true ∧ Reports 0x45 0x01 s.chip c
      ∧ Frame ([rPWR.addr 0 0, rFLASH_STAT.addr 0 0, rFLASH_CTRL.addr 0 0] ++ logRegs 0x45) [6, 201, 209] s.chip c) ∧
  (∀ s : State, s.chip.pwr.phase = .rails → s.chip.pwr.pfw = false → Does s (exec .powerFailWarning s) fun c =>
      c.rest = { s.chip.rest with
        pwr := { s.chip.pwr with pfw := true, pfwN := false, vaux := false, vauxRetry := false }, cel := { s.chip.cel with warm := false } }
      ∧ Frame [] [] s.chip c)

/-- While the module runs, the fall of a bit of SYS_CLKSTAT holds its domain in reset: the domain's registers go to their reset
values (the MAC addresses come from the fuses again, CEL_STATUS shows a kept Cellar, and of the Corridor the pair's settings
stand), memory and the supply's state stand, and so do the fuses where no life-cycle change is blowing them; interrupt 2 is raised
and code 0x05 is reported under source 0x00. With the core's, the fabric's or the reference's lock the processors go too: HC0
stands before its boot ROM, NC and HC1 are held, and protocol and Vault are as after reset; with any other lock HC0's mode, the
update and the Vault stand. Every other register stands, but where a MAC goes on which the parent was heard, and in a pair whose
Corridor goes (a unit of it beyond JOINING is then in SYNCING). The bit's rise ends that reset and changes nothing else. -/
def Obligations.lock_lost_and_regained : Prop :=
  (∀ (s : State) (b : Fin 18), s.chip.pwr.phase = .running → s.chip.rb rCLKSTAT 0 0 b = true →
    Does s (exec (.pllLockLost b) s) fun c =>
      c.held = s.chip.held ||| (1#18 <<< b.val) ∧ c.irqs.getLsbD 2 = true
      ∧ c.mem = s.chip.mem ∧ c.pwr = s.chip.pwr ∧ (s.chip.vlt.lcTarget = none → c.fuses = s.chip.fuses)
      ∧ (b.val ≤ 2 → c.boot.hc0 = .reset ∧ c.boot.ncRun = false ∧ c.boot.hc1Run = false ∧ c.dop = {} ∧ c.vlt = {})
      ∧ (3 ≤ b.val → c.boot = s.chip.boot ∧ c.upd = s.chip.upd ∧ c.vlt = s.chip.vlt)
      ∧ (∀ n, lockBlocks b n = true → (b.val = 15 → pairKept n = false ∧ n ≠ rCDR_STATUS.addr 0 0) →
          n ∉ rCEL_STATUS.addr 0 0 :: (servoRegs ++ logRegs 0x00) → (∀ p < 3, n ≠ rMAC_ADDR_LO.addr p 0 ∧ n ≠ rMAC_ADDR_HI.addr p 0) →
          ∀ d, mget d c.regs n = d)
      ∧ ((∀ f, s.chip.time.servo.parent = some f → f.port + 3 ≠ b.val) → (b.val = 15 → s.chip.pairState < 3) →
          (∀ n, lockBlocks b n = false → n ∉ rCLKSTAT.addr 0 0 :: logRegs 0x00 → ∀ d, mget d c.regs n = mget d s.chip.regs n)
          ∧ SameIrqs [2, 209] s.chip c)
      ∧ (b.val = 15 → c.pairState = if s.chip.pairState < 3 then s.chip.pairState else 2)
      ∧ (∀ f, s.chip.time.servo.parent = some f → f.port + 3 = b.val → c.time.servo.parent = none)) ∧
  (∀ (s : State) (b : Fin 18), s.chip.pwr.phase = .running → Does s (exec (.pllLockRegained b) s) fun c =>
      c.rest = { s.chip.rest with held := s.chip.held &&& ~~~(1#18 <<< b.val) }
      ∧ c.rd rCLKSTAT = setBit (s.chip.rd rCLKSTAT) b true ∧ Frame [rCLKSTAT.addr 0 0] [] s.chip c)

/-- A kick taken clears its watchdog's mark. An expiry of an enabled watchdog raises its interrupt and marks it; HC1's and NC's change
nothing else. HC0's first one, or any while RSTEN is 0, puts every bank in watchdog hold, reported once a bank under source
0x10 + 8k, and each LANE port that repeats no other is held with no PRESENT due, its raster cells discarded and HOLD the last of
its own cells where the bank was not held before; outside the PORT block and the log no register changes. Its second one with RSTEN
and no kick between takes a warm reset with cause bit 3; under the power-fail warning it only raises its interrupt. -/
def Obligations.watchdogs : Prop :=
  (∀ (s : State) (a : Access) (w : Fin 3) (v : Word), s.chip.takes a rWDOG_KICK w 0 v →
    Does s (exec (.watchdogKick a w v) s) fun c =>
      c.rest = { s.chip.rest with boot := { s.chip.boot with wdogOnce := s.chip.boot.wdogOnce &&& ~~~(1#3 <<< w.val) }
                                  cdr := { s.chip.cdr with wdExpired := s.chip.cdr.wdExpired && w.val ≠ 0 } }
      ∧ c.rsp = { val := 0, err := false } ∧ Frame [rWDOG_KICK.addr w 0] [] s.chip c) ∧
  (∀ (s : State) (w : Fin 3), s.chip.alive .sys = true → s.chip.rb rWDOG_CTRL w 0 31 = true → w.val ≠ 0 →
    Does s (exec (.watchdogExpiry w) s) fun c =>
      c.rest = { s.chip.rest with boot := { s.chip.boot with wdogOnce := s.chip.boot.wdogOnce ||| (1#3 <<< w.val) } }
      ∧ c.irqs.getLsbD (3 + w) = true ∧ Frame [] [3 + w.val] s.chip c) ∧
  (∀ s : State, s.chip.alive .sys = true → s.chip.rb rWDOG_CTRL 0 0 31 = true →
    s.chip.rb rWDOG_CTRL 0 0 30 = false ∨ s.chip.boot.wdogOnce.getLsbD 0 = false → Does s (exec (.watchdogExpiry 0) s) fun c =>
      c.irqs.getLsbD 3 = true ∧ c.boot = { s.chip.boot with wdogOnce := s.chip.boot.wdogOnce ||| 1#3 }
      ∧ c.cdr = { s.chip.cdr with wdExpired := true } ∧ c.mem = s.chip.mem ∧ c.time = s.chip.time ∧ c.pwr = s.chip.pwr
      ∧ (∀ k < 6, (c.bank k).wdhold = true ∧ Reports (0x10 + 8 * k) 0xB7 s.chip c)
      ∧ (∀ p < 48, s.chip.isLane p = true → s.chip.ringOdd p = false →
          (c.port p).held = true ∧ (c.port p).presentDue = false ∧ (∀ k ∈ (c.port p).cells, k.raster = false)
          ∧ ((s.chip.bank (p / 8)).wdhold = false → (c.port p).urgent.getLast? = some (s.chip.holdCell p)))
      ∧ (∀ n, n / 0x10000 ≠ 0x100A → (∀ k < 6, n ∉ logRegs (0x10 + 8 * k)) → ∀ d, mget d c.regs n = mget d s.chip.regs n)
      ∧ SameIrqs [3, 209] s.chip c) ∧
  (∀ s : State, s.chip.alive .sys = true → s.chip.rb rWDOG_CTRL 0 0 31 = true → s.chip.rb rWDOG_CTRL 0 0 30 = true →
    s.chip.boot.wdogOnce.getLsbD 0 = true → s.chip.pwr.pfw = false → Does s (exec (.watchdogExpiry 0) s) fun c =>
      c.pwr = { s.chip.pwr with phase := .rails, resetOutN := false, cause := 8, alarmArmed := true }
      ∧ c.regs = [] ∧ c.mem = s.chip.mem ∧ (s.chip.vlt.lcTarget = none → c.fuses = s.chip.fuses) ∧ SameIrqs [] {} c) ∧
  (∀ s : State, s.chip.alive .sys = true → s.chip.rb rWDOG_CTRL 0 0 31 = true → s.chip.rb rWDOG_CTRL 0 0 30 = true →
    s.chip.boot.wdogOnce.getLsbD 0 = true → s.chip.pwr.pfw = true → Does s (exec (.watchdogExpiry 0) s) fun c =>
      c.rest = s.chip.rest ∧ c.irqs.getLsbD 3 = true ∧ Frame [] [3] s.chip c)

/-- An update of TDIE at or above TH fires the alarm if it is armed, once: bit 31 of SYS_TEMP, interrupt 7 and a report of
code 0x03 under source 0x45; at 5 °C or more below TH it arms it again; otherwise it only updates TDIE. The DRAM's report
above or below 85 °C is bit 7 of CEL_STATUS. Nothing else changes. -/
def Obligations.die_and_dram_temperature : Prop :=
  (∀ (s : State) (t : BitVec 8), s.chip.alive .sys = true → s.chip.rf rTEMP 0 0 23 16 ≤ t.toNat → s.chip.pwr.alarmArmed = true →
    Does s (exec (.pwrTemp t) s) fun c =>
      c.rest = { s.chip.rest with pwr := { s.chip.pwr with alarmArmed := false }, err := c.err }
      ∧ c.rd rTEMP = setBit (setFld (s.chip.rd rTEMP) 7 0 t.toNat) 31 true
      ∧ c.irqs.getLsbD 7 = true ∧ Reports 0x45 0x03 s.chip c ∧ Frame (rTEMP.addr 0 0 :: logRegs 0x45) [7, 209] s.chip c) ∧
  (∀ (s : State) (t : BitVec 8), s.chip.alive .sys = true → t.toNat + 5 ≤ s.chip.rf rTEMP 0 0 23 16 →
    Does s (exec (.tempAlarmRearm t) s) fun c =>
      c.rest = { s.chip.rest with pwr := { s.chip.pwr with alarmArmed := true } }
      ∧ c.rd rTEMP = setFld (s.chip.rd rTEMP) 7 0 t.toNat ∧ Frame [rTEMP.addr 0 0] [] s.chip c) ∧
  (∀ (s : State) (t : BitVec 8), s.chip.alive .sys = true → t.toNat < s.chip.rf rTEMP 0 0 23 16 ∨ s.chip.pwr.alarmArmed = false →
    (Does s (exec (.pwrTemp t) s) fun c =>
      c.rest = { s.chip.rest with pwr := { s.chip.pwr with alarmArmed := s.chip.pwr.alarmArmed || t.toNat + 5 ≤ s.chip.rf rTEMP 0 0 23 16 } }
      ∧ c.rd rTEMP = setFld (s.chip.rd rTEMP) 7 0 t.toNat ∧ Frame [rTEMP.addr 0 0] [] s.chip c)
    ∧ (Does s (exec (.tempAlarmRearm t) s) fun c =>
      c.rest = { s.chip.rest with pwr := { s.chip.pwr with alarmArmed := s.chip.pwr.alarmArmed || t.toNat + 5 ≤ s.chip.rf rTEMP 0 0 23 16 } }
      ∧ c.rd rTEMP = setFld (s.chip.rd rTEMP) 7 0 t.toNat ∧ Frame [rTEMP.addr 0 0] [] s.chip c)) ∧
  (∀ (s : State) (high : Bool), s.chip.alive .cel = true → Does s (exec (.cellarTempHi high) s) fun c =>
      c.rest = s.chip.rest ∧ c.rd rCEL_STATUS = setBit (s.chip.rd rCEL_STATUS) 7 high
      ∧ Frame [rCEL_STATUS.addr 0 0] [] s.chip c)

/-- With no operation running, GO with OP 2 on a sector outside the running slot starts its erase, GO
with OP 1 or 2 inside the running slot is refused with bit 2, while a warning is in force with bit 3, each with
interrupt 201, and the first write of SYS_FLASH_RUNSLOT after
reset sets it. The end of an erase leaves the 64 KiB of its sector at 0xFF and no other byte changed; the end of a program
only clears bits of the bytes it names; either shows DONE and raises interrupt 200. A page is taken from house SRAM without upsets
as it stands there. -/
def Obligations.flash_controller : Prop :=
  (∀ (s : State) (a : Access), s.chip.takes a rFLASH_CTRL 0 0 0x80000002 → s.chip.boot.flashOp = none → s.chip.pwr.pfw = false →
    s.chip.inRunSlot (s.chip.rf rFLASH_ADDR 0 0 25 0 / 0x10000 * 0x10000) 0x10000 = false →
    Does s (exec (.flashSectorErase a) s) fun c =>
      c.rest = { s.chip.rest with boot := { s.chip.boot with
        flashOp := some (.erase (s.chip.rf rFLASH_ADDR 0 0 25 0 / 0x10000 * 0x10000)) } }
      ∧ c.rd rFLASH_STAT = setBit (setBit (s.chip.rd rFLASH_STAT) 0 true) 1 false
      ∧ Frame [rFLASH_CTRL.addr 0 0, rFLASH_STAT.addr 0 0] [] s.chip c) ∧
  (∀ (s : State) (a : Access), s.chip.takes a rFLASH_CTRL 0 0 0x80000001 → s.chip.boot.flashOp = none → s.chip.pwr.pfw = false →
    s.chip.inRunSlot (s.chip.rf rFLASH_ADDR 0 0 25 0) (s.chip.rf rFLASH_LEN 0 0 8 0) = true →
    Does s (exec (.flashPageProgram a) s) fun c =>
      c.rest = s.chip.rest ∧ c.rd rFLASH_STAT = setBit (s.chip.rd rFLASH_STAT) 2 true ∧ c.irqs.getLsbD 201 = true
      ∧ Frame [rFLASH_CTRL.addr 0 0, rFLASH_STAT.addr 0 0] [201] s.chip c) ∧
  (∀ (s : State) (a : Access), s.chip.takes a rFLASH_CTRL 0 0 0x80000001 → s.chip.boot.flashOp = none → s.chip.pwr.pfw = false →
    s.chip.inRunSlot (s.chip.rf rFLASH_ADDR 0 0 25 0) (s.chip.rf rFLASH_LEN 0 0 8 0) = false →
    1 ≤ s.chip.rf rFLASH_LEN 0 0 8 0 → s.chip.rf rFLASH_LEN 0 0 8 0 ≤ 256 →
    s.chip.rf rFLASH_ADDR 0 0 25 0 % 256 + s.chip.rf rFLASH_LEN 0 0 8 0 ≤ 256 →
    areaOf (s.chip.rd rFLASH_SRC).toNat = .sram → (s.chip.rd rFLASH_SRC).toNat + 256 ≤ 0x01100000 → s.chip.sram.errs = [] →
    Does s (exec (.flashPageProgram a) s) fun c =>
      c.rest = { s.chip.rest with boot := { s.chip.boot with flashOp := some (.program (s.chip.rf rFLASH_ADDR 0 0 25 0)
        (s.chip.bytes (s.chip.rd rFLASH_SRC).toNat (s.chip.rf rFLASH_LEN 0 0 8 0))) } }
      ∧ c.rd rFLASH_STAT = setBit (setBit (s.chip.rd rFLASH_STAT) 0 true) 1 false
      ∧ Frame [rFLASH_CTRL.addr 0 0, rFLASH_STAT.addr 0 0] [] s.chip c) ∧
  (∀ (s : State) (a : Access) (v : Word), v = 0x80000001 ∨ v = 0x80000002 → s.chip.takes a rFLASH_CTRL 0 0 v → s.chip.boot.flashOp = none → s.chip.pwr.pfw = true →
    Does s (exec (if v = 0x80000001 then .flashPageProgram a else .flashSectorErase a) s) fun c =>
      c.rest = s.chip.rest ∧ c.rd rFLASH_STAT = setBit (s.chip.rd rFLASH_STAT) 3 true ∧ c.irqs.getLsbD 201 = true
      ∧ Frame [rFLASH_CTRL.addr 0 0, rFLASH_STAT.addr 0 0] [201] s.chip c) ∧
  (∀ (s : State) (a : Access), s.chip.takes a rFLASH_CTRL 0 0 0x80000002 → s.chip.boot.flashOp = none → s.chip.pwr.pfw = false →
    s.chip.inRunSlot (s.chip.rf rFLASH_ADDR 0 0 25 0 / 0x10000 * 0x10000) 0x10000 = true →
    Does s (exec (.flashSectorErase a) s) fun c =>
      c.rest = s.chip.rest ∧ c.rd rFLASH_STAT = setBit (s.chip.rd rFLASH_STAT) 2 true ∧ c.irqs.getLsbD 201 = true
      ∧ Frame [rFLASH_CTRL.addr 0 0, rFLASH_STAT.addr 0 0] [201] s.chip c) ∧
  (∀ (s : State) (a : Access) (v : Word), s.chip.takes a rRUNSLOT 0 0 v → s.chip.boot.runslotWritten = false →
    Does s (exec (.flashRunslotWrite a v) s) fun c =>
      c.rest = { s.chip.rest with boot := { s.chip.boot with runslotWritten := true } }
      ∧ c.rd rRUNSLOT = BitVec.ofNat 32 (fld v 1 0) ∧ Frame [rRUNSLOT.addr 0 0] [] s.chip c) ∧
  (∀ (s : State) (o : Nat), s.chip.alive .sys = true → s.chip.boot.flashOp = some (.erase o) → o + 0x10000 ≤ 0x4000000 →
    Does s (exec .flashOpDone s) fun c =>
      (∀ n, c.byte n = if flashBase + o ≤ n ∧ n < flashBase + o + 0x10000 then 0xFF else s.chip.byte n)
      ∧ c.boot = { s.chip.boot with flashOp := none, badSectors := s.chip.boot.badSectors.filter fun k => k < o || o + 0x10000 ≤ k }
      ∧ c.irqs.getLsbD 200 = true
      ∧ c.rd rFLASH_STAT = setBit (setBit (s.chip.rd rFLASH_STAT) 0 false) 1 true
      ∧ Frame [rFLASH_CTRL.addr 0 0, rFLASH_STAT.addr 0 0] [200] s.chip c) ∧
  (∀ (s : State) (o : Nat) (l : List Byte), s.chip.alive .sys = true → s.chip.boot.flashOp = some (.program o l) →
    Does s (exec .flashOpDone s) fun c =>
      SameBytes (fun n => flashBase + o ≤ n ∧ n < flashBase + o + l.length) s.chip c
      ∧ (∀ k (h : k < l.length), c.byte (flashBase + o + k) = s.chip.byte (flashBase + o + k) &&& l[k])
      ∧ c.boot = { s.chip.boot with flashOp := none } ∧ c.irqs.getLsbD 200 = true
      ∧ c.rd rFLASH_STAT = setBit (setBit (s.chip.rd rFLASH_STAT) 0 false) 1 true
      ∧ Frame [rFLASH_CTRL.addr 0 0, rFLASH_STAT.addr 0 0] [200] s.chip c)

/-- The commands that write or read a register of TIME, when the access reaches it: TIME_ADDEND takes the word; STEP holds the
request the step registers spell and shows it, replacing a pending one; APPLY schedules the grid now written at its switch
frame; DISARM leaves the comparator disarmed whatever it was, a match of the same tick coming first; ARM latches a one-shot or
periodic comparator at its written target and a gridded one at its first target after now, fires a passed target late at once,
and with MODE 3 or with DISARM leaves it disarmed; TIME_SERVO takes STATE, and a new value raises interrupt 16; a read of
TIME_SNAPm_NS takes the reading master's snapshot and answers its nanoseconds; a read of TIME_TXTS_TAG pops the oldest transmit
timestamp, and answers 0 where there is none. Nothing else changes. -/
def Obligations.time_register_commands : Prop :=
  (∀ (s : State) (a : Access) (v : Word), s.chip.takes a rTIME_ADDEND 0 0 v → Does s (exec (.timeAddendWrite a v) s) fun c =>
    c.rest = s.chip.rest ∧ c.rd rTIME_ADDEND = v ∧ Frame [rTIME_ADDEND.addr 0 0] [] s.chip c) ∧
  (∀ (s : State) (a : Access) (v : Word), s.chip.takes a rTIME_CTRL 0 0 (v ||| 0x4) → Does s (exec (.stepWrite a v) s) fun c =>
    c.time.stepReq = some ⟨bit v 3, if bit v 3 = true ∧ s.chip.rb rSTEP_SHI 0 0 31 = true
        then -(tsOf (s.chip.rd rSTEP_NS) (s.chip.rd rSTEP_SLO) (s.chip.rd rSTEP_SHI) : Int)
        else tsOf (s.chip.rd rSTEP_NS) (s.chip.rd rSTEP_SLO) (s.chip.rd rSTEP_SHI)⟩
    ∧ c.rest = { s.chip.rest with time := { s.chip.time with stepReq := c.time.stepReq } }
    ∧ c.rb rTIME_STATUS 0 0 2 = true ∧ Frame [rTIME_CTRL.addr 0 0, rTIME_STATUS.addr 0 0] [] s.chip c) ∧
  (∀ (s : State) (a : Access) (v : Word), s.chip.takes a rGRID_CTRL 0 0 (v ||| 0x1) → Does s (exec (.gridApply a v) s) fun c =>
    c.time.gridPend = some ⟨s.chip.gridWritten, switchFrame s.chip.gridWritten s.chip.time.now,
        gridF s.chip.gridWritten (switchFrame s.chip.gridWritten s.chip.time.now)⟩
    ∧ c.rest = { s.chip.rest with time := { s.chip.time with gridPend := c.time.gridPend } }
    ∧ c.rb rGRID_CTRL 0 0 1 = true ∧ Frame [rGRID_CTRL.addr 0 0] [] s.chip c) ∧
  (∀ (s : State) (a : Access) (n : Fin 16) (v : Word), s.chip.takes a rCMP_CTRL n 0 (v ||| 0x2) →
    Does s (exec (.cmpDisarm a n v) s) fun c =>
    (c.cmp n).armed = false ∧ c.rb rCMP_CTRL n 0 0 = false
    ∧ ((s.chip.cmp n).armed = false ∨ s.chip.time.now < (s.chip.cmp n).target →
        c.rest = { s.chip.rest with time := { s.chip.time with cmps := mset ({} : Cmp) s.chip.time.cmps n { s.chip.cmp n with armed := false } } }
        ∧ Frame [rCMP_CTRL.addr n 0] [] s.chip c)
    ∧ (s.chip.alive .ts = true → (s.chip.cmp n).armed = true → (s.chip.cmp n).mode = 0 → (s.chip.cmp n).target ≤ s.chip.time.now →
        s.chip.rb rCMP_CTRL n 0 5 = true → c.rb rCMP_PEND 0 0 n = true ∧ c.irqs.getLsbD 28 = true)) ∧
  (∀ (s : State) (a : Access) (n : Fin 16) (v : Word), s.chip.takes a rCMP_CTRL n 0 (v ||| 0x1) → bit v 1 = false → fld v 3 2 < 2 →
    (s.chip.cmp n).armed = false ∨ s.chip.time.now < (s.chip.cmp n).target →
    s.chip.time.now < tsOf (s.chip.rd rCMP_NS n) (s.chip.rd rCMP_SLO n) (s.chip.rd rCMP_SHI n) →
    Does s (exec (.cmpArm a n v) s) fun c =>
    (c.cmp n).armed = true ∧ (c.cmp n).mode = fld v 3 2
    ∧ (c.cmp n).target = tsOf (s.chip.rd rCMP_NS n) (s.chip.rd rCMP_SLO n) (s.chip.rd rCMP_SHI n)
    ∧ c.rest = { s.chip.rest with time := { s.chip.time with cmps := mset ({} : Cmp) s.chip.time.cmps n (c.cmp n) } }
    ∧ c.rb rCMP_CTRL n 0 0 = true ∧ Frame [rCMP_CTRL.addr n 0] [] s.chip c) ∧
  (∀ (s : State) (a : Access) (n : Fin 16) (v : Word), s.chip.takes a rCMP_CTRL n 0 (v ||| 0x1) → bit v 1 = false → fld v 3 2 < 2 →
    (s.chip.cmp n).armed = false ∨ s.chip.time.now < (s.chip.cmp n).target →
    tsOf (s.chip.rd rCMP_NS n) (s.chip.rd rCMP_SLO n) (s.chip.rd rCMP_SHI n) ≤ s.chip.time.now →
    Does s (exec (.cmpArm a n v) s) fun c =>
    (c.cmp n).armed = decide (fld v 3 2 = 1) ∧ c.rb rCMP_PEND 0 0 (16 + n) = true ∧ c.irqs.getLsbD 29 = true
    ∧ c.time.now = s.chip.time.now) ∧
  (∀ (s : State) (a : Access) (n : Fin 16) (v : Word), s.chip.takes a rCMP_CTRL n 0 (v ||| 0x1) → bit v 1 = false → fld v 3 2 = 2 →
    (s.chip.cmp n).armed = false ∨ s.chip.time.now < (s.chip.cmp n).target →
    Does s (exec (.cmpArm a n v) s) fun c =>
    (c.cmp n).armed = true ∧ (c.cmp n).mode = 2 ∧ (c.cmp n).ofs = sgn (s.chip.rd rCMP_NS n) ∧ (c.cmp n).div = divOf (fld v 29 23)
    ∧ (c.cmp n).target = (gridTarget s.chip.time.grid (c.cmp n).ofs (c.cmp n).div
        (gridFirst s.chip.time.grid (c.cmp n).ofs (c.cmp n).div ((s.chip.time.now + 1 : Nat) : Int))).toNat
    ∧ c.rest = { s.chip.rest with time := { s.chip.time with cmps := mset ({} : Cmp) s.chip.time.cmps n (c.cmp n) } }
    ∧ c.rb rCMP_CTRL n 0 0 = true ∧ Frame [rCMP_CTRL.addr n 0] [] s.chip c) ∧
  (∀ (s : State) (a : Access) (n : Fin 16) (v : Word), s.chip.takes a rCMP_CTRL n 0 (v ||| 0x1) → bit v 1 = true ∨ fld v 3 2 = 3 →
    Does s (exec (.cmpArm a n v) s) fun c => (c.cmp n).armed = false ∧ c.rb rCMP_CTRL n 0 0 = false) ∧
  (∀ (s : State) (a : Access) (v : Word), s.chip.takes a rTIME_SERVO 0 0 v → Does s (exec (.tsState a v) s) fun c =>
    c.rf rTIME_SERVO 0 0 2 0 = fld v 2 0 ∧ (fld v 2 0 ≠ s.chip.rf rTIME_SERVO 0 0 2 0 → c.irqs.getLsbD 16 = true)
    ∧ c.rest = { s.chip.rest with err := c.err, time := c.time } ∧ c.time.now = s.chip.time.now
    ∧ Frame servoRegs servoIrqs s.chip c) ∧
  (∀ (s : State) (a : Access) (m : Fin 4), s.chip.reads a rSNAP m 0 → Does s (exec (.timeSnapRead a m) s) fun c =>
    c.rsp = { val := tsWord s.chip.time.now 0, err := false }
    ∧ c.rest = { s.chip.rest with time := { s.chip.time with snaps := mset ({} : Snap) s.chip.time.snaps (snapSet a) { t := s.chip.time.now, frac := s.chip.time.frac } } }
    ∧ Frame [] [] s.chip c) ∧
  (∀ (s : State) (a : Access) (x : TxTs) (q : List TxTs), s.chip.reads a rTXTS_TAG 0 0 → s.chip.time.txts = x :: q →
    Does s (exec (.txtsPop a) s) fun c =>
    c.rsp = { val := BitVec.ofNat 32 (2 ^ 31 + x.port % 4 * 2 ^ 16 + x.seq % 2 ^ 16), err := false }
    ∧ c.rd rTXTS 0 = tsWord x.t 0 ∧ c.rd rTXTS 1 = tsWord x.t 1 ∧ c.rd rTXTS 2 = tsWord x.t 2
    ∧ c.rest = { s.chip.rest with time := { s.chip.time with txts := q } }
    ∧ Frame [rTXTS_TAG.addr 0 0, rTXTS.addr 0 0, rTXTS.addr 1 0, rTXTS.addr 2 0] [] s.chip c) ∧
  (∀ (s : State) (a : Access), s.chip.reads a rTXTS_TAG 0 0 → s.chip.time.txts = [] →
    Does s (exec (.txtsPop a) s) fun c =>
    c.rsp = { val := 0, err := false } ∧ c.rest = s.chip.rest ∧ Frame [rTXTS_TAG.addr 0 0] [] s.chip c)

/-- The TIME block's own events. A pending step, whatever it passes over, sets the clock to its target, clears the fraction, shows
STEPPED and raises interrupt 17, and with no comparator armed and no second crossed reports code 0x11 and changes nothing else
but the servo's reference times, which move with the clock; with none pending nothing changes. A pending grid takes force at its
switch tick, the clock at that tick or later, marks the next frame start and raises interrupt 31. An armed comparator whose tick
has come fires: the clock stands at the reading, PEND and interrupt 28 follow IRQ, a one-shot is disarmed, and TIME_OUT and the
other lands follow. An edge that no unit selects is not counted; one that a unit with PRESCALE 0 selects makes a record of the
time before the synchroniser, once in a tick. PPS_OUT rises where the servo's state allows it, with interrupt 30, and falls; a
TIME_OUT pulse ends on its land alone. -/
def Obligations.time_events : Prop :=
  (∀ (s : State) (q : StepReq), s.chip.alive .ts = true → s.chip.time.stepReq = some q → Does s (exec .stepApply s) fun c =>
    c.time.now = stepTarget s.chip.time.now q ∧ c.time.frac = 0 ∧ c.time.stepReq = none
    ∧ c.rb rTIME_STATUS 0 0 1 = true ∧ c.rb rTIME_STATUS 0 0 2 = false ∧ c.irqs.getLsbD 17 = true
    ∧ ((∀ n < 16, (s.chip.cmp n).armed = false) → stepTarget s.chip.time.now q / nsPerSec = s.chip.time.now / nsPerSec →
        c.rest = { s.chip.rest with
          time := { s.chip.time with now := stepTarget s.chip.time.now q, frac := 0, stepReq := none
                                     servo := { s.chip.time.servo with
                                       holdStart := s.chip.time.servo.holdStart + ((stepTarget s.chip.time.now q : Int) - s.chip.time.now)
                                       runMark := s.chip.time.servo.runMark + ((stepTarget s.chip.time.now q : Int) - s.chip.time.now) } }
          err := c.err }
        ∧ Reports 0x01 0x11 s.chip c ∧ Frame (rTIME_STATUS.addr 0 0 :: logRegs 0x01) [17, 209] s.chip c)) ∧
  (∀ s : State, s.chip.time.stepReq = none → Does s (exec .stepApply s) fun c => c.rest = s.chip.rest ∧ Frame [] [] s.chip c) ∧
  (∀ (s : State) (p : GridPend), s.chip.alive .ts = true → s.chip.time.gridPend = some p →
    p.tick ≤ (s.chip.time.now : Int) ∨ s.chip.rb rTIME_CTRL 0 0 0 = true → Does s (exec .gridSwitch s) fun c =>
    c.time.grid = p.grid ∧ c.time.gridPend = none ∧ c.time.switchMark = true ∧ c.time.now = max s.chip.time.now p.tick.toNat
    ∧ c.rb rGRID_CTRL 0 0 1 = false ∧ c.irqs.getLsbD 31 = true ∧ Reports 0x01 0x14 s.chip c
    ∧ ((∀ n < 16, (s.chip.cmp n).armed = false) → c.rest = { s.chip.rest with
          time := { s.chip.time with now := max s.chip.time.now p.tick.toNat, grid := p.grid, gridPend := none, switchMark := true }, err := c.err }
        ∧ Frame (rGRID_CTRL.addr 0 0 :: logRegs 0x01) [31, 209] s.chip c)) ∧
  (∀ (s : State) (n : Fin 16) (t : Nat), s.chip.alive .ts = true → s.chip.fires n t = true → Does s (exec (.cmpFire n t) s) fun c =>
    c.time.now = t ∧ ((s.chip.cmp n).mode = 0 → (c.cmp n).armed = false ∧ c.rb rCMP_CTRL n 0 0 = false)
    ∧ ((s.chip.cmp n).mode ≠ 0 → (c.cmp n).armed = true)
    ∧ (s.chip.rb rCMP_CTRL n 0 5 = true → c.rb rCMP_PEND 0 0 n = true ∧ c.irqs.getLsbD 28 = true)) ∧
  (∀ (s : State) (n : Fin 16), s.chip.alive .ts = true → s.chip.fires n s.chip.time.now = true → (s.chip.cmp n).mode = 0 →
    s.chip.rf rCMP_CTRL n 0 18 15 = 0 → s.chip.rb rCMP_CTRL n 0 4 = false → s.chip.rb rCMP_CTRL n 0 5 = true →
    s.chip.rd rOUT_CTRL = 0 → (∀ u < 8, s.chip.rb rCAP_CTRL u 0 0 = false) → Does s (exec (.cmpFire n s.chip.time.now) s) fun c =>
    c.wire = .tcmp n 0 :: s.chip.wire ∧ c.time.evtQ = s.chip.time.evtQ
    ∧ Frame [rCMP_CTRL.addr n 0, rCMP_PEND.addr 0 0] [28] s.chip c) ∧
  (∀ (s : State) (src : Fin 32) (rising : Bool),
    (∀ u < 8, s.chip.rb rCAP_CTRL u 0 0 = false ∨ s.chip.rf rCAP_CTRL u 0 9 5 ≠ src.val) →
    Does s (exec (.captureEdge src rising) s) fun c => c.rest = s.chip.rest ∧ Frame [] [] s.chip c) ∧
  (∀ (s : State) (src : Fin 32) (u : Nat), s.chip.alive .ts = true → src.val ≤ 9 → u < 8 →
    s.chip.rb rCAP_CTRL u 0 0 = true → s.chip.rf rCAP_CTRL u 0 9 5 = src → s.chip.rf rCAP_CTRL u 0 11 10 = 2 →
    s.chip.rf rCAP_CTRL u 0 31 16 = 0 → s.chip.rb rCAP_CTRL u 0 12 = false → s.chip.time.evtQ.length < 16 →
    (∀ k < 8, k ≠ u → s.chip.rb rCAP_CTRL k 0 0 = false) → Does s (exec (.captureEdge src true) s) fun c =>
    c.time.evtQ = (if mget none s.chip.time.capTick u = some s.chip.time.now then s.chip.time.evtQ
      else s.chip.time.evtQ ++ [BitVec.ofNat 8 1 ++ BitVec.ofNat 8 u ++ tsPack (s.chip.time.now - syncDelay)])
    ∧ c.time.now = s.chip.time.now ∧ Frame [] [20 + u] s.chip c) ∧
  (∀ s : State, s.chip.alive .ts = true → Does s (exec .ppsRise s) fun c =>
    c.time.ppsPulse = true ∧ (s.chip.ppsAllowed = true → c.time.ppsOut = true ∧ c.irqs.getLsbD 30 = true)
    ∧ (s.chip.ppsAllowed = false → c.rest = { s.chip.rest with time := { s.chip.time with ppsPulse := true } } ∧ Frame [] [] s.chip c)
    ∧ ((∀ u < 8, s.chip.rb rCAP_CTRL u 0 0 = false) → s.chip.ppsAllowed = true →
        c.rest = { s.chip.rest with time := { s.chip.time with ppsPulse := true, ppsOut := true } } ∧ Frame [] [30] s.chip c)) ∧
  (∀ s : State, s.chip.alive .ts = true → Does s (exec .ppsFall s) fun c =>
    c.time.ppsPulse = false ∧ c.time.ppsOut = false
    ∧ ((∀ u < 8, s.chip.rb rCAP_CTRL u 0 0 = false) →
        c.rest = { s.chip.rest with time := { s.chip.time with ppsPulse := false, ppsOut := false } } ∧ Frame [] [] s.chip c)) ∧
  (∀ (s : State) (j : Fin 4), s.chip.alive .ts = true → s.chip.time.outPulse.getLsbD j = true →
    Does s (exec (.timeOutPulseEnd j) s) fun c =>
    c.time.outLvl.getLsbD j = false ∧ (∀ i : Fin 4, i ≠ j → c.time.outLvl.getLsbD i = s.chip.time.outLvl.getLsbD i)
    ∧ c.rest = { s.chip.rest with time := { s.chip.time with outLvl := c.time.outLvl, outPulse := c.time.outPulse } }
    ∧ Frame [] [] s.chip c)

/-- NC's servo, while NC runs. An acceptable Announce on a PTP port is kept as that master's newest, and a first parent puts the
servo in SETTLING. A two-step Sync of the parent waits for its Follow_Up; a one-step Sync gives its offset: kept in SETTLING,
steering TIME_ADDEND within 500 ppm in ACQUIRING. A Delay_Req takes the next sequence number and is sent on the parent's port to
its address, its timestamp held where the transmit queue takes it; a Delay_Resp that matches it sets the mean path delay, never below 0 (log entry 164). The loss of the parent puts
the servo in HOLDOVER at the mean of TIME_ADDEND; a holdover that expires shows it in TIME_STATUS; the end of settling puts the
servo in ACQUIRING, slewing, or stepping by the median offset out of FREERUN. -/
def Obligations.ptp_servo : Prop :=
  (∀ (s : State) (p : Fin 3) (m : Announce), s.chip.ptpOn p m.domain = true → ptpTo m.dst 320 = true → -3 ≤ m.log → m.log ≤ 3 →
    s.chip.acceptable m.clk = true → s.chip.time.servo.parent = none → s.chip.time.servo.foreigns = [] → Does s (exec (.announceRx p m) s) fun c =>
    c.time.servo.foreigns = [⟨p, m.clk, m.gm, m.prio1, m.cls, m.acc, m.var, m.prio2, m.steps, if m.dst.ip = ptpGroup then ptpGroup else m.dst.src⟩]
    ∧ c.time.servo.parent = c.time.servo.foreigns.head? ∧ c.rf rTIME_SERVO 0 0 2 0 = 4 ∧ Frame servoRegs servoIrqs s.chip c) ∧
  (∀ (s : State) (p : Fin 3) (m : SyncMsg), s.chip.ptpOn p m.domain = true → ptpTo m.dst 319 = true → -7 ≤ m.log → m.log ≤ 1 →
    s.chip.fromParent p m.clk = true → m.followUp = false → m.twoStep = true → Does s (exec (.syncRx p m) s) fun c =>
    c.rest = { s.chip.rest with time := { s.chip.time with servo := { s.chip.time.servo with
      syncWait := some (m.seq.toNat, ((m.rx : Int) - s.chip.asym).toNat, m.corr) } } } ∧ Frame [] [] s.chip c) ∧
  (∀ (s : State) (p : Fin 3) (m : SyncMsg) (o : Int), s.chip.ptpOn p m.domain = true → ptpTo m.dst 319 = true → -7 ≤ m.log → m.log ≤ 1 →
    s.chip.fromParent p m.clk = true → m.followUp = false → m.twoStep = false →
    o = ((((m.rx : Int) - s.chip.asym).toNat : Nat) : Int) - (m.origin + m.corr) - s.chip.time.servo.delay → Does s (exec (.syncRx p m) s) fun c =>
    c.time.servo.offset = o
    ∧ (s.chip.servoNow = 4 → c.time.servo.settleOffs = o :: s.chip.time.servo.settleOffs ∧ Frame [] [] s.chip c)
    ∧ (s.chip.servoNow = 1 → s.chip.time.servo.slewing = false →
        c.rd rTIME_ADDEND = wordOf (max (-4294967) (min 4294967 (Config.servoAddend (s.chip.cyc + 1) o))))) ∧
  (∀ (s : State) (p : Fin 3) (m : DelayResp) (q t3 : Nat) (t1 : Int) (t2 : Nat), s.chip.ptpOn p m.domain = true → ptpTo m.dst 320 = true →
    s.chip.fromParent p m.clk = true → s.chip.time.servo.reqWait = some (q, t3) → s.chip.time.servo.lastSync = some (t1, t2) →
    m.seq.toNat = q → Does s (exec (.delayRespRx p m) s) fun c =>
    c.rest = { s.chip.rest with time := { s.chip.time with servo := { s.chip.time.servo with reqWait := none, delay := max 0 (((t2 - t1) + ((m.rcv : Int) - m.corr - t3)) / 2) } } } ∧ Frame [] [] s.chip c) ∧
  (∀ (s : State) (f : Foreign), s.chip.time.servo.parent = some f → s.chip.alive .ts = true → s.chip.boot.ncRun = true →
    s.chip.link f.port = true → s.chip.txStop f.port = false → Does s (exec .delayReqSend s) fun c =>
    c.wire = .ptp f.port f.reply 319 (delayReqBytes (s.chip.objNat 0x2010 2 127) ((s.chip.time.servo.reqSeq + 1) % 65536)) :: s.chip.wire
    ∧ c.time.servo.reqSeq = (s.chip.time.servo.reqSeq + 1) % 65536 ∧ c.time.servo.reqWait.isSome = (s.chip.rb rTIME_CTRL 0 0 1 && decide (s.chip.time.txts.length < 8))
    ∧ Frame [rTIME_STATUS.addr 0 0] [19] s.chip c) ∧
  (∀ (s : State) (f : Foreign), s.chip.alive .ts = true → s.chip.boot.ncRun = true → s.chip.time.servo.parent = some f →
    Does s (exec .parentLost s) fun c =>
    c.time.servo.parent = none ∧ c.time.servo.holdStart = s.chip.time.now ∧ c.rf rTIME_SERVO 0 0 2 0 = 3
    ∧ c.rd rTIME_ADDEND = wordOf s.chip.meanAddend ∧ Frame (rTIME_ADDEND.addr 0 0 :: servoRegs) servoIrqs s.chip c) ∧
  (∀ s : State, s.chip.alive .ts = true → s.chip.boot.ncRun = true → s.chip.servoNow = 3 → Does s (exec .holdoverExpired s) fun c =>
    c.rest = s.chip.rest ∧ c.rd rTIME_STATUS = setBit (s.chip.rd rTIME_STATUS) 4 true
    ∧ Frame [rTIME_STATUS.addr 0 0] [] s.chip c) ∧
  (∀ s : State, s.chip.alive .ts = true → s.chip.boot.ncRun = true → s.chip.servoNow = 4 → s.chip.time.servo.settleOffs ≠ [] →
    Does s (exec .settlingEnd s) fun c =>
    c.rf rTIME_SERVO 0 0 2 0 = 1 ∧ c.time.servo.settleOffs = []
    ∧ (s.chip.time.servo.fromFreerun = false → (median s.chip.time.servo.settleOffs).natAbs ≤ s.chip.objNat 0x2020 2 10000 →
        c.time.servo.slewing = true ∧ c.time.stepReq = s.chip.time.stepReq ∧ Frame servoRegs servoIrqs s.chip c)
    ∧ (s.chip.time.servo.fromFreerun = true → (median s.chip.time.servo.settleOffs).natAbs < clockMod →
        c.time.servo.slewing = false ∧ c.time.stepReq = some ⟨true, -median s.chip.time.servo.settleOffs⟩ ∧ c.rb rTIME_STATUS 0 0 2 = true))

/-- MAC port p. A write of MAC_CTRL stores its fields, without those the port does not have; with CNT_CLR in it every counter is
cleared; with EN = 0 it takes LINK down, counted in LINK_DOWNS and reported with code 0x21. LINK rises with EN = 1 and RX_LOS
low: the latency registers of the mode are loaded, code 0x20 is reported and the link interrupt raised; else nothing happens.
LINK falls: it is counted in LINK_DOWNS, reported with code 0x21 and signalled; the loss of a PTP port's link is the loss of the
parent heard there. A change of the sideband levels is mirrored in MAC_STATUS with interrupt 44, a rising TXFAULT is reported with
code 0x27, and loss of signal takes LINK down; levels as before do nothing. An MDIO frame starts with GO where none is under way
and ends with BUSY 0, a read leaving the PHY's data. Each clause ends with what it leaves unchanged. -/
def Obligations.mac_links_and_mdio : Prop :=
  (∀ (s : State) (a : Access) (p : Fin 3) (v : Word), s.chip.takes a rMAC_CTRL p 0 v → bit v 0 = true →
    Does s (exec (.macEnable a p v) s) fun c =>
    c.rd rMAC_CTRL p = (if p = 2 then setFld (setBit (rMAC_CTRL.merge (s.chip.rd rMAC_CTRL p) v) 1 false) 7 6 0
        else setFld (rMAC_CTRL.merge (s.chip.rd rMAC_CTRL p) v) 21 20 0)
    ∧ c.rb rMAC_CTRL p 0 0 = true
    ∧ (bit v 31 = false → c.rest = s.chip.rest ∧ Frame [rMAC_CTRL.addr p 0] [] s.chip c)
    ∧ (bit v 31 = true → (∀ j < 21, c.rd rMAC_CNT p j = 0)
        ∧ c.rest = { s.chip.rest with macs := mset ({} : Mac) s.chip.macs p { s.chip.mac p with rxBytes := 0, txBytes := 0 } }
        ∧ Frame (rMAC_CTRL.addr p 0 :: (List.range 21).map (rMAC_CNT.addr p)) [] s.chip c)) ∧
  (∀ (s : State) (a : Access) (p : Fin 3) (v : Word), s.chip.takes a rMAC_CTRL p 0 v → bit v 0 = false →
    Does s (exec (.macEnable a p v) s) fun c =>
    c.rd rMAC_CTRL p = (if p = 2 then setFld (setBit (rMAC_CTRL.merge (s.chip.rd rMAC_CTRL p) v) 1 false) 7 6 0
        else setFld (rMAC_CTRL.merge (s.chip.rd rMAC_CTRL p) v) 21 20 0)
    ∧ c.rb rMAC_CTRL p 0 0 = false ∧ LinkFalls p s.chip c ∧ Logs (2 + p) (if s.chip.link p = true then [0x21] else []) s.chip c
    ∧ c.rd rMAC_CNT p 20 = (if bit v 31 = true then 0 else s.chip.rd rMAC_CNT p 20) + (if s.chip.link p = true then 1 else 0)
    ∧ (bit v 31 = false → c.macs = s.chip.macs ∧ Frame (rMAC_CTRL.addr p 0 :: s.chip.fallRegs p) (s.chip.fallIrqs p) s.chip c)
    ∧ (bit v 31 = true → (∀ j < 20, c.rd rMAC_CNT p j = 0)
        ∧ c.macs = mset ({} : Mac) s.chip.macs p { s.chip.mac p with rxBytes := 0, txBytes := 0 }
        ∧ Frame (rMAC_CTRL.addr p 0 :: (List.range 21).map (rMAC_CNT.addr p) ++ s.chip.fallRegs p) (s.chip.fallIrqs p) s.chip c)) ∧
  (∀ (s : State) (p : Fin 3), s.chip.alive (macDom p) = true → s.chip.rb rMAC_CTRL p 0 0 = true →
    s.chip.rb rMAC_STATUS p 0 4 = false → s.chip.link p = false → Does s (exec (.linkUp p) s) fun c =>
    c.rest = { s.chip.rest with err := c.err } ∧ c.rd rMAC_STATUS p = setBit (s.chip.rd rMAC_STATUS p) 0 true
    ∧ c.irqs.getLsbD (32 + 4 * p) = true ∧ Reports (2 + p) 0x20 s.chip c
    ∧ (p.val = 2 → c.rd rLAT_SV_TX = 384 ∧ c.rd rLAT_SV_RX = 480)
    ∧ (p.val ≠ 2 → s.chip.rb rMAC_CTRL p 0 1 = true → c.rd rLAT_N_TX p = 1480 ∧ c.rd rLAT_N_RX p = 1888)
    ∧ (p.val ≠ 2 → s.chip.rb rMAC_CTRL p 0 1 = false → s.chip.rf rMAC_CTRL p 0 7 6 = 1 → c.rd rLAT_N_TX p = 1024 ∧ c.rd rLAT_N_RX p = 2984)
    ∧ (p.val ≠ 2 → s.chip.rb rMAC_CTRL p 0 1 = false → s.chip.rf rMAC_CTRL p 0 7 6 ≠ 1 → c.rd rLAT_N_TX p = 608 ∧ c.rd rLAT_N_RX p = 840)
    ∧ Frame (rMAC_STATUS.addr p 0 :: (if p.val = 2 then [rLAT_SV_TX.addr 0 0, rLAT_SV_RX.addr 0 0]
        else [rLAT_N_TX.addr p 0, rLAT_N_RX.addr p 0]) ++ logRegs (2 + p)) [32 + 4 * p, 209] s.chip c) ∧
  (∀ (s : State) (p : Fin 3), s.chip.rb rMAC_CTRL p 0 0 = false ∨ s.chip.rb rMAC_STATUS p 0 4 = true ∨ s.chip.link p = true →
    Does s (exec (.linkUp p) s) fun c => c.rest = s.chip.rest ∧ Frame [] [] s.chip c) ∧
  (∀ (s : State) (p : Fin 3), s.chip.alive (macDom p) = true → Does s (exec (.linkDown p) s) fun c =>
    LinkFalls p s.chip c ∧ Logs (2 + p) (if s.chip.link p = true then [0x21] else []) s.chip c ∧ c.macs = s.chip.macs
    ∧ c.rd rMAC_STATUS p = setBit (s.chip.rd rMAC_STATUS p) 0 false
    ∧ c.rd rMAC_CNT p 20 = s.chip.rd rMAC_CNT p 20 + (if s.chip.link p = true then 1 else 0)
    ∧ Frame (s.chip.fallRegs p) (s.chip.fallIrqs p) s.chip c) ∧
  (∀ (s : State) (p : Fin 2) (modabs rxlos txfault : Bool), s.chip.alive (macDom p) = true →
    s.chip.rb rMAC_STATUS p 0 3 ≠ modabs ∨ s.chip.rb rMAC_STATUS p 0 4 ≠ rxlos ∨ s.chip.rb rMAC_STATUS p 0 5 ≠ txfault →
    Does s (exec (.sfpSidebandChange p modabs rxlos txfault) s) fun c =>
    c.irqs.getLsbD 44 = true
    ∧ c.rd rMAC_STATUS p = setBit (setBit (setBit (setBit (s.chip.rd rMAC_STATUS p) 3 modabs) 4 rxlos) 5 txfault) 0 (s.chip.link p && !rxlos)
    ∧ Logs (2 + p) ((if s.chip.rb rMAC_STATUS p 0 5 = false ∧ txfault = true then [0x27] else [])
        ++ (if s.chip.link p = true ∧ rxlos = true then [0x21] else [])) s.chip c
    ∧ c.macs = s.chip.macs
    ∧ (rxlos = true → LinkFalls p s.chip c
        ∧ c.rd rMAC_CNT p 20 = s.chip.rd rMAC_CNT p 20 + (if s.chip.link p = true then 1 else 0)
        ∧ Frame (rMAC_STATUS.addr p 0 :: logRegs (2 + p) ++ s.chip.fallRegs p) (44 :: 209 :: s.chip.fallIrqs p) s.chip c)
    ∧ (rxlos = false → c.rest = { s.chip.rest with err := c.err }
        ∧ Frame (rMAC_STATUS.addr p 0 :: logRegs (2 + p)) [44, 209] s.chip c)) ∧
  (∀ (s : State) (p : Fin 2) (modabs rxlos txfault : Bool),
    s.chip.rb rMAC_STATUS p 0 3 = modabs → s.chip.rb rMAC_STATUS p 0 4 = rxlos → s.chip.rb rMAC_STATUS p 0 5 = txfault →
    Does s (exec (.sfpSidebandChange p modabs rxlos txfault) s) fun c => c.rest = s.chip.rest ∧ Frame [] [] s.chip c) ∧
  (∀ (s : State) (a : Access) (v : Word), s.chip.takes a rMDIO 0 0 (v ||| 0x80000000) → s.chip.rb rMDIO 0 0 31 = false →
    Does s (exec (.mdioTransaction a v) s) fun c =>
    c.wire = .mdio (v ||| 0x80000000) :: s.chip.wire ∧ (c.mac 2).mdioRead = bit v 26
    ∧ c.rd rMDIO = setBit (rMDIO.merge (s.chip.rd rMDIO) (v ||| 0x80000000)) 31 true
    ∧ c.rest = { s.chip.rest with wire := c.wire, macs := mset ({} : Mac) s.chip.macs 2 { s.chip.mac 2 with mdioRead := bit v 26 } }
    ∧ Frame [rMDIO.addr 0 0] [] s.chip c) ∧
  (∀ (s : State) (a : Access) (v : Word), s.chip.takes a rMDIO 0 0 (v ||| 0x80000000) → s.chip.rb rMDIO 0 0 31 = true →
    Does s (exec (.mdioTransaction a v) s) fun c => c.rest = s.chip.rest ∧ c.rd rMDIO = s.chip.rd rMDIO ∧ Frame [] [] s.chip c) ∧
  (∀ (s : State) (data : BitVec 16), s.chip.alive .svc = true → s.chip.rb rMDIO 0 0 31 = true →
    Does s (exec (.mdioDone data) s) fun c =>
    c.rest = s.chip.rest ∧ c.rd rMDIO = (if (s.chip.mac 2).mdioRead = true then setFld (setBit (s.chip.rd rMDIO) 31 false) 15 0 data.toNat
      else setBit (s.chip.rd rMDIO) 31 false) ∧ Frame [rMDIO.addr 0 0] [] s.chip c) ∧
  (∀ (s : State) (data : BitVec 16), s.chip.rb rMDIO 0 0 31 = false → Does s (exec (.mdioDone data) s) fun c =>
    c.rest = s.chip.rest ∧ Frame [] [] s.chip c) ∧
  (∀ (s : State) (a : Access) (p : Fin 3) (v : Word), s.chip.takes a rMAC_CTRL p 0 (v ||| 0x80000000) →
    Does s (exec (.cntClr a p v) s) fun c =>
    (∀ j < 20, c.rd rMAC_CNT p j = 0) ∧ (c.mac p).rxBytes = 0 ∧ (c.mac p).txBytes = 0
    ∧ c.rd rMAC_CTRL p = (if p = 2 then setFld (setBit (rMAC_CTRL.merge (s.chip.rd rMAC_CTRL p) (v ||| 0x80000000)) 1 false) 7 6 0
        else setFld (rMAC_CTRL.merge (s.chip.rd rMAC_CTRL p) (v ||| 0x80000000)) 21 20 0)
    ∧ c.macs = mset ({} : Mac) s.chip.macs p { s.chip.mac p with rxBytes := 0, txBytes := 0 }
    ∧ (bit v 0 = true → c.rd rMAC_CNT p 20 = 0 ∧ c.rest = { s.chip.rest with macs := c.macs }
        ∧ Frame (rMAC_CTRL.addr p 0 :: (List.range 21).map (rMAC_CNT.addr p)) [] s.chip c)
    ∧ (bit v 0 = false → LinkFalls p s.chip c ∧ Logs (2 + p) (if s.chip.link p = true then [0x21] else []) s.chip c
        ∧ c.rd rMAC_CNT p 20 = (if s.chip.link p = true then 1 else 0)
        ∧ Frame (rMAC_CTRL.addr p 0 :: (List.range 21).map (rMAC_CNT.addr p) ++ s.chip.fallRegs p) (s.chip.fallIrqs p) s.chip c))

/-- MAC port p. A frame on a port without LINK changes nothing; one whose destination address no filter accepts is only counted
in word 8. Any other is counted with its bytes, cut at the frame limit. One that the VLAN rules refuse is then only counted in word
9 where it is tagged, and an IPv6 frame in word 10. A frame that passes is counted under each of its faults; it stands, flagged
or not, with its timestamp and its queue at the end of the crossing, or, of class 3 and a cue, before the urgent parser; a class-3
frame that is no cue passes under another queue (word 8 where there is none); a full FIFO drops it with word 11, RX_FIFO_OVF, code
0x23 and the fault interrupt. A flow-control frame without faults joins the received pause frames and is counted in word 12, one
with a fault does not. The oldest received PAUSE or PFC frame holds the port or its PCP values where MAC_FC_CTRL bit 4 honours
pause and no watchdog ignores it, releases them where its quanta are 0, and is dropped where pause is not honoured. The end of the quanta releases too. A hold that
lasts a watchdog period is broken, counted, shown, reported with code 0x24 and signalled, and pause is then ignored until the
ignore period's end. That a flow-control frame with a fault is not honoured is the model's choice (log entry 226). -/
def Obligations.mac_receive_and_pause : Prop :=
  (∀ (s : State) (p : Fin 3) (f : WireFrame), s.chip.link p = false → Does s (exec (.frameReceive p f) s) fun c =>
    c.rest = s.chip.rest ∧ Frame [] [] s.chip c) ∧
  (∀ (s : State) (p : Fin 3) (f : WireFrame), s.chip.alive (macDom p) = true → s.chip.link p = true →
    s.chip.daAccept p (parseHdr f.bytes).da = false → Does s (exec (.frameReceive p f) s) fun c =>
    c.rest = s.chip.rest ∧ c.rd rMAC_CNT p 8 = s.chip.rd rMAC_CNT p 8 + 1 ∧ Frame [rMAC_CNT.addr p 8] [] s.chip c) ∧
  (∀ (s : State) (p : Fin 3) (f : WireFrame), s.chip.alive (macDom p) = true → s.chip.link p = true →
    s.chip.daAccept p (parseHdr f.bytes).da = true → Does s (exec (.frameReceive p f) s) fun c =>
    c.rd rMAC_CNT p 0 = s.chip.rd rMAC_CNT p 0 + 1
    ∧ (c.mac p).rxBytes = ((s.chip.mac p).rxBytes + min (f.bytes.length + 4) (s.chip.maxLen p ((parseHdr f.bytes).tagged || (parseHdr f.bytes).tpid88a8))) % 2 ^ 64) ∧
  (∀ (s : State) (p : Fin 3) (f : WireFrame) (h : Hdr), s.chip.alive (macDom p) = true → s.chip.link p = true → h = parseHdr f.bytes →
    s.chip.daAccept p h.da = true → s.chip.vlanAccept p h = false → Does s (exec (.frameReceive p f) s) fun c =>
    c.rd rMAC_CNT p 9 = s.chip.rd rMAC_CNT p 9 + (if h.tagged = true ∨ h.tpid88a8 = true then 1 else 0)
    ∧ c.rest = { s.chip.rest with macs := mset ({} : Mac) s.chip.macs p { s.chip.mac p with rxBytes := (c.mac p).rxBytes } }
    ∧ Frame [rMAC_CNT.addr p 0, rMAC_CNT.addr p 9] [] s.chip c) ∧
  (∀ (s : State) (p : Fin 3) (f : WireFrame) (h : Hdr), s.chip.alive (macDom p) = true → s.chip.link p = true → h = parseHdr f.bytes →
    s.chip.daAccept p h.da = true → s.chip.vlanAccept p h = true → h.etype = 0x86DD → Does s (exec (.frameReceive p f) s) fun c =>
    c.rd rMAC_CNT p 10 = s.chip.rd rMAC_CNT p 10 + 1
    ∧ c.rest = { s.chip.rest with macs := mset ({} : Mac) s.chip.macs p { s.chip.mac p with rxBytes := (c.mac p).rxBytes } }
    ∧ Frame [rMAC_CNT.addr p 0, rMAC_CNT.addr p 10] [] s.chip c) ∧
  (∀ (s : State) (p : Fin 3) (f : WireFrame) (h : Hdr) (lim pcp : Nat) (x : RxFrame) (dlc : Bool), s.chip.alive (macDom p) = true → s.chip.link p = true →
    h = parseHdr f.bytes → s.chip.daAccept p h.da = true → s.chip.vlanAccept p h = true → h.etype ≠ 0x86DD → h.etype ≠ 0x8808 →
    lim = s.chip.maxLen p (h.tagged || h.tpid88a8) → pcp = (if h.tagged = true then h.pcpTag else s.chip.rf rMAC_CTRL p 0 16 14) →
    x = { bytes := f.bytes.take lim, fcs := !f.fcsOk, runt := decide (f.bytes.length + 4 < 64), oversize := decide (lim < f.bytes.length + 4), code := !f.codeOk,
          lenerr := lenErr h f.bytes.length, ts := s.chip.rxStamp p f.sfd, queue := s.chip.steer p h pcp, cls := s.chip.qClass p (s.chip.steer p h pcp), pcp := pcp,
          pm := if (h.da.getD 0 0).getLsbD 0 = true ∧ h.da ≠ List.replicate 6 0xFF then s.chip.pmFind p h.da else none, hidx := hashIdx h.da } →
    dlc = (decide (x.cls = 3) && decide (p.val ≤ 1) && s.chip.rb rURG_CTRL p 0 31 && isDlc h) →
    Does s (exec (.frameReceive p f) s) fun c =>
    (∀ k ∈ [(3, x.fcs), (4, x.runt), (5, x.oversize), (6, x.code), (7, x.lenerr)],
        c.rd rMAC_CNT p k.1 = s.chip.rd rMAC_CNT p k.1 + (if k.2 = true then 1 else 0))
    ∧ (dlc = true → c.rest = { s.chip.rest with macs := mset ({} : Mac) s.chip.macs p { s.chip.mac p with rxBytes := (c.mac p).rxBytes, dlcIn := (s.chip.mac p).dlcIn ++ [x] } }
        ∧ Frame ([0, 3, 4, 5, 6, 7].map (rMAC_CNT.addr p)) [] s.chip c)
    ∧ (dlc = false → ∀ q ∈ (if x.cls = 3 then s.chip.spillQueue p else some x.queue),
        ((s.chip.mac p).held + x.bytes.length ≤ 65536 →
          c.rest = { s.chip.rest with macs := mset ({} : Mac) s.chip.macs p { s.chip.mac p with rxBytes := (c.mac p).rxBytes, rxq := (s.chip.mac p).rxq ++ [{ x with queue := q, cls := s.chip.qClass p q }] } }
          ∧ Frame ([0, 3, 4, 5, 6, 7].map (rMAC_CNT.addr p)) [] s.chip c)
        ∧ (65536 < (s.chip.mac p).held + x.bytes.length →
          c.rd rMAC_CNT p 11 = s.chip.rd rMAC_CNT p 11 + 1 ∧ c.rb rMAC_STATUS p 0 6 = true ∧ Reports (2 + p) 0x23 s.chip c ∧ c.irqs.getLsbD (35 + 4 * p) = true
          ∧ c.rest = { s.chip.rest with macs := mset ({} : Mac) s.chip.macs p { s.chip.mac p with rxBytes := (c.mac p).rxBytes }, err := c.err }
          ∧ Frame ([0, 3, 4, 5, 6, 7, 11].map (rMAC_CNT.addr p) ++ rMAC_STATUS.addr p 0 :: logRegs (2 + p)) [35 + 4 * p, 209] s.chip c))
    ∧ (dlc = false → x.cls = 3 → s.chip.spillQueue p = none →
        c.rd rMAC_CNT p 8 = s.chip.rd rMAC_CNT p 8 + 1
        ∧ c.rest = { s.chip.rest with macs := mset ({} : Mac) s.chip.macs p { s.chip.mac p with rxBytes := (c.mac p).rxBytes } }
        ∧ Frame ([0, 3, 4, 5, 6, 7, 8].map (rMAC_CNT.addr p)) [] s.chip c)) ∧
  (∀ (s : State) (p : Fin 3) (f : WireFrame) (h : Hdr) (good : Bool), s.chip.alive (macDom p) = true → s.chip.link p = true → h = parseHdr f.bytes →
    s.chip.daAccept p h.da = true → s.chip.vlanAccept p h = true → h.etype = 0x8808 →
    good = (f.fcsOk && f.codeOk && decide (60 ≤ f.bytes.length) && decide (f.bytes.length + 4 ≤ s.chip.maxLen p (h.tagged || h.tpid88a8))) →
    Does s (exec (.frameReceive p f) s) fun c =>
    (good = true → ∀ y ∈ pauseOf f.bytes (if h.tagged = true then 18 else 14),
        c.rest = { s.chip.rest with macs := mset ({} : Mac) s.chip.macs p { s.chip.mac p with rxBytes := (c.mac p).rxBytes, pauseIn := (s.chip.mac p).pauseIn ++ [y] } }
        ∧ c.rd rMAC_CNT p 12 = s.chip.rd rMAC_CNT p 12 + 1)
    ∧ (good = false ∨ pauseOf f.bytes (if h.tagged = true then 18 else 14) = none →
        c.rest = { s.chip.rest with macs := mset ({} : Mac) s.chip.macs p { s.chip.mac p with rxBytes := (c.mac p).rxBytes } }
        ∧ c.rd rMAC_CNT p 12 = s.chip.rd rMAC_CNT p 12)
    ∧ Frame ([0, 3, 4, 5, 6, 12].map (rMAC_CNT.addr p)) [] s.chip c) ∧
  (∀ (s : State) (p : Fin 3) (x : PauseIn) (t : List PauseIn), (s.chip.mac p).pauseIn = x :: t → s.chip.rb rMAC_FC p 0 4 = false →
    Does s (exec (.pauseRx p) s) fun c =>
    c.rest = { s.chip.rest with macs := mset ({} : Mac) s.chip.macs p { s.chip.mac p with pauseIn := t } } ∧ Frame [] [] s.chip c) ∧
  (∀ (s : State) (p : Fin 3) (x : PauseIn) (t : List PauseIn), (s.chip.mac p).pauseIn = x :: t → x.pfc = false →
    x.quanta.getD 0 0 ≠ 0 → s.chip.rb rMAC_FC p 0 4 = true → Does s (exec (.pauseRx p) s) fun c =>
    c.rest = { s.chip.rest with macs := mset ({} : Mac) s.chip.macs p { s.chip.mac p with pauseIn := t, pausePort := (s.chip.mac p).pausePort || !(s.chip.mac p).ignPort } }
    ∧ ((s.chip.mac p).ignPort = false → c.rb rMAC_STATUS p 0 2 = true) ∧ Frame [rMAC_STATUS.addr p 0] [] s.chip c) ∧
  (∀ (s : State) (p : Fin 3) (x : PauseIn) (t : List PauseIn), (s.chip.mac p).pauseIn = x :: t → x.pfc = false →
    x.quanta.getD 0 0 = 0 → s.chip.rb rMAC_FC p 0 4 = true → Does s (exec (.pauseRx p) s) fun c =>
    c.rest = { s.chip.rest with macs := mset ({} : Mac) s.chip.macs p { s.chip.mac p with pauseIn := t, pausePort := false, ignPort := false } }
    ∧ ((s.chip.mac p).pausedPcp = 0 → c.rb rMAC_STATUS p 0 2 = false) ∧ Frame [rMAC_STATUS.addr p 0] [] s.chip c) ∧
  (∀ (s : State) (p : Fin 3) (x : PauseIn) (t : List PauseIn), (s.chip.mac p).pauseIn = x :: t → x.pfc = true →
    s.chip.rb rMAC_FC p 0 4 = true → Does s (exec (.pauseRx p) s) fun c =>
    (∀ k : Fin 4, (c.mac p).ignCls.getLsbD k = ((s.chip.mac p).ignCls.getLsbD k && decide (pfcMask x false &&& s.chip.pfcSet p k = 0))
      ∧ (c.mac p).pausedPcp.extractLsb' (8 * k) 8 = ((s.chip.mac p).pausedPcp.extractLsb' (8 * k) 8 &&& ~~~(pfcMask x false))
          ||| (if (c.mac p).ignCls.getLsbD k = true then 0 else pfcMask x true))
    ∧ c.rest = { s.chip.rest with macs := mset ({} : Mac) s.chip.macs p { s.chip.mac p with pauseIn := t, pausedPcp := (c.mac p).pausedPcp, ignCls := (c.mac p).ignCls } }
    ∧ Frame [rMAC_STATUS.addr p 0] [] s.chip c) ∧
  (∀ (s : State) (p : Fin 3), (s.chip.mac p).pauseIn = [] → Does s (exec (.pauseRx p) s) fun c =>
    c.rest = s.chip.rest ∧ Frame [] [] s.chip c) ∧
  (∀ (s : State) (p : Fin 3), Does s (exec (.pauseQuantaExpiry p 8) s) fun c =>
    c.rest = { s.chip.rest with macs := mset ({} : Mac) s.chip.macs p { s.chip.mac p with pausePort := false } }
    ∧ ((s.chip.mac p).pausedPcp = 0 → c.rb rMAC_STATUS p 0 2 = false) ∧ Frame [rMAC_STATUS.addr p 0] [] s.chip c) ∧
  (∀ (s : State) (p : Fin 3) (u : Fin 8), Does s (exec (.pauseQuantaExpiry p u.castSucc) s) fun c =>
    (c.mac p).pausedPcp = (s.chip.mac p).pausedPcp &&& ~~~(perCls 15 (1#8 <<< u.val))
    ∧ c.rest = { s.chip.rest with macs := mset ({} : Mac) s.chip.macs p { s.chip.mac p with pausedPcp := (c.mac p).pausedPcp } }
    ∧ Frame [rMAC_STATUS.addr p 0] [] s.chip c) ∧
  (∀ (s : State) (p : Fin 3), (s.chip.mac p).pausePort = true → s.chip.rf rPAUSE_WDOG p 0 15 0 ≠ 0 →
    Does s (exec (.pauseWdog p 4) s) fun c =>
    c.rest = { s.chip.rest with macs := mset ({} : Mac) s.chip.macs p { s.chip.mac p with pausePort := false, ignPort := true }, err := c.err }
    ∧ c.rd rMAC_CNT p 19 = s.chip.rd rMAC_CNT p 19 + 1 ∧ c.rb rMAC_STATUS p 0 7 = true ∧ Reports (2 + p) 0x24 s.chip c
    ∧ c.irqs.getLsbD (35 + 4 * p) = true
    ∧ Frame (rMAC_CNT.addr p 19 :: rMAC_STATUS.addr p 0 :: logRegs (2 + p)) [35 + 4 * p, 209] s.chip c) ∧
  (∀ (s : State) (p : Fin 3) (u : Fin 4), s.chip.unitHeld p u = true → s.chip.rf rPAUSE_WDOG p 0 15 0 ≠ 0 →
    Does s (exec (.pauseWdog p u.castSucc) s) fun c =>
    c.rest = { s.chip.rest with macs := mset ({} : Mac) s.chip.macs p { s.chip.mac p with pausedPcp := (s.chip.mac p).pausedPcp &&& ~~~(perCls (1#4 <<< u.val) 255), ignCls := (s.chip.mac p).ignCls ||| (1#4 <<< u.val) }, err := c.err }
    ∧ c.rd rMAC_CNT p 19 = s.chip.rd rMAC_CNT p 19 + 1 ∧ c.rb rMAC_STATUS p 0 7 = true ∧ Reports (2 + p) 0x24 s.chip c
    ∧ c.irqs.getLsbD (35 + 4 * p) = true
    ∧ Frame (rMAC_CNT.addr p 19 :: rMAC_STATUS.addr p 0 :: logRegs (2 + p)) [35 + 4 * p, 209] s.chip c) ∧
  (∀ (s : State) (p : Fin 3), Does s (exec (.pauseIgnoreEnd p 4) s) fun c =>
    c.rest = { s.chip.rest with macs := mset ({} : Mac) s.chip.macs p { s.chip.mac p with ignPort := false } }
    ∧ Frame [] [] s.chip c) ∧
  (∀ (s : State) (p : Fin 3) (u : Fin 4), Does s (exec (.pauseIgnoreEnd p u.castSucc) s) fun c =>
    c.rest = { s.chip.rest with macs := mset ({} : Mac) s.chip.macs p { s.chip.mac p with ignCls := (s.chip.mac p).ignCls &&& ~~~(1#4 <<< u.val) } }
    ∧ Frame [] [] s.chip c) ∧
  (∀ (s : State) (p : Fin 3) (u : Fin 5), s.chip.unitHeld p u = false ∨ s.chip.rf rPAUSE_WDOG p 0 15 0 = 0 →
    Does s (exec (.pauseWdog p u) s) fun c => c.rest = s.chip.rest ∧ Frame [] [] s.chip c)

/-- A port with LINK: at a gap after the asserted state has changed one frame of that state goes out; in the PAUSE mode it
is a PAUSE frame with the programmed quanta where any class is asserted and 0 where none is, in the PFC mode of NA and NB a PFC
frame of the PCP values of the classes that changed, with quanta for those of the classes asserted. While an assertion that was sent
lasts, a repeat sends its frame again. Each is counted as sent; a state already sent sends nothing, and no assertion no repeat. -/
def Obligations.flow_control_sent : Prop :=
  (∀ (s : State) (p : Fin 3) (on : Bool) (b : List Byte), s.chip.up (macDom p) = true → s.chip.txStop p = false → s.chip.link p = true →
    s.chip.rf rMAC_FC p 0 1 0 = 1 → (on = true ↔ s.chip.asrtCls p ≠ 0) → (s.chip.mac p).fcSent = (if on = true then 0 else 0xF) →
    b = [0x01, 0x80, 0xC2, 0, 0, 1] ++ addrBytes (s.chip.rd rMAC_ADDR_LO p) (s.chip.rd rMAC_ADDR_HI p) ++ [0x88, 0x08, 0, 1]
      ++ natBE 2 (if on = true then s.chip.rf rPAUSE_QUANTA p 0 15 0 else 0) ++ List.replicate 42 0 →
    Does s (exec (.flowControlFrameTx p) s) fun c =>
    c.wire = .eth p (b ++ wordBytes (crc32 b)) :: s.chip.wire
    ∧ c.rest = { s.chip.rest with wire := c.wire, macs := mset ({} : Mac) s.chip.macs p { s.chip.mac p with txBytes := ((s.chip.mac p).txBytes + 64) % 2 ^ 64, fcSent := if on = true then 0xF else 0 } }
    ∧ c.rd rMAC_CNT p 13 = s.chip.rd rMAC_CNT p 13 + 1 ∧ c.rd rMAC_CNT p 16 = s.chip.rd rMAC_CNT p 16 + 1
    ∧ Frame [rMAC_CNT.addr p 13, rMAC_CNT.addr p 16] [] s.chip c) ∧
  (∀ (s : State) (p : Fin 3), s.chip.up (macDom p) = true → s.chip.txStop p = false → s.chip.link p = true → s.chip.fcMode p ≠ 0 →
    s.chip.fcState p ≠ (s.chip.mac p).fcSent → Does s (exec (.flowControlFrameTx p) s) fun c =>
    (c.mac p).fcSent = s.chip.fcState p ∧ c.wire.length = s.chip.wire.length + 1 ∧ c.wire.drop 1 = s.chip.wire
    ∧ c.rd rMAC_CNT p 16 = s.chip.rd rMAC_CNT p 16 + 1 ∧ Frame [rMAC_CNT.addr p 13, rMAC_CNT.addr p 16] [] s.chip c) ∧
  (∀ (s : State) (p : Fin 3), (s.chip.mac p).fcSent = s.chip.fcState p → Does s (exec (.flowControlFrameTx p) s) fun c =>
    c.rest = s.chip.rest ∧ Frame [] [] s.chip c) ∧
  (∀ (s : State) (p : Fin 3) (b : List Byte), s.chip.up (macDom p) = true → s.chip.txStop p = false → s.chip.link p = true →
    s.chip.rf rMAC_FC p 0 1 0 = 1 → s.chip.asrtCls p ≠ 0 → (s.chip.mac p).fcSent = 0xF →
    b = [0x01, 0x80, 0xC2, 0, 0, 1] ++ addrBytes (s.chip.rd rMAC_ADDR_LO p) (s.chip.rd rMAC_ADDR_HI p) ++ [0x88, 0x08, 0, 1]
      ++ natBE 2 (s.chip.rf rPAUSE_QUANTA p 0 15 0) ++ List.replicate 42 0 → Does s (exec (.flowControlRepeat p) s) fun c =>
    c.wire = .eth p (b ++ wordBytes (crc32 b)) :: s.chip.wire
    ∧ c.rest = { s.chip.rest with wire := c.wire, macs := mset ({} : Mac) s.chip.macs p { s.chip.mac p with txBytes := ((s.chip.mac p).txBytes + 64) % 2 ^ 64 } }
    ∧ c.rd rMAC_CNT p 13 = s.chip.rd rMAC_CNT p 13 + 1 ∧ c.rd rMAC_CNT p 16 = s.chip.rd rMAC_CNT p 16 + 1
    ∧ Frame [rMAC_CNT.addr p 13, rMAC_CNT.addr p 16] [] s.chip c) ∧
  (∀ (s : State) (p : Fin 2) (e on : BitVec 8) (b : List Byte), s.chip.up (macDom p) = true → s.chip.txStop p = false → s.chip.link p = true →
    s.chip.rf rMAC_FC p 0 1 0 = 2 → s.chip.asrtCls p ≠ (s.chip.mac p).fcSent →
    (∀ i : Fin 8, e.getLsbD i = (List.range 4).any fun t => (s.chip.asrtCls p ^^^ (s.chip.mac p).fcSent).getLsbD t && (s.chip.pfcSet p t).getLsbD i) →
    (∀ i : Fin 8, on.getLsbD i = (List.range 4).any fun t => (s.chip.asrtCls p).getLsbD t && (s.chip.pfcSet p t).getLsbD i) →
    b = [0x01, 0x80, 0xC2, 0, 0, 1] ++ addrBytes (s.chip.rd rMAC_ADDR_LO p) (s.chip.rd rMAC_ADDR_HI p) ++ [0x88, 0x08, 1, 1] ++ natBE 2 e.toNat
      ++ ((List.range 8).flatMap fun i => natBE 2 (if on.getLsbD i = true then s.chip.rf rPAUSE_QUANTA p 0 15 0 else 0)) ++ List.replicate 26 0 →
    Does s (exec (.flowControlFrameTx ⟨p, by omega⟩) s) fun c =>
    c.wire = .eth p (b ++ wordBytes (crc32 b)) :: s.chip.wire
    ∧ c.rest = { s.chip.rest with wire := c.wire, macs := mset ({} : Mac) s.chip.macs p { s.chip.mac p with txBytes := ((s.chip.mac p).txBytes + 64) % 2 ^ 64, fcSent := s.chip.asrtCls p } }
    ∧ c.rd rMAC_CNT p 13 = s.chip.rd rMAC_CNT p 13 + 1 ∧ c.rd rMAC_CNT p 16 = s.chip.rd rMAC_CNT p 16 + 1
    ∧ Frame [rMAC_CNT.addr p 13, rMAC_CNT.addr p 16] [] s.chip c) ∧
  (∀ (s : State) (p : Fin 2) (e : BitVec 8) (b : List Byte), s.chip.up (macDom p) = true → s.chip.txStop p = false → s.chip.link p = true →
    s.chip.rf rMAC_FC p 0 1 0 = 2 → (s.chip.mac p).fcSent &&& s.chip.asrtCls p ≠ 0 →
    (∀ i : Fin 8, e.getLsbD i = (List.range 4).any fun t => ((s.chip.mac p).fcSent &&& s.chip.asrtCls p).getLsbD t && (s.chip.pfcSet p t).getLsbD i) →
    b = [0x01, 0x80, 0xC2, 0, 0, 1] ++ addrBytes (s.chip.rd rMAC_ADDR_LO p) (s.chip.rd rMAC_ADDR_HI p) ++ [0x88, 0x08, 1, 1] ++ natBE 2 e.toNat
      ++ ((List.range 8).flatMap fun i => natBE 2 (if e.getLsbD i = true then s.chip.rf rPAUSE_QUANTA p 0 15 0 else 0)) ++ List.replicate 26 0 →
    Does s (exec (.flowControlRepeat ⟨p, by omega⟩) s) fun c =>
    c.wire = .eth p (b ++ wordBytes (crc32 b)) :: s.chip.wire
    ∧ c.rest = { s.chip.rest with wire := c.wire, macs := mset ({} : Mac) s.chip.macs p { s.chip.mac p with txBytes := ((s.chip.mac p).txBytes + 64) % 2 ^ 64 } }
    ∧ c.rd rMAC_CNT p 13 = s.chip.rd rMAC_CNT p 13 + 1 ∧ c.rd rMAC_CNT p 16 = s.chip.rd rMAC_CNT p 16 + 1
    ∧ Frame [rMAC_CNT.addr p 13, rMAC_CNT.addr p 16] [] s.chip c) ∧
  (∀ (s : State) (p : Fin 3), (s.chip.mac p).fcSent &&& s.chip.fcState p = 0 → Does s (exec (.flowControlRepeat p) s) fun c =>
    c.rest = s.chip.rest ∧ Frame [] [] s.chip c)

/-- The frame rings of port p. The oldest frame of the crossing is taken, and without one nothing happens. A frame that is
flagged, or matches no merge slot, no stream slot and no E1.31 source, goes to the ring of its queue, but an unflagged IPv4
multicast frame of no group in the table is counted in ING_GRP_DROP and reported with code 0x55. When the ring is
disabled or owns no descriptor the frame is counted in NOBUF and gone; when the ring owns a descriptor in house SRAM whose buffer is there too and the
frame's data fits one buffer, the data stands in the buffer; the
descriptor's words 1 to 7 are written and HEAD and DONE advance by one, unless the frame is flagged with DELIVER_BAD = 0, and every other byte of memory is as before. A write of a
TAIL that gives hardware at most 2^k descriptors is taken; one that gives more is refused, reported with code 0x26 and
signalled. With no transmit ring enabled nothing is sent; the frame of one EOF descriptor at the head of the highest queue that may
send goes out with its tag and checksums inserted as asked, padded, with its FCS, DD is set in its descriptor and HEAD and DONE advance; with the link down
and TXDROP_DOWN = 1 it is dropped instead, DD and ERR set. -/
def Obligations.frame_rings : Prop :=
  (∀ (s : State) (p : Fin 3) (f : RxFrame) (t : List RxFrame), s.chip.alive .sys = true → (s.chip.mac p).rxq = f :: t →
    Does s (exec (.ingFrameClaim p) s) fun c => (c.mac p).rxq = t) ∧
  (∀ (s : State) (p : Fin 3), (s.chip.mac p).rxq = [] → Does s (exec (.ingFrameClaim p) s) fun c =>
    c.rest = s.chip.rest ∧ Frame [] [] s.chip c) ∧
  (∀ (s : State) (p : Fin 3) (f : RxFrame) (t : List RxFrame), s.chip.alive .sys = true → (s.chip.mac p).rxq = f :: t → f.flagged = false →
    s.chip.mrgMatch p (parseHdr f.bytes) = none → s.chip.slotMatch p (parseHdr f.bytes) = none → (parseHdr f.bytes).udp = false ∨ (parseHdr f.bytes).dport ≠ 5568 →
    (parseHdr f.bytes).ipv4 = true → (parseHdr f.bytes).dst.toNat / 2 ^ 28 = 14 → (∀ i < 32, s.chip.rd rGRP i ≠ (parseHdr f.bytes).dst) →
    Does s (exec (.ingFrameClaim p) s) fun c =>
    c.rd rGRP_DROP = s.chip.rd rGRP_DROP + 1 ∧ Reports 0x05 0x55 s.chip c
    ∧ c.rest = { s.chip.rest with macs := mset ({} : Mac) s.chip.macs p { s.chip.mac p with rxq := t }, err := c.err }
    ∧ Frame (rGRP_DROP.addr 0 0 :: logRegs 0x05) [209] s.chip c) ∧
  (∀ (s : State) (p : Fin 3) (f : RxFrame) (t : List RxFrame), s.chip.alive .sys = true → (s.chip.mac p).rxq = f :: t →
    f.flagged = true ∨ (s.chip.mrgMatch p (parseHdr f.bytes) = none ∧ s.chip.slotMatch p (parseHdr f.bytes) = none ∧ ((parseHdr f.bytes).udp = false ∨ (parseHdr f.bytes).dport ≠ 5568)
      ∧ ((parseHdr f.bytes).ipv4 = false ∨ (parseHdr f.bytes).dst.toNat / 2 ^ 28 ≠ 14)) →
    s.chip.rb rRQ_CTRL p f.queue 31 = false ∨ s.chip.rqLog p f.queue = none ∨ s.chip.rf rRQ_TAIL p f.queue 15 0 = s.chip.rf rRQ_HEAD p f.queue 15 0 →
    Does s (exec (.ingFrameClaim p) s) fun c =>
    c.rest = { s.chip.rest with macs := mset ({} : Mac) s.chip.macs p { s.chip.mac p with rxq := t } }
    ∧ c.rd rRQ_NOBUF p f.queue = s.chip.rd rRQ_NOBUF p f.queue + 1 ∧ Frame [rRQ_NOBUF.addr p f.queue] [] s.chip c) ∧
  (∀ (s : State) (p : Fin 3) (f : RxFrame) (t : List RxFrame) (d : List Byte) (k desc buf : Nat), s.chip.alive .sys = true →
    (s.chip.mac p).rxq = f :: t →
    f.flagged = true ∨ (s.chip.mrgMatch p (parseHdr f.bytes) = none ∧ s.chip.slotMatch p (parseHdr f.bytes) = none ∧ ((parseHdr f.bytes).udp = false ∨ (parseHdr f.bytes).dport ≠ 5568)
      ∧ ((parseHdr f.bytes).ipv4 = false ∨ (parseHdr f.bytes).dst.toNat / 2 ^ 28 ≠ 14)) →
    d = untag f.bytes (parseHdr f.bytes).tagged → f.queue < 8 → d ≠ [] → d.length ≤ 2048 → s.chip.sram.errs = [] →
    s.chip.rqLog p f.queue = some k → s.chip.rb rRQ_CTRL p f.queue 31 = true → s.chip.rqOwned p f.queue k ≠ 0 →
    desc = s.chip.rqDesc p f.queue k (s.chip.rf rRQ_HEAD p f.queue 15 0) → buf = (s.chip.word desc).toNat / 64 * 64 →
    0x01040000 ≤ desc → desc + 32 ≤ 0x01100000 → 0x01040000 ≤ buf → buf + 2048 ≤ 0x01100000 →
    desc + 32 ≤ buf ∨ buf + 2048 ≤ desc → Does s (exec (.ingFrameClaim p) s) fun c =>
    c.bytes buf d.length = d
    ∧ c.rest = { s.chip.rest with mem := c.mem, macs := mset ({} : Mac) s.chip.macs p { s.chip.mac p with rxq := t, asrtQ := (c.mac p).asrtQ } }
    ∧ (f.flagged = false ∨ s.chip.rb rMAC_CTRL p 0 9 = true →
        c.bytes (desc + 4) 28 = (rqWords f (parseHdr f.bytes) 0 1 d.length d.length false).flatMap wordBytes
        ∧ SameBytes (fun n => (buf ≤ n ∧ n < buf + d.length) ∨ (desc + 4 ≤ n ∧ n < desc + 32)) s.chip c
        ∧ c.rf rRQ_HEAD p f.queue 15 0 = (s.chip.rf rRQ_HEAD p f.queue 15 0 + 1) % 2 ^ 16
        ∧ c.rf rRQ_DONE p f.queue 15 0 = (s.chip.rf rRQ_DONE p f.queue 15 0 + 1) % 2 ^ 16
        ∧ (s.chip.rb rRQ_CTRL p f.queue 30 = true → c.irqs.getLsbD (33 + 4 * p) = true))
    ∧ (f.flagged = true ∧ s.chip.rb rMAC_CTRL p 0 9 = false →
        c.mac p = { s.chip.mac p with rxq := t } ∧ SameBytes (fun n => buf ≤ n ∧ n < buf + d.length) s.chip c ∧ Frame [] [] s.chip c)
    ∧ Frame [rRQ_HEAD.addr p f.queue, rRQ_DONE.addr p f.queue, rMAC_STATUS.addr p 0] [33 + 4 * p] s.chip c) ∧
  (∀ (s : State) (a : Access) (p : Fin 3) (q : Fin 8) (v : Word), s.chip.takes a rRQ_TAIL p q v →
    Does s (exec (.rqTailWrite a p q v) s) fun c =>
    ((fld v 15 0 + 2 ^ 16 - s.chip.rf rRQ_HEAD p q 15 0) % 2 ^ 16 ≤ 2 ^ s.chip.rf rRQ_CTRL p q 3 0 →
      c.rf rRQ_TAIL p q 15 0 = fld v 15 0
      ∧ c.rest = { s.chip.rest with macs := mset ({} : Mac) s.chip.macs p { s.chip.mac p with asrtQ := (c.mac p).asrtQ } }
      ∧ Frame [rRQ_TAIL.addr p q, rMAC_STATUS.addr p 0] [] s.chip c)
    ∧ (2 ^ s.chip.rf rRQ_CTRL p q 3 0 < (fld v 15 0 + 2 ^ 16 - s.chip.rf rRQ_HEAD p q 15 0) % 2 ^ 16 →
      c.rest = { s.chip.rest with err := c.err } ∧ Reports (2 + p) 0x26 s.chip c ∧ c.irqs.getLsbD (35 + 4 * p) = true
      ∧ Frame (logRegs (2 + p)) [35 + 4 * p, 209] s.chip c)) ∧
  (∀ (s : State) (a : Access) (p : Fin 3) (t : Fin 4) (v : Word), s.chip.takes a rTQ_TAIL p t v →
    Does s (exec (.tqTailWrite a p t v) s) fun c =>
    ((fld v 15 0 + 2 ^ 16 - s.chip.rf rTQ_HEAD p t 15 0) % 2 ^ 16 ≤ 2 ^ s.chip.rf rTQ_CTRL p t 3 0 →
      c.rf rTQ_TAIL p t 15 0 = fld v 15 0 ∧ c.rest = s.chip.rest ∧ Frame [rTQ_TAIL.addr p t] [] s.chip c)
    ∧ (2 ^ s.chip.rf rTQ_CTRL p t 3 0 < (fld v 15 0 + 2 ^ 16 - s.chip.rf rTQ_HEAD p t 15 0) % 2 ^ 16 →
      c.rest = { s.chip.rest with err := c.err } ∧ Reports (2 + p) 0x26 s.chip c ∧ c.irqs.getLsbD (35 + 4 * p) = true
      ∧ Frame (logRegs (2 + p)) [35 + 4 * p, 209] s.chip c)) ∧
  (∀ (s : State) (p : Fin 3), (∀ t : Fin 4, s.chip.rb rTQ_CTRL p t 31 = false) → Does s (exec (.frameTransmit p) s) fun c =>
    c.rest = s.chip.rest ∧ Frame [] [] s.chip c) ∧
  (∀ (s : State) (p : Fin 3) (t : Fin 4) (k desc : Nat) (w1 : Word) (d x b : List Byte), s.chip.up (macDom p) = true → s.chip.txStop p = false →
    s.chip.link p = true → s.chip.sram.errs = [] → s.chip.cutOff [txQueue p] = false →
    (∀ u : Fin 4, t < u → s.chip.rb rTQ_CTRL p u 31 = false ∨ s.chip.txHeld p u = true ∨ s.chip.rf rTQ_TAIL p u 15 0 = s.chip.rf rTQ_HEAD p u 15 0) →
    s.chip.tqLog p t = some k → s.chip.tqOwned p t k ≠ 0 → s.chip.txHeld p t = false →
    desc = (s.chip.rd rTQ_BASE p t).toNat + 16 * (s.chip.rf rTQ_HEAD p t 15 0 % 2 ^ k) → 0x01040000 ≤ desc → desc + 16 ≤ 0x01100000 →
    w1 = s.chip.word (desc + 4) → bit w1 29 = true → s.chip.rb rTIME_CTRL 0 0 1 = false →
    0x01040000 ≤ (s.chip.word desc).toNat → (s.chip.word desc).toNat + fld w1 13 0 ≤ 0x01100000 →
    d = s.chip.bytes (s.chip.word desc).toNat (fld w1 13 0) →
    x = (if bit w1 27 = true then d.take 12 ++ [0x81, 0x00] ++ natBE 2 (fld (s.chip.word (desc + 8)) 15 0) ++ d.drop 12 else d) →
    b = (if bit w1 28 = true then insertCsum x else x) ++ List.replicate (60 - (if bit w1 28 = true then insertCsum x else x).length) 0 →
    Does s (exec (.frameTransmit p) s) fun c =>
    c.wire = .eth p (b ++ wordBytes (crc32 b)) :: s.chip.wire
    ∧ c.rest = { s.chip.rest with wire := c.wire, mem := c.mem, macs := mset ({} : Mac) s.chip.macs p { s.chip.mac p with txBytes := ((s.chip.mac p).txBytes + (b.length + 4)) % 2 ^ 64 } }
    ∧ c.word (desc + 4) = setBit (setBit w1 31 true) 26 false
    ∧ SameBytes (fun n => desc + 4 ≤ n ∧ n < desc + 8) s.chip c
    ∧ c.rf rTQ_HEAD p t 15 0 = (s.chip.rf rTQ_HEAD p t 15 0 + 1) % 2 ^ 16
    ∧ c.rf rTQ_DONE p t 15 0 = (s.chip.rf rTQ_DONE p t 15 0 + 1) % 2 ^ 16 ∧ c.rd rMAC_CNT p 13 = s.chip.rd rMAC_CNT p 13 + 1
    ∧ (s.chip.rb rTQ_CTRL p t 30 = true → c.irqs.getLsbD (34 + 4 * p) = true)
    ∧ Frame [rTQ_HEAD.addr p t, rTQ_DONE.addr p t, rMAC_CNT.addr p 13] [34 + 4 * p] s.chip c) ∧
  (∀ (s : State) (p : Fin 3) (t : Fin 4) (k desc : Nat) (w1 : Word), s.chip.up (macDom p) = true → s.chip.txStop p = false →
    s.chip.link p = false → s.chip.rb rMAC_CTRL p 0 10 = true → s.chip.sram.errs = [] →
    (∀ u : Fin 4, t < u → s.chip.rb rTQ_CTRL p u 31 = false ∨ s.chip.txHeld p u = true ∨ s.chip.rf rTQ_TAIL p u 15 0 = s.chip.rf rTQ_HEAD p u 15 0) →
    s.chip.tqLog p t = some k → s.chip.tqOwned p t k ≠ 0 → s.chip.txHeld p t = false →
    desc = (s.chip.rd rTQ_BASE p t).toNat + 16 * (s.chip.rf rTQ_HEAD p t 15 0 % 2 ^ k) → 0x01040000 ≤ desc → desc + 16 ≤ 0x01100000 →
    w1 = s.chip.word (desc + 4) → bit w1 29 = true →
    0x01040000 ≤ (s.chip.word desc).toNat → (s.chip.word desc).toNat + fld w1 13 0 ≤ 0x01100000 →
    Does s (exec (.frameTransmit p) s) fun c =>
    c.rest = { s.chip.rest with mem := c.mem } ∧ c.word (desc + 4) = setBit (setBit w1 31 true) 26 true
    ∧ SameBytes (fun n => desc + 4 ≤ n ∧ n < desc + 8) s.chip c ∧ c.rd rMAC_CNT p 18 = s.chip.rd rMAC_CNT p 18 + 1
    ∧ c.rf rTQ_HEAD p t 15 0 = (s.chip.rf rTQ_HEAD p t 15 0 + 1) % 2 ^ 16
    ∧ c.rf rTQ_DONE p t 15 0 = (s.chip.rf rTQ_DONE p t 15 0 + 1) % 2 ^ 16
    ∧ (s.chip.rb rTQ_CTRL p t 30 = true → c.irqs.getLsbD (34 + 4 * p) = true)
    ∧ Frame [rTQ_HEAD.addr p t, rTQ_DONE.addr p t, rMAC_CNT.addr p 18] [34 + 4 * p] s.chip c)

/-- When the access reaches the register: EN 0 to 1 of a merge slot clears its window, its eight counters and both PATH_DOWN
bits, and a write of a slot already enabled leaves its window; SKEWMAX is cleared by a write of 0 and kept by any other; EN 0
to 1 of a canvas of this module is kept where its buffers fit and share no byte with an enabled canvas, with NOFIT 0, and else
stays 0 with NOFIT 1, and EN of a follower's destination canvas stays 0; EN 1 to 0 leaves it off and fresh with no frame
filling, its sources and slots forgotten and, where the Cellar takes the write, its three buffers FREE; a write that keeps EN only
stores. A TOUT of 0 makes a stale canvas fresh again, reported with code 0x51 and signalled; one already passed makes a canvas
stale at once, with code 0x50; any other only stores. A stream slot rewritten in its kind, merger, canvas
or ports, or disabled, closes its part of an open canvas frame incomplete, and forgets its own frame where no canvas frame is open;
one rewritten in nothing of these only stores. -/
def Obligations.merge_slots_and_canvas_registers : Prop :=
  (∀ (s : State) (a : Access) (i : Fin 16) (v : Word), s.chip.takes a rMRG_CTRL i 0 (v ||| 0x80000000) → s.chip.rb rMRG_CTRL i 0 31 = false →
    Does s (exec (.mrgSlotEnable a i v) s) fun c =>
    c.rest = { s.chip.rest with mrgs := mset ({} : Mrg) s.chip.mrgs i {} } ∧ c.rb rMRG_CTRL i 0 31 = true
    ∧ c.rb rMRG_CTRL i 0 29 = false ∧ c.rb rMRG_CTRL i 0 28 = false ∧ c.rf rMRG_CTRL i 0 14 0 = fld v 14 0 ∧ (∀ j < 8, c.rd rMRG_CNT i j = 0)
    ∧ Frame (rMRG_CTRL.addr i 0 :: (List.range 8).map (rMRG_CNT.addr i)) [] s.chip c) ∧
  (∀ (s : State) (a : Access) (i : Fin 16) (v : Word), s.chip.takes a rMRG_CTRL i 0 (v ||| 0x80000000) → s.chip.rb rMRG_CTRL i 0 31 = true →
    Does s (exec (.mrgSlotEnable a i v) s) fun c =>
    c.rest = s.chip.rest ∧ c.rd rMRG_CTRL i = rMRG_CTRL.merge (s.chip.rd rMRG_CTRL i) (v ||| 0x80000000) ∧ Frame [rMRG_CTRL.addr i 0] [] s.chip c) ∧
  (∀ (s : State) (a : Access) (i : Fin 16) (v : Word), s.chip.takes a rMRG_SKEWMAX i 0 v → Does s (exec (.skewmaxWrite a i v) s) fun c =>
    c.rest = s.chip.rest ∧ c.rd rMRG_SKEWMAX i = (if v = 0 then 0 else s.chip.rd rMRG_SKEWMAX i) ∧ Frame [rMRG_SKEWMAX.addr i 0] [] s.chip c) ∧
  (∀ (s : State) (a : Access) (cv : Fin 4) (v : Word), s.chip.takes a rCANV_CTRL cv 0 v → s.chip.canvOn cv = false → bit v 31 = true →
    s.chip.pos = 0 ∨ s.chip.rb rTRL_DCANV cv 0 31 = false → Does s (exec (.canvasEnable a cv v) s) fun c =>
    c.rf rCANV_CTRL cv 0 1 0 = fld v 1 0
    ∧ ((c.geom cv).fits = true → (∀ k : Fin 4, k ≠ cv → s.chip.canvOn k = true → (c.geom cv).apart (s.chip.geom k) = true) →
        c.rd rCANV_CTRL cv = rCANV_CTRL.merge (s.chip.rd rCANV_CTRL cv) v ∧ c.canvOn cv = true ∧ c.rb rCANV_STAT cv 0 3 = false
        ∧ c.rest = { s.chip.rest with canvs := mset ({} : Canv) s.chip.canvs cv { since := s.chip.time.now } })
    ∧ ((c.geom cv).fits = false ∨ (∃ k : Fin 4, k ≠ cv ∧ s.chip.canvOn k = true ∧ (c.geom cv).apart (s.chip.geom k) = false) →
        c.rd rCANV_CTRL cv = setBit (rCANV_CTRL.merge (s.chip.rd rCANV_CTRL cv) v) 31 false ∧ c.rb rCANV_STAT cv 0 3 = true ∧ c.rest = s.chip.rest)
    ∧ Frame [rCANV_CTRL.addr cv 0, rCANV_STAT.addr cv 0] [] s.chip c) ∧
  (∀ (s : State) (a : Access) (cv : Fin 4) (v : Word), s.chip.takes a rCANV_CTRL cv 0 v → s.chip.canvOn cv = false → bit v 31 = true →
    s.chip.pos ≠ 0 → s.chip.rb rTRL_DCANV cv 0 31 = true → Does s (exec (.canvasEnable a cv v) s) fun c =>
    c.rest = s.chip.rest ∧ c.rd rCANV_CTRL cv = setBit (rCANV_CTRL.merge (s.chip.rd rCANV_CTRL cv) v) 31 false ∧ Frame [rCANV_CTRL.addr cv 0] [] s.chip c) ∧
  (∀ (s : State) (a : Access) (cv : Fin 4) (v : Word), s.chip.takes a rCANV_CTRL cv 0 v → s.chip.canvOn cv = true → bit v 31 = false →
    Does s (exec (.canvasEnable a cv v) s) fun c => c.rd rCANV_CTRL cv = rCANV_CTRL.merge (s.chip.rd rCANV_CTRL cv) v
    ∧ c.rb rCANV_STAT cv 0 2 = false ∧ c.rf rCANV_STAT cv 0 1 0 = 0 ∧ c.canv cv = {}
    ∧ (∀ u : Fin 1024, c.uni u = if s.chip.rf rUNI_W0 u 0 17 16 = cv then {} else s.chip.uni u)
    ∧ (∀ i : Fin 32, c.slot i = if s.chip.rf rSLOT_CTRL i 0 24 23 = cv then {} else s.chip.slot i)) ∧
  (∀ (s : State) (a : Access) (cv : Fin 4) (v : Word), s.chip.takes a rCANV_CTRL cv 0 v → s.chip.canvOn cv = true → bit v 31 = false →
    s.chip.celCalm → s.chip.rb rRGN_WMASK 6 0 5 = true → (s.chip.fwd cv).cur = none → Does s (exec (.canvasEnable a cv v) s) fun c =>
    c.word (recAddr cv) = 0 ∧ SameBytes (fun n => recAddr cv ≤ n ∧ n < recAddr cv + 4) s.chip c
    ∧ c.rest = { s.chip.rest with mem := c.mem, cel := c.cel, canvs := mset ({} : Canv) s.chip.canvs cv {}, unis := c.unis, slots := c.slots }
    ∧ Frame [rCANV_CTRL.addr cv 0, rCANV_STAT.addr cv 0] [] s.chip c) ∧
  (∀ (s : State) (a : Access) (cv : Fin 4) (v : Word), s.chip.takes a rCANV_CTRL cv 0 v → s.chip.canvOn cv = bit v 31 →
    Does s (exec (.canvasEnable a cv v) s) fun c =>
    c.rest = s.chip.rest ∧ c.rd rCANV_CTRL cv = rCANV_CTRL.merge (s.chip.rd rCANV_CTRL cv) v ∧ Frame [rCANV_CTRL.addr cv 0] [] s.chip c) ∧
  (∀ (s : State) (a : Access) (cv : Fin 4) (v : Word), s.chip.takes a rCANV_TOUT cv 0 v → fld v 15 0 = 0 → s.chip.rb rCANV_STAT cv 0 2 = true →
    Does s (exec (.canvasToutWrite a cv v) s) fun c =>
    c.rest = { s.chip.rest with err := c.err } ∧ c.rb rCANV_STAT cv 0 2 = false ∧ c.rf rCANV_TOUT cv 0 15 0 = 0
    ∧ Reports 0x05 0x51 s.chip c ∧ c.irqs.getLsbD (48 + cv) = true
    ∧ Frame (rCANV_TOUT.addr cv 0 :: rCANV_STAT.addr cv 0 :: logRegs 0x05) [48 + cv, 209] s.chip c) ∧
  (∀ (s : State) (a : Access) (cv : Fin 4) (v : Word), s.chip.takes a rCANV_TOUT cv 0 v →
    (if fld v 15 0 = 0 then s.chip.rb rCANV_STAT cv 0 2 = false
      else s.chip.canvOn cv = false ∨ s.chip.rb rCANV_STAT cv 0 2 = true ∨ s.chip.time.now < (s.chip.canv cv).since + fld v 15 0 * 1000000) →
    Does s (exec (.canvasToutWrite a cv v) s) fun c =>
    c.rest = s.chip.rest ∧ c.rf rCANV_TOUT cv 0 15 0 = fld v 15 0 ∧ Frame [rCANV_TOUT.addr cv 0] [] s.chip c) ∧
  (∀ (s : State) (a : Access) (cv : Fin 4) (v : Word), s.chip.takes a rCANV_TOUT cv 0 v → fld v 15 0 ≠ 0 → s.chip.canvOn cv = true →
    s.chip.rb rCANV_STAT cv 0 2 = false → (s.chip.canv cv).since + fld v 15 0 * 1000000 ≤ s.chip.time.now → Does s (exec (.canvasToutWrite a cv v) s) fun c =>
    c.rest = { s.chip.rest with err := c.err } ∧ c.rb rCANV_STAT cv 0 2 = true ∧ c.rf rCANV_TOUT cv 0 15 0 = fld v 15 0
    ∧ Reports 0x05 0x50 s.chip c ∧ c.irqs.getLsbD (48 + cv) = true
    ∧ Frame (rCANV_TOUT.addr cv 0 :: rCANV_STAT.addr cv 0 :: logRegs 0x05) [48 + cv, 209] s.chip c) ∧
  (∀ (s : State) (a : Access) (i : Fin 32) (v : Word), s.chip.takes a rSLOT_CTRL i 0 v →
    fld v 30 20 ≠ s.chip.rf rSLOT_CTRL i 0 30 20 ∨ (bit v 31 = false ∧ s.chip.rb rSLOT_CTRL i 0 31 = true) →
    (∀ k : Fin 4, (s.chip.canv k).openBuf = none) → Does s (exec (.slotRewrite a i v) s) fun c =>
    c.rest = { s.chip.rest with slots := mset ({} : SlotSt) s.chip.slots i {} }
    ∧ c.rd rSLOT_CTRL i = rSLOT_CTRL.merge (s.chip.rd rSLOT_CTRL i) v ∧ Frame [rSLOT_CTRL.addr i 0] [] s.chip c) ∧
  (∀ (s : State) (a : Access) (i k : Fin 32) (v : Word) (cv : Nat), s.chip.takes a rSLOT_CTRL i 0 v →
    fld v 30 20 ≠ s.chip.rf rSLOT_CTRL i 0 30 20 ∨ (bit v 31 = false ∧ s.chip.rb rSLOT_CTRL i 0 31 = true) →
    cv = s.chip.rf rSLOT_CTRL i 0 24 23 → (s.chip.canv cv).openBuf ≠ none → (s.chip.slot i).tag ≠ none → (s.chip.slot i).tag = (s.chip.canv cv).tag →
    (fld v 24 23 = cv ∨ (s.chip.canv (fld v 24 23)).openBuf = none) →
    k ≠ i → s.chip.rb rSLOT_CTRL k 0 31 = true → s.chip.rf rSLOT_CTRL k 0 24 23 = cv → (s.chip.canv cv).closedSlots.getLsbD k = false →
    Does s (exec (.slotRewrite a i v) s) fun c =>
    c.rest = { s.chip.rest with slots := mset ({} : SlotSt) s.chip.slots i { last := (s.chip.slot i).tag }
                                canvs := mset ({} : Canv) s.chip.canvs cv { s.chip.canv cv with closedSlots := (s.chip.canv cv).closedSlots ||| (1#32 <<< i.val), allComplete := false } }
    ∧ c.rd rSLOT_CTRL i = rSLOT_CTRL.merge (s.chip.rd rSLOT_CTRL i) v ∧ Frame [rSLOT_CTRL.addr i 0] [] s.chip c) ∧
  (∀ (s : State) (a : Access) (i : Fin 32) (v : Word), s.chip.takes a rSLOT_CTRL i 0 v → fld v 30 20 = s.chip.rf rSLOT_CTRL i 0 30 20 →
    bit v 31 = true ∨ s.chip.rb rSLOT_CTRL i 0 31 = false → Does s (exec (.slotRewrite a i v) s) fun c =>
    c.rest = s.chip.rest ∧ c.rd rSLOT_CTRL i = rSLOT_CTRL.merge (s.chip.rd rSLOT_CTRL i) v ∧ Frame [rSLOT_CTRL.addr i 0] [] s.chip c)

/-- An enabled canvas with a time limit that is not stale becomes stale: STALE, a report with code 0x50, its interrupt; else
nothing happens. The hold of an E1.31 canvas without a synchronisation address closes its open frame, which is then open no more:
with every universe assigned to it received, the Cellar serving, every word of it clean, a FILLING buffer and no
forwarding, the frame is counted, its signature taken, its descriptor written with the presentation time PDLY from now, its buffer READY and a
stale canvas fresh again, and no byte outside the canvas's record changes; without an open frame nothing happens. A tracked source
of a universe that has sent nothing for 2.5 s is forgotten. -/
def Obligations.canvas_frames_and_sources : Prop :=
  (∀ (s : State) (cv : Fin 4), s.chip.canvOn cv = true → s.chip.rf rCANV_TOUT cv 0 15 0 ≠ 0 → s.chip.rb rCANV_STAT cv 0 2 = false →
    Does s (exec (.canvStale cv) s) fun c =>
    c.rest = { s.chip.rest with err := c.err } ∧ c.rd rCANV_STAT cv = setBit (s.chip.rd rCANV_STAT cv) 2 true
    ∧ Reports 0x05 0x50 s.chip c ∧ c.irqs.getLsbD (48 + cv) = true
    ∧ Frame (rCANV_STAT.addr cv 0 :: logRegs 0x05) [48 + cv, 209] s.chip c) ∧
  (∀ (s : State) (cv : Fin 4), s.chip.rf rCANV_TOUT cv 0 15 0 = 0 ∨ s.chip.canvOn cv = false ∨ s.chip.rb rCANV_STAT cv 0 2 = true →
    Does s (exec (.canvStale cv) s) fun c => c.rest = s.chip.rest ∧ Frame [] [] s.chip c) ∧
  (∀ (s : State) (cv : Fin 4), s.chip.e131Canv cv = false ∨ (s.chip.canv cv).e131Open = false ∨ s.chip.rf rCANV_E131 cv 0 15 0 ≠ 0 →
    Does s (exec (.e131HoldExpiry cv) s) fun c => c.rest = s.chip.rest ∧ Frame [] [] s.chip c) ∧
  (∀ (s : State) (cv : Fin 4), s.chip.e131Canv cv = true → (s.chip.canv cv).e131Open = true → (s.chip.canv cv).openBuf ≠ none →
    s.chip.rf rCANV_E131 cv 0 15 0 = 0 → Does s (exec (.e131HoldExpiry cv) s) fun c =>
    (c.canv cv).openBuf = none ∧ (c.canv cv).e131Open = false
    ∧ (∀ u : Fin 1024, s.chip.rb rUNI_W0 u 0 31 = true → s.chip.rf rUNI_W0 u 0 17 16 = cv → (c.uni u).got = false)) ∧
  (∀ (s : State) (cv : Fin 4) (b : Fin 3) (pts : Nat), s.chip.e131Canv cv = true → (s.chip.canv cv).e131Open = true → s.chip.rf rCANV_E131 cv 0 15 0 = 0 →
    (s.chip.canv cv).openBuf = some b.val →
    (∀ u : Fin 1024, s.chip.rb rUNI_W0 u 0 31 = true → s.chip.rf rUNI_W0 u 0 17 16 = cv → (s.chip.uni u).got = true) → s.chip.celCalm →
    s.chip.rb rRGN_WMASK 6 0 5 = true → bufState (s.chip.word (recAddr cv)) b = 1 → s.chip.rb rTRL_CTRL 0 0 0 = false →
    pts = (((s.chip.time.now : Int) + sgn (s.chip.rd rCANV_PDLY cv)) % (clockMod : Int)).toNat →
    Does s (exec (.e131HoldExpiry cv) s) fun c =>
    (c.canv cv).openBuf = none ∧ (c.canv cv).e131Open = false ∧ c.rd rCANV_CNT cv 0 = s.chip.rd rCANV_CNT cv 0 + 1
    ∧ c.rd rCANV_SIG cv = s.chip.canvSig (s.chip.geom cv) b ∧ bufState (c.word (recAddr cv)) b = 2
    ∧ c.words (descAddr cv b) 6 = [0, s.chip.rd rCANV_CNT cv 0 + 1, tsWord pts 0, tsWord pts 1, tsWord pts 2, s.chip.canvSig (s.chip.geom cv) b]
    ∧ c.rb rCANV_STAT cv 0 2 = false ∧ (s.chip.rb rCANV_STAT cv 0 2 = true → Reports 0x05 0x51 s.chip c ∧ c.irqs.getLsbD (48 + cv) = true)
    ∧ (s.chip.rb rCANV_CTRL cv 0 7 = true → c.irqs.getLsbD (52 + cv) = true)
    ∧ SameBytes (fun n => recAddr cv ≤ n ∧ n < recAddr cv + 0x80) s.chip c
    ∧ c.rest = { s.chip.rest with mem := c.mem, cel := c.cel, canvs := c.canvs, unis := c.unis, err := c.err }
    ∧ Frame (rCANV_CNT.addr cv 0 :: rCANV_SIG.addr cv 0 :: rCANV_STAT.addr cv 0 :: logRegs 0x05) [48 + cv, 52 + cv, 209] s.chip c) ∧
  (∀ (s : State) (u : Fin 1024) (i : Fin 2) (l : List E131Src), l = mget [] s.chip.uniSrcs (s.chip.rf rUNI_W0 u 0 15 0) →
    Does s (exec (.e131SourceTimeout u i) s) fun c =>
    mget [] c.uniSrcs (s.chip.rf rUNI_W0 u 0 15 0) = l.eraseIdx i
    ∧ c.rest = { s.chip.rest with uniSrcs := if i < l.length then mset [] s.chip.uniSrcs (s.chip.rf rUNI_W0 u 0 15 0) (l.eraseIdx i) else s.chip.uniSrcs }
    ∧ Frame [] [] s.chip c)

/-- The oldest frame of parser p is taken and counted as received. One with a fault, a payload of another length than 24 bytes or a field
out of its range is counted
as badly formed; a well-formed one whose key is not loaded or whose tag does not match fails authentication: counted, reported with code 0x28 and
signalled. A SEQ not above the last one of its key is counted as a replay. One that passes the tag and whose SEQ is above the last one is accepted: LASTSEQ takes SEQ, one
closer than the gap to the last is counted as a burst, and of a cue that is enabled its template, with SEQ[7:0] in bits [15:8] and the argument word where
the frame carries one and the cue takes it, is at the end of the queue of each bank the cue's mask names and that has room; each
bank without room is counted, reported with code 0x29 and signalled, and a cue not enabled is only counted. -/
def Obligations.urgent_cues : Prop :=
  (∀ (s : State) (p : Fin 2) (f : RxFrame) (t : List RxFrame), s.chip.alive (macDom p) = true → (s.chip.mac p).dlcIn = f :: t →
    Does s (exec (.dlcFrame p) s) fun c => (c.mac p).dlcIn = t ∧ c.rd rURG_CNT p 0 = s.chip.rd rURG_CNT p 0 + 1) ∧
  (∀ (s : State) (p : Fin 2), (s.chip.mac p).dlcIn = [] → Does s (exec (.dlcFrame p) s) fun c => c.rest = s.chip.rest ∧ Frame [] [] s.chip c) ∧
  (∀ (s : State) (p : Fin 2) (f : RxFrame) (t : List RxFrame) (b : List Byte), s.chip.alive (macDom p) = true → (s.chip.mac p).dlcIn = f :: t →
    b = (parseHdr f.bytes).payload →
    f.flagged = true ∨ b.length ≠ 24 ∨ slice b 0 3 ≠ [0x44, 0x4C, 1] ∨ 2 ≤ (b.getD 3 0).toNat ∨ 2 ≤ (b.getD 8 0).toNat ∨ 32 ≤ (b.getD 9 0).toNat ∨ slice b 10 2 ≠ [0, 0] →
    Does s (exec (.dlcFrame p) s) fun c =>
    c.rest = { s.chip.rest with macs := mset ({} : Mac) s.chip.macs p { s.chip.mac p with dlcIn := t } }
    ∧ c.rd rURG_CNT p 0 = s.chip.rd rURG_CNT p 0 + 1 ∧ c.rd rURG_CNT p 3 = s.chip.rd rURG_CNT p 3 + 1
    ∧ Frame [rURG_CNT.addr p 0, rURG_CNT.addr p 3] [] s.chip c) ∧
  (∀ (s : State) (p : Fin 2) (f : RxFrame) (t : List RxFrame) (b : List Byte) (key : Option (List Byte)), s.chip.alive (macDom p) = true → (s.chip.mac p).dlcIn = f :: t →
    f.flagged = false → b = (parseHdr f.bytes).payload → b.length = 24 → slice b 0 3 = [0x44, 0x4C, 1] → (b.getD 3 0).toNat < 2 →
    (b.getD 8 0).toNat < 2 → (b.getD 9 0).toNat < 32 → slice b 10 2 = [0, 0] →
    key = (if (b.getD 8 0).toNat = 0 then (s.chip.urg p).key0 else (s.chip.urg p).key1) → (∀ k ∈ key, dlcTag k (parseHdr f.bytes).src b ≠ slice b 16 8) →
    Does s (exec (.dlcFrame p) s) fun c =>
    c.rest = { s.chip.rest with macs := mset ({} : Mac) s.chip.macs p { s.chip.mac p with dlcIn := t }, err := c.err }
    ∧ c.rd rURG_CNT p 0 = s.chip.rd rURG_CNT p 0 + 1 ∧ c.rd rURG_CNT p 1 = s.chip.rd rURG_CNT p 1 + 1
    ∧ Reports (2 + p) 0x28 s.chip c ∧ c.irqs.getLsbD (35 + 4 * p) = true
    ∧ Frame (rURG_CNT.addr p 0 :: rURG_CNT.addr p 1 :: logRegs (2 + p)) [35 + 4 * p, 209] s.chip c) ∧
  (∀ (s : State) (p : Fin 2) (f : RxFrame) (t : List RxFrame) (b key : List Byte) (kid : Nat), s.chip.alive (macDom p) = true →
    (s.chip.mac p).dlcIn = f :: t → f.flagged = false → b = (parseHdr f.bytes).payload → b.length = 24 → slice b 0 3 = [0x44, 0x4C, 1] →
    (b.getD 3 0).toNat < 2 → kid = (b.getD 8 0).toNat → kid < 2 → (b.getD 9 0).toNat < 32 → slice b 10 2 = [0, 0] →
    (if kid = 0 then (s.chip.urg p).key0 else (s.chip.urg p).key1) = some key → dlcTag key (parseHdr f.bytes).src b = slice b 16 8 →
    beNat (slice b 4 4) ≤ (s.chip.rd rURG_LASTSEQ p kid).toNat → Does s (exec (.dlcFrame p) s) fun c =>
    c.rest = { s.chip.rest with macs := mset ({} : Mac) s.chip.macs p { s.chip.mac p with dlcIn := t } }
    ∧ c.rd rURG_CNT p 0 = s.chip.rd rURG_CNT p 0 + 1 ∧ c.rd rURG_CNT p 2 = s.chip.rd rURG_CNT p 2 + 1
    ∧ Frame [rURG_CNT.addr p 0, rURG_CNT.addr p 2] [] s.chip c) ∧
  (∀ (s : State) (p : Fin 2) (f : RxFrame) (t : List RxFrame) (b key : List Byte) (kid seq q full : Nat) (ws : List Word), s.chip.alive (macDom p) = true →
    (s.chip.mac p).dlcIn = f :: t → f.flagged = false → b = (parseHdr f.bytes).payload → b.length = 24 → slice b 0 3 = [0x44, 0x4C, 1] →
    (b.getD 3 0).toNat < 2 → kid = (b.getD 8 0).toNat → kid < 2 → q = (b.getD 9 0).toNat → q < 32 → slice b 10 2 = [0, 0] →
    (if kid = 0 then (s.chip.urg p).key0 else (s.chip.urg p).key1) = some key → dlcTag key (parseHdr f.bytes).src b = slice b 16 8 →
    seq = beNat (slice b 4 4) → (s.chip.rd rURG_LASTSEQ p kid).toNat < seq →
    ws = (if (b.getD 3 0).toNat = 1 ∧ s.chip.rb rCUE_MHI p q 30 = true
      then [setFld (setFld (s.chip.rd rCUE_TPL p q) 15 8 seq) 3 2 1, BitVec.ofNat 32 (beNat (slice b 12 4))]
      else [setFld (setFld (s.chip.rd rCUE_TPL p q) 15 8 seq) 3 2 0]) →
    full = (if s.chip.rb rCUE_MHI p q 31 = true
      then ((List.range 6).filter fun k => decide (s.chip.cueMask p q k ≠ 0) && decide (16 < (s.chip.urgQueue p k).length + ws.length)).length else 0) →
    Does s (exec (.dlcFrame p) s) fun c =>
    c.rd rURG_LASTSEQ p kid = BitVec.ofNat 32 seq ∧ (c.urg p).lastAccept = some s.chip.time.now
    ∧ c.rd rURG_CNT p 0 = s.chip.rd rURG_CNT p 0 + 1
    ∧ c.rd rURG_CNT p 6 = s.chip.rd rURG_CNT p 6
        + (if (s.chip.urg p).lastAccept.any (fun t => decide (s.chip.time.now < t + s.chip.rf rURG_GAP p 0 15 0)) = true then 1 else 0)
    ∧ c.rd rURG_CNT p 4 = s.chip.rd rURG_CNT p 4 + (if s.chip.rb rCUE_MHI p q 31 = true then 0 else 1)
    ∧ c.rd rURG_CNT p 5 = s.chip.rd rURG_CNT p 5 + BitVec.ofNat 32 full
    ∧ (∀ k : Fin 6, c.urgQueue p k = s.chip.urgQueue p k
        ++ (if s.chip.rb rCUE_MHI p q 31 = false ∨ s.chip.cueMask p q k = 0 ∨ 16 < (s.chip.urgQueue p k).length + ws.length then [] else
          ws.mapIdx fun i w => { mask := s.chip.cueMask p q k, word := w, words := if i = 0 then ws.length else 0, ts := f.ts, left := s.chip.cueMask p q k }))
    ∧ Logs (2 + p) (List.replicate full 0x29) s.chip c ∧ (full ≠ 0 → c.irqs.getLsbD (35 + 4 * p) = true)
    ∧ c.rest = { s.chip.rest with macs := mset ({} : Mac) s.chip.macs p { s.chip.mac p with dlcIn := t }, urgs := c.urgs, urgQ := c.urgQ, err := c.err }
    ∧ Frame (rURG_CNT.addr p 0 :: rURG_CNT.addr p 4 :: rURG_CNT.addr p 5 :: rURG_CNT.addr p 6 :: rURG_LASTSEQ.addr p kid
        :: (if full = 0 then [] else logRegs (2 + p))) (if full = 0 then [] else [35 + 4 * p, 209]) s.chip c)

/-- EN written 1 with neither WARM nor FILL_DONE leaves the controller waiting for its fill; with one of them it serves. The fill
makes every word a clean zero, sets FILL_DONE and starts service; memory outside the Cellar stands. While the controller is
awake and serves: a permitted read of a clean word answers it and changes nothing; a word write a region permits stores a
clean codeword at its address alone; a compare-and-swap answers the word found and stores the new one where it was the
expected one. In any power state and for any address and length, a read or compare-and-swap of a word that is not poisoned
answers its data, corrected, and a write the regions permit stores its bytes, where the words it holds in part are not poisoned. A
poisoned word read, compared or written in part, a refused region and a controller
that does not serve end in an error that changes no memory and that a processor finds as interrupt 1; so does an address outside the Cellar. A refused write is counted and reported with
code 0x73 once. The oldest write-back stores its word, clean or poisoned. -/
def Obligations.cellar_accesses : Prop :=
  (∀ (s : State) (a : Access) (v : Word), s.chip.takes a rCEL_CTRL 0 0 (v ||| 0x1) → Does s (exec (.cellarEnable a v) s) fun c =>
    c.rest = { s.chip.rest with cel := { s.chip.cel with serving := s.chip.cel.serving || s.chip.rb rCEL_STATUS 0 0 1 || s.chip.rb rCEL_STATUS 0 0 2 } }
    ∧ c.rd rCEL_CTRL = rCEL_CTRL.merge (s.chip.rd rCEL_CTRL) (v ||| 0x1) ∧ c.rb rCEL_CTRL 0 0 0 = true ∧ Frame [rCEL_CTRL.addr 0 0] [] s.chip c) ∧
  (∀ s : State, s.chip.alive .cel = true → s.chip.rb rCEL_CTRL 0 0 0 = true → s.chip.cel.serving = false → Does s (exec .cellarFillDone s) fun c =>
    (∀ n, celBase ≤ n → n < 0xA0000000 → c.byte n = 0) ∧ SameBytes (fun n => celBase ≤ n ∧ n < 0xA0000000) s.chip c
    ∧ c.cel = { s.chip.cel with ecc := [], wb := [], serving := true } ∧ c.rd rCEL_STATUS = setBit (s.chip.rd rCEL_STATUS) 2 true
    ∧ c.rest = { s.chip.rest with cel := c.cel, mem := c.mem } ∧ Frame [rCEL_STATUS.addr 0 0] [] s.chip c) ∧
  (∀ s : State, s.chip.rb rCEL_CTRL 0 0 0 = false ∨ s.chip.cel.serving = true → Does s (exec .cellarFillDone s) fun c =>
    c.rest = s.chip.rest ∧ Frame [] [] s.chip c) ∧
  (∀ (s : State) (a : Access) (addr : Addr), s.chip.mayAccess a = true → celBase ≤ addr.toNat → addr.toNat < 0x9FC00000 → addr.toNat % 4 = 0 → s.chip.celUp = true → s.chip.pstate = 0 →
    s.chip.cel.wb = [] → s.chip.ecc addr.toNat = 0 → Does s (exec (.cellarRead a addr) s) fun c =>
    c.rsp = { val := s.chip.word addr.toNat, err := false } ∧ c.rest = s.chip.rest ∧ Frame [] [] s.chip c) ∧
  (∀ (s : State) (a : Access) (addr : Addr) (w : Word), s.chip.mayAccess a = true → celBase ≤ addr.toNat → addr.toNat + 4 ≤ 0x9FC00000 → addr.toNat % 4 = 0 → s.chip.celUp = true →
    s.chip.pstate = 0 → s.chip.cel.wb = [] → s.chip.celMayWrite a.master (s.chip.worldS a) addr.toNat = true → s.chip.rb rECC_INJ 0 0 31 = false →
    Does s (exec (.cellarWrite a addr (wordBytes w)) s) fun c =>
    c.rsp = { val := 0, err := false } ∧ c.word addr.toNat = w ∧ c.ecc addr.toNat = 0
    ∧ SameBytes (fun n => addr.toNat ≤ n ∧ n < addr.toNat + 4) s.chip c
    ∧ c.rest = { s.chip.rest with mem := c.mem, cel := { s.chip.cel with ecc := c.cel.ecc } } ∧ Frame [] [] s.chip c) ∧
  (∀ (s : State) (a : Access) (addr : Addr) (expect new : Word), s.chip.mayAccess a = true → celBase ≤ addr.toNat → addr.toNat + 4 ≤ 0x9FC00000 → addr.toNat % 4 = 0 →
    s.chip.celUp = true → s.chip.pstate = 0 → s.chip.cel.wb = [] → s.chip.celMayWrite a.master (s.chip.worldS a) addr.toNat = true →
    s.chip.ecc addr.toNat = 0 → s.chip.rb rECC_INJ 0 0 31 = false → Does s (exec (.cellarCas a addr expect new) s) fun c =>
    c.rsp = { val := s.chip.word addr.toNat, err := false } ∧ c.word addr.toNat = (if s.chip.word addr.toNat = expect then new else s.chip.word addr.toNat)
    ∧ SameBytes (fun n => addr.toNat ≤ n ∧ n < addr.toNat + 4) s.chip c ∧ c.rest = { s.chip.rest with mem := c.mem, cel := { s.chip.cel with ecc := c.cel.ecc } }
    ∧ Frame [] [] s.chip c) ∧
  (∀ (s : State) (w : WriteBack) (t : List WriteBack), s.chip.alive .cel = true → s.chip.cel.wb = w :: t → Does s (exec .cellarWriteback s) fun c =>
    c.cel.wb = t ∧ c.word w.addr = w.data ∧ c.ecc w.addr = (if w.poison = true then 0xFF else 0)
    ∧ SameBytes (fun n => w.addr ≤ n ∧ n < w.addr + 4) s.chip c ∧ c.rest = { s.chip.rest with mem := c.mem, cel := { s.chip.cel with wb := t, ecc := c.cel.ecc } }
    ∧ Frame [] [] s.chip c) ∧
  (∀ s : State, s.chip.cel.wb = [] → Does s (exec .cellarWriteback s) fun c => c.rest = s.chip.rest ∧ Frame [] [] s.chip c) ∧
  (∀ (s : State) (a : Access) (addr : Addr), s.chip.mayAccess a = true → celBase ≤ addr.toNat → addr.toNat < 0xA0000000 → Does s (exec (.cellarRead a addr) s) fun c =>
    c.mem = s.chip.mem
    ∧ (s.chip.celUp = true → celMayRead a.master (s.chip.worldS a) (addr.toNat / 4 * 4) = true → c.pstate = 0
        ∧ (s.chip.celView (addr.toNat / 4 * 4) ≠ none → c.rsp = { val := (s.chip.celView (addr.toNat / 4 * 4)).getD 0, err := false })
        ∧ (s.chip.celView (addr.toNat / 4 * 4) = none → c.rsp = { val := 0, err := true } ∧ (sysProc a.master = true → c.irqs.getLsbD 1 = true)))
    ∧ (s.chip.celUp = false ∨ celMayRead a.master (s.chip.worldS a) (addr.toNat / 4 * 4) = false →
        c.rsp = { val := 0, err := true } ∧ (sysProc a.master = true → c.irqs.getLsbD 1 = true))
    ∧ c.rest = { s.chip.rest with cel := c.cel, err := c.err } ∧ Frame celRegs celIrqs s.chip c) ∧
  (∀ (s : State) (a : Access) (addr : Addr) (l : List Byte), s.chip.mayAccess a = true → celBase ≤ addr.toNat → addr.toNat < 0xA0000000 →
    addr.toNat + l.length ≤ 0xA0000000 → s.chip.celUp = true →
    (∀ k < l.length, s.chip.celMayWrite a.master (s.chip.worldS a) (addr.toNat + k) = true) →
    addr.toNat % 4 = 0 ∨ s.chip.celView (addr.toNat / 4 * 4) ≠ none →
    ((addr.toNat + l.length) % 4 = 0 ∨ s.chip.celView ((addr.toNat + l.length) / 4 * 4) ≠ none) → Does s (exec (.cellarWrite a addr l) s) fun c =>
    c.rsp = { val := 0, err := false } ∧ c.bytes addr.toNat l.length = l
    ∧ SameBytes (fun n => addr.toNat / 4 * 4 ≤ n ∧ n < (addr.toNat + l.length + 3) / 4 * 4) s.chip c
    ∧ c.rest = { s.chip.rest with mem := c.mem, cel := c.cel, err := c.err }
    ∧ Frame (rCEL_CNT.addr 6 0 :: rECC_INJ.addr 0 0 :: celRegs) celIrqs s.chip c) ∧
  (∀ (s : State) (a : Access) (addr : Addr) (l : List Byte), s.chip.mayAccess a = true → celBase ≤ addr.toNat → addr.toNat < 0xA0000000 →
    addr.toNat + l.length ≤ 0xA0000000 → l ≠ [] → s.chip.celUp = true →
    (∀ k < l.length, s.chip.celMayWrite a.master (s.chip.worldS a) (addr.toNat + k) = false) → Does s (exec (.cellarWrite a addr l) s) fun c =>
    c.rsp = { val := 0, err := true } ∧ c.mem = s.chip.mem ∧ c.rd rCEL_CNT 5 = s.chip.rd rCEL_CNT 5 + 1
    ∧ (a.master ≠ .raster → Reports 0x06 0x73 s.chip c) ∧ c.irqs.getLsbD 59 = true ∧ (sysProc a.master = true → c.irqs.getLsbD 1 = true)
    ∧ c.rest = { s.chip.rest with cel := c.cel, err := c.err } ∧ Frame celRegs celIrqs s.chip c) ∧
  (∀ (s : State) (a : Access) (addr : Addr) (l : List Byte), s.chip.mayAccess a = true → celBase ≤ addr.toNat → addr.toNat < 0xA0000000 →
    l ≠ [] → l.length < 4 → addr.toNat % 4 + l.length ≤ 4 → s.chip.celUp = true →
    s.chip.celMayWrite a.master (s.chip.worldS a) (addr.toNat / 4 * 4) = true → s.chip.celView (addr.toNat / 4 * 4) = none → Does s (exec (.cellarWrite a addr l) s) fun c =>
    c.rsp = { val := 0, err := true } ∧ c.mem = s.chip.mem ∧ (sysProc a.master = true → c.irqs.getLsbD 1 = true)
    ∧ c.rest = { s.chip.rest with cel := c.cel, err := c.err } ∧ Frame celRegs celIrqs s.chip c) ∧
  (∀ (s : State) (a : Access) (addr : Addr) (l : List Byte), s.chip.mayAccess a = true → celBase ≤ addr.toNat → addr.toNat < 0xA0000000 →
    addr.toNat + l.length ≤ 0xA0000000 → s.chip.celUp = false → Does s (exec (.cellarWrite a addr l) s) fun c =>
    c.rsp = { val := 0, err := true } ∧ c.irqs.getLsbD 1 = true ∧ c.rest = { s.chip.rest with err := c.err } ∧ Frame celRegs celIrqs s.chip c) ∧
  (∀ (s : State) (a : Access) (addr : Addr) (expect new : Word), s.chip.mayAccess a = true → celBase ≤ addr.toNat → addr.toNat < 0xA0000000 →
    s.chip.celUp = true → s.chip.celMayWrite a.master (s.chip.worldS a) (addr.toNat / 4 * 4) = true →
    Does s (exec (.cellarCas a addr expect new) s) fun c =>
    (s.chip.celView (addr.toNat / 4 * 4) ≠ none → c.rsp = { val := (s.chip.celView (addr.toNat / 4 * 4)).getD 0, err := false })
    ∧ (s.chip.celView (addr.toNat / 4 * 4) = some expect → c.word (addr.toNat / 4 * 4) = new)
    ∧ (s.chip.celView (addr.toNat / 4 * 4) ≠ some expect → c.mem = s.chip.mem)
    ∧ (s.chip.celView (addr.toNat / 4 * 4) = none → c.rsp = { val := 0, err := true } ∧ c.mem = s.chip.mem ∧ (sysProc a.master = true → c.irqs.getLsbD 1 = true))
    ∧ c.pstate = 0 ∧ SameBytes (fun n => addr.toNat / 4 * 4 ≤ n ∧ n < addr.toNat / 4 * 4 + 4) s.chip c
    ∧ c.rest = { s.chip.rest with mem := c.mem, cel := c.cel, err := c.err }
    ∧ Frame (rCEL_CNT.addr 6 0 :: rECC_INJ.addr 0 0 :: celRegs) celIrqs s.chip c) ∧
  (∀ (s : State) (a : Access) (addr : Addr) (expect new : Word), s.chip.mayAccess a = true → celBase ≤ addr.toNat → addr.toNat < 0xA0000000 →
    s.chip.celUp = false ∨ s.chip.celMayWrite a.master (s.chip.worldS a) (addr.toNat / 4 * 4) = false →
    Does s (exec (.cellarCas a addr expect new) s) fun c =>
    c.rsp = { val := 0, err := true } ∧ c.mem = s.chip.mem ∧ (sysProc a.master = true → c.irqs.getLsbD 1 = true)
    ∧ (s.chip.celUp = true → c.rd rCEL_CNT 5 = s.chip.rd rCEL_CNT 5 + 1 ∧ Reports 0x06 0x73 s.chip c ∧ c.irqs.getLsbD 59 = true)
    ∧ c.rest = { s.chip.rest with cel := c.cel, err := c.err } ∧ Frame celRegs celIrqs s.chip c) ∧
  (∀ (s : State) (a : Access) (addr : Addr) (l : List Byte) (expect new : Word), s.chip.mayAccess a = true → areaOf addr.toNat ≠ Area.cellar →
    Does s (exec (.cellarRead a addr) s) (fun c => c.rsp = { val := 0, err := true } ∧ c.irqs.getLsbD 1 = true ∧ c.rest = { s.chip.rest with err := c.err } ∧ Frame celRegs celIrqs s.chip c)
    ∧ Does s (exec (.cellarWrite a addr l) s) (fun c => c.rsp = { val := 0, err := true } ∧ c.irqs.getLsbD 1 = true ∧ c.rest = { s.chip.rest with err := c.err } ∧ Frame celRegs celIrqs s.chip c)
    ∧ Does s (exec (.cellarCas a addr expect new) s) fun c => c.rsp = { val := 0, err := true } ∧ c.irqs.getLsbD 1 = true ∧ c.rest = { s.chip.rest with err := c.err } ∧ Frame celRegs celIrqs s.chip c)

/-- A scrub burst advances its position, and at the end of a pass counts the pass and raises interrupt 60; each of its sixteen words
that is wrong is queued to be written back, corrected or poisoned, and no byte changes yet; a burst still unissued
shows the scrubber behind, with code 0x74 and interrupt 61, and stays due; with SCRUB 0 nothing happens. The access's write of CEL_ECC_INJ stores it. A
tolerance message, which carries the tolerance of the moment and no other value, shows in CEL_TOL and counts as current: all ones where no port transmits, and never above the time any
transmitting port has left; its timeout makes the tolerance 0. A controller with nothing to do
goes to the deepest state up to MAX whose exit latency plus the guard is below the tolerance, and stays where there is none or there is something to do. A
wake takes it back to ACTIVE and adds the time spent to that state's residence: a read, the posted writes or a scrub burst, which
stays due, in any state, a refresh in the first, the tolerance where it does not suffice; else nothing changes. -/
def Obligations.cellar_scrub_and_power : Prop :=
  (∀ s : State, s.chip.celUp = true → s.chip.rb rCEL_CTRL 0 0 1 = true → s.chip.pstate = 0 → s.chip.cel.ecc = [] → s.chip.cel.wb = [] →
    Does s (exec (.scrubBurst false) s) fun c =>
    c.rest = { s.chip.rest with cel := { s.chip.cel with scrubDue := false } } ∧ c.rd rCEL_SCRUB_POS = BitVec.ofNat 32 ((s.chip.rf rCEL_SCRUB_POS 0 0 22 0 + 1) % 2 ^ 23)
    ∧ (s.chip.rf rCEL_SCRUB_POS 0 0 22 0 + 1 = 2 ^ 23 → c.rd rCEL_CNT 3 = s.chip.rd rCEL_CNT 3 + 1 ∧ c.irqs.getLsbD 60 = true)
    ∧ (s.chip.rf rCEL_SCRUB_POS 0 0 22 0 + 1 < 2 ^ 23 → Frame [rCEL_SCRUB_POS.addr 0 0] [] s.chip c)
    ∧ Frame [rCEL_SCRUB_POS.addr 0 0, rCEL_CNT.addr 3 0] [60] s.chip c) ∧
  (∀ (s : State) (a : Nat), s.chip.celUp = true → s.chip.rb rCEL_CTRL 0 0 1 = true → s.chip.cel.wb = [] → a = celBase + 64 * s.chip.rf rCEL_SCRUB_POS 0 0 22 0 →
    Does s (exec (.scrubBurst false) s) fun c =>
    c.rd rCEL_SCRUB_POS = BitVec.ofNat 32 ((s.chip.rf rCEL_SCRUB_POS 0 0 22 0 + 1) % 2 ^ 23) ∧ c.cel.scrubDue = false ∧ c.pstate = 0
    ∧ c.cel.wb = (List.range 16).filterMap (fun i => match cwDecode (s.chip.word (a + 4 * i)) (s.chip.ecc (a + 4 * i)) with
        | .corrected d p => some { addr := a + 4 * i, data := d, poison := p }
        | .double => some { addr := a + 4 * i, data := s.chip.word (a + 4 * i), poison := true }
        | _ => none)
    ∧ c.rest = { s.chip.rest with cel := c.cel, err := c.err } ∧ c.cel.ecc = s.chip.cel.ecc
    ∧ Frame (rCEL_SCRUB_POS.addr 0 0 :: rCEL_CNT.addr 3 0 :: celRegs) (60 :: celIrqs) s.chip c) ∧
  (∀ s : State, s.chip.celUp = true → s.chip.rb rCEL_CTRL 0 0 1 = true → Does s (exec (.scrubBurst true) s) fun c =>
    c.rest = { s.chip.rest with err := c.err, cel := { s.chip.cel with scrubDue := true } } ∧ c.rd rCEL_STATUS = setBit (s.chip.rd rCEL_STATUS) 5 true ∧ Reports 0x06 0x74 s.chip c
    ∧ c.irqs.getLsbD 61 = true ∧ Frame (rCEL_STATUS.addr 0 0 :: logRegs 0x06) [61, 209] s.chip c) ∧
  (∀ (s : State) (behind : Bool), s.chip.celUp = false ∨ s.chip.rb rCEL_CTRL 0 0 1 = false → Does s (exec (.scrubBurst behind) s) fun c =>
    c.rest = s.chip.rest ∧ Frame [] [] s.chip c) ∧
  (∀ (s : State) (a : Access) (v : Word), s.chip.takes a rECC_INJ 0 0 v → Does s (exec (.eccInjWrite a v) s) fun c =>
    c.rest = s.chip.rest ∧ c.rd rECC_INJ = rECC_INJ.merge (s.chip.rd rECC_INJ) v ∧ c.rf rECC_INJ 0 0 7 0 = fld v 7 0 ∧ c.rb rECC_INJ 0 0 31 = bit v 31
    ∧ Frame [rECC_INJ.addr 0 0] [] s.chip c) ∧
  (∀ s : State, s.chip.up .pix = true → s.chip.alive .cel = true → Does s (exec (.tolMessage s.chip.tolNow) s) fun c =>
    c.rest = { s.chip.rest with cel := { s.chip.cel with tolStale := false } } ∧ c.rd rCEL_TOL = s.chip.tolNow
    ∧ ((∀ p < 48, s.chip.inTransmission p = false) → c.tol = 0xFFFFFFFF) ∧ (∀ p < 48, s.chip.inTransmission p = true → c.tol ≤ s.chip.tDry p) ∧ Frame [rCEL_TOL.addr 0 0] [] s.chip c) ∧
  (∀ (s : State) (tol : Word), tol ≠ s.chip.tolNow → Does s (exec (.tolMessage tol) s) fun c => c.rest = s.chip.rest ∧ Frame [] [] s.chip c) ∧
  (∀ s : State, s.chip.alive .cel = true → Does s (exec .tolTimeout s) fun c =>
    c.rest = { s.chip.rest with cel := { s.chip.cel with tolStale := true } } ∧ c.tol = 0 ∧ Frame [] [] s.chip c) ∧
  (∀ (s : State) (d : Nat), s.chip.celUp = true → s.chip.rb rCEL_CTRL 0 0 2 = true → s.chip.pstate = 0 → s.chip.cel.posted < 32768 → s.chip.cel.wb = [] →
    s.chip.cel.scrubDue = false ∨ s.chip.rb rCEL_CTRL 0 0 1 = false →
    1 ≤ d → d ≤ s.chip.rf rCEL_PWR 0 0 5 4 → celExit d + s.chip.celGuard < s.chip.tol →
    (∀ e : Fin 4, d < e.val → e.val ≤ s.chip.rf rCEL_PWR 0 0 5 4 → s.chip.tol ≤ celExit e + s.chip.celGuard) → Does s (exec .cellarPowerEntry s) fun c =>
    c.pstate = d ∧ c.rest = { s.chip.rest with cel := { s.chip.cel with since := s.chip.time.now } } ∧ Frame [rCEL_STATUS.addr 0 0] [] s.chip c) ∧
  (∀ s : State, s.chip.celUp = false ∨ s.chip.rb rCEL_CTRL 0 0 2 = false ∨ s.chip.pstate ≠ 0 ∨ 32768 ≤ s.chip.cel.posted ∨ s.chip.cel.wb ≠ []
      ∨ (s.chip.cel.scrubDue = true ∧ s.chip.rb rCEL_CTRL 0 0 1 = true)
      ∨ (∀ e : Fin 4, 1 ≤ e.val → e.val ≤ s.chip.rf rCEL_PWR 0 0 5 4 → s.chip.tol ≤ celExit e + s.chip.celGuard) →
    Does s (exec .cellarPowerEntry s) fun c => c.rest = s.chip.rest ∧ Frame [] [] s.chip c) ∧
  (∀ (s : State) (why : WakeCause), s.chip.alive .cel = true → s.chip.pstate ≠ 0 →
    why = .read ∨ why = .posted ∨ why = .scrub ∨ (why = .refresh ∧ s.chip.pstate = 1) ∨ (why = .tol ∧ s.chip.tol ≤ celExit s.chip.pstate + s.chip.celGuard) →
    Does s (exec (.cellarWake why) s) fun c =>
    c.pstate = 0 ∧ c.rest = { s.chip.rest with cel := { s.chip.cel with posted := 0, scrubDue := s.chip.cel.scrubDue || decide (why = .scrub) } }
    ∧ c.rd rCEL_RES (s.chip.pstate - 1) = BitVec.ofNat 32 (min 0xFFFFFFFF ((s.chip.rd rCEL_RES (s.chip.pstate - 1)).toNat + (s.chip.time.now - s.chip.cel.since) / 1000))
    ∧ Frame [rCEL_STATUS.addr 0 0, rCEL_RES.addr (s.chip.pstate - 1) 0] [] s.chip c) ∧
  (∀ (s : State) (why : WakeCause), why ≠ .scrub →
    s.chip.pstate = 0 ∨ (why = .refresh ∧ s.chip.pstate ≠ 1) ∨ (why = .tol ∧ celExit s.chip.pstate + s.chip.celGuard < s.chip.tol) →
    Does s (exec (.cellarWake why) s) fun c => c.rest = s.chip.rest ∧ Frame [] [] s.chip c) ∧
  (∀ s : State, s.chip.alive .cel = true → s.chip.pstate = 0 → Does s (exec (.cellarWake .scrub) s) fun c =>
    c.rest = { s.chip.rest with cel := { s.chip.cel with scrubDue := true } } ∧ Frame [] [] s.chip c)

/-- A frame start brings the pixel tables and the drive set last built into use and takes the oldest record of its queue. With the
engine disabled nothing else changes.
On a regular start with no hold the frame begins: its start, its index on the grid, its guard open, and a fetch for every LANE port
with a VALID record; the Press is told where the engine has just been enabled. On an irregular one, one
that carries SWITCH or one without a record, the engine goes to hold from that start: HOLD and GRID_JUMP in RAS_STATUS, code 0x87, interrupt 87, HOLD cells due on
the ports that transmit. A start while a hold is in force that the hold does not end is only noted; one that ends it applies a
pending GO, which advances RAS_EPOCH, and begins the frame with interrupt 83, or holds on for another commit point where that was a
mode commit. -/
def Obligations.raster_frame_start : Prop :=
  (∀ (s : State) (x : Contested), s.chip.up .pix = true → Does s (exec (.frameStart x) s) fun c =>
    c.pix = { s.chip.pix with modA := s.chip.pix.modS, modS := s.chip.pix.modA, derA := s.chip.pix.derS, derS := s.chip.pix.derA, fbA := s.chip.pix.fbS, fbS := s.chip.pix.fbA }
    ∧ (∀ n : Fin 8192, c.node n = { s.chip.node n with wordA := (s.chip.node n).word })
    ∧ (∀ p : Fin 48, c.drvPort p = { s.chip.drvPort p with diagA := (s.chip.drvPort p).diag })
    ∧ c.drv.pulseA = s.chip.drv.pulse ∧ c.time = { s.chip.time with pixQ := s.chip.time.pixQ.tail }
    ∧ (s.chip.rb rRAS_CTRL 0 0 0 = false → c.rest = { s.chip.rest with time := c.time, pix := c.pix, drv := c.drv } ∧ Frame [] [] s.chip c)) ∧
  (∀ (s : State) (x : Contested) (ts : Nat) (q : List (Nat × Bool)), s.chip.up .pix = true → s.chip.rb rRAS_CTRL 0 0 0 = true →
    s.chip.time.pixQ = (ts, false) :: q → s.chip.ras.hold = none → s.chip.irregular ts = false → Does s (exec (.frameStart x) s) fun c =>
    c.ras.start = ts ∧ c.ras.k = (gridK s.chip.time.grid ts % 2 ^ 32).toNat ∧ c.ras.inFrame = true ∧ c.ras.guarded = false ∧ c.ras.hold = none
    ∧ c.ras.lastStart = some ts ∧ c.prs.rasEv = s.chip.prs.rasEv ++ (if s.chip.ras.resume = true then [.resume] else [])
    ∧ (s.chip.celCalm → s.chip.que.cut = [] → c.ras.fetch.map (·.1) = (List.range 48).filter fun p =>
        bit (s.chip.word (s.chip.mapBase + 16 * p)) 31 && s.chip.isLane p && !s.chip.ringOdd p && decide (fld (s.chip.word (s.chip.mapBase + 16 * p)) 1 0 ≤ 1))
    ∧ (s.chip.celCalm → s.chip.que.cut = [] → (∀ p < 48, bit (s.chip.word (s.chip.mapBase + 16 * p)) 31 = false) →
        c.rest = { s.chip.rest with time := c.time, pix := c.pix, drv := c.drv, ras := c.ras, ports := c.ports, prs := { s.chip.prs with rasEv := c.prs.rasEv } }
        ∧ Frame [rRAS_STATUS.addr 0 0] [] s.chip c)) ∧
  (∀ (s : State) (x : Contested) (ts : Nat) (sw : Bool) (q : List (Nat × Bool)), s.chip.up .pix = true → s.chip.rb rRAS_CTRL 0 0 0 = true →
    (s.chip.time.pixQ = (ts, sw) :: q ∧ (sw = true ∨ s.chip.irregular ts = true)) ∨ (s.chip.time.pixQ = [] ∧ q = [] ∧ ts = s.chip.time.now) →
    s.chip.ras.hold = none → Does s (exec (.frameStart x) s) fun c =>
    c.ras.hold = some { pc := ts, grid := false } ∧ c.ras.inFrame = false ∧ c.time.pixQ = q ∧ c.rb rRAS_STATUS 0 0 1 = true ∧ c.rb rRAS_STATUS 0 0 16 = true
    ∧ Reports 0x07 0x87 s.chip c ∧ c.irqs.getLsbD 87 = true ∧ c.prs.rasEv = s.chip.prs.rasEv ++ [.hold]
    ∧ (∀ p : Fin 48, (c.port p).window = false ∧ (s.chip.transmitting p = true → (c.port p).held = true ∧ (c.port p).urgent = (s.chip.port p).urgent ++ [s.chip.holdCell p]))
    ∧ c.rest = { s.chip.rest with time := c.time, pix := c.pix, drv := c.drv, ras := c.ras, ports := c.ports, err := c.err, prs := { s.chip.prs with rasEv := c.prs.rasEv } }
    ∧ Frame (rRAS_STATUS.addr 0 0 :: logRegs 0x07) [87, 209] s.chip c) ∧
  (∀ (s : State) (x : Contested) (ts : Nat) (sw : Bool) (q : List (Nat × Bool)) (h : HoldSt), s.chip.up .pix = true → s.chip.rb rRAS_CTRL 0 0 0 = true →
    s.chip.time.pixQ = (ts, sw) :: q → s.chip.ras.hold = some h →
    (s.chip.setRas { s.chip.ras with switched := s.chip.ras.switched || sw }).mayResume ts h = false → Does s (exec (.frameStart x) s) fun c =>
    c.rest = { s.chip.rest with time := c.time, pix := c.pix, drv := c.drv, ras := { s.chip.ras with lastStart := some ts, switched := s.chip.ras.switched || sw, start := ts } }
    ∧ Frame [] [] s.chip c) ∧
  (∀ (s : State) (x : Contested) (ts : Nat) (sw : Bool) (q : List (Nat × Bool)) (h : HoldSt), s.chip.up .pix = true → s.chip.rb rRAS_CTRL 0 0 0 = true →
    s.chip.time.pixQ = (ts, sw) :: q → s.chip.ras.hold = some h →
    (s.chip.setRas { s.chip.ras with switched := s.chip.ras.switched || sw }).mayResume ts h = true → Does s (exec (.frameStart x) s) fun c =>
    (s.chip.rb rRAS_COMMIT 0 0 31 = false ∨ s.chip.modeCommit s.chip.snapshot = false →
        c.ras.hold = none ∧ c.ras.inFrame = true ∧ c.ras.start = ts ∧ c.rb rRAS_STATUS 0 0 1 = false ∧ c.irqs.getLsbD 83 = true
        ∧ c.prs.rasEv = s.chip.prs.rasEv ++ [.resume])
    ∧ (s.chip.rb rRAS_COMMIT 0 0 31 = true → c.rd rSH_SEL 0 1 = s.chip.rd rSH_SEL ∧ c.rd rSH_BRIGHT 0 1 = s.chip.rd rSH_BRIGHT
        ∧ c.rd rSH_MODE 0 1 = s.chip.rd rSH_MODE ∧ c.rb rRAS_COMMIT 0 0 31 = false ∧ c.rd rRAS_EPOCH = s.chip.rd rRAS_EPOCH + 1)
    ∧ (s.chip.rb rRAS_COMMIT 0 0 31 = true → s.chip.modeCommit s.chip.snapshot = true →
        c.ras.hold = some { pc := ts, grid := s.chip.rb rRAS_COMMIT 0 0 29, rearm := true } ∧ c.ras.start = ts ∧ c.ras.inFrame = s.chip.ras.inFrame)
    ∧ (s.chip.rb rRAS_COMMIT 0 0 31 = false → c.rd rRAS_EPOCH = s.chip.rd rRAS_EPOCH)
    ∧ (s.chip.rb rRAS_COMMIT 0 0 31 = false → s.chip.celCalm → s.chip.que.cut = [] → (∀ p < 48, bit (s.chip.word (s.chip.mapBase + 16 * p)) 31 = false) →
        Reports 0x07 0x82 s.chip c ∧ Frame (rRAS_STATUS.addr 0 0 :: logRegs 0x07) [83, 209] s.chip c))

/-- A write of EN = 1 starts the engine afresh; a write of EN = 0 stops it: no frame, no snapshot, no hold, HOLD cells due on the
ports that transmit, the Press told; a write that keeps EN only stores. GO written outside the
guard stays pending; inside it it is late and counted, with LATE, code 0x80 and interrupt 81 where RAS_CTRL bit 1 asks; written again it changes nothing more; with the engine off it is applied at once: the active registers take the
shadow's values, TW and LEAD within their limits, GO clears and RAS_EPOCH advances. CANCEL before the snapshot clears GO, after it GO stays. The guard closes RAS_GUARD, at least 1,000 ns, before P(k): not before that moment, and then it
snapshots the shadow registers where GO is 1 and sets ARMED. A commit point is one fire of a comparator of destination 2, and without one nothing happens. It ends the frame: the
signatures of the ports that sent are written, PRESENT is due on the ports that transmit, the Press gets the commit event, and a
snapshot becomes active; a mode commit holds the lanes from it with interrupt 82. With the engine off or outside a frame nothing changes. -/
def Obligations.raster_commits : Prop :=
  (∀ (s : State) (a : Access) (v : Word), s.chip.takes a rRAS_CTRL 0 0 v → bit v 0 = true → s.chip.rb rRAS_CTRL 0 0 0 = false →
    Does s (exec (.rasterEnable a v) s) fun c =>
    c.ras = { s.chip.ras with lastStart := none, inFrame := false, guarded := false, resume := true, snap := none, hold := none, seqSeen := [], frz := 0, lastSigs := [] }
    ∧ c.rd rRAS_CTRL = rRAS_CTRL.merge (s.chip.rd rRAS_CTRL) v ∧ c.rb rRAS_STATUS 0 0 0 = true ∧ c.rd rCMP_NS 1 = s.chip.rd rSH_TW 0 1
    ∧ ((s.chip.cmp 1).armed = false → c.rest = { s.chip.rest with ras := c.ras }
        ∧ Frame [rRAS_CTRL.addr 0 0, rRAS_STATUS.addr 0 0, rCMP_NS.addr 1 0] [] s.chip c)) ∧
  (∀ (s : State) (a : Access) (v : Word), s.chip.takes a rRAS_CTRL 0 0 v → bit v 0 = false → s.chip.rb rRAS_CTRL 0 0 0 = true →
    Does s (exec (.rasterEnable a v) s) fun c =>
    c.rd rRAS_CTRL = rRAS_CTRL.merge (s.chip.rd rRAS_CTRL) v ∧ c.ras = { s.chip.ras with nodeCrc := [], inFrame := false, snap := none, hold := none, fetch := [] }
    ∧ c.prs.rasEv = s.chip.prs.rasEv ++ [.hold] ∧ c.rb rRAS_STATUS 0 0 0 = false ∧ c.rb rRAS_STATUS 0 0 1 = false ∧ c.rb rRAS_STATUS 0 0 3 = false
    ∧ (∀ p : Fin 48, (c.port p).window = false ∧ (s.chip.transmitting p = true → (c.port p).held = true ∧ (c.port p).urgent = (s.chip.port p).urgent ++ [s.chip.holdCell p]))
    ∧ c.rest = { s.chip.rest with ras := c.ras, ports := c.ports, prs := { s.chip.prs with rasEv := c.prs.rasEv } }
    ∧ Frame [rRAS_CTRL.addr 0 0, rRAS_STATUS.addr 0 0] [] s.chip c) ∧
  (∀ (s : State) (a : Access) (v : Word), s.chip.takes a rRAS_CTRL 0 0 v → bit v 0 = s.chip.rb rRAS_CTRL 0 0 0 →
    Does s (exec (.rasterEnable a v) s) fun c =>
    c.rest = s.chip.rest ∧ c.rd rRAS_CTRL = rRAS_CTRL.merge (s.chip.rd rRAS_CTRL) v ∧ Frame [rRAS_CTRL.addr 0 0] [] s.chip c) ∧
  (∀ (s : State) (a : Access) (v : Word) (late : Bool), s.chip.takes a rRAS_COMMIT 0 0 (v ||| 0x80000000) → s.chip.rb rRAS_COMMIT 0 0 31 = false →
    s.chip.rb rRAS_CTRL 0 0 0 = true → late = (s.chip.ras.hold.isNone && s.chip.ras.guarded) → Does s (exec (.rasGo a v) s) fun c =>
    c.rest = { s.chip.rest with err := c.err } ∧ c.rb rRAS_COMMIT 0 0 31 = !(bit v 28 && s.chip.ras.snap.isNone) ∧ c.rb rRAS_COMMIT 0 0 30 = bit v 30 ∧ c.rb rRAS_COMMIT 0 0 29 = bit v 29
    ∧ c.rd rRAS_CNT 0 = s.chip.rd rRAS_CNT 0 + (if late = true then 1 else 0)
    ∧ (late = true → s.chip.rb rRAS_CTRL 0 0 1 = true → c.rb rRAS_STATUS 0 0 4 = true ∧ Reports 0x07 0x80 s.chip c ∧ c.irqs.getLsbD 81 = true)
    ∧ (late = false ∨ s.chip.rb rRAS_CTRL 0 0 1 = false → Frame [rRAS_COMMIT.addr 0 0, rRAS_CNT.addr 0 0] [] s.chip c)
    ∧ Frame (rRAS_COMMIT.addr 0 0 :: rRAS_CNT.addr 0 0 :: rRAS_STATUS.addr 0 0 :: logRegs 0x07) [81, 209] s.chip c) ∧
  (∀ (s : State) (a : Access) (v : Word), s.chip.takes a rRAS_COMMIT 0 0 (v ||| 0x80000000) → s.chip.rb rRAS_COMMIT 0 0 31 = true →
    Does s (exec (.rasGo a v) s) fun c =>
    c.rest = s.chip.rest ∧ c.rb rRAS_COMMIT 0 0 31 = !(bit v 28 && s.chip.ras.snap.isNone) ∧ c.rb rRAS_COMMIT 0 0 30 = bit v 30 ∧ c.rb rRAS_COMMIT 0 0 29 = bit v 29
    ∧ Frame [rRAS_COMMIT.addr 0 0] [] s.chip c) ∧
  (∀ (s : State) (a : Access) (v : Word), s.chip.takes a rRAS_COMMIT 0 0 (v ||| 0x80000000) → s.chip.rb rRAS_COMMIT 0 0 31 = false →
    s.chip.rb rRAS_CTRL 0 0 0 = false → Does s (exec (.rasGo a v) s) fun c =>
    c.rd rSH_SEL 0 1 = s.chip.rd rSH_SEL ∧ c.rd rSH_BRIGHT 0 1 = s.chip.rd rSH_BRIGHT ∧ c.rd rSH_NUM 0 1 = s.chip.rd rSH_NUM ∧ c.rd rSH_DEN 0 1 = s.chip.rd rSH_DEN
    ∧ c.rd rSH_MODE 0 1 = s.chip.rd rSH_MODE ∧ (∀ i < 4, c.rd rSH_FORCE i 1 = s.chip.rd rSH_FORCE i)
    ∧ c.rb rRAS_COMMIT 0 0 31 = false ∧ c.rd rRAS_EPOCH = s.chip.rd rRAS_EPOCH + 1 ∧ c.ras.snap = none
    ∧ c.rd rSH_TW 0 1 = (if (s.chip.rd rSH_TW).toNat > twLimit c.period then BitVec.ofNat 32 (twLimit c.period) else s.chip.rd rSH_TW)
    ∧ c.rd rSH_LEAD 0 1 = BitVec.ofNat 32 (max 10000 (min 1000000 (s.chip.rd rSH_LEAD).toNat))
    ∧ (s.chip.rd rSH_MODE = s.chip.rd rSH_MODE 0 1 → (s.chip.cmp 1).armed = false → c.rest = { s.chip.rest with ras := { s.chip.ras with snap := none }, err := c.err }
        ∧ Frame ([rSH_SEL.addr 0 1, rSH_BRIGHT.addr 0 1, rSH_NUM.addr 0 1, rSH_DEN.addr 0 1, rSH_TW.addr 0 1, rSH_LEAD.addr 0 1, rSH_FORCE.addr 0 1, rSH_FORCE.addr 1 1, rSH_FORCE.addr 2 1, rSH_FORCE.addr 3 1, rSH_MODE.addr 0 1,
          rRAS_COMMIT.addr 0 0, rRAS_STATUS.addr 0 0, rRAS_EPOCH.addr 0 0, rRAS_CNT.addr 6 0, rCMP_NS.addr 1 0] ++ logRegs 0x07) [80, 209] s.chip c)) ∧
  (∀ (s : State) (a : Access) (v : Word), s.chip.takes a rRAS_COMMIT 0 0 (v ||| 0x10000000) → bit v 31 = false →
    Does s (exec (.rasCancel a v) s) fun c =>
    c.rest = s.chip.rest ∧ c.rb rRAS_COMMIT 0 0 31 = (s.chip.rb rRAS_COMMIT 0 0 31 && s.chip.ras.snap.isSome)
    ∧ c.rb rRAS_COMMIT 0 0 30 = bit v 30 ∧ c.rb rRAS_COMMIT 0 0 29 = bit v 29 ∧ Frame [rRAS_COMMIT.addr 0 0] [] s.chip c) ∧
  (∀ (s : State) (a : Access) (v : Word), s.chip.takes a rRAS_COMMIT 0 0 (v ||| 0x10000000) → s.chip.ras.snap = none →
    Does s (exec (.rasCancel a v) s) fun c => c.rb rRAS_COMMIT 0 0 31 = false ∧ c.ras.snap = none) ∧
  (∀ s : State, s.chip.up .pix = true → s.chip.rb rRAS_CTRL 0 0 0 = true → s.chip.ras.inFrame = true → s.chip.ras.hold = none → s.chip.ras.guarded = false →
    s.chip.ras.start + (s.chip.tw - max 1000 (s.chip.rf rRAS_GUARD 0 0 15 0)) ≤ s.chip.time.now →
    Does s (exec .commitGuardClose s) fun c =>
    c.rest = { s.chip.rest with ras := { s.chip.ras with guarded := true, snap := if s.chip.rb rRAS_COMMIT 0 0 31 = true then some s.chip.snapshot else s.chip.ras.snap } }
    ∧ (s.chip.rb rRAS_COMMIT 0 0 31 = true → c.rb rRAS_STATUS 0 0 3 = true) ∧ (s.chip.rb rRAS_COMMIT 0 0 31 = false → Frame [] [] s.chip c)
    ∧ Frame [rRAS_STATUS.addr 0 0] [] s.chip c) ∧
  (∀ s : State, s.chip.time.now < s.chip.ras.start + (s.chip.tw - max 1000 (s.chip.rf rRAS_GUARD 0 0 15 0)) →
    Does s (exec .commitGuardClose s) fun c => c.rest = s.chip.rest ∧ Frame [] [] s.chip c) ∧
  (∀ s : State, s.chip.ras.commitDue = 0 → Does s (exec .commitPoint s) fun c => c.rest = s.chip.rest ∧ Frame [] [] s.chip c) ∧
  (∀ s : State, s.chip.rb rRAS_CTRL 0 0 0 = false ∨ (s.chip.fwRuns = false ∧ s.chip.ras.hold = none ∧ s.chip.ras.inFrame = false) →
    s.chip.ras.commitDue ≠ 0 → (∀ p : Fin 48, (s.chip.port p).crdBad = false) → s.chip.cdr.swap = none → Does s (exec .commitPoint s) fun c =>
    c.rest = { s.chip.rest with ras := { s.chip.ras with commitDue := s.chip.ras.commitDue - 1 } } ∧ Frame [] [] s.chip c) ∧
  (∀ (s : State), s.chip.up .pix = true → s.chip.rb rRAS_CTRL 0 0 0 = true → s.chip.ras.commitDue ≠ 0 → s.chip.ras.inFrame = true → s.chip.ras.hold = none →
    (s.chip.fwRuns = false ∨ (s.chip.dop.rwc = [] ∧ s.chip.cdr.policy = [] ∧ s.chip.dop.mirror = [] ∧ s.chip.dop.dflNext = none ∧ s.chip.dop.gridApply = false)) →
    Does s (exec .commitPoint s) fun c =>
    c.ras.commitDue = s.chip.ras.commitDue - 1 ∧ c.ras.inFrame = false ∧ c.ras.resume = false ∧ c.ras.nodeCrc = []
    ∧ c.prs.rasEv.take (s.chip.prs.rasEv.length + 1) = s.chip.prs.rasEv ++ [.commit (BitVec.ofNat 32 s.chip.ras.k)]
    ∧ (∀ p : Fin 48, s.chip.signs p = true → c.rd rRAS_SIG p = ~~~(s.chip.sum p).crc)
    ∧ (∀ p : Fin 48, s.chip.isLane p = true → (c.port p).window = false)
    ∧ (∀ p : Fin 48, s.chip.isLane p = true → s.chip.ras.snap = none → (c.port p).presentDue = s.chip.transmitting p)
    ∧ (∀ x ∈ s.chip.ras.snap, c.rd rSH_SEL 0 1 = x.sel ∧ c.rd rSH_BRIGHT 0 1 = x.bright ∧ c.rd rSH_MODE 0 1 = x.lmode
        ∧ c.rd rRAS_EPOCH = s.chip.rd rRAS_EPOCH + 1 ∧ c.rb rRAS_COMMIT 0 0 31 = false ∧ c.ras.snap = none
        ∧ (s.chip.modeCommit x = false → c.ras.hold = none)
        ∧ (s.chip.modeCommit x = true → c.ras.hold = some { pc := s.chip.commitTime, grid := x.grid } ∧ c.rb rRAS_STATUS 0 0 1 = true
            ∧ c.rd rRAS_CNT 1 = s.chip.rd rRAS_CNT 1 + 1 ∧ c.irqs.getLsbD 82 = true))
    ∧ (s.chip.ras.snap = none → s.chip.ras.fetch = [] → (∀ p : Fin 48, (s.chip.port p).crdBad = false) → s.chip.pairState = 0 → s.chip.cdr.swap = none →
        s.chip.rb rRAS_CTRL 0 0 3 = false → s.chip.rb rRAS_CTRL 0 0 4 = false →
        c.rest = { s.chip.rest with ras := c.ras, ports := c.ports, prs := { s.chip.prs with rasEv := c.prs.rasEv } }
        ∧ Frame ((List.range 48).map (rRAS_SIG.addr · 0)) [] s.chip c))

/-- Outside a frame the fetch does nothing. Within one it serves the port with the smallest time to run dry, the lower number among
equals, of those with payload left and credits for a cell. Where 62 words of that port's open node are ready it commits one cell of
the payload's coding: its header, its words in the port's ring; the rest of the payload is kept where no run is left. A fetch whose runs are used up is done once nothing of
its payload is left. PRESENT goes out on a lane port whose role is not witness with the frame's index, the time to the show instant
and the port's latencies, as the 64 words of a cell, on a ring pair on both its ports; the port then has the frame's tag. A witness
port sends none: it keeps the tag and owes no PRESENT. -/
def Obligations.raster_fetch_and_present : Prop :=
  (∀ (s : State) (p : Fin 48), s.chip.ras.inFrame = false ∨ s.chip.ras.hold ≠ none ∨ s.chip.fetchNext ≠ some p.val → Does s (exec (.rasterFetchData p) s) fun c => c.rest = s.chip.rest ∧ Frame [] [] s.chip c) ∧
  (∀ (c : Chip) (p : Nat), c.fetchNext = some p → (∃ x ∈ c.ras.fetch, x.1 = p ∧ x.2.done = false ∧ c.room p true 62 = true)
    ∧ ∀ x ∈ c.ras.fetch, x.2.done = false → c.room x.1 true 62 = true → c.tDry p < c.tDry x.1 ∨ c.tDry p = c.tDry x.1 ∧ p ≤ x.1) ∧
  (∀ (s : State) (p : Fin 48) (f : Fetch), s.chip.up .pix = true → s.chip.ras.inFrame = true → s.chip.ras.hold = none → s.chip.ras.fetch = [(p.val, f)] →
    f.done = false → s.chip.room p true 62 = true → f.nacc < 1984 → f.nruns ≤ f.run → f.node = none → Does s (exec (.rasterFetchData p) s) fun c =>
    c.rest = { s.chip.rest with ras := { s.chip.ras with fetch := [(p.val, { f with done := true })] } } ∧ Frame [] [] s.chip c) ∧
  (∀ (s : State) (p : Fin 48) (f : Fetch) (n : Nat), s.chip.up .pix = true → s.chip.ras.inFrame = true → s.chip.ras.hold = none →
    s.chip.fetchNext = some p.val → s.chip.ras.fetch.find? (fun x => x.1 = p.val) = some (p.val, f) → 1984 ≤ f.nacc → f.node = some n → f.code ≤ 1 →
    s.chip.cutOff [0x28 + bankOf p] = false → (s.chip.port p).loss = false → (s.chip.bank (bankOf p)).wdhold = false → Does s (exec (.rasterFetchData p) s) fun c =>
    (c.port p).cells = (s.chip.port p).cells ++ [⟨true, cellHead (1 + f.code) n 62 (b2n f.first), (s.chip.port p).rasWr, 62⟩]
    ∧ (c.port p).rasWr = (s.chip.port p).rasWr + 62 ∧ c.ringGet p true (s.chip.port p).rasWr 62 = f.words 62
    ∧ (f.nruns ≤ f.run → c.ras.fetch = s.chip.ras.fetch.map (fun x => if x.1 = p.val then
        (p.val, { f with first := false, acc := f.acc % 2 ^ (f.nacc - 1984), nacc := f.nacc - 1984, done := f.nacc - 1984 = 0 && f.grp.isEmpty }) else x)
      ∧ c.rest = { s.chip.rest with ras := c.ras, ports := c.ports, mem := c.mem } ∧ Frame [] [] s.chip c)) ∧
  (∀ (s : State) (p : Fin 48) (w : List Word), s.chip.up (.bank (bankOf p)) = true → s.chip.isLane p = true → s.chip.ringOdd p = false → (s.chip.port p).presentDue = true →
    (s.chip.bank (bankOf p)).step = 0 → s.chip.insertFrom p = none → s.chip.witness p = false →
    w = cellWire (setFld (cellHead 5 0 4 0) 15 8 (s.chip.port p).seq.toNat) [s.chip.epochWord p (BitVec.ofNat 8 s.chip.ras.k),
        BitVec.ofNat 32 (s.chip.showTime - s.chip.time.now), s.chip.rd rLT0A p, if (s.chip.port p).ringNow = true ∨ s.chip.paired p = true then s.chip.rd rLT0B p else 0] →
    Does s (exec (.presentSend p) s) fun c =>
    c.wire = (if p.val % 2 = 0 ∧ (s.chip.port p).ringNow = true then [.cell (p + 1) w] else []) ++ .cell p w :: s.chip.wire
    ∧ (c.port p).presentDue = false ∧ (c.port p).ftag = BitVec.ofNat 8 s.chip.ras.k ∧ (c.port p).present = some s.chip.ras.k
    ∧ (c.port p).seq = (s.chip.port p).seq + 1 ∧ c.rd rPORT_CNT p 0 = s.chip.rd rPORT_CNT p 0 + 1
    ∧ c.rest = { s.chip.rest with wire := c.wire, ports := mset ({} : Port) s.chip.ports p (c.port p) }
    ∧ Frame (rPORT_CNT.addr p 0 :: if p.val % 2 = 0 ∧ (s.chip.port p).ringNow = true then [rPORT_CNT.addr (p + 1) 0] else []) [] s.chip c) ∧
  (∀ (s : State) (p : Fin 48), s.chip.up (.bank (bankOf p)) = true → s.chip.isLane p = true → s.chip.ringOdd p = false → (s.chip.port p).presentDue = true →
    (s.chip.bank (bankOf p)).step = 0 → s.chip.insertFrom p = none → s.chip.witness p = true → (s.chip.port p).returned = true →
    Does s (exec (.presentSend p) s) fun c =>
    c.wire = s.chip.wire ∧ (c.port p).presentDue = false ∧ (c.port p).ftag = BitVec.ofNat 8 s.chip.ras.k ∧ (c.port p).present = none
    ∧ c.rest = { s.chip.rest with ports := mset ({} : Port) s.chip.ports p (c.port p) } ∧ Frame [] [] s.chip c) ∧
  (∀ (s : State) (p : Fin 48), (s.chip.port p).presentDue = false ∨ s.chip.isLane p = false → Does s (exec (.presentSend p) s) fun c =>
    c.rest = s.chip.rest ∧ Frame [] [] s.chip c)

/-- A fill of a table that is not active with a curve of 0..4 starts and shows; one of an active table or a reserved curve is refused:
counted, code 0x92, interrupt 91. The fill's end puts the curve's 1,025 entries into that table and nothing elsewhere, and raises
interrupt 88. A write of the window of a table that is not active stores the entry; of an active one it is a bus error and
refused. A fill started while one runs changes nothing. A conversion into the bank not in use starts; into the one in use, of a tile above
98,303, beyond its 48 MiB or while one runs it is refused with code 0x91 and interrupt 90. Its end
frees the converter and raises interrupt 89; with the Cellar serving, every word of it clean, and its writes permitted, the base
record then stands in the bank's tile record and the nine deltas of every pixel record in its calibration bytes, no other
byte has changed, and the coefficients clamped are counted and reported with code 0x90. -/
def Obligations.pixel_tables_and_conversion : Prop :=
  (∀ (s : State) (a : Access) (v : Word), s.chip.takes a rLUT_FILL 0 0 (v ||| 0x80000000) → s.chip.rb rLUT_FILL 0 0 31 = false →
    s.chip.lutActive (fld v 2 0) = false → fld v 6 4 ≤ 4 → Does s (exec (.lutFill a v) s) fun c =>
    c.rest = { s.chip.rest with pix := { s.chip.pix with fill := some (fld v 6 4, fld v 2 0) } } ∧ c.rb rLUT_FILL 0 0 31 = true ∧ c.rb rPIX_STATUS 0 0 0 = true
    ∧ Frame [rLUT_FILL.addr 0 0, rPIX_STATUS.addr 0 0] [] s.chip c) ∧
  (∀ (s : State) (a : Access) (v : Word), s.chip.takes a rLUT_FILL 0 0 (v ||| 0x80000000) → s.chip.rb rLUT_FILL 0 0 31 = false →
    s.chip.lutActive (fld v 2 0) = true ∨ 4 < fld v 6 4 → Does s (exec (.lutFill a v) s) fun c =>
    c.rest = { s.chip.rest with err := c.err } ∧ c.rb rPIX_STATUS 0 0 1 = true ∧ c.rd rPIX_CNT 4 = s.chip.rd rPIX_CNT 4 + 1 ∧ Reports 0x08 0x92 s.chip c
    ∧ c.irqs.getLsbD 91 = true ∧ Frame (rLUT_FILL.addr 0 0 :: rPIX_STATUS.addr 0 0 :: rPIX_CNT.addr 4 0 :: logRegs 0x08) [91, 209] s.chip c) ∧
  (∀ (s : State) (a : Access) (v : Word), s.chip.takes a rLUT_FILL 0 0 (v ||| 0x80000000) → s.chip.rb rLUT_FILL 0 0 31 = true →
    Does s (exec (.lutFill a v) s) fun c => c.rest = s.chip.rest ∧ c.rb rLUT_FILL 0 0 31 = true ∧ Frame [rLUT_FILL.addr 0 0] [] s.chip c) ∧
  (∀ (s : State) (k : Fin 5) (t : Fin 8), s.chip.alive .pix = true → s.chip.pix.fill = some (k.val, t.val) → Does s (exec .lutFillDone s) fun c =>
    c.rest = { s.chip.rest with pix := { s.chip.pix with fill := none } } ∧ (∀ j : Fin 1025, c.rd rPIX_LUT t j = BitVec.ofNat 32 (curveEntry k j))
    ∧ c.irqs.getLsbD 88 = true ∧ c.rb rLUT_FILL 0 0 31 = false
    ∧ Frame (rLUT_FILL.addr 0 0 :: rPIX_STATUS.addr 0 0 :: (List.range 1025).map (rPIX_LUT.addr t)) [88] s.chip c) ∧
  (∀ (s : State) (a : Access) (t : Fin 8) (j : Fin 1025) (v : Word), s.chip.takes a rPIX_LUT t j v → Does s (exec (.lutWindowWrite a t j v) s) fun c =>
    c.rest = s.chip.rest ∧ c.rd rPIX_LUT t j = rPIX_LUT.merge (s.chip.rd rPIX_LUT t j) v ∧ Frame [rPIX_LUT.addr t j] [] s.chip c) ∧
  (∀ (s : State) (a : Access) (t : Fin 8) (j : Fin 1025) (v : Word), s.chip.reads a rPIX_LUT t j → s.chip.lutActive t = true →
    Does s (exec (.lutWindowWrite a t j v) s) fun c =>
    c.rsp = { val := 0, err := true } ∧ c.rd rPIX_LUT t j = s.chip.rd rPIX_LUT t j ∧ c.rd rPIX_CNT 4 = s.chip.rd rPIX_CNT 4 + 1
    ∧ c.irqs.getLsbD 91 = true ∧ c.irqs.getLsbD 1 = true
    ∧ Frame (rPIX_CNT.addr 4 0 :: rBUSERR_INFO.addr 0 0 :: rBUSERR_ADDR.addr 0 0 :: logRegs 0x08 ++ logRegs 0x00) [91, 1, 209] s.chip c) ∧
  (∀ (s : State) (a : Access) (v : Word), s.chip.takes a rCVT_CTRL 0 0 (v ||| 0x80000000) → s.chip.rb rCVT_CTRL 0 0 31 = false →
    fld v 0 0 ≠ s.chip.rf rSH_SEL 0 1 1 1 → (s.chip.rd rCVT_TILE).toNat ≤ 98303 → 9 * ((s.chip.rd rCVT_IDX).toNat + (s.chip.rd rCVT_CNT).toNat) ≤ 0x03000000 →
    Does s (exec (.cvtStart a v) s) fun c =>
    c.rest = { s.chip.rest with pix := { s.chip.pix with cvt := some ((s.chip.rd rCVT_SRC).toNat, (s.chip.rd rCVT_TILE).toNat, (s.chip.rd rCVT_IDX).toNat, (s.chip.rd rCVT_CNT).toNat, fld v 0 0) } }
    ∧ c.rb rCVT_CTRL 0 0 31 = true ∧ c.rb rPIX_STATUS 0 0 2 = true ∧ Frame [rCVT_CTRL.addr 0 0, rPIX_STATUS.addr 0 0] [] s.chip c) ∧
  (∀ (s : State) (a : Access) (v : Word), s.chip.takes a rCVT_CTRL 0 0 (v ||| 0x80000000) →
    s.chip.rb rCVT_CTRL 0 0 31 = true ∨ fld v 0 0 = s.chip.rf rSH_SEL 0 1 1 1 ∨ 98303 < (s.chip.rd rCVT_TILE).toNat
      ∨ 0x03000000 < 9 * ((s.chip.rd rCVT_IDX).toNat + (s.chip.rd rCVT_CNT).toNat) →
    Does s (exec (.cvtStart a v) s) fun c =>
    c.rest = { s.chip.rest with err := c.err } ∧ c.rb rCVT_CTRL 0 0 31 = s.chip.rb rCVT_CTRL 0 0 31 ∧ c.rb rPIX_STATUS 0 0 3 = true ∧ Reports 0x08 0x91 s.chip c ∧ c.irqs.getLsbD 90 = true
    ∧ Frame (rCVT_CTRL.addr 0 0 :: rPIX_STATUS.addr 0 0 :: logRegs 0x08) [90, 209] s.chip c) ∧
  (∀ (s : State) (src tile idx n b : Nat), s.chip.alive .pix = true → s.chip.pix.cvt = some (src, tile, idx, n, b) → Does s (exec .cvtDone s) fun c =>
    c.pix = { s.chip.pix with cvt := none } ∧ c.rb rCVT_CTRL 0 0 31 = false ∧ c.rb rPIX_STATUS 0 0 2 = false ∧ c.irqs.getLsbD 89 = true) ∧
  (∀ (s : State) (src tile idx n b k : Nat) (base : List (Byte × Bool)) (pix : List (List (Byte × Bool) × Nat)), s.chip.alive .pix = true → s.chip.pix.cvt = some (src, tile, idx, n, b) →
    s.chip.celCalm → s.chip.rb rECC_INJ 0 0 31 = false → celBase ≤ src → src + 32 + 18 * n ≤ 0x9FC00000 →
    (∀ i < 32, s.chip.celMayWrite .dma true (tileAddr b tile + i) = true) → (∀ i < 9 * n, s.chip.celMayWrite .dma true (calBank b + 9 * idx + i) = true) →
    (src + 32 + 18 * n ≤ tileAddr b tile ∨ tileAddr b tile + 32 ≤ src) → (calBank b + 9 * idx + 9 * n ≤ tileAddr b tile ∨ tileAddr b tile + 32 ≤ calBank b + 9 * idx) →
    base = (s.chip.bytes src 32).map (·, false) → pix = (List.range n).map (fun i => cvtPixel base ((s.chip.bytes (src + 32 + 18 * i) 18).map (·, false))) →
    k = (pix.map (·.2)).sum → Does s (exec .cvtDone s) fun c =>
    c.bytes (tileAddr b tile) 32 = s.chip.bytes src 32 ∧ c.bytes (calBank b + 9 * idx) (9 * n) = (pix.flatMap fun x => x.1.map (·.1))
    ∧ SameBytes (fun m => (tileAddr b tile ≤ m ∧ m < tileAddr b tile + 32) ∨ (calBank b + 9 * idx ≤ m ∧ m < calBank b + 9 * idx + 9 * n)) s.chip c
    ∧ c.rd rPIX_CNT 1 = s.chip.rd rPIX_CNT 1 + BitVec.ofNat 32 k ∧ Logs 0x08 (if k = 0 then [] else [0x90]) s.chip c
    ∧ c.rest = { s.chip.rest with pix := c.pix, mem := c.mem, cel := c.cel, err := c.err }
    ∧ Frame (rCVT_CTRL.addr 0 0 :: rPIX_STATUS.addr 0 0 :: rPIX_CNT.addr 1 0 :: (if k = 0 then [] else logRegs 0x08)) [89, 209] s.chip c)

/-- A write of PRS_RUN stores it; a core put back in reset no longer waits, and its item, if it had one, leaves the pool as faulted. A
read of PCW_NEXT by a core with an item answers 0; by any other it waits. Of the one item the dispatcher examines: it goes to its
family's recorded core where that is eligible; with no record, or once it has waited PRS_AFF_WAIT cycles, to the lowest eligible core;
else it waits. Of two items for one core the one of higher priority takes it. While the Press is disabled nothing is dispatched.
An item that has been READY for PRS_AFF_WAIT cycles counts as such, and is dispatched at once where a core is eligible. An item is
ended by PCW_DONE, by PCW_FAULT as faulted, by its watchdog as faulted, which also resets the core: with no successor it leaves the
pool and its core is recorded for its family; a successor counter above 1 is decremented; one at 1 fires and its waiting items become READY, and where it is the
graph-done counter the graph is counted with interrupt 97; one at 0 is an underflow, counted, with
interrupt 100 and code 0xA2; a fault is counted, with code 0xA1 and interrupt 99. Where S0 and S1 name one counter at 2 it fires once; two
counters are both decremented. Before an item completes, its standard function has done its work. A core without an item ends nothing. -/
def Obligations.press_cores_and_dispatch : Prop :=
  (∀ (s : State) (a : Access) (v : Word), s.chip.takes a rPRS_RUN 0 0 v → (∀ k : Fin 16, s.chip.runningOn k = none) → Does s (exec (.prsRunWrite a v) s) fun c =>
    c.rd rPRS_RUN = rPRS_RUN.merge (s.chip.rd rPRS_RUN) v
    ∧ (∀ k : Fin 16, c.core k = if s.chip.rb rPRS_RUN 0 0 k = true ∧ bit v k = false then { s.chip.core k with stalled := false, smp := [], ninth := none, smpStall := none } else s.chip.core k)
    ∧ c.rest = { s.chip.rest with prs := { s.chip.prs with cores := c.prs.cores } } ∧ Frame [rPRS_RUN.addr 0 0] [] s.chip c) ∧
  (∀ (s : State) (a : Access) (v : Word) (k : Fin 16) (x : Item), s.chip.takes a rPRS_RUN 0 0 v → s.chip.runningOn k = some x → (∀ j : Fin 16, j ≠ k → s.chip.runningOn j = none) →
    s.chip.rb rPRS_RUN 0 0 k = true → bit v k = false → bit (x.word 3) 31 = false → bit (x.word 3) 15 = false → s.chip.prs.exp = none → s.chip.prs.evQ = [] →
    Does s (exec (.prsRunWrite a v) s) fun c =>
    ItemLeaves k x true s.chip.prs.items 0 s.chip c
    ∧ c.core k = { s.chip.core k with stalled := false, smp := [], ninth := none, smpStall := none }
    ∧ c.rest = { s.chip.rest with prs := { s.chip.prs with items := c.prs.items, aff := c.prs.aff, cores := c.prs.cores }, err := c.err }
    ∧ Frame (rPRS_RUN.addr 0 0 :: leaveRegs true 0) (leaveIrqs true 0) s.chip c) ∧
  (∀ (s : State) (k : Fin 16), s.chip.coreOn k = true → Does s (exec (.pcwNext k) s) fun c =>
    (s.chip.runningOn k = none → c.core k = { s.chip.core k with stalled := true } ∧ c.rsp = s.chip.rsp)
    ∧ (s.chip.runningOn k ≠ none → c.core k = { s.chip.core k with next := 0 } ∧ c.rsp = { val := 0, err := false })
    ∧ c.rest = { s.chip.rest with prs := { s.chip.prs with cores := mset ({} : PCore) s.chip.prs.cores k (c.core k) } } ∧ Frame [] [] s.chip c) ∧
  (∀ (s : State) (x : Item) (k : Fin 16), s.chip.up .prs = true → s.chip.rb rPRS_CTRL 0 0 0 = true → s.chip.examined = [x] → s.chip.eligible k = true →
    (mget none s.chip.prs.aff x.family = some k.val
      ∨ ((∀ r ∈ mget none s.chip.prs.aff x.family, s.chip.eligible r = false ∧ x.waited = true) ∧ ∀ j : Fin 16, j < k → s.chip.eligible j = false)) →
    Does s (exec .itemDispatch s) fun c =>
    c.prs.items = s.chip.prs.items.map (fun y => if y.slot = x.slot then { y with st := .running k.val } else y)
    ∧ c.core k = { s.chip.core k with stalled := false, next := BitVec.ofNat 32 (2 ^ 31 + x.slot) } ∧ c.rsp = { val := BitVec.ofNat 32 (2 ^ 31 + x.slot), err := false }
    ∧ c.rest = { s.chip.rest with prs := { s.chip.prs with items := c.prs.items, cores := mset ({} : PCore) s.chip.prs.cores k (c.core k) } }
    ∧ Frame [rPRS_POOL.addr 0 0] [] s.chip c) ∧
  (∀ (s : State), s.chip.up .prs = false ∨ s.chip.rb rPRS_CTRL 0 0 0 = false
      ∨ (∀ x ∈ s.chip.examined, (∀ j : Fin 16, s.chip.eligible j = false) ∨ ∃ r ∈ mget none s.chip.prs.aff x.family, s.chip.eligible r = false ∧ x.waited = false) →
    Does s (exec .itemDispatch s) fun c => c.rest = s.chip.rest ∧ c.rsp = s.chip.rsp ∧ Frame [] [] s.chip c) ∧
  (∀ (s : State) (x y : Item) (k : Fin 16), s.chip.up .prs = true → s.chip.rb rPRS_CTRL 0 0 0 = true → x ∈ s.chip.prs.items → y ∈ s.chip.prs.items →
    (∀ z ∈ s.chip.prs.items, z.st = .ready → z = x ∨ z = y) → (s.chip.prs.items.map (·.slot)).Nodup → x.st = .ready → y.st = .ready → y.prio < x.prio →
    s.chip.eligible k = true → (∀ j : Fin 16, j ≠ k → s.chip.eligible j = false) → mget none s.chip.prs.aff x.family = none → mget none s.chip.prs.aff y.family = none →
    Does s (exec .itemDispatch s) fun c =>
    c.prs.items = s.chip.prs.items.map (fun z => if z.slot = x.slot then { z with st := .running k.val } else z) ∧ y ∈ c.prs.items
    ∧ c.rsp = { val := BitVec.ofNat 32 (2 ^ 31 + x.slot), err := false } ∧ Frame [rPRS_POOL.addr 0 0] [] s.chip c) ∧
  (∀ (s : State) (q : Fin 8192), (∀ k : Fin 16, s.chip.eligible k = false) → Does s (exec (.affWaitExpiry q) s) fun c =>
    c.rest = { s.chip.rest with prs := { s.chip.prs with items := s.chip.prs.items.map fun x => if x.slot = q.val ∧ x.st = .ready then { x with waited := true } else x } }
    ∧ Frame [rPRS_POOL.addr 0 0] [] s.chip c) ∧
  (∀ (s : State) (x : Item) (k : Fin 16) (r : Nat), s.chip.up .prs = true → s.chip.rb rPRS_CTRL 0 0 0 = true → s.chip.examined = [x] → x.slot < 8192 →
    mget none s.chip.prs.aff x.family = some r → s.chip.eligible r = false → s.chip.eligible k = true → (∀ j : Fin 16, j < k → s.chip.eligible j = false) →
    Does s (exec (.affWaitExpiry (Fin.ofNat 8192 x.slot)) s) fun c =>
    c.core k = { s.chip.core k with stalled := false, next := BitVec.ofNat 32 (2 ^ 31 + x.slot) } ∧ c.rsp = { val := BitVec.ofNat 32 (2 ^ 31 + x.slot), err := false }
    ∧ c.prs.items = s.chip.prs.items.map (fun y => if y.slot = x.slot then { y with st := .running k.val, waited := y.waited || decide (y.st = .ready) } else y)
    ∧ Frame [rPRS_POOL.addr 0 0] [] s.chip c) ∧
  (∀ (s : State) (i : Instr) (k : Fin 16) (x : Item) (f : Bool), s.chip.ends i k f → s.chip.coreOn k = true → s.chip.runningOn k = some x → (f = false → fld (x.word 0) 9 0 = 0 ∨ 5 < fld (x.word 0) 9 0) →
    bit (x.word 3) 31 = false → bit (x.word 3) 15 = false → s.chip.prs.exp = none → s.chip.prs.evQ = [] → Does s (exec i s) fun c =>
    ItemLeaves k x f s.chip.prs.items 0 s.chip c
    ∧ c.core k = (if i = .itemWatchdog k then { s.chip.core k with stalled := false, smp := [], ninth := none, smpStall := none } else s.chip.core k)
    ∧ c.rest = { s.chip.rest with prs := { s.chip.prs with items := c.prs.items, aff := c.prs.aff, cores := mset ({} : PCore) s.chip.prs.cores k (c.core k) }, err := c.err }
    ∧ Frame (leaveRegs f 0) (leaveIrqs f 0) s.chip c) ∧
  (∀ (s : State) (i : Instr) (k : Fin 16) (x : Item) (f : Bool) (j n : Nat) (b : Bool), s.chip.ends i k f → s.chip.coreOn k = true → s.chip.runningOn k = some x →
    (f = false → fld (x.word 0) 9 0 = 0 ∨ 5 < fld (x.word 0) 9 0) →
    (bit (x.word 3) 31 = true ∧ bit (x.word 3) 15 = false ∧ j = fld (x.word 3) 27 16 ∨ bit (x.word 3) 31 = false ∧ bit (x.word 3) 15 = true ∧ j = fld (x.word 3) 11 0) →
    s.chip.cntOf j = (n, b) → s.chip.prs.exp = none → s.chip.prs.evQ = [] → Does s (exec i s) fun c =>
    ItemLeaves k x f (if n = 1 then s.chip.prs.items.map (fun y => if y.st = .waiting ∧ bit (y.word 2) 31 = true ∧ y.waitsOn = j then { y with st := .ready } else y) else s.chip.prs.items)
      (if n = 0 then 1 else 0) s.chip c
    ∧ c.cntOf j = (if n = 1 then (0, true) else (n - 1, b)) ∧ (∀ q : Fin 4096, q.val ≠ j → c.cntOf q = s.chip.cntOf q)
    ∧ c.rd rPRS_CNT 0 = s.chip.rd rPRS_CNT 0 + (if n = 1 ∧ b = false ∧ s.chip.prs.done = some j then 1 else 0)
    ∧ (n = 1 → b = false → s.chip.prs.done = some j → c.irqs.getLsbD 97 = true)
    ∧ c.rest = { s.chip.rest with prs := { s.chip.prs with items := c.prs.items, aff := c.prs.aff, cores := c.prs.cores, cnts := c.prs.cnts }, err := c.err }
    ∧ Frame (rPRS_CNT.addr 0 0 :: leaveRegs f (if n = 0 then 1 else 0)) ((if n = 1 ∧ b = false ∧ s.chip.prs.done = some j then [97] else []) ++ leaveIrqs f (if n = 0 then 1 else 0)) s.chip c) ∧
  (∀ (s : State) (i : Instr) (k : Fin 16) (x : Item) (f : Bool) (j l n m : Nat) (b d : Bool), s.chip.ends i k f → s.chip.coreOn k = true → s.chip.runningOn k = some x →
    (f = false → fld (x.word 0) 9 0 = 0 ∨ 5 < fld (x.word 0) 9 0) → bit (x.word 3) 31 = true → bit (x.word 3) 15 = true → j = fld (x.word 3) 27 16 → l = fld (x.word 3) 11 0 →
    s.chip.cntOf j = (n + 2, b) → s.chip.cntOf l = (m + 2, d) → s.chip.prs.exp = none → s.chip.prs.evQ = [] → Does s (exec i s) fun c =>
    (j ≠ l → c.cntOf j = (n + 1, b) ∧ c.cntOf l = (m + 1, d) ∧ ItemLeaves k x f s.chip.prs.items 0 s.chip c)
    ∧ (j = l → c.cntOf j = (if n = 0 then (0, true) else (n, b))
      ∧ ItemLeaves k x f (if n = 0 then s.chip.prs.items.map (fun y => if y.st = .waiting ∧ bit (y.word 2) 31 = true ∧ y.waitsOn = j then { y with st := .ready } else y) else s.chip.prs.items)
        0 s.chip c)
    ∧ Frame (rPRS_CNT.addr 0 0 :: leaveRegs f 0) (97 :: leaveIrqs f 0) s.chip c) ∧
  (∀ (s : State) (k : Fin 16) (x : Item) (w : Chip), s.chip.coreOn k = true → s.chip.runningOn k = some x → w = Chip.stdWork { s.chip with cyc := s.chip.cyc + 1 } k x →
    bit (x.word 3) 31 = false → bit (x.word 3) 15 = false → w.prs.exp = none → w.prs.evQ = [] → Does s (exec (.pcwDone k) s) fun c =>
    c.mem = w.mem ∧ c.prs.stg = w.prs.stg ∧ (w.runningOn k = some x → c.prs.items = w.prs.items.filter (fun y => y.slot ≠ x.slot) ∧ c.prs.aff = mset none w.prs.aff x.family (some k.val))) ∧
  (∀ (s : State) (i : Instr) (k : Fin 16) (f : Bool), s.chip.ends i k f → s.chip.coreOn k = false ∨ s.chip.runningOn k = none → Does s (exec i s) fun c =>
    c.rest = s.chip.rest ∧ Frame [] [] s.chip c)

/-- Word 7 of a window of PRS by its owner, or PCW_SUB7 of a core, submits the eight words: with the Press enabled, room above the
reserve and a good descriptor the item enters the lowest free slot, WAITING or READY, and the status shows it; with the Press disabled
or no room the submission is BUSY: counted, code 0xA3, interrupt 101 where it has not been raised for 1 ms; a bad descriptor is refused with ERR: counted, code
0xA6. Window 4 is the DMA submitter's: it needs no room above the reserve and uses a credit that was claimed. A SET of a counter to a value above 0
clears FIRED; to 0 it fires the counter, its waiting items become READY, and a graph done by it is counted with interrupt 97. AFF_CLR
clears the affinity records. No kick comes but from a comparator's fire, and it is skipped without counting while the Press is disabled
or a HOLD suppresses it. A kick while the last is still expanding, or whose graph-done counter has not fired, is an overrun: counted,
shown, code 0xA0, interrupt 98. Any other latches each canvas's buffer: the forced base, with a calm Cellar the PRESENTING
buffer's, or none; then an empty graph completes, and a graph of one good descriptor submits it, with the
frame's index in word 5 where KIDX is set. HOLD and RESUME events are noted; a commit event without HW_SUB is dropped, and with it enters its descriptor
with the frame's index in word 5, or is refused where that is bad, or waits for a credit in the event queue, or while four wait already
stays on the bridge. -/
def Obligations.press_submission : Prop :=
  (∀ (s : State) (i : Instr) (a : Access) (m : Fin 16) (w t : RegRow) (v : Word) (ws : List Word) (q : Nat),
    (i = .workSubmit a (some m) v ∧ s.chip.takes a rPRS_SUB m 7 v ∧ m ≠ 4 ∧ w = rPRS_SUB ∧ t = rPRS_SUBSTS
      ∨ i = .workSubmit a none v ∧ a.master = .press ∧ a.core = m ∧ s.chip.coreOn m = true ∧ w = rPCW_SUB ∧ t = rPCW_SUBSTS) →
    s.chip.rb rPRS_CTRL 0 0 0 = true → s.chip.prs.items.length + s.chip.reserve < 8192 → ws = ((List.range 7).map fun i => s.chip.rd w m i) ++ [v] → descBad ws = false → s.chip.freeSlot = some q →
    Does s (exec i s) fun c =>
    c.rest = { s.chip.rest with prs := { s.chip.prs with items := s.chip.prs.items ++ [{ slot := q, desc := ws, st := if bit (ws.getD 2 0) 31 = true ∧ s.chip.cntOf (fld (ws.getD 2 0) 11 0) ≠ (0, true) then .waiting else .ready }] } }
    ∧ c.rd t m = BitVec.ofNat 32 (2 ^ 31 + q) ∧ Frame [w.addr m 7, t.addr m 0, rPRS_POOL.addr 0 0] [] s.chip c) ∧
  (∀ (s : State) (i : Instr) (a : Access) (m : Fin 16) (w t : RegRow) (v : Word),
    (i = .workSubmit a (some m) v ∧ s.chip.takes a rPRS_SUB m 7 v ∧ m ≠ 4 ∧ w = rPRS_SUB ∧ t = rPRS_SUBSTS
      ∨ i = .workSubmit a none v ∧ a.master = .press ∧ a.core = m ∧ s.chip.coreOn m = true ∧ w = rPCW_SUB ∧ t = rPCW_SUBSTS) →
    s.chip.rb rPRS_CTRL 0 0 0 = false ∨ 8192 ≤ s.chip.prs.items.length + s.chip.reserve → Does s (exec i s) fun c =>
    c.rest = { s.chip.rest with prs := { s.chip.prs with busyAt := c.prs.busyAt }, err := c.err } ∧ c.rd t m = 0x40000000 ||| (s.chip.rd t m &&& 0x1FFF)
    ∧ c.rd rPRS_CNT 4 = s.chip.rd rPRS_CNT 4 + 1 ∧ Reports 0x09 0xA3 s.chip c
    ∧ (((s.chip.prs.busyAt = none ∨ ∃ t ∈ s.chip.prs.busyAt, t + 1000000 ≤ s.chip.time.now) ∧ c.irqs.getLsbD 101 = true ∧ c.prs.busyAt = some s.chip.time.now
          ∧ Frame (w.addr m 7 :: t.addr m 0 :: rPRS_CNT.addr 4 0 :: logRegs 0x09) [101, 209] s.chip c)
      ∨ (∃ t ∈ s.chip.prs.busyAt, s.chip.time.now < t + 1000000) ∧ c.prs.busyAt = s.chip.prs.busyAt
          ∧ Frame (w.addr m 7 :: t.addr m 0 :: rPRS_CNT.addr 4 0 :: logRegs 0x09) [209] s.chip c)) ∧
  (∀ (s : State) (i : Instr) (a : Access) (m : Fin 16) (w t : RegRow) (v : Word) (ws : List Word),
    (i = .workSubmit a (some m) v ∧ s.chip.takes a rPRS_SUB m 7 v ∧ m ≠ 4 ∧ w = rPRS_SUB ∧ t = rPRS_SUBSTS
      ∨ i = .workSubmit a none v ∧ a.master = .press ∧ a.core = m ∧ s.chip.coreOn m = true ∧ w = rPCW_SUB ∧ t = rPCW_SUBSTS) →
    s.chip.rb rPRS_CTRL 0 0 0 = true → s.chip.prs.items.length + s.chip.reserve < 8192 → ws = ((List.range 7).map fun i => s.chip.rd w m i) ++ [v] → descBad ws = true →
    Does s (exec i s) fun c =>
    c.rest = { s.chip.rest with err := c.err } ∧ c.rd t m = 0x20000000 ||| (s.chip.rd t m &&& 0x1FFF) ∧ c.rd rPRS_CNT 7 = s.chip.rd rPRS_CNT 7 + 1 ∧ Reports 0x09 0xA6 s.chip c
    ∧ Frame (w.addr m 7 :: t.addr m 0 :: rPRS_CNT.addr 7 0 :: logRegs 0x09) [209] s.chip c) ∧
  (∀ (s : State) (a : Access) (v : Word) (ws : List Word) (q : Nat), s.chip.takes a rPRS_SUB 4 7 v → s.chip.rb rPRS_CTRL 0 0 0 = true → s.chip.prs.items.length < 8192 →
    ws = ((List.range 7).map fun i => s.chip.rd rPRS_SUB 4 i) ++ [v] → descBad ws = false → s.chip.freeSlot = some q → Does s (exec (.workSubmit a (some 4) v) s) fun c =>
    c.rest = { s.chip.rest with
      prs := { s.chip.prs with items := s.chip.prs.items ++ [{ slot := q, desc := ws, st := if bit (ws.getD 2 0) 31 = true ∧ s.chip.cntOf (fld (ws.getD 2 0) 11 0) ≠ (0, true) then .waiting else .ready }] }
      dma := { s.chip.dma with claimed := s.chip.dma.claimed - 1 } }
    ∧ c.rd rPRS_SUBSTS 4 = BitVec.ofNat 32 (2 ^ 31 + q) ∧ Frame [rPRS_SUB.addr 4 7, rPRS_SUBSTS.addr 4 0, rPRS_POOL.addr 0 0] [] s.chip c) ∧
  (∀ (s : State) (a : Access) (v : Word), s.chip.takes a rCNT_SET 0 0 v → fld v 13 0 ≠ 0 → Does s (exec (.prsCntSet a v) s) fun c =>
    c.cntOf (fld v 27 16) = (fld v 13 0, false) ∧ c.rest = { s.chip.rest with prs := { s.chip.prs with cnts := mset (0, false) s.chip.prs.cnts (fld v 27 16) (fld v 13 0, false) } }
    ∧ Frame [] [] s.chip c) ∧
  (∀ (s : State) (a : Access) (v : Word), s.chip.takes a rCNT_SET 0 0 v → fld v 13 0 = 0 → Does s (exec (.prsCntSet a v) s) fun c =>
    c.cntOf (fld v 27 16) = (0, true)
    ∧ c.rest = { s.chip.rest with prs := { s.chip.prs with
        items := s.chip.prs.items.map fun x => if x.st = .waiting ∧ bit (x.word 2) 31 = true ∧ x.waitsOn = fld v 27 16 then { x with st := .ready } else x
        cnts := mset (0, false) s.chip.prs.cnts (fld v 27 16) (0, true) } }
    ∧ (if (s.chip.cntOf (fld v 27 16)).2 = false ∧ s.chip.prs.done = some (fld v 27 16) then
        c.rd rPRS_CNT 0 = s.chip.rd rPRS_CNT 0 + 1 ∧ c.irqs.getLsbD 97 = true ∧ Frame [rPRS_POOL.addr 0 0, rPRS_CNT.addr 0 0] [97] s.chip c
      else Frame [rPRS_POOL.addr 0 0] [] s.chip c)) ∧
  (∀ (s : State) (a : Access) (v : Word), s.chip.takes a rPRS_CTRL 0 0 (v ||| 0x2) → bit v 0 = false ∨ s.chip.prs.exp = none ∧ s.chip.prs.evQ = [] → Does s (exec (.affClr a v) s) fun c =>
    c.rest = { s.chip.rest with prs := { s.chip.prs with aff := [] } } ∧ c.rb rPRS_CTRL 0 0 0 = bit v 0 ∧ Frame [rPRS_CTRL.addr 0 0] [] s.chip c) ∧
  (∀ s : State, s.chip.prs.kickDue = 0 → Does s (exec .pressKick s) fun c => c.rest = s.chip.rest ∧ Frame [] [] s.chip c) ∧
  (∀ (s : State) (n : Nat), s.chip.prs.kickDue = n + 1 →
    s.chip.up .prs = false ∨ s.chip.rb rPRS_CTRL 0 0 0 = false ∨ s.chip.prs.held = true ∧ s.chip.rb rKICK_CTRL 0 0 1 = true → Does s (exec .pressKick s) fun c =>
    c.rest = { s.chip.rest with prs := { s.chip.prs with kickDue := n } } ∧ Frame [] [] s.chip c) ∧
  (∀ (s : State) (n t : Nat), s.chip.up .prs = true → s.chip.rb rPRS_CTRL 0 0 0 = true → s.chip.prs.kickDue = n + 1 → s.chip.prs.held = false ∨ s.chip.rb rKICK_CTRL 0 0 1 = false →
    s.chip.sram.errs = [] → t = (s.chip.rd rKICK_T (s.chip.rf rKICK_CTRL 0 0 0 0)).toNat → 0x40000000 ≤ t → t + 32 ≤ 0x40200000 →
    s.chip.prs.exp ≠ none ∨ bit (s.chip.word (t + 4)) 31 = true ∧ (s.chip.cntOf (fld (s.chip.word (t + 4)) 11 0)).2 = false → Does s (exec .pressKick s) fun c =>
    c.rest = { s.chip.rest with prs := { s.chip.prs with kickDue := n }, err := c.err } ∧ c.rd rPRS_CNT 1 = s.chip.rd rPRS_CNT 1 + 1 ∧ c.rb rPRS_STATUS 0 0 1 = true ∧ Reports 0x09 0xA0 s.chip c
    ∧ c.irqs.getLsbD 98 = true ∧ Frame (rPRS_CNT.addr 1 0 :: rPRS_STATUS.addr 0 0 :: logRegs 0x09) [98, 209] s.chip c) ∧
  (∀ (s : State) (n t : Nat), s.chip.up .prs = true → s.chip.rb rPRS_CTRL 0 0 0 = true → s.chip.prs.kickDue = n + 1 → s.chip.prs.held = false ∨ s.chip.rb rKICK_CTRL 0 0 1 = false →
    s.chip.prs.exp = none → s.chip.sram.errs = [] → t = (s.chip.rd rKICK_T (s.chip.rf rKICK_CTRL 0 0 0 0)).toNat → 0x40000000 ≤ t → t + 32 ≤ 0x40200000 →
    s.chip.word t = 0 → bit (s.chip.word (t + 4)) 31 = true ∧ (s.chip.cntOf (fld (s.chip.word (t + 4)) 11 0)).2 = true ∨ bit (s.chip.word (t + 4)) 31 = false → s.chip.celUp = false →
    Does s (exec .pressKick s) fun c =>
    c.rest = { s.chip.rest with prs := { s.chip.prs with
      done := if bit (s.chip.word (t + 4)) 31 = true then some (fld (s.chip.word (t + 4)) 11 0) else none, kickDue := n, kickK := some (gridK s.chip.time.grid s.chip.time.now), cache := [], exp := none } }
    ∧ (∀ cv : Fin 4, c.rd rSMP_BUF cv = if s.chip.rb rPRS_FORCE cv 0 0 = true then s.chip.rd rPRS_FORCE cv &&& 0xFFFFF000 else 1)
    ∧ c.rb rPRS_STATUS 0 0 0 = true ∧ (s.chip.rb rKICK_CTRL 0 0 2 = true → c.irqs.getLsbD 96 = true)
    ∧ Frame [rPRS_STATUS.addr 0 0, rSMP_BUF.addr 0 0, rSMP_BUF.addr 1 0, rSMP_BUF.addr 2 0, rSMP_BUF.addr 3 0] (if s.chip.rb rKICK_CTRL 0 0 2 = true then [96] else []) s.chip c) ∧
  (∀ (s : State) (n t q d : Nat) (w : List Word), s.chip.up .prs = true → s.chip.rb rPRS_CTRL 0 0 0 = true → s.chip.prs.kickDue = n + 1 →
    s.chip.prs.held = false ∨ s.chip.rb rKICK_CTRL 0 0 1 = false → s.chip.prs.exp = none → s.chip.sram.errs = [] → s.chip.celCalm →
    t = (s.chip.rd rKICK_T (s.chip.rf rKICK_CTRL 0 0 0 0)).toNat → 0x40000000 ≤ t → t + 32 ≤ 0x40200000 → s.chip.word t = 0x00010000 → bit (s.chip.word (t + 4)) 31 = false →
    d = (s.chip.word (t + 12)).toNat → 0x40000000 ≤ d → d + 32 ≤ 0x40200000 → w = s.chip.words d 8 → descBad w = false → s.chip.hwSlot = some q → Does s (exec .pressKick s) fun c =>
    (∀ cv : Fin 4, c.rd rSMP_BUF cv = if s.chip.rb rPRS_FORCE cv 0 0 = true then s.chip.rd rPRS_FORCE cv &&& 0xFFFFF000
      else match (bufsIn (s.chip.word (recAddr cv)) 3).head? with | some b => BitVec.ofNat 32 ((s.chip.viewGeom cv).base b) | none => 1)
    ∧ c.prs.items.map (·.slot) = s.chip.prs.items.map (·.slot) ++ [q]
    ∧ c.prs.items.map (·.desc) = s.chip.prs.items.map (·.desc) ++ [if bit (w.getD 0 0) 29 = true then w.set 5 (BitVec.ofInt 32 (gridK s.chip.time.grid s.chip.time.now)) else w]
    ∧ c.prs.exp = none ∧ c.rb rPRS_STATUS 0 0 0 = true) ∧
  (∀ (s : State) (e : RasEvent) (t : List RasEvent), s.chip.up .prs = true → s.chip.prs.rasEv = e :: t → e = .hold ∨ e = .resume → Does s (exec .rasterEventSubmit s) fun c =>
    c.rest = { s.chip.rest with prs := { s.chip.prs with rasEv := t, held := decide (e = .hold) } } ∧ c.rb rPRS_STATUS 0 0 3 = (decide (e = .hold) && s.chip.rb rKICK_CTRL 0 0 1)
    ∧ Frame [rPRS_STATUS.addr 0 0] [] s.chip c) ∧
  (∀ (s : State) (k : Word) (t : List RasEvent), s.chip.up .prs = true → s.chip.prs.rasEv = .commit k :: t → s.chip.rb rHWSUB 0 0 0 = false →
    Does s (exec .rasterEventSubmit s) fun c =>
    c.rest = { s.chip.rest with prs := { s.chip.prs with rasEv := t } } ∧ Frame [] [] s.chip c) ∧
  (∀ (s : State) (k : Word) (t : List RasEvent) (q : Nat), s.chip.up .prs = true → s.chip.prs.rasEv = .commit k :: t → s.chip.rb rHWSUB 0 0 0 = true → s.chip.prs.evQ = [] →
    s.chip.prs.exp = none → descBad (s.chip.rasDesc k) = false → s.chip.hwSlot = some q → Does s (exec .rasterEventSubmit s) fun c =>
    c.rest = { s.chip.rest with prs := { s.chip.prs with rasEv := t, items := c.prs.items } } ∧ (c.prs.items.map (·.slot)) = s.chip.prs.items.map (·.slot) ++ [q]
    ∧ (c.prs.items.map (·.desc)) = s.chip.prs.items.map (·.desc) ++ [((List.range 8).map fun i => s.chip.rd rRAS_D i).set 5 k] ∧ Frame [rPRS_POOL.addr 0 0] [] s.chip c) ∧
  (∀ (s : State) (k : Word) (t : List RasEvent), s.chip.up .prs = true → s.chip.prs.rasEv = .commit k :: t → s.chip.rb rHWSUB 0 0 0 = true → s.chip.prs.evQ = [] →
    s.chip.prs.exp = none → descBad (s.chip.rasDesc k) = true → Does s (exec .rasterEventSubmit s) fun c =>
    c.rest = { s.chip.rest with prs := { s.chip.prs with rasEv := t }, err := c.err } ∧ c.rd rPRS_CNT 7 = s.chip.rd rPRS_CNT 7 + 1 ∧ Reports 0x09 0xA6 s.chip c
    ∧ Frame (rPRS_CNT.addr 7 0 :: logRegs 0x09) [209] s.chip c) ∧
  (∀ (s : State) (k : Word) (t : List RasEvent), s.chip.up .prs = true → s.chip.prs.rasEv = .commit k :: t → s.chip.rb rHWSUB 0 0 0 = true →
    s.chip.prs.exp ≠ none ∨ s.chip.hwSlot = none ∧ descBad (s.chip.rasDesc k) = false ∧ s.chip.prs.evQ = [] → Does s (exec .rasterEventSubmit s) fun c =>
    c.rest = { s.chip.rest with prs := { s.chip.prs with rasEv := if 4 ≤ s.chip.prs.evQ.length then s.chip.prs.rasEv else t, evQ := if 4 ≤ s.chip.prs.evQ.length then s.chip.prs.evQ else s.chip.prs.evQ ++ [k] } }
    ∧ Frame [] [] s.chip c) ∧
  (∀ (s : State), s.chip.up .prs = false ∨ s.chip.prs.rasEv = [] → Does s (exec .rasterEventSubmit s) fun c => c.rest = s.chip.rest ∧ Frame [] [] s.chip c)

/-- A request that a running core writes joins its requests where fewer than eight stand open, and stalls the core where eight do; one for a canvas after the next
frame start is counted late as it is issued, with code 0xA4 and interrupt 102. The oldest request without a result gets it: a zone
request its zone's colour; a live request the three components of its entry in press SRAM; SRC 3 or MODE 3 zero; a canvas
with no latched buffer zero, and where it is stale what its policy names: zero or the zone's colour. A point request of a canvas gets the components of the pixel at U, V,
clamped to its edge, in the latched buffer. A read of B takes the oldest
result, and a ninth request takes the place it leaves; before there is a result the read stalls until it comes. A record posted for a port of its kind and of 1 to 62 words on a lane, 1 to 4,096 else, joins the port's
records; another is refused: shown, counted, code 0xA5, interrupt 103. A record for a LANE port with credits becomes a CMD cell of the
Press; one for a DMX or PULSE port takes the filling bank, in place of one there; one for a port of another kind by now is dropped; without credits it waits. -/
def Obligations.press_samplers_and_staging : Prop :=
  (∀ (s : State) (k : Fin 16) (v : Word) (r : SmpReq), s.chip.coreOn k = true → (s.chip.core k).ninth = none → r = ⟨s.chip.rd rSMP_REQ0 k, s.chip.rf rSMP_REQ1 k 0 20 0, fld v 20 0, none⟩ →
    Does s (exec (.sampleRequest k v) s) fun c =>
    c.core k = (if (s.chip.core k).smp.length < 8 then { s.chip.core k with smp := (s.chip.core k).smp ++ [r] } else { s.chip.core k with ninth := some r })
    ∧ c.rest = { s.chip.rest with prs := { s.chip.prs with cores := mset ({} : PCore) s.chip.prs.cores k (c.core k) }, err := c.err }
    ∧ (if (s.chip.core k).smp.length < 8 ∧ fld r.w0 31 30 = 0 ∧ (∃ f ∈ s.chip.prs.kickK, f < gridK s.chip.time.grid s.chip.time.now) then
        c.rd rPRS_CNT 5 = s.chip.rd rPRS_CNT 5 + 1 ∧ c.irqs.getLsbD 102 = true ∧ Reports 0x09 0xA4 s.chip c ∧ Frame (rPRS_CNT.addr 5 0 :: logRegs 0x09) [102, 209] s.chip c
      else c.err = s.chip.err ∧ Frame [] [] s.chip c)) ∧
  (∀ (s : State) (k : Fin 16) (l : List SmpReq) (r : SmpReq) (t : List SmpReq) (v : Nat × Nat × Nat), s.chip.coreOn k = true → (s.chip.core k).smp = l ++ r :: t → (∀ x ∈ l, x.res ≠ none) → r.res = none →
    (fld r.w0 29 28 = 3 ∨ fld r.w0 31 30 = 3) ∧ v = (0, 0, 0)
      ∨ fld r.w0 29 28 ≠ 3 ∧ fld r.w0 31 30 = 1 ∧ v = s.chip.zoneColour (fld r.w0 7 0)
      ∨ fld r.w0 29 28 ≠ 3 ∧ fld r.w0 31 30 = 0 ∧ s.chip.rb rCANV_STAT (fld r.w0 27 26) 0 2 = false ∧ (s.chip.rb rSMP_BUF (fld r.w0 27 26) 0 0 = true ∨ s.chip.prs.kickK = none) ∧ v = (0, 0, 0)
      ∨ fld r.w0 29 28 ≠ 3 ∧ fld r.w0 31 30 = 0 ∧ s.chip.rb rCANV_STAT (fld r.w0 27 26) 0 2 = true ∧ s.chip.rf rPRS_FB 0 0 (2 * fld r.w0 27 26 + 1) (2 * fld r.w0 27 26) = 1
        ∧ (s.chip.rb rSMP_BUF (fld r.w0 27 26) 0 0 = true ∨ s.chip.prs.kickK = none) ∧ v = (0, 0, 0)
      ∨ fld r.w0 29 28 ≠ 3 ∧ fld r.w0 31 30 = 0 ∧ s.chip.rb rCANV_STAT (fld r.w0 27 26) 0 2 = true ∧ s.chip.rf rPRS_FB 0 0 (2 * fld r.w0 27 26 + 1) (2 * fld r.w0 27 26) = 3
        ∧ (s.chip.rb rSMP_BUF (fld r.w0 27 26) 0 0 = true ∨ s.chip.prs.kickK = none) ∧ v = s.chip.zoneColour (fld r.w0 7 0)
      ∨ fld r.w0 29 28 ≠ 3 ∧ fld r.w0 31 30 = 2 ∧ s.chip.sram.errs = [] ∧ 0x40000000 ≤ (s.chip.rd rLIVE_BASE).toNat ∧ (s.chip.rd rLIVE_BASE).toNat + 32768 ≤ 0x40200000
        ∧ v = (let e := s.chip.bytes ((s.chip.rd rLIVE_BASE).toNat + 8 * fld r.w0 11 0) 8; (leNat (slice e 0 2), leNat (slice e 2 2), leNat (slice e 4 2))) →
    (s.chip.core k).smpStall = none → Does s (exec (.sampleResult k) s) fun c =>
    (c.core k).smp = l ++ { r with res := some v } :: t
    ∧ c.rest = { s.chip.rest with prs := { s.chip.prs with cores := mset ({} : PCore) s.chip.prs.cores k { s.chip.core k with smp := (c.core k).smp } } } ∧ Frame [] [] s.chip c) ∧
  (∀ (s : State) (k : Fin 16) (r : SmpReq) (t : List SmpReq) (cv a x y : Nat) (g : Geom) (l : List Byte), s.chip.coreOn k = true → (s.chip.core k).smp = r :: t → r.res = none → fld r.w0 31 30 = 0 →
    fld r.w0 29 28 = 0 → cv = fld r.w0 27 26 → s.chip.rb rCANV_STAT cv 0 2 = false → s.chip.rb rSMP_BUF cv 0 0 = false → s.chip.prs.kickK ≠ none → s.chip.prs.cache = [] → s.chip.celCalm →
    (s.chip.core k).smpStall = none → g = s.chip.viewGeom cv → x = min (r.u / 256) (g.w - 1) → y = min (r.v / 256) (g.h - 1) →
    a = (s.chip.rd rSMP_BUF cv).toNat + y * g.stride + x / ppgOf g.fmt * groupBytes g.fmt → celBase ≤ a → a + 128 ≤ 0x98000000 → l = s.chip.bytes a (groupBytes g.fmt) →
    Does s (exec (.sampleResult k) s) fun c =>
    (c.core k).smp = { r with res := some (n16 g.fmt (sampleOf g.fmt (x % ppgOf g.fmt) 0 l), n16 g.fmt (sampleOf g.fmt (x % ppgOf g.fmt) 1 l), n16 g.fmt (sampleOf g.fmt (x % ppgOf g.fmt) 2 l)) } :: t
    ∧ c.rest = { s.chip.rest with prs := { s.chip.prs with cores := c.prs.cores, cache := c.prs.cache }, cel := c.cel, err := c.err } ∧ Frame celRegs celIrqs s.chip c) ∧
  (∀ (s : State) (k : Fin 16) (r : SmpReq) (t : List SmpReq), s.chip.coreOn k = true → (s.chip.core k).smp = r :: t → r.res = none → fld r.w0 31 30 = 1 → fld r.w0 29 28 ≠ 3 →
    (s.chip.core k).ninth = none → (s.chip.core k).smpStall = some true → Does s (exec (.sampleResult k) s) fun c =>
    c.rsp = { val := BitVec.ofNat 32 (s.chip.zoneColour (fld r.w0 7 0)).2.2, err := false } ∧ c.core k = { s.chip.core k with smp := t, smpStall := none }
    ∧ c.rest = { s.chip.rest with prs := { s.chip.prs with cores := mset ({} : PCore) s.chip.prs.cores k (c.core k) } } ∧ Frame [] [] s.chip c) ∧
  (∀ (s : State) (k : Fin 16), s.chip.coreOn k = false ∨ (∀ r ∈ (s.chip.core k).smp, r.res ≠ none) → Does s (exec (.sampleResult k) s) fun c => c.rest = s.chip.rest ∧ c.rsp = s.chip.rsp ∧ Frame [] [] s.chip c) ∧
  (∀ (s : State) (k : Fin 16), s.chip.coreOn k = true → (s.chip.core k).smp.head?.bind (·.res) = none → Does s (exec (.samplePop k) s) fun c =>
    c.rsp = s.chip.rsp ∧ c.core k = { s.chip.core k with smpStall := some true }
    ∧ c.rest = { s.chip.rest with prs := { s.chip.prs with cores := mset ({} : PCore) s.chip.prs.cores k (c.core k) } } ∧ Frame [] [] s.chip c) ∧
  (∀ (s : State) (k : Fin 16) (r : SmpReq) (t : List SmpReq) (v : Nat × Nat × Nat), s.chip.coreOn k = true → (s.chip.core k).smp = r :: t → r.res = some v →
    (∀ n ∈ (s.chip.core k).ninth, fld n.w0 31 30 ≠ 0 ∨ s.chip.prs.kickK = none) → Does s (exec (.samplePop k) s) fun c =>
    c.rsp = { val := BitVec.ofNat 32 v.2.2, err := false } ∧ c.core k = { s.chip.core k with smp := t ++ (s.chip.core k).ninth.toList, ninth := none, smpStall := none }
    ∧ c.rest = { s.chip.rest with prs := { s.chip.prs with cores := mset ({} : PCore) s.chip.prs.cores k (c.core k) } } ∧ Frame [] [] s.chip c) ∧
  (∀ (s : State) (k : Fin 16) (v : Word) (h : Word) (p : Nat), s.chip.coreOn k = true → h = s.chip.word (0x40000000 + fld v 31 20 * 512) → p = fld v 5 0 → p < 48 →
    kindOf (s.chip.modeNow p) = fld h 31 28 → s.chip.ringOdd p = false → 1 ≤ fld h 15 0 → fld h 15 0 ≤ (if s.chip.isLane p = true then 62 else 4096) → Does s (exec (.pcwStgPost k v) s) fun c =>
    mget [] c.prs.stg p = mget [] s.chip.prs.stg p ++ [⟨k.val, 0x40000000 + fld v 31 20 * 512⟩] ∧ c.core k = { s.chip.core k with refused := false }
    ∧ c.rest = { s.chip.rest with prs := { s.chip.prs with cores := mset ({} : PCore) s.chip.prs.cores k (c.core k), stg := mset [] s.chip.prs.stg p (mget [] c.prs.stg p) } } ∧ Frame [] [] s.chip c) ∧
  (∀ (s : State) (k : Fin 16) (v : Word) (h : Word) (p : Nat), s.chip.coreOn k = true → h = s.chip.word (0x40000000 + fld v 31 20 * 512) → p = fld v 5 0 →
    48 ≤ p ∨ kindOf (s.chip.modeNow p) ≠ fld h 31 28 ∨ s.chip.ringOdd p = true ∨ fld h 15 0 = 0 ∨ 4096 < fld h 15 0 ∨ s.chip.isLane p = true ∧ 62 < fld h 15 0 → Does s (exec (.pcwStgPost k v) s) fun c =>
    c.core k = { s.chip.core k with refused := true } ∧ c.rd rPRS_CNT 6 = s.chip.rd rPRS_CNT 6 + 1 ∧ Reports 0x09 0xA5 s.chip c ∧ c.irqs.getLsbD 103 = true
    ∧ c.rest = { s.chip.rest with prs := { s.chip.prs with cores := mset ({} : PCore) s.chip.prs.cores k (c.core k) }, err := c.err } ∧ Frame (rPRS_CNT.addr 6 0 :: logRegs 0x09) [103, 209] s.chip c) ∧
  (∀ (s : State) (p : Fin 48) (r : Posted) (t : List Posted) (h : Word), s.chip.up .prs = true → s.chip.up (.bank (bankOf p)) = true → mget [] s.chip.prs.stg p = r :: t →
    h = s.chip.word r.addr → s.chip.isLane p = true → fld h 31 28 = 0 → s.chip.room p false (fld h 15 0) = true → s.chip.cutOff [0x30 + bankOf p] = false → fld h 15 0 ≤ 62 →
    0x40000000 ≤ r.addr → r.addr + 512 ≤ 0x40200000 → Does s (exec (.stagingMove p) s) fun c =>
    c.port p = { s.chip.port p with cells := (s.chip.port p).cells ++ [⟨false, cellHead 3 (fld h 27 16) (fld h 15 0) 0, (s.chip.port p).prsWr, fld h 15 0⟩], prsWr := (s.chip.port p).prsWr + fld h 15 0 }
    ∧ c.ringGet p false (s.chip.port p).prsWr (fld h 15 0) = s.chip.words (r.addr + 4) (fld h 15 0)
    ∧ c.rest = { s.chip.rest with prs := { s.chip.prs with stg := mset [] s.chip.prs.stg p t }, ports := mset ({} : Port) s.chip.ports p (c.port p), mem := c.mem } ∧ Frame [] [] s.chip c) ∧
  (∀ (s : State) (p : Fin 48) (r : Posted) (t : List Posted) (h : Word), s.chip.up .prs = true → s.chip.up (.bank (bankOf p)) = true → mget [] s.chip.prs.stg p = r :: t →
    h = s.chip.word r.addr → s.chip.modeNow p = 2 ∧ fld h 31 28 = 2 ∨ s.chip.modeNow p = 3 ∧ fld h 31 28 = 1 → (s.chip.port p).crdBad = false → s.chip.cutOff [0x30 + bankOf p] = false →
    1 ≤ fld h 15 0 → fld h 15 0 ≤ 4096 → 0x40000000 ≤ r.addr → r.addr + 0x4004 ≤ 0x40200000 → Does s (exec (.stagingMove p) s) fun c =>
    c.port p = { s.chip.port p with filling := some ⟨fld h 27 16, fld h 15 0⟩ }
    ∧ c.words (0x50000000 + p * 0x8000 + (if (s.chip.port p).drain = true then 0 else 0x4000)) (fld h 15 0) = s.chip.words (r.addr + 4) (fld h 15 0)
    ∧ c.rd rPORT_CNT p 6 = s.chip.rd rPORT_CNT p 6 + (if (s.chip.port p).filling = none then 0 else 1)
    ∧ c.rest = { s.chip.rest with prs := { s.chip.prs with stg := mset [] s.chip.prs.stg p t }, ports := mset ({} : Port) s.chip.ports p (c.port p), mem := c.mem }
    ∧ SameBytes (fun n => 0x50000000 + p * 0x8000 ≤ n ∧ n < 0x50000000 + (p + 1) * 0x8000) s.chip c ∧ Frame [rPORT_CNT.addr p 6] [] s.chip c) ∧
  (∀ (s : State) (p : Fin 48) (r : Posted) (t : List Posted) (h : Word), s.chip.up .prs = true → s.chip.up (.bank (bankOf p)) = true → mget [] s.chip.prs.stg p = r :: t →
    h = s.chip.word r.addr → s.chip.isLane p = false ∨ fld h 31 28 ≠ 0 → kindOf (s.chip.modeNow p) ≠ fld h 31 28 → (s.chip.port p).crdBad = false → Does s (exec (.stagingMove p) s) fun c =>
    c.rest = { s.chip.rest with prs := { s.chip.prs with stg := mset [] s.chip.prs.stg p t } } ∧ Frame [] [] s.chip c) ∧
  (∀ (s : State) (p : Fin 48), s.chip.up .prs = false ∨ s.chip.up (.bank (bankOf p)) = false ∨ mget [] s.chip.prs.stg p = [] ∨ (s.chip.port p).crdBad = true
      ∨ s.chip.isLane p = true ∧ (∃ r ∈ (mget [] s.chip.prs.stg p).head?, fld (s.chip.word r.addr) 31 28 = 0 ∧ s.chip.room p false (fld (s.chip.word r.addr) 15 0) = false) →
    Does s (exec (.stagingMove p) s) fun c => c.rest = s.chip.rest ∧ Frame [] [] s.chip c)

/-- LANE port p, no planned swap or release at hand and the pair logic at rest. A window opens where cells stand ready or no run feeds the
port: WINDOW, nothing sent; with cells ready after a hold, a release or a loss of drive, or as the raster engine resumes, RESUME is to go out first, and a loss ends: shown and caused. Where the
run map feeds the port and no cell stands ready, it is a loss of drive: shown, counted, caused, code 0xB0, HOLD to send. In a watchdog
hold no window opens. Drive and DIAG cells not sent by then are cut: counted, code 0xC5, interrupt 165. At a cell boundary a cell due at once goes out
(in witness mode: is consumed); in the window a committed cell that ends by P(k) does, its words entering the port's signature, but a NODE cell on a version 1 lane gives an
IDLE cell, counted, with code 0xB9; a committed cell that would end later waits behind an IDLE cell; an IDLE cell after the first cell with payload still to come is an underrun,
counted, the first of the frame with code 0x86 and interrupt 86. Outside a window a STATUS cell that may still start goes out, a drive or DIAG cell that may
still end, else an IDLE cell; in retraining a TRAIN cell; with the bank stopped or PRESENT due, nothing. An insert that waits goes before the START. A cell whose trailer is
not its CRC is counted; the fourth in a row loses receive lock. The third good one in a row at cell spacing gains lock. A STATUS cell on a locked
port goes to the return path; a reflected cell's NACK is kept, a new one with code 0xBA; a paired witness port sends the cell back. Two cell times of silence lose lock: shown, caused, counted and, while the bank's clock
runs, logged; in a ring pair the ring is broken: shown, caused, code 0xB2. -/
def Obligations.lane_cells : Prop :=
  (∀ (s : State) (p : Fin 48) (res : Bool), s.chip.up .pix = true → s.chip.rb rRAS_CTRL 0 0 0 = true → s.chip.ras.inFrame = true → s.chip.ras.hold = none →
    s.chip.isLane p = true → s.chip.ringOdd p = false → s.chip.bankReady p = true → (s.chip.bank (bankOf p)).wdhold = false → s.chip.cdr.swap = none →
    s.chip.cdr.swapLeft.getLsbD p = false → s.chip.cdr.releases = [] → s.chip.pairCalm → (s.chip.port p).blank = [] → (s.chip.port p).cells ≠ [] ∨ s.chip.fed p = false →
    (res = true ↔ s.chip.ras.resume = true ∨ ((s.chip.port p).held = true ∨ (s.chip.port p).released = true ∨ s.chip.rb rPORT_STATUS p 0 14 = true) ∧ (s.chip.port p).cells ≠ []) →
    Does s (exec (.windowOpen p) s) fun c =>
    c.port p = { s.chip.port p with window := true, soloWait := false, opened := true, held := (s.chip.port p).held && !res, released := (s.chip.port p).released && !res, urgent := (s.chip.port p).urgent ++ if res = true then [Chip.resumeCell (s.chip.setPort p { s.chip.port p with soloWait := false }) p] else [] }
    ∧ c.rest = { s.chip.rest with ports := mset ({} : Port) s.chip.ports p (c.port p) }
    ∧ (if s.chip.rb rPORT_STATUS p 0 14 = true ∧ (s.chip.port p).cells ≠ [] then
        c.rb rPORT_STATUS p 0 14 = false ∧ c.rb rPIRQ_STAT p 0 1 = true ∧ Frame [rPORT_STATUS.addr p 0, rPIRQ_STAT.addr p 0] [] s.chip c
      else Frame [] [] s.chip c)) ∧
  (∀ (s : State) (p : Fin 48), s.chip.up .pix = true → s.chip.rb rRAS_CTRL 0 0 0 = true → s.chip.ras.inFrame = true → s.chip.ras.hold = none →
    s.chip.isLane p = true → s.chip.ringOdd p = false → s.chip.bankReady p = true → (s.chip.bank (bankOf p)).wdhold = false → s.chip.cdr.swap = none →
    s.chip.cdr.swapLeft.getLsbD p = false → s.chip.cdr.releases = [] → s.chip.pairCalm → (s.chip.port p).blank = [] → (s.chip.port p).cells = [] → s.chip.fed p = true →
    Does s (exec (.windowOpen p) s) fun c =>
    c.rest = { s.chip.rest with ports := mset ({} : Port) s.chip.ports p { s.chip.port p with window := false, opened := true, soloWait := false, held := true, released := false, loss := true, urgent := (s.chip.port p).urgent ++ [Chip.holdCell (s.chip.setPort p { s.chip.port p with soloWait := false, held := true }) p] }, err := c.err }
    ∧ c.rb rPORT_STATUS p 0 14 = true ∧ c.rd rPORT_CNT p 4 = s.chip.rd rPORT_CNT p 4 + 1 ∧ c.rb rPIRQ_STAT p 0 0 = true ∧ Reports (0x10 + p) 0xB0 s.chip c
    ∧ Frame (rPORT_STATUS.addr p 0 :: rPORT_CNT.addr p 4 :: rPIRQ_STAT.addr p 0 :: logRegs (0x10 + p)) [209] s.chip c) ∧
  (∀ (s : State) (p : Fin 48), s.chip.up .pix = true → s.chip.rb rRAS_CTRL 0 0 0 = true → s.chip.ras.inFrame = true → s.chip.ras.hold = none →
    s.chip.isLane p = true → s.chip.ringOdd p = false → s.chip.bankReady p = true → (s.chip.bank (bankOf p)).wdhold = true → s.chip.cdr.swap = none →
    s.chip.cdr.swapLeft.getLsbD p = false → s.chip.cdr.releases = [] → s.chip.pairCalm → (s.chip.port p).blank = [] → Does s (exec (.windowOpen p) s) fun c =>
    c.rest = { s.chip.rest with ports := mset ({} : Port) s.chip.ports p { s.chip.port p with window := false, opened := true, soloWait := false } } ∧ Frame [] [] s.chip c) ∧
  (∀ (s : State) (p : Fin 48) (l : List OwnCell), s.chip.up .pix = true → s.chip.rb rRAS_CTRL 0 0 0 = true → s.chip.ras.inFrame = true → s.chip.ras.hold = none →
    s.chip.isLane p = true → s.chip.ringOdd p = false → s.chip.bankReady p = true → s.chip.cdr.swap = none → s.chip.cdr.swapLeft.getLsbD p = false → s.chip.cdr.releases = [] → s.chip.pairCalm →
    (s.chip.bank (bankOf p)).wdhold = true → l = (s.chip.port p).blank.filter (fun k => fld k.head 31 28 ≠ 0xC) → l ≠ [] → Does s (exec (.windowOpen p) s) fun c =>
    c.port p = { s.chip.port p with blank := [], window := false, opened := true, soloWait := false } ∧ c.rd rDRV_CNT 5 = s.chip.rd rDRV_CNT 5 + BitVec.ofNat 32 l.length
    ∧ c.rb rDRV_STATUS 0 0 4 = true ∧ Reports 0x40 0xC5 s.chip c ∧ c.irqs.getLsbD 165 = true
    ∧ c.rest = { s.chip.rest with ports := mset ({} : Port) s.chip.ports p (c.port p), drv := c.drv, err := c.err }
    ∧ Frame (rDRV_CNT.addr 5 0 :: rDRV_STATUS.addr 0 0 :: logRegs 0x40) [165, 209] s.chip c) ∧
  (∀ (s : State) (p : Fin 48), s.chip.up .pix = false ∨ s.chip.rb rRAS_CTRL 0 0 0 = false ∨ s.chip.ras.inFrame = false ∨ s.chip.ras.hold ≠ none ∨ s.chip.isLane p = false ∨ s.chip.ringOdd p = true
      ∨ s.chip.bankReady p = false → Does s (exec (.windowOpen p) s) fun c => c.rest = s.chip.rest ∧ Frame [] [] s.chip c) ∧
  (∀ (s : State) (p : Fin 48) (k : OwnCell) (t : List OwnCell), s.chip.up (.bank (bankOf p)) = true → s.chip.isLane p = true → s.chip.ringOdd p = false →
    (s.chip.bank (bankOf p)).step = 0 → (s.chip.port p).presentDue = false → (s.chip.port p).urgent = k :: t → s.chip.insertFrom p = none →
    Does s (exec (.laneCellLaunch p) s) fun c =>
    Sends p k.head (if fld k.head 31 28 = 7 then k.words.take 3 ++ [BitVec.ofNat 32 (s.chip.time.now - s.chip.ras.start)] else k.words) s.chip c
    ∧ c.rest = { s.chip.rest with wire := c.wire, ports := mset ({} : Port) s.chip.ports p { s.chip.port p with urgent := t, seq := (c.port p).seq, returned := (c.port p).returned, holdFirst := fld k.head 31 28 ≠ 6 && (s.chip.port p).holdFirst } }
    ∧ Frame (s.chip.sendRegs p) [] s.chip c) ∧
  (∀ (s : State) (p : Fin 48) (k : PCell) (t : List PCell) (ws : List Word), s.chip.up (.bank (bankOf p)) = true → s.chip.isLane p = true → s.chip.ringOdd p = false →
    (s.chip.bank (bankOf p)).step = 0 → (s.chip.port p).presentDue = false → (s.chip.port p).urgent = [] → (s.chip.port p).window = true → (s.chip.port p).cells = k :: t →
    s.chip.time.now + s.chip.cellTime p ≤ s.chip.ras.start + s.chip.tw → fld k.head 31 28 ≠ 2 ∨ s.chip.laneVer p = 2 → s.chip.insertFrom p = none →
    ws = s.chip.ringGet p k.raster k.pos k.len → Does s (exec (.laneCellLaunch p) s) fun c =>
    Sends p k.head ws s.chip c
    ∧ c.port p = { (s.chip.port p).consume k with cells := t, seq := (c.port p).seq, returned := (c.port p).returned }
    ∧ (c.sum p) = { s.chip.sum p with crc := crcOn (s.chip.sum p).crc ws, words := (s.chip.sum p).words + k.len, cells := (s.chip.sum p).cells + 1, started := true }
    ∧ c.ras.nodeCrc = (if fld k.head 27 16 = 0 then s.chip.ras.nodeCrc else
        mset 0xFFFFFFFF s.chip.ras.nodeCrc (p * 4096 + fld k.head 27 16) (crcOn (mget 0xFFFFFFFF s.chip.ras.nodeCrc (p * 4096 + fld k.head 27 16)) ws))
    ∧ c.rest = { s.chip.rest with wire := c.wire, ports := mset ({} : Port) s.chip.ports p (c.port p), ras := { s.chip.ras with sums := mset ({} : PortSum) s.chip.ras.sums p (c.sum p), nodeCrc := c.ras.nodeCrc } }
    ∧ Frame (s.chip.sendRegs p) [] s.chip c) ∧
  (∀ (s : State) (p : Fin 48) (k : PCell) (t : List PCell), s.chip.up (.bank (bankOf p)) = true → s.chip.isLane p = true → s.chip.ringOdd p = false →
    (s.chip.bank (bankOf p)).step = 0 → (s.chip.port p).presentDue = false → (s.chip.port p).urgent = [] → (s.chip.port p).window = true → (s.chip.port p).cells = k :: t →
    s.chip.time.now + s.chip.cellTime p ≤ s.chip.ras.start + s.chip.tw → fld k.head 31 28 = 2 → s.chip.laneVer p = 1 → s.chip.insertFrom p = none → Does s (exec (.laneCellLaunch p) s) fun c =>
    Sends p (cellHead 0 0 1 0) [s.chip.epochWord p (s.chip.port p).ftag] s.chip c ∧ c.rd rLV1DROP p = s.chip.rd rLV1DROP p + 1 ∧ Reports (0x10 + p) 0xB9 s.chip c
    ∧ c.rest = { s.chip.rest with wire := c.wire, ports := mset ({} : Port) s.chip.ports p { (s.chip.port p).consume k with cells := t, seq := (c.port p).seq, returned := (c.port p).returned }, err := c.err }
    ∧ Frame (rLV1DROP.addr p 0 :: s.chip.sendRegs p ++ logRegs (0x10 + p)) [209] s.chip c) ∧
  (∀ (s : State) (p : Fin 48), s.chip.up (.bank (bankOf p)) = true → s.chip.isLane p = true → s.chip.ringOdd p = false → (s.chip.bank (bankOf p)).step = 0 →
    (s.chip.port p).presentDue = false → (s.chip.port p).urgent = [] → s.chip.insertFrom p = none →
    (s.chip.port p).window = false ∧ (s.chip.port p).blank = []
      ∨ (s.chip.port p).window = true ∧ ((s.chip.port p).cells = [] ∧ ((s.chip.sum p).started = false ∨ ∀ f ∈ s.chip.ras.fetch, f.1 ≠ p ∨ f.2.done = true)
        ∨ (s.chip.port p).cells ≠ [] ∧ s.chip.ras.start + s.chip.tw < s.chip.time.now + s.chip.cellTime p) → Does s (exec (.laneCellLaunch p) s) fun c =>
    Sends p (cellHead 0 0 1 0) [s.chip.epochWord p (s.chip.port p).ftag] s.chip c
    ∧ c.rest = { s.chip.rest with wire := c.wire, ports := mset ({} : Port) s.chip.ports p { s.chip.port p with seq := (c.port p).seq, returned := (c.port p).returned } }
    ∧ Frame (s.chip.sendRegs p) [] s.chip c) ∧
  (∀ (s : State) (p : Fin 48), s.chip.up (.bank (bankOf p)) = true → s.chip.isLane p = true → s.chip.ringOdd p = false → (s.chip.bank (bankOf p)).step = 0 →
    (s.chip.port p).presentDue = false → (s.chip.port p).urgent = [] → s.chip.insertFrom p = none → (s.chip.port p).window = true → (s.chip.port p).cells = [] → (s.chip.sum p).started = true →
    (∃ f ∈ s.chip.ras.fetch, f.1 = p ∧ f.2.done = false) → Does s (exec (.laneCellLaunch p) s) fun c =>
    Sends p (cellHead 0 0 1 0) [s.chip.epochWord p (s.chip.port p).ftag] s.chip c ∧ c.rd rRAS_CNT 2 = s.chip.rd rRAS_CNT 2 + 1 ∧ (c.sum p) = { s.chip.sum p with underrun := true }
    ∧ c.rest = { s.chip.rest with wire := c.wire, ports := mset ({} : Port) s.chip.ports p { s.chip.port p with seq := (c.port p).seq, returned := (c.port p).returned }, ras := { s.chip.ras with sums := mset ({} : PortSum) s.chip.ras.sums p (c.sum p) }, err := c.err }
    ∧ (if ∀ q : Fin 48, (s.chip.sum q).underrun = false then Reports 0x07 0x86 s.chip c ∧ c.irqs.getLsbD 86 = true ∧ Frame (rRAS_CNT.addr 2 0 :: s.chip.sendRegs p ++ logRegs 0x07) [86, 209] s.chip c
      else c.err = s.chip.err ∧ Frame (rRAS_CNT.addr 2 0 :: s.chip.sendRegs p) [] s.chip c)) ∧
  (∀ (s : State) (p : Fin 48) (k : OwnCell) (t : List OwnCell), s.chip.up (.bank (bankOf p)) = true → s.chip.isLane p = true → s.chip.ringOdd p = false → (s.chip.bank (bankOf p)).step = 0 →
    (s.chip.port p).presentDue = false → (s.chip.port p).urgent = [] → s.chip.insertFrom p = none → (s.chip.port p).window = false → (s.chip.port p).blank = k :: t →
    fld k.head 31 28 = 0xC ∧ s.chip.time.now < (s.chip.port p).blankEnd
      ∨ fld k.head 31 28 = 8 ∧ 8 * (s.chip.time.now + s.chip.cellTime p) + (s.chip.rd rLT0A p).toNat + 16000 ≤ 8 * (s.chip.port p).blankEnd → Does s (exec (.laneCellLaunch p) s) fun c =>
    Sends p k.head k.words s.chip c ∧ c.rd rDRV_CNT 4 = s.chip.rd rDRV_CNT 4 + (if fld k.head 31 28 = 8 then 1 else 0)
    ∧ c.rest = { s.chip.rest with wire := c.wire, ports := mset ({} : Port) s.chip.ports p { s.chip.port p with blank := t, seq := (c.port p).seq, returned := (c.port p).returned }, ras := { s.chip.ras with nodeCrc := c.ras.nodeCrc } }
    ∧ Frame ((if fld k.head 31 28 = 8 then [rDRV_CNT.addr 4 0] else []) ++ s.chip.sendRegs p) [] s.chip c) ∧
  (∀ (s : State) (p : Fin 48) (k : OwnCell) (t : List OwnCell), s.chip.up (.bank (bankOf p)) = true → s.chip.isLane p = true → s.chip.ringOdd p = false → (s.chip.bank (bankOf p)).step = 0 →
    (s.chip.port p).presentDue = false → (s.chip.port p).urgent = [] → s.chip.insertFrom p = none → (s.chip.port p).window = false → (s.chip.port p).blank = k :: t → fld k.head 31 28 = 3 →
    8 * (s.chip.time.now + s.chip.cellTime p) + (s.chip.rd rLT0A p).toNat + 16000 ≤ 8 * (s.chip.port p).blankEnd → Does s (exec (.laneCellLaunch p) s) fun c =>
    Sends p k.head k.words s.chip c
    ∧ c.rest = { s.chip.rest with wire := c.wire, ports := mset ({} : Port) s.chip.ports p { s.chip.port p with blank := t, seq := (c.port p).seq, returned := (c.port p).returned }, drv := c.drv }
    ∧ Frame (s.chip.sendRegs p) [] s.chip c) ∧
  (∀ (s : State) (p : Fin 48) (k : OwnCell) (t l : List OwnCell), s.chip.up (.bank (bankOf p)) = true → s.chip.isLane p = true → s.chip.ringOdd p = false → (s.chip.bank (bankOf p)).step = 0 →
    (s.chip.port p).presentDue = false → (s.chip.port p).urgent = [] → s.chip.insertFrom p = none → (s.chip.port p).window = false → (s.chip.port p).blank = k :: t → fld k.head 31 28 ≠ 0xC →
    l = (s.chip.port p).blank.filter (fun k => fld k.head 31 28 ≠ 0xC) → 8 * (s.chip.port p).blankEnd < 8 * (s.chip.time.now + s.chip.cellTime p) + (s.chip.rd rLT0A p).toNat + 16000 →
    Does s (exec (.laneCellLaunch p) s) fun c =>
    Sends p (cellHead 0 0 1 0) [s.chip.epochWord p (s.chip.port p).ftag] s.chip c ∧ (c.port p).blank = [] ∧ c.rd rDRV_CNT 5 = s.chip.rd rDRV_CNT 5 + BitVec.ofNat 32 l.length
    ∧ c.rb rDRV_STATUS 0 0 4 = true ∧ Reports 0x40 0xC5 s.chip c ∧ c.irqs.getLsbD 165 = true
    ∧ Frame (rDRV_CNT.addr 5 0 :: rDRV_STATUS.addr 0 0 :: s.chip.sendRegs p ++ logRegs 0x40) [165, 209] s.chip c) ∧
  (∀ (s : State) (p : Fin 48), s.chip.up (.bank (bankOf p)) = true → s.chip.isLane p = true → s.chip.ringOdd p = false → (s.chip.bank (bankOf p)).step = 2 →
    s.chip.insertFrom p = none → Does s (exec (.laneCellLaunch p) s) fun c =>
    Sends p (cellHead 0xA 0 62 0) trainWords s.chip c
    ∧ c.rest = { s.chip.rest with wire := c.wire, ports := mset ({} : Port) s.chip.ports p { s.chip.port p with seq := (c.port p).seq, returned := (c.port p).returned } }
    ∧ Frame (s.chip.sendRegs p) [] s.chip c) ∧
  (∀ (s : State) (p : Fin 48), s.chip.up (.bank (bankOf p)) = false ∨ s.chip.isLane p = false ∨ s.chip.ringOdd p = true
      ∨ s.chip.insertFrom p = none ∧ ((s.chip.bank (bankOf p)).step = 1 ∨ (s.chip.bank (bankOf p)).step ≠ 2 ∧ (s.chip.port p).presentDue = true) → Does s (exec (.laneCellLaunch p) s) fun c =>
    c.rest = s.chip.rest ∧ Frame [] [] s.chip c) ∧
  (∀ (s : State) (p : Fin 48) (e : UrgEnt), s.chip.bankReady p = true → s.chip.isLane p = true → s.chip.ringOdd p = false → s.chip.urgQueue 0 (bankOf p) = [e] → s.chip.urgQueue 1 (bankOf p) = [] →
    e.words = 1 → e.left = 1#8 <<< (p.val % 8) → (s.chip.port p).ringNow = false → s.chip.witness p = false → (s.chip.port p).presentDue = false → (s.chip.port p).urgent = [] → (s.chip.port p).window = false →
    (s.chip.port p).blank = [] → Does s (exec (.laneCellLaunch p) s) fun c =>
    c.wire = .cell p (cellWire (setFld (cellHead 0 0 1 0) 15 8 (s.chip.port p).seq.toNat) [s.chip.epochWord p (s.chip.port p).ftag]) :: .insert p (insertWords (s.chip.laneVer p) [e.word]) :: s.chip.wire
    ∧ c.urgQueue 0 (bankOf p) = [] ∧ c.rd rPORT_CNT p 9 = s.chip.rd rPORT_CNT p 9 + 1 ∧ c.rd rPORT_CNT p 0 = s.chip.rd rPORT_CNT p 0 + 1
    ∧ Frame [rPORT_CNT.addr p 0, rPORT_CNT.addr p 9] [] s.chip c) ∧
  (∀ (s : State) (p : Fin 48) (x : RxCell), s.chip.up (.bank (bankOf p)) = true → s.chip.isLane p = true → (s.chip.bank (bankOf p)).step ≠ 1 → wordsCrc (x.head :: x.slots) ≠ x.trailer →
    (s.chip.port p).rxBad < 3 ∨ s.chip.rb rPORT_STATUS p 0 10 = false → Does s (exec (.laneCellReceive p x) s) fun c =>
    c.rest = { s.chip.rest with ports := mset ({} : Port) s.chip.ports p { s.chip.port p with rxGood := 0, rxBad := if (s.chip.port p).rxBad < 3 then (s.chip.port p).rxBad + 1 else 0 } }
    ∧ c.rd rPORT_CNT p 2 = s.chip.rd rPORT_CNT p 2 + 1 ∧ Frame [rPORT_CNT.addr p 2] [] s.chip c) ∧
  (∀ (s : State) (p : Fin 48) (x : RxCell), s.chip.up (.bank (bankOf p)) = true → s.chip.isLane p = true → (s.chip.bank (bankOf p)).step ≠ 1 → wordsCrc (x.head :: x.slots) ≠ x.trailer →
    3 ≤ (s.chip.port p).rxBad → s.chip.rb rPORT_STATUS p 0 10 = true → (s.chip.port (p / 2 * 2)).ringNow = false → Does s (exec (.laneCellReceive p x) s) fun c =>
    c.rest = { s.chip.rest with ports := mset ({} : Port) s.chip.ports p { s.chip.port p with rxGood := 0, rxBad := 0 }, err := c.err }
    ∧ c.rd rPORT_CNT p 2 = s.chip.rd rPORT_CNT p 2 + 1 ∧ c.rb rPORT_STATUS p 0 10 = false ∧ c.rb rPIRQ_STAT p 0 2 = true ∧ c.rd rPORT_CNT p 3 = s.chip.rd rPORT_CNT p 3 + 1 ∧ Reports (0x10 + p) 0xB1 s.chip c
    ∧ Frame (rPORT_CNT.addr p 2 :: rPORT_STATUS.addr p 0 :: rPIRQ_STAT.addr p 0 :: rPORT_CNT.addr p 3 :: logRegs (0x10 + p)) [209] s.chip c) ∧
  (∀ (s : State) (p : Fin 48) (x : RxCell) (n : Nat), s.chip.up (.bank (bankOf p)) = true → s.chip.isLane p = true → (s.chip.bank (bankOf p)).step ≠ 1 → wordsCrc (x.head :: x.slots) = x.trailer →
    bit x.head 1 = false → s.chip.paired p = false → n = (if x.spaced = true then (s.chip.port p).rxGood + 1 else 1) → fld x.head 31 28 ≠ 0xD → Does s (exec (.laneCellReceive p x) s) fun c =>
    c.rest = { s.chip.rest with ports := mset ({} : Port) s.chip.ports p { s.chip.port p with rxGood := n, rxBad := 0 }, cdr := { s.chip.cdr with heard := s.chip.cdr.heard ||| (1#48 <<< p.val) }, retQ := s.chip.retQ ++ if fld x.head 31 28 = 0xC ∧ (s.chip.rb rPORT_STATUS p 0 10 = true ∨ 3 ≤ n) then [⟨p.val, x.head, x.slots.take (fld x.head 7 2), x.quarter⟩] else [] }
    ∧ (if 3 ≤ n ∧ s.chip.rb rPORT_STATUS p 0 10 = false then c.rb rPORT_STATUS p 0 10 = true ∧ c.rb rPORT_STATUS p 0 11 = false ∧ c.rb rPIRQ_STAT p 0 2 = true
        ∧ Frame [rPORT_STATUS.addr p 0, rPIRQ_STAT.addr p 0, rPORT_CNT.addr p 1, rLRSTAT.addr p 0] [] s.chip c
      else Frame [rPORT_CNT.addr p 1, rLRSTAT.addr p 0] [] s.chip c)
    ∧ c.rb rLRSTAT p 0 0 = false ∧ c.rd rPORT_CNT p 1 = s.chip.rd rPORT_CNT p 1 + 1) ∧
  (∀ (s : State) (p : Fin 48) (x : RxCell), s.chip.up (.bank (bankOf p)) = true → s.chip.isLane p = true → (s.chip.bank (bankOf p)).step ≠ 1 → wordsCrc (x.head :: x.slots) = x.trailer →
    bit x.head 1 = true → s.chip.paired p = false → s.chip.rb rPORT_STATUS p 0 10 = true → fld x.head 31 28 ≠ 0xC → fld x.head 31 28 ≠ 0xD → Does s (exec (.laneCellReceive p x) s) fun c =>
    c.rb rLRSTAT p 0 0 = true ∧ c.rb rLRSTAT p 0 1 = bit x.head 0 ∧ c.rd rPORT_CNT p 1 = s.chip.rd rPORT_CNT p 1 + 1
    ∧ (if bit x.head 0 = true ∧ s.chip.rb rLRSTAT p 0 1 = false then Reports (0x10 + p) 0xBA s.chip c ∧ Frame (rPORT_CNT.addr p 1 :: rLRSTAT.addr p 0 :: logRegs (0x10 + p)) [209] s.chip c
      else c.err = s.chip.err ∧ Frame [rPORT_CNT.addr p 1, rLRSTAT.addr p 0] [] s.chip c)) ∧
  (∀ (s : State) (p : Fin 48) (x : RxCell) (h : Word), s.chip.up (.bank (bankOf p)) = true → s.chip.isLane p = true → (s.chip.bank (bankOf p)).step ≠ 1 → wordsCrc (x.head :: x.slots) = x.trailer →
    bit x.head 1 = false → s.chip.paired p = true → s.chip.witness p = true → s.chip.pairCalm → s.chip.pairState = 3 → fld x.head 31 28 ∉ [0, 5, 6, 7, 0xB, 0xC, 0xD] → s.chip.hbOk = true →
    h = setBit (setBit x.head 1 true) 0 false → Does s (exec (.laneCellReceive p x) s) fun c =>
    c.wire = .cell p (cellWire (if fld x.head 31 28 = 9 then setFld h 31 28 0xD else h) (x.slots.take (fld x.head 7 2))) :: s.chip.wire ∧ (c.port p).returned = true ∧ c.cdr.heard.getLsbD p = true
    ∧ c.rd rPORT_CNT p 0 = s.chip.rd rPORT_CNT p 0 + 1) ∧
  (∀ (s : State) (p : Fin 48), s.chip.up (.bank (bankOf p)) = true → s.chip.isLane p = true → s.chip.rb rPORT_STATUS p 0 10 = true → Does s (exec (.rxLockTimeout p) s) fun c =>
    c.rest = { s.chip.rest with ports := mset ({} : Port) s.chip.ports p { s.chip.port p with rxGood := 0, rxBad := 0 }, err := c.err }
    ∧ c.rb rPORT_STATUS p 0 10 = false ∧ c.rb rPIRQ_STAT p 0 2 = true ∧ c.rd rPORT_CNT p 3 = s.chip.rd rPORT_CNT p 3 + 1
    ∧ ((s.chip.port (p / 2 * 2)).ringNow = false ∨ s.chip.rb rPORT_STATUS (p / 2 * 2) 0 9 = true →
      (if (s.chip.bank (bankOf p)).step = 1 then c.err = s.chip.err ∧ Frame [rPORT_STATUS.addr p 0, rPIRQ_STAT.addr p 0, rPORT_CNT.addr p 3] [] s.chip c
        else Reports (0x10 + p) 0xB1 s.chip c ∧ Frame (rPORT_STATUS.addr p 0 :: rPIRQ_STAT.addr p 0 :: rPORT_CNT.addr p 3 :: logRegs (0x10 + p)) [209] s.chip c))
    ∧ ((s.chip.port (p / 2 * 2)).ringNow = true ∧ s.chip.rb rPORT_STATUS (p / 2 * 2) 0 9 = false →
      c.rb rPORT_STATUS (p / 2 * 2) 0 9 = true ∧ c.rb rPIRQ_STAT (p / 2 * 2) 0 3 = true ∧ (p.val % 2 = 1 → Reports (0x10 + p / 2 * 2) 0xB2 s.chip c)
      ∧ Frame (rPORT_STATUS.addr p 0 :: rPIRQ_STAT.addr p 0 :: rPORT_CNT.addr p 3 :: rPORT_STATUS.addr (p / 2 * 2) 0 :: rPIRQ_STAT.addr (p / 2 * 2) 0 :: logRegs (0x10 + p) ++ logRegs (0x10 + p / 2 * 2)) [209] s.chip c))

/-- Bank k. A new rate or family that waits stops it: its lanes lose receive lock. Its PLL's lock starts training for a LANE family and makes any other, and a bank of none,
ready. It is ready when every lane is locked, each lane's pools then reset and the lane in HOLD with no cell due; after 50 ms the lanes still unlocked fail, each shown,
caused, with code 0xB3, and it is ready as well. A ring pair whose lanes have both held lock is restored: shown and caused. WD_REL releases the watchdog hold of the
bank's lanes; a RING bit that the same write sets for a pair not both set to LANE is refused with CFG_ERR and code 0xB5. An urgent insert goes out on a ready lane, with its argument words on a version 2 lane, its header alone on a version 1 lane, on both ports of a ring pair, and leaves its queue with
its last port; of one from each parser the earlier goes first, NA's at a tie; on another port it is discarded and counted, caused, with code 0xB6. Where nothing of this holds the command changes nothing. -/
def Obligations.banks_rings_and_inserts : Prop :=
  (∀ (s : State) (k : Fin 6), s.chip.up (.bank k) = true → (s.chip.bank k).pend = true → Does s (exec (.bankRetrainStart k) s) fun c =>
    c.bank k = { s.chip.bank k with pend := false, step := 1 } ∧ (∀ i : Fin 8, s.chip.isLane (8 * k + i) = true → c.rb rPORT_STATUS (8 * k + i) 0 10 = false)
    ∧ (∀ p : Fin 48, c.port p = if bankOf p = k ∧ s.chip.isLane p = true then { s.chip.port p with rxGood := 0, rxBad := 0 } else s.chip.port p)
    ∧ c.rest = { s.chip.rest with banks := mset ({} : Bank) s.chip.banks k (c.bank k), ports := c.ports, err := c.err }
    ∧ Frame (rBSTAT.addr k 0 :: rRAS_STATUS.addr 0 0 :: (List.range 8).flatMap fun i => [rPORT_STATUS.addr (8 * k + i) 0, rPIRQ_STAT.addr (8 * k + i) 0, rPORT_CNT.addr (8 * k + i) 3]
        ++ logRegs (0x10 + 8 * k + i)) [209] s.chip c) ∧
  (∀ (s : State) (k : Fin 6), s.chip.up (.bank k) = true → (s.chip.bank k).step = 1 → Does s (exec (.bankPllLock k) s) fun c =>
    ((s.chip.bank k).newFamily = 1 → c.bank k = { s.chip.bank k with step := 2, rate := (s.chip.bank k).newRate, family := 1 }
      ∧ c.rest = { s.chip.rest with banks := mset ({} : Bank) s.chip.banks k (c.bank k) })
    ∧ ((s.chip.bank k).newFamily ≠ 1 → c.bank k = { s.chip.bank k with step := 0, rate := (s.chip.bank k).newRate, family := (s.chip.bank k).newFamily, readyAt := s.chip.time.now }
      ∧ c.rest = { s.chip.rest with banks := mset ({} : Bank) s.chip.banks k (c.bank k), ports := c.ports, drv := c.drv })
    ∧ (∀ p : Fin 48, bankOf p ≠ k → c.port p = s.chip.port p)
    ∧ Frame (rBSTAT.addr k 0 :: rRAS_STATUS.addr 0 0 :: (List.range 8).map fun i => rPORT_STATUS.addr (8 * k + i) 0) [] s.chip c) ∧
  (∀ (s : State) (k : Fin 6), s.chip.up (.bank k) = true → (s.chip.bank k).step = 2 → (∀ i : Fin 8, s.chip.isLane (8 * k + i) = true → s.chip.rb rPORT_STATUS (8 * k + i) 0 10 = true) →
    Does s (exec (.bankReady k) s) fun c =>
    c.bank k = { s.chip.bank k with step := 0, readyAt := s.chip.time.now }
    ∧ (∀ p : Fin 48, c.port p = if bankOf p = k ∧ s.chip.isLane p = true then { s.chip.port p with held := true, window := false, urgent := [], blank := [], cells := [], rasRd := 0, rasWr := 0, prsRd := 0, prsWr := 0 }
      else s.chip.port p)
    ∧ c.rest = { s.chip.rest with banks := mset ({} : Bank) s.chip.banks k (c.bank k), ports := c.ports, drv := c.drv }
    ∧ Frame (rBSTAT.addr k 0 :: rRAS_STATUS.addr 0 0 :: (List.range 8).map fun i => rPORT_STATUS.addr (8 * k + i) 0) [] s.chip c) ∧
  (∀ (s : State) (k : Fin 6) (i : Fin 8), s.chip.up (.bank k) = true → (s.chip.bank k).step = 2 → s.chip.isLane (8 * k + i) = true → s.chip.rb rPORT_STATUS (8 * k + i) 0 10 = false →
    Does s (exec (.portTrainFail k) s) fun c =>
    c.bank k = { s.chip.bank k with step := 0, readyAt := s.chip.time.now } ∧ c.rb rPORT_STATUS (8 * k + i) 0 11 = true ∧ c.rb rPIRQ_STAT (8 * k + i) 0 4 = true
    ∧ Reports (0x10 + 8 * k + i) 0xB3 s.chip c
    ∧ (∀ p : Fin 48, c.port p = if bankOf p = k ∧ s.chip.isLane p = true then { s.chip.port p with held := true, window := false, urgent := [], blank := [], cells := [], rasRd := 0, rasWr := 0, prsRd := 0, prsWr := 0 }
      else s.chip.port p)
    ∧ c.rest = { s.chip.rest with banks := mset ({} : Bank) s.chip.banks k (c.bank k), ports := c.ports, drv := c.drv, err := c.err }
    ∧ Frame (rBSTAT.addr k 0 :: rRAS_STATUS.addr 0 0 :: (List.range 8).flatMap fun i => [rPORT_STATUS.addr (8 * k + i) 0, rPIRQ_STAT.addr (8 * k + i) 0] ++ logRegs (0x10 + 8 * k + i)) [209] s.chip c) ∧
  (∀ (s : State) (k : Fin 6) (i : Instr),
    (i = .bankRetrainStart k ∧ (s.chip.bank k).pend = false) ∨ (i = .bankPllLock k ∧ (s.chip.bank k).step ≠ 1) ∨ (i = .bankReady k ∧ (s.chip.bank k).step ≠ 2) ∨ (i = .portTrainFail k ∧ (s.chip.bank k).step ≠ 2)
      ∨ (i = .bankReady k ∧ ∃ j : Fin 8, s.chip.isLane (8 * k + j) = true ∧ s.chip.rb rPORT_STATUS (8 * k + j) 0 10 = false)
      ∨ (i = .portTrainFail k ∧ ∀ j : Fin 8, s.chip.isLane (8 * k + j) = true → s.chip.rb rPORT_STATUS (8 * k + j) 0 10 = true) →
    Does s (exec i s) fun c => c.rest = s.chip.rest ∧ Frame [] [] s.chip c) ∧
  (∀ (s : State) (p : Fin 48) (e : Nat), e = p / 2 * 2 → s.chip.up (.bank (bankOf p)) = true → (s.chip.port e).ringNow = true → s.chip.rb rPORT_STATUS e 0 9 = true →
    s.chip.rb rPORT_STATUS e 0 10 = true → s.chip.rb rPORT_STATUS (e + 1) 0 10 = true → Does s (exec (.ringRestore p) s) fun c =>
    c.rest = s.chip.rest ∧ c.rd rPORT_STATUS e = setBit (s.chip.rd rPORT_STATUS e) 9 false ∧ c.rd rPIRQ_STAT e = setBit (s.chip.rd rPIRQ_STAT e) 3 true
    ∧ Frame [rPORT_STATUS.addr e 0, rPIRQ_STAT.addr e 0] [] s.chip c) ∧
  (∀ (s : State) (p : Fin 48) (e : Nat), e = p / 2 * 2 → (s.chip.port e).ringNow = false ∨ s.chip.rb rPORT_STATUS e 0 9 = false ∨ s.chip.rb rPORT_STATUS e 0 10 = false ∨ s.chip.rb rPORT_STATUS (e + 1) 0 10 = false →
    Does s (exec (.ringRestore p) s) fun c => c.rest = s.chip.rest ∧ Frame [] [] s.chip c) ∧
  (∀ (s : State) (a : Access) (k : Fin 6) (v : Word), s.chip.takes a rBCTRL k 0 (v ||| 0x100) →
    (∀ j : Fin 4, bit v j = true → s.chip.rf rPORT_CTRL (8 * k + 2 * j) 0 1 0 = 1 ∧ s.chip.rf rPORT_CTRL (8 * k + 2 * j + 1) 0 1 0 = 1) → Does s (exec (.wdRel a k v) s) fun c =>
    c.bank k = { s.chip.bank k with wdhold := false }
    ∧ (∀ p : Fin 48, c.port p = if bankOf p = k ∧ s.chip.isLane p = true ∧ (s.chip.bank k).wdhold = true then { s.chip.port p with released := true } else s.chip.port p)
    ∧ (∀ j : Fin 4, c.rb rBCTRL k 0 j = bit v j)
    ∧ c.rest = { s.chip.rest with banks := mset ({} : Bank) s.chip.banks k (c.bank k), ports := c.ports }
    ∧ Frame (rBCTRL.addr k 0 :: rBSTAT.addr k 0 :: (List.range 8).map fun i => rPORT_STATUS.addr (8 * k + i) 0) [] s.chip c) ∧
  (∀ (s : State) (a : Access) (k : Fin 6) (v : Word) (j : Fin 4) (e : Nat), s.chip.takes a rBCTRL k 0 (v ||| 0x100) → fld v 3 0 = 2 ^ j.val → e = 8 * k + 2 * j →
    s.chip.rf rPORT_CTRL e 0 1 0 ≠ 1 ∨ s.chip.rf rPORT_CTRL (e + 1) 0 1 0 ≠ 1 → Does s (exec (.wdRel a k v) s) fun c =>
    c.bank k = { s.chip.bank k with wdhold := false } ∧ c.rb rBCTRL k 0 j = false ∧ c.rb rPORT_STATUS e 0 5 = true ∧ c.rb rPIRQ_STAT e 0 7 = true ∧ Reports (0x10 + e) 0xB5 s.chip c
    ∧ Frame (rBCTRL.addr k 0 :: rBSTAT.addr k 0 :: rPIRQ_STAT.addr e 0 :: logRegs (0x10 + e) ++ (List.range 8).map fun i => rPORT_STATUS.addr (8 * k + i) 0) [209] s.chip c) ∧
  (∀ (s : State) (n : Fin 48) (u : Fin 2) (e : UrgEnt) (t : List UrgEnt) (v : UrgEnt), s.chip.up (.bank (bankOf n)) = true → s.chip.urgQueue u (bankOf n) = e :: t → e.words = t.length + 1 → t.length ≤ 1 → e.left = 1#8 <<< (n.val % 8) →
    s.chip.urgQueue (1 - u) (bankOf n) = [] ∨ s.chip.urgQueue (1 - u) (bankOf n) = [v] ∧ v.words = 1 ∧ (e.ts < v.ts ∨ e.ts = v.ts ∧ u = 0) →
    s.chip.isLane n = true → s.chip.bankReady n = true → s.chip.ringOdd n = false → Does s (exec (.escapeInsert n) s) fun c =>
    c.wire = (if (s.chip.port n).ringNow = true then [.insert (n + 1) (insertWords (s.chip.laneVer n) ((e :: t).map (·.word)))] else []) ++ .insert n (insertWords (s.chip.laneVer n) ((e :: t).map (·.word))) :: s.chip.wire
    ∧ c.rest = { s.chip.rest with wire := c.wire, urgQ := mset [] s.chip.urgQ (6 * u + bankOf n) [] }
    ∧ c.rd rPORT_CNT n 9 = s.chip.rd rPORT_CNT n 9 + 1
    ∧ Frame (rPORT_CNT.addr n 9 :: if (s.chip.port n).ringNow = true then [rPORT_CNT.addr (n + 1) 9] else []) [] s.chip c) ∧
  (∀ (l : List Word), insertWords 1 l = [setFld (l.getD 0 0) 3 2 0] ∧ insertWords 2 l = l.take (1 + fld (l.getD 0 0) 3 2)) ∧
  (∀ (s : State) (n : Fin 48) (u : Fin 2) (e : UrgEnt), s.chip.up (.bank (bankOf n)) = true → s.chip.urgQueue u (bankOf n) = [e] → s.chip.urgQueue (1 - u) (bankOf n) = [] → e.words = 1 → e.left = 1#8 <<< (n.val % 8) →
    s.chip.isLane n = false ∨ s.chip.bankReady n = false → s.chip.ringOdd n = false → Does s (exec (.escapeInsert n) s) fun c =>
    c.rest = { s.chip.rest with urgQ := mset [] s.chip.urgQ (6 * u + bankOf n) [], err := c.err }
    ∧ c.rd rPORT_CNT n 10 = s.chip.rd rPORT_CNT n 10 + 1 ∧ c.rb rPIRQ_STAT n 0 8 = true ∧ Reports (0x10 + n) 0xB6 s.chip c
    ∧ Frame (rPORT_CNT.addr n 10 :: rPIRQ_STAT.addr n 0 :: logRegs (0x10 + n)) [209] s.chip c) ∧
  (∀ (s : State) (n : Fin 48), s.chip.up (.bank (bankOf n)) = false ∨ s.chip.insertFrom n = none → Does s (exec (.escapeInsert n) s) fun c => c.rest = s.chip.rest ∧ Frame [] [] s.chip c)

/-- The commit point of a bank's settings: a port without a refresh or transaction takes its MODE and PSHARE, another keeps its mode
and waits; where the bank changes family between two, all wait while one is busy. Once all have them, a ring pair is in effect where RING is set and both lanes are LANE, and a bank of a
new family stops to lock anew. A refresh start in the port's phase sends the record last filled, which becomes the draining one, and shows and counts it; with none
filled, or in a watchdog hold, the draining one is sent again, STALE and counted; with neither, nothing is. A unit of a pair that is not ACTIVE puts nothing on the lands. One that meets a running refresh is an overrun: counted, caused,
code 0xB4; one that meets a running transaction is delayed until its end, and counted. In a frame of another phase, or with settings refused, none starts. The refresh's end clears its
bit, and what waited for it takes effect. GO asks for an RDM transaction on a DMX port with RDM_EN, is forgotten otherwise, and stays while one is asked for; the transaction starts when the line is
free and the next refresh far enough, sending the message with its checksum; at its end RESULT and the bytes heard stand in the
registers and a delayed refresh is sent; without a response RESULT is 1 and counted. -/
def Obligations.refreshes_and_rdm : Prop :=
  (∀ (s : State) (k : Fin 6) (f g : Nat), s.chip.up (.bank k) = true → f = familyOf ((bankPorts k).map fun p => s.chip.rf rPORT_CTRL p 0 1 0) →
    g = familyOf ((bankPorts k).map s.chip.modeNow) → Does s (exec (.portSettingsApply k) s) fun c =>
    (∀ i : Fin 8,
      (s.chip.portBusy (8 * k + i) = false → (f = g ∨ f = 0 ∨ g = 0 ∨ ∀ j : Fin 8, s.chip.portBusy (8 * k + j) = false) →
        c.modeNow (8 * k + i) = s.chip.rf rPORT_CTRL (8 * k + i) 0 1 0 ∧ (c.port (8 * k + i)).pshare = s.chip.rf rPORT_CTRL (8 * k + i) 0 26 20 ∧ (c.port (8 * k + i)).pendApply = none)
      ∧ (s.chip.portBusy (8 * k + i) = true ∨ f ≠ 0 ∧ g ≠ 0 ∧ f ≠ g ∧ (∃ j : Fin 8, s.chip.portBusy (8 * k + j) = true) →
        c.modeNow (8 * k + i) = s.chip.modeNow (8 * k + i) ∧ (c.port (8 * k + i)).pendApply = some (s.chip.rf rPORT_CTRL (8 * k + i) 0 1 0, s.chip.rf rPORT_CTRL (8 * k + i) 0 26 20)))
    ∧ ((∀ j : Fin 8, s.chip.portBusy (8 * k + j) = false) →
      (∀ j : Fin 4, (c.port (8 * k + 2 * j)).ringNow = (s.chip.rb rBCTRL k 0 j && c.isLane (8 * k + 2 * j) && c.isLane (8 * k + 2 * j + 1)) ∧ (c.port (8 * k + 2 * j + 1)).ringNow = (c.port (8 * k + 2 * j)).ringNow)
      ∧ c.bank k = if f = (s.chip.bank k).newFamily then s.chip.bank k else { s.chip.bank k with newFamily := f, newRate := fld (s.chip.rd rSH_MODE 0 1) (2 * k + 1) (2 * k), pend := false, step := 1 })
    ∧ (∀ p : Fin 48, bankOf p ≠ k → c.port p = s.chip.port p)
    ∧ c.rest = { s.chip.rest with ports := c.ports, banks := mset ({} : Bank) s.chip.banks k (c.bank k), wire := c.wire, err := c.err }
    ∧ Frame (rBSTAT.addr k 0 :: rRAS_STATUS.addr 0 0 :: (List.range 8).flatMap fun i => [rPORT_STATUS.addr (8 * k + i) 0, rPIRQ_STAT.addr (8 * k + i) 0, rPORT_CNT.addr (8 * k + i) 3]
        ++ logRegs (0x10 + 8 * k + i)) [209] s.chip c) ∧
  (∀ (s : State) (p : Fin 48) (r : Record), s.chip.bankReady p = true → 2 ≤ s.chip.modeNow p →
    gridK s.chip.time.grid (s.chip.time.now - s.chip.refreshOfs p) % (s.chip.rf rPORT_CTRL p 0 19 16 + 1 : Nat) = s.chip.dphase p → (s.chip.port p).refused = false →
    s.chip.rb rPORT_STATUS p 0 7 = false → (s.chip.port p).rdm.running = false → (s.chip.port p).pendApply = none → (s.chip.bank (bankOf p)).wdhold = false →
    (s.chip.port p).filling = some r → Does s (exec (.refreshStart p) s) fun c =>
    c.wire = (if s.chip.suppressed = true then [] else if s.chip.modeNow p = 2 then [.refresh p (c.pulseWords p r) (s.chip.pulseWave p (c.pulseWords p r)) [(false, waveTime (s.chip.pulseWave p (c.pulseWords p r)))]]
      else [.refresh p (c.dmxWords p r) (s.chip.dmxWave p (c.dmxWords p r)) [(true, waveTime (s.chip.dmxWave p (c.dmxWords p r))), (false, 0)]]) ++ s.chip.wire
    ∧ c.rest = { s.chip.rest with wire := c.wire, ports := mset ({} : Port) s.chip.ports p { s.chip.port p with filling := none, draining := some r, drain := !(s.chip.port p).drain } }
    ∧ c.rb rPORT_STATUS p 0 7 = true ∧ c.rb rPORT_STATUS p 0 6 = false ∧ c.rb rPORT_STATUS p 0 15 = !(s.chip.port p).drain ∧ c.rd rPORT_CNT p 13 = s.chip.rd rPORT_CNT p 13 + 1
    ∧ Frame [rPORT_STATUS.addr p 0, rPORT_CNT.addr p 13] [] s.chip c) ∧
  (∀ (s : State) (p : Fin 48) (r : Record), s.chip.bankReady p = true → 2 ≤ s.chip.modeNow p →
    gridK s.chip.time.grid (s.chip.time.now - s.chip.refreshOfs p) % (s.chip.rf rPORT_CTRL p 0 19 16 + 1 : Nat) = s.chip.dphase p → (s.chip.port p).refused = false →
    s.chip.rb rPORT_STATUS p 0 7 = false → (s.chip.port p).rdm.running = false → (s.chip.port p).pendApply = none →
    (s.chip.bank (bankOf p)).wdhold = true ∨ (s.chip.port p).filling = none → (s.chip.port p).draining = some r →
    Does s (exec (.refreshStart p) s) fun c =>
    c.wire = (if s.chip.suppressed = true then [] else if s.chip.modeNow p = 2 then [.refresh p (s.chip.pulseWords p r) (s.chip.pulseWave p (s.chip.pulseWords p r)) [(false, waveTime (s.chip.pulseWave p (s.chip.pulseWords p r)))]]
      else [.refresh p (s.chip.dmxWords p r) (s.chip.dmxWave p (s.chip.dmxWords p r)) [(true, waveTime (s.chip.dmxWave p (s.chip.dmxWords p r))), (false, 0)]]) ++ s.chip.wire
    ∧ c.rest = { s.chip.rest with wire := c.wire } ∧ c.rb rPORT_STATUS p 0 6 = true ∧ c.rb rPORT_STATUS p 0 7 = true
    ∧ c.rd rPORT_CNT p 5 = s.chip.rd rPORT_CNT p 5 + 1 ∧ c.rd rPORT_CNT p 13 = s.chip.rd rPORT_CNT p 13 + 1
    ∧ Frame [rPORT_STATUS.addr p 0, rPORT_CNT.addr p 5, rPORT_CNT.addr p 13] [] s.chip c) ∧
  (∀ (s : State) (p : Fin 48), s.chip.bankReady p = true → 2 ≤ s.chip.modeNow p →
    gridK s.chip.time.grid (s.chip.time.now - s.chip.refreshOfs p) % (s.chip.rf rPORT_CTRL p 0 19 16 + 1 : Nat) = s.chip.dphase p → (s.chip.port p).refused = false →
    s.chip.rb rPORT_STATUS p 0 7 = true → Does s (exec (.refreshStart p) s) fun c =>
    c.rest = { s.chip.rest with err := c.err } ∧ c.rd rPORT_CNT p 7 = s.chip.rd rPORT_CNT p 7 + 1 ∧ c.rb rPIRQ_STAT p 0 6 = true ∧ Reports (0x10 + p) 0xB4 s.chip c
    ∧ Frame (rPORT_CNT.addr p 7 :: rPIRQ_STAT.addr p 0 :: logRegs (0x10 + p)) [209] s.chip c) ∧
  (∀ (s : State) (p : Fin 48), s.chip.bankReady p = true → 2 ≤ s.chip.modeNow p →
    gridK s.chip.time.grid (s.chip.time.now - s.chip.refreshOfs p) % (s.chip.rf rPORT_CTRL p 0 19 16 + 1 : Nat) = s.chip.dphase p → (s.chip.port p).refused = false →
    s.chip.rb rPORT_STATUS p 0 7 = false → (s.chip.port p).rdm.running = true → Does s (exec (.refreshStart p) s) fun c =>
    c.rest = { s.chip.rest with ports := mset ({} : Port) s.chip.ports p { s.chip.port p with rdm := { (s.chip.port p).rdm with delayed := true } } }
    ∧ c.rd rPORT_CNT p 8 = s.chip.rd rPORT_CNT p 8 + 1 ∧ Frame [rPORT_CNT.addr p 8] [] s.chip c) ∧
  (∀ (s : State) (p : Fin 48), s.chip.bankReady p = false ∨ s.chip.modeNow p < 2
      ∨ gridK s.chip.time.grid (s.chip.time.now - s.chip.refreshOfs p) % (s.chip.rf rPORT_CTRL p 0 19 16 + 1 : Nat) ≠ s.chip.dphase p ∨ (s.chip.port p).refused = true
      ∨ s.chip.portBusy p = false ∧ ((s.chip.port p).pendApply ≠ none ∨ ((s.chip.bank (bankOf p)).wdhold = true ∨ (s.chip.port p).filling = none) ∧ (s.chip.port p).draining = none) →
    Does s (exec (.refreshStart p) s) fun c => c.rest = s.chip.rest ∧ Frame [] [] s.chip c) ∧
  (∀ (s : State) (p : Fin 48), s.chip.up (.bank (bankOf p)) = true → s.chip.rb rPORT_STATUS p 0 7 = true → (s.chip.port p).pendApply = none → Does s (exec (.refreshEnd p) s) fun c =>
    c.rest = s.chip.rest ∧ c.rd rPORT_STATUS p = setBit (s.chip.rd rPORT_STATUS p) 7 false ∧ Frame [rPORT_STATUS.addr p 0] [] s.chip c) ∧
  (∀ (s : State) (p : Fin 48) (m h : Nat), s.chip.up (.bank (bankOf p)) = true → s.chip.rb rPORT_STATUS p 0 7 = true → (s.chip.port p).rdm.running = false → (s.chip.port p).pendApply = some (m, h) → m < 4 →
    (∀ q : Fin 48, q ≠ p → bankOf q = bankOf p → s.chip.portBusy q = false) → Does s (exec (.refreshEnd p) s) fun c =>
    c.rb rPORT_STATUS p 0 7 = false ∧ c.modeNow p = m ∧ (c.port p).pshare = h ∧ (c.port p).pendApply = none) ∧
  (∀ (s : State) (p : Fin 48), s.chip.rb rPORT_STATUS p 0 7 = false → Does s (exec (.refreshEnd p) s) fun c => c.rest = s.chip.rest ∧ Frame [] [] s.chip c) ∧
  (∀ (s : State) (a : Access) (p : Fin 48) (v : Word), s.chip.takes a rRDM_CTRL p 0 (v ||| 0x80000000) → s.chip.rb rRDM_CTRL p 0 31 = false →
    Does s (exec (.rdmGo a p v) s) fun c =>
    (s.chip.rb rPORT_CTRL p 0 2 = true ∧ s.chip.modeNow p = 3 →
      c.rest = { s.chip.rest with ports := mset ({} : Port) s.chip.ports p { s.chip.port p with rdm := { waiting := true } } } ∧ c.rb rRDM_CTRL p 0 31 = true ∧ c.rb rPORT_STATUS p 0 8 = true)
    ∧ (s.chip.rb rPORT_CTRL p 0 2 = false ∨ s.chip.modeNow p ≠ 3 → c.rest = s.chip.rest ∧ c.rb rRDM_CTRL p 0 31 = false)
    ∧ Frame [rRDM_CTRL.addr p 0, rPORT_STATUS.addr p 0] [] s.chip c) ∧
  (∀ (s : State) (a : Access) (p : Fin 48) (v : Word), s.chip.takes a rRDM_CTRL p 0 (v ||| 0x80000000) → s.chip.rb rRDM_CTRL p 0 31 = true →
    Does s (exec (.rdmGo a p v) s) fun c => c.rest = s.chip.rest ∧ c.rb rRDM_CTRL p 0 31 = true ∧ Frame [rRDM_CTRL.addr p 0] [] s.chip c) ∧
  (∀ (s : State) (p : Fin 48) (l : List Byte), s.chip.bankReady p = true → s.chip.modeNow p = 3 → (s.chip.port p).rdm.waiting = true → s.chip.portBusy p = false → (s.chip.port p).pendApply = none →
    1000 * s.chip.rf rRDM_TIME p 0 15 0 ≤ s.chip.nextRefresh p - s.chip.time.now → l = (List.range (s.chip.rf rRDM_CTRL p 0 7 0)).map (fun i => s.chip.txByte p i) →
    Does s (exec (.rdmStart p) s) fun c =>
    c.wire = (if s.chip.suppressed = true then [] else [.rdm p (l ++ natBE 2 (sum16 l)) (s.chip.dmxWave p ((l ++ natBE 2 (sum16 l)).map fun b => b.setWidth 32))
      [(true, waveTime (s.chip.dmxWave p ((l ++ natBE 2 (sum16 l)).map fun b => b.setWidth 32)) + 2000), (false, if s.chip.rb rRDM_CTRL p 0 29 then 176000 else 0)]]) ++ s.chip.wire
    ∧ c.rest = { s.chip.rest with wire := c.wire, ports := mset ({} : Port) s.chip.ports p { s.chip.port p with rdm := { running := true } } }
    ∧ c.rd rPORT_CNT p 11 = s.chip.rd rPORT_CNT p 11 + 1 ∧ Frame [rPORT_CNT.addr p 11] [] s.chip c) ∧
  (∀ (s : State) (p : Fin 48), s.chip.bankReady p = false ∨ s.chip.modeNow p ≠ 3 ∨ (s.chip.port p).rdm.waiting = false ∨ s.chip.portBusy p = true ∨ (s.chip.port p).pendApply ≠ none
      ∨ s.chip.nextRefresh p - s.chip.time.now < 1000 * s.chip.rf rRDM_TIME p 0 15 0 → Does s (exec (.rdmStart p) s) fun c => c.rest = s.chip.rest ∧ Frame [] [] s.chip c) ∧
  (∀ (s : State) (p : Fin 48) (r h : RdmReply) (no : Bool) (n : Nat), s.chip.up (.bank (bankOf p)) = true → (s.chip.port p).rdm = { running := true } →
    (s.chip.port p).pendApply = none → no = s.chip.rb rRDM_CTRL p 0 29 → h = rdmHeard no (s.chip.rb rRDM_CTRL p 0 30) r →
    n = rdmResult no (s.chip.rb rRDM_CTRL p 0 30) h → Does s (exec (.rdmDone p r) s) fun c =>
    c.rest = { s.chip.rest with ports := mset ({} : Port) s.chip.ports p { s.chip.port p with rdm := {} } }
    ∧ c.rd rRDM_STS p = BitVec.ofNat 32 (2 ^ 31 + n * 2 ^ 28 + min 257 h.bytes.length) ∧ (∀ i : Fin 256, i.val < h.bytes.length → byteOf (c.rd rRXBUF p (i / 4)) (i % 4) = h.bytes.getD i 0)
    ∧ c.rb rRDM_CTRL p 0 31 = false ∧ c.rb rPORT_STATUS p 0 8 = false ∧ c.rb rPIRQ_STAT p 0 5 = true
    ∧ c.rd rPORT_CNT p 12 = s.chip.rd rPORT_CNT p 12 + (if 1 ≤ n ∧ n ≤ 4 then 1 else 0)
    ∧ Frame (rRDM_STS.addr p 0 :: rRDM_CTRL.addr p 0 :: rPORT_STATUS.addr p 0 :: rPIRQ_STAT.addr p 0 :: rPORT_CNT.addr p 12 :: rRX256.addr p 0 :: (List.range 64).map (rRXBUF.addr p)) [] s.chip c) ∧
  (∀ (s : State) (p : Fin 48) (b : Bool), s.chip.up (.bank (bankOf p)) = true → (s.chip.port p).rdm = { running := true } → s.chip.rb rRDM_CTRL p 0 29 = false →
    (s.chip.port p).pendApply = none → Does s (exec (.rdmDone p ⟨[], false, b⟩) s) fun c =>
    c.rest = { s.chip.rest with ports := mset ({} : Port) s.chip.ports p { s.chip.port p with rdm := {} } } ∧ c.rd rRDM_STS p = 0x90000000 ∧ c.rb rRDM_CTRL p 0 31 = false
    ∧ c.rb rPORT_STATUS p 0 8 = false ∧ c.rb rPIRQ_STAT p 0 5 = true ∧ c.rd rPORT_CNT p 12 = s.chip.rd rPORT_CNT p 12 + 1
    ∧ Frame [rRDM_STS.addr p 0, rRDM_CTRL.addr p 0, rPORT_STATUS.addr p 0, rPIRQ_STAT.addr p 0, rPORT_CNT.addr p 12] [] s.chip c) ∧
  (∀ (s : State) (p : Fin 48) (r : RdmReply) (x : Record), s.chip.up (.bank (bankOf p)) = true → (s.chip.port p).rdm = { running := true, delayed := true } → (s.chip.port p).pendApply = none →
    (s.chip.bank (bankOf p)).wdhold = false → (s.chip.port p).filling = some x ∨ (s.chip.port p).filling = none ∧ (s.chip.port p).draining = some x → Does s (exec (.rdmDone p r) s) fun c =>
    c.rb rRDM_STS p 0 31 = true ∧ (c.port p).rdm = {} ∧ c.rb rPORT_STATUS p 0 7 = true ∧ c.rd rPORT_CNT p 13 = s.chip.rd rPORT_CNT p 13 + 1 ∧ (c.port p).filling = none ∧ (c.port p).draining = some x) ∧
  (∀ (s : State) (p : Fin 48) (r : RdmReply), (s.chip.port p).rdm.running = false → Does s (exec (.rdmDone p r) s) fun c => c.rest = s.chip.rest ∧ Frame [] [] s.chip c)

/-- GO asks for a DISCOVER, and stays while one is asked for. It is launched when the raster engine is stopped or holding, or in blanking after the STATUS cells, and no PRESENT or cell of the port's own is due, with the next TOKEN; its reply is then waited for, and not on the odd port of a
ring pair. The reply with that TOKEN ends the wait: DONE shown with the round trip in quarter ns and the words of the reply, GO 0; the timeout ends it too: TIMEOUT shown, GO 0, code 0xB8. -/
def Obligations.lane_discovery : Prop :=
  (∀ (s : State) (a : Access) (p : Fin 48) (v : Word), s.chip.takes a rLDISC p 0 (v ||| 0x80000000) →
    Does s (exec (.discoverGo a p v) s) fun c =>
    c.rest = (if s.chip.rb rLDISC p 0 31 = true then s.chip.rest else { s.chip.rest with ports := mset ({} : Port) s.chip.ports p { s.chip.port p with disc := { asked := true } } }) ∧ c.rb rLDISC p 0 31 = true
    ∧ Frame [rLDISC.addr p 0] [] s.chip c) ∧
  (∀ (s : State) (p : Fin 48) (k : OwnCell), s.chip.isLane p = true → s.chip.ringOdd p = false → s.chip.bankReady p = true → (s.chip.port p).disc.asked = true →
    (s.chip.port p).presentDue = false → (s.chip.port p).urgent = [] →
    s.chip.rb rRAS_CTRL 0 0 0 = false ∨ s.chip.ras.hold ≠ none ∨ (s.chip.port p).window = false ∧ s.chip.ras.inFrame = false ∧ (∀ b ∈ (s.chip.port p).blank, fld b.head 31 28 ≠ 0xC) →
    s.chip.insertFrom p = none → k = s.chip.discoverCell p (s.chip.rd rLTOKEN p + 1) → Does s (exec (.discoverLaunch p) s) fun c =>
    Sends p k.head k.words s.chip c ∧ c.rd rLTOKEN p = s.chip.rd rLTOKEN p + 1
    ∧ c.rest = { s.chip.rest with wire := c.wire, ports := mset ({} : Port) s.chip.ports p { s.chip.port p with disc := { out := some (s.chip.rd rLTOKEN p + 1, 4 * s.chip.time.now) }, seq := (c.port p).seq, returned := (c.port p).returned } }
    ∧ Frame (rLTOKEN.addr p 0 :: s.chip.sendRegs p) [] s.chip c) ∧
  (∀ (s : State) (p : Fin 48), s.chip.isLane p = false ∨ s.chip.ringOdd p = true ∨ s.chip.bankReady p = false ∨ (s.chip.port p).disc.asked = false ∨ (s.chip.port p).presentDue = true ∨ (s.chip.port p).urgent ≠ []
      ∨ s.chip.rb rRAS_CTRL 0 0 0 = true ∧ s.chip.ras.hold = none ∧ ((s.chip.port p).window = true ∨ s.chip.ras.inFrame = true ∨ ∃ b ∈ (s.chip.port p).blank, fld b.head 31 28 = 0xC) →
    Does s (exec (.discoverLaunch p) s) fun c => c.rest = s.chip.rest ∧ Frame [] [] s.chip c) ∧
  (∀ (s : State) (p : Fin 48) (x : RxCell) (tok : Word) (t : Nat), s.chip.up (.bank (bankOf p)) = true → s.chip.isLane p = true → (s.chip.bank (bankOf p)).step ≠ 1 → wordsCrc (x.head :: x.slots) = x.trailer →
    x.slots.length = 62 → bit x.head 1 = false → s.chip.paired p = false → s.chip.rb rPORT_STATUS p 0 10 = true → fld x.head 31 28 = 0xD → 2 ≤ fld x.head 7 2 → (s.chip.port p).disc.out = some (tok, t) → x.slots.getD 1 0 = tok →
    Does s (exec (.laneCellReceive p x) s) fun c =>
    (c.port p).disc = {} ∧ c.rd rLRTT p = BitVec.ofNat 32 (x.quarter - t) ∧ (∀ w : Fin 55, c.rd rLDCAP p w = (x.head :: x.slots.take (fld x.head 7 2)).getD w 0)
    ∧ c.rb rLDSTAT p 0 31 = true ∧ c.rf rLDSTAT p 0 27 16 = fld (x.slots.getD 0 0) 23 12 ∧ c.rf rLDSTAT p 0 11 8 = fld (x.slots.getD 0 0) 27 24 ∧ c.rb rLDISC p 0 31 = false
    ∧ Frame (rPORT_CNT.addr p 1 :: rLRSTAT.addr p 0 :: rLRTT.addr p 0 :: rLDSTAT.addr p 0 :: rLDISC.addr p 0 :: (List.range 55).map (rLDCAP.addr p)) [] s.chip c) ∧
  (∀ (s : State) (p : Fin 48), s.chip.up (.bank (bankOf p)) = true → (s.chip.port p).disc.out ≠ none → Does s (exec (.portDiscTimeout p) s) fun c =>
    c.rest = { s.chip.rest with ports := mset ({} : Port) s.chip.ports p { s.chip.port p with disc := {} }, err := c.err }
    ∧ c.rb rLDSTAT p 0 30 = true ∧ c.rb rLDISC p 0 31 = false ∧ Reports (0x10 + p) 0xB8 s.chip c
    ∧ Frame (rLDSTAT.addr p 0 :: rLDISC.addr p 0 :: logRegs (0x10 + p)) [209] s.chip c) ∧
  (∀ (s : State) (p : Fin 48), s.chip.up (.bank (bankOf p)) = false ∨ (s.chip.port p).disc.out = none → Does s (exec (.portDiscTimeout p) s) fun c => c.rest = s.chip.rest ∧ Frame [] [] s.chip c)

/-- DRV runs and follows no casks; the Lamp Health Table's memory is at rest. At an evaluation with EN = 1 the frame set is that of the frame whose start the lead names; the PRESENT marks are
cleared; every zone's modulation and fallback colour of the next frame go to the shadow tables; with no port's Lamp Health region valid the LHS counts are 0. Each node of a LANE port that no other address names has its next drop, trip and drive
word, its record wanted afresh, its derate entry the trip's 0 or its D; a rise or fall of its trip and a rise of its loss of telemetry raise interrupts 160, 161 and 162, and the three summary bits follow the nodes. With one port of one node
and one channel in the table and no DIAG to choose, a node that gave no record in a counting frame ages its channel, and the LHS counts are that entry's. With EN = 0 nothing happens. A record of the
evaluated frame, the node's first, gives the node its temperature and leaves the return queue; the channel's state it reports enters the table, a fault where the last measured state was good with code
0xC3 and interrupt 163. A record of another frame is counted, a second one, an empty slot, and one whose ADDR is not its slot's, are not taken; a unit that follows casks takes none. An echo is counted late where no proof record of its frame is
kept and F(k + 2) of that frame has passed. An empty queue leaves all as it is, and a cell that is no STATUS cell just leaves the queue. -/
def Obligations.drive_evaluation_and_records : Prop :=
  (∀ (s : State) (k : Int), s.chip.up .drv = true → s.chip.rb rDRV_CTRL 0 0 0 = true → s.chip.drvFollows = false → s.chip.cdr.fresh = false →
    s.chip.celUp = false ∨ s.chip.celCalm → (∀ p : Fin 48, (s.chip.lhtPort p).2.valid = false) → k = gridK s.chip.time.grid (s.chip.now + s.chip.evalLead) → Does s (exec .drvEvaluate s) fun c =>
    c.drv.evalK = some k ∧ (∀ p : Fin 48, c.port p = { s.chip.port p with present := none })
    ∧ (∀ z : Fin 256, mget 0x8000 c.pix.modS z = s.chip.zoneMod z (gridF s.chip.time.grid (k + 1)) ∧ mget (0, 0, 0) c.pix.fbS z = s.chip.zoneFall z (gridF s.chip.time.grid (k + 1)))
    ∧ (∀ j : Fin 5, c.rd rLHS j = 0)
    ∧ c.rest = { s.chip.rest with drv := c.drv, pix := c.pix, ports := c.ports, err := c.err, cdr := { s.chip.cdr with changes := c.cdr.changes } }
    ∧ Frame (rDRV_STATUS.addr 0 0 :: rDRV_CNT.addr 1 0 :: rDRV_CNT.addr 2 0 :: (List.range 5).map (rLHS.addr · 0) ++ logRegs 0x40) [160, 161, 162, 209] s.chip c) ∧
  (∀ (s : State) (p : Fin 48) (a n : Nat) (x : NodeSt), s.chip.up .drv = true → s.chip.rb rDRV_CTRL 0 0 0 = true → s.chip.drvFollows = false → s.chip.cdr.fresh = false →
    s.chip.celUp = false ∨ s.chip.celCalm → (∀ q : Fin 48, (s.chip.lhtPort q).2.valid = false) → p.val ∈ s.chip.drivePorts → 1 ≤ a → a ≤ s.chip.portNodes p → n = s.chip.nodeIdx p a → n ≤ 8191 →
    (∀ q ∈ s.chip.drivePorts, ∀ b < s.chip.portNodes q, s.chip.nodeIdx q (b + 1) = n → q = p.val ∧ b + 1 = a) →
    x = s.chip.nodeNext (s.chip.node n) (s.chip.port p).present.isSome → Does s (exec .drvEvaluate s) fun c =>
    c.node n = { x with word := s.chip.driveWord p a x } ∧ mget 0x8000 c.pix.derS n = (if x.trip = true then 0 else x.dPrev) ∧ (c.node n).got = false
    ∧ (x.trip = true → c.rb rDRV_STATUS 0 0 1 = true ∧ c.rb rDRV_STATUS 0 0 2 = true) ∧ (x.dPrev < 0x8000 → c.rb rDRV_STATUS 0 0 2 = true) ∧ (x.tloss = true → c.rb rDRV_STATUS 0 0 3 = true)
    ∧ (x.trip = true → (s.chip.node n).trip = false → c.irqs.getLsbD 160 = true) ∧ (x.trip = false → (s.chip.node n).trip = true → c.irqs.getLsbD 161 = true)
    ∧ (x.tloss = true → (s.chip.node n).tloss = false → c.irqs.getLsbD 162 = true)
    ∧ ((∀ q ∈ s.chip.drivePorts, q = p.val) → s.chip.portNodes p = 1 → (∀ m : Fin 8192, m.val ≠ n → c.node m = { s.chip.node m with got := false })
      ∧ c.rb rDRV_STATUS 0 0 1 = x.trip ∧ c.rb rDRV_STATUS 0 0 2 = (x.trip || decide (x.dPrev < 0x8000)) ∧ c.rb rDRV_STATUS 0 0 3 = x.tloss)) ∧
  (∀ (s : State) (p : Fin 48) (n e : Nat) (l : LhtPort) (w : Word), s.chip.up .drv = true → s.chip.rb rDRV_CTRL 0 0 0 = true → s.chip.rb rDRV_CTRL 0 0 1 = false → s.chip.drvFollows = false → s.chip.cdr.fresh = false →
    s.chip.celCalm → s.chip.rb rECC_INJ 0 0 31 = false → l = (s.chip.lhtPort p).2 → l.valid = true → l.nodes = 1 → l.chans = 1 → (∀ q : Fin 48, q ≠ p → (s.chip.lhtPort q).2.valid = false) →
    s.chip.drivePorts = [p.val] → (s.chip.port p).present ≠ none → n = s.chip.nodeIdx p 1 → (s.chip.node n).got = false → e = l.entry 1 0 → 32 ≤ e → e < 0x200000 → w = s.chip.word (lhtAddr e) → Does s (exec .drvEvaluate s) fun c =>
    c.word (lhtAddr e) = lhtWord (fld w 31 30) (fld w 29 28) (fld w 23 0 + 1)
    ∧ (∀ j : Fin 4, c.rd rLHS j = if fld w 31 30 = j.val then 1 else 0) ∧ c.rd rLHS 4 = BitVec.ofNat 32 (min 16777215 (fld w 23 0 + 1))
    ∧ SameBytes (fun b => lhtAddr e ≤ b ∧ b < lhtAddr e + 4) s.chip c) ∧
  (∀ (s : State), s.chip.up .drv = false ∨ s.chip.rb rDRV_CTRL 0 0 0 = false → Does s (exec .drvEvaluate s) fun c => c.rest = s.chip.rest ∧ Frame [] [] s.chip c) ∧
  (∀ (s : State), s.chip.up .drv = false ∨ s.chip.retQ = [] → Does s (exec .returnRecord s) fun c => c.rest = s.chip.rest ∧ Frame [] [] s.chip c) ∧
  (∀ (s : State) (x : RetCell) (t : List RetCell) (w0 w1 w2 : Word) (k : Int) (n : Nat), s.chip.up .drv = true → s.chip.retQ = x :: t → x.words = [w0, w1, w2] →
    s.chip.ringOdd x.port = false → s.chip.recw x.port = 3 → w0 ≠ 0 ∨ w1 ≠ 0 ∨ w2 ≠ 0 → fld w0 31 20 = fld x.head 27 16 → s.chip.drvFollows = false → s.chip.drv.evalK = some k →
    s.chip.ras.proofs = [] → n = s.chip.nodeIdx x.port (fld x.head 27 16) →
    s.chip.celUp = false ∨ s.chip.celCalm → (s.chip.lhtPort x.port).2.valid = false → fld x.head 31 28 = 0xC → Does s (exec .returnRecord s) fun c =>
    c.retQ = t
    ∧ c.node n = (if fld w0 7 0 = (k % 256).toNat ∧ (s.chip.node n).got = false then { s.chip.node n with got := true, temp := some (fld w0 19 12) } else s.chip.node n)
    ∧ c.rd rDRV_CNT 6 = s.chip.rd rDRV_CNT 6 + (if fld w0 7 0 = (k % 256).toNat then 0 else 1)
    ∧ c.rest = { s.chip.rest with retQ := t, drv := { s.chip.drv with nodes := mset ({} : NodeSt) s.chip.drv.nodes n (c.node n) } }
    ∧ c.rd rRAS_CNT 5 = s.chip.rd rRAS_CNT 5 + (if s.chip.now > s.chip.echoEnd (fld w0 7 0) then 1 else 0) ∧ Frame [rRAS_CNT.addr 5 0, rDRV_CNT.addr 6 0] [] s.chip c) ∧
  (∀ (s : State) (x : RetCell) (t : List RetCell) (w0 w1 w2 : Word), s.chip.up .drv = true → s.chip.retQ = x :: t → x.words = [w0, w1, w2] → s.chip.ringOdd x.port = false → s.chip.recw x.port = 3 →
    fld x.head 31 28 = 0xC → s.chip.ras.proofs = [] →
    w0 = 0 ∧ w1 = 0 ∧ w2 = 0 ∨ fld w0 31 20 ≠ fld x.head 27 16 ∨ (s.chip.drvFollows = true ∨ s.chip.drv.evalK = none) ∧ s.chip.now ≤ s.chip.echoEnd (fld w0 7 0) → Does s (exec .returnRecord s) fun c =>
    c.rest = { s.chip.rest with retQ := t } ∧ Frame [] [] s.chip c) ∧
  (∀ (s : State) (x : RetCell) (t : List RetCell) (w0 w1 w2 w : Word) (k : Int) (n e m : Nat) (l : LhtPort), s.chip.up .drv = true → s.chip.retQ = x :: t → x.words = [w0, w1, w2] → x.port < 48 →
    s.chip.ringOdd x.port = false → s.chip.recw x.port = 3 → w0 ≠ 0 → fld w0 31 20 = fld x.head 27 16 → s.chip.drvFollows = false → s.chip.drv.evalK = some k → fld w0 7 0 = (k % 256).toNat →
    s.chip.ras.proofs = [] → n = s.chip.nodeIdx x.port (fld x.head 27 16) → (s.chip.node n).got = false → s.chip.celCalm → s.chip.rb rECC_INJ 0 0 31 = false → l = (s.chip.lhtPort x.port).2 → l.valid = true → l.chans = 1 →
    e = l.entry (fld x.head 27 16) 0 → e < 0x200000 → w = s.chip.word (lhtAddr e) → m = fld w2 1 0 → fld x.head 31 28 = 0xC → Does s (exec .returnRecord s) fun c =>
    c.node n = { s.chip.node n with got := true, temp := some (fld w0 19 12) }
    ∧ c.word (lhtAddr e) = (if m = 3 then lhtWord 3 (fld w 29 28) (fld w 23 0 + 1) else lhtWord m m 0)
    ∧ (if m ≠ 3 ∧ m ≠ 0 ∧ fld w 29 28 = 0 then c.rd rDRV_CNT 3 = s.chip.rd rDRV_CNT 3 + 1 ∧ c.irqs.getLsbD 163 = true ∧ Reports 0x40 0xC3 s.chip c else c.rd rDRV_CNT 3 = s.chip.rd rDRV_CNT 3 ∧ c.err = s.chip.err)
    ∧ SameBytes (fun b => lhtAddr e ≤ b ∧ b < lhtAddr e + 4) s.chip c ∧ Frame (rRAS_CNT.addr 5 0 :: rDRV_CNT.addr 3 0 :: logRegs 0x40) [163, 209] s.chip c) ∧
  (∀ (s : State) (x : RetCell) (t : List RetCell), s.chip.up .drv = true → s.chip.retQ = x :: t → fld x.head 31 28 ≠ 0xC → Does s (exec .returnRecord s) fun c =>
    c.rest = { s.chip.rest with retQ := t } ∧ Frame [] [] s.chip c)

/-- The limits being within their absolute limits, a write of a commissioned limit that is not refused keeps the value within the absolute limit (a knee of 105, a trip of 125, a
floor of 0x8000); a greater one is replaced, counted and reported (0xC4, interrupt 164). A write of CODE sets CODE and CODE_MAX of
the node DRV_NODE_SEL names; a CODE above CODE_MAX is counted and reported. Once locked, a write of a limit, and one that would change CODE_MAX, is refused with a bus
error and nothing of it is written. LOCK sets both lock bits, with interrupt 166 and code 0xC6, and once set stays so. A write of the pattern run stores it; a change is
reported with code 0xC8. -/
def Obligations.commissioning_and_patterns : Prop :=
  (∀ (s : State) (a : Access) (v : Word), s.chip.takes a rCOMM_KNEE 0 0 v → (s.chip.rd rCOMM_TRIP).toNat ≤ 125 → (s.chip.rd rCOMM_FLOOR).toNat ≤ 0x8000 →
    Does s (exec (.commissioningWrite a .knee v) s) fun c =>
    ((rCOMM_KNEE.merge (s.chip.rd rCOMM_KNEE) v).toNat ≤ 105 → c.rest = s.chip.rest ∧ c.rd rCOMM_KNEE = rCOMM_KNEE.merge (s.chip.rd rCOMM_KNEE) v ∧ Frame [rCOMM_KNEE.addr 0 0] [] s.chip c)
    ∧ (105 < (rCOMM_KNEE.merge (s.chip.rd rCOMM_KNEE) v).toNat → c.rd rCOMM_KNEE = 105 ∧ c.rd rDRV_CNT 0 = s.chip.rd rDRV_CNT 0 + 1 ∧ c.irqs.getLsbD 164 = true ∧ Reports 0x40 0xC4 s.chip c)
    ∧ c.rest = { s.chip.rest with err := c.err } ∧ Frame (rCOMM_KNEE.addr 0 0 :: rDRV_CNT.addr 0 0 :: logRegs 0x40) [164, 209] s.chip c) ∧
  (∀ (s : State) (a : Access) (v : Word), s.chip.takes a rCOMM_TRIP 0 0 v → (s.chip.rd rCOMM_KNEE).toNat ≤ 105 → (s.chip.rd rCOMM_FLOOR).toNat ≤ 0x8000 →
    Does s (exec (.commissioningWrite a .trip v) s) fun c =>
    ((rCOMM_TRIP.merge (s.chip.rd rCOMM_TRIP) v).toNat ≤ 125 → c.rest = s.chip.rest ∧ c.rd rCOMM_TRIP = rCOMM_TRIP.merge (s.chip.rd rCOMM_TRIP) v ∧ Frame [rCOMM_TRIP.addr 0 0] [] s.chip c)
    ∧ (125 < (rCOMM_TRIP.merge (s.chip.rd rCOMM_TRIP) v).toNat → c.rd rCOMM_TRIP = 125 ∧ c.rd rDRV_CNT 0 = s.chip.rd rDRV_CNT 0 + 1 ∧ c.irqs.getLsbD 164 = true ∧ Reports 0x40 0xC4 s.chip c)
    ∧ c.rest = { s.chip.rest with err := c.err } ∧ Frame (rCOMM_TRIP.addr 0 0 :: rDRV_CNT.addr 0 0 :: logRegs 0x40) [164, 209] s.chip c) ∧
  (∀ (s : State) (a : Access) (v : Word), s.chip.takes a rCOMM_FLOOR 0 0 v → (s.chip.rd rCOMM_KNEE).toNat ≤ 105 → (s.chip.rd rCOMM_TRIP).toNat ≤ 125 →
    Does s (exec (.commissioningWrite a .floor v) s) fun c =>
    ((rCOMM_FLOOR.merge (s.chip.rd rCOMM_FLOOR) v).toNat ≤ 0x8000 → c.rest = s.chip.rest ∧ c.rd rCOMM_FLOOR = rCOMM_FLOOR.merge (s.chip.rd rCOMM_FLOOR) v ∧ Frame [rCOMM_FLOOR.addr 0 0] [] s.chip c)
    ∧ (0x8000 < (rCOMM_FLOOR.merge (s.chip.rd rCOMM_FLOOR) v).toNat → c.rd rCOMM_FLOOR = 0x8000 ∧ c.rd rDRV_CNT 0 = s.chip.rd rDRV_CNT 0 + 1 ∧ c.irqs.getLsbD 164 = true ∧ Reports 0x40 0xC4 s.chip c)
    ∧ c.rest = { s.chip.rest with err := c.err } ∧ Frame (rCOMM_FLOOR.addr 0 0 :: rDRV_CNT.addr 0 0 :: logRegs 0x40) [164, 209] s.chip c) ∧
  (∀ (s : State) (a : Access) (v : Word) (n : Nat), s.chip.takes a rNODE_W0 0 0 v → n = (s.chip.rd rNODE_SEL).toNat → Does s (exec (.commissioningWrite a .code v) s) fun c =>
    c.node n = { s.chip.node n with codeMax := fld v 31 24, code := fld v 23 16 } ∧ c.drv = { s.chip.drv with nodes := mset ({} : NodeSt) s.chip.drv.nodes n (c.node n) }
    ∧ c.rest = { s.chip.rest with drv := c.drv, err := c.err } ∧ (fld v 23 16 ≤ fld v 31 24 → c.err = s.chip.err ∧ Frame [rNODE_W0.addr 0 0] [] s.chip c)
    ∧ (fld v 31 24 < fld v 23 16 → c.rd rDRV_CNT 0 = s.chip.rd rDRV_CNT 0 + 1 ∧ c.irqs.getLsbD 164 = true ∧ Reports 0x40 0xC4 s.chip c)
    ∧ Frame (rNODE_W0.addr 0 0 :: rDRV_CNT.addr 0 0 :: logRegs 0x40) [164, 209] s.chip c) ∧
  (∀ (s : State) (a : Access) (v : Word) (g : CommReg) (r : RegRow), (g = .knee ∧ r = rCOMM_KNEE ∨ g = .trip ∧ r = rCOMM_TRIP ∨ g = .floor ∧ r = rCOMM_FLOOR ∨ g = .code ∧ r = rNODE_W0) →
    s.chip.reads a r 0 0 → s.chip.rb rCOMM_CTRL 0 0 0 = true → (g = .code → fld v 31 24 ≠ (s.chip.node (s.chip.rd rNODE_SEL).toNat).codeMax ∧ (s.chip.node (s.chip.rd rNODE_SEL).toNat).codeMax < 256 ∧ (s.chip.node (s.chip.rd rNODE_SEL).toNat).code < 256
      ∧ (s.chip.node (s.chip.rd rNODE_SEL).toNat).temp.getD 0 < 256 ∧ (s.chip.node (s.chip.rd rNODE_SEL).toNat).wait < 64) →
    Does s (exec (.commissioningWrite a g v) s) fun c =>
    c.rd r = s.chip.rd r ∧ c.rsp = { val := 0, err := true } ∧ c.irqs.getLsbD 1 = true ∧ Reports 0 2 s.chip c
    ∧ c.rest = { s.chip.rest with err := c.err } ∧ Frame (rBUSERR_INFO.addr 0 0 :: rBUSERR_ADDR.addr 0 0 :: logRegs 0) [1, 209] s.chip c) ∧
  (∀ (s : State) (a : Access) (v : Word), s.chip.takes a rCOMM_CTRL 0 0 (v ||| 1) → Does s (exec (.drvLock a v) s) fun c =>
    (s.chip.rb rCOMM_CTRL 0 0 0 = false → c.rb rCOMM_CTRL 0 0 0 = true ∧ c.rb rDRV_STATUS 0 0 0 = true ∧ c.irqs.getLsbD 166 = true ∧ Reports 0x40 0xC6 s.chip c ∧ c.rest = { s.chip.rest with err := c.err }
      ∧ Frame (rCOMM_CTRL.addr 0 0 :: rDRV_STATUS.addr 0 0 :: logRegs 0x40) [166, 209] s.chip c)
    ∧ (s.chip.rb rCOMM_CTRL 0 0 0 = true → c.rest = s.chip.rest ∧ Frame [] [] s.chip c)) ∧
  (∀ (s : State) (a : Access) (v : Word), s.chip.takes a rPAT_RUN 0 0 v → Does s (exec (.drvPatRun a v) s) fun c =>
    c.rd rPAT_RUN = rPAT_RUN.merge (s.chip.rd rPAT_RUN) v ∧ c.rb rPAT_RUN 0 0 0 = bit v 0
    ∧ (if rPAT_RUN.merge (s.chip.rd rPAT_RUN) v = s.chip.rd rPAT_RUN then c.rest = s.chip.rest ∧ Frame [] [] s.chip c
      else Reports 0x41 0xC8 s.chip c ∧ c.rest = { s.chip.rest with err := c.err } ∧ Frame (rPAT_RUN.addr 0 0 :: logRegs 0x41) [209] s.chip c))

/-- EN written 1 in SOLO with the strap high, the link down and CORRIDOR_DOWN clear: JOINING, interrupt 176, CORRIDOR_DOWN with interrupt 180, the
ports that show the peer gone adopting where ADOPT_EN is set and the heartbeat present. EN written 0 outside SOLO: SOLO, nothing adopted, a swap
under way given up, each port that witnessed waiting for its window. Any other write of CDR_CTRL is taken, and REVERT at 0 ends a request to revert.
Block lock sends a HELLO and, with the peer's heard before, brings the link up. A loss of lock takes the link down, gives up a swap not yet
agreed on a link that was up and discards a cask half received, counted; on an ACTIVE unit with the link up it shows CORRIDOR_DOWN and raises 180. Silence of the peer's STATE does
the same but for the lock, and HELLO is sent (the model's choice, log entry 201). The pulse goes out unless stopped. An edge after a
loss restores the heartbeat, with interrupt 179, and in STANDBY the ports that show the peer gone adopt where ADOPT_EN is set. An ACTIVE unit whose
heartbeat is stopped enters SYNCING with no region received, and ports adopt in the same way. A domain held or a condition not met: nothing happens. -/
def Obligations.pair_link_and_heartbeat : Prop :=
  (∀ (s : State) (a : Access) (v : Word), s.chip.takes a rCDR_CTRL 0 0 v → bit v 0 = true → s.chip.rb rCDR_CTRL 0 0 0 = false → s.chip.rb rSTRAP 0 0 3 = true →
    s.chip.pairState = 0 → s.chip.corridorUp = false → s.chip.rb rCDR_STATUS 0 0 7 = false → Does s (exec (.pairingEnable a v) s) fun c =>
    c.pairState = 1 ∧ c.rd rCDR_CTRL = rCDR_CTRL.merge (s.chip.rd rCDR_CTRL) v ∧ c.rb rCDR_STATUS 0 0 7 = true ∧ c.irqs.getLsbD 176 = true ∧ c.irqs.getLsbD 180 = true
    ∧ Adopts (fun p => bit v 2 && s.chip.hbOk && c.paired p && !s.chip.adopted p && !s.chip.cdr.heard.getLsbD p) s.chip c
    ∧ c.rest = { s.chip.pairRest c with cdr := { s.chip.cdr with askRevert := false, fresh := false, bulkOut := none, bulkTodo := 0, bulkSent := false, imageSent := false } }
    ∧ Frame (rCDR_CTRL.addr 0 0 :: pairRegs) [176, 180, 181, 209] s.chip c) ∧
  (∀ (s : State) (a : Access) (v : Word), s.chip.takes a rCDR_CTRL 0 0 v → bit v 0 = false → s.chip.pairState ≠ 0 → Does s (exec (.pairingEnable a v) s) fun c =>
    c.pairState = 0 ∧ c.rd rCDR_CTRL = rCDR_CTRL.merge (s.chip.rd rCDR_CTRL) v ∧ c.irqs.getLsbD 176 = true
    ∧ (∀ p : Fin 48, c.adopted p = false ∧ c.paired p = false ∧ c.port p = if s.chip.paired p && s.chip.witness p then { s.chip.port p with soloWait := true } else s.chip.port p)
    ∧ c.rest = { s.chip.pairRest c with cdr := { s.chip.cdr with swap := none, swapLeft := 0, askRevert := false, fresh := false, bulkOut := none, bulkTodo := 0, bulkSent := false, imageSent := false } }
    ∧ Frame (rCDR_CTRL.addr 0 0 :: pairRegs) [176, 180, 209] s.chip c) ∧
  (∀ (s : State) (a : Access) (v : Word), s.chip.takes a rCDR_CTRL 0 0 v → (bit v 0 = true → s.chip.rb rCDR_CTRL 0 0 0 = true ∨ s.chip.rb rSTRAP 0 0 3 = false ∨ s.chip.pairState ≠ 0) →
    (bit v 0 = false → s.chip.pairState = 0) → Does s (exec (.pairingEnable a v) s) fun c =>
    c.rd rCDR_CTRL = rCDR_CTRL.merge (s.chip.rd rCDR_CTRL) v ∧ (bit v 4 = false → c.cdr.askRevert = false) ∧ c.rest = s.chip.pairRest c
    ∧ Frame (rCDR_CTRL.addr 0 0 :: pairRegs) pairIrqs s.chip c) ∧
  (∀ (s : State), s.chip.up .cdr = true → s.chip.cdr.lock = false → Does s (exec .corridorLinkUp s) fun c =>
    c.cdr.lock = true ∧ c.wire = s.chip.cdrOut 1 s.chip.helloBody ++ s.chip.wire ∧ c.que = s.chip.cdrQue
    ∧ c.rest = { s.chip.pairRest c with wire := c.wire, que := c.que } ∧ Frame pairRegs pairIrqs s.chip c
    ∧ (s.chip.cdr.hello = false → c.rest = { s.chip.rest with wire := c.wire, que := c.que, cdr := { s.chip.cdr with lock := true, mseq := s.chip.cdr.mseq + 1 } } ∧ Frame [] [] s.chip c)
    ∧ (s.chip.cdr.hello = true → c.corridorUp = true) ∧ (s.chip.cdr.hello = true → s.chip.corridorUp = false → s.chip.pairState = 4 → s.chip.hbOk = true →
        c.rb rCDR_STATUS 0 0 7 = false ∧ (s.chip.rb rCDR_STATUS 0 0 7 = true → c.irqs.getLsbD 180 = true)
        ∧ c.rest = { s.chip.rest with err := c.err, wire := c.wire, que := c.que, cdr := { s.chip.cdr with lock := true, mseq := s.chip.cdr.mseq + 1 } } ∧ Frame (rCDR_STATUS.addr 0 0 :: logRegs 0x0D) [180, 209] s.chip c)) ∧
  (∀ (s : State), s.chip.alive .cdr = true → Does s (exec .corridorLinkDown s) fun c =>
    c.corridorUp = false ∧ c.cdr.lock = false ∧ c.cdr.hello = false ∧ c.cdr.bulkOut = none ∧ c.cdr.bulkIn = none ∧ c.cdr.caskIn = none
    ∧ c.rd rCDR_CNT 4 = s.chip.rd rCDR_CNT 4 + (if s.chip.cdr.caskIn = none then 0 else 1) ∧ (s.chip.cdr.caskIn ≠ none → c.irqs.getLsbD 182 = true)
    ∧ (s.chip.corridorUp = true → (s.chip.cdr.swap.any fun x => !x.agreed) = true → c.cdr.swap = none)
    ∧ c.rest = s.chip.pairRest c ∧ Frame pairRegs pairIrqs s.chip c) ∧
  (∀ (s : State), s.chip.alive .cdr = true → s.chip.corridorUp = true → s.chip.pairState = 4 → s.chip.rb rCDR_STATUS 0 0 7 = false →
    Does s (exec .corridorLinkDown s) fun c =>
    c.rb rCDR_STATUS 0 0 7 = true ∧ c.irqs.getLsbD 180 = true ∧ (s.chip.cdr.caskIn = none → (s.chip.cdr.swap.all fun x => x.agreed) = true → Reports 0x0D 0xD5 s.chip c)
    ∧ c.rest = { s.chip.rest with err := c.err, cdr := { s.chip.cdr with lock := false, hello := false, bulkSent := false, imageSent := false, bulkOut := none, bulkTodo := 0, bulkIn := none, caskIn := none, swap := s.chip.cdr.swap.filter fun x => x.agreed } }
    ∧ Frame (rCDR_STATUS.addr 0 0 :: rCDR_SWAP.addr 0 0 :: rCDR_BULK.addr 0 0 :: rCDR_CNT.addr 4 0 :: logRegs 0x0D) [180, 182, 209] s.chip c) ∧
  (∀ (s : State), s.chip.up .cdr = true → s.chip.corridorUp = true → Does s (exec .corridorStateTimeout s) fun c =>
    c.corridorUp = false ∧ c.cdr.lock = s.chip.cdr.lock ∧ c.cdr.hello = false ∧ c.cdr.bulkOut = none ∧ c.cdr.bulkIn = none ∧ c.cdr.caskIn = none
    ∧ c.rd rCDR_CNT 4 = s.chip.rd rCDR_CNT 4 + (if s.chip.cdr.caskIn = none then 0 else 1) ∧ (s.chip.cdr.caskIn ≠ none → c.irqs.getLsbD 182 = true)
    ∧ ((s.chip.cdr.swap.any fun x => !x.agreed) = true → c.cdr.swap = none) ∧ c.wire = s.chip.cdrOut 1 c.helloBody ++ s.chip.wire ∧ c.que = s.chip.cdrQue
    ∧ c.rest = { s.chip.pairRest c with wire := c.wire, que := c.que } ∧ Frame pairRegs pairIrqs s.chip c) ∧
  (∀ (s : State), s.chip.up .cdr = true → s.chip.corridorUp = true → s.chip.pairState = 4 → s.chip.rb rCDR_STATUS 0 0 7 = false →
    Does s (exec .corridorStateTimeout s) fun c =>
    c.rb rCDR_STATUS 0 0 7 = true ∧ c.irqs.getLsbD 180 = true ∧ (s.chip.cdr.caskIn = none → (s.chip.cdr.swap.all fun x => x.agreed) = true → Reports 0x0D 0xD5 s.chip c)
    ∧ c.rest = { s.chip.rest with err := c.err, wire := c.wire, que := c.que, cdr := { s.chip.cdr with hello := false, bulkSent := false, imageSent := false, bulkOut := none, bulkTodo := 0, bulkIn := none, caskIn := none, swap := s.chip.cdr.swap.filter (fun x => x.agreed), mseq := s.chip.cdr.mseq + 1 } }
    ∧ Frame (rCDR_STATUS.addr 0 0 :: rCDR_SWAP.addr 0 0 :: rCDR_BULK.addr 0 0 :: rCDR_CNT.addr 4 0 :: logRegs 0x0D) [180, 182, 209] s.chip c) ∧
  (∀ (s : State), s.chip.alive .cdr = true → s.chip.alive .ts = true → s.chip.hbStopped = false → Does s (exec .heartbeatOut s) fun c =>
    c.rest = { s.chip.rest with wire := .heartbeat :: s.chip.wire } ∧ Frame [] [] s.chip c) ∧
  (∀ (s : State), s.chip.up .cdr = true → s.chip.hbOk = false → Does s (exec .heartbeatEdge s) fun c =>
    c.hbOk = true ∧ c.irqs.getLsbD 179 = true ∧ c.rest = s.chip.pairRest c ∧ Frame pairRegs pairIrqs s.chip c
    ∧ (s.chip.pairState = 3 ∨ s.chip.pairState = 4 → c.pairState = s.chip.pairState ∧ Adopts (fun p => s.chip.pairState = 3 && s.chip.rb rCDR_CTRL 0 0 2 && s.chip.adoptable p) s.chip c
        ∧ c.rest = { s.chip.rest with err := c.err, ports := c.ports })
    ∧ (s.chip.pairState = 4 → s.chip.corridorUp = true → s.chip.rb rCDR_STATUS 0 0 7 = false → Reports 0x0D 0xD4 s.chip c ∧ c.rest = { s.chip.rest with err := c.err }
        ∧ Frame (rCDR_STATUS.addr 0 0 :: logRegs 0x0D) [179, 209] s.chip c)) ∧
  (∀ (s : State), s.chip.alive .cdr = true → s.chip.pairState = 4 → s.chip.hbStopped = true → Does s (exec .heartbeatStop s) fun c =>
    c.pairState = 2 ∧ c.irqs.getLsbD 176 = true
    ∧ (∀ p : Fin 48, c.adopted p = (s.chip.adopted p || s.chip.rb rCDR_CTRL 0 0 2 && s.chip.hbOk && s.chip.adoptable p)
        ∧ (if s.chip.rb rCDR_CTRL 0 0 2 = true ∧ s.chip.hbOk = true ∧ s.chip.adoptable p = true then (c.port p).urgent = [c.idleCell p, c.holdCell p] ∧ (c.port p).held = true
        else c.port p = if s.chip.paired p then { s.chip.port p with holdFirst := (s.chip.port p).urgent.any fun k => fld k.head 31 28 = 6 } else s.chip.port p))
    ∧ c.rest = { s.chip.pairRest c with cdr := { s.chip.cdr with swap := none, askRevert := false, fresh := false, regions := 0, lockRun := 0, bulkIn := none, bulkLost := 0, bulkOut := none, bulkTodo := 0, bulkSent := false, imageSent := false } }
    ∧ Frame pairRegs [176, 180, 181, 209] s.chip c) ∧
  (∀ (s : State) (i : Instr), (i = .corridorLinkUp ∧ (s.chip.up .cdr = false ∨ s.chip.cdr.lock = true)) ∨ (i = .corridorLinkDown ∧ s.chip.alive .cdr = false)
      ∨ (i = .corridorStateTimeout ∧ (s.chip.up .cdr = false ∨ s.chip.corridorUp = false))
      ∨ (i = .heartbeatOut ∧ (s.chip.alive .cdr = false ∨ s.chip.alive .ts = false ∨ s.chip.hbStopped = true))
      ∨ (i = .heartbeatEdge ∧ (s.chip.up .cdr = false ∨ s.chip.hbOk = true))
      ∨ (i = .heartbeatStop ∧ (s.chip.alive .cdr = false ∨ s.chip.pairState ≠ 4 ∨ s.chip.hbStopped = false)) →
    Does s (exec i s) fun c => c.rest = s.chip.rest ∧ Frame [] [] s.chip c)

/-- The loss of the heartbeat is counted and shown, with interrupt 179. With takeover armed, in STANDBY or, not in lockstep, in SYNCING, and every witness port gone the unit then
takes over; otherwise a unit in STANDBY or an ACTIVE one stays as it is. A witness port going silent is marked gone: in STANDBY with
adoption enabled and the heartbeat present every port so marked adopts its chain, and with the heartbeat lost, takeover armed and every witness port gone the unit takes over. Where the link
stays down with every witness gone a JOINING unit becomes ACTIVE with a new epoch, its paired ports driving from their next window. A side-A
unit in STANDBY and lockstep with REVERT set asks for a swap once REVERT_DELAY is over. The ASSUME at the head of a port's cells goes out with the port's
SEQ, after every insert that waits there. A domain held or a condition not met: nothing happens. -/
def Obligations.takeover_and_activation : Prop :=
  (∀ (s : State), s.chip.up .cdr = true → s.chip.hbOk = true → Does s (exec .cdrHbLost s) fun c =>
    c.hbOk = false ∧ c.rd rCDR_CNT 3 = s.chip.rd rCDR_CNT 3 + 1 ∧ c.irqs.getLsbD 179 = true ∧ c.rest = s.chip.pairRest c ∧ Frame (rCDR_CNT.addr 3 0 :: pairRegs) pairIrqs s.chip c) ∧
  (∀ (s : State), s.chip.up .cdr = true → s.chip.hbOk = true → s.chip.takeArmed = true → s.chip.witnessGone = true → (s.chip.pairState = 2 → s.chip.rb rCDR_STATUS 0 0 13 = false) →
    Does s (exec .cdrHbLost s) fun c => TakesOver s.chip c) ∧
  (∀ (s : State), s.chip.up .cdr = true → s.chip.hbOk = true → s.chip.pairState = 4 ∨ (s.chip.pairState = 3 ∧ (s.chip.takeArmed = false ∨ s.chip.witnessGone = false)) → Does s (exec .cdrHbLost s) fun c =>
    c.pairState = s.chip.pairState ∧ c.rb rCDR_STATUS 0 0 7 = (!s.chip.corridorUp || !s.chip.witnessGone) ∧ c.rb rCDR_STATUS 0 0 10 = s.chip.witnessGone ∧ c.rb rCDR_STATUS 0 0 11 = s.chip.takeArmed
    ∧ c.rest = { s.chip.rest with err := c.err } ∧ Frame (rCDR_STATUS.addr 0 0 :: rCDR_CNT.addr 3 0 :: logRegs 0x0D) [179, 180, 209] s.chip c) ∧
  (∀ (s : State) (p : Fin 48), s.chip.up .cdr = true → Does s (exec (.witnessGone p) s) fun c =>
    c.cdr.heard = s.chip.cdr.heard &&& ~~~(1#48 <<< p.val) ∧ c.rest = s.chip.pairRest c ∧ Frame pairRegs pairIrqs s.chip c) ∧
  (∀ (s : State) (p : Fin 48), s.chip.up .cdr = true → s.chip.pairState = 4 → Does s (exec (.witnessGone p) s) fun c =>
    c.rest = { s.chip.rest with err := c.err, cdr := { s.chip.cdr with heard := s.chip.cdr.heard &&& ~~~(1#48 <<< p.val) } }
    ∧ c.rb rCDR_STATUS 0 0 10 = c.witnessGone ∧ Frame (rCDR_STATUS.addr 0 0 :: logRegs 0x0D) [180, 209] s.chip c) ∧
  (∀ (s : State) (p : Fin 48), s.chip.up .cdr = true → s.chip.pairState = 3 → s.chip.hbOk = true → Does s (exec (.witnessGone p) s) fun c =>
    c.pairState = 3 ∧ Adopts (fun q => s.chip.rb rCDR_CTRL 0 0 2 && s.chip.paired q && !s.chip.adopted q && !(q ≠ p.val && s.chip.cdr.heard.getLsbD q)) s.chip c
    ∧ c.rest = { s.chip.rest with err := c.err, ports := c.ports, cdr := { s.chip.cdr with heard := s.chip.cdr.heard &&& ~~~(1#48 <<< p.val) } }
    ∧ Frame (rCDR_STATUS.addr 0 0 :: rCDR_ADOPT.addr 0 0 :: rCDR_ADOPT.addr 1 0 :: rCDR_CNT.addr 2 0 :: logRegs 0x0D) [180, 181, 209] s.chip c) ∧
  (∀ (s : State) (p : Fin 48), s.chip.up .cdr = true → s.chip.pairState = 3 → s.chip.hbOk = false → s.chip.takeArmed = true → (∀ q ∈ s.chip.witnessPorts, q = p.val ∨ s.chip.cdr.heard.getLsbD q = false) →
    Does s (exec (.witnessGone p) s) fun c => TakesOver s.chip c) ∧
  (∀ (s : State), s.chip.up .cdr = true → s.chip.pairState = 1 → s.chip.corridorUp = false → s.chip.witnessGone = true → Does s (exec .startWaitExpiry s) fun c =>
    c.pairState = 4 ∧ c.ownEpoch = newEpoch s.chip.ownEpoch s.chip.peerEpoch s.chip.sideB ∧ c.irqs.getLsbD 176 = true
    ∧ (∀ p : Fin 48, c.port p = if s.chip.paired p then s.chip.resumed p else s.chip.port p)
    ∧ c.rest = { s.chip.pairRest c with cdr := { s.chip.cdr with askRevert := false, fresh := true } }
    ∧ Frame (rCDR_STATUS.addr 0 0 :: rCDR_EPOCH.addr 0 0 :: rCDR_ADOPT.addr 0 0 :: rCDR_ADOPT.addr 1 0 :: logRegs 0x0D) [176, 180, 209] s.chip c) ∧
  (∀ (s : State), s.chip.up .cdr = true → s.chip.pairState = 3 → s.chip.sideB = false → s.chip.rb rCDR_CTRL 0 0 4 = true → s.chip.rb rCDR_STATUS 0 0 13 = true →
    Does s (exec .revertDelayExpiry s) fun c => c.rest = { s.chip.rest with cdr := { s.chip.cdr with askRevert := true } } ∧ Frame [] [] s.chip c) ∧
  (∀ (s : State) (p : Fin 48) (k : OwnCell) (t : List OwnCell) (d : Chip), s.chip.up (.bank (bankOf p)) = true → (s.chip.bank (bankOf p)).step = 0 → (s.chip.port p).urgent = k :: t →
    fld k.head 31 28 = 0xB → d = { s.chip with cyc := s.chip.cyc + 1 }.insertsAt p → Does s (exec (.assumeSend p) s) fun c =>
    Sends p k.head k.words d c ∧ c.rest = { d.rest with wire := c.wire, ports := mset ({} : Port) d.ports p { d.port p with urgent := t, seq := (c.port p).seq, returned := (c.port p).returned } }
    ∧ Frame (d.sendRegs p) [] d c ∧ (s.chip.insertFrom p = none → d.rest = s.chip.rest ∧ Frame [] [] s.chip d)) ∧
  (∀ (s : State) (i : Instr), (i = .cdrHbLost ∧ (s.chip.up .cdr = false ∨ s.chip.hbOk = false)) ∨ (∃ p : Fin 48, i = .witnessGone p ∧ s.chip.up .cdr = false)
      ∨ (i = .startWaitExpiry ∧ (s.chip.up .cdr = false ∨ s.chip.pairState ≠ 1 ∨ s.chip.corridorUp = true ∨ s.chip.witnessGone = false))
      ∨ (i = .revertDelayExpiry ∧ (s.chip.up .cdr = false ∨ s.chip.pairState ≠ 3 ∨ s.chip.sideB = true ∨ s.chip.rb rCDR_CTRL 0 0 4 = false ∨ s.chip.rb rCDR_STATUS 0 0 13 = false))
      ∨ (∃ p : Fin 48, i = .assumeSend p ∧ (s.chip.up (.bank (bankOf p)) = false ∨ (s.chip.bank (bankOf p)).step ≠ 0 ∨ ((s.chip.port p).urgent.head?.all fun k => fld k.head 31 28 ≠ 0xB) = true)) →
    Does s (exec i s) fun c => c.rest = s.chip.rest ∧ Frame [] [] s.chip c)

/-- A message without lock on the lanes does nothing; one with a wrong CRC is counted and spoils the region being received. HELLO gives the
peer's version range, device and state, fixes the highest common cask version, or none, and brings a link that waits for it up; on a link that is up it
is answered (the model's choice, log entry 201); with no common version a SYNCING unit shows VERSION_ERR with interrupt 176. A peer that comes to SYNCING has the four
regions sent. STATE on a link that is up gives the peer's state, adoptions, last cask and epoch; a higher epoch than its own demotes an ACTIVE unit. STATE is sent with six words. A unit that follows
writes a wanted cask's segment into its bank, giving up another that lacks its SEAL, and at SEAL, every word there and the CRC equal, seals it and acknowledges; else it gives it up, counted,
interrupt 182. ACK drops the changes the cask carried. The builder of an ACTIVE unit writes the cask into its bank with its CRC and SEQ and clears POL_LEN; one whose POLICY words read poisoned is given up.
BULK words are written to their region where they continue it, a gap spoils it; BULK_END completes it where the CRC is equal. The region being sent goes out 1,024 words at a time, then its BULK_END.
FWMSG words queue for firmware. A message not for the unit's state changes nothing. -/
def Obligations.corridor_messages : Prop :=
  (∀ (s : State) (i : Instr), cdrMessage i = some false → s.chip.cdrOpen → Does s (exec i s) fun c =>
    c.rd rCDR_CNT 7 = s.chip.rd rCDR_CNT 7 + 1 ∧ c.rest = { s.chip.rest with cdr := { s.chip.cdr with bulkIn := none, bulkLost := s.chip.spoiled 0 } } ∧ Frame [rCDR_CNT.addr 7 0] [] s.chip c) ∧
  (∀ (s : State) (i : Instr), cdrMessage i ≠ none → ¬ s.chip.cdrOpen → Does s (exec i s) fun c => c.rest = s.chip.rest ∧ Frame [] [] s.chip c) ∧
  (∀ (s : State) (ws : List Word), s.chip.cdrOpen → Does s (exec (.fwmsg ws true) s) fun c =>
    c.rest = { s.chip.rest with cdr := { s.chip.cdr with fwmsg := s.chip.cdr.fwmsg ++ [ws.take 4095] } } ∧ Frame [] [] s.chip c) ∧
  (∀ (s : State) (m : CdrHello) (lo hi : Nat), s.chip.cdrOpen → lo = max (s.chip.rf rCDR_VER 0 0 7 0) m.verMin → hi = min (s.chip.rf rCDR_VER 0 0 15 8) m.verMax →
    Does s (exec (.corridorHello m true) s) fun c =>
    c.cdr.hello = true ∧ c.cdr.peerVer = some (m.verMin, m.verMax) ∧ c.cdr.peerDev = m.dev ∧ c.corridorUp = true ∧ c.rf rCDR_STATUS 0 0 5 3 = m.state ∧ c.rb rCDR_STATUS 0 0 6 = decide (m.state.val = 4)
    ∧ c.rf rCDR_VER 0 0 23 16 = (if lo ≤ hi then hi % 256 else 0) ∧ c.peerEpoch = s.chip.peerAfter m.epoch.toNat
    ∧ c.wire = (if s.chip.corridorUp = true then s.chip.cdrOut 1 s.chip.helloBody else []) ++ s.chip.wire ∧ c.que = (if s.chip.corridorUp = true then s.chip.cdrQue else s.chip.que)
    ∧ c.rest = { s.chip.pairRest c with wire := c.wire, que := c.que } ∧ Frame (rCDR_VER.addr 0 0 :: pairRegs) pairIrqs s.chip c) ∧
  (∀ (s : State) (m : CdrHello), s.chip.cdrOpen → s.chip.corridorUp = true → s.chip.pairState = 4 → s.chip.hbOk = true →
    epochHigher m.epoch.toNat s.chip.ownEpoch = false → s.chip.rb rCDR_STATUS 0 0 7 = false → s.chip.rf rCDR_STATUS 0 0 5 3 ≠ 2 → m.state.val ≠ 2 → Does s (exec (.corridorHello m true) s) fun c =>
    c.rest = { s.chip.rest with wire := c.wire, que := c.que, cdr := { s.chip.cdr with hello := true, peerVer := some (m.verMin, m.verMax), peerDev := m.dev, mseq := s.chip.cdr.mseq + 1 } }
    ∧ Frame [rCDR_STATUS.addr 0 0, rCDR_VER.addr 0 0, rCDR_EPOCH.addr 0 0] [] s.chip c) ∧
  (∀ (s : State) (m : CdrHello) (lo hi : Nat), s.chip.cdrOpen → s.chip.pairState = 4 → epochHigher m.epoch.toNat s.chip.ownEpoch = false → s.chip.cdr.bulkSent = false → m.state.val = 2 →
    lo = max (s.chip.rf rCDR_VER 0 0 7 0) m.verMin → hi = min (s.chip.rf rCDR_VER 0 0 15 8) m.verMax → lo ≤ hi → 0 < hi % 256 → Does s (exec (.corridorHello m true) s) fun c =>
    c.pairState = 4 ∧ c.cdr.bulkSent = true
    ∧ (if s.chip.cdr.bulkOut = none then c.cdr.bulkOut = some { region := 1, off := 0 } ∧ c.cdr.bulkTodo = (s.chip.cdr.bulkTodo ||| 0b11100) &&& 0b11101 ∧ c.rb rCDR_BULK 0 0 31 = true ∧ c.rf rCDR_BULK 0 0 19 16 = 1
      else c.cdr.bulkOut = s.chip.cdr.bulkOut ∧ c.cdr.bulkTodo = s.chip.cdr.bulkTodo ||| 0b11110)) ∧
  (∀ (s : State) (m : CdrHello) (lo hi : Nat), s.chip.cdrOpen → s.chip.pairState = 2 → s.chip.hbOk = true →
    lo = max (s.chip.rf rCDR_VER 0 0 7 0) m.verMin → hi = min (s.chip.rf rCDR_VER 0 0 15 8) m.verMax → hi < lo → Does s (exec (.corridorHello m true) s) fun c =>
    c.pairState = 2 ∧ c.rb rCDR_STATUS 0 0 14 = true ∧ c.irqs.getLsbD 176 = true ∧ (s.chip.corridorUp = true → s.chip.rb rCDR_STATUS 0 0 7 = false → Reports 0x0D 0xDB s.chip c)) ∧
  (∀ (s : State) (m : CdrHello), s.chip.cdrOpen → s.chip.pairState = 4 → m.epoch ≠ 0 → epochHigher m.epoch.toNat s.chip.ownEpoch = true → Does s (exec (.corridorHello m true) s) fun c =>
    c.pairState = 2 ∧ c.rd rCDR_CNT 1 = s.chip.rd rCDR_CNT 1 + 1 ∧ c.irqs.getLsbD 178 = true ∧ c.cdr.swap = none ∧ c.cdr.regions = 0) ∧
  (∀ (s : State) (m : CdrState), s.chip.cdrOpen → s.chip.corridorUp = true → Does s (exec (.corridorState m true) s) fun c =>
    c.cdr.peerAdopt = m.adopted ∧ c.cdr.peerAcked = m.lastCask ∧ c.rf rCDR_STATUS 0 0 5 3 = m.state ∧ c.rb rCDR_STATUS 0 0 6 = decide (m.state.val = 4) ∧ c.peerEpoch = s.chip.peerAfter m.epoch.toNat
    ∧ c.rest = { s.chip.pairRest c with wire := c.wire, que := c.que } ∧ (m.revert = false ∨ s.chip.pairState ≠ 4 → c.pairState = 4 ∨ c.wire = s.chip.wire ∧ c.que = s.chip.que)
    ∧ Frame pairRegs pairIrqs s.chip c) ∧
  (∀ (s : State) (m : CdrState), s.chip.cdrOpen → s.chip.corridorUp = true → s.chip.pairState = 4 → s.chip.hbOk = true → m.revert = false →
    m.state.val ≠ 2 → s.chip.rf rCDR_STATUS 0 0 5 3 ≠ 2 → epochHigher m.epoch.toNat s.chip.ownEpoch = false → s.chip.rb rCDR_STATUS 0 0 7 = false →
    Does s (exec (.corridorState m true) s) fun c =>
    c.rest = { s.chip.rest with cdr := { s.chip.cdr with peerAdopt := m.adopted, peerAcked := m.lastCask } } ∧ Frame [rCDR_STATUS.addr 0 0, rCDR_EPOCH.addr 0 0] [] s.chip c) ∧
  (∀ (s : State) (m : CdrState), s.chip.cdrOpen → s.chip.corridorUp = true → s.chip.pairState = 4 → m.epoch ≠ 0 → epochHigher m.epoch.toNat s.chip.ownEpoch = true → Does s (exec (.corridorState m true) s) fun c =>
    c.pairState = 2 ∧ c.rd rCDR_CNT 1 = s.chip.rd rCDR_CNT 1 + 1 ∧ c.irqs.getLsbD 178 = true ∧ c.cdr.swap = none ∧ c.cdr.regions = 0) ∧
  (∀ (s : State) (m : CdrState), s.chip.cdrOpen → s.chip.corridorUp = true → s.chip.pairState = 4 → m.revert = false → epochHigher m.epoch.toNat s.chip.ownEpoch = false → s.chip.cdr.bulkSent = false → s.chip.cdr.bulkOut = none →
    m.state.val = 2 → s.chip.noVersion = false → Does s (exec (.corridorState m true) s) fun c =>
    c.cdr.bulkOut = some { region := 1, off := 0 } ∧ c.cdr.bulkTodo = (s.chip.cdr.bulkTodo ||| 0b11100) &&& 0b11101 ∧ c.cdr.bulkSent = true ∧ c.rb rCDR_BULK 0 0 31 = true ∧ c.rf rCDR_BULK 0 0 19 16 = 1) ∧
  (∀ (s : State), s.chip.up .cdr = true → s.chip.corridorUp = true → Does s (exec .stateSend s) fun c =>
    c.wire = s.chip.cdrOut 2 [BitVec.ofNat 32 (b2n s.chip.cdr.askRevert * 2 ^ 31 + s.chip.pairState), BitVec.ofNat 32 s.chip.ownEpoch, BitVec.ofNat 32 s.chip.peerEpoch, s.chip.rd rCDR_ADOPT 0,
      s.chip.rd rCDR_ADOPT 1, s.chip.cdr.applied] ++ s.chip.wire ∧ c.que = s.chip.cdrQue
    ∧ c.rest = { s.chip.rest with err := c.err, wire := c.wire, que := c.que, cdr := { s.chip.cdr with mseq := s.chip.cdr.mseq + 1, swap := c.cdr.swap } }
    ∧ Frame (rCDR_SWAP.addr 0 0 :: rCDR_STATUS.addr 0 0 :: logRegs 0x0D) [209] s.chip c
    ∧ ((s.chip.cdr.swap.all fun x => x.incoming || x.agreed) = true → c.cdr.swap = s.chip.cdr.swap ∧ c.err = s.chip.err ∧ Frame [] [] s.chip c)) ∧
  (∀ (s : State) (q : Word) (off : Nat) (ws : List Word), s.chip.cdrOpen → s.chip.caskWanted q → Does s (exec (.caskMsg q off ws true) s) fun c =>
    c.cdr = { s.chip.cdr with caskIn := some { seq := q, got := (List.range (min (min ws.length 1024) (16384 - off))).map (· + off) ++ ((s.chip.cdr.caskIn.filter fun x => x.seq = q).map fun x => x.got).getD [] } }
    ∧ c.rd rCDR_CNT 4 = s.chip.rd rCDR_CNT 4 + (if (s.chip.cdr.caskIn.all fun x => x.seq = q) = true then 0 else 1) ∧ ((s.chip.cdr.caskIn.all fun x => x.seq = q) = false → c.irqs.getLsbD 182 = true)
    ∧ c.rest = { s.chip.rest with mem := c.mem, cel := c.cel, err := c.err, cdr := c.cdr } ∧ Frame (caskRegs ++ celRegs) (182 :: celIrqs) s.chip c) ∧
  (∀ (s : State) (q : Word) (off b : Nat) (ws : List Word), s.chip.cdrOpen → s.chip.caskWanted q → off + ws.length ≤ 16384 → ws.length ≤ 1024 → s.chip.celCalm → s.chip.rb rRGN_WMASK 7 0 7 = true → b = caskBank q →
    Does s (exec (.caskMsg q off ws true) s) fun c =>
    c.words (b + 4 * off) ws.length = ws ∧ Frame caskRegs [182, 209] s.chip c
    ∧ (if (s.chip.cdr.caskIn.any fun x => x.seq = q) = true then SameBytes (fun n => b + 4 * off ≤ n ∧ n < b + 4 * (off + ws.length)) s.chip c ∧ Frame [] [] s.chip c
      else SameBytes (fun n => (b + 4 * off ≤ n ∧ n < b + 4 * (off + ws.length)) ∨ (b + 4 * (17 + min 16366 (s.chip.word (b + 12)).toNat) ≤ n ∧ n < b + 4 * (18 + min 16366 (s.chip.word (b + 12)).toNat))) s.chip c)) ∧
  (∀ (s : State) (q : Word) (n : Nat) (crc sl : Word) (x : CaskIn), s.chip.cdrOpen → s.chip.caskWanted q →
    s.chip.cdr.caskIn = some x → x.seq = q → sl = q → n ≤ 16382 → (∀ i < n, i ∈ x.got) → crc32c (s.chip.bytes (caskBank q) (4 * n)) = crc → s.chip.celCalm →
    s.chip.rb rRGN_WMASK 7 0 7 = true → Does s (exec (.sealMsg q n crc sl true) s) fun c =>
    c.cdr = { s.chip.cdr with caskIn := none, sealed_ := some q, mseq := s.chip.cdr.mseq + (if s.chip.corridorUp = true then 1 else 0) } ∧ c.words (caskBank q + 4 * n) 2 = [crc, q]
    ∧ c.wire = (if s.chip.corridorUp = true then s.chip.cdrOut 5 [q] else []) ++ s.chip.wire ∧ c.que = (if s.chip.corridorUp = true then s.chip.cdrQue else s.chip.que)
    ∧ SameBytes (fun i => caskBank q + 4 * n ≤ i ∧ i < caskBank q + 4 * n + 8) s.chip c ∧ c.rest = { s.chip.rest with mem := c.mem, cel := c.cel, cdr := c.cdr, wire := c.wire, que := c.que } ∧ Frame [] [] s.chip c) ∧
  (∀ (s : State) (q : Word) (n : Nat) (crc sl : Word), s.chip.cdrOpen → s.chip.caskWanted q →
    (s.chip.cdr.caskIn.any fun x => x.seq = q && sl = q && n ≤ 16384 && (List.range n).all fun i => x.got.any fun j => j = i) = false ∨ (s.chip.celCalm ∧ n ≤ 16382 ∧ crc32c (s.chip.bytes (caskBank q) (4 * n)) ≠ crc) →
    Does s (exec (.sealMsg q n crc sl true) s) fun c =>
    c.rest = { s.chip.rest with err := c.err, cdr := { s.chip.cdr with caskIn := s.chip.cdr.caskIn.filter fun x => x.seq ≠ q } } ∧ c.rd rCDR_CNT 4 = s.chip.rd rCDR_CNT 4 + 1 ∧ c.irqs.getLsbD 182 = true ∧ Reports 0x0D 0xD8 s.chip c
    ∧ Frame caskRegs [182, 209] s.chip c) ∧
  (∀ (s : State) (q : Word), s.chip.cdrOpen → s.chip.pairState = 4 → Does s (exec (.ackMsg q true) s) fun c =>
    c.rd rCASK_ACK = q ∧ c.rest = { s.chip.rest with cdr := { s.chip.cdr with changes := s.chip.cdr.changes.filter fun x => !x.casks.any fun y => y = q } } ∧ Frame [rCASK_ACK.addr 0 0] [] s.chip c) ∧
  (∀ (s : State) (k : Int) (q : Word) (b : Nat) (d : Chip), s.chip.up .cdr = true → s.chip.pairState = 4 → s.chip.drv.evalK = some k → s.chip.rd rPOL_LEN = 0 → s.chip.cdr.changes = [] →
    s.chip.celCalm → s.chip.rb rRGN_WMASK 7 0 7 = true → s.chip.corridorUp = true → q = s.chip.rd rCASK_SEQ + 1 → b = caskBank q → d = { s.chip with cdr := { s.chip.cdr with mseq := s.chip.cdr.mseq + 1 } } → Does s (exec .caskBuild s) fun c =>
    c.rd rCASK_SEQ = q ∧ c.words b 9 = [0x4341534B, BitVec.ofNat 32 (s.chip.rf rCDR_VER 0 0 23 16 * 65536 + 1), q, 55, tsWord (gridF s.chip.time.grid k).toNat 0,
      tsWord (gridF s.chip.time.grid k).toNat 1, tsWord (gridF s.chip.time.grid k).toNat 2, wordOf k, BitVec.ofNat 32 s.chip.ownEpoch]
    ∧ c.words (b + 64) 55 = s.chip.frameRec (wordOf k) ∧ c.words (b + 284) 2 = [wordsCrc (c.words b 71), q]
    ∧ c.wire = .cdr (d.cdrWords 4 [q, 71, wordsCrc (c.words b 71), q]) :: (s.chip.cdrOut 3 (q :: 0 :: c.words b 71) ++ s.chip.wire) ∧ c.que = s.chip.cdrQue
    ∧ SameBytes (fun i => (b ≤ i ∧ i < b + 292) ∨ (b + 4 * (17 + min 16366 (s.chip.word (b + 12)).toNat) ≤ i ∧ i < b + 4 * (18 + min 16366 (s.chip.word (b + 12)).toNat))) s.chip c
    ∧ c.rest = { s.chip.rest with mem := c.mem, cel := c.cel, wire := c.wire, que := c.que, cdr := { s.chip.cdr with mseq := s.chip.cdr.mseq + 2 } } ∧ Frame [rCASK_SEQ.addr 0 0, rPOL_LEN.addr 0 0] [] s.chip c) ∧
  (∀ (s : State) (k : Int) (q : Word) (b n : Nat), s.chip.up .cdr = true → s.chip.pairState = 4 → s.chip.drv.evalK = some k → s.chip.celCalm → s.chip.rb rRGN_WMASK 7 0 7 = true →
    n = min 16310 (s.chip.rd rPOL_LEN).toNat → 0x80000000 ≤ (s.chip.rd rPOL_BASE).toNat ∧ (s.chip.rd rPOL_BASE).toNat + 4 * n ≤ 0x96000000 → q = s.chip.rd rCASK_SEQ + 1 → b = caskBank q → Does s (exec .caskBuild s) fun c =>
    c.rd rCASK_SEQ = q ∧ c.rd rPOL_LEN = 0 ∧ c.words b 1 = [0x4341534B] ∧ c.words (b + 8) 1 = [q] ∧ c.words (b + 64) 55 = s.chip.frameRec (wordOf k) ∧ (s.chip.word (b + 12)).toNat ≤ 16366
    ∧ c.words (b + 64 + 4 * (c.word (b + 12)).toNat) 2 = [wordsCrc (c.words b (16 + (c.word (b + 12)).toNat)), q]
    ∧ SameBytes (fun i => b ≤ i ∧ i < b + 65536) s.chip c ∧ Frame (rCASK_SEQ.addr 0 0 :: rPOL_LEN.addr 0 0 :: rCDR_CNT.addr 5 0 :: pairRegs) pairIrqs s.chip c) ∧
  (∀ (s : State) (k : Int), s.chip.up .cdr = true → s.chip.pairState = 4 → s.chip.drv.evalK = some k → ({ s.chip with cyc := s.chip.cyc + 1 }.caskUnseal (caskBank (s.chip.rd rCASK_SEQ + 1))).policyWords.2 = none →
    Does s (exec .caskBuild s) fun c => c.rd rCDR_CNT 4 = s.chip.rd rCDR_CNT 4 + 1 ∧ c.irqs.getLsbD 182 = true ∧ c.cdr = s.chip.cdr ∧ c.wire = s.chip.wire ∧ c.rd rCASK_SEQ = s.chip.rd rCASK_SEQ ∧ Frame (caskRegs ++ celRegs) (182 :: celIrqs) s.chip c) ∧
  (∀ (s : State) (r : Fin 4) (off : Nat) (ws : List Word), s.chip.cdrOpen → s.chip.pairState = 2 ∨ s.chip.pairState = 3 → ws.length ≤ 1024 → off + 4 * ws.length ≤ bulkSize (r + 1) → off % 4 = 0 →
    off = 0 ∨ (s.chip.pairState = 2 ∧ s.chip.cdr.bulkIn = some { region := r + 1, off := off }) → s.chip.celCalm → s.chip.rb rRGN_WMASK (r + 1) 0 7 = true → s.chip.hbOk = true →
    Does s (exec (.bulkMsg (r + 1) off ws true) s) fun c =>
    c.words (bulkBase (r + 1) + off) ws.length = ws ∧ c.pairState = 2 ∧ c.cdr.bulkIn = some { region := r + 1, off := off + 4 * ws.length } ∧ c.cdr.regions = s.chip.cdr.regions &&& ~~~(1#5 <<< (r.val + 1))
    ∧ (c.cdr.bulkLost.getLsbD (r + 1) = (off ≠ 0 && s.chip.cdr.bulkLost.getLsbD (r + 1))) ∧ c.rb rCDR_STATUS 0 0 13 = s.chip.rb rCDR_STATUS 0 0 13
    ∧ SameBytes (fun n => bulkBase (r + 1) + off ≤ n ∧ n < bulkBase (r + 1) + off + 4 * ws.length) s.chip c ∧ c.rest = { s.chip.pairRest c with mem := c.mem, cel := c.cel } ∧ Frame pairRegs [176, 180, 209] s.chip c) ∧
  (∀ (s : State) (r off : Nat) (ws : List Word), s.chip.cdrOpen → s.chip.pairState = 2 → 1 ≤ r → r ≤ 4 → off + 4 * (ws.take 1024).length ≤ bulkSize r → off ≠ 0 → s.chip.cdr.bulkIn ≠ some { region := r, off := off } →
    Does s (exec (.bulkMsg r off ws true) s) fun c => c.rest = { s.chip.rest with cdr := { s.chip.cdr with bulkIn := none, bulkLost := s.chip.spoiled r ||| (1#5 <<< r) } } ∧ Frame [] [] s.chip c) ∧
  (∀ (s : State) (r : Fin 4) (crc : Word), s.chip.cdrOpen → s.chip.pairState = 2 → s.chip.celCalm → (s.chip.regionCrc (bulkBase (r + 1)) (bulkSize (r + 1) / 4) 0xFFFFFFFF).2 = crc →
    Does s (exec (.bulkEnd (r + 1) crc true) s) fun c =>
    c.cdr.bulkIn = none ∧ c.cdr.regions = s.chip.cdr.regions ||| (1#5 <<< (r.val + 1)) ∧ c.cdr.bulkLost = s.chip.cdr.bulkLost &&& ~~~(1#5 <<< (r.val + 1)) ∧ c.rest = s.chip.pairRest c ∧ Frame pairRegs pairIrqs s.chip c
    ∧ (s.chip.hbOk = true → s.chip.rb rCDR_STATUS 0 0 13 = true → s.chip.noVersion = false → s.chip.cdr.regions ||| (1#5 <<< (r.val + 1)) = 0b11110 → c.pairState = 3)) ∧
  (∀ (s : State) (r : Fin 4) (crc : Word), s.chip.cdrOpen → s.chip.pairState = 2 → s.chip.celCalm → (s.chip.regionCrc (bulkBase (r + 1)) (bulkSize (r + 1) / 4) 0xFFFFFFFF).2 ≠ crc →
    Does s (exec (.bulkEnd (r + 1) crc true) s) fun c => c.rest = { s.chip.rest with cdr := { s.chip.cdr with bulkIn := none, bulkLost := s.chip.cdr.bulkLost ||| (1#5 <<< (r.val + 1)) } } ∧ Frame [] [] s.chip c) ∧
  (∀ (s : State) (b : BulkSt), s.chip.corridorUp = true → s.chip.up .cdr = true → s.chip.cdr.bulkOut = some b → b.off < bulkSize b.region → 1 ≤ b.region → b.region ≤ 4 → s.chip.celCalm → b.off % 4096 = 0 →
    Does s (exec .bulkTransfer s) fun c =>
    c.wire = s.chip.cdrOut 8 (BitVec.ofNat 32 b.region :: BitVec.ofNat 32 b.off :: s.chip.words (bulkBase b.region + b.off) 1024) ++ s.chip.wire ∧ c.que = s.chip.cdrQue
    ∧ c.rest = { s.chip.rest with wire := c.wire, que := c.que, cdr := { s.chip.cdr with mseq := s.chip.cdr.mseq + 1, bulkOut := some { b with off := b.off + 4096 } } } ∧ Frame [] [] s.chip c) ∧
  (∀ (s : State) (b : BulkSt) (crc : Word), s.chip.corridorUp = true → s.chip.up .cdr = true → s.chip.cdr.bulkOut = some b → bulkSize b.region ≤ b.off → 1 ≤ b.region → b.region ≤ 4 → s.chip.celCalm →
    (s.chip.regionCrc (bulkBase b.region) (bulkSize b.region / 4) 0xFFFFFFFF).2 = crc → Does s (exec .bulkTransfer s) fun c =>
    c.wire = s.chip.cdrOut 9 [BitVec.ofNat 32 b.region, crc] ++ s.chip.wire ∧ c.que = s.chip.cdrQue
    ∧ (if s.chip.cdr.bulkTodo &&& 0b11110 = 0 then c.cdr.bulkOut = none ∧ c.rb rCDR_BULK 0 0 31 = false else ∃ q : Fin 5, c.cdr.bulkOut = some { region := q, off := 0 } ∧ s.chip.cdr.bulkTodo.getLsbD q = true ∧ c.rb rCDR_BULK 0 0 31 = true)
    ∧ Frame [rCDR_BULK.addr 0 0] [] s.chip c) ∧
  (∀ (s : State) (i : Instr), s.chip.cdrOpen ∨ cdrMessage i = none → s.chip.pairIdle i = true → Does s (exec i s) fun c => c.rest = s.chip.rest ∧ Frame [] [] s.chip c)

/-- GO on an ACTIVE unit with the link up, the standby in STANDBY and the leads long enough schedules the swap at the first commit
point four periods away and sends SWAP with the standby's new epoch; else it is refused: GO clears, code 0xDD. A peer's request to revert
does as GO. GO on a unit that is not ACTIVE, or with a swap under way, changes nothing but its register. SWAP at
a STANDBY unit in lockstep with its leads long enough is accepted: SWAP_PEND, code 0xDC, SWAP_ACK sent with 1; elsewhere refused with 0. A SWAP_ACK in time that accepts
shows SWAP_PEND on the active unit; one that refuses, or the time of P(k - 1) passed without one, ends the swap. RELEASE sends the mask's words and the frame; received by a unit
that is not ACTIVE, it waits for its frame. -/
def Obligations.planned_swaps : Prop :=
  (∀ (s : State) (a : Access) (v k : Word), s.chip.takes a rCDR_SWAP 0 0 (v ||| 0x80000000) → s.chip.pairState = 4 → s.chip.cdr.swap = none →
    s.chip.corridorUp = true → s.chip.rf rCDR_STATUS 0 0 5 3 = 3 → s.chip.swapLead = true → k = wordOf s.chip.swapFrame → Does s (exec (.swapGo a v) s) fun c =>
    c.cdr = { s.chip.cdr with swap := some { k := k, epoch := s.chip.otherEpoch, incoming := false }, mseq := s.chip.cdr.mseq + (if bit v 30 = true then 2 else 1) } ∧ c.rb rCDR_SWAP 0 0 31 = true
    ∧ c.wire = (if bit v 30 = true then [.cdr ({ s.chip with cdr := { s.chip.cdr with mseq := s.chip.cdr.mseq + 1 } }.cdrWords 0xA s.chip.releaseBody)] else [])
        ++ s.chip.cdrOut 6 [k, BitVec.ofNat 32 s.chip.otherEpoch.toNat] ++ s.chip.wire ∧ c.que = s.chip.cdrQue
    ∧ c.rest = { s.chip.rest with wire := c.wire, que := c.que, cdr := c.cdr } ∧ Frame [rCDR_SWAP.addr 0 0] [] s.chip c) ∧
  (∀ (s : State) (a : Access) (v : Word), s.chip.takes a rCDR_SWAP 0 0 (v ||| 0x80000000) → s.chip.pairState = 4 → s.chip.cdr.swap = none →
    s.chip.corridorUp = false ∨ s.chip.rf rCDR_STATUS 0 0 5 3 ≠ 3 ∨ s.chip.swapLead = false → Does s (exec (.swapGo a v) s) fun c =>
    c.rb rCDR_SWAP 0 0 31 = false ∧ c.rb rCDR_STATUS 0 0 15 = false ∧ Reports 0x0D 0xDD s.chip c ∧ c.cdr.swap = none
    ∧ c.rest = { s.chip.rest with err := c.err, wire := c.wire, que := c.que, cdr := c.cdr } ∧ (bit v 30 = false ∨ s.chip.corridorUp = false → c.rest = { s.chip.rest with err := c.err })
    ∧ Frame (rCDR_SWAP.addr 0 0 :: rCDR_STATUS.addr 0 0 :: logRegs 0x0D) [209] s.chip c) ∧
  (∀ (s : State) (a : Access) (v : Word), s.chip.takes a rCDR_SWAP 0 0 (v ||| 0x80000000) → s.chip.pairState ≠ 4 ∨ s.chip.cdr.swap ≠ none → Does s (exec (.swapGo a v) s) fun c =>
    c.rest = { s.chip.rest with wire := c.wire, que := c.que, cdr := { s.chip.cdr with mseq := c.cdr.mseq } } ∧ (bit v 30 = false ∨ s.chip.pairState ≠ 4 → c.rest = s.chip.rest) ∧ Frame [rCDR_SWAP.addr 0 0] [] s.chip c) ∧
  (∀ (s : State) (m : CdrState) (k : Word), s.chip.cdrOpen → s.chip.corridorUp = true → s.chip.pairState = 4 → s.chip.hbOk = true → m.revert = true → m.state.val = 3 → s.chip.rf rCDR_STATUS 0 0 5 3 ≠ 2 →
    epochHigher m.epoch.toNat s.chip.ownEpoch = false → s.chip.rb rCDR_STATUS 0 0 7 = false → s.chip.cdr.swap = none → s.chip.swapLead = true → k = wordOf s.chip.swapFrame → Does s (exec (.corridorState m true) s) fun c =>
    c.cdr.swap = some { k := k, epoch := c.otherEpoch, incoming := false } ∧ c.rb rCDR_SWAP 0 0 31 = true ∧ c.wire = s.chip.cdrOut 6 [k, BitVec.ofNat 32 c.otherEpoch.toNat] ++ s.chip.wire ∧ c.que = s.chip.cdrQue
    ∧ c.rest = { s.chip.rest with wire := c.wire, que := c.que, cdr := { s.chip.cdr with peerAdopt := m.adopted, peerAcked := m.lastCask, swap := c.cdr.swap, mseq := s.chip.cdr.mseq + 1 } }
    ∧ Frame [rCDR_SWAP.addr 0 0, rCDR_STATUS.addr 0 0, rCDR_EPOCH.addr 0 0] [] s.chip c) ∧
  (∀ (s : State) (k : Word) (e : BitVec 16), s.chip.cdrOpen → s.chip.pairState = 3 → s.chip.rb rCDR_STATUS 0 0 13 = true → s.chip.corridorUp = true →
    s.chip.swapLead = true → Does s (exec (.swapMsg k e true) s) fun c =>
    c.rb rCDR_STATUS 0 0 15 = true ∧ Reports 0x0D 0xDC s.chip c ∧ c.wire = s.chip.cdrOut 7 [k, 1] ++ s.chip.wire ∧ c.que = s.chip.cdrQue
    ∧ c.rest = { s.chip.rest with err := c.err, wire := c.wire, que := c.que, cdr := { s.chip.cdr with swap := some { k := k, epoch := e, incoming := true, agreed := true }, mseq := s.chip.cdr.mseq + 1 } }
    ∧ Frame (rCDR_STATUS.addr 0 0 :: logRegs 0x0D) [209] s.chip c) ∧
  (∀ (s : State) (k : Word) (e : BitVec 16), s.chip.cdrOpen → s.chip.pairState ≠ 3 ∨ s.chip.rb rCDR_STATUS 0 0 13 = false ∨ s.chip.swapLead = false → s.chip.corridorUp = true → Does s (exec (.swapMsg k e true) s) fun c =>
    c.wire = s.chip.cdrOut 7 [k, 0] ++ s.chip.wire ∧ c.que = s.chip.cdrQue ∧ c.rest = { s.chip.rest with wire := c.wire, que := c.que, cdr := { s.chip.cdr with mseq := s.chip.cdr.mseq + 1 } } ∧ Frame [] [] s.chip c) ∧
  (∀ (s : State) (x : SwapSt), s.chip.cdrOpen → s.chip.cdr.swap = some x → x.incoming = false → x.agreed = false → ¬ s.chip.swapPast x → Does s (exec (.swapAck x.k true true) s) fun c =>
    c.rest = { s.chip.rest with err := c.err, cdr := { s.chip.cdr with swap := some { x with agreed := true } } } ∧ c.rb rCDR_STATUS 0 0 15 = true ∧ Reports 0x0D 0xDC s.chip c
    ∧ Frame (rCDR_STATUS.addr 0 0 :: logRegs 0x0D) [209] s.chip c) ∧
  (∀ (s : State) (x : SwapSt) (k : Word) (ok : Bool), s.chip.cdrOpen → s.chip.cdr.swap = some x → x.incoming = false → x.agreed = false → s.chip.swapPast x ∨ (k = x.k ∧ ok = false) → Does s (exec (.swapAck k ok true) s) fun c =>
    c.rest = { s.chip.rest with err := c.err, cdr := { s.chip.cdr with swap := none } } ∧ c.rb rCDR_SWAP 0 0 31 = false ∧ c.rb rCDR_STATUS 0 0 15 = false ∧ Reports 0x0D 0xDD s.chip c
    ∧ Frame (rCDR_SWAP.addr 0 0 :: rCDR_STATUS.addr 0 0 :: logRegs 0x0D) [209] s.chip c) ∧
  (∀ (s : State) (x : SwapSt) (k : Word) (ok : Bool), s.chip.cdrOpen → s.chip.cdr.swap = some x → ¬ s.chip.swapPast x → k ≠ x.k → Does s (exec (.swapAck k ok true) s) fun c =>
    c.rest = s.chip.rest ∧ Frame [] [] s.chip c) ∧
  (∀ (s : State) (x : SwapSt), s.chip.up .cdr = true → s.chip.cdr.swap = some x → x.incoming = false → x.agreed = false → s.chip.swapPast x → Does s (exec .stateSend s) fun c =>
    c.cdr.swap = none ∧ c.rb rCDR_SWAP 0 0 31 = false ∧ Reports 0x0D 0xDD s.chip c) ∧
  (∀ (s : State) (a : Access) (v : Word), s.chip.takes a rCDR_SWAP 0 0 (v ||| 0x40000000) → bit v 31 = false → s.chip.pairState = 4 → s.chip.corridorUp = true →
    Does s (exec (.cdrRelease a v) s) fun c =>
    c.wire = s.chip.cdrOut 0xA s.chip.releaseBody ++ s.chip.wire ∧ c.que = s.chip.cdrQue
    ∧ c.rest = { s.chip.rest with wire := c.wire, que := c.que, cdr := { s.chip.cdr with mseq := s.chip.cdr.mseq + 1 } } ∧ Frame [rCDR_SWAP.addr 0 0] [] s.chip c) ∧
  (∀ (s : State) (a : Access) (v : Word), s.chip.takes a rCDR_SWAP 0 0 (v ||| 0x40000000) → (s.chip.pairState ≠ 4 ∨ (bit v 31 = false ∧ s.chip.corridorUp = false)) → Does s (exec (.cdrRelease a v) s) fun c =>
    c.rest = s.chip.rest ∧ Frame [rCDR_SWAP.addr 0 0] [] s.chip c) ∧
  (∀ (s : State) (a : Access) (v : Word), s.chip.takes a rCDR_SWAP 0 0 (v ||| 0x40000000) → bit v 31 = true → s.chip.pairState = 4 → Does s (exec (.cdrRelease a v) s) fun c =>
    c.rest = { s.chip.rest with err := c.err, wire := c.wire, que := c.que, cdr := c.cdr } ∧ (s.chip.corridorUp = true → c.wire.head? = some (.cdr ({ s.chip with cdr := { s.chip.cdr with mseq := c.cdr.mseq - 1 } }.cdrWords 0xA s.chip.releaseBody)) ∨ s.chip.cutOff [0x40] = true)
    ∧ Frame (rCDR_SWAP.addr 0 0 :: rCDR_STATUS.addr 0 0 :: logRegs 0x0D) [209] s.chip c) ∧
  (∀ (s : State) (ports : BitVec 48) (k : Word), s.chip.cdrOpen → s.chip.pairState ≠ 4 → Does s (exec (.releaseMsg ports k true) s) fun c =>
    c.rest = { s.chip.rest with cdr := { s.chip.cdr with releases := s.chip.cdr.releases ++ [(ports, k)] } } ∧ Frame [] [] s.chip c) ∧
  (∀ (s : State) (i : Instr), s.chip.cdrOpen → cdrMessage i = some true → s.chip.pairIdle i = true → Does s (exec i s) fun c => c.rest = s.chip.rest ∧ Frame [] [] s.chip c)

/-- An enabled side that gains lock sends a HELLO of position, version and vintage, upstream also those heard from downstream (the model's choice, log entry 232); without the peer's it is not up yet. A side
that loses lock goes down, with interrupt 186 where it was up; upstream a follower's master is then lost. A HELLO from downstream counts its position, is passed on towards the master (log entry 232) and brings that side up; one
from the right upstream position brings that side up, one from a wrong position shows POS_ERR with interrupt 186 and takes it down. The
master sends TIME by broadcast, what its clock will hold at the first microsecond at least 10 µs off; a follower keeps it and takes the addend but while its master is lost. A follower's
SYNC edge is noted; with the link up it ends MASTER_LOST, with interrupt 185; it enters its phase error while the loop runs, the 64th giving the
average in TRL_PHERR, one phase step and ALIGNED, which the servo follows; in its own slot a ready follower pulls STK_ACK low. The edge of a TIME message more than 2 ns off shows TIME_ERR with interrupt 189 and asks for a step. Missing
edges mark the master lost, counted, interrupt 185, the servo in holdover. The master's fourth low sample marks a follower present, a run of misses lost, each with interrupt 184, a low in its own slot shows STUCK_LOW (STATUS bit 6) with
interrupt 188; the line's level is shown. A domain held or a condition not met: nothing happens. -/
def Obligations.trellis_links_and_time : Prop :=
  (∀ (s : State) (d : Bool) (l : List (List Word)), s.chip.up .trl = true → s.chip.rb rTRL_CTRL 0 0 0 = true → (s.chip.trlSide d).lock = false → (s.chip.trlSide d).hello = false →
    s.chip.rb rTRL_STATUS 0 0 (linkBit d) = false → l = (if d = true ∧ s.chip.pos ≠ 0 then s.chip.trl.hellos else []) → Does s (exec (.trellisLinkUp d) s) fun c =>
    (l = [] → c.wire = s.chip.trlOut (!d) (trlHead 1 (if d = true then (s.chip.pos + 7) % 8 else (s.chip.pos + 1) % 8) false 3 s.chip.trl.mseq :: [BitVec.ofNat 32 s.chip.pos, 2, s.chip.rd rVINTAGE]) ++ s.chip.wire)
    ∧ c.wire.length = s.chip.wire.length + l.length + (if s.chip.cutOff [0x42] = true then 0 else 1) ∧ c.que = s.chip.trlQue
    ∧ (c.trlSide d) = { lock := true } ∧ c.trlSide (!d) = s.chip.trlSide (!d) ∧ c.trl.mseq = s.chip.trl.mseq + BitVec.ofNat 12 (l.length + 1)
    ∧ c.rest = { s.chip.rest with wire := c.wire, que := c.que, trl := { s.chip.trl with up := c.trl.up, down := c.trl.down, mseq := c.trl.mseq } } ∧ Frame [] [] s.chip c) ∧
  (∀ (s : State), s.chip.alive .trl = true → Does s (exec (.trellisLinkDown false) s) fun c =>
    c.rb rTRL_STATUS 0 0 2 = false ∧ c.rf rTRL_STATUS 0 0 20 18 = 0
    ∧ (if s.chip.rb rTRL_STATUS 0 0 2 = true then c.irqs.getLsbD 186 = true ∧ Reports 0x0E 0xE3 s.chip c else c.err = s.chip.err ∧ Frame [rTRL_STATUS.addr 0 0] [] s.chip c)
    ∧ c.rest = { s.chip.rest with err := c.err, trl := { s.chip.trl with down := {}, hellos := [] } } ∧ Frame (rTRL_STATUS.addr 0 0 :: logRegs 0x0E) [186, 209] s.chip c) ∧
  (∀ (s : State), s.chip.alive .trl = true → Does s (exec (.trellisLinkDown true) s) fun c =>
    c.rb rTRL_STATUS 0 0 1 = false
    ∧ (s.chip.rb rTRL_STATUS 0 0 1 = true → c.irqs.getLsbD 186 = true)
    ∧ (if s.chip.rb rTRL_STATUS 0 0 1 = true ∧ s.chip.pos ≠ 0 ∧ s.chip.rb rTRL_STATUS 0 0 3 = false then
        c.rb rTRL_STATUS 0 0 3 = true ∧ c.irqs.getLsbD 185 = true ∧ c.rf rTIME_SERVO 0 0 2 0 = 3 ∧ Logs 0x0E [0xE3, 0xE2] s.chip c
      else c.rest = { s.chip.rest with err := c.err, trl := { s.chip.trl with up := {} } } ∧ Frame (rTRL_STATUS.addr 0 0 :: logRegs 0x0E) [186, 209] s.chip c)
    ∧ c.rest = { s.chip.rest with err := c.err, time := c.time, trl := { s.chip.trl with up := {} } } ∧ c.time.now = s.chip.time.now
    ∧ Frame (rTRL_STATUS.addr 0 0 :: logRegs 0x0E ++ servoRegs) (185 :: 186 :: servoIrqs) s.chip c) ∧
  (∀ (s : State) (m : TrlMsg) (q : Nat), s.chip.trlOpen m.fromUp → m.crcOk = true → m.fromUp = false → q = (m.body.getD 0 0).toNat % 8 → Does s (exec (.trellisHello m) s) fun c =>
    c.rb rTRL_STATUS 0 0 2 = true ∧ (s.chip.rb rTRL_STATUS 0 0 2 = false → c.irqs.getLsbD 186 = true ∧ Reports 0x0E 0xE3 s.chip c)
    ∧ c.trl = { s.chip.trl with down := { lock := true, hello := true }, hellos := (s.chip.trl.hellos.filter fun b => (b.getD 0 0).toNat % 8 ≠ q) ++ [m.body], mseq := s.chip.trl.mseq + (if s.chip.pos = 0 ∨ s.chip.trl.up.lock = false then 0 else 1) }
    ∧ c.rf rTRL_STATUS 0 0 20 18 = (if s.chip.pos = 0 then c.trl.hellos.length % 8 else 0)
    ∧ c.wire = (if s.chip.pos = 0 ∨ s.chip.trl.up.lock = false then [] else s.chip.trlOut false (trlHead 1 ((s.chip.pos + 7) % 8) false m.body.length s.chip.trl.mseq :: m.body)) ++ s.chip.wire
    ∧ c.que = (if s.chip.pos = 0 ∨ s.chip.trl.up.lock = false then s.chip.que else s.chip.trlQue)
    ∧ c.rest = { s.chip.rest with err := c.err, wire := c.wire, que := c.que, trl := c.trl } ∧ Frame (rTRL_STATUS.addr 0 0 :: logRegs 0x0E) [186, 209] s.chip c) ∧
  (∀ (s : State) (m : TrlMsg), s.chip.trlOpen m.fromUp → m.crcOk = true → m.fromUp = true → (m.body.getD 0 0).toNat % 8 + 1 = s.chip.pos → Does s (exec (.trellisHello m) s) fun c =>
    c.rb rTRL_STATUS 0 0 1 = true ∧ c.trl = { s.chip.trl with up := { lock := true, hello := true } }
    ∧ (if s.chip.rb rTRL_STATUS 0 0 1 = true then c.rest = { s.chip.rest with trl := c.trl } ∧ Frame [] [] s.chip c
      else c.irqs.getLsbD 186 = true ∧ Reports 0x0E 0xE3 s.chip c ∧ c.rb rTRL_STATUS 0 0 3 = (s.chip.rb rTRL_STATUS 0 0 3 && !s.chip.trl.edges))
    ∧ c.rest = { s.chip.rest with err := c.err, time := c.time, trl := c.trl } ∧ c.time.now = s.chip.time.now
    ∧ Frame (rTRL_STATUS.addr 0 0 :: logRegs 0x0E ++ servoRegs) (185 :: 186 :: servoIrqs) s.chip c) ∧
  (∀ (s : State) (m : TrlMsg), s.chip.trlOpen m.fromUp → m.crcOk = true → m.fromUp = true → (m.body.getD 0 0).toNat % 8 + 1 ≠ s.chip.pos → Does s (exec (.trellisHello m) s) fun c =>
    c.rb rTRL_STATUS 0 0 8 = true ∧ c.rb rTRL_STATUS 0 0 1 = false ∧ c.irqs.getLsbD 186 = true ∧ c.trl = { s.chip.trl with up := { lock := true, hello := false } }
    ∧ (s.chip.rb rTRL_STATUS 0 0 1 = false → Reports 0x0E 0xE4 s.chip c ∧ c.rest = { s.chip.rest with err := c.err, trl := c.trl } ∧ Frame (rTRL_STATUS.addr 0 0 :: logRegs 0x0E) [186, 209] s.chip c)
    ∧ (s.chip.rb rTRL_STATUS 0 0 1 = true → s.chip.pos ≠ 0 → c.rb rTRL_STATUS 0 0 3 = true)
    ∧ c.rest = { s.chip.rest with err := c.err, time := c.time, trl := c.trl } ∧ c.time.now = s.chip.time.now
    ∧ Frame (rTRL_STATUS.addr 0 0 :: logRegs 0x0E ++ servoRegs) (185 :: 186 :: servoIrqs) s.chip c) ∧
  (∀ (s : State) (t : Nat) (f : Word), s.chip.up .trl = true → s.chip.pos = 0 → s.chip.rb rTRL_CTRL 0 0 0 = true → (t, f) = s.chip.clockAt (syncEdge s.chip.now) → Does s (exec .trellisTimeSend s) fun c =>
    c.wire = (if s.chip.rb rTRL_STATUS 0 0 2 = true then s.chip.trlOut true (trlHead 2 7 true 5 s.chip.trl.mseq :: [tsWord t 0, tsWord t 1, tsWord t 2, f, s.chip.rd rTIME_ADDEND]) else []) ++ s.chip.wire
    ∧ c.que = (if s.chip.rb rTRL_STATUS 0 0 2 = true then s.chip.trlQue else s.chip.que)
    ∧ c.rest = { s.chip.rest with wire := c.wire, que := c.que, trl := { s.chip.trl with mseq := s.chip.trl.mseq + 1 } } ∧ Frame [] [] s.chip c) ∧
  (∀ (s : State) (m : TrlMsg), s.chip.trlHere m → Does s (exec (.trellisTime m) s) fun c =>
    c.wire = s.chip.trlOnward 2 m ++ s.chip.wire ∧ c.que = s.chip.trlQueOn m
    ∧ (if s.chip.pos = 0 then c.rest = { s.chip.rest with wire := c.wire, que := c.que } ∧ Frame [] [] s.chip c
      else c.rest = { s.chip.rest with wire := c.wire, que := c.que, trl := { s.chip.trl with timeMsg := some (tsOf (m.body.getD 0 0) (m.body.getD 1 0) (m.body.getD 2 0), m.body.getD 3 0) } }
        ∧ c.rd rTIME_ADDEND = (if s.chip.rb rTRL_STATUS 0 0 3 = true then s.chip.rd rTIME_ADDEND else m.body.getD 4 0) ∧ Frame [rTIME_ADDEND.addr 0 0] [] s.chip c)) ∧
  (∀ (s : State) (off e avg : Int) (timed gone loop turn al : Bool), s.chip.up .trl = true → s.chip.alive .ts = true → s.chip.pos ≠ 0 → timed = false ∨ s.chip.trl.timeMsg = none →
    gone = (s.chip.rb rTRL_STATUS 0 0 3 && !s.chip.rb rTRL_STATUS 0 0 1) → loop = (s.chip.rb rTRL_CTRL 0 0 2 && !gone) → e = off - s.chip.rf rTRL_STKDLY 0 0 11 0 → avg = (s.chip.trl.phSum + e) / 64 →
    turn = (loop && decide (63 ≤ s.chip.trl.phN)) → al = (if turn && decide (avg.natAbs ≤ 8) then true else if turn && decide (16 < avg.natAbs) then false else s.chip.rb rTRL_STATUS 0 0 4) →
    Does s (exec (.stkSyncEdge off timed) s) fun c =>
    c.trl = { s.chip.trl with edges := true, phSum := (if turn then 0 else if loop then s.chip.trl.phSum + e else s.chip.trl.phSum), phN := (if turn then 0 else if loop then s.chip.trl.phN + 1 else s.chip.trl.phN), phase := s.chip.trl.phase + (if turn then if 0 < avg then -1 else if avg < 0 then 1 else 0 else 0) }
    ∧ c.rb rTRL_STATUS 0 0 3 = gone ∧ c.rb rTRL_STATUS 0 0 4 = al ∧ (s.chip.rb rTRL_STATUS 0 0 3 = true → gone = false → c.irqs.getLsbD 185 = true) ∧ (al ≠ s.chip.rb rTRL_STATUS 0 0 4 → c.irqs.getLsbD 189 = true)
    ∧ (turn = true → c.rd rTRL_PHERR = BitVec.ofNat 32 (avg % 65536).toNat) ∧ (turn = false → c.rd rTRL_PHERR = s.chip.rd rTRL_PHERR)
    ∧ c.rf rTIME_SERVO 0 0 2 0 = (if (loop && s.chip.rb rTRL_STATUS 0 0 1) || (al != s.chip.rb rTRL_STATUS 0 0 4) then alignedState al else s.chip.rf rTIME_SERVO 0 0 2 0)
    ∧ c.wire = (if s.chip.rb rTRL_CTRL 0 0 1 = true ∧ (s.chip.now + 500) / 1000 % 8 = s.chip.pos ∧ c.stkReady = true then [.stkAck] else []) ++ s.chip.wire
    ∧ c.rest = { s.chip.rest with err := c.err, time := c.time, wire := c.wire, trl := c.trl } ∧ c.time.now = s.chip.time.now
    ∧ Frame (rTRL_STATUS.addr 0 0 :: rTRL_PHERR.addr 0 0 :: logRegs 0x0E ++ servoRegs) (185 :: 189 :: servoIrqs) s.chip c
    ∧ (c.rd rTRL_STATUS = s.chip.rd rTRL_STATUS → c.rf rTIME_SERVO 0 0 2 0 = s.chip.rf rTIME_SERVO 0 0 2 0 → c.time = s.chip.time ∧ c.err = s.chip.err ∧ Frame [rTRL_PHERR.addr 0 0] [] s.chip c)) ∧
  (∀ (s : State) (off d : Int) (t : Nat) (f : Word), s.chip.up .trl = true → s.chip.alive .ts = true → s.chip.pos ≠ 0 → s.chip.trl.timeMsg = some (t, f) → s.chip.rb rTRL_CTRL 0 0 2 = false →
    d = (t : Int) - (8 * (s.chip.now : Int) + off - s.chip.rf rTRL_STKDLY 0 0 11 0) / 8 → Does s (exec (.stkSyncEdge off true) s) fun c =>
    c.trl = { s.chip.trl with edges := true, timeMsg := none }
    ∧ (if d.natAbs ≤ 2 then c.rb rTRL_STATUS 0 0 7 = s.chip.rb rTRL_STATUS 0 0 7 ∧ c.time = s.chip.time
      else c.rb rTRL_STATUS 0 0 7 = true ∧ c.irqs.getLsbD 189 = true ∧ c.rb rTRL_STATUS 0 0 4 = false ∧ c.time.stepReq = some ⟨true, d⟩ ∧ c.rb rTIME_STATUS 0 0 2 = true)
    ∧ c.rest = { s.chip.rest with err := c.err, time := c.time, wire := c.wire, trl := c.trl } ∧ c.time.now = s.chip.time.now
    ∧ Frame ([rTRL_STATUS, rSTEP_NS, rSTEP_SLO, rSTEP_SHI, rTIME_CTRL, rTIME_STATUS].map (·.addr 0 0) ++ logRegs 0x0E ++ servoRegs) (185 :: 189 :: servoIrqs) s.chip c) ∧
  (∀ (s : State), s.chip.up .trl = true → s.chip.pos ≠ 0 → Does s (exec .trlMasterLost s) fun c =>
    c.rd rTRL_CNT 5 = s.chip.rd rTRL_CNT 5 + 1 ∧ c.rb rTRL_STATUS 0 0 3 = true
    ∧ (if s.chip.rb rTRL_STATUS 0 0 3 = true then c.rest = { s.chip.rest with trl := { s.chip.trl with edges := false } } ∧ Frame [rTRL_CNT.addr 5 0] [] s.chip c
      else c.irqs.getLsbD 185 = true ∧ c.rf rTIME_SERVO 0 0 2 0 = 3 ∧ Reports 0x0E 0xE2 s.chip c ∧ (s.chip.rf rTIME_SERVO 0 0 2 0 ≠ 3 → c.time.servo.holdStart = s.chip.now))
    ∧ c.rest = { s.chip.rest with err := c.err, time := c.time, trl := { s.chip.trl with edges := false } } ∧ c.time.now = s.chip.time.now
    ∧ Frame (rTRL_CNT.addr 5 0 :: rTRL_STATUS.addr 0 0 :: logRegs 0x0E ++ servoRegs) (185 :: servoIrqs) s.chip c) ∧
  (∀ (s : State) (q n : Nat), s.chip.up .trl = true → s.chip.pos = 0 → s.chip.rb rTRL_CTRL 0 0 1 = true → q = s.chip.now / 1000 % 8 → q ≠ 0 → n = mget 0 s.chip.trl.lowRun q + 1 → Does s (exec (.stkAckSample true) s) fun c =>
    c.rb rTRL_ACKSTAT 0 0 q = true ∧ c.rb rTRL_STATUS 0 0 (24 + q) = (s.chip.rb rTRL_STATUS 0 0 (24 + q) || decide (4 ≤ n))
    ∧ c.rest = { s.chip.rest with err := c.err, trl := { s.chip.trl with lowRun := mset 0 s.chip.trl.lowRun q n, missRun := mset 0 s.chip.trl.missRun q 0, lost := c.trl.lost } }
    ∧ (if s.chip.rb rTRL_STATUS 0 0 (24 + q) = false ∧ 4 ≤ n then c.irqs.getLsbD 184 = true ∧ Reports 0x0E 0xE1 s.chip c ∧ c.trl.lost = s.chip.trl.lost &&& ~~~(1#8 <<< q)
      else c.trl.lost = s.chip.trl.lost ∧ c.err = s.chip.err ∧ Frame [rTRL_ACKSTAT.addr 0 0] [] s.chip c)
    ∧ Frame (rTRL_STATUS.addr 0 0 :: rTRL_ACKSTAT.addr 0 0 :: logRegs 0x0E) [184, 209] s.chip c) ∧
  (∀ (s : State) (q n : Nat), s.chip.up .trl = true → s.chip.pos = 0 → s.chip.rb rTRL_CTRL 0 0 1 = true → q = s.chip.now / 1000 % 8 → q ≠ 0 → n = mget 0 s.chip.trl.missRun q + 1 → Does s (exec (.stkAckSample false) s) fun c =>
    c.rb rTRL_ACKSTAT 0 0 q = false ∧ c.rb rTRL_STATUS 0 0 (24 + q) = (s.chip.rb rTRL_STATUS 0 0 (24 + q) && decide (n < max 2 (s.chip.rf rTRL_CTRL 0 0 19 16)))
    ∧ c.rd rTRL_CNT 4 = s.chip.rd rTRL_CNT 4 + (if s.chip.rb rTRL_STATUS 0 0 (24 + q) = true then 1 else 0)
    ∧ c.rest = { s.chip.rest with err := c.err, trl := { s.chip.trl with missRun := mset 0 s.chip.trl.missRun q n, lowRun := mset 0 s.chip.trl.lowRun q 0, lost := c.trl.lost } }
    ∧ (if s.chip.rb rTRL_STATUS 0 0 (24 + q) = true ∧ max 2 (s.chip.rf rTRL_CTRL 0 0 19 16) ≤ n then c.irqs.getLsbD 184 = true ∧ Reports 0x0E 0xE0 s.chip c ∧ c.trl.lost = s.chip.trl.lost ||| (1#8 <<< q)
      else c.trl.lost = s.chip.trl.lost ∧ c.err = s.chip.err ∧ Frame [rTRL_ACKSTAT.addr 0 0, rTRL_CNT.addr 4 0] [] s.chip c)
    ∧ Frame (rTRL_STATUS.addr 0 0 :: rTRL_ACKSTAT.addr 0 0 :: rTRL_CNT.addr 4 0 :: logRegs 0x0E) [184, 209] s.chip c) ∧
  (∀ (s : State) (low : Bool), s.chip.up .trl = true → s.chip.pos = 0 → s.chip.rb rTRL_CTRL 0 0 1 = true → s.chip.now / 1000 % 8 = 0 → Does s (exec (.stkAckSample low) s) fun c =>
    c.rb rTRL_ACKSTAT 0 0 0 = low ∧ c.rest = { s.chip.rest with err := c.err }
    ∧ (if low then c.rb rTRL_STATUS 0 0 6 = true ∧ c.irqs.getLsbD 188 = true ∧ Reports 0x0E 0xE7 s.chip c else c.err = s.chip.err ∧ Frame [rTRL_ACKSTAT.addr 0 0] [] s.chip c)
    ∧ Frame (rTRL_STATUS.addr 0 0 :: rTRL_ACKSTAT.addr 0 0 :: logRegs 0x0E) [188, 209] s.chip c) ∧
  (∀ (s : State) (i : Instr) (d low timed : Bool) (off : Int), (i = .trellisLinkUp d ∧ (s.chip.up .trl = false ∨ s.chip.rb rTRL_CTRL 0 0 0 = false ∨ (s.chip.trlSide d).lock = true)) ∨ (i = .trellisLinkDown d ∧ s.chip.alive .trl = false)
      ∨ (i = .trellisTimeSend ∧ (s.chip.up .trl = false ∨ s.chip.pos ≠ 0 ∨ s.chip.rb rTRL_CTRL 0 0 0 = false)) ∨ (i = .stkSyncEdge off timed ∧ (s.chip.up .trl = false ∨ s.chip.alive .ts = false ∨ s.chip.pos = 0))
      ∨ (i = .trlMasterLost ∧ (s.chip.up .trl = false ∨ s.chip.pos = 0)) ∨ (i = .stkAckSample low ∧ (s.chip.up .trl = false ∨ s.chip.pos ≠ 0 ∨ s.chip.rb rTRL_CTRL 0 0 1 = false)) →
    Does s (exec i s) fun c => c.rest = s.chip.rest ∧ Frame [] [] s.chip c)

/-- A message with a wrong CRC is counted and nothing else; one that does not come in on a side in order, or, but for HELLO, on one that is up, does nothing; one for another position alone goes on towards it, its own fields kept, and a broadcast
both goes on and is taken. A slice for a canvas that TRL does not write, or from outside the canvas, stores nothing; where no frame is open the first FREE buffer is claimed; its whole pixel groups are stored
in the open buffer at its row and column and nowhere else in memory but in the padding of that row. The last slice end of a
frame writes the descriptor and the canvas's signature, sets the buffer READY and closes the frame; an earlier one counts; one of a newer number first closes the open frame as incomplete; an older one does nothing. At the end of
a forward each slice's end goes to its position, counted, unless the buffer has left READY and PRESENTING: then the slices are abandoned, counted, interrupt 187. EN of a slice with whole pixel groups and a follower is taken; EN with
part of a group, or no follower, is refused: EN reads 0, NOSLICE shows. Firmware's own STACK words queue, parts of a relayed message are kept, and a whole reply of kind 2 goes out at the master. -/
def Obligations.trellis_messages_and_slices : Prop :=
  (∀ (s : State) (i : Instr) (t : Nat) (m : TrlMsg), trlMessage i = some (t, m) → s.chip.trlOpen m.fromUp → m.crcOk = false → Does s (exec i s) fun c =>
    c.rest = s.chip.rest ∧ c.rd rTRL_CNT 3 = s.chip.rd rTRL_CNT 3 + 1 ∧ Frame [rTRL_CNT.addr 3 0] [] s.chip c) ∧
  (∀ (s : State) (i : Instr) (t : Nat) (m : TrlMsg), trlMessage i = some (t, m) → ¬ s.chip.trlOpen m.fromUp ∨ (t ≠ 1 ∧ m.crcOk = true ∧ s.chip.rb rTRL_STATUS 0 0 (linkBit m.fromUp) = false) → Does s (exec i s) fun c =>
    c.rest = s.chip.rest ∧ Frame [] [] s.chip c) ∧
  (∀ (s : State) (i : Instr) (t : Nat) (m : TrlMsg), trlMessage i = some (t, m) → t ≠ 1 → s.chip.trlOpen m.fromUp → m.crcOk = true → s.chip.rb rTRL_STATUS 0 0 (linkBit m.fromUp) = true → m.dest.val ≠ s.chip.pos → m.bcast = false →
    Does s (exec i s) fun c => c.wire = s.chip.trlOnward t m ++ s.chip.wire ∧ c.que = s.chip.trlQueOn m ∧ c.rest = { s.chip.rest with wire := c.wire, que := c.que } ∧ Frame [] [] s.chip c) ∧
  (∀ (s : State) (m : TrlMsg), s.chip.trlHere m → fld (m.body.getD 0 0) 31 28 ≠ 1 → fld (m.body.getD 0 0) 31 28 ≠ 2 → Does s (exec (.stackMsg m) s) fun c =>
    c.wire = s.chip.trlOnward 5 m ++ s.chip.wire ∧ c.que = s.chip.trlQueOn m
    ∧ c.rest = { s.chip.rest with wire := c.wire, que := c.que, trl := { s.chip.trl with stackIn := s.chip.trl.stackIn ++ [m.body] } } ∧ Frame [] [] s.chip c) ∧
  (∀ (s : State) (m : TrlMsg), s.chip.trlHere m → fld (m.body.getD 0 0) 31 28 = 1 ∨ fld (m.body.getD 0 0) 31 28 = 2 → (s.chip.trl.stackIn.all fun x => x.take 5 ≠ m.body.take 5) = true →
    (stackPart m.body).1 ≠ 0 → 0 < (m.body.getD 5 0).toNat / 65536 → Does s (exec (.stackMsg m) s) fun c =>
    c.wire = s.chip.trlOnward 5 m ++ s.chip.wire ∧ c.que = s.chip.trlQueOn m
    ∧ c.rest = { s.chip.rest with wire := c.wire, que := c.que, trl := { s.chip.trl with stackIn := s.chip.trl.stackIn ++ [m.body] } } ∧ Frame [] [] s.chip c) ∧
  (∀ (s : State) (m : TrlMsg) (l : List Byte), s.chip.trlHere m → fld (m.body.getD 0 0) 31 28 = 2 → s.chip.pos = 0 → m.bcast = false → (s.chip.trl.stackIn.all fun x => x.take 5 ≠ m.body.take 5) = true →
    (0, l) = stackPart m.body → l.length = (m.body.getD 5 0).toNat / 65536 → Does s (exec (.stackMsg m) s) fun c =>
    c.rest = { s.chip.rest with wire := .dop (m.body.getD 1 0) (BitVec.ofNat 16 (fld (m.body.getD 0 0) 15 0)) l :: s.chip.wire } ∧ Frame [] [] s.chip c) ∧
  (∀ (s : State) (m : TrlMsg) (h : Word) (ws : List Word) (cv k x y a o n : Nat) (g : Geom), s.chip.trlHere m → m.body = h :: ws → cv = fld h 31 30 → s.chip.dcanvOn cv = true → (s.chip.dcanv cv).openBuf = some k →
    g = s.chip.viewGeom cv → x = fld h 12 0 → y = fld h 28 16 → x < g.w → y < g.h → x % ppgOf g.fmt = 0 → o = x / ppgOf g.fmt * groupBytes g.fmt → n = min (4 * ws.length / groupBytes g.fmt) ((g.w + ppgOf g.fmt - 1 - x) / ppgOf g.fmt) * groupBytes g.fmt →
    a = g.base k + y * g.stride + o → celBase ≤ a → celRegion a = 0 → celRegion (g.base k + (y + 1) * g.stride) = 0 → s.chip.rb rRGN_WMASK 0 0 8 = true → s.chip.celCalm → Does s (exec (.sliceMsg m) s) fun c =>
    c.bytes a n = (ws.flatMap wordBytes).take n ∧ SameBytes (fun i => a ≤ i ∧ i < (if o + n = g.rowBytes then g.base k + (y + 1) * g.stride else a + n)) s.chip c
    ∧ c.wire = s.chip.trlOnward 3 m ++ s.chip.wire ∧ c.que = s.chip.trlQueOn m ∧ c.rest = { s.chip.rest with mem := c.mem, cel := c.cel, wire := c.wire, que := c.que } ∧ Frame [] [] s.chip c) ∧
  (∀ (s : State) (m : TrlMsg) (h : Word) (ws : List Word) (cv : Nat), s.chip.trlHere m → m.body = h :: ws → cv = fld h 31 30 →
    s.chip.dcanvOn cv = false ∨ ((s.chip.dcanv cv).openBuf ≠ none ∧ ((s.chip.viewGeom cv).w ≤ fld h 12 0 ∨ (s.chip.viewGeom cv).h ≤ fld h 28 16 ∨ fld h 12 0 % ppgOf (s.chip.viewGeom cv).fmt ≠ 0)) → Does s (exec (.sliceMsg m) s) fun c =>
    c.wire = s.chip.trlOnward 3 m ++ s.chip.wire ∧ c.que = s.chip.trlQueOn m ∧ c.rest = { s.chip.rest with wire := c.wire, que := c.que } ∧ Frame [] [] s.chip c) ∧
  (∀ (s : State) (m : TrlMsg) (h w : Word) (ws : List Word) (cv : Fin 4) (b : Nat), s.chip.trlHere m → m.body = h :: ws → cv.val = fld h 31 30 → s.chip.dcanvOn cv = true → (s.chip.dcanv cv).openBuf = none → w = s.chip.word (recAddr cv) →
    bufsIn w 0 ≠ [] → b = (bufsIn w 0).headD 0 → s.chip.rb rRGN_WMASK 6 0 8 = true → s.chip.celCalm → (s.chip.viewGeom cv).w ≤ fld h 12 0 → Does s (exec (.sliceMsg m) s) fun c =>
    c.dcanv cv = { s.chip.dcanv cv with openBuf := some b } ∧ c.word (recAddr cv) = setBufState w b 1 ∧ SameBytes (fun i => recAddr cv ≤ i ∧ i < recAddr cv + 4) s.chip c
    ∧ c.rest = { s.chip.rest with mem := c.mem, cel := c.cel, trl := c.trl, wire := c.wire, que := c.que } ∧ Frame [] [] s.chip c) ∧
  (∀ (s : State) (m : TrlMsg) (cv : Fin 4) (w0 q t0 t1 t2 w5 sig : Word) (k : Fin 3) (x : DCanv), s.chip.trlHere m → m.body = [w0, q, t0, t1, t2, w5] → cv.val = fld w0 31 30 → s.chip.dcanvOn cv = true →
    s.chip.dcanv cv = x → x.openBuf = some k.val → x.seq = some q ∨ x.seq = none → max 1 (s.chip.rf rTRL_DCANV cv 0 11 8) ≤ x.ends + 1 → s.chip.rb rRGN_WMASK 6 0 8 = true → s.chip.celCalm →
    sig = s.chip.canvSig (s.chip.viewGeom cv) k → Does s (exec (.sliceEnd m) s) fun c =>
    c.words (descAddr cv k) 6 = [BitVec.ofNat 32 (b2n (x.incomplete || bit w5 0)), q, tsWord (tsOf t0 t1 t2) 0, tsWord (tsOf t0 t1 t2) 1, tsWord (tsOf t0 t1 t2) 2, sig]
    ∧ c.word (recAddr cv) = setBufState (s.chip.word (recAddr cv)) k 2 ∧ c.dcanv cv = {} ∧ c.rd rCANV_SIG cv = sig
    ∧ SameBytes (fun i => (recAddr cv ≤ i ∧ i < recAddr cv + 4) ∨ (descAddr cv k ≤ i ∧ i < descAddr cv k + 32)) s.chip c
    ∧ c.wire = s.chip.trlOnward 4 m ++ s.chip.wire ∧ c.que = s.chip.trlQueOn m ∧ c.rest = { s.chip.rest with mem := c.mem, cel := c.cel, trl := c.trl, wire := c.wire, que := c.que } ∧ Frame [rCANV_SIG.addr cv 0] [] s.chip c) ∧
  (∀ (s : State) (m : TrlMsg) (cv : Fin 4) (w0 q t0 t1 t2 w5 : Word) (k : Fin 3) (x : DCanv), s.chip.trlHere m → m.body = [w0, q, t0, t1, t2, w5] → cv.val = fld w0 31 30 → s.chip.dcanvOn cv = true →
    s.chip.dcanv cv = x → x.openBuf = some k.val → x.seq = some q ∨ x.seq = none → x.ends + 1 < max 1 (s.chip.rf rTRL_DCANV cv 0 11 8) → Does s (exec (.sliceEnd m) s) fun c =>
    c.dcanv cv = { x with seq := some q, ends := x.ends + 1, incomplete := x.incomplete || bit w5 0, ts := tsOf t0 t1 t2 }
    ∧ c.wire = s.chip.trlOnward 4 m ++ s.chip.wire ∧ c.que = s.chip.trlQueOn m ∧ c.rest = { s.chip.rest with trl := c.trl, wire := c.wire, que := c.que } ∧ Frame [] [] s.chip c) ∧
  (∀ (s : State) (m : TrlMsg) (cv : Fin 4) (w0 q p t0 t1 t2 w5 sig : Word) (k : Fin 3) (x : DCanv), s.chip.trlHere m → m.body = [w0, q, t0, t1, t2, w5] → cv.val = fld w0 31 30 → s.chip.dcanvOn cv = true →
    s.chip.dcanv cv = x → x.openBuf = some k.val → x.seq = some p → 0 < (q - p).toInt → s.chip.rb rRGN_WMASK 6 0 8 = true → s.chip.celCalm → 1 < s.chip.rf rTRL_DCANV cv 0 11 8 → sig = s.chip.canvSig (s.chip.viewGeom cv) k →
    bufsIn (s.chip.word (recAddr cv)) 0 ≠ [] → bufsIn (s.chip.word (recAddr cv)) 2 = [] → bufState (s.chip.word (recAddr cv)) k = 1 → Does s (exec (.sliceEnd m) s) fun c =>
    c.words (descAddr cv k) 2 = [1, p] ∧ c.words (descAddr cv k + 20) 1 = [sig] ∧ c.rd rCANV_SIG cv = sig ∧ bufState (c.word (recAddr cv)) k = 2
    ∧ c.dcanv cv = { openBuf := (bufsIn (s.chip.word (recAddr cv)) 0).head?, seq := some q, ends := 1, incomplete := bit w5 0, ts := tsOf t0 t1 t2 }
    ∧ SameBytes (fun i => (recAddr cv ≤ i ∧ i < recAddr cv + 4) ∨ (descAddr cv k ≤ i ∧ i < descAddr cv k + 32)) s.chip c ∧ Frame [rCANV_SIG.addr cv 0] [] s.chip c) ∧
  (∀ (s : State) (m : TrlMsg) (cv : Nat) (w0 q p : Word) (t : List Word), s.chip.trlHere m → m.body = w0 :: q :: t → cv = fld w0 31 30 → s.chip.dcanvOn cv = false ∨ ((s.chip.dcanv cv).seq = some p ∧ (q - p).toInt < 0) → Does s (exec (.sliceEnd m) s) fun c =>
    c.wire = s.chip.trlOnward 4 m ++ s.chip.wire ∧ c.que = s.chip.trlQueOn m ∧ c.rest = { s.chip.rest with wire := c.wire, que := c.que } ∧ Frame [] [] s.chip c) ∧
  (∀ (s : State) (cv : Fin 4) (j : SlJob), s.chip.up .trl = true → s.chip.fwd cv = { cur := some j, waiting := none } → 2 ≤ fld (s.chip.word (recAddr cv)) (2 * j.buf + 1) (2 * j.buf) →
    s.chip.celUp = false ∨ s.chip.celCalm → s.chip.rb rTRL_STATUS 0 0 2 = true → Does s (exec (.sliceForwardDone cv) s) fun c =>
    c.wire.length = s.chip.wire.length + j.slices.length - (if s.chip.cutOff [0x42] = true ∧ j.slices ≠ [] then 1 else 0) ∧ (j.slices ≠ [] → c.que = s.chip.trlQue)
    ∧ (∀ q : Fin 16, j.slices = [q.val] → c.wire = s.chip.trlOut true (trlHead 4 (s.chip.rf rTRL_SL q 0 30 28) false (3 + j.ts.length) s.chip.trl.mseq
        :: ([BitVec.ofNat 32 (s.chip.rf rTRL_SL q 0 25 24 * 2 ^ 30), j.seq] ++ j.ts ++ [BitVec.ofNat 32 (b2n j.incomplete)])) ++ s.chip.wire)
    ∧ c.rd rTRL_CNT 0 = s.chip.rd rTRL_CNT 0 + BitVec.ofNat 32 j.slices.length
    ∧ c.rest = { s.chip.rest with wire := c.wire, que := c.que, trl := { s.chip.trl with mseq := s.chip.trl.mseq + BitVec.ofNat 12 j.slices.length, fwd := mset ({} : SlFwd) s.chip.trl.fwd cv {} } } ∧ Frame [rTRL_CNT.addr 0 0] [] s.chip c) ∧
  (∀ (s : State) (cv : Fin 4) (j : SlJob), s.chip.up .trl = true → s.chip.fwd cv = { cur := some j, waiting := none } → fld (s.chip.word (recAddr cv)) (2 * j.buf + 1) (2 * j.buf) < 2 → s.chip.celCalm → Does s (exec (.sliceForwardDone cv) s) fun c =>
    c.rd rTRL_CNT 2 = s.chip.rd rTRL_CNT 2 + BitVec.ofNat 32 j.slices.length ∧ c.irqs.getLsbD 187 = true ∧ Reports 0x0E 0xE6 s.chip c
    ∧ c.rest = { s.chip.rest with err := c.err, trl := { s.chip.trl with fwd := mset ({} : SlFwd) s.chip.trl.fwd cv {} } } ∧ Frame (rTRL_CNT.addr 2 0 :: logRegs 0x0E) [187, 209] s.chip c) ∧
  (∀ (s : State) (cv : Fin 4), s.chip.up .trl = false ∨ (s.chip.fwd cv).cur = none → Does s (exec (.sliceForwardDone cv) s) fun c => c.rest = s.chip.rest ∧ Frame [] [] s.chip c) ∧
  (∀ (s : State) (a : Access) (q : Fin 16) (v : Word) (g : Nat), s.chip.takes a rTRL_SL q 0 (v ||| 0x80000000) → g = ppgOf (s.chip.rf rCANV_CTRL (fld v 27 26) 0 1 0) →
    s.chip.rf rTRL_SL_ORG q 0 12 0 % g = 0 → s.chip.rf rTRL_SL_DORG q 0 12 0 % g = 0 → (s.chip.rf rTRL_SL_EXT q 0 12 0 + 1) % g = 0 → fld v 30 28 ≠ 0 → Does s (exec (.sliceEnable a q v) s) fun c =>
    c.rest = s.chip.rest ∧ c.rd rTRL_SL q = rTRL_SL.merge (s.chip.rd rTRL_SL q) (v ||| 0x80000000) ∧ c.rb rTRL_SL q 0 31 = true ∧ Frame [rTRL_SL.addr q 0] [] s.chip c) ∧
  (∀ (s : State) (a : Access) (q : Fin 16) (v : Word) (g : Nat), s.chip.takes a rTRL_SL q 0 (v ||| 0x80000000) → g = ppgOf (s.chip.rf rCANV_CTRL (fld v 27 26) 0 1 0) →
    s.chip.rf rTRL_SL_ORG q 0 12 0 % g ≠ 0 ∨ s.chip.rf rTRL_SL_DORG q 0 12 0 % g ≠ 0 ∨ (s.chip.rf rTRL_SL_EXT q 0 12 0 + 1) % g ≠ 0 ∨ fld v 30 28 = 0 → Does s (exec (.sliceEnable a q v) s) fun c =>
    c.rest = s.chip.rest ∧ c.rd rTRL_SL q = setBit (rTRL_SL.merge (s.chip.rd rTRL_SL q) (v ||| 0x80000000)) 31 false ∧ c.rd rTRL_STATUS = setBit (s.chip.rd rTRL_STATUS) 9 true ∧ Frame [rTRL_SL.addr q 0, rTRL_STATUS.addr 0 0] [] s.chip c)

/-- A datagram not addressed to the protocol here, or with firmware or the network core held, does nothing. A fragment, a malformed message and one for another module are counted. A message of one part for a follower goes on to it from the
stack master with RELAYED where it is plain, counted, and a group message of one part to all of them. A HELLO with its header or body out of order is discarded; one whose version, level or room is refused is answered with the status and counted; else it
opens a HALF session of a fresh SID, in place of the oldest HALF one where eight stand, and is answered at once, at level none with 32 zero bytes of nonce and no confirmation, else with a nonce, keys entered in the Vault and CONF. A message of a session that is not there is answered NOSESSION; one sealed where the session is plain or the other way is discarded; a wrong tag and a replay are
counted and logged; a HALF session that would be the 33rd OPEN one ends and is answered NOSESSION (the model's choice, log entry 207). An accepted KEEPALIVE opens the session, restarts its idle time and is answered by an empty KEEPALIVE of the next SEQ, one with a body is discarded besides; an accepted CLOSE ends the session and erases its entry. Of a group all but SET is discarded. The expiries end the sessions they name, a HALF and an
OPEN one, and no other. -/
def Obligations.protocol_sessions : Prop :=
  (∀ (s : State) (i : Instr) (ty : Nat) (m : DopMsg), dopMessage i = some (ty, m) → s.chip.dopRuns = false ∨ s.chip.dopAddressed m = false → Does s (exec i s) fun c => c.rest = s.chip.rest ∧ Frame [] [] s.chip c) ∧
  (∀ (s : State) (i : Instr) (ty : Nat) (m : DopMsg), dopMessage i = some (ty, m) → s.chip.dopRuns = true → s.chip.dopAddressed m = true → m.frag = true ∨ headOk m.bytes ty = false → Does s (exec i s) fun c =>
    c.rest = { s.chip.rest with dop := { s.chip.dop with counts := countsOf s.chip.dop.counts (if m.frag then 2 else 1) } } ∧ Frame [] [] s.chip c) ∧
  (∀ (s : State) (i : Instr) (ty : Nat) (m : DopMsg) (h : DopHdr), dopMessage i = some (ty, m) → s.chip.dopWhole m ty h → s.chip.forMe h.dst = false → s.chip.hasFollowers = false → Does s (exec i s) fun c =>
    c.rest = { s.chip.rest with dop := { s.chip.dop with counts := countsOf s.chip.dop.counts 1 } } ∧ Frame [] [] s.chip c) ∧
  (∀ (s : State) (i : Instr) (ty q : Nat) (m : DopMsg) (h : DopHdr), dopMessage i = some (ty, m) → s.chip.dopWhole m ty h → s.chip.forMe h.dst = false → s.chip.hasFollowers = true → s.chip.rb rTRL_STATUS 0 0 2 = true → s.chip.up .trl = true → m.bytes.length ≤ 4080 →
    (h.group = false ∧ (List.range 7).find? (fun j => s.chip.objNat 0x1013 (j + 1) 0 = h.dst && h.dst ≠ 0) = some q) ∨ (h.group = true ∧ q = 6 ∧ s.chip.followerDst h = false) → Does s (exec i s) fun c =>
    c.wire = s.chip.trlOut true (trlHead 5 (q + 1) h.group (s.chip.stackWords (relayedMsg m h)).length s.chip.trl.mseq :: s.chip.stackWords (relayedMsg m h)) ++ s.chip.wire ∧ c.que = s.chip.trlQue
    ∧ c.rest = { s.chip.rest with wire := c.wire, que := c.que, trl := { s.chip.trl with mseq := s.chip.trl.mseq + 1 }, dop := { s.chip.dop with counts := if h.group then countsOf (countsOf s.chip.dop.counts 6) 1 else countsOf s.chip.dop.counts 6 } } ∧ Frame [] [] s.chip c) ∧
  (∀ (s : State) (m : DopMsg) (h : DopHdr), s.chip.dopMine m 1 h → ¬ helloOk h (m.bytes.drop 24) → Does s (exec (.dopHello m) s) fun c =>
    c.rest = { s.chip.rest with dop := { s.chip.dop with counts := countsOf s.chip.dop.counts 1 } } ∧ Frame [] [] s.chip c) ∧
  (∀ (s : State) (m : DopMsg) (h : DopHdr) (st ver : Nat), s.chip.dopMine m 1 h → helloOk h (m.bytes.drop 24) → s.chip.helloStatus h (m.bytes.drop 24) = some (st, ver) → Does s (exec (.dopHello m) s) fun c =>
    c.wire = .dop m.ip m.udp ((s.chip.helloHdr h 0).bytes ++ helloHead st ver z32 ++ List.replicate 12 0) :: s.chip.wire
    ∧ c.rest = { s.chip.rest with wire := c.wire, dop := { s.chip.dop with counts := countsOf s.chip.dop.counts 5 } } ∧ Frame [] [] s.chip c) ∧
  (∀ (s : State) (m : DopMsg) (h : DopHdr) (b : List Byte) (ver : Nat) (d : Chip), s.chip.dopMine m 1 h → b = m.bytes.drop 24 → helloOk h b → s.chip.helloStatus h b = none → h.level = 0 → ver = min (beNat (slice b 1 1)) 3 →
    d = ({ s.chip with cyc := s.chip.cyc + 1 }.dopCount 0).halfRoom → Does s (exec (.dopHello m) s) fun c =>
    c.dop.sess = d.dop.sess ++ [{ sid := d.freshSid, src := h.src, level := 0, ver := ver, maxBody := min (beNat (slice b 2 2)) 9130, entry := none, at_ := s.chip.now, ip := m.ip }]
    ∧ c.wire = .dop m.ip m.udp ((s.chip.helloHdr h d.freshSid).bytes ++ helloHead stOk ver z32 ++ List.replicate 12 0) :: s.chip.wire
    ∧ c.rest = { s.chip.rest with wire := c.wire, vlt := d.vlt, dop := { s.chip.dop with sess := c.dop.sess, counts := countsOf s.chip.dop.counts 0 } } ∧ Frame [] [] s.chip c
    ∧ ((s.chip.dop.sess.filter fun x => !x.opened).length < 8 → d.dop.sess = s.chip.dop.sess ∧ d.vlt = s.chip.vlt)
    ∧ (8 ≤ (s.chip.dop.sess.filter fun x => !x.opened).length → ∀ x ∈ (s.chip.dop.sess.filter fun x => !x.opened).head?, d.dop.sess = s.chip.dop.sess.filter fun y => y.sid ≠ x.sid)) ∧
  (∀ (s : State) (m : DopMsg) (h : DopHdr) (b ns : List Byte) (ver e : Nat) (k : SessEnt) (d : Chip), s.chip.dopMine m 1 h → b = m.bytes.drop 24 → helloOk h b → s.chip.helloStatus h b = none → h.level ≠ 0 → ver = min (beNat (slice b 1 1)) 3 →
    d = ({ s.chip with cyc := s.chip.cyc + 1 }.dopCount 0).halfRoom → d.entryPick = some e → ns = (List.range 32).map (fun j => Config.randomByte (s.chip.cyc + 1) j) →
    k = sessionOf (s.chip.keyOf h.level) (slice b 8 32 ++ ns) (ascii "DOP-S" ++ slice (s.chip.helloHdr h d.freshSid).bytes 8 4 ++ slice (s.chip.helloHdr h d.freshSid).bytes 4 4) s.chip.now → Does s (exec (.dopHello m) s) fun c =>
    c.dop.sess = d.dop.sess ++ [{ sid := d.freshSid, src := h.src, level := h.level, ver := ver, maxBody := min (beNat (slice b 2 2)) 9130, entry := some e, at_ := s.chip.now, ip := m.ip }]
    ∧ c.sessEnt e = k ∧ (∀ g ∈ c.dop.keys, g.entry ≠ e) ∧ c.rd rVLT_CNT 3 = s.chip.rd rVLT_CNT 3 + 1
    ∧ c.wire = .dop m.ip m.udp ((s.chip.helloHdr h d.freshSid).bytes ++ helloHead stOk ver ns ++ (hmac k.keyCf (m.bytes ++ (s.chip.helloHdr h d.freshSid).bytes ++ helloHead stOk ver ns)).take 12) :: s.chip.wire
    ∧ c.rest = { s.chip.rest with wire := c.wire, vlt := c.vlt, dop := { s.chip.dop with sess := c.dop.sess, keys := c.dop.keys, counts := countsOf s.chip.dop.counts 0 } } ∧ Frame [rVLT_CNT.addr 3 0] [] s.chip c) ∧
  (∀ (s : State) (m : DopMsg) (h : DopHdr) (x : DopSess) (b : List Byte), s.chip.dopMine m 4 h → s.chip.admits m h x b → b = [] → x.tx + 2 < 2 ^ 64 → Does s (exec (.dopKeepalive m) s) fun c =>
    c.wire = .dop m.ip m.udp (s.chip.sessMsg x 4 []) :: s.chip.wire
    ∧ c.rest = { s.chip.rest with wire := c.wire, dop := { s.chip.dop with sess := sentIn x (s.chip.admitted m h x), counts := countsOf s.chip.dop.counts 0 } } ∧ Frame [] [] s.chip c) ∧
  (∀ (s : State) (m : DopMsg) (h : DopHdr) (x : DopSess) (b : List Byte), s.chip.dopMine m 4 h → s.chip.admits m h x b → b ≠ [] → Does s (exec (.dopKeepalive m) s) fun c =>
    c.rest = { s.chip.rest with dop := { s.chip.dop with sess := s.chip.admitted m h x, counts := countsOf (countsOf s.chip.dop.counts 0) 1 } } ∧ Frame [] [] s.chip c) ∧
  (∀ (s : State) (m : DopMsg) (h : DopHdr) (x : DopSess) (b : List Byte), s.chip.dopMine m 3 h → s.chip.admits m h x b → Does s (exec (.dopClose m) s) fun c =>
    c.dop.sess = (s.chip.admitted m h x).filter (fun y => y.sid ≠ h.sid) ∧ (∀ e ∈ x.entry, c.sessEnt e = {}) ∧ (∀ e : Fin 64, x.entry ≠ some e.val → c.sessEnt e = s.chip.sessEnt e) ∧ (x.entry = none → c.vlt = s.chip.vlt)
    ∧ c.rest = { s.chip.rest with vlt := c.vlt, dop := { s.chip.dop with sess := c.dop.sess, counts := countsOf s.chip.dop.counts 0 } } ∧ Frame [] [] s.chip c) ∧
  (∀ (s : State) (i : Instr) (ty : Nat) (m : DopMsg) (h : DopHdr), dopMessage i = some (ty, m) → ty ≠ 1 → ty ≠ 0x12 → s.chip.dopMine m ty h → h.group = true → Does s (exec i s) fun c =>
    c.rest = { s.chip.rest with dop := { s.chip.dop with counts := countsOf s.chip.dop.counts 1 } } ∧ Frame [] [] s.chip c) ∧
  (∀ (s : State) (i : Instr) (ty : Nat) (m : DopMsg) (h : DopHdr), dopMessage i = some (ty, m) → ty ≠ 1 → s.chip.dopMine m ty h → h.group = false → s.chip.liveSession h.sid = none → Does s (exec i s) fun c =>
    c.rest = { s.chip.rest with wire := .dop m.ip m.udp (s.chip.noSessionMsg h) :: s.chip.wire } ∧ Frame [] [] s.chip c) ∧
  (∀ (s : State) (i : Instr) (ty : Nat) (m : DopMsg) (h : DopHdr) (x : DopSess), dopMessage i = some (ty, m) → ty ≠ 1 → s.chip.dopMine m ty h → h.group = false → s.chip.liveSession h.sid = some x → h.plain ≠ x.entry.isNone → Does s (exec i s) fun c =>
    c.rest = { s.chip.rest with dop := { s.chip.dop with counts := countsOf s.chip.dop.counts 1 } } ∧ Frame [] [] s.chip c) ∧
  (∀ (s : State) (i : Instr) (ty : Nat) (m : DopMsg) (h : DopHdr) (x : DopSess), dopMessage i = some (ty, m) → ty ≠ 1 → s.chip.dopMine m ty h → h.group = false → s.chip.liveSession h.sid = some x → x.entry ≠ none → h.plain = false →
    s.chip.sessBody x m = none ∨ x.rx.refuses h.seq = true → Does s (exec i s) fun c =>
    c.rest = { s.chip.rest with err := c.err, dop := { s.chip.dop with counts := countsOf s.chip.dop.counts (if s.chip.sessBody x m = none then 3 else 4) } }
    ∧ Reports 0x44 (if s.chip.sessBody x m = none then 0xF0 else 0xF1) s.chip c ∧ Frame (logRegs 0x44) [209] s.chip c) ∧
  (∀ (s : State) (i : Instr) (ty : Nat) (m : DopMsg) (h : DopHdr) (x : DopSess), dopMessage i = some (ty, m) → ty ≠ 1 → s.chip.dopMine m ty h → h.group = false → s.chip.liveSession h.sid = some x → x.entry = none → h.plain = true → x.opened = false → s.chip.openFull = true →
    Does s (exec i s) fun c =>
    c.rest = { s.chip.rest with wire := .dop m.ip m.udp (s.chip.noSessionMsg h) :: s.chip.wire, dop := { s.chip.dop with sess := s.chip.dop.sess.filter fun y => y.sid ≠ x.sid } } ∧ Frame [] [] s.chip c) ∧
  (∀ (s : State) (x : DopSess) (i : Instr), s.chip.dopRuns = true → s.chip.dopSess x.sid = some x → (i = .halfSessionExpiry x.sid ∧ x.opened = false) ∨ (i = .sessionIdleTimeout x.sid ∧ x.opened = true) → Does s (exec i s) fun c =>
    (∀ e ∈ x.entry, c.sessEnt e = {}) ∧ (∀ e : Fin 64, x.entry ≠ some e.val → c.sessEnt e = s.chip.sessEnt e) ∧ (x.entry = none → c.vlt = s.chip.vlt)
    ∧ c.rest = { s.chip.rest with vlt := c.vlt, dop := { s.chip.dop with sess := s.chip.dop.sess.filter fun y => y.sid ≠ x.sid } } ∧ Frame [] [] s.chip c) ∧
  (∀ (s : State) (sid : BitVec 32) (i : Instr), (i = .halfSessionExpiry sid ∧ (s.chip.dopRuns = false ∨ (s.chip.dopSess sid).all (fun x => x.opened) = true)) ∨ (i = .sessionIdleTimeout sid ∧ (s.chip.dopRuns = false ∨ (s.chip.dopSess sid).all (fun x => !x.opened) = true)) →
    Does s (exec i s) fun c => c.rest = s.chip.rest ∧ Frame [] [] s.chip c)

/-- A GET or SET with its body out of order is discarded; a repeated request is answered with the reply kept for it, a SET that still waits is not taken again. A GET is answered with its items read in turn, and the answer kept; that of the device type
with type U32, status OK and 0x4805. A SET waits with its receive time, each item of another version, or scheduled too far or beyond room, decided at once; one all of whose items are so decided is answered at once; where its control tick has passed an untimed one of a session of level none is counted late and answered LEVEL.
A group SET with a right tag and a new SEQ waits in the same way, its keys and SEQ kept; one plain, of level none or version 1, or to no group is discarded, a wrong tag and a replay are counted and logged. At the start of a control tick two after its own a SET of the device number in a keyed session takes effect: the object holds the
value, which waits to be stored, the request is gone and a sealed answer with status OK goes out; with nothing waiting the tick is
only noted. An assembly's timeout drops it. A flush programs the oldest waiting value's record at the store's end and nothing else, the
end of the flash operation raising interrupt 200; a record that does not read back right is counted and logged; nothing is begun under the power-fail warning. With firmware held nothing happens. -/
def Obligations.protocol_requests : Prop :=
  (∀ (s : State) (i : Instr) (m : DopMsg) (h : DopHdr) (x : DopSess) (b : List Byte), (i = .dopGet m ∧ s.chip.dopMine m 0x10 h ∧ dopBody true b = none) ∨ (i = .dopSet m ∧ s.chip.dopMine m 0x12 h ∧ dopBody false b = none) → s.chip.admits m h x b → Does s (exec i s) fun c =>
    c.rest = { s.chip.rest with dop := { s.chip.dop with sess := s.chip.admitted m h x, counts := countsOf (countsOf s.chip.dop.counts 0) 1 } } ∧ Frame [] [] s.chip c) ∧
  (∀ (s : State) (i : Instr) (m : DopMsg) (h : DopHdr) (x : DopSess) (b : List Byte) (req : Nat) (items : List DopItem) (k : KeptReply), (i = .dopGet m ∧ s.chip.dopMine m 0x10 h ∧ dopBody true b = some (req, items)) ∨ (i = .dopSet m ∧ s.chip.dopMine m 0x12 h ∧ dopBody false b = some (req, items)) →
    s.chip.admits m h x b → x.cache.find? (fun k => k.req = req) = some k → x.tx + 2 < 2 ^ 64 → Does s (exec i s) fun c =>
    c.rest = { s.chip.rest with wire := .dop m.ip m.udp (s.chip.sessMsg x k.type k.body) :: s.chip.wire, dop := { s.chip.dop with sess := sentIn x (s.chip.admitted m h x), counts := countsOf s.chip.dop.counts 0 } } ∧ Frame [] [] s.chip c) ∧
  (∀ (s : State) (m : DopMsg) (h : DopHdr) (x : DopSess) (b : List Byte) (req : Nat) (items : List DopItem) (d d' : Chip) (l : List (List Byte)), s.chip.dopMine m 0x10 h → s.chip.admits m h x b → dopBody true b = some (req, items) → (∀ k ∈ x.cache, k.req ≠ req) → x.tx + 2 < 2 ^ 64 →
    d = { s.chip with cyc := s.chip.cyc + 1, dop := { s.chip.dop with sess := s.chip.admitted m h x, counts := countsOf s.chip.dop.counts 0 } } → (d', l) = d.getItems { level := x.level, ver := x.ver, sid := x.sid, port := m.port } items → Does s (exec (.dopGet m) s) fun c =>
    c.rest = { d'.rest with wire := .dop m.ip m.udp (d'.sessMsg x 0x11 (replyBody req x.maxBody l)) :: d'.wire, dop := { d'.dop with sess := keptIn x { req := req, type := 0x11, body := replyBody req x.maxBody l } d'.dop.sess } } ∧ Frame [] [] d' c) ∧
  (∀ (s : State) (m : DopMsg) (h : DopHdr) (x : DopSess) (b r : List Byte) (req : Nat), s.chip.dopMine m 0x10 h → s.chip.admits m h x b → x.tx + 2 < 2 ^ 64 → 18 ≤ x.maxBody →
    dopBody true b = some (req, [{ idx := 0x1000, sub := 0, ty := 0xFF, flags := 0, vlen := 4 }]) → (∀ k ∈ x.cache, k.req ≠ req) → r = natBE 2 req ++ [0, 1, 0x10, 0, 0, 3, 0, 0, 0, 4] ++ natLE 4 0x4805 → Does s (exec (.dopGet m) s) fun c =>
    c.rest = { s.chip.rest with wire := .dop m.ip m.udp (s.chip.sessMsg x 0x11 r) :: s.chip.wire, dop := { s.chip.dop with sess := s.chip.answered m h x 0x11 req r, counts := countsOf s.chip.dop.counts 0 } } ∧ Frame [] [] s.chip c) ∧
  (∀ (s : State) (m : DopMsg) (h : DopHdr) (x : DopSess) (b : List Byte) (req : Nat) (items : List DopItem), s.chip.dopMine m 0x12 h → s.chip.admits m h x b → dopBody false b = some (req, items) → (∀ k ∈ x.cache, k.req ≠ req) →
    (s.chip.dop.reqs.any fun r => r.sid = x.sid && r.req = req) = true → Does s (exec (.dopSet m) s) fun c =>
    c.rest = { s.chip.rest with dop := { s.chip.dop with sess := s.chip.admitted m h x, counts := countsOf s.chip.dop.counts 0 } } ∧ Frame [] [] s.chip c) ∧
  (∀ (s : State) (m : DopMsg) (h : DopHdr) (x : DopSess) (b : List Byte) (req : Nat) (items l : List DopItem), s.chip.dopMine m 0x12 h → s.chip.admits m h x b → dopBody false b = some (req, items) → (∀ k ∈ x.cache, k.req ≠ req) →
    (s.chip.dop.reqs.any fun r => r.sid = x.sid && r.req = req) = false → s.chip.isLate m.ts = false → l = s.chip.itemsEarly x.ver s.chip.scheduled items → (l.all fun it => it.status.isSome) = false → Does s (exec (.dopSet m) s) fun c =>
    c.rest = { s.chip.rest with dop := { s.chip.dop with sess := s.chip.admitted m h x, counts := countsOf s.chip.dop.counts 0, reqs := s.chip.dop.reqs ++ [setRequest m h x req l] } } ∧ Frame [] [] s.chip c) ∧
  (∀ (s : State) (m : DopMsg) (h : DopHdr) (x : DopSess) (b r : List Byte) (req : Nat) (items l : List DopItem), s.chip.dopMine m 0x12 h → s.chip.admits m h x b → dopBody false b = some (req, items) → (∀ k ∈ x.cache, k.req ≠ req) → s.chip.dop.reqs = [] → s.chip.isLate m.ts = false →
    l = s.chip.itemsEarly x.ver s.chip.scheduled items → (l.all fun it => it.status.isSome) = true → x.tx + 2 < 2 ^ 64 → r = replyBody req x.maxBody (l.map fun it => replyItem it it.ty (it.status.getD 0) none []) → Does s (exec (.dopSet m) s) fun c =>
    c.wire = .dop m.ip m.udp (s.chip.sessMsg x 0x13 r) :: s.chip.wire ∧ c.dop.reqs = []
    ∧ c.rest = { s.chip.rest with wire := c.wire, dop := { s.chip.dop with sess := c.dop.sess, counts := countsOf s.chip.dop.counts 0 } } ∧ Frame [] [] s.chip c) ∧
  (∀ (s : State) (m : DopMsg) (h : DopHdr) (x : DopSess) (b r : List Byte) (req : Nat) (items : List DopItem), s.chip.dopMine m 0x12 h → s.chip.admits m h x b → dopBody false b = some (req, items) → (∀ k ∈ x.cache, k.req ≠ req) → s.chip.dop.reqs = [] → s.chip.isLate m.ts = true →
    items ≠ [] → (∀ it ∈ items, it.featureOk x.ver = true ∧ it.timed = false ∧ it.status = none) → x.level = 0 → x.tx + 2 < 2 ^ 64 → r = replyBody req x.maxBody (items.map fun it => replyItem it it.ty stLevel none []) → Does s (exec (.dopSet m) s) fun c =>
    c.wire = .dop m.ip m.udp (s.chip.sessMsg x 0x13 r) :: s.chip.wire ∧ c.dop.reqs = [] ∧ mget 0 c.dop.counts 7 = (mget 0 s.chip.dop.counts 7 + items.length) % 2 ^ 32
    ∧ c.rest = { s.chip.rest with wire := c.wire, dop := { s.chip.dop with sess := c.dop.sess, counts := c.dop.counts } } ∧ Frame [] [] s.chip c) ∧
  (∀ (s : State) (m : DopMsg) (h : DopHdr), s.chip.dopMine m 0x12 h → h.group = true → h.ver < 2 ∨ h.level = 0 ∨ h.plain = true ∨ h.dst < 0x8000 ∨ (s.chip.keyRefusal h.level).isSome = true → Does s (exec (.dopSet m) s) fun c =>
    c.rest = { s.chip.rest with dop := { s.chip.dop with counts := countsOf s.chip.dop.counts 1 } } ∧ Frame [] [] s.chip c) ∧
  (∀ (s : State) (m : DopMsg) (h : DopHdr) (b : Option (List Byte)), s.chip.dopMine m 0x12 h → h.group = true → 2 ≤ h.ver → h.level ≠ 0 → h.plain = false → 0x8000 ≤ h.dst → s.chip.keyRefusal h.level = none →
    b = unsealed (s.chip.groupKeys h.dst (h.sid.toNat % 2 ^ 31) h.level).2.keyIn m.bytes h.len → b = none ∨ s.chip.groupRefuses h.dst h.src (h.sid.toNat % 2 ^ 31) h.seq = true → Does s (exec (.dopSet m) s) fun c =>
    c.rest = { s.chip.rest with err := c.err, dop := { s.chip.dop with counts := countsOf s.chip.dop.counts (if b = none then 3 else 4) } } ∧ Reports 0x44 (if b = none then 0xF0 else 0xF1) s.chip c ∧ Frame (logRegs 0x44) [209] s.chip c) ∧
  (∀ (s : State) (m : DopMsg) (h : DopHdr) (b : List Byte) (ke req : Nat) (items l : List DopItem), s.chip.dopMine m 0x12 h → h.group = true → 2 ≤ h.ver → h.level ≠ 0 → h.plain = false → 0x8000 ≤ h.dst → s.chip.keyRefusal h.level = none →
    ke = h.sid.toNat % 2 ^ 31 → some b = unsealed (s.chip.groupKeys h.dst ke h.level).2.keyIn m.bytes h.len → s.chip.groupRefuses h.dst h.src ke h.seq = false → dopBody false b = some (req, items) → s.chip.isLate m.ts = false →
    l = s.chip.itemsEarly h.ver s.chip.scheduled items → (l.all fun it => it.status.isSome) = false → Does s (exec (.dopSet m) s) fun c =>
    c.dop.reqs = s.chip.dop.reqs ++ [{ ts := m.ts, src := h.src, dst := h.dst, ver := h.ver, level := h.level, sid := h.sid, group := true, ack := h.ackReq, req := req, items := l, ip := m.ip, udp := m.udp, port := m.port }]
    ∧ c.groupRefuses h.dst h.src ke h.seq = true ∧ (s.chip.entryPick ≠ none → ∃ k ∈ c.dop.keys, k.dst = h.dst ∧ k.ke = ke ∧ k.level = h.level)
    ∧ c.rest = { s.chip.rest with vlt := c.vlt, dop := { s.chip.dop with counts := countsOf s.chip.dop.counts 0, reqs := c.dop.reqs, grps := c.dop.grps, keys := c.dop.keys, keFloor := c.dop.keFloor } } ∧ Frame [rVLT_CNT.addr 3 0] [] s.chip c) ∧
  (∀ (s : State), s.chip.dopRuns = true → s.chip.dop.reqs = [] → s.chip.firmQuiet → Does s (exec .controlTickApply s) fun c =>
    c.rest = { s.chip.rest with dop := { s.chip.dop with tick := if s.chip.now / 1000000 < 2 then s.chip.dop.tick else some (s.chip.now / 1000000 - 2) } } ∧ Frame [] [] s.chip c) ∧
  (∀ (s : State) (q : DopReq) (x : DopSess) (e : Nat) (b0 b1 : Byte), s.chip.dopRuns = true → s.chip.dop.reqs = [q] → q.items = [{ idx := 0x1010, sub := 0, ty := 2, flags := 0, vlen := 2, val := [b0, b1] }] →
    q.level = 3 → q.group = false → q.relayed = false → leNat [b0, b1] ≤ 16383 → q.ts / 1000000 + 2 ≤ s.chip.now / 1000000 → s.chip.firmQuiet → s.chip.pairState = 0 → s.chip.liveSession q.sid = some x → x.entry = some e → x.tx + 2 < 2 ^ 64 → 12 ≤ x.maxBody → leNat [b0, b1] ≠ 0 →
    Does s (exec .controlTickApply s) fun c =>
    c.heldAt 0x1010 0 = some [b0, b1] ∧ c.devNo = leNat [b0, b1] ∧ c.dop.reqs = [] ∧ c.dop.dirty = s.chip.dop.dirty.filter (fun y => y.1 ≠ 0x101000) ++ [(0x101000, [b0, b1])]
    ∧ c.wire = .dop q.ip q.udp (sealed (s.chip.sessEnt e).keyOut { ver := x.ver, type := 0x13, src := leNat [b0, b1], dst := x.src, sid := x.sid, seq := x.tx + 1, len := 12, flags := 0, level := x.level }
        (natBE 2 q.req ++ [0, 1, 0x10, 0x10, 0, 2, 0, 0, 0, 0])) :: s.chip.wire
    ∧ c.rest = { s.chip.rest with wire := c.wire, objs := c.objs, dop := { s.chip.dop with reqs := [], dirty := c.dop.dirty, sess := c.dop.sess, tick := c.dop.tick } } ∧ Frame [] [] s.chip c) ∧
  (∀ (s : State) (i : Fin 4), s.chip.dopRuns = true → Does s (exec (.assemblyTimeout i) s) fun c =>
    c.rest = { s.chip.rest with dop := { s.chip.dop with asms := mset none s.chip.dop.asms i none } } ∧ Frame [] [] s.chip c) ∧
  (∀ (s : State) (key : Nat) (v : List Byte) (t : List (Nat × List Byte)) (b : List Byte) (o : Nat), s.chip.fwRuns = true → s.chip.dop.dirty = (key, v) :: t → s.chip.pwr.pfw = false →
    b = storeBytes (key / 256) (key % 256) (objType key) v (s.chip.dop.rseq + 1) → s.chip.dop.off + storeLen v.length ≤ stSize → o = flashBase + stBase s.chip.dop.half + s.chip.dop.off →
    (∀ i < b.length, s.chip.byte (o + i) = 0xFF) → Does s (exec .storeFlush s) fun c =>
    c.bytes o b.length = b ∧ SameBytes (fun n => o ≤ n ∧ n < o + b.length) s.chip c
    ∧ c.rest = { s.chip.rest with mem := c.mem, dop := { s.chip.dop with dirty := t, off := s.chip.dop.off + b.length, rseq := s.chip.dop.rseq + 1 } } ∧ c.irqs.getLsbD 200 = true ∧ Frame [] [200] s.chip c) ∧
  (∀ (s : State) (key : Nat) (v : List Byte) (t : List (Nat × List Byte)) (b : List Byte) (o : Nat), s.chip.fwRuns = true → s.chip.dop.dirty = (key, v) :: t → s.chip.pwr.pfw = false →
    b = storeBytes (key / 256) (key % 256) (objType key) v (s.chip.dop.rseq + 1) → s.chip.dop.off + storeLen v.length ≤ stSize → o = flashBase + stBase s.chip.dop.half + s.chip.dop.off →
    (∃ i < b.length, b.getD i 0 &&& ~~~ s.chip.byte (o + i) ≠ 0) → Does s (exec .storeFlush s) fun c =>
    SameBytes (fun n => o ≤ n ∧ n < o + b.length) s.chip c ∧ Reports 0x44 0xF3 s.chip c
    ∧ c.rest = { s.chip.rest with mem := c.mem, err := c.err, dop := { s.chip.dop with dirty := t, off := s.chip.dop.off + b.length, rseq := s.chip.dop.rseq + 1, counts := countsOf s.chip.dop.counts 8 } } ∧ c.irqs.getLsbD 200 = true ∧ Frame (logRegs 0x44) [200, 209] s.chip c) ∧
  (∀ (s : State) (i : Instr) (j : Fin 4), (i = .storeFlush ∧ (s.chip.fwRuns = false ∨ s.chip.dop.dirty = [] ∨ s.chip.pwr.pfw = true)) ∨ (i = .controlTickApply ∧ s.chip.dopRuns = false) ∨ (i = .assemblyTimeout j ∧ s.chip.dopRuns = false) → Does s (exec i s) fun c =>
    c.rest = s.chip.rest ∧ Frame [] [] s.chip c)

/-- Channel n, with descriptors, source and destination in the serving Cellar. CFG with EN = 1 is taken; with the channel as its own trigger EN is 0 and the
channel is in ERROR with code 7. A doorbell in IDLE does nothing to a channel not enabled, else it takes up a good descriptor and enters ERROR with code 2, word 6 written with RESULT 3, on a malformed one; in RUN and STOPPING it sets
DBPEND; in TAIL it reads the control word again, takes up NEXT where LAST is 0 and else counts itself early; in any other state it is counted early. A burst of the chosen channel
with both sides of one width copies its bytes, advances both sides and the counts, and at its end moves its priority's pointer: one whose first beat ends it, by its length, the descriptor's end or the destination's edge, on any kind of side, which takes its trigger's event or claims its credit where it needs one; and one of several beats, without trigger, that increments on both sides, up to its
length, the descriptor's end or the 64-byte line's; a burst that no channel has ready does nothing. The read-back of a descriptor writes word 6 where WB is 1, counts it, sets EOC where IRQ is 1 and tells
the channels that follow; then the tail is read again, or NEXT taken up, or a stopped channel is in IDLE with STOPPED, or one with poison in ERROR with code 6. The tail still LAST enters TAIL, and a doorbell that came meanwhile reads it once more; else NEXT is taken up. Without a read-back or re-read out they do nothing. STOP in TAIL or at the re-read gives IDLE and STOPPED, with a
burst or last beat out STOPPING, between bursts IDLE after word 6 with RESULT 2, elsewhere nothing; DMA_CTRL.EN = 0 does so to every channel. CLR leaves ERROR for IDLE and does nothing elsewhere. A comparator's request to a channel
is used up, and to one of trigger 1 in RUN or TAIL it is an event counted, or, the count full, lost and counted; without a request there is none. -/
def Obligations.dma_channels : Prop :=
  (∀ (s : State) (a : Access) (n : Fin 16) (v w : Word), s.chip.takes a rDMA_CFG n 0 (v ||| 0x80000000) → w = rDMA_CFG.merge (s.chip.rd rDMA_CFG n) (v ||| 0x80000000) →
    fld w 27 26 ≠ 3 ∨ fld w 25 22 ≠ n.val → Does s (exec (.dmaChannelEnable a n v) s) fun c =>
    c.rest = s.chip.rest ∧ c.rd rDMA_CFG n = w ∧ c.rb rDMA_CFG n 0 31 = true ∧ Frame [rDMA_CFG.addr n 0] [] s.chip c) ∧
  (∀ (s : State) (a : Access) (n : Fin 16) (v w : Word), s.chip.takes a rDMA_CFG n 0 (v ||| 0x80000000) → w = rDMA_CFG.merge (s.chip.rd rDMA_CFG n) (v ||| 0x80000000) →
    fld w 27 26 = 3 → fld w 25 22 = n.val → Does s (exec (.dmaChannelEnable a n v) s) fun c =>
    c.rd rDMA_CFG n = setBit w 31 false ∧ c.dmaState n = 3 ∧ c.rf rDMA_STAT n 0 27 24 = 7 ∧ c.rb rDMA_STAT n 0 1 = true ∧ Reports 0x0A 0x30 s.chip c ∧ c.rest = { s.chip.rest with err := c.err }
    ∧ Frame (rDMA_CFG.addr n 0 :: rDMA_STAT.addr n 0 :: rDMA_EADR.addr n 0 :: logRegs 0x0A) [209] s.chip c) ∧
  (∀ (s : State) (a : Access) (n : Fin 16) (d : Nat), s.chip.takes a rDMA_CMD n 0 1 → s.chip.dmaState n = 0 → s.chip.dmaOn n = true → d = (s.chip.rd rDMA_DESC n).toNat → s.chip.descOk d → (s.chip.descOf d).malformed = false →
    Does s (exec (.dmaDb a n) s) fun c => Fetched n d c ∧ c.rest = { s.chip.rest with dma := c.dma } ∧ Frame (fetchRegs n) [] s.chip c) ∧
  (∀ (s : State) (a : Access) (n : Fin 16) (d : Nat), s.chip.takes a rDMA_CMD n 0 1 → s.chip.dmaState n = 0 → s.chip.dmaOn n = true → d = (s.chip.rd rDMA_DESC n).toNat → s.chip.descOk d → s.chip.dmaMay (d + 24) 4 → (s.chip.descOf d).malformed = true →
    Does s (exec (.dmaDb a n) s) fun c =>
    c.dmaState n = 3 ∧ c.rf rDMA_STAT n 0 27 24 = 2 ∧ c.rb rDMA_STAT n 0 1 = true ∧ (c.rd rDMA_CUR n).toNat = d ∧ (c.rd rDMA_EADR n).toNat = d ∧ Reports 0x0A 0x30 s.chip c
    ∧ c.word (d + 24) = (s.chip.descOf d).word6 3 ∧ SameBytes (fun m => d + 24 ≤ m ∧ m < d + 28) s.chip c
    ∧ c.rest = { s.chip.rest with dma := c.dma, err := c.err, mem := c.mem, cel := c.cel } ∧ Frame (rDMA_EADR.addr n 0 :: fetchRegs n ++ logRegs 0x0A) [209] s.chip c) ∧
  (∀ (s : State) (a : Access) (n : Fin 16), s.chip.takes a rDMA_CMD n 0 1 → s.chip.dmaState n = 0 → s.chip.dmaOn n = false → Does s (exec (.dmaDb a n) s) fun c => c.rest = s.chip.rest ∧ Frame [] [] s.chip c) ∧
  (∀ (s : State) (a : Access) (n : Fin 16), s.chip.takes a rDMA_CMD n 0 1 → s.chip.dmaState n = 1 ∨ s.chip.dmaState n = 4 → Does s (exec (.dmaDb a n) s) fun c =>
    c.rest = s.chip.rest ∧ c.rd rDMA_STAT n = setBit (s.chip.rd rDMA_STAT n) 19 true ∧ Frame [rDMA_STAT.addr n 0] [] s.chip c) ∧
  (∀ (s : State) (a : Access) (n : Fin 16), s.chip.takes a rDMA_CMD n 0 1 → 4 < s.chip.dmaState n ∨ s.chip.dmaState n = 3 → Does s (exec (.dmaDb a n) s) fun c =>
    c.rest = s.chip.rest ∧ c.rd rDMA_EARLY n = s.chip.rd rDMA_EARLY n + 1 ∧ Frame [rDMA_EARLY.addr n 0] [] s.chip c) ∧
  (∀ (s : State) (a : Access) (n : Fin 16) (d : Nat), s.chip.takes a rDMA_CMD n 0 1 → s.chip.dmaState n = 2 → d = (s.chip.rd rDMA_CUR n).toNat → s.chip.descOk d → bit (s.chip.word d) 31 = true → Does s (exec (.dmaDb a n) s) fun c =>
    c.rest = s.chip.rest ∧ c.rd rDMA_STAT n = setBit (s.chip.rd rDMA_STAT n) 19 false ∧ c.rd rDMA_EARLY n = s.chip.rd rDMA_EARLY n + 1 ∧ Frame [rDMA_STAT.addr n 0, rDMA_EARLY.addr n 0] [] s.chip c) ∧
  (∀ (s : State) (a : Access) (i : Instr) (n : Fin 16) (d e : Nat), (i = .dmaDb a n ∧ s.chip.takes a rDMA_CMD n 0 1 ∧ s.chip.dmaState n = 2) ∨ (i = .tailRecheck n ∧ s.chip.alive .sys = true ∧ s.chip.dmaState n = 1 ∧ (s.chip.dmaCh n).phase = .recheck) →
    d = (s.chip.rd rDMA_CUR n).toNat → s.chip.descOk d → bit (s.chip.word d) 31 = false → e = (s.chip.word (d + 16)).toNat / 32 * 32 → s.chip.descOk e → (s.chip.descOf e).malformed = false →
    Does s (exec i s) fun c => Fetched n e c ∧ c.rest = { s.chip.rest with dma := c.dma } ∧ Frame (fetchRegs n) [] s.chip c) ∧
  (∀ (s : State) (i j : Bool) (n : Fin 16) (x y : DmaCh) (w k : Nat) (first : Bool), s.chip.alive .sys = true → s.chip.dmaChoose i j = some n.val → s.chip.dmaCh n = x → w = x.sw → w = x.dw → w ≤ 16 → x.hold = [] → x.poison = none → s.chip.dmaState n = 1 →
    (x.left ≠ 0 ∧ k = x.left) ∨ (x.left = 0 ∧ k = s.chip.rf rDMA_CFG n 0 21 18 + 1) → first = (x.left == 0 && (bit (x.word 0) 28 || !x.begun)) →
    x.src % w = 0 → x.dst % w = 0 → celBase ≤ x.src → x.src + w ≤ 0x9FC00000 → s.chip.dmaMay x.dst w → w ≤ x.toRead → w ≤ x.toWrite →
    y = { x with begun := x.begun || x.left == 0, toRead := x.toRead - w, toWrite := x.toWrite - w, src := wrapAdd (bit (x.word 0) 21) (fld (x.word 0) 19 15) x.src w, dst := wrapAdd (bit (x.word 0) 20) (fld (x.word 0) 14 10) x.dst w, left := 0 } →
    y.toWrite = 0 ∨ y.atEdge = true ∨ k = 1 → Does s (exec (.dmaBurst i j) s) fun c =>
    (∀ b : Fin 16, b < w → c.byte (x.dst + b) = s.chip.byte (x.src + b)) ∧ SameBytes (fun m => x.dst ≤ m ∧ m < x.dst + w) s.chip c
    ∧ c.dmaCh n = { y with phase := if y.toWrite = 0 then .readBack else y.phase } ∧ (∀ p : Fin 4, mget 0 c.dma.rr p.val = if p.val = s.chip.dmaPrio n then (n.val + 1) % 16 else mget 0 s.chip.dma.rr p.val)
    ∧ c.rd rDMA_STAT n = (if first = true ∧ (s.chip.rf rDMA_CFG n 0 27 26 = 1 ∨ s.chip.rf rDMA_CFG n 0 27 26 = 3) then setFld (s.chip.rd rDMA_STAT n) 15 8 (s.chip.rf rDMA_STAT n 0 15 8 - 1) else s.chip.rd rDMA_STAT n)
    ∧ c.dma.claimed = s.chip.dma.claimed + (if first = true ∧ s.chip.rf rDMA_CFG n 0 27 26 = 2 ∧ s.chip.rf rDMA_CFG n 0 25 22 = 0 then 1 else 0)
    ∧ c.rest = { s.chip.rest with dma := c.dma, mem := c.mem, cel := c.cel } ∧ Frame [rDMA_STAT.addr n 0, rDMA_REM.addr n 0, rDMA_ADR.addr n 0, rDMA_ADR.addr n 1] [] s.chip c) ∧
  (∀ (s : State) (i j : Bool) (n : Fin 16) (x y : DmaCh) (w k : Nat), s.chip.alive .sys = true → s.chip.dmaChoose i j = some n.val → s.chip.dmaCh n = x → w = x.sw → w = x.dw → w ≤ 16 → x.hold = [] → x.poison = none → s.chip.dmaState n = 1 →
    x.left = 0 → s.chip.rf rDMA_CFG n 0 27 26 = 0 → k = min (s.chip.rf rDMA_CFG n 0 21 18 + 1) (min (x.toWrite / w) ((64 - x.dst % 64) / w)) → 0 < k → (∀ m : Fin 16, s.chip.dmaPrio n < s.chip.dmaPrio m → s.chip.dmaState m = 0) →
    bit (x.word 0) 21 = true → bit (x.word 0) 20 = true → fld (x.word 0) 19 15 = 0 → fld (x.word 0) 14 10 = 0 → x.toWrite % w = 0 → x.toWrite ≤ x.toRead →
    x.src % w = 0 → x.dst % w = 0 → celBase ≤ x.src → x.src + k * w ≤ 0x9FC00000 → s.chip.dmaMay x.dst (k * w) → x.src + k * w ≤ x.dst ∨ x.dst + k * w ≤ x.src →
    y = { x with begun := true, toRead := x.toRead - k * w, toWrite := x.toWrite - k * w, src := x.src + k * w, dst := x.dst + k * w } → Does s (exec (.dmaBurst i j) s) fun c =>
    (∀ b : Fin 64, b < k * w → c.byte (x.dst + b) = s.chip.byte (x.src + b)) ∧ SameBytes (fun m => x.dst ≤ m ∧ m < x.dst + k * w) s.chip c
    ∧ c.dmaCh n = { y with phase := if y.toWrite = 0 then .readBack else y.phase } ∧ (∀ p : Fin 4, mget 0 c.dma.rr p.val = if p.val = s.chip.dmaPrio n then (n.val + 1) % 16 else mget 0 s.chip.dma.rr p.val)
    ∧ c.rest = { s.chip.rest with dma := c.dma, mem := c.mem, cel := c.cel } ∧ Frame [rDMA_REM.addr n 0, rDMA_ADR.addr n 0, rDMA_ADR.addr n 1] [] s.chip c) ∧
  (∀ (s : State) (i j : Bool), s.chip.alive .sys = false ∨ s.chip.dmaChoose i j = none → Does s (exec (.dmaBurst i j) s) fun c => c.rest = s.chip.rest ∧ Frame [] [] s.chip c) ∧
  (∀ (s : State) (n : Fin 16) (x : DmaCh), s.chip.completes n x 1 → x.poison = none → bit (x.word 0) 31 = true → Does s (exec (.descriptorComplete n) s) fun c =>
    Completed n x 0 s.chip c ∧ c.rb rDMA_STAT n 0 19 = false ∧ c.dmaState n = 1 ∧ c.dmaCh n = { x with phase := .recheck }
    ∧ c.rest = { s.chip.rest with dma := c.dma, mem := c.mem, cel := c.cel } ∧ Frame (doneRegs n ++ fetchRegs n) [] s.chip c) ∧
  (∀ (s : State) (n : Fin 16) (x : DmaCh) (d : Nat), s.chip.completes n x 1 → x.poison = none → bit (x.word 0) 31 = false → d = (x.word 4).toNat → s.chip.descOk d → (s.chip.descOf d).malformed = false → Does s (exec (.descriptorComplete n) s) fun c =>
    Completed n x 0 s.chip c ∧ Fetched n d c ∧ c.rest = { s.chip.rest with dma := c.dma, mem := c.mem, cel := c.cel } ∧ Frame (doneRegs n ++ fetchRegs n) [] s.chip c) ∧
  (∀ (s : State) (n : Fin 16) (x : DmaCh), s.chip.completes n x 4 → x.poison = none → Does s (exec (.descriptorComplete n) s) fun c =>
    Completed n x 0 s.chip c ∧ c.dmaState n = 0 ∧ c.rb rDMA_STAT n 0 3 = true ∧ c.rest = { s.chip.rest with mem := c.mem, cel := c.cel } ∧ Frame (doneRegs n) [] s.chip c) ∧
  (∀ (s : State) (n : Fin 16) (x : DmaCh) (st at_ : Nat), s.chip.completes n x st → x.poison = some at_ → Does s (exec (.descriptorComplete n) s) fun c =>
    Completed n x 1 s.chip c ∧ c.dmaState n = 3 ∧ c.rf rDMA_STAT n 0 27 24 = 6 ∧ c.rb rDMA_STAT n 0 1 = true ∧ c.rd rDMA_EADR n = BitVec.ofNat 32 at_ ∧ Reports 0x0A 0x30 s.chip c
    ∧ c.rest = { s.chip.rest with err := c.err, mem := c.mem, cel := c.cel } ∧ Frame (rDMA_EADR.addr n 0 :: doneRegs n ++ logRegs 0x0A) [209] s.chip c) ∧
  (∀ (s : State) (n : Fin 16), s.chip.alive .sys = false ∨ (s.chip.dmaState n ≠ 1 ∧ s.chip.dmaState n ≠ 4) ∨ (s.chip.dmaCh n).phase ≠ .readBack → Does s (exec (.descriptorComplete n) s) fun c => c.rest = s.chip.rest ∧ Frame [] [] s.chip c) ∧
  (∀ (s : State) (n : Fin 16) (d : Nat), s.chip.alive .sys = true → s.chip.dmaState n = 1 → (s.chip.dmaCh n).phase = .recheck → d = (s.chip.rd rDMA_CUR n).toNat → s.chip.descOk d → bit (s.chip.word d) 31 = true → Does s (exec (.tailRecheck n) s) fun c =>
    c.rest = s.chip.rest ∧ c.rd rDMA_STAT n = setFld (setBit (setBit (s.chip.rd rDMA_STAT n) 19 false) 2 true) 18 16 2 ∧ c.rd rDMA_EARLY n = s.chip.rd rDMA_EARLY n + (if s.chip.rb rDMA_STAT n 0 19 then 1 else 0)
    ∧ Frame [rDMA_STAT.addr n 0, rDMA_EARLY.addr n 0] [] s.chip c) ∧
  (∀ (s : State) (n : Fin 16), s.chip.alive .sys = false ∨ s.chip.dmaState n ≠ 1 ∨ (s.chip.dmaCh n).phase ≠ .recheck → Does s (exec (.tailRecheck n) s) fun c => c.rest = s.chip.rest ∧ Frame [] [] s.chip c) ∧
  (∀ (s : State) (a : Access) (n : Fin 16) (x : DmaCh), s.chip.takes a rDMA_CMD n 0 2 → s.chip.dmaCh n = x → s.chip.dmaState n ≠ 1 ∨ x.phase ≠ .beats ∨ x.left ≠ 0 → Does s (exec (.dmaStop a n) s) fun c =>
    c.rest = s.chip.rest ∧ c.rd rDMA_STAT n = s.chip.stopped n ∧ Frame [rDMA_STAT.addr n 0] [] s.chip c) ∧
  (∀ (s : State) (a : Access) (n : Fin 16) (x : DmaCh), s.chip.takes a rDMA_CMD n 0 2 → s.chip.dmaCh n = x → s.chip.dmaState n = 1 → x.phase = .beats → x.left = 0 → (x.toWrite < x.count → celBase ≤ x.lastWord ∧ x.lastWord < 0x9FC00000 ∧ s.chip.celCalm) →
    (bit (x.word 0) 29 = true → s.chip.dmaMay (s.chip.word6At n) 4 ∧ s.chip.word6At n % 32 = 24) → Does s (exec (.dmaStop a n) s) fun c =>
    Wrote6 n x (bit (x.word 0) 29) 2 s.chip c ∧ c.rest = { s.chip.rest with mem := c.mem, cel := c.cel } ∧ c.rd rDMA_STAT n = s.chip.stopped n ∧ Frame [rDMA_STAT.addr n 0] [] s.chip c) ∧
  (∀ (s : State) (a : Access) (n : Fin 16), s.chip.takes a rDMA_CMD n 0 4 → Does s (exec (.dmaClr a n) s) fun c =>
    c.rest = s.chip.rest ∧ c.rd rDMA_STAT n = (if s.chip.dmaState n = 3 then setFld (s.chip.rd rDMA_STAT n) 18 16 0 else s.chip.rd rDMA_STAT n) ∧ Frame [rDMA_STAT.addr n 0] [] s.chip c) ∧
  (∀ (s : State) (a : Access), s.chip.takes a rDMA_CTRL 0 0 0 → (∀ n : Fin 16, s.chip.dmaState n = 1 → (s.chip.dmaCh n).phase = .beats → (s.chip.dmaCh n).left = 0 → (s.chip.dmaCh n).count ≤ (s.chip.dmaCh n).toWrite ∧ bit ((s.chip.dmaCh n).word 0) 29 = false) →
    Does s (exec (.dmaDisable a) s) fun c =>
    c.rest = s.chip.rest ∧ c.rb rDMA_CTRL 0 0 0 = false ∧ (∀ n : Fin 16, c.rd rDMA_STAT n = s.chip.stopped n) ∧ Frame (rDMA_CTRL.addr 0 0 :: (List.range 16).map (rDMA_STAT.addr · 0)) [] s.chip c) ∧
  (∀ (s : State) (n : Fin 16), s.chip.alive .sys = true → s.chip.rf rDMA_CFG n 0 27 26 = 1 → s.chip.dmaState n = 1 ∨ s.chip.dmaState n = 2 → s.chip.rf rDMA_STAT n 0 15 8 < 255 → n.val ∈ s.chip.dma.cmpReq →
    Does s (exec (.dmaTriggerEvent n) s) fun c =>
    c.rest = { s.chip.rest with dma := { s.chip.dma with cmpReq := s.chip.dma.cmpReq.erase n.val } }
    ∧ c.rd rDMA_STAT n = setFld (s.chip.rd rDMA_STAT n) 15 8 (s.chip.rf rDMA_STAT n 0 15 8 + 1) ∧ Frame [rDMA_STAT.addr n 0] [] s.chip c) ∧
  (∀ (s : State) (n : Fin 16), s.chip.alive .sys = true → s.chip.rf rDMA_CFG n 0 27 26 = 1 → s.chip.dmaState n = 1 ∨ s.chip.dmaState n = 2 → s.chip.rf rDMA_STAT n 0 15 8 = 255 → n.val ∈ s.chip.dma.cmpReq →
    Does s (exec (.dmaTriggerEvent n) s) fun c =>
    c.rest = { s.chip.rest with dma := { s.chip.dma with cmpReq := s.chip.dma.cmpReq.erase n.val }, err := c.err } ∧ c.rd rDMA_TLOST = s.chip.rd rDMA_TLOST + 1 ∧ Reports 0x0A 0x32 s.chip c
    ∧ Frame (rDMA_TLOST.addr 0 0 :: logRegs 0x0A) [209] s.chip c) ∧
  (∀ (s : State) (n : Fin 16), s.chip.alive .sys = true → s.chip.rf rDMA_CFG n 0 27 26 ≠ 1 ∨ (s.chip.dmaState n ≠ 1 ∧ s.chip.dmaState n ≠ 2) → n.val ∈ s.chip.dma.cmpReq → Does s (exec (.dmaTriggerEvent n) s) fun c =>
    c.rest = { s.chip.rest with dma := { s.chip.dma with cmpReq := s.chip.dma.cmpReq.erase n.val } } ∧ Frame [] [] s.chip c) ∧
  (∀ (s : State) (n : Fin 16), s.chip.alive .sys = false ∨ n.val ∉ s.chip.dma.cmpReq → Does s (exec (.dmaTriggerEvent n) s) fun c => c.rest = s.chip.rest ∧ Frame [] [] s.chip c)

/-- A mailbox the access may push to takes a message at its end while it is enabled and has room, and records it in the master's QUE_RES; a
full one drops it: counted, OVF shown, code 0x3A; a disabled one takes nothing. A pop the mask permits gives the oldest message and clears STALE; an empty mailbox gives 0; a pop it does not permit is a bus error with CAUSE 1.
Disabling empties an enabled one and does nothing to a disabled one. One with a message and a timeout becomes stale: both bits, code 0x39; any other does not. A pointer mismatch of a queue
counts the entries lost and the reset, with code 0x38 and the ID and the entries in its detail: of the receive crossings the frames caught are lost, of an urgent queue every insert, counted on each port that waited for it, of the timing queues their records, the frame starts or the PRESENTs, of a return queue its cells, of the corridor's
the cask in receipt, of the stack's an open slice frame, which closes incomplete; of any other queue what passes through it next is lost (the model's choice, log entry 211). Of an ID that is no queue's, or with SYS held, nothing happens. A wrong credit count is
marked on its port where its bank is up. -/
def Obligations.mailboxes_and_queues : Prop :=
  (∀ (s : State) (a : Access) (q : Fin 32) (v : Word), s.chip.takes a rQUE_PUSH q 0 v → s.chip.rb rQUE_CFG q 0 31 = true → (s.chip.mail q).length < s.chip.mailSize q → Does s (exec (.mailboxPush a q v) s) fun c =>
    c.mail q = s.chip.mail q ++ [v] ∧ (∀ r : Fin 32, r ≠ q → c.mail r = s.chip.mail r) ∧ c.queRes a = setFld (setBit (s.chip.queRes a) 31 true) 28 24 q
    ∧ c.rd rQUE_STAT q = setFld (s.chip.rd rQUE_STAT q) 6 0 ((s.chip.mail q).length + 1) ∧ c.rest = { s.chip.rest with que := c.que } ∧ Frame [rQUE_STAT.addr q 0] [] s.chip c) ∧
  (∀ (s : State) (a : Access) (q : Fin 32) (v : Word), s.chip.takes a rQUE_PUSH q 0 v → s.chip.rb rQUE_CFG q 0 31 = true → s.chip.mailSize q ≤ (s.chip.mail q).length → Does s (exec (.mailboxPush a q v) s) fun c =>
    (∀ r : Fin 32, c.mail r = s.chip.mail r) ∧ c.rd rQUE_DROP q = s.chip.rd rQUE_DROP q + 1 ∧ c.rb rQUE_STAT q 0 30 = true ∧ c.queRes a = setFld (setBit (s.chip.queRes a) 31 false) 28 24 q
    ∧ Reports 0x0F 0x3A s.chip c ∧ c.rest = { s.chip.rest with que := c.que, err := c.err } ∧ Frame (rQUE_DROP.addr q 0 :: rQUE_STAT.addr q 0 :: logRegs 0x0F) [209] s.chip c) ∧
  (∀ (s : State) (a : Access) (q : Fin 32) (v : Word), s.chip.takes a rQUE_PUSH q 0 v → s.chip.rb rQUE_CFG q 0 31 = false → Does s (exec (.mailboxPush a q v) s) fun c =>
    (∀ r : Fin 32, c.mail r = s.chip.mail r) ∧ c.queRes a = setFld (setBit (s.chip.queRes a) 31 false) 28 24 q ∧ c.rest = { s.chip.rest with que := c.que } ∧ Frame [] [] s.chip c) ∧
  (∀ (s : State) (a : Access) (q : Fin 32) (v : Word) (t : List Word), s.chip.reads a rQUE_POP q 0 → s.chip.mailMay a q true = true → s.chip.mail q = v :: t → Does s (exec (.mailboxPop a q) s) fun c =>
    c.rsp = { val := v, err := false } ∧ c.mail q = t ∧ (∀ r : Fin 32, r ≠ q → c.mail r = s.chip.mail r) ∧ c.rd rQUE_STAT q = setBit (setFld (s.chip.rd rQUE_STAT q) 6 0 t.length) 31 false
    ∧ c.queRes a = setFld (setBit (s.chip.queRes a) 30 true) 20 16 q ∧ c.rest = { s.chip.rest with que := c.que } ∧ Frame [rQUE_STAT.addr q 0] [] s.chip c) ∧
  (∀ (s : State) (a : Access) (q : Fin 32), s.chip.reads a rQUE_POP q 0 → s.chip.mailMay a q true = true → s.chip.mail q = [] → Does s (exec (.mailboxPop a q) s) fun c =>
    c.rsp = { val := 0, err := false } ∧ (∀ r : Fin 32, c.mail r = s.chip.mail r) ∧ c.queRes a = setFld (setBit (s.chip.queRes a) 30 false) 20 16 q ∧ c.rest = { s.chip.rest with que := c.que } ∧ Frame [] [] s.chip c) ∧
  (∀ (s : State) (a : Access) (q : Fin 32), s.chip.reads a rQUE_POP q 0 → s.chip.mailMay a q true = false → Does s (exec (.mailboxPop a q) s) fun c =>
    c.rsp = { val := 0, err := true } ∧ c.irqs.getLsbD 1 = true ∧ Reports 0x00 0x02 s.chip c
    ∧ (s.chip.rb rBUSERR_INFO 0 0 31 = false → c.rb rBUSERR_INFO 0 0 31 = true ∧ c.rf rBUSERR_INFO 0 0 17 16 = 1 ∧ (c.rd rBUSERR_ADDR).toNat = rQUE_POP.addr q 0)
    ∧ c.rest = { s.chip.rest with err := c.err } ∧ Frame (rBUSERR_INFO.addr 0 0 :: rBUSERR_ADDR.addr 0 0 :: logRegs 0x00) [1, 209] s.chip c) ∧
  (∀ (s : State) (a : Access) (q : Fin 32), s.chip.takes a rQUE_CFG q 0 (setBit (s.chip.rd rQUE_CFG q) 31 false) → s.chip.rb rQUE_CFG q 0 31 = true → Does s (exec (.mailboxDisable a q) s) fun c =>
    c.mail q = [] ∧ (∀ r : Fin 32, r ≠ q → c.mail r = s.chip.mail r) ∧ c.rd rQUE_CFG q = setBit (s.chip.rd rQUE_CFG q) 31 false ∧ c.rd rQUE_STAT q = setBit (setFld (s.chip.rd rQUE_STAT q) 6 0 0) 31 false
    ∧ c.rest = { s.chip.rest with que := c.que } ∧ Frame [rQUE_CFG.addr q 0, rQUE_STAT.addr q 0] [] s.chip c) ∧
  (∀ (s : State) (a : Access) (q : Fin 32), s.chip.takes a rQUE_CFG q 0 (setBit (s.chip.rd rQUE_CFG q) 31 false) → s.chip.rb rQUE_CFG q 0 31 = false → Does s (exec (.mailboxDisable a q) s) fun c => c.rest = s.chip.rest ∧ Frame [] [] s.chip c) ∧
  (∀ (s : State) (q : Fin 32), s.chip.alive .sys = true → s.chip.mail q ≠ [] → s.chip.rf rQUE_STALE q 0 23 0 ≠ 0 → Does s (exec (.queStale q) s) fun c =>
    c.rb rQUE_STAT q 0 31 = true ∧ c.rb rQUE_STALE_STAT 0 0 q = true ∧ Reports 0x0F 0x39 s.chip c ∧ c.rest = { s.chip.rest with err := c.err }
    ∧ Frame (rQUE_STAT.addr q 0 :: rQUE_STALE_STAT.addr 0 0 :: logRegs 0x0F) [209] s.chip c) ∧
  (∀ (s : State) (q : Fin 32), s.chip.alive .sys = false ∨ s.chip.mail q = [] ∨ s.chip.rf rQUE_STALE q 0 23 0 = 0 → Does s (exec (.queStale q) s) fun c => c.rest = s.chip.rest ∧ Frame [] [] s.chip c) ∧
  (∀ (s : State) (id : Fin 256) (lost : Nat), s.chip.alive .sys = false ∨ queueId id = false → Does s (exec (.queuePtrMismatch id lost) s) fun c => c.rest = s.chip.rest ∧ Frame [] [] s.chip c) ∧
  (∀ (s : State) (id : Fin 256) (lost n p w d : Nat), s.chip.alive .sys = true → (id.val < 2 ∧ p = id.val ∧ w = 32 ∧ d = 64) ∨ (id.val = 4 ∧ p = 2 ∧ w = 8 ∧ d = 32) → n = min lost (min d (rxEntries w (s.chip.mac p).rxq)) →
    Does s (exec (.queuePtrMismatch id lost) s) fun c =>
    QueueReset id n s.chip c ∧ c.mac p = { s.chip.mac p with rxq := rxLeft w n (s.chip.mac p).rxq } ∧ (∀ q : Fin 3, q.val ≠ p → c.mac q = s.chip.mac q) ∧ c.rest = { s.chip.rest with err := c.err, macs := c.macs } ∧ Frame queueRegs [209] s.chip c) ∧
  (∀ (s : State) (id : Fin 256) (lost p k : Nat), s.chip.alive .sys = true → k < 6 → (p = 0 ∧ id.val = 0x08 + k) ∨ (p = 1 ∧ id.val = 0x10 + k) → Does s (exec (.queuePtrMismatch id lost) s) fun c =>
    QueueReset id (s.chip.urgQueue p k).length s.chip c ∧ c.urgQueue p k = []
    ∧ (∀ i : Fin 8, c.rd rPORT_CNT (8 * k + i) 10 = s.chip.rd rPORT_CNT (8 * k + i) 10 + BitVec.ofNat 32 ((s.chip.urgQueue p k).filter fun e => e.words ≠ 0 && e.left.getLsbD i).length)
    ∧ (∀ j : Fin 12, j.val ≠ 6 * p + k → mget [] c.urgQ j.val = mget [] s.chip.urgQ j.val) ∧ c.rest = { s.chip.rest with err := c.err, urgQ := c.urgQ } ∧ Frame (queueRegs ++ (List.range 8).map fun i => rPORT_CNT.addr (8 * k + i) 10) [209] s.chip c) ∧
  (∀ (s : State) (lost : Nat), s.chip.alive .sys = true → Does s (exec (.queuePtrMismatch 0x18 lost) s) fun c =>
    QueueReset 0x18 s.chip.time.evtQ.length s.chip c ∧ c.rd rCAP_LOST = s.chip.rd rCAP_LOST + BitVec.ofNat 32 s.chip.time.evtQ.length
    ∧ c.rest = { s.chip.rest with err := c.err, time := { s.chip.time with evtQ := [] } } ∧ Frame (rCAP_LOST.addr 0 0 :: queueRegs) [209] s.chip c) ∧
  (∀ (s : State) (lost : Nat), s.chip.alive .sys = true → Does s (exec (.queuePtrMismatch 0x19 lost) s) fun c =>
    QueueReset 0x19 s.chip.time.pixQ.length s.chip c ∧ c.rest = { s.chip.rest with err := c.err, time := { s.chip.time with pixQ := [] } } ∧ Frame queueRegs [209] s.chip c) ∧
  (∀ (s : State) (id : Fin 256) (lost : Nat), s.chip.alive .sys = true → 0x1A ≤ id.val → id.val ≤ 0x1F → Does s (exec (.queuePtrMismatch id lost) s) fun c =>
    QueueReset id lost s.chip c ∧ (∀ p : Fin 48, c.port p = if bankOf p = id.val - 0x1A then { s.chip.port p with presentDue := false } else s.chip.port p)
    ∧ c.rest = { s.chip.rest with err := c.err, ports := c.ports } ∧ Frame queueRegs [209] s.chip c) ∧
  (∀ (s : State) (id : Fin 256) (lost : Nat), s.chip.alive .sys = true → 0x38 ≤ id.val → id.val ≤ 0x3D → Does s (exec (.queuePtrMismatch id lost) s) fun c =>
    QueueReset id (s.chip.retQ.filter fun x => bankOf x.port = id.val - 0x38).length s.chip c ∧ c.rest = { s.chip.rest with err := c.err, retQ := s.chip.retQ.filter fun x => bankOf x.port ≠ id.val - 0x38 } ∧ Frame queueRegs [209] s.chip c) ∧
  (∀ (s : State) (lost : Nat), s.chip.alive .sys = true → Does s (exec (.queuePtrMismatch 0x41 lost) s) fun c =>
    QueueReset 0x41 lost s.chip c ∧ c.rest = { s.chip.rest with err := c.err, cdr := { s.chip.cdr with caskIn := none } } ∧ Frame queueRegs [209] s.chip c) ∧
  (∀ (s : State) (lost : Nat), s.chip.alive .sys = true → (∀ cv : Fin 4, (s.chip.dcanv cv).openBuf = none) → Does s (exec (.queuePtrMismatch 0x43 lost) s) fun c =>
    QueueReset 0x43 lost s.chip c ∧ c.rest = { s.chip.rest with err := c.err } ∧ Frame queueRegs [209] s.chip c) ∧
  (∀ (s : State) (lost : Nat) (cv : Fin 4) (k : Fin 3) (x : DCanv) (sig : Word), s.chip.alive .sys = true → s.chip.dcanv cv = x → x.openBuf = some k.val → (∀ d : Fin 4, d ≠ cv → (s.chip.dcanv d).openBuf = none) →
    s.chip.rb rRGN_WMASK 6 0 8 = true → s.chip.celCalm → s.chip.rb rECC_INJ 0 0 31 = false → sig = s.chip.canvSig (s.chip.viewGeom cv) k → Does s (exec (.queuePtrMismatch 0x43 lost) s) fun c =>
    QueueReset 0x43 lost s.chip c ∧ c.words (descAddr cv k) 6 = [1, x.seq.getD 0, tsWord x.ts 0, tsWord x.ts 1, tsWord x.ts 2, sig] ∧ c.word (recAddr cv) = setBufState (s.chip.word (recAddr cv)) k 2
    ∧ c.dcanv cv = {} ∧ c.rd rCANV_SIG cv = sig ∧ SameBytes (fun i => (recAddr cv ≤ i ∧ i < recAddr cv + 4) ∨ (descAddr cv k ≤ i ∧ i < descAddr cv k + 32)) s.chip c
    ∧ c.rest = { s.chip.rest with err := c.err, mem := c.mem, cel := c.cel, trl := c.trl } ∧ Frame (rCANV_SIG.addr cv 0 :: queueRegs) [209] s.chip c) ∧
  (∀ (s : State) (id : Fin 256) (lost : Nat), s.chip.alive .sys = true → id.val ∈ [0x02, 0x03, 0x05, 0x20, 0x21, 0x22, 0x23, 0x40, 0x42] ∨ (0x28 ≤ id.val ∧ id.val ≤ 0x2D) ∨ (0x30 ≤ id.val ∧ id.val ≤ 0x35) ∨ (0x80 ≤ id.val ∧ id.val ≤ 0x93) ∨ (0xA0 ≤ id.val ∧ id.val ≤ 0xA5) →
    Does s (exec (.queuePtrMismatch id lost) s) fun c =>
    QueueReset id lost s.chip c ∧ c.rest = { s.chip.rest with err := c.err, que := s.chip.cutQue id lost } ∧ Frame queueRegs [209] s.chip c) ∧
  (∀ (s : State) (p : Fin 48), s.chip.up (.bank (bankOf p)) = true → Does s (exec (.creditMismatch p) s) fun c =>
    c.rest = { s.chip.rest with ports := mset ({} : Port) s.chip.ports p { s.chip.port p with crdBad := true } } ∧ Frame [] [] s.chip c) ∧
  (∀ (s : State) (p : Fin 48), s.chip.up (.bank (bankOf p)) = false → Does s (exec (.creditMismatch p) s) fun c => c.rest = s.chip.rest ∧ Frame [] [] s.chip c)

/-- Window w, its owner's access. Behind an operation that waits or a life-cycle change an operation is queued and STS shows BUSY, and so is one that stores while the power-fail warning is in force. An operation on a slot its attributes, the state or an empty slot refuse, and one whose operands, master, state or target slot are out of order, changes
nothing but STS, the counts and, for a refusal, interrupt 194 and code 0x42. HMAC, SEAL and OPEN put the code over, or the text of, BUF's bytes under the named slot's or session entry's key at the start of BUF
with their length in STS; an OPEN whose tag fails leaves result 3. DERIVE fills its slot with the derived key, bound to md or not, from a slot's key or the unique secret;
SESSION fills its entry; LOAD_URG gives both parsers the key, with the sequence 0; INSTALL takes the plain key of BUF in BLANK, else the key unwrapped under the session entry, into its slot; a key for a slot that is stored goes first, where the area has room, into a record of the flash. DELETE empties its slot, after a DELETE record where it is stored,
SETATTR sets an empty free slot's attributes. -/
def Obligations.vault_keys : Prop :=
  (∀ (s : State) (i : Instr) (a : Access) (w : Fin 4) (v : Word), vltCmdOf i = some (a, w, v) → s.chip.takes a rVLT_CMD w 0 v →
    (s.chip.vlt.lcTarget ≠ none ∨ s.chip.vlt.queue ≠ []) ∨ (s.chip.vltGo i ∧ s.chip.vltStores i = true ∧ s.chip.pwr.pfw = true) → Does s (exec i s) fun c =>
    c.rest = { s.chip.rest with vlt := { s.chip.vlt with queue := s.chip.vlt.queue ++ [{ from_ := a, win := w, cmd := v }] } } ∧ c.rd rVLT_STS w = 0x80000000 ∧ Frame [rVLT_STS.addr w 0] [] s.chip c) ∧
  (∀ (s : State) (i : Instr) (a b : Access) (w : Fin 4) (v : Word) (k u n : Nat), vltCmdOf i = some (a, w, v) → s.chip.vltTakes i → s.chip.vltNeeds i = some (b, k, u) → s.chip.slotRefusal b k u = some (.refuse n) → Does s (exec i s) fun c =>
    VltEnds w n 0 s.chip c ∧ c.rest = { s.chip.rest with err := c.err } ∧ Frame (refusedRegs w n) (refusedIrqs n) s.chip c) ∧
  (∀ (s : State) (i : Instr) (a : Access) (w : Fin 4) (v : Word) (n : Nat), vltCmdOf i = some (a, w, v) → s.chip.vltTakes i → s.chip.slotGiven i → s.chip.vltWrong i = some n → Does s (exec i s) fun c =>
    VltEnds w n 0 s.chip c ∧ c.rest = { s.chip.rest with err := c.err } ∧ Frame (refusedRegs w n) (refusedIrqs n) s.chip c) ∧
  (∀ (s : State) (a : Access) (w : Fin 4) (k : Fin 64) (r : List Byte), s.chip.vltGo (.vltHmac a w k) → r = hmac (s.chip.keyOf k) (s.chip.vltBuf w (s.chip.vltArg w 0)) → Does s (exec (.vltHmac a w k) s) fun c =>
    c.vltBuf w 1024 = s.chip.bufWith w r ∧ VltEnds w 0 r.length s.chip c ∧ c.rest = s.chip.rest ∧ Frame (vltRegs w ++ (List.range 8).map (rVLT_BUF.addr w)) [] s.chip c) ∧
  (∀ (s : State) (a : Access) (w : Fin 4) (k : Fin 64) (n m : Nat) (b r : List Byte), s.chip.vltGo (.sealOp a w k) → n = s.chip.vltArg w 0 → m = s.chip.vltArg w 1 → 12 + m + n ≤ 1024 → n + 16 ≤ 1024 → b = s.chip.vltBuf w (12 + m + n) →
    r = (gcmSeal (s.chip.aeadOf w k true) (b.take 12) (slice b 12 m) (b.drop (12 + m))).1 ++ (gcmSeal (s.chip.aeadOf w k true) (b.take 12) (slice b 12 m) (b.drop (12 + m))).2 → Does s (exec (.sealOp a w k) s) fun c =>
    c.vltBuf w 1024 = s.chip.bufWith w r ∧ VltEnds w 0 r.length s.chip c ∧ c.rest = { s.chip.rest with vlt := s.chip.aeadVlt w k } ∧ Frame (vltRegs w ++ (List.range 256).map (rVLT_BUF.addr w)) [] s.chip c) ∧
  (∀ (s : State) (a : Access) (w : Fin 4) (k : Fin 64) (n m : Nat) (b : List Byte) (r : Option (List Byte)), s.chip.vltGo (.openOp a w k) → n = s.chip.vltArg w 0 → m = s.chip.vltArg w 1 → 12 + m + n + 16 ≤ 1024 → b = s.chip.vltBuf w (12 + m + n + 16) →
    r = gcmOpen (s.chip.aeadOf w k false) (b.take 12) (slice b 12 m) (slice b (12 + m) n) (b.drop (12 + m + n)) → Does s (exec (.openOp a w k) s) fun c =>
    c.vltBuf w 1024 = s.chip.bufWith w (r.getD []) ∧ VltEnds w (if r = none then 3 else 0) (r.getD []).length s.chip c ∧ c.rest = { s.chip.rest with vlt := s.chip.aeadVlt w k } ∧ Frame (vltRegs w ++ (List.range 256).map (rVLT_BUF.addr w)) [] s.chip c) ∧
  (∀ (s : State) (a : Access) (w : Fin 4) (k d : Fin 64), s.chip.vltGo (.vltDerive a w k d) → (s.chip.persist d = true → s.chip.recRoom 4) → Does s (exec (.vltDerive a w k d) s) fun c =>
    KeyPut w d (hkdf (if s.chip.bindsMd w d then s.chip.md else z48) (if s.chip.vltArg w 0 % 2 = 1 then s.chip.fuses.dus else s.chip.keyOf k)
      (ascii "VLT-D" ++ (List.range 4).flatMap (fun i => wordBytes (s.chip.rd rVLT_ARG w (1 + i))) ++ [BitVec.ofNat 8 d]) 32) s.chip c ∧ Frame (putRegs w) [200] s.chip c) ∧
  (∀ (s : State) (a : Access) (w : Fin 4) (e : Fin 64) (n m : Nat), s.chip.vltGo (.vltSession a w e) → n = s.chip.vltArg w 0 → m = s.chip.vltArg w 1 → Does s (exec (.vltSession a w e) s) fun c =>
    c.sessEnt e = sessionOf (s.chip.keyOf (s.chip.vltArg w 2 % 64)) ((s.chip.vltBuf w (n + m)).take n) ((s.chip.vltBuf w (n + m)).drop n) s.chip.now ∧ (∀ x : Fin 64, x ≠ e → c.sessEnt x = s.chip.sessEnt x)
    ∧ VltEnds w 0 0 s.chip c ∧ c.rest = { s.chip.rest with vlt := { s.chip.vlt with sess := c.vlt.sess } } ∧ Frame (vltRegs w) [] s.chip c) ∧
  (∀ (s : State) (a : Access) (w : Fin 4) (k : Fin 64) (j : Nat), s.chip.vltGo (.loadUrg a w k) → j = s.chip.vltArg w 0 → Does s (exec (.loadUrg a w k) s) fun c =>
    (∀ p : Fin 2, mget ({} : Urg) c.urgs p.val = (if j = 0 then { mget ({} : Urg) s.chip.urgs p.val with key0 := some (s.chip.keyOf k) } else { mget ({} : Urg) s.chip.urgs p.val with key1 := some (s.chip.keyOf k) })
      ∧ c.rd rURG_LASTSEQ p j = 0 ∧ c.rd rURG_STATUS p = setBit (s.chip.rd rURG_STATUS p) j true)
    ∧ VltEnds w 0 0 s.chip c ∧ c.rest = { s.chip.rest with urgs := c.urgs, vlt := { s.chip.vlt with urgFrom := mset 64 s.chip.vlt.urgFrom j k } }
    ∧ Frame (vltRegs w ++ [rURG_LASTSEQ.addr 0 j, rURG_LASTSEQ.addr 1 j, rURG_STATUS.addr 0 0, rURG_STATUS.addr 1 0]) [] s.chip c) ∧
  (∀ (s : State) (a : Access) (w : Fin 4) (k : Fin 64) (key : List Byte), s.chip.vltGo (.vltInstall a w k) → (s.chip.persist k = true → s.chip.recRoom 4) →
    (s.chip.lc = 0 ∧ key = s.chip.vltBuf w 32) ∨ (s.chip.lc ≠ 0 ∧ keyUnwrap (s.chip.sessEnt (s.chip.vltArg w 0 % 64)).kekS (s.chip.vltBuf w 40) = some key) → Does s (exec (.vltInstall a w k) s) fun c =>
    KeyPut w k key s.chip c ∧ Frame (putRegs w) [200] s.chip c) ∧
  (∀ (s : State) (a : Access) (w : Fin 4) (k : Fin 64), s.chip.vltGo (.vltDelete a w k) → s.chip.persist k = false → Does s (exec (.vltDelete a w k) s) fun c =>
    c.keySlot k = {} ∧ (∀ x : Fin 64, x ≠ k → c.keySlot x = s.chip.keySlot x) ∧ VltEnds w 0 0 s.chip c ∧ c.rest = { s.chip.rest with vlt := { s.chip.vlt with slots := c.vlt.slots } } ∧ Frame (vltRegs w) [] s.chip c) ∧
  (∀ (s : State) (a : Access) (w : Fin 4) (k : Fin 64), s.chip.vltGo (.vltDelete a w k) → s.chip.persist k = true → s.chip.recRoom 4 → (∀ x : Fin 2, s.chip.scanArea x = ([], 0, false)) → s.chip.vlt.unit = 0 → Does s (exec (.vltDelete a w k) s) fun c =>
    c.keySlot k = {} ∧ (∀ x : Fin 64, x ≠ k → c.keySlot x = s.chip.keySlot x) ∧ VltEnds w 0 0 s.chip c ∧ RecordPut (s.chip.keyRec k none) s.chip c
    ∧ SameBytes (fun i => flashBase + s.chip.recAt ≤ i ∧ i < flashBase + s.chip.recAt + 128) s.chip c ∧ c.rest = { s.chip.rest with vlt := c.vlt, mem := c.mem } ∧ Frame (putRegs w) [200] s.chip c) ∧
  (∀ (s : State) (a : Access) (w : Fin 4) (k : Fin 64), s.chip.vltGo (.vltSetattr a w k) → Does s (exec (.vltSetattr a w k) s) fun c =>
    c.rd (rATTR0 k) = BitVec.ofNat 32 (s.chip.vltArg w 0 / 4 * 4) ∧ c.rd (rATTR1 k) = BitVec.ofNat 32 (s.chip.vltArg w 1 % 32) ∧ VltEnds w 0 0 s.chip c ∧ c.rest = s.chip.rest
    ∧ Frame (vltRegs w ++ [(rATTR0 k).addr 0 0, (rATTR1 k).addr 0 0]) [] s.chip c)

/-- An EXTEND that is not refused replaces a measurement by SHA-384 of it and 48 bytes of BUF; MFINAL sets both
bits; VLT_VINTAGE takes its first write only. ATTEST answers message and code. UNONCE keeps and answers a fresh nonce;
UNLOCK uses it up, a right response unlocking (interrupt 195, code 0x43), a wrong one or one without a nonce counting a failure, the third of which locks unlocks out (the same). RANDOM answers its length of random bytes. COMMREC
programs a checked record at the next free unit, where the area has room. The scan does nothing without a usable secret or with SYS held; else it derives slot 0, and, of areas that hold no DELETE record and none of a state now passed, loads each slot from its newest valid record that unwraps, sets the next SEQ and the active area, and counts and logs the invalid ones. A permitted change of life-cycle
state destroys the keys its target destroys, with the attributes of free slots and what the parsers loaded from them, the sessions and the unlock; any other is refused with LC_ERR, interrupt 192 and code 0x40, and a write without the acceptance key does nothing. The fuses then blown, the records it destroys are zeros, with LC_DONE, interrupt 192 and code 0x40; under the warning they are left; with no change running nothing happens. -/
def Obligations.vault_measurements_and_life_cycle : Prop :=
  (∀ (s : State) (a : Access) (w : Fin 4) (i : Nat), s.chip.vltGo (.vltExtend a w) → i = s.chip.vltArg w 0 → Does s (exec (.vltExtend a w) s) fun c =>
    c.meas i = sha384 (s.chip.meas i ++ s.chip.vltBuf w 48) ∧ VltEnds w 0 0 s.chip c ∧ c.rest = s.chip.rest ∧ Frame (vltRegs w ++ (List.range 12).map (rMEAS.addr i)) [] s.chip c) ∧
  (∀ (s : State) (a : Access), s.chip.takes a rVLT_CTRL 0 0 1 → Does s (exec (.mfinal a) s) fun c =>
    c.rest = s.chip.rest ∧ c.mfinal = true ∧ c.rb rVLT_CTRL 0 0 0 = true ∧ Frame [rVLT_CTRL.addr 0 0, rVLT_STATUS.addr 0 0] [] s.chip c) ∧
  (∀ (s : State) (a : Access) (v : Word), s.chip.takes a rVINTAGE 0 0 v → s.chip.vlt.vintageWritten = false → Does s (exec (.vltVintageWrite a v) s) fun c =>
    c.rest = { s.chip.rest with vlt := { s.chip.vlt with vintageWritten := true } } ∧ c.rd rVINTAGE = v ∧ Frame [rVINTAGE.addr 0 0] [] s.chip c) ∧
  (∀ (s : State) (a : Access) (v : Word), s.chip.takes a rVINTAGE 0 0 v → s.chip.vlt.vintageWritten = true → Does s (exec (.vltVintageWrite a v) s) fun c => c.rest = s.chip.rest ∧ Frame [] [] s.chip c) ∧
  (∀ (s : State) (a : Access) (w : Fin 4) (k : Fin 64) (m : List Byte), s.chip.vltGo (.vltAttest a w k) → m = s.chip.attestation (s.chip.vltBuf w 32) ++ hmac (s.chip.keyOf k) (s.chip.attestation (s.chip.vltBuf w 32)) → Does s (exec (.vltAttest a w k) s) fun c =>
    c.vltBuf w 1024 = s.chip.bufWith w m ∧ VltEnds w 0 m.length s.chip c ∧ c.rest = s.chip.rest ∧ Frame (vltRegs w ++ (List.range 32).map (rVLT_BUF.addr w)) [] s.chip c) ∧
  (∀ (s : State) (a : Access) (w : Fin 4) (k : Fin 64) (n : List Byte), s.chip.vltGo (.unonce a w k) → n = (List.range 32).map (fun j => Config.randomByte (s.chip.cyc + 1) j) → Does s (exec (.unonce a w k) s) fun c =>
    c.vltBuf w 1024 = s.chip.bufWith w n ∧ VltEnds w 0 32 s.chip c ∧ c.rest = { s.chip.rest with vlt := { s.chip.vlt with nonces := mset none s.chip.vlt.nonces w (some n) } } ∧ Frame (vltRegs w ++ (List.range 8).map (rVLT_BUF.addr w)) [] s.chip c) ∧
  (∀ (s : State) (a : Access) (w : Fin 4) (k : Fin 64) (good : Bool), s.chip.vltGo (.unlock a w k) → good = (mget none s.chip.vlt.nonces w).any (fun n => s.chip.vltBuf w 32 == s.chip.unlockMac k n) → Does s (exec (.unlock a w k) s) fun c =>
    VltEnds w (if good then 0 else 3) 0 s.chip c ∧ c.unlk = (if good then max s.chip.unlk (k - 1) else s.chip.unlk) ∧ c.unlkLocked = (!good && 3 ≤ s.chip.vlt.fails + 1)
    ∧ (good = true ∨ 3 ≤ s.chip.vlt.fails + 1 → c.irqs.getLsbD 195 = true ∧ Reports 0x0B 0x43 s.chip c)
    ∧ c.rest = { s.chip.rest with err := c.err, vlt := { s.chip.vlt with nonces := mset none s.chip.vlt.nonces w none, fails := s.chip.vlt.fails + if good then 0 else 1 } }
    ∧ Frame (vltRegs w ++ if good = true ∨ 3 ≤ s.chip.vlt.fails + 1 then rVLT_STATUS.addr 0 0 :: logRegs 0x0B else []) (if good = true ∨ 3 ≤ s.chip.vlt.fails + 1 then [195, 209] else []) s.chip c) ∧
  (∀ (s : State) (a : Access) (w : Fin 4) (r : List Byte), s.chip.vltGo (.vltRandom a w) → r = (List.range (s.chip.vltArg w 0)).map (fun j => Config.randomByte (s.chip.cyc + 1) j) → Does s (exec (.vltRandom a w) s) fun c =>
    c.vltBuf w 1024 = s.chip.bufWith w r ∧ VltEnds w 0 r.length s.chip c ∧ c.rest = s.chip.rest ∧ Frame (vltRegs w ++ (List.range 256).map (rVLT_BUF.addr w)) [] s.chip c) ∧
  (∀ (s : State) (a : Access) (w : Fin 4) (k : Fin 64) (nn u : Nat) (b r : List Byte), s.chip.vltGo (.commrec a w k) → b = s.chip.bytes (s.chip.vltArg w 0) (s.chip.vltArg w 1) → nn = leNat (slice b 4 2) → u = 2 + (nn + 31) / 32 → s.chip.recRoom u →
    r = natLE 4 magicComm ++ recBytes u ([0xC0, 0] ++ List.replicate 6 0) s.chip.nextSeq (b ++ List.replicate (32 * (u - 2) - nn) 0) s.chip.kcom → Does s (exec (.commrec a w k) s) fun c =>
    VltEnds w 0 0 s.chip c ∧ RecordPut r s.chip c ∧ r.length = 32 * u ∧ SameBytes (fun i => flashBase + s.chip.recAt ≤ i ∧ i < flashBase + s.chip.recAt + 32 * u) s.chip c
    ∧ c.rest = { s.chip.rest with mem := c.mem, vlt := { s.chip.vlt with unit := c.vlt.unit } } ∧ Frame (putRegs w) [200] s.chip c) ∧
  (∀ (s : State), s.chip.alive .sys = false ∨ s.chip.dusOk = false → Does s (exec .vaultScan s) fun c => c.rest = s.chip.rest ∧ Frame [] [] s.chip c) ∧
  (∀ (s : State) (l : List VRec) (area : Nat), s.chip.alive .sys = true → s.chip.dusOk = true → l = (s.chip.scanArea 0).1 ++ (s.chip.scanArea 1).1 → (∀ r ∈ l, r.del = false ∧ (r.valid = true → s.chip.recDoomed r = false)) →
    area = ((newestRec (l.filter (·.valid))).map fun r => if r.off < vltArea 1 then 0 else 1).getD 0 → Does s (exec .vaultScan s) fun c =>
    (∀ x : Fin 64, c.keySlot x = match takenRec (l.filter fun r => r.slot ≠ 0xC0) x with
      | some r => (match keyUnwrap (s.chip.kek ((s.chip.byte (flashBase + r.off + 24)).getLsbD 3)) (s.chip.flashBytes (r.off + 32) 40) with
        | some k => { key := some k, seq := r.seq } | none => if x.val = 0 then { key := some s.chip.kcom, seq := 0 } else s.chip.keySlot x)
      | none => if x.val = 0 then { key := some s.chip.kcom, seq := 0 } else s.chip.keySlot x)
    ∧ c.nextSeq = ((newestRec (l.filter (·.valid))).map fun r => r.seq + 1).getD s.chip.nextSeq % 2 ^ 64 ∧ c.vlt.area = area ∧ c.vlt.unit = (s.chip.scanArea area).2.1
    ∧ c.rd rVLT_CNT 1 = s.chip.rd rVLT_CNT 1 + BitVec.ofNat 32 (l.filter fun r => !r.valid).length ∧ ((l.filter fun r => !r.valid) ≠ [] → Reports 0x0B 0x44 s.chip c)
    ∧ c.rest = { s.chip.rest with vlt := { s.chip.vlt with slots := c.vlt.slots, area := c.vlt.area, unit := c.vlt.unit, broken := c.vlt.broken }, err := c.err }
    ∧ Frame (rVLT_CNT.addr 1 0 :: rVLT_SEQ.addr 0 0 :: rVLT_SEQ.addr 1 0 :: logRegs 0x0B ++ (List.range 64).flatMap fun x => [(rATTR0 x).addr 0 0, (rATTR1 x).addr 0 0]) [209] s.chip c) ∧
  (∀ (s : State) (a : Access) (v : Word) (t : Nat), s.chip.takes a rLC_REQ 0 0 v → fld v 31 8 = 0x4C4354 → t = fld v 7 0 → s.chip.lcMay a.master t = true → s.chip.pwr.pfw = false → s.chip.rb rVLT_STATUS 0 0 0 = false → Does s (exec (.vltLcReq a v) s) fun c =>
    c.vlt.lcTarget = some t ∧ c.vlt.sess = [] ∧ c.rb rVLT_STATUS 0 0 0 = true ∧ c.unlk = 0 ∧ (∀ x : Fin 64, s.chip.destroyOn x / 2 ^ t % 2 = 1 → (c.keySlot x).key = none ∧ (6 ≤ x.val → (s.chip.keySlot x).key ≠ none → c.rd (rATTR0 x) = 0 ∧ c.rd (rATTR1 x) = 0))
    ∧ (∀ x : Fin 64, s.chip.destroyOn x / 2 ^ t % 2 = 0 ∨ (s.chip.keySlot x).key = none → c.keySlot x = s.chip.keySlot x ∧ c.rd (rATTR0 x) = s.chip.rd (rATTR0 x) ∧ c.rd (rATTR1 x) = s.chip.rd (rATTR1 x))
    ∧ (∀ p : Fin 2, ∀ x : Fin 64, s.chip.destroyOn x / 2 ^ t % 2 = 1 → (s.chip.keySlot x).key ≠ none →
      (mget 64 s.chip.vlt.urgFrom 0 = x.val → (mget ({} : Urg) c.urgs p.val).key0 = none ∧ c.rb rURG_STATUS p 0 0 = false) ∧ (mget 64 s.chip.vlt.urgFrom 1 = x.val → (mget ({} : Urg) c.urgs p.val).key1 = none ∧ c.rb rURG_STATUS p 0 1 = false))
    ∧ c.rest = { s.chip.rest with urgs := c.urgs, vlt := { s.chip.vlt with slots := c.vlt.slots, sess := [], lcTarget := some t, lcSlots := c.vlt.lcSlots } }
    ∧ Frame (rVLT_STATUS.addr 0 0 :: rURG_STATUS.addr 0 0 :: rURG_STATUS.addr 1 0 :: (List.range 64).flatMap fun x => [(rATTR0 x).addr 0 0, (rATTR1 x).addr 0 0]) [] s.chip c) ∧
  (∀ (s : State) (a : Access) (v : Word) (t : Nat), s.chip.takes a rLC_REQ 0 0 v → fld v 31 8 = 0x4C4354 → t = fld v 7 0 → s.chip.lcMay a.master t = false ∨ s.chip.pwr.pfw = true ∨ s.chip.rb rVLT_STATUS 0 0 0 = true → Does s (exec (.vltLcReq a v) s) fun c =>
    c.rest = { s.chip.rest with err := c.err } ∧ c.rd rVLT_STATUS = setBit (s.chip.rd rVLT_STATUS) 2 true ∧ c.irqs.getLsbD 192 = true ∧ Reports 0x0B 0x40 s.chip c ∧ Frame (rVLT_STATUS.addr 0 0 :: logRegs 0x0B) [192, 209] s.chip c) ∧
  (∀ (s : State) (a : Access) (v : Word), s.chip.takes a rLC_REQ 0 0 v → fld v 31 8 ≠ 0x4C4354 → Does s (exec (.vltLcReq a v) s) fun c => c.rest = s.chip.rest ∧ Frame [] [] s.chip c) ∧
  (∀ (s : State) (t : Nat), s.chip.alive .sys = true → s.chip.vlt.lcTarget = some t → s.chip.vlt.queue = [] → s.chip.pwr.pfw = false → Does s (exec .fuseBlowDone s) fun c =>
    c.fuses = s.chip.fuses.blow t 7 ∧ (∀ r ∈ s.chip.lcRecords t, c.flashBytes r.off (32 * r.len) = List.replicate (32 * r.len) 0)
    ∧ SameBytes (fun i => ∃ r ∈ s.chip.lcRecords t, flashBase + r.off ≤ i ∧ i < flashBase + r.off + 32 * r.len) s.chip c
    ∧ c.rest = { s.chip.rest with err := c.err, mem := c.mem, fuses := c.fuses, vlt := { s.chip.vlt with lcTarget := none, lcSlots := [] } } ∧ c.rd rVLT_STATUS = setBit (setBit (s.chip.rd rVLT_STATUS) 0 false) 1 true
    ∧ c.irqs.getLsbD 192 = true ∧ Reports 0x0B 0x40 s.chip c ∧ Frame (rVLT_STATUS.addr 0 0 :: logRegs 0x0B) [192, 200, 209] s.chip c) ∧
  (∀ (s : State) (t : Nat), s.chip.alive .sys = true → s.chip.vlt.lcTarget = some t → s.chip.vlt.queue = [] → s.chip.pwr.pfw = true → Does s (exec .fuseBlowDone s) fun c =>
    c.rest = { s.chip.rest with fuses := s.chip.fuses.blow t 7, vlt := { s.chip.vlt with lcTarget := none, lcSlots := [] } } ∧ Frame [] [] s.chip c) ∧
  (∀ (s : State), s.chip.alive .sys = false ∨ s.chip.vlt.lcTarget = none → Does s (exec .fuseBlowDone s) fun c => c.rest = s.chip.rest ∧ Frame [] [] s.chip c)

/-- A start arms HC0's watchdog, sets the MACs' start values, trains and enables the Cellar, a training that fails (a free value but after a warm reset) reported with interrupt 63, an abandoned erase logged, and leaves the ROM in its break watch. At its end a low PORCH_EN strap,
a held break or a dump's mark brings the Porch, code 0xF8; otherwise, and not with a failed CRC of the fuses, which brings it too, the slot choice counts a trial start or gives the trial up, and starts
ACTIVE's valid copy, else the other slot's, noted as FALLBACK or ROLLED_BACK, else brings the Porch. An announce of a newer container where none is in progress opens its download with status OK; while staging is
erased it waits; of the one in progress it is OK; another is BUSY, one out of order RANGE. A piece of another container is RANGE, or by the group not answered; one over the cap BUSY and counted; one out of place RANGE, one held OK, one out of state BUSY; a missing one is programmed in staging and its bit cleared, the last of them entering DOWNLOADED. The erase leaves staging blank and the announce that waited opens its download. Verification goes on to
VERIFIED or falls back to IDLE with its error. A build starts with the verification repeated and the slot's vintage 0; a chunk that is not the last and whose ops are right is erased, built and programmed in the other slot and
counted, one whose ops are wrong ends in IDLE with error 3. States entered are journalled and logged, what is not named in the module stays. Out of its state, or with firmware not running, each does nothing. -/
def Obligations.start_and_announce : Prop :=
  (∀ (s : State) (t ab : Bool), s.chip.alive .sys = true → s.chip.boot.hc0 = .reset → t = (s.chip.rb rCEL_STATUS 0 0 1 || Config.trains (s.chip.cyc + 1)) → ab = s.chip.boot.abandoned → Does s (exec .bootRomStart s) fun c =>
    c.boot = { s.chip.boot with hc0 := .rom, abandoned := false } ∧ c.rd rWDOG_CTRL 0 = 0xC00007D0 ∧ (∀ p : Fin 3, c.rd rMAC_CTRL p = setBit (setBit (s.chip.rd rMAC_CTRL p) 9 false) 10 true) ∧ c.cel.trained = t ∧ c.rb rCEL_STATUS 0 0 0 = t
    ∧ (t = true → c.rb rCEL_CTRL 0 0 0 = true) ∧ (t = false → c.cel = { s.chip.cel with trained := false } ∧ Reports 0x06 0x76 s.chip c ∧ c.irqs.getLsbD 63 = true) ∧ (ab = true → Reports 0x0C 0x0B s.chip c)
    ∧ c.rest = { s.chip.rest with boot := c.boot, cel := c.cel, err := c.err }
    ∧ Frame ([rWDOG_CTRL.addr 0 0, rCEL_STATUS.addr 0 0, rMAC_CTRL.addr 0 0, rMAC_CTRL.addr 1 0, rMAC_CTRL.addr 2 0] ++ (if t then [rCEL_CTRL.addr 0 0] else logRegs 0x06) ++ if ab then logRegs 0x0C else []) ((if t then [] else [63, 209]) ++ if ab then [209] else []) s.chip c) ∧
  (∀ s : State, s.chip.alive .sys = false ∨ s.chip.boot.hc0 ≠ .reset → Does s (exec .bootRomStart s) fun c => c.rest = s.chip.rest ∧ Frame [] [] s.chip c) ∧
  (∀ (s : State) (held : Bool), s.chip.alive .sys = true → s.chip.boot.hc0 = .rom → s.chip.pwr.pfw = false → s.chip.rb rCEL_STATUS 0 0 1 = false ∨ s.chip.celCalm → s.chip.rb rSTRAP 0 0 5 = false ∨ held = true ∨ s.chip.dumpPorch.2 = true ∨ s.chip.fuses.crcOk = false →
    Does s (exec (.breakWatchEnd held) s) fun c =>
    c.rest = { s.chip.rest with err := c.err, boot := { s.chip.boot with hc0 := .porch, load := none } } ∧ Reports 0x42 0xF8 s.chip c ∧ (s.chip.fuses.crcOk = false → Reports 0x0C 0x0A s.chip c)
    ∧ Frame (logRegs 0x42 ++ if s.chip.fuses.crcOk then [] else logRegs 0x0C) [209] s.chip c) ∧
  (∀ (s : State) (d : Chip), s.chip.alive .sys = true → s.chip.boot.hc0 = .rom → s.chip.pwr.pfw = false → s.chip.rb rSTRAP 0 0 5 = true → Chip.dumpPorch { s.chip with cyc := s.chip.cyc + 1 } = (d, false) →
    Does s (exec (.breakWatchEnd false) s) fun c => c = settle d.bootChoice) ∧
  (∀ (c b d e : Chip) (rolled : Bool) (l m : List Byte) (a : Nat), c.fuses.crcOk = true → (c.cfg.state ≠ 1 → b = c ∧ rolled = false) → (c.cfg.state = 1 → c.cfg.trials ≠ 0 → b = c.cfgWrite { c.cfg with trials := c.cfg.trials - 1 } ∧ rolled = false) →
    (c.cfg.state = 1 → c.cfg.trials = 0 → b = (c.cfgWrite { c.cfg with active := c.cfg.prev, state := 2 }).log 0x0C 0x07 ∧ rolled = true) →
    a = (if b.cfg.active = 1 then 1 else 0) → b.slotCopy a = (d, l) → d.slotCopy (1 - a) = (e, m) →
    c.bootChoice = if d.slotWhole a l = true ∧ d.copyOk l = true then d.startImage l a rolled
      else if e.slotWhole (1 - a) m = true ∧ e.copyOk m = true then
        (if e.cfg.state = 1 then ((e.cfgWrite { e.cfg with active := 1 - a, state := 2 }).log 0x0C 0x07).startImage m (1 - a) true else (e.cfgWrite { e.cfg with active := 1 - a, state := 3 }).startImage m (1 - a) rolled)
      else (e.log 0x0C 0x0A).enterPorch 3) ∧
  (∀ (s : State) (held : Bool), s.chip.alive .sys = false ∨ s.chip.boot.hc0 ≠ .rom ∨ s.chip.pwr.pfw = true → Does s (exec (.breakWatchEnd held) s) fun c => c.rest = s.chip.rest ∧ Frame [] [] s.chip c) ∧
  (∀ (s : State) (v : List Byte), s.chip.firm → s.chip.upd.state ∈ [0, 8, 9] → s.chip.upd.cid = [] ∨ v.take 32 ≠ s.chip.upd.cid → s.chip.upd.erasing = false → s.chip.announcable v → s.chip.upd.half ≤ 1 → Does s (exec (.updAnnounce v) s) fun c =>
    Enters ((s.chip.upd.announced v).enter 1 0) [0x01] s.chip c ∧ c.rsp = { val := 0, err := false }) ∧
  (∀ (s : State) (v : List Byte), s.chip.firm → s.chip.upd.state ∈ [0, 8, 9] → s.chip.upd.cid = [] ∨ v.take 32 ≠ s.chip.upd.cid → s.chip.upd.erasing = true → Does s (exec (.updAnnounce v) s) fun c =>
    c.rest = { s.chip.rest with upd := { s.chip.upd with waiting := s.chip.upd.waiting ++ [v] } } ∧ Frame [] [] s.chip c) ∧
  (∀ (s : State) (v : List Byte), s.chip.firm → s.chip.upd.cid ≠ [] → v.take 32 = s.chip.upd.cid → Does s (exec (.updAnnounce v) s) fun c =>
    c.rest = { s.chip.rest with upd := if s.chip.upd.clen = 0 then { s.chip.upd with clen := leNat (slice v 32 4), fromV := leNat (slice v 36 4) } else s.chip.upd } ∧ c.rsp = { val := 0, err := false } ∧ Frame [] [] s.chip c) ∧
  (∀ (s : State) (v : List Byte), s.chip.firm → s.chip.upd.cid = [] ∨ v.take 32 ≠ s.chip.upd.cid → s.chip.upd.state ∉ [0, 8, 9] ∨ (s.chip.upd.erasing = false ∧ ¬ s.chip.announcable v) → Does s (exec (.updAnnounce v) s) fun c =>
    c.rest = s.chip.rest ∧ c.rsp = { val := if s.chip.upd.state ∈ [0, 8, 9] then 0x15 else 0x16, err := false } ∧ Frame [] [] s.chip c) ∧
  (∀ (s : State) (v : List Byte), s.chip.fwRuns = false ∨ s.chip.pwr.pfw = true → Does s (exec (.updAnnounce v) s) fun c => c.rest = s.chip.rest ∧ Frame [] [] s.chip c) ∧
  (∀ (s : State) (v : List Byte) (p : Fin 3) (g : Bool), s.chip.dopRuns = true → s.chip.upd.cid = [] ∨ v.take 4 ≠ s.chip.upd.cid.take 4 → Does s (exec (.updPiece v p g) s) fun c =>
    c.rest = s.chip.rest ∧ c.rsp = (if g then s.chip.rsp else { val := 0x15, err := false }) ∧ Frame [] [] s.chip c) ∧
  (∀ (s : State) (v : List Byte) (p : Fin 3) (g : Bool), s.chip.dopRuns = true → s.chip.upd.cid ≠ [] → v.take 4 = s.chip.upd.cid.take 4 → s.chip.overCap p = true → Does s (exec (.updPiece v p g) s) fun c =>
    c.rest = { s.chip.rest with upd := { s.chip.upd with capped := s.chip.upd.capped + 1 }, err := c.err } ∧ c.rsp = { val := 0x16, err := false } ∧ Reports 0x0C 0x05 s.chip c ∧ Frame (logRegs 0x0C) [209] s.chip c) ∧
  (∀ (s : State) (v : List Byte) (p : Fin 3) (g : Bool) (i : Nat) (d : List Byte), s.chip.dopRuns = true → s.chip.upd.cid ≠ [] → v.take 4 = s.chip.upd.cid.take 4 → s.chip.overCap p = false → i = leNat (slice v 4 4) → d = v.drop 8 →
    s.chip.upd.pieceFits i d = false ∨ s.chip.missing i = false ∨ s.chip.upd.state ≠ 1 ∨ s.chip.pwr.pfw = true → Does s (exec (.updPiece v p g) s) fun c =>
    c.rest = { s.chip.rest with upd := s.chip.rated p } ∧ c.rsp = { val := if s.chip.upd.pieceFits i d = false then 0x15 else if s.chip.missing i = false then 0 else 0x16, err := false } ∧ Frame [] [] s.chip c) ∧
  (∀ (s : State) (v : List Byte) (p : Fin 3) (g : Bool) (i : Nat) (d : List Byte), s.chip.dopRuns = true → s.chip.pwr.pfw = false → s.chip.upd.state = 1 → s.chip.upd.cid ≠ [] → v.take 4 = s.chip.upd.cid.take 4 → s.chip.overCap p = false → i = leNat (slice v 4 4) → d = v.drop 8 →
    s.chip.upd.clen ≠ 0 → s.chip.upd.clen ≤ 8257536 → s.chip.upd.pieceFits i d = true → s.chip.missing i = true → s.chip.upd.half ≤ 1 → (∀ n < d.length, s.chip.byte (flashBase + stagingBase + 1024 * i + n) = 0xFF) → Does s (exec (.updPiece v p g) s) fun c =>
    c.ctr (1024 * i) d.length = d ∧ c.rsp = { val := 0, err := false } ∧ SameBytes (fun n => (flashBase + stagingBase + 1024 * i ≤ n ∧ n < flashBase + stagingBase + 1024 * i + d.length) ∨ inJournal n) s.chip c ∧ c.missing i = false
    ∧ ((∃ j < s.chip.upd.pieces, j ≠ i ∧ s.chip.missing j = true) → c.upd = { s.chip.rated p with last := v.take 8 } ∧ (∀ j < s.chip.upd.pieces, j ≠ i → c.missing j = s.chip.missing j) ∧ c.rest = { s.chip.rest with mem := c.mem, upd := c.upd } ∧ Frame [] [200] s.chip c)
    ∧ ((∀ j < s.chip.upd.pieces, j ≠ i → s.chip.missing j = false) → c.upd = c.upd.jr { s.chip.rated p with last := v.take 8, state := 2, err := 0 } ∧ Reports 0x0C 0x01 s.chip c ∧ Frame (logRegs 0x0C) [200, 209] s.chip c)) ∧
  (∀ (s : State) (v : List Byte) (p : Fin 3) (g : Bool), s.chip.dopRuns = false → Does s (exec (.updPiece v p g) s) fun c => c.rest = s.chip.rest ∧ Frame [] [] s.chip c) ∧
  (∀ (s : State), s.chip.firm → s.chip.upd.erasing = true → s.chip.upd.waiting = [] → Does s (exec .stagingEraseDone s) fun c =>
    (∀ n, n < stagingSize → c.byte (flashBase + stagingBase + n) = 0xFF) ∧ SameBytes (fun n => flashBase + stagingBase ≤ n ∧ n < flashBase + stagingBase + stagingSize) s.chip c
    ∧ c.rest = { s.chip.rest with mem := c.mem, upd := { s.chip.upd with erasing := false }, boot := { s.chip.boot with badSectors := s.chip.boot.badSectors.filter fun k => k < stagingBase || stagingBase + stagingSize ≤ k } } ∧ Frame [] [200] s.chip c) ∧
  (∀ (s : State) (v : List Byte), s.chip.firm → s.chip.upd.erasing = true → s.chip.upd.waiting = [v] → s.chip.upd.state ∈ [0, 8, 9] → s.chip.upd.cid = [] ∨ v.take 32 ≠ s.chip.upd.cid → s.chip.announcable v → s.chip.upd.half ≤ 1 → Does s (exec .stagingEraseDone s) fun c =>
    (∀ n, n < stagingSize → c.byte (flashBase + stagingBase + n) = 0xFF) ∧ SameBytes (fun n => (flashBase + stagingBase ≤ n ∧ n < flashBase + stagingBase + stagingSize) ∨ inJournal n) s.chip c
    ∧ c.upd = c.upd.jr (({ s.chip.upd with erasing := false, waiting := [] }.announced v).enter 1 0) ∧ c.rsp = { val := 0, err := false } ∧ Reports 0x0C 0x01 s.chip c
    ∧ c.rest = { s.chip.rest with mem := c.mem, upd := c.upd, err := c.err, boot := { s.chip.boot with badSectors := c.boot.badSectors } } ∧ Frame (logRegs 0x0C) [200, 209] s.chip c) ∧
  (∀ (s : State), ¬ s.chip.firm ∨ s.chip.upd.erasing = false → Does s (exec .stagingEraseDone s) fun c => c.rest = s.chip.rest ∧ Frame [] [] s.chip c) ∧
  (∀ (s : State) (e : Nat), s.chip.firm → s.chip.upd.state = 2 → s.chip.upd.half ≤ 1 → e = s.chip.verifyErr → Does s (exec .updateVerify s) fun c =>
    Enters (s.chip.upd.enter (if e = 0 then 3 else 0) e) (if e = 0 then [0x01] else [0x01, 0x02]) s.chip c) ∧
  (∀ (s : State), ¬ s.chip.firm ∨ s.chip.upd.state ≠ 2 → Does s (exec .updateVerify s) fun c => c.rest = s.chip.rest ∧ Frame [] [] s.chip c) ∧
  (∀ (s : State) (i o : Nat) (out : List Byte), s.chip.firm → s.chip.upd.half ≤ 1 → i + 1 < s.chip.nchunk → i < 384 → (s.chip.upd.state = 4 ∧ i = s.chip.upd.built) ∨ (s.chip.upd.state = 3 ∧ s.chip.buildsNow = true ∧ s.chip.verifyErr = 0 ∧ s.chip.cfg.fits ∧ i = 0) →
    s.chip.runOps ((s.chip.chunk i).length + 1) (s.chip.chunk i) [] = some out → out.length = s.chip.chunkLen i → o = slotBase s.chip.otherSlot + 65536 * i → Does s (exec .buildChunk s) fun c =>
    c.flashBytes o out.length = out ∧ c.upd = c.upd.jr { s.chip.upd with state := 4, err := if s.chip.upd.state = 4 then s.chip.upd.err else 0, built := i + 1 }
    ∧ c.cfg = (if s.chip.upd.state = 4 then s.chip.cfg else { s.chip.cfg.setSlot s.chip.otherSlot 0 (s.chip.cfg.wrt s.chip.otherSlot) with gen := s.chip.cfg.gen + 1 })
    ∧ SameBytes (fun n => (flashBase + o ≤ n ∧ n < flashBase + o + 65536) ∨ inJournal n ∨ (s.chip.upd.state = 3 ∧ inCfg n)) s.chip c ∧ (s.chip.upd.state = 3 → Reports 0x0C 0x01 s.chip c)
    ∧ c.rest = { s.chip.rest with mem := c.mem, upd := c.upd, err := c.err, boot := { s.chip.boot with badSectors := c.boot.badSectors } } ∧ Frame (if s.chip.upd.state = 3 then logRegs 0x0C else []) [200, 209] s.chip c) ∧
  (∀ (s : State) (i : Nat), s.chip.firm → s.chip.upd.half ≤ 1 → s.chip.upd.state = 4 → i = s.chip.upd.built → (s.chip.runOps ((s.chip.chunk i).length + 1) (s.chip.chunk i) []).all (fun out => out.length ≠ s.chip.chunkLen i) = true → Does s (exec .buildChunk s) fun c =>
    Enters (s.chip.upd.enter 0 3) [0x01, 0x03] s.chip c) ∧
  (∀ (s : State), s.chip.firm → s.chip.upd.half ≤ 1 → s.chip.upd.state = 3 → s.chip.buildsNow = true → s.chip.verifyErr ≠ 0 → Does s (exec .buildChunk s) fun c => Enters (s.chip.upd.enter 0 s.chip.verifyErr) [0x01, 0x02] s.chip c) ∧
  (∀ (s : State), ¬ s.chip.firm ∨ (s.chip.upd.state ≠ 4 ∧ (s.chip.upd.state ≠ 3 ∨ s.chip.buildsNow = false)) → Does s (exec .buildChunk s) fun c => c.rest = s.chip.rest ∧ Frame [] [] s.chip c)

/-- A right arm value on a VERIFIED or BUILDING container is kept and journalled with status OK; on a BUILT or ARMED one it enters ARMED, or is dropped with code 0x0C where its moment has passed; a wrong value is RANGE, in another state BUSY. At the moment of the arm in force the boot
configuration names the other slot for a trial of its count and the module is reset; before it nothing happens. A dark-period
arm whose window has passed without a rise is logged once with code 0x0C, and nothing else is. ABORT in an update leads to IDLE, staging to be erased; in IDLE it does nothing, in TRIAL it is RANGE. CONFIRM in TRIAL,
or the auto-confirm of a running raster engine, makes the configuration NORMAL and the state CONFIRMED; ROLLBACK names the previous
slot and resets; out of TRIAL both are RANGE. A refresh copies the running slot's image to the other, names it, and logs 0x09; so does one found due; where none may run, the command is BUSY. A refresh of the store or of the key records changes their area alone and is logged. Under the power-fail warning commands are BUSY and the rest does nothing. -/
def Obligations.arming_trial_and_refresh : Prop :=
  (∀ (s : State) (v : List Byte) (a : Arm), s.chip.firm → s.chip.upd.half ≤ 1 → v.length = 28 →
    a = { mode := leNat (slice v 0 1), trials := leNat (slice v 1 1), from_ := ts80Of (slice v 4 12), until_ := ts80Of (slice v 16 12), bytes := v } → a.mode = 1 ∨ a.mode = 2 → 1 ≤ a.trials → a.trials ≤ 7 → 3 ≤ s.chip.upd.state → s.chip.upd.state ≤ 6 → Does s (exec (.armUpdate v) s) fun c =>
    c.rsp = { val := 0, err := false } ∧ (s.chip.upd.state ≤ 4 → Enters { s.chip.upd with arm := some a } [] s.chip c)
    ∧ (5 ≤ s.chip.upd.state → (a.mode = 1 ∧ s.chip.now ≤ a.from_) ∨ (a.mode = 2 ∧ s.chip.now ≤ a.until_) → Enters { s.chip.upd with arm := some a, state := 6, err := 0, expired := false, rose := false } [0x01] s.chip c)
    ∧ (s.chip.upd.state = 5 → (a.mode = 1 ∧ a.from_ < s.chip.now) ∨ (a.mode = 2 ∧ a.until_ < s.chip.now) → Enters { s.chip.upd with arm := none } [0x0C] s.chip c)
    ∧ (s.chip.upd.state = 6 → (a.mode = 1 ∧ a.from_ < s.chip.now) ∨ (a.mode = 2 ∧ a.until_ < s.chip.now) → Enters { s.chip.upd with arm := none, state := 5, err := 0 } [0x01, 0x0C] s.chip c)) ∧
  (∀ (s : State) (v : List Byte) (m n : Nat), s.chip.firm → m = leNat (slice v 0 1) → n = leNat (slice v 1 1) → s.chip.upd.state < 3 ∨ 6 < s.chip.upd.state ∨ v.length ≠ 28 ∨ (m ≠ 1 ∧ m ≠ 2) ∨ n = 0 ∨ 7 < n → Does s (exec (.armUpdate v) s) fun c =>
    c.rest = s.chip.rest ∧ c.rsp = { val := if s.chip.upd.state < 3 ∨ 6 < s.chip.upd.state then 0x16 else 0x15, err := false } ∧ Frame [] [] s.chip c) ∧
  (∀ (s : State) (v : List Byte), ¬ s.chip.firm → Does s (exec (.armUpdate v) s) fun c => c.rest = s.chip.rest ∧ Frame [] [] s.chip c) ∧
  (∀ (s : State), ¬ s.chip.firm ∨ s.chip.activates = false → Does s (exec .activation s) fun c => c.rest = s.chip.rest ∧ Frame [] [] s.chip c) ∧
  (∀ (s : State) (a : Arm), s.chip.firm → s.chip.upd.state = 6 → s.chip.upd.arm = some a → (a.mode = 1 ∧ a.from_ ≤ s.chip.now) ∨ (a.mode ≠ 1 ∧ s.chip.upd.rose = true) → s.chip.pairState ≠ 4 ∨ s.chip.rf rCDR_STATUS 0 0 5 3 ≠ 3 →
    a.trials < 256 → s.chip.cfg.fits → s.chip.runSlot < 256 → Does s (exec .activation s) fun c =>
    c.cfg = { s.chip.cfg with gen := s.chip.cfg.gen + 1, active := s.chip.otherSlot, prev := s.chip.runSlot, state := 1, trials := a.trials } ∧ SoftReset s.chip c) ∧
  (∀ (s : State) (a : Arm), s.chip.fwRuns = true → s.chip.upd.arm = some a → s.chip.upd.state = 6 → a.mode = 2 → a.until_ < s.chip.now → s.chip.upd.rose = false → s.chip.upd.expired = false → Does s (exec .updArmExpired s) fun c =>
    c.rest = { s.chip.rest with err := c.err, upd := { s.chip.upd with expired := true } } ∧ Reports 0x0C 0x0C s.chip c ∧ Frame (logRegs 0x0C) [209] s.chip c) ∧
  (∀ (s : State), s.chip.fwRuns = false ∨ s.chip.upd.state ≠ 6 ∨ s.chip.upd.rose = true ∨ s.chip.upd.expired = true ∨ s.chip.upd.arm.all (fun a => a.mode ≠ 2 || s.chip.now ≤ a.until_) = true → Does s (exec .updArmExpired s) fun c => c.rest = s.chip.rest ∧ Frame [] [] s.chip c) ∧
  (∀ (s : State), s.chip.firm → s.chip.upd.half ≤ 1 → s.chip.upd.state ≠ 0 → s.chip.upd.state ≠ 7 → Does s (exec .updAbort s) fun c => Enters ({ s.chip.upd with cmd := 1 }.enter 0 0) [0x01] s.chip c ∧ c.rsp = { val := 0, err := false }) ∧
  (∀ (s : State) (i : Instr) (k : Nat) (b : Bool), (i = .updAbort ∧ k = 1 ∧ b = true) ∨ (i = .updConfirm ∧ k = 2 ∧ b = false) ∨ (i = .updRollback ∧ k = 3 ∧ b = false) → s.chip.firm → (b = true ∧ (s.chip.upd.state = 0 ∨ s.chip.upd.state = 7)) ∨ (b = false ∧ s.chip.upd.state ≠ 7) → Does s (exec i s) fun c =>
    c.rest = { s.chip.rest with upd := { s.chip.upd with cmd := k } } ∧ c.rsp = { val := if b = true ∧ s.chip.upd.state = 0 then 0 else 0x15, err := false } ∧ Frame [] [] s.chip c) ∧
  (∀ (s : State) (i : Instr) (k : Nat), (i, k) ∈ [(.updAbort, 1), (.updConfirm, 2), (.updRollback, 3), (.refreshNow, 4)] → s.chip.fwRuns = true → s.chip.pwr.pfw = true ∨ (k = 4 ∧ s.chip.mayRefresh = false) → Does s (exec i s) fun c =>
    c.rest = { s.chip.rest with upd := { s.chip.upd with cmd := k } } ∧ c.rsp = { val := 0x16, err := false } ∧ Frame [] [] s.chip c) ∧
  (∀ (s : State) (i : Instr), i ∈ [.updAbort, .updConfirm, .updRollback, .refreshNow, .autoConfirm] → s.chip.fwRuns = false → Does s (exec i s) fun c => c.rest = s.chip.rest ∧ Frame [] [] s.chip c) ∧
  (∀ (s : State) (i : Instr) (k : Nat), (i = .updConfirm ∧ k = 2) ∨ (i = .autoConfirm ∧ k = s.chip.upd.cmd ∧ s.chip.rb rRAS_STATUS 0 0 0 = true ∧ s.chip.objNat 0xA020 2 600 ≠ 0) → s.chip.firm → s.chip.upd.state = 7 → s.chip.upd.half ≤ 1 → s.chip.cfg.fits → Does s (exec i s) fun c =>
    c.cfg = { s.chip.cfg with gen := s.chip.cfg.gen + 1, state := 0 } ∧ c.upd = c.upd.jr ({ s.chip.upd with cmd := k }.enter 8 0) ∧ (i = .updConfirm → c.rsp = { val := 0, err := false }) ∧ Reports 0x0C 0x01 s.chip c
    ∧ SameBytes (fun n => inJournal n ∨ inCfg n) s.chip c ∧ c.rest = { s.chip.rest with mem := c.mem, upd := c.upd, err := c.err, boot := { s.chip.boot with badSectors := c.boot.badSectors } } ∧ Frame (logRegs 0x0C) [200, 209] s.chip c) ∧
  (∀ (s : State), s.chip.pwr.pfw = true ∨ s.chip.upd.state ≠ 7 ∨ s.chip.rb rRAS_STATUS 0 0 0 = false ∨ s.chip.objNat 0xA020 2 600 = 0 → Does s (exec .autoConfirm s) fun c => c.rest = s.chip.rest ∧ Frame [] [] s.chip c) ∧
  (∀ (s : State), s.chip.firm → s.chip.upd.state = 7 → s.chip.cfg.fits → Does s (exec .updRollback s) fun c =>
    c.cfg = { s.chip.cfg with gen := s.chip.cfg.gen + 1, active := s.chip.cfg.prev, state := 2 } ∧ SoftReset s.chip c) ∧
  (∀ (s : State) (i : Instr) (k o r n : Nat), (i = .refreshNow ∧ k = 4) ∨ (i = .updRefresh 0 ∧ k = s.chip.upd.cmd ∧ s.chip.refreshDue = true) → s.chip.fwRuns = true → s.chip.mayRefresh = true → s.chip.cfg.fits → s.chip.ptpSec < 2 ^ 64 →
    r = flashBase + slotBase s.chip.runSlot → o = flashBase + slotBase s.chip.otherSlot → n = 65536 * min 384 ((imgLen (s.chip.bytes r 1024) + 65535) / 65536) → Does s (exec i s) fun c =>
    (∀ b, b < n → c.byte (o + b) = s.chip.byte (r + b)) ∧ c.cfg = { s.chip.cfg.setSlot s.chip.otherSlot (s.chip.cfg.vint s.chip.runSlot) s.chip.ptpSec with gen := s.chip.cfg.gen + 1, active := s.chip.otherSlot, state := 0 }
    ∧ (i = .refreshNow → c.rsp = { val := 0, err := false }) ∧ Reports 0x0C 0x09 s.chip c ∧ SameBytes (fun m => (o ≤ m ∧ m < o + n) ∨ inCfg m) s.chip c
    ∧ c.rest = { s.chip.rest with mem := c.mem, upd := { s.chip.upd with cmd := k }, err := c.err, boot := { s.chip.boot with badSectors := c.boot.badSectors } } ∧ Frame (logRegs 0x0C) [200, 209] s.chip c) ∧
  (∀ (s : State), s.chip.fwRuns = true → s.chip.mayRefresh = true → s.chip.dop.half ≤ 1 → Does s (exec (.updRefresh 1) s) fun c =>
    SameBytes (fun m => flashBase + stBase 0 ≤ m ∧ m < flashBase + stBase 0 + 2 * stSize) s.chip c ∧ Reports 0x0C 0x09 s.chip c
    ∧ c.rest = { s.chip.rest with mem := c.mem, dop := c.dop, err := c.err, boot := { s.chip.boot with badSectors := c.boot.badSectors } } ∧ Frame (logRegs 0x0C) [200, 209] s.chip c) ∧
  (∀ (s : State), s.chip.fwRuns = true → s.chip.mayRefresh = true → s.chip.vlt.area ≤ 1 → Does s (exec (.updRefresh 2) s) fun c =>
    SameBytes (fun m => flashBase + vltArea 0 ≤ m ∧ m < flashBase + vltArea 0 + 2 * vltAreaSize) s.chip c ∧ Reports 0x0C 0x09 s.chip c
    ∧ c.rest = { s.chip.rest with mem := c.mem, vlt := c.vlt, err := c.err, boot := { s.chip.boot with badSectors := c.boot.badSectors } } ∧ Frame (rVLT_SEQ.addr 0 0 :: rVLT_SEQ.addr 1 0 :: logRegs 0x0C) [200, 209] s.chip c) ∧
  (∀ (s : State) (w : Fin 3), s.chip.fwRuns = false ∨ s.chip.mayRefresh = false ∨ (w = 0 ∧ s.chip.refreshDue = false) → Does s (exec (.updRefresh w) s) fun c => c.rest = s.chip.rest ∧ Frame [] [] s.chip c)

/-- With ERR_CTRL.EN = 1 a report finds room and is stamped with local time, or finds 4 waiting and is counted in ERR_LOST, LOST set,
209 raised where LOSTIRQ = 1; with EN = 0 it leaves no trace. ERR takes the head accepted earliest, of equal ones the lower source. A
head of the open entry's code, less than 1 ms after it, the entry not overwritten, counts COUNT and ERR_COAL up and replaces DETAIL.
Any other opens entry ERR_SEQ, COUNT 1, and ERR_SEQ goes up; 208 is raised where IRQ = 1; where 256 or more are unread OVERRUN is set
and 210 raised. With no head, or the domain down, nothing happens. A write of ERR_RDSEQ sets it. Of memory the entry alone changes,
its codewords clean. -/
def Obligations.error_log : Prop :=
  (∀ (s : State) (src : Fin 70) (code : BitVec 8) (detail : Word), s.chip.alive .sys = true → s.chip.rb rERR_CTRL 0 0 0 = true → (mget [] s.chip.err.queues src).length < 4 →
    Does s (exec (.errorReport src code detail) s) fun c =>
    c.rest = { s.chip.rest with err := { s.chip.err with queues := mset [] s.chip.err.queues src (mget [] s.chip.err.queues src ++
      [{ code := code.toNat, detail := detail, t := s.chip.now, cyc := s.chip.cyc + 1 }]) } } ∧ Frame [] [] s.chip c) ∧
  (∀ (s : State) (src : Fin 70) (code : BitVec 8) (detail : Word), s.chip.alive .sys = false ∨ s.chip.rb rERR_CTRL 0 0 0 = false → Does s (exec (.errorReport src code detail) s) fun c =>
    c.rest = s.chip.rest ∧ Frame [] [] s.chip c) ∧
  (∀ (s : State) (src : Fin 70) (code : BitVec 8) (detail : Word), s.chip.alive .sys = true → s.chip.rb rERR_CTRL 0 0 0 = true → 4 ≤ (mget [] s.chip.err.queues src).length →
    Does s (exec (.errorReport src code detail) s) fun c =>
    c.rd rERR_LOST src = s.chip.rd rERR_LOST src + 1 ∧ c.rd rERR_STATUS = setBit (s.chip.rd rERR_STATUS) 1 true
    ∧ c.irqs.getLsbD 209 = (s.chip.irqs.getLsbD 209 || s.chip.rb rERR_CTRL 0 0 2) ∧ c.rest = s.chip.rest ∧ Frame (logRegs src) [209] s.chip c) ∧
  (∀ (l : List (Nat × Rep)) (p : Nat × Rep), firstHead l = some p → p ∈ l ∧ (∀ x ∈ l, p.2.cyc ≤ x.2.cyc)
    ∧ (l.Pairwise (fun x y => x.1 < y.1) → ∀ x ∈ l, x.2.cyc = p.2.cyc → p.1 ≤ x.1)) ∧
  (∀ (s : State) (src : Nat) (r : Rep) (e : OpenEnt), s.chip.alive .sys = true → firstHead s.chip.errHeads = some (src, r) → mget none s.chip.err.opens src = some e →
    e.code = r.code ∧ r.t < e.t + 1000000 ∧ (s.chip.rd rERR_SEQ - BitVec.ofNat 32 e.seq).toNat ≤ 256 → Does s (exec .errRecord s) fun c =>
    c.word (errEntry e.seq + 8) = errWord2 src e.code (min 65535 (e.count + 1)) ∧ c.word (errEntry e.seq + 12) = r.detail ∧ c.rd rERR_COAL = s.chip.rd rERR_COAL + 1
    ∧ c.err = { queues := mset [] s.chip.err.queues src ((mget [] s.chip.err.queues src).drop 1)
                opens := mset none s.chip.err.opens src (some { e with count := min 65535 (e.count + 1) }) }
    ∧ SameBytes (fun n => errEntry e.seq + 8 ≤ n ∧ n < errEntry e.seq + 16) s.chip c ∧ c.rest = { s.chip.rest with err := c.err, mem := c.mem, sram := (s.chip.sramStore (errEntry e.seq + 8) 8).sram }
    ∧ Frame [rERR_COAL.addr 0 0] [] s.chip c) ∧
  (∀ (s : State) (src : Nat) (r : Rep) (q : Nat), s.chip.alive .sys = true → firstHead s.chip.errHeads = some (src, r) → q = (s.chip.rd rERR_SEQ).toNat →
    (∀ e ∈ mget none s.chip.err.opens src, ¬(e.code = r.code ∧ r.t < e.t + 1000000 ∧ (s.chip.rd rERR_SEQ - BitVec.ofNat 32 e.seq).toNat ≤ 256)) → Does s (exec .errRecord s) fun c =>
    (∀ i : Fin 4, c.word (errEntry q + 4 * i) = [tsWord r.t 0, tsWord r.t 1, errWord2 src r.code 1, r.detail].getD i 0) ∧ c.rd rERR_SEQ = s.chip.rd rERR_SEQ + 1
    ∧ c.err = { queues := mset [] s.chip.err.queues src ((mget [] s.chip.err.queues src).drop 1)
                opens := mset none s.chip.err.opens src (some { seq := q, code := r.code, t := r.t, count := 1 }) }
    ∧ c.irqs.getLsbD 208 = (s.chip.irqs.getLsbD 208 || s.chip.rb rERR_CTRL 0 0 1)
    ∧ (256 ≤ (s.chip.rd rERR_SEQ - s.chip.rd rERR_RDSEQ).toNat → c.rd rERR_STATUS = setBit (s.chip.rd rERR_STATUS) 0 true ∧ c.irqs.getLsbD 210 = true)
    ∧ ((s.chip.rd rERR_SEQ - s.chip.rd rERR_RDSEQ).toNat < 256 → c.rd rERR_STATUS = s.chip.rd rERR_STATUS ∧ c.irqs.getLsbD 210 = s.chip.irqs.getLsbD 210)
    ∧ SameBytes (fun n => errEntry q ≤ n ∧ n < errEntry q + 16) s.chip c ∧ c.rest = { s.chip.rest with err := c.err, mem := c.mem, sram := (s.chip.sramStore (errEntry q) 16).sram }
    ∧ Frame [rERR_SEQ.addr 0 0, rERR_STATUS.addr 0 0] [208, 210] s.chip c) ∧
  (∀ (s : State), s.chip.alive .sys = false ∨ firstHead s.chip.errHeads = none → Does s (exec .errRecord s) fun c => c.rest = s.chip.rest ∧ Frame [] [] s.chip c) ∧
  (∀ (s : State) (a : Access) (v : Word), s.chip.takes a rERR_RDSEQ 0 0 v → Does s (exec (.errRdseqWrite a v) s) fun c =>
    c.rd rERR_RDSEQ = v ∧ c.rest = s.chip.rest ∧ Frame [rERR_RDSEQ.addr 0 0] [] s.chip c)

/-- A byte received by an enabled UART enters its FIFO; with 256 held it is lost and OVERRUN set; with a framing error FRAMING is set. A byte
sent leaves the FIFO for TXD, and none where it holds none; a break sets BREAK. A UART not enabled does none of it. A debugger's attach is reported, source 0, code 0x0A, and
changes nothing else. A fatal event with the Cellar serving and calm writes a dump in the area that does not hold the newest valid one, its SEQ one higher or
1, with MAGIC, CAUSE, time, frame index and vintage in its header and the captured images; the other area and all else of memory but the error log's ring are as before. A warm reset
of cause SOFT follows every fatal event, but for one under the power-fail warning, which governs; with the Cellar not serving no dump is written. Out of operation neither does anything. -/
def Obligations.uarts_debugger_and_dump : Prop :=
  (∀ (s : State) (n : Fin 2) (b : Byte) (g : Bool), s.chip.alive .slow = true → s.chip.rb rUART_CTRL n 0 0 = true → (s.chip.uart n).rx.length < 256 → Does s (exec (.uartRxByte n b g) s) fun c =>
    c.rest = { s.chip.rest with uarts := mset ({} : Uart) s.chip.uarts n { s.chip.uart n with rx := (s.chip.uart n).rx ++ [b] } }
    ∧ c.rd rUART_STAT n = (if g = true then setBit (s.chip.rd rUART_STAT n) 1 true else s.chip.rd rUART_STAT n) ∧ Frame [rUART_STAT.addr n 0] [] s.chip c) ∧
  (∀ (s : State) (n : Fin 2) (b : Byte) (g : Bool), s.chip.alive .slow = true → s.chip.rb rUART_CTRL n 0 0 = true → 256 ≤ (s.chip.uart n).rx.length → Does s (exec (.uartRxByte n b g) s) fun c =>
    c.rest = s.chip.rest ∧ c.rd rUART_STAT n = setBit (if g = true then setBit (s.chip.rd rUART_STAT n) 1 true else s.chip.rd rUART_STAT n) 0 true ∧ Frame [rUART_STAT.addr n 0] [] s.chip c) ∧
  (∀ (s : State) (n : Fin 2) (b : Byte) (t : List Byte), s.chip.alive .slow = true → s.chip.rb rUART_CTRL n 0 0 = true → (s.chip.uart n).tx = b :: t → Does s (exec (.uartTxByte n) s) fun c =>
    c.rest = { s.chip.rest with wire := .uart n [b] :: s.chip.wire, uarts := mset ({} : Uart) s.chip.uarts n { s.chip.uart n with tx := t } } ∧ Frame [] [] s.chip c) ∧
  (∀ (s : State) (n : Fin 2), s.chip.alive .slow = true → s.chip.rb rUART_CTRL n 0 0 = true → Does s (exec (.uartBreak n) s) fun c =>
    c.rest = s.chip.rest ∧ c.rd rUART_STAT n = setBit (s.chip.rd rUART_STAT n) 2 true ∧ Frame [rUART_STAT.addr n 0] [] s.chip c) ∧
  (∀ (s : State) (n : Fin 2) (b : Byte) (g : Bool), s.chip.alive .slow = false ∨ s.chip.rb rUART_CTRL n 0 0 = false →
    (Does s (exec (.uartRxByte n b g) s) fun c => c.rest = s.chip.rest ∧ Frame [] [] s.chip c) ∧ (Does s (exec (.uartTxByte n) s) fun c => c.rest = s.chip.rest ∧ Frame [] [] s.chip c)
    ∧ (Does s (exec (.uartBreak n) s) fun c => c.rest = s.chip.rest ∧ Frame [] [] s.chip c)) ∧
  (∀ (s : State) (n : Fin 2), (s.chip.uart n).tx = [] → Does s (exec (.uartTxByte n) s) fun c => c.rest = s.chip.rest ∧ Frame [] [] s.chip c) ∧
  (∀ (s : State), s.chip.pwr.phase = .running → Does s (exec .dbgAttach s) fun c =>
    c.rest = { s.chip.rest with err := c.err } ∧ Reports 0 0x0A s.chip c ∧ Frame (logRegs 0) [209] s.chip c) ∧
  (∀ (s : State) (who : Fin 3) (cause : Word) (cores nc fw : List Byte) (a q : Nat), s.chip.pwr.phase = .running → s.chip.celCalm →
    a = (match s.chip.newestDump.2 with | some b => 1 - b.1 | none => 0) → q = (match s.chip.newestDump.2 with | some b => dumpSeq b.2 + 1 | none => 1) → Does s (exec (.fatalDump who cause cores nc fw) s) fun c =>
    DumpIn a q cause cores nc s.chip c ∧ SameBytes (fun n => (dumpArea a ≤ n ∧ n < dumpArea a + dumpSize) ∨ (0x0103F000 ≤ n ∧ n < 0x01040000)) s.chip c) ∧
  (∀ (s : State) (who : Fin 3) (cause : Word) (cores nc fw : List Byte), s.chip.pwr.phase = .running → Does s (exec (.fatalDump who cause cores nc fw) s) fun c =>
    (s.chip.pwr.pfw = false → SoftReset s.chip c)
    ∧ (s.chip.pwr.pfw = true → c.rest = { s.chip.rest with mem := c.mem, sram := c.sram, cel := c.cel, err := c.err }
      ∧ Frame (celRegs ++ [rERR_SEQ.addr 0 0, rERR_STATUS.addr 0 0, rERR_COAL.addr 0 0, rERR_LOST.addr (0x42 + who) 0]) ([208, 210] ++ celIrqs) s.chip c)) ∧
  (∀ (s : State) (who : Fin 3) (cause : Word) (cores nc fw : List Byte), s.chip.pwr.phase = .running → s.chip.celUp = false → Does s (exec (.fatalDump who cause cores nc fw) s) fun c =>
    SameBytes (fun n => 0x0103F000 ≤ n ∧ n < 0x01040000) s.chip c) ∧
  (∀ (s : State) (who : Fin 3) (cause : Word) (cores nc fw : List Byte) (i : Instr), s.chip.pwr.phase ≠ .running → i = .dbgAttach ∨ i = .fatalDump who cause cores nc fw → Does s (exec i s) fun c => c.rest = s.chip.rest ∧ Frame [] [] s.chip c)

/-- In the Porch, no transfer under way: a rate measured from 9,600 to 3,000,000 baud becomes UART0's and is answered; another changes
nothing. A command line is echoed and ends with OK, or with ERR and the reason. HELP lists the set in force; ID prints device type and
identity; LIFE prints the state; PEEK prints the word master 9's read brings, or ends with ERR BUS on a bus error; DUMP prints n bytes that its reads bring,
16 a line, or ends with ERR BUS where one of them is a bus error, and with ERR RANGE for n of 0 or above 65,536; ATTIC prints an area's validity and the contents of a valid one. No
register, memory or state changes but what the reads themselves do. Outside the Porch, or during a transfer, none of them does anything. -/
def Obligations.porch_reads : Prop :=
  (∀ (s : State) (rate : BitVec 32), s.chip.inPorch → 9600 ≤ rate.toNat → rate.toNat ≤ 3000000 → Does s (exec (.autobaud rate) s) fun c =>
    c.rest = { s.chip.rest with boot := { s.chip.boot with baud := rate.toNat }, wire := printed [ascii "BAUD " ++ hexNat rate.toNat] s.chip.wire }
    ∧ c.rf rUART_DIV 0 0 19 0 = (200000000 / rate.toNat + 1) / 2 ∧ Frame [rUART_DIV.addr 0 0] [] s.chip c) ∧
  (∀ (s : State) (rate : BitVec 32), s.chip.inPorch → rate.toNat < 9600 ∨ 3000000 < rate.toNat → Does s (exec (.autobaud rate) s) fun c => c.rest = s.chip.rest ∧ Frame [] [] s.chip c) ∧
  (∀ (s : State), s.chip.inPorch → Does s (exec .porchHelp s) fun c =>
    c.rest = { s.chip.rest with wire := printed ([ascii "HELP"] ++ (porchNames s.chip.porchFull).map ascii ++ [ascii "OK"]) s.chip.wire } ∧ Frame [] [] s.chip c) ∧
  (∀ (s : State), s.chip.inPorch → Does s (exec .porchId s) fun c =>
    c.rest = { s.chip.rest with wire := printed [ascii "ID", joinWords [ascii "4805", ascii "4858", ascii "4805", ascii "A0", hexNat s.chip.fuses.serial.toNat, hexNat s.chip.boot.vint], ascii "OK"] s.chip.wire } ∧ Frame [] [] s.chip c) ∧
  (∀ (s : State), s.chip.inPorch → Does s (exec .porchLife s) fun c =>
    c.rest = { s.chip.rest with wire := printed [ascii "LIFE", joinWords [hexNat s.chip.lc, ascii (lcName s.chip.lc)], ascii "OK"] s.chip.wire } ∧ Frame [] [] s.chip c) ∧
  (∀ (s : State) (addr : Addr) (d : Chip), s.chip.inPorch → d = (s.chip.echoed [ascii "PEEK", hexNat addr.toNat]).busRead porchAccess addr → Does s (exec (.porchPeek addr) s) fun c =>
    c.wire = printed (if d.rsp.err = true then [ascii "ERR BUS"] else [hexOf 8 d.rsp.val.toNat, ascii "OK"]) d.wire ∧ c.rest = { d.rest with wire := c.wire } ∧ Frame [] [] d c) ∧
  (∀ (s : State) (addr : Addr) (n : BitVec 32), s.chip.inPorch → n.toNat = 0 ∨ 65536 < n.toNat → Does s (exec (.porchDump addr n) s) fun c =>
    c.rest = { s.chip.rest with wire := printed [joinWords [ascii "DUMP", hexNat addr.toNat, hexNat n.toNat], ascii "ERR RANGE"] s.chip.wire } ∧ Frame [] [] s.chip c) ∧
  (∀ (s : State) (addr : Addr) (n : BitVec 32) (l : List Byte), s.chip.inPorch → 1 ≤ n.toNat → n.toNat ≤ 65536 → 0x01000000 ≤ addr.toNat → addr.toNat + n.toNat ≤ 0x01100000 →
    s.chip.gateOpen = true ∨ 0x01040000 ≤ addr.toNat → s.chip.sram.errs = [] → l = s.chip.bytes addr.toNat n.toNat → Does s (exec (.porchDump addr n) s) fun c =>
    c.rest = { s.chip.rest with wire := printed ([joinWords [ascii "DUMP", hexNat addr.toNat, hexNat n.toNat]] ++ ((List.range ((n.toNat + 15) / 16)).map fun i => hexBytes (slice l (16 * i) 16)) ++ [ascii "OK"]) s.chip.wire }
    ∧ Frame [] [] s.chip c) ∧
  (∀ (s : State) (addr : Addr) (n : BitVec 32) (a : Nat) (d : Chip × Option (List Byte)), s.chip.inPorch → 1 ≤ n.toNat → n.toNat ≤ 65536 → a = addr.toNat →
    d = (s.chip.echoed [ascii "DUMP", hexNat a, hexNat n.toNat]).porchReads (a / 4 * 4) ((a + n.toNat + 3) / 4 - a / 4) → Does s (exec (.porchDump addr n) s) fun c =>
    c.wire = printed (match d.2 with | none => [ascii "ERR BUS"] | some l => ((List.range ((n.toNat + 15) / 16)).map fun i => hexBytes (slice (slice l (a % 4) n.toNat) (16 * i) 16)) ++ [ascii "OK"]) d.1.wire
    ∧ c.rest = { d.1.rest with wire := c.wire } ∧ Frame [] [] d.1 c) ∧
  (∀ (s : State) (addr : Addr) (n : BitVec 32) (m : Nat), s.chip.inPorch → 1 ≤ n.toNat → n.toNat ≤ 65536 → s.chip.refusal porchAccess (wordAddr addr) = some m → Does s (exec (.porchDump addr n) s) fun c =>
    c.rest = { s.chip.rest with err := c.err, wire := printed [joinWords [ascii "DUMP", hexNat addr.toNat, hexNat n.toNat], ascii "ERR BUS"] s.chip.wire } ∧ c.irqs.getLsbD 1 = true
    ∧ Frame (rBUSERR_INFO.addr 0 0 :: rBUSERR_ADDR.addr 0 0 :: logRegs 0) [1, 209] s.chip c) ∧
  (∀ (s : State) (i : Fin 2) (l : List Byte), s.chip.inPorch → s.chip.celCalm → l = (s.chip.dumpBytes i).2 → Does s (exec (.porchAttic i) s) fun c =>
    c.rest = { s.chip.rest with wire := printed ([joinWords [ascii "ATTIC", hexNat i], ascii (if (s.chip.dumpRead i).2.2 = true then "VALID" else "INVALID")]
      ++ ((List.range ((l.length + 15) / 16)).map fun j => hexBytes (slice l (16 * j) 16)) ++ [ascii "OK"]) s.chip.wire } ∧ Frame [] [] s.chip c) ∧
  (∀ (s : State) (i : Fin 2) (x : Chip × List Byte × Bool) (y : Chip × List Byte), s.chip.inPorch → x = (s.chip.echoed [ascii "ATTIC", hexNat i]).dumpRead i → y = (x.1.line (ascii (if x.2.2 = true then "VALID" else "INVALID"))).dumpBytes i →
    Does s (exec (.porchAttic i) s) fun c =>
    c.wire = printed (((List.range ((y.2.length + 15) / 16)).map fun j => hexBytes (slice y.2 (16 * j) 16)) ++ [ascii "OK"]) y.1.wire ∧ c.rest = { y.1.rest with wire := c.wire } ∧ Frame [] [] y.1 c) ∧
  (∀ (s : State) (addr : Addr) (n : BitVec 32) (a : Fin 2), ¬ s.chip.inPorch →
    (Does s (exec (.autobaud n) s) fun c => c.rest = s.chip.rest ∧ Frame [] [] s.chip c)
    ∧ (Does s (exec .porchHelp s) fun c => c.rest = s.chip.rest ∧ Frame [] [] s.chip c)
    ∧ (Does s (exec .porchId s) fun c => c.rest = s.chip.rest ∧ Frame [] [] s.chip c)
    ∧ (Does s (exec .porchLife s) fun c => c.rest = s.chip.rest ∧ Frame [] [] s.chip c)
    ∧ (Does s (exec (.porchPeek addr) s) fun c => c.rest = s.chip.rest ∧ Frame [] [] s.chip c)
    ∧ (Does s (exec (.porchDump addr n) s) fun c => c.rest = s.chip.rest ∧ Frame [] [] s.chip c)
    ∧ (Does s (exec (.porchAttic a) s) fun c => c.rest = s.chip.rest ∧ Frame [] [] s.chip c))

/-- Outside the full set POKE, FILL, LIFE c and ATTIC CLR are echoed and end with ERR LOCKED, and LOAD, LOAD STAGE and GO likewise,
and nothing changes. In it POKE is one write as master 9, ended with OK or ERR BUS; FILL writes its word over n bytes, in house SRAM stored there, n
a multiple of 4, else ERR RANGE, and ends at a bus error with ERR BUS; ATTIC CLR sets MAGIC to 0 in both areas of a calm Cellar; LIFE c asks as master 9 for the change of
state, ended OK where it begins, ERR FAIL where the request has no effect, ERR BUS where it is refused. The ROM's kick of the watchdog
every 500 ms clears its expiry. Outside the Porch, and the commands during a transfer, do nothing. -/
def Obligations.porch_writes : Prop :=
  (∀ (s : State) (addr : Addr) (n : BitVec 32) (v : Word) (b : Byte), s.chip.inPorch → s.chip.porchFull = false →
    (Does s (exec (.porchPoke addr v) s) fun c => c.rest = { s.chip.rest with wire := printed [joinWords [ascii "POKE", hexNat addr.toNat, hexNat v.toNat], ascii "ERR LOCKED"] s.chip.wire } ∧ Frame [] [] s.chip c)
    ∧ (Does s (exec (.porchFill addr n v) s) fun c => c.rest = { s.chip.rest with wire := printed [joinWords [ascii "FILL", hexNat addr.toNat, hexNat n.toNat, hexNat v.toNat], ascii "ERR LOCKED"] s.chip.wire } ∧ Frame [] [] s.chip c)
    ∧ (Does s (exec (.lifeRequest b) s) fun c => c.rest = { s.chip.rest with wire := printed [joinWords [ascii "LIFE", hexNat b.toNat], ascii "ERR LOCKED"] s.chip.wire } ∧ Frame [] [] s.chip c)
    ∧ (Does s (exec .atticClr s) fun c => c.rest = { s.chip.rest with wire := printed [ascii "ATTIC CLR", ascii "ERR LOCKED"] s.chip.wire } ∧ Frame [] [] s.chip c)
    ∧ (Does s (exec (.porchLoad addr n) s) fun c => c.rest = { s.chip.rest with wire := printed [joinWords [ascii "LOAD", hexNat addr.toNat, hexNat n.toNat], ascii "ERR LOCKED"] s.chip.wire } ∧ Frame [] [] s.chip c)
    ∧ (Does s (exec (.loadStage n) s) fun c => c.rest = { s.chip.rest with wire := printed [joinWords [ascii "LOAD STAGE", hexNat n.toNat], ascii "ERR LOCKED"] s.chip.wire } ∧ Frame [] [] s.chip c)
    ∧ (Does s (exec (.porchGo addr) s) fun c => c.rest = { s.chip.rest with wire := printed [joinWords [ascii "GO", hexNat addr.toNat], ascii "ERR LOCKED"] s.chip.wire } ∧ Frame [] [] s.chip c)) ∧
  (∀ (s : State) (addr : Addr) (v : Word) (d : Chip), s.chip.inPorch → s.chip.porchFull = true → d = (s.chip.echoed [ascii "POKE", hexNat addr.toNat, hexNat v.toNat]).busWrite porchAccess addr v → Does s (exec (.porchPoke addr v) s) fun c =>
    c.wire = printed [ascii (if d.rsp.err = true then "ERR BUS" else "OK")] d.wire ∧ c.rest = { d.rest with wire := c.wire } ∧ Frame [] [] d c) ∧
  (∀ (s : State) (addr : Addr) (n : BitVec 32) (v : Word), s.chip.inPorch → s.chip.porchFull = true → n.toNat % 4 ≠ 0 → Does s (exec (.porchFill addr n v) s) fun c =>
    c.rest = { s.chip.rest with wire := printed [joinWords [ascii "FILL", hexNat addr.toNat, hexNat n.toNat, hexNat v.toNat], ascii "ERR RANGE"] s.chip.wire } ∧ Frame [] [] s.chip c) ∧
  (∀ (s : State) (addr : Addr) (n : BitVec 32) (v : Word), s.chip.inPorch → s.chip.porchFull = true → n.toNat % 4 = 0 → addr.toNat % 4 = 0 → 0x01000000 ≤ addr.toNat → addr.toNat + n.toNat ≤ 0x01100000 →
    s.chip.gateOpen = true ∨ 0x01040000 ≤ addr.toNat → Does s (exec (.porchFill addr n v) s) fun c =>
    (∀ i < n.toNat / 4, c.word (addr.toNat + 4 * i) = v ∧ c.upsets (addr.toNat + 4 * i) = 0) ∧ SameBytes (fun x => addr.toNat ≤ x ∧ x < addr.toNat + n.toNat) s.chip c
    ∧ c.rest = { s.chip.rest with mem := c.mem, sram := c.sram, wire := printed [joinWords [ascii "FILL", hexNat addr.toNat, hexNat n.toNat, hexNat v.toNat], ascii "OK"] s.chip.wire } ∧ Frame [] [] s.chip c) ∧
  (∀ (s : State) (addr : Addr) (n : BitVec 32) (v : Word) (d : Chip × PorchEnd), s.chip.inPorch → s.chip.porchFull = true → n.toNat % 4 = 0 →
    d = (s.chip.echoed [ascii "FILL", hexNat addr.toNat, hexNat n.toNat, hexNat v.toNat]).porchFills addr.toNat v (n.toNat / 4) → Does s (exec (.porchFill addr n v) s) fun c =>
    c.wire = printed [ascii d.2.text] d.1.wire ∧ (d.2 = .ok ∨ d.2 = .bus) ∧ c.rest = { d.1.rest with wire := c.wire } ∧ Frame [] [] d.1 c) ∧
  (∀ (s : State), s.chip.inPorch → s.chip.porchFull = true → s.chip.celCalm → Does s (exec .atticClr s) fun c =>
    c.word (dumpArea 0) = 0 ∧ c.word (dumpArea 1) = 0 ∧ (c.dumpRead 0).2.2 = false ∧ (c.dumpRead 1).2.2 = false
    ∧ SameBytes (fun n => (dumpArea 0 ≤ n ∧ n < dumpArea 0 + 4) ∨ (dumpArea 1 ≤ n ∧ n < dumpArea 1 + 4)) s.chip c
    ∧ c.wire = printed [ascii "ATTIC CLR", ascii "OK"] s.chip.wire ∧ c.rest = { s.chip.rest with mem := c.mem, wire := c.wire } ∧ Frame [] [] s.chip c) ∧
  (∀ (s : State) (b : Byte) (d : Chip), s.chip.inPorch → s.chip.porchFull = true → d = (s.chip.echoed [ascii "LIFE", hexNat b.toNat]).busWrite porchAccess (BitVec.ofNat 32 rLC_REQ.base) (BitVec.ofNat 32 (0x4C435400 + b.toNat)) →
    Does s (exec (.lifeRequest b) s) fun c =>
    c.wire = printed [ascii (if d.rsp.err = true then "ERR BUS" else if d.vlt.lcTarget = some b.toNat then "OK" else "ERR FAIL")] d.wire ∧ c.rest = { d.rest with wire := c.wire } ∧ Frame [] [] d c) ∧
  (∀ (s : State), s.chip.alive .sys = true → s.chip.boot.hc0 = .porch → Does s (exec .porchWdogKick s) fun c =>
    c.rest = { s.chip.rest with boot := { s.chip.boot with wdogOnce := c.boot.wdogOnce }, cdr := { s.chip.cdr with wdExpired := false } } ∧ c.boot.wdogOnce.getLsbD 0 = false
    ∧ (∀ w : Fin 3, w.val ≠ 0 → c.boot.wdogOnce.getLsbD w = s.chip.boot.wdogOnce.getLsbD w) ∧ Frame [] [] s.chip c) ∧
  (∀ (s : State) (addr : Addr) (n : BitVec 32) (v : Word) (b : Byte), ¬ s.chip.inPorch →
    (Does s (exec (.porchPoke addr v) s) fun c => c.rest = s.chip.rest ∧ Frame [] [] s.chip c)
    ∧ (Does s (exec (.porchFill addr n v) s) fun c => c.rest = s.chip.rest ∧ Frame [] [] s.chip c)
    ∧ (Does s (exec (.lifeRequest b) s) fun c => c.rest = s.chip.rest ∧ Frame [] [] s.chip c)
    ∧ (Does s (exec .atticClr s) fun c => c.rest = s.chip.rest ∧ Frame [] [] s.chip c)) ∧
  (∀ (s : State), s.chip.alive .sys = false ∨ s.chip.boot.hc0 ≠ .porch → Does s (exec .porchWdogKick s) fun c => c.rest = s.chip.rest ∧ Frame [] [] s.chip c)

/-- LOAD answers READY and waits for block 1; LOAD STAGE first erases the staging sectors it needs, but under the power-fail warning, and ends with ERR RANGE for a
container staging cannot hold. A correct block is stored, from the address given, in house SRAM or where else, or in staging, cut to the n bytes asked
for, and answered 0x06, where a bus error ends the transfer with ERR BUS and the power-fail warning one into staging with ERR FAIL; one with a wrong length, CRC or number is answered 0x15, a repeat of the last 0x06, neither stored. The end
ends with OK when exactly n bytes came, ERR RANGE otherwise; a staged container is journalled as DOWNLOADED with its SHA-256 as CID
and no piece missing, but ends with ERR FAIL under that warning. 10 s without a byte end with ERR TIMEOUT. Without a transfer under way the last three, outside the Porch or with one the first two, do nothing. -/
def Obligations.porch_load : Prop :=
  (∀ (s : State) (addr : Addr) (n : BitVec 32), s.chip.inPorch → s.chip.porchFull = true → Does s (exec (.porchLoad addr n) s) fun c =>
    c.rest = { s.chip.rest with boot := s.chip.withLoad { addr := some addr.toNat, want := n.toNat }, wire := printed [joinWords [ascii "LOAD", hexNat addr.toNat, hexNat n.toNat], ascii "READY"] s.chip.wire } ∧ Frame [] [] s.chip c) ∧
  (∀ (s : State) (n : BitVec 32), s.chip.inPorch → s.chip.porchFull = true → n.toNat ≤ stagingSize → Does s (exec (.loadStage n) s) fun c =>
    c.boot = { s.chip.withLoad { addr := none, want := n.toNat } with badSectors := c.boot.badSectors } ∧ c.wire = printed [joinWords [ascii "LOAD STAGE", hexNat n.toNat], ascii "READY"] s.chip.wire
    ∧ (s.chip.pwr.pfw = false → (∀ x < n.toNat, c.byte (flashBase + stagingBase + x) = 0xFF) ∧ SameBytes (fun x => flashBase + stagingBase ≤ x ∧ x < flashBase + stagingBase + (n.toNat + 65535) / 65536 * 65536) s.chip c
      ∧ c.rest = { s.chip.rest with boot := c.boot, wire := c.wire, mem := c.mem } ∧ c.irqs.getLsbD 200 = true ∧ Frame [] [200] s.chip c)
    ∧ (s.chip.pwr.pfw = true → c.rest = { s.chip.rest with boot := s.chip.withLoad { addr := none, want := n.toNat }, wire := c.wire } ∧ Frame [] [] s.chip c)) ∧
  (∀ (s : State) (n : BitVec 32), s.chip.inPorch → s.chip.porchFull = true → stagingSize < n.toNat → Does s (exec (.loadStage n) s) fun c =>
    c.rest = { s.chip.rest with wire := printed [joinWords [ascii "LOAD STAGE", hexNat n.toNat], ascii "ERR RANGE"] s.chip.wire } ∧ Frame [] [] s.chip c) ∧
  (∀ (s : State) (x : PorchLoad) (num : Byte) (len : BitVec 16) (data l : List Byte) (crc : Word) (a : Nat), s.chip.loading x → x.right num len data crc → x.addr = some a → 0x01000000 ≤ a → a + x.want ≤ 0x01100000 → x.got ≤ x.want →
    s.chip.gateOpen = true ∨ 0x01040000 ≤ a → l = data.take (x.want - x.got) → Does s (exec (.loadBlock num len data crc) s) fun c =>
    c.bytes (a + x.got) l.length = l
    ∧ c.rest = { s.chip.rest with mem := c.mem, sram := (s.chip.sramStore (a + x.got) l.length).sram, wire := .uart 0 [0x06] :: s.chip.wire, boot := s.chip.withLoad (x.next num data) }
    ∧ SameBytes (fun n => a + x.got ≤ n ∧ n < a + x.got + l.length) s.chip c ∧ Frame [] [] s.chip c) ∧
  (∀ (s : State) (x : PorchLoad) (num : Byte) (len : BitVec 16) (data : List Byte) (crc : Word) (a : Nat) (d : Chip × Bool), s.chip.loading x → x.right num len data crc → x.addr = some a →
    d = Chip.porchStore { s.chip with cyc := s.chip.cyc + 1, boot := s.chip.withLoad (x.next num data) } (a + x.got) (data.take (x.want - x.got)) → Does s (exec (.loadBlock num len data crc) s) fun c =>
    c.wire = (if d.2 = true then .uart 0 [0x06] :: d.1.wire else printed [ascii "ERR BUS"] d.1.wire) ∧ c.boot = (if d.2 = true then d.1.boot else { d.1.boot with load := none })
    ∧ c.rest = { d.1.rest with wire := c.wire, boot := c.boot } ∧ Frame [] [] d.1 c) ∧
  (∀ (s : State) (x : PorchLoad) (num : Byte) (len : BitVec 16) (data l : List Byte) (crc : Word), s.chip.loading x → s.chip.pwr.pfw = false → x.right num len data crc → x.addr = none → l = data.take (x.want - x.got) →
    (∀ i < l.length, s.chip.byte (flashBase + stagingBase + x.got + i) = 0xFF) → Does s (exec (.loadBlock num len data crc) s) fun c =>
    c.ctr x.got l.length = l ∧ c.rest = { s.chip.rest with mem := c.mem, wire := .uart 0 [0x06] :: s.chip.wire, boot := s.chip.withLoad (x.next num data) }
    ∧ SameBytes (fun n => flashBase + stagingBase + x.got ≤ n ∧ n < flashBase + stagingBase + x.got + l.length) s.chip c ∧ c.irqs.getLsbD 200 = true ∧ Frame [] [200] s.chip c) ∧
  (∀ (s : State) (x : PorchLoad) (num : Byte) (len : BitVec 16) (data : List Byte) (crc : Word), s.chip.loading x → s.chip.pwr.pfw = true → x.right num len data crc → x.addr = none → Does s (exec (.loadBlock num len data crc) s) fun c =>
    c.rest = { s.chip.rest with boot := { s.chip.boot with load := none }, wire := printed [ascii "ERR FAIL"] s.chip.wire } ∧ Frame [] [] s.chip c) ∧
  (∀ (s : State) (x : PorchLoad) (num : Byte) (len : BitVec 16) (data : List Byte) (crc : Word), s.chip.loading x →
    len = 0 ∨ 1024 < len.toNat ∨ data.length ≠ len.toNat ∨ crc ≠ crc32c data ∨ (num ≠ x.block + 1 ∧ ¬(num = x.block ∧ x.got ≠ 0)) → Does s (exec (.loadBlock num len data crc) s) fun c =>
    c.rest = { s.chip.rest with wire := .uart 0 [0x15] :: s.chip.wire } ∧ Frame [] [] s.chip c) ∧
  (∀ (s : State) (x : PorchLoad) (len : BitVec 16) (data : List Byte) (crc : Word), s.chip.loading x →
    1 ≤ len.toNat → len.toNat ≤ 1024 → data.length = len.toNat → crc = crc32c data → x.got ≠ 0 → Does s (exec (.loadBlock x.block len data crc) s) fun c =>
    c.rest = { s.chip.rest with wire := .uart 0 [0x06] :: s.chip.wire } ∧ Frame [] [] s.chip c) ∧
  (∀ (s : State) (x : PorchLoad), s.chip.loading x → x.got ≠ x.want ∨ x.addr ≠ none ∨ s.chip.pwr.pfw = true → Does s (exec .loadEnd s) fun c =>
    c.rest = { s.chip.rest with boot := { s.chip.boot with load := none }, wire := printed [ascii (if x.got ≠ x.want then "ERR RANGE" else if x.addr ≠ none then "OK" else "ERR FAIL")] s.chip.wire } ∧ Frame [] [] s.chip c) ∧
  (∀ (s : State) (x : PorchLoad), s.chip.loading x → x.got = x.want → x.addr = none → s.chip.pwr.pfw = false → Does s (exec .loadEnd s) fun c =>
    c.upd = c.upd.jr { s.chip.jrLoad with state := 2, err := 0, built := 0, arm := none, toV := s.chip.ctrNat 12 4, cid := sha256 (s.chip.ctr 0 x.want) } ∧ (∀ i < 1024, c.byte (flashBase + jrBase c.upd.half + i) = 0)
    ∧ ((∀ i < 128, s.chip.byte (flashBase + jrAt s.chip.jrLoad.half s.chip.jrLoad.recs + i) = 0xFF) → c.flashBytes (jrAt c.upd.half (c.upd.recs - (c.upd.records 0).length)) (64 * (c.upd.records 0).length) = (c.upd.records (c.upd.seq + 1 - (c.upd.records 0).length)).flatten)
    ∧ SameBytes inJournal s.chip c ∧ c.boot = { s.chip.boot with load := none, badSectors := c.boot.badSectors }
    ∧ c.rest = { s.chip.rest with mem := c.mem, upd := c.upd, boot := c.boot, wire := printed [ascii "OK"] s.chip.wire } ∧ c.irqs.getLsbD 200 = true ∧ Frame [] [200] s.chip c) ∧
  (∀ (s : State) (x : PorchLoad), s.chip.loading x → Does s (exec .loadTimeout s) fun c =>
    c.rest = { s.chip.rest with boot := { s.chip.boot with load := none }, wire := printed [ascii "ERR TIMEOUT"] s.chip.wire } ∧ Frame [] [] s.chip c) ∧
  (∀ (s : State) (addr : Addr) (n : BitVec 32), ¬ s.chip.inPorch → (Does s (exec (.porchLoad addr n) s) fun c => c.rest = s.chip.rest ∧ Frame [] [] s.chip c)
    ∧ (Does s (exec (.loadStage n) s) fun c => c.rest = s.chip.rest ∧ Frame [] [] s.chip c)) ∧
  (∀ (s : State) (num : Byte) (len : BitVec 16) (data : List Byte) (crc : Word), s.chip.alive .sys = false ∨ s.chip.boot.hc0 ≠ .porch ∨ s.chip.boot.load = none →
    (Does s (exec (.loadBlock num len data crc) s) fun c => c.rest = s.chip.rest ∧ Frame [] [] s.chip c)
    ∧ (Does s (exec .loadEnd s) fun c => c.rest = s.chip.rest ∧ Frame [] [] s.chip c)
    ∧ (Does s (exec .loadTimeout s) fun c => c.rest = s.chip.rest ∧ Frame [] [] s.chip c))

/-- GO in the full set starts the image copy at its address, from step 1, the running slot left, when it is valid and not below VFLOOR,
after OK; any other copy ends with ERR FAIL. BOOT answers OK and goes through the slot choice of the ROM: with the fuses' CRC wrong no
image is started, which is logged and leads back into the Porch; under the power-fail warning it does nothing. Starting an image notes its vintage and length before the monitor
runs, and where the monitor's checks pass HC0 runs it. CHAL prints a nonce from UNONCE of slot 2 or 3 and keeps it; with a response it
is an UNLOCK, which uses the nonce up, ended OK where it unlocks and ERR FAIL where not, counting the failure, the third of which locks unlocks out; where the Vault refuses the slot or the operation, both end with ERR FAIL, and so, with nothing done, without the unique
secret or during a life-cycle change. Outside the Porch, or during a transfer, none of them does anything. -/
def Obligations.porch_start_and_unlock : Prop :=
  (∀ (s : State) (addr : Addr) (d : Chip) (e : Chip × List Byte), s.chip.inPorch → s.chip.porchFull = true → d = s.chip.echoed [ascii "GO", hexNat addr.toNat] → e = d.imageAt addr.toNat → Does s (exec (.porchGo addr) s) fun c =>
    c = settle (if e.1.imageValid e.2 = true ∧ e.1.cfg.vfloor ≤ imgVint e.2 then (e.1.line (ascii "OK")).startImage e.2 3 false else e.1.line (ascii "ERR FAIL"))) ∧
  (∀ (s : State) (addr : Addr), s.chip.inPorch → s.chip.porchFull = true → s.chip.celCalm ∨ addr.toNat + 1024 < celBase → s.chip.imageValid (s.chip.imageAt addr.toNat).2 = false ∨ s.chip.cfg.vfloor > imgVint (s.chip.imageAt addr.toNat).2 →
    Does s (exec (.porchGo addr) s) fun c => c.wire = printed [joinWords [ascii "GO", hexNat addr.toNat], ascii "ERR FAIL"] s.chip.wire ∧ c.boot = s.chip.boot) ∧
  (∀ (s : State) (d : Chip), s.chip.inPorch → s.chip.pwr.pfw = false → d = (s.chip.echoed [ascii "BOOT"]).line (ascii "OK") → Does s (exec .porchBoot s) fun c =>
    c = settle d.bootChoice
    ∧ (s.chip.fuses.crcOk = false → c.boot = { s.chip.boot with hc0 := .porch, load := none } ∧ c.rest = { d.rest with err := c.err, boot := c.boot } ∧ Reports 0x0C 0x0A s.chip c ∧ Reports 0x42 0xF8 s.chip c
        ∧ Frame (logRegs 0x0C ++ logRegs 0x42) [209] s.chip c)) ∧
  (∀ (c : Chip) (l : List Byte) (slot : Nat), (c.imageStart l slot).boot.vint = imgVint l ∧ (c.imageStart l slot).boot.len = imgLen l) ∧
  (∀ (c : Chip) (l : List Byte), (c.monitor l).2 = true → (c.monitor l).1.boot.hc0 = .monitor) ∧
  (∀ (s : State) (vendor : Bool), s.chip.inPorch → s.chip.dusOk = true → s.chip.vlt.lcTarget = none → s.chip.vlt.queue = [] → s.chip.slotRefusal fwAccess (chalSlot vendor) 4 = none → s.chip.unlkLocked = false → Does s (exec (.chalNonce vendor) s) fun c =>
    c.wire = printed [joinWords (chalWords vendor []), (c.vltBuf 0 32).flatMap (fun b => hexOf 2 b.toNat), ascii "OK"] s.chip.wire ∧ mget none c.vlt.nonces 0 = some (c.vltBuf 0 32) ∧ c.vltBuf 0 32 = (List.range 32).map (Config.randomByte (s.chip.cyc + 1))
    ∧ (∀ w : Fin 4, w.val ≠ 0 → mget none c.vlt.nonces w = mget none s.chip.vlt.nonces w) ∧ c.rest = { s.chip.rest with wire := c.wire, vlt := { s.chip.vlt with nonces := c.vlt.nonces } }
    ∧ Frame (rVLT_STS.addr 0 0 :: rVLT_CNT.addr 3 0 :: (List.range 8).map (rVLT_BUF.addr 0)) [] s.chip c) ∧
  (∀ (s : State) (vendor good : Bool) (r : List Byte), s.chip.inPorch → s.chip.dusOk = true → s.chip.vlt.lcTarget = none → s.chip.vlt.queue = [] → s.chip.slotRefusal fwAccess (chalSlot vendor) 4 = none → s.chip.unlkLocked = false →
    good = (mget none s.chip.vlt.nonces 0).any (fun n => fitBytes r 32 == s.chip.unlockMac (chalSlot vendor) n) → Does s (exec (.chalResponse vendor r) s) fun c =>
    c.wire = printed [joinWords (chalWords vendor r), ascii (if good = true then "OK" else "ERR FAIL")] s.chip.wire ∧ mget none c.vlt.nonces 0 = none ∧ (∀ w : Fin 4, w.val ≠ 0 → mget none c.vlt.nonces w = mget none s.chip.vlt.nonces w)
    ∧ (good = true → c.unlk = max s.chip.unlk (if vendor = true then 2 else 1) ∧ c.vlt.fails = s.chip.vlt.fails ∧ c.irqs.getLsbD 195 = true ∧ Reports 0x0B 0x43 s.chip c)
    ∧ (good = false → c.unlk = s.chip.unlk ∧ c.vlt.fails = s.chip.vlt.fails + 1 ∧ c.unlkLocked = decide (3 ≤ s.chip.vlt.fails + 1))
    ∧ c.rest = { s.chip.rest with wire := c.wire, err := c.err, vlt := { s.chip.vlt with nonces := c.vlt.nonces, fails := c.vlt.fails } }
    ∧ Frame ([rVLT_STATUS.addr 0 0, rVLT_STS.addr 0 0, rVLT_CNT.addr 3 0] ++ logRegs 0x0B ++ (List.range 8).map (rVLT_BUF.addr 0)) [195, 209] s.chip c) ∧
  (∀ (s : State) (vendor : Bool) (r : List Byte), s.chip.inPorch → s.chip.dusOk = true → s.chip.vlt.lcTarget = none → s.chip.vlt.queue = [] → s.chip.slotRefusal fwAccess (chalSlot vendor) 4 ≠ none ∨ s.chip.unlkLocked = true →
    (Does s (exec (.chalNonce vendor) s) fun c => c.rest = { s.chip.rest with err := c.err, wire := printed [joinWords (chalWords vendor []), ascii "ERR FAIL"] s.chip.wire } ∧ c.irqs.getLsbD 194 = true ∧ Reports 0x0B 0x42 s.chip c
      ∧ Frame ([rVLT_STS.addr 0 0, rVLT_CNT.addr 3 0, rVLT_CNT.addr 0 0] ++ logRegs 0x0B) [194, 209] s.chip c)
    ∧ (Does s (exec (.chalResponse vendor r) s) fun c => c.rest = { s.chip.rest with err := c.err, wire := printed [joinWords (chalWords vendor r), ascii "ERR FAIL"] s.chip.wire } ∧ c.irqs.getLsbD 194 = true ∧ Reports 0x0B 0x42 s.chip c
      ∧ Frame ([rVLT_STS.addr 0 0, rVLT_CNT.addr 3 0, rVLT_CNT.addr 0 0] ++ logRegs 0x0B ++ (List.range 8).map (rVLT_BUF.addr 0)) [194, 209] s.chip c)) ∧
  (∀ (s : State) (vendor : Bool) (r : List Byte), s.chip.inPorch → s.chip.dusOk = false ∨ s.chip.vlt.lcTarget ≠ none →
    (Does s (exec (.chalNonce vendor) s) fun c => c.rest = { s.chip.rest with wire := printed [joinWords (chalWords vendor []), ascii "ERR FAIL"] s.chip.wire } ∧ Frame [] [] s.chip c)
    ∧ (Does s (exec (.chalResponse vendor r) s) fun c => c.rest = { s.chip.rest with wire := printed [joinWords (chalWords vendor r), ascii "ERR FAIL"] s.chip.wire } ∧ Frame [] [] s.chip c)) ∧
  (∀ (s : State) (addr : Addr) (vendor : Bool) (r : List Byte), ¬ s.chip.inPorch →
    (Does s (exec (.porchGo addr) s) fun c => c.rest = s.chip.rest ∧ Frame [] [] s.chip c)
    ∧ (Does s (exec (.chalNonce vendor) s) fun c => c.rest = s.chip.rest ∧ Frame [] [] s.chip c)
    ∧ (Does s (exec (.chalResponse vendor r) s) fun c => c.rest = s.chip.rest ∧ Frame [] [] s.chip c)) ∧
  (∀ (s : State), ¬ s.chip.inPorch ∨ s.chip.pwr.pfw = true → Does s (exec .porchBoot s) fun c => c.rest = s.chip.rest ∧ Frame [] [] s.chip c)

/-- A write that lands on a register without behaviour of its own sets its RW fields, clears the W1C bits written 1 (`RegRow.merge`), and
changes nothing else; on a reserved offset it changes nothing; on an on-die memory it stores the aligned word with a clean codeword; each is answered with no
error. A write that a restriction of a register refuses is a bus error with CAUSE 1 and writes no field of it, as is one to the flash window or the ROM. A read returns such a
register's value, 0 at a reserved offset, the word of a memory, a single error of it corrected and counted, a double one a bus error with CAUSE 2; the read of a MAC byte counter's low half returns it
and latches the high half. An access that a reset of its queues has caught is lost: the write is answered, the read a bus error with CAUSE 3. An access whose master or fabric is not released does nothing. -/
def Obligations.register_accesses : Prop :=
  (∀ (s : State) (a : Access) (addr : Addr) (v : Word) (r : RegRow) (i j : Nat), s.chip.lands a (wordAddr addr) →
    areaFor a.master (wordAddr addr) = .regs → regAt (wordAddr addr) = some (r, i, j) → r.hook = .plain → s.chip.writeRefused a r i j v = false → Does s (exec (.registerWrite a addr v) s) fun c =>
    c.rd r i j = r.merge (s.chip.rd r i j) v ∧ c.rsp = { val := 0, err := false } ∧ c.rest = s.chip.rest ∧ Frame [r.addr i j] [] s.chip c) ∧
  (∀ (s : State) (a : Access) (addr : Addr) (v : Word), (s.chip.lands a (wordAddr addr) ∧ areaFor a.master (wordAddr addr) = .regs ∧ regAt (wordAddr addr) = none)
      ∨ (s.chip.mayAccess a = true ∧ inPcw a (wordAddr addr) = true ∧ regAt (pcwKey a.core (wordAddr addr)) = none) →
    (Does s (exec (.registerWrite a addr v) s) fun c => c.rsp = { val := 0, err := false } ∧ c.rest = s.chip.rest ∧ Frame [] [] s.chip c)
    ∧ (Does s (exec (.registerRead a addr) s) fun c => c.rsp = { val := 0, err := false } ∧ c.rest = s.chip.rest ∧ Frame [] [] s.chip c)) ∧
  (∀ (s : State) (a : Access) (addr : Addr) (v : Word) (k : Nat), s.chip.lands a (wordAddr addr) → onDie a (wordAddr addr) k → Does s (exec (.registerWrite a addr v) s) fun c =>
    c.word k = v ∧ c.upsets k = 0 ∧ c.rsp = { val := 0, err := false } ∧ SameBytes (fun x => k ≤ x ∧ x < k + 4) s.chip c ∧ c.rest = { s.chip.rest with mem := c.mem, sram := (s.chip.sramStore k 4).sram } ∧ Frame [] [] s.chip c) ∧
  (∀ (s : State) (a : Access) (addr : Addr) (k : Nat), s.chip.lands a (wordAddr addr) → onDie a (wordAddr addr) k ∨ (areaFor a.master (wordAddr addr) = .rom ∧ k = wordAddr addr) → Does s (exec (.registerRead a addr) s) fun c =>
    (s.chip.upsets k = 0 → c.rsp = { val := s.chip.word k, err := false } ∧ c.rest = s.chip.rest ∧ Frame [] [] s.chip c)
    ∧ (s.chip.upsets k = 1 → c.rsp = { val := s.chip.word k, err := false } ∧ c.upsets k = 0 ∧ c.sram.fixed = s.chip.sram.fixed + 1 ∧ c.rest = { s.chip.rest with sram := c.sram } ∧ Frame [] [] s.chip c)
    ∧ (2 ≤ s.chip.upsets k → c = settle (Chip.busErr { s.chip with cyc := s.chip.cyc + 1 } a.master (s.chip.worldS a) false addr 2))) ∧
  (∀ (s : State) (a : Access) (addr : Addr) (v : Word), s.chip.lands a (wordAddr addr) → areaFor a.master (wordAddr addr) = .flash ∨ areaFor a.master (wordAddr addr) = .rom →
    Does s (exec (.registerWrite a addr v) s) fun c => c = settle (Chip.busErr { s.chip with cyc := s.chip.cyc + 1 } a.master (s.chip.worldS a) true (BitVec.ofNat 32 (wordAddr addr)) 1)) ∧
  (∀ (s : State) (a : Access) (addr : Addr), s.chip.lands a (wordAddr addr) → areaFor a.master (wordAddr addr) = .flash → Does s (exec (.registerRead a addr) s) fun c =>
    c.rsp = { val := s.chip.word (wordAddr addr), err := false } ∧ c.rest = s.chip.rest ∧ Frame [] [] s.chip c) ∧
  (∀ (s : State) (a : Access) (addr : Addr) (v : Word) (r : RegRow) (i j : Nat), s.chip.lands a (wordAddr addr) →
    areaFor a.master (wordAddr addr) = .regs → regAt (wordAddr addr) = some (r, i, j) → s.chip.writeRefused a r i j v = true → r.hook ≠ .lutWin → r.hook ≠ .pixZone → Does s (exec (.registerWrite a addr v) s) fun c =>
    c = settle (Chip.busErr { s.chip with cyc := s.chip.cyc + 1 } a.master (s.chip.worldS a) true addr 1)) ∧
  (∀ (s : State) (a : Access) (addr : Addr) (r : RegRow) (i j : Nat), s.chip.lands a (wordAddr addr) →
    areaFor a.master (wordAddr addr) = .regs → regAt (wordAddr addr) = some (r, i, j) → r.hook = .plain → Does s (exec (.registerRead a addr) s) fun c =>
    c.rsp = { val := s.chip.rd r i j, err := false } ∧ c.rest = s.chip.rest ∧ Frame [] [] s.chip c) ∧
  (∀ (s : State) (a : Access) (p : Fin 3) (g : Bool) (addr : Addr) (n : Nat), addr = BitVec.ofNat 32 (rMAC_CNT.addr p (if g = true then 14 else 1)) → n = (if g = true then (s.chip.mac p).txBytes else (s.chip.mac p).rxBytes) →
    s.chip.lands a (wordAddr addr) → Does s (exec (.registerRead a addr) s) fun c =>
    c.rsp = { val := BitVec.ofNat 32 n, err := false } ∧ c.rd rMAC_CNT p (if g = true then 15 else 2) = BitVec.ofNat 32 (n / 2 ^ 32) ∧ c.rest = s.chip.rest
    ∧ Frame [rMAC_CNT.addr p (if g = true then 15 else 2)] [] s.chip c) ∧
  (∀ (s : State) (a : Access) (addr : Addr) (v : Word) (l : List Nat), l = busQueues a.master (wordAddr addr) → s.chip.mayAccess a = true → inPcw a (wordAddr addr) = false → s.chip.refusal a (wordAddr addr) = none → s.chip.cutOff l = true →
    (Does s (exec (.registerWrite a addr v) s) fun c => c.rsp = { val := 0, err := false } ∧ c.rest = { s.chip.rest with que := (s.chip.cutDone l).que } ∧ Frame [] [] s.chip c)
    ∧ (Does s (exec (.registerRead a addr) s) fun c => c = settle ((Chip.cutDone { s.chip with cyc := s.chip.cyc + 1 } l).busErr a.master (s.chip.worldS a) false addr 3))) ∧
  (∀ (s : State) (a : Access) (addr : Addr) (v : Word), s.chip.mayAccess a = false →
    (Does s (exec (.registerWrite a addr v) s) fun c => c.rsp = s.chip.rsp ∧ c.rest = s.chip.rest ∧ Frame [] [] s.chip c)
    ∧ (Does s (exec (.registerRead a addr) s) fun c => c.rsp = s.chip.rsp ∧ c.rest = s.chip.rest ∧ Frame [] [] s.chip c))

/-- Whichever access meets a bus error: while VALID is 1 it sets OVERRUN and leaves every other bit of SYS_BUSERR_INFO, and
SYS_BUSERR_ADDR, as they are; while VALID is 0 it records master, world, direction, cause and address and sets VALID. Each reports an
entry of its own from source 0x00, with the code of its cause, and raises interrupt 1; its master's answer is an error and 0. A write
and a read that are refused at an address end in such a bus error and change nothing else. -/
def Obligations.bus_errors_recorded : Prop :=
  (∀ (c d : Chip) (m : Master) (sec wr : Bool) (addr : Word) (cause : Nat), d = c.busErr m sec wr addr cause → c.rb rBUSERR_INFO 0 0 31 = true →
    d.rd rBUSERR_INFO = setBit (c.rd rBUSERR_INFO) 30 true ∧ d.rd rBUSERR_ADDR = c.rd rBUSERR_ADDR ∧ d.irqs.getLsbD 1 = true ∧ Reports 0 (cause % 4 + 1) c d
    ∧ d.rsp = { val := 0, err := true } ∧ d.rest = { c.rest with err := d.err } ∧ Frame (rBUSERR_INFO.addr 0 0 :: logRegs 0) [1, 209] c d) ∧
  (∀ (c d : Chip) (m : Master) (sec wr : Bool) (addr : Word) (cause : Nat), d = c.busErr m sec wr addr cause → c.rb rBUSERR_INFO 0 0 31 = false →
    d.rf rBUSERR_INFO 0 0 23 20 = masterId m ∧ d.rb rBUSERR_INFO 0 0 19 = sec ∧ d.rb rBUSERR_INFO 0 0 18 = wr ∧ d.rf rBUSERR_INFO 0 0 17 16 = cause % 4 ∧ d.rb rBUSERR_INFO 0 0 31 = true
    ∧ d.rb rBUSERR_INFO 0 0 30 = c.rb rBUSERR_INFO 0 0 30 ∧ d.rd rBUSERR_ADDR = addr ∧ d.irqs.getLsbD 1 = true ∧ Reports 0 (cause % 4 + 1) c d
    ∧ d.rsp = { val := 0, err := true } ∧ d.rest = { c.rest with err := d.err } ∧ Frame (rBUSERR_INFO.addr 0 0 :: rBUSERR_ADDR.addr 0 0 :: logRegs 0) [1, 209] c d) ∧
  (∀ (s : State) (a : Access) (addr : Addr) (v : Word) (cause : Nat), s.chip.mayAccess a = true → inPcw a (wordAddr addr) = false → s.chip.refusal a (wordAddr addr) = some cause →
    (Does s (exec (.registerWrite a addr v) s) fun c => c = settle (Chip.busErr { s.chip with cyc := s.chip.cyc + 1 } a.master (s.chip.worldS a) true addr cause))
    ∧ (Does s (exec (.registerRead a addr) s) fun c => c = settle (Chip.busErr { s.chip with cyc := s.chip.cyc + 1 } a.master (s.chip.worldS a) false addr cause)))

/-- The local clock is 0 after a power-on reset, after every reset of the module, and once a reset of TIME for a lost lock has ended. A
write of TIME_ADDEND completes with the clock as it was, and the next tick is by the value written: with no command waiting, a step is
one tick of a running clock, which adds 2 ns and the addend in units of 2^-32 ns to time and fraction, and nothing else of the clock
changes. That a step with no command is a tick is the model's choice (log entry 1). -/
def Obligations.clock_start_and_rate : Prop :=
  (State.reset.chip.now = 0 ∧ State.reset.chip.time.frac = 0) ∧
  (∀ (c : Chip) (cause : BitVec 4) (por : Bool), (c.resetTo cause por).now = 0 ∧ (c.resetTo cause por).time.frac = 0) ∧
  (∀ (s : State), s.chip.pwr.phase = .running → s.chip.rb rCLKSTAT 0 0 6 = true → Does s (exec (.pllLockLost 6) s) fun c => c.now = 0 ∧ c.time.frac = 0 ∧ c.alive .ts = false) ∧
  (∀ (s : State), s.chip.pwr.phase = .running → Does s (exec (.pllLockRegained 6) s) fun c => c.time = s.chip.time) ∧
  (∀ (s : State) (a : Access) (v : Word), s.chip.takes a rTIME_ADDEND 0 0 v → Does s (exec (.timeAddendWrite a v) s) fun c => c.rd rTIME_ADDEND = v ∧ c.time = s.chip.time) ∧
  (∀ (s : State), s.pending = [] → s.chip.alive .ts = true → s.chip.rb rTIME_CTRL 0 0 0 = true → s.chip.time.now < clockMod → Does s (step s) fun c =>
    (c.now : Int) * 2 ^ 32 + c.time.frac.toNat = ((s.chip.now : Int) * 2 ^ 32 + s.chip.time.frac.toNat + 2 * 2 ^ 32 + sgn (s.chip.rd rTIME_ADDEND)) % ((clockMod : Int) * 2 ^ 32)
    ∧ c.time = { s.chip.time with now := c.now, frac := c.time.frac, evtQ := s.chip.time.evtQ.drop 1, evtOut := (s.chip.time.evtQ.take 1) ++ s.chip.time.evtOut }
    ∧ c.rest = { s.chip.rest with time := c.time } ∧ Frame [] [] s.chip c)

/-- For every command and state, a step with that command at the front of the queue is the command's execution on the state with the
rest of the queue. -/
def Obligations.step_runs_the_front_command : Prop :=
  ∀ (s : State) (i : Instr) (l : List Instr), step { s with pending := i :: l } = exec i { s with pending := l }

/-- After a power-on reset no command waits, the memory is canonical with nothing listed, every register but SYS_RSTCAUSE, SYS_STRAP and
SYS_PWR holds the value its table gives, the level-driven interrupts agree with the registers, none is pending, HC1, NC and the press
cores are held in reset and the clock is at 0. -/
def Obligations.reset_state : Prop :=
  State.reset.pending = [] ∧ Memory.wf State.reset.chip.mem = true ∧ State.reset.chip.mem = [] ∧ State.reset.settled ∧ State.reset.chip.irqs = 0
  ∧ State.reset.chip.now = 0 ∧ State.reset.chip.boot.hc1Run = false ∧ State.reset.chip.boot.ncRun = false ∧ State.reset.chip.rd rPRS_RUN = 0
  ∧ (∀ (r : RegRow) (i j : Nat), r.addr i j ∉ [0x10000010, 0x10000018, 0x1000001C] → State.reset.chip.rd r i j = BitVec.ofNat 32 r.reset)

/-- Every one of the 274 commands completes: whatever its operands and whatever the state, reached or not, its execution answers a
next state, in which the queue is as it was and the interrupts that follow by level are right; the spec stops none. From every state k
steps answer a next state: no command faults or is refused. The first k commands waiting have been taken, first in, first out, and the rest wait as before; and after at least one step each interrupt that follows the state by
level (the mailboxes', the DMA channels' and the ports') is pending exactly where its causes and enables say so. A state in which they
agree is led by every single step to another. -/
def Obligations.every_run_completes : Prop :=
  (∀ (i : Instr) (s : State), ∃ t : State, exec i s = .next t ∧ t.pending = s.pending ∧ t.settled) ∧
  (∀ (k : Nat) (s : State), ∃ t : State, core.run k s = .next t ∧ t.pending = s.pending.drop k ∧ (k ≠ 0 → t.settled)) ∧
  (∀ (s t : State), s.settled → step s = .next t → t.settled)
end

