-- ==== Sys2Proof/Laws/Maps.lean ====
section
/-! SUPPORT. The laws of the sparse maps: what is read after a write, and that a write keeps the canonical form. -/

namespace Sys2Proof.Machine

variable {α : Type}

theorem mget_filter_same (d : α) (m : List (Nat × α)) (k : Nat) : mget d (m.filter fun p => p.1 ≠ k) k = d := by
  induction m with
  | nil => rfl
  | cons p t ih =>
    obtain ⟨j, w⟩ := p
    by_cases h : j = k
    · simpa [List.filter, h] using ih
    · simpa [List.filter, h, mget] using ih

theorem mget_filter_other (d : α) (m : List (Nat × α)) {k j : Nat} (hk : j ≠ k) :
    mget d (m.filter fun p => p.1 ≠ k) j = mget d m j := by
  induction m with
  | nil => rfl
  | cons p t ih =>
    obtain ⟨a, w⟩ := p
    by_cases h : a = k
    · have : a ≠ j := fun e => hk (e ▸ h)
      simpa [List.filter, h, mget, hk.symm] using ih
    · by_cases ha : a = j
      · simp [List.filter, mget, ha, hk]
      · simpa [List.filter, h, mget, ha] using ih

theorem mget_minsert_same (d v : α) (k : Nat) (m : List (Nat × α)) (h : ∀ p ∈ m, p.1 ≠ k) :
    mget d (minsert k v m) k = v := by
  induction m with
  | nil => simp [minsert, mget]
  | cons p t ih =>
    obtain ⟨j, w⟩ := p
    have hj : j ≠ k := h (j, w) (by simp)
    unfold minsert
    split
    · simp [mget]
    · simpa [mget, hj] using ih fun p hp => h p (by simp [hp])

theorem mget_minsert_other (d v : α) {k j : Nat} (m : List (Nat × α)) (hk : j ≠ k) :
    mget d (minsert k v m) j = mget d m j := by
  induction m with
  | nil => simp [minsert, mget, hk.symm]
  | cons p t ih =>
    obtain ⟨a, w⟩ := p
    unfold minsert
    split
    · simp [mget, hk.symm]
    · simp [mget, ih]

variable [DecidableEq α]

/-- A read of the key just written gives the value written. -/
@[simp] theorem mget_mset_same (d v : α) (m : List (Nat × α)) (k : Nat) : mget d (mset d m k v) k = v := by
  unfold mset
  split
  · next h => subst h; exact mget_filter_same v m k
  · exact mget_minsert_same d v k _ fun p hp => by simpa using (List.mem_filter.mp hp).2

/-- A write leaves every other key alone. -/
theorem mget_mset_other (d e v : α) (m : List (Nat × α)) {k j : Nat} (h : j ≠ k) :
    mget e (mset d m k v) j = mget e m j := by
  unfold mset
  split
  · exact mget_filter_other e m h
  · rw [mget_minsert_other e v _ h, mget_filter_other e m h]

/-- A read of any key after a write. -/
theorem mget_mset (d v : α) (m : List (Nat × α)) (k j : Nat) :
    mget d (mset d m k v) j = if j = k then v else mget d m j := by
  split
  · next h => subst h; simp
  · next h => exact mget_mset_other d d v m h

theorem mwfFrom_weaken (dflt : Nat → α) {m : List (Nat × α)} {lo lo' : Option Nat}
    (h : ∀ l, lo' = some l → ∃ k, lo = some k ∧ l ≤ k) (hm : mwfFrom dflt lo m = true) : mwfFrom dflt lo' m = true := by
  cases m with
  | nil => rfl
  | cons p t =>
    obtain ⟨k, v⟩ := p
    simp only [mwfFrom, Bool.and_eq_true] at hm ⊢
    refine ⟨⟨?_, hm.1.2⟩, hm.2⟩
    cases hlo : lo' with
    | none => rfl
    | some l =>
      obtain ⟨a, ha, hl⟩ := h l hlo
      rw [ha] at hm
      have := of_decide_eq_true hm.1.1
      exact decide_eq_true (by omega)

theorem mwfFrom_filter (dflt : Nat → α) (q : Nat × α → Bool) (m : List (Nat × α)) (lo : Option Nat)
    (hm : mwfFrom dflt lo m = true) : mwfFrom dflt lo (m.filter q) = true := by
  induction m generalizing lo with
  | nil => rfl
  | cons p t ih =>
    obtain ⟨j, v⟩ := p
    simp only [mwfFrom, Bool.and_eq_true] at hm
    by_cases h : q (j, v) = true
    · rw [List.filter_cons_of_pos h]
      simp only [mwfFrom, Bool.and_eq_true]
      exact ⟨hm.1, ih _ hm.2⟩
    · rw [List.filter_cons_of_neg h]
      exact ih lo (mwfFrom_weaken dflt (lo := some j) (fun l hl => ⟨j, rfl, by
        subst hl
        exact Nat.le_of_lt (of_decide_eq_true hm.1.1)⟩) hm.2)

theorem mwfFrom_minsert (dflt : Nat → α) (k : Nat) (v : α) (m : List (Nat × α)) (lo : Option Nat) (hv : v ≠ dflt k)
    (hlo : ∀ l, lo = some l → l < k) (hk : ∀ p ∈ m, p.1 ≠ k) (hm : mwfFrom dflt lo m = true) :
    mwfFrom dflt lo (minsert k v m) = true := by
  induction m generalizing lo with
  | nil => cases lo <;> simp_all [minsert, mwfFrom]
  | cons p t ih =>
    obtain ⟨j, w⟩ := p
    have hj : j ≠ k := hk (j, w) (by simp)
    simp only [mwfFrom, Bool.and_eq_true] at hm
    unfold minsert
    split
    · next h => cases lo <;> simp_all [mwfFrom]
    · next h =>
      have := ih (some j) (fun l hl => by cases hl; omega) (fun p hp => hk p (by simp [hp])) hm.2
      simp only [mwfFrom, Bool.and_eq_true]
      exact ⟨hm.1, this⟩

/-- A write keeps the canonical form. -/
theorem mwf_mset (dflt : Nat → α) (m : List (Nat × α)) (k : Nat) (v : α) (hm : mwf dflt m = true) :
    mwf dflt (mset (dflt k) m k v) = true := by
  unfold mset
  split
  · exact mwfFrom_filter dflt _ m none hm
  · next h =>
    exact mwfFrom_minsert dflt k v _ none h (by simp) (fun p hp => by simpa using (List.mem_filter.mp hp).2)
      (mwfFrom_filter dflt _ m none hm)

end Sys2Proof.Machine
end

