-- ==== Sys2Proof/Laws/State.lean ====
section
/-! SUPPORT. What each named update leaves and sets, field by field: true by `rfl`, so that no later proof unfolds a record
update. The proofs are written `.trans rfl rfl` so that `simp` rewrites with them: a lemma proved by bare `rfl` makes the
kernel compare the two modules field by field. -/

namespace Sys2Proof.Machine

variable (c : Chip)

@[simp] theorem Chip.wr_mem (r : RegRow) (i j : Nat) (v : Word) : (c.wr r i j v).mem = c.mem := .trans rfl rfl
@[simp] theorem Chip.wr_sram (r : RegRow) (i j : Nat) (v : Word) : (c.wr r i j v).sram = c.sram := .trans rfl rfl
@[simp] theorem Chip.wr_irqs (r : RegRow) (i j : Nat) (v : Word) : (c.wr r i j v).irqs = c.irqs := .trans rfl rfl
@[simp] theorem Chip.wr_plic (r : RegRow) (i j : Nat) (v : Word) : (c.wr r i j v).plic = c.plic := .trans rfl rfl
@[simp] theorem Chip.wr_rsp (r : RegRow) (i j : Nat) (v : Word) : (c.wr r i j v).rsp = c.rsp := .trans rfl rfl
@[simp] theorem Chip.wr_cyc (r : RegRow) (i j : Nat) (v : Word) : (c.wr r i j v).cyc = c.cyc := .trans rfl rfl
@[simp] theorem Chip.wr_held (r : RegRow) (i j : Nat) (v : Word) : (c.wr r i j v).held = c.held := .trans rfl rfl
@[simp] theorem Chip.wr_wire (r : RegRow) (i j : Nat) (v : Word) : (c.wr r i j v).wire = c.wire := .trans rfl rfl
@[simp] theorem Chip.wr_pwr (r : RegRow) (i j : Nat) (v : Word) : (c.wr r i j v).pwr = c.pwr := .trans rfl rfl
@[simp] theorem Chip.wr_objs (r : RegRow) (i j : Nat) (v : Word) : (c.wr r i j v).objs = c.objs := .trans rfl rfl
@[simp] theorem Chip.wr_err (r : RegRow) (i j : Nat) (v : Word) : (c.wr r i j v).err = c.err := .trans rfl rfl
@[simp] theorem Chip.wr_uarts (r : RegRow) (i j : Nat) (v : Word) : (c.wr r i j v).uarts = c.uarts := .trans rfl rfl
@[simp] theorem Chip.wr_time (r : RegRow) (i j : Nat) (v : Word) : (c.wr r i j v).time = c.time := .trans rfl rfl
@[simp] theorem Chip.wr_macs (r : RegRow) (i j : Nat) (v : Word) : (c.wr r i j v).macs = c.macs := .trans rfl rfl
@[simp] theorem Chip.wr_mrgs (r : RegRow) (i j : Nat) (v : Word) : (c.wr r i j v).mrgs = c.mrgs := .trans rfl rfl
@[simp] theorem Chip.wr_canvs (r : RegRow) (i j : Nat) (v : Word) : (c.wr r i j v).canvs = c.canvs := .trans rfl rfl
@[simp] theorem Chip.wr_slots (r : RegRow) (i j : Nat) (v : Word) : (c.wr r i j v).slots = c.slots := .trans rfl rfl
@[simp] theorem Chip.wr_unis (r : RegRow) (i j : Nat) (v : Word) : (c.wr r i j v).unis = c.unis := .trans rfl rfl
@[simp] theorem Chip.wr_uniSrcs (r : RegRow) (i j : Nat) (v : Word) : (c.wr r i j v).uniSrcs = c.uniSrcs := .trans rfl rfl
@[simp] theorem Chip.wr_urgs (r : RegRow) (i j : Nat) (v : Word) : (c.wr r i j v).urgs = c.urgs := .trans rfl rfl
@[simp] theorem Chip.wr_urgQ (r : RegRow) (i j : Nat) (v : Word) : (c.wr r i j v).urgQ = c.urgQ := .trans rfl rfl
@[simp] theorem Chip.wr_cel (r : RegRow) (i j : Nat) (v : Word) : (c.wr r i j v).cel = c.cel := .trans rfl rfl
@[simp] theorem Chip.wr_fuses (r : RegRow) (i j : Nat) (v : Word) : (c.wr r i j v).fuses = c.fuses := .trans rfl rfl
@[simp] theorem Chip.wr_vlt (r : RegRow) (i j : Nat) (v : Word) : (c.wr r i j v).vlt = c.vlt := .trans rfl rfl
@[simp] theorem Chip.wr_ras (r : RegRow) (i j : Nat) (v : Word) : (c.wr r i j v).ras = c.ras := .trans rfl rfl
@[simp] theorem Chip.wr_pix (r : RegRow) (i j : Nat) (v : Word) : (c.wr r i j v).pix = c.pix := .trans rfl rfl
@[simp] theorem Chip.wr_ports (r : RegRow) (i j : Nat) (v : Word) : (c.wr r i j v).ports = c.ports := .trans rfl rfl
@[simp] theorem Chip.wr_banks (r : RegRow) (i j : Nat) (v : Word) : (c.wr r i j v).banks = c.banks := .trans rfl rfl
@[simp] theorem Chip.wr_retQ (r : RegRow) (i j : Nat) (v : Word) : (c.wr r i j v).retQ = c.retQ := .trans rfl rfl
@[simp] theorem Chip.wr_trl (r : RegRow) (i j : Nat) (v : Word) : (c.wr r i j v).trl = c.trl := .trans rfl rfl
@[simp] theorem Chip.wr_prs (r : RegRow) (i j : Nat) (v : Word) : (c.wr r i j v).prs = c.prs := .trans rfl rfl
@[simp] theorem Chip.wr_drv (r : RegRow) (i j : Nat) (v : Word) : (c.wr r i j v).drv = c.drv := .trans rfl rfl
@[simp] theorem Chip.wr_cdr (r : RegRow) (i j : Nat) (v : Word) : (c.wr r i j v).cdr = c.cdr := .trans rfl rfl
@[simp] theorem Chip.wr_dma (r : RegRow) (i j : Nat) (v : Word) : (c.wr r i j v).dma = c.dma := .trans rfl rfl
@[simp] theorem Chip.wr_boot (r : RegRow) (i j : Nat) (v : Word) : (c.wr r i j v).boot = c.boot := .trans rfl rfl
@[simp] theorem Chip.wr_upd (r : RegRow) (i j : Nat) (v : Word) : (c.wr r i j v).upd = c.upd := .trans rfl rfl
@[simp] theorem Chip.wr_que (r : RegRow) (i j : Nat) (v : Word) : (c.wr r i j v).que = c.que := .trans rfl rfl
@[simp] theorem Chip.wr_dop (r : RegRow) (i j : Nat) (v : Word) : (c.wr r i j v).dop = c.dop := .trans rfl rfl

@[simp] theorem Chip.irq_regs (n : Nat) : (c.irq n).regs = c.regs := .trans rfl rfl
@[simp] theorem Chip.irq_mem (n : Nat) : (c.irq n).mem = c.mem := .trans rfl rfl
@[simp] theorem Chip.irq_sram (n : Nat) : (c.irq n).sram = c.sram := .trans rfl rfl
@[simp] theorem Chip.irq_plic (n : Nat) : (c.irq n).plic = c.plic := .trans rfl rfl
@[simp] theorem Chip.irq_rsp (n : Nat) : (c.irq n).rsp = c.rsp := .trans rfl rfl
@[simp] theorem Chip.irq_cyc (n : Nat) : (c.irq n).cyc = c.cyc := .trans rfl rfl
@[simp] theorem Chip.irq_held (n : Nat) : (c.irq n).held = c.held := .trans rfl rfl
@[simp] theorem Chip.irq_wire (n : Nat) : (c.irq n).wire = c.wire := .trans rfl rfl
@[simp] theorem Chip.irq_pwr (n : Nat) : (c.irq n).pwr = c.pwr := .trans rfl rfl
@[simp] theorem Chip.irq_objs (n : Nat) : (c.irq n).objs = c.objs := .trans rfl rfl
@[simp] theorem Chip.irq_err (n : Nat) : (c.irq n).err = c.err := .trans rfl rfl
@[simp] theorem Chip.irq_uarts (n : Nat) : (c.irq n).uarts = c.uarts := .trans rfl rfl
@[simp] theorem Chip.irq_time (n : Nat) : (c.irq n).time = c.time := .trans rfl rfl
@[simp] theorem Chip.irq_macs (n : Nat) : (c.irq n).macs = c.macs := .trans rfl rfl
@[simp] theorem Chip.irq_mrgs (n : Nat) : (c.irq n).mrgs = c.mrgs := .trans rfl rfl
@[simp] theorem Chip.irq_canvs (n : Nat) : (c.irq n).canvs = c.canvs := .trans rfl rfl
@[simp] theorem Chip.irq_slots (n : Nat) : (c.irq n).slots = c.slots := .trans rfl rfl
@[simp] theorem Chip.irq_unis (n : Nat) : (c.irq n).unis = c.unis := .trans rfl rfl
@[simp] theorem Chip.irq_uniSrcs (n : Nat) : (c.irq n).uniSrcs = c.uniSrcs := .trans rfl rfl
@[simp] theorem Chip.irq_urgs (n : Nat) : (c.irq n).urgs = c.urgs := .trans rfl rfl
@[simp] theorem Chip.irq_urgQ (n : Nat) : (c.irq n).urgQ = c.urgQ := .trans rfl rfl
@[simp] theorem Chip.irq_cel (n : Nat) : (c.irq n).cel = c.cel := .trans rfl rfl
@[simp] theorem Chip.irq_fuses (n : Nat) : (c.irq n).fuses = c.fuses := .trans rfl rfl
@[simp] theorem Chip.irq_vlt (n : Nat) : (c.irq n).vlt = c.vlt := .trans rfl rfl
@[simp] theorem Chip.irq_ras (n : Nat) : (c.irq n).ras = c.ras := .trans rfl rfl
@[simp] theorem Chip.irq_pix (n : Nat) : (c.irq n).pix = c.pix := .trans rfl rfl
@[simp] theorem Chip.irq_ports (n : Nat) : (c.irq n).ports = c.ports := .trans rfl rfl
@[simp] theorem Chip.irq_banks (n : Nat) : (c.irq n).banks = c.banks := .trans rfl rfl
@[simp] theorem Chip.irq_retQ (n : Nat) : (c.irq n).retQ = c.retQ := .trans rfl rfl
@[simp] theorem Chip.irq_trl (n : Nat) : (c.irq n).trl = c.trl := .trans rfl rfl
@[simp] theorem Chip.irq_prs (n : Nat) : (c.irq n).prs = c.prs := .trans rfl rfl
@[simp] theorem Chip.irq_drv (n : Nat) : (c.irq n).drv = c.drv := .trans rfl rfl
@[simp] theorem Chip.irq_cdr (n : Nat) : (c.irq n).cdr = c.cdr := .trans rfl rfl
@[simp] theorem Chip.irq_dma (n : Nat) : (c.irq n).dma = c.dma := .trans rfl rfl
@[simp] theorem Chip.irq_boot (n : Nat) : (c.irq n).boot = c.boot := .trans rfl rfl
@[simp] theorem Chip.irq_upd (n : Nat) : (c.irq n).upd = c.upd := .trans rfl rfl
@[simp] theorem Chip.irq_que (n : Nat) : (c.irq n).que = c.que := .trans rfl rfl
@[simp] theorem Chip.irq_dop (n : Nat) : (c.irq n).dop = c.dop := .trans rfl rfl
@[simp] theorem Chip.irq_irqs (n : Nat) : (c.irq n).irqs = c.irqs ||| (1#224 <<< n) := .trans rfl rfl

@[simp] theorem Chip.emit_regs (e : Emit) : (c.emit e).regs = c.regs := .trans rfl rfl
@[simp] theorem Chip.emit_mem (e : Emit) : (c.emit e).mem = c.mem := .trans rfl rfl
@[simp] theorem Chip.emit_sram (e : Emit) : (c.emit e).sram = c.sram := .trans rfl rfl
@[simp] theorem Chip.emit_irqs (e : Emit) : (c.emit e).irqs = c.irqs := .trans rfl rfl
@[simp] theorem Chip.emit_plic (e : Emit) : (c.emit e).plic = c.plic := .trans rfl rfl
@[simp] theorem Chip.emit_rsp (e : Emit) : (c.emit e).rsp = c.rsp := .trans rfl rfl
@[simp] theorem Chip.emit_cyc (e : Emit) : (c.emit e).cyc = c.cyc := .trans rfl rfl
@[simp] theorem Chip.emit_held (e : Emit) : (c.emit e).held = c.held := .trans rfl rfl
@[simp] theorem Chip.emit_pwr (e : Emit) : (c.emit e).pwr = c.pwr := .trans rfl rfl
@[simp] theorem Chip.emit_objs (e : Emit) : (c.emit e).objs = c.objs := .trans rfl rfl
@[simp] theorem Chip.emit_err (e : Emit) : (c.emit e).err = c.err := .trans rfl rfl
@[simp] theorem Chip.emit_uarts (e : Emit) : (c.emit e).uarts = c.uarts := .trans rfl rfl
@[simp] theorem Chip.emit_time (e : Emit) : (c.emit e).time = c.time := .trans rfl rfl
@[simp] theorem Chip.emit_macs (e : Emit) : (c.emit e).macs = c.macs := .trans rfl rfl
@[simp] theorem Chip.emit_mrgs (e : Emit) : (c.emit e).mrgs = c.mrgs := .trans rfl rfl
@[simp] theorem Chip.emit_canvs (e : Emit) : (c.emit e).canvs = c.canvs := .trans rfl rfl
@[simp] theorem Chip.emit_slots (e : Emit) : (c.emit e).slots = c.slots := .trans rfl rfl
@[simp] theorem Chip.emit_unis (e : Emit) : (c.emit e).unis = c.unis := .trans rfl rfl
@[simp] theorem Chip.emit_uniSrcs (e : Emit) : (c.emit e).uniSrcs = c.uniSrcs := .trans rfl rfl
@[simp] theorem Chip.emit_urgs (e : Emit) : (c.emit e).urgs = c.urgs := .trans rfl rfl
@[simp] theorem Chip.emit_urgQ (e : Emit) : (c.emit e).urgQ = c.urgQ := .trans rfl rfl
@[simp] theorem Chip.emit_cel (e : Emit) : (c.emit e).cel = c.cel := .trans rfl rfl
@[simp] theorem Chip.emit_fuses (e : Emit) : (c.emit e).fuses = c.fuses := .trans rfl rfl
@[simp] theorem Chip.emit_vlt (e : Emit) : (c.emit e).vlt = c.vlt := .trans rfl rfl
@[simp] theorem Chip.emit_ras (e : Emit) : (c.emit e).ras = c.ras := .trans rfl rfl
@[simp] theorem Chip.emit_pix (e : Emit) : (c.emit e).pix = c.pix := .trans rfl rfl
@[simp] theorem Chip.emit_ports (e : Emit) : (c.emit e).ports = c.ports := .trans rfl rfl
@[simp] theorem Chip.emit_banks (e : Emit) : (c.emit e).banks = c.banks := .trans rfl rfl
@[simp] theorem Chip.emit_retQ (e : Emit) : (c.emit e).retQ = c.retQ := .trans rfl rfl
@[simp] theorem Chip.emit_trl (e : Emit) : (c.emit e).trl = c.trl := .trans rfl rfl
@[simp] theorem Chip.emit_prs (e : Emit) : (c.emit e).prs = c.prs := .trans rfl rfl
@[simp] theorem Chip.emit_drv (e : Emit) : (c.emit e).drv = c.drv := .trans rfl rfl
@[simp] theorem Chip.emit_cdr (e : Emit) : (c.emit e).cdr = c.cdr := .trans rfl rfl
@[simp] theorem Chip.emit_dma (e : Emit) : (c.emit e).dma = c.dma := .trans rfl rfl
@[simp] theorem Chip.emit_boot (e : Emit) : (c.emit e).boot = c.boot := .trans rfl rfl
@[simp] theorem Chip.emit_upd (e : Emit) : (c.emit e).upd = c.upd := .trans rfl rfl
@[simp] theorem Chip.emit_que (e : Emit) : (c.emit e).que = c.que := .trans rfl rfl
@[simp] theorem Chip.emit_dop (e : Emit) : (c.emit e).dop = c.dop := .trans rfl rfl
@[simp] theorem Chip.emit_wire (e : Emit) : (c.emit e).wire = e :: c.wire := .trans rfl rfl

@[simp] theorem Chip.setByte_regs (a : Nat) (v : Byte) : (c.setByte a v).regs = c.regs := .trans rfl rfl
@[simp] theorem Chip.setByte_sram (a : Nat) (v : Byte) : (c.setByte a v).sram = c.sram := .trans rfl rfl
@[simp] theorem Chip.setByte_irqs (a : Nat) (v : Byte) : (c.setByte a v).irqs = c.irqs := .trans rfl rfl
@[simp] theorem Chip.setByte_plic (a : Nat) (v : Byte) : (c.setByte a v).plic = c.plic := .trans rfl rfl
@[simp] theorem Chip.setByte_rsp (a : Nat) (v : Byte) : (c.setByte a v).rsp = c.rsp := .trans rfl rfl
@[simp] theorem Chip.setByte_cyc (a : Nat) (v : Byte) : (c.setByte a v).cyc = c.cyc := .trans rfl rfl
@[simp] theorem Chip.setByte_held (a : Nat) (v : Byte) : (c.setByte a v).held = c.held := .trans rfl rfl
@[simp] theorem Chip.setByte_wire (a : Nat) (v : Byte) : (c.setByte a v).wire = c.wire := .trans rfl rfl
@[simp] theorem Chip.setByte_pwr (a : Nat) (v : Byte) : (c.setByte a v).pwr = c.pwr := .trans rfl rfl
@[simp] theorem Chip.setByte_objs (a : Nat) (v : Byte) : (c.setByte a v).objs = c.objs := .trans rfl rfl
@[simp] theorem Chip.setByte_err (a : Nat) (v : Byte) : (c.setByte a v).err = c.err := .trans rfl rfl
@[simp] theorem Chip.setByte_uarts (a : Nat) (v : Byte) : (c.setByte a v).uarts = c.uarts := .trans rfl rfl
@[simp] theorem Chip.setByte_time (a : Nat) (v : Byte) : (c.setByte a v).time = c.time := .trans rfl rfl
@[simp] theorem Chip.setByte_macs (a : Nat) (v : Byte) : (c.setByte a v).macs = c.macs := .trans rfl rfl
@[simp] theorem Chip.setByte_mrgs (a : Nat) (v : Byte) : (c.setByte a v).mrgs = c.mrgs := .trans rfl rfl
@[simp] theorem Chip.setByte_canvs (a : Nat) (v : Byte) : (c.setByte a v).canvs = c.canvs := .trans rfl rfl
@[simp] theorem Chip.setByte_slots (a : Nat) (v : Byte) : (c.setByte a v).slots = c.slots := .trans rfl rfl
@[simp] theorem Chip.setByte_unis (a : Nat) (v : Byte) : (c.setByte a v).unis = c.unis := .trans rfl rfl
@[simp] theorem Chip.setByte_uniSrcs (a : Nat) (v : Byte) : (c.setByte a v).uniSrcs = c.uniSrcs := .trans rfl rfl
@[simp] theorem Chip.setByte_urgs (a : Nat) (v : Byte) : (c.setByte a v).urgs = c.urgs := .trans rfl rfl
@[simp] theorem Chip.setByte_urgQ (a : Nat) (v : Byte) : (c.setByte a v).urgQ = c.urgQ := .trans rfl rfl
@[simp] theorem Chip.setByte_cel (a : Nat) (v : Byte) : (c.setByte a v).cel = c.cel := .trans rfl rfl
@[simp] theorem Chip.setByte_fuses (a : Nat) (v : Byte) : (c.setByte a v).fuses = c.fuses := .trans rfl rfl
@[simp] theorem Chip.setByte_vlt (a : Nat) (v : Byte) : (c.setByte a v).vlt = c.vlt := .trans rfl rfl
@[simp] theorem Chip.setByte_ras (a : Nat) (v : Byte) : (c.setByte a v).ras = c.ras := .trans rfl rfl
@[simp] theorem Chip.setByte_pix (a : Nat) (v : Byte) : (c.setByte a v).pix = c.pix := .trans rfl rfl
@[simp] theorem Chip.setByte_ports (a : Nat) (v : Byte) : (c.setByte a v).ports = c.ports := .trans rfl rfl
@[simp] theorem Chip.setByte_banks (a : Nat) (v : Byte) : (c.setByte a v).banks = c.banks := .trans rfl rfl
@[simp] theorem Chip.setByte_retQ (a : Nat) (v : Byte) : (c.setByte a v).retQ = c.retQ := .trans rfl rfl
@[simp] theorem Chip.setByte_trl (a : Nat) (v : Byte) : (c.setByte a v).trl = c.trl := .trans rfl rfl
@[simp] theorem Chip.setByte_prs (a : Nat) (v : Byte) : (c.setByte a v).prs = c.prs := .trans rfl rfl
@[simp] theorem Chip.setByte_drv (a : Nat) (v : Byte) : (c.setByte a v).drv = c.drv := .trans rfl rfl
@[simp] theorem Chip.setByte_cdr (a : Nat) (v : Byte) : (c.setByte a v).cdr = c.cdr := .trans rfl rfl
@[simp] theorem Chip.setByte_dma (a : Nat) (v : Byte) : (c.setByte a v).dma = c.dma := .trans rfl rfl
@[simp] theorem Chip.setByte_boot (a : Nat) (v : Byte) : (c.setByte a v).boot = c.boot := .trans rfl rfl
@[simp] theorem Chip.setByte_upd (a : Nat) (v : Byte) : (c.setByte a v).upd = c.upd := .trans rfl rfl
@[simp] theorem Chip.setByte_que (a : Nat) (v : Byte) : (c.setByte a v).que = c.que := .trans rfl rfl
@[simp] theorem Chip.setByte_dop (a : Nat) (v : Byte) : (c.setByte a v).dop = c.dop := .trans rfl rfl

@[simp] theorem Chip.answer_regs (v : Word) : (c.answer v).regs = c.regs := .trans rfl rfl
@[simp] theorem Chip.answer_mem (v : Word) : (c.answer v).mem = c.mem := .trans rfl rfl
@[simp] theorem Chip.answer_sram (v : Word) : (c.answer v).sram = c.sram := .trans rfl rfl
@[simp] theorem Chip.answer_irqs (v : Word) : (c.answer v).irqs = c.irqs := .trans rfl rfl
@[simp] theorem Chip.answer_plic (v : Word) : (c.answer v).plic = c.plic := .trans rfl rfl
@[simp] theorem Chip.answer_cyc (v : Word) : (c.answer v).cyc = c.cyc := .trans rfl rfl
@[simp] theorem Chip.answer_held (v : Word) : (c.answer v).held = c.held := .trans rfl rfl
@[simp] theorem Chip.answer_wire (v : Word) : (c.answer v).wire = c.wire := .trans rfl rfl
@[simp] theorem Chip.answer_pwr (v : Word) : (c.answer v).pwr = c.pwr := .trans rfl rfl
@[simp] theorem Chip.answer_objs (v : Word) : (c.answer v).objs = c.objs := .trans rfl rfl
@[simp] theorem Chip.answer_err (v : Word) : (c.answer v).err = c.err := .trans rfl rfl
@[simp] theorem Chip.answer_uarts (v : Word) : (c.answer v).uarts = c.uarts := .trans rfl rfl
@[simp] theorem Chip.answer_time (v : Word) : (c.answer v).time = c.time := .trans rfl rfl
@[simp] theorem Chip.answer_macs (v : Word) : (c.answer v).macs = c.macs := .trans rfl rfl
@[simp] theorem Chip.answer_mrgs (v : Word) : (c.answer v).mrgs = c.mrgs := .trans rfl rfl
@[simp] theorem Chip.answer_canvs (v : Word) : (c.answer v).canvs = c.canvs := .trans rfl rfl
@[simp] theorem Chip.answer_slots (v : Word) : (c.answer v).slots = c.slots := .trans rfl rfl
@[simp] theorem Chip.answer_unis (v : Word) : (c.answer v).unis = c.unis := .trans rfl rfl
@[simp] theorem Chip.answer_uniSrcs (v : Word) : (c.answer v).uniSrcs = c.uniSrcs := .trans rfl rfl
@[simp] theorem Chip.answer_urgs (v : Word) : (c.answer v).urgs = c.urgs := .trans rfl rfl
@[simp] theorem Chip.answer_urgQ (v : Word) : (c.answer v).urgQ = c.urgQ := .trans rfl rfl
@[simp] theorem Chip.answer_cel (v : Word) : (c.answer v).cel = c.cel := .trans rfl rfl
@[simp] theorem Chip.answer_fuses (v : Word) : (c.answer v).fuses = c.fuses := .trans rfl rfl
@[simp] theorem Chip.answer_vlt (v : Word) : (c.answer v).vlt = c.vlt := .trans rfl rfl
@[simp] theorem Chip.answer_ras (v : Word) : (c.answer v).ras = c.ras := .trans rfl rfl
@[simp] theorem Chip.answer_pix (v : Word) : (c.answer v).pix = c.pix := .trans rfl rfl
@[simp] theorem Chip.answer_ports (v : Word) : (c.answer v).ports = c.ports := .trans rfl rfl
@[simp] theorem Chip.answer_banks (v : Word) : (c.answer v).banks = c.banks := .trans rfl rfl
@[simp] theorem Chip.answer_retQ (v : Word) : (c.answer v).retQ = c.retQ := .trans rfl rfl
@[simp] theorem Chip.answer_trl (v : Word) : (c.answer v).trl = c.trl := .trans rfl rfl
@[simp] theorem Chip.answer_prs (v : Word) : (c.answer v).prs = c.prs := .trans rfl rfl
@[simp] theorem Chip.answer_drv (v : Word) : (c.answer v).drv = c.drv := .trans rfl rfl
@[simp] theorem Chip.answer_cdr (v : Word) : (c.answer v).cdr = c.cdr := .trans rfl rfl
@[simp] theorem Chip.answer_dma (v : Word) : (c.answer v).dma = c.dma := .trans rfl rfl
@[simp] theorem Chip.answer_boot (v : Word) : (c.answer v).boot = c.boot := .trans rfl rfl
@[simp] theorem Chip.answer_upd (v : Word) : (c.answer v).upd = c.upd := .trans rfl rfl
@[simp] theorem Chip.answer_que (v : Word) : (c.answer v).que = c.que := .trans rfl rfl
@[simp] theorem Chip.answer_dop (v : Word) : (c.answer v).dop = c.dop := .trans rfl rfl
@[simp] theorem Chip.answer_rsp (v : Word) : (c.answer v).rsp = { val := v, err := false } := .trans rfl rfl

@[simp] theorem settle_regs : (settle c).regs = c.regs := .trans rfl rfl
@[simp] theorem settle_mem : (settle c).mem = c.mem := .trans rfl rfl
@[simp] theorem settle_sram : (settle c).sram = c.sram := .trans rfl rfl
@[simp] theorem settle_plic : (settle c).plic = c.plic := .trans rfl rfl
@[simp] theorem settle_rsp : (settle c).rsp = c.rsp := .trans rfl rfl
@[simp] theorem settle_cyc : (settle c).cyc = c.cyc := .trans rfl rfl
@[simp] theorem settle_held : (settle c).held = c.held := .trans rfl rfl
@[simp] theorem settle_wire : (settle c).wire = c.wire := .trans rfl rfl
@[simp] theorem settle_pwr : (settle c).pwr = c.pwr := .trans rfl rfl
@[simp] theorem settle_objs : (settle c).objs = c.objs := .trans rfl rfl
@[simp] theorem settle_err : (settle c).err = c.err := .trans rfl rfl
@[simp] theorem settle_uarts : (settle c).uarts = c.uarts := .trans rfl rfl
@[simp] theorem settle_time : (settle c).time = c.time := .trans rfl rfl
@[simp] theorem settle_macs : (settle c).macs = c.macs := .trans rfl rfl
@[simp] theorem settle_mrgs : (settle c).mrgs = c.mrgs := .trans rfl rfl
@[simp] theorem settle_canvs : (settle c).canvs = c.canvs := .trans rfl rfl
@[simp] theorem settle_slots : (settle c).slots = c.slots := .trans rfl rfl
@[simp] theorem settle_unis : (settle c).unis = c.unis := .trans rfl rfl
@[simp] theorem settle_uniSrcs : (settle c).uniSrcs = c.uniSrcs := .trans rfl rfl
@[simp] theorem settle_urgs : (settle c).urgs = c.urgs := .trans rfl rfl
@[simp] theorem settle_urgQ : (settle c).urgQ = c.urgQ := .trans rfl rfl
@[simp] theorem settle_cel : (settle c).cel = c.cel := .trans rfl rfl
@[simp] theorem settle_fuses : (settle c).fuses = c.fuses := .trans rfl rfl
@[simp] theorem settle_vlt : (settle c).vlt = c.vlt := .trans rfl rfl
@[simp] theorem settle_ras : (settle c).ras = c.ras := .trans rfl rfl
@[simp] theorem settle_pix : (settle c).pix = c.pix := .trans rfl rfl
@[simp] theorem settle_ports : (settle c).ports = c.ports := .trans rfl rfl
@[simp] theorem settle_banks : (settle c).banks = c.banks := .trans rfl rfl
@[simp] theorem settle_retQ : (settle c).retQ = c.retQ := .trans rfl rfl
@[simp] theorem settle_trl : (settle c).trl = c.trl := .trans rfl rfl
@[simp] theorem settle_prs : (settle c).prs = c.prs := .trans rfl rfl
@[simp] theorem settle_drv : (settle c).drv = c.drv := .trans rfl rfl
@[simp] theorem settle_cdr : (settle c).cdr = c.cdr := .trans rfl rfl
@[simp] theorem settle_dma : (settle c).dma = c.dma := .trans rfl rfl
@[simp] theorem settle_boot : (settle c).boot = c.boot := .trans rfl rfl
@[simp] theorem settle_upd : (settle c).upd = c.upd := .trans rfl rfl
@[simp] theorem settle_que : (settle c).que = c.que := .trans rfl rfl
@[simp] theorem settle_dop : (settle c).dop = c.dop := .trans rfl rfl

@[simp] theorem Chip.setPwr_pwr (x : PwrSt) : (c.setPwr x).pwr = x := .trans rfl rfl
@[simp] theorem Chip.setPwr_regs (x : PwrSt) : (c.setPwr x).regs = c.regs := .trans rfl rfl
@[simp] theorem Chip.setPwr_mem (x : PwrSt) : (c.setPwr x).mem = c.mem := .trans rfl rfl
@[simp] theorem Chip.setPwr_sram (x : PwrSt) : (c.setPwr x).sram = c.sram := .trans rfl rfl
@[simp] theorem Chip.setPwr_irqs (x : PwrSt) : (c.setPwr x).irqs = c.irqs := .trans rfl rfl
@[simp] theorem Chip.setPwr_plic (x : PwrSt) : (c.setPwr x).plic = c.plic := .trans rfl rfl
@[simp] theorem Chip.setPwr_rsp (x : PwrSt) : (c.setPwr x).rsp = c.rsp := .trans rfl rfl
@[simp] theorem Chip.setPwr_cyc (x : PwrSt) : (c.setPwr x).cyc = c.cyc := .trans rfl rfl
@[simp] theorem Chip.setPwr_held (x : PwrSt) : (c.setPwr x).held = c.held := .trans rfl rfl
@[simp] theorem Chip.setPwr_wire (x : PwrSt) : (c.setPwr x).wire = c.wire := .trans rfl rfl
@[simp] theorem Chip.setPwr_objs (x : PwrSt) : (c.setPwr x).objs = c.objs := .trans rfl rfl
@[simp] theorem Chip.setPwr_err (x : PwrSt) : (c.setPwr x).err = c.err := .trans rfl rfl
@[simp] theorem Chip.setPwr_uarts (x : PwrSt) : (c.setPwr x).uarts = c.uarts := .trans rfl rfl
@[simp] theorem Chip.setPwr_time (x : PwrSt) : (c.setPwr x).time = c.time := .trans rfl rfl
@[simp] theorem Chip.setPwr_macs (x : PwrSt) : (c.setPwr x).macs = c.macs := .trans rfl rfl
@[simp] theorem Chip.setPwr_mrgs (x : PwrSt) : (c.setPwr x).mrgs = c.mrgs := .trans rfl rfl
@[simp] theorem Chip.setPwr_canvs (x : PwrSt) : (c.setPwr x).canvs = c.canvs := .trans rfl rfl
@[simp] theorem Chip.setPwr_slots (x : PwrSt) : (c.setPwr x).slots = c.slots := .trans rfl rfl
@[simp] theorem Chip.setPwr_unis (x : PwrSt) : (c.setPwr x).unis = c.unis := .trans rfl rfl
@[simp] theorem Chip.setPwr_uniSrcs (x : PwrSt) : (c.setPwr x).uniSrcs = c.uniSrcs := .trans rfl rfl
@[simp] theorem Chip.setPwr_urgs (x : PwrSt) : (c.setPwr x).urgs = c.urgs := .trans rfl rfl
@[simp] theorem Chip.setPwr_urgQ (x : PwrSt) : (c.setPwr x).urgQ = c.urgQ := .trans rfl rfl
@[simp] theorem Chip.setPwr_cel (x : PwrSt) : (c.setPwr x).cel = c.cel := .trans rfl rfl
@[simp] theorem Chip.setPwr_fuses (x : PwrSt) : (c.setPwr x).fuses = c.fuses := .trans rfl rfl
@[simp] theorem Chip.setPwr_vlt (x : PwrSt) : (c.setPwr x).vlt = c.vlt := .trans rfl rfl
@[simp] theorem Chip.setPwr_ras (x : PwrSt) : (c.setPwr x).ras = c.ras := .trans rfl rfl
@[simp] theorem Chip.setPwr_pix (x : PwrSt) : (c.setPwr x).pix = c.pix := .trans rfl rfl
@[simp] theorem Chip.setPwr_ports (x : PwrSt) : (c.setPwr x).ports = c.ports := .trans rfl rfl
@[simp] theorem Chip.setPwr_banks (x : PwrSt) : (c.setPwr x).banks = c.banks := .trans rfl rfl
@[simp] theorem Chip.setPwr_retQ (x : PwrSt) : (c.setPwr x).retQ = c.retQ := .trans rfl rfl
@[simp] theorem Chip.setPwr_trl (x : PwrSt) : (c.setPwr x).trl = c.trl := .trans rfl rfl
@[simp] theorem Chip.setPwr_prs (x : PwrSt) : (c.setPwr x).prs = c.prs := .trans rfl rfl
@[simp] theorem Chip.setPwr_drv (x : PwrSt) : (c.setPwr x).drv = c.drv := .trans rfl rfl
@[simp] theorem Chip.setPwr_cdr (x : PwrSt) : (c.setPwr x).cdr = c.cdr := .trans rfl rfl
@[simp] theorem Chip.setPwr_dma (x : PwrSt) : (c.setPwr x).dma = c.dma := .trans rfl rfl
@[simp] theorem Chip.setPwr_boot (x : PwrSt) : (c.setPwr x).boot = c.boot := .trans rfl rfl
@[simp] theorem Chip.setPwr_upd (x : PwrSt) : (c.setPwr x).upd = c.upd := .trans rfl rfl
@[simp] theorem Chip.setPwr_que (x : PwrSt) : (c.setPwr x).que = c.que := .trans rfl rfl
@[simp] theorem Chip.setPwr_dop (x : PwrSt) : (c.setPwr x).dop = c.dop := .trans rfl rfl

@[simp] theorem Chip.setBoot_boot (x : BootSt) : (c.setBoot x).boot = x := .trans rfl rfl
@[simp] theorem Chip.setBoot_regs (x : BootSt) : (c.setBoot x).regs = c.regs := .trans rfl rfl
@[simp] theorem Chip.setBoot_mem (x : BootSt) : (c.setBoot x).mem = c.mem := .trans rfl rfl
@[simp] theorem Chip.setBoot_sram (x : BootSt) : (c.setBoot x).sram = c.sram := .trans rfl rfl
@[simp] theorem Chip.setBoot_irqs (x : BootSt) : (c.setBoot x).irqs = c.irqs := .trans rfl rfl
@[simp] theorem Chip.setBoot_plic (x : BootSt) : (c.setBoot x).plic = c.plic := .trans rfl rfl
@[simp] theorem Chip.setBoot_rsp (x : BootSt) : (c.setBoot x).rsp = c.rsp := .trans rfl rfl
@[simp] theorem Chip.setBoot_cyc (x : BootSt) : (c.setBoot x).cyc = c.cyc := .trans rfl rfl
@[simp] theorem Chip.setBoot_held (x : BootSt) : (c.setBoot x).held = c.held := .trans rfl rfl
@[simp] theorem Chip.setBoot_wire (x : BootSt) : (c.setBoot x).wire = c.wire := .trans rfl rfl
@[simp] theorem Chip.setBoot_pwr (x : BootSt) : (c.setBoot x).pwr = c.pwr := .trans rfl rfl
@[simp] theorem Chip.setBoot_objs (x : BootSt) : (c.setBoot x).objs = c.objs := .trans rfl rfl
@[simp] theorem Chip.setBoot_err (x : BootSt) : (c.setBoot x).err = c.err := .trans rfl rfl
@[simp] theorem Chip.setBoot_uarts (x : BootSt) : (c.setBoot x).uarts = c.uarts := .trans rfl rfl
@[simp] theorem Chip.setBoot_time (x : BootSt) : (c.setBoot x).time = c.time := .trans rfl rfl
@[simp] theorem Chip.setBoot_macs (x : BootSt) : (c.setBoot x).macs = c.macs := .trans rfl rfl
@[simp] theorem Chip.setBoot_mrgs (x : BootSt) : (c.setBoot x).mrgs = c.mrgs := .trans rfl rfl
@[simp] theorem Chip.setBoot_canvs (x : BootSt) : (c.setBoot x).canvs = c.canvs := .trans rfl rfl
@[simp] theorem Chip.setBoot_slots (x : BootSt) : (c.setBoot x).slots = c.slots := .trans rfl rfl
@[simp] theorem Chip.setBoot_unis (x : BootSt) : (c.setBoot x).unis = c.unis := .trans rfl rfl
@[simp] theorem Chip.setBoot_uniSrcs (x : BootSt) : (c.setBoot x).uniSrcs = c.uniSrcs := .trans rfl rfl
@[simp] theorem Chip.setBoot_urgs (x : BootSt) : (c.setBoot x).urgs = c.urgs := .trans rfl rfl
@[simp] theorem Chip.setBoot_urgQ (x : BootSt) : (c.setBoot x).urgQ = c.urgQ := .trans rfl rfl
@[simp] theorem Chip.setBoot_cel (x : BootSt) : (c.setBoot x).cel = c.cel := .trans rfl rfl
@[simp] theorem Chip.setBoot_fuses (x : BootSt) : (c.setBoot x).fuses = c.fuses := .trans rfl rfl
@[simp] theorem Chip.setBoot_vlt (x : BootSt) : (c.setBoot x).vlt = c.vlt := .trans rfl rfl
@[simp] theorem Chip.setBoot_ras (x : BootSt) : (c.setBoot x).ras = c.ras := .trans rfl rfl
@[simp] theorem Chip.setBoot_pix (x : BootSt) : (c.setBoot x).pix = c.pix := .trans rfl rfl
@[simp] theorem Chip.setBoot_ports (x : BootSt) : (c.setBoot x).ports = c.ports := .trans rfl rfl
@[simp] theorem Chip.setBoot_banks (x : BootSt) : (c.setBoot x).banks = c.banks := .trans rfl rfl
@[simp] theorem Chip.setBoot_retQ (x : BootSt) : (c.setBoot x).retQ = c.retQ := .trans rfl rfl
@[simp] theorem Chip.setBoot_trl (x : BootSt) : (c.setBoot x).trl = c.trl := .trans rfl rfl
@[simp] theorem Chip.setBoot_prs (x : BootSt) : (c.setBoot x).prs = c.prs := .trans rfl rfl
@[simp] theorem Chip.setBoot_drv (x : BootSt) : (c.setBoot x).drv = c.drv := .trans rfl rfl
@[simp] theorem Chip.setBoot_cdr (x : BootSt) : (c.setBoot x).cdr = c.cdr := .trans rfl rfl
@[simp] theorem Chip.setBoot_dma (x : BootSt) : (c.setBoot x).dma = c.dma := .trans rfl rfl
@[simp] theorem Chip.setBoot_upd (x : BootSt) : (c.setBoot x).upd = c.upd := .trans rfl rfl
@[simp] theorem Chip.setBoot_que (x : BootSt) : (c.setBoot x).que = c.que := .trans rfl rfl
@[simp] theorem Chip.setBoot_dop (x : BootSt) : (c.setBoot x).dop = c.dop := .trans rfl rfl

@[simp] theorem Chip.setDrv_drv (x : DrvSt) : (c.setDrv x).drv = x := .trans rfl rfl
@[simp] theorem Chip.setDrv_regs (x : DrvSt) : (c.setDrv x).regs = c.regs := .trans rfl rfl
@[simp] theorem Chip.setDrv_mem (x : DrvSt) : (c.setDrv x).mem = c.mem := .trans rfl rfl
@[simp] theorem Chip.setDrv_sram (x : DrvSt) : (c.setDrv x).sram = c.sram := .trans rfl rfl
@[simp] theorem Chip.setDrv_irqs (x : DrvSt) : (c.setDrv x).irqs = c.irqs := .trans rfl rfl
@[simp] theorem Chip.setDrv_plic (x : DrvSt) : (c.setDrv x).plic = c.plic := .trans rfl rfl
@[simp] theorem Chip.setDrv_rsp (x : DrvSt) : (c.setDrv x).rsp = c.rsp := .trans rfl rfl
@[simp] theorem Chip.setDrv_cyc (x : DrvSt) : (c.setDrv x).cyc = c.cyc := .trans rfl rfl
@[simp] theorem Chip.setDrv_held (x : DrvSt) : (c.setDrv x).held = c.held := .trans rfl rfl
@[simp] theorem Chip.setDrv_wire (x : DrvSt) : (c.setDrv x).wire = c.wire := .trans rfl rfl
@[simp] theorem Chip.setDrv_pwr (x : DrvSt) : (c.setDrv x).pwr = c.pwr := .trans rfl rfl
@[simp] theorem Chip.setDrv_objs (x : DrvSt) : (c.setDrv x).objs = c.objs := .trans rfl rfl
@[simp] theorem Chip.setDrv_err (x : DrvSt) : (c.setDrv x).err = c.err := .trans rfl rfl
@[simp] theorem Chip.setDrv_uarts (x : DrvSt) : (c.setDrv x).uarts = c.uarts := .trans rfl rfl
@[simp] theorem Chip.setDrv_time (x : DrvSt) : (c.setDrv x).time = c.time := .trans rfl rfl
@[simp] theorem Chip.setDrv_macs (x : DrvSt) : (c.setDrv x).macs = c.macs := .trans rfl rfl
@[simp] theorem Chip.setDrv_mrgs (x : DrvSt) : (c.setDrv x).mrgs = c.mrgs := .trans rfl rfl
@[simp] theorem Chip.setDrv_canvs (x : DrvSt) : (c.setDrv x).canvs = c.canvs := .trans rfl rfl
@[simp] theorem Chip.setDrv_slots (x : DrvSt) : (c.setDrv x).slots = c.slots := .trans rfl rfl
@[simp] theorem Chip.setDrv_unis (x : DrvSt) : (c.setDrv x).unis = c.unis := .trans rfl rfl
@[simp] theorem Chip.setDrv_uniSrcs (x : DrvSt) : (c.setDrv x).uniSrcs = c.uniSrcs := .trans rfl rfl
@[simp] theorem Chip.setDrv_urgs (x : DrvSt) : (c.setDrv x).urgs = c.urgs := .trans rfl rfl
@[simp] theorem Chip.setDrv_urgQ (x : DrvSt) : (c.setDrv x).urgQ = c.urgQ := .trans rfl rfl
@[simp] theorem Chip.setDrv_cel (x : DrvSt) : (c.setDrv x).cel = c.cel := .trans rfl rfl
@[simp] theorem Chip.setDrv_fuses (x : DrvSt) : (c.setDrv x).fuses = c.fuses := .trans rfl rfl
@[simp] theorem Chip.setDrv_vlt (x : DrvSt) : (c.setDrv x).vlt = c.vlt := .trans rfl rfl
@[simp] theorem Chip.setDrv_ras (x : DrvSt) : (c.setDrv x).ras = c.ras := .trans rfl rfl
@[simp] theorem Chip.setDrv_pix (x : DrvSt) : (c.setDrv x).pix = c.pix := .trans rfl rfl
@[simp] theorem Chip.setDrv_ports (x : DrvSt) : (c.setDrv x).ports = c.ports := .trans rfl rfl
@[simp] theorem Chip.setDrv_banks (x : DrvSt) : (c.setDrv x).banks = c.banks := .trans rfl rfl
@[simp] theorem Chip.setDrv_retQ (x : DrvSt) : (c.setDrv x).retQ = c.retQ := .trans rfl rfl
@[simp] theorem Chip.setDrv_trl (x : DrvSt) : (c.setDrv x).trl = c.trl := .trans rfl rfl
@[simp] theorem Chip.setDrv_prs (x : DrvSt) : (c.setDrv x).prs = c.prs := .trans rfl rfl
@[simp] theorem Chip.setDrv_cdr (x : DrvSt) : (c.setDrv x).cdr = c.cdr := .trans rfl rfl
@[simp] theorem Chip.setDrv_dma (x : DrvSt) : (c.setDrv x).dma = c.dma := .trans rfl rfl
@[simp] theorem Chip.setDrv_boot (x : DrvSt) : (c.setDrv x).boot = c.boot := .trans rfl rfl
@[simp] theorem Chip.setDrv_upd (x : DrvSt) : (c.setDrv x).upd = c.upd := .trans rfl rfl
@[simp] theorem Chip.setDrv_que (x : DrvSt) : (c.setDrv x).que = c.que := .trans rfl rfl
@[simp] theorem Chip.setDrv_dop (x : DrvSt) : (c.setDrv x).dop = c.dop := .trans rfl rfl

@[simp] theorem Chip.setRas_ras (x : RasSt) : (c.setRas x).ras = x := .trans rfl rfl
@[simp] theorem Chip.setRas_regs (x : RasSt) : (c.setRas x).regs = c.regs := .trans rfl rfl
@[simp] theorem Chip.setRas_mem (x : RasSt) : (c.setRas x).mem = c.mem := .trans rfl rfl
@[simp] theorem Chip.setRas_sram (x : RasSt) : (c.setRas x).sram = c.sram := .trans rfl rfl
@[simp] theorem Chip.setRas_irqs (x : RasSt) : (c.setRas x).irqs = c.irqs := .trans rfl rfl
@[simp] theorem Chip.setRas_plic (x : RasSt) : (c.setRas x).plic = c.plic := .trans rfl rfl
@[simp] theorem Chip.setRas_rsp (x : RasSt) : (c.setRas x).rsp = c.rsp := .trans rfl rfl
@[simp] theorem Chip.setRas_cyc (x : RasSt) : (c.setRas x).cyc = c.cyc := .trans rfl rfl
@[simp] theorem Chip.setRas_held (x : RasSt) : (c.setRas x).held = c.held := .trans rfl rfl
@[simp] theorem Chip.setRas_wire (x : RasSt) : (c.setRas x).wire = c.wire := .trans rfl rfl
@[simp] theorem Chip.setRas_pwr (x : RasSt) : (c.setRas x).pwr = c.pwr := .trans rfl rfl
@[simp] theorem Chip.setRas_objs (x : RasSt) : (c.setRas x).objs = c.objs := .trans rfl rfl
@[simp] theorem Chip.setRas_err (x : RasSt) : (c.setRas x).err = c.err := .trans rfl rfl
@[simp] theorem Chip.setRas_uarts (x : RasSt) : (c.setRas x).uarts = c.uarts := .trans rfl rfl
@[simp] theorem Chip.setRas_time (x : RasSt) : (c.setRas x).time = c.time := .trans rfl rfl
@[simp] theorem Chip.setRas_macs (x : RasSt) : (c.setRas x).macs = c.macs := .trans rfl rfl
@[simp] theorem Chip.setRas_mrgs (x : RasSt) : (c.setRas x).mrgs = c.mrgs := .trans rfl rfl
@[simp] theorem Chip.setRas_canvs (x : RasSt) : (c.setRas x).canvs = c.canvs := .trans rfl rfl
@[simp] theorem Chip.setRas_slots (x : RasSt) : (c.setRas x).slots = c.slots := .trans rfl rfl
@[simp] theorem Chip.setRas_unis (x : RasSt) : (c.setRas x).unis = c.unis := .trans rfl rfl
@[simp] theorem Chip.setRas_uniSrcs (x : RasSt) : (c.setRas x).uniSrcs = c.uniSrcs := .trans rfl rfl
@[simp] theorem Chip.setRas_urgs (x : RasSt) : (c.setRas x).urgs = c.urgs := .trans rfl rfl
@[simp] theorem Chip.setRas_urgQ (x : RasSt) : (c.setRas x).urgQ = c.urgQ := .trans rfl rfl
@[simp] theorem Chip.setRas_cel (x : RasSt) : (c.setRas x).cel = c.cel := .trans rfl rfl
@[simp] theorem Chip.setRas_fuses (x : RasSt) : (c.setRas x).fuses = c.fuses := .trans rfl rfl
@[simp] theorem Chip.setRas_vlt (x : RasSt) : (c.setRas x).vlt = c.vlt := .trans rfl rfl
@[simp] theorem Chip.setRas_pix (x : RasSt) : (c.setRas x).pix = c.pix := .trans rfl rfl
@[simp] theorem Chip.setRas_ports (x : RasSt) : (c.setRas x).ports = c.ports := .trans rfl rfl
@[simp] theorem Chip.setRas_banks (x : RasSt) : (c.setRas x).banks = c.banks := .trans rfl rfl
@[simp] theorem Chip.setRas_retQ (x : RasSt) : (c.setRas x).retQ = c.retQ := .trans rfl rfl
@[simp] theorem Chip.setRas_trl (x : RasSt) : (c.setRas x).trl = c.trl := .trans rfl rfl
@[simp] theorem Chip.setRas_prs (x : RasSt) : (c.setRas x).prs = c.prs := .trans rfl rfl
@[simp] theorem Chip.setRas_drv (x : RasSt) : (c.setRas x).drv = c.drv := .trans rfl rfl
@[simp] theorem Chip.setRas_cdr (x : RasSt) : (c.setRas x).cdr = c.cdr := .trans rfl rfl
@[simp] theorem Chip.setRas_dma (x : RasSt) : (c.setRas x).dma = c.dma := .trans rfl rfl
@[simp] theorem Chip.setRas_boot (x : RasSt) : (c.setRas x).boot = c.boot := .trans rfl rfl
@[simp] theorem Chip.setRas_upd (x : RasSt) : (c.setRas x).upd = c.upd := .trans rfl rfl
@[simp] theorem Chip.setRas_que (x : RasSt) : (c.setRas x).que = c.que := .trans rfl rfl
@[simp] theorem Chip.setRas_dop (x : RasSt) : (c.setRas x).dop = c.dop := .trans rfl rfl

@[simp] theorem Chip.setPrs_prs (x : PrsSt) : (c.setPrs x).prs = x := .trans rfl rfl
@[simp] theorem Chip.setPrs_regs (x : PrsSt) : (c.setPrs x).regs = c.regs := .trans rfl rfl
@[simp] theorem Chip.setPrs_mem (x : PrsSt) : (c.setPrs x).mem = c.mem := .trans rfl rfl
@[simp] theorem Chip.setPrs_sram (x : PrsSt) : (c.setPrs x).sram = c.sram := .trans rfl rfl
@[simp] theorem Chip.setPrs_irqs (x : PrsSt) : (c.setPrs x).irqs = c.irqs := .trans rfl rfl
@[simp] theorem Chip.setPrs_plic (x : PrsSt) : (c.setPrs x).plic = c.plic := .trans rfl rfl
@[simp] theorem Chip.setPrs_rsp (x : PrsSt) : (c.setPrs x).rsp = c.rsp := .trans rfl rfl
@[simp] theorem Chip.setPrs_cyc (x : PrsSt) : (c.setPrs x).cyc = c.cyc := .trans rfl rfl
@[simp] theorem Chip.setPrs_held (x : PrsSt) : (c.setPrs x).held = c.held := .trans rfl rfl
@[simp] theorem Chip.setPrs_wire (x : PrsSt) : (c.setPrs x).wire = c.wire := .trans rfl rfl
@[simp] theorem Chip.setPrs_pwr (x : PrsSt) : (c.setPrs x).pwr = c.pwr := .trans rfl rfl
@[simp] theorem Chip.setPrs_objs (x : PrsSt) : (c.setPrs x).objs = c.objs := .trans rfl rfl
@[simp] theorem Chip.setPrs_err (x : PrsSt) : (c.setPrs x).err = c.err := .trans rfl rfl
@[simp] theorem Chip.setPrs_uarts (x : PrsSt) : (c.setPrs x).uarts = c.uarts := .trans rfl rfl
@[simp] theorem Chip.setPrs_time (x : PrsSt) : (c.setPrs x).time = c.time := .trans rfl rfl
@[simp] theorem Chip.setPrs_macs (x : PrsSt) : (c.setPrs x).macs = c.macs := .trans rfl rfl
@[simp] theorem Chip.setPrs_mrgs (x : PrsSt) : (c.setPrs x).mrgs = c.mrgs := .trans rfl rfl
@[simp] theorem Chip.setPrs_canvs (x : PrsSt) : (c.setPrs x).canvs = c.canvs := .trans rfl rfl
@[simp] theorem Chip.setPrs_slots (x : PrsSt) : (c.setPrs x).slots = c.slots := .trans rfl rfl
@[simp] theorem Chip.setPrs_unis (x : PrsSt) : (c.setPrs x).unis = c.unis := .trans rfl rfl
@[simp] theorem Chip.setPrs_uniSrcs (x : PrsSt) : (c.setPrs x).uniSrcs = c.uniSrcs := .trans rfl rfl
@[simp] theorem Chip.setPrs_urgs (x : PrsSt) : (c.setPrs x).urgs = c.urgs := .trans rfl rfl
@[simp] theorem Chip.setPrs_urgQ (x : PrsSt) : (c.setPrs x).urgQ = c.urgQ := .trans rfl rfl
@[simp] theorem Chip.setPrs_cel (x : PrsSt) : (c.setPrs x).cel = c.cel := .trans rfl rfl
@[simp] theorem Chip.setPrs_fuses (x : PrsSt) : (c.setPrs x).fuses = c.fuses := .trans rfl rfl
@[simp] theorem Chip.setPrs_vlt (x : PrsSt) : (c.setPrs x).vlt = c.vlt := .trans rfl rfl
@[simp] theorem Chip.setPrs_ras (x : PrsSt) : (c.setPrs x).ras = c.ras := .trans rfl rfl
@[simp] theorem Chip.setPrs_pix (x : PrsSt) : (c.setPrs x).pix = c.pix := .trans rfl rfl
@[simp] theorem Chip.setPrs_ports (x : PrsSt) : (c.setPrs x).ports = c.ports := .trans rfl rfl
@[simp] theorem Chip.setPrs_banks (x : PrsSt) : (c.setPrs x).banks = c.banks := .trans rfl rfl
@[simp] theorem Chip.setPrs_retQ (x : PrsSt) : (c.setPrs x).retQ = c.retQ := .trans rfl rfl
@[simp] theorem Chip.setPrs_trl (x : PrsSt) : (c.setPrs x).trl = c.trl := .trans rfl rfl
@[simp] theorem Chip.setPrs_drv (x : PrsSt) : (c.setPrs x).drv = c.drv := .trans rfl rfl
@[simp] theorem Chip.setPrs_cdr (x : PrsSt) : (c.setPrs x).cdr = c.cdr := .trans rfl rfl
@[simp] theorem Chip.setPrs_dma (x : PrsSt) : (c.setPrs x).dma = c.dma := .trans rfl rfl
@[simp] theorem Chip.setPrs_boot (x : PrsSt) : (c.setPrs x).boot = c.boot := .trans rfl rfl
@[simp] theorem Chip.setPrs_upd (x : PrsSt) : (c.setPrs x).upd = c.upd := .trans rfl rfl
@[simp] theorem Chip.setPrs_que (x : PrsSt) : (c.setPrs x).que = c.que := .trans rfl rfl
@[simp] theorem Chip.setPrs_dop (x : PrsSt) : (c.setPrs x).dop = c.dop := .trans rfl rfl

@[simp] theorem Chip.setCdr_cdr (x : CdrSt) : (c.setCdr x).cdr = x := .trans rfl rfl
@[simp] theorem Chip.setCdr_regs (x : CdrSt) : (c.setCdr x).regs = c.regs := .trans rfl rfl
@[simp] theorem Chip.setCdr_mem (x : CdrSt) : (c.setCdr x).mem = c.mem := .trans rfl rfl
@[simp] theorem Chip.setCdr_sram (x : CdrSt) : (c.setCdr x).sram = c.sram := .trans rfl rfl
@[simp] theorem Chip.setCdr_irqs (x : CdrSt) : (c.setCdr x).irqs = c.irqs := .trans rfl rfl
@[simp] theorem Chip.setCdr_plic (x : CdrSt) : (c.setCdr x).plic = c.plic := .trans rfl rfl
@[simp] theorem Chip.setCdr_rsp (x : CdrSt) : (c.setCdr x).rsp = c.rsp := .trans rfl rfl
@[simp] theorem Chip.setCdr_cyc (x : CdrSt) : (c.setCdr x).cyc = c.cyc := .trans rfl rfl
@[simp] theorem Chip.setCdr_held (x : CdrSt) : (c.setCdr x).held = c.held := .trans rfl rfl
@[simp] theorem Chip.setCdr_wire (x : CdrSt) : (c.setCdr x).wire = c.wire := .trans rfl rfl
@[simp] theorem Chip.setCdr_pwr (x : CdrSt) : (c.setCdr x).pwr = c.pwr := .trans rfl rfl
@[simp] theorem Chip.setCdr_objs (x : CdrSt) : (c.setCdr x).objs = c.objs := .trans rfl rfl
@[simp] theorem Chip.setCdr_err (x : CdrSt) : (c.setCdr x).err = c.err := .trans rfl rfl
@[simp] theorem Chip.setCdr_uarts (x : CdrSt) : (c.setCdr x).uarts = c.uarts := .trans rfl rfl
@[simp] theorem Chip.setCdr_time (x : CdrSt) : (c.setCdr x).time = c.time := .trans rfl rfl
@[simp] theorem Chip.setCdr_macs (x : CdrSt) : (c.setCdr x).macs = c.macs := .trans rfl rfl
@[simp] theorem Chip.setCdr_mrgs (x : CdrSt) : (c.setCdr x).mrgs = c.mrgs := .trans rfl rfl
@[simp] theorem Chip.setCdr_canvs (x : CdrSt) : (c.setCdr x).canvs = c.canvs := .trans rfl rfl
@[simp] theorem Chip.setCdr_slots (x : CdrSt) : (c.setCdr x).slots = c.slots := .trans rfl rfl
@[simp] theorem Chip.setCdr_unis (x : CdrSt) : (c.setCdr x).unis = c.unis := .trans rfl rfl
@[simp] theorem Chip.setCdr_uniSrcs (x : CdrSt) : (c.setCdr x).uniSrcs = c.uniSrcs := .trans rfl rfl
@[simp] theorem Chip.setCdr_urgs (x : CdrSt) : (c.setCdr x).urgs = c.urgs := .trans rfl rfl
@[simp] theorem Chip.setCdr_urgQ (x : CdrSt) : (c.setCdr x).urgQ = c.urgQ := .trans rfl rfl
@[simp] theorem Chip.setCdr_cel (x : CdrSt) : (c.setCdr x).cel = c.cel := .trans rfl rfl
@[simp] theorem Chip.setCdr_fuses (x : CdrSt) : (c.setCdr x).fuses = c.fuses := .trans rfl rfl
@[simp] theorem Chip.setCdr_vlt (x : CdrSt) : (c.setCdr x).vlt = c.vlt := .trans rfl rfl
@[simp] theorem Chip.setCdr_ras (x : CdrSt) : (c.setCdr x).ras = c.ras := .trans rfl rfl
@[simp] theorem Chip.setCdr_pix (x : CdrSt) : (c.setCdr x).pix = c.pix := .trans rfl rfl
@[simp] theorem Chip.setCdr_ports (x : CdrSt) : (c.setCdr x).ports = c.ports := .trans rfl rfl
@[simp] theorem Chip.setCdr_banks (x : CdrSt) : (c.setCdr x).banks = c.banks := .trans rfl rfl
@[simp] theorem Chip.setCdr_retQ (x : CdrSt) : (c.setCdr x).retQ = c.retQ := .trans rfl rfl
@[simp] theorem Chip.setCdr_trl (x : CdrSt) : (c.setCdr x).trl = c.trl := .trans rfl rfl
@[simp] theorem Chip.setCdr_prs (x : CdrSt) : (c.setCdr x).prs = c.prs := .trans rfl rfl
@[simp] theorem Chip.setCdr_drv (x : CdrSt) : (c.setCdr x).drv = c.drv := .trans rfl rfl
@[simp] theorem Chip.setCdr_dma (x : CdrSt) : (c.setCdr x).dma = c.dma := .trans rfl rfl
@[simp] theorem Chip.setCdr_boot (x : CdrSt) : (c.setCdr x).boot = c.boot := .trans rfl rfl
@[simp] theorem Chip.setCdr_upd (x : CdrSt) : (c.setCdr x).upd = c.upd := .trans rfl rfl
@[simp] theorem Chip.setCdr_que (x : CdrSt) : (c.setCdr x).que = c.que := .trans rfl rfl
@[simp] theorem Chip.setCdr_dop (x : CdrSt) : (c.setCdr x).dop = c.dop := .trans rfl rfl

@[simp] theorem Chip.setTrl_trl (x : TrlSt) : (c.setTrl x).trl = x := .trans rfl rfl
@[simp] theorem Chip.setTrl_regs (x : TrlSt) : (c.setTrl x).regs = c.regs := .trans rfl rfl
@[simp] theorem Chip.setTrl_mem (x : TrlSt) : (c.setTrl x).mem = c.mem := .trans rfl rfl
@[simp] theorem Chip.setTrl_sram (x : TrlSt) : (c.setTrl x).sram = c.sram := .trans rfl rfl
@[simp] theorem Chip.setTrl_irqs (x : TrlSt) : (c.setTrl x).irqs = c.irqs := .trans rfl rfl
@[simp] theorem Chip.setTrl_plic (x : TrlSt) : (c.setTrl x).plic = c.plic := .trans rfl rfl
@[simp] theorem Chip.setTrl_rsp (x : TrlSt) : (c.setTrl x).rsp = c.rsp := .trans rfl rfl
@[simp] theorem Chip.setTrl_cyc (x : TrlSt) : (c.setTrl x).cyc = c.cyc := .trans rfl rfl
@[simp] theorem Chip.setTrl_held (x : TrlSt) : (c.setTrl x).held = c.held := .trans rfl rfl
@[simp] theorem Chip.setTrl_wire (x : TrlSt) : (c.setTrl x).wire = c.wire := .trans rfl rfl
@[simp] theorem Chip.setTrl_pwr (x : TrlSt) : (c.setTrl x).pwr = c.pwr := .trans rfl rfl
@[simp] theorem Chip.setTrl_objs (x : TrlSt) : (c.setTrl x).objs = c.objs := .trans rfl rfl
@[simp] theorem Chip.setTrl_err (x : TrlSt) : (c.setTrl x).err = c.err := .trans rfl rfl
@[simp] theorem Chip.setTrl_uarts (x : TrlSt) : (c.setTrl x).uarts = c.uarts := .trans rfl rfl
@[simp] theorem Chip.setTrl_time (x : TrlSt) : (c.setTrl x).time = c.time := .trans rfl rfl
@[simp] theorem Chip.setTrl_macs (x : TrlSt) : (c.setTrl x).macs = c.macs := .trans rfl rfl
@[simp] theorem Chip.setTrl_mrgs (x : TrlSt) : (c.setTrl x).mrgs = c.mrgs := .trans rfl rfl
@[simp] theorem Chip.setTrl_canvs (x : TrlSt) : (c.setTrl x).canvs = c.canvs := .trans rfl rfl
@[simp] theorem Chip.setTrl_slots (x : TrlSt) : (c.setTrl x).slots = c.slots := .trans rfl rfl
@[simp] theorem Chip.setTrl_unis (x : TrlSt) : (c.setTrl x).unis = c.unis := .trans rfl rfl
@[simp] theorem Chip.setTrl_uniSrcs (x : TrlSt) : (c.setTrl x).uniSrcs = c.uniSrcs := .trans rfl rfl
@[simp] theorem Chip.setTrl_urgs (x : TrlSt) : (c.setTrl x).urgs = c.urgs := .trans rfl rfl
@[simp] theorem Chip.setTrl_urgQ (x : TrlSt) : (c.setTrl x).urgQ = c.urgQ := .trans rfl rfl
@[simp] theorem Chip.setTrl_cel (x : TrlSt) : (c.setTrl x).cel = c.cel := .trans rfl rfl
@[simp] theorem Chip.setTrl_fuses (x : TrlSt) : (c.setTrl x).fuses = c.fuses := .trans rfl rfl
@[simp] theorem Chip.setTrl_vlt (x : TrlSt) : (c.setTrl x).vlt = c.vlt := .trans rfl rfl
@[simp] theorem Chip.setTrl_ras (x : TrlSt) : (c.setTrl x).ras = c.ras := .trans rfl rfl
@[simp] theorem Chip.setTrl_pix (x : TrlSt) : (c.setTrl x).pix = c.pix := .trans rfl rfl
@[simp] theorem Chip.setTrl_ports (x : TrlSt) : (c.setTrl x).ports = c.ports := .trans rfl rfl
@[simp] theorem Chip.setTrl_banks (x : TrlSt) : (c.setTrl x).banks = c.banks := .trans rfl rfl
@[simp] theorem Chip.setTrl_retQ (x : TrlSt) : (c.setTrl x).retQ = c.retQ := .trans rfl rfl
@[simp] theorem Chip.setTrl_prs (x : TrlSt) : (c.setTrl x).prs = c.prs := .trans rfl rfl
@[simp] theorem Chip.setTrl_drv (x : TrlSt) : (c.setTrl x).drv = c.drv := .trans rfl rfl
@[simp] theorem Chip.setTrl_cdr (x : TrlSt) : (c.setTrl x).cdr = c.cdr := .trans rfl rfl
@[simp] theorem Chip.setTrl_dma (x : TrlSt) : (c.setTrl x).dma = c.dma := .trans rfl rfl
@[simp] theorem Chip.setTrl_boot (x : TrlSt) : (c.setTrl x).boot = c.boot := .trans rfl rfl
@[simp] theorem Chip.setTrl_upd (x : TrlSt) : (c.setTrl x).upd = c.upd := .trans rfl rfl
@[simp] theorem Chip.setTrl_que (x : TrlSt) : (c.setTrl x).que = c.que := .trans rfl rfl
@[simp] theorem Chip.setTrl_dop (x : TrlSt) : (c.setTrl x).dop = c.dop := .trans rfl rfl

@[simp] theorem Chip.setDop_dop (x : DopSt) : (c.setDop x).dop = x := .trans rfl rfl
@[simp] theorem Chip.setDop_regs (x : DopSt) : (c.setDop x).regs = c.regs := .trans rfl rfl
@[simp] theorem Chip.setDop_mem (x : DopSt) : (c.setDop x).mem = c.mem := .trans rfl rfl
@[simp] theorem Chip.setDop_sram (x : DopSt) : (c.setDop x).sram = c.sram := .trans rfl rfl
@[simp] theorem Chip.setDop_irqs (x : DopSt) : (c.setDop x).irqs = c.irqs := .trans rfl rfl
@[simp] theorem Chip.setDop_plic (x : DopSt) : (c.setDop x).plic = c.plic := .trans rfl rfl
@[simp] theorem Chip.setDop_rsp (x : DopSt) : (c.setDop x).rsp = c.rsp := .trans rfl rfl
@[simp] theorem Chip.setDop_cyc (x : DopSt) : (c.setDop x).cyc = c.cyc := .trans rfl rfl
@[simp] theorem Chip.setDop_held (x : DopSt) : (c.setDop x).held = c.held := .trans rfl rfl
@[simp] theorem Chip.setDop_wire (x : DopSt) : (c.setDop x).wire = c.wire := .trans rfl rfl
@[simp] theorem Chip.setDop_pwr (x : DopSt) : (c.setDop x).pwr = c.pwr := .trans rfl rfl
@[simp] theorem Chip.setDop_objs (x : DopSt) : (c.setDop x).objs = c.objs := .trans rfl rfl
@[simp] theorem Chip.setDop_err (x : DopSt) : (c.setDop x).err = c.err := .trans rfl rfl
@[simp] theorem Chip.setDop_uarts (x : DopSt) : (c.setDop x).uarts = c.uarts := .trans rfl rfl
@[simp] theorem Chip.setDop_time (x : DopSt) : (c.setDop x).time = c.time := .trans rfl rfl
@[simp] theorem Chip.setDop_macs (x : DopSt) : (c.setDop x).macs = c.macs := .trans rfl rfl
@[simp] theorem Chip.setDop_mrgs (x : DopSt) : (c.setDop x).mrgs = c.mrgs := .trans rfl rfl
@[simp] theorem Chip.setDop_canvs (x : DopSt) : (c.setDop x).canvs = c.canvs := .trans rfl rfl
@[simp] theorem Chip.setDop_slots (x : DopSt) : (c.setDop x).slots = c.slots := .trans rfl rfl
@[simp] theorem Chip.setDop_unis (x : DopSt) : (c.setDop x).unis = c.unis := .trans rfl rfl
@[simp] theorem Chip.setDop_uniSrcs (x : DopSt) : (c.setDop x).uniSrcs = c.uniSrcs := .trans rfl rfl
@[simp] theorem Chip.setDop_urgs (x : DopSt) : (c.setDop x).urgs = c.urgs := .trans rfl rfl
@[simp] theorem Chip.setDop_urgQ (x : DopSt) : (c.setDop x).urgQ = c.urgQ := .trans rfl rfl
@[simp] theorem Chip.setDop_cel (x : DopSt) : (c.setDop x).cel = c.cel := .trans rfl rfl
@[simp] theorem Chip.setDop_fuses (x : DopSt) : (c.setDop x).fuses = c.fuses := .trans rfl rfl
@[simp] theorem Chip.setDop_vlt (x : DopSt) : (c.setDop x).vlt = c.vlt := .trans rfl rfl
@[simp] theorem Chip.setDop_ras (x : DopSt) : (c.setDop x).ras = c.ras := .trans rfl rfl
@[simp] theorem Chip.setDop_pix (x : DopSt) : (c.setDop x).pix = c.pix := .trans rfl rfl
@[simp] theorem Chip.setDop_ports (x : DopSt) : (c.setDop x).ports = c.ports := .trans rfl rfl
@[simp] theorem Chip.setDop_banks (x : DopSt) : (c.setDop x).banks = c.banks := .trans rfl rfl
@[simp] theorem Chip.setDop_retQ (x : DopSt) : (c.setDop x).retQ = c.retQ := .trans rfl rfl
@[simp] theorem Chip.setDop_trl (x : DopSt) : (c.setDop x).trl = c.trl := .trans rfl rfl
@[simp] theorem Chip.setDop_prs (x : DopSt) : (c.setDop x).prs = c.prs := .trans rfl rfl
@[simp] theorem Chip.setDop_drv (x : DopSt) : (c.setDop x).drv = c.drv := .trans rfl rfl
@[simp] theorem Chip.setDop_cdr (x : DopSt) : (c.setDop x).cdr = c.cdr := .trans rfl rfl
@[simp] theorem Chip.setDop_dma (x : DopSt) : (c.setDop x).dma = c.dma := .trans rfl rfl
@[simp] theorem Chip.setDop_boot (x : DopSt) : (c.setDop x).boot = c.boot := .trans rfl rfl
@[simp] theorem Chip.setDop_upd (x : DopSt) : (c.setDop x).upd = c.upd := .trans rfl rfl
@[simp] theorem Chip.setDop_que (x : DopSt) : (c.setDop x).que = c.que := .trans rfl rfl

@[simp] theorem Chip.setUpd_upd (x : UpdSt) : (c.setUpd x).upd = x := .trans rfl rfl
@[simp] theorem Chip.setUpd_regs (x : UpdSt) : (c.setUpd x).regs = c.regs := .trans rfl rfl
@[simp] theorem Chip.setUpd_mem (x : UpdSt) : (c.setUpd x).mem = c.mem := .trans rfl rfl
@[simp] theorem Chip.setUpd_sram (x : UpdSt) : (c.setUpd x).sram = c.sram := .trans rfl rfl
@[simp] theorem Chip.setUpd_irqs (x : UpdSt) : (c.setUpd x).irqs = c.irqs := .trans rfl rfl
@[simp] theorem Chip.setUpd_plic (x : UpdSt) : (c.setUpd x).plic = c.plic := .trans rfl rfl
@[simp] theorem Chip.setUpd_rsp (x : UpdSt) : (c.setUpd x).rsp = c.rsp := .trans rfl rfl
@[simp] theorem Chip.setUpd_cyc (x : UpdSt) : (c.setUpd x).cyc = c.cyc := .trans rfl rfl
@[simp] theorem Chip.setUpd_held (x : UpdSt) : (c.setUpd x).held = c.held := .trans rfl rfl
@[simp] theorem Chip.setUpd_wire (x : UpdSt) : (c.setUpd x).wire = c.wire := .trans rfl rfl
@[simp] theorem Chip.setUpd_pwr (x : UpdSt) : (c.setUpd x).pwr = c.pwr := .trans rfl rfl
@[simp] theorem Chip.setUpd_objs (x : UpdSt) : (c.setUpd x).objs = c.objs := .trans rfl rfl
@[simp] theorem Chip.setUpd_err (x : UpdSt) : (c.setUpd x).err = c.err := .trans rfl rfl
@[simp] theorem Chip.setUpd_uarts (x : UpdSt) : (c.setUpd x).uarts = c.uarts := .trans rfl rfl
@[simp] theorem Chip.setUpd_time (x : UpdSt) : (c.setUpd x).time = c.time := .trans rfl rfl
@[simp] theorem Chip.setUpd_macs (x : UpdSt) : (c.setUpd x).macs = c.macs := .trans rfl rfl
@[simp] theorem Chip.setUpd_mrgs (x : UpdSt) : (c.setUpd x).mrgs = c.mrgs := .trans rfl rfl
@[simp] theorem Chip.setUpd_canvs (x : UpdSt) : (c.setUpd x).canvs = c.canvs := .trans rfl rfl
@[simp] theorem Chip.setUpd_slots (x : UpdSt) : (c.setUpd x).slots = c.slots := .trans rfl rfl
@[simp] theorem Chip.setUpd_unis (x : UpdSt) : (c.setUpd x).unis = c.unis := .trans rfl rfl
@[simp] theorem Chip.setUpd_uniSrcs (x : UpdSt) : (c.setUpd x).uniSrcs = c.uniSrcs := .trans rfl rfl
@[simp] theorem Chip.setUpd_urgs (x : UpdSt) : (c.setUpd x).urgs = c.urgs := .trans rfl rfl
@[simp] theorem Chip.setUpd_urgQ (x : UpdSt) : (c.setUpd x).urgQ = c.urgQ := .trans rfl rfl
@[simp] theorem Chip.setUpd_cel (x : UpdSt) : (c.setUpd x).cel = c.cel := .trans rfl rfl
@[simp] theorem Chip.setUpd_fuses (x : UpdSt) : (c.setUpd x).fuses = c.fuses := .trans rfl rfl
@[simp] theorem Chip.setUpd_vlt (x : UpdSt) : (c.setUpd x).vlt = c.vlt := .trans rfl rfl
@[simp] theorem Chip.setUpd_ras (x : UpdSt) : (c.setUpd x).ras = c.ras := .trans rfl rfl
@[simp] theorem Chip.setUpd_pix (x : UpdSt) : (c.setUpd x).pix = c.pix := .trans rfl rfl
@[simp] theorem Chip.setUpd_ports (x : UpdSt) : (c.setUpd x).ports = c.ports := .trans rfl rfl
@[simp] theorem Chip.setUpd_banks (x : UpdSt) : (c.setUpd x).banks = c.banks := .trans rfl rfl
@[simp] theorem Chip.setUpd_retQ (x : UpdSt) : (c.setUpd x).retQ = c.retQ := .trans rfl rfl
@[simp] theorem Chip.setUpd_trl (x : UpdSt) : (c.setUpd x).trl = c.trl := .trans rfl rfl
@[simp] theorem Chip.setUpd_prs (x : UpdSt) : (c.setUpd x).prs = c.prs := .trans rfl rfl
@[simp] theorem Chip.setUpd_drv (x : UpdSt) : (c.setUpd x).drv = c.drv := .trans rfl rfl
@[simp] theorem Chip.setUpd_cdr (x : UpdSt) : (c.setUpd x).cdr = c.cdr := .trans rfl rfl
@[simp] theorem Chip.setUpd_dma (x : UpdSt) : (c.setUpd x).dma = c.dma := .trans rfl rfl
@[simp] theorem Chip.setUpd_boot (x : UpdSt) : (c.setUpd x).boot = c.boot := .trans rfl rfl
@[simp] theorem Chip.setUpd_que (x : UpdSt) : (c.setUpd x).que = c.que := .trans rfl rfl
@[simp] theorem Chip.setUpd_dop (x : UpdSt) : (c.setUpd x).dop = c.dop := .trans rfl rfl

@[simp] theorem Chip.setVlt_vlt (x : VltSt) : (c.setVlt x).vlt = x := .trans rfl rfl
@[simp] theorem Chip.setVlt_regs (x : VltSt) : (c.setVlt x).regs = c.regs := .trans rfl rfl
@[simp] theorem Chip.setVlt_mem (x : VltSt) : (c.setVlt x).mem = c.mem := .trans rfl rfl
@[simp] theorem Chip.setVlt_sram (x : VltSt) : (c.setVlt x).sram = c.sram := .trans rfl rfl
@[simp] theorem Chip.setVlt_irqs (x : VltSt) : (c.setVlt x).irqs = c.irqs := .trans rfl rfl
@[simp] theorem Chip.setVlt_plic (x : VltSt) : (c.setVlt x).plic = c.plic := .trans rfl rfl
@[simp] theorem Chip.setVlt_rsp (x : VltSt) : (c.setVlt x).rsp = c.rsp := .trans rfl rfl
@[simp] theorem Chip.setVlt_cyc (x : VltSt) : (c.setVlt x).cyc = c.cyc := .trans rfl rfl
@[simp] theorem Chip.setVlt_held (x : VltSt) : (c.setVlt x).held = c.held := .trans rfl rfl
@[simp] theorem Chip.setVlt_wire (x : VltSt) : (c.setVlt x).wire = c.wire := .trans rfl rfl
@[simp] theorem Chip.setVlt_pwr (x : VltSt) : (c.setVlt x).pwr = c.pwr := .trans rfl rfl
@[simp] theorem Chip.setVlt_objs (x : VltSt) : (c.setVlt x).objs = c.objs := .trans rfl rfl
@[simp] theorem Chip.setVlt_err (x : VltSt) : (c.setVlt x).err = c.err := .trans rfl rfl
@[simp] theorem Chip.setVlt_uarts (x : VltSt) : (c.setVlt x).uarts = c.uarts := .trans rfl rfl
@[simp] theorem Chip.setVlt_time (x : VltSt) : (c.setVlt x).time = c.time := .trans rfl rfl
@[simp] theorem Chip.setVlt_macs (x : VltSt) : (c.setVlt x).macs = c.macs := .trans rfl rfl
@[simp] theorem Chip.setVlt_mrgs (x : VltSt) : (c.setVlt x).mrgs = c.mrgs := .trans rfl rfl
@[simp] theorem Chip.setVlt_canvs (x : VltSt) : (c.setVlt x).canvs = c.canvs := .trans rfl rfl
@[simp] theorem Chip.setVlt_slots (x : VltSt) : (c.setVlt x).slots = c.slots := .trans rfl rfl
@[simp] theorem Chip.setVlt_unis (x : VltSt) : (c.setVlt x).unis = c.unis := .trans rfl rfl
@[simp] theorem Chip.setVlt_uniSrcs (x : VltSt) : (c.setVlt x).uniSrcs = c.uniSrcs := .trans rfl rfl
@[simp] theorem Chip.setVlt_urgs (x : VltSt) : (c.setVlt x).urgs = c.urgs := .trans rfl rfl
@[simp] theorem Chip.setVlt_urgQ (x : VltSt) : (c.setVlt x).urgQ = c.urgQ := .trans rfl rfl
@[simp] theorem Chip.setVlt_cel (x : VltSt) : (c.setVlt x).cel = c.cel := .trans rfl rfl
@[simp] theorem Chip.setVlt_fuses (x : VltSt) : (c.setVlt x).fuses = c.fuses := .trans rfl rfl
@[simp] theorem Chip.setVlt_ras (x : VltSt) : (c.setVlt x).ras = c.ras := .trans rfl rfl
@[simp] theorem Chip.setVlt_pix (x : VltSt) : (c.setVlt x).pix = c.pix := .trans rfl rfl
@[simp] theorem Chip.setVlt_ports (x : VltSt) : (c.setVlt x).ports = c.ports := .trans rfl rfl
@[simp] theorem Chip.setVlt_banks (x : VltSt) : (c.setVlt x).banks = c.banks := .trans rfl rfl
@[simp] theorem Chip.setVlt_retQ (x : VltSt) : (c.setVlt x).retQ = c.retQ := .trans rfl rfl
@[simp] theorem Chip.setVlt_trl (x : VltSt) : (c.setVlt x).trl = c.trl := .trans rfl rfl
@[simp] theorem Chip.setVlt_prs (x : VltSt) : (c.setVlt x).prs = c.prs := .trans rfl rfl
@[simp] theorem Chip.setVlt_drv (x : VltSt) : (c.setVlt x).drv = c.drv := .trans rfl rfl
@[simp] theorem Chip.setVlt_cdr (x : VltSt) : (c.setVlt x).cdr = c.cdr := .trans rfl rfl
@[simp] theorem Chip.setVlt_dma (x : VltSt) : (c.setVlt x).dma = c.dma := .trans rfl rfl
@[simp] theorem Chip.setVlt_boot (x : VltSt) : (c.setVlt x).boot = c.boot := .trans rfl rfl
@[simp] theorem Chip.setVlt_upd (x : VltSt) : (c.setVlt x).upd = c.upd := .trans rfl rfl
@[simp] theorem Chip.setVlt_que (x : VltSt) : (c.setVlt x).que = c.que := .trans rfl rfl
@[simp] theorem Chip.setVlt_dop (x : VltSt) : (c.setVlt x).dop = c.dop := .trans rfl rfl

@[simp] theorem Chip.setMac_macs (k : Nat) (x : Mac) : (c.setMac k x).macs = mset ({} : Mac) c.macs k x := .trans rfl rfl
@[simp] theorem Chip.setMac_regs (k : Nat) (x : Mac) : (c.setMac k x).regs = c.regs := .trans rfl rfl
@[simp] theorem Chip.setMac_mem (k : Nat) (x : Mac) : (c.setMac k x).mem = c.mem := .trans rfl rfl
@[simp] theorem Chip.setMac_sram (k : Nat) (x : Mac) : (c.setMac k x).sram = c.sram := .trans rfl rfl
@[simp] theorem Chip.setMac_irqs (k : Nat) (x : Mac) : (c.setMac k x).irqs = c.irqs := .trans rfl rfl
@[simp] theorem Chip.setMac_plic (k : Nat) (x : Mac) : (c.setMac k x).plic = c.plic := .trans rfl rfl
@[simp] theorem Chip.setMac_rsp (k : Nat) (x : Mac) : (c.setMac k x).rsp = c.rsp := .trans rfl rfl
@[simp] theorem Chip.setMac_cyc (k : Nat) (x : Mac) : (c.setMac k x).cyc = c.cyc := .trans rfl rfl
@[simp] theorem Chip.setMac_held (k : Nat) (x : Mac) : (c.setMac k x).held = c.held := .trans rfl rfl
@[simp] theorem Chip.setMac_wire (k : Nat) (x : Mac) : (c.setMac k x).wire = c.wire := .trans rfl rfl
@[simp] theorem Chip.setMac_pwr (k : Nat) (x : Mac) : (c.setMac k x).pwr = c.pwr := .trans rfl rfl
@[simp] theorem Chip.setMac_objs (k : Nat) (x : Mac) : (c.setMac k x).objs = c.objs := .trans rfl rfl
@[simp] theorem Chip.setMac_err (k : Nat) (x : Mac) : (c.setMac k x).err = c.err := .trans rfl rfl
@[simp] theorem Chip.setMac_uarts (k : Nat) (x : Mac) : (c.setMac k x).uarts = c.uarts := .trans rfl rfl
@[simp] theorem Chip.setMac_time (k : Nat) (x : Mac) : (c.setMac k x).time = c.time := .trans rfl rfl
@[simp] theorem Chip.setMac_mrgs (k : Nat) (x : Mac) : (c.setMac k x).mrgs = c.mrgs := .trans rfl rfl
@[simp] theorem Chip.setMac_canvs (k : Nat) (x : Mac) : (c.setMac k x).canvs = c.canvs := .trans rfl rfl
@[simp] theorem Chip.setMac_slots (k : Nat) (x : Mac) : (c.setMac k x).slots = c.slots := .trans rfl rfl
@[simp] theorem Chip.setMac_unis (k : Nat) (x : Mac) : (c.setMac k x).unis = c.unis := .trans rfl rfl
@[simp] theorem Chip.setMac_uniSrcs (k : Nat) (x : Mac) : (c.setMac k x).uniSrcs = c.uniSrcs := .trans rfl rfl
@[simp] theorem Chip.setMac_urgs (k : Nat) (x : Mac) : (c.setMac k x).urgs = c.urgs := .trans rfl rfl
@[simp] theorem Chip.setMac_urgQ (k : Nat) (x : Mac) : (c.setMac k x).urgQ = c.urgQ := .trans rfl rfl
@[simp] theorem Chip.setMac_cel (k : Nat) (x : Mac) : (c.setMac k x).cel = c.cel := .trans rfl rfl
@[simp] theorem Chip.setMac_fuses (k : Nat) (x : Mac) : (c.setMac k x).fuses = c.fuses := .trans rfl rfl
@[simp] theorem Chip.setMac_vlt (k : Nat) (x : Mac) : (c.setMac k x).vlt = c.vlt := .trans rfl rfl
@[simp] theorem Chip.setMac_ras (k : Nat) (x : Mac) : (c.setMac k x).ras = c.ras := .trans rfl rfl
@[simp] theorem Chip.setMac_pix (k : Nat) (x : Mac) : (c.setMac k x).pix = c.pix := .trans rfl rfl
@[simp] theorem Chip.setMac_ports (k : Nat) (x : Mac) : (c.setMac k x).ports = c.ports := .trans rfl rfl
@[simp] theorem Chip.setMac_banks (k : Nat) (x : Mac) : (c.setMac k x).banks = c.banks := .trans rfl rfl
@[simp] theorem Chip.setMac_retQ (k : Nat) (x : Mac) : (c.setMac k x).retQ = c.retQ := .trans rfl rfl
@[simp] theorem Chip.setMac_trl (k : Nat) (x : Mac) : (c.setMac k x).trl = c.trl := .trans rfl rfl
@[simp] theorem Chip.setMac_prs (k : Nat) (x : Mac) : (c.setMac k x).prs = c.prs := .trans rfl rfl
@[simp] theorem Chip.setMac_drv (k : Nat) (x : Mac) : (c.setMac k x).drv = c.drv := .trans rfl rfl
@[simp] theorem Chip.setMac_cdr (k : Nat) (x : Mac) : (c.setMac k x).cdr = c.cdr := .trans rfl rfl
@[simp] theorem Chip.setMac_dma (k : Nat) (x : Mac) : (c.setMac k x).dma = c.dma := .trans rfl rfl
@[simp] theorem Chip.setMac_boot (k : Nat) (x : Mac) : (c.setMac k x).boot = c.boot := .trans rfl rfl
@[simp] theorem Chip.setMac_upd (k : Nat) (x : Mac) : (c.setMac k x).upd = c.upd := .trans rfl rfl
@[simp] theorem Chip.setMac_que (k : Nat) (x : Mac) : (c.setMac k x).que = c.que := .trans rfl rfl
@[simp] theorem Chip.setMac_dop (k : Nat) (x : Mac) : (c.setMac k x).dop = c.dop := .trans rfl rfl

@[simp] theorem Chip.setMrg_mrgs (k : Nat) (x : Mrg) : (c.setMrg k x).mrgs = mset ({} : Mrg) c.mrgs k x := .trans rfl rfl
@[simp] theorem Chip.setMrg_regs (k : Nat) (x : Mrg) : (c.setMrg k x).regs = c.regs := .trans rfl rfl
@[simp] theorem Chip.setMrg_mem (k : Nat) (x : Mrg) : (c.setMrg k x).mem = c.mem := .trans rfl rfl
@[simp] theorem Chip.setMrg_sram (k : Nat) (x : Mrg) : (c.setMrg k x).sram = c.sram := .trans rfl rfl
@[simp] theorem Chip.setMrg_irqs (k : Nat) (x : Mrg) : (c.setMrg k x).irqs = c.irqs := .trans rfl rfl
@[simp] theorem Chip.setMrg_plic (k : Nat) (x : Mrg) : (c.setMrg k x).plic = c.plic := .trans rfl rfl
@[simp] theorem Chip.setMrg_rsp (k : Nat) (x : Mrg) : (c.setMrg k x).rsp = c.rsp := .trans rfl rfl
@[simp] theorem Chip.setMrg_cyc (k : Nat) (x : Mrg) : (c.setMrg k x).cyc = c.cyc := .trans rfl rfl
@[simp] theorem Chip.setMrg_held (k : Nat) (x : Mrg) : (c.setMrg k x).held = c.held := .trans rfl rfl
@[simp] theorem Chip.setMrg_wire (k : Nat) (x : Mrg) : (c.setMrg k x).wire = c.wire := .trans rfl rfl
@[simp] theorem Chip.setMrg_pwr (k : Nat) (x : Mrg) : (c.setMrg k x).pwr = c.pwr := .trans rfl rfl
@[simp] theorem Chip.setMrg_objs (k : Nat) (x : Mrg) : (c.setMrg k x).objs = c.objs := .trans rfl rfl
@[simp] theorem Chip.setMrg_err (k : Nat) (x : Mrg) : (c.setMrg k x).err = c.err := .trans rfl rfl
@[simp] theorem Chip.setMrg_uarts (k : Nat) (x : Mrg) : (c.setMrg k x).uarts = c.uarts := .trans rfl rfl
@[simp] theorem Chip.setMrg_time (k : Nat) (x : Mrg) : (c.setMrg k x).time = c.time := .trans rfl rfl
@[simp] theorem Chip.setMrg_macs (k : Nat) (x : Mrg) : (c.setMrg k x).macs = c.macs := .trans rfl rfl
@[simp] theorem Chip.setMrg_canvs (k : Nat) (x : Mrg) : (c.setMrg k x).canvs = c.canvs := .trans rfl rfl
@[simp] theorem Chip.setMrg_slots (k : Nat) (x : Mrg) : (c.setMrg k x).slots = c.slots := .trans rfl rfl
@[simp] theorem Chip.setMrg_unis (k : Nat) (x : Mrg) : (c.setMrg k x).unis = c.unis := .trans rfl rfl
@[simp] theorem Chip.setMrg_uniSrcs (k : Nat) (x : Mrg) : (c.setMrg k x).uniSrcs = c.uniSrcs := .trans rfl rfl
@[simp] theorem Chip.setMrg_urgs (k : Nat) (x : Mrg) : (c.setMrg k x).urgs = c.urgs := .trans rfl rfl
@[simp] theorem Chip.setMrg_urgQ (k : Nat) (x : Mrg) : (c.setMrg k x).urgQ = c.urgQ := .trans rfl rfl
@[simp] theorem Chip.setMrg_cel (k : Nat) (x : Mrg) : (c.setMrg k x).cel = c.cel := .trans rfl rfl
@[simp] theorem Chip.setMrg_fuses (k : Nat) (x : Mrg) : (c.setMrg k x).fuses = c.fuses := .trans rfl rfl
@[simp] theorem Chip.setMrg_vlt (k : Nat) (x : Mrg) : (c.setMrg k x).vlt = c.vlt := .trans rfl rfl
@[simp] theorem Chip.setMrg_ras (k : Nat) (x : Mrg) : (c.setMrg k x).ras = c.ras := .trans rfl rfl
@[simp] theorem Chip.setMrg_pix (k : Nat) (x : Mrg) : (c.setMrg k x).pix = c.pix := .trans rfl rfl
@[simp] theorem Chip.setMrg_ports (k : Nat) (x : Mrg) : (c.setMrg k x).ports = c.ports := .trans rfl rfl
@[simp] theorem Chip.setMrg_banks (k : Nat) (x : Mrg) : (c.setMrg k x).banks = c.banks := .trans rfl rfl
@[simp] theorem Chip.setMrg_retQ (k : Nat) (x : Mrg) : (c.setMrg k x).retQ = c.retQ := .trans rfl rfl
@[simp] theorem Chip.setMrg_trl (k : Nat) (x : Mrg) : (c.setMrg k x).trl = c.trl := .trans rfl rfl
@[simp] theorem Chip.setMrg_prs (k : Nat) (x : Mrg) : (c.setMrg k x).prs = c.prs := .trans rfl rfl
@[simp] theorem Chip.setMrg_drv (k : Nat) (x : Mrg) : (c.setMrg k x).drv = c.drv := .trans rfl rfl
@[simp] theorem Chip.setMrg_cdr (k : Nat) (x : Mrg) : (c.setMrg k x).cdr = c.cdr := .trans rfl rfl
@[simp] theorem Chip.setMrg_dma (k : Nat) (x : Mrg) : (c.setMrg k x).dma = c.dma := .trans rfl rfl
@[simp] theorem Chip.setMrg_boot (k : Nat) (x : Mrg) : (c.setMrg k x).boot = c.boot := .trans rfl rfl
@[simp] theorem Chip.setMrg_upd (k : Nat) (x : Mrg) : (c.setMrg k x).upd = c.upd := .trans rfl rfl
@[simp] theorem Chip.setMrg_que (k : Nat) (x : Mrg) : (c.setMrg k x).que = c.que := .trans rfl rfl
@[simp] theorem Chip.setMrg_dop (k : Nat) (x : Mrg) : (c.setMrg k x).dop = c.dop := .trans rfl rfl

@[simp] theorem Chip.setCanv_canvs (k : Nat) (x : Canv) : (c.setCanv k x).canvs = mset ({} : Canv) c.canvs k x := .trans rfl rfl
@[simp] theorem Chip.setCanv_regs (k : Nat) (x : Canv) : (c.setCanv k x).regs = c.regs := .trans rfl rfl
@[simp] theorem Chip.setCanv_mem (k : Nat) (x : Canv) : (c.setCanv k x).mem = c.mem := .trans rfl rfl
@[simp] theorem Chip.setCanv_sram (k : Nat) (x : Canv) : (c.setCanv k x).sram = c.sram := .trans rfl rfl
@[simp] theorem Chip.setCanv_irqs (k : Nat) (x : Canv) : (c.setCanv k x).irqs = c.irqs := .trans rfl rfl
@[simp] theorem Chip.setCanv_plic (k : Nat) (x : Canv) : (c.setCanv k x).plic = c.plic := .trans rfl rfl
@[simp] theorem Chip.setCanv_rsp (k : Nat) (x : Canv) : (c.setCanv k x).rsp = c.rsp := .trans rfl rfl
@[simp] theorem Chip.setCanv_cyc (k : Nat) (x : Canv) : (c.setCanv k x).cyc = c.cyc := .trans rfl rfl
@[simp] theorem Chip.setCanv_held (k : Nat) (x : Canv) : (c.setCanv k x).held = c.held := .trans rfl rfl
@[simp] theorem Chip.setCanv_wire (k : Nat) (x : Canv) : (c.setCanv k x).wire = c.wire := .trans rfl rfl
@[simp] theorem Chip.setCanv_pwr (k : Nat) (x : Canv) : (c.setCanv k x).pwr = c.pwr := .trans rfl rfl
@[simp] theorem Chip.setCanv_objs (k : Nat) (x : Canv) : (c.setCanv k x).objs = c.objs := .trans rfl rfl
@[simp] theorem Chip.setCanv_err (k : Nat) (x : Canv) : (c.setCanv k x).err = c.err := .trans rfl rfl
@[simp] theorem Chip.setCanv_uarts (k : Nat) (x : Canv) : (c.setCanv k x).uarts = c.uarts := .trans rfl rfl
@[simp] theorem Chip.setCanv_time (k : Nat) (x : Canv) : (c.setCanv k x).time = c.time := .trans rfl rfl
@[simp] theorem Chip.setCanv_macs (k : Nat) (x : Canv) : (c.setCanv k x).macs = c.macs := .trans rfl rfl
@[simp] theorem Chip.setCanv_mrgs (k : Nat) (x : Canv) : (c.setCanv k x).mrgs = c.mrgs := .trans rfl rfl
@[simp] theorem Chip.setCanv_slots (k : Nat) (x : Canv) : (c.setCanv k x).slots = c.slots := .trans rfl rfl
@[simp] theorem Chip.setCanv_unis (k : Nat) (x : Canv) : (c.setCanv k x).unis = c.unis := .trans rfl rfl
@[simp] theorem Chip.setCanv_uniSrcs (k : Nat) (x : Canv) : (c.setCanv k x).uniSrcs = c.uniSrcs := .trans rfl rfl
@[simp] theorem Chip.setCanv_urgs (k : Nat) (x : Canv) : (c.setCanv k x).urgs = c.urgs := .trans rfl rfl
@[simp] theorem Chip.setCanv_urgQ (k : Nat) (x : Canv) : (c.setCanv k x).urgQ = c.urgQ := .trans rfl rfl
@[simp] theorem Chip.setCanv_cel (k : Nat) (x : Canv) : (c.setCanv k x).cel = c.cel := .trans rfl rfl
@[simp] theorem Chip.setCanv_fuses (k : Nat) (x : Canv) : (c.setCanv k x).fuses = c.fuses := .trans rfl rfl
@[simp] theorem Chip.setCanv_vlt (k : Nat) (x : Canv) : (c.setCanv k x).vlt = c.vlt := .trans rfl rfl
@[simp] theorem Chip.setCanv_ras (k : Nat) (x : Canv) : (c.setCanv k x).ras = c.ras := .trans rfl rfl
@[simp] theorem Chip.setCanv_pix (k : Nat) (x : Canv) : (c.setCanv k x).pix = c.pix := .trans rfl rfl
@[simp] theorem Chip.setCanv_ports (k : Nat) (x : Canv) : (c.setCanv k x).ports = c.ports := .trans rfl rfl
@[simp] theorem Chip.setCanv_banks (k : Nat) (x : Canv) : (c.setCanv k x).banks = c.banks := .trans rfl rfl
@[simp] theorem Chip.setCanv_retQ (k : Nat) (x : Canv) : (c.setCanv k x).retQ = c.retQ := .trans rfl rfl
@[simp] theorem Chip.setCanv_trl (k : Nat) (x : Canv) : (c.setCanv k x).trl = c.trl := .trans rfl rfl
@[simp] theorem Chip.setCanv_prs (k : Nat) (x : Canv) : (c.setCanv k x).prs = c.prs := .trans rfl rfl
@[simp] theorem Chip.setCanv_drv (k : Nat) (x : Canv) : (c.setCanv k x).drv = c.drv := .trans rfl rfl
@[simp] theorem Chip.setCanv_cdr (k : Nat) (x : Canv) : (c.setCanv k x).cdr = c.cdr := .trans rfl rfl
@[simp] theorem Chip.setCanv_dma (k : Nat) (x : Canv) : (c.setCanv k x).dma = c.dma := .trans rfl rfl
@[simp] theorem Chip.setCanv_boot (k : Nat) (x : Canv) : (c.setCanv k x).boot = c.boot := .trans rfl rfl
@[simp] theorem Chip.setCanv_upd (k : Nat) (x : Canv) : (c.setCanv k x).upd = c.upd := .trans rfl rfl
@[simp] theorem Chip.setCanv_que (k : Nat) (x : Canv) : (c.setCanv k x).que = c.que := .trans rfl rfl
@[simp] theorem Chip.setCanv_dop (k : Nat) (x : Canv) : (c.setCanv k x).dop = c.dop := .trans rfl rfl

@[simp] theorem Chip.setSlot_slots (k : Nat) (x : SlotSt) : (c.setSlot k x).slots = mset ({} : SlotSt) c.slots k x := .trans rfl rfl
@[simp] theorem Chip.setSlot_regs (k : Nat) (x : SlotSt) : (c.setSlot k x).regs = c.regs := .trans rfl rfl
@[simp] theorem Chip.setSlot_mem (k : Nat) (x : SlotSt) : (c.setSlot k x).mem = c.mem := .trans rfl rfl
@[simp] theorem Chip.setSlot_sram (k : Nat) (x : SlotSt) : (c.setSlot k x).sram = c.sram := .trans rfl rfl
@[simp] theorem Chip.setSlot_irqs (k : Nat) (x : SlotSt) : (c.setSlot k x).irqs = c.irqs := .trans rfl rfl
@[simp] theorem Chip.setSlot_plic (k : Nat) (x : SlotSt) : (c.setSlot k x).plic = c.plic := .trans rfl rfl
@[simp] theorem Chip.setSlot_rsp (k : Nat) (x : SlotSt) : (c.setSlot k x).rsp = c.rsp := .trans rfl rfl
@[simp] theorem Chip.setSlot_cyc (k : Nat) (x : SlotSt) : (c.setSlot k x).cyc = c.cyc := .trans rfl rfl
@[simp] theorem Chip.setSlot_held (k : Nat) (x : SlotSt) : (c.setSlot k x).held = c.held := .trans rfl rfl
@[simp] theorem Chip.setSlot_wire (k : Nat) (x : SlotSt) : (c.setSlot k x).wire = c.wire := .trans rfl rfl
@[simp] theorem Chip.setSlot_pwr (k : Nat) (x : SlotSt) : (c.setSlot k x).pwr = c.pwr := .trans rfl rfl
@[simp] theorem Chip.setSlot_objs (k : Nat) (x : SlotSt) : (c.setSlot k x).objs = c.objs := .trans rfl rfl
@[simp] theorem Chip.setSlot_err (k : Nat) (x : SlotSt) : (c.setSlot k x).err = c.err := .trans rfl rfl
@[simp] theorem Chip.setSlot_uarts (k : Nat) (x : SlotSt) : (c.setSlot k x).uarts = c.uarts := .trans rfl rfl
@[simp] theorem Chip.setSlot_time (k : Nat) (x : SlotSt) : (c.setSlot k x).time = c.time := .trans rfl rfl
@[simp] theorem Chip.setSlot_macs (k : Nat) (x : SlotSt) : (c.setSlot k x).macs = c.macs := .trans rfl rfl
@[simp] theorem Chip.setSlot_mrgs (k : Nat) (x : SlotSt) : (c.setSlot k x).mrgs = c.mrgs := .trans rfl rfl
@[simp] theorem Chip.setSlot_canvs (k : Nat) (x : SlotSt) : (c.setSlot k x).canvs = c.canvs := .trans rfl rfl
@[simp] theorem Chip.setSlot_unis (k : Nat) (x : SlotSt) : (c.setSlot k x).unis = c.unis := .trans rfl rfl
@[simp] theorem Chip.setSlot_uniSrcs (k : Nat) (x : SlotSt) : (c.setSlot k x).uniSrcs = c.uniSrcs := .trans rfl rfl
@[simp] theorem Chip.setSlot_urgs (k : Nat) (x : SlotSt) : (c.setSlot k x).urgs = c.urgs := .trans rfl rfl
@[simp] theorem Chip.setSlot_urgQ (k : Nat) (x : SlotSt) : (c.setSlot k x).urgQ = c.urgQ := .trans rfl rfl
@[simp] theorem Chip.setSlot_cel (k : Nat) (x : SlotSt) : (c.setSlot k x).cel = c.cel := .trans rfl rfl
@[simp] theorem Chip.setSlot_fuses (k : Nat) (x : SlotSt) : (c.setSlot k x).fuses = c.fuses := .trans rfl rfl
@[simp] theorem Chip.setSlot_vlt (k : Nat) (x : SlotSt) : (c.setSlot k x).vlt = c.vlt := .trans rfl rfl
@[simp] theorem Chip.setSlot_ras (k : Nat) (x : SlotSt) : (c.setSlot k x).ras = c.ras := .trans rfl rfl
@[simp] theorem Chip.setSlot_pix (k : Nat) (x : SlotSt) : (c.setSlot k x).pix = c.pix := .trans rfl rfl
@[simp] theorem Chip.setSlot_ports (k : Nat) (x : SlotSt) : (c.setSlot k x).ports = c.ports := .trans rfl rfl
@[simp] theorem Chip.setSlot_banks (k : Nat) (x : SlotSt) : (c.setSlot k x).banks = c.banks := .trans rfl rfl
@[simp] theorem Chip.setSlot_retQ (k : Nat) (x : SlotSt) : (c.setSlot k x).retQ = c.retQ := .trans rfl rfl
@[simp] theorem Chip.setSlot_trl (k : Nat) (x : SlotSt) : (c.setSlot k x).trl = c.trl := .trans rfl rfl
@[simp] theorem Chip.setSlot_prs (k : Nat) (x : SlotSt) : (c.setSlot k x).prs = c.prs := .trans rfl rfl
@[simp] theorem Chip.setSlot_drv (k : Nat) (x : SlotSt) : (c.setSlot k x).drv = c.drv := .trans rfl rfl
@[simp] theorem Chip.setSlot_cdr (k : Nat) (x : SlotSt) : (c.setSlot k x).cdr = c.cdr := .trans rfl rfl
@[simp] theorem Chip.setSlot_dma (k : Nat) (x : SlotSt) : (c.setSlot k x).dma = c.dma := .trans rfl rfl
@[simp] theorem Chip.setSlot_boot (k : Nat) (x : SlotSt) : (c.setSlot k x).boot = c.boot := .trans rfl rfl
@[simp] theorem Chip.setSlot_upd (k : Nat) (x : SlotSt) : (c.setSlot k x).upd = c.upd := .trans rfl rfl
@[simp] theorem Chip.setSlot_que (k : Nat) (x : SlotSt) : (c.setSlot k x).que = c.que := .trans rfl rfl
@[simp] theorem Chip.setSlot_dop (k : Nat) (x : SlotSt) : (c.setSlot k x).dop = c.dop := .trans rfl rfl

@[simp] theorem Chip.setUni_unis (k : Nat) (x : Uni) : (c.setUni k x).unis = mset ({} : Uni) c.unis k x := .trans rfl rfl
@[simp] theorem Chip.setUni_regs (k : Nat) (x : Uni) : (c.setUni k x).regs = c.regs := .trans rfl rfl
@[simp] theorem Chip.setUni_mem (k : Nat) (x : Uni) : (c.setUni k x).mem = c.mem := .trans rfl rfl
@[simp] theorem Chip.setUni_sram (k : Nat) (x : Uni) : (c.setUni k x).sram = c.sram := .trans rfl rfl
@[simp] theorem Chip.setUni_irqs (k : Nat) (x : Uni) : (c.setUni k x).irqs = c.irqs := .trans rfl rfl
@[simp] theorem Chip.setUni_plic (k : Nat) (x : Uni) : (c.setUni k x).plic = c.plic := .trans rfl rfl
@[simp] theorem Chip.setUni_rsp (k : Nat) (x : Uni) : (c.setUni k x).rsp = c.rsp := .trans rfl rfl
@[simp] theorem Chip.setUni_cyc (k : Nat) (x : Uni) : (c.setUni k x).cyc = c.cyc := .trans rfl rfl
@[simp] theorem Chip.setUni_held (k : Nat) (x : Uni) : (c.setUni k x).held = c.held := .trans rfl rfl
@[simp] theorem Chip.setUni_wire (k : Nat) (x : Uni) : (c.setUni k x).wire = c.wire := .trans rfl rfl
@[simp] theorem Chip.setUni_pwr (k : Nat) (x : Uni) : (c.setUni k x).pwr = c.pwr := .trans rfl rfl
@[simp] theorem Chip.setUni_objs (k : Nat) (x : Uni) : (c.setUni k x).objs = c.objs := .trans rfl rfl
@[simp] theorem Chip.setUni_err (k : Nat) (x : Uni) : (c.setUni k x).err = c.err := .trans rfl rfl
@[simp] theorem Chip.setUni_uarts (k : Nat) (x : Uni) : (c.setUni k x).uarts = c.uarts := .trans rfl rfl
@[simp] theorem Chip.setUni_time (k : Nat) (x : Uni) : (c.setUni k x).time = c.time := .trans rfl rfl
@[simp] theorem Chip.setUni_macs (k : Nat) (x : Uni) : (c.setUni k x).macs = c.macs := .trans rfl rfl
@[simp] theorem Chip.setUni_mrgs (k : Nat) (x : Uni) : (c.setUni k x).mrgs = c.mrgs := .trans rfl rfl
@[simp] theorem Chip.setUni_canvs (k : Nat) (x : Uni) : (c.setUni k x).canvs = c.canvs := .trans rfl rfl
@[simp] theorem Chip.setUni_slots (k : Nat) (x : Uni) : (c.setUni k x).slots = c.slots := .trans rfl rfl
@[simp] theorem Chip.setUni_uniSrcs (k : Nat) (x : Uni) : (c.setUni k x).uniSrcs = c.uniSrcs := .trans rfl rfl
@[simp] theorem Chip.setUni_urgs (k : Nat) (x : Uni) : (c.setUni k x).urgs = c.urgs := .trans rfl rfl
@[simp] theorem Chip.setUni_urgQ (k : Nat) (x : Uni) : (c.setUni k x).urgQ = c.urgQ := .trans rfl rfl
@[simp] theorem Chip.setUni_cel (k : Nat) (x : Uni) : (c.setUni k x).cel = c.cel := .trans rfl rfl
@[simp] theorem Chip.setUni_fuses (k : Nat) (x : Uni) : (c.setUni k x).fuses = c.fuses := .trans rfl rfl
@[simp] theorem Chip.setUni_vlt (k : Nat) (x : Uni) : (c.setUni k x).vlt = c.vlt := .trans rfl rfl
@[simp] theorem Chip.setUni_ras (k : Nat) (x : Uni) : (c.setUni k x).ras = c.ras := .trans rfl rfl
@[simp] theorem Chip.setUni_pix (k : Nat) (x : Uni) : (c.setUni k x).pix = c.pix := .trans rfl rfl
@[simp] theorem Chip.setUni_ports (k : Nat) (x : Uni) : (c.setUni k x).ports = c.ports := .trans rfl rfl
@[simp] theorem Chip.setUni_banks (k : Nat) (x : Uni) : (c.setUni k x).banks = c.banks := .trans rfl rfl
@[simp] theorem Chip.setUni_retQ (k : Nat) (x : Uni) : (c.setUni k x).retQ = c.retQ := .trans rfl rfl
@[simp] theorem Chip.setUni_trl (k : Nat) (x : Uni) : (c.setUni k x).trl = c.trl := .trans rfl rfl
@[simp] theorem Chip.setUni_prs (k : Nat) (x : Uni) : (c.setUni k x).prs = c.prs := .trans rfl rfl
@[simp] theorem Chip.setUni_drv (k : Nat) (x : Uni) : (c.setUni k x).drv = c.drv := .trans rfl rfl
@[simp] theorem Chip.setUni_cdr (k : Nat) (x : Uni) : (c.setUni k x).cdr = c.cdr := .trans rfl rfl
@[simp] theorem Chip.setUni_dma (k : Nat) (x : Uni) : (c.setUni k x).dma = c.dma := .trans rfl rfl
@[simp] theorem Chip.setUni_boot (k : Nat) (x : Uni) : (c.setUni k x).boot = c.boot := .trans rfl rfl
@[simp] theorem Chip.setUni_upd (k : Nat) (x : Uni) : (c.setUni k x).upd = c.upd := .trans rfl rfl
@[simp] theorem Chip.setUni_que (k : Nat) (x : Uni) : (c.setUni k x).que = c.que := .trans rfl rfl
@[simp] theorem Chip.setUni_dop (k : Nat) (x : Uni) : (c.setUni k x).dop = c.dop := .trans rfl rfl

@[simp] theorem Chip.setUrg_urgs (k : Nat) (x : Urg) : (c.setUrg k x).urgs = mset ({} : Urg) c.urgs k x := .trans rfl rfl
@[simp] theorem Chip.setUrg_regs (k : Nat) (x : Urg) : (c.setUrg k x).regs = c.regs := .trans rfl rfl
@[simp] theorem Chip.setUrg_mem (k : Nat) (x : Urg) : (c.setUrg k x).mem = c.mem := .trans rfl rfl
@[simp] theorem Chip.setUrg_sram (k : Nat) (x : Urg) : (c.setUrg k x).sram = c.sram := .trans rfl rfl
@[simp] theorem Chip.setUrg_irqs (k : Nat) (x : Urg) : (c.setUrg k x).irqs = c.irqs := .trans rfl rfl
@[simp] theorem Chip.setUrg_plic (k : Nat) (x : Urg) : (c.setUrg k x).plic = c.plic := .trans rfl rfl
@[simp] theorem Chip.setUrg_rsp (k : Nat) (x : Urg) : (c.setUrg k x).rsp = c.rsp := .trans rfl rfl
@[simp] theorem Chip.setUrg_cyc (k : Nat) (x : Urg) : (c.setUrg k x).cyc = c.cyc := .trans rfl rfl
@[simp] theorem Chip.setUrg_held (k : Nat) (x : Urg) : (c.setUrg k x).held = c.held := .trans rfl rfl
@[simp] theorem Chip.setUrg_wire (k : Nat) (x : Urg) : (c.setUrg k x).wire = c.wire := .trans rfl rfl
@[simp] theorem Chip.setUrg_pwr (k : Nat) (x : Urg) : (c.setUrg k x).pwr = c.pwr := .trans rfl rfl
@[simp] theorem Chip.setUrg_objs (k : Nat) (x : Urg) : (c.setUrg k x).objs = c.objs := .trans rfl rfl
@[simp] theorem Chip.setUrg_err (k : Nat) (x : Urg) : (c.setUrg k x).err = c.err := .trans rfl rfl
@[simp] theorem Chip.setUrg_uarts (k : Nat) (x : Urg) : (c.setUrg k x).uarts = c.uarts := .trans rfl rfl
@[simp] theorem Chip.setUrg_time (k : Nat) (x : Urg) : (c.setUrg k x).time = c.time := .trans rfl rfl
@[simp] theorem Chip.setUrg_macs (k : Nat) (x : Urg) : (c.setUrg k x).macs = c.macs := .trans rfl rfl
@[simp] theorem Chip.setUrg_mrgs (k : Nat) (x : Urg) : (c.setUrg k x).mrgs = c.mrgs := .trans rfl rfl
@[simp] theorem Chip.setUrg_canvs (k : Nat) (x : Urg) : (c.setUrg k x).canvs = c.canvs := .trans rfl rfl
@[simp] theorem Chip.setUrg_slots (k : Nat) (x : Urg) : (c.setUrg k x).slots = c.slots := .trans rfl rfl
@[simp] theorem Chip.setUrg_unis (k : Nat) (x : Urg) : (c.setUrg k x).unis = c.unis := .trans rfl rfl
@[simp] theorem Chip.setUrg_uniSrcs (k : Nat) (x : Urg) : (c.setUrg k x).uniSrcs = c.uniSrcs := .trans rfl rfl
@[simp] theorem Chip.setUrg_urgQ (k : Nat) (x : Urg) : (c.setUrg k x).urgQ = c.urgQ := .trans rfl rfl
@[simp] theorem Chip.setUrg_cel (k : Nat) (x : Urg) : (c.setUrg k x).cel = c.cel := .trans rfl rfl
@[simp] theorem Chip.setUrg_fuses (k : Nat) (x : Urg) : (c.setUrg k x).fuses = c.fuses := .trans rfl rfl
@[simp] theorem Chip.setUrg_vlt (k : Nat) (x : Urg) : (c.setUrg k x).vlt = c.vlt := .trans rfl rfl
@[simp] theorem Chip.setUrg_ras (k : Nat) (x : Urg) : (c.setUrg k x).ras = c.ras := .trans rfl rfl
@[simp] theorem Chip.setUrg_pix (k : Nat) (x : Urg) : (c.setUrg k x).pix = c.pix := .trans rfl rfl
@[simp] theorem Chip.setUrg_ports (k : Nat) (x : Urg) : (c.setUrg k x).ports = c.ports := .trans rfl rfl
@[simp] theorem Chip.setUrg_banks (k : Nat) (x : Urg) : (c.setUrg k x).banks = c.banks := .trans rfl rfl
@[simp] theorem Chip.setUrg_retQ (k : Nat) (x : Urg) : (c.setUrg k x).retQ = c.retQ := .trans rfl rfl
@[simp] theorem Chip.setUrg_trl (k : Nat) (x : Urg) : (c.setUrg k x).trl = c.trl := .trans rfl rfl
@[simp] theorem Chip.setUrg_prs (k : Nat) (x : Urg) : (c.setUrg k x).prs = c.prs := .trans rfl rfl
@[simp] theorem Chip.setUrg_drv (k : Nat) (x : Urg) : (c.setUrg k x).drv = c.drv := .trans rfl rfl
@[simp] theorem Chip.setUrg_cdr (k : Nat) (x : Urg) : (c.setUrg k x).cdr = c.cdr := .trans rfl rfl
@[simp] theorem Chip.setUrg_dma (k : Nat) (x : Urg) : (c.setUrg k x).dma = c.dma := .trans rfl rfl
@[simp] theorem Chip.setUrg_boot (k : Nat) (x : Urg) : (c.setUrg k x).boot = c.boot := .trans rfl rfl
@[simp] theorem Chip.setUrg_upd (k : Nat) (x : Urg) : (c.setUrg k x).upd = c.upd := .trans rfl rfl
@[simp] theorem Chip.setUrg_que (k : Nat) (x : Urg) : (c.setUrg k x).que = c.que := .trans rfl rfl
@[simp] theorem Chip.setUrg_dop (k : Nat) (x : Urg) : (c.setUrg k x).dop = c.dop := .trans rfl rfl

@[simp] theorem Chip.setPort_ports (k : Nat) (x : Port) : (c.setPort k x).ports = mset ({} : Port) c.ports k x := .trans rfl rfl
@[simp] theorem Chip.setPort_regs (k : Nat) (x : Port) : (c.setPort k x).regs = c.regs := .trans rfl rfl
@[simp] theorem Chip.setPort_mem (k : Nat) (x : Port) : (c.setPort k x).mem = c.mem := .trans rfl rfl
@[simp] theorem Chip.setPort_sram (k : Nat) (x : Port) : (c.setPort k x).sram = c.sram := .trans rfl rfl
@[simp] theorem Chip.setPort_irqs (k : Nat) (x : Port) : (c.setPort k x).irqs = c.irqs := .trans rfl rfl
@[simp] theorem Chip.setPort_plic (k : Nat) (x : Port) : (c.setPort k x).plic = c.plic := .trans rfl rfl
@[simp] theorem Chip.setPort_rsp (k : Nat) (x : Port) : (c.setPort k x).rsp = c.rsp := .trans rfl rfl
@[simp] theorem Chip.setPort_cyc (k : Nat) (x : Port) : (c.setPort k x).cyc = c.cyc := .trans rfl rfl
@[simp] theorem Chip.setPort_held (k : Nat) (x : Port) : (c.setPort k x).held = c.held := .trans rfl rfl
@[simp] theorem Chip.setPort_wire (k : Nat) (x : Port) : (c.setPort k x).wire = c.wire := .trans rfl rfl
@[simp] theorem Chip.setPort_pwr (k : Nat) (x : Port) : (c.setPort k x).pwr = c.pwr := .trans rfl rfl
@[simp] theorem Chip.setPort_objs (k : Nat) (x : Port) : (c.setPort k x).objs = c.objs := .trans rfl rfl
@[simp] theorem Chip.setPort_err (k : Nat) (x : Port) : (c.setPort k x).err = c.err := .trans rfl rfl
@[simp] theorem Chip.setPort_uarts (k : Nat) (x : Port) : (c.setPort k x).uarts = c.uarts := .trans rfl rfl
@[simp] theorem Chip.setPort_time (k : Nat) (x : Port) : (c.setPort k x).time = c.time := .trans rfl rfl
@[simp] theorem Chip.setPort_macs (k : Nat) (x : Port) : (c.setPort k x).macs = c.macs := .trans rfl rfl
@[simp] theorem Chip.setPort_mrgs (k : Nat) (x : Port) : (c.setPort k x).mrgs = c.mrgs := .trans rfl rfl
@[simp] theorem Chip.setPort_canvs (k : Nat) (x : Port) : (c.setPort k x).canvs = c.canvs := .trans rfl rfl
@[simp] theorem Chip.setPort_slots (k : Nat) (x : Port) : (c.setPort k x).slots = c.slots := .trans rfl rfl
@[simp] theorem Chip.setPort_unis (k : Nat) (x : Port) : (c.setPort k x).unis = c.unis := .trans rfl rfl
@[simp] theorem Chip.setPort_uniSrcs (k : Nat) (x : Port) : (c.setPort k x).uniSrcs = c.uniSrcs := .trans rfl rfl
@[simp] theorem Chip.setPort_urgs (k : Nat) (x : Port) : (c.setPort k x).urgs = c.urgs := .trans rfl rfl
@[simp] theorem Chip.setPort_urgQ (k : Nat) (x : Port) : (c.setPort k x).urgQ = c.urgQ := .trans rfl rfl
@[simp] theorem Chip.setPort_cel (k : Nat) (x : Port) : (c.setPort k x).cel = c.cel := .trans rfl rfl
@[simp] theorem Chip.setPort_fuses (k : Nat) (x : Port) : (c.setPort k x).fuses = c.fuses := .trans rfl rfl
@[simp] theorem Chip.setPort_vlt (k : Nat) (x : Port) : (c.setPort k x).vlt = c.vlt := .trans rfl rfl
@[simp] theorem Chip.setPort_ras (k : Nat) (x : Port) : (c.setPort k x).ras = c.ras := .trans rfl rfl
@[simp] theorem Chip.setPort_pix (k : Nat) (x : Port) : (c.setPort k x).pix = c.pix := .trans rfl rfl
@[simp] theorem Chip.setPort_banks (k : Nat) (x : Port) : (c.setPort k x).banks = c.banks := .trans rfl rfl
@[simp] theorem Chip.setPort_retQ (k : Nat) (x : Port) : (c.setPort k x).retQ = c.retQ := .trans rfl rfl
@[simp] theorem Chip.setPort_trl (k : Nat) (x : Port) : (c.setPort k x).trl = c.trl := .trans rfl rfl
@[simp] theorem Chip.setPort_prs (k : Nat) (x : Port) : (c.setPort k x).prs = c.prs := .trans rfl rfl
@[simp] theorem Chip.setPort_drv (k : Nat) (x : Port) : (c.setPort k x).drv = c.drv := .trans rfl rfl
@[simp] theorem Chip.setPort_cdr (k : Nat) (x : Port) : (c.setPort k x).cdr = c.cdr := .trans rfl rfl
@[simp] theorem Chip.setPort_dma (k : Nat) (x : Port) : (c.setPort k x).dma = c.dma := .trans rfl rfl
@[simp] theorem Chip.setPort_boot (k : Nat) (x : Port) : (c.setPort k x).boot = c.boot := .trans rfl rfl
@[simp] theorem Chip.setPort_upd (k : Nat) (x : Port) : (c.setPort k x).upd = c.upd := .trans rfl rfl
@[simp] theorem Chip.setPort_que (k : Nat) (x : Port) : (c.setPort k x).que = c.que := .trans rfl rfl
@[simp] theorem Chip.setPort_dop (k : Nat) (x : Port) : (c.setPort k x).dop = c.dop := .trans rfl rfl

@[simp] theorem Chip.setUart_uarts (k : Nat) (x : Uart) : (c.setUart k x).uarts = mset ({} : Uart) c.uarts k x := .trans rfl rfl
@[simp] theorem Chip.setUart_regs (k : Nat) (x : Uart) : (c.setUart k x).regs = c.regs := .trans rfl rfl
@[simp] theorem Chip.setUart_mem (k : Nat) (x : Uart) : (c.setUart k x).mem = c.mem := .trans rfl rfl
@[simp] theorem Chip.setUart_sram (k : Nat) (x : Uart) : (c.setUart k x).sram = c.sram := .trans rfl rfl
@[simp] theorem Chip.setUart_irqs (k : Nat) (x : Uart) : (c.setUart k x).irqs = c.irqs := .trans rfl rfl
@[simp] theorem Chip.setUart_plic (k : Nat) (x : Uart) : (c.setUart k x).plic = c.plic := .trans rfl rfl
@[simp] theorem Chip.setUart_rsp (k : Nat) (x : Uart) : (c.setUart k x).rsp = c.rsp := .trans rfl rfl
@[simp] theorem Chip.setUart_cyc (k : Nat) (x : Uart) : (c.setUart k x).cyc = c.cyc := .trans rfl rfl
@[simp] theorem Chip.setUart_held (k : Nat) (x : Uart) : (c.setUart k x).held = c.held := .trans rfl rfl
@[simp] theorem Chip.setUart_wire (k : Nat) (x : Uart) : (c.setUart k x).wire = c.wire := .trans rfl rfl
@[simp] theorem Chip.setUart_pwr (k : Nat) (x : Uart) : (c.setUart k x).pwr = c.pwr := .trans rfl rfl
@[simp] theorem Chip.setUart_objs (k : Nat) (x : Uart) : (c.setUart k x).objs = c.objs := .trans rfl rfl
@[simp] theorem Chip.setUart_err (k : Nat) (x : Uart) : (c.setUart k x).err = c.err := .trans rfl rfl
@[simp] theorem Chip.setUart_time (k : Nat) (x : Uart) : (c.setUart k x).time = c.time := .trans rfl rfl
@[simp] theorem Chip.setUart_macs (k : Nat) (x : Uart) : (c.setUart k x).macs = c.macs := .trans rfl rfl
@[simp] theorem Chip.setUart_mrgs (k : Nat) (x : Uart) : (c.setUart k x).mrgs = c.mrgs := .trans rfl rfl
@[simp] theorem Chip.setUart_canvs (k : Nat) (x : Uart) : (c.setUart k x).canvs = c.canvs := .trans rfl rfl
@[simp] theorem Chip.setUart_slots (k : Nat) (x : Uart) : (c.setUart k x).slots = c.slots := .trans rfl rfl
@[simp] theorem Chip.setUart_unis (k : Nat) (x : Uart) : (c.setUart k x).unis = c.unis := .trans rfl rfl
@[simp] theorem Chip.setUart_uniSrcs (k : Nat) (x : Uart) : (c.setUart k x).uniSrcs = c.uniSrcs := .trans rfl rfl
@[simp] theorem Chip.setUart_urgs (k : Nat) (x : Uart) : (c.setUart k x).urgs = c.urgs := .trans rfl rfl
@[simp] theorem Chip.setUart_urgQ (k : Nat) (x : Uart) : (c.setUart k x).urgQ = c.urgQ := .trans rfl rfl
@[simp] theorem Chip.setUart_cel (k : Nat) (x : Uart) : (c.setUart k x).cel = c.cel := .trans rfl rfl
@[simp] theorem Chip.setUart_fuses (k : Nat) (x : Uart) : (c.setUart k x).fuses = c.fuses := .trans rfl rfl
@[simp] theorem Chip.setUart_vlt (k : Nat) (x : Uart) : (c.setUart k x).vlt = c.vlt := .trans rfl rfl
@[simp] theorem Chip.setUart_ras (k : Nat) (x : Uart) : (c.setUart k x).ras = c.ras := .trans rfl rfl
@[simp] theorem Chip.setUart_pix (k : Nat) (x : Uart) : (c.setUart k x).pix = c.pix := .trans rfl rfl
@[simp] theorem Chip.setUart_ports (k : Nat) (x : Uart) : (c.setUart k x).ports = c.ports := .trans rfl rfl
@[simp] theorem Chip.setUart_banks (k : Nat) (x : Uart) : (c.setUart k x).banks = c.banks := .trans rfl rfl
@[simp] theorem Chip.setUart_retQ (k : Nat) (x : Uart) : (c.setUart k x).retQ = c.retQ := .trans rfl rfl
@[simp] theorem Chip.setUart_trl (k : Nat) (x : Uart) : (c.setUart k x).trl = c.trl := .trans rfl rfl
@[simp] theorem Chip.setUart_prs (k : Nat) (x : Uart) : (c.setUart k x).prs = c.prs := .trans rfl rfl
@[simp] theorem Chip.setUart_drv (k : Nat) (x : Uart) : (c.setUart k x).drv = c.drv := .trans rfl rfl
@[simp] theorem Chip.setUart_cdr (k : Nat) (x : Uart) : (c.setUart k x).cdr = c.cdr := .trans rfl rfl
@[simp] theorem Chip.setUart_dma (k : Nat) (x : Uart) : (c.setUart k x).dma = c.dma := .trans rfl rfl
@[simp] theorem Chip.setUart_boot (k : Nat) (x : Uart) : (c.setUart k x).boot = c.boot := .trans rfl rfl
@[simp] theorem Chip.setUart_upd (k : Nat) (x : Uart) : (c.setUart k x).upd = c.upd := .trans rfl rfl
@[simp] theorem Chip.setUart_que (k : Nat) (x : Uart) : (c.setUart k x).que = c.que := .trans rfl rfl
@[simp] theorem Chip.setUart_dop (k : Nat) (x : Uart) : (c.setUart k x).dop = c.dop := .trans rfl rfl

@[simp] theorem Chip.rest_wr (r : RegRow) (i j : Nat) (v : Word) : (c.wr r i j v).rest = c.rest := .trans rfl rfl
@[simp] theorem Chip.rest_irq (n : Nat) : (c.irq n).rest = c.rest := .trans rfl rfl
@[simp] theorem Chip.rest_answer (v : Word) : (c.answer v).rest = c.rest := .trans rfl rfl
@[simp] theorem rest_settle : (settle c).rest = c.rest := .trans rfl rfl

variable (s : State) (f : Chip → Chip)

@[simp] theorem State.after_pending : (s.after f).pending = s.pending := .trans rfl rfl
@[simp] theorem State.after_chip : (s.after f).chip = settle (f { s.chip with cyc := s.chip.cyc + 1 }) := .trans rfl rfl

end Sys2Proof.Machine
end

