-- ==== Sys2Proof/Laws/Ops.lean ====
section
/-! SUPPORT. The laws of the shared operations: registers, interrupts, reports and memory. -/

namespace Sys2Proof.Machine

variable (c : Chip)

/-! ## Registers -/

/-- A register read after it is written gives what was written. -/
@[simp] theorem Chip.rd_wr_same (r : RegRow) (i j : Nat) (v : Word) : (c.wr r i j v).rd r i j = v :=
  mget_mset_same _ v c.regs _

/-- Writing one register leaves a register at another address as it was. -/
theorem Chip.rd_wr_other {r q : RegRow} {i j i' j' : Nat} (v : Word) (h : q.addr i' j' ≠ r.addr i j) :
    (c.wr r i j v).rd q i' j' = c.rd q i' j' :=
  mget_mset_other _ _ v c.regs h

@[simp] theorem Chip.rd_irq (n : Nat) (r : RegRow) (i j : Nat) : (c.irq n).rd r i j = c.rd r i j := .trans rfl rfl
@[simp] theorem Chip.rd_answer (v : Word) (r : RegRow) (i j : Nat) : (c.answer v).rd r i j = c.rd r i j := .trans rfl rfl
@[simp] theorem Chip.rd_emit (e : Emit) (r : RegRow) (i j : Nat) : (c.emit e).rd r i j = c.rd r i j := .trans rfl rfl
@[simp] theorem Chip.rd_setByte (a : Nat) (v : Byte) (r : RegRow) (i j : Nat) : (c.setByte a v).rd r i j = c.rd r i j := .trans rfl rfl
@[simp] theorem rd_settle (r : RegRow) (i j : Nat) : (settle c).rd r i j = c.rd r i j := .trans rfl rfl

/-- A register is its address and its reset value: what does not touch the registers leaves every one. -/
theorem Chip.rd_congr {c c' : Chip} (h : c'.regs = c.regs) (r : RegRow) (i j : Nat) : c'.rd r i j = c.rd r i j := by
  simp only [Chip.rd, h]

theorem SameRegs.refl (l : List Nat) (c : Chip) : SameRegs l c c := fun _ _ _ => rfl

theorem SameRegs.of_regs {l : List Nat} {c c' : Chip} (h : c'.regs = c.regs) : SameRegs l c c' := fun _ _ _ => by rw [h]

theorem SameRegs.trans {l : List Nat} {a b c : Chip} (h : SameRegs l a b) (g : SameRegs l b c) : SameRegs l a c :=
  fun n hn d => (g n hn d).trans (h n hn d)

/-- A write of one register changes only that register. -/
theorem SameRegs.wr {l : List Nat} {a c : Chip} (h : SameRegs l a c) {r : RegRow} {i j : Nat} (v : Word)
    (m : r.addr i j ∈ l) : SameRegs l a (c.wr r i j v) := fun n hn d =>
  (mget_mset_other _ d v c.regs fun e => hn (by rw [e]; exact m)).trans (h n hn d)

theorem SameRegs.mono {l l' : List Nat} {a c : Chip} (h : SameRegs l a c) (s : ∀ n ∈ l, n ∈ l') : SameRegs l' a c :=
  fun n hn d => h n (fun m => hn (s n m)) d

/-- A register whose address the frame leaves reads as before. -/
theorem SameRegs.rd {l : List Nat} {a c : Chip} (h : SameRegs l a c) {r : RegRow} {i j : Nat} (m : r.addr i j ∉ l) :
    c.rd r i j = a.rd r i j := h _ m _

/-! ## Interrupts -/

theorem getLsbD_irqBit (w : BitVec 224) (n : Nat) (l : Bool) (m : Nat) (hm : m < 224) :
    (irqBit w n l).getLsbD m = if m = n then l else w.getLsbD m := by
  unfold irqBit
  by_cases h : m = n
  · subst h; cases l <;> simp [hm]
  · have : ¬ (m - n = 0 ∧ n ≤ m) := by omega
    cases l <;> simp [hm, h] <;> intro hle <;> omega

theorem getLsbD_foldl_irqBit (f : Nat → Bool) (l : List Nat) (w : BitVec 224) (m : Nat) (hm : m < 224) :
    (l.foldl (fun w n => irqBit w n (f n)) w).getLsbD m = if m ∈ l then f m else w.getLsbD m := by
  induction l generalizing w with
  | nil => simp
  | cons n t ih =>
    rw [List.foldl_cons, ih, getLsbD_irqBit _ _ _ _ hm]
    by_cases h : m = n <;> by_cases h' : m ∈ t <;> simp [h, h']

/-- A source that does not follow the state by level stays as it was. -/
theorem settle_irqs_other {n : Nat} (h : n ∉ levelSources) : (settle c).irqs.getLsbD n = c.irqs.getLsbD n := by
  by_cases hn : n < 224
  · simp only [settle]; rw [getLsbD_foldl_irqBit _ _ _ _ hn, if_neg h]
  · rw [BitVec.getLsbD_of_ge _ _ (by omega), BitVec.getLsbD_of_ge _ _ (by omega)]

theorem level_lt : ∀ n ∈ levelSources, n < 224 := by decide

/-- A source that follows the state by level is at its level. -/
theorem settle_irqs_level {n : Nat} (h : n ∈ levelSources) : (settle c).irqs.getLsbD n = c.level n := by
  simp only [settle]; rw [getLsbD_foldl_irqBit _ _ _ _ (level_lt n h), if_pos h]

/-- Raising one source leaves the others. -/
theorem irq_irqs_other {n m : Nat} (h : m ≠ n) : (c.irq n).irqs.getLsbD m = c.irqs.getLsbD m := by
  simp only [Chip.irq_irqs, BitVec.getLsbD_or, BitVec.getLsbD_shiftLeft, BitVec.getLsbD_one]
  by_cases hm : m < 224 <;> simp [hm] <;> intro _ <;> omega

/-- A source raised is pending. -/
theorem irq_irqs_same {n : Nat} (h : n < 224) : (c.irq n).irqs.getLsbD n = true := by simp [h]

theorem SameIrqs.refl (l : List Nat) (c : Chip) : SameIrqs l c c := fun _ _ _ => rfl

theorem SameIrqs.of_irqs {l : List Nat} {c c' : Chip} (h : c'.irqs = c.irqs) : SameIrqs l c c' := fun _ _ _ => by rw [h]

theorem SameIrqs.trans {l : List Nat} {a b c : Chip} (h : SameIrqs l a b) (g : SameIrqs l b c) : SameIrqs l a c :=
  fun n hn hl => (g n hn hl).trans (h n hn hl)

theorem SameIrqs.irq {l : List Nat} {a c : Chip} (h : SameIrqs l a c) {n : Nat} (m : n ∈ l) : SameIrqs l a (c.irq n) :=
  fun k hk hl => (irq_irqs_other c fun e => hk (by rw [e]; exact m)).trans (h k hk hl)

theorem SameIrqs.settle {l : List Nat} {a c : Chip} (h : SameIrqs l a c) : SameIrqs l a (settle c) :=
  fun k hk hl => (settle_irqs_other c hl).trans (h k hk hl)

theorem SameIrqs.mono {l l' : List Nat} {a c : Chip} (h : SameIrqs l a c) (s : ∀ n ∈ l, n ∈ l') : SameIrqs l' a c :=
  fun n hn => h n (fun m => hn (s n m))

/-! ## Commands -/

/-- What a command's effect `f` does, said of the state it leaves. -/
theorem does_run {f : Chip → Chip} {s : State} {P : Chip → Prop}
    (h : P (settle (f { s.chip with cyc := s.chip.cyc + 1 }))) : Does s (run f s) P := ⟨_, rfl, rfl, h⟩

/-- After a command the level-driven interrupts agree with the state. -/
theorem after_settled (s : State) (f : Chip → Chip) : (s.after f).settled := fun _ hn => settle_irqs_level _ hn

/-! ## Reports -/

/-- Everything a report can do to the registers. -/
theorem SameRegs.log {l : List Nat} {a c : Chip} (h : SameRegs l a c) (src code : Nat) (detail : Word)
    (m : ∀ n ∈ logRegs src, n ∈ l) : SameRegs l a (c.log src code detail) := by
  unfold Chip.log
  dsimp only
  split
  · exact h
  · split
    · have h1 : SameRegs l a (c.inc rERR_LOST src 0) := SameRegs.wr h _ (m _ (by simp [logRegs]))
      have h2 : SameRegs l a ((c.inc rERR_LOST src 0).wb rERR_STATUS 0 0 1 true) :=
        SameRegs.wr h1 _ (m _ (by simp [logRegs]))
      split
      · exact h2
      · exact h2
    · exact h

/-- Everything a report can do to the interrupts. -/
theorem SameIrqs.log {l : List Nat} {a c : Chip} (h : SameIrqs l a c) (src code : Nat) (detail : Word)
    (m : 209 ∈ l) : SameIrqs l a (c.log src code detail) := by
  unfold Chip.log
  dsimp only
  split
  · exact h
  · split
    · split
      · exact SameIrqs.irq (c := (c.inc rERR_LOST src 0).wb rERR_STATUS 0 0 1 true) h m
      · exact h
    · exact h

/-- A report changes nothing but registers, interrupts and its queue. -/
theorem rest_log (src code : Nat) (detail : Word) :
    (c.log src code detail).rest = { c.rest with err := (c.log src code detail).err } := by
  unfold Chip.log
  dsimp only
  split
  · rfl
  · split
    · split <;> rfl
    · rfl

/-- A report that finds the reports of its source enabled and room in its queue is queued with its stamp. -/
theorem log_queues (src code : Nat) (detail : Word) (he : c.rb rERR_CTRL 0 0 0 = true) (hs : src < errSources)
    (hq : (mget [] c.err.queues src).length < 4) :
    c.log src code detail = { c with err := { c.err with queues := mset ([] : List Rep) c.err.queues src (mget ([] : List Rep) c.err.queues src ++ [(⟨code, detail, c.now, c.cyc⟩ : Rep)]) } } := by
  unfold Chip.log
  rw [if_neg (by simp [he]; omega), if_neg (by omega)]

@[simp] theorem log_cyc (src code : Nat) (detail : Word) : (c.log src code detail).cyc = c.cyc := by
  unfold Chip.log
  dsimp only
  split
  · rfl
  · split
    · split <;> rfl
    · rfl

@[simp] theorem log_mem (src code : Nat) (detail : Word) : (c.log src code detail).mem = c.mem := by
  unfold Chip.log
  dsimp only
  split
  · rfl
  · split
    · split <;> rfl
    · rfl

@[simp] theorem log_rsp (src code : Nat) (detail : Word) : (c.log src code detail).rsp = c.rsp := by
  unfold Chip.log
  dsimp only
  split
  · rfl
  · split
    · split <;> rfl
    · rfl

/-! ## Memory -/

/-- A byte read after it is written gives what was written. -/
@[simp] theorem Chip.byte_setByte_same (a : Nat) (v : Byte) : (c.setByte a v).byte a = v := mget_mset_same _ v c.mem a

/-- Writing one byte leaves the others. -/
theorem Chip.byte_setByte_other {a b : Nat} (v : Byte) (h : b ≠ a) : (c.setByte a v).byte b = c.byte b :=
  mget_mset_other _ _ v c.mem h

/-- Bytes stored leave every byte outside them. -/
theorem Chip.byte_setBytes_other (l : List Byte) : ∀ (c : Chip) (a b : Nat), (b < a ∨ a + l.length ≤ b) →
    (c.setBytes a l).byte b = c.byte b := by
  induction l with
  | nil => intros; rfl
  | cons v t ih =>
    intro c a b h
    simp only [List.length_cons] at h
    rw [Chip.setBytes, ih _ _ _ (by omega), Chip.byte_setByte_other _ _ (by omega)]

/-- Bytes stored read back. -/
theorem Chip.byte_setBytes_same (l : List Byte) : ∀ (c : Chip) (a k : Nat) (h : k < l.length),
    (c.setBytes a l).byte (a + k) = l[k] := by
  induction l with
  | nil => intro _ _ _ h; simp at h
  | cons v t ih =>
    intro c a k h
    cases k with
    | zero =>
      rw [Chip.setBytes, Chip.byte_setBytes_other t _ _ _ (by omega)]
      simp
    | succ k =>
      have := ih (c.setByte a v) (a + 1) k (by simpa using h)
      rw [Chip.setBytes]
      simpa [Nat.add_assoc, Nat.add_comm 1 k] using this

/-- Bytes stored change memory and nothing else. -/
theorem Chip.setBytes_eq (l : List Byte) : ∀ (c : Chip) (a : Nat), c.setBytes a l = { c with mem := (c.setBytes a l).mem } := by
  induction l with
  | nil => intros; rfl
  | cons v t ih => intro c a; rw [Chip.setBytes, ih]; rfl

theorem wf_setByte (a : Nat) (v : Byte) (h : Memory.wf c.mem = true) : Memory.wf (c.setByte a v).mem = true :=
  mwf_mset memDefault c.mem a v h

/-- Storing bytes keeps the canonical form of memory. -/
theorem wf_setBytes (l : List Byte) : ∀ (c : Chip) (a : Nat), Memory.wf c.mem = true → Memory.wf (c.setBytes a l).mem = true := by
  induction l with
  | nil => intro c a h; exact h
  | cons v t ih => intro c a h; exact ih _ _ (wf_setByte c a v h)

theorem wf_setWord (a : Nat) (w : Word) (h : Memory.wf c.mem = true) : Memory.wf (c.setWord a w).mem = true :=
  wf_setBytes _ c a h

/-- Storing words keeps the canonical form of memory. -/
theorem wf_setWords (l : List Word) : ∀ (c : Chip) (a : Nat), Memory.wf c.mem = true → Memory.wf (c.setWords a l).mem = true := by
  induction l with
  | nil => intro c a h; exact h
  | cons w t ih => intro c a h; exact ih _ _ (wf_setWord c a w h)

/-- Taking away the bytes a predicate of addresses does not hold of keeps the canonical form. -/
theorem wf_filter (p : Host.Cell → Bool) (h : Memory.wf c.mem = true) : Memory.wf (c.mem.filter p) = true :=
  mwfFrom_filter memDefault p c.mem none h

theorem wf_reset : Memory.wf State.reset.chip.mem = true := rfl

end Sys2Proof.Machine
end

