-- ==== Sys2Proof/Laws/Fields.lean ====
section
/-! SUPPORT. The laws of a word's fields: what a field reads after it, or another, is set. -/

namespace Sys2Proof.Machine

theorem bit_eq (w : Word) (i : Nat) : bit w i = w.getLsbD i := by
  unfold bit BitVec.getLsbD
  rw [Nat.testBit_eq_decide_div_mod_eq]
  by_cases h : w.toNat / 2 ^ i % 2 = 1 <;> simp [h]

theorem getLsbD_mask (hi lo k : Nat) : (mask hi lo).getLsbD k = (decide (k < 32) && decide (lo ≤ k) && decide (k ≤ hi)) := by
  unfold mask
  rw [BitVec.getLsbD_shiftLeft, BitVec.getLsbD_ofNat, Nat.testBit_two_pow_sub_one]
  by_cases h1 : k < 32 <;> by_cases h2 : lo ≤ k <;> simp [h1, h2]
  by_cases h3 : k ≤ hi <;> simp [h3] <;> omega

/-- Bit `k` of a word with a field set. -/
theorem getLsbD_setFld (w : Word) (hi lo v k : Nat) (hk : k < 32) :
    (setFld w hi lo v).getLsbD k = if lo ≤ k ∧ k ≤ hi then v.testBit (k - lo) else w.getLsbD k := by
  unfold setFld
  rw [BitVec.getLsbD_or, BitVec.getLsbD_and, BitVec.getLsbD_and, BitVec.getLsbD_not, getLsbD_mask, BitVec.getLsbD_shiftLeft,
    BitVec.getLsbD_ofNat]
  by_cases h : lo ≤ k ∧ k ≤ hi
  · simp [hk, h.1, h.2, show ¬ k < lo by omega, show k - lo < 32 by omega]
  · rw [if_neg h]
    by_cases h1 : lo ≤ k
    · simp [hk, h1, show ¬ k ≤ hi by omega]
    · simp [hk, h1]

theorem testBit_fld (w : Word) (hi lo k : Nat) : (fld w hi lo).testBit k = (decide (k < hi + 1 - lo) && w.getLsbD (k + lo)) := by
  unfold fld
  rw [Nat.testBit_mod_two_pow, Nat.testBit_div_two_pow]
  rfl

/-- A field reads back what it was set to, as far as it is wide. -/
theorem fld_setFld_same (w : Word) {hi lo : Nat} (v : Nat) (h : hi < 32) :
    fld (setFld w hi lo v) hi lo = v % 2 ^ (hi + 1 - lo) := by
  apply Nat.eq_of_testBit_eq
  intro k
  rw [testBit_fld, Nat.testBit_mod_two_pow]
  by_cases hk : k < hi + 1 - lo
  · rw [getLsbD_setFld _ _ _ _ _ (by omega), if_pos (by omega)]
    simp
  · simp [hk]

/-- Setting one field leaves another. -/
theorem fld_setFld_other (w : Word) {hi lo hi' lo' : Nat} (v : Nat) (h : hi < lo' ∨ hi' < lo) :
    fld (setFld w hi' lo' v) hi lo = fld w hi lo := by
  apply Nat.eq_of_testBit_eq
  intro k
  rw [testBit_fld, testBit_fld]
  by_cases hk : k < hi + 1 - lo
  · by_cases h32 : k + lo < 32
    · rw [getLsbD_setFld _ _ _ _ _ h32, if_neg (by omega)]
    · rw [BitVec.getLsbD_of_ge _ _ (by omega), BitVec.getLsbD_of_ge _ _ (by omega)]
  · simp [hk]

theorem bit_setFld_other (w : Word) {i hi lo : Nat} (v : Nat) (h : i < lo ∨ hi < i) : bit (setFld w hi lo v) i = bit w i := by
  rw [bit_eq, bit_eq]
  by_cases hi : i < 32
  · rw [getLsbD_setFld _ _ _ _ _ hi, if_neg (by omega)]
  · rw [BitVec.getLsbD_of_ge _ _ (by omega), BitVec.getLsbD_of_ge _ _ (by omega)]

/-- A bit reads back what it was set to. -/
theorem bit_setBit_same (w : Word) {i : Nat} (v : Bool) (h : i < 32) : bit (setBit w i v) i = v := by
  unfold setBit
  rw [bit_eq, getLsbD_setFld _ _ _ _ _ h, if_pos (by omega)]
  cases v <;> simp

/-- Setting one bit leaves another. -/
theorem bit_setBit_other (w : Word) {i j : Nat} (v : Bool) (h : i ≠ j) : bit (setBit w j v) i = bit w i :=
  bit_setFld_other w _ (by omega)

/-- Setting one bit leaves a field it is not in. -/
theorem fld_setBit_other (w : Word) {i hi lo : Nat} (v : Bool) (h : i < lo ∨ hi < i) : fld (setBit w i v) hi lo = fld w hi lo :=
  fld_setFld_other w _ (by omega)

theorem bit_or (v w : Word) (i : Nat) : bit (v ||| w) i = (bit v i || bit w i) := by simp [bit_eq]

theorem bit_and (v w : Word) (i : Nat) : bit (v &&& w) i = (bit v i && bit w i) := by simp [bit_eq]

theorem bit_not (v : Word) {i : Nat} (h : i < 32) : bit (~~~v) i = !bit v i := by simp [bit_eq, h]

/-- Two words with the same bits in a field have the same field. -/
theorem fld_congr {v w : Word} {hi lo : Nat} (h : ∀ k, lo ≤ k → k ≤ hi → bit v k = bit w k) : fld v hi lo = fld w hi lo := by
  apply Nat.eq_of_testBit_eq
  intro k
  rw [testBit_fld, testBit_fld]
  by_cases hk : k < hi + 1 - lo
  · have := h (k + lo) (by omega) (by omega)
    rw [bit_eq, bit_eq] at this
    rw [this]
  · simp [hk]

end Sys2Proof.Machine
end

