-- ==== Sys2Proof/Laws/Bus.lean ====
section
/-! SUPPORT. The laws of the bus: where each commanded register stands, and what a write or a read that reaches it does. -/

namespace Sys2Proof.Machine

/-! ## Where the commanded registers stand -/

theorem rBCTRL_stands : ∀ i : Fin 6, rBCTRL.stands i 0 := by unfold RegRow.stands; decide
theorem rCANV_CTRL_stands : ∀ i : Fin 4, rCANV_CTRL.stands i 0 := by unfold RegRow.stands; decide
theorem rCANV_TOUT_stands : ∀ i : Fin 4, rCANV_TOUT.stands i 0 := by unfold RegRow.stands; decide
theorem rCDR_CTRL_stands : rCDR_CTRL.stands 0 0 := by unfold RegRow.stands; decide
theorem rCDR_SWAP_stands : rCDR_SWAP.stands 0 0 := by unfold RegRow.stands; decide
theorem rCEL_CTRL_stands : rCEL_CTRL.stands 0 0 := by unfold RegRow.stands; decide
theorem rCMP_CTRL_stands : ∀ i : Fin 16, rCMP_CTRL.stands i 0 := by unfold RegRow.stands; decide
theorem rCNT_SET_stands : rCNT_SET.stands 0 0 := by unfold RegRow.stands; decide
theorem rCOMM_CTRL_stands : rCOMM_CTRL.stands 0 0 := by unfold RegRow.stands; decide
theorem rCOMM_FLOOR_stands : rCOMM_FLOOR.stands 0 0 := by unfold RegRow.stands; decide
theorem rCOMM_KNEE_stands : rCOMM_KNEE.stands 0 0 := by unfold RegRow.stands; decide
theorem rCOMM_TRIP_stands : rCOMM_TRIP.stands 0 0 := by unfold RegRow.stands; decide
theorem rCVT_CTRL_stands : rCVT_CTRL.stands 0 0 := by unfold RegRow.stands; decide
theorem rDMA_CFG_stands : ∀ i : Fin 16, rDMA_CFG.stands i 0 := by unfold RegRow.stands; decide
theorem rDMA_CMD_stands : ∀ i : Fin 16, rDMA_CMD.stands i 0 := by unfold RegRow.stands; decide
theorem rDMA_CTRL_stands : rDMA_CTRL.stands 0 0 := by unfold RegRow.stands; decide
theorem rECC_INJ_stands : rECC_INJ.stands 0 0 := by unfold RegRow.stands; decide
theorem rERR_RDSEQ_stands : rERR_RDSEQ.stands 0 0 := by unfold RegRow.stands; decide
theorem rFLASH_CTRL_stands : rFLASH_CTRL.stands 0 0 := by unfold RegRow.stands; decide
theorem rGRID_CTRL_stands : rGRID_CTRL.stands 0 0 := by unfold RegRow.stands; decide
theorem rLC_REQ_stands : rLC_REQ.stands 0 0 := by unfold RegRow.stands; decide
theorem rLDISC_stands : ∀ i : Fin 48, rLDISC.stands i 0 := by unfold RegRow.stands; decide
theorem rLUT_FILL_stands : rLUT_FILL.stands 0 0 := by unfold RegRow.stands; decide
theorem rMAC_CTRL_stands : ∀ i : Fin 3, rMAC_CTRL.stands i 0 := by unfold RegRow.stands; decide
theorem rMDIO_stands : rMDIO.stands 0 0 := by unfold RegRow.stands; decide
theorem rMRG_CTRL_stands : ∀ i : Fin 16, rMRG_CTRL.stands i 0 := by unfold RegRow.stands; decide
theorem rMRG_SKEWMAX_stands : ∀ i : Fin 16, rMRG_SKEWMAX.stands i 0 := by unfold RegRow.stands; decide
theorem rNODE_W0_stands : rNODE_W0.stands 0 0 := by unfold RegRow.stands; decide
theorem rPAT_RUN_stands : rPAT_RUN.stands 0 0 := by unfold RegRow.stands; decide
theorem rPRS_CTRL_stands : rPRS_CTRL.stands 0 0 := by unfold RegRow.stands; decide
theorem rPRS_RUN_stands : rPRS_RUN.stands 0 0 := by unfold RegRow.stands; decide
theorem rPRS_SUB_stands : ∀ i : Fin 16, rPRS_SUB.stands i 7 := by unfold RegRow.stands; decide
theorem rQUE_POP_stands : ∀ i : Fin 32, rQUE_POP.stands i 0 := by unfold RegRow.stands; decide
theorem rQUE_PUSH_stands : ∀ i : Fin 32, rQUE_PUSH.stands i 0 := by unfold RegRow.stands; decide
theorem rQUE_CFG_stands : ∀ i : Fin 32, rQUE_CFG.stands i 0 := by unfold RegRow.stands; decide
theorem rRAS_COMMIT_stands : rRAS_COMMIT.stands 0 0 := by unfold RegRow.stands; decide
theorem rRAS_CTRL_stands : rRAS_CTRL.stands 0 0 := by unfold RegRow.stands; decide
theorem rRDM_CTRL_stands : ∀ i : Fin 48, rRDM_CTRL.stands i 0 := by unfold RegRow.stands; decide
theorem rRQ_TAIL_stands : ∀ (i : Fin 3) (j : Fin 8), rRQ_TAIL.stands i j := by unfold RegRow.stands; decide
theorem rRSTREQ_stands : rRSTREQ.stands 0 0 := by unfold RegRow.stands; decide
theorem rRUNSLOT_stands : rRUNSLOT.stands 0 0 := by unfold RegRow.stands; decide
theorem rSLOT_CTRL_stands : ∀ i : Fin 32, rSLOT_CTRL.stands i 0 := by unfold RegRow.stands; decide
theorem rSNAP_stands : ∀ i : Fin 4, rSNAP.stands i 0 := by unfold RegRow.stands; decide
theorem rTIME_ADDEND_stands : rTIME_ADDEND.stands 0 0 := by unfold RegRow.stands; decide
theorem rTIME_CTRL_stands : rTIME_CTRL.stands 0 0 := by unfold RegRow.stands; decide
theorem rTIME_SERVO_stands : rTIME_SERVO.stands 0 0 := by unfold RegRow.stands; decide
theorem rTQ_TAIL_stands : ∀ (i : Fin 3) (j : Fin 4), rTQ_TAIL.stands i j := by unfold RegRow.stands; decide
theorem rTRL_SL_stands : ∀ i : Fin 16, rTRL_SL.stands i 0 := by unfold RegRow.stands; decide
theorem rTXTS_TAG_stands : rTXTS_TAG.stands 0 0 := by unfold RegRow.stands; decide
theorem rVINTAGE_stands : rVINTAGE.stands 0 0 := by unfold RegRow.stands; decide
theorem rVLT_CMD_stands : ∀ i : Fin 4, rVLT_CMD.stands i 0 := by unfold RegRow.stands; decide
theorem rVLT_CTRL_stands : rVLT_CTRL.stands 0 0 := by unfold RegRow.stands; decide
theorem rWDOG_KICK_stands : ∀ i : Fin 3, rWDOG_KICK.stands i 0 := by unfold RegRow.stands; decide

/-- No register of a row stands beyond its last. -/
theorem RegRow.find_beyond (r : RegRow) {n : Nat} (h : r.base + (r.n1 - 1) * r.s1 + (r.n2 - 1) * r.s2 < n) :
    r.find n = none := by
  have h1 : ∀ x, (if r.s1 = 0 then 0 else min x (r.n1 - 1)) * r.s1 ≤ (r.n1 - 1) * r.s1 := fun x =>
    Nat.mul_le_mul_right _ (by split <;> omega)
  have h2 : ∀ x, (if r.s2 = 0 then 0 else min x (r.n2 - 1)) * r.s2 ≤ (r.n2 - 1) * r.s2 := fun x =>
    Nat.mul_le_mul_right _ (by split <;> omega)
  unfold RegRow.find
  split
  · rfl
  · dsimp only
    rw [if_neg]
    intro e
    have a1 := h1 ((n - r.base) / r.s1)
    have a2 := h2 ((n - r.base - (if r.s1 = 0 then 0 else min ((n - r.base) / r.s1) (r.n1 - 1)) * r.s1) / r.s2)
    omega

/-- Every place of every table of PIX_LUT stands (R214, R216). -/
theorem rPIX_LUT_stands (t : Fin 8) (i : Fin 1025) : rPIX_LUT.stands t i := by
  have ht := t.isLt
  have hi := i.isLt
  have he : rPIX_LUT.addr t i = 0x10082000 + t * 0x1400 + i * 4 := by simp only [RegRow.addr, rPIX_LUT]
  have f1 : rPIX_LUT.base = 0x10082000 := rfl
  have f2 : rPIX_LUT.s1 = 0x1400 := rfl
  have f3 : rPIX_LUT.s2 = 4 := rfl
  have f4 : rPIX_LUT.n1 = 8 := rfl
  have f5 : rPIX_LUT.n2 = 1025 := rfl
  have hb : rPIX_LUT.addr t i / 0x10000 = 0x1008 := by omega
  refine ⟨?_, by omega, by omega, by omega⟩
  have hf : rPIX_LUT.find (rPIX_LUT.addr t i) = some (t.val, i.val) := by
    have e1 : (0x10082000 + t.val * 0x1400 + i.val * 4 - 0x10082000) / 0x1400 = t := by omega
    have e2 : (0x10082000 + t.val * 0x1400 + i.val * 4 - 0x10082000 - t.val * 0x1400) / 4 = i := by omega
    have hi : (if rPIX_LUT.s1 = 0 then 0 else min ((rPIX_LUT.addr t i - rPIX_LUT.base) / rPIX_LUT.s1) (rPIX_LUT.n1 - 1)) = t := by
      rw [f1, f2, f4, he, e1, if_neg (by decide)]
      omega
    unfold RegRow.find
    rw [if_neg (by rw [f1, he]; omega)]
    dsimp only
    rw [hi]
    have hj : (if rPIX_LUT.s2 = 0 then 0 else min ((rPIX_LUT.addr t i - rPIX_LUT.base - t.val * rPIX_LUT.s1) / rPIX_LUT.s2) (rPIX_LUT.n2 - 1)) = i := by
      rw [f1, f2, f3, f5, he, e2, if_neg (by decide)]
      omega
    rw [hj]
    exact if_pos rfl
  unfold regAt
  rw [hb]
  show (regsPIX.findSome? _) = _
  unfold regsPIX
  have hn : ∀ r : RegRow, r.base + (r.n1 - 1) * r.s1 + (r.n2 - 1) * r.s2 < 0x10082000 → r.find (rPIX_LUT.addr t i) = none :=
    fun r h => r.find_beyond (by omega)
  simp only [List.findSome?_cons, hn rPIX_CTRL (by decide), hn rPIX_STATUS (by decide), hn rLUT_FILL (by decide), hn rCVT_CTRL (by decide),
    hn rCVT_SRC (by decide), hn rCVT_TILE (by decide), hn rCVT_IDX (by decide), hn rCVT_CNT (by decide), hn rPIX_CNT (by decide),
    hn rTBL_ADDR (by decide), hn rTBL_DATA (by decide), hn rDERBASE (by decide), hn rPIX_ZONE (by decide), hf, Option.map]

/-! ## What each commanded register does beyond its access codes -/

theorem rBCTRL_hook : rBCTRL.hook = .portBctrl := rfl
theorem rCANV_CTRL_hook : rCANV_CTRL.hook = .canvCtrl := rfl
theorem rCANV_TOUT_hook : rCANV_TOUT.hook = .canvTout := rfl
theorem rCDR_CTRL_hook : rCDR_CTRL.hook = .cdrCtrl := rfl
theorem rCDR_SWAP_hook : rCDR_SWAP.hook = .cdrSwap := rfl
theorem rCEL_CTRL_hook : rCEL_CTRL.hook = .celCtrl := rfl
theorem rCMP_CTRL_hook : rCMP_CTRL.hook = .cmpCtrl := rfl
theorem rCNT_SET_hook : rCNT_SET.hook = .prsCnt := rfl
theorem rCOMM_CTRL_hook : rCOMM_CTRL.hook = .drvLock := rfl
theorem rCOMM_FLOOR_hook : rCOMM_FLOOR.hook = .drvCommReg := rfl
theorem rCOMM_KNEE_hook : rCOMM_KNEE.hook = .drvCommReg := rfl
theorem rCOMM_TRIP_hook : rCOMM_TRIP.hook = .drvCommReg := rfl
theorem rCVT_CTRL_hook : rCVT_CTRL.hook = .cvtCtrl := rfl
theorem rDMA_CFG_hook : rDMA_CFG.hook = .dmaCfg := rfl
theorem rDMA_CMD_hook : rDMA_CMD.hook = .dmaCmd := rfl
theorem rDMA_CTRL_hook : rDMA_CTRL.hook = .dmaCtrl := rfl
theorem rECC_INJ_hook : rECC_INJ.hook = .plain := rfl
theorem rERR_RDSEQ_hook : rERR_RDSEQ.hook = .plain := rfl
theorem rFLASH_CTRL_hook : rFLASH_CTRL.hook = .flashCtrl := rfl
theorem rGRID_CTRL_hook : rGRID_CTRL.hook = .gridCtrl := rfl
theorem rLC_REQ_hook : rLC_REQ.hook = .vltLcReq := rfl
theorem rLDISC_hook : rLDISC.hook = .ldisc := rfl
theorem rLUT_FILL_hook : rLUT_FILL.hook = .lutFill := rfl
theorem rMAC_CTRL_hook : rMAC_CTRL.hook = .macCtrl := rfl
theorem rMDIO_hook : rMDIO.hook = .macMdio := rfl
theorem rMRG_CTRL_hook : rMRG_CTRL.hook = .mrgCtrl := rfl
theorem rMRG_SKEWMAX_hook : rMRG_SKEWMAX.hook = .skewMax := rfl
theorem rNODE_W0_hook : rNODE_W0.hook = .drvNode := rfl
theorem rPAT_RUN_hook : rPAT_RUN.hook = .drvPatRun := rfl
theorem rPRS_CTRL_hook : rPRS_CTRL.hook = .prsCtrl := rfl
theorem rPRS_RUN_hook : rPRS_RUN.hook = .prsRun := rfl
theorem rPRS_SUB_hook : rPRS_SUB.hook = .prsSub := rfl
theorem rQUE_POP_hook : rQUE_POP.hook = .quePop := rfl
theorem rQUE_PUSH_hook : rQUE_PUSH.hook = .quePush := rfl
theorem rQUE_CFG_hook : rQUE_CFG.hook = .queCfg := rfl
theorem rRAS_COMMIT_hook : rRAS_COMMIT.hook = .rasCommit := rfl
theorem rRAS_CTRL_hook : rRAS_CTRL.hook = .rasCtrl := rfl
theorem rRDM_CTRL_hook : rRDM_CTRL.hook = .rdmCtrl := rfl
theorem rRQ_TAIL_hook : rRQ_TAIL.hook = .rqTail := rfl
theorem rRSTREQ_hook : rRSTREQ.hook = .sysRstreq := rfl
theorem rRUNSLOT_hook : rRUNSLOT.hook = .sysRunslot := rfl
theorem rSLOT_CTRL_hook : rSLOT_CTRL.hook = .slotCtrl := rfl
theorem rSNAP_hook : rSNAP.hook = .timeSnap := rfl
theorem rTIME_ADDEND_hook : rTIME_ADDEND.hook = .plain := rfl
theorem rTIME_CTRL_hook : rTIME_CTRL.hook = .timeCtrl := rfl
theorem rTIME_SERVO_hook : rTIME_SERVO.hook = .timeServo := rfl
theorem rTQ_TAIL_hook : rTQ_TAIL.hook = .tqTail := rfl
theorem rTRL_SL_hook : rTRL_SL.hook = .trlSl := rfl
theorem rTXTS_TAG_hook : rTXTS_TAG.hook = .txtsTag := rfl
theorem rVINTAGE_hook : rVINTAGE.hook = .vltVintage := rfl
theorem rVLT_CMD_hook : rVLT_CMD.hook = .vltCmd := rfl
theorem rVLT_CTRL_hook : rVLT_CTRL.hook = .vltCtrl := rfl
theorem rWDOG_KICK_hook : rWDOG_KICK.hook = .wdogKick := rfl
theorem rPIX_LUT_hook : rPIX_LUT.hook = .lutWin := rfl

/-! ## The access codes of a write (R6) -/

/-- A register all of whose bits are RW takes the word written. -/
theorem RegRow.merge_full {r : RegRow} (h : r.rw = 0xFFFFFFFF) (h2 : r.w1c = 0) (o v : Word) : r.merge o v = v := by
  simp only [RegRow.merge, h, h2]
  rw [show BitVec.ofNat 32 0xFFFFFFFF = BitVec.allOnes 32 from rfl, show BitVec.ofNat 32 0 = 0#32 from rfl]
  simp only [BitVec.not_allOnes, BitVec.and_zero, BitVec.zero_or, BitVec.and_allOnes, BitVec.not_zero]

/-- One bit of a register after a write. -/
theorem RegRow.bit_merge {r : RegRow} {o v : Word} {k : Nat} (hk : k < 32) : bit (r.merge o v) k =
    (((bit o k && !Nat.testBit r.rw k) || (bit v k && Nat.testBit r.rw k)) && !(bit v k && Nat.testBit r.w1c k)) := by
  simp only [RegRow.merge, bit_eq, BitVec.getLsbD_and, BitVec.getLsbD_or, BitVec.getLsbD_not, BitVec.getLsbD_ofNat]
  simp [hk]

/-- A field all of whose bits are RW takes what is written there. -/
theorem RegRow.fld_merge {r : RegRow} {o v : Word} {hi lo : Nat} (h : hi < 32)
    (hr : ∀ k, lo ≤ k → k ≤ hi → Nat.testBit r.rw k = true ∧ Nat.testBit r.w1c k = false) :
    fld (r.merge o v) hi lo = fld v hi lo := by
  apply fld_congr
  intro k h1 h2
  rw [RegRow.bit_merge (by omega), (hr k h1 h2).1, (hr k h1 h2).2]
  simp

/-- A field that a write's naming bit does not touch. -/
theorem fld_or_other {v w : Word} {hi lo : Nat} (h : ∀ k, lo ≤ k → k ≤ hi → bit w k = false) : fld (v ||| w) hi lo = fld v hi lo := by
  apply fld_congr
  intro k h1 h2
  rw [bit_or, h k h1 h2]
  simp

/-! ## What a write or a read that reaches its register does -/

variable {c : Chip} {a : Access} {r : RegRow} {i j : Nat}

theorem RegRow.stands.word (h : r.stands i j) : wordAddr (BitVec.ofNat 32 (r.addr i j)) = r.addr i j := by
  obtain ⟨-, -, h2, h3⟩ := h
  unfold wordAddr
  rw [BitVec.toNat_ofNat]
  omega

theorem RegRow.stands.notPcw (h : r.stands i j) : inPcw a (r.addr i j) = false := by
  obtain ⟨-, h1, -, -⟩ := h
  have : ¬ r.addr i j < pcwBase + 0x100 := by unfold pcwBase; omega
  simp [inPcw, this]

theorem RegRow.stands.area (h : r.stands i j) (hr : c.refusal a (r.addr i j) = none) :
    areaFor a.master (r.addr i j) = .regs := by
  obtain ⟨-, h1, h2, -⟩ := h
  generalize r.addr i j = n at *
  have ho : areaOf n = .regs := by
    unfold areaOf
    rw [if_neg (by omega), if_neg (by simp; omega), if_pos (by simp; omega)]
  by_cases hm : a.master = .press
  · by_cases hv : n / 0x10000 = 0x100F ∨ n / 0x10000 = 0x1012
    · exfalso
      have : areaFor a.master n = .unmapped := by
        unfold areaFor
        simp only [hm, beq_self_eq_true, if_true]
        rw [if_neg (by simp; omega), if_neg (by omega), if_pos (by simpa using hv)]
      unfold Chip.refusal at hr
      rw [this] at hr
      simp at hr
    · unfold areaFor
      simp only [hm, beq_self_eq_true, if_true]
      rw [if_neg (by simp; omega), if_neg (by omega), if_neg (by simpa using hv), ho]
  · unfold areaFor
    rw [if_neg (by simpa using hm), ho]

/-- A write that reaches register (i, j) of row `r` and is not refused is that register's write. -/
theorem busWrite_regWrite {v : Word} (h : r.stands i j) (ht : c.takes a r i j v) :
    c.busWrite a (BitVec.ofNat 32 (r.addr i j)) v = c.regWrite a (BitVec.ofNat 32 (r.addr i j)) r i j v := by
  obtain ⟨h1, h2, -, h4⟩ := ht
  have ha := h.area h2
  unfold Chip.busWrite
  simp only [h.word, h.notPcw, h1, h2, h4, ha, h.1]
  simp

/-- A write that reaches register (i, j) of row `r` merges what is written by the access codes, answers the bus, and does
what the register does beyond that; of the comparators' CTRL registers, whose match comes first, `regWrite` tells. -/
theorem busWrite_takes {v : Word} (h : r.stands i j) (ht : c.takes a r i j v) (hk : (r.hook == .cmpCtrl) = false) :
    c.busWrite a (BitVec.ofNat 32 (r.addr i j)) v
      = ((c.wr r i j (r.merge (c.rd r i j) v)).answer 0).afterWrite a r i j (c.rd r i j) v := by
  rw [busWrite_regWrite h ht]
  unfold Chip.regWrite
  simp only [ht.2.2.1, hk]
  simp

/-- A read that reaches register (i, j) of row `r` is that register's read. -/
theorem busRead_reads (h : r.stands i j) (ht : c.reads a r i j) :
    c.busRead a (BitVec.ofNat 32 (r.addr i j)) = c.regRead a r i j := by
  obtain ⟨h1, h2, h3⟩ := ht
  have ha := h.area h2
  unfold Chip.busRead
  simp only [h.word, h.notPcw, h1, h2, h3, ha, h.1]
  simp

/-- Counting the command changes nothing that decides whether a write is taken. -/
theorem takes_cyc {v : Word} {n : Nat} : Chip.takes { c with cyc := n } a r i j v ↔ c.takes a r i j v := Iff.rfl

theorem reads_cyc {n : Nat} : Chip.reads { c with cyc := n } a r i j ↔ c.reads a r i j := Iff.rfl

/-- A command that writes a register, when the write is taken. -/
theorem does_wrReg {s : State} {v : Word} {P : Chip → Prop} (h : r.stands i j) (ht : s.chip.takes a r i j v)
    (hk : (r.hook == .cmpCtrl) = false)
    (hp : ∀ c : Chip, c = { s.chip with cyc := s.chip.cyc + 1 } →
      P (settle (((c.wr r i j (r.merge (c.rd r i j) v)).answer 0).afterWrite a r i j (c.rd r i j) v))) :
    Does s (wrReg a r i j v s) P := by
  unfold wrReg
  refine does_run ?_
  rw [busWrite_takes h (takes_cyc.mpr ht) hk]
  exact hp _ rfl

/-- A command that reads a register, when the read reaches it. -/
theorem does_rdReg {s : State} {P : Chip → Prop} (h : r.stands i j) (ht : s.chip.reads a r i j)
    (hp : ∀ c : Chip, c = { s.chip with cyc := s.chip.cyc + 1 } → P (settle (c.regRead a r i j))) :
    Does s (rdReg a r i j s) P := by
  unfold rdReg
  refine does_run ?_
  rw [busRead_reads h (reads_cyc.mpr ht)]
  exact hp _ rfl

end Sys2Proof.Machine
end

