-- ==== Sys2Proof/Laws/Frames.lean ====
section
/-! SUPPORT. Frames and reports through each named update, and what a report leaves. -/

namespace Sys2Proof.Machine

/-! ## What a report leaves -/

@[simp] theorem Chip.log_held (c : Chip) (src code : Nat) (d : Word) : (c.log src code d).held = c.held :=
  by have h := congrArg Chip.held (rest_log c src code d); exact h
@[simp] theorem Chip.log_wire (c : Chip) (src code : Nat) (d : Word) : (c.log src code d).wire = c.wire :=
  by have h := congrArg Chip.wire (rest_log c src code d); exact h
@[simp] theorem Chip.log_pwr (c : Chip) (src code : Nat) (d : Word) : (c.log src code d).pwr = c.pwr :=
  by have h := congrArg Chip.pwr (rest_log c src code d); exact h
@[simp] theorem Chip.log_objs (c : Chip) (src code : Nat) (d : Word) : (c.log src code d).objs = c.objs :=
  by have h := congrArg Chip.objs (rest_log c src code d); exact h
@[simp] theorem Chip.log_uarts (c : Chip) (src code : Nat) (d : Word) : (c.log src code d).uarts = c.uarts :=
  by have h := congrArg Chip.uarts (rest_log c src code d); exact h
@[simp] theorem Chip.log_time (c : Chip) (src code : Nat) (d : Word) : (c.log src code d).time = c.time :=
  by have h := congrArg Chip.time (rest_log c src code d); exact h
@[simp] theorem Chip.log_macs (c : Chip) (src code : Nat) (d : Word) : (c.log src code d).macs = c.macs :=
  by have h := congrArg Chip.macs (rest_log c src code d); exact h
@[simp] theorem Chip.log_mrgs (c : Chip) (src code : Nat) (d : Word) : (c.log src code d).mrgs = c.mrgs :=
  by have h := congrArg Chip.mrgs (rest_log c src code d); exact h
@[simp] theorem Chip.log_canvs (c : Chip) (src code : Nat) (d : Word) : (c.log src code d).canvs = c.canvs :=
  by have h := congrArg Chip.canvs (rest_log c src code d); exact h
@[simp] theorem Chip.log_slots (c : Chip) (src code : Nat) (d : Word) : (c.log src code d).slots = c.slots :=
  by have h := congrArg Chip.slots (rest_log c src code d); exact h
@[simp] theorem Chip.log_unis (c : Chip) (src code : Nat) (d : Word) : (c.log src code d).unis = c.unis :=
  by have h := congrArg Chip.unis (rest_log c src code d); exact h
@[simp] theorem Chip.log_urgs (c : Chip) (src code : Nat) (d : Word) : (c.log src code d).urgs = c.urgs :=
  by have h := congrArg Chip.urgs (rest_log c src code d); exact h
@[simp] theorem Chip.log_urgQ (c : Chip) (src code : Nat) (d : Word) : (c.log src code d).urgQ = c.urgQ :=
  by have h := congrArg Chip.urgQ (rest_log c src code d); exact h
@[simp] theorem Chip.log_cel (c : Chip) (src code : Nat) (d : Word) : (c.log src code d).cel = c.cel :=
  by have h := congrArg Chip.cel (rest_log c src code d); exact h
@[simp] theorem Chip.log_fuses (c : Chip) (src code : Nat) (d : Word) : (c.log src code d).fuses = c.fuses :=
  by have h := congrArg Chip.fuses (rest_log c src code d); exact h
@[simp] theorem Chip.log_vlt (c : Chip) (src code : Nat) (d : Word) : (c.log src code d).vlt = c.vlt :=
  by have h := congrArg Chip.vlt (rest_log c src code d); exact h
@[simp] theorem Chip.log_ras (c : Chip) (src code : Nat) (d : Word) : (c.log src code d).ras = c.ras :=
  by have h := congrArg Chip.ras (rest_log c src code d); exact h
@[simp] theorem Chip.log_pix (c : Chip) (src code : Nat) (d : Word) : (c.log src code d).pix = c.pix :=
  by have h := congrArg Chip.pix (rest_log c src code d); exact h
@[simp] theorem Chip.log_ports (c : Chip) (src code : Nat) (d : Word) : (c.log src code d).ports = c.ports :=
  by have h := congrArg Chip.ports (rest_log c src code d); exact h
@[simp] theorem Chip.log_banks (c : Chip) (src code : Nat) (d : Word) : (c.log src code d).banks = c.banks :=
  by have h := congrArg Chip.banks (rest_log c src code d); exact h
@[simp] theorem Chip.log_retQ (c : Chip) (src code : Nat) (d : Word) : (c.log src code d).retQ = c.retQ :=
  by have h := congrArg Chip.retQ (rest_log c src code d); exact h
@[simp] theorem Chip.log_trl (c : Chip) (src code : Nat) (d : Word) : (c.log src code d).trl = c.trl :=
  by have h := congrArg Chip.trl (rest_log c src code d); exact h
@[simp] theorem Chip.log_prs (c : Chip) (src code : Nat) (d : Word) : (c.log src code d).prs = c.prs :=
  by have h := congrArg Chip.prs (rest_log c src code d); exact h
@[simp] theorem Chip.log_drv (c : Chip) (src code : Nat) (d : Word) : (c.log src code d).drv = c.drv :=
  by have h := congrArg Chip.drv (rest_log c src code d); exact h
@[simp] theorem Chip.log_cdr (c : Chip) (src code : Nat) (d : Word) : (c.log src code d).cdr = c.cdr :=
  by have h := congrArg Chip.cdr (rest_log c src code d); exact h
@[simp] theorem Chip.log_dma (c : Chip) (src code : Nat) (d : Word) : (c.log src code d).dma = c.dma :=
  by have h := congrArg Chip.dma (rest_log c src code d); exact h
@[simp] theorem Chip.log_boot (c : Chip) (src code : Nat) (d : Word) : (c.log src code d).boot = c.boot :=
  by have h := congrArg Chip.boot (rest_log c src code d); exact h
@[simp] theorem Chip.log_upd (c : Chip) (src code : Nat) (d : Word) : (c.log src code d).upd = c.upd :=
  by have h := congrArg Chip.upd (rest_log c src code d); exact h
@[simp] theorem Chip.log_que (c : Chip) (src code : Nat) (d : Word) : (c.log src code d).que = c.que :=
  by have h := congrArg Chip.que (rest_log c src code d); exact h
@[simp] theorem Chip.log_dop (c : Chip) (src code : Nat) (d : Word) : (c.log src code d).dop = c.dop :=
  by have h := congrArg Chip.dop (rest_log c src code d); exact h

/-- A report leaves every register but its own two. -/
theorem Chip.rd_log_other {c : Chip} {src code : Nat} {d : Word} {r : RegRow} {i j : Nat} (h : r.addr i j ∉ logRegs src) :
    (c.log src code d).rd r i j = c.rd r i j :=
  (SameRegs.log (SameRegs.refl (logRegs src) c) src code d (by simp)).rd h

/-- A report raises no source but 209. -/
theorem Chip.log_irqs_other {c : Chip} {src code : Nat} {d : Word} {n : Nat} (h : n ≠ 209) :
    (c.log src code d).irqs.getLsbD n = c.irqs.getLsbD n := by
  unfold Chip.log
  dsimp only
  split
  · rfl
  · split
    · split
      · rw [irq_irqs_other _ h]; rfl
      · rfl
    · rfl

/-- Reporting reaches the queue of the module it is done in. -/
theorem Reports.log {a c : Chip} (src code : Nat) (d : Word) (hc : a.rd rERR_CTRL = c.rd rERR_CTRL) (hq : c.err = a.err)
    (hs : src < 0x46) : Reports src code a (c.log src code d) := by
  intro he hl
  rw [log_queues c src code d (by simpa [Chip.rb, hc] using he) hs (by rw [hq]; exact hl)]
  exact ⟨⟨code, d, c.now, c.cyc⟩, rfl, by simp [hq]⟩

/-! ## Through the updates that touch neither registers, interrupts nor reports -/

variable {l : List Nat} {a c c' : Chip}

theorem SameRegs.of_eq (h : SameRegs l a c) (e : c'.regs = c.regs) : SameRegs l a c' := fun n hn d => by rw [e]; exact h n hn d
theorem SameIrqs.of_eq (h : SameIrqs l a c) (e : c'.irqs = c.irqs) : SameIrqs l a c' := fun n hn d => by rw [e]; exact h n hn d
theorem Reports.of_eq {src code : Nat} (h : Reports src code a c) (e : c'.err = c.err) : Reports src code a c' := fun he hl => by
  rw [e]; exact h he hl

theorem SameRegs.irq (h : SameRegs l a c) (n : Nat) : SameRegs l a (c.irq n) := h
theorem SameRegs.settle (h : SameRegs l a c) : SameRegs l a (Machine.settle c) := h
theorem SameRegs.emit (h : SameRegs l a c) (e : Emit) : SameRegs l a (c.emit e) := h
theorem SameRegs.answer (h : SameRegs l a c) (v : Word) : SameRegs l a (c.answer v) := h
theorem SameRegs.setByte (h : SameRegs l a c) (n : Nat) (v : Byte) : SameRegs l a (c.setByte n v) := h
theorem SameRegs.cyc (h : SameRegs l a c) (n : Nat) : SameRegs l a ({ c with cyc := n }) := h
theorem SameRegs.setPwr (h : SameRegs l a c) (x : PwrSt) : SameRegs l a (c.setPwr x) := h
theorem SameRegs.setBoot (h : SameRegs l a c) (x : BootSt) : SameRegs l a (c.setBoot x) := h
theorem SameRegs.setDrv (h : SameRegs l a c) (x : DrvSt) : SameRegs l a (c.setDrv x) := h
theorem SameRegs.setRas (h : SameRegs l a c) (x : RasSt) : SameRegs l a (c.setRas x) := h
theorem SameRegs.setPrs (h : SameRegs l a c) (x : PrsSt) : SameRegs l a (c.setPrs x) := h
theorem SameRegs.setCdr (h : SameRegs l a c) (x : CdrSt) : SameRegs l a (c.setCdr x) := h
theorem SameRegs.setTrl (h : SameRegs l a c) (x : TrlSt) : SameRegs l a (c.setTrl x) := h
theorem SameRegs.setDop (h : SameRegs l a c) (x : DopSt) : SameRegs l a (c.setDop x) := h
theorem SameRegs.setUpd (h : SameRegs l a c) (x : UpdSt) : SameRegs l a (c.setUpd x) := h
theorem SameRegs.setVlt (h : SameRegs l a c) (x : VltSt) : SameRegs l a (c.setVlt x) := h
theorem SameRegs.setMac (h : SameRegs l a c) (k : Nat) (x : Mac) : SameRegs l a (c.setMac k x) := h
theorem SameRegs.setMrg (h : SameRegs l a c) (k : Nat) (x : Mrg) : SameRegs l a (c.setMrg k x) := h
theorem SameRegs.setCanv (h : SameRegs l a c) (k : Nat) (x : Canv) : SameRegs l a (c.setCanv k x) := h
theorem SameRegs.setSlot (h : SameRegs l a c) (k : Nat) (x : SlotSt) : SameRegs l a (c.setSlot k x) := h
theorem SameRegs.setUni (h : SameRegs l a c) (k : Nat) (x : Uni) : SameRegs l a (c.setUni k x) := h
theorem SameRegs.setUrg (h : SameRegs l a c) (k : Nat) (x : Urg) : SameRegs l a (c.setUrg k x) := h
theorem SameRegs.setPort (h : SameRegs l a c) (k : Nat) (x : Port) : SameRegs l a (c.setPort k x) := h
theorem SameRegs.setUart (h : SameRegs l a c) (k : Nat) (x : Uart) : SameRegs l a (c.setUart k x) := h
theorem SameRegs.wb (h : SameRegs l a c) {r : RegRow} {i j : Nat} (k : Nat) (v : Bool) (m : r.addr i j ∈ l) : SameRegs l a (c.wb r i j k v) := SameRegs.wr h _ m
theorem SameRegs.wf (h : SameRegs l a c) {r : RegRow} {i j : Nat} (hi lo v : Nat) (m : r.addr i j ∈ l) : SameRegs l a (c.wf r i j hi lo v) := SameRegs.wr h _ m
theorem SameRegs.inc (h : SameRegs l a c) {r : RegRow} {i j : Nat} (n : Nat) (m : r.addr i j ∈ l) : SameRegs l a (c.inc r i j n) := SameRegs.wr h _ m
theorem SameRegs.incSat (h : SameRegs l a c) {r : RegRow} {i j : Nat} (n : Nat) (m : r.addr i j ∈ l) : SameRegs l a (c.incSat r i j n) := SameRegs.wr h _ m

theorem SameIrqs.emit (h : SameIrqs l a c) (e : Emit) : SameIrqs l a (c.emit e) := h
theorem SameIrqs.answer (h : SameIrqs l a c) (v : Word) : SameIrqs l a (c.answer v) := h
theorem SameIrqs.setByte (h : SameIrqs l a c) (n : Nat) (v : Byte) : SameIrqs l a (c.setByte n v) := h
theorem SameIrqs.cyc (h : SameIrqs l a c) (n : Nat) : SameIrqs l a ({ c with cyc := n }) := h
theorem SameIrqs.wr (h : SameIrqs l a c) (r : RegRow) (i j : Nat) (v : Word) : SameIrqs l a (c.wr r i j v) := h
theorem SameIrqs.wb (h : SameIrqs l a c) (r : RegRow) (i j k : Nat) (v : Bool) : SameIrqs l a (c.wb r i j k v) := h
theorem SameIrqs.wf (h : SameIrqs l a c) (r : RegRow) (i j hi lo v : Nat) : SameIrqs l a (c.wf r i j hi lo v) := h
theorem SameIrqs.inc (h : SameIrqs l a c) (r : RegRow) (i j n : Nat) : SameIrqs l a (c.inc r i j n) := h
theorem SameIrqs.incSat (h : SameIrqs l a c) (r : RegRow) (i j n : Nat) : SameIrqs l a (c.incSat r i j n) := h
theorem SameIrqs.setPwr (h : SameIrqs l a c) (x : PwrSt) : SameIrqs l a (c.setPwr x) := h
theorem SameIrqs.setBoot (h : SameIrqs l a c) (x : BootSt) : SameIrqs l a (c.setBoot x) := h
theorem SameIrqs.setDrv (h : SameIrqs l a c) (x : DrvSt) : SameIrqs l a (c.setDrv x) := h
theorem SameIrqs.setRas (h : SameIrqs l a c) (x : RasSt) : SameIrqs l a (c.setRas x) := h
theorem SameIrqs.setPrs (h : SameIrqs l a c) (x : PrsSt) : SameIrqs l a (c.setPrs x) := h
theorem SameIrqs.setCdr (h : SameIrqs l a c) (x : CdrSt) : SameIrqs l a (c.setCdr x) := h
theorem SameIrqs.setTrl (h : SameIrqs l a c) (x : TrlSt) : SameIrqs l a (c.setTrl x) := h
theorem SameIrqs.setDop (h : SameIrqs l a c) (x : DopSt) : SameIrqs l a (c.setDop x) := h
theorem SameIrqs.setUpd (h : SameIrqs l a c) (x : UpdSt) : SameIrqs l a (c.setUpd x) := h
theorem SameIrqs.setVlt (h : SameIrqs l a c) (x : VltSt) : SameIrqs l a (c.setVlt x) := h
theorem SameIrqs.setMac (h : SameIrqs l a c) (k : Nat) (x : Mac) : SameIrqs l a (c.setMac k x) := h
theorem SameIrqs.setMrg (h : SameIrqs l a c) (k : Nat) (x : Mrg) : SameIrqs l a (c.setMrg k x) := h
theorem SameIrqs.setCanv (h : SameIrqs l a c) (k : Nat) (x : Canv) : SameIrqs l a (c.setCanv k x) := h
theorem SameIrqs.setSlot (h : SameIrqs l a c) (k : Nat) (x : SlotSt) : SameIrqs l a (c.setSlot k x) := h
theorem SameIrqs.setUni (h : SameIrqs l a c) (k : Nat) (x : Uni) : SameIrqs l a (c.setUni k x) := h
theorem SameIrqs.setUrg (h : SameIrqs l a c) (k : Nat) (x : Urg) : SameIrqs l a (c.setUrg k x) := h
theorem SameIrqs.setPort (h : SameIrqs l a c) (k : Nat) (x : Port) : SameIrqs l a (c.setPort k x) := h
theorem SameIrqs.setUart (h : SameIrqs l a c) (k : Nat) (x : Uart) : SameIrqs l a (c.setUart k x) := h

theorem Reports.irq {src code : Nat} (h : Reports src code a c) (n : Nat) : Reports src code a (c.irq n) := h
theorem Reports.settle {src code : Nat} (h : Reports src code a c) : Reports src code a (Machine.settle c) := h
theorem Reports.emit {src code : Nat} (h : Reports src code a c) (e : Emit) : Reports src code a (c.emit e) := h
theorem Reports.answer {src code : Nat} (h : Reports src code a c) (v : Word) : Reports src code a (c.answer v) := h
theorem Reports.setByte {src code : Nat} (h : Reports src code a c) (n : Nat) (v : Byte) : Reports src code a (c.setByte n v) := h
theorem Reports.cyc {src code : Nat} (h : Reports src code a c) (n : Nat) : Reports src code a ({ c with cyc := n }) := h
theorem Reports.wr {src code : Nat} (h : Reports src code a c) (r : RegRow) (i j : Nat) (v : Word) : Reports src code a (c.wr r i j v) := h
theorem Reports.wb {src code : Nat} (h : Reports src code a c) (r : RegRow) (i j k : Nat) (v : Bool) : Reports src code a (c.wb r i j k v) := h
theorem Reports.wf {src code : Nat} (h : Reports src code a c) (r : RegRow) (i j hi lo v : Nat) : Reports src code a (c.wf r i j hi lo v) := h
theorem Reports.inc {src code : Nat} (h : Reports src code a c) (r : RegRow) (i j n : Nat) : Reports src code a (c.inc r i j n) := h
theorem Reports.incSat {src code : Nat} (h : Reports src code a c) (r : RegRow) (i j n : Nat) : Reports src code a (c.incSat r i j n) := h
theorem Reports.setPwr {src code : Nat} (h : Reports src code a c) (x : PwrSt) : Reports src code a (c.setPwr x) := h
theorem Reports.setBoot {src code : Nat} (h : Reports src code a c) (x : BootSt) : Reports src code a (c.setBoot x) := h
theorem Reports.setDrv {src code : Nat} (h : Reports src code a c) (x : DrvSt) : Reports src code a (c.setDrv x) := h
theorem Reports.setRas {src code : Nat} (h : Reports src code a c) (x : RasSt) : Reports src code a (c.setRas x) := h
theorem Reports.setPrs {src code : Nat} (h : Reports src code a c) (x : PrsSt) : Reports src code a (c.setPrs x) := h
theorem Reports.setCdr {src code : Nat} (h : Reports src code a c) (x : CdrSt) : Reports src code a (c.setCdr x) := h
theorem Reports.setTrl {src code : Nat} (h : Reports src code a c) (x : TrlSt) : Reports src code a (c.setTrl x) := h
theorem Reports.setDop {src code : Nat} (h : Reports src code a c) (x : DopSt) : Reports src code a (c.setDop x) := h
theorem Reports.setUpd {src code : Nat} (h : Reports src code a c) (x : UpdSt) : Reports src code a (c.setUpd x) := h
theorem Reports.setVlt {src code : Nat} (h : Reports src code a c) (x : VltSt) : Reports src code a (c.setVlt x) := h
theorem Reports.setMac {src code : Nat} (h : Reports src code a c) (k : Nat) (x : Mac) : Reports src code a (c.setMac k x) := h
theorem Reports.setMrg {src code : Nat} (h : Reports src code a c) (k : Nat) (x : Mrg) : Reports src code a (c.setMrg k x) := h
theorem Reports.setCanv {src code : Nat} (h : Reports src code a c) (k : Nat) (x : Canv) : Reports src code a (c.setCanv k x) := h
theorem Reports.setSlot {src code : Nat} (h : Reports src code a c) (k : Nat) (x : SlotSt) : Reports src code a (c.setSlot k x) := h
theorem Reports.setUni {src code : Nat} (h : Reports src code a c) (k : Nat) (x : Uni) : Reports src code a (c.setUni k x) := h
theorem Reports.setUrg {src code : Nat} (h : Reports src code a c) (k : Nat) (x : Urg) : Reports src code a (c.setUrg k x) := h
theorem Reports.setPort {src code : Nat} (h : Reports src code a c) (k : Nat) (x : Port) : Reports src code a (c.setPort k x) := h
theorem Reports.setUart {src code : Nat} (h : Reports src code a c) (k : Nat) (x : Uart) : Reports src code a (c.setUart k x) := h

/-- A property that `f` keeps at every element of a list holds after `f` is folded over it. -/
theorem Chip.each_ind {α : Type} {P : Chip → Prop} (l : List α) (f : Chip → α → Chip)
    (h : ∀ c x, x ∈ l → P c → P (f c x)) (c : Chip) (h0 : P c) : P (c.each l f) := by
  unfold Chip.each
  induction l generalizing c with
  | nil => exact h0
  | cons x t ih => exact ih (fun c y hy => h c y (by simp [hy])) _ (h c x (by simp) h0)

/-- A map without the entries whose keys `p` does not hold of. -/
theorem mget_filter {α : Type} (d : α) (p : Nat → Bool) (m : List (Nat × α)) (k : Nat) :
    mget d (m.filter fun q => p q.1) k = if p k then mget d m k else d := by
  induction m with
  | nil => simp [mget]
  | cons q t ih =>
    obtain ⟨j, v⟩ := q
    by_cases h : p j <;> by_cases hk : j = k <;> simp_all [List.filter, mget]

/-! ## `rest` through the named updates -/

variable (c)

@[simp] theorem Chip.rest_wb (r : RegRow) (i j k : Nat) (v : Bool) : (c.wb r i j k v).rest = c.rest := .trans rfl rfl
@[simp] theorem Chip.rest_wf (r : RegRow) (i j hi lo v : Nat) : (c.wf r i j hi lo v).rest = c.rest := .trans rfl rfl
@[simp] theorem Chip.rest_inc (r : RegRow) (i j n : Nat) : (c.inc r i j n).rest = c.rest := .trans rfl rfl
@[simp] theorem Chip.rest_incSat (r : RegRow) (i j n : Nat) : (c.incSat r i j n).rest = c.rest := .trans rfl rfl
@[simp] theorem Chip.rest_cyc (n : Nat) : Chip.rest { c with cyc := n } = c.rest := .trans rfl rfl
@[simp] theorem Chip.rest_emit (e : Emit) : (c.emit e).rest = { c.rest with wire := e :: c.wire } := .trans rfl rfl
@[simp] theorem Chip.rest_setPwr (x : PwrSt) : (c.setPwr x).rest = { c.rest with pwr := x } := .trans rfl rfl
@[simp] theorem Chip.rest_setBoot (x : BootSt) : (c.setBoot x).rest = { c.rest with boot := x } := .trans rfl rfl
@[simp] theorem Chip.rest_setDrv (x : DrvSt) : (c.setDrv x).rest = { c.rest with drv := x } := .trans rfl rfl
@[simp] theorem Chip.rest_setRas (x : RasSt) : (c.setRas x).rest = { c.rest with ras := x } := .trans rfl rfl
@[simp] theorem Chip.rest_setPrs (x : PrsSt) : (c.setPrs x).rest = { c.rest with prs := x } := .trans rfl rfl
@[simp] theorem Chip.rest_setCdr (x : CdrSt) : (c.setCdr x).rest = { c.rest with cdr := x } := .trans rfl rfl
@[simp] theorem Chip.rest_setTrl (x : TrlSt) : (c.setTrl x).rest = { c.rest with trl := x } := .trans rfl rfl
@[simp] theorem Chip.rest_setDop (x : DopSt) : (c.setDop x).rest = { c.rest with dop := x } := .trans rfl rfl
@[simp] theorem Chip.rest_setUpd (x : UpdSt) : (c.setUpd x).rest = { c.rest with upd := x } := .trans rfl rfl
@[simp] theorem Chip.rest_setVlt (x : VltSt) : (c.setVlt x).rest = { c.rest with vlt := x } := .trans rfl rfl
@[simp] theorem Chip.rest_setMac (k : Nat) (x : Mac) : (c.setMac k x).rest = { c.rest with macs := mset ({} : Mac) c.macs k x } := .trans rfl rfl
@[simp] theorem Chip.rest_setMrg (k : Nat) (x : Mrg) : (c.setMrg k x).rest = { c.rest with mrgs := mset ({} : Mrg) c.mrgs k x } := .trans rfl rfl
@[simp] theorem Chip.rest_setCanv (k : Nat) (x : Canv) : (c.setCanv k x).rest = { c.rest with canvs := mset ({} : Canv) c.canvs k x } := .trans rfl rfl
@[simp] theorem Chip.rest_setSlot (k : Nat) (x : SlotSt) : (c.setSlot k x).rest = { c.rest with slots := mset ({} : SlotSt) c.slots k x } := .trans rfl rfl
@[simp] theorem Chip.rest_setUni (k : Nat) (x : Uni) : (c.setUni k x).rest = { c.rest with unis := mset ({} : Uni) c.unis k x } := .trans rfl rfl
@[simp] theorem Chip.rest_setUrg (k : Nat) (x : Urg) : (c.setUrg k x).rest = { c.rest with urgs := mset ({} : Urg) c.urgs k x } := .trans rfl rfl
@[simp] theorem Chip.rest_setPort (k : Nat) (x : Port) : (c.setPort k x).rest = { c.rest with ports := mset ({} : Port) c.ports k x } := .trans rfl rfl
@[simp] theorem Chip.rest_setUart (k : Nat) (x : Uart) : (c.setUart k x).rest = { c.rest with uarts := mset ({} : Uart) c.uarts k x } := .trans rfl rfl

/-! ## Registers through the updates that do not touch them -/

@[simp] theorem Chip.rd_setPwr (x : PwrSt) (r : RegRow) (i j : Nat) : (c.setPwr x).rd r i j = c.rd r i j := .trans rfl rfl
@[simp] theorem Chip.rd_setBoot (x : BootSt) (r : RegRow) (i j : Nat) : (c.setBoot x).rd r i j = c.rd r i j := .trans rfl rfl
@[simp] theorem Chip.rd_setDrv (x : DrvSt) (r : RegRow) (i j : Nat) : (c.setDrv x).rd r i j = c.rd r i j := .trans rfl rfl
@[simp] theorem Chip.rd_setRas (x : RasSt) (r : RegRow) (i j : Nat) : (c.setRas x).rd r i j = c.rd r i j := .trans rfl rfl
@[simp] theorem Chip.rd_setPrs (x : PrsSt) (r : RegRow) (i j : Nat) : (c.setPrs x).rd r i j = c.rd r i j := .trans rfl rfl
@[simp] theorem Chip.rd_setCdr (x : CdrSt) (r : RegRow) (i j : Nat) : (c.setCdr x).rd r i j = c.rd r i j := .trans rfl rfl
@[simp] theorem Chip.rd_setTrl (x : TrlSt) (r : RegRow) (i j : Nat) : (c.setTrl x).rd r i j = c.rd r i j := .trans rfl rfl
@[simp] theorem Chip.rd_setDop (x : DopSt) (r : RegRow) (i j : Nat) : (c.setDop x).rd r i j = c.rd r i j := .trans rfl rfl
@[simp] theorem Chip.rd_setUpd (x : UpdSt) (r : RegRow) (i j : Nat) : (c.setUpd x).rd r i j = c.rd r i j := .trans rfl rfl
@[simp] theorem Chip.rd_setVlt (x : VltSt) (r : RegRow) (i j : Nat) : (c.setVlt x).rd r i j = c.rd r i j := .trans rfl rfl
@[simp] theorem Chip.rd_setMac (k : Nat) (x : Mac) (r : RegRow) (i j : Nat) : (c.setMac k x).rd r i j = c.rd r i j := .trans rfl rfl
@[simp] theorem Chip.rd_setMrg (k : Nat) (x : Mrg) (r : RegRow) (i j : Nat) : (c.setMrg k x).rd r i j = c.rd r i j := .trans rfl rfl
@[simp] theorem Chip.rd_setCanv (k : Nat) (x : Canv) (r : RegRow) (i j : Nat) : (c.setCanv k x).rd r i j = c.rd r i j := .trans rfl rfl
@[simp] theorem Chip.rd_setSlot (k : Nat) (x : SlotSt) (r : RegRow) (i j : Nat) : (c.setSlot k x).rd r i j = c.rd r i j := .trans rfl rfl
@[simp] theorem Chip.rd_setUni (k : Nat) (x : Uni) (r : RegRow) (i j : Nat) : (c.setUni k x).rd r i j = c.rd r i j := .trans rfl rfl
@[simp] theorem Chip.rd_setUrg (k : Nat) (x : Urg) (r : RegRow) (i j : Nat) : (c.setUrg k x).rd r i j = c.rd r i j := .trans rfl rfl
@[simp] theorem Chip.rd_setPort (k : Nat) (x : Port) (r : RegRow) (i j : Nat) : (c.setPort k x).rd r i j = c.rd r i j := .trans rfl rfl
@[simp] theorem Chip.rd_setUart (k : Nat) (x : Uart) (r : RegRow) (i j : Nat) : (c.setUart k x).rd r i j = c.rd r i j := .trans rfl rfl
@[simp] theorem Chip.rd_cyc (n : Nat) (r : RegRow) (i j : Nat) : Chip.rd { c with cyc := n } r i j = c.rd r i j := .trans rfl rfl

end Sys2Proof.Machine
end

