-- ==== Sys2Proof/Machine/Plic.lean ====
section
/-! DEFINITION. The interrupt controller (spec/01 R24, R29), as the RISC-V platform-level interrupt controller specification
has it: what a target is told of, its claim and its completion. PRESUMED (log entry 177): the spec names that document and
gives the controller's registers no addresses, so that no command of this block reaches them. -/

namespace Sys2Proof.Machine

/-- The priority of source `n`: 0 never interrupts, 1 to 7. -/
def Chip.irqPrio (c : Chip) (n : Nat) : Nat := min 7 (mget 0 c.plic.prio n)

/-- Source `n` waits for target `t`: pending, not claimed, enabled, and of a priority. -/
def Chip.irqWaits (c : Chip) (t n : Nat) : Bool :=
  c.irqs.getLsbD n && !c.plic.claimed.getLsbD n && (mget 0#224 c.plic.enable t).getLsbD n && c.irqPrio n ≠ 0

/-- The source target `t` is to serve: of those that wait the highest priority, among equals the lower number (R29); 0 is none. -/
def Chip.irqBest (c : Chip) (t : Nat) : Nat :=
  (List.range 224).foldl (fun b n => if n ≠ 0 && c.irqWaits t n && (b = 0 || c.irqPrio b < c.irqPrio n) then n else b) 0

/-- Target `t` is interrupted: a source above its threshold waits. -/
def Chip.irqLine (c : Chip) (t : Nat) : Bool :=
  (List.range 224).any fun n => c.irqWaits t n && mget 0 c.plic.threshold t < c.irqPrio n

/-- Target `t` claims the source it is to serve, whose pending bit clears. -/
def Chip.irqClaim (c : Chip) (t : Nat) : Chip × Nat :=
  let n := c.irqBest t
  if n = 0 then (c, 0)
  else ({ c with irqs := irqBit c.irqs n false, plic := { c.plic with claimed := irqBit c.plic.claimed n true } }, n)

/-- Target `t` completes source `n`, which may be pending again. -/
def Chip.irqComplete (c : Chip) (t n : Nat) : Chip :=
  if n ≠ 0 && n < 224 && (mget 0#224 c.plic.enable t).getLsbD n then { c with plic := { c.plic with claimed := irqBit c.plic.claimed n false } } else c

end Sys2Proof.Machine
end

