-- ==== Sys2Proof/Tests/Small.lean ====
section
/-! SUPPORT. The small states the tests start from. -/

namespace Sys2Proof.Tests

open Sys2Proof Sys2Proof.Machine

/-- A module in operation, its processors released, its error log enabled, with nothing else happened to it. -/
def c0 : Chip :=
  Chip.wr (Chip.wr { State.reset.chip with pwr := { State.reset.chip.pwr with phase := .running }, boot := { State.reset.chip.boot with hc1Run := true, ncRun := true } }
    rERR_CTRL 0 0 7) rPRS_RUN 0 0 0xFFFF

/-- That module after `f`. -/
def st (f : Chip → Chip := id) : State := ⟨[], f c0⟩

/-- An access of house core 0 in world S, of the network core, of press core k. -/
def hc : Access := { master := .hc0, secure := true }
def nc : Access := { master := .nc }
def pc (k : Fin 16) : Access := { master := .press, core := k }

end Sys2Proof.Tests
end

