-- ==== Sys2Proof/Tests/Slice0.lean ====
section
/-! SUPPORT. The tests: one ill-formed term for each check of WellFormed, known answers of the codes and ciphers, and single
steps whose results the worked examples of spec/ give or its rules let one work out by hand. -/

namespace Sys2Proof.Tests

open Sys2Proof Sys2Proof.Machine

set_option maxRecDepth 100000
set_option Elab.async false

/-! ## What WellFormed refuses -/

theorem test_wf_clock : timeOk (2 ^ 48 * 1000000000) = false := by decide +kernel
theorem test_wf_announce : Announce.wf { domain := 256, clk := 0, gm := 0, prio1 := 0, cls := 0, acc := 0, var := 0, prio2 := 0, steps := 0 } = false := by decide +kernel
theorem test_wf_cell_len : RxCell.wf { head := 8, slots := [1], trailer := 0 } = false := by decide +kernel
theorem test_wf_trellis : TrlMsg.wf { fromUp := true, dest := 7, body := List.replicate 1027 0 } = false := by decide +kernel
theorem test_wf_corridor : corridorOk (List.replicate 1025 0) = false := by decide +kernel
theorem test_wf_fire : Instr.wf (.cmpFire 0 (2 ^ 48 * 1000000000)) = false := by decide +kernel
theorem test_wf_cask : Instr.wf (.caskMsg 0 0 (List.replicate 1025 0) true) = false := by decide +kernel
theorem test_wf_bulk : Instr.wf (.bulkMsg 5 0 [] true) = false := by decide +kernel
theorem test_wf_bulk_end : Instr.wf (.bulkEnd 0 0 true) = false := by decide +kernel
theorem test_wf_fwmsg : Instr.wf (.fwmsg (List.replicate 4096 0) true) = false := by decide +kernel
theorem test_wf_sync : Instr.wf (.syncRx 0 { domain := 256, clk := 0, seq := 0, origin := 0 }) = false := by decide +kernel
theorem test_wf_delay : Instr.wf (.delayRespRx 0 { domain := 0, clk := 0, seq := 0, rcv := 2 ^ 80 }) = false := by decide +kernel
theorem test_wf_frame : Instr.wf (.frameReceive 0 { bytes := [], sfd := 2 ^ 80 }) = false := by decide +kernel
theorem test_wf_dop : Instr.wf (.dopGet { bytes := List.replicate 9171 0, ip := 0, udp := 0, ts := 0 }) = false := by decide +kernel
theorem test_wf_reset_pin : Instr.wf (.resetPin true) = true := by decide +kernel

/-! ## Known answers -/

/-- The check value of CRC-32C over the digits 1 to 9 (RFC 3720). -/
theorem test_crc32c : crc32c (ascii "123456789") = 0xE3069283 := by decide +kernel
/-- The check value of the Ethernet CRC. -/
theorem test_crc32 : crc32 (ascii "123456789") = 0xCBF43926 := by decide +kernel
/-- FIPS 180-4: SHA-256 of "abc" begins BA 78 16 BF. -/
theorem test_sha256 : (sha256 (ascii "abc")).take 4 = [0xBA, 0x78, 0x16, 0xBF] := by decide +kernel
/-- FIPS 180-4: SHA-384 of "abc" begins CB 00 75 3F. -/
theorem test_sha384 : (sha384 (ascii "abc")).take 4 = [0xCB, 0x00, 0x75, 0x3F] := by decide +kernel
/-- FIPS 197, appendix C.3. -/
theorem test_aes256 : (aesEnc (aesKeys ((List.range 32).map (BitVec.ofNat 8))) ((List.range 16).map fun i => BitVec.ofNat 8 (17 * i))).take 4
    = [0x8E, 0xA2, 0xB7, 0xCA] := by decide +kernel

/-! ## Single steps -/

/-- The module after one command. -/
def one (i : Instr) (s : State) : Chip := match exec i s with
  | .next t => t.chip
  | _ => s.chip

/-- spec/01, worked example: port 37's registers begin at 0x100A_9400. -/
theorem test_port_37 : (regAt 0x100A9400).map (fun r => (r.1.name, r.2.1)) = some ("PORT_CTRL", 37) := by decide +kernel
/-- spec/02, worked example: frame 228,000,000,015 at 120 Hz starts at 1,900,000,000 s and 125,000,000 ns. -/
theorem test_grid_frame : gridF {} 228000000015 = 1900000000125000000 := by decide +kernel
/-- spec/02, worked example: the next frame after 123,456,789 ns has index 228,000,000,015. -/
theorem test_grid_next : gridF {} 228000000014 ≤ 1900000000123456789 ∧ 1900000000123456789 < gridF {} 228000000015 := by decide +kernel
/-- R36: with TIME_ADDEND -27,488 a tick from 0 leaves 1 ns and a fraction of 2^32 - 27,488. -/
theorem test_tick : (match step (st fun c => c.wr rTIME_ADDEND 0 0 0xFFFF94A0) with | .next t => (t.chip.now, t.chip.time.frac) | _ => (0, 0))
    = (1, 0xFFFF94A0) := by decide +kernel
/-- R23: a read of an unmapped address is a bus error that returns 0, recorded with CAUSE 0 and master 2. -/
theorem test_unmapped : (one (.registerRead nc 0x03000000) (st)).rd rBUSERR_INFO = 0x80200000 := by decide +kernel
theorem test_unmapped_answer : (one (.registerRead nc 0x03000000) (st)).rsp = { val := 0, err := true } := by decide +kernel
/-- R22: world N does not reach house SRAM below 0x0104_0000: CAUSE 1. -/
theorem test_world : (one (.registerWrite nc 0x01000000 5) (st)).rd rBUSERR_INFO = 0x80250000 := by decide +kernel
/-- R20: a reserved offset reads 0 and is no bus error. -/
theorem test_reserved : (one (.registerRead nc 0x10000FFC) (st)).rsp = { val := 0, err := false } := by decide +kernel
/-- spec/18, worked example: a report 999,999 ns after its entry is coalesced, one 1 ms after it opens a new entry. -/
theorem test_log_coalesced : ((one .errRecord (st fun c => { c with err := { queues := [(5, [⟨0x54, 9, 999999, 0⟩])], opens := [(5, some ⟨0, 0x54, 0, 99⟩)] } })).word
    0x0103F008) = 0x05540064 := by decide +kernel
theorem test_log_opened : (one .errRecord (st fun c => { (c.wr rERR_SEQ 0 0 1) with err := { queues := [(5, [⟨0x54, 9, 1000000, 0⟩])], opens := [(5, some ⟨0, 0x54, 0, 100⟩)] } })).rd
    rERR_SEQ = 2 := by decide +kernel
/-- R529: SYS_RSTREQ with its key in world S takes a warm reset with cause SOFT. -/
theorem test_soft_reset : (one (.softResetRequest hc 0x52535401) (st)).pwr.cause = 4 := by decide +kernel
theorem test_soft_reset_key : (one (.softResetRequest hc 0x52535301) (st)).pwr.phase = .running := by decide +kernel
/-- R545, R546: POKE in DEPLOYED is locked and writes nothing. -/
theorem test_poke_locked : (one (.porchPoke 0x01050000 5) (st fun c =>
    { c with boot := { c.boot with hc0 := .porch }, fuses := { c.fuses with p := 7, d := 7 } })).word 0x01050000 = 0 := by decide +kernel
/-- R547: block 0 after block 255 is the next one. -/
theorem test_load_wrap : ((one (.loadBlock 0 1 [7] (crc32c [7])) (st fun c =>
    { c with boot := { c.boot with hc0 := .porch, load := some { addr := some 0x01050000, want := 4, got := 2, block := 255 } } })).byte 0x01050002) = 7 := by decide +kernel
/-- R580: a byte for a full receive FIFO sets OVERRUN. -/
theorem test_uart_overrun : (one (.uartRxByte 0 5 false) (st fun c => { c with uarts := [(0, { rx := List.replicate 256 1 })] })).rd rUART_STAT = 1 := by decide +kernel
/-- R473, R474, R291: after a power-on reset the level-driven interrupts agree with the registers. -/
theorem test_reset_settled : State.reset.settled := by decide +kernel

end Sys2Proof.Tests
end

