-- ==== Sys2Proof/Tests/WitnessA.lean ====
section
/-! SUPPORT. States and operands that meet the hypotheses of the statements, part A. -/

namespace Sys2Proof.Tests.WitnessA

open Sys2Proof Sys2Proof.Machine Sys2Proof.Tests

set_option maxRecDepth 100000
set_option Elab.async false
set_option linter.unusedVariables false
set_option linter.unreachableTactic false
set_option linter.unusedTactic false

def ph (p : Phase) : State := st fun c => { c with pwr := { c.pwr with phase := p } }
theorem wit_supply_power_up_1 : ∃ (s : State),
    (s.chip.pwr.phase = .off) :=
  ⟨(ph .off), by decide +kernel⟩
theorem wit_supply_power_up_2 : ∃ (s : State),
    (s.chip.pwr.phase = .vinWait) :=
  ⟨(ph .vinWait), by decide +kernel⟩
theorem wit_supply_power_up_3 : ∃ (s : State),
    (s.chip.pwr.phase = .thermal) :=
  ⟨(ph .thermal), by decide +kernel⟩
theorem wit_supply_power_up_4 : ∃ (s : State),
    (s.chip.pwr.phase = .vinWait) :=
  ⟨(ph .vinWait), by decide +kernel⟩
theorem wit_supply_power_up_5 : ∃ (s : State),
    (s.chip.pwr.phase = .running) :=
  ⟨(st), by decide +kernel⟩
theorem wit_supply_power_down_1 : ∃ (s : State),
    (s.chip.pwr.pfw = true) :=
  ⟨(st fun c => { c with pwr := { c.pwr with pfw := true } }), by decide +kernel⟩
theorem wit_supply_power_down_3 : ∃ (s : State),
    (s.chip.pwr.phase = .off) :=
  ⟨(ph .off), by decide +kernel⟩
theorem wit_supply_vaux_1 : ∃ (s : State),
    (s.chip.pwr.phase = .running) ∧ (s.chip.pwr.vaux = true) ∧ (s.chip.pwr.pfw = false) :=
  ⟨(st fun c => { c with pwr := { c.pwr with vaux := true } }), by decide +kernel⟩
theorem wit_supply_vaux_2 : ∃ (s : State),
    (s.chip.pwr.phase = .running) ∧ (s.chip.pwr.vauxRetry = true) ∧ (s.chip.pwr.pfw = false) :=
  ⟨(st fun c => { c with pwr := { c.pwr with vauxRetry := true } }), by decide +kernel⟩
theorem wit_supply_power_down_2 : ∃ (s : State),
    (s.chip.pwr.phase ≠ .off) ∧ (s.chip.pwr.phase ≠ .thermal) :=
  ⟨(st), by decide +kernel⟩
theorem wit_supply_vaux_3 : ∃ (s : State),
    (s.chip.pwr.phase ≠ .running) ∧ (s.chip.pwr.vaux = true) ∧ (s.chip.pwr.pfw = false) :=
  ⟨(st fun c => { c with pwr := { c.pwr with phase := .rails, vaux := true } }), by decide +kernel⟩
theorem wit_supply_vaux_4 : ∃ (s : State),
    (s.chip.pwr.phase ≠ .running) ∧ (s.chip.pwr.vauxRetry = true) ∧ (s.chip.pwr.pfw = false) :=
  ⟨(st fun c => { c with pwr := { c.pwr with phase := .rails, vauxRetry := true } }), by decide +kernel⟩

end Sys2Proof.Tests.WitnessA
end

