-- ==== Sys2Proof/Tests/WitnessB.lean ====
section
/-! SUPPORT. States and operands that meet the hypotheses of the statements, part B. -/

namespace Sys2Proof.Tests.WitnessB

open Sys2Proof Sys2Proof.Machine Sys2Proof.Tests

set_option maxRecDepth 100000
set_option Elab.async false
set_option linter.unusedVariables false
set_option linter.unreachableTactic false
set_option linter.unusedTactic false

def rails : Chip → Chip := fun c => { c with pwr := { c.pwr with phase := .rails } }
theorem wit_warm_reset_pin_and_request_1 : ∃ (s : State),
    (s.chip.pwr.phase = .running) ∧ (s.chip.pwr.pfw = false) :=
  ⟨(st), by decide +kernel⟩
theorem wit_warm_reset_pin_and_request_3 : ∃ (s : State) (a : Access) (v : Word),
    (s.chip.takes a rRSTREQ 0 0 v) ∧ (fld v 31 8 = 0x525354) ∧ (bit v 0 = true) ∧ (s.chip.pwr.pfw = false) :=
  ⟨(st), hc, 0x52535401, by decide +kernel⟩
theorem wit_warm_reset_pin_and_request_4 : ∃ (s : State) (x : Straps),
    (s.chip.pwr.phase = .rails) ∧ (s.chip.pwr.resetNLow = false) ∧ (s.chip.fuses.crcOk = true) :=
  ⟨(st rails), { porchEn := false, stkPos := 5 }, by decide +kernel⟩
theorem wit_lock_lost_and_regained_1 : ∃ (s : State) (b : Fin 18),
    (s.chip.pwr.phase = .running) ∧ (s.chip.rb rCLKSTAT 0 0 b = true) :=
  ⟨(st fun c => c.wr rCLKSTAT 0 0 0x3FFFF), 17, by decide +kernel⟩
theorem wit_lock_lost_and_regained_2 : ∃ (s : State) (b : Fin 18),
    (s.chip.pwr.phase = .running) :=
  ⟨(st), 17, by decide +kernel⟩
theorem wit_watchdogs_1 : ∃ (s : State) (a : Access) (w : Fin 3) (v : Word),
    (s.chip.takes a rWDOG_KICK w 0 v) :=
  ⟨(st fun c => { c with boot := { c.boot with wdogOnce := 7 } }), hc, 0, 1, by decide +kernel⟩
theorem wit_watchdogs_2 : ∃ (s : State) (w : Fin 3),
    (s.chip.alive .sys = true) ∧ (s.chip.rb rWDOG_CTRL w 0 31 = true) ∧ (w.val ≠ 0) :=
  ⟨(st fun c => c.wr rWDOG_CTRL 2 0 0x80000000), 2, by decide +kernel⟩
theorem wit_watchdogs_4 : ∃ (s : State),
    (s.chip.alive .sys = true) ∧ (s.chip.rb rWDOG_CTRL 0 0 31 = true) ∧ (s.chip.rb rWDOG_CTRL 0 0 30 = true) ∧ (s.chip.boot.wdogOnce.getLsbD 0 = true) ∧ (s.chip.pwr.pfw = false) :=
  ⟨(st fun c => { (c.wr rWDOG_CTRL 0 0 0xC0000000) with boot := { c.boot with wdogOnce := 1 } }), by decide +kernel⟩
theorem wit_die_and_dram_temperature_1 : ∃ (s : State) (t : BitVec 8),
    (s.chip.alive .sys = true) ∧ (s.chip.rf rTEMP 0 0 23 16 ≤ t.toNat) ∧ (s.chip.pwr.alarmArmed = true) :=
  ⟨(st fun c => { (c.wr rTEMP 0 0 0x00690000) with pwr := { c.pwr with alarmArmed := true } }), 0x69, by decide +kernel⟩
theorem wit_die_and_dram_temperature_2 : ∃ (s : State) (t : BitVec 8),
    (s.chip.alive .sys = true) ∧ (t.toNat + 5 ≤ s.chip.rf rTEMP 0 0 23 16) :=
  ⟨(st fun c => c.wr rTEMP 0 0 0x00690000), 0x64, by decide +kernel⟩
theorem wit_die_and_dram_temperature_3 : ∃ (s : State) (t : BitVec 8),
    (s.chip.alive .sys = true) ∧ (t.toNat < s.chip.rf rTEMP 0 0 23 16 ∨ s.chip.pwr.alarmArmed = false) :=
  ⟨(st fun c => { (c.wr rTEMP 0 0 0x00690000) with pwr := { c.pwr with alarmArmed := true } }), 0x68, by decide +kernel⟩
theorem wit_die_and_dram_temperature_3_b : ∃ (s : State) (t : BitVec 8),
    (s.chip.alive .sys = true) ∧ (t.toNat < s.chip.rf rTEMP 0 0 23 16 ∨ s.chip.pwr.alarmArmed = false) :=
  ⟨(st fun c => { (c.wr rTEMP 0 0 0x00690000) with pwr := { c.pwr with alarmArmed := false } }), 0x69, by decide +kernel⟩
theorem wit_die_and_dram_temperature_3_c : ∃ (s : State) (t : BitVec 8),
    (s.chip.alive .sys = true) ∧ (t.toNat < s.chip.rf rTEMP 0 0 23 16 ∨ s.chip.pwr.alarmArmed = false) :=
  ⟨(st fun c => { (c.wr rTEMP 0 0 0x00690000) with pwr := { c.pwr with alarmArmed := false } }), 0x64, by decide +kernel⟩
theorem wit_die_and_dram_temperature_4 : ∃ (s : State) (high : Bool),
    (s.chip.alive .cel = true) :=
  ⟨(st), true, by decide +kernel⟩
theorem wit_flash_controller_1 : ∃ (s : State) (a : Access),
    (s.chip.takes a rFLASH_CTRL 0 0 0x80000002) ∧ (s.chip.boot.flashOp = none) ∧ (s.chip.pwr.pfw = false) ∧ (s.chip.inRunSlot (s.chip.rf rFLASH_ADDR 0 0 25 0 / 0x10000 * 0x10000) 0x10000 = false) :=
  ⟨(st fun c => c.wr rFLASH_ADDR 0 0 0x03060123), hc, by decide +kernel⟩
theorem wit_flash_controller_2 : ∃ (s : State) (a : Access),
    (s.chip.takes a rFLASH_CTRL 0 0 0x80000001) ∧ (s.chip.boot.flashOp = none) ∧ (s.chip.pwr.pfw = false) ∧ (s.chip.inRunSlot (s.chip.rf rFLASH_ADDR 0 0 25 0) (s.chip.rf rFLASH_LEN 0 0 8 0) = true) :=
  ⟨(st fun c => ((c.wr rRUNSLOT 0 0 0).wr rFLASH_ADDR 0 0 0x00040000).wr rFLASH_LEN 0 0 4), hc, by decide +kernel⟩
theorem wit_flash_controller_3 : ∃ (s : State) (a : Access),
    (s.chip.takes a rFLASH_CTRL 0 0 0x80000001) ∧ (s.chip.boot.flashOp = none) ∧ (s.chip.pwr.pfw = false) ∧ (s.chip.inRunSlot (s.chip.rf rFLASH_ADDR 0 0 25 0) (s.chip.rf rFLASH_LEN 0 0 8 0) = false) ∧ (1 ≤ s.chip.rf rFLASH_LEN 0 0 8 0) ∧ (s.chip.rf rFLASH_LEN 0 0 8 0 ≤ 256) ∧ (s.chip.rf rFLASH_ADDR 0 0 25 0 % 256 + s.chip.rf rFLASH_LEN 0 0 8 0 ≤ 256) ∧ (areaOf (s.chip.rd rFLASH_SRC).toNat = .sram) ∧ ((s.chip.rd rFLASH_SRC).toNat + 256 ≤ 0x01100000) ∧ (s.chip.sram.errs = []) :=
  ⟨(st fun c => ((c.wr rFLASH_SRC 0 0 0x01050000).wr rFLASH_ADDR 0 0 0x030600FF).wr rFLASH_LEN 0 0 1), hc, by decide +kernel⟩
theorem wit_flash_controller_4 : ∃ (s : State) (a : Access) (v : Word),
    (v = 0x80000001 ∨ v = 0x80000002) ∧ (s.chip.takes a rFLASH_CTRL 0 0 v) ∧ (s.chip.boot.flashOp = none) ∧ (s.chip.pwr.pfw = true) :=
  ⟨(st fun c => { c with pwr := { c.pwr with pfw := true } }), hc, 0x80000001, by decide +kernel⟩
theorem wit_flash_controller_4_b : ∃ (s : State) (a : Access) (v : Word),
    (v = 0x80000001 ∨ v = 0x80000002) ∧ (s.chip.takes a rFLASH_CTRL 0 0 v) ∧ (s.chip.boot.flashOp = none) ∧ (s.chip.pwr.pfw = true) :=
  ⟨(st fun c => { c with pwr := { c.pwr with pfw := true } }), hc, 0x80000002, by decide +kernel⟩
theorem wit_flash_controller_5 : ∃ (s : State) (a : Access),
    (s.chip.takes a rFLASH_CTRL 0 0 0x80000002) ∧ (s.chip.boot.flashOp = none) ∧ (s.chip.pwr.pfw = false) ∧ (s.chip.inRunSlot (s.chip.rf rFLASH_ADDR 0 0 25 0 / 0x10000 * 0x10000) 0x10000 = true) :=
  ⟨(st fun c => (c.wr rRUNSLOT 0 0 0).wr rFLASH_ADDR 0 0 0x00045678), hc, by decide +kernel⟩
theorem wit_flash_controller_6 : ∃ (s : State) (a : Access) (v : Word),
    (s.chip.takes a rRUNSLOT 0 0 v) ∧ (s.chip.boot.runslotWritten = false) :=
  ⟨(st), hc, 1, by decide +kernel⟩
theorem wit_flash_controller_7 : ∃ (s : State) (o : Nat),
    (s.chip.alive .sys = true) ∧ (s.chip.boot.flashOp = some (.erase o)) ∧ (o + 0x10000 ≤ 0x4000000) :=
  ⟨(st fun c => { c with boot := { c.boot with flashOp := some (.erase 0x3FF0000) } }), 0x3FF0000, by decide +kernel⟩
theorem wit_flash_controller_8 : ∃ (s : State) (o : Nat) (l : List Byte),
    (s.chip.alive .sys = true) ∧ (s.chip.boot.flashOp = some (.program o l)) :=
  ⟨(st fun c => { c with boot := { c.boot with flashOp := some (.program 5 [1, 2]) } }), 5, [1, 2], by decide +kernel⟩
theorem wit_power_fail_warning_1 : ∃ (s : State),
    (s.chip.pwr.phase = .running) ∧ (s.chip.pwr.pfw = false) ∧ ((∀ o, s.chip.boot.flashOp ≠ some (.erase o))) ∧ ((s.chip.boot.flashOp = none → s.chip.upd.erasing = false)) :=
  ⟨(st), by decide +kernel, by decide +kernel, (by intro o h; cases h), by decide +kernel⟩
theorem wit_power_fail_warning_3 : ∃ (s : State),
    (s.chip.pwr.phase = .rails) ∧ (s.chip.pwr.pfw = false) :=
  ⟨(st rails), by decide +kernel⟩
theorem wit_power_fail_warning_2 : ∃ (s : State) (o : Nat),
    (s.chip.pwr.phase = .running) ∧ (s.chip.pwr.pfw = false) ∧ (s.chip.boot.flashOp = some (.erase o)) :=
  ⟨(st fun c => { c with boot := { c.boot with flashOp := some (.erase 0x3FF0000) } }), 0x3FF0000, by decide +kernel⟩
theorem wit_warm_reset_pin_and_request_5 : ∃ (s : State) (x : Straps),
    (s.chip.pwr.phase = .rails) ∧ (s.chip.pwr.resetNLow = false) ∧ (s.chip.fuses.crcOk = false) :=
  ⟨(st fun c => rails { c with fuses := { c.fuses with crc := 0 } }), { porchEn := false, stkPos := 5 }, by decide +kernel⟩
theorem wit_watchdogs_3 : ∃ (s : State),
    (s.chip.alive .sys = true) ∧ (s.chip.rb rWDOG_CTRL 0 0 31 = true) ∧ (s.chip.rb rWDOG_CTRL 0 0 30 = false ∨ s.chip.boot.wdogOnce.getLsbD 0 = false) :=
  ⟨(st fun c => c.wr rWDOG_CTRL 0 0 0x80000000), by decide +kernel⟩
theorem wit_watchdogs_5 : ∃ (s : State),
    (s.chip.alive .sys = true) ∧ (s.chip.rb rWDOG_CTRL 0 0 31 = true) ∧ (s.chip.rb rWDOG_CTRL 0 0 30 = true) ∧ (s.chip.boot.wdogOnce.getLsbD 0 = true) ∧ (s.chip.pwr.pfw = true) :=
  ⟨(st fun c => { (c.wr rWDOG_CTRL 0 0 0xC0000000) with boot := { c.boot with wdogOnce := 1 }, pwr := { c.pwr with pfw := true } }), by decide +kernel⟩

end Sys2Proof.Tests.WitnessB
end

