-- ==== Sys2Proof/Tests/WitnessC.lean ====
section
/-! SUPPORT. States and operands that meet the hypotheses of the statements, part C. -/

namespace Sys2Proof.Tests.WitnessC

open Sys2Proof Sys2Proof.Machine Sys2Proof.Tests

set_option maxRecDepth 100000
set_option Elab.async false
set_option linter.unusedVariables false
set_option linter.unreachableTactic false
set_option linter.unusedTactic false

def fo (p : Nat) : Foreign := { port := p, clk := 9, gm := 9, prio1 := 1, cls := 6, acc := 0x21, var := 0, prio2 := 1, steps := 0 }
/-- Port 1 linked, in the time domain, with the clock 9 as its parent after `f`. -/
def ptp (f : Servo → Servo := id) : State := st fun c => { ((c.wr rMAC_STATUS 1 0 1).wr rMAC_CTRL 1 0 0xD).wr rSTRAP 0 0 0x38 with time := { c.time with servo := f { c.time.servo with parent := some (fo 1) } } }
def cmpc : Chip → Chip := fun c => { (c.wr rCMP_CTRL 3 0 0x21) with time := { c.time with now := 500, cmps := [(3, { armed := true, target := 500 })] } }
theorem wit_time_register_commands_1 : ∃ (s : State) (a : Access) (v : Word),
    (s.chip.takes a rTIME_ADDEND 0 0 v) :=
  ⟨(st), nc, 5, by decide +kernel⟩
theorem wit_time_register_commands_2 : ∃ (s : State) (a : Access) (v : Word),
    (s.chip.takes a rTIME_CTRL 0 0 (v ||| 0x4)) :=
  ⟨(st fun c => c.wr rSTEP_SHI 0 0 0x80000000), nc, 8, by decide +kernel⟩
theorem wit_time_register_commands_3 : ∃ (s : State) (a : Access) (v : Word),
    (s.chip.takes a rGRID_CTRL 0 0 (v ||| 0x1)) :=
  ⟨(st fun c => (c.wr rGRID_NUM 0 0 1).wr rGRID_DEN 0 0 60), nc, 0, by decide +kernel⟩
theorem wit_time_register_commands_4 : ∃ (s : State) (a : Access) (n : Fin 16) (v : Word),
    (s.chip.takes a rCMP_CTRL n 0 (v ||| 0x2)) :=
  ⟨(st cmpc), nc, 3, 0, by decide +kernel⟩
theorem wit_time_register_commands_4_b : ∃ (s : State) (a : Access) (n : Fin 16) (v : Word),
    (s.chip.takes a rCMP_CTRL n 0 (v ||| 0x2)) :=
  ⟨(st), nc, 15, 0, by decide +kernel⟩
theorem wit_time_register_commands_5 : ∃ (s : State) (a : Access) (n : Fin 16) (v : Word),
    (s.chip.takes a rCMP_CTRL n 0 (v ||| 0x1)) ∧ (bit v 1 = false) ∧ (fld v 3 2 < 2) ∧ ((s.chip.cmp n).armed = false ∨ s.chip.time.now < (s.chip.cmp n).target) ∧ (s.chip.time.now < tsOf (s.chip.rd rCMP_NS n) (s.chip.rd rCMP_SLO n) (s.chip.rd rCMP_SHI n)) :=
  ⟨(st fun c => c.wr rCMP_NS 15 0 9), nc, 15, 4, by decide +kernel⟩
theorem wit_time_register_commands_6 : ∃ (s : State) (a : Access) (n : Fin 16) (v : Word),
    (s.chip.takes a rCMP_CTRL n 0 (v ||| 0x1)) ∧ (bit v 1 = false) ∧ (fld v 3 2 < 2) ∧ ((s.chip.cmp n).armed = false ∨ s.chip.time.now < (s.chip.cmp n).target) ∧ (tsOf (s.chip.rd rCMP_NS n) (s.chip.rd rCMP_SLO n) (s.chip.rd rCMP_SHI n) ≤ s.chip.time.now) :=
  ⟨(st), nc, 15, 4, by decide +kernel⟩
theorem wit_time_register_commands_6_b : ∃ (s : State) (a : Access) (n : Fin 16) (v : Word),
    (s.chip.takes a rCMP_CTRL n 0 (v ||| 0x1)) ∧ (bit v 1 = false) ∧ (fld v 3 2 < 2) ∧ ((s.chip.cmp n).armed = false ∨ s.chip.time.now < (s.chip.cmp n).target) ∧ (tsOf (s.chip.rd rCMP_NS n) (s.chip.rd rCMP_SLO n) (s.chip.rd rCMP_SHI n) ≤ s.chip.time.now) :=
  ⟨(st), nc, 15, 0x20, by decide +kernel⟩
theorem wit_time_register_commands_7 : ∃ (s : State) (a : Access) (n : Fin 16) (v : Word),
    (s.chip.takes a rCMP_CTRL n 0 (v ||| 0x1)) ∧ (bit v 1 = false) ∧ (fld v 3 2 = 2) ∧ ((s.chip.cmp n).armed = false ∨ s.chip.time.now < (s.chip.cmp n).target) :=
  ⟨(st), nc, 15, 0x01000008, by decide +kernel⟩
theorem wit_time_register_commands_8 : ∃ (s : State) (a : Access) (n : Fin 16) (v : Word),
    (s.chip.takes a rCMP_CTRL n 0 (v ||| 0x1)) ∧ (bit v 1 = true ∨ fld v 3 2 = 3) :=
  ⟨(st), nc, 15, 12, by decide +kernel⟩
theorem wit_time_register_commands_8_b : ∃ (s : State) (a : Access) (n : Fin 16) (v : Word),
    (s.chip.takes a rCMP_CTRL n 0 (v ||| 0x1)) ∧ (bit v 1 = true ∨ fld v 3 2 = 3) :=
  ⟨(st cmpc), nc, 3, 2, by decide +kernel⟩
theorem wit_time_register_commands_9 : ∃ (s : State) (a : Access) (v : Word),
    (s.chip.takes a rTIME_SERVO 0 0 v) :=
  ⟨(st), nc, 4, by decide +kernel⟩
theorem wit_time_register_commands_9_b : ∃ (s : State) (a : Access) (v : Word),
    (s.chip.takes a rTIME_SERVO 0 0 v) :=
  ⟨(st fun c => { c with time := { c.time with ppsPulse := true } }.wr rPPS_CTRL 0 0 3), nc, 2, by decide +kernel⟩
theorem wit_time_register_commands_10 : ∃ (s : State) (a : Access) (m : Fin 4),
    (s.chip.reads a rSNAP m 0) :=
  ⟨(st), nc, 3, by decide +kernel⟩
theorem wit_time_register_commands_11 : ∃ (s : State) (a : Access) (x : TxTs) (q : List TxTs),
    (s.chip.reads a rTXTS_TAG 0 0) ∧ (s.chip.time.txts = x :: q) :=
  ⟨(st fun c => { c with time := { c.time with txts := [⟨1, 2, 3⟩] } }), nc, ⟨1, 2, 3⟩, [], by decide +kernel⟩
theorem wit_time_register_commands_12 : ∃ (s : State) (a : Access),
    (s.chip.reads a rTXTS_TAG 0 0) ∧ (s.chip.time.txts = []) :=
  ⟨(st), nc, by decide +kernel⟩
theorem wit_time_events_1 : ∃ (s : State) (q : StepReq),
    (s.chip.alive .ts = true) ∧ (s.chip.time.stepReq = some q) :=
  ⟨(st fun c => { c with time := { c.time with stepReq := some ⟨true, 5⟩ } }), ⟨true, 5⟩, by decide +kernel⟩
theorem wit_time_events_1_b : ∃ (s : State) (q : StepReq),
    (s.chip.alive .ts = true) ∧ (s.chip.time.stepReq = some q) :=
  ⟨(st fun c => { (cmpc c) with time := { (cmpc c).time with now := 400, stepReq := some ⟨false, 3000000000⟩ } }), ⟨false, 3000000000⟩, by decide +kernel⟩
theorem wit_time_events_2 : ∃ (s : State),
    (s.chip.time.stepReq = none) :=
  ⟨(st), by decide +kernel⟩
theorem wit_time_events_3 : ∃ (s : State) (p : GridPend),
    (s.chip.alive .ts = true) ∧ (s.chip.time.gridPend = some p) ∧ (p.tick ≤ (s.chip.time.now : Int) ∨ s.chip.rb rTIME_CTRL 0 0 0 = true) :=
  ⟨(st fun c => { c with time := { c.time with gridPend := some ⟨{}, 0, 0⟩ } }), ⟨{}, 0, 0⟩, by decide +kernel⟩
theorem wit_time_events_3_b : ∃ (s : State) (p : GridPend),
    (s.chip.alive .ts = true) ∧ (s.chip.time.gridPend = some p) ∧ (p.tick ≤ (s.chip.time.now : Int) ∨ s.chip.rb rTIME_CTRL 0 0 0 = true) :=
  ⟨(st fun c => { c with time := { c.time with gridPend := some ⟨{}, 0, 70⟩ } }.wr rTIME_CTRL 0 0 1), ⟨{}, 0, 70⟩, by decide +kernel⟩
theorem wit_time_events_4 : ∃ (s : State) (n : Fin 16) (t : Nat),
    (s.chip.alive .ts = true) ∧ (s.chip.fires n t = true) :=
  ⟨(st cmpc), 3, 500, by decide +kernel⟩
theorem wit_time_events_5 : ∃ (s : State) (n : Fin 16),
    (s.chip.alive .ts = true) ∧ (s.chip.fires n s.chip.time.now = true) ∧ ((s.chip.cmp n).mode = 0) ∧ (s.chip.rf rCMP_CTRL n 0 18 15 = 0) ∧ (s.chip.rb rCMP_CTRL n 0 4 = false) ∧ (s.chip.rb rCMP_CTRL n 0 5 = true) ∧ (s.chip.rd rOUT_CTRL = 0) ∧ ((∀ u < 8, s.chip.rb rCAP_CTRL u 0 0 = false)) :=
  ⟨(st cmpc), 3, by decide +kernel⟩
theorem wit_time_events_6 : ∃ (s : State) (src : Fin 32) (rising : Bool),
    ((∀ u < 8, s.chip.rb rCAP_CTRL u 0 0 = false ∨ s.chip.rf rCAP_CTRL u 0 9 5 ≠ src.val)) :=
  ⟨(st), 31, true, by decide +kernel⟩
theorem wit_time_events_6_b : ∃ (s : State) (src : Fin 32) (rising : Bool),
    ((∀ u < 8, s.chip.rb rCAP_CTRL u 0 0 = false ∨ s.chip.rf rCAP_CTRL u 0 9 5 ≠ src.val)) :=
  ⟨(st), 3, true, by decide +kernel⟩
theorem wit_time_events_7 : ∃ (s : State) (src : Fin 32) (u : Nat),
    (s.chip.alive .ts = true) ∧ (src.val ≤ 9) ∧ (u < 8) ∧ (s.chip.rb rCAP_CTRL u 0 0 = true) ∧ (s.chip.rf rCAP_CTRL u 0 9 5 = src) ∧ (s.chip.rf rCAP_CTRL u 0 11 10 = 2) ∧ (s.chip.rf rCAP_CTRL u 0 31 16 = 0) ∧ (s.chip.rb rCAP_CTRL u 0 12 = false) ∧ (s.chip.time.evtQ.length < 16) ∧ ((∀ k < 8, k ≠ u → s.chip.rb rCAP_CTRL k 0 0 = false)) :=
  ⟨(st fun c => c.wr rCAP_CTRL 7 0 0x00000921), 9, 7, by decide +kernel⟩
theorem wit_time_events_7_b : ∃ (s : State) (src : Fin 32) (u : Nat),
    (s.chip.alive .ts = true) ∧ (src.val ≤ 9) ∧ (u < 8) ∧ (s.chip.rb rCAP_CTRL u 0 0 = true) ∧ (s.chip.rf rCAP_CTRL u 0 9 5 = src) ∧ (s.chip.rf rCAP_CTRL u 0 11 10 = 2) ∧ (s.chip.rf rCAP_CTRL u 0 31 16 = 0) ∧ (s.chip.rb rCAP_CTRL u 0 12 = false) ∧ (s.chip.time.evtQ.length < 16) ∧ ((∀ k < 8, k ≠ u → s.chip.rb rCAP_CTRL k 0 0 = false)) :=
  ⟨(st fun c => { (c.wr rCAP_CTRL 7 0 0x00000921) with time := { c.time with capTick := [(7, some 0)] } }), 9, 7, by decide +kernel⟩
theorem wit_time_events_8 : ∃ (s : State),
    (s.chip.alive .ts = true) :=
  ⟨(st fun c => c.wr rPPS_CTRL 0 0 1), by decide +kernel⟩
theorem wit_time_events_8_b : ∃ (s : State),
    (s.chip.alive .ts = true) :=
  ⟨(st), by decide +kernel⟩
theorem wit_time_events_9 : ∃ (s : State),
    (s.chip.alive .ts = true) :=
  ⟨(st fun c => { c with time := { c.time with ppsPulse := true, ppsOut := true } }), by decide +kernel⟩
theorem wit_time_events_10 : ∃ (s : State) (j : Fin 4),
    (s.chip.alive .ts = true) ∧ (s.chip.time.outPulse.getLsbD j = true) :=
  ⟨(st fun c => { c with time := { c.time with outPulse := 8, outLvl := 15 } }), 3, by decide +kernel⟩
theorem wit_ptp_servo_1 : ∃ (s : State) (p : Fin 3) (m : Announce),
    (s.chip.ptpOn p m.domain = true) ∧ (ptpTo m.dst 320 = true) ∧ (-3 ≤ m.log) ∧ (m.log ≤ 3) ∧ (s.chip.acceptable m.clk = true) ∧ (s.chip.time.servo.parent = none) ∧ (s.chip.time.servo.foreigns = []) :=
  ⟨(⟨[], { (ptp).chip with time := {} }⟩ : State), 1, { domain := 127, clk := 9, gm := 9, prio1 := 1, cls := 6, acc := 0x21, var := 0, prio2 := 1, steps := 0 }, by decide +kernel⟩
theorem wit_ptp_servo_2 : ∃ (s : State) (p : Fin 3) (m : SyncMsg),
    (s.chip.ptpOn p m.domain = true) ∧ (ptpTo m.dst 319 = true) ∧ (-7 ≤ m.log) ∧ (m.log ≤ 1) ∧ (s.chip.fromParent p m.clk = true) ∧ (m.followUp = false) ∧ (m.twoStep = true) :=
  ⟨(ptp), 1, { domain := 127, clk := 9, seq := 5, twoStep := true, origin := 7, rx := 900 }, by decide +kernel⟩
theorem wit_ptp_servo_3 : ∃ (s : State) (p : Fin 3) (m : SyncMsg) (o : Int),
    (s.chip.ptpOn p m.domain = true) ∧ (ptpTo m.dst 319 = true) ∧ (-7 ≤ m.log) ∧ (m.log ≤ 1) ∧ (s.chip.fromParent p m.clk = true) ∧ (m.followUp = false) ∧ (m.twoStep = false) ∧ (o = ((((m.rx : Int) - s.chip.asym).toNat : Nat) : Int) - (m.origin + m.corr) - s.chip.time.servo.delay) :=
  ⟨(⟨[], (ptp).chip.wr rTIME_SERVO 0 0 4⟩ : State), 1, { domain := 127, clk := 9, seq := 5, origin := 7, rx := 900 }, 893, by decide +kernel⟩
theorem wit_ptp_servo_3_b : ∃ (s : State) (p : Fin 3) (m : SyncMsg) (o : Int),
    (s.chip.ptpOn p m.domain = true) ∧ (ptpTo m.dst 319 = true) ∧ (-7 ≤ m.log) ∧ (m.log ≤ 1) ∧ (s.chip.fromParent p m.clk = true) ∧ (m.followUp = false) ∧ (m.twoStep = false) ∧ (o = ((((m.rx : Int) - s.chip.asym).toNat : Nat) : Int) - (m.origin + m.corr) - s.chip.time.servo.delay) :=
  ⟨(⟨[], (ptp).chip.wr rTIME_SERVO 0 0 1⟩ : State), 1, { domain := 127, clk := 9, seq := 5, origin := 7, rx := 900 }, 893, by decide +kernel⟩
theorem wit_ptp_servo_4 : ∃ (s : State) (p : Fin 3) (m : DelayResp) (q : Nat) (t3 : Nat) (t1 : Int) (t2 : Nat),
    (s.chip.ptpOn p m.domain = true) ∧ (ptpTo m.dst 320 = true) ∧ (s.chip.fromParent p m.clk = true) ∧ (s.chip.time.servo.reqWait = some (q, t3)) ∧ (s.chip.time.servo.lastSync = some (t1, t2)) ∧ (m.seq.toNat = q) :=
  ⟨(ptp fun x => { x with reqWait := some (5, 100), lastSync := some (90, 95) }), 1, { domain := 127, clk := 9, seq := 5, rcv := 120 }, 5, 100, 90, 95, by decide +kernel⟩
theorem wit_ptp_servo_5 : ∃ (s : State) (f : Foreign),
    (s.chip.time.servo.parent = some f) ∧ (s.chip.alive .ts = true) ∧ (s.chip.boot.ncRun = true) ∧ (s.chip.link f.port = true) ∧ (s.chip.txStop f.port = false) :=
  ⟨(ptp), (fo 1), by decide +kernel⟩
theorem wit_ptp_servo_5_b : ∃ (s : State) (f : Foreign),
    (s.chip.time.servo.parent = some f) ∧ (s.chip.alive .ts = true) ∧ (s.chip.boot.ncRun = true) ∧ (s.chip.link f.port = true) ∧ (s.chip.txStop f.port = false) :=
  ⟨(⟨[], (ptp).chip.wr rTIME_CTRL 0 0 2⟩ : State), (fo 1), by decide +kernel⟩
theorem wit_ptp_servo_6 : ∃ (s : State) (f : Foreign),
    (s.chip.alive .ts = true) ∧ (s.chip.boot.ncRun = true) ∧ (s.chip.time.servo.parent = some f) :=
  ⟨(ptp), (fo 1), by decide +kernel⟩
theorem wit_ptp_servo_7 : ∃ (s : State),
    (s.chip.alive .ts = true) ∧ (s.chip.boot.ncRun = true) ∧ (s.chip.servoNow = 3) :=
  ⟨(st fun c => c.wr rTIME_SERVO 0 0 3), by decide +kernel⟩
theorem wit_ptp_servo_8 : ∃ (s : State),
    (s.chip.alive .ts = true) ∧ (s.chip.boot.ncRun = true) ∧ (s.chip.servoNow = 4) ∧ (s.chip.time.servo.settleOffs ≠ []) :=
  ⟨(⟨[], (ptp fun x => { x with settleOffs := [5], fromFreerun := false }).chip.wr rTIME_SERVO 0 0 4⟩ : State), by decide +kernel⟩
theorem wit_ptp_servo_8_b : ∃ (s : State),
    (s.chip.alive .ts = true) ∧ (s.chip.boot.ncRun = true) ∧ (s.chip.servoNow = 4) ∧ (s.chip.time.servo.settleOffs ≠ []) :=
  ⟨(⟨[], (ptp fun x => { x with settleOffs := [5], fromFreerun := true }).chip.wr rTIME_SERVO 0 0 4⟩ : State), by decide +kernel⟩

end Sys2Proof.Tests.WitnessC
end

