-- ==== Sys2Proof/Tests/WitnessD.lean ====
section
/-! SUPPORT. States and operands that meet the hypotheses of the statements, part D. -/

namespace Sys2Proof.Tests.WitnessD

open Sys2Proof Sys2Proof.Machine Sys2Proof.Tests

set_option maxRecDepth 100000
set_option Elab.async false
set_option linter.unusedVariables false
set_option linter.unreachableTactic false
set_option linter.unusedTactic false

/-- A linked port whose clock is the parent. -/
def par (p : Nat) : Chip → Chip := fun c => { (c.wr rMAC_STATUS p 0 1).wr rMAC_CTRL p 0 0xD with time := { c.time with servo := { c.time.servo with parent := some { port := p, clk := 9, gm := 9, prio1 := 1, cls := 6, acc := 0x21, var := 0, prio2 := 1, steps := 0 } } } }
theorem wit_mac_links_and_mdio_1 : ∃ (s : State) (a : Access) (p : Fin 3) (v : Word),
    (s.chip.takes a rMAC_CTRL p 0 v) ∧ (bit v 0 = true) :=
  ⟨(st), hc, 1, 3, by decide +kernel⟩
theorem wit_mac_links_and_mdio_1_b : ∃ (s : State) (a : Access) (p : Fin 3) (v : Word),
    (s.chip.takes a rMAC_CTRL p 0 v) ∧ (bit v 0 = true) :=
  ⟨(st), hc, 2, 0xF3, by decide +kernel⟩
theorem wit_mac_links_and_mdio_1_c : ∃ (s : State) (a : Access) (p : Fin 3) (v : Word),
    (s.chip.takes a rMAC_CTRL p 0 v) ∧ (bit v 0 = true) :=
  ⟨(st), hc, 0, 0x80000001, by decide +kernel⟩
theorem wit_mac_links_and_mdio_2 : ∃ (s : State) (a : Access) (p : Fin 3) (v : Word),
    (s.chip.takes a rMAC_CTRL p 0 v) ∧ (bit v 0 = false) :=
  ⟨(st (par 1)), hc, 1, 2, by decide +kernel⟩
theorem wit_mac_links_and_mdio_2_b : ∃ (s : State) (a : Access) (p : Fin 3) (v : Word),
    (s.chip.takes a rMAC_CTRL p 0 v) ∧ (bit v 0 = false) :=
  ⟨(st (par 1)), hc, 1, 0x80000000, by decide +kernel⟩
theorem wit_mac_links_and_mdio_2_c : ∃ (s : State) (a : Access) (p : Fin 3) (v : Word),
    (s.chip.takes a rMAC_CTRL p 0 v) ∧ (bit v 0 = false) :=
  ⟨(st (par 1)), hc, 2, 0, by decide +kernel⟩
theorem wit_mac_links_and_mdio_3 : ∃ (s : State) (p : Fin 3),
    (s.chip.alive (macDom p) = true) ∧ (s.chip.rb rMAC_CTRL p 0 0 = true) ∧ (s.chip.rb rMAC_STATUS p 0 4 = false) ∧ (s.chip.link p = false) :=
  ⟨(st (·.wr rMAC_CTRL 1 0 3)), 1, by decide +kernel⟩
theorem wit_mac_links_and_mdio_3_b : ∃ (s : State) (p : Fin 3),
    (s.chip.alive (macDom p) = true) ∧ (s.chip.rb rMAC_CTRL p 0 0 = true) ∧ (s.chip.rb rMAC_STATUS p 0 4 = false) ∧ (s.chip.link p = false) :=
  ⟨(st (·.wr rMAC_CTRL 0 0 1)), 0, by decide +kernel⟩
theorem wit_mac_links_and_mdio_3_c : ∃ (s : State) (p : Fin 3),
    (s.chip.alive (macDom p) = true) ∧ (s.chip.rb rMAC_CTRL p 0 0 = true) ∧ (s.chip.rb rMAC_STATUS p 0 4 = false) ∧ (s.chip.link p = false) :=
  ⟨(st (·.wr rMAC_CTRL 0 0 0x41)), 0, by decide +kernel⟩
theorem wit_mac_links_and_mdio_3_d : ∃ (s : State) (p : Fin 3),
    (s.chip.alive (macDom p) = true) ∧ (s.chip.rb rMAC_CTRL p 0 0 = true) ∧ (s.chip.rb rMAC_STATUS p 0 4 = false) ∧ (s.chip.link p = false) :=
  ⟨(st (·.wr rMAC_CTRL 2 0 1)), 2, by decide +kernel⟩
theorem wit_mac_links_and_mdio_4 : ∃ (s : State) (p : Fin 3),
    (s.chip.rb rMAC_CTRL p 0 0 = false ∨ s.chip.rb rMAC_STATUS p 0 4 = true ∨ s.chip.link p = true) :=
  ⟨(st), 2, by decide +kernel⟩
theorem wit_mac_links_and_mdio_4_b : ∃ (s : State) (p : Fin 3),
    (s.chip.rb rMAC_CTRL p 0 0 = false ∨ s.chip.rb rMAC_STATUS p 0 4 = true ∨ s.chip.link p = true) :=
  ⟨(st (par 2)), 2, by decide +kernel⟩
theorem wit_mac_links_and_mdio_5 : ∃ (s : State) (p : Fin 3),
    (s.chip.alive (macDom p) = true) :=
  ⟨(st (par 2)), 2, by decide +kernel⟩
theorem wit_mac_links_and_mdio_5_b : ∃ (s : State) (p : Fin 3),
    (s.chip.alive (macDom p) = true) :=
  ⟨(st (·.wr rMAC_STATUS 2 0 1)), 2, by decide +kernel⟩
theorem wit_mac_links_and_mdio_5_c : ∃ (s : State) (p : Fin 3),
    (s.chip.alive (macDom p) = true) :=
  ⟨(st), 2, by decide +kernel⟩
theorem wit_mac_links_and_mdio_6 : ∃ (s : State) (p : Fin 2) (modabs : Bool) (rxlos : Bool) (txfault : Bool),
    (s.chip.alive (macDom p) = true) ∧ (s.chip.rb rMAC_STATUS p 0 3 ≠ modabs ∨ s.chip.rb rMAC_STATUS p 0 4 ≠ rxlos ∨ s.chip.rb rMAC_STATUS p 0 5 ≠ txfault) :=
  ⟨(st (par 1)), 1, true, true, true, by decide +kernel⟩
theorem wit_mac_links_and_mdio_6_b : ∃ (s : State) (p : Fin 2) (modabs : Bool) (rxlos : Bool) (txfault : Bool),
    (s.chip.alive (macDom p) = true) ∧ (s.chip.rb rMAC_STATUS p 0 3 ≠ modabs ∨ s.chip.rb rMAC_STATUS p 0 4 ≠ rxlos ∨ s.chip.rb rMAC_STATUS p 0 5 ≠ txfault) :=
  ⟨(st), 1, true, false, false, by decide +kernel⟩
theorem wit_mac_links_and_mdio_7 : ∃ (s : State) (p : Fin 2) (modabs : Bool) (rxlos : Bool) (txfault : Bool),
    (s.chip.rb rMAC_STATUS p 0 3 = modabs) ∧ (s.chip.rb rMAC_STATUS p 0 4 = rxlos) ∧ (s.chip.rb rMAC_STATUS p 0 5 = txfault) :=
  ⟨(st), 1, false, false, false, by decide +kernel⟩
theorem wit_mac_links_and_mdio_8 : ∃ (s : State) (a : Access) (v : Word),
    (s.chip.takes a rMDIO 0 0 (v ||| 0x80000000)) ∧ (s.chip.rb rMDIO 0 0 31 = false) :=
  ⟨(st), hc, 0x04000000, by decide +kernel⟩
theorem wit_mac_links_and_mdio_9 : ∃ (s : State) (a : Access) (v : Word),
    (s.chip.takes a rMDIO 0 0 (v ||| 0x80000000)) ∧ (s.chip.rb rMDIO 0 0 31 = true) :=
  ⟨(st (·.wr rMDIO 0 0 0x80000000)), hc, 0x04000000, by decide +kernel⟩
theorem wit_mac_links_and_mdio_10 : ∃ (s : State) (data : BitVec 16),
    (s.chip.alive .svc = true) ∧ (s.chip.rb rMDIO 0 0 31 = true) :=
  ⟨(st fun c => (c.wr rMDIO 0 0 0x80000000).setMac 2 { mdioRead := true }), 0x1234, by decide +kernel⟩
theorem wit_mac_links_and_mdio_11 : ∃ (s : State) (data : BitVec 16),
    (s.chip.rb rMDIO 0 0 31 = false) :=
  ⟨(st), 0x1234, by decide +kernel⟩
theorem wit_mac_links_and_mdio_12 : ∃ (s : State) (a : Access) (p : Fin 3) (v : Word),
    (s.chip.takes a rMAC_CTRL p 0 (v ||| 0x80000000)) :=
  ⟨(st (par 1)), hc, 1, 0, by decide +kernel⟩
theorem wit_mac_links_and_mdio_12_b : ∃ (s : State) (a : Access) (p : Fin 3) (v : Word),
    (s.chip.takes a rMAC_CTRL p 0 (v ||| 0x80000000)) :=
  ⟨(st (·.wr rMAC_CNT 1 5 7)), hc, 1, 1, by decide +kernel⟩

end Sys2Proof.Tests.WitnessD
end

