-- ==== Sys2Proof/Tests/WitnessE.lean ====
section
/-! SUPPORT. States and operands that meet the hypotheses of the statements, part E. -/

namespace Sys2Proof.Tests.WitnessE

open Sys2Proof Sys2Proof.Machine Sys2Proof.Tests

set_option maxRecDepth 100000
set_option Elab.async false
set_option linter.unusedVariables false
set_option linter.unreachableTactic false
set_option linter.unusedTactic false

/-- 60 bytes of an Ethernet frame to the broadcast address. -/
def bcFrame : List Byte := List.replicate 12 0xFF ++ [0x88, 0xB5] ++ List.replicate 46 1
/-- A port with LINK. -/
def linked (p : Nat) : Chip → Chip := fun c => (c.wr rMAC_STATUS p 0 1).wr rMAC_CTRL p 0 0xD
/-- Receive ring 0 of port 0: 64 descriptors at 0x01050000, the first buffer at 0x01060000. -/
def ring0 : Chip → Chip := fun c =>
  ((((c.wr rRQ_BASE 0 0 0x01050000).wr rRQ_CTRL 0 0 0xC0000006).wr rRQ_TAIL 0 0 4).setWord 0x01050000 0x01060000).setMac 0 { rxq := [{ bytes := bcFrame, fcs := true }] }
/-- A cue's frame: UDP to port 30482. -/
def cueFrame : List Byte := List.replicate 6 0xFF ++ List.replicate 6 2 ++ [0x08, 0x00, 0x45, 0, 0, 46, 0, 0, 0, 0, 1, 17, 0, 0, 1, 2, 3, 4, 5, 6, 7, 8, 0, 9, 0x77, 0x12, 0, 26, 0, 0] ++ List.replicate 18 7
/-- A PAUSE frame of quanta 9. -/
def pauseFrame : List Byte := [0x01, 0x80, 0xC2, 0, 0, 1] ++ List.replicate 6 2 ++ [0x88, 0x08, 0, 1, 0, 9] ++ List.replicate 42 0
/-- What a frame received on port 1 becomes. -/
def rxOf (s : State) (p : Fin 3) (f : WireFrame) : RxFrame :=
  let h := parseHdr f.bytes
  let lim := s.chip.maxLen p (h.tagged || h.tpid88a8)
  let pcp := if h.tagged = true then h.pcpTag else s.chip.rf rMAC_CTRL p 0 16 14
  { bytes := f.bytes.take lim, fcs := !f.fcsOk, runt := decide (f.bytes.length + 4 < 64), oversize := decide (lim < f.bytes.length + 4), code := !f.codeOk
    lenerr := lenErr h f.bytes.length, ts := s.chip.rxStamp p f.sfd, queue := s.chip.steer p h pcp, cls := s.chip.qClass p (s.chip.steer p h pcp), pcp := pcp
    pm := if (h.da.getD 0 0).getLsbD 0 = true ∧ h.da ≠ List.replicate 6 0xFF then s.chip.pmFind p h.da else none, hidx := hashIdx h.da }
/-- Port 1 linked, accepting PAUSE's group address. -/
def pmOn : Chip → Chip := fun c => ((linked 1 c).wr rPM_LO 1 0 0x00C28001).wr rPM_HI 1 0 0x80000100
/-- 60 bytes of an IPv4 frame to a group. -/
def mcFrame : List Byte := [1, 0, 0x5E, 3, 4, 5] ++ List.replicate 6 2 ++ [0x08, 0x00, 0x45, 0, 0, 46, 0, 0, 0, 0, 1, 7, 0, 0, 1, 2, 3, 4, 239, 3, 4, 5] ++ List.replicate 26 7
theorem wit_mac_receive_and_pause_1 : ∃ (s : State) (p : Fin 3) (f : WireFrame),
    (s.chip.link p = false) :=
  ⟨(st), 1, ⟨bcFrame, true, true, 5⟩, by decide +kernel⟩
theorem wit_mac_receive_and_pause_2 : ∃ (s : State) (p : Fin 3) (f : WireFrame),
    (s.chip.alive (macDom p) = true) ∧ (s.chip.link p = true) ∧ (s.chip.daAccept p (parseHdr f.bytes).da = false) :=
  ⟨(st fun c => (c.wr rMAC_STATUS 1 0 1).wr rMAC_CTRL 1 0 1), 1, ⟨bcFrame, true, true, 5⟩, by decide +kernel⟩
theorem wit_mac_receive_and_pause_9 : ∃ (s : State) (p : Fin 3) (x : PauseIn) (t : List PauseIn),
    ((s.chip.mac p).pauseIn = x :: t) ∧ (x.pfc = false) ∧ (x.quanta.getD 0 0 ≠ 0) ∧ (s.chip.rb rMAC_FC p 0 4 = true) :=
  ⟨(st fun c => (c.wr rMAC_FC 1 0 0x10).setMac 1 { pauseIn := [⟨false, 0, [5]⟩] }), 1, ⟨false, 0, [5]⟩, [], by decide +kernel⟩
theorem wit_mac_receive_and_pause_15 : ∃ (s : State) (p : Fin 3),
    ((s.chip.mac p).pausePort = true) ∧ (s.chip.rf rPAUSE_WDOG p 0 15 0 ≠ 0) :=
  ⟨(st fun c => c.setMac 1 { pausePort := true }), 1, by decide +kernel⟩
theorem wit_mac_receive_and_pause_3 : ∃ (s : State) (p : Fin 3) (f : WireFrame),
    (s.chip.alive (macDom p) = true) ∧ (s.chip.link p = true) ∧ (s.chip.daAccept p (parseHdr f.bytes).da = true) :=
  ⟨(st (linked 1)), 1, ⟨List.replicate 2000 0xFF, false, false, 5000⟩, by decide +kernel⟩
theorem wit_mac_receive_and_pause_10 : ∃ (s : State) (p : Fin 3) (x : PauseIn) (t : List PauseIn),
    ((s.chip.mac p).pauseIn = x :: t) ∧ (x.pfc = false) ∧ (x.quanta.getD 0 0 = 0) ∧ (s.chip.rb rMAC_FC p 0 4 = true) :=
  ⟨(st fun c => (c.wr rMAC_FC 1 0 0x10).setMac 1 { pausePort := true, pauseIn := [⟨false, 0, [0]⟩] }), 1, ⟨false, 0, [0]⟩, [], by decide +kernel⟩
theorem wit_mac_receive_and_pause_11 : ∃ (s : State) (p : Fin 3) (x : PauseIn) (t : List PauseIn),
    ((s.chip.mac p).pauseIn = x :: t) ∧ (x.pfc = true) ∧ (s.chip.rb rMAC_FC p 0 4 = true) :=
  ⟨(st fun c => (c.wr rMAC_FC 1 0 0x10).setMac 1 { pausedPcp := 0x0F0F0F0F, pauseIn := [⟨true, 0x81, [0, 0, 0, 0, 0, 0, 0, 9]⟩] }), 1, ⟨true, 0x81, [0, 0, 0, 0, 0, 0, 0, 9]⟩, [], by decide +kernel⟩
theorem wit_mac_receive_and_pause_12 : ∃ (s : State) (p : Fin 3),
    ((s.chip.mac p).pauseIn = []) :=
  ⟨(st), 1, by decide +kernel⟩
theorem wit_mac_receive_and_pause_16 : ∃ (s : State) (p : Fin 3) (u : Fin 4),
    (s.chip.unitHeld p u = true) ∧ (s.chip.rf rPAUSE_WDOG p 0 15 0 ≠ 0) :=
  ⟨(st fun c => (c.wr rPFC_MAP 1 0 0x08040201).setMac 1 { pausedPcp := 0x0F0F0F0F }), 1, 2, by decide +kernel⟩
theorem wit_mac_receive_and_pause_4 : ∃ (s : State) (p : Fin 3) (f : WireFrame) (h : Hdr),
    (s.chip.alive (macDom p) = true) ∧ (s.chip.link p = true) ∧ (h = parseHdr f.bytes) ∧ (s.chip.daAccept p h.da = true) ∧ (s.chip.vlanAccept p h = false) :=
  ⟨(st fun c => (c.wr rMAC_STATUS 1 0 1).wr rMAC_CTRL 1 0 9), 1, ⟨bcFrame, true, true, 5⟩, (parseHdr bcFrame), by decide +kernel⟩
theorem wit_mac_receive_and_pause_5 : ∃ (s : State) (p : Fin 3) (f : WireFrame) (h : Hdr),
    (s.chip.alive (macDom p) = true) ∧ (s.chip.link p = true) ∧ (h = parseHdr f.bytes) ∧ (s.chip.daAccept p h.da = true) ∧ (s.chip.vlanAccept p h = true) ∧ (h.etype = 0x86DD) :=
  ⟨(st (linked 1)), 1, ⟨List.replicate 12 0xFF ++ [0x86, 0xDD], true, true, 5⟩, (parseHdr (List.replicate 12 0xFF ++ [0x86, 0xDD])), by decide +kernel, by decide +kernel, rfl, by decide +kernel⟩
theorem wit_mac_receive_and_pause_6 : ∃ (s : State) (p : Fin 3) (f : WireFrame) (h : Hdr) (lim : Nat) (pcp : Nat) (x : RxFrame) (dlc : Bool),
    (s.chip.alive (macDom p) = true) ∧ (s.chip.link p = true) ∧ (h = parseHdr f.bytes) ∧ (s.chip.daAccept p h.da = true) ∧ (s.chip.vlanAccept p h = true) ∧ (h.etype ≠ 0x86DD) ∧ (h.etype ≠ 0x8808) ∧ (lim = s.chip.maxLen p (h.tagged || h.tpid88a8)) ∧ (pcp = (if h.tagged = true then h.pcpTag else s.chip.rf rMAC_CTRL p 0 16 14)) ∧ (x = { bytes := f.bytes.take lim, fcs := !f.fcsOk, runt := decide (f.bytes.length + 4 < 64), oversize := decide (lim < f.bytes.length + 4), code := !f.codeOk, lenerr := lenErr h f.bytes.length, ts := s.chip.rxStamp p f.sfd, queue := s.chip.steer p h pcp, cls := s.chip.qClass p (s.chip.steer p h pcp), pcp := pcp, pm := if (h.da.getD 0 0).getLsbD 0 = true ∧ h.da ≠ List.replicate 6 0xFF then s.chip.pmFind p h.da else none, hidx := hashIdx h.da }) ∧ (dlc = (decide (x.cls = 3) && decide (p.val ≤ 1) && s.chip.rb rURG_CTRL p 0 31 && isDlc h)) :=
  ⟨(st fun c => (linked 1 c).wr rMAC_MAXLEN 1 0 1518), 1, ⟨bcFrame, true, true, 5000⟩, (parseHdr bcFrame), 1518, 0, (rxOf (st fun c => (linked 1 c).wr rMAC_MAXLEN 1 0 1518) 1 ⟨bcFrame, true, true, 5000⟩), false, by and_intros <;> first | with_reducible rfl | decide +kernel | rfl⟩
theorem wit_mac_receive_and_pause_6_b : ∃ (s : State) (p : Fin 3) (f : WireFrame) (h : Hdr) (lim : Nat) (pcp : Nat) (x : RxFrame) (dlc : Bool),
    (s.chip.alive (macDom p) = true) ∧ (s.chip.link p = true) ∧ (h = parseHdr f.bytes) ∧ (s.chip.daAccept p h.da = true) ∧ (s.chip.vlanAccept p h = true) ∧ (h.etype ≠ 0x86DD) ∧ (h.etype ≠ 0x8808) ∧ (lim = s.chip.maxLen p (h.tagged || h.tpid88a8)) ∧ (pcp = (if h.tagged = true then h.pcpTag else s.chip.rf rMAC_CTRL p 0 16 14)) ∧ (x = { bytes := f.bytes.take lim, fcs := !f.fcsOk, runt := decide (f.bytes.length + 4 < 64), oversize := decide (lim < f.bytes.length + 4), code := !f.codeOk, lenerr := lenErr h f.bytes.length, ts := s.chip.rxStamp p f.sfd, queue := s.chip.steer p h pcp, cls := s.chip.qClass p (s.chip.steer p h pcp), pcp := pcp, pm := if (h.da.getD 0 0).getLsbD 0 = true ∧ h.da ≠ List.replicate 6 0xFF then s.chip.pmFind p h.da else none, hidx := hashIdx h.da }) ∧ (dlc = (decide (x.cls = 3) && decide (p.val ≤ 1) && s.chip.rb rURG_CTRL p 0 31 && isDlc h)) :=
  ⟨(st fun c => ((linked 1 c).wr rMAC_MAXLEN 1 0 1518).setMac 1 { rxq := [{ bytes := List.replicate 65500 0 }] }), 1, ⟨bcFrame, false, true, 5000⟩, (parseHdr bcFrame), 1518, 0, (rxOf (st fun c => (linked 1 c).wr rMAC_MAXLEN 1 0 1518) 1 ⟨bcFrame, false, true, 5000⟩), false, by and_intros <;> first | with_reducible rfl | decide +kernel | rfl⟩
theorem wit_mac_receive_and_pause_6_c : ∃ (s : State) (p : Fin 3) (f : WireFrame) (h : Hdr) (lim : Nat) (pcp : Nat) (x : RxFrame) (dlc : Bool),
    (s.chip.alive (macDom p) = true) ∧ (s.chip.link p = true) ∧ (h = parseHdr f.bytes) ∧ (s.chip.daAccept p h.da = true) ∧ (s.chip.vlanAccept p h = true) ∧ (h.etype ≠ 0x86DD) ∧ (h.etype ≠ 0x8808) ∧ (lim = s.chip.maxLen p (h.tagged || h.tpid88a8)) ∧ (pcp = (if h.tagged = true then h.pcpTag else s.chip.rf rMAC_CTRL p 0 16 14)) ∧ (x = { bytes := f.bytes.take lim, fcs := !f.fcsOk, runt := decide (f.bytes.length + 4 < 64), oversize := decide (lim < f.bytes.length + 4), code := !f.codeOk, lenerr := lenErr h f.bytes.length, ts := s.chip.rxStamp p f.sfd, queue := s.chip.steer p h pcp, cls := s.chip.qClass p (s.chip.steer p h pcp), pcp := pcp, pm := if (h.da.getD 0 0).getLsbD 0 = true ∧ h.da ≠ List.replicate 6 0xFF then s.chip.pmFind p h.da else none, hidx := hashIdx h.da }) ∧ (dlc = (decide (x.cls = 3) && decide (p.val ≤ 1) && s.chip.rb rURG_CTRL p 0 31 && isDlc h)) :=
  ⟨(st fun c => ((linked 1 c).wr rMAC_MAXLEN 1 0 1518).wr rQCLASS 1 0 0xFFFF), 1, ⟨bcFrame, true, true, 5000⟩, (parseHdr bcFrame), 1518, 0, (rxOf (st fun c => ((linked 1 c).wr rMAC_MAXLEN 1 0 1518).wr rQCLASS 1 0 0xFFFF) 1 ⟨bcFrame, true, true, 5000⟩), false, by and_intros <;> first | with_reducible rfl | decide +kernel | rfl⟩
theorem wit_mac_receive_and_pause_6_d : ∃ (s : State) (p : Fin 3) (f : WireFrame) (h : Hdr) (lim : Nat) (pcp : Nat) (x : RxFrame) (dlc : Bool),
    (s.chip.alive (macDom p) = true) ∧ (s.chip.link p = true) ∧ (h = parseHdr f.bytes) ∧ (s.chip.daAccept p h.da = true) ∧ (s.chip.vlanAccept p h = true) ∧ (h.etype ≠ 0x86DD) ∧ (h.etype ≠ 0x8808) ∧ (lim = s.chip.maxLen p (h.tagged || h.tpid88a8)) ∧ (pcp = (if h.tagged = true then h.pcpTag else s.chip.rf rMAC_CTRL p 0 16 14)) ∧ (x = { bytes := f.bytes.take lim, fcs := !f.fcsOk, runt := decide (f.bytes.length + 4 < 64), oversize := decide (lim < f.bytes.length + 4), code := !f.codeOk, lenerr := lenErr h f.bytes.length, ts := s.chip.rxStamp p f.sfd, queue := s.chip.steer p h pcp, cls := s.chip.qClass p (s.chip.steer p h pcp), pcp := pcp, pm := if (h.da.getD 0 0).getLsbD 0 = true ∧ h.da ≠ List.replicate 6 0xFF then s.chip.pmFind p h.da else none, hidx := hashIdx h.da }) ∧ (dlc = (decide (x.cls = 3) && decide (p.val ≤ 1) && s.chip.rb rURG_CTRL p 0 31 && isDlc h)) :=
  ⟨(st fun c => (((linked 1 c).wr rMAC_MAXLEN 1 0 1518).wr rQCLASS 1 0 0xFFFF).wr rURG_CTRL 1 0 0x80000000), 1, ⟨cueFrame, true, true, 5000⟩, (parseHdr cueFrame), 1518, 0, (rxOf (st fun c => ((linked 1 c).wr rMAC_MAXLEN 1 0 1518).wr rQCLASS 1 0 0xFFFF) 1 ⟨cueFrame, true, true, 5000⟩), true, by and_intros <;> first | with_reducible rfl | decide +kernel | rfl⟩
theorem wit_mac_receive_and_pause_7 : ∃ (s : State) (p : Fin 3) (f : WireFrame) (h : Hdr) (good : Bool),
    (s.chip.alive (macDom p) = true) ∧ (s.chip.link p = true) ∧ (h = parseHdr f.bytes) ∧ (s.chip.daAccept p h.da = true) ∧ (s.chip.vlanAccept p h = true) ∧ (h.etype = 0x8808) ∧ (good = (f.fcsOk && f.codeOk && decide (60 ≤ f.bytes.length) && decide (f.bytes.length + 4 ≤ s.chip.maxLen p (h.tagged || h.tpid88a8)))) :=
  ⟨(st fun c => (pmOn c).wr rMAC_MAXLEN 1 0 1518), 1, ⟨pauseFrame, true, true, 5000⟩, (parseHdr pauseFrame), true, by decide +kernel⟩
theorem wit_mac_receive_and_pause_7_b : ∃ (s : State) (p : Fin 3) (f : WireFrame) (h : Hdr) (good : Bool),
    (s.chip.alive (macDom p) = true) ∧ (s.chip.link p = true) ∧ (h = parseHdr f.bytes) ∧ (s.chip.daAccept p h.da = true) ∧ (s.chip.vlanAccept p h = true) ∧ (h.etype = 0x8808) ∧ (good = (f.fcsOk && f.codeOk && decide (60 ≤ f.bytes.length) && decide (f.bytes.length + 4 ≤ s.chip.maxLen p (h.tagged || h.tpid88a8)))) :=
  ⟨(st fun c => (pmOn c).wr rMAC_MAXLEN 1 0 1518), 1, ⟨pauseFrame, false, true, 5000⟩, (parseHdr pauseFrame), false, by decide +kernel⟩
theorem wit_mac_receive_and_pause_8 : ∃ (s : State) (p : Fin 3) (x : PauseIn) (t : List PauseIn),
    ((s.chip.mac p).pauseIn = x :: t) ∧ (s.chip.rb rMAC_FC p 0 4 = false) :=
  ⟨(st fun c => c.setMac 1 { pauseIn := [⟨false, 0, [5]⟩] }), 1, ⟨false, 0, [5]⟩, [], by decide +kernel⟩
theorem wit_mac_receive_and_pause_9_b : ∃ (s : State) (p : Fin 3) (x : PauseIn) (t : List PauseIn),
    ((s.chip.mac p).pauseIn = x :: t) ∧ (x.pfc = false) ∧ (x.quanta.getD 0 0 ≠ 0) ∧ (s.chip.rb rMAC_FC p 0 4 = true) :=
  ⟨(st fun c => (c.wr rMAC_FC 1 0 0x10).setMac 1 { ignPort := true, pauseIn := [⟨false, 0, [5]⟩] }), 1, ⟨false, 0, [5]⟩, [], by decide +kernel⟩
theorem wit_mac_receive_and_pause_11_b : ∃ (s : State) (p : Fin 3) (x : PauseIn) (t : List PauseIn),
    ((s.chip.mac p).pauseIn = x :: t) ∧ (x.pfc = true) ∧ (s.chip.rb rMAC_FC p 0 4 = true) :=
  ⟨(st fun c => ((c.wr rMAC_FC 1 0 0x10).wr rPFC_MAP 1 0 0x08040201).setMac 1 { ignCls := 15, pausedPcp := 0x0F0F0F0F, pauseIn := [⟨true, 0x81, [0, 0, 0, 0, 0, 0, 0, 9]⟩] }), 1, ⟨true, 0x81, [0, 0, 0, 0, 0, 0, 0, 9]⟩, [], by decide +kernel⟩
theorem wit_mac_receive_and_pause_19 : ∃ (s : State) (p : Fin 3) (u : Fin 5),
    (s.chip.unitHeld p u = false ∨ s.chip.rf rPAUSE_WDOG p 0 15 0 = 0) :=
  ⟨(st), 1, 4, by decide +kernel⟩
theorem wit_flow_control_sent_1 : ∃ (s : State) (p : Fin 3) (on : Bool) (b : List Byte),
    (s.chip.up (macDom p) = true) ∧ (s.chip.txStop p = false) ∧ (s.chip.link p = true) ∧ (s.chip.rf rMAC_FC p 0 1 0 = 1) ∧ ((on = true ↔ s.chip.asrtCls p ≠ 0)) ∧ ((s.chip.mac p).fcSent = (if on = true then 0 else 0xF)) ∧ (b = [0x01, 0x80, 0xC2, 0, 0, 1] ++ addrBytes (s.chip.rd rMAC_ADDR_LO p) (s.chip.rd rMAC_ADDR_HI p) ++ [0x88, 0x08, 0, 1] ++ natBE 2 (if on = true then s.chip.rf rPAUSE_QUANTA p 0 15 0 else 0) ++ List.replicate 42 0) :=
  ⟨(st fun c => ((linked 1 c).wr rMAC_FC 1 0 1).setMac 1 { asrtQ := 1 }), 1, true, ([0x01, 0x80, 0xC2, 0, 0, 1] ++ List.replicate 6 0 ++ [0x88, 0x08, 0, 1] ++ [0xFF, 0xFF] ++ List.replicate 42 0), by and_intros <;> first | with_reducible rfl | decide +kernel | rfl⟩
theorem wit_flow_control_sent_1_b : ∃ (s : State) (p : Fin 3) (on : Bool) (b : List Byte),
    (s.chip.up (macDom p) = true) ∧ (s.chip.txStop p = false) ∧ (s.chip.link p = true) ∧ (s.chip.rf rMAC_FC p 0 1 0 = 1) ∧ ((on = true ↔ s.chip.asrtCls p ≠ 0)) ∧ ((s.chip.mac p).fcSent = (if on = true then 0 else 0xF)) ∧ (b = [0x01, 0x80, 0xC2, 0, 0, 1] ++ addrBytes (s.chip.rd rMAC_ADDR_LO p) (s.chip.rd rMAC_ADDR_HI p) ++ [0x88, 0x08, 0, 1] ++ natBE 2 (if on = true then s.chip.rf rPAUSE_QUANTA p 0 15 0 else 0) ++ List.replicate 42 0) :=
  ⟨(st fun c => ((linked 2 c).wr rMAC_FC 2 0 1).setMac 2 { fcSent := 15 }), 2, false, ([0x01, 0x80, 0xC2, 0, 0, 1] ++ List.replicate 6 0 ++ [0x88, 0x08, 0, 1] ++ [0, 0] ++ List.replicate 42 0), by and_intros <;> first | with_reducible rfl | decide +kernel | rfl⟩
theorem wit_flow_control_sent_3 : ∃ (s : State) (p : Fin 3),
    ((s.chip.mac p).fcSent = s.chip.fcState p) :=
  ⟨(st), 1, by decide +kernel⟩
theorem wit_flow_control_sent_4 : ∃ (s : State) (p : Fin 3) (b : List Byte),
    (s.chip.up (macDom p) = true) ∧ (s.chip.txStop p = false) ∧ (s.chip.link p = true) ∧ (s.chip.rf rMAC_FC p 0 1 0 = 1) ∧ (s.chip.asrtCls p ≠ 0) ∧ ((s.chip.mac p).fcSent = 0xF) ∧ (b = [0x01, 0x80, 0xC2, 0, 0, 1] ++ addrBytes (s.chip.rd rMAC_ADDR_LO p) (s.chip.rd rMAC_ADDR_HI p) ++ [0x88, 0x08, 0, 1] ++ natBE 2 (s.chip.rf rPAUSE_QUANTA p 0 15 0) ++ List.replicate 42 0) :=
  ⟨(st fun c => ((linked 1 c).wr rMAC_FC 1 0 1).setMac 1 { asrtQ := 1, fcSent := 15 }), 1, ([0x01, 0x80, 0xC2, 0, 0, 1] ++ List.replicate 6 0 ++ [0x88, 0x08, 0, 1] ++ [0xFF, 0xFF] ++ List.replicate 42 0), by and_intros <;> first | with_reducible rfl | decide +kernel | rfl⟩
theorem wit_flow_control_sent_2 : ∃ (s : State) (p : Fin 3),
    (s.chip.up (macDom p) = true) ∧ (s.chip.txStop p = false) ∧ (s.chip.link p = true) ∧ (s.chip.fcMode p ≠ 0) ∧ (s.chip.fcState p ≠ (s.chip.mac p).fcSent) :=
  ⟨(st fun c => ((linked 1 c).wr rMAC_FC 1 0 2).setMac 1 { asrtQ := 1 }), 1, by decide +kernel⟩
theorem wit_flow_control_sent_5 : ∃ (s : State) (p : Fin 2) (e : BitVec 8) (on : BitVec 8) (b : List Byte),
    (s.chip.up (macDom p) = true) ∧ (s.chip.txStop p = false) ∧ (s.chip.link p = true) ∧ (s.chip.rf rMAC_FC p 0 1 0 = 2) ∧ (s.chip.asrtCls p ≠ (s.chip.mac p).fcSent) ∧ ((∀ i : Fin 8, e.getLsbD i = (List.range 4).any fun t => (s.chip.asrtCls p ^^^ (s.chip.mac p).fcSent).getLsbD t && (s.chip.pfcSet p t).getLsbD i)) ∧ ((∀ i : Fin 8, on.getLsbD i = (List.range 4).any fun t => (s.chip.asrtCls p).getLsbD t && (s.chip.pfcSet p t).getLsbD i)) ∧ (b = [0x01, 0x80, 0xC2, 0, 0, 1] ++ addrBytes (s.chip.rd rMAC_ADDR_LO p) (s.chip.rd rMAC_ADDR_HI p) ++ [0x88, 0x08, 1, 1] ++ natBE 2 e.toNat ++ ((List.range 8).flatMap fun i => natBE 2 (if on.getLsbD i = true then s.chip.rf rPAUSE_QUANTA p 0 15 0 else 0)) ++ List.replicate 26 0) :=
  ⟨(st fun c => (((linked 1 c).wr rMAC_FC 1 0 2).wr rPFC_MAP 1 0 0x08040201).setMac 1 { asrtQ := 1, fcSent := 2 }), 1, 3, 1, ([0x01, 0x80, 0xC2, 0, 0, 1] ++ List.replicate 6 0 ++ [0x88, 0x08, 1, 1, 0, 3, 0xFF, 0xFF] ++ List.replicate 40 0), by and_intros <;> first | with_reducible rfl | decide +kernel | rfl⟩
theorem wit_flow_control_sent_6 : ∃ (s : State) (p : Fin 2) (e : BitVec 8) (b : List Byte),
    (s.chip.up (macDom p) = true) ∧ (s.chip.txStop p = false) ∧ (s.chip.link p = true) ∧ (s.chip.rf rMAC_FC p 0 1 0 = 2) ∧ ((s.chip.mac p).fcSent &&& s.chip.asrtCls p ≠ 0) ∧ ((∀ i : Fin 8, e.getLsbD i = (List.range 4).any fun t => ((s.chip.mac p).fcSent &&& s.chip.asrtCls p).getLsbD t && (s.chip.pfcSet p t).getLsbD i)) ∧ (b = [0x01, 0x80, 0xC2, 0, 0, 1] ++ addrBytes (s.chip.rd rMAC_ADDR_LO p) (s.chip.rd rMAC_ADDR_HI p) ++ [0x88, 0x08, 1, 1] ++ natBE 2 e.toNat ++ ((List.range 8).flatMap fun i => natBE 2 (if e.getLsbD i = true then s.chip.rf rPAUSE_QUANTA p 0 15 0 else 0)) ++ List.replicate 26 0) :=
  ⟨(st fun c => (((linked 1 c).wr rMAC_FC 1 0 2).wr rPFC_MAP 1 0 0x08040201).setMac 1 { asrtQ := 1, fcSent := 3 }), 1, 1, ([0x01, 0x80, 0xC2, 0, 0, 1] ++ List.replicate 6 0 ++ [0x88, 0x08, 1, 1, 0, 1, 0xFF, 0xFF] ++ List.replicate 40 0), by and_intros <;> first | with_reducible rfl | decide +kernel | rfl⟩
theorem wit_flow_control_sent_7 : ∃ (s : State) (p : Fin 3),
    ((s.chip.mac p).fcSent &&& s.chip.fcState p = 0) :=
  ⟨(st), 1, by decide +kernel⟩
theorem wit_frame_rings_6 : ∃ (s : State) (a : Access) (p : Fin 3) (q : Fin 8) (v : Word),
    (s.chip.takes a rRQ_TAIL p q v) :=
  ⟨(st ring0), hc, 0, 0, 8, by decide +kernel⟩
theorem wit_frame_rings_6_b : ∃ (s : State) (a : Access) (p : Fin 3) (q : Fin 8) (v : Word),
    (s.chip.takes a rRQ_TAIL p q v) :=
  ⟨(st ring0), hc, 0, 0, 100, by decide +kernel⟩
theorem wit_frame_rings_7 : ∃ (s : State) (a : Access) (p : Fin 3) (t : Fin 4) (v : Word),
    (s.chip.takes a rTQ_TAIL p t v) :=
  ⟨(st fun c => c.wr rTQ_CTRL 2 1 5), hc, 2, 1, 8, by decide +kernel⟩
theorem wit_frame_rings_7_b : ∃ (s : State) (a : Access) (p : Fin 3) (t : Fin 4) (v : Word),
    (s.chip.takes a rTQ_TAIL p t v) :=
  ⟨(st fun c => c.wr rTQ_CTRL 2 1 5), hc, 2, 1, 100, by decide +kernel⟩
theorem wit_frame_rings_8 : ∃ (s : State) (p : Fin 3),
    ((∀ t : Fin 4, s.chip.rb rTQ_CTRL p t 31 = false)) :=
  ⟨(st (linked 1)), 1, by decide +kernel⟩
theorem wit_frame_rings_1 : ∃ (s : State) (p : Fin 3) (f : RxFrame) (t : List RxFrame),
    (s.chip.alive .sys = true) ∧ ((s.chip.mac p).rxq = f :: t) :=
  ⟨(st ring0), 0, { bytes := bcFrame, fcs := true }, [], by decide +kernel⟩
theorem wit_frame_rings_2 : ∃ (s : State) (p : Fin 3),
    ((s.chip.mac p).rxq = []) :=
  ⟨(st), 0, by decide +kernel⟩
theorem wit_frame_rings_3 : ∃ (s : State) (p : Fin 3) (f : RxFrame) (t : List RxFrame),
    (s.chip.alive .sys = true) ∧ ((s.chip.mac p).rxq = f :: t) ∧ (f.flagged = false) ∧ (s.chip.mrgMatch p (parseHdr f.bytes) = none) ∧ (s.chip.slotMatch p (parseHdr f.bytes) = none) ∧ ((parseHdr f.bytes).udp = false ∨ (parseHdr f.bytes).dport ≠ 5568) ∧ ((parseHdr f.bytes).ipv4 = true) ∧ ((parseHdr f.bytes).dst.toNat / 2 ^ 28 = 14) ∧ ((∀ i < 32, s.chip.rd rGRP i ≠ (parseHdr f.bytes).dst)) :=
  ⟨(st fun c => c.setMac 1 { rxq := [{ bytes := mcFrame }] }), 1, { bytes := mcFrame }, [], by decide +kernel⟩
theorem wit_frame_rings_4 : ∃ (s : State) (p : Fin 3) (f : RxFrame) (t : List RxFrame),
    (s.chip.alive .sys = true) ∧ ((s.chip.mac p).rxq = f :: t) ∧ (f.flagged = true ∨ (s.chip.mrgMatch p (parseHdr f.bytes) = none ∧ s.chip.slotMatch p (parseHdr f.bytes) = none ∧ ((parseHdr f.bytes).udp = false ∨ (parseHdr f.bytes).dport ≠ 5568) ∧ ((parseHdr f.bytes).ipv4 = false ∨ (parseHdr f.bytes).dst.toNat / 2 ^ 28 ≠ 14))) ∧ (s.chip.rb rRQ_CTRL p f.queue 31 = false ∨ s.chip.rqLog p f.queue = none ∨ s.chip.rf rRQ_TAIL p f.queue 15 0 = s.chip.rf rRQ_HEAD p f.queue 15 0) :=
  ⟨(st fun c => c.setMac 1 { rxq := [{ bytes := bcFrame, fcs := true, queue := 3 }] }), 1, { bytes := bcFrame, fcs := true, queue := 3 }, [], by decide +kernel⟩
theorem wit_frame_rings_4_b : ∃ (s : State) (p : Fin 3) (f : RxFrame) (t : List RxFrame),
    (s.chip.alive .sys = true) ∧ ((s.chip.mac p).rxq = f :: t) ∧ (f.flagged = true ∨ (s.chip.mrgMatch p (parseHdr f.bytes) = none ∧ s.chip.slotMatch p (parseHdr f.bytes) = none ∧ ((parseHdr f.bytes).udp = false ∨ (parseHdr f.bytes).dport ≠ 5568) ∧ ((parseHdr f.bytes).ipv4 = false ∨ (parseHdr f.bytes).dst.toNat / 2 ^ 28 ≠ 14))) ∧ (s.chip.rb rRQ_CTRL p f.queue 31 = false ∨ s.chip.rqLog p f.queue = none ∨ s.chip.rf rRQ_TAIL p f.queue 15 0 = s.chip.rf rRQ_HEAD p f.queue 15 0) :=
  ⟨(st fun c => c.setMac 1 { rxq := [{ bytes := bcFrame, queue := 7 }] }), 1, { bytes := bcFrame, queue := 7 }, [], by decide +kernel⟩
theorem wit_frame_rings_5 : ∃ (s : State) (p : Fin 3) (f : RxFrame) (t : List RxFrame) (d : List Byte) (k : Nat) (desc : Nat) (buf : Nat),
    (s.chip.alive .sys = true) ∧ ((s.chip.mac p).rxq = f :: t) ∧ (f.flagged = true ∨ (s.chip.mrgMatch p (parseHdr f.bytes) = none ∧ s.chip.slotMatch p (parseHdr f.bytes) = none ∧ ((parseHdr f.bytes).udp = false ∨ (parseHdr f.bytes).dport ≠ 5568) ∧ ((parseHdr f.bytes).ipv4 = false ∨ (parseHdr f.bytes).dst.toNat / 2 ^ 28 ≠ 14))) ∧ (d = untag f.bytes (parseHdr f.bytes).tagged) ∧ (f.queue < 8) ∧ (d ≠ []) ∧ (d.length ≤ 2048) ∧ (s.chip.sram.errs = []) ∧ (s.chip.rqLog p f.queue = some k) ∧ (s.chip.rb rRQ_CTRL p f.queue 31 = true) ∧ (s.chip.rqOwned p f.queue k ≠ 0) ∧ (desc = s.chip.rqDesc p f.queue k (s.chip.rf rRQ_HEAD p f.queue 15 0)) ∧ (buf = (s.chip.word desc).toNat / 64 * 64) ∧ (0x01040000 ≤ desc) ∧ (desc + 32 ≤ 0x01100000) ∧ (0x01040000 ≤ buf) ∧ (buf + 2048 ≤ 0x01100000) ∧ (desc + 32 ≤ buf ∨ buf + 2048 ≤ desc) :=
  ⟨(st fun c => (ring0 c).wr rMAC_CTRL 0 0 0x200), 0, { bytes := bcFrame, fcs := true }, [], bcFrame, 6, 0x01050000, 0x01060000, by decide +kernel⟩
theorem wit_frame_rings_5_b : ∃ (s : State) (p : Fin 3) (f : RxFrame) (t : List RxFrame) (d : List Byte) (k : Nat) (desc : Nat) (buf : Nat),
    (s.chip.alive .sys = true) ∧ ((s.chip.mac p).rxq = f :: t) ∧ (f.flagged = true ∨ (s.chip.mrgMatch p (parseHdr f.bytes) = none ∧ s.chip.slotMatch p (parseHdr f.bytes) = none ∧ ((parseHdr f.bytes).udp = false ∨ (parseHdr f.bytes).dport ≠ 5568) ∧ ((parseHdr f.bytes).ipv4 = false ∨ (parseHdr f.bytes).dst.toNat / 2 ^ 28 ≠ 14))) ∧ (d = untag f.bytes (parseHdr f.bytes).tagged) ∧ (f.queue < 8) ∧ (d ≠ []) ∧ (d.length ≤ 2048) ∧ (s.chip.sram.errs = []) ∧ (s.chip.rqLog p f.queue = some k) ∧ (s.chip.rb rRQ_CTRL p f.queue 31 = true) ∧ (s.chip.rqOwned p f.queue k ≠ 0) ∧ (desc = s.chip.rqDesc p f.queue k (s.chip.rf rRQ_HEAD p f.queue 15 0)) ∧ (buf = (s.chip.word desc).toNat / 64 * 64) ∧ (0x01040000 ≤ desc) ∧ (desc + 32 ≤ 0x01100000) ∧ (0x01040000 ≤ buf) ∧ (buf + 2048 ≤ 0x01100000) ∧ (desc + 32 ≤ buf ∨ buf + 2048 ≤ desc) :=
  ⟨(st ring0), 0, { bytes := bcFrame, fcs := true }, [], bcFrame, 6, 0x01050000, 0x01060000, by decide +kernel⟩
theorem wit_frame_rings_5_c : ∃ (s : State) (p : Fin 3) (f : RxFrame) (t : List RxFrame) (d : List Byte) (k : Nat) (desc : Nat) (buf : Nat),
    (s.chip.alive .sys = true) ∧ ((s.chip.mac p).rxq = f :: t) ∧ (f.flagged = true ∨ (s.chip.mrgMatch p (parseHdr f.bytes) = none ∧ s.chip.slotMatch p (parseHdr f.bytes) = none ∧ ((parseHdr f.bytes).udp = false ∨ (parseHdr f.bytes).dport ≠ 5568) ∧ ((parseHdr f.bytes).ipv4 = false ∨ (parseHdr f.bytes).dst.toNat / 2 ^ 28 ≠ 14))) ∧ (d = untag f.bytes (parseHdr f.bytes).tagged) ∧ (f.queue < 8) ∧ (d ≠ []) ∧ (d.length ≤ 2048) ∧ (s.chip.sram.errs = []) ∧ (s.chip.rqLog p f.queue = some k) ∧ (s.chip.rb rRQ_CTRL p f.queue 31 = true) ∧ (s.chip.rqOwned p f.queue k ≠ 0) ∧ (desc = s.chip.rqDesc p f.queue k (s.chip.rf rRQ_HEAD p f.queue 15 0)) ∧ (buf = (s.chip.word desc).toNat / 64 * 64) ∧ (0x01040000 ≤ desc) ∧ (desc + 32 ≤ 0x01100000) ∧ (0x01040000 ≤ buf) ∧ (buf + 2048 ≤ 0x01100000) ∧ (desc + 32 ≤ buf ∨ buf + 2048 ≤ desc) :=
  ⟨(st fun c => (ring0 c).setMac 0 { rxq := [{ bytes := bcFrame }] }), 0, { bytes := bcFrame }, [], bcFrame, 6, 0x01050000, 0x01060000, by decide +kernel⟩
theorem wit_frame_rings_9 : ∃ (s : State) (p : Fin 3) (t : Fin 4) (k : Nat) (desc : Nat) (w1 : Word) (d : List Byte) (x : List Byte) (b : List Byte),
    (s.chip.up (macDom p) = true) ∧ (s.chip.txStop p = false) ∧ (s.chip.link p = true) ∧ (s.chip.sram.errs = []) ∧ (s.chip.cutOff [txQueue p] = false) ∧ ((∀ u : Fin 4, t < u → s.chip.rb rTQ_CTRL p u 31 = false ∨ s.chip.txHeld p u = true ∨ s.chip.rf rTQ_TAIL p u 15 0 = s.chip.rf rTQ_HEAD p u 15 0)) ∧ (s.chip.tqLog p t = some k) ∧ (s.chip.tqOwned p t k ≠ 0) ∧ (s.chip.txHeld p t = false) ∧ (desc = (s.chip.rd rTQ_BASE p t).toNat + 16 * (s.chip.rf rTQ_HEAD p t 15 0 % 2 ^ k)) ∧ (0x01040000 ≤ desc) ∧ (desc + 16 ≤ 0x01100000) ∧ (w1 = s.chip.word (desc + 4)) ∧ (bit w1 29 = true) ∧ (s.chip.rb rTIME_CTRL 0 0 1 = false) ∧ (0x01040000 ≤ (s.chip.word desc).toNat) ∧ ((s.chip.word desc).toNat + fld w1 13 0 ≤ 0x01100000) ∧ (d = s.chip.bytes (s.chip.word desc).toNat (fld w1 13 0)) ∧ (x = (if bit w1 27 = true then d.take 12 ++ [0x81, 0x00] ++ natBE 2 (fld (s.chip.word (desc + 8)) 15 0) ++ d.drop 12 else d)) ∧ (b = (if bit w1 28 = true then insertCsum x else x) ++ List.replicate (60 - (if bit w1 28 = true then insertCsum x else x).length) 0) :=
  ⟨(st fun c => (((((linked 1 c).wr rTQ_BASE 1 3 0x01050000).wr rTQ_CTRL 1 3 0x80000004).wr rTQ_TAIL 1 3 1).setWords 0x01050000 [0x01060000, 0x2000000A]).setBytes 0x01060000 [1,2,3,4,5,6,7,8,9,10]), 1, 3, 4, 0x01050000, 0x2000000A, [1,2,3,4,5,6,7,8,9,10], [1,2,3,4,5,6,7,8,9,10], ([1,2,3,4,5,6,7,8,9,10] ++ List.replicate 50 0), by and_intros <;> first | with_reducible rfl | decide +kernel | rfl⟩
theorem wit_frame_rings_9_b : ∃ (s : State) (p : Fin 3) (t : Fin 4) (k : Nat) (desc : Nat) (w1 : Word) (d : List Byte) (x : List Byte) (b : List Byte),
    (s.chip.up (macDom p) = true) ∧ (s.chip.txStop p = false) ∧ (s.chip.link p = true) ∧ (s.chip.sram.errs = []) ∧ (s.chip.cutOff [txQueue p] = false) ∧ ((∀ u : Fin 4, t < u → s.chip.rb rTQ_CTRL p u 31 = false ∨ s.chip.txHeld p u = true ∨ s.chip.rf rTQ_TAIL p u 15 0 = s.chip.rf rTQ_HEAD p u 15 0)) ∧ (s.chip.tqLog p t = some k) ∧ (s.chip.tqOwned p t k ≠ 0) ∧ (s.chip.txHeld p t = false) ∧ (desc = (s.chip.rd rTQ_BASE p t).toNat + 16 * (s.chip.rf rTQ_HEAD p t 15 0 % 2 ^ k)) ∧ (0x01040000 ≤ desc) ∧ (desc + 16 ≤ 0x01100000) ∧ (w1 = s.chip.word (desc + 4)) ∧ (bit w1 29 = true) ∧ (s.chip.rb rTIME_CTRL 0 0 1 = false) ∧ (0x01040000 ≤ (s.chip.word desc).toNat) ∧ ((s.chip.word desc).toNat + fld w1 13 0 ≤ 0x01100000) ∧ (d = s.chip.bytes (s.chip.word desc).toNat (fld w1 13 0)) ∧ (x = (if bit w1 27 = true then d.take 12 ++ [0x81, 0x00] ++ natBE 2 (fld (s.chip.word (desc + 8)) 15 0) ++ d.drop 12 else d)) ∧ (b = (if bit w1 28 = true then insertCsum x else x) ++ List.replicate (60 - (if bit w1 28 = true then insertCsum x else x).length) 0) :=
  ⟨(st fun c => (((((linked 1 c).wr rTQ_BASE 1 0 0x01050000).wr rTQ_CTRL 1 0 0xC0000004).wr rTQ_TAIL 1 0 1).setWords 0x01050000 [0x01060000, 0x3800003C, 0x5]).setBytes 0x01060000 bcFrame), 1, 0, 4, 0x01050000, 0x3800003C, bcFrame, (List.replicate 12 0xFF ++ [0x81, 0, 0, 5, 0x88, 0xB5] ++ List.replicate 46 1), (List.replicate 12 0xFF ++ [0x81, 0, 0, 5, 0x88, 0xB5] ++ List.replicate 46 1), by and_intros <;> first | with_reducible rfl | decide +kernel | rfl⟩
theorem wit_frame_rings_10 : ∃ (s : State) (p : Fin 3) (t : Fin 4) (k : Nat) (desc : Nat) (w1 : Word),
    (s.chip.up (macDom p) = true) ∧ (s.chip.txStop p = false) ∧ (s.chip.link p = false) ∧ (s.chip.rb rMAC_CTRL p 0 10 = true) ∧ (s.chip.sram.errs = []) ∧ ((∀ u : Fin 4, t < u → s.chip.rb rTQ_CTRL p u 31 = false ∨ s.chip.txHeld p u = true ∨ s.chip.rf rTQ_TAIL p u 15 0 = s.chip.rf rTQ_HEAD p u 15 0)) ∧ (s.chip.tqLog p t = some k) ∧ (s.chip.tqOwned p t k ≠ 0) ∧ (s.chip.txHeld p t = false) ∧ (desc = (s.chip.rd rTQ_BASE p t).toNat + 16 * (s.chip.rf rTQ_HEAD p t 15 0 % 2 ^ k)) ∧ (0x01040000 ≤ desc) ∧ (desc + 16 ≤ 0x01100000) ∧ (w1 = s.chip.word (desc + 4)) ∧ (bit w1 29 = true) ∧ (0x01040000 ≤ (s.chip.word desc).toNat) ∧ ((s.chip.word desc).toNat + fld w1 13 0 ≤ 0x01100000) :=
  ⟨(st fun c => (((((c.wr rMAC_CTRL 1 0 0x400).wr rTQ_BASE 1 0 0x01050000).wr rTQ_CTRL 1 0 0xC0000004).wr rTQ_TAIL 1 0 1).setWords 0x01050000 [0x01060000, 0x3800003C, 0x5]).setBytes 0x01060000 bcFrame), 1, 0, 4, 0x01050000, 0x3800003C, by decide +kernel⟩

end Sys2Proof.Tests.WitnessE
end

