-- ==== Sys2Proof/Tests/WitnessF.lean ====
section
/-! SUPPORT. States and operands that meet the hypotheses of the statements, part F. -/

namespace Sys2Proof.Tests.WitnessF

open Sys2Proof Sys2Proof.Machine Sys2Proof.Tests

set_option maxRecDepth 100000
set_option Elab.async false
set_option linter.unusedVariables false
set_option linter.unreachableTactic false
set_option linter.unusedTactic false

/-- A canvas 8 x 8 pixels with three buffers in region 0. -/
def canv0 : Chip → Chip := fun c => (((c.wr rCANV_SIZE 1 0 0x00070007).wr rCANV_BASE 1 0 0x80000000).wr rCANV_BASE 1 1 0x80001000).wr rCANV_BASE 1 2 0x80002000
/-- The Cellar serving, every region open to writes. -/
def celOn : Chip → Chip := fun c => { (c.wr rCEL_CTRL 0 0 0x100B) with cel := { c.cel with serving := true } }
/-- The payload of a live cue: SEQ 5, cue 2; and the frame that carries it. -/
def cueBody : List Byte := [0x44, 0x4C, 1, 0, 0, 0, 0, 5, 0, 2, 0, 0, 0, 0, 0, 0]
def cueKey : List Byte := List.replicate 32 7
def cueLoad (tag : List Byte) : List Byte := cueBody ++ tag
def cueIp (b : List Byte) : List Byte :=
  List.replicate 12 0xFF ++ [8, 0, 0x45, 0, 0, 52, 0, 0, 0, 0, 1, 17, 0, 0, 10, 0, 0, 9, 239, 0, 0, 1] ++ [0, 1, 0x77, 0x12, 0, 32, 0, 0] ++ b
def cueTag : List Byte := [251, 52, 92, 10, 170, 242, 192, 250]
def cueFrame (tag : List Byte) : RxFrame := { bytes := cueIp (cueLoad tag), ts := 77 }

theorem wit_merge_slots_and_canvas_registers_1 : ∃ (s : State) (a : Access) (i : Fin 16) (v : Word),
    (s.chip.takes a rMRG_CTRL i 0 (v ||| 0x80000000)) ∧ (s.chip.rb rMRG_CTRL i 0 31 = false) :=
  ⟨(st fun c => c.wr rMRG_CNT 2 5 7), hc, 2, 5, by decide +kernel⟩
theorem wit_merge_slots_and_canvas_registers_2 : ∃ (s : State) (a : Access) (i : Fin 16) (v : Word),
    (s.chip.takes a rMRG_CTRL i 0 (v ||| 0x80000000)) ∧ (s.chip.rb rMRG_CTRL i 0 31 = true) :=
  ⟨(st fun c => c.wr rMRG_CTRL 2 0 0xB0000005), hc, 2, 5, by decide +kernel⟩
theorem wit_merge_slots_and_canvas_registers_3 : ∃ (s : State) (a : Access) (i : Fin 16) (v : Word),
    (s.chip.takes a rMRG_SKEWMAX i 0 v) :=
  ⟨(st fun c => c.wr rMRG_SKEWMAX 3 0 9), hc, 3, 5, by decide +kernel⟩
theorem wit_merge_slots_and_canvas_registers_3_b : ∃ (s : State) (a : Access) (i : Fin 16) (v : Word),
    (s.chip.takes a rMRG_SKEWMAX i 0 v) :=
  ⟨(st fun c => c.wr rMRG_SKEWMAX 3 0 9), hc, 3, 0, by decide +kernel⟩
theorem wit_merge_slots_and_canvas_registers_4 : ∃ (s : State) (a : Access) (cv : Fin 4) (v : Word),
    (s.chip.takes a rCANV_CTRL cv 0 v) ∧ (s.chip.canvOn cv = false) ∧ (bit v 31 = true) ∧ (s.chip.pos = 0 ∨ s.chip.rb rTRL_DCANV cv 0 31 = false) :=
  ⟨(st canv0), hc, 1, 0x80000000, by decide +kernel⟩
theorem wit_merge_slots_and_canvas_registers_4_b : ∃ (s : State) (a : Access) (cv : Fin 4) (v : Word),
    (s.chip.takes a rCANV_CTRL cv 0 v) ∧ (s.chip.canvOn cv = false) ∧ (bit v 31 = true) ∧ (s.chip.pos = 0 ∨ s.chip.rb rTRL_DCANV cv 0 31 = false) :=
  ⟨(st fun c => ((canv0 c).wr rCANV_CTRL 2 0 0x80000000).wr rCANV_BASE 2 1 0x80001000), hc, 1, 0x80000000, by decide +kernel⟩
theorem wit_merge_slots_and_canvas_registers_4_c : ∃ (s : State) (a : Access) (cv : Fin 4) (v : Word),
    (s.chip.takes a rCANV_CTRL cv 0 v) ∧ (s.chip.canvOn cv = false) ∧ (bit v 31 = true) ∧ (s.chip.pos = 0 ∨ s.chip.rb rTRL_DCANV cv 0 31 = false) :=
  ⟨(st), hc, 2, 0x80000001, by decide +kernel⟩
theorem wit_merge_slots_and_canvas_registers_5 : ∃ (s : State) (a : Access) (cv : Fin 4) (v : Word),
    (s.chip.takes a rCANV_CTRL cv 0 v) ∧ (s.chip.canvOn cv = false) ∧ (bit v 31 = true) ∧ (s.chip.pos ≠ 0) ∧ (s.chip.rb rTRL_DCANV cv 0 31 = true) :=
  ⟨(st fun c => ((canv0 c).wr rTRL_DCANV 1 0 0x80000000).wr rSTRAP 0 0 2), hc, 1, 0x80000000, by decide +kernel⟩
theorem wit_merge_slots_and_canvas_registers_6 : ∃ (s : State) (a : Access) (cv : Fin 4) (v : Word),
    (s.chip.takes a rCANV_CTRL cv 0 v) ∧ (s.chip.canvOn cv = true) ∧ (bit v 31 = false) :=
  ⟨(st fun c => (celOn (canv0 c)).wr rCANV_CTRL 1 0 0x80000000), hc, 1, 0, by decide +kernel⟩
theorem wit_merge_slots_and_canvas_registers_7 : ∃ (s : State) (a : Access) (cv : Fin 4) (v : Word),
    (s.chip.takes a rCANV_CTRL cv 0 v) ∧ (s.chip.canvOn cv = true) ∧ (bit v 31 = false) ∧ (s.chip.celCalm) ∧ (s.chip.rb rRGN_WMASK 6 0 5 = true) ∧ ((s.chip.fwd cv).cur = none) :=
  ⟨(st fun c => ((celOn (canv0 c)).setWord 0x96000080 4).wr rCANV_CTRL 1 0 0x80000000), hc, 1, 0, by decide +kernel⟩
theorem wit_merge_slots_and_canvas_registers_8 : ∃ (s : State) (a : Access) (cv : Fin 4) (v : Word),
    (s.chip.takes a rCANV_CTRL cv 0 v) ∧ (s.chip.canvOn cv = bit v 31) :=
  ⟨(st canv0), hc, 1, 0x20, by decide +kernel⟩
theorem wit_merge_slots_and_canvas_registers_9 : ∃ (s : State) (a : Access) (cv : Fin 4) (v : Word),
    (s.chip.takes a rCANV_TOUT cv 0 v) ∧ (fld v 15 0 = 0) ∧ (s.chip.rb rCANV_STAT cv 0 2 = true) :=
  ⟨(st fun c => (c.wr rCANV_STAT 3 0 4).wr rCANV_TOUT 3 0 5), hc, 3, 0, by decide +kernel⟩
theorem wit_merge_slots_and_canvas_registers_10 : ∃ (s : State) (a : Access) (cv : Fin 4) (v : Word),
    (s.chip.takes a rCANV_TOUT cv 0 v) ∧ ((if fld v 15 0 = 0 then s.chip.rb rCANV_STAT cv 0 2 = false else s.chip.canvOn cv = false ∨ s.chip.rb rCANV_STAT cv 0 2 = true ∨ s.chip.time.now < (s.chip.canv cv).since + fld v 15 0 * 1000000)) :=
  ⟨(st), hc, 1, 0, by decide +kernel⟩
theorem wit_merge_slots_and_canvas_registers_10_b : ∃ (s : State) (a : Access) (cv : Fin 4) (v : Word),
    (s.chip.takes a rCANV_TOUT cv 0 v) ∧ ((if fld v 15 0 = 0 then s.chip.rb rCANV_STAT cv 0 2 = false else s.chip.canvOn cv = false ∨ s.chip.rb rCANV_STAT cv 0 2 = true ∨ s.chip.time.now < (s.chip.canv cv).since + fld v 15 0 * 1000000)) :=
  ⟨(st fun c => c.wr rCANV_CTRL 1 0 0x80000000), hc, 1, 5, by decide +kernel⟩
theorem wit_merge_slots_and_canvas_registers_11 : ∃ (s : State) (a : Access) (cv : Fin 4) (v : Word),
    (s.chip.takes a rCANV_TOUT cv 0 v) ∧ (fld v 15 0 ≠ 0) ∧ (s.chip.canvOn cv = true) ∧ (s.chip.rb rCANV_STAT cv 0 2 = false) ∧ ((s.chip.canv cv).since + fld v 15 0 * 1000000 ≤ s.chip.time.now) :=
  ⟨(st fun c => { (c.wr rCANV_CTRL 1 0 0x80000000) with time := { c.time with now := 9000000 } }), hc, 1, 9, by decide +kernel⟩
theorem wit_merge_slots_and_canvas_registers_12 : ∃ (s : State) (a : Access) (i : Fin 32) (v : Word),
    (s.chip.takes a rSLOT_CTRL i 0 v) ∧ (fld v 30 20 ≠ s.chip.rf rSLOT_CTRL i 0 30 20 ∨ (bit v 31 = false ∧ s.chip.rb rSLOT_CTRL i 0 31 = true)) ∧ ((∀ k : Fin 4, (s.chip.canv k).openBuf = none)) :=
  ⟨(st fun c => c.setSlot 9 { pixels := 5 }), hc, 9, 0x00300000, by decide +kernel⟩
theorem wit_merge_slots_and_canvas_registers_13 : ∃ (s : State) (a : Access) (i : Fin 32) (k : Fin 32) (v : Word) (cv : Nat),
    (s.chip.takes a rSLOT_CTRL i 0 v) ∧ (fld v 30 20 ≠ s.chip.rf rSLOT_CTRL i 0 30 20 ∨ (bit v 31 = false ∧ s.chip.rb rSLOT_CTRL i 0 31 = true)) ∧ (cv = s.chip.rf rSLOT_CTRL i 0 24 23) ∧ ((s.chip.canv cv).openBuf ≠ none) ∧ ((s.chip.slot i).tag ≠ none) ∧ ((s.chip.slot i).tag = (s.chip.canv cv).tag) ∧ ((fld v 24 23 = cv ∨ (s.chip.canv (fld v 24 23)).openBuf = none)) ∧ (k ≠ i) ∧ (s.chip.rb rSLOT_CTRL k 0 31 = true) ∧ (s.chip.rf rSLOT_CTRL k 0 24 23 = cv) ∧ ((s.chip.canv cv).closedSlots.getLsbD k = false) :=
  ⟨(st fun c => (((c.setSlot 9 { tag := some 5, pixels := 5 }).setCanv 0 { openBuf := some 1, tag := some 5 }).wr rSLOT_CTRL 9 0 0x80000000).wr rSLOT_CTRL 8 0 0x80000000), hc, 9, 8, 0, 0, by decide +kernel⟩
theorem wit_merge_slots_and_canvas_registers_14 : ∃ (s : State) (a : Access) (i : Fin 32) (v : Word),
    (s.chip.takes a rSLOT_CTRL i 0 v) ∧ (fld v 30 20 = s.chip.rf rSLOT_CTRL i 0 30 20) ∧ (bit v 31 = true ∨ s.chip.rb rSLOT_CTRL i 0 31 = false) :=
  ⟨(st), hc, 9, 0x80000005, by decide +kernel⟩
theorem wit_canvas_frames_and_sources_1 : ∃ (s : State) (cv : Fin 4),
    (s.chip.canvOn cv = true) ∧ (s.chip.rf rCANV_TOUT cv 0 15 0 ≠ 0) ∧ (s.chip.rb rCANV_STAT cv 0 2 = false) :=
  ⟨(st fun c => (c.wr rCANV_CTRL 2 0 0x80000000).wr rCANV_TOUT 2 0 5), 2, by decide +kernel⟩
theorem wit_canvas_frames_and_sources_2 : ∃ (s : State) (cv : Fin 4),
    (s.chip.rf rCANV_TOUT cv 0 15 0 = 0 ∨ s.chip.canvOn cv = false ∨ s.chip.rb rCANV_STAT cv 0 2 = true) :=
  ⟨(st fun c => (c.wr rCANV_CTRL 2 0 0x80000000).wr rCANV_TOUT 2 0 0), 2, by decide +kernel⟩
theorem wit_canvas_frames_and_sources_3 : ∃ (s : State) (cv : Fin 4),
    (s.chip.e131Canv cv = false ∨ (s.chip.canv cv).e131Open = false ∨ s.chip.rf rCANV_E131 cv 0 15 0 ≠ 0) :=
  ⟨(st), 2, by decide +kernel⟩
theorem wit_canvas_frames_and_sources_4 : ∃ (s : State) (cv : Fin 4),
    (s.chip.e131Canv cv = true) ∧ ((s.chip.canv cv).e131Open = true) ∧ ((s.chip.canv cv).openBuf ≠ none) ∧ (s.chip.rf rCANV_E131 cv 0 15 0 = 0) :=
  ⟨(st fun c => ((celOn (canv0 c)).setWord 0x96000080 4 |>.wr rCANV_CTRL 1 0 0x80000020).setCanv 1 { openBuf := some 1, e131Open := true }), 1, by decide +kernel⟩
theorem wit_canvas_frames_and_sources_5 : ∃ (s : State) (cv : Fin 4) (b : Fin 3) (pts : Nat),
    (s.chip.e131Canv cv = true) ∧ ((s.chip.canv cv).e131Open = true) ∧ (s.chip.rf rCANV_E131 cv 0 15 0 = 0) ∧ ((s.chip.canv cv).openBuf = some b.val) ∧ ((∀ u : Fin 1024, s.chip.rb rUNI_W0 u 0 31 = true → s.chip.rf rUNI_W0 u 0 17 16 = cv → (s.chip.uni u).got = true)) ∧ (s.chip.celCalm) ∧ (s.chip.rb rRGN_WMASK 6 0 5 = true) ∧ (bufState (s.chip.word (recAddr cv)) b = 1) ∧ (s.chip.rb rTRL_CTRL 0 0 0 = false) ∧ (pts = (((s.chip.time.now : Int) + sgn (s.chip.rd rCANV_PDLY cv)) % (clockMod : Int)).toNat) :=
  ⟨(st fun c => ((celOn (canv0 c)).setWord 0x96000080 4 |>.wr rCANV_CTRL 1 0 0x80000020).setCanv 1 { openBuf := some 1, e131Open := true }), 1, 1, 0, by decide +kernel⟩
theorem wit_canvas_frames_and_sources_5_b : ∃ (s : State) (cv : Fin 4) (b : Fin 3) (pts : Nat),
    (s.chip.e131Canv cv = true) ∧ ((s.chip.canv cv).e131Open = true) ∧ (s.chip.rf rCANV_E131 cv 0 15 0 = 0) ∧ ((s.chip.canv cv).openBuf = some b.val) ∧ ((∀ u : Fin 1024, s.chip.rb rUNI_W0 u 0 31 = true → s.chip.rf rUNI_W0 u 0 17 16 = cv → (s.chip.uni u).got = true)) ∧ (s.chip.celCalm) ∧ (s.chip.rb rRGN_WMASK 6 0 5 = true) ∧ (bufState (s.chip.word (recAddr cv)) b = 1) ∧ (s.chip.rb rTRL_CTRL 0 0 0 = false) ∧ (pts = (((s.chip.time.now : Int) + sgn (s.chip.rd rCANV_PDLY cv)) % (clockMod : Int)).toNat) :=
  ⟨(st fun c => ((((((celOn (canv0 c)).setWord 0x96000080 4 |>.wr rCANV_CTRL 1 0 0x800000A0).setCanv 1 { openBuf := some 1, e131Open := true }).wr rCANV_STAT 1 0 4).wr rUNI_W0 7 0 0x80010007).setUni 7 { got := true }).wr rCANV_PDLY 1 0 50), 1, 1, 50, by decide +kernel⟩
theorem wit_canvas_frames_and_sources_6 : ∃ (s : State) (u : Fin 1024) (i : Fin 2) (l : List E131Src),
    (l = mget [] s.chip.uniSrcs (s.chip.rf rUNI_W0 u 0 15 0)) :=
  ⟨(st fun c => c.setSrcs 0 [⟨[1], 2, 3, 4⟩]), 5, 0, [⟨[1], 2, 3, 4⟩], by decide +kernel⟩
theorem wit_canvas_frames_and_sources_6_b : ∃ (s : State) (u : Fin 1024) (i : Fin 2) (l : List E131Src),
    (l = mget [] s.chip.uniSrcs (s.chip.rf rUNI_W0 u 0 15 0)) :=
  ⟨(st fun c => c.setSrcs 0 [⟨[1], 2, 3, 4⟩]), 5, 1, [⟨[1], 2, 3, 4⟩], by decide +kernel⟩
theorem wit_urgent_cues_1 : ∃ (s : State) (p : Fin 2) (f : RxFrame) (t : List RxFrame),
    (s.chip.alive (macDom p) = true) ∧ ((s.chip.mac p).dlcIn = f :: t) :=
  ⟨(st fun c => c.setMac 1 { dlcIn := [{ bytes := [1] }] }), 1, { bytes := [1] }, [], by decide +kernel⟩
theorem wit_urgent_cues_2 : ∃ (s : State) (p : Fin 2),
    ((s.chip.mac p).dlcIn = []) :=
  ⟨(st), 1, by decide +kernel⟩
theorem wit_urgent_cues_3 : ∃ (s : State) (p : Fin 2) (f : RxFrame) (t : List RxFrame) (b : List Byte),
    (s.chip.alive (macDom p) = true) ∧ ((s.chip.mac p).dlcIn = f :: t) ∧ (b = (parseHdr f.bytes).payload) ∧ (f.flagged = true ∨ b.length ≠ 24 ∨ slice b 0 3 ≠ [0x44, 0x4C, 1] ∨ 2 ≤ (b.getD 3 0).toNat ∨ 2 ≤ (b.getD 8 0).toNat ∨ 32 ≤ (b.getD 9 0).toNat ∨ slice b 10 2 ≠ [0, 0]) :=
  ⟨(st fun c => c.setMac 1 { dlcIn := [{ bytes := [1] }] }), 1, { bytes := [1] }, [], [], by decide +kernel⟩
theorem wit_urgent_cues_4 : ∃ (s : State) (p : Fin 2) (f : RxFrame) (t : List RxFrame) (b : List Byte) (key : Option (List Byte)),
    (s.chip.alive (macDom p) = true) ∧ ((s.chip.mac p).dlcIn = f :: t) ∧ (f.flagged = false) ∧ (b = (parseHdr f.bytes).payload) ∧ (b.length = 24) ∧ (slice b 0 3 = [0x44, 0x4C, 1]) ∧ ((b.getD 3 0).toNat < 2) ∧ ((b.getD 8 0).toNat < 2) ∧ ((b.getD 9 0).toNat < 32) ∧ (slice b 10 2 = [0, 0]) ∧ (key = (if (b.getD 8 0).toNat = 0 then (s.chip.urg p).key0 else (s.chip.urg p).key1)) ∧ ((∀ k ∈ key, dlcTag k (parseHdr f.bytes).src b ≠ slice b 16 8)) :=
  ⟨(st fun c => c.setMac 1 { dlcIn := [cueFrame (List.replicate 8 0)] }), 1, (cueFrame (List.replicate 8 0)), [], (cueLoad (List.replicate 8 0)), none, by decide +kernel, by decide +kernel, by decide +kernel, rfl, by decide +kernel⟩
theorem wit_urgent_cues_4_b : ∃ (s : State) (p : Fin 2) (f : RxFrame) (t : List RxFrame) (b : List Byte) (key : Option (List Byte)),
    (s.chip.alive (macDom p) = true) ∧ ((s.chip.mac p).dlcIn = f :: t) ∧ (f.flagged = false) ∧ (b = (parseHdr f.bytes).payload) ∧ (b.length = 24) ∧ (slice b 0 3 = [0x44, 0x4C, 1]) ∧ ((b.getD 3 0).toNat < 2) ∧ ((b.getD 8 0).toNat < 2) ∧ ((b.getD 9 0).toNat < 32) ∧ (slice b 10 2 = [0, 0]) ∧ (key = (if (b.getD 8 0).toNat = 0 then (s.chip.urg p).key0 else (s.chip.urg p).key1)) ∧ ((∀ k ∈ key, dlcTag k (parseHdr f.bytes).src b ≠ slice b 16 8)) :=
  ⟨(st fun c => (c.setMac 1 { dlcIn := [cueFrame (List.replicate 8 0)] }).setUrg 1 { key0 := some cueKey }), 1, (cueFrame (List.replicate 8 0)), [], (cueLoad (List.replicate 8 0)), (some cueKey), by decide +kernel, by decide +kernel, by decide +kernel, rfl, by decide +kernel⟩
theorem wit_urgent_cues_5 : ∃ (s : State) (p : Fin 2) (f : RxFrame) (t : List RxFrame) (b : List Byte) (key : List Byte) (kid : Nat),
    (s.chip.alive (macDom p) = true) ∧ ((s.chip.mac p).dlcIn = f :: t) ∧ (f.flagged = false) ∧ (b = (parseHdr f.bytes).payload) ∧ (b.length = 24) ∧ (slice b 0 3 = [0x44, 0x4C, 1]) ∧ ((b.getD 3 0).toNat < 2) ∧ (kid = (b.getD 8 0).toNat) ∧ (kid < 2) ∧ ((b.getD 9 0).toNat < 32) ∧ (slice b 10 2 = [0, 0]) ∧ ((if kid = 0 then (s.chip.urg p).key0 else (s.chip.urg p).key1) = some key) ∧ (dlcTag key (parseHdr f.bytes).src b = slice b 16 8) ∧ (beNat (slice b 4 4) ≤ (s.chip.rd rURG_LASTSEQ p kid).toNat) :=
  ⟨(st fun c => ((c.setMac 1 { dlcIn := [cueFrame cueTag] }).setUrg 1 { key0 := some cueKey }).wr rURG_LASTSEQ 1 0 5), 1, (cueFrame cueTag), [], (cueLoad cueTag), cueKey, 0, by decide +kernel⟩
theorem wit_urgent_cues_6 : ∃ (s : State) (p : Fin 2) (f : RxFrame) (t : List RxFrame) (b : List Byte) (key : List Byte) (kid : Nat) (seq : Nat) (q : Nat) (full : Nat) (ws : List Word),
    (s.chip.alive (macDom p) = true) ∧ ((s.chip.mac p).dlcIn = f :: t) ∧ (f.flagged = false) ∧ (b = (parseHdr f.bytes).payload) ∧ (b.length = 24) ∧ (slice b 0 3 = [0x44, 0x4C, 1]) ∧ ((b.getD 3 0).toNat < 2) ∧ (kid = (b.getD 8 0).toNat) ∧ (kid < 2) ∧ (q = (b.getD 9 0).toNat) ∧ (q < 32) ∧ (slice b 10 2 = [0, 0]) ∧ ((if kid = 0 then (s.chip.urg p).key0 else (s.chip.urg p).key1) = some key) ∧ (dlcTag key (parseHdr f.bytes).src b = slice b 16 8) ∧ (seq = beNat (slice b 4 4)) ∧ ((s.chip.rd rURG_LASTSEQ p kid).toNat < seq) ∧ (ws = (if (b.getD 3 0).toNat = 1 ∧ s.chip.rb rCUE_MHI p q 30 = true then [setFld (setFld (s.chip.rd rCUE_TPL p q) 15 8 seq) 3 2 1, BitVec.ofNat 32 (beNat (slice b 12 4))] else [setFld (setFld (s.chip.rd rCUE_TPL p q) 15 8 seq) 3 2 0])) ∧ (full = (if s.chip.rb rCUE_MHI p q 31 = true then ((List.range 6).filter fun k => decide (s.chip.cueMask p q k ≠ 0) && decide (16 < (s.chip.urgQueue p k).length + ws.length)).length else 0)) :=
  ⟨(st fun c => ((c.setMac 1 { dlcIn := [cueFrame cueTag] }).setUrg 1 { key0 := some cueKey }).wr rCUE_MHI 1 2 0x80000001 |>.wr rCUE_MLO 1 2 3), 1, (cueFrame cueTag), [], (cueLoad cueTag), cueKey, 0, 5, 2, 0, [0x500], by and_intros <;> first | with_reducible rfl | decide +kernel | rfl⟩
theorem wit_urgent_cues_6_b : ∃ (s : State) (p : Fin 2) (f : RxFrame) (t : List RxFrame) (b : List Byte) (key : List Byte) (kid : Nat) (seq : Nat) (q : Nat) (full : Nat) (ws : List Word),
    (s.chip.alive (macDom p) = true) ∧ ((s.chip.mac p).dlcIn = f :: t) ∧ (f.flagged = false) ∧ (b = (parseHdr f.bytes).payload) ∧ (b.length = 24) ∧ (slice b 0 3 = [0x44, 0x4C, 1]) ∧ ((b.getD 3 0).toNat < 2) ∧ (kid = (b.getD 8 0).toNat) ∧ (kid < 2) ∧ (q = (b.getD 9 0).toNat) ∧ (q < 32) ∧ (slice b 10 2 = [0, 0]) ∧ ((if kid = 0 then (s.chip.urg p).key0 else (s.chip.urg p).key1) = some key) ∧ (dlcTag key (parseHdr f.bytes).src b = slice b 16 8) ∧ (seq = beNat (slice b 4 4)) ∧ ((s.chip.rd rURG_LASTSEQ p kid).toNat < seq) ∧ (ws = (if (b.getD 3 0).toNat = 1 ∧ s.chip.rb rCUE_MHI p q 30 = true then [setFld (setFld (s.chip.rd rCUE_TPL p q) 15 8 seq) 3 2 1, BitVec.ofNat 32 (beNat (slice b 12 4))] else [setFld (setFld (s.chip.rd rCUE_TPL p q) 15 8 seq) 3 2 0])) ∧ (full = (if s.chip.rb rCUE_MHI p q 31 = true then ((List.range 6).filter fun k => decide (s.chip.cueMask p q k ≠ 0) && decide (16 < (s.chip.urgQueue p k).length + ws.length)).length else 0)) :=
  ⟨(st fun c => ((c.setMac 1 { dlcIn := [cueFrame cueTag] }).setUrg 1 { key0 := some cueKey })), 1, (cueFrame cueTag), [], (cueLoad cueTag), cueKey, 0, 5, 2, 0, [0x500], by and_intros <;> first | with_reducible rfl | decide +kernel | rfl⟩
theorem wit_urgent_cues_6_c : ∃ (s : State) (p : Fin 2) (f : RxFrame) (t : List RxFrame) (b : List Byte) (key : List Byte) (kid : Nat) (seq : Nat) (q : Nat) (full : Nat) (ws : List Word),
    (s.chip.alive (macDom p) = true) ∧ ((s.chip.mac p).dlcIn = f :: t) ∧ (f.flagged = false) ∧ (b = (parseHdr f.bytes).payload) ∧ (b.length = 24) ∧ (slice b 0 3 = [0x44, 0x4C, 1]) ∧ ((b.getD 3 0).toNat < 2) ∧ (kid = (b.getD 8 0).toNat) ∧ (kid < 2) ∧ (q = (b.getD 9 0).toNat) ∧ (q < 32) ∧ (slice b 10 2 = [0, 0]) ∧ ((if kid = 0 then (s.chip.urg p).key0 else (s.chip.urg p).key1) = some key) ∧ (dlcTag key (parseHdr f.bytes).src b = slice b 16 8) ∧ (seq = beNat (slice b 4 4)) ∧ ((s.chip.rd rURG_LASTSEQ p kid).toNat < seq) ∧ (ws = (if (b.getD 3 0).toNat = 1 ∧ s.chip.rb rCUE_MHI p q 30 = true then [setFld (setFld (s.chip.rd rCUE_TPL p q) 15 8 seq) 3 2 1, BitVec.ofNat 32 (beNat (slice b 12 4))] else [setFld (setFld (s.chip.rd rCUE_TPL p q) 15 8 seq) 3 2 0])) ∧ (full = (if s.chip.rb rCUE_MHI p q 31 = true then ((List.range 6).filter fun k => decide (s.chip.cueMask p q k ≠ 0) && decide (16 < (s.chip.urgQueue p k).length + ws.length)).length else 0)) :=
  ⟨(st fun c => { ((c.setMac 1 { dlcIn := [cueFrame cueTag] }).setUrg 1 { key0 := some cueKey, lastAccept := some 0 }).wr rURG_GAP 1 0 7 |>.wr rCUE_MHI 1 2 0x80000001 |>.wr rCUE_MLO 1 2 0x103 with urgQ := [(6, List.replicate 16 { mask := 1, word := 0, words := 1, ts := 0, left := 1 })] }), 1, (cueFrame cueTag), [], (cueLoad cueTag), cueKey, 0, 5, 2, 1, [0x500], by and_intros <;> first | with_reducible rfl | decide +kernel | rfl⟩

end Sys2Proof.Tests.WitnessF
end

