-- ==== Sys2Proof/Tests/WitnessG0.lean ====
section
/-! SUPPORT. States and operands that meet the hypotheses of the statements, part G0. -/

namespace Sys2Proof.Tests.WitnessG0

open Sys2Proof Sys2Proof.Machine Sys2Proof.Tests

set_option maxRecDepth 100000
set_option Elab.async false
set_option linter.unusedVariables false
set_option linter.unreachableTactic false
set_option linter.unusedTactic false

theorem wit_every_run_completes_3 : ∃ (s : State) (t : State),
    (s.settled) ∧ (step s = .next t) :=
  ⟨(State.reset), (State.after State.reset Chip.idle), by decide +kernel, rfl⟩

end Sys2Proof.Tests.WitnessG0
end

