-- ==== Sys2Proof/Tests/WitnessH.lean ====
section
/-! SUPPORT. States and operands that meet the hypotheses of the statements, part H. -/

namespace Sys2Proof.Tests.WitnessH

open Sys2Proof Sys2Proof.Machine Sys2Proof.Tests

set_option maxRecDepth 100000
set_option Elab.async false
set_option linter.unusedVariables false
set_option linter.unreachableTactic false
set_option linter.unusedTactic false

def celOn : Chip → Chip := fun c => { (c.wr rCEL_CTRL 0 0 0x100F) with cel := { c.cel with serving := true } }
theorem wit_cellar_accesses_1 : ∃ (s : State) (a : Access) (v : Word),
    (s.chip.takes a rCEL_CTRL 0 0 (v ||| 0x1)) :=
  ⟨(st), hc, 0x10A, by decide +kernel⟩
theorem wit_cellar_accesses_1_b : ∃ (s : State) (a : Access) (v : Word),
    (s.chip.takes a rCEL_CTRL 0 0 (v ||| 0x1)) :=
  ⟨(st fun c => c.wr rCEL_STATUS 0 0 2), hc, 0x10A, by decide +kernel⟩
theorem wit_cellar_accesses_2 : ∃ (s : State),
    (s.chip.alive .cel = true) ∧ (s.chip.rb rCEL_CTRL 0 0 0 = true) ∧ (s.chip.cel.serving = false) :=
  ⟨(st fun c => c.wr rCEL_CTRL 0 0 0x100F), by decide +kernel⟩
theorem wit_cellar_accesses_3 : ∃ (s : State),
    (s.chip.rb rCEL_CTRL 0 0 0 = false ∨ s.chip.cel.serving = true) :=
  ⟨(st), by decide +kernel⟩
theorem wit_cellar_accesses_4 : ∃ (s : State) (a : Access) (addr : Addr),
    (s.chip.mayAccess a = true) ∧ (celBase ≤ addr.toNat) ∧ (addr.toNat < 0x9FC00000) ∧ (addr.toNat % 4 = 0) ∧ (s.chip.celUp = true) ∧ (s.chip.pstate = 0) ∧ (s.chip.cel.wb = []) ∧ (s.chip.ecc addr.toNat = 0) :=
  ⟨(st fun c => (celOn c).setWord 0x80000100 0x12345678), nc, 0x80000100, by decide +kernel⟩
theorem wit_cellar_accesses_5 : ∃ (s : State) (a : Access) (addr : Addr) (w : Word),
    (s.chip.mayAccess a = true) ∧ (celBase ≤ addr.toNat) ∧ (addr.toNat + 4 ≤ 0x9FC00000) ∧ (addr.toNat % 4 = 0) ∧ (s.chip.celUp = true) ∧ (s.chip.pstate = 0) ∧ (s.chip.cel.wb = []) ∧ (s.chip.celMayWrite a.master (s.chip.worldS a) addr.toNat = true) ∧ (s.chip.rb rECC_INJ 0 0 31 = false) :=
  ⟨(st celOn), nc, 0x80000100, 0x12345678, by decide +kernel⟩
theorem wit_cellar_accesses_6 : ∃ (s : State) (a : Access) (addr : Addr) (expect : Word) (new : Word),
    (s.chip.mayAccess a = true) ∧ (celBase ≤ addr.toNat) ∧ (addr.toNat + 4 ≤ 0x9FC00000) ∧ (addr.toNat % 4 = 0) ∧ (s.chip.celUp = true) ∧ (s.chip.pstate = 0) ∧ (s.chip.cel.wb = []) ∧ (s.chip.celMayWrite a.master (s.chip.worldS a) addr.toNat = true) ∧ (s.chip.ecc addr.toNat = 0) ∧ (s.chip.rb rECC_INJ 0 0 31 = false) :=
  ⟨(st celOn), nc, 0x80000100, 0, 7, by decide +kernel⟩
theorem wit_cellar_accesses_6_b : ∃ (s : State) (a : Access) (addr : Addr) (expect : Word) (new : Word),
    (s.chip.mayAccess a = true) ∧ (celBase ≤ addr.toNat) ∧ (addr.toNat + 4 ≤ 0x9FC00000) ∧ (addr.toNat % 4 = 0) ∧ (s.chip.celUp = true) ∧ (s.chip.pstate = 0) ∧ (s.chip.cel.wb = []) ∧ (s.chip.celMayWrite a.master (s.chip.worldS a) addr.toNat = true) ∧ (s.chip.ecc addr.toNat = 0) ∧ (s.chip.rb rECC_INJ 0 0 31 = false) :=
  ⟨(st celOn), nc, 0x80000100, 1, 7, by decide +kernel⟩
theorem wit_cellar_accesses_7 : ∃ (s : State) (w : WriteBack) (t : List WriteBack),
    (s.chip.alive .cel = true) ∧ (s.chip.cel.wb = w :: t) :=
  ⟨(st fun c => (celOn c).queueWb 0x80000100 9 true), ⟨0x80000100, 9, true⟩, [], by decide +kernel⟩
theorem wit_cellar_accesses_8 : ∃ (s : State),
    (s.chip.cel.wb = []) :=
  ⟨(st celOn), by decide +kernel⟩
theorem wit_cellar_accesses_9 : ∃ (s : State) (a : Access) (addr : Addr),
    (s.chip.mayAccess a = true) ∧ (celBase ≤ addr.toNat) ∧ (addr.toNat < 0xA0000000) :=
  ⟨(st fun c => ((celOn c).wr rCEL_STATUS 0 0 0x10).setEcc 0x80000100 1), nc, 0x80000102, by decide +kernel⟩
theorem wit_cellar_accesses_9_b : ∃ (s : State) (a : Access) (addr : Addr),
    (s.chip.mayAccess a = true) ∧ (celBase ≤ addr.toNat) ∧ (addr.toNat < 0xA0000000) :=
  ⟨(st fun c => (celOn c).setWord 0x80000100 5), nc, 0x80000102, by decide +kernel⟩
theorem wit_cellar_accesses_9_c : ∃ (s : State) (a : Access) (addr : Addr),
    (s.chip.mayAccess a = true) ∧ (celBase ≤ addr.toNat) ∧ (addr.toNat < 0xA0000000) :=
  ⟨(st fun c => (celOn c).setEcc 0x80000100 0xFF), nc, 0x80000102, by decide +kernel⟩
theorem wit_cellar_accesses_9_d : ∃ (s : State) (a : Access) (addr : Addr),
    (s.chip.mayAccess a = true) ∧ (celBase ≤ addr.toNat) ∧ (addr.toNat < 0xA0000000) :=
  ⟨(st fun c => (celOn c).setEcc 0x80000100 0x03), { master := .raster }, 0x80000102, by decide +kernel⟩
theorem wit_cellar_accesses_9_e : ∃ (s : State) (a : Access) (addr : Addr),
    (s.chip.mayAccess a = true) ∧ (celBase ≤ addr.toNat) ∧ (addr.toNat < 0xA0000000) :=
  ⟨(st celOn), nc, 0x9FC00000, by decide +kernel⟩
theorem wit_cellar_accesses_9_f : ∃ (s : State) (a : Access) (addr : Addr),
    (s.chip.mayAccess a = true) ∧ (celBase ≤ addr.toNat) ∧ (addr.toNat < 0xA0000000) :=
  ⟨(st), hc, 0x80000000, by decide +kernel⟩
theorem wit_cellar_accesses_10 : ∃ (s : State) (a : Access) (addr : Addr) (l : List Byte),
    (s.chip.mayAccess a = true) ∧ (celBase ≤ addr.toNat) ∧ (addr.toNat < 0xA0000000) ∧ (addr.toNat + l.length ≤ 0xA0000000) ∧ (s.chip.celUp = true) ∧ ((∀ k < l.length, s.chip.celMayWrite a.master (s.chip.worldS a) (addr.toNat + k) = true)) ∧ (addr.toNat % 4 = 0 ∨ s.chip.celView (addr.toNat / 4 * 4) ≠ none) ∧ (((addr.toNat + l.length) % 4 = 0 ∨ s.chip.celView ((addr.toNat + l.length) / 4 * 4) ≠ none)) :=
  ⟨(st fun c => ((celOn c).wr rCEL_STATUS 0 0 0x10).setEcc 0x80000100 1), hc, 0x80000102, [1, 2, 3, 4, 5, 6, 7], by decide +kernel⟩
theorem wit_cellar_accesses_10_b : ∃ (s : State) (a : Access) (addr : Addr) (l : List Byte),
    (s.chip.mayAccess a = true) ∧ (celBase ≤ addr.toNat) ∧ (addr.toNat < 0xA0000000) ∧ (addr.toNat + l.length ≤ 0xA0000000) ∧ (s.chip.celUp = true) ∧ ((∀ k < l.length, s.chip.celMayWrite a.master (s.chip.worldS a) (addr.toNat + k) = true)) ∧ (addr.toNat % 4 = 0 ∨ s.chip.celView (addr.toNat / 4 * 4) ≠ none) ∧ (((addr.toNat + l.length) % 4 = 0 ∨ s.chip.celView ((addr.toNat + l.length) / 4 * 4) ≠ none)) :=
  ⟨(st fun c => ((celOn c).setEcc 0x80000104 0xFF).setEcc 0x80000100 1), hc, 0x80000102, [1, 2, 3, 4, 5, 6], by decide +kernel⟩
theorem wit_cellar_accesses_10_c : ∃ (s : State) (a : Access) (addr : Addr) (l : List Byte),
    (s.chip.mayAccess a = true) ∧ (celBase ≤ addr.toNat) ∧ (addr.toNat < 0xA0000000) ∧ (addr.toNat + l.length ≤ 0xA0000000) ∧ (s.chip.celUp = true) ∧ ((∀ k < l.length, s.chip.celMayWrite a.master (s.chip.worldS a) (addr.toNat + k) = true)) ∧ (addr.toNat % 4 = 0 ∨ s.chip.celView (addr.toNat / 4 * 4) ≠ none) ∧ (((addr.toNat + l.length) % 4 = 0 ∨ s.chip.celView ((addr.toNat + l.length) / 4 * 4) ≠ none)) :=
  ⟨(st celOn), hc, 0x80000101, [9], by decide +kernel⟩
theorem wit_cellar_accesses_10_d : ∃ (s : State) (a : Access) (addr : Addr) (l : List Byte),
    (s.chip.mayAccess a = true) ∧ (celBase ≤ addr.toNat) ∧ (addr.toNat < 0xA0000000) ∧ (addr.toNat + l.length ≤ 0xA0000000) ∧ (s.chip.celUp = true) ∧ ((∀ k < l.length, s.chip.celMayWrite a.master (s.chip.worldS a) (addr.toNat + k) = true)) ∧ (addr.toNat % 4 = 0 ∨ s.chip.celView (addr.toNat / 4 * 4) ≠ none) ∧ (((addr.toNat + l.length) % 4 = 0 ∨ s.chip.celView ((addr.toNat + l.length) / 4 * 4) ≠ none)) :=
  ⟨(st celOn), hc, 0x9FFFFFFF, [9], by decide +kernel⟩
theorem wit_cellar_accesses_10_e : ∃ (s : State) (a : Access) (addr : Addr) (l : List Byte),
    (s.chip.mayAccess a = true) ∧ (celBase ≤ addr.toNat) ∧ (addr.toNat < 0xA0000000) ∧ (addr.toNat + l.length ≤ 0xA0000000) ∧ (s.chip.celUp = true) ∧ ((∀ k < l.length, s.chip.celMayWrite a.master (s.chip.worldS a) (addr.toNat + k) = true)) ∧ (addr.toNat % 4 = 0 ∨ s.chip.celView (addr.toNat / 4 * 4) ≠ none) ∧ (((addr.toNat + l.length) % 4 = 0 ∨ s.chip.celView ((addr.toNat + l.length) / 4 * 4) ≠ none)) :=
  ⟨(st celOn), nc, 0x80000101, [], by decide +kernel⟩
theorem wit_cellar_accesses_11 : ∃ (s : State) (a : Access) (addr : Addr) (l : List Byte),
    (s.chip.mayAccess a = true) ∧ (celBase ≤ addr.toNat) ∧ (addr.toNat < 0xA0000000) ∧ (addr.toNat + l.length ≤ 0xA0000000) ∧ (l ≠ []) ∧ (s.chip.celUp = true) ∧ ((∀ k < l.length, s.chip.celMayWrite a.master (s.chip.worldS a) (addr.toNat + k) = false)) :=
  ⟨(st fun c => (celOn c).wr rRGN_WMASK 0 0 0), nc, 0x80000101, [1, 2, 3, 4, 5, 6, 7, 8], by decide +kernel⟩
theorem wit_cellar_accesses_11_b : ∃ (s : State) (a : Access) (addr : Addr) (l : List Byte),
    (s.chip.mayAccess a = true) ∧ (celBase ≤ addr.toNat) ∧ (addr.toNat < 0xA0000000) ∧ (addr.toNat + l.length ≤ 0xA0000000) ∧ (l ≠ []) ∧ (s.chip.celUp = true) ∧ ((∀ k < l.length, s.chip.celMayWrite a.master (s.chip.worldS a) (addr.toNat + k) = false)) :=
  ⟨(st fun c => (celOn c).wr rRGN_WMASK 0 0 0), { master := .dma }, 0x80000101, [1], by decide +kernel⟩
theorem wit_cellar_accesses_12 : ∃ (s : State) (a : Access) (addr : Addr) (l : List Byte),
    (s.chip.mayAccess a = true) ∧ (celBase ≤ addr.toNat) ∧ (addr.toNat < 0xA0000000) ∧ (l ≠ []) ∧ (l.length < 4) ∧ (addr.toNat % 4 + l.length ≤ 4) ∧ (s.chip.celUp = true) ∧ (s.chip.celMayWrite a.master (s.chip.worldS a) (addr.toNat / 4 * 4) = true) ∧ (s.chip.celView (addr.toNat / 4 * 4) = none) :=
  ⟨(st fun c => (celOn c).setEcc 0x80000100 0xFF), nc, 0x80000101, [1, 2], by decide +kernel⟩
theorem wit_cellar_accesses_12_b : ∃ (s : State) (a : Access) (addr : Addr) (l : List Byte),
    (s.chip.mayAccess a = true) ∧ (celBase ≤ addr.toNat) ∧ (addr.toNat < 0xA0000000) ∧ (l ≠ []) ∧ (l.length < 4) ∧ (addr.toNat % 4 + l.length ≤ 4) ∧ (s.chip.celUp = true) ∧ (s.chip.celMayWrite a.master (s.chip.worldS a) (addr.toNat / 4 * 4) = true) ∧ (s.chip.celView (addr.toNat / 4 * 4) = none) :=
  ⟨(st fun c => (celOn c).setEcc 0x80000100 0x03), nc, 0x80000101, [1, 2, 3], by decide +kernel⟩
theorem wit_cellar_accesses_13 : ∃ (s : State) (a : Access) (addr : Addr) (l : List Byte),
    (s.chip.mayAccess a = true) ∧ (celBase ≤ addr.toNat) ∧ (addr.toNat < 0xA0000000) ∧ (addr.toNat + l.length ≤ 0xA0000000) ∧ (s.chip.celUp = false) :=
  ⟨(st), nc, 0x80000101, [1, 2], by decide +kernel⟩
theorem wit_cellar_accesses_14 : ∃ (s : State) (a : Access) (addr : Addr) (expect : Word) (new : Word),
    (s.chip.mayAccess a = true) ∧ (celBase ≤ addr.toNat) ∧ (addr.toNat < 0xA0000000) ∧ (s.chip.celUp = true) ∧ (s.chip.celMayWrite a.master (s.chip.worldS a) (addr.toNat / 4 * 4) = true) :=
  ⟨(st fun c => ((celOn c).wr rCEL_STATUS 0 0 0x10).setWord 0x80000100 5), hc, 0x80000100, 5, 6, by decide +kernel⟩
theorem wit_cellar_accesses_14_b : ∃ (s : State) (a : Access) (addr : Addr) (expect : Word) (new : Word),
    (s.chip.mayAccess a = true) ∧ (celBase ≤ addr.toNat) ∧ (addr.toNat < 0xA0000000) ∧ (s.chip.celUp = true) ∧ (s.chip.celMayWrite a.master (s.chip.worldS a) (addr.toNat / 4 * 4) = true) :=
  ⟨(st celOn), hc, 0x80000100, 5, 6, by decide +kernel⟩
theorem wit_cellar_accesses_14_c : ∃ (s : State) (a : Access) (addr : Addr) (expect : Word) (new : Word),
    (s.chip.mayAccess a = true) ∧ (celBase ≤ addr.toNat) ∧ (addr.toNat < 0xA0000000) ∧ (s.chip.celUp = true) ∧ (s.chip.celMayWrite a.master (s.chip.worldS a) (addr.toNat / 4 * 4) = true) :=
  ⟨(st fun c => (celOn c).setEcc 0x80000100 0xFF), nc, 0x80000101, 1, 2, by decide +kernel⟩
theorem wit_cellar_accesses_15 : ∃ (s : State) (a : Access) (addr : Addr) (expect : Word) (new : Word),
    (s.chip.mayAccess a = true) ∧ (celBase ≤ addr.toNat) ∧ (addr.toNat < 0xA0000000) ∧ (s.chip.celUp = false ∨ s.chip.celMayWrite a.master (s.chip.worldS a) (addr.toNat / 4 * 4) = false) :=
  ⟨(st fun c => (celOn c).wr rRGN_WMASK 0 0 0), nc, 0x80000100, 5, 6, by decide +kernel⟩
theorem wit_cellar_accesses_15_b : ∃ (s : State) (a : Access) (addr : Addr) (expect : Word) (new : Word),
    (s.chip.mayAccess a = true) ∧ (celBase ≤ addr.toNat) ∧ (addr.toNat < 0xA0000000) ∧ (s.chip.celUp = false ∨ s.chip.celMayWrite a.master (s.chip.worldS a) (addr.toNat / 4 * 4) = false) :=
  ⟨(st), nc, 0x80000100, 5, 6, by decide +kernel⟩
theorem wit_cellar_accesses_16 : ∃ (s : State) (a : Access) (addr : Addr) (l : List Byte) (expect : Word) (new : Word),
    (s.chip.mayAccess a = true) ∧ (areaOf addr.toNat ≠ Area.cellar) :=
  ⟨(st celOn), nc, 0x01000100, [1], 5, 6, by decide +kernel⟩
theorem wit_cellar_scrub_and_power_1 : ∃ (s : State),
    (s.chip.celUp = true) ∧ (s.chip.rb rCEL_CTRL 0 0 1 = true) ∧ (s.chip.pstate = 0) ∧ (s.chip.cel.ecc = []) ∧ (s.chip.cel.wb = []) :=
  ⟨(st celOn), by decide +kernel⟩
theorem wit_cellar_scrub_and_power_1_b : ∃ (s : State),
    (s.chip.celUp = true) ∧ (s.chip.rb rCEL_CTRL 0 0 1 = true) ∧ (s.chip.pstate = 0) ∧ (s.chip.cel.ecc = []) ∧ (s.chip.cel.wb = []) :=
  ⟨(st fun c => (celOn c).wr rCEL_SCRUB_POS 0 0 0x7FFFFF), by decide +kernel⟩
theorem wit_cellar_scrub_and_power_2 : ∃ (s : State) (a : Nat),
    (s.chip.celUp = true) ∧ (s.chip.rb rCEL_CTRL 0 0 1 = true) ∧ (s.chip.cel.wb = []) ∧ (a = celBase + 64 * s.chip.rf rCEL_SCRUB_POS 0 0 22 0) :=
  ⟨(st fun c => (((celOn c).wr rCEL_STATUS 0 0 0x10).setEcc 0x80000100 0xFF).setEcc 0x80000010 1 |>.setEcc 0x80000014 3), 0x80000000, by decide +kernel⟩
theorem wit_cellar_scrub_and_power_2_b : ∃ (s : State) (a : Nat),
    (s.chip.celUp = true) ∧ (s.chip.rb rCEL_CTRL 0 0 1 = true) ∧ (s.chip.cel.wb = []) ∧ (a = celBase + 64 * s.chip.rf rCEL_SCRUB_POS 0 0 22 0) :=
  ⟨(st fun c => (((celOn c).wr rCEL_SCRUB_POS 0 0 4).setEcc 0x80000100 0x7F).setEcc 0x80000110 1 |>.setEcc 0x80000114 3), 0x80000100, by decide +kernel⟩
theorem wit_cellar_scrub_and_power_3 : ∃ (s : State),
    (s.chip.celUp = true) ∧ (s.chip.rb rCEL_CTRL 0 0 1 = true) :=
  ⟨(st celOn), by decide +kernel⟩
theorem wit_cellar_scrub_and_power_4 : ∃ (s : State) (behind : Bool),
    (s.chip.celUp = false ∨ s.chip.rb rCEL_CTRL 0 0 1 = false) :=
  ⟨(st), true, by decide +kernel⟩
theorem wit_cellar_scrub_and_power_5 : ∃ (s : State) (a : Access) (v : Word),
    (s.chip.takes a rECC_INJ 0 0 v) :=
  ⟨(st), hc, 0x800000A5, by decide +kernel⟩
theorem wit_cellar_scrub_and_power_6 : ∃ (s : State),
    (s.chip.up .pix = true) ∧ (s.chip.alive .cel = true) :=
  ⟨(st), by decide +kernel⟩
theorem wit_cellar_scrub_and_power_6_b : ∃ (s : State),
    (s.chip.up .pix = true) ∧ (s.chip.alive .cel = true) :=
  ⟨(st fun c => (c.wr rPORT_CTRL 3 0 0x8000_0001).wr rPORT_STATUS 3 0 0x401), by decide +kernel⟩
theorem wit_cellar_scrub_and_power_6_c : ∃ (s : State),
    (s.chip.up .pix = true) ∧ (s.chip.alive .cel = true) :=
  ⟨(st fun c => (c.wr rPORT_CTRL 3 0 0x8000_0003).wr rPORT_STATUS 3 0 0x403), by decide +kernel⟩
theorem wit_cellar_scrub_and_power_7 : ∃ (s : State) (tol : Word),
    (tol ≠ s.chip.tolNow) :=
  ⟨(st), 5, by decide +kernel⟩
theorem wit_cellar_scrub_and_power_8 : ∃ (s : State),
    (s.chip.alive .cel = true) :=
  ⟨(st), by decide +kernel⟩
theorem wit_cellar_scrub_and_power_9 : ∃ (s : State) (d : Nat),
    (s.chip.celUp = true) ∧ (s.chip.rb rCEL_CTRL 0 0 2 = true) ∧ (s.chip.pstate = 0) ∧ (s.chip.cel.posted < 32768) ∧ (s.chip.cel.wb = []) ∧ (s.chip.cel.scrubDue = false ∨ s.chip.rb rCEL_CTRL 0 0 1 = false) ∧ (1 ≤ d) ∧ (d ≤ s.chip.rf rCEL_PWR 0 0 5 4) ∧ (celExit d + s.chip.celGuard < s.chip.tol) ∧ ((∀ e : Fin 4, d < e.val → e.val ≤ s.chip.rf rCEL_PWR 0 0 5 4 → s.chip.tol ≤ celExit e + s.chip.celGuard)) :=
  ⟨(st fun c => { (celOn c).wr rCEL_TOL 0 0 1000 with cel := { (celOn c).cel with tolStale := false } }), 2, by decide +kernel⟩
theorem wit_cellar_scrub_and_power_10 : ∃ (s : State),
    (s.chip.celUp = false ∨ s.chip.rb rCEL_CTRL 0 0 2 = false ∨ s.chip.pstate ≠ 0 ∨ 32768 ≤ s.chip.cel.posted ∨ s.chip.cel.wb ≠ [] ∨ (s.chip.cel.scrubDue = true ∧ s.chip.rb rCEL_CTRL 0 0 1 = true) ∨ (∀ e : Fin 4, 1 ≤ e.val → e.val ≤ s.chip.rf rCEL_PWR 0 0 5 4 → s.chip.tol ≤ celExit e + s.chip.celGuard)) :=
  ⟨(st celOn), by decide +kernel⟩
theorem wit_cellar_scrub_and_power_10_b : ∃ (s : State),
    (s.chip.celUp = false ∨ s.chip.rb rCEL_CTRL 0 0 2 = false ∨ s.chip.pstate ≠ 0 ∨ 32768 ≤ s.chip.cel.posted ∨ s.chip.cel.wb ≠ [] ∨ (s.chip.cel.scrubDue = true ∧ s.chip.rb rCEL_CTRL 0 0 1 = true) ∨ (∀ e : Fin 4, 1 ≤ e.val → e.val ≤ s.chip.rf rCEL_PWR 0 0 5 4 → s.chip.tol ≤ celExit e + s.chip.celGuard)) :=
  ⟨(st), by decide +kernel⟩
theorem wit_cellar_scrub_and_power_11 : ∃ (s : State) (why : WakeCause),
    (s.chip.alive .cel = true) ∧ (s.chip.pstate ≠ 0) ∧ (why = .read ∨ why = .posted ∨ why = .scrub ∨ (why = .refresh ∧ s.chip.pstate = 1) ∨ (why = .tol ∧ s.chip.tol ≤ celExit s.chip.pstate + s.chip.celGuard)) :=
  ⟨(st fun c => (celOn c).wr rCEL_STATUS 0 0 0x10), .read, by decide +kernel⟩
theorem wit_cellar_scrub_and_power_11_b : ∃ (s : State) (why : WakeCause),
    (s.chip.alive .cel = true) ∧ (s.chip.pstate ≠ 0) ∧ (why = .read ∨ why = .posted ∨ why = .scrub ∨ (why = .refresh ∧ s.chip.pstate = 1) ∨ (why = .tol ∧ s.chip.tol ≤ celExit s.chip.pstate + s.chip.celGuard)) :=
  ⟨(st fun c => (celOn c).wr rCEL_STATUS 0 0 0x18), .scrub, by decide +kernel⟩
theorem wit_cellar_scrub_and_power_11_c : ∃ (s : State) (why : WakeCause),
    (s.chip.alive .cel = true) ∧ (s.chip.pstate ≠ 0) ∧ (why = .read ∨ why = .posted ∨ why = .scrub ∨ (why = .refresh ∧ s.chip.pstate = 1) ∨ (why = .tol ∧ s.chip.tol ≤ celExit s.chip.pstate + s.chip.celGuard)) :=
  ⟨(st fun c => (celOn c).wr rCEL_STATUS 0 0 0x08), .refresh, by decide +kernel⟩
theorem wit_cellar_scrub_and_power_11_d : ∃ (s : State) (why : WakeCause),
    (s.chip.alive .cel = true) ∧ (s.chip.pstate ≠ 0) ∧ (why = .read ∨ why = .posted ∨ why = .scrub ∨ (why = .refresh ∧ s.chip.pstate = 1) ∨ (why = .tol ∧ s.chip.tol ≤ celExit s.chip.pstate + s.chip.celGuard)) :=
  ⟨(st fun c => (celOn c).wr rCEL_STATUS 0 0 0x08), .tol, by decide +kernel⟩
theorem wit_cellar_scrub_and_power_12 : ∃ (s : State) (why : WakeCause),
    (why ≠ .scrub) ∧ (s.chip.pstate = 0 ∨ (why = .refresh ∧ s.chip.pstate ≠ 1) ∨ (why = .tol ∧ celExit s.chip.pstate + s.chip.celGuard < s.chip.tol)) :=
  ⟨(st), .tol, by decide +kernel⟩
theorem wit_cellar_scrub_and_power_12_b : ∃ (s : State) (why : WakeCause),
    (why ≠ .scrub) ∧ (s.chip.pstate = 0 ∨ (why = .refresh ∧ s.chip.pstate ≠ 1) ∨ (why = .tol ∧ celExit s.chip.pstate + s.chip.celGuard < s.chip.tol)) :=
  ⟨(st fun c => (celOn c).wr rCEL_STATUS 0 0 0x18), .refresh, by decide +kernel⟩
theorem wit_cellar_scrub_and_power_13 : ∃ (s : State),
    (s.chip.alive .cel = true) ∧ (s.chip.pstate = 0) :=
  ⟨(st), by decide +kernel⟩

end Sys2Proof.Tests.WitnessH
end

