-- ==== Sys2Proof/Tests/WitnessI.lean ====
section
/-! SUPPORT. States and operands that meet the hypotheses of the statements, part I. -/

namespace Sys2Proof.Tests.WitnessI

open Sys2Proof Sys2Proof.Machine Sys2Proof.Tests

set_option maxRecDepth 100000
set_option Elab.async false
set_option linter.unusedVariables false
set_option linter.unreachableTactic false
set_option linter.unusedTactic false

def prw (p : Fin 48) (s : State) : List Word := cellWire (setFld (cellHead 5 0 4 0) 15 8 4) [s.chip.epochWord p (BitVec.ofNat 8 s.chip.ras.k), BitVec.ofNat 32 (s.chip.showTime - s.chip.time.now), s.chip.rd rLT0A p, if p.val % 2 = 0 then s.chip.rd rLT0B p else 0]
def rasOn : Chip → Chip := fun c => c.wr rRAS_CTRL 0 0 1
def lane0 (p : Nat) : Chip → Chip := fun c => (c.wr rPORT_STATUS p 0 1).setBank (bankOf p) { family := 1 }
def fet (n : Nat) : Fetch := { code := 0, run0 := 0, nruns := 0, cal0 := 0, node := some 3, nacc := n, acc := 2 ^ (n - 10) + 5 }
def celOn : Chip → Chip := fun c => { (c.wr rCEL_CTRL 0 0 0x100F) with cel := { c.cel with serving := true } }
def held : Chip → Chip := fun c => ({ rasOn c with time := { c.time with pixQ := [(1000000000, false)] } } : Chip).setRas { hold := some { pc := 5, grid := false } }
theorem wit_raster_frame_start_1 : ∃ (s : State) (x : Contested),
    (s.chip.up .pix = true) :=
  ⟨(st fun c => { c with time := { c.time with pixQ := [(5, true)] } }), {}, by decide +kernel⟩
theorem wit_raster_frame_start_2 : ∃ (s : State) (x : Contested) (ts : Nat) (q : List (Nat × Bool)),
    (s.chip.up .pix = true) ∧ (s.chip.rb rRAS_CTRL 0 0 0 = true) ∧ (s.chip.time.pixQ = (ts, false) :: q) ∧ (s.chip.ras.hold = none) ∧ (s.chip.irregular ts = false) :=
  ⟨(st fun c => { rasOn c with time := { c.time with pixQ := [(1000000000, false)] } }), {}, 1000000000, [], by decide +kernel⟩
theorem wit_raster_frame_start_2_b : ∃ (s : State) (x : Contested) (ts : Nat) (q : List (Nat × Bool)),
    (s.chip.up .pix = true) ∧ (s.chip.rb rRAS_CTRL 0 0 0 = true) ∧ (s.chip.time.pixQ = (ts, false) :: q) ∧ (s.chip.ras.hold = none) ∧ (s.chip.irregular ts = false) :=
  ⟨(st fun c => { celOn (rasOn c) with time := { c.time with pixQ := [(1000000000, false)] } }), {}, 1000000000, [], by decide +kernel⟩
theorem wit_raster_frame_start_2_c : ∃ (s : State) (x : Contested) (ts : Nat) (q : List (Nat × Bool)),
    (s.chip.up .pix = true) ∧ (s.chip.rb rRAS_CTRL 0 0 0 = true) ∧ (s.chip.time.pixQ = (ts, false) :: q) ∧ (s.chip.ras.hold = none) ∧ (s.chip.irregular ts = false) :=
  ⟨(st fun c => (lane0 9 { (celOn (rasOn c)).setWord 0x92000090 0x80000000 with time := { c.time with pixQ := [(1000000000, false)] } })), {}, 1000000000, [], by decide +kernel⟩
theorem wit_raster_frame_start_3 : ∃ (s : State) (x : Contested) (ts : Nat) (sw : Bool) (q : List (Nat × Bool)),
    (s.chip.up .pix = true) ∧ (s.chip.rb rRAS_CTRL 0 0 0 = true) ∧ ((s.chip.time.pixQ = (ts, sw) :: q ∧ (sw = true ∨ s.chip.irregular ts = true)) ∨ (s.chip.time.pixQ = [] ∧ q = [] ∧ ts = s.chip.time.now)) ∧ (s.chip.ras.hold = none) :=
  ⟨(st fun c => { rasOn c with time := { c.time with pixQ := [(1000000000, true)] } }), {}, 1000000000, true, [], by decide +kernel⟩
theorem wit_raster_frame_start_3_b : ∃ (s : State) (x : Contested) (ts : Nat) (sw : Bool) (q : List (Nat × Bool)),
    (s.chip.up .pix = true) ∧ (s.chip.rb rRAS_CTRL 0 0 0 = true) ∧ ((s.chip.time.pixQ = (ts, sw) :: q ∧ (sw = true ∨ s.chip.irregular ts = true)) ∨ (s.chip.time.pixQ = [] ∧ q = [] ∧ ts = s.chip.time.now)) ∧ (s.chip.ras.hold = none) :=
  ⟨(st fun c => (lane0 9 { rasOn c with time := { c.time with pixQ := [(1000000000, true)] } }).setRas { fetch := [(9, fet 5)] }), {}, 1000000000, true, [], by decide +kernel⟩
theorem wit_raster_frame_start_3_c : ∃ (s : State) (x : Contested) (ts : Nat) (sw : Bool) (q : List (Nat × Bool)),
    (s.chip.up .pix = true) ∧ (s.chip.rb rRAS_CTRL 0 0 0 = true) ∧ ((s.chip.time.pixQ = (ts, sw) :: q ∧ (sw = true ∨ s.chip.irregular ts = true)) ∨ (s.chip.time.pixQ = [] ∧ q = [] ∧ ts = s.chip.time.now)) ∧ (s.chip.ras.hold = none) :=
  ⟨(st fun c => { rasOn c with time := { c.time with pixQ := [(1000000000, false)] }, ras := { c.ras with lastStart := some 5 } }), {}, 1000000000, false, [], by decide +kernel⟩
theorem wit_raster_frame_start_3_d : ∃ (s : State) (x : Contested) (ts : Nat) (sw : Bool) (q : List (Nat × Bool)),
    (s.chip.up .pix = true) ∧ (s.chip.rb rRAS_CTRL 0 0 0 = true) ∧ ((s.chip.time.pixQ = (ts, sw) :: q ∧ (sw = true ∨ s.chip.irregular ts = true)) ∨ (s.chip.time.pixQ = [] ∧ q = [] ∧ ts = s.chip.time.now)) ∧ (s.chip.ras.hold = none) :=
  ⟨(st rasOn), {}, 0, false, [], by decide +kernel⟩
theorem wit_raster_frame_start_4 : ∃ (s : State) (x : Contested) (ts : Nat) (sw : Bool) (q : List (Nat × Bool)) (h : HoldSt),
    (s.chip.up .pix = true) ∧ (s.chip.rb rRAS_CTRL 0 0 0 = true) ∧ (s.chip.time.pixQ = (ts, sw) :: q) ∧ (s.chip.ras.hold = some h) ∧ ((s.chip.setRas { s.chip.ras with switched := s.chip.ras.switched || sw }).mayResume ts h = false) :=
  ⟨(st fun c => (held c).setRas { hold := some { pc := 999999999, grid := false } }), {}, 1000000000, false, [], { pc := 999999999, grid := false }, by decide +kernel⟩
theorem wit_raster_frame_start_5 : ∃ (s : State) (x : Contested) (ts : Nat) (sw : Bool) (q : List (Nat × Bool)) (h : HoldSt),
    (s.chip.up .pix = true) ∧ (s.chip.rb rRAS_CTRL 0 0 0 = true) ∧ (s.chip.time.pixQ = (ts, sw) :: q) ∧ (s.chip.ras.hold = some h) ∧ ((s.chip.setRas { s.chip.ras with switched := s.chip.ras.switched || sw }).mayResume ts h = true) :=
  ⟨(st held), {}, 1000000000, false, [], { pc := 5, grid := false }, by decide +kernel⟩
theorem wit_raster_frame_start_5_b : ∃ (s : State) (x : Contested) (ts : Nat) (sw : Bool) (q : List (Nat × Bool)) (h : HoldSt),
    (s.chip.up .pix = true) ∧ (s.chip.rb rRAS_CTRL 0 0 0 = true) ∧ (s.chip.time.pixQ = (ts, sw) :: q) ∧ (s.chip.ras.hold = some h) ∧ ((s.chip.setRas { s.chip.ras with switched := s.chip.ras.switched || sw }).mayResume ts h = true) :=
  ⟨(st fun c => celOn (held c)), {}, 1000000000, false, [], { pc := 5, grid := false }, by decide +kernel⟩
theorem wit_raster_frame_start_5_c : ∃ (s : State) (x : Contested) (ts : Nat) (sw : Bool) (q : List (Nat × Bool)) (h : HoldSt),
    (s.chip.up .pix = true) ∧ (s.chip.rb rRAS_CTRL 0 0 0 = true) ∧ (s.chip.time.pixQ = (ts, sw) :: q) ∧ (s.chip.ras.hold = some h) ∧ ((s.chip.setRas { s.chip.ras with switched := s.chip.ras.switched || sw }).mayResume ts h = true) :=
  ⟨(st fun c => ((held c).wr rRAS_COMMIT 0 0 0x80000000).wr rSH_BRIGHT 0 0 7), {}, 1000000000, false, [], { pc := 5, grid := false }, by decide +kernel⟩
theorem wit_raster_frame_start_5_d : ∃ (s : State) (x : Contested) (ts : Nat) (sw : Bool) (q : List (Nat × Bool)) (h : HoldSt),
    (s.chip.up .pix = true) ∧ (s.chip.rb rRAS_CTRL 0 0 0 = true) ∧ (s.chip.time.pixQ = (ts, sw) :: q) ∧ (s.chip.ras.hold = some h) ∧ ((s.chip.setRas { s.chip.ras with switched := s.chip.ras.switched || sw }).mayResume ts h = true) :=
  ⟨(st fun c => ((held c).wr rRAS_COMMIT 0 0 0xC0000000).wr rSH_BRIGHT 0 0 7), {}, 1000000000, false, [], { pc := 5, grid := false }, by decide +kernel⟩
theorem wit_raster_commits_1 : ∃ (s : State) (a : Access) (v : Word),
    (s.chip.takes a rRAS_CTRL 0 0 v) ∧ (bit v 0 = true) ∧ (s.chip.rb rRAS_CTRL 0 0 0 = false) :=
  ⟨(st), hc, 3, by decide +kernel⟩
theorem wit_raster_commits_2 : ∃ (s : State) (a : Access) (v : Word),
    (s.chip.takes a rRAS_CTRL 0 0 v) ∧ (bit v 0 = false) ∧ (s.chip.rb rRAS_CTRL 0 0 0 = true) :=
  ⟨(st fun c => (lane0 9 (rasOn c)).setRas { inFrame := true, hold := some { pc := 1 , grid := false}, fetch := [(9, fet 5)] }), hc, 0, by decide +kernel⟩
theorem wit_raster_commits_3 : ∃ (s : State) (a : Access) (v : Word),
    (s.chip.takes a rRAS_CTRL 0 0 v) ∧ (bit v 0 = s.chip.rb rRAS_CTRL 0 0 0) :=
  ⟨(st), hc, 2, by decide +kernel⟩
theorem wit_raster_commits_4 : ∃ (s : State) (a : Access) (v : Word) (late : Bool),
    (s.chip.takes a rRAS_COMMIT 0 0 (v ||| 0x80000000)) ∧ (s.chip.rb rRAS_COMMIT 0 0 31 = false) ∧ (s.chip.rb rRAS_CTRL 0 0 0 = true) ∧ (late = (s.chip.ras.hold.isNone && s.chip.ras.guarded)) :=
  ⟨(st rasOn), hc, 0x60000000, false, by decide +kernel⟩
theorem wit_raster_commits_4_b : ∃ (s : State) (a : Access) (v : Word) (late : Bool),
    (s.chip.takes a rRAS_COMMIT 0 0 (v ||| 0x80000000)) ∧ (s.chip.rb rRAS_COMMIT 0 0 31 = false) ∧ (s.chip.rb rRAS_CTRL 0 0 0 = true) ∧ (late = (s.chip.ras.hold.isNone && s.chip.ras.guarded)) :=
  ⟨(st fun c => (rasOn c).setRas { guarded := true }), hc, 0, true, by decide +kernel⟩
theorem wit_raster_commits_4_c : ∃ (s : State) (a : Access) (v : Word) (late : Bool),
    (s.chip.takes a rRAS_COMMIT 0 0 (v ||| 0x80000000)) ∧ (s.chip.rb rRAS_COMMIT 0 0 31 = false) ∧ (s.chip.rb rRAS_CTRL 0 0 0 = true) ∧ (late = (s.chip.ras.hold.isNone && s.chip.ras.guarded)) :=
  ⟨(st fun c => ((rasOn c).wr rRAS_CTRL 0 0 3).setRas { guarded := true }), hc, 0x10000000, true, by decide +kernel⟩
theorem wit_raster_commits_5 : ∃ (s : State) (a : Access) (v : Word),
    (s.chip.takes a rRAS_COMMIT 0 0 (v ||| 0x80000000)) ∧ (s.chip.rb rRAS_COMMIT 0 0 31 = true) :=
  ⟨(st fun c => (rasOn c).wr rRAS_COMMIT 0 0 0x80000000), hc, 0x40000000, by decide +kernel⟩
theorem wit_raster_commits_6 : ∃ (s : State) (a : Access) (v : Word),
    (s.chip.takes a rRAS_COMMIT 0 0 (v ||| 0x80000000)) ∧ (s.chip.rb rRAS_COMMIT 0 0 31 = false) ∧ (s.chip.rb rRAS_CTRL 0 0 0 = false) :=
  ⟨(st fun c => c.wr rSH_BRIGHT 0 0 7), hc, 0, by decide +kernel⟩
theorem wit_raster_commits_6_b : ∃ (s : State) (a : Access) (v : Word),
    (s.chip.takes a rRAS_COMMIT 0 0 (v ||| 0x80000000)) ∧ (s.chip.rb rRAS_COMMIT 0 0 31 = false) ∧ (s.chip.rb rRAS_CTRL 0 0 0 = false) :=
  ⟨(st fun c => c.wr rSH_MODE 0 0 2), hc, 0x10000000, by decide +kernel⟩
theorem wit_raster_commits_7 : ∃ (s : State) (a : Access) (v : Word),
    (s.chip.takes a rRAS_COMMIT 0 0 (v ||| 0x10000000)) ∧ (bit v 31 = false) :=
  ⟨(st fun c => (rasOn c).wr rRAS_COMMIT 0 0 0x80000000), hc, 0, by decide +kernel⟩
theorem wit_raster_commits_7_b : ∃ (s : State) (a : Access) (v : Word),
    (s.chip.takes a rRAS_COMMIT 0 0 (v ||| 0x10000000)) ∧ (bit v 31 = false) :=
  ⟨(st fun c => ((rasOn c).wr rRAS_COMMIT 0 0 0x80000000).setRas { snap := some (rasOn c).snapshot }), hc, 0, by decide +kernel⟩
theorem wit_raster_commits_8 : ∃ (s : State) (a : Access) (v : Word),
    (s.chip.takes a rRAS_COMMIT 0 0 (v ||| 0x10000000)) ∧ (s.chip.ras.snap = none) :=
  ⟨(st fun c => (rasOn c).wr rRAS_COMMIT 0 0 0x80000000), hc, 0x80000000, by decide +kernel⟩
theorem wit_raster_commits_8_b : ∃ (s : State) (a : Access) (v : Word),
    (s.chip.takes a rRAS_COMMIT 0 0 (v ||| 0x10000000)) ∧ (s.chip.ras.snap = none) :=
  ⟨(st), hc, 0x80000000, by decide +kernel⟩
theorem wit_raster_commits_9 : ∃ (s : State),
    (s.chip.up .pix = true) ∧ (s.chip.rb rRAS_CTRL 0 0 0 = true) ∧ (s.chip.ras.inFrame = true) ∧ (s.chip.ras.hold = none) ∧ (s.chip.ras.guarded = false) ∧ (s.chip.ras.start + (s.chip.tw - max 1000 (s.chip.rf rRAS_GUARD 0 0 15 0)) ≤ s.chip.time.now) :=
  ⟨(st fun c => ({ rasOn c with time := { c.time with now := 15832666 } } : Chip).setRas { inFrame := true, start := 1000 }), by decide +kernel⟩
theorem wit_raster_commits_9_b : ∃ (s : State),
    (s.chip.up .pix = true) ∧ (s.chip.rb rRAS_CTRL 0 0 0 = true) ∧ (s.chip.ras.inFrame = true) ∧ (s.chip.ras.hold = none) ∧ (s.chip.ras.guarded = false) ∧ (s.chip.ras.start + (s.chip.tw - max 1000 (s.chip.rf rRAS_GUARD 0 0 15 0)) ≤ s.chip.time.now) :=
  ⟨(st fun c => ({ rasOn c with time := { c.time with now := 9999999999 } } : Chip).setRas { inFrame := true }|>.wr rRAS_COMMIT 0 0 0x80000000), by decide +kernel⟩
theorem wit_raster_commits_10 : ∃ (s : State),
    (s.chip.time.now < s.chip.ras.start + (s.chip.tw - max 1000 (s.chip.rf rRAS_GUARD 0 0 15 0))) :=
  ⟨(st fun c => ((rasOn c).setRas { inFrame := true, start := 7 })), by decide +kernel⟩
theorem wit_raster_commits_11 : ∃ (s : State),
    (s.chip.ras.commitDue = 0) :=
  ⟨(st fun c => ((rasOn c).setRas { inFrame := true, start := 7 })), by decide +kernel⟩
theorem wit_raster_commits_12 : ∃ (s : State),
    (s.chip.rb rRAS_CTRL 0 0 0 = false ∨ (s.chip.fwRuns = false ∧ s.chip.ras.hold = none ∧ s.chip.ras.inFrame = false)) ∧ (s.chip.ras.commitDue ≠ 0) ∧ ((∀ p : Fin 48, (s.chip.port p).crdBad = false)) ∧ (s.chip.cdr.swap = none) :=
  ⟨(st fun c => c.setRas { commitDue := 2 }), by decide +kernel⟩
theorem wit_raster_commits_13 : ∃ (s : State),
    (s.chip.up .pix = true) ∧ (s.chip.rb rRAS_CTRL 0 0 0 = true) ∧ (s.chip.ras.commitDue ≠ 0) ∧ (s.chip.ras.inFrame = true) ∧ (s.chip.ras.hold = none) ∧ ((s.chip.fwRuns = false ∨ (s.chip.dop.rwc = [] ∧ s.chip.cdr.policy = [] ∧ s.chip.dop.mirror = [] ∧ s.chip.dop.dflNext = none ∧ s.chip.dop.gridApply = false))) :=
  ⟨(st fun c => (rasOn c).setRas { commitDue := 1, inFrame := true, k := 9, snap := some { (rasOn c).snapshot with bright := 5 } }), by decide +kernel⟩
theorem wit_raster_commits_13_b : ∃ (s : State),
    (s.chip.up .pix = true) ∧ (s.chip.rb rRAS_CTRL 0 0 0 = true) ∧ (s.chip.ras.commitDue ≠ 0) ∧ (s.chip.ras.inFrame = true) ∧ (s.chip.ras.hold = none) ∧ ((s.chip.fwRuns = false ∨ (s.chip.dop.rwc = [] ∧ s.chip.cdr.policy = [] ∧ s.chip.dop.mirror = [] ∧ s.chip.dop.dflNext = none ∧ s.chip.dop.gridApply = false))) :=
  ⟨(st fun c => (rasOn c).setRas { commitDue := 1, inFrame := true, k := 9, snap := some { (rasOn c).snapshot with bright := 5, mode := true } }), by decide +kernel⟩
theorem wit_raster_commits_13_c : ∃ (s : State),
    (s.chip.up .pix = true) ∧ (s.chip.rb rRAS_CTRL 0 0 0 = true) ∧ (s.chip.ras.commitDue ≠ 0) ∧ (s.chip.ras.inFrame = true) ∧ (s.chip.ras.hold = none) ∧ ((s.chip.fwRuns = false ∨ (s.chip.dop.rwc = [] ∧ s.chip.cdr.policy = [] ∧ s.chip.dop.mirror = [] ∧ s.chip.dop.dflNext = none ∧ s.chip.dop.gridApply = false))) :=
  ⟨(st fun c => (lane0 9 (rasOn c)).setRas { commitDue := 2, inFrame := true, k := 9, fetch := [(9, fet 5)] }), by decide +kernel⟩
theorem wit_raster_commits_13_d : ∃ (s : State),
    (s.chip.up .pix = true) ∧ (s.chip.rb rRAS_CTRL 0 0 0 = true) ∧ (s.chip.ras.commitDue ≠ 0) ∧ (s.chip.ras.inFrame = true) ∧ (s.chip.ras.hold = none) ∧ ((s.chip.fwRuns = false ∨ (s.chip.dop.rwc = [] ∧ s.chip.cdr.policy = [] ∧ s.chip.dop.mirror = [] ∧ s.chip.dop.dflNext = none ∧ s.chip.dop.gridApply = false))) :=
  ⟨(st fun c => (rasOn c).setRas { commitDue := 2, inFrame := true, k := 9 }), by decide +kernel⟩
theorem wit_raster_fetch_and_present_1 : ∃ (s : State) (p : Fin 48),
    (s.chip.ras.inFrame = false ∨ s.chip.ras.hold ≠ none ∨ s.chip.fetchNext ≠ some p.val) :=
  ⟨(st rasOn), 5, by decide +kernel⟩
theorem wit_raster_fetch_and_present_1_b : ∃ (s : State) (p : Fin 48),
    (s.chip.ras.inFrame = false ∨ s.chip.ras.hold ≠ none ∨ s.chip.fetchNext ≠ some p.val) :=
  ⟨(st fun c => (rasOn c).setRas { inFrame := true, fetch := [(7, fet 2000), (5, fet 1990)] }), 9, by decide +kernel⟩
theorem wit_raster_fetch_and_present_2 : ∃ (c : Chip) (p : Nat),
    (c.fetchNext = some p) :=
  ⟨((rasOn c0).setRas { inFrame := true, fetch := [(7, fet 2000), (5, fet 1990)] }), 5, by decide +kernel⟩
theorem wit_raster_fetch_and_present_3 : ∃ (s : State) (p : Fin 48) (f : Fetch),
    (s.chip.up .pix = true) ∧ (s.chip.ras.inFrame = true) ∧ (s.chip.ras.hold = none) ∧ (s.chip.ras.fetch = [(p.val, f)]) ∧ (f.done = false) ∧ (s.chip.room p true 62 = true) ∧ (f.nacc < 1984) ∧ (f.nruns ≤ f.run) ∧ (f.node = none) :=
  ⟨(st fun c => (rasOn c).setRas { inFrame := true, fetch := [(5, { code := 0, run0 := 0, nruns := 0, cal0 := 0 })] }), 5, { code := 0, run0 := 0, nruns := 0, cal0 := 0 }, by decide +kernel⟩
theorem wit_raster_fetch_and_present_4 : ∃ (s : State) (p : Fin 48) (f : Fetch) (n : Nat),
    (s.chip.up .pix = true) ∧ (s.chip.ras.inFrame = true) ∧ (s.chip.ras.hold = none) ∧ (s.chip.fetchNext = some p.val) ∧ (s.chip.ras.fetch.find? (fun x => x.1 = p.val) = some (p.val, f)) ∧ (1984 ≤ f.nacc) ∧ (f.node = some n) ∧ (f.code ≤ 1) ∧ (s.chip.cutOff [0x28 + bankOf p] = false) ∧ ((s.chip.port p).loss = false) ∧ ((s.chip.bank (bankOf p)).wdhold = false) :=
  ⟨(st fun c => (rasOn c).setRas { inFrame := true, fetch := [(5, fet 2000)] }), 5, (fet 2000), 3, by decide +kernel⟩
theorem wit_raster_fetch_and_present_4_b : ∃ (s : State) (p : Fin 48) (f : Fetch) (n : Nat),
    (s.chip.up .pix = true) ∧ (s.chip.ras.inFrame = true) ∧ (s.chip.ras.hold = none) ∧ (s.chip.fetchNext = some p.val) ∧ (s.chip.ras.fetch.find? (fun x => x.1 = p.val) = some (p.val, f)) ∧ (1984 ≤ f.nacc) ∧ (f.node = some n) ∧ (f.code ≤ 1) ∧ (s.chip.cutOff [0x28 + bankOf p] = false) ∧ ((s.chip.port p).loss = false) ∧ ((s.chip.bank (bankOf p)).wdhold = false) :=
  ⟨(st fun c => ((rasOn c).setPort 5 { rasWr := 4050, rasRd := 4000 }).setRas { inFrame := true, fetch := [(5, { fet 1984 with code := 1 })] }), 5, { fet 1984 with code := 1 }, 3, by decide +kernel⟩
theorem wit_raster_fetch_and_present_5 : ∃ (s : State) (p : Fin 48) (w : List Word),
    (s.chip.up (.bank (bankOf p)) = true) ∧ (s.chip.isLane p = true) ∧ (s.chip.ringOdd p = false) ∧ ((s.chip.port p).presentDue = true) ∧ ((s.chip.bank (bankOf p)).step = 0) ∧ (s.chip.insertFrom p = none) ∧ (s.chip.witness p = false) ∧ (w = cellWire (setFld (cellHead 5 0 4 0) 15 8 (s.chip.port p).seq.toNat) [s.chip.epochWord p (BitVec.ofNat 8 s.chip.ras.k), BitVec.ofNat 32 (s.chip.showTime - s.chip.time.now), s.chip.rd rLT0A p, if (s.chip.port p).ringNow = true ∨ s.chip.paired p = true then s.chip.rd rLT0B p else 0]) :=
  ⟨(st fun c => (lane0 9 (c.setRas { k := 300 })).setPort 9 { presentDue := true, seq := 4 }), 9, (prw 9 (st fun c => (lane0 9 (c.setRas { k := 300 })).setPort 9 { presentDue := true, seq := 4 })), by and_intros <;> first | with_reducible rfl | decide +kernel | rfl⟩
theorem wit_raster_fetch_and_present_5_b : ∃ (s : State) (p : Fin 48) (w : List Word),
    (s.chip.up (.bank (bankOf p)) = true) ∧ (s.chip.isLane p = true) ∧ (s.chip.ringOdd p = false) ∧ ((s.chip.port p).presentDue = true) ∧ ((s.chip.bank (bankOf p)).step = 0) ∧ (s.chip.insertFrom p = none) ∧ (s.chip.witness p = false) ∧ (w = cellWire (setFld (cellHead 5 0 4 0) 15 8 (s.chip.port p).seq.toNat) [s.chip.epochWord p (BitVec.ofNat 8 s.chip.ras.k), BitVec.ofNat 32 (s.chip.showTime - s.chip.time.now), s.chip.rd rLT0A p, if (s.chip.port p).ringNow = true ∨ s.chip.paired p = true then s.chip.rd rLT0B p else 0]) :=
  ⟨(st fun c => (lane0 8 (c.setRas { k := 300 })).setPort 8 { presentDue := true, seq := 4, ringNow := true }), 8, (prw 8 (st fun c => (lane0 8 (c.setRas { k := 300 })).setPort 8 { presentDue := true, seq := 4, ringNow := true })), by and_intros <;> first | with_reducible rfl | decide +kernel | rfl⟩
theorem wit_raster_fetch_and_present_6 : ∃ (s : State) (p : Fin 48),
    (s.chip.up (.bank (bankOf p)) = true) ∧ (s.chip.isLane p = true) ∧ (s.chip.ringOdd p = false) ∧ ((s.chip.port p).presentDue = true) ∧ ((s.chip.bank (bankOf p)).step = 0) ∧ (s.chip.insertFrom p = none) ∧ (s.chip.witness p = true) ∧ ((s.chip.port p).returned = true) :=
  ⟨(st fun c => (lane0 9 (c.setRas { k := 300 })).setPort 9 { presentDue := true, soloWait := true, returned := true }), 9, by decide +kernel⟩
theorem wit_raster_fetch_and_present_7 : ∃ (s : State) (p : Fin 48),
    ((s.chip.port p).presentDue = false ∨ s.chip.isLane p = false) :=
  ⟨(st), 9, by decide +kernel⟩
theorem wit_pixel_tables_and_conversion_1 : ∃ (s : State) (a : Access) (v : Word),
    (s.chip.takes a rLUT_FILL 0 0 (v ||| 0x80000000)) ∧ (s.chip.rb rLUT_FILL 0 0 31 = false) ∧ (s.chip.lutActive (fld v 2 0) = false) ∧ (fld v 6 4 ≤ 4) :=
  ⟨(st), hc, 0x21, by decide +kernel⟩
theorem wit_pixel_tables_and_conversion_2 : ∃ (s : State) (a : Access) (v : Word),
    (s.chip.takes a rLUT_FILL 0 0 (v ||| 0x80000000)) ∧ (s.chip.rb rLUT_FILL 0 0 31 = false) ∧ (s.chip.lutActive (fld v 2 0) = true ∨ 4 < fld v 6 4) :=
  ⟨(st), hc, 0x51, by decide +kernel⟩
theorem wit_pixel_tables_and_conversion_2_b : ∃ (s : State) (a : Access) (v : Word),
    (s.chip.takes a rLUT_FILL 0 0 (v ||| 0x80000000)) ∧ (s.chip.rb rLUT_FILL 0 0 31 = false) ∧ (s.chip.lutActive (fld v 2 0) = true ∨ 4 < fld v 6 4) :=
  ⟨(st), hc, 0x20, by decide +kernel⟩
theorem wit_pixel_tables_and_conversion_4 : ∃ (s : State) (k : Fin 5) (t : Fin 8),
    (s.chip.alive .pix = true) ∧ (s.chip.pix.fill = some (k.val, t.val)) :=
  ⟨(st fun c => { c with pix := { c.pix with fill := some (2, 3) } }), 2, 3, by decide +kernel⟩
theorem wit_pixel_tables_and_conversion_5 : ∃ (s : State) (a : Access) (t : Fin 8) (j : Fin 1025) (v : Word),
    (s.chip.takes a rPIX_LUT t j v) :=
  ⟨(st), hc, 1, 5, 9, by decide +kernel⟩
theorem wit_pixel_tables_and_conversion_6 : ∃ (s : State) (a : Access) (t : Fin 8) (j : Fin 1025) (v : Word),
    (s.chip.reads a rPIX_LUT t j) ∧ (s.chip.lutActive t = true) :=
  ⟨(st), hc, 0, 5, 9, by decide +kernel⟩
theorem wit_pixel_tables_and_conversion_7 : ∃ (s : State) (a : Access) (v : Word),
    (s.chip.takes a rCVT_CTRL 0 0 (v ||| 0x80000000)) ∧ (s.chip.rb rCVT_CTRL 0 0 31 = false) ∧ (fld v 0 0 ≠ s.chip.rf rSH_SEL 0 1 1 1) ∧ ((s.chip.rd rCVT_TILE).toNat ≤ 98303) ∧ (9 * ((s.chip.rd rCVT_IDX).toNat + (s.chip.rd rCVT_CNT).toNat) ≤ 0x03000000) :=
  ⟨(st), hc, 1, by decide +kernel⟩
theorem wit_pixel_tables_and_conversion_8 : ∃ (s : State) (a : Access) (v : Word),
    (s.chip.takes a rCVT_CTRL 0 0 (v ||| 0x80000000)) ∧ (s.chip.rb rCVT_CTRL 0 0 31 = true ∨ fld v 0 0 = s.chip.rf rSH_SEL 0 1 1 1 ∨ 98303 < (s.chip.rd rCVT_TILE).toNat ∨ 0x03000000 < 9 * ((s.chip.rd rCVT_IDX).toNat + (s.chip.rd rCVT_CNT).toNat)) :=
  ⟨(st), hc, 0, by decide +kernel⟩
theorem wit_pixel_tables_and_conversion_8_b : ∃ (s : State) (a : Access) (v : Word),
    (s.chip.takes a rCVT_CTRL 0 0 (v ||| 0x80000000)) ∧ (s.chip.rb rCVT_CTRL 0 0 31 = true ∨ fld v 0 0 = s.chip.rf rSH_SEL 0 1 1 1 ∨ 98303 < (s.chip.rd rCVT_TILE).toNat ∨ 0x03000000 < 9 * ((s.chip.rd rCVT_IDX).toNat + (s.chip.rd rCVT_CNT).toNat)) :=
  ⟨(st fun c => c.wr rCVT_IDX 0 0 5592406), hc, 1, by decide +kernel⟩
theorem wit_pixel_tables_and_conversion_7_b : ∃ (s : State) (a : Access) (v : Word),
    (s.chip.takes a rCVT_CTRL 0 0 (v ||| 0x80000000)) ∧ (s.chip.rb rCVT_CTRL 0 0 31 = false) ∧ (fld v 0 0 ≠ s.chip.rf rSH_SEL 0 1 1 1) ∧ ((s.chip.rd rCVT_TILE).toNat ≤ 98303) ∧ (9 * ((s.chip.rd rCVT_IDX).toNat + (s.chip.rd rCVT_CNT).toNat) ≤ 0x03000000) :=
  ⟨(st fun c => c.wr rCVT_IDX 0 0 5592405), hc, 1, by decide +kernel⟩
theorem wit_pixel_tables_and_conversion_3 : ∃ (s : State) (a : Access) (v : Word),
    (s.chip.takes a rLUT_FILL 0 0 (v ||| 0x80000000)) ∧ (s.chip.rb rLUT_FILL 0 0 31 = true) :=
  ⟨(st fun c => c.wr rLUT_FILL 0 0 0x80000000), hc, 0x21, by decide +kernel⟩
theorem wit_pixel_tables_and_conversion_8_c : ∃ (s : State) (a : Access) (v : Word),
    (s.chip.takes a rCVT_CTRL 0 0 (v ||| 0x80000000)) ∧ (s.chip.rb rCVT_CTRL 0 0 31 = true ∨ fld v 0 0 = s.chip.rf rSH_SEL 0 1 1 1 ∨ 98303 < (s.chip.rd rCVT_TILE).toNat ∨ 0x03000000 < 9 * ((s.chip.rd rCVT_IDX).toNat + (s.chip.rd rCVT_CNT).toNat)) :=
  ⟨(st fun c => c.wr rCVT_CTRL 0 0 0x80000000), hc, 1, by decide +kernel⟩
theorem wit_pixel_tables_and_conversion_9 : ∃ (s : State) (src : Nat) (tile : Nat) (idx : Nat) (n : Nat) (b : Nat),
    (s.chip.alive .pix = true) ∧ (s.chip.pix.cvt = some (src, tile, idx, n, b)) :=
  ⟨(st fun c => { c with pix := { c.pix with cvt := some (0, 0, 0, 0, 1) } }), 0, 0, 0, 0, 1, by decide +kernel⟩
theorem wit_pixel_tables_and_conversion_10 : ∃ (s : State) (src : Nat) (tile : Nat) (idx : Nat) (n : Nat) (b : Nat) (k : Nat) (base : List (Byte × Bool)) (pix : List (List (Byte × Bool) × Nat)),
    (s.chip.alive .pix = true) ∧ (s.chip.pix.cvt = some (src, tile, idx, n, b)) ∧ (s.chip.celCalm) ∧ (s.chip.rb rECC_INJ 0 0 31 = false) ∧ (celBase ≤ src) ∧ (src + 32 + 18 * n ≤ 0x9FC00000) ∧ ((∀ i < 32, s.chip.celMayWrite .dma true (tileAddr b tile + i) = true)) ∧ ((∀ i < 9 * n, s.chip.celMayWrite .dma true (calBank b + 9 * idx + i) = true)) ∧ ((src + 32 + 18 * n ≤ tileAddr b tile ∨ tileAddr b tile + 32 ≤ src)) ∧ ((calBank b + 9 * idx + 9 * n ≤ tileAddr b tile ∨ tileAddr b tile + 32 ≤ calBank b + 9 * idx)) ∧ (base = (s.chip.bytes src 32).map (·, false)) ∧ (pix = (List.range n).map (fun i => cvtPixel base ((s.chip.bytes (src + 32 + 18 * i) 18).map (·, false)))) ∧ (k = (pix.map (·.2)).sum) :=
  ⟨(st fun c => { ((celOn c).setBytes 0x80000100 ((List.range 68).map fun i => BitVec.ofNat 8 (37 * i))) with pix := { c.pix with cvt := some (0x80000100, 3, 5, 2, 1) } }), 0x80000100, 3, 5, 2, 1, (((List.range 2).map fun i => (cvtPixel (((List.range 32).map fun i => BitVec.ofNat 8 (37 * i)).map (·, false)) (((List.range 18).map fun j => BitVec.ofNat 8 (37 * (32 + 18 * i + j))).map (·, false))).2).sum), (((List.range 32).map fun i => BitVec.ofNat 8 (37 * i)).map (·, false)), ((List.range 2).map fun i => cvtPixel (((List.range 32).map fun i => BitVec.ofNat 8 (37 * i)).map (·, false)) (((List.range 18).map fun j => BitVec.ofNat 8 (37 * (32 + 18 * i + j))).map (·, false))), by and_intros <;> first | with_reducible rfl | decide +kernel | rfl⟩

end Sys2Proof.Tests.WitnessI
end

