-- ==== Sys2Proof/Tests/WitnessJ.lean ====
section
/-! SUPPORT. States and operands that meet the hypotheses of the statements, part J. -/

namespace Sys2Proof.Tests.WitnessJ

open Sys2Proof Sys2Proof.Machine Sys2Proof.Tests

set_option maxRecDepth 100000
set_option Elab.async false
set_option linter.unusedVariables false
set_option linter.unreachableTactic false
set_option linter.unusedTactic false

def prsOn : Chip → Chip := fun c => (c.wr rPRS_CTRL 0 0 1).wr rPRS_RUN 0 0 0xFFFF
def lane0 (p : Nat) : Chip → Chip := fun c => (c.wr rPORT_STATUS p 0 1).setBank (bankOf p) { family := 1 }
def celOn : Chip → Chip := fun c => { (c.wr rCEL_CTRL 0 0 0x100F) with cel := { c.cel with serving := true } }
def item0 (st : ItemSt) (w3 : Word) : Item := { slot := 7, desc := [0x00010000, 0, 0, w3], st := st }
def itemP (q : Nat) (w0 : Word) (st : ItemSt) : Item := { slot := q, desc := [w0, 0, 0, 0], st := st }
theorem wit_press_cores_and_dispatch_1 : ∃ (s : State) (a : Access) (v : Word),
    (s.chip.takes a rPRS_RUN 0 0 v) ∧ ((∀ k : Fin 16, s.chip.runningOn k = none)) :=
  ⟨(st fun c => (prsOn c).setCore 2 { stalled := true }), hc, 0xFFFB, by decide +kernel⟩
theorem wit_press_cores_and_dispatch_2 : ∃ (s : State) (a : Access) (v : Word) (k : Fin 16) (x : Item),
    (s.chip.takes a rPRS_RUN 0 0 v) ∧ (s.chip.runningOn k = some x) ∧ ((∀ j : Fin 16, j ≠ k → s.chip.runningOn j = none)) ∧ (s.chip.rb rPRS_RUN 0 0 k = true) ∧ (bit v k = false) ∧ (bit (x.word 3) 31 = false) ∧ (bit (x.word 3) 15 = false) ∧ (s.chip.prs.exp = none) ∧ (s.chip.prs.evQ = []) :=
  ⟨(st fun c => (prsOn c).setItems [item0 (.running 3) 0, itemP 9 0 .waiting]), hc, 0xFFF7, 3, (item0 (.running 3) 0), by decide +kernel⟩
theorem wit_press_cores_and_dispatch_3 : ∃ (s : State) (k : Fin 16),
    (s.chip.coreOn k = true) :=
  ⟨(st prsOn), 3, by decide +kernel⟩
theorem wit_press_cores_and_dispatch_3_b : ∃ (s : State) (k : Fin 16),
    (s.chip.coreOn k = true) :=
  ⟨(st fun c => (prsOn c).setItems [item0 (.running 3) 0]), 3, by decide +kernel⟩
theorem wit_press_cores_and_dispatch_4 : ∃ (s : State) (x : Item) (k : Fin 16),
    (s.chip.up .prs = true) ∧ (s.chip.rb rPRS_CTRL 0 0 0 = true) ∧ (s.chip.examined = [x]) ∧ (s.chip.eligible k = true) ∧ ((mget none s.chip.prs.aff x.family = some k.val ∨ ((∀ r ∈ mget none s.chip.prs.aff x.family, s.chip.eligible r = false ∧ x.waited = true) ∧ ∀ j : Fin 16, j < k → s.chip.eligible j = false))) :=
  ⟨(st fun c => ((prsOn c).setItems [item0 .ready 0, itemP 9 0 .waiting]).setCore 4 { stalled := true }), (item0 .ready 0), 4, by decide +kernel⟩
theorem wit_press_cores_and_dispatch_4_b : ∃ (s : State) (x : Item) (k : Fin 16),
    (s.chip.up .prs = true) ∧ (s.chip.rb rPRS_CTRL 0 0 0 = true) ∧ (s.chip.examined = [x]) ∧ (s.chip.eligible k = true) ∧ ((mget none s.chip.prs.aff x.family = some k.val ∨ ((∀ r ∈ mget none s.chip.prs.aff x.family, s.chip.eligible r = false ∧ x.waited = true) ∧ ∀ j : Fin 16, j < k → s.chip.eligible j = false))) :=
  ⟨(st fun c => (((prsOn c).setItems [item0 .ready 0]).setCore 4 { stalled := true }).setCore 2 { stalled := true } |> fun c => c.setPrs { c.prs with aff := [(1, some 4)] }), (item0 .ready 0), 4, by decide +kernel⟩
theorem wit_press_cores_and_dispatch_4_c : ∃ (s : State) (x : Item) (k : Fin 16),
    (s.chip.up .prs = true) ∧ (s.chip.rb rPRS_CTRL 0 0 0 = true) ∧ (s.chip.examined = [x]) ∧ (s.chip.eligible k = true) ∧ ((mget none s.chip.prs.aff x.family = some k.val ∨ ((∀ r ∈ mget none s.chip.prs.aff x.family, s.chip.eligible r = false ∧ x.waited = true) ∧ ∀ j : Fin 16, j < k → s.chip.eligible j = false))) :=
  ⟨(st fun c => (((prsOn c).setItems [{ item0 .ready 0 with waited := true }]).setCore 4 { stalled := true }) |> fun c => c.setPrs { c.prs with aff := [(1, some 2)] }), { item0 .ready 0 with waited := true }, 4, by decide +kernel⟩
theorem wit_press_cores_and_dispatch_5 : ∃ (s : State),
    (s.chip.up .prs = false ∨ s.chip.rb rPRS_CTRL 0 0 0 = false ∨ (∀ x ∈ s.chip.examined, (∀ j : Fin 16, s.chip.eligible j = false) ∨ ∃ r ∈ mget none s.chip.prs.aff x.family, s.chip.eligible r = false ∧ x.waited = false)) :=
  ⟨(st), by decide +kernel⟩
theorem wit_press_cores_and_dispatch_5_b : ∃ (s : State),
    (s.chip.up .prs = false ∨ s.chip.rb rPRS_CTRL 0 0 0 = false ∨ (∀ x ∈ s.chip.examined, (∀ j : Fin 16, s.chip.eligible j = false) ∨ ∃ r ∈ mget none s.chip.prs.aff x.family, s.chip.eligible r = false ∧ x.waited = false)) :=
  ⟨(st fun c => (((prsOn c).setItems [item0 .ready 0]).setCore 4 { stalled := true }) |> fun c => c.setPrs { c.prs with aff := [(1, some 2)] }), by decide +kernel⟩
theorem wit_press_cores_and_dispatch_6 : ∃ (s : State) (x : Item) (y : Item) (k : Fin 16),
    (s.chip.up .prs = true) ∧ (s.chip.rb rPRS_CTRL 0 0 0 = true) ∧ (x ∈ s.chip.prs.items) ∧ (y ∈ s.chip.prs.items) ∧ ((∀ z ∈ s.chip.prs.items, z.st = .ready → z = x ∨ z = y)) ∧ ((s.chip.prs.items.map (·.slot)).Nodup) ∧ (x.st = .ready) ∧ (y.st = .ready) ∧ (y.prio < x.prio) ∧ (s.chip.eligible k = true) ∧ ((∀ j : Fin 16, j ≠ k → s.chip.eligible j = false)) ∧ (mget none s.chip.prs.aff x.family = none) ∧ (mget none s.chip.prs.aff y.family = none) :=
  ⟨(st fun c => (((prsOn c).setItems [itemP 3 0x40000000 .ready, itemP 9 0x80000000 .ready]).setCore 4 { stalled := true })), (itemP 9 0x80000000 .ready), (itemP 3 0x40000000 .ready), 4, by decide +kernel⟩
theorem wit_press_cores_and_dispatch_7 : ∃ (s : State) (q : Fin 8192),
    ((∀ k : Fin 16, s.chip.eligible k = false)) :=
  ⟨(st fun c => ((prsOn c).setItems [item0 .ready 0])), 7, by decide +kernel⟩
theorem wit_press_cores_and_dispatch_8 : ∃ (s : State) (x : Item) (k : Fin 16) (r : Nat),
    (s.chip.up .prs = true) ∧ (s.chip.rb rPRS_CTRL 0 0 0 = true) ∧ (s.chip.examined = [x]) ∧ (x.slot < 8192) ∧ (mget none s.chip.prs.aff x.family = some r) ∧ (s.chip.eligible r = false) ∧ (s.chip.eligible k = true) ∧ ((∀ j : Fin 16, j < k → s.chip.eligible j = false)) :=
  ⟨(st fun c => (((prsOn c).setItems [item0 .ready 0]).setCore 4 { stalled := true }) |> fun c => c.setPrs { c.prs with aff := [(1, some 2)] }), (item0 .ready 0), 4, 2, by decide +kernel⟩
theorem wit_press_cores_and_dispatch_9 : ∃ (s : State) (i : Instr) (k : Fin 16) (x : Item) (f : Bool),
    (s.chip.ends i k f) ∧ (s.chip.coreOn k = true) ∧ (s.chip.runningOn k = some x) ∧ ((f = false → fld (x.word 0) 9 0 = 0 ∨ 5 < fld (x.word 0) 9 0)) ∧ (bit (x.word 3) 31 = false) ∧ (bit (x.word 3) 15 = false) ∧ (s.chip.prs.exp = none) ∧ (s.chip.prs.evQ = []) :=
  ⟨(st fun c => ((prsOn c).setItems [item0 (.running 3) 0, itemP 9 0 .ready])), (.pcwDone 3), 3, (item0 (.running 3) 0), false, by decide +kernel⟩
theorem wit_press_cores_and_dispatch_9_b : ∃ (s : State) (i : Instr) (k : Fin 16) (x : Item) (f : Bool),
    (s.chip.ends i k f) ∧ (s.chip.coreOn k = true) ∧ (s.chip.runningOn k = some x) ∧ ((f = false → fld (x.word 0) 9 0 = 0 ∨ 5 < fld (x.word 0) 9 0)) ∧ (bit (x.word 3) 31 = false) ∧ (bit (x.word 3) 15 = false) ∧ (s.chip.prs.exp = none) ∧ (s.chip.prs.evQ = []) :=
  ⟨(st fun c => ((prsOn c).setItems [item0 (.running 3) 0])), (.pcwFault 3), 3, (item0 (.running 3) 0), true, by decide +kernel⟩
theorem wit_press_cores_and_dispatch_9_c : ∃ (s : State) (i : Instr) (k : Fin 16) (x : Item) (f : Bool),
    (s.chip.ends i k f) ∧ (s.chip.coreOn k = true) ∧ (s.chip.runningOn k = some x) ∧ ((f = false → fld (x.word 0) 9 0 = 0 ∨ 5 < fld (x.word 0) 9 0)) ∧ (bit (x.word 3) 31 = false) ∧ (bit (x.word 3) 15 = false) ∧ (s.chip.prs.exp = none) ∧ (s.chip.prs.evQ = []) :=
  ⟨(st fun c => (((prsOn c).wr rPRS_WDOG 0 0 5).setItems [item0 (.running 3) 0]).setCore 3 { smp := [⟨1, 2, 3, none⟩] }), (.itemWatchdog 3), 3, (item0 (.running 3) 0), true, by decide +kernel⟩
theorem wit_press_cores_and_dispatch_10 : ∃ (s : State) (i : Instr) (k : Fin 16) (x : Item) (f : Bool) (j : Nat) (n : Nat) (b : Bool),
    (s.chip.ends i k f) ∧ (s.chip.coreOn k = true) ∧ (s.chip.runningOn k = some x) ∧ ((f = false → fld (x.word 0) 9 0 = 0 ∨ 5 < fld (x.word 0) 9 0)) ∧ ((bit (x.word 3) 31 = true ∧ bit (x.word 3) 15 = false ∧ j = fld (x.word 3) 27 16 ∨ bit (x.word 3) 31 = false ∧ bit (x.word 3) 15 = true ∧ j = fld (x.word 3) 11 0)) ∧ (s.chip.cntOf j = (n, b)) ∧ (s.chip.prs.exp = none) ∧ (s.chip.prs.evQ = []) :=
  ⟨(st fun c => ((prsOn c).setItems [item0 (.running 3) 0x80050000]).setCnt 5 (3, false)), (.pcwDone 3), 3, (item0 (.running 3) 0x80050000), false, 5, 3, false, by decide +kernel⟩
theorem wit_press_cores_and_dispatch_10_b : ∃ (s : State) (i : Instr) (k : Fin 16) (x : Item) (f : Bool) (j : Nat) (n : Nat) (b : Bool),
    (s.chip.ends i k f) ∧ (s.chip.coreOn k = true) ∧ (s.chip.runningOn k = some x) ∧ ((f = false → fld (x.word 0) 9 0 = 0 ∨ 5 < fld (x.word 0) 9 0)) ∧ ((bit (x.word 3) 31 = true ∧ bit (x.word 3) 15 = false ∧ j = fld (x.word 3) 27 16 ∨ bit (x.word 3) 31 = false ∧ bit (x.word 3) 15 = true ∧ j = fld (x.word 3) 11 0)) ∧ (s.chip.cntOf j = (n, b)) ∧ (s.chip.prs.exp = none) ∧ (s.chip.prs.evQ = []) :=
  ⟨(st fun c => ((prsOn c).setItems [item0 (.running 3) 0x8005, { slot := 8, desc := [0, 0, 0x80000005], st := .waiting }]).setCnt 5 (1, false) |> fun c => c.setPrs { c.prs with done := some 5 }), (.pcwFault 3), 3, (item0 (.running 3) 0x8005), true, 5, 1, false, by decide +kernel⟩
theorem wit_press_cores_and_dispatch_10_c : ∃ (s : State) (i : Instr) (k : Fin 16) (x : Item) (f : Bool) (j : Nat) (n : Nat) (b : Bool),
    (s.chip.ends i k f) ∧ (s.chip.coreOn k = true) ∧ (s.chip.runningOn k = some x) ∧ ((f = false → fld (x.word 0) 9 0 = 0 ∨ 5 < fld (x.word 0) 9 0)) ∧ ((bit (x.word 3) 31 = true ∧ bit (x.word 3) 15 = false ∧ j = fld (x.word 3) 27 16 ∨ bit (x.word 3) 31 = false ∧ bit (x.word 3) 15 = true ∧ j = fld (x.word 3) 11 0)) ∧ (s.chip.cntOf j = (n, b)) ∧ (s.chip.prs.exp = none) ∧ (s.chip.prs.evQ = []) :=
  ⟨(st fun c => ((prsOn c).setItems [item0 (.running 3) 0x80050000])), (.itemWatchdog 3), 3, (item0 (.running 3) 0x80050000), true, 5, 0, false, by decide +kernel⟩
theorem wit_press_cores_and_dispatch_11 : ∃ (s : State) (i : Instr) (k : Fin 16) (x : Item) (f : Bool) (j : Nat) (l : Nat) (n : Nat) (m : Nat) (b : Bool) (d : Bool),
    (s.chip.ends i k f) ∧ (s.chip.coreOn k = true) ∧ (s.chip.runningOn k = some x) ∧ ((f = false → fld (x.word 0) 9 0 = 0 ∨ 5 < fld (x.word 0) 9 0)) ∧ (bit (x.word 3) 31 = true) ∧ (bit (x.word 3) 15 = true) ∧ (j = fld (x.word 3) 27 16) ∧ (l = fld (x.word 3) 11 0) ∧ (s.chip.cntOf j = (n + 2, b)) ∧ (s.chip.cntOf l = (m + 2, d)) ∧ (s.chip.prs.exp = none) ∧ (s.chip.prs.evQ = []) :=
  ⟨(st fun c => ((prsOn c).setItems [item0 (.running 3) 0x80058005, { slot := 8, desc := [0, 0, 0x80000005], st := .waiting }]).setCnt 5 (2, false)), (.pcwDone 3), 3, (item0 (.running 3) 0x80058005), false, 5, 5, 0, 0, false, false, by decide +kernel⟩
theorem wit_press_cores_and_dispatch_11_b : ∃ (s : State) (i : Instr) (k : Fin 16) (x : Item) (f : Bool) (j : Nat) (l : Nat) (n : Nat) (m : Nat) (b : Bool) (d : Bool),
    (s.chip.ends i k f) ∧ (s.chip.coreOn k = true) ∧ (s.chip.runningOn k = some x) ∧ ((f = false → fld (x.word 0) 9 0 = 0 ∨ 5 < fld (x.word 0) 9 0)) ∧ (bit (x.word 3) 31 = true) ∧ (bit (x.word 3) 15 = true) ∧ (j = fld (x.word 3) 27 16) ∧ (l = fld (x.word 3) 11 0) ∧ (s.chip.cntOf j = (n + 2, b)) ∧ (s.chip.cntOf l = (m + 2, d)) ∧ (s.chip.prs.exp = none) ∧ (s.chip.prs.evQ = []) :=
  ⟨(st fun c => (((prsOn c).setItems [item0 (.running 3) 0x80058006]).setCnt 5 (2, false)).setCnt 6 (4, true)), (.pcwFault 3), 3, (item0 (.running 3) 0x80058006), true, 5, 6, 0, 2, false, true, by decide +kernel⟩
--#wit
theorem wit_press_cores_and_dispatch_12 : ∃ (s : State) (k : Fin 16) (x : Item) (w : Chip),
    (s.chip.coreOn k = true) ∧ (s.chip.runningOn k = some x) ∧ (w = Chip.stdWork { s.chip with cyc := s.chip.cyc + 1 } k x) ∧ (bit (x.word 3) 31 = false) ∧ (bit (x.word 3) 15 = false) ∧ (w.prs.exp = none) ∧ (w.prs.evQ = []) :=
  ⟨(st fun c => ((prsOn c).setItems [{ item0 (.running 3) 0 with desc := [0x00010001, 0x10000, 0, 0, 5] }])), 3, { item0 (.running 3) 0 with desc := [0x00010001, 0x10000, 0, 0, 5] }, (Chip.stdWork { (prsOn c0).setItems [{ item0 (.running 3) 0 with desc := [0x00010001, 0x10000, 0, 0, 5] }] with cyc := 1 } 3 { item0 (.running 3) 0 with desc := [0x00010001, 0x10000, 0, 0, 5] }), by decide +kernel, by decide +kernel, rfl, by decide +kernel⟩
theorem wit_press_cores_and_dispatch_13 : ∃ (s : State) (i : Instr) (k : Fin 16) (f : Bool),
    (s.chip.ends i k f) ∧ (s.chip.coreOn k = false ∨ s.chip.runningOn k = none) :=
  ⟨(st prsOn), (.pcwFault 3), 3, true, by decide +kernel⟩
theorem wit_press_submission_1 : ∃ (s : State) (i : Instr) (a : Access) (m : Fin 16) (w : RegRow) (t : RegRow) (v : Word) (ws : List Word) (q : Nat),
    ((i = .workSubmit a (some m) v ∧ s.chip.takes a rPRS_SUB m 7 v ∧ m ≠ 4 ∧ w = rPRS_SUB ∧ t = rPRS_SUBSTS ∨ i = .workSubmit a none v ∧ a.master = .press ∧ a.core = m ∧ s.chip.coreOn m = true ∧ w = rPCW_SUB ∧ t = rPCW_SUBSTS)) ∧ (s.chip.rb rPRS_CTRL 0 0 0 = true) ∧ (s.chip.prs.items.length + s.chip.reserve < 8192) ∧ (ws = ((List.range 7).map fun i => s.chip.rd w m i) ++ [v]) ∧ (descBad ws = false) ∧ (s.chip.freeSlot = some q) :=
  ⟨(st fun c => (prsOn c).wr rPRS_SUB 0 2 0x80000005), (.workSubmit hc (some 0) 0), hc, 0, rPRS_SUB, rPRS_SUBSTS, 0, [0, 0, 0x80000005, 0, 0, 0, 0, 0], 0, by decide +kernel, by decide +kernel, by decide +kernel, rfl, by decide +kernel⟩
theorem wit_press_submission_1_b : ∃ (s : State) (i : Instr) (a : Access) (m : Fin 16) (w : RegRow) (t : RegRow) (v : Word) (ws : List Word) (q : Nat),
    ((i = .workSubmit a (some m) v ∧ s.chip.takes a rPRS_SUB m 7 v ∧ m ≠ 4 ∧ w = rPRS_SUB ∧ t = rPRS_SUBSTS ∨ i = .workSubmit a none v ∧ a.master = .press ∧ a.core = m ∧ s.chip.coreOn m = true ∧ w = rPCW_SUB ∧ t = rPCW_SUBSTS)) ∧ (s.chip.rb rPRS_CTRL 0 0 0 = true) ∧ (s.chip.prs.items.length + s.chip.reserve < 8192) ∧ (ws = ((List.range 7).map fun i => s.chip.rd w m i) ++ [v]) ∧ (descBad ws = false) ∧ (s.chip.freeSlot = some q) :=
  ⟨(st fun c => (prsOn c).wr rPCW_SUB 3 1 9), (.workSubmit (pc 3) none 0), (pc 3), 3, rPCW_SUB, rPCW_SUBSTS, 0, [0, 9, 0, 0, 0, 0, 0, 0], 0, by decide +kernel⟩
theorem wit_press_submission_2 : ∃ (s : State) (i : Instr) (a : Access) (m : Fin 16) (w : RegRow) (t : RegRow) (v : Word),
    ((i = .workSubmit a (some m) v ∧ s.chip.takes a rPRS_SUB m 7 v ∧ m ≠ 4 ∧ w = rPRS_SUB ∧ t = rPRS_SUBSTS ∨ i = .workSubmit a none v ∧ a.master = .press ∧ a.core = m ∧ s.chip.coreOn m = true ∧ w = rPCW_SUB ∧ t = rPCW_SUBSTS)) ∧ (s.chip.rb rPRS_CTRL 0 0 0 = false ∨ 8192 ≤ s.chip.prs.items.length + s.chip.reserve) :=
  ⟨(st fun c => c.wr rPRS_SUBSTS 0 0 0x80000007), (.workSubmit hc (some 0) 9), hc, 0, rPRS_SUB, rPRS_SUBSTS, 9, by decide +kernel⟩
theorem wit_press_submission_2_b : ∃ (s : State) (i : Instr) (a : Access) (m : Fin 16) (w : RegRow) (t : RegRow) (v : Word),
    ((i = .workSubmit a (some m) v ∧ s.chip.takes a rPRS_SUB m 7 v ∧ m ≠ 4 ∧ w = rPRS_SUB ∧ t = rPRS_SUBSTS ∨ i = .workSubmit a none v ∧ a.master = .press ∧ a.core = m ∧ s.chip.coreOn m = true ∧ w = rPCW_SUB ∧ t = rPCW_SUBSTS)) ∧ (s.chip.rb rPRS_CTRL 0 0 0 = false ∨ 8192 ≤ s.chip.prs.items.length + s.chip.reserve) :=
  ⟨(st fun c => c.setPrs { c.prs with busyAt := some 0 }), (.workSubmit (pc 3) none 9), (pc 3), 3, rPCW_SUB, rPCW_SUBSTS, 9, by decide +kernel⟩
theorem wit_press_submission_3 : ∃ (s : State) (i : Instr) (a : Access) (m : Fin 16) (w : RegRow) (t : RegRow) (v : Word) (ws : List Word),
    ((i = .workSubmit a (some m) v ∧ s.chip.takes a rPRS_SUB m 7 v ∧ m ≠ 4 ∧ w = rPRS_SUB ∧ t = rPRS_SUBSTS ∨ i = .workSubmit a none v ∧ a.master = .press ∧ a.core = m ∧ s.chip.coreOn m = true ∧ w = rPCW_SUB ∧ t = rPCW_SUBSTS)) ∧ (s.chip.rb rPRS_CTRL 0 0 0 = true) ∧ (s.chip.prs.items.length + s.chip.reserve < 8192) ∧ (ws = ((List.range 7).map fun i => s.chip.rd w m i) ++ [v]) ∧ (descBad ws = true) :=
  ⟨(st prsOn), (.workSubmit hc (some 0) 9), hc, 0, rPRS_SUB, rPRS_SUBSTS, 9, [0, 0, 0, 0, 0, 0, 0, 9], by decide +kernel⟩
theorem wit_press_submission_3_b : ∃ (s : State) (i : Instr) (a : Access) (m : Fin 16) (w : RegRow) (t : RegRow) (v : Word) (ws : List Word),
    ((i = .workSubmit a (some m) v ∧ s.chip.takes a rPRS_SUB m 7 v ∧ m ≠ 4 ∧ w = rPRS_SUB ∧ t = rPRS_SUBSTS ∨ i = .workSubmit a none v ∧ a.master = .press ∧ a.core = m ∧ s.chip.coreOn m = true ∧ w = rPCW_SUB ∧ t = rPCW_SUBSTS)) ∧ (s.chip.rb rPRS_CTRL 0 0 0 = true) ∧ (s.chip.prs.items.length + s.chip.reserve < 8192) ∧ (ws = ((List.range 7).map fun i => s.chip.rd w m i) ++ [v]) ∧ (descBad ws = true) :=
  ⟨(st fun c => (prsOn c).wr rPCW_SUBSTS 3 0 0x80000007), (.workSubmit (pc 3) none 9), (pc 3), 3, rPCW_SUB, rPCW_SUBSTS, 9, [0, 0, 0, 0, 0, 0, 0, 9], by decide +kernel⟩
theorem wit_press_submission_4 : ∃ (s : State) (a : Access) (v : Word) (ws : List Word) (q : Nat),
    (s.chip.takes a rPRS_SUB 4 7 v) ∧ (s.chip.rb rPRS_CTRL 0 0 0 = true) ∧ (s.chip.prs.items.length < 8192) ∧ (ws = ((List.range 7).map fun i => s.chip.rd rPRS_SUB 4 i) ++ [v]) ∧ (descBad ws = false) ∧ (s.chip.freeSlot = some q) :=
  ⟨(st fun c => { prsOn c with dma := { c.dma with claimed := 3 } }), { master := .dma }, 0, [0, 0, 0, 0, 0, 0, 0, 0], 0, by decide +kernel⟩
theorem wit_press_submission_5 : ∃ (s : State) (a : Access) (v : Word),
    (s.chip.takes a rCNT_SET 0 0 v) ∧ (fld v 13 0 ≠ 0) :=
  ⟨(st), hc, 0x00050003, by decide +kernel⟩
theorem wit_press_submission_6 : ∃ (s : State) (a : Access) (v : Word),
    (s.chip.takes a rCNT_SET 0 0 v) ∧ (fld v 13 0 = 0) :=
  ⟨(st fun c => c.setItems [{ slot := 7, desc := [0, 0, 0x80000005], st := .waiting }]), hc, 0x00050000, by decide +kernel⟩
theorem wit_press_submission_6_b : ∃ (s : State) (a : Access) (v : Word),
    (s.chip.takes a rCNT_SET 0 0 v) ∧ (fld v 13 0 = 0) :=
  ⟨(st fun c => c.setPrs { c.prs with done := some 5 }), hc, 0x00050000, by decide +kernel⟩
theorem wit_press_submission_7 : ∃ (s : State) (a : Access) (v : Word),
    (s.chip.takes a rPRS_CTRL 0 0 (v ||| 0x2)) ∧ (bit v 0 = false ∨ s.chip.prs.exp = none ∧ s.chip.prs.evQ = []) :=
  ⟨(st fun c => c.setPrs { c.prs with aff := [(1, some 2)] }), hc, 1, by decide +kernel⟩
theorem wit_press_submission_8 : ∃ (s : State),
    (s.chip.prs.kickDue = 0) :=
  ⟨(st prsOn), by decide +kernel⟩
theorem wit_press_submission_9 : ∃ (s : State) (n : Nat),
    (s.chip.prs.kickDue = n + 1) ∧ (s.chip.up .prs = false ∨ s.chip.rb rPRS_CTRL 0 0 0 = false ∨ s.chip.prs.held = true ∧ s.chip.rb rKICK_CTRL 0 0 1 = true) :=
  ⟨(st fun c => (c.setPrs { c.prs with kickDue := 2 })), 1, by decide +kernel⟩
theorem wit_press_submission_9_b : ∃ (s : State) (n : Nat),
    (s.chip.prs.kickDue = n + 1) ∧ (s.chip.up .prs = false ∨ s.chip.rb rPRS_CTRL 0 0 0 = false ∨ s.chip.prs.held = true ∧ s.chip.rb rKICK_CTRL 0 0 1 = true) :=
  ⟨(st fun c => ((prsOn c).setPrs { c.prs with kickDue := 2, held := true })), 1, by decide +kernel⟩
theorem wit_press_submission_10 : ∃ (s : State) (n : Nat) (t : Nat),
    (s.chip.up .prs = true) ∧ (s.chip.rb rPRS_CTRL 0 0 0 = true) ∧ (s.chip.prs.kickDue = n + 1) ∧ (s.chip.prs.held = false ∨ s.chip.rb rKICK_CTRL 0 0 1 = false) ∧ (s.chip.sram.errs = []) ∧ (t = (s.chip.rd rKICK_T (s.chip.rf rKICK_CTRL 0 0 0 0)).toNat) ∧ (0x40000000 ≤ t) ∧ (t + 32 ≤ 0x40200000) ∧ (s.chip.prs.exp ≠ none ∨ bit (s.chip.word (t + 4)) 31 = true ∧ (s.chip.cntOf (fld (s.chip.word (t + 4)) 11 0)).2 = false) :=
  ⟨(st fun c => (((prsOn c).setPrs { c.prs with kickDue := 2 }).wr rKICK_T 0 0 0x40050000).setExp (some ⟨1, 2, 3⟩)), 1, 0x40050000, by decide +kernel⟩
theorem wit_press_submission_10_b : ∃ (s : State) (n : Nat) (t : Nat),
    (s.chip.up .prs = true) ∧ (s.chip.rb rPRS_CTRL 0 0 0 = true) ∧ (s.chip.prs.kickDue = n + 1) ∧ (s.chip.prs.held = false ∨ s.chip.rb rKICK_CTRL 0 0 1 = false) ∧ (s.chip.sram.errs = []) ∧ (t = (s.chip.rd rKICK_T (s.chip.rf rKICK_CTRL 0 0 0 0)).toNat) ∧ (0x40000000 ≤ t) ∧ (t + 32 ≤ 0x40200000) ∧ (s.chip.prs.exp ≠ none ∨ bit (s.chip.word (t + 4)) 31 = true ∧ (s.chip.cntOf (fld (s.chip.word (t + 4)) 11 0)).2 = false) :=
  ⟨(st fun c => (((prsOn c).setPrs { c.prs with kickDue := 2 }).wr rKICK_T 0 0 0x40050000).setWord 0x40050004 0x80000005), 1, 0x40050000, by decide +kernel⟩
theorem wit_press_submission_11 : ∃ (s : State) (n : Nat) (t : Nat),
    (s.chip.up .prs = true) ∧ (s.chip.rb rPRS_CTRL 0 0 0 = true) ∧ (s.chip.prs.kickDue = n + 1) ∧ (s.chip.prs.held = false ∨ s.chip.rb rKICK_CTRL 0 0 1 = false) ∧ (s.chip.prs.exp = none) ∧ (s.chip.sram.errs = []) ∧ (t = (s.chip.rd rKICK_T (s.chip.rf rKICK_CTRL 0 0 0 0)).toNat) ∧ (0x40000000 ≤ t) ∧ (t + 32 ≤ 0x40200000) ∧ (s.chip.word t = 0) ∧ (bit (s.chip.word (t + 4)) 31 = true ∧ (s.chip.cntOf (fld (s.chip.word (t + 4)) 11 0)).2 = true ∨ bit (s.chip.word (t + 4)) 31 = false) ∧ (s.chip.celUp = false) :=
  ⟨(st fun c => ((((prsOn c).setPrs { c.prs with kickDue := 1 }).wr rKICK_T 0 0 0x40050000).wr rKICK_CTRL 0 0 4).wr rPRS_FORCE 2 0 0x81234001), 0, 0x40050000, by decide +kernel⟩
theorem wit_press_submission_12 : ∃ (s : State) (n : Nat) (t : Nat) (q : Nat) (d : Nat) (w : List Word),
    (s.chip.up .prs = true) ∧ (s.chip.rb rPRS_CTRL 0 0 0 = true) ∧ (s.chip.prs.kickDue = n + 1) ∧ (s.chip.prs.held = false ∨ s.chip.rb rKICK_CTRL 0 0 1 = false) ∧ (s.chip.prs.exp = none) ∧ (s.chip.sram.errs = []) ∧ (s.chip.celCalm) ∧ (t = (s.chip.rd rKICK_T (s.chip.rf rKICK_CTRL 0 0 0 0)).toNat) ∧ (0x40000000 ≤ t) ∧ (t + 32 ≤ 0x40200000) ∧ (s.chip.word t = 0x00010000) ∧ (bit (s.chip.word (t + 4)) 31 = false) ∧ (d = (s.chip.word (t + 12)).toNat) ∧ (0x40000000 ≤ d) ∧ (d + 32 ≤ 0x40200000) ∧ (w = s.chip.words d 8) ∧ (descBad w = false) ∧ (s.chip.hwSlot = some q) :=
  ⟨(st fun c => (((celOn ((((prsOn c).setPrs { c.prs with kickDue := 1 }).wr rKICK_T 0 0 0x40050000).wr rKICK_CTRL 0 0 4)).setWords 0x40050000 [0x00010000, 0, 0, 0x40060000]).setWord 0x40060000 0x20000003).setWord (recAddr 1) 0x0000000C |>.wr rCANV_BASE 1 1 0x81000000), 0, 0x40050000, 0, 0x40060000, [0x20000003, 0, 0, 0, 0, 0, 0, 0], by and_intros <;> first | with_reducible rfl | decide +kernel | rfl⟩
theorem wit_press_submission_13 : ∃ (s : State) (e : RasEvent) (t : List RasEvent),
    (s.chip.up .prs = true) ∧ (s.chip.prs.rasEv = e :: t) ∧ (e = .hold ∨ e = .resume) :=
  ⟨(st fun c => (prsOn c).setPrs { c.prs with rasEv := [.hold] }), .hold, [], by decide +kernel⟩
theorem wit_press_submission_13_b : ∃ (s : State) (e : RasEvent) (t : List RasEvent),
    (s.chip.up .prs = true) ∧ (s.chip.prs.rasEv = e :: t) ∧ (e = .hold ∨ e = .resume) :=
  ⟨(st fun c => (prsOn c).setPrs { c.prs with rasEv := [.resume], held := true }), .resume, [], by decide +kernel⟩
theorem wit_press_submission_14 : ∃ (s : State) (k : Word) (t : List RasEvent),
    (s.chip.up .prs = true) ∧ (s.chip.prs.rasEv = .commit k :: t) ∧ (s.chip.rb rHWSUB 0 0 0 = false) :=
  ⟨(st fun c => (prsOn c).setPrs { c.prs with rasEv := [.commit 5] }), 5, [], by decide +kernel⟩
theorem wit_press_submission_15 : ∃ (s : State) (k : Word) (t : List RasEvent) (q : Nat),
    (s.chip.up .prs = true) ∧ (s.chip.prs.rasEv = .commit k :: t) ∧ (s.chip.rb rHWSUB 0 0 0 = true) ∧ (s.chip.prs.evQ = []) ∧ (s.chip.prs.exp = none) ∧ (descBad (s.chip.rasDesc k) = false) ∧ (s.chip.hwSlot = some q) :=
  ⟨(st fun c => ((prsOn c).wr rHWSUB 0 0 1).setPrs { c.prs with rasEv := [.commit 5] }), 5, [], 0, by decide +kernel⟩
theorem wit_press_submission_16 : ∃ (s : State) (k : Word) (t : List RasEvent),
    (s.chip.up .prs = true) ∧ (s.chip.prs.rasEv = .commit k :: t) ∧ (s.chip.rb rHWSUB 0 0 0 = true) ∧ (s.chip.prs.evQ = []) ∧ (s.chip.prs.exp = none) ∧ (descBad (s.chip.rasDesc k) = true) :=
  ⟨(st fun c => (((prsOn c).wr rHWSUB 0 0 1).wr rRAS_D 6 0 1).setPrs { c.prs with rasEv := [.commit 5] }), 5, [], by decide +kernel⟩
theorem wit_press_submission_17 : ∃ (s : State) (k : Word) (t : List RasEvent),
    (s.chip.up .prs = true) ∧ (s.chip.prs.rasEv = .commit k :: t) ∧ (s.chip.rb rHWSUB 0 0 0 = true) ∧ (s.chip.prs.exp ≠ none ∨ s.chip.hwSlot = none ∧ descBad (s.chip.rasDesc k) = false ∧ s.chip.prs.evQ = []) :=
  ⟨(st fun c => (c.wr rHWSUB 0 0 1).setPrs { c.prs with rasEv := [.commit 5] }), 5, [], by decide +kernel⟩
theorem wit_press_submission_17_b : ∃ (s : State) (k : Word) (t : List RasEvent),
    (s.chip.up .prs = true) ∧ (s.chip.prs.rasEv = .commit k :: t) ∧ (s.chip.rb rHWSUB 0 0 0 = true) ∧ (s.chip.prs.exp ≠ none ∨ s.chip.hwSlot = none ∧ descBad (s.chip.rasDesc k) = false ∧ s.chip.prs.evQ = []) :=
  ⟨(st fun c => (c.wr rHWSUB 0 0 1).setPrs { c.prs with rasEv := [.commit 5], evQ := [1, 2, 3, 4], exp := some ⟨1, 2, 3⟩ }), 5, [], by decide +kernel⟩
theorem wit_press_submission_18 : ∃ (s : State),
    (s.chip.up .prs = false ∨ s.chip.prs.rasEv = []) :=
  ⟨(st), by decide +kernel⟩
theorem wit_press_samplers_and_staging_1 : ∃ (s : State) (k : Fin 16) (v : Word) (r : SmpReq),
    (s.chip.coreOn k = true) ∧ ((s.chip.core k).ninth = none) ∧ (r = ⟨s.chip.rd rSMP_REQ0 k, s.chip.rf rSMP_REQ1 k 0 20 0, fld v 20 0, none⟩) :=
  ⟨(st fun c => (prsOn c).wr rSMP_REQ0 3 0 0x40000005), 3, 9, ⟨0x40000005, 0, 9, none⟩, by decide +kernel, by decide +kernel, rfl⟩
theorem wit_press_samplers_and_staging_1_b : ∃ (s : State) (k : Fin 16) (v : Word) (r : SmpReq),
    (s.chip.coreOn k = true) ∧ ((s.chip.core k).ninth = none) ∧ (r = ⟨s.chip.rd rSMP_REQ0 k, s.chip.rf rSMP_REQ1 k 0 20 0, fld v 20 0, none⟩) :=
  ⟨(st fun c => (prsOn c).setCore 3 { smp := List.replicate 8 ⟨1, 2, 3, none⟩ }), 3, 9, ⟨0, 0, 9, none⟩, by decide +kernel, by decide +kernel, rfl⟩
theorem wit_press_samplers_and_staging_1_c : ∃ (s : State) (k : Fin 16) (v : Word) (r : SmpReq),
    (s.chip.coreOn k = true) ∧ ((s.chip.core k).ninth = none) ∧ (r = ⟨s.chip.rd rSMP_REQ0 k, s.chip.rf rSMP_REQ1 k 0 20 0, fld v 20 0, none⟩) :=
  ⟨(st fun c => (prsOn c).setPrs { c.prs with kickK := some (-5) }), 3, 9, ⟨0, 0, 9, none⟩, by decide +kernel, by decide +kernel, rfl⟩
theorem wit_press_samplers_and_staging_2 : ∃ (s : State) (k : Fin 16) (l : List SmpReq) (r : SmpReq) (t : List SmpReq) (v : Nat × Nat × Nat),
    (s.chip.coreOn k = true) ∧ ((s.chip.core k).smp = l ++ r :: t) ∧ ((∀ x ∈ l, x.res ≠ none)) ∧ (r.res = none) ∧ ((fld r.w0 29 28 = 3 ∨ fld r.w0 31 30 = 3) ∧ v = (0, 0, 0) ∨ fld r.w0 29 28 ≠ 3 ∧ fld r.w0 31 30 = 1 ∧ v = s.chip.zoneColour (fld r.w0 7 0) ∨ fld r.w0 29 28 ≠ 3 ∧ fld r.w0 31 30 = 0 ∧ s.chip.rb rCANV_STAT (fld r.w0 27 26) 0 2 = false ∧ (s.chip.rb rSMP_BUF (fld r.w0 27 26) 0 0 = true ∨ s.chip.prs.kickK = none) ∧ v = (0, 0, 0) ∨ fld r.w0 29 28 ≠ 3 ∧ fld r.w0 31 30 = 0 ∧ s.chip.rb rCANV_STAT (fld r.w0 27 26) 0 2 = true ∧ s.chip.rf rPRS_FB 0 0 (2 * fld r.w0 27 26 + 1) (2 * fld r.w0 27 26) = 1 ∧ (s.chip.rb rSMP_BUF (fld r.w0 27 26) 0 0 = true ∨ s.chip.prs.kickK = none) ∧ v = (0, 0, 0) ∨ fld r.w0 29 28 ≠ 3 ∧ fld r.w0 31 30 = 0 ∧ s.chip.rb rCANV_STAT (fld r.w0 27 26) 0 2 = true ∧ s.chip.rf rPRS_FB 0 0 (2 * fld r.w0 27 26 + 1) (2 * fld r.w0 27 26) = 3 ∧ (s.chip.rb rSMP_BUF (fld r.w0 27 26) 0 0 = true ∨ s.chip.prs.kickK = none) ∧ v = s.chip.zoneColour (fld r.w0 7 0) ∨ fld r.w0 29 28 ≠ 3 ∧ fld r.w0 31 30 = 2 ∧ s.chip.sram.errs = [] ∧ 0x40000000 ≤ (s.chip.rd rLIVE_BASE).toNat ∧ (s.chip.rd rLIVE_BASE).toNat + 32768 ≤ 0x40200000 ∧ v = (let e := s.chip.bytes ((s.chip.rd rLIVE_BASE).toNat + 8 * fld r.w0 11 0) 8; (leNat (slice e 0 2), leNat (slice e 2 2), leNat (slice e 4 2)))) ∧ ((s.chip.core k).smpStall = none) :=
  ⟨(st fun c => (prsOn c).setCore 3 { smp := [⟨0, 2, 3, some (1, 2, 3)⟩, ⟨0x40000005, 2, 3, none⟩] }), 3, [⟨0, 2, 3, some (1, 2, 3)⟩], ⟨0x40000005, 2, 3, none⟩, [], (0, 0, 0), by decide +kernel⟩
theorem wit_press_samplers_and_staging_2_b : ∃ (s : State) (k : Fin 16) (l : List SmpReq) (r : SmpReq) (t : List SmpReq) (v : Nat × Nat × Nat),
    (s.chip.coreOn k = true) ∧ ((s.chip.core k).smp = l ++ r :: t) ∧ ((∀ x ∈ l, x.res ≠ none)) ∧ (r.res = none) ∧ ((fld r.w0 29 28 = 3 ∨ fld r.w0 31 30 = 3) ∧ v = (0, 0, 0) ∨ fld r.w0 29 28 ≠ 3 ∧ fld r.w0 31 30 = 1 ∧ v = s.chip.zoneColour (fld r.w0 7 0) ∨ fld r.w0 29 28 ≠ 3 ∧ fld r.w0 31 30 = 0 ∧ s.chip.rb rCANV_STAT (fld r.w0 27 26) 0 2 = false ∧ (s.chip.rb rSMP_BUF (fld r.w0 27 26) 0 0 = true ∨ s.chip.prs.kickK = none) ∧ v = (0, 0, 0) ∨ fld r.w0 29 28 ≠ 3 ∧ fld r.w0 31 30 = 0 ∧ s.chip.rb rCANV_STAT (fld r.w0 27 26) 0 2 = true ∧ s.chip.rf rPRS_FB 0 0 (2 * fld r.w0 27 26 + 1) (2 * fld r.w0 27 26) = 1 ∧ (s.chip.rb rSMP_BUF (fld r.w0 27 26) 0 0 = true ∨ s.chip.prs.kickK = none) ∧ v = (0, 0, 0) ∨ fld r.w0 29 28 ≠ 3 ∧ fld r.w0 31 30 = 0 ∧ s.chip.rb rCANV_STAT (fld r.w0 27 26) 0 2 = true ∧ s.chip.rf rPRS_FB 0 0 (2 * fld r.w0 27 26 + 1) (2 * fld r.w0 27 26) = 3 ∧ (s.chip.rb rSMP_BUF (fld r.w0 27 26) 0 0 = true ∨ s.chip.prs.kickK = none) ∧ v = s.chip.zoneColour (fld r.w0 7 0) ∨ fld r.w0 29 28 ≠ 3 ∧ fld r.w0 31 30 = 2 ∧ s.chip.sram.errs = [] ∧ 0x40000000 ≤ (s.chip.rd rLIVE_BASE).toNat ∧ (s.chip.rd rLIVE_BASE).toNat + 32768 ≤ 0x40200000 ∧ v = (let e := s.chip.bytes ((s.chip.rd rLIVE_BASE).toNat + 8 * fld r.w0 11 0) 8; (leNat (slice e 0 2), leNat (slice e 2 2), leNat (slice e 4 2)))) ∧ ((s.chip.core k).smpStall = none) :=
  ⟨(st fun c => (prsOn c).setCore 3 { smp := [⟨0xC0000005, 2, 3, none⟩] }), 3, [], ⟨0xC0000005, 2, 3, none⟩, [], (0, 0, 0), by decide +kernel⟩
theorem wit_press_samplers_and_staging_2_c : ∃ (s : State) (k : Fin 16) (l : List SmpReq) (r : SmpReq) (t : List SmpReq) (v : Nat × Nat × Nat),
    (s.chip.coreOn k = true) ∧ ((s.chip.core k).smp = l ++ r :: t) ∧ ((∀ x ∈ l, x.res ≠ none)) ∧ (r.res = none) ∧ ((fld r.w0 29 28 = 3 ∨ fld r.w0 31 30 = 3) ∧ v = (0, 0, 0) ∨ fld r.w0 29 28 ≠ 3 ∧ fld r.w0 31 30 = 1 ∧ v = s.chip.zoneColour (fld r.w0 7 0) ∨ fld r.w0 29 28 ≠ 3 ∧ fld r.w0 31 30 = 0 ∧ s.chip.rb rCANV_STAT (fld r.w0 27 26) 0 2 = false ∧ (s.chip.rb rSMP_BUF (fld r.w0 27 26) 0 0 = true ∨ s.chip.prs.kickK = none) ∧ v = (0, 0, 0) ∨ fld r.w0 29 28 ≠ 3 ∧ fld r.w0 31 30 = 0 ∧ s.chip.rb rCANV_STAT (fld r.w0 27 26) 0 2 = true ∧ s.chip.rf rPRS_FB 0 0 (2 * fld r.w0 27 26 + 1) (2 * fld r.w0 27 26) = 1 ∧ (s.chip.rb rSMP_BUF (fld r.w0 27 26) 0 0 = true ∨ s.chip.prs.kickK = none) ∧ v = (0, 0, 0) ∨ fld r.w0 29 28 ≠ 3 ∧ fld r.w0 31 30 = 0 ∧ s.chip.rb rCANV_STAT (fld r.w0 27 26) 0 2 = true ∧ s.chip.rf rPRS_FB 0 0 (2 * fld r.w0 27 26 + 1) (2 * fld r.w0 27 26) = 3 ∧ (s.chip.rb rSMP_BUF (fld r.w0 27 26) 0 0 = true ∨ s.chip.prs.kickK = none) ∧ v = s.chip.zoneColour (fld r.w0 7 0) ∨ fld r.w0 29 28 ≠ 3 ∧ fld r.w0 31 30 = 2 ∧ s.chip.sram.errs = [] ∧ 0x40000000 ≤ (s.chip.rd rLIVE_BASE).toNat ∧ (s.chip.rd rLIVE_BASE).toNat + 32768 ≤ 0x40200000 ∧ v = (let e := s.chip.bytes ((s.chip.rd rLIVE_BASE).toNat + 8 * fld r.w0 11 0) 8; (leNat (slice e 0 2), leNat (slice e 2 2), leNat (slice e 4 2)))) ∧ ((s.chip.core k).smpStall = none) :=
  ⟨(st fun c => (prsOn c).setCore 3 { smp := [⟨0x5, 2, 3, none⟩] }), 3, [], ⟨0x5, 2, 3, none⟩, [], (0, 0, 0), by decide +kernel⟩
theorem wit_press_samplers_and_staging_2_d : ∃ (s : State) (k : Fin 16) (l : List SmpReq) (r : SmpReq) (t : List SmpReq) (v : Nat × Nat × Nat),
    (s.chip.coreOn k = true) ∧ ((s.chip.core k).smp = l ++ r :: t) ∧ ((∀ x ∈ l, x.res ≠ none)) ∧ (r.res = none) ∧ ((fld r.w0 29 28 = 3 ∨ fld r.w0 31 30 = 3) ∧ v = (0, 0, 0) ∨ fld r.w0 29 28 ≠ 3 ∧ fld r.w0 31 30 = 1 ∧ v = s.chip.zoneColour (fld r.w0 7 0) ∨ fld r.w0 29 28 ≠ 3 ∧ fld r.w0 31 30 = 0 ∧ s.chip.rb rCANV_STAT (fld r.w0 27 26) 0 2 = false ∧ (s.chip.rb rSMP_BUF (fld r.w0 27 26) 0 0 = true ∨ s.chip.prs.kickK = none) ∧ v = (0, 0, 0) ∨ fld r.w0 29 28 ≠ 3 ∧ fld r.w0 31 30 = 0 ∧ s.chip.rb rCANV_STAT (fld r.w0 27 26) 0 2 = true ∧ s.chip.rf rPRS_FB 0 0 (2 * fld r.w0 27 26 + 1) (2 * fld r.w0 27 26) = 1 ∧ (s.chip.rb rSMP_BUF (fld r.w0 27 26) 0 0 = true ∨ s.chip.prs.kickK = none) ∧ v = (0, 0, 0) ∨ fld r.w0 29 28 ≠ 3 ∧ fld r.w0 31 30 = 0 ∧ s.chip.rb rCANV_STAT (fld r.w0 27 26) 0 2 = true ∧ s.chip.rf rPRS_FB 0 0 (2 * fld r.w0 27 26 + 1) (2 * fld r.w0 27 26) = 3 ∧ (s.chip.rb rSMP_BUF (fld r.w0 27 26) 0 0 = true ∨ s.chip.prs.kickK = none) ∧ v = s.chip.zoneColour (fld r.w0 7 0) ∨ fld r.w0 29 28 ≠ 3 ∧ fld r.w0 31 30 = 2 ∧ s.chip.sram.errs = [] ∧ 0x40000000 ≤ (s.chip.rd rLIVE_BASE).toNat ∧ (s.chip.rd rLIVE_BASE).toNat + 32768 ≤ 0x40200000 ∧ v = (let e := s.chip.bytes ((s.chip.rd rLIVE_BASE).toNat + 8 * fld r.w0 11 0) 8; (leNat (slice e 0 2), leNat (slice e 2 2), leNat (slice e 4 2)))) ∧ ((s.chip.core k).smpStall = none) :=
  ⟨(st fun c => (((prsOn c).wr rCANV_STAT 0 0 4).wr rPRS_FB 0 0 1).setCore 3 { smp := [⟨0x5, 2, 3, none⟩] }), 3, [], ⟨0x5, 2, 3, none⟩, [], (0, 0, 0), by decide +kernel⟩
theorem wit_press_samplers_and_staging_2_e : ∃ (s : State) (k : Fin 16) (l : List SmpReq) (r : SmpReq) (t : List SmpReq) (v : Nat × Nat × Nat),
    (s.chip.coreOn k = true) ∧ ((s.chip.core k).smp = l ++ r :: t) ∧ ((∀ x ∈ l, x.res ≠ none)) ∧ (r.res = none) ∧ ((fld r.w0 29 28 = 3 ∨ fld r.w0 31 30 = 3) ∧ v = (0, 0, 0) ∨ fld r.w0 29 28 ≠ 3 ∧ fld r.w0 31 30 = 1 ∧ v = s.chip.zoneColour (fld r.w0 7 0) ∨ fld r.w0 29 28 ≠ 3 ∧ fld r.w0 31 30 = 0 ∧ s.chip.rb rCANV_STAT (fld r.w0 27 26) 0 2 = false ∧ (s.chip.rb rSMP_BUF (fld r.w0 27 26) 0 0 = true ∨ s.chip.prs.kickK = none) ∧ v = (0, 0, 0) ∨ fld r.w0 29 28 ≠ 3 ∧ fld r.w0 31 30 = 0 ∧ s.chip.rb rCANV_STAT (fld r.w0 27 26) 0 2 = true ∧ s.chip.rf rPRS_FB 0 0 (2 * fld r.w0 27 26 + 1) (2 * fld r.w0 27 26) = 1 ∧ (s.chip.rb rSMP_BUF (fld r.w0 27 26) 0 0 = true ∨ s.chip.prs.kickK = none) ∧ v = (0, 0, 0) ∨ fld r.w0 29 28 ≠ 3 ∧ fld r.w0 31 30 = 0 ∧ s.chip.rb rCANV_STAT (fld r.w0 27 26) 0 2 = true ∧ s.chip.rf rPRS_FB 0 0 (2 * fld r.w0 27 26 + 1) (2 * fld r.w0 27 26) = 3 ∧ (s.chip.rb rSMP_BUF (fld r.w0 27 26) 0 0 = true ∨ s.chip.prs.kickK = none) ∧ v = s.chip.zoneColour (fld r.w0 7 0) ∨ fld r.w0 29 28 ≠ 3 ∧ fld r.w0 31 30 = 2 ∧ s.chip.sram.errs = [] ∧ 0x40000000 ≤ (s.chip.rd rLIVE_BASE).toNat ∧ (s.chip.rd rLIVE_BASE).toNat + 32768 ≤ 0x40200000 ∧ v = (let e := s.chip.bytes ((s.chip.rd rLIVE_BASE).toNat + 8 * fld r.w0 11 0) 8; (leNat (slice e 0 2), leNat (slice e 2 2), leNat (slice e 4 2)))) ∧ ((s.chip.core k).smpStall = none) :=
  ⟨(st fun c => (((prsOn c).wr rCANV_STAT 1 0 4).wr rPRS_FB 0 0 12).setCore 3 { smp := [⟨0x04000005, 2, 3, none⟩] }), 3, [], ⟨0x04000005, 2, 3, none⟩, [], (0, 0, 0), by decide +kernel⟩
theorem wit_press_samplers_and_staging_2_f : ∃ (s : State) (k : Fin 16) (l : List SmpReq) (r : SmpReq) (t : List SmpReq) (v : Nat × Nat × Nat),
    (s.chip.coreOn k = true) ∧ ((s.chip.core k).smp = l ++ r :: t) ∧ ((∀ x ∈ l, x.res ≠ none)) ∧ (r.res = none) ∧ ((fld r.w0 29 28 = 3 ∨ fld r.w0 31 30 = 3) ∧ v = (0, 0, 0) ∨ fld r.w0 29 28 ≠ 3 ∧ fld r.w0 31 30 = 1 ∧ v = s.chip.zoneColour (fld r.w0 7 0) ∨ fld r.w0 29 28 ≠ 3 ∧ fld r.w0 31 30 = 0 ∧ s.chip.rb rCANV_STAT (fld r.w0 27 26) 0 2 = false ∧ (s.chip.rb rSMP_BUF (fld r.w0 27 26) 0 0 = true ∨ s.chip.prs.kickK = none) ∧ v = (0, 0, 0) ∨ fld r.w0 29 28 ≠ 3 ∧ fld r.w0 31 30 = 0 ∧ s.chip.rb rCANV_STAT (fld r.w0 27 26) 0 2 = true ∧ s.chip.rf rPRS_FB 0 0 (2 * fld r.w0 27 26 + 1) (2 * fld r.w0 27 26) = 1 ∧ (s.chip.rb rSMP_BUF (fld r.w0 27 26) 0 0 = true ∨ s.chip.prs.kickK = none) ∧ v = (0, 0, 0) ∨ fld r.w0 29 28 ≠ 3 ∧ fld r.w0 31 30 = 0 ∧ s.chip.rb rCANV_STAT (fld r.w0 27 26) 0 2 = true ∧ s.chip.rf rPRS_FB 0 0 (2 * fld r.w0 27 26 + 1) (2 * fld r.w0 27 26) = 3 ∧ (s.chip.rb rSMP_BUF (fld r.w0 27 26) 0 0 = true ∨ s.chip.prs.kickK = none) ∧ v = s.chip.zoneColour (fld r.w0 7 0) ∨ fld r.w0 29 28 ≠ 3 ∧ fld r.w0 31 30 = 2 ∧ s.chip.sram.errs = [] ∧ 0x40000000 ≤ (s.chip.rd rLIVE_BASE).toNat ∧ (s.chip.rd rLIVE_BASE).toNat + 32768 ≤ 0x40200000 ∧ v = (let e := s.chip.bytes ((s.chip.rd rLIVE_BASE).toNat + 8 * fld r.w0 11 0) 8; (leNat (slice e 0 2), leNat (slice e 2 2), leNat (slice e 4 2)))) ∧ ((s.chip.core k).smpStall = none) :=
  ⟨(st fun c => ((prsOn c).setWords 0x401F8028 [0x00020001, 3]).setCore 3 { smp := [⟨0x80000005, 2, 3, none⟩] }), 3, [], ⟨0x80000005, 2, 3, none⟩, [], (1, 2, 3), by decide +kernel⟩
theorem wit_press_samplers_and_staging_3 : ∃ (s : State) (k : Fin 16) (r : SmpReq) (t : List SmpReq) (cv : Nat) (a : Nat) (x : Nat) (y : Nat) (g : Geom) (l : List Byte),
    (s.chip.coreOn k = true) ∧ ((s.chip.core k).smp = r :: t) ∧ (r.res = none) ∧ (fld r.w0 31 30 = 0) ∧ (fld r.w0 29 28 = 0) ∧ (cv = fld r.w0 27 26) ∧ (s.chip.rb rCANV_STAT cv 0 2 = false) ∧ (s.chip.rb rSMP_BUF cv 0 0 = false) ∧ (s.chip.prs.kickK ≠ none) ∧ (s.chip.prs.cache = []) ∧ (s.chip.celCalm) ∧ ((s.chip.core k).smpStall = none) ∧ (g = s.chip.viewGeom cv) ∧ (x = min (r.u / 256) (g.w - 1)) ∧ (y = min (r.v / 256) (g.h - 1)) ∧ (a = (s.chip.rd rSMP_BUF cv).toNat + y * g.stride + x / ppgOf g.fmt * groupBytes g.fmt) ∧ (celBase ≤ a) ∧ (a + 128 ≤ 0x98000000) ∧ (l = s.chip.bytes a (groupBytes g.fmt)) :=
  ⟨(st fun c => ((((celOn (prsOn c)).wr rCANV_SIZE 1 0 0x00030003).wr rSMP_BUF 1 0 0x81000000).setBytes 0x81000046 [7, 8, 9]).setCore 3 { smp := [⟨0x04000000, 0x270, 0x170, none⟩] } |> fun c => c.setPrs { c.prs with kickK := some 9 }), 3, ⟨0x04000000, 0x270, 0x170, none⟩, [], 1, 0x81000046, 2, 1, ⟨0, 4, 4, 0, 0, 0⟩, [7, 8, 9], by decide +kernel⟩
theorem wit_press_samplers_and_staging_4 : ∃ (s : State) (k : Fin 16) (r : SmpReq) (t : List SmpReq),
    (s.chip.coreOn k = true) ∧ ((s.chip.core k).smp = r :: t) ∧ (r.res = none) ∧ (fld r.w0 31 30 = 1) ∧ (fld r.w0 29 28 ≠ 3) ∧ ((s.chip.core k).ninth = none) ∧ ((s.chip.core k).smpStall = some true) :=
  ⟨(st fun c => (prsOn c).setCore 3 { smp := [⟨0x40000005, 2, 3, none⟩], smpStall := some true }), 3, ⟨0x40000005, 2, 3, none⟩, [], by decide +kernel⟩
theorem wit_press_samplers_and_staging_5 : ∃ (s : State) (k : Fin 16),
    (s.chip.coreOn k = false ∨ (∀ r ∈ (s.chip.core k).smp, r.res ≠ none)) :=
  ⟨(st fun c => (prsOn c).setCore 3 { smp := [⟨0x40000005, 2, 3, some (1, 2, 3)⟩], smpStall := some true }), 3, by decide +kernel⟩
theorem wit_press_samplers_and_staging_6 : ∃ (s : State) (k : Fin 16),
    (s.chip.coreOn k = true) ∧ ((s.chip.core k).smp.head?.bind (·.res) = none) :=
  ⟨(st fun c => (prsOn c).setCore 3 { smp := [⟨0x40000005, 2, 3, none⟩] }), 3, by decide +kernel⟩
theorem wit_press_samplers_and_staging_7 : ∃ (s : State) (k : Fin 16) (r : SmpReq) (t : List SmpReq) (v : Nat × Nat × Nat),
    (s.chip.coreOn k = true) ∧ ((s.chip.core k).smp = r :: t) ∧ (r.res = some v) ∧ ((∀ n ∈ (s.chip.core k).ninth, fld n.w0 31 30 ≠ 0 ∨ s.chip.prs.kickK = none)) :=
  ⟨(st fun c => (prsOn c).setCore 3 { smp := [⟨0x40000005, 2, 3, some (4, 5, 6)⟩] }), 3, ⟨0x40000005, 2, 3, some (4, 5, 6)⟩, [], (4, 5, 6), by decide +kernel⟩
theorem wit_press_samplers_and_staging_7_b : ∃ (s : State) (k : Fin 16) (r : SmpReq) (t : List SmpReq) (v : Nat × Nat × Nat),
    (s.chip.coreOn k = true) ∧ ((s.chip.core k).smp = r :: t) ∧ (r.res = some v) ∧ ((∀ n ∈ (s.chip.core k).ninth, fld n.w0 31 30 ≠ 0 ∨ s.chip.prs.kickK = none)) :=
  ⟨(st fun c => (prsOn c).setCore 3 { smp := [⟨0x40000005, 2, 3, some (4, 5, 6)⟩], ninth := some ⟨1, 2, 3, none⟩ }), 3, ⟨0x40000005, 2, 3, some (4, 5, 6)⟩, [], (4, 5, 6), by decide +kernel⟩
theorem wit_press_samplers_and_staging_8 : ∃ (s : State) (k : Fin 16) (v : Word) (h : Word) (p : Nat),
    (s.chip.coreOn k = true) ∧ (h = s.chip.word (0x40000000 + fld v 31 20 * 512)) ∧ (p = fld v 5 0) ∧ (p < 48) ∧ (kindOf (s.chip.modeNow p) = fld h 31 28) ∧ (s.chip.ringOdd p = false) ∧ (1 ≤ fld h 15 0) ∧ (fld h 15 0 ≤ (if s.chip.isLane p = true then 62 else 4096)) :=
  ⟨(st fun c => (lane0 9 (prsOn c)).setWord 0x40000200 0x00030004), 3, 0x00100009, 0x00030004, 9, by decide +kernel⟩
theorem wit_press_samplers_and_staging_8_b : ∃ (s : State) (k : Fin 16) (v : Word) (h : Word) (p : Nat),
    (s.chip.coreOn k = true) ∧ (h = s.chip.word (0x40000000 + fld v 31 20 * 512)) ∧ (p = fld v 5 0) ∧ (p < 48) ∧ (kindOf (s.chip.modeNow p) = fld h 31 28) ∧ (s.chip.ringOdd p = false) ∧ (1 ≤ fld h 15 0) ∧ (fld h 15 0 ≤ (if s.chip.isLane p = true then 62 else 4096)) :=
  ⟨(st fun c => ((prsOn c).wr rPORT_STATUS 9 0 3).setWord 0x40000200 0x10031000), 3, 0x00100009, 0x10031000, 9, by decide +kernel⟩
theorem wit_press_samplers_and_staging_9 : ∃ (s : State) (k : Fin 16) (v : Word) (h : Word) (p : Nat),
    (s.chip.coreOn k = true) ∧ (h = s.chip.word (0x40000000 + fld v 31 20 * 512)) ∧ (p = fld v 5 0) ∧ (48 ≤ p ∨ kindOf (s.chip.modeNow p) ≠ fld h 31 28 ∨ s.chip.ringOdd p = true ∨ fld h 15 0 = 0 ∨ 4096 < fld h 15 0 ∨ s.chip.isLane p = true ∧ 62 < fld h 15 0) :=
  ⟨(st prsOn), 3, 0x00100009, 0, 9, by decide +kernel⟩
theorem wit_press_samplers_and_staging_9_b : ∃ (s : State) (k : Fin 16) (v : Word) (h : Word) (p : Nat),
    (s.chip.coreOn k = true) ∧ (h = s.chip.word (0x40000000 + fld v 31 20 * 512)) ∧ (p = fld v 5 0) ∧ (48 ≤ p ∨ kindOf (s.chip.modeNow p) ≠ fld h 31 28 ∨ s.chip.ringOdd p = true ∨ fld h 15 0 = 0 ∨ 4096 < fld h 15 0 ∨ s.chip.isLane p = true ∧ 62 < fld h 15 0) :=
  ⟨(st fun c => (lane0 9 (prsOn c)).setWord 0x40000200 0x0003003F), 3, 0x00100009, 0x0003003F, 9, by decide +kernel⟩
theorem wit_press_samplers_and_staging_10 : ∃ (s : State) (p : Fin 48) (r : Posted) (t : List Posted) (h : Word),
    (s.chip.up .prs = true) ∧ (s.chip.up (.bank (bankOf p)) = true) ∧ (mget [] s.chip.prs.stg p = r :: t) ∧ (h = s.chip.word r.addr) ∧ (s.chip.isLane p = true) ∧ (fld h 31 28 = 0) ∧ (s.chip.room p false (fld h 15 0) = true) ∧ (s.chip.cutOff [0x30 + bankOf p] = false) ∧ (fld h 15 0 ≤ 62) ∧ (0x40000000 ≤ r.addr) ∧ (r.addr + 512 ≤ 0x40200000) :=
  ⟨(st fun c => ((lane0 9 (prsOn c)).setWords 0x40000200 [0x00030002, 5, 6]).setPort 9 { pshare := 32 } |> fun c => c.setPrs { c.prs with stg := [(9, [⟨3, 0x40000200⟩])] }), 9, ⟨3, 0x40000200⟩, [], 0x00030002, by decide +kernel⟩
theorem wit_press_samplers_and_staging_11 : ∃ (s : State) (p : Fin 48) (r : Posted) (t : List Posted) (h : Word),
    (s.chip.up .prs = true) ∧ (s.chip.up (.bank (bankOf p)) = true) ∧ (mget [] s.chip.prs.stg p = r :: t) ∧ (h = s.chip.word r.addr) ∧ (s.chip.modeNow p = 2 ∧ fld h 31 28 = 2 ∨ s.chip.modeNow p = 3 ∧ fld h 31 28 = 1) ∧ ((s.chip.port p).crdBad = false) ∧ (s.chip.cutOff [0x30 + bankOf p] = false) ∧ (1 ≤ fld h 15 0) ∧ (fld h 15 0 ≤ 4096) ∧ (0x40000000 ≤ r.addr) ∧ (r.addr + 0x4004 ≤ 0x40200000) :=
  ⟨(st fun c => (((prsOn c).wr rPORT_STATUS 9 0 3).setWords 0x40000200 [0x10030002, 5, 6]) |> fun c => c.setPrs { c.prs with stg := [(9, [⟨3, 0x40000200⟩])] }), 9, ⟨3, 0x40000200⟩, [], 0x10030002, by decide +kernel⟩
theorem wit_press_samplers_and_staging_11_b : ∃ (s : State) (p : Fin 48) (r : Posted) (t : List Posted) (h : Word),
    (s.chip.up .prs = true) ∧ (s.chip.up (.bank (bankOf p)) = true) ∧ (mget [] s.chip.prs.stg p = r :: t) ∧ (h = s.chip.word r.addr) ∧ (s.chip.modeNow p = 2 ∧ fld h 31 28 = 2 ∨ s.chip.modeNow p = 3 ∧ fld h 31 28 = 1) ∧ ((s.chip.port p).crdBad = false) ∧ (s.chip.cutOff [0x30 + bankOf p] = false) ∧ (1 ≤ fld h 15 0) ∧ (fld h 15 0 ≤ 4096) ∧ (0x40000000 ≤ r.addr) ∧ (r.addr + 0x4004 ≤ 0x40200000) :=
  ⟨(st fun c => ((((prsOn c).wr rPORT_STATUS 9 0 2).setPort 9 { filling := some ⟨1, 1⟩, drain := true }).setWords 0x40000200 [0x20030002, 5, 6]) |> fun c => c.setPrs { c.prs with stg := [(9, [⟨3, 0x40000200⟩])] }), 9, ⟨3, 0x40000200⟩, [], 0x20030002, by decide +kernel⟩
theorem wit_press_samplers_and_staging_12 : ∃ (s : State) (p : Fin 48) (r : Posted) (t : List Posted) (h : Word),
    (s.chip.up .prs = true) ∧ (s.chip.up (.bank (bankOf p)) = true) ∧ (mget [] s.chip.prs.stg p = r :: t) ∧ (h = s.chip.word r.addr) ∧ (s.chip.isLane p = false ∨ fld h 31 28 ≠ 0) ∧ (kindOf (s.chip.modeNow p) ≠ fld h 31 28) ∧ ((s.chip.port p).crdBad = false) :=
  ⟨(st fun c => (prsOn c).setPrs { c.prs with stg := [(9, [⟨3, 0x40000200⟩])] }), 9, ⟨3, 0x40000200⟩, [], 0, by decide +kernel⟩
theorem wit_press_samplers_and_staging_13 : ∃ (s : State) (p : Fin 48),
    (s.chip.up .prs = false ∨ s.chip.up (.bank (bankOf p)) = false ∨ mget [] s.chip.prs.stg p = [] ∨ (s.chip.port p).crdBad = true ∨ s.chip.isLane p = true ∧ (∃ r ∈ (mget [] s.chip.prs.stg p).head?, fld (s.chip.word r.addr) 31 28 = 0 ∧ s.chip.room p false (fld (s.chip.word r.addr) 15 0) = false)) :=
  ⟨(st fun c => ((lane0 9 (prsOn c)).setWords 0x40000200 [0x00030002, 5, 6]).setPort 9 { crdBad := true } |> fun c => c.setPrs { c.prs with stg := [(9, [⟨3, 0x40000200⟩])] }), 9, by decide +kernel⟩
theorem wit_press_samplers_and_staging_13_b : ∃ (s : State) (p : Fin 48),
    (s.chip.up .prs = false ∨ s.chip.up (.bank (bankOf p)) = false ∨ mget [] s.chip.prs.stg p = [] ∨ (s.chip.port p).crdBad = true ∨ s.chip.isLane p = true ∧ (∃ r ∈ (mget [] s.chip.prs.stg p).head?, fld (s.chip.word r.addr) 31 28 = 0 ∧ s.chip.room p false (fld (s.chip.word r.addr) 15 0) = false)) :=
  ⟨(st fun c => ((lane0 9 (prsOn c)).setWords 0x40000200 [0x00030002, 5, 6]).setPort 9 { pshare := 0 } |> fun c => c.setPrs { c.prs with stg := [(9, [⟨3, 0x40000200⟩])] }), 9, by decide +kernel⟩

end Sys2Proof.Tests.WitnessJ
end

