-- ==== Sys2Proof/Tests/WitnessK.lean ====
section
/-! SUPPORT. States and operands that meet the hypotheses of the statements, part K. -/

namespace Sys2Proof.Tests.WitnessK

open Sys2Proof Sys2Proof.Machine Sys2Proof.Tests

set_option maxRecDepth 100000
set_option Elab.async false
set_option linter.unusedVariables false
set_option linter.unreachableTactic false
set_option linter.unusedTactic false

def lane0 (p : Nat) : Chip → Chip := fun c => (c.wr rPORT_STATUS p 0 (c.rd rPORT_STATUS p ||| 1)).setBank (bankOf p) { family := 1, newFamily := 1 }
def rasFrame : Chip → Chip := fun c => (c.wr rRAS_CTRL 0 0 1).setRas { inFrame := true, fetch := [(9, { code := 0, run0 := 0, nruns := 0, cal0 := 0 })] }
def dmx0 (p : Nat) : Chip → Chip := fun c => (c.wr rPORT_STATUS p 0 3).setBank (bankOf p) { family := 2, newFamily := 2 }
def pr0 : Chip → Chip := fun c => { c with cdr := { c.cdr with heard := 512 } }
def pairW : Chip → Chip := fun c => { ((((lane0 9 c).wr rCDR_PMASK_LO 0 0 0x200).wr rCDR_WMASK_LO 0 0 0x200).wr rCDR_STATUS 0 0 0x303) with cdr := { c.cdr with heard := 512 } }
theorem wit_lane_cells_1 : ∃ (s : State) (p : Fin 48) (res : Bool),
    (s.chip.up .pix = true) ∧ (s.chip.rb rRAS_CTRL 0 0 0 = true) ∧ (s.chip.ras.inFrame = true) ∧ (s.chip.ras.hold = none) ∧ (s.chip.isLane p = true) ∧ (s.chip.ringOdd p = false) ∧ (s.chip.bankReady p = true) ∧ ((s.chip.bank (bankOf p)).wdhold = false) ∧ (s.chip.cdr.swap = none) ∧ (s.chip.cdr.swapLeft.getLsbD p = false) ∧ (s.chip.cdr.releases = []) ∧ (s.chip.pairCalm) ∧ ((s.chip.port p).blank = []) ∧ ((s.chip.port p).cells ≠ [] ∨ s.chip.fed p = false) ∧ ((res = true ↔ s.chip.ras.resume = true ∨ ((s.chip.port p).held = true ∨ (s.chip.port p).released = true ∨ s.chip.rb rPORT_STATUS p 0 14 = true) ∧ (s.chip.port p).cells ≠ [])) :=
  ⟨(st fun c => (lane0 9 (rasFrame c)).setPort 9 { cells := [⟨true, 0, 0, 0⟩] }), 9, false, by decide +kernel⟩
theorem wit_lane_cells_1_b : ∃ (s : State) (p : Fin 48) (res : Bool),
    (s.chip.up .pix = true) ∧ (s.chip.rb rRAS_CTRL 0 0 0 = true) ∧ (s.chip.ras.inFrame = true) ∧ (s.chip.ras.hold = none) ∧ (s.chip.isLane p = true) ∧ (s.chip.ringOdd p = false) ∧ (s.chip.bankReady p = true) ∧ ((s.chip.bank (bankOf p)).wdhold = false) ∧ (s.chip.cdr.swap = none) ∧ (s.chip.cdr.swapLeft.getLsbD p = false) ∧ (s.chip.cdr.releases = []) ∧ (s.chip.pairCalm) ∧ ((s.chip.port p).blank = []) ∧ ((s.chip.port p).cells ≠ [] ∨ s.chip.fed p = false) ∧ ((res = true ↔ s.chip.ras.resume = true ∨ ((s.chip.port p).held = true ∨ (s.chip.port p).released = true ∨ s.chip.rb rPORT_STATUS p 0 14 = true) ∧ (s.chip.port p).cells ≠ [])) :=
  ⟨(st fun c => ((lane0 9 (rasFrame c)).wb rPORT_STATUS 9 0 14 true).setPort 9 { cells := [⟨true, 0, 0, 0⟩], held := true }), 9, true, by decide +kernel⟩
theorem wit_lane_cells_1_c : ∃ (s : State) (p : Fin 48) (res : Bool),
    (s.chip.up .pix = true) ∧ (s.chip.rb rRAS_CTRL 0 0 0 = true) ∧ (s.chip.ras.inFrame = true) ∧ (s.chip.ras.hold = none) ∧ (s.chip.isLane p = true) ∧ (s.chip.ringOdd p = false) ∧ (s.chip.bankReady p = true) ∧ ((s.chip.bank (bankOf p)).wdhold = false) ∧ (s.chip.cdr.swap = none) ∧ (s.chip.cdr.swapLeft.getLsbD p = false) ∧ (s.chip.cdr.releases = []) ∧ (s.chip.pairCalm) ∧ ((s.chip.port p).blank = []) ∧ ((s.chip.port p).cells ≠ [] ∨ s.chip.fed p = false) ∧ ((res = true ↔ s.chip.ras.resume = true ∨ ((s.chip.port p).held = true ∨ (s.chip.port p).released = true ∨ s.chip.rb rPORT_STATUS p 0 14 = true) ∧ (s.chip.port p).cells ≠ [])) :=
  ⟨(st fun c => (lane0 8 (rasFrame c))), 8, false, by decide +kernel⟩
theorem wit_lane_cells_2 : ∃ (s : State) (p : Fin 48),
    (s.chip.up .pix = true) ∧ (s.chip.rb rRAS_CTRL 0 0 0 = true) ∧ (s.chip.ras.inFrame = true) ∧ (s.chip.ras.hold = none) ∧ (s.chip.isLane p = true) ∧ (s.chip.ringOdd p = false) ∧ (s.chip.bankReady p = true) ∧ ((s.chip.bank (bankOf p)).wdhold = false) ∧ (s.chip.cdr.swap = none) ∧ (s.chip.cdr.swapLeft.getLsbD p = false) ∧ (s.chip.cdr.releases = []) ∧ (s.chip.pairCalm) ∧ ((s.chip.port p).blank = []) ∧ ((s.chip.port p).cells = []) ∧ (s.chip.fed p = true) :=
  ⟨(st fun c => (lane0 9 (rasFrame c))), 9, by decide +kernel⟩
theorem wit_lane_cells_3 : ∃ (s : State) (p : Fin 48),
    (s.chip.up .pix = true) ∧ (s.chip.rb rRAS_CTRL 0 0 0 = true) ∧ (s.chip.ras.inFrame = true) ∧ (s.chip.ras.hold = none) ∧ (s.chip.isLane p = true) ∧ (s.chip.ringOdd p = false) ∧ (s.chip.bankReady p = true) ∧ ((s.chip.bank (bankOf p)).wdhold = true) ∧ (s.chip.cdr.swap = none) ∧ (s.chip.cdr.swapLeft.getLsbD p = false) ∧ (s.chip.cdr.releases = []) ∧ (s.chip.pairCalm) ∧ ((s.chip.port p).blank = []) :=
  ⟨(st fun c => (lane0 9 (rasFrame c)).setBank 1 { family := 1, newFamily := 1, wdhold := true }), 9, by decide +kernel⟩
theorem wit_lane_cells_4 : ∃ (s : State) (p : Fin 48) (l : List OwnCell),
    (s.chip.up .pix = true) ∧ (s.chip.rb rRAS_CTRL 0 0 0 = true) ∧ (s.chip.ras.inFrame = true) ∧ (s.chip.ras.hold = none) ∧ (s.chip.isLane p = true) ∧ (s.chip.ringOdd p = false) ∧ (s.chip.bankReady p = true) ∧ (s.chip.cdr.swap = none) ∧ (s.chip.cdr.swapLeft.getLsbD p = false) ∧ (s.chip.cdr.releases = []) ∧ (s.chip.pairCalm) ∧ ((s.chip.bank (bankOf p)).wdhold = true) ∧ (l = (s.chip.port p).blank.filter (fun k => fld k.head 31 28 ≠ 0xC)) ∧ (l ≠ []) :=
  ⟨(st fun c => ((lane0 9 (rasFrame c)).setBank 1 { family := 1, newFamily := 1, wdhold := true }).setPort 9 { blank := [⟨0xC0000000, [1]⟩, ⟨0x30000000, [1, 2]⟩] }), 9, [⟨0x30000000, [1, 2]⟩], by and_intros <;> first | with_reducible rfl | decide +kernel | rfl⟩
theorem wit_lane_cells_5 : ∃ (s : State) (p : Fin 48),
    (s.chip.up .pix = false ∨ s.chip.rb rRAS_CTRL 0 0 0 = false ∨ s.chip.ras.inFrame = false ∨ s.chip.ras.hold ≠ none ∨ s.chip.isLane p = false ∨ s.chip.ringOdd p = true ∨ s.chip.bankReady p = false) :=
  ⟨(st), 9, by decide +kernel⟩
theorem wit_lane_cells_6 : ∃ (s : State) (p : Fin 48) (k : OwnCell) (t : List OwnCell),
    (s.chip.up (.bank (bankOf p)) = true) ∧ (s.chip.isLane p = true) ∧ (s.chip.ringOdd p = false) ∧ ((s.chip.bank (bankOf p)).step = 0) ∧ ((s.chip.port p).presentDue = false) ∧ ((s.chip.port p).urgent = k :: t) ∧ (s.chip.insertFrom p = none) :=
  ⟨(st fun c => (lane0 9 c).setPort 9 { urgent := [⟨5, [6]⟩] }), 9, ⟨5, [6]⟩, [], by decide +kernel⟩
theorem wit_lane_cells_6_b : ∃ (s : State) (p : Fin 48) (k : OwnCell) (t : List OwnCell),
    (s.chip.up (.bank (bankOf p)) = true) ∧ (s.chip.isLane p = true) ∧ (s.chip.ringOdd p = false) ∧ ((s.chip.bank (bankOf p)).step = 0) ∧ ((s.chip.port p).presentDue = false) ∧ ((s.chip.port p).urgent = k :: t) ∧ (s.chip.insertFrom p = none) :=
  ⟨(st fun c => (lane0 8 (lane0 9 c)).setPort 8 { urgent := [⟨0x60000005, [6]⟩], ringNow := true, holdFirst := true }), 8, ⟨0x60000005, [6]⟩, [], by decide +kernel⟩
theorem wit_lane_cells_6_c : ∃ (s : State) (p : Fin 48) (k : OwnCell) (t : List OwnCell),
    (s.chip.up (.bank (bankOf p)) = true) ∧ (s.chip.isLane p = true) ∧ (s.chip.ringOdd p = false) ∧ ((s.chip.bank (bankOf p)).step = 0) ∧ ((s.chip.port p).presentDue = false) ∧ ((s.chip.port p).urgent = k :: t) ∧ (s.chip.insertFrom p = none) :=
  ⟨(st fun c => (pairW c).setPort 9 { urgent := [⟨0x70000005, [6, 7, 8, 9]⟩] }), 9, ⟨0x70000005, [6, 7, 8, 9]⟩, [], by decide +kernel⟩
theorem wit_lane_cells_6_d : ∃ (s : State) (p : Fin 48) (k : OwnCell) (t : List OwnCell),
    (s.chip.up (.bank (bankOf p)) = true) ∧ (s.chip.isLane p = true) ∧ (s.chip.ringOdd p = false) ∧ ((s.chip.bank (bankOf p)).step = 0) ∧ ((s.chip.port p).presentDue = false) ∧ ((s.chip.port p).urgent = k :: t) ∧ (s.chip.insertFrom p = none) :=
  ⟨(st fun c => (pairW c).setPort 9 { urgent := [⟨0x70000005, [6, 7, 8, 9]⟩], returned := true }), 9, ⟨0x70000005, [6, 7, 8, 9]⟩, [], by decide +kernel⟩
theorem wit_lane_cells_7 : ∃ (s : State) (p : Fin 48) (k : PCell) (t : List PCell) (ws : List Word),
    (s.chip.up (.bank (bankOf p)) = true) ∧ (s.chip.isLane p = true) ∧ (s.chip.ringOdd p = false) ∧ ((s.chip.bank (bankOf p)).step = 0) ∧ ((s.chip.port p).presentDue = false) ∧ ((s.chip.port p).urgent = []) ∧ ((s.chip.port p).window = true) ∧ ((s.chip.port p).cells = k :: t) ∧ (s.chip.time.now + s.chip.cellTime p ≤ s.chip.ras.start + s.chip.tw) ∧ (fld k.head 31 28 ≠ 2 ∨ s.chip.laneVer p = 2) ∧ (s.chip.insertFrom p = none) ∧ (ws = s.chip.ringGet p k.raster k.pos k.len) :=
  ⟨(st fun c => ((lane0 9 (rasFrame c)).setWord 0x50048000 7).setPort 9 { window := true, cells := [⟨true, cellHead 1 3 1 1, 0, 1⟩] }), 9, ⟨true, cellHead 1 3 1 1, 0, 1⟩, [], [7], by decide +kernel⟩
theorem wit_lane_cells_8 : ∃ (s : State) (p : Fin 48) (k : PCell) (t : List PCell),
    (s.chip.up (.bank (bankOf p)) = true) ∧ (s.chip.isLane p = true) ∧ (s.chip.ringOdd p = false) ∧ ((s.chip.bank (bankOf p)).step = 0) ∧ ((s.chip.port p).presentDue = false) ∧ ((s.chip.port p).urgent = []) ∧ ((s.chip.port p).window = true) ∧ ((s.chip.port p).cells = k :: t) ∧ (s.chip.time.now + s.chip.cellTime p ≤ s.chip.ras.start + s.chip.tw) ∧ (fld k.head 31 28 = 2) ∧ (s.chip.laneVer p = 1) ∧ (s.chip.insertFrom p = none) :=
  ⟨(st fun c => ((lane0 9 (rasFrame c)).setWord 0x50048000 7).setPort 9 { window := true, cells := [⟨true, cellHead 2 3 1 1, 0, 1⟩] }), 9, ⟨true, cellHead 2 3 1 1, 0, 1⟩, [], by decide +kernel⟩
theorem wit_lane_cells_9 : ∃ (s : State) (p : Fin 48),
    (s.chip.up (.bank (bankOf p)) = true) ∧ (s.chip.isLane p = true) ∧ (s.chip.ringOdd p = false) ∧ ((s.chip.bank (bankOf p)).step = 0) ∧ ((s.chip.port p).presentDue = false) ∧ ((s.chip.port p).urgent = []) ∧ (s.chip.insertFrom p = none) ∧ ((s.chip.port p).window = false ∧ (s.chip.port p).blank = [] ∨ (s.chip.port p).window = true ∧ ((s.chip.port p).cells = [] ∧ ((s.chip.sum p).started = false ∨ ∀ f ∈ s.chip.ras.fetch, f.1 ≠ p ∨ f.2.done = true) ∨ (s.chip.port p).cells ≠ [] ∧ s.chip.ras.start + s.chip.tw < s.chip.time.now + s.chip.cellTime p)) :=
  ⟨(st (lane0 9)), 9, by decide +kernel⟩
theorem wit_lane_cells_9_b : ∃ (s : State) (p : Fin 48),
    (s.chip.up (.bank (bankOf p)) = true) ∧ (s.chip.isLane p = true) ∧ (s.chip.ringOdd p = false) ∧ ((s.chip.bank (bankOf p)).step = 0) ∧ ((s.chip.port p).presentDue = false) ∧ ((s.chip.port p).urgent = []) ∧ (s.chip.insertFrom p = none) ∧ ((s.chip.port p).window = false ∧ (s.chip.port p).blank = [] ∨ (s.chip.port p).window = true ∧ ((s.chip.port p).cells = [] ∧ ((s.chip.sum p).started = false ∨ ∀ f ∈ s.chip.ras.fetch, f.1 ≠ p ∨ f.2.done = true) ∨ (s.chip.port p).cells ≠ [] ∧ s.chip.ras.start + s.chip.tw < s.chip.time.now + s.chip.cellTime p)) :=
  ⟨(st fun c => { ((lane0 9 (rasFrame c)).setPort 9 { window := true, cells := [⟨true, cellHead 1 3 1 1, 0, 1⟩] }) with time := { c.time with now := 10000000000 } }), 9, by decide +kernel⟩
theorem wit_lane_cells_10 : ∃ (s : State) (p : Fin 48),
    (s.chip.up (.bank (bankOf p)) = true) ∧ (s.chip.isLane p = true) ∧ (s.chip.ringOdd p = false) ∧ ((s.chip.bank (bankOf p)).step = 0) ∧ ((s.chip.port p).presentDue = false) ∧ ((s.chip.port p).urgent = []) ∧ (s.chip.insertFrom p = none) ∧ ((s.chip.port p).window = true) ∧ ((s.chip.port p).cells = []) ∧ ((s.chip.sum p).started = true) :=
  ⟨(st fun c => ((lane0 9 (rasFrame c)).setPort 9 { window := true }).setSum 9 { started := true }), 9, by decide +kernel⟩
theorem wit_lane_cells_10_b : ∃ (s : State) (p : Fin 48),
    (s.chip.up (.bank (bankOf p)) = true) ∧ (s.chip.isLane p = true) ∧ (s.chip.ringOdd p = false) ∧ ((s.chip.bank (bankOf p)).step = 0) ∧ ((s.chip.port p).presentDue = false) ∧ ((s.chip.port p).urgent = []) ∧ (s.chip.insertFrom p = none) ∧ ((s.chip.port p).window = true) ∧ ((s.chip.port p).cells = []) ∧ ((s.chip.sum p).started = true) :=
  ⟨(st fun c => (((lane0 9 (rasFrame c)).setPort 9 { window := true }).setSum 9 { started := true }).setSum 8 { underrun := true }), 9, by decide +kernel⟩
theorem wit_lane_cells_11 : ∃ (s : State) (p : Fin 48) (k : OwnCell) (t : List OwnCell),
    (s.chip.up (.bank (bankOf p)) = true) ∧ (s.chip.isLane p = true) ∧ (s.chip.ringOdd p = false) ∧ ((s.chip.bank (bankOf p)).step = 0) ∧ ((s.chip.port p).presentDue = false) ∧ ((s.chip.port p).urgent = []) ∧ (s.chip.insertFrom p = none) ∧ ((s.chip.port p).window = false) ∧ ((s.chip.port p).blank = k :: t) ∧ (fld k.head 31 28 = 0xC ∧ s.chip.time.now < (s.chip.port p).blankEnd ∨ fld k.head 31 28 = 8 ∧ 8 * (s.chip.time.now + s.chip.cellTime p) + (s.chip.rd rLT0A p).toNat + 16000 ≤ 8 * (s.chip.port p).blankEnd) :=
  ⟨(st fun c => (lane0 9 c).setPort 9 { blank := [⟨0xC0000004, [0]⟩], blankEnd := 50 }), 9, ⟨0xC0000004, [0]⟩, [], by decide +kernel⟩
theorem wit_lane_cells_11_b : ∃ (s : State) (p : Fin 48) (k : OwnCell) (t : List OwnCell),
    (s.chip.up (.bank (bankOf p)) = true) ∧ (s.chip.isLane p = true) ∧ (s.chip.ringOdd p = false) ∧ ((s.chip.bank (bankOf p)).step = 0) ∧ ((s.chip.port p).presentDue = false) ∧ ((s.chip.port p).urgent = []) ∧ (s.chip.insertFrom p = none) ∧ ((s.chip.port p).window = false) ∧ ((s.chip.port p).blank = k :: t) ∧ (fld k.head 31 28 = 0xC ∧ s.chip.time.now < (s.chip.port p).blankEnd ∨ fld k.head 31 28 = 8 ∧ 8 * (s.chip.time.now + s.chip.cellTime p) + (s.chip.rd rLT0A p).toNat + 16000 ≤ 8 * (s.chip.port p).blankEnd) :=
  ⟨(st fun c => (lane0 9 c).setPort 9 { blank := [⟨0x80050004, [0]⟩], blankEnd := 50000 }), 9, ⟨0x80050004, [0]⟩, [], by decide +kernel⟩
theorem wit_lane_cells_12 : ∃ (s : State) (p : Fin 48) (k : OwnCell) (t : List OwnCell),
    (s.chip.up (.bank (bankOf p)) = true) ∧ (s.chip.isLane p = true) ∧ (s.chip.ringOdd p = false) ∧ ((s.chip.bank (bankOf p)).step = 0) ∧ ((s.chip.port p).presentDue = false) ∧ ((s.chip.port p).urgent = []) ∧ (s.chip.insertFrom p = none) ∧ ((s.chip.port p).window = false) ∧ ((s.chip.port p).blank = k :: t) ∧ (fld k.head 31 28 = 3) ∧ (8 * (s.chip.time.now + s.chip.cellTime p) + (s.chip.rd rLT0A p).toNat + 16000 ≤ 8 * (s.chip.port p).blankEnd) :=
  ⟨(st fun c => (lane0 9 c).setPort 9 { blank := [⟨0x30000004, [0x10010001, 9]⟩], blankEnd := 50000 }), 9, ⟨0x30000004, [0x10010001, 9]⟩, [], by decide +kernel⟩
theorem wit_lane_cells_13 : ∃ (s : State) (p : Fin 48) (k : OwnCell) (t : List OwnCell) (l : List OwnCell),
    (s.chip.up (.bank (bankOf p)) = true) ∧ (s.chip.isLane p = true) ∧ (s.chip.ringOdd p = false) ∧ ((s.chip.bank (bankOf p)).step = 0) ∧ ((s.chip.port p).presentDue = false) ∧ ((s.chip.port p).urgent = []) ∧ (s.chip.insertFrom p = none) ∧ ((s.chip.port p).window = false) ∧ ((s.chip.port p).blank = k :: t) ∧ (fld k.head 31 28 ≠ 0xC) ∧ (l = (s.chip.port p).blank.filter (fun k => fld k.head 31 28 ≠ 0xC)) ∧ (8 * (s.chip.port p).blankEnd < 8 * (s.chip.time.now + s.chip.cellTime p) + (s.chip.rd rLT0A p).toNat + 16000) :=
  ⟨(st fun c => (lane0 9 c).setPort 9 { blank := [⟨0x30000004, [0x10010001, 9]⟩], blankEnd := 500 }), 9, ⟨0x30000004, [0x10010001, 9]⟩, [], [⟨0x30000004, [0x10010001, 9]⟩], by and_intros <;> first | with_reducible rfl | decide +kernel | rfl⟩
theorem wit_lane_cells_14 : ∃ (s : State) (p : Fin 48),
    (s.chip.up (.bank (bankOf p)) = true) ∧ (s.chip.isLane p = true) ∧ (s.chip.ringOdd p = false) ∧ ((s.chip.bank (bankOf p)).step = 2) ∧ (s.chip.insertFrom p = none) :=
  ⟨(st fun c => (lane0 9 c).setBank 1 { family := 1, newFamily := 1, step := 2 }), 9, by decide +kernel⟩
theorem wit_lane_cells_15 : ∃ (s : State) (p : Fin 48),
    (s.chip.up (.bank (bankOf p)) = false ∨ s.chip.isLane p = false ∨ s.chip.ringOdd p = true ∨ s.chip.insertFrom p = none ∧ ((s.chip.bank (bankOf p)).step = 1 ∨ (s.chip.bank (bankOf p)).step ≠ 2 ∧ (s.chip.port p).presentDue = true)) :=
  ⟨(st fun c => (lane0 9 c).setPort 9 { presentDue := true }), 9, by decide +kernel⟩
theorem wit_lane_cells_16 : ∃ (s : State) (p : Fin 48) (e : UrgEnt),
    (s.chip.bankReady p = true) ∧ (s.chip.isLane p = true) ∧ (s.chip.ringOdd p = false) ∧ (s.chip.urgQueue 0 (bankOf p) = [e]) ∧ (s.chip.urgQueue 1 (bankOf p) = []) ∧ (e.words = 1) ∧ (e.left = 1#8 <<< (p.val % 8)) ∧ ((s.chip.port p).ringNow = false) ∧ (s.chip.witness p = false) ∧ ((s.chip.port p).presentDue = false) ∧ ((s.chip.port p).urgent = []) ∧ ((s.chip.port p).window = false) ∧ ((s.chip.port p).blank = []) :=
  ⟨(st fun c => ((lane0 9 c).wr rLCTRL 9 0 2).setUrgQueue 0 1 [{ mask := 2, word := 5, words := 1, ts := 0, left := 2 }]), 9, { mask := 2, word := 5, words := 1, ts := 0, left := 2 }, by decide +kernel⟩
theorem wit_lane_cells_17 : ∃ (s : State) (p : Fin 48) (x : RxCell),
    (s.chip.up (.bank (bankOf p)) = true) ∧ (s.chip.isLane p = true) ∧ ((s.chip.bank (bankOf p)).step ≠ 1) ∧ (wordsCrc (x.head :: x.slots) ≠ x.trailer) ∧ ((s.chip.port p).rxBad < 3 ∨ s.chip.rb rPORT_STATUS p 0 10 = false) :=
  ⟨(st (lane0 9)), 9, { head := 0, slots := [0], trailer := 0 }, by decide +kernel⟩
theorem wit_lane_cells_17_b : ∃ (s : State) (p : Fin 48) (x : RxCell),
    (s.chip.up (.bank (bankOf p)) = true) ∧ (s.chip.isLane p = true) ∧ ((s.chip.bank (bankOf p)).step ≠ 1) ∧ (wordsCrc (x.head :: x.slots) ≠ x.trailer) ∧ ((s.chip.port p).rxBad < 3 ∨ s.chip.rb rPORT_STATUS p 0 10 = false) :=
  ⟨(st fun c => (lane0 9 c).setPort 9 { rxBad := 3 }), 9, { head := 0, slots := [0], trailer := 0 }, by decide +kernel⟩
theorem wit_lane_cells_18 : ∃ (s : State) (p : Fin 48) (x : RxCell),
    (s.chip.up (.bank (bankOf p)) = true) ∧ (s.chip.isLane p = true) ∧ ((s.chip.bank (bankOf p)).step ≠ 1) ∧ (wordsCrc (x.head :: x.slots) ≠ x.trailer) ∧ (3 ≤ (s.chip.port p).rxBad) ∧ (s.chip.rb rPORT_STATUS p 0 10 = true) ∧ ((s.chip.port (p / 2 * 2)).ringNow = false) :=
  ⟨(st fun c => (lane0 9 (c.wr rPORT_STATUS 9 0 0x401)).setPort 9 { rxBad := 3 }), 9, { head := 0, slots := [0], trailer := 0 }, by decide +kernel⟩
theorem wit_lane_cells_19 : ∃ (s : State) (p : Fin 48) (x : RxCell) (n : Nat),
    (s.chip.up (.bank (bankOf p)) = true) ∧ (s.chip.isLane p = true) ∧ ((s.chip.bank (bankOf p)).step ≠ 1) ∧ (wordsCrc (x.head :: x.slots) = x.trailer) ∧ (bit x.head 1 = false) ∧ (s.chip.paired p = false) ∧ (n = (if x.spaced = true then (s.chip.port p).rxGood + 1 else 1)) ∧ (fld x.head 31 28 ≠ 0xD) :=
  ⟨(st fun c => (lane0 9 c).setPort 9 { rxGood := 2 }), 9, { head := 4, slots := [0], trailer := wordsCrc [4, 0] }, 3, by decide +kernel⟩
theorem wit_lane_cells_19_b : ∃ (s : State) (p : Fin 48) (x : RxCell) (n : Nat),
    (s.chip.up (.bank (bankOf p)) = true) ∧ (s.chip.isLane p = true) ∧ ((s.chip.bank (bankOf p)).step ≠ 1) ∧ (wordsCrc (x.head :: x.slots) = x.trailer) ∧ (bit x.head 1 = false) ∧ (s.chip.paired p = false) ∧ (n = (if x.spaced = true then (s.chip.port p).rxGood + 1 else 1)) ∧ (fld x.head 31 28 ≠ 0xD) :=
  ⟨(st fun c => (lane0 9 (c.wr rPORT_STATUS 9 0 0x401)).setPort 9 { rxGood := 2 }), 9, { head := 0xC0000004, slots := [0], trailer := wordsCrc [0xC0000004, 0], spaced := false }, 1, by decide +kernel⟩
theorem wit_lane_cells_20 : ∃ (s : State) (p : Fin 48) (x : RxCell),
    (s.chip.up (.bank (bankOf p)) = true) ∧ (s.chip.isLane p = true) ∧ ((s.chip.bank (bankOf p)).step ≠ 1) ∧ (wordsCrc (x.head :: x.slots) = x.trailer) ∧ (bit x.head 1 = true) ∧ (s.chip.paired p = false) ∧ (s.chip.rb rPORT_STATUS p 0 10 = true) ∧ (fld x.head 31 28 ≠ 0xC) ∧ (fld x.head 31 28 ≠ 0xD) :=
  ⟨(st fun c => (lane0 9 (c.wr rPORT_STATUS 9 0 0x401))), 9, { head := 7, slots := [0], trailer := wordsCrc [7, 0] }, by decide +kernel⟩
theorem wit_lane_cells_20_b : ∃ (s : State) (p : Fin 48) (x : RxCell),
    (s.chip.up (.bank (bankOf p)) = true) ∧ (s.chip.isLane p = true) ∧ ((s.chip.bank (bankOf p)).step ≠ 1) ∧ (wordsCrc (x.head :: x.slots) = x.trailer) ∧ (bit x.head 1 = true) ∧ (s.chip.paired p = false) ∧ (s.chip.rb rPORT_STATUS p 0 10 = true) ∧ (fld x.head 31 28 ≠ 0xC) ∧ (fld x.head 31 28 ≠ 0xD) :=
  ⟨(st fun c => (lane0 9 (c.wr rPORT_STATUS 9 0 0x401))), 9, { head := 6, slots := [0], trailer := wordsCrc [6, 0] }, by decide +kernel⟩
theorem wit_lane_cells_21 : ∃ (s : State) (p : Fin 48) (x : RxCell) (h : Word),
    (s.chip.up (.bank (bankOf p)) = true) ∧ (s.chip.isLane p = true) ∧ ((s.chip.bank (bankOf p)).step ≠ 1) ∧ (wordsCrc (x.head :: x.slots) = x.trailer) ∧ (bit x.head 1 = false) ∧ (s.chip.paired p = true) ∧ (s.chip.witness p = true) ∧ (s.chip.pairCalm) ∧ (s.chip.pairState = 3) ∧ (fld x.head 31 28 ∉ [0, 5, 6, 7, 0xB, 0xC, 0xD]) ∧ (s.chip.hbOk = true) ∧ (h = setBit (setBit x.head 1 true) 0 false) :=
  ⟨(st fun c => (pairW c).pairCheck), 9, { head := 0x90000004, slots := [5], trailer := wordsCrc [0x90000004, 5] }, 0x90000006, by decide +kernel⟩
theorem wit_lane_cells_22 : ∃ (s : State) (p : Fin 48),
    (s.chip.up (.bank (bankOf p)) = true) ∧ (s.chip.isLane p = true) ∧ (s.chip.rb rPORT_STATUS p 0 10 = true) :=
  ⟨(st fun c => (lane0 9 (c.wr rPORT_STATUS 9 0 0x401))), 9, by decide +kernel⟩
theorem wit_lane_cells_22_b : ∃ (s : State) (p : Fin 48),
    (s.chip.up (.bank (bankOf p)) = true) ∧ (s.chip.isLane p = true) ∧ (s.chip.rb rPORT_STATUS p 0 10 = true) :=
  ⟨(st fun c => ((lane0 9 (c.wr rPORT_STATUS 9 0 0x401)).setBank 1 { family := 1, newFamily := 1, step := 1 })), 9, by decide +kernel⟩
theorem wit_lane_cells_22_c : ∃ (s : State) (p : Fin 48),
    (s.chip.up (.bank (bankOf p)) = true) ∧ (s.chip.isLane p = true) ∧ (s.chip.rb rPORT_STATUS p 0 10 = true) :=
  ⟨(st fun c => (lane0 9 (c.wr rPORT_STATUS 9 0 0x401)).setPort 8 { ringNow := true }), 9, by decide +kernel⟩
theorem wit_banks_rings_and_inserts_1 : ∃ (s : State) (k : Fin 6),
    (s.chip.up (.bank k) = true) ∧ ((s.chip.bank k).pend = true) :=
  ⟨(st fun c => (lane0 9 (c.wr rPORT_STATUS 9 0 0x401)).setBank 1 { family := 1, pend := true }), 1, by decide +kernel⟩
theorem wit_banks_rings_and_inserts_2 : ∃ (s : State) (k : Fin 6),
    (s.chip.up (.bank k) = true) ∧ ((s.chip.bank k).step = 1) :=
  ⟨(st fun c => (lane0 9 c).setBank 1 { family := 1, step := 1, newFamily := 1, newRate := 2 }), 1, by decide +kernel⟩
theorem wit_banks_rings_and_inserts_2_b : ∃ (s : State) (k : Fin 6),
    (s.chip.up (.bank k) = true) ∧ ((s.chip.bank k).step = 1) :=
  ⟨(st fun c => c.setBank 1 { family := 1, step := 1, newFamily := 2, newRate := 2 }), 1, by decide +kernel⟩
theorem wit_banks_rings_and_inserts_3 : ∃ (s : State) (k : Fin 6),
    (s.chip.up (.bank k) = true) ∧ ((s.chip.bank k).step = 2) ∧ ((∀ i : Fin 8, s.chip.isLane (8 * k + i) = true → s.chip.rb rPORT_STATUS (8 * k + i) 0 10 = true)) :=
  ⟨(st fun c => (lane0 9 (c.wr rPORT_STATUS 9 0 0x401)).setBank 1 { family := 1, step := 2 }), 1, by decide +kernel⟩
theorem wit_banks_rings_and_inserts_4 : ∃ (s : State) (k : Fin 6) (i : Fin 8),
    (s.chip.up (.bank k) = true) ∧ ((s.chip.bank k).step = 2) ∧ (s.chip.isLane (8 * k + i) = true) ∧ (s.chip.rb rPORT_STATUS (8 * k + i) 0 10 = false) :=
  ⟨(st fun c => (lane0 9 c).setBank 1 { family := 1, step := 2 }), 1, 1, by decide +kernel⟩
theorem wit_banks_rings_and_inserts_5 : ∃ (s : State) (k : Fin 6) (i : Instr),
    ((i = .bankRetrainStart k ∧ (s.chip.bank k).pend = false) ∨ (i = .bankPllLock k ∧ (s.chip.bank k).step ≠ 1) ∨ (i = .bankReady k ∧ (s.chip.bank k).step ≠ 2) ∨ (i = .portTrainFail k ∧ (s.chip.bank k).step ≠ 2) ∨ (i = .bankReady k ∧ ∃ j : Fin 8, s.chip.isLane (8 * k + j) = true ∧ s.chip.rb rPORT_STATUS (8 * k + j) 0 10 = false) ∨ (i = .portTrainFail k ∧ ∀ j : Fin 8, s.chip.isLane (8 * k + j) = true → s.chip.rb rPORT_STATUS (8 * k + j) 0 10 = true)) :=
  ⟨(st), 1, (.bankRetrainStart 1), by decide +kernel⟩
theorem wit_banks_rings_and_inserts_5_b : ∃ (s : State) (k : Fin 6) (i : Instr),
    ((i = .bankRetrainStart k ∧ (s.chip.bank k).pend = false) ∨ (i = .bankPllLock k ∧ (s.chip.bank k).step ≠ 1) ∨ (i = .bankReady k ∧ (s.chip.bank k).step ≠ 2) ∨ (i = .portTrainFail k ∧ (s.chip.bank k).step ≠ 2) ∨ (i = .bankReady k ∧ ∃ j : Fin 8, s.chip.isLane (8 * k + j) = true ∧ s.chip.rb rPORT_STATUS (8 * k + j) 0 10 = false) ∨ (i = .portTrainFail k ∧ ∀ j : Fin 8, s.chip.isLane (8 * k + j) = true → s.chip.rb rPORT_STATUS (8 * k + j) 0 10 = true)) :=
  ⟨(st fun c => (lane0 9 c).setBank 1 { family := 1, step := 2 }), 1, (.bankReady 1), by decide +kernel⟩
theorem wit_banks_rings_and_inserts_6 : ∃ (s : State) (p : Fin 48) (e : Nat),
    (e = p / 2 * 2) ∧ (s.chip.up (.bank (bankOf p)) = true) ∧ ((s.chip.port e).ringNow = true) ∧ (s.chip.rb rPORT_STATUS e 0 9 = true) ∧ (s.chip.rb rPORT_STATUS e 0 10 = true) ∧ (s.chip.rb rPORT_STATUS (e + 1) 0 10 = true) :=
  ⟨(st fun c => ((c.wr rPORT_STATUS 8 0 0x601).wr rPORT_STATUS 9 0 0x401).setPort 8 { ringNow := true }), 9, 8, by decide +kernel⟩
theorem wit_banks_rings_and_inserts_7 : ∃ (s : State) (p : Fin 48) (e : Nat),
    (e = p / 2 * 2) ∧ ((s.chip.port e).ringNow = false ∨ s.chip.rb rPORT_STATUS e 0 9 = false ∨ s.chip.rb rPORT_STATUS e 0 10 = false ∨ s.chip.rb rPORT_STATUS (e + 1) 0 10 = false) :=
  ⟨(st), 9, 8, by decide +kernel⟩
theorem wit_banks_rings_and_inserts_8 : ∃ (s : State) (a : Access) (k : Fin 6) (v : Word),
    (s.chip.takes a rBCTRL k 0 (v ||| 0x100)) ∧ ((∀ j : Fin 4, bit v j = true → s.chip.rf rPORT_CTRL (8 * k + 2 * j) 0 1 0 = 1 ∧ s.chip.rf rPORT_CTRL (8 * k + 2 * j + 1) 0 1 0 = 1)) :=
  ⟨(st fun c => (lane0 9 c).setBank 1 { family := 1, newFamily := 1, wdhold := true }), hc, 1, 0, by decide +kernel⟩
theorem wit_banks_rings_and_inserts_8_b : ∃ (s : State) (a : Access) (k : Fin 6) (v : Word),
    (s.chip.takes a rBCTRL k 0 (v ||| 0x100)) ∧ ((∀ j : Fin 4, bit v j = true → s.chip.rf rPORT_CTRL (8 * k + 2 * j) 0 1 0 = 1 ∧ s.chip.rf rPORT_CTRL (8 * k + 2 * j + 1) 0 1 0 = 1)) :=
  ⟨(st fun c => (((lane0 9 c).wr rPORT_CTRL 8 0 1).wr rPORT_CTRL 9 0 1)), hc, 1, 1, by decide +kernel⟩
theorem wit_banks_rings_and_inserts_9 : ∃ (s : State) (a : Access) (k : Fin 6) (v : Word) (j : Fin 4) (e : Nat),
    (s.chip.takes a rBCTRL k 0 (v ||| 0x100)) ∧ (fld v 3 0 = 2 ^ j.val) ∧ (e = 8 * k + 2 * j) ∧ (s.chip.rf rPORT_CTRL e 0 1 0 ≠ 1 ∨ s.chip.rf rPORT_CTRL (e + 1) 0 1 0 ≠ 1) :=
  ⟨(st fun c => ((lane0 9 c).wr rPORT_CTRL 9 0 1)), hc, 1, 2, 1, 10, by decide +kernel⟩
theorem wit_banks_rings_and_inserts_10 : ∃ (s : State) (n : Fin 48) (u : Fin 2) (e : UrgEnt) (t : List UrgEnt) (v : UrgEnt),
    (s.chip.up (.bank (bankOf n)) = true) ∧ (s.chip.urgQueue u (bankOf n) = e :: t) ∧ (e.words = t.length + 1) ∧ (t.length ≤ 1) ∧ (e.left = 1#8 <<< (n.val % 8)) ∧ (s.chip.urgQueue (1 - u) (bankOf n) = [] ∨ s.chip.urgQueue (1 - u) (bankOf n) = [v] ∧ v.words = 1 ∧ (e.ts < v.ts ∨ e.ts = v.ts ∧ u = 0)) ∧ (s.chip.isLane n = true) ∧ (s.chip.bankReady n = true) ∧ (s.chip.ringOdd n = false) :=
  ⟨(st fun c => ((lane0 9 c).wr rLCTRL 9 0 2).setUrgQueue 0 1 [{ mask := 2, word := 4, words := 2, ts := 0, left := 2 }, { mask := 2, word := 7, words := 0, ts := 0, left := 2 }]), 9, 0, { mask := 2, word := 4, words := 2, ts := 0, left := 2 }, [{ mask := 2, word := 7, words := 0, ts := 0, left := 2 }], { mask := 0, word := 0, words := 0, ts := 0, left := 0 }, by decide +kernel⟩
theorem wit_banks_rings_and_inserts_10_b : ∃ (s : State) (n : Fin 48) (u : Fin 2) (e : UrgEnt) (t : List UrgEnt) (v : UrgEnt),
    (s.chip.up (.bank (bankOf n)) = true) ∧ (s.chip.urgQueue u (bankOf n) = e :: t) ∧ (e.words = t.length + 1) ∧ (t.length ≤ 1) ∧ (e.left = 1#8 <<< (n.val % 8)) ∧ (s.chip.urgQueue (1 - u) (bankOf n) = [] ∨ s.chip.urgQueue (1 - u) (bankOf n) = [v] ∧ v.words = 1 ∧ (e.ts < v.ts ∨ e.ts = v.ts ∧ u = 0)) ∧ (s.chip.isLane n = true) ∧ (s.chip.bankReady n = true) ∧ (s.chip.ringOdd n = false) :=
  ⟨(st fun c => (((lane0 8 c).setPort 8 { ringNow := true }).setUrgQueue 1 1 [{ mask := 1, word := 4, words := 1, ts := 3, left := 1 }]).setUrgQueue 0 1 [{ mask := 1, word := 4, words := 1, ts := 5, left := 1 }]), 8, 1, { mask := 1, word := 4, words := 1, ts := 3, left := 1 }, [], { mask := 1, word := 4, words := 1, ts := 5, left := 1 }, by decide +kernel⟩
theorem wit_banks_rings_and_inserts_12 : ∃ (s : State) (n : Fin 48) (u : Fin 2) (e : UrgEnt),
    (s.chip.up (.bank (bankOf n)) = true) ∧ (s.chip.urgQueue u (bankOf n) = [e]) ∧ (s.chip.urgQueue (1 - u) (bankOf n) = []) ∧ (e.words = 1) ∧ (e.left = 1#8 <<< (n.val % 8)) ∧ (s.chip.isLane n = false ∨ s.chip.bankReady n = false) ∧ (s.chip.ringOdd n = false) :=
  ⟨(st fun c => c.setUrgQueue 0 1 [{ mask := 2, word := 5, words := 1, ts := 0, left := 2 }]), 9, 0, { mask := 2, word := 5, words := 1, ts := 0, left := 2 }, by decide +kernel⟩
theorem wit_banks_rings_and_inserts_13 : ∃ (s : State) (n : Fin 48),
    (s.chip.up (.bank (bankOf n)) = false ∨ s.chip.insertFrom n = none) :=
  ⟨(st), 9, by decide +kernel⟩
theorem wit_refreshes_and_rdm_1 : ∃ (s : State) (k : Fin 6) (f : Nat) (g : Nat),
    (s.chip.up (.bank k) = true) ∧ (f = familyOf ((bankPorts k).map fun p => s.chip.rf rPORT_CTRL p 0 1 0)) ∧ (g = familyOf ((bankPorts k).map s.chip.modeNow)) :=
  ⟨(st fun c => (c.wr rPORT_CTRL 9 0 0x02000001)), 1, 1, 0, by decide +kernel⟩
theorem wit_refreshes_and_rdm_1_b : ∃ (s : State) (k : Fin 6) (f : Nat) (g : Nat),
    (s.chip.up (.bank k) = true) ∧ (f = familyOf ((bankPorts k).map fun p => s.chip.rf rPORT_CTRL p 0 1 0)) ∧ (g = familyOf ((bankPorts k).map s.chip.modeNow)) :=
  ⟨(st fun c => ((dmx0 9 c).wr rPORT_STATUS 9 0 0x83).wr rPORT_CTRL 9 0 0x02000002), 1, 2, 2, by decide +kernel⟩
theorem wit_refreshes_and_rdm_1_c : ∃ (s : State) (k : Fin 6) (f : Nat) (g : Nat),
    (s.chip.up (.bank k) = true) ∧ (f = familyOf ((bankPorts k).map fun p => s.chip.rf rPORT_CTRL p 0 1 0)) ∧ (g = familyOf ((bankPorts k).map s.chip.modeNow)) :=
  ⟨(st fun c => ((dmx0 9 c).wr rPORT_STATUS 9 0 0x83).wr rPORT_CTRL 9 0 0x02000001), 1, 1, 2, by decide +kernel⟩
theorem wit_refreshes_and_rdm_1_d : ∃ (s : State) (k : Fin 6) (f : Nat) (g : Nat),
    (s.chip.up (.bank k) = true) ∧ (f = familyOf ((bankPorts k).map fun p => s.chip.rf rPORT_CTRL p 0 1 0)) ∧ (g = familyOf ((bankPorts k).map s.chip.modeNow)) :=
  ⟨(st fun c => (((lane0 9 c).wr rPORT_CTRL 8 0 1).wr rPORT_CTRL 9 0 1).wr rBCTRL 1 0 1), 1, 1, 1, by decide +kernel⟩
theorem wit_refreshes_and_rdm_1_e : ∃ (s : State) (k : Fin 6) (f : Nat) (g : Nat),
    (s.chip.up (.bank k) = true) ∧ (f = familyOf ((bankPorts k).map fun p => s.chip.rf rPORT_CTRL p 0 1 0)) ∧ (g = familyOf ((bankPorts k).map s.chip.modeNow)) :=
  ⟨(st fun c => (lane0 9 c)), 1, 0, 1, by decide +kernel⟩
theorem wit_refreshes_and_rdm_2 : ∃ (s : State) (p : Fin 48) (r : Record),
    (s.chip.bankReady p = true) ∧ (2 ≤ s.chip.modeNow p) ∧ (gridK s.chip.time.grid (s.chip.time.now - s.chip.refreshOfs p) % (s.chip.rf rPORT_CTRL p 0 19 16 + 1 : Nat) = s.chip.dphase p) ∧ ((s.chip.port p).refused = false) ∧ (s.chip.rb rPORT_STATUS p 0 7 = false) ∧ ((s.chip.port p).rdm.running = false) ∧ ((s.chip.port p).pendApply = none) ∧ ((s.chip.bank (bankOf p)).wdhold = false) ∧ ((s.chip.port p).filling = some r) :=
  ⟨(st fun c => ((dmx0 9 c).setPort 9 { filling := some ⟨1, 2⟩ }).setWord 0x50048000 0x01020304), 9, ⟨1, 2⟩, by decide +kernel⟩
theorem wit_refreshes_and_rdm_2_b : ∃ (s : State) (p : Fin 48) (r : Record),
    (s.chip.bankReady p = true) ∧ (2 ≤ s.chip.modeNow p) ∧ (gridK s.chip.time.grid (s.chip.time.now - s.chip.refreshOfs p) % (s.chip.rf rPORT_CTRL p 0 19 16 + 1 : Nat) = s.chip.dphase p) ∧ ((s.chip.port p).refused = false) ∧ (s.chip.rb rPORT_STATUS p 0 7 = false) ∧ ((s.chip.port p).rdm.running = false) ∧ ((s.chip.port p).pendApply = none) ∧ ((s.chip.bank (bankOf p)).wdhold = false) ∧ ((s.chip.port p).filling = some r) :=
  ⟨(st fun c => ((((dmx0 9 c).wr rPORT_STATUS 9 0 2).wr rCDR_STATUS 0 0 2).setPort 9 { filling := some ⟨1, 2⟩ }).setWord 0x50048000 0x01020304), 9, ⟨1, 2⟩, by decide +kernel⟩
theorem wit_refreshes_and_rdm_3 : ∃ (s : State) (p : Fin 48) (r : Record),
    (s.chip.bankReady p = true) ∧ (2 ≤ s.chip.modeNow p) ∧ (gridK s.chip.time.grid (s.chip.time.now - s.chip.refreshOfs p) % (s.chip.rf rPORT_CTRL p 0 19 16 + 1 : Nat) = s.chip.dphase p) ∧ ((s.chip.port p).refused = false) ∧ (s.chip.rb rPORT_STATUS p 0 7 = false) ∧ ((s.chip.port p).rdm.running = false) ∧ ((s.chip.port p).pendApply = none) ∧ ((s.chip.bank (bankOf p)).wdhold = true ∨ (s.chip.port p).filling = none) ∧ ((s.chip.port p).draining = some r) :=
  ⟨(st fun c => ((dmx0 9 c).setPort 9 { draining := some ⟨1, 2⟩ }).setWord 0x50048000 0x01020304), 9, ⟨1, 2⟩, by decide +kernel⟩
theorem wit_refreshes_and_rdm_4 : ∃ (s : State) (p : Fin 48),
    (s.chip.bankReady p = true) ∧ (2 ≤ s.chip.modeNow p) ∧ (gridK s.chip.time.grid (s.chip.time.now - s.chip.refreshOfs p) % (s.chip.rf rPORT_CTRL p 0 19 16 + 1 : Nat) = s.chip.dphase p) ∧ ((s.chip.port p).refused = false) ∧ (s.chip.rb rPORT_STATUS p 0 7 = true) :=
  ⟨(st fun c => (dmx0 9 c).wb rPORT_STATUS 9 0 7 true), 9, by decide +kernel⟩
theorem wit_refreshes_and_rdm_5 : ∃ (s : State) (p : Fin 48),
    (s.chip.bankReady p = true) ∧ (2 ≤ s.chip.modeNow p) ∧ (gridK s.chip.time.grid (s.chip.time.now - s.chip.refreshOfs p) % (s.chip.rf rPORT_CTRL p 0 19 16 + 1 : Nat) = s.chip.dphase p) ∧ ((s.chip.port p).refused = false) ∧ (s.chip.rb rPORT_STATUS p 0 7 = false) ∧ ((s.chip.port p).rdm.running = true) :=
  ⟨(st fun c => (dmx0 9 c).setPort 9 { rdm := { running := true } }), 9, by decide +kernel⟩
theorem wit_refreshes_and_rdm_6 : ∃ (s : State) (p : Fin 48),
    (s.chip.bankReady p = false ∨ s.chip.modeNow p < 2 ∨ gridK s.chip.time.grid (s.chip.time.now - s.chip.refreshOfs p) % (s.chip.rf rPORT_CTRL p 0 19 16 + 1 : Nat) ≠ s.chip.dphase p ∨ (s.chip.port p).refused = true ∨ s.chip.portBusy p = false ∧ ((s.chip.port p).pendApply ≠ none ∨ ((s.chip.bank (bankOf p)).wdhold = true ∨ (s.chip.port p).filling = none) ∧ (s.chip.port p).draining = none)) :=
  ⟨(st), 9, by decide +kernel⟩
theorem wit_refreshes_and_rdm_6_b : ∃ (s : State) (p : Fin 48),
    (s.chip.bankReady p = false ∨ s.chip.modeNow p < 2 ∨ gridK s.chip.time.grid (s.chip.time.now - s.chip.refreshOfs p) % (s.chip.rf rPORT_CTRL p 0 19 16 + 1 : Nat) ≠ s.chip.dphase p ∨ (s.chip.port p).refused = true ∨ s.chip.portBusy p = false ∧ ((s.chip.port p).pendApply ≠ none ∨ ((s.chip.bank (bankOf p)).wdhold = true ∨ (s.chip.port p).filling = none) ∧ (s.chip.port p).draining = none)) :=
  ⟨(st fun c => (dmx0 9 c)), 9, by decide +kernel⟩
theorem wit_refreshes_and_rdm_7 : ∃ (s : State) (p : Fin 48),
    (s.chip.up (.bank (bankOf p)) = true) ∧ (s.chip.rb rPORT_STATUS p 0 7 = true) ∧ ((s.chip.port p).pendApply = none) :=
  ⟨(st fun c => (dmx0 9 c).wb rPORT_STATUS 9 0 7 true), 9, by decide +kernel⟩
theorem wit_refreshes_and_rdm_8 : ∃ (s : State) (p : Fin 48) (m : Nat) (h : Nat),
    (s.chip.up (.bank (bankOf p)) = true) ∧ (s.chip.rb rPORT_STATUS p 0 7 = true) ∧ ((s.chip.port p).rdm.running = false) ∧ ((s.chip.port p).pendApply = some (m, h)) ∧ (m < 4) ∧ ((∀ q : Fin 48, q ≠ p → bankOf q = bankOf p → s.chip.portBusy q = false)) :=
  ⟨(st fun c => ((dmx0 9 c).wb rPORT_STATUS 9 0 7 true).setPort 9 { pendApply := some (2, 5) }), 9, 2, 5, by decide +kernel⟩
theorem wit_refreshes_and_rdm_9 : ∃ (s : State) (p : Fin 48),
    (s.chip.rb rPORT_STATUS p 0 7 = false) :=
  ⟨(st), 9, by decide +kernel⟩
theorem wit_refreshes_and_rdm_10 : ∃ (s : State) (a : Access) (p : Fin 48) (v : Word),
    (s.chip.takes a rRDM_CTRL p 0 (v ||| 0x80000000)) ∧ (s.chip.rb rRDM_CTRL p 0 31 = false) :=
  ⟨(st fun c => (dmx0 9 c).wr rPORT_CTRL 9 0 7), hc, 9, 5, by decide +kernel⟩
theorem wit_refreshes_and_rdm_10_b : ∃ (s : State) (a : Access) (p : Fin 48) (v : Word),
    (s.chip.takes a rRDM_CTRL p 0 (v ||| 0x80000000)) ∧ (s.chip.rb rRDM_CTRL p 0 31 = false) :=
  ⟨(st), hc, 9, 5, by decide +kernel⟩
theorem wit_refreshes_and_rdm_11 : ∃ (s : State) (a : Access) (p : Fin 48) (v : Word),
    (s.chip.takes a rRDM_CTRL p 0 (v ||| 0x80000000)) ∧ (s.chip.rb rRDM_CTRL p 0 31 = true) :=
  ⟨(st fun c => (dmx0 9 c).wr rRDM_CTRL 9 0 0x80000000), hc, 9, 5, by decide +kernel⟩
theorem wit_refreshes_and_rdm_12 : ∃ (s : State) (p : Fin 48) (l : List Byte),
    (s.chip.bankReady p = true) ∧ (s.chip.modeNow p = 3) ∧ ((s.chip.port p).rdm.waiting = true) ∧ (s.chip.portBusy p = false) ∧ ((s.chip.port p).pendApply = none) ∧ (1000 * s.chip.rf rRDM_TIME p 0 15 0 ≤ s.chip.nextRefresh p - s.chip.time.now) ∧ (l = (List.range (s.chip.rf rRDM_CTRL p 0 7 0)).map (fun i => s.chip.txByte p i)) :=
  ⟨(st fun c => ((((dmx0 9 c).wr rRDM_TIME 9 0 0).wr rRDM_CTRL 9 0 0x80000003).wr rTXBUF 9 0 0x00030201).setPort 9 { rdm := { waiting := true } }), 9, [1, 2, 3], by decide +kernel⟩
theorem wit_refreshes_and_rdm_13 : ∃ (s : State) (p : Fin 48),
    (s.chip.bankReady p = false ∨ s.chip.modeNow p ≠ 3 ∨ (s.chip.port p).rdm.waiting = false ∨ s.chip.portBusy p = true ∨ (s.chip.port p).pendApply ≠ none ∨ s.chip.nextRefresh p - s.chip.time.now < 1000 * s.chip.rf rRDM_TIME p 0 15 0) :=
  ⟨(st), 9, by decide +kernel⟩
theorem wit_refreshes_and_rdm_14 : ∃ (s : State) (p : Fin 48) (r : RdmReply) (h : RdmReply) (no : Bool) (n : Nat),
    (s.chip.up (.bank (bankOf p)) = true) ∧ ((s.chip.port p).rdm = { running := true }) ∧ ((s.chip.port p).pendApply = none) ∧ (no = s.chip.rb rRDM_CTRL p 0 29) ∧ (h = rdmHeard no (s.chip.rb rRDM_CTRL p 0 30) r) ∧ (n = rdmResult no (s.chip.rb rRDM_CTRL p 0 30) h) :=
  ⟨(st fun c => ((dmx0 9 c).setPort 9 { rdm := { running := true } })), 9, { bytes := [1, 2, 3, 0, 6] }, { bytes := [1, 2, 3, 0, 6] }, false, 0, by and_intros <;> first | with_reducible rfl | decide +kernel | rfl⟩
theorem wit_refreshes_and_rdm_14_b : ∃ (s : State) (p : Fin 48) (r : RdmReply) (h : RdmReply) (no : Bool) (n : Nat),
    (s.chip.up (.bank (bankOf p)) = true) ∧ ((s.chip.port p).rdm = { running := true }) ∧ ((s.chip.port p).pendApply = none) ∧ (no = s.chip.rb rRDM_CTRL p 0 29) ∧ (h = rdmHeard no (s.chip.rb rRDM_CTRL p 0 30) r) ∧ (n = rdmResult no (s.chip.rb rRDM_CTRL p 0 30) h) :=
  ⟨(st fun c => ((dmx0 9 c).setPort 9 { rdm := { running := true } })), 9, { bytes := [1, 2], brk := false }, { bytes := [] }, false, 1, by and_intros <;> first | with_reducible rfl | decide +kernel | rfl⟩
theorem wit_refreshes_and_rdm_15 : ∃ (s : State) (p : Fin 48) (b : Bool),
    (s.chip.up (.bank (bankOf p)) = true) ∧ ((s.chip.port p).rdm = { running := true }) ∧ (s.chip.rb rRDM_CTRL p 0 29 = false) ∧ ((s.chip.port p).pendApply = none) :=
  ⟨(st fun c => (dmx0 9 c).setPort 9 { rdm := { running := true } }), 9, false, by decide +kernel⟩
theorem wit_refreshes_and_rdm_16 : ∃ (s : State) (p : Fin 48) (r : RdmReply) (x : Record),
    (s.chip.up (.bank (bankOf p)) = true) ∧ ((s.chip.port p).rdm = { running := true, delayed := true }) ∧ ((s.chip.port p).pendApply = none) ∧ ((s.chip.bank (bankOf p)).wdhold = false) ∧ ((s.chip.port p).filling = some x ∨ (s.chip.port p).filling = none ∧ (s.chip.port p).draining = some x) :=
  ⟨(st fun c => (dmx0 9 c).setPort 9 { rdm := { running := true, delayed := true }, filling := some ⟨1, 2⟩ }), 9, { bytes := [] }, ⟨1, 2⟩, by decide +kernel⟩
theorem wit_refreshes_and_rdm_17 : ∃ (s : State) (p : Fin 48) (r : RdmReply),
    ((s.chip.port p).rdm.running = false) :=
  ⟨(st), 9, { bytes := [] }, by decide +kernel⟩
theorem wit_lane_discovery_1 : ∃ (s : State) (a : Access) (p : Fin 48) (v : Word),
    (s.chip.takes a rLDISC p 0 (v ||| 0x80000000)) :=
  ⟨(st), hc, 9, 5, by decide +kernel⟩
theorem wit_lane_discovery_1_b : ∃ (s : State) (a : Access) (p : Fin 48) (v : Word),
    (s.chip.takes a rLDISC p 0 (v ||| 0x80000000)) :=
  ⟨(st fun c => c.wr rLDISC 9 0 0x80000000), hc, 9, 5, by decide +kernel⟩
theorem wit_lane_discovery_2 : ∃ (s : State) (p : Fin 48) (k : OwnCell),
    (s.chip.isLane p = true) ∧ (s.chip.ringOdd p = false) ∧ (s.chip.bankReady p = true) ∧ ((s.chip.port p).disc.asked = true) ∧ ((s.chip.port p).presentDue = false) ∧ ((s.chip.port p).urgent = []) ∧ (s.chip.rb rRAS_CTRL 0 0 0 = false ∨ s.chip.ras.hold ≠ none ∨ (s.chip.port p).window = false ∧ s.chip.ras.inFrame = false ∧ (∀ b ∈ (s.chip.port p).blank, fld b.head 31 28 ≠ 0xC)) ∧ (s.chip.insertFrom p = none) ∧ (k = s.chip.discoverCell p (s.chip.rd rLTOKEN p + 1)) :=
  ⟨(st fun c => (lane0 9 c).setPort 9 { disc := { asked := true } }), 9, ((st fun c => (lane0 9 c).setPort 9 { disc := { asked := true } }).chip.discoverCell 9 1), by and_intros <;> first | with_reducible rfl | decide +kernel | rfl⟩
theorem wit_lane_discovery_3 : ∃ (s : State) (p : Fin 48),
    (s.chip.isLane p = false ∨ s.chip.ringOdd p = true ∨ s.chip.bankReady p = false ∨ (s.chip.port p).disc.asked = false ∨ (s.chip.port p).presentDue = true ∨ (s.chip.port p).urgent ≠ [] ∨ s.chip.rb rRAS_CTRL 0 0 0 = true ∧ s.chip.ras.hold = none ∧ ((s.chip.port p).window = true ∨ s.chip.ras.inFrame = true ∨ ∃ b ∈ (s.chip.port p).blank, fld b.head 31 28 = 0xC)) :=
  ⟨(st), 9, by decide +kernel⟩
theorem wit_lane_discovery_4 : ∃ (s : State) (p : Fin 48) (x : RxCell) (tok : Word) (t : Nat),
    (s.chip.up (.bank (bankOf p)) = true) ∧ (s.chip.isLane p = true) ∧ ((s.chip.bank (bankOf p)).step ≠ 1) ∧ (wordsCrc (x.head :: x.slots) = x.trailer) ∧ (x.slots.length = 62) ∧ (bit x.head 1 = false) ∧ (s.chip.paired p = false) ∧ (s.chip.rb rPORT_STATUS p 0 10 = true) ∧ (fld x.head 31 28 = 0xD) ∧ (2 ≤ fld x.head 7 2) ∧ ((s.chip.port p).disc.out = some (tok, t)) ∧ (x.slots.getD 1 0 = tok) :=
  ⟨(st fun c => (lane0 9 (c.wr rPORT_STATUS 9 0 0x401)).setPort 9 { disc := { out := some (7, 4) } }), 9, { head := 0xD000000C, slots := 0x0A005000 :: 7 :: List.replicate 60 0, trailer := wordsCrc (0xD000000C :: 0x0A005000 :: 7 :: List.replicate 60 0), quarter := 50 }, 7, 4, by decide +kernel⟩
theorem wit_lane_discovery_5 : ∃ (s : State) (p : Fin 48),
    (s.chip.up (.bank (bankOf p)) = true) ∧ ((s.chip.port p).disc.out ≠ none) :=
  ⟨(st fun c => c.setPort 9 { disc := { out := some (1, 2) } }), 9, by decide +kernel⟩
theorem wit_lane_discovery_6 : ∃ (s : State) (p : Fin 48),
    (s.chip.up (.bank (bankOf p)) = false ∨ (s.chip.port p).disc.out = none) :=
  ⟨(st), 9, by decide +kernel⟩

end Sys2Proof.Tests.WitnessK
end

