-- ==== Sys2Proof/Tests/WitnessL.lean ====
section
/-! SUPPORT. States and operands that meet the hypotheses of the statements, part L. -/

namespace Sys2Proof.Tests.WitnessL

open Sys2Proof Sys2Proof.Machine Sys2Proof.Tests

set_option maxRecDepth 100000
set_option Elab.async false
set_option linter.unusedVariables false
set_option linter.unreachableTactic false
set_option linter.unusedTactic false

def lane9 : Chip → Chip := fun c => (((c.wr rPORT_STATUS 9 0 1).setBank 1 { family := 1 }).wr rDRV_CTRL 0 0 1).wr rLCTRL 9 0 0x10000
def celOn : Chip → Chip := fun c => { (c.wr rCEL_CTRL 0 0 0x100F) with cel := { c.cel with serving := true } }
def tl0 : Chip → Chip := fun c => (lane9 c).wr rDRV_TLOSS 0 0 0
def hot0 : Chip → Chip := fun c => ((((lane9 c).setNode 0 { got := true, temp := some 170, codeMax := 255, code := 7 }).wr rDRV_TRIP 0 0 100).wr rCOMM_TRIP 0 0 100).wr rDRV_TLOSS 0 0 5
def two0 : Chip → Chip := fun c => ((hot0 c).wr rLCTRL 9 0 0x20000).wr rNBASE 9 0 4
def lht9 (w : Word) : Chip → Chip := fun c => ((celOn c).setWords (0x94000000 + 144) [0x80000064, 1, 1]).setWord (lhtAddr 100) w
def ret9 (w2 : Word) : RetCell := { port := 9, head := 0xC0010000, words := [0x00123005, 7, w2], t := 0 }
def k0 : Int := gridK (st lane9).chip.time.grid ((st lane9).chip.now + (st lane9).chip.evalLead)
theorem wit_drive_evaluation_and_records_1 : ∃ (s : State) (k : Int),
    (s.chip.up .drv = true) ∧ (s.chip.rb rDRV_CTRL 0 0 0 = true) ∧ (s.chip.drvFollows = false) ∧ (s.chip.cdr.fresh = false) ∧ (s.chip.celUp = false ∨ s.chip.celCalm) ∧ ((∀ p : Fin 48, (s.chip.lhtPort p).2.valid = false)) ∧ (k = gridK s.chip.time.grid (s.chip.now + s.chip.evalLead)) :=
  ⟨(st lane9), k0, by decide +kernel⟩
theorem wit_drive_evaluation_and_records_2 : ∃ (s : State) (p : Fin 48) (a : Nat) (n : Nat) (x : NodeSt),
    (s.chip.up .drv = true) ∧ (s.chip.rb rDRV_CTRL 0 0 0 = true) ∧ (s.chip.drvFollows = false) ∧ (s.chip.cdr.fresh = false) ∧ (s.chip.celUp = false ∨ s.chip.celCalm) ∧ ((∀ q : Fin 48, (s.chip.lhtPort q).2.valid = false)) ∧ (p.val ∈ s.chip.drivePorts) ∧ (1 ≤ a) ∧ (a ≤ s.chip.portNodes p) ∧ (n = s.chip.nodeIdx p a) ∧ (n ≤ 8191) ∧ ((∀ q ∈ s.chip.drivePorts, ∀ b < s.chip.portNodes q, s.chip.nodeIdx q (b + 1) = n → q = p.val ∧ b + 1 = a)) ∧ (x = s.chip.nodeNext (s.chip.node n) (s.chip.port p).present.isSome) :=
  ⟨(st tl0), 9, 1, 0, ((st tl0).chip.nodeNext {} false), by and_intros <;> first | with_reducible rfl | decide +kernel | rfl⟩
theorem wit_drive_evaluation_and_records_2_b : ∃ (s : State) (p : Fin 48) (a : Nat) (n : Nat) (x : NodeSt),
    (s.chip.up .drv = true) ∧ (s.chip.rb rDRV_CTRL 0 0 0 = true) ∧ (s.chip.drvFollows = false) ∧ (s.chip.cdr.fresh = false) ∧ (s.chip.celUp = false ∨ s.chip.celCalm) ∧ ((∀ q : Fin 48, (s.chip.lhtPort q).2.valid = false)) ∧ (p.val ∈ s.chip.drivePorts) ∧ (1 ≤ a) ∧ (a ≤ s.chip.portNodes p) ∧ (n = s.chip.nodeIdx p a) ∧ (n ≤ 8191) ∧ ((∀ q ∈ s.chip.drivePorts, ∀ b < s.chip.portNodes q, s.chip.nodeIdx q (b + 1) = n → q = p.val ∧ b + 1 = a)) ∧ (x = s.chip.nodeNext (s.chip.node n) (s.chip.port p).present.isSome) :=
  ⟨(st hot0), 9, 1, 0, ((st hot0).chip.nodeNext { got := true, temp := some 170, codeMax := 255, code := 7 } false), by and_intros <;> first | with_reducible rfl | decide +kernel | rfl⟩
theorem wit_drive_evaluation_and_records_2_c : ∃ (s : State) (p : Fin 48) (a : Nat) (n : Nat) (x : NodeSt),
    (s.chip.up .drv = true) ∧ (s.chip.rb rDRV_CTRL 0 0 0 = true) ∧ (s.chip.drvFollows = false) ∧ (s.chip.cdr.fresh = false) ∧ (s.chip.celUp = false ∨ s.chip.celCalm) ∧ ((∀ q : Fin 48, (s.chip.lhtPort q).2.valid = false)) ∧ (p.val ∈ s.chip.drivePorts) ∧ (1 ≤ a) ∧ (a ≤ s.chip.portNodes p) ∧ (n = s.chip.nodeIdx p a) ∧ (n ≤ 8191) ∧ ((∀ q ∈ s.chip.drivePorts, ∀ b < s.chip.portNodes q, s.chip.nodeIdx q (b + 1) = n → q = p.val ∧ b + 1 = a)) ∧ (x = s.chip.nodeNext (s.chip.node n) (s.chip.port p).present.isSome) :=
  ⟨(st two0), 9, 2, 5, ((st two0).chip.nodeNext {} false), by and_intros <;> first | with_reducible rfl | decide +kernel | rfl⟩
theorem wit_drive_evaluation_and_records_3 : ∃ (s : State) (p : Fin 48) (n : Nat) (e : Nat) (l : LhtPort) (w : Word),
    (s.chip.up .drv = true) ∧ (s.chip.rb rDRV_CTRL 0 0 0 = true) ∧ (s.chip.rb rDRV_CTRL 0 0 1 = false) ∧ (s.chip.drvFollows = false) ∧ (s.chip.cdr.fresh = false) ∧ (s.chip.celCalm) ∧ (s.chip.rb rECC_INJ 0 0 31 = false) ∧ (l = (s.chip.lhtPort p).2) ∧ (l.valid = true) ∧ (l.nodes = 1) ∧ (l.chans = 1) ∧ ((∀ q : Fin 48, q ≠ p → (s.chip.lhtPort q).2.valid = false)) ∧ (s.chip.drivePorts = [p.val]) ∧ ((s.chip.port p).present ≠ none) ∧ (n = s.chip.nodeIdx p 1) ∧ ((s.chip.node n).got = false) ∧ (e = l.entry 1 0) ∧ (32 ≤ e) ∧ (e < 0x200000) ∧ (w = s.chip.word (lhtAddr e)) :=
  ⟨(st fun c => (lht9 0x10000007 (lane9 c)).setPort 9 { present := some 5 }), 9, 0, 100, ⟨true, 100, 1, 1⟩, 0x10000007, by and_intros <;> first | with_reducible rfl | decide +kernel | rfl⟩
theorem wit_drive_evaluation_and_records_4 : ∃ (s : State),
    (s.chip.up .drv = false ∨ s.chip.rb rDRV_CTRL 0 0 0 = false) :=
  ⟨(st), by decide +kernel⟩
theorem wit_drive_evaluation_and_records_5 : ∃ (s : State),
    (s.chip.up .drv = false ∨ s.chip.retQ = []) :=
  ⟨(st), by decide +kernel⟩
theorem wit_drive_evaluation_and_records_6 : ∃ (s : State) (x : RetCell) (t : List RetCell) (w0 : Word) (w1 : Word) (w2 : Word) (k : Int) (n : Nat),
    (s.chip.up .drv = true) ∧ (s.chip.retQ = x :: t) ∧ (x.words = [w0, w1, w2]) ∧ (s.chip.ringOdd x.port = false) ∧ (s.chip.recw x.port = 3) ∧ (w0 ≠ 0 ∨ w1 ≠ 0 ∨ w2 ≠ 0) ∧ (fld w0 31 20 = fld x.head 27 16) ∧ (s.chip.drvFollows = false) ∧ (s.chip.drv.evalK = some k) ∧ (s.chip.ras.proofs = []) ∧ (n = s.chip.nodeIdx x.port (fld x.head 27 16)) ∧ (s.chip.celUp = false ∨ s.chip.celCalm) ∧ ((s.chip.lhtPort x.port).2.valid = false) ∧ (fld x.head 31 28 = 0xC) :=
  ⟨(st fun c => { (c.setDrv { evalK := some 5 }) with retQ := [ret9 0] }), (ret9 0), [], 0x00123005, 7, 0, 5, 0, by decide +kernel⟩
theorem wit_drive_evaluation_and_records_6_b : ∃ (s : State) (x : RetCell) (t : List RetCell) (w0 : Word) (w1 : Word) (w2 : Word) (k : Int) (n : Nat),
    (s.chip.up .drv = true) ∧ (s.chip.retQ = x :: t) ∧ (x.words = [w0, w1, w2]) ∧ (s.chip.ringOdd x.port = false) ∧ (s.chip.recw x.port = 3) ∧ (w0 ≠ 0 ∨ w1 ≠ 0 ∨ w2 ≠ 0) ∧ (fld w0 31 20 = fld x.head 27 16) ∧ (s.chip.drvFollows = false) ∧ (s.chip.drv.evalK = some k) ∧ (s.chip.ras.proofs = []) ∧ (n = s.chip.nodeIdx x.port (fld x.head 27 16)) ∧ (s.chip.celUp = false ∨ s.chip.celCalm) ∧ ((s.chip.lhtPort x.port).2.valid = false) ∧ (fld x.head 31 28 = 0xC) :=
  ⟨(st fun c => { (c.setDrv { evalK := some 6 }) with retQ := [ret9 0], ras := { c.ras with start := 100000000 } }), (ret9 0), [], 0x00123005, 7, 0, 6, 0, by decide +kernel⟩
theorem wit_drive_evaluation_and_records_6_c : ∃ (s : State) (x : RetCell) (t : List RetCell) (w0 : Word) (w1 : Word) (w2 : Word) (k : Int) (n : Nat),
    (s.chip.up .drv = true) ∧ (s.chip.retQ = x :: t) ∧ (x.words = [w0, w1, w2]) ∧ (s.chip.ringOdd x.port = false) ∧ (s.chip.recw x.port = 3) ∧ (w0 ≠ 0 ∨ w1 ≠ 0 ∨ w2 ≠ 0) ∧ (fld w0 31 20 = fld x.head 27 16) ∧ (s.chip.drvFollows = false) ∧ (s.chip.drv.evalK = some k) ∧ (s.chip.ras.proofs = []) ∧ (n = s.chip.nodeIdx x.port (fld x.head 27 16)) ∧ (s.chip.celUp = false ∨ s.chip.celCalm) ∧ ((s.chip.lhtPort x.port).2.valid = false) ∧ (fld x.head 31 28 = 0xC) :=
  ⟨(st fun c => { ((c.setDrv { evalK := some 5 }).setNode 0 { got := true }) with retQ := [ret9 0] }), (ret9 0), [], 0x00123005, 7, 0, 5, 0, by decide +kernel⟩
theorem wit_drive_evaluation_and_records_7 : ∃ (s : State) (x : RetCell) (t : List RetCell) (w0 : Word) (w1 : Word) (w2 : Word),
    (s.chip.up .drv = true) ∧ (s.chip.retQ = x :: t) ∧ (x.words = [w0, w1, w2]) ∧ (s.chip.ringOdd x.port = false) ∧ (s.chip.recw x.port = 3) ∧ (fld x.head 31 28 = 0xC) ∧ (s.chip.ras.proofs = []) ∧ (w0 = 0 ∧ w1 = 0 ∧ w2 = 0 ∨ fld w0 31 20 ≠ fld x.head 27 16 ∨ (s.chip.drvFollows = true ∨ s.chip.drv.evalK = none) ∧ s.chip.now ≤ s.chip.echoEnd (fld w0 7 0)) :=
  ⟨(st fun c => { c with retQ := [{ ret9 0 with words := [0, 0, 0] }] }), { ret9 0 with words := [0, 0, 0] }, [], 0, 0, 0, by decide +kernel⟩
theorem wit_drive_evaluation_and_records_7_b : ∃ (s : State) (x : RetCell) (t : List RetCell) (w0 : Word) (w1 : Word) (w2 : Word),
    (s.chip.up .drv = true) ∧ (s.chip.retQ = x :: t) ∧ (x.words = [w0, w1, w2]) ∧ (s.chip.ringOdd x.port = false) ∧ (s.chip.recw x.port = 3) ∧ (fld x.head 31 28 = 0xC) ∧ (s.chip.ras.proofs = []) ∧ (w0 = 0 ∧ w1 = 0 ∧ w2 = 0 ∨ fld w0 31 20 ≠ fld x.head 27 16 ∨ (s.chip.drvFollows = true ∨ s.chip.drv.evalK = none) ∧ s.chip.now ≤ s.chip.echoEnd (fld w0 7 0)) :=
  ⟨(st fun c => { (c.setDrv { evalK := some 5 }) with retQ := [{ ret9 0 with words := [0x00223005, 0, 0] }] }), { ret9 0 with words := [0x00223005, 0, 0] }, [], 0x00223005, 0, 0, by decide +kernel⟩
theorem wit_drive_evaluation_and_records_8 : ∃ (s : State) (x : RetCell) (t : List RetCell) (w0 : Word) (w1 : Word) (w2 : Word) (w : Word) (k : Int) (n : Nat) (e : Nat) (m : Nat) (l : LhtPort),
    (s.chip.up .drv = true) ∧ (s.chip.retQ = x :: t) ∧ (x.words = [w0, w1, w2]) ∧ (x.port < 48) ∧ (s.chip.ringOdd x.port = false) ∧ (s.chip.recw x.port = 3) ∧ (w0 ≠ 0) ∧ (fld w0 31 20 = fld x.head 27 16) ∧ (s.chip.drvFollows = false) ∧ (s.chip.drv.evalK = some k) ∧ (fld w0 7 0 = (k % 256).toNat) ∧ (s.chip.ras.proofs = []) ∧ (n = s.chip.nodeIdx x.port (fld x.head 27 16)) ∧ ((s.chip.node n).got = false) ∧ (s.chip.celCalm) ∧ (s.chip.rb rECC_INJ 0 0 31 = false) ∧ (l = (s.chip.lhtPort x.port).2) ∧ (l.valid = true) ∧ (l.chans = 1) ∧ (e = l.entry (fld x.head 27 16) 0) ∧ (e < 0x200000) ∧ (w = s.chip.word (lhtAddr e)) ∧ (m = fld w2 1 0) ∧ (fld x.head 31 28 = 0xC) :=
  ⟨(st fun c => { (lht9 0x00000007 (c.setDrv { evalK := some 5 })) with retQ := [ret9 2] }), (ret9 2), [], 0x00123005, 7, 2, 7, 5, 0, 100, 2, ⟨true, 100, 1, 1⟩, by and_intros <;> first | with_reducible rfl | decide +kernel | rfl⟩
theorem wit_drive_evaluation_and_records_8_b : ∃ (s : State) (x : RetCell) (t : List RetCell) (w0 : Word) (w1 : Word) (w2 : Word) (w : Word) (k : Int) (n : Nat) (e : Nat) (m : Nat) (l : LhtPort),
    (s.chip.up .drv = true) ∧ (s.chip.retQ = x :: t) ∧ (x.words = [w0, w1, w2]) ∧ (x.port < 48) ∧ (s.chip.ringOdd x.port = false) ∧ (s.chip.recw x.port = 3) ∧ (w0 ≠ 0) ∧ (fld w0 31 20 = fld x.head 27 16) ∧ (s.chip.drvFollows = false) ∧ (s.chip.drv.evalK = some k) ∧ (fld w0 7 0 = (k % 256).toNat) ∧ (s.chip.ras.proofs = []) ∧ (n = s.chip.nodeIdx x.port (fld x.head 27 16)) ∧ ((s.chip.node n).got = false) ∧ (s.chip.celCalm) ∧ (s.chip.rb rECC_INJ 0 0 31 = false) ∧ (l = (s.chip.lhtPort x.port).2) ∧ (l.valid = true) ∧ (l.chans = 1) ∧ (e = l.entry (fld x.head 27 16) 0) ∧ (e < 0x200000) ∧ (w = s.chip.word (lhtAddr e)) ∧ (m = fld w2 1 0) ∧ (fld x.head 31 28 = 0xC) :=
  ⟨(st fun c => { (lht9 0x10000007 (c.setDrv { evalK := some 5 })) with retQ := [ret9 3] }), (ret9 3), [], 0x00123005, 7, 3, 0x10000007, 5, 0, 100, 3, ⟨true, 100, 1, 1⟩, by and_intros <;> first | with_reducible rfl | decide +kernel | rfl⟩
theorem wit_drive_evaluation_and_records_9 : ∃ (s : State) (x : RetCell) (t : List RetCell),
    (s.chip.up .drv = true) ∧ (s.chip.retQ = x :: t) ∧ (fld x.head 31 28 ≠ 0xC) :=
  ⟨(st fun c => { c with retQ := [{ port := 9, head := 0xD0010000, words := [5, 7, 0], t := 0 }] }), { port := 9, head := 0xD0010000, words := [5, 7, 0], t := 0 }, [], by decide +kernel⟩
theorem wit_commissioning_and_patterns_1 : ∃ (s : State) (a : Access) (v : Word),
    (s.chip.takes a rCOMM_KNEE 0 0 v) ∧ ((s.chip.rd rCOMM_TRIP).toNat ≤ 125) ∧ ((s.chip.rd rCOMM_FLOOR).toNat ≤ 0x8000) :=
  ⟨(st), hc, 100, by decide +kernel⟩
theorem wit_commissioning_and_patterns_1_b : ∃ (s : State) (a : Access) (v : Word),
    (s.chip.takes a rCOMM_KNEE 0 0 v) ∧ ((s.chip.rd rCOMM_TRIP).toNat ≤ 125) ∧ ((s.chip.rd rCOMM_FLOOR).toNat ≤ 0x8000) :=
  ⟨(st), hc, 106, by decide +kernel⟩
theorem wit_commissioning_and_patterns_2 : ∃ (s : State) (a : Access) (v : Word),
    (s.chip.takes a rCOMM_TRIP 0 0 v) ∧ ((s.chip.rd rCOMM_KNEE).toNat ≤ 105) ∧ ((s.chip.rd rCOMM_FLOOR).toNat ≤ 0x8000) :=
  ⟨(st), hc, 200, by decide +kernel⟩
theorem wit_commissioning_and_patterns_2_b : ∃ (s : State) (a : Access) (v : Word),
    (s.chip.takes a rCOMM_TRIP 0 0 v) ∧ ((s.chip.rd rCOMM_KNEE).toNat ≤ 105) ∧ ((s.chip.rd rCOMM_FLOOR).toNat ≤ 0x8000) :=
  ⟨(st), hc, 125, by decide +kernel⟩
theorem wit_commissioning_and_patterns_3 : ∃ (s : State) (a : Access) (v : Word),
    (s.chip.takes a rCOMM_FLOOR 0 0 v) ∧ ((s.chip.rd rCOMM_KNEE).toNat ≤ 105) ∧ ((s.chip.rd rCOMM_TRIP).toNat ≤ 125) :=
  ⟨(st), hc, 0x8001, by decide +kernel⟩
theorem wit_commissioning_and_patterns_3_b : ∃ (s : State) (a : Access) (v : Word),
    (s.chip.takes a rCOMM_FLOOR 0 0 v) ∧ ((s.chip.rd rCOMM_KNEE).toNat ≤ 105) ∧ ((s.chip.rd rCOMM_TRIP).toNat ≤ 125) :=
  ⟨(st), hc, 0x8000, by decide +kernel⟩
theorem wit_commissioning_and_patterns_4 : ∃ (s : State) (a : Access) (v : Word) (n : Nat),
    (s.chip.takes a rNODE_W0 0 0 v) ∧ (n = (s.chip.rd rNODE_SEL).toNat) :=
  ⟨(st), hc, 0x05030000, 0, by decide +kernel⟩
theorem wit_commissioning_and_patterns_4_b : ∃ (s : State) (a : Access) (v : Word) (n : Nat),
    (s.chip.takes a rNODE_W0 0 0 v) ∧ (n = (s.chip.rd rNODE_SEL).toNat) :=
  ⟨(st), hc, 0x05130000, 0, by decide +kernel⟩
theorem wit_commissioning_and_patterns_5 : ∃ (s : State) (a : Access) (v : Word) (g : CommReg) (r : RegRow),
    ((g = .knee ∧ r = rCOMM_KNEE ∨ g = .trip ∧ r = rCOMM_TRIP ∨ g = .floor ∧ r = rCOMM_FLOOR ∨ g = .code ∧ r = rNODE_W0)) ∧ (s.chip.reads a r 0 0) ∧ (s.chip.rb rCOMM_CTRL 0 0 0 = true) ∧ ((g = .code → fld v 31 24 ≠ (s.chip.node (s.chip.rd rNODE_SEL).toNat).codeMax ∧ (s.chip.node (s.chip.rd rNODE_SEL).toNat).codeMax < 256 ∧ (s.chip.node (s.chip.rd rNODE_SEL).toNat).code < 256 ∧ (s.chip.node (s.chip.rd rNODE_SEL).toNat).temp.getD 0 < 256 ∧ (s.chip.node (s.chip.rd rNODE_SEL).toNat).wait < 64)) :=
  ⟨(st fun c => c.wr rCOMM_CTRL 0 0 1), hc, 5, .trip, rCOMM_TRIP, by decide +kernel⟩
theorem wit_commissioning_and_patterns_5_b : ∃ (s : State) (a : Access) (v : Word) (g : CommReg) (r : RegRow),
    ((g = .knee ∧ r = rCOMM_KNEE ∨ g = .trip ∧ r = rCOMM_TRIP ∨ g = .floor ∧ r = rCOMM_FLOOR ∨ g = .code ∧ r = rNODE_W0)) ∧ (s.chip.reads a r 0 0) ∧ (s.chip.rb rCOMM_CTRL 0 0 0 = true) ∧ ((g = .code → fld v 31 24 ≠ (s.chip.node (s.chip.rd rNODE_SEL).toNat).codeMax ∧ (s.chip.node (s.chip.rd rNODE_SEL).toNat).codeMax < 256 ∧ (s.chip.node (s.chip.rd rNODE_SEL).toNat).code < 256 ∧ (s.chip.node (s.chip.rd rNODE_SEL).toNat).temp.getD 0 < 256 ∧ (s.chip.node (s.chip.rd rNODE_SEL).toNat).wait < 64)) :=
  ⟨(st fun c => c.wr rCOMM_CTRL 0 0 1), hc, 0x05000005, .code, rNODE_W0, by decide +kernel⟩
theorem wit_commissioning_and_patterns_6 : ∃ (s : State) (a : Access) (v : Word),
    (s.chip.takes a rCOMM_CTRL 0 0 (v ||| 1)) :=
  ⟨(st), hc, 0, by decide +kernel⟩
theorem wit_commissioning_and_patterns_6_b : ∃ (s : State) (a : Access) (v : Word),
    (s.chip.takes a rCOMM_CTRL 0 0 (v ||| 1)) :=
  ⟨(st fun c => c.wr rCOMM_CTRL 0 0 1), hc, 0, by decide +kernel⟩
theorem wit_commissioning_and_patterns_7 : ∃ (s : State) (a : Access) (v : Word),
    (s.chip.takes a rPAT_RUN 0 0 v) :=
  ⟨(st), hc, 1, by decide +kernel⟩
theorem wit_commissioning_and_patterns_7_b : ∃ (s : State) (a : Access) (v : Word),
    (s.chip.takes a rPAT_RUN 0 0 v) :=
  ⟨(st), hc, 0, by decide +kernel⟩

end Sys2Proof.Tests.WitnessL
end

