-- ==== Sys2Proof/Tests/WitnessM.lean ====
section
/-! SUPPORT. States and operands that meet the hypotheses of the statements, part M. -/

namespace Sys2Proof.Tests.WitnessM

open Sys2Proof Sys2Proof.Machine Sys2Proof.Tests

set_option maxRecDepth 100000
set_option Elab.async false
set_option linter.unusedVariables false
set_option linter.unreachableTactic false
set_option linter.unusedTactic false

def celOn : Chip → Chip := fun c => { (c.wr rCEL_CTRL 0 0 0x100F) with cel := { c.cel with serving := true } }
/-- Pair state `st`, link up, heartbeat present, strap high; port 9 a LANE port. -/
def pr (st : Nat) : Chip → Chip := fun c => { (((c.wr rCDR_STATUS 0 0 (BitVec.ofNat 32 (0x300 + st))).wb rSTRAP 0 0 3 true).wr rPORT_STATUS 9 0 1).setBank 1 { family := 1 } with cdr := { lock := true, hello := true } }
theorem wit_pair_link_and_heartbeat_1 : ∃ (s : State) (a : Access) (v : Word),
    (s.chip.takes a rCDR_CTRL 0 0 v) ∧ (bit v 0 = true) ∧ (s.chip.rb rCDR_CTRL 0 0 0 = false) ∧ (s.chip.rb rSTRAP 0 0 3 = true) ∧ (s.chip.pairState = 0) ∧ (s.chip.corridorUp = false) ∧ (s.chip.rb rCDR_STATUS 0 0 7 = false) :=
  ⟨(st fun c => c.wb rSTRAP 0 0 3 true), hc, 0xF, by decide +kernel⟩
theorem wit_pair_link_and_heartbeat_1_b : ∃ (s : State) (a : Access) (v : Word),
    (s.chip.takes a rCDR_CTRL 0 0 v) ∧ (bit v 0 = true) ∧ (s.chip.rb rCDR_CTRL 0 0 0 = false) ∧ (s.chip.rb rSTRAP 0 0 3 = true) ∧ (s.chip.pairState = 0) ∧ (s.chip.corridorUp = false) ∧ (s.chip.rb rCDR_STATUS 0 0 7 = false) :=
  ⟨(st fun c => ((c.wb rSTRAP 0 0 3 true).wr rCDR_STATUS 0 0 0x100 |>.wr rPORT_STATUS 9 0 1).setBank 1 { family := 1 }), hc, 0xF, by decide +kernel⟩
theorem wit_pair_link_and_heartbeat_2 : ∃ (s : State) (a : Access) (v : Word),
    (s.chip.takes a rCDR_CTRL 0 0 v) ∧ (bit v 0 = false) ∧ (s.chip.pairState ≠ 0) :=
  ⟨(st fun c => (pr 3 c).wr rCDR_ADOPT 0 0 0x200), hc, 0xE, by decide +kernel⟩
theorem wit_pair_link_and_heartbeat_2_b : ∃ (s : State) (a : Access) (v : Word),
    (s.chip.takes a rCDR_CTRL 0 0 v) ∧ (bit v 0 = false) ∧ (s.chip.pairState ≠ 0) :=
  ⟨(st fun c => (pr 2 c).setCdr { swap := some { k := 5, epoch := 7, incoming := true, agreed := true }, swapLeft := 4, lock := true }), hc, 0xE, by decide +kernel⟩
theorem wit_pair_link_and_heartbeat_3 : ∃ (s : State) (a : Access) (v : Word),
    (s.chip.takes a rCDR_CTRL 0 0 v) ∧ ((bit v 0 = true → s.chip.rb rCDR_CTRL 0 0 0 = true ∨ s.chip.rb rSTRAP 0 0 3 = false ∨ s.chip.pairState ≠ 0)) ∧ ((bit v 0 = false → s.chip.pairState = 0)) :=
  ⟨(st fun c => (pr 3 c).wb rCDR_CTRL 0 0 0 true), hc, 0xB, by decide +kernel⟩
theorem wit_pair_link_and_heartbeat_3_b : ∃ (s : State) (a : Access) (v : Word),
    (s.chip.takes a rCDR_CTRL 0 0 v) ∧ ((bit v 0 = true → s.chip.rb rCDR_CTRL 0 0 0 = true ∨ s.chip.rb rSTRAP 0 0 3 = false ∨ s.chip.pairState ≠ 0)) ∧ ((bit v 0 = false → s.chip.pairState = 0)) :=
  ⟨(st), hc, 0xF, by decide +kernel⟩
theorem wit_pair_link_and_heartbeat_4 : ∃ (s : State),
    (s.chip.up .cdr = true) ∧ (s.chip.cdr.lock = false) :=
  ⟨(st), by decide +kernel⟩
theorem wit_pair_link_and_heartbeat_4_b : ∃ (s : State),
    (s.chip.up .cdr = true) ∧ (s.chip.cdr.lock = false) :=
  ⟨(st fun c => { (pr 4 c).wr rCDR_STATUS 0 0 0x184 with cdr := { hello := true } }), by decide +kernel⟩
theorem wit_pair_link_and_heartbeat_4_c : ∃ (s : State),
    (s.chip.up .cdr = true) ∧ (s.chip.cdr.lock = false) :=
  ⟨(st fun c => { (pr 1 c).wr rCDR_STATUS 0 0 0x109 with cdr := { hello := true } }), by decide +kernel⟩
theorem wit_pair_link_and_heartbeat_5 : ∃ (s : State),
    (s.chip.alive .cdr = true) :=
  ⟨(st (pr 4)), by decide +kernel⟩
theorem wit_pair_link_and_heartbeat_5_b : ∃ (s : State),
    (s.chip.alive .cdr = true) :=
  ⟨(st fun c => (pr 3 c).setCdr { lock := true, caskIn := some { seq := 4, got := [7] }, swap := some { k := 5, epoch := 7, incoming := false } }), by decide +kernel⟩
theorem wit_pair_link_and_heartbeat_5_c : ∃ (s : State),
    (s.chip.alive .cdr = true) :=
  ⟨(st), by decide +kernel⟩
theorem wit_pair_link_and_heartbeat_6 : ∃ (s : State),
    (s.chip.alive .cdr = true) ∧ (s.chip.corridorUp = true) ∧ (s.chip.pairState = 4) ∧ (s.chip.rb rCDR_STATUS 0 0 7 = false) :=
  ⟨(st (pr 4)), by decide +kernel⟩
theorem wit_pair_link_and_heartbeat_6_b : ∃ (s : State),
    (s.chip.alive .cdr = true) ∧ (s.chip.corridorUp = true) ∧ (s.chip.pairState = 4) ∧ (s.chip.rb rCDR_STATUS 0 0 7 = false) :=
  ⟨(st fun c => (pr 4 c).setCdr { lock := true, caskIn := some { seq := 4, got := [7] }, swap := some { k := 5, epoch := 7, incoming := false } }), by decide +kernel⟩
theorem wit_pair_link_and_heartbeat_7 : ∃ (s : State),
    (s.chip.up .cdr = true) ∧ (s.chip.corridorUp = true) :=
  ⟨(st (pr 3)), by decide +kernel⟩
theorem wit_pair_link_and_heartbeat_7_b : ∃ (s : State),
    (s.chip.up .cdr = true) ∧ (s.chip.corridorUp = true) :=
  ⟨(st fun c => (pr 4 c).setCdr { lock := true, caskIn := some { seq := 4, got := [7] }, swap := some { k := 5, epoch := 7, incoming := false } }), by decide +kernel⟩
theorem wit_pair_link_and_heartbeat_8 : ∃ (s : State),
    (s.chip.up .cdr = true) ∧ (s.chip.corridorUp = true) ∧ (s.chip.pairState = 4) ∧ (s.chip.rb rCDR_STATUS 0 0 7 = false) :=
  ⟨(st (pr 4)), by decide +kernel⟩
theorem wit_pair_link_and_heartbeat_9 : ∃ (s : State),
    (s.chip.alive .cdr = true) ∧ (s.chip.alive .ts = true) ∧ (s.chip.hbStopped = false) :=
  ⟨(st fun c => (c.wr rCDR_CTRL 0 0 0xF).wr rCLKSTAT 0 0 0x3FFFF), by decide +kernel⟩
theorem wit_pair_link_and_heartbeat_10 : ∃ (s : State),
    (s.chip.up .cdr = true) ∧ (s.chip.hbOk = false) :=
  ⟨(st fun c => (pr 4 c).wr rCDR_STATUS 0 0 0x204), by decide +kernel⟩
theorem wit_pair_link_and_heartbeat_10_b : ∃ (s : State),
    (s.chip.up .cdr = true) ∧ (s.chip.hbOk = false) :=
  ⟨(st fun c => (pr 3 c).wr rCDR_STATUS 0 0 0x203 |>.wr rCDR_CTRL 0 0 0xF), by decide +kernel⟩
theorem wit_pair_link_and_heartbeat_10_c : ∃ (s : State),
    (s.chip.up .cdr = true) ∧ (s.chip.hbOk = false) :=
  ⟨(st fun c => (pr 1 c).wr rCDR_STATUS 0 0 0x209 |>.wr rCDR_CTRL 0 0 0xF), by decide +kernel⟩
def stop4 : State := st fun c => (pr 4 c).wr rCDR_CTRL 0 0 0x2F
theorem wit_pair_link_and_heartbeat_11 : ∃ (s : State),
    (s.chip.alive .cdr = true) ∧ (s.chip.pairState = 4) ∧ (s.chip.hbStopped = true) :=
  ⟨stop4, by decide +kernel⟩
def stop5 : State := st fun c => ((pr 4 c).wr rCDR_CTRL 0 0 0x2B).setPort 9 { urgent := [⟨0x60000004, [1]⟩] }
theorem wit_pair_link_and_heartbeat_11_b : ∃ (s : State),
    (s.chip.alive .cdr = true) ∧ (s.chip.pairState = 4) ∧ (s.chip.hbStopped = true) :=
  ⟨stop5, by decide +kernel⟩
theorem wit_pair_link_and_heartbeat_12 : ∃ (s : State) (i : Instr),
    ((i = .corridorLinkUp ∧ (s.chip.up .cdr = false ∨ s.chip.cdr.lock = true)) ∨ (i = .corridorLinkDown ∧ s.chip.alive .cdr = false) ∨ (i = .corridorStateTimeout ∧ (s.chip.up .cdr = false ∨ s.chip.corridorUp = false)) ∨ (i = .heartbeatOut ∧ (s.chip.alive .cdr = false ∨ s.chip.alive .ts = false ∨ s.chip.hbStopped = true)) ∨ (i = .heartbeatEdge ∧ (s.chip.up .cdr = false ∨ s.chip.hbOk = true)) ∨ (i = .heartbeatStop ∧ (s.chip.alive .cdr = false ∨ s.chip.pairState ≠ 4 ∨ s.chip.hbStopped = false))) :=
  ⟨(st (pr 4)), .corridorLinkUp, by decide +kernel⟩
theorem wit_pair_link_and_heartbeat_12_b : ∃ (s : State) (i : Instr),
    ((i = .corridorLinkUp ∧ (s.chip.up .cdr = false ∨ s.chip.cdr.lock = true)) ∨ (i = .corridorLinkDown ∧ s.chip.alive .cdr = false) ∨ (i = .corridorStateTimeout ∧ (s.chip.up .cdr = false ∨ s.chip.corridorUp = false)) ∨ (i = .heartbeatOut ∧ (s.chip.alive .cdr = false ∨ s.chip.alive .ts = false ∨ s.chip.hbStopped = true)) ∨ (i = .heartbeatEdge ∧ (s.chip.up .cdr = false ∨ s.chip.hbOk = true)) ∨ (i = .heartbeatStop ∧ (s.chip.alive .cdr = false ∨ s.chip.pairState ≠ 4 ∨ s.chip.hbStopped = false))) :=
  ⟨(st), .heartbeatOut, by decide +kernel⟩
theorem wit_pair_link_and_heartbeat_12_c : ∃ (s : State) (i : Instr),
    ((i = .corridorLinkUp ∧ (s.chip.up .cdr = false ∨ s.chip.cdr.lock = true)) ∨ (i = .corridorLinkDown ∧ s.chip.alive .cdr = false) ∨ (i = .corridorStateTimeout ∧ (s.chip.up .cdr = false ∨ s.chip.corridorUp = false)) ∨ (i = .heartbeatOut ∧ (s.chip.alive .cdr = false ∨ s.chip.alive .ts = false ∨ s.chip.hbStopped = true)) ∨ (i = .heartbeatEdge ∧ (s.chip.up .cdr = false ∨ s.chip.hbOk = true)) ∨ (i = .heartbeatStop ∧ (s.chip.alive .cdr = false ∨ s.chip.pairState ≠ 4 ∨ s.chip.hbStopped = false))) :=
  ⟨(st (pr 3)), .heartbeatStop, by decide +kernel⟩
def up3 : State := st fun c => (pr 3 c).wr rLCTRL 9 0 2
theorem wit_takeover_and_activation_1 : ∃ (s : State),
    (s.chip.up .cdr = true) ∧ (s.chip.hbOk = true) :=
  ⟨(st fun c => (pr 2 c).wr rCDR_CTRL 0 0 0xF), by decide +kernel⟩
theorem wit_takeover_and_activation_2 : ∃ (s : State),
    (s.chip.up .cdr = true) ∧ (s.chip.hbOk = true) ∧ (s.chip.takeArmed = true) ∧ (s.chip.witnessGone = true) ∧ ((s.chip.pairState = 2 → s.chip.rb rCDR_STATUS 0 0 13 = false)) :=
  ⟨up3, by decide +kernel⟩
theorem wit_takeover_and_activation_2_b : ∃ (s : State),
    (s.chip.up .cdr = true) ∧ (s.chip.hbOk = true) ∧ (s.chip.takeArmed = true) ∧ (s.chip.witnessGone = true) ∧ ((s.chip.pairState = 2 → s.chip.rb rCDR_STATUS 0 0 13 = false)) :=
  ⟨(st fun c => ((((pr 2 c).wr rCDR_CTRL 0 0 0xF).setCdr { lock := true, hello := true, regions := 14, caskIn := some { seq := 4 }, swap := some { k := 5, epoch := 7, incoming := true, agreed := true } }).setPort 9 { cells := [⟨true, 0x10050000, 4, 62⟩, ⟨false, 0x10050000, 4, 62⟩], rasWr := 70, opened := true }).setRas { inFrame := true }), by decide +kernel⟩
theorem wit_takeover_and_activation_2_c : ∃ (s : State),
    (s.chip.up .cdr = true) ∧ (s.chip.hbOk = true) ∧ (s.chip.takeArmed = true) ∧ (s.chip.witnessGone = true) ∧ ((s.chip.pairState = 2 → s.chip.rb rCDR_STATUS 0 0 13 = false)) :=
  ⟨(st fun c => ((pr 3 c).setPort 9 { cells := [⟨true, 0x10050000, 4, 62⟩], rasWr := 70 }).setRas { inFrame := true }), by decide +kernel⟩
theorem wit_takeover_and_activation_3 : ∃ (s : State),
    (s.chip.up .cdr = true) ∧ (s.chip.hbOk = true) ∧ (s.chip.pairState = 4 ∨ (s.chip.pairState = 3 ∧ (s.chip.takeArmed = false ∨ s.chip.witnessGone = false))) :=
  ⟨(st (pr 4)), by decide +kernel⟩
theorem wit_takeover_and_activation_3_b : ∃ (s : State),
    (s.chip.up .cdr = true) ∧ (s.chip.hbOk = true) ∧ (s.chip.pairState = 4 ∨ (s.chip.pairState = 3 ∧ (s.chip.takeArmed = false ∨ s.chip.witnessGone = false))) :=
  ⟨(st fun c => ((pr 3 c).wr rCDR_WMASK_LO 0 0 0x200).setCdr { heard := 0x200, lock := true }), by decide +kernel⟩
theorem wit_takeover_and_activation_4 : ∃ (s : State) (p : Fin 48),
    (s.chip.up .cdr = true) :=
  ⟨(st (pr 2)), 5, by decide +kernel⟩
theorem wit_takeover_and_activation_5 : ∃ (s : State) (p : Fin 48),
    (s.chip.up .cdr = true) ∧ (s.chip.pairState = 4) :=
  ⟨(st (pr 4)), 9, by decide +kernel⟩
theorem wit_takeover_and_activation_6 : ∃ (s : State) (p : Fin 48),
    (s.chip.up .cdr = true) ∧ (s.chip.pairState = 3) ∧ (s.chip.hbOk = true) :=
  ⟨(st (pr 3)), 9, by decide +kernel⟩
theorem wit_takeover_and_activation_6_b : ∃ (s : State) (p : Fin 48),
    (s.chip.up .cdr = true) ∧ (s.chip.pairState = 3) ∧ (s.chip.hbOk = true) :=
  ⟨(st fun c => (pr 3 c).wr rCDR_CTRL 0 0 3), 9, by decide +kernel⟩
theorem wit_takeover_and_activation_7 : ∃ (s : State) (p : Fin 48),
    (s.chip.up .cdr = true) ∧ (s.chip.pairState = 3) ∧ (s.chip.hbOk = false) ∧ (s.chip.takeArmed = true) ∧ ((∀ q ∈ s.chip.witnessPorts, q = p.val ∨ s.chip.cdr.heard.getLsbD q = false)) :=
  ⟨(st fun c => (((pr 3 c).wr rCDR_WMASK_LO 0 0 0x200).setCdr { heard := 0x200, lock := true }).wr rCDR_STATUS 0 0 0x203), 9, by decide +kernel⟩
def dn1 : State := st fun c => (pr 1 c).wr rCDR_STATUS 0 0 1
theorem wit_takeover_and_activation_8 : ∃ (s : State),
    (s.chip.up .cdr = true) ∧ (s.chip.pairState = 1) ∧ (s.chip.corridorUp = false) ∧ (s.chip.witnessGone = true) :=
  ⟨dn1, by decide +kernel⟩
theorem wit_takeover_and_activation_9 : ∃ (s : State),
    (s.chip.up .cdr = true) ∧ (s.chip.pairState = 3) ∧ (s.chip.sideB = false) ∧ (s.chip.rb rCDR_CTRL 0 0 4 = true) ∧ (s.chip.rb rCDR_STATUS 0 0 13 = true) :=
  ⟨(st fun c => (pr 3 c).wr rCDR_STATUS 0 0 0x2303 |>.wr rCDR_CTRL 0 0 0x1F), by decide +kernel⟩
def asm9 : State := st fun c => (c.setPort 9 { urgent := [⟨0xB0000008, [1, 2]⟩] })
theorem wit_takeover_and_activation_10 : ∃ (s : State) (p : Fin 48) (k : OwnCell) (t : List OwnCell) (d : Chip),
    (s.chip.up (.bank (bankOf p)) = true) ∧ ((s.chip.bank (bankOf p)).step = 0) ∧ ((s.chip.port p).urgent = k :: t) ∧ (fld k.head 31 28 = 0xB) ∧ (d = { s.chip with cyc := s.chip.cyc + 1 }.insertsAt p) :=
  ⟨asm9, 9, ⟨0xB0000008, [1, 2]⟩, [], ({ asm9.chip with cyc := asm9.chip.cyc + 1 }.insertsAt 9), by decide +kernel, by decide +kernel, by decide +kernel, by decide +kernel, rfl⟩
def asm8 : State := st fun c => { (((c.setPort 8 { urgent := [⟨0xB0000008, [1, 2]⟩], ringNow := true }).wr rPORT_STATUS 8 0 1).setBank 1 { family := 1 }) with urgQ := [(1, [⟨0x40000004, 5, 2, 3, 1⟩, ⟨7, 5, 2, 0, 1⟩])] }
theorem wit_takeover_and_activation_10_b : ∃ (s : State) (p : Fin 48) (k : OwnCell) (t : List OwnCell) (d : Chip),
    (s.chip.up (.bank (bankOf p)) = true) ∧ ((s.chip.bank (bankOf p)).step = 0) ∧ ((s.chip.port p).urgent = k :: t) ∧ (fld k.head 31 28 = 0xB) ∧ (d = { s.chip with cyc := s.chip.cyc + 1 }.insertsAt p) :=
  ⟨asm8, 8, ⟨0xB0000008, [1, 2]⟩, [], ({ asm8.chip with cyc := asm8.chip.cyc + 1 }.insertsAt 8), by decide +kernel, by decide +kernel, by decide +kernel, by decide +kernel, rfl⟩
theorem wit_takeover_and_activation_11 : ∃ (s : State) (i : Instr),
    ((i = .cdrHbLost ∧ (s.chip.up .cdr = false ∨ s.chip.hbOk = false)) ∨ (∃ p : Fin 48, i = .witnessGone p ∧ s.chip.up .cdr = false) ∨ (i = .startWaitExpiry ∧ (s.chip.up .cdr = false ∨ s.chip.pairState ≠ 1 ∨ s.chip.corridorUp = true ∨ s.chip.witnessGone = false)) ∨ (i = .revertDelayExpiry ∧ (s.chip.up .cdr = false ∨ s.chip.pairState ≠ 3 ∨ s.chip.sideB = true ∨ s.chip.rb rCDR_CTRL 0 0 4 = false ∨ s.chip.rb rCDR_STATUS 0 0 13 = false)) ∨ (∃ p : Fin 48, i = .assumeSend p ∧ (s.chip.up (.bank (bankOf p)) = false ∨ (s.chip.bank (bankOf p)).step ≠ 0 ∨ ((s.chip.port p).urgent.head?.all fun k => fld k.head 31 28 ≠ 0xB) = true))) :=
  ⟨(st), .cdrHbLost, by decide +kernel⟩
theorem wit_takeover_and_activation_11_b : ∃ (s : State) (i : Instr),
    ((i = .cdrHbLost ∧ (s.chip.up .cdr = false ∨ s.chip.hbOk = false)) ∨ (∃ p : Fin 48, i = .witnessGone p ∧ s.chip.up .cdr = false) ∨ (i = .startWaitExpiry ∧ (s.chip.up .cdr = false ∨ s.chip.pairState ≠ 1 ∨ s.chip.corridorUp = true ∨ s.chip.witnessGone = false)) ∨ (i = .revertDelayExpiry ∧ (s.chip.up .cdr = false ∨ s.chip.pairState ≠ 3 ∨ s.chip.sideB = true ∨ s.chip.rb rCDR_CTRL 0 0 4 = false ∨ s.chip.rb rCDR_STATUS 0 0 13 = false)) ∨ (∃ p : Fin 48, i = .assumeSend p ∧ (s.chip.up (.bank (bankOf p)) = false ∨ (s.chip.bank (bankOf p)).step ≠ 0 ∨ ((s.chip.port p).urgent.head?.all fun k => fld k.head 31 28 ≠ 0xB) = true))) :=
  ⟨(st fun c => { c with pwr := { c.pwr with phase := .rails } }), (.witnessGone 4), by decide +kernel⟩
theorem wit_takeover_and_activation_11_c : ∃ (s : State) (i : Instr),
    ((i = .cdrHbLost ∧ (s.chip.up .cdr = false ∨ s.chip.hbOk = false)) ∨ (∃ p : Fin 48, i = .witnessGone p ∧ s.chip.up .cdr = false) ∨ (i = .startWaitExpiry ∧ (s.chip.up .cdr = false ∨ s.chip.pairState ≠ 1 ∨ s.chip.corridorUp = true ∨ s.chip.witnessGone = false)) ∨ (i = .revertDelayExpiry ∧ (s.chip.up .cdr = false ∨ s.chip.pairState ≠ 3 ∨ s.chip.sideB = true ∨ s.chip.rb rCDR_CTRL 0 0 4 = false ∨ s.chip.rb rCDR_STATUS 0 0 13 = false)) ∨ (∃ p : Fin 48, i = .assumeSend p ∧ (s.chip.up (.bank (bankOf p)) = false ∨ (s.chip.bank (bankOf p)).step ≠ 0 ∨ ((s.chip.port p).urgent.head?.all fun k => fld k.head 31 28 ≠ 0xB) = true))) :=
  ⟨(st), (.assumeSend 4), by decide +kernel⟩
theorem wit_takeover_and_activation_11_d : ∃ (s : State) (i : Instr),
    ((i = .cdrHbLost ∧ (s.chip.up .cdr = false ∨ s.chip.hbOk = false)) ∨ (∃ p : Fin 48, i = .witnessGone p ∧ s.chip.up .cdr = false) ∨ (i = .startWaitExpiry ∧ (s.chip.up .cdr = false ∨ s.chip.pairState ≠ 1 ∨ s.chip.corridorUp = true ∨ s.chip.witnessGone = false)) ∨ (i = .revertDelayExpiry ∧ (s.chip.up .cdr = false ∨ s.chip.pairState ≠ 3 ∨ s.chip.sideB = true ∨ s.chip.rb rCDR_CTRL 0 0 4 = false ∨ s.chip.rb rCDR_STATUS 0 0 13 = false)) ∨ (∃ p : Fin 48, i = .assumeSend p ∧ (s.chip.up (.bank (bankOf p)) = false ∨ (s.chip.bank (bankOf p)).step ≠ 0 ∨ ((s.chip.port p).urgent.head?.all fun k => fld k.head 31 28 ≠ 0xB) = true))) :=
  ⟨(st), .startWaitExpiry, by decide +kernel⟩
theorem wit_takeover_and_activation_11_e : ∃ (s : State) (i : Instr),
    ((i = .cdrHbLost ∧ (s.chip.up .cdr = false ∨ s.chip.hbOk = false)) ∨ (∃ p : Fin 48, i = .witnessGone p ∧ s.chip.up .cdr = false) ∨ (i = .startWaitExpiry ∧ (s.chip.up .cdr = false ∨ s.chip.pairState ≠ 1 ∨ s.chip.corridorUp = true ∨ s.chip.witnessGone = false)) ∨ (i = .revertDelayExpiry ∧ (s.chip.up .cdr = false ∨ s.chip.pairState ≠ 3 ∨ s.chip.sideB = true ∨ s.chip.rb rCDR_CTRL 0 0 4 = false ∨ s.chip.rb rCDR_STATUS 0 0 13 = false)) ∨ (∃ p : Fin 48, i = .assumeSend p ∧ (s.chip.up (.bank (bankOf p)) = false ∨ (s.chip.bank (bankOf p)).step ≠ 0 ∨ ((s.chip.port p).urgent.head?.all fun k => fld k.head 31 28 ≠ 0xB) = true))) :=
  ⟨(st), .revertDelayExpiry, by decide +kernel⟩
def hi (st e : Nat) : CdrHello := { vintage := 1, verMin := 1, verMax := 2, dev := 5, sideB := true, state := Fin.ofNat 5 st, epoch := BitVec.ofNat 16 e }
def se (st e : Nat) : CdrState := { state := Fin.ofNat 5 st, epoch := BitVec.ofNat 16 e, peerEpoch := 0, adopted := 3, lastCask := 9 }
theorem wit_corridor_messages_1 : ∃ (s : State) (i : Instr),
    (cdrMessage i = some false) ∧ (s.chip.cdrOpen) :=
  ⟨(st (pr 4)), (.fwmsg [1] false), by decide +kernel⟩
theorem wit_corridor_messages_1_b : ∃ (s : State) (i : Instr),
    (cdrMessage i = some false) ∧ (s.chip.cdrOpen) :=
  ⟨(st fun c => (pr 2 c).setCdr { lock := true, bulkIn := some ⟨3, 8⟩ }), (.swapMsg 5 7 false), by decide +kernel⟩
theorem wit_corridor_messages_2 : ∃ (s : State) (i : Instr),
    (cdrMessage i ≠ none) ∧ (¬ s.chip.cdrOpen) :=
  ⟨(st), (.corridorHello (hi 3 0) true), by decide +kernel⟩
theorem wit_corridor_messages_3 : ∃ (s : State) (ws : List Word),
    (s.chip.cdrOpen) :=
  ⟨(st (pr 4)), [1], by decide +kernel⟩
theorem wit_corridor_messages_4 : ∃ (s : State) (m : CdrHello) (lo : Nat) (hi : Nat),
    (s.chip.cdrOpen) ∧ (lo = max (s.chip.rf rCDR_VER 0 0 7 0) m.verMin) ∧ (hi = min (s.chip.rf rCDR_VER 0 0 15 8) m.verMax) :=
  ⟨(st (pr 4)), (hi 3 0), 1, 1, by decide +kernel⟩
theorem wit_corridor_messages_4_b : ∃ (s : State) (m : CdrHello) (lo : Nat) (hi : Nat),
    (s.chip.cdrOpen) ∧ (lo = max (s.chip.rf rCDR_VER 0 0 7 0) m.verMin) ∧ (hi = min (s.chip.rf rCDR_VER 0 0 15 8) m.verMax) :=
  ⟨(st fun c => ((pr 1 c).setCdr { lock := true }).wr rCDR_STATUS 0 0 1), (hi 1 5), 1, 1, by decide +kernel⟩
theorem wit_corridor_messages_4_c : ∃ (s : State) (m : CdrHello) (lo : Nat) (hi : Nat),
    (s.chip.cdrOpen) ∧ (lo = max (s.chip.rf rCDR_VER 0 0 7 0) m.verMin) ∧ (hi = min (s.chip.rf rCDR_VER 0 0 15 8) m.verMax) :=
  ⟨(st (pr 4)), { hi 3 0 with verMin := 2 }, 2, 1, by decide +kernel⟩
theorem wit_corridor_messages_5 : ∃ (s : State) (m : CdrHello),
    (s.chip.cdrOpen) ∧ (s.chip.corridorUp = true) ∧ (s.chip.pairState = 4) ∧ (s.chip.hbOk = true) ∧ (epochHigher m.epoch.toNat s.chip.ownEpoch = false) ∧ (s.chip.rb rCDR_STATUS 0 0 7 = false) ∧ (s.chip.rf rCDR_STATUS 0 0 5 3 ≠ 2) ∧ (m.state.val ≠ 2) :=
  ⟨(st (pr 4)), (hi 3 0), by decide +kernel⟩
theorem wit_corridor_messages_6 : ∃ (s : State) (m : CdrHello) (lo : Nat) (hi : Nat),
    (s.chip.cdrOpen) ∧ (s.chip.pairState = 4) ∧ (epochHigher m.epoch.toNat s.chip.ownEpoch = false) ∧ (s.chip.cdr.bulkSent = false) ∧ (m.state.val = 2) ∧ (lo = max (s.chip.rf rCDR_VER 0 0 7 0) m.verMin) ∧ (hi = min (s.chip.rf rCDR_VER 0 0 15 8) m.verMax) ∧ (lo ≤ hi) ∧ (0 < hi % 256) :=
  ⟨(st (pr 4)), (hi 2 0), 1, 1, by decide +kernel⟩
theorem wit_corridor_messages_6_b : ∃ (s : State) (m : CdrHello) (lo : Nat) (hi : Nat),
    (s.chip.cdrOpen) ∧ (s.chip.pairState = 4) ∧ (epochHigher m.epoch.toNat s.chip.ownEpoch = false) ∧ (s.chip.cdr.bulkSent = false) ∧ (m.state.val = 2) ∧ (lo = max (s.chip.rf rCDR_VER 0 0 7 0) m.verMin) ∧ (hi = min (s.chip.rf rCDR_VER 0 0 15 8) m.verMax) ∧ (lo ≤ hi) ∧ (0 < hi % 256) :=
  ⟨(st fun c => (pr 4 c).setCdr { lock := true, bulkOut := some ⟨4, 0⟩ }), (hi 2 0), 1, 1, by decide +kernel⟩
theorem wit_corridor_messages_7 : ∃ (s : State) (m : CdrHello) (lo : Nat) (hi : Nat),
    (s.chip.cdrOpen) ∧ (s.chip.pairState = 2) ∧ (s.chip.hbOk = true) ∧ (lo = max (s.chip.rf rCDR_VER 0 0 7 0) m.verMin) ∧ (hi = min (s.chip.rf rCDR_VER 0 0 15 8) m.verMax) ∧ (hi < lo) :=
  ⟨(st (pr 2)), { hi 3 0 with verMin := 2 }, 2, 1, by decide +kernel⟩
theorem wit_corridor_messages_8 : ∃ (s : State) (m : CdrHello),
    (s.chip.cdrOpen) ∧ (s.chip.pairState = 4) ∧ (m.epoch ≠ 0) ∧ (epochHigher m.epoch.toNat s.chip.ownEpoch = true) :=
  ⟨(st fun c => ((pr 4 c).wr rCDR_EPOCH 0 0 8).setCdr { lock := true, hello := true, swap := some { k := 5, epoch := 7, incoming := false } }), (hi 4 9), by decide +kernel⟩
theorem wit_corridor_messages_9 : ∃ (s : State) (m : CdrState),
    (s.chip.cdrOpen) ∧ (s.chip.corridorUp = true) :=
  ⟨(st fun c => (pr 4 c).wr rCDR_EPOCH 0 0 8), (se 3 5), by decide +kernel⟩
theorem wit_corridor_messages_9_b : ∃ (s : State) (m : CdrState),
    (s.chip.cdrOpen) ∧ (s.chip.corridorUp = true) :=
  ⟨(st fun c => (pr 3 c)), { se 3 5 with revert := true }, by decide +kernel⟩
theorem wit_corridor_messages_10 : ∃ (s : State) (m : CdrState),
    (s.chip.cdrOpen) ∧ (s.chip.corridorUp = true) ∧ (s.chip.pairState = 4) ∧ (s.chip.hbOk = true) ∧ (m.revert = false) ∧ (m.state.val ≠ 2) ∧ (s.chip.rf rCDR_STATUS 0 0 5 3 ≠ 2) ∧ (epochHigher m.epoch.toNat s.chip.ownEpoch = false) ∧ (s.chip.rb rCDR_STATUS 0 0 7 = false) :=
  ⟨(st fun c => (pr 4 c).wr rCDR_EPOCH 0 0 8), (se 3 5), by decide +kernel⟩
theorem wit_corridor_messages_11 : ∃ (s : State) (m : CdrState),
    (s.chip.cdrOpen) ∧ (s.chip.corridorUp = true) ∧ (s.chip.pairState = 4) ∧ (m.epoch ≠ 0) ∧ (epochHigher m.epoch.toNat s.chip.ownEpoch = true) :=
  ⟨(st fun c => (pr 4 c).wr rCDR_EPOCH 0 0 8), (se 4 9), by decide +kernel⟩
theorem wit_corridor_messages_12 : ∃ (s : State) (m : CdrState),
    (s.chip.cdrOpen) ∧ (s.chip.corridorUp = true) ∧ (s.chip.pairState = 4) ∧ (m.revert = false) ∧ (epochHigher m.epoch.toNat s.chip.ownEpoch = false) ∧ (s.chip.cdr.bulkSent = false) ∧ (s.chip.cdr.bulkOut = none) ∧ (m.state.val = 2) ∧ (s.chip.noVersion = false) :=
  ⟨(st (pr 4)), (se 2 0), by decide +kernel⟩
theorem wit_corridor_messages_13 : ∃ (s : State),
    (s.chip.up .cdr = true) ∧ (s.chip.corridorUp = true) :=
  ⟨(st (pr 4)), by decide +kernel⟩
theorem wit_corridor_messages_13_b : ∃ (s : State),
    (s.chip.up .cdr = true) ∧ (s.chip.corridorUp = true) :=
  ⟨(st fun c => (pr 3 c).setCdr { lock := true, swap := some { k := 0, epoch := 7, incoming := false } }), by decide +kernel⟩
def ck (q : Word) : State := st fun c => { celOn (pr 3 c) with cdr := { lock := true, caskIn := some { seq := q, got := [7] } } }
theorem wit_corridor_messages_14 : ∃ (s : State) (q : Word) (off : Nat) (ws : List Word),
    (s.chip.cdrOpen) ∧ (s.chip.caskWanted q) :=
  ⟨(ck 4), 4, 2, [5, 6], by decide +kernel⟩
theorem wit_corridor_messages_14_b : ∃ (s : State) (q : Word) (off : Nat) (ws : List Word),
    (s.chip.cdrOpen) ∧ (s.chip.caskWanted q) :=
  ⟨(ck 5), 4, 16383, [5, 6], by decide +kernel⟩
theorem wit_corridor_messages_14_c : ∃ (s : State) (q : Word) (off : Nat) (ws : List Word),
    (s.chip.cdrOpen) ∧ (s.chip.caskWanted q) :=
  ⟨(st (pr 2)), 4, 2, [5, 6], by decide +kernel⟩
theorem wit_corridor_messages_15 : ∃ (s : State) (q : Word) (off : Nat) (b : Nat) (ws : List Word),
    (s.chip.cdrOpen) ∧ (s.chip.caskWanted q) ∧ (off + ws.length ≤ 16384) ∧ (ws.length ≤ 1024) ∧ (s.chip.celCalm) ∧ (s.chip.rb rRGN_WMASK 7 0 7 = true) ∧ (b = caskBank q) :=
  ⟨(ck 4), 4, 2, 0x96100000, [5, 6], by decide +kernel⟩
theorem wit_corridor_messages_15_b : ∃ (s : State) (q : Word) (off : Nat) (b : Nat) (ws : List Word),
    (s.chip.cdrOpen) ∧ (s.chip.caskWanted q) ∧ (off + ws.length ≤ 16384) ∧ (ws.length ≤ 1024) ∧ (s.chip.celCalm) ∧ (s.chip.rb rRGN_WMASK 7 0 7 = true) ∧ (b = caskBank q) :=
  ⟨(ck 5), 4, 2, 0x96100000, [5, 6], by decide +kernel⟩
theorem wit_corridor_messages_15_c : ∃ (s : State) (q : Word) (off : Nat) (b : Nat) (ws : List Word),
    (s.chip.cdrOpen) ∧ (s.chip.caskWanted q) ∧ (off + ws.length ≤ 16384) ∧ (ws.length ≤ 1024) ∧ (s.chip.celCalm) ∧ (s.chip.rb rRGN_WMASK 7 0 7 = true) ∧ (b = caskBank q) :=
  ⟨(st fun c => (celOn (pr 2 c)).setWords 0x96110000 [1, 2, 3, 4, 5, 6, 7, 8, 9, 1, 2, 3, 4, 5, 6, 7, 8, 9, 8, 7, 6, 5, 4]), 3, 2, 0x96110000, [5, 6], by decide +kernel⟩
def sealable : State := st fun c => { (celOn (pr 3 c)).setWords 0x96100000 [7, 8, 9] with cdr := { lock := true, caskIn := some { seq := 4, got := [2, 1, 0] } } }
theorem wit_corridor_messages_16 : ∃ (s : State) (q : Word) (n : Nat) (crc : Word) (sl : Word) (x : CaskIn),
    (s.chip.cdrOpen) ∧ (s.chip.caskWanted q) ∧ (s.chip.cdr.caskIn = some x) ∧ (x.seq = q) ∧ (sl = q) ∧ (n ≤ 16382) ∧ ((∀ i < n, i ∈ x.got)) ∧ (crc32c (s.chip.bytes (caskBank q) (4 * n)) = crc) ∧ (s.chip.celCalm) ∧ (s.chip.rb rRGN_WMASK 7 0 7 = true) :=
  ⟨sealable, 4, 3, (crc32c (sealable.chip.bytes (caskBank 4) 12)), 4, { seq := 4, got := [2, 1, 0] }, by and_intros <;> first | with_reducible rfl | decide +kernel | rfl⟩
theorem wit_corridor_messages_17 : ∃ (s : State) (q : Word) (n : Nat) (crc : Word) (sl : Word),
    (s.chip.cdrOpen) ∧ (s.chip.caskWanted q) ∧ ((s.chip.cdr.caskIn.any fun x => x.seq = q && sl = q && n ≤ 16384 && (List.range n).all fun i => x.got.any fun j => j = i) = false ∨ (s.chip.celCalm ∧ n ≤ 16382 ∧ crc32c (s.chip.bytes (caskBank q) (4 * n)) ≠ crc)) :=
  ⟨sealable, 4, 3, 0, 5, by decide +kernel⟩
theorem wit_corridor_messages_17_b : ∃ (s : State) (q : Word) (n : Nat) (crc : Word) (sl : Word),
    (s.chip.cdrOpen) ∧ (s.chip.caskWanted q) ∧ ((s.chip.cdr.caskIn.any fun x => x.seq = q && sl = q && n ≤ 16384 && (List.range n).all fun i => x.got.any fun j => j = i) = false ∨ (s.chip.celCalm ∧ n ≤ 16382 ∧ crc32c (s.chip.bytes (caskBank q) (4 * n)) ≠ crc)) :=
  ⟨sealable, 4, 3, 1, 4, by decide +kernel⟩
theorem wit_corridor_messages_17_c : ∃ (s : State) (q : Word) (n : Nat) (crc : Word) (sl : Word),
    (s.chip.cdrOpen) ∧ (s.chip.caskWanted q) ∧ ((s.chip.cdr.caskIn.any fun x => x.seq = q && sl = q && n ≤ 16384 && (List.range n).all fun i => x.got.any fun j => j = i) = false ∨ (s.chip.celCalm ∧ n ≤ 16382 ∧ crc32c (s.chip.bytes (caskBank q) (4 * n)) ≠ crc)) :=
  ⟨sealable, 6, 3, 1, 6, by decide +kernel⟩
theorem wit_corridor_messages_18 : ∃ (s : State) (q : Word),
    (s.chip.cdrOpen) ∧ (s.chip.pairState = 4) :=
  ⟨(st fun c => { pr 4 c with cdr := { lock := true, changes := [{ kind := .zone, idx := 3, casks := [4] }, { kind := .zone, idx := 5, casks := [5] }] } }), 4, by decide +kernel⟩
def bld : State := st fun c => (celOn (pr 4 c)).setDrv { evalK := some 77 }
theorem wit_corridor_messages_19 : ∃ (s : State) (k : Int) (q : Word) (b : Nat) (d : Chip),
    (s.chip.up .cdr = true) ∧ (s.chip.pairState = 4) ∧ (s.chip.drv.evalK = some k) ∧ (s.chip.rd rPOL_LEN = 0) ∧ (s.chip.cdr.changes = []) ∧ (s.chip.celCalm) ∧ (s.chip.rb rRGN_WMASK 7 0 7 = true) ∧ (s.chip.corridorUp = true) ∧ (q = s.chip.rd rCASK_SEQ + 1) ∧ (b = caskBank q) ∧ (d = { s.chip with cdr := { s.chip.cdr with mseq := s.chip.cdr.mseq + 1 } }) :=
  ⟨bld, 77, 1, 0x96110000, { bld.chip with cdr := { bld.chip.cdr with mseq := bld.chip.cdr.mseq + 1 } }, by and_intros <;> first | with_reducible rfl | decide +kernel | rfl⟩
def bld2 : State := st fun c => ((((celOn (pr 4 c)).setDrv { evalK := some 77 }).setWords 0x95000000 [4, 5, 6]).setCdr { lock := true, changes := [{ kind := .zone, idx := 3 }, { kind := .lht, idx := 7 }, { kind := .derate, idx := 7, waited := 7 }] }).wr rPOL_LEN 0 0 3 |>.wr rPOL_BASE 0 0 0x95000000
theorem wit_corridor_messages_20 : ∃ (s : State) (k : Int) (q : Word) (b : Nat) (n : Nat),
    (s.chip.up .cdr = true) ∧ (s.chip.pairState = 4) ∧ (s.chip.drv.evalK = some k) ∧ (s.chip.celCalm) ∧ (s.chip.rb rRGN_WMASK 7 0 7 = true) ∧ (n = min 16310 (s.chip.rd rPOL_LEN).toNat) ∧ (0x80000000 ≤ (s.chip.rd rPOL_BASE).toNat ∧ (s.chip.rd rPOL_BASE).toNat + 4 * n ≤ 0x96000000) ∧ (q = s.chip.rd rCASK_SEQ + 1) ∧ (b = caskBank q) :=
  ⟨bld2, 77, 1, 0x96110000, 3, by decide +kernel⟩
theorem wit_corridor_messages_21 : ∃ (s : State) (k : Int),
    (s.chip.up .cdr = true) ∧ (s.chip.pairState = 4) ∧ (s.chip.drv.evalK = some k) ∧ (({ s.chip with cyc := s.chip.cyc + 1 }.caskUnseal (caskBank (s.chip.rd rCASK_SEQ + 1))).policyWords.2 = none) :=
  ⟨(st fun c => (((celOn (pr 4 c)).setDrv { evalK := some 77 }).wr rPOL_LEN 0 0 3 |>.wr rPOL_BASE 0 0 0x95000000).setEcc 0x95000004 0xFF), 77, by decide +kernel⟩
theorem wit_corridor_messages_22 : ∃ (s : State) (r : Fin 4) (off : Nat) (ws : List Word),
    (s.chip.cdrOpen) ∧ (s.chip.pairState = 2 ∨ s.chip.pairState = 3) ∧ (ws.length ≤ 1024) ∧ (off + 4 * ws.length ≤ bulkSize (r + 1)) ∧ (off % 4 = 0) ∧ (off = 0 ∨ (s.chip.pairState = 2 ∧ s.chip.cdr.bulkIn = some { region := r + 1, off := off })) ∧ (s.chip.celCalm) ∧ (s.chip.rb rRGN_WMASK (r + 1) 0 7 = true) ∧ (s.chip.hbOk = true) :=
  ⟨(st fun c => celOn (pr 2 c)), 1, 0, [4, 5, 6], by decide +kernel⟩
theorem wit_corridor_messages_22_b : ∃ (s : State) (r : Fin 4) (off : Nat) (ws : List Word),
    (s.chip.cdrOpen) ∧ (s.chip.pairState = 2 ∨ s.chip.pairState = 3) ∧ (ws.length ≤ 1024) ∧ (off + 4 * ws.length ≤ bulkSize (r + 1)) ∧ (off % 4 = 0) ∧ (off = 0 ∨ (s.chip.pairState = 2 ∧ s.chip.cdr.bulkIn = some { region := r + 1, off := off })) ∧ (s.chip.celCalm) ∧ (s.chip.rb rRGN_WMASK (r + 1) 0 7 = true) ∧ (s.chip.hbOk = true) :=
  ⟨(st fun c => (celOn (pr 2 c)).setCdr { lock := true, bulkIn := some ⟨2, 12⟩, bulkLost := 8, regions := 4 }), 1, 12, [4, 5, 6], by decide +kernel⟩
theorem wit_corridor_messages_22_c : ∃ (s : State) (r : Fin 4) (off : Nat) (ws : List Word),
    (s.chip.cdrOpen) ∧ (s.chip.pairState = 2 ∨ s.chip.pairState = 3) ∧ (ws.length ≤ 1024) ∧ (off + 4 * ws.length ≤ bulkSize (r + 1)) ∧ (off % 4 = 0) ∧ (off = 0 ∨ (s.chip.pairState = 2 ∧ s.chip.cdr.bulkIn = some { region := r + 1, off := off })) ∧ (s.chip.celCalm) ∧ (s.chip.rb rRGN_WMASK (r + 1) 0 7 = true) ∧ (s.chip.hbOk = true) :=
  ⟨(st fun c => (celOn (pr 3 c)).setCdr { lock := true, regions := 30 } |>.wr rCDR_STATUS 0 0 0x2303), 2, 0, [4, 5, 6], by decide +kernel⟩
theorem wit_corridor_messages_23 : ∃ (s : State) (r : Nat) (off : Nat) (ws : List Word),
    (s.chip.cdrOpen) ∧ (s.chip.pairState = 2) ∧ (1 ≤ r) ∧ (r ≤ 4) ∧ (off + 4 * (ws.take 1024).length ≤ bulkSize r) ∧ (off ≠ 0) ∧ (s.chip.cdr.bulkIn ≠ some { region := r, off := off }) :=
  ⟨(st fun c => (celOn (pr 2 c)).setCdr { lock := true, bulkIn := some ⟨2, 12⟩ }), 2, 16, [4], by decide +kernel⟩
theorem wit_corridor_messages_23_b : ∃ (s : State) (r : Nat) (off : Nat) (ws : List Word),
    (s.chip.cdrOpen) ∧ (s.chip.pairState = 2) ∧ (1 ≤ r) ∧ (r ≤ 4) ∧ (off + 4 * (ws.take 1024).length ≤ bulkSize r) ∧ (off ≠ 0) ∧ (s.chip.cdr.bulkIn ≠ some { region := r, off := off }) :=
  ⟨(st fun c => (celOn (pr 2 c)).setCdr { lock := true, bulkIn := some ⟨2, 12⟩ }), 3, 12, [4], by decide +kernel⟩
theorem wit_corridor_messages_26 : ∃ (s : State) (b : BulkSt),
    (s.chip.corridorUp = true) ∧ (s.chip.up .cdr = true) ∧ (s.chip.cdr.bulkOut = some b) ∧ (b.off < bulkSize b.region) ∧ (1 ≤ b.region) ∧ (b.region ≤ 4) ∧ (s.chip.celCalm) ∧ (b.off % 4096 = 0) :=
  ⟨(st fun c => { celOn (pr 4 c) with cdr := { lock := true, bulkOut := some ⟨2, 8192⟩ } }), ⟨2, 8192⟩, by decide +kernel⟩
theorem wit_corridor_messages_28 : ∃ (s : State) (i : Instr),
    (s.chip.cdrOpen ∨ cdrMessage i = none) ∧ (s.chip.pairIdle i = true) :=
  ⟨(st (pr 1)), (.caskMsg 4 2 [5] true), by decide +kernel⟩
theorem wit_corridor_messages_28_b : ∃ (s : State) (i : Instr),
    (s.chip.cdrOpen ∨ cdrMessage i = none) ∧ (s.chip.pairIdle i = true) :=
  ⟨(st (pr 3)), (.bulkMsg 5 0 [5] true), by decide +kernel⟩
theorem wit_corridor_messages_28_c : ∃ (s : State) (i : Instr),
    (s.chip.cdrOpen ∨ cdrMessage i = none) ∧ (s.chip.pairIdle i = true) :=
  ⟨(st (pr 1)), (.bulkEnd 2 0 true), by decide +kernel⟩
theorem wit_corridor_messages_28_d : ∃ (s : State) (i : Instr),
    (s.chip.cdrOpen ∨ cdrMessage i = none) ∧ (s.chip.pairIdle i = true) :=
  ⟨(st), .caskBuild, by decide +kernel⟩
theorem wit_corridor_messages_28_e : ∃ (s : State) (i : Instr),
    (s.chip.cdrOpen ∨ cdrMessage i = none) ∧ (s.chip.pairIdle i = true) :=
  ⟨(st), .bulkTransfer, by decide +kernel⟩
theorem wit_corridor_messages_28_f : ∃ (s : State) (i : Instr),
    (s.chip.cdrOpen ∨ cdrMessage i = none) ∧ (s.chip.pairIdle i = true) :=
  ⟨(st), .stateSend, by decide +kernel⟩
def swp : State := st fun c => (pr 4 c).wr rCDR_STATUS 0 0 0x31C |>.wr rSH_LEAD 0 0 1000000 |>.wr rSH_LEAD 0 1 1000000
def swo : State := st fun c => (pr 4 c).setCdr { lock := true, swap := some { k := 4000, epoch := 7, incoming := false } }
def swl : State := st fun c => (pr 4 c).setCdr { lock := true, swap := some { k := 0xFFFFFFF0, epoch := 7, incoming := false } }
theorem wit_planned_swaps_1 : ∃ (s : State) (a : Access) (v : Word) (k : Word),
    (s.chip.takes a rCDR_SWAP 0 0 (v ||| 0x80000000)) ∧ (s.chip.pairState = 4) ∧ (s.chip.cdr.swap = none) ∧ (s.chip.corridorUp = true) ∧ (s.chip.rf rCDR_STATUS 0 0 5 3 = 3) ∧ (s.chip.swapLead = true) ∧ (k = wordOf s.chip.swapFrame) :=
  ⟨swp, hc, 0, (wordOf swp.chip.swapFrame), by decide +kernel⟩
theorem wit_planned_swaps_1_b : ∃ (s : State) (a : Access) (v : Word) (k : Word),
    (s.chip.takes a rCDR_SWAP 0 0 (v ||| 0x80000000)) ∧ (s.chip.pairState = 4) ∧ (s.chip.cdr.swap = none) ∧ (s.chip.corridorUp = true) ∧ (s.chip.rf rCDR_STATUS 0 0 5 3 = 3) ∧ (s.chip.swapLead = true) ∧ (k = wordOf s.chip.swapFrame) :=
  ⟨swp, hc, 0x40000000, (wordOf swp.chip.swapFrame), by decide +kernel⟩
theorem wit_planned_swaps_2 : ∃ (s : State) (a : Access) (v : Word),
    (s.chip.takes a rCDR_SWAP 0 0 (v ||| 0x80000000)) ∧ (s.chip.pairState = 4) ∧ (s.chip.cdr.swap = none) ∧ (s.chip.corridorUp = false ∨ s.chip.rf rCDR_STATUS 0 0 5 3 ≠ 3 ∨ s.chip.swapLead = false) :=
  ⟨(st fun c => (pr 4 c).wr rCDR_STATUS 0 0 0x84), hc, 0, by decide +kernel⟩
theorem wit_planned_swaps_2_b : ∃ (s : State) (a : Access) (v : Word),
    (s.chip.takes a rCDR_SWAP 0 0 (v ||| 0x80000000)) ∧ (s.chip.pairState = 4) ∧ (s.chip.cdr.swap = none) ∧ (s.chip.corridorUp = false ∨ s.chip.rf rCDR_STATUS 0 0 5 3 ≠ 3 ∨ s.chip.swapLead = false) :=
  ⟨(st (pr 4)), hc, 0x40000000, by decide +kernel⟩
theorem wit_planned_swaps_3 : ∃ (s : State) (a : Access) (v : Word),
    (s.chip.takes a rCDR_SWAP 0 0 (v ||| 0x80000000)) ∧ (s.chip.pairState ≠ 4 ∨ s.chip.cdr.swap ≠ none) :=
  ⟨swo, hc, 0x40000000, by decide +kernel⟩
theorem wit_planned_swaps_3_b : ∃ (s : State) (a : Access) (v : Word),
    (s.chip.takes a rCDR_SWAP 0 0 (v ||| 0x80000000)) ∧ (s.chip.pairState ≠ 4 ∨ s.chip.cdr.swap ≠ none) :=
  ⟨(st (pr 2)), hc, 0x40000000, by decide +kernel⟩
theorem wit_planned_swaps_4 : ∃ (s : State) (m : CdrState) (k : Word),
    (s.chip.cdrOpen) ∧ (s.chip.corridorUp = true) ∧ (s.chip.pairState = 4) ∧ (s.chip.hbOk = true) ∧ (m.revert = true) ∧ (m.state.val = 3) ∧ (s.chip.rf rCDR_STATUS 0 0 5 3 ≠ 2) ∧ (epochHigher m.epoch.toNat s.chip.ownEpoch = false) ∧ (s.chip.rb rCDR_STATUS 0 0 7 = false) ∧ (s.chip.cdr.swap = none) ∧ (s.chip.swapLead = true) ∧ (k = wordOf s.chip.swapFrame) :=
  ⟨swp, { se 3 0 with revert := true }, (wordOf swp.chip.swapFrame), by decide +kernel⟩
theorem wit_planned_swaps_5 : ∃ (s : State) (k : Word) (e : BitVec 16),
    (s.chip.cdrOpen) ∧ (s.chip.pairState = 3) ∧ (s.chip.rb rCDR_STATUS 0 0 13 = true) ∧ (s.chip.corridorUp = true) ∧ (s.chip.swapLead = true) :=
  ⟨(st fun c => (pr 3 c).wr rCDR_STATUS 0 0 0x2303 |>.wr rSH_LEAD 0 1 1000000), 5, 7, by decide +kernel⟩
theorem wit_planned_swaps_6 : ∃ (s : State) (k : Word) (e : BitVec 16),
    (s.chip.cdrOpen) ∧ (s.chip.pairState ≠ 3 ∨ s.chip.rb rCDR_STATUS 0 0 13 = false ∨ s.chip.swapLead = false) ∧ (s.chip.corridorUp = true) :=
  ⟨(st (pr 2)), 5, 7, by decide +kernel⟩
theorem wit_planned_swaps_6_b : ∃ (s : State) (k : Word) (e : BitVec 16),
    (s.chip.cdrOpen) ∧ (s.chip.pairState ≠ 3 ∨ s.chip.rb rCDR_STATUS 0 0 13 = false ∨ s.chip.swapLead = false) ∧ (s.chip.corridorUp = true) :=
  ⟨(st (pr 3)), 5, 7, by decide +kernel⟩
theorem wit_planned_swaps_7 : ∃ (s : State) (x : SwapSt),
    (s.chip.cdrOpen) ∧ (s.chip.cdr.swap = some x) ∧ (x.incoming = false) ∧ (x.agreed = false) ∧ (¬ s.chip.swapPast x) :=
  ⟨swo, { k := 4000, epoch := 7, incoming := false }, by decide +kernel⟩
theorem wit_planned_swaps_8 : ∃ (s : State) (x : SwapSt) (k : Word) (ok : Bool),
    (s.chip.cdrOpen) ∧ (s.chip.cdr.swap = some x) ∧ (x.incoming = false) ∧ (x.agreed = false) ∧ (s.chip.swapPast x ∨ (k = x.k ∧ ok = false)) :=
  ⟨swo, { k := 4000, epoch := 7, incoming := false }, 4000, false, by decide +kernel⟩
theorem wit_planned_swaps_8_b : ∃ (s : State) (x : SwapSt) (k : Word) (ok : Bool),
    (s.chip.cdrOpen) ∧ (s.chip.cdr.swap = some x) ∧ (x.incoming = false) ∧ (x.agreed = false) ∧ (s.chip.swapPast x ∨ (k = x.k ∧ ok = false)) :=
  ⟨swl, { k := 0xFFFFFFF0, epoch := 7, incoming := false }, 4000, true, by decide +kernel⟩
theorem wit_planned_swaps_9 : ∃ (s : State) (x : SwapSt) (k : Word) (ok : Bool),
    (s.chip.cdrOpen) ∧ (s.chip.cdr.swap = some x) ∧ (¬ s.chip.swapPast x) ∧ (k ≠ x.k) :=
  ⟨swo, { k := 4000, epoch := 7, incoming := false }, 4001, true, by decide +kernel⟩
theorem wit_planned_swaps_10 : ∃ (s : State) (x : SwapSt),
    (s.chip.up .cdr = true) ∧ (s.chip.cdr.swap = some x) ∧ (x.incoming = false) ∧ (x.agreed = false) ∧ (s.chip.swapPast x) :=
  ⟨swl, { k := 0xFFFFFFF0, epoch := 7, incoming := false }, by decide +kernel⟩
theorem wit_planned_swaps_11 : ∃ (s : State) (a : Access) (v : Word),
    (s.chip.takes a rCDR_SWAP 0 0 (v ||| 0x40000000)) ∧ (bit v 31 = false) ∧ (s.chip.pairState = 4) ∧ (s.chip.corridorUp = true) :=
  ⟨(st fun c => (pr 4 c).wr rCDR_RELMASK 0 0 5), hc, 0, by decide +kernel⟩
theorem wit_planned_swaps_12 : ∃ (s : State) (a : Access) (v : Word),
    (s.chip.takes a rCDR_SWAP 0 0 (v ||| 0x40000000)) ∧ ((s.chip.pairState ≠ 4 ∨ (bit v 31 = false ∧ s.chip.corridorUp = false))) :=
  ⟨(st (pr 3)), hc, 0x80000000, by decide +kernel⟩
theorem wit_planned_swaps_13 : ∃ (s : State) (a : Access) (v : Word),
    (s.chip.takes a rCDR_SWAP 0 0 (v ||| 0x40000000)) ∧ (bit v 31 = true) ∧ (s.chip.pairState = 4) :=
  ⟨swp, hc, 0x80000000, by decide +kernel⟩
theorem wit_planned_swaps_13_b : ∃ (s : State) (a : Access) (v : Word),
    (s.chip.takes a rCDR_SWAP 0 0 (v ||| 0x40000000)) ∧ (bit v 31 = true) ∧ (s.chip.pairState = 4) :=
  ⟨(st (pr 4)), hc, 0x80000000, by decide +kernel⟩
theorem wit_planned_swaps_14 : ∃ (s : State) (ports : BitVec 48) (k : Word),
    (s.chip.cdrOpen) ∧ (s.chip.pairState ≠ 4) :=
  ⟨(st (pr 3)), 5, 7, by decide +kernel⟩
theorem wit_planned_swaps_15 : ∃ (s : State) (i : Instr),
    (s.chip.cdrOpen) ∧ (cdrMessage i = some true) ∧ (s.chip.pairIdle i = true) :=
  ⟨(st (pr 4)), (.releaseMsg 5 7 true), by decide +kernel⟩
theorem wit_planned_swaps_15_b : ∃ (s : State) (i : Instr),
    (s.chip.cdrOpen) ∧ (cdrMessage i = some true) ∧ (s.chip.pairIdle i = true) :=
  ⟨(st (pr 4)), (.swapAck 5 true true), by decide +kernel⟩

theorem wit_corridor_messages_24 : ∃ (s : State) (r : Fin 4) (crc : Word),
    (s.chip.cdrOpen) ∧ (s.chip.pairState = 2) ∧ (s.chip.celCalm) ∧ ((s.chip.regionCrc (bulkBase (r + 1)) (bulkSize (r + 1) / 4) 0xFFFFFFFF).2 = crc) :=
  ⟨(st fun c => celOn (pr 2 c)), 1, ((st fun c => celOn (pr 2 c)).chip.regionCrc (bulkBase (((1 : Fin 4) : Nat) + 1)) (bulkSize (((1 : Fin 4) : Nat) + 1) / 4) 0xFFFFFFFF).2, by decide +kernel, by decide +kernel, by decide +kernel, rfl⟩
theorem wit_corridor_messages_25 : ∃ (s : State) (r : Fin 4) (crc : Word),
    (s.chip.cdrOpen) ∧ (s.chip.pairState = 2) ∧ (s.chip.celCalm) ∧ ((s.chip.regionCrc (bulkBase (r + 1)) (bulkSize (r + 1) / 4) 0xFFFFFFFF).2 ≠ crc) :=
  ⟨(st fun c => celOn (pr 2 c)), 1, (((st fun c => celOn (pr 2 c)).chip.regionCrc (bulkBase (((1 : Fin 4) : Nat) + 1)) (bulkSize (((1 : Fin 4) : Nat) + 1) / 4) 0xFFFFFFFF).2 + 1), by decide +kernel, by decide +kernel, by decide +kernel, fun h => by bv_omega⟩
theorem wit_corridor_messages_27 : ∃ (s : State) (b : BulkSt) (crc : Word),
    (s.chip.corridorUp = true) ∧ (s.chip.up .cdr = true) ∧ (s.chip.cdr.bulkOut = some b) ∧ (bulkSize b.region ≤ b.off) ∧ (1 ≤ b.region) ∧ (b.region ≤ 4) ∧ (s.chip.celCalm) ∧ ((s.chip.regionCrc (bulkBase b.region) (bulkSize b.region / 4) 0xFFFFFFFF).2 = crc) :=
  ⟨(st fun c => { celOn (pr 4 c) with cdr := { lock := true, bulkOut := some ⟨2, 0x1000000⟩ } }), ⟨2, 0x1000000⟩, ((st fun c => { celOn (pr 4 c) with cdr := { lock := true, bulkOut := some ⟨2, 0x1000000⟩ } }).chip.regionCrc (bulkBase 2) (bulkSize 2 / 4) 0xFFFFFFFF).2, by and_intros <;> first | with_reducible rfl | decide +kernel | rfl⟩

end Sys2Proof.Tests.WitnessM
end

