-- ==== Sys2Proof/Tests/WitnessN.lean ====
section
/-! SUPPORT. States and operands that meet the hypotheses of the statements, part N. -/

namespace Sys2Proof.Tests.WitnessN

open Sys2Proof Sys2Proof.Machine Sys2Proof.Tests

set_option maxRecDepth 100000
set_option Elab.async false
set_option linter.unusedVariables false
set_option linter.unreachableTactic false
set_option linter.unusedTactic false

def celOn : Chip → Chip := fun c => { (c.wr rCEL_CTRL 0 0 0x100F) with cel := { c.cel with serving := true } }
/-- Stack position `p`, Trellis enabled, both sides locked and up. -/
def tp (p : Nat) : Chip → Chip := fun c => { (((c.wr rSTRAP 0 0 (BitVec.ofNat 32 p)).wr rTRL_CTRL 0 0 0x00044007).wr rTRL_STATUS 0 0 6) with trl := { up := ⟨true, true⟩, down := ⟨true, true⟩ } }
def hm (up : Bool) (q : Word) : TrlMsg := { fromUp := up, dest := 5, body := [q, 2, 1] }
theorem wit_trellis_links_and_time_1 : ∃ (s : State) (d : Bool) (l : List (List Word)),
    (s.chip.up .trl = true) ∧ (s.chip.rb rTRL_CTRL 0 0 0 = true) ∧ ((s.chip.trlSide d).lock = false) ∧ ((s.chip.trlSide d).hello = false) ∧ (s.chip.rb rTRL_STATUS 0 0 (linkBit d) = false) ∧ (l = (if d = true ∧ s.chip.pos ≠ 0 then s.chip.trl.hellos else [])) :=
  ⟨(st fun c => c.wr rTRL_CTRL 0 0 1), true, [], by decide +kernel⟩
theorem wit_trellis_links_and_time_1_b : ∃ (s : State) (d : Bool) (l : List (List Word)),
    (s.chip.up .trl = true) ∧ (s.chip.rb rTRL_CTRL 0 0 0 = true) ∧ ((s.chip.trlSide d).lock = false) ∧ ((s.chip.trlSide d).hello = false) ∧ (s.chip.rb rTRL_STATUS 0 0 (linkBit d) = false) ∧ (l = (if d = true ∧ s.chip.pos ≠ 0 then s.chip.trl.hellos else [])) :=
  ⟨(st fun c => c.wr rTRL_CTRL 0 0 1), false, [], by decide +kernel⟩
theorem wit_trellis_links_and_time_1_c : ∃ (s : State) (d : Bool) (l : List (List Word)),
    (s.chip.up .trl = true) ∧ (s.chip.rb rTRL_CTRL 0 0 0 = true) ∧ ((s.chip.trlSide d).lock = false) ∧ ((s.chip.trlSide d).hello = false) ∧ (s.chip.rb rTRL_STATUS 0 0 (linkBit d) = false) ∧ (l = (if d = true ∧ s.chip.pos ≠ 0 then s.chip.trl.hellos else [])) :=
  ⟨(st fun c => ((c.wr rTRL_CTRL 0 0 1).wr rSTRAP 0 0 2).setTrl { hellos := [[3, 2, 1], [4, 2, 1]] }), true, [[3, 2, 1], [4, 2, 1]], by decide +kernel⟩
theorem wit_trellis_links_and_time_2 : ∃ (s : State),
    (s.chip.alive .trl = true) :=
  ⟨(st (tp 0)), by decide +kernel⟩
theorem wit_trellis_links_and_time_2_b : ∃ (s : State),
    (s.chip.alive .trl = true) :=
  ⟨(st), by decide +kernel⟩
theorem wit_trellis_links_and_time_3 : ∃ (s : State),
    (s.chip.alive .trl = true) :=
  ⟨(st (tp 0)), by decide +kernel⟩
theorem wit_trellis_links_and_time_3_b : ∃ (s : State),
    (s.chip.alive .trl = true) :=
  ⟨(st (tp 2)), by decide +kernel⟩
theorem wit_trellis_links_and_time_3_c : ∃ (s : State),
    (s.chip.alive .trl = true) :=
  ⟨(st), by decide +kernel⟩
theorem wit_trellis_links_and_time_4 : ∃ (s : State) (m : TrlMsg) (q : Nat),
    (s.chip.trlOpen m.fromUp) ∧ (m.crcOk = true) ∧ (m.fromUp = false) ∧ (q = (m.body.getD 0 0).toNat % 8) :=
  ⟨(st fun c => ((tp 0 c).wr rTRL_STATUS 0 0 0).setTrl { down := ⟨true, false⟩ }), (hm false 3), 3, by decide +kernel⟩
theorem wit_trellis_links_and_time_4_b : ∃ (s : State) (m : TrlMsg) (q : Nat),
    (s.chip.trlOpen m.fromUp) ∧ (m.crcOk = true) ∧ (m.fromUp = false) ∧ (q = (m.body.getD 0 0).toNat % 8) :=
  ⟨(st fun c => (tp 2 c).setTrl { down := ⟨true, false⟩, up := ⟨true, true⟩, hellos := [[3, 9, 9], [4, 1, 1]] }), (hm false 3), 3, by decide +kernel⟩
theorem wit_trellis_links_and_time_5 : ∃ (s : State) (m : TrlMsg),
    (s.chip.trlOpen m.fromUp) ∧ (m.crcOk = true) ∧ (m.fromUp = true) ∧ ((m.body.getD 0 0).toNat % 8 + 1 = s.chip.pos) :=
  ⟨(st fun c => (tp 2 c).wr rTRL_STATUS 0 0 8 |>.setTrl { edges := true, up := ⟨true, false⟩ }), (hm true 1), by decide +kernel⟩
theorem wit_trellis_links_and_time_5_b : ∃ (s : State) (m : TrlMsg),
    (s.chip.trlOpen m.fromUp) ∧ (m.crcOk = true) ∧ (m.fromUp = true) ∧ ((m.body.getD 0 0).toNat % 8 + 1 = s.chip.pos) :=
  ⟨(st (tp 2)), (hm true 1), by decide +kernel⟩
theorem wit_trellis_links_and_time_6 : ∃ (s : State) (m : TrlMsg),
    (s.chip.trlOpen m.fromUp) ∧ (m.crcOk = true) ∧ (m.fromUp = true) ∧ ((m.body.getD 0 0).toNat % 8 + 1 ≠ s.chip.pos) :=
  ⟨(st (tp 2)), (hm true 2), by decide +kernel⟩
theorem wit_trellis_links_and_time_6_b : ∃ (s : State) (m : TrlMsg),
    (s.chip.trlOpen m.fromUp) ∧ (m.crcOk = true) ∧ (m.fromUp = true) ∧ ((m.body.getD 0 0).toNat % 8 + 1 ≠ s.chip.pos) :=
  ⟨(st fun c => (tp 2 c).wr rTRL_STATUS 0 0 0), (hm true 3), by decide +kernel⟩
theorem wit_trellis_links_and_time_7 : ∃ (s : State) (t : Nat) (f : Word),
    (s.chip.up .trl = true) ∧ (s.chip.pos = 0) ∧ (s.chip.rb rTRL_CTRL 0 0 0 = true) ∧ ((t, f) = s.chip.clockAt (syncEdge s.chip.now)) :=
  ⟨(st (tp 0)), ((st (tp 0)).chip.clockAt (syncEdge (st (tp 0)).chip.now)).1, ((st (tp 0)).chip.clockAt (syncEdge (st (tp 0)).chip.now)).2, by decide +kernel⟩
theorem wit_trellis_links_and_time_8 : ∃ (s : State) (m : TrlMsg),
    (s.chip.trlHere m) :=
  ⟨(st (tp 2)), { fromUp := true, dest := 2, body := [3, 2, 1, 7, 9] }, by decide +kernel⟩
theorem wit_trellis_links_and_time_8_b : ∃ (s : State) (m : TrlMsg),
    (s.chip.trlHere m) :=
  ⟨(st fun c => (tp 2 c).wr rTRL_STATUS 0 0 0xE), { fromUp := true, dest := 7, bcast := true, body := [3, 2, 1, 7, 9] }, by decide +kernel⟩
theorem wit_trellis_links_and_time_8_c : ∃ (s : State) (m : TrlMsg),
    (s.chip.trlHere m) :=
  ⟨(st (tp 0)), { fromUp := false, dest := 0, body := [3, 2, 1, 7, 9] }, by decide +kernel⟩
theorem wit_trellis_links_and_time_9 : ∃ (s : State) (off : Int) (e : Int) (avg : Int) (timed : Bool) (gone : Bool) (loop : Bool) (turn : Bool) (al : Bool),
    (s.chip.up .trl = true) ∧ (s.chip.alive .ts = true) ∧ (s.chip.pos ≠ 0) ∧ (timed = false ∨ s.chip.trl.timeMsg = none) ∧ (gone = (s.chip.rb rTRL_STATUS 0 0 3 && !s.chip.rb rTRL_STATUS 0 0 1)) ∧ (loop = (s.chip.rb rTRL_CTRL 0 0 2 && !gone)) ∧ (e = off - s.chip.rf rTRL_STKDLY 0 0 11 0) ∧ (avg = (s.chip.trl.phSum + e) / 64) ∧ (turn = (loop && decide (63 ≤ s.chip.trl.phN))) ∧ (al = (if turn && decide (avg.natAbs ≤ 8) then true else if turn && decide (16 < avg.natAbs) then false else s.chip.rb rTRL_STATUS 0 0 4)) :=
  ⟨(st fun c => ((tp 2 c).wr rTRL_CTRL 0 0 5).wr rTIME_SERVO 0 0 1), 5, 5, 0, false, false, true, false, false, by decide +kernel⟩
theorem wit_trellis_links_and_time_9_b : ∃ (s : State) (off : Int) (e : Int) (avg : Int) (timed : Bool) (gone : Bool) (loop : Bool) (turn : Bool) (al : Bool),
    (s.chip.up .trl = true) ∧ (s.chip.alive .ts = true) ∧ (s.chip.pos ≠ 0) ∧ (timed = false ∨ s.chip.trl.timeMsg = none) ∧ (gone = (s.chip.rb rTRL_STATUS 0 0 3 && !s.chip.rb rTRL_STATUS 0 0 1)) ∧ (loop = (s.chip.rb rTRL_CTRL 0 0 2 && !gone)) ∧ (e = off - s.chip.rf rTRL_STKDLY 0 0 11 0) ∧ (avg = (s.chip.trl.phSum + e) / 64) ∧ (turn = (loop && decide (63 ≤ s.chip.trl.phN))) ∧ (al = (if turn && decide (avg.natAbs ≤ 8) then true else if turn && decide (16 < avg.natAbs) then false else s.chip.rb rTRL_STATUS 0 0 4)) :=
  ⟨(st fun c => ((tp 2 c).wr rTRL_CTRL 0 0 5).wr rTRL_STATUS 0 0 4), 5, 5, 0, true, false, true, false, false, by decide +kernel⟩
theorem wit_trellis_links_and_time_9_c : ∃ (s : State) (off : Int) (e : Int) (avg : Int) (timed : Bool) (gone : Bool) (loop : Bool) (turn : Bool) (al : Bool),
    (s.chip.up .trl = true) ∧ (s.chip.alive .ts = true) ∧ (s.chip.pos ≠ 0) ∧ (timed = false ∨ s.chip.trl.timeMsg = none) ∧ (gone = (s.chip.rb rTRL_STATUS 0 0 3 && !s.chip.rb rTRL_STATUS 0 0 1)) ∧ (loop = (s.chip.rb rTRL_CTRL 0 0 2 && !gone)) ∧ (e = off - s.chip.rf rTRL_STKDLY 0 0 11 0) ∧ (avg = (s.chip.trl.phSum + e) / 64) ∧ (turn = (loop && decide (63 ≤ s.chip.trl.phN))) ∧ (al = (if turn && decide (avg.natAbs ≤ 8) then true else if turn && decide (16 < avg.natAbs) then false else s.chip.rb rTRL_STATUS 0 0 4)) :=
  ⟨(st fun c => { ((tp 2 c).wr rTRL_CTRL 0 0 5).wr rTRL_STATUS 0 0 0x16 |>.wr rTIME_SERVO 0 0 2 with trl := { phN := 63, phSum := -300 } }), 5, 5, (-5), false, false, true, true, true, by decide +kernel⟩
theorem wit_trellis_links_and_time_9_d : ∃ (s : State) (off : Int) (e : Int) (avg : Int) (timed : Bool) (gone : Bool) (loop : Bool) (turn : Bool) (al : Bool),
    (s.chip.up .trl = true) ∧ (s.chip.alive .ts = true) ∧ (s.chip.pos ≠ 0) ∧ (timed = false ∨ s.chip.trl.timeMsg = none) ∧ (gone = (s.chip.rb rTRL_STATUS 0 0 3 && !s.chip.rb rTRL_STATUS 0 0 1)) ∧ (loop = (s.chip.rb rTRL_CTRL 0 0 2 && !gone)) ∧ (e = off - s.chip.rf rTRL_STKDLY 0 0 11 0) ∧ (avg = (s.chip.trl.phSum + e) / 64) ∧ (turn = (loop && decide (63 ≤ s.chip.trl.phN))) ∧ (al = (if turn && decide (avg.natAbs ≤ 8) then true else if turn && decide (16 < avg.natAbs) then false else s.chip.rb rTRL_STATUS 0 0 4)) :=
  ⟨(st fun c => { ((tp 2 c).wr rTRL_CTRL 0 0 5).wr rTRL_STATUS 0 0 6 |>.wr rTIME_SERVO 0 0 1 with trl := { phN := 63, phSum := -300 } }), 5, 5, (-5), false, false, true, true, true, by decide +kernel⟩
theorem wit_trellis_links_and_time_9_e : ∃ (s : State) (off : Int) (e : Int) (avg : Int) (timed : Bool) (gone : Bool) (loop : Bool) (turn : Bool) (al : Bool),
    (s.chip.up .trl = true) ∧ (s.chip.alive .ts = true) ∧ (s.chip.pos ≠ 0) ∧ (timed = false ∨ s.chip.trl.timeMsg = none) ∧ (gone = (s.chip.rb rTRL_STATUS 0 0 3 && !s.chip.rb rTRL_STATUS 0 0 1)) ∧ (loop = (s.chip.rb rTRL_CTRL 0 0 2 && !gone)) ∧ (e = off - s.chip.rf rTRL_STKDLY 0 0 11 0) ∧ (avg = (s.chip.trl.phSum + e) / 64) ∧ (turn = (loop && decide (63 ≤ s.chip.trl.phN))) ∧ (al = (if turn && decide (avg.natAbs ≤ 8) then true else if turn && decide (16 < avg.natAbs) then false else s.chip.rb rTRL_STATUS 0 0 4)) :=
  ⟨(st fun c => { ((tp 2 c).wr rTRL_CTRL 0 0 5).wr rTRL_STATUS 0 0 0x16 |>.wr rTIME_SERVO 0 0 2 with trl := { phN := 63, phSum := -3000 } }), 5, 5, (-47), false, false, true, true, false, by decide +kernel⟩
theorem wit_trellis_links_and_time_9_f : ∃ (s : State) (off : Int) (e : Int) (avg : Int) (timed : Bool) (gone : Bool) (loop : Bool) (turn : Bool) (al : Bool),
    (s.chip.up .trl = true) ∧ (s.chip.alive .ts = true) ∧ (s.chip.pos ≠ 0) ∧ (timed = false ∨ s.chip.trl.timeMsg = none) ∧ (gone = (s.chip.rb rTRL_STATUS 0 0 3 && !s.chip.rb rTRL_STATUS 0 0 1)) ∧ (loop = (s.chip.rb rTRL_CTRL 0 0 2 && !gone)) ∧ (e = off - s.chip.rf rTRL_STKDLY 0 0 11 0) ∧ (avg = (s.chip.trl.phSum + e) / 64) ∧ (turn = (loop && decide (63 ≤ s.chip.trl.phN))) ∧ (al = (if turn && decide (avg.natAbs ≤ 8) then true else if turn && decide (16 < avg.natAbs) then false else s.chip.rb rTRL_STATUS 0 0 4)) :=
  ⟨(st fun c => ((tp 2 c).wr rTRL_CTRL 0 0 7).wr rTRL_STATUS 0 0 0x1E |>.wr rRAS_STATUS 0 0 1 |> fun c => { c with time := { c.time with now := 1600 } }), 5, 5, 0, false, false, true, false, true, by decide +kernel⟩
theorem wit_trellis_links_and_time_9_g : ∃ (s : State) (off : Int) (e : Int) (avg : Int) (timed : Bool) (gone : Bool) (loop : Bool) (turn : Bool) (al : Bool),
    (s.chip.up .trl = true) ∧ (s.chip.alive .ts = true) ∧ (s.chip.pos ≠ 0) ∧ (timed = false ∨ s.chip.trl.timeMsg = none) ∧ (gone = (s.chip.rb rTRL_STATUS 0 0 3 && !s.chip.rb rTRL_STATUS 0 0 1)) ∧ (loop = (s.chip.rb rTRL_CTRL 0 0 2 && !gone)) ∧ (e = off - s.chip.rf rTRL_STKDLY 0 0 11 0) ∧ (avg = (s.chip.trl.phSum + e) / 64) ∧ (turn = (loop && decide (63 ≤ s.chip.trl.phN))) ∧ (al = (if turn && decide (avg.natAbs ≤ 8) then true else if turn && decide (16 < avg.natAbs) then false else s.chip.rb rTRL_STATUS 0 0 4)) :=
  ⟨(st fun c => ((tp 2 c).wr rTRL_CTRL 0 0 5).wr rTRL_STATUS 0 0 0x18), 5, 5, 0, false, true, false, false, true, by decide +kernel⟩
theorem wit_trellis_links_and_time_10 : ∃ (s : State) (off : Int) (d : Int) (t : Nat) (f : Word),
    (s.chip.up .trl = true) ∧ (s.chip.alive .ts = true) ∧ (s.chip.pos ≠ 0) ∧ (s.chip.trl.timeMsg = some (t, f)) ∧ (s.chip.rb rTRL_CTRL 0 0 2 = false) ∧ (d = (t : Int) - (8 * (s.chip.now : Int) + off - s.chip.rf rTRL_STKDLY 0 0 11 0) / 8) :=
  ⟨(st fun c => { ((tp 2 c).wr rTRL_CTRL 0 0 1).wr rTRL_STATUS 0 0 0x1E with trl := { timeMsg := some (1000, 0) } }), 5, (1000 - 0), 1000, 0, by decide +kernel⟩
theorem wit_trellis_links_and_time_10_b : ∃ (s : State) (off : Int) (d : Int) (t : Nat) (f : Word),
    (s.chip.up .trl = true) ∧ (s.chip.alive .ts = true) ∧ (s.chip.pos ≠ 0) ∧ (s.chip.trl.timeMsg = some (t, f)) ∧ (s.chip.rb rTRL_CTRL 0 0 2 = false) ∧ (d = (t : Int) - (8 * (s.chip.now : Int) + off - s.chip.rf rTRL_STKDLY 0 0 11 0) / 8) :=
  ⟨(st fun c => { ((tp 2 c).wr rTRL_CTRL 0 0 1).wr rTRL_STATUS 0 0 0x1E with trl := { timeMsg := some (1, 0) } }), 8, 0, 1, 0, by decide +kernel⟩
theorem wit_trellis_links_and_time_11 : ∃ (s : State),
    (s.chip.up .trl = true) ∧ (s.chip.pos ≠ 0) :=
  ⟨(st (tp 2)), by decide +kernel⟩
theorem wit_trellis_links_and_time_11_b : ∃ (s : State),
    (s.chip.up .trl = true) ∧ (s.chip.pos ≠ 0) :=
  ⟨(st fun c => (tp 2 c).wr rTRL_STATUS 0 0 0x18), by decide +kernel⟩
def ackS (l : List (Nat × Nat)) (b : Word) : State := st fun c => { (tp 0 c).wr rTRL_STATUS 0 0 b with trl := { lowRun := l, missRun := l }, time := { c.time with now := 2000 } }
theorem wit_trellis_links_and_time_12 : ∃ (s : State) (q : Nat) (n : Nat),
    (s.chip.up .trl = true) ∧ (s.chip.pos = 0) ∧ (s.chip.rb rTRL_CTRL 0 0 1 = true) ∧ (q = s.chip.now / 1000 % 8) ∧ (q ≠ 0) ∧ (n = mget 0 s.chip.trl.lowRun q + 1) :=
  ⟨(ackS [(2, 3)] 6), 2, 4, by decide +kernel⟩
theorem wit_trellis_links_and_time_12_b : ∃ (s : State) (q : Nat) (n : Nat),
    (s.chip.up .trl = true) ∧ (s.chip.pos = 0) ∧ (s.chip.rb rTRL_CTRL 0 0 1 = true) ∧ (q = s.chip.now / 1000 % 8) ∧ (q ≠ 0) ∧ (n = mget 0 s.chip.trl.lowRun q + 1) :=
  ⟨(ackS [] 6), 2, 1, by decide +kernel⟩
theorem wit_trellis_links_and_time_13 : ∃ (s : State) (q : Nat) (n : Nat),
    (s.chip.up .trl = true) ∧ (s.chip.pos = 0) ∧ (s.chip.rb rTRL_CTRL 0 0 1 = true) ∧ (q = s.chip.now / 1000 % 8) ∧ (q ≠ 0) ∧ (n = mget 0 s.chip.trl.missRun q + 1) :=
  ⟨(ackS [(2, 3)] 0x04000006), 2, 4, by decide +kernel⟩
theorem wit_trellis_links_and_time_13_b : ∃ (s : State) (q : Nat) (n : Nat),
    (s.chip.up .trl = true) ∧ (s.chip.pos = 0) ∧ (s.chip.rb rTRL_CTRL 0 0 1 = true) ∧ (q = s.chip.now / 1000 % 8) ∧ (q ≠ 0) ∧ (n = mget 0 s.chip.trl.missRun q + 1) :=
  ⟨(ackS [] 0x04000006), 2, 1, by decide +kernel⟩
theorem wit_trellis_links_and_time_13_c : ∃ (s : State) (q : Nat) (n : Nat),
    (s.chip.up .trl = true) ∧ (s.chip.pos = 0) ∧ (s.chip.rb rTRL_CTRL 0 0 1 = true) ∧ (q = s.chip.now / 1000 % 8) ∧ (q ≠ 0) ∧ (n = mget 0 s.chip.trl.missRun q + 1) :=
  ⟨(ackS [] 6), 2, 1, by decide +kernel⟩
theorem wit_trellis_links_and_time_14 : ∃ (s : State) (low : Bool),
    (s.chip.up .trl = true) ∧ (s.chip.pos = 0) ∧ (s.chip.rb rTRL_CTRL 0 0 1 = true) ∧ (s.chip.now / 1000 % 8 = 0) :=
  ⟨(st (tp 0)), true, by decide +kernel⟩
theorem wit_trellis_links_and_time_14_b : ∃ (s : State) (low : Bool),
    (s.chip.up .trl = true) ∧ (s.chip.pos = 0) ∧ (s.chip.rb rTRL_CTRL 0 0 1 = true) ∧ (s.chip.now / 1000 % 8 = 0) :=
  ⟨(st (tp 0)), false, by decide +kernel⟩
theorem wit_trellis_links_and_time_15 : ∃ (s : State) (i : Instr) (d : Bool) (low : Bool) (timed : Bool) (off : Int),
    ((i = .trellisLinkUp d ∧ (s.chip.up .trl = false ∨ s.chip.rb rTRL_CTRL 0 0 0 = false ∨ (s.chip.trlSide d).lock = true)) ∨ (i = .trellisLinkDown d ∧ s.chip.alive .trl = false) ∨ (i = .trellisTimeSend ∧ (s.chip.up .trl = false ∨ s.chip.pos ≠ 0 ∨ s.chip.rb rTRL_CTRL 0 0 0 = false)) ∨ (i = .stkSyncEdge off timed ∧ (s.chip.up .trl = false ∨ s.chip.alive .ts = false ∨ s.chip.pos = 0)) ∨ (i = .trlMasterLost ∧ (s.chip.up .trl = false ∨ s.chip.pos = 0)) ∨ (i = .stkAckSample low ∧ (s.chip.up .trl = false ∨ s.chip.pos ≠ 0 ∨ s.chip.rb rTRL_CTRL 0 0 1 = false))) :=
  ⟨(st), (.trellisLinkUp true), true, true, true, 0, by decide +kernel⟩
theorem wit_trellis_links_and_time_15_b : ∃ (s : State) (i : Instr) (d : Bool) (low : Bool) (timed : Bool) (off : Int),
    ((i = .trellisLinkUp d ∧ (s.chip.up .trl = false ∨ s.chip.rb rTRL_CTRL 0 0 0 = false ∨ (s.chip.trlSide d).lock = true)) ∨ (i = .trellisLinkDown d ∧ s.chip.alive .trl = false) ∨ (i = .trellisTimeSend ∧ (s.chip.up .trl = false ∨ s.chip.pos ≠ 0 ∨ s.chip.rb rTRL_CTRL 0 0 0 = false)) ∨ (i = .stkSyncEdge off timed ∧ (s.chip.up .trl = false ∨ s.chip.alive .ts = false ∨ s.chip.pos = 0)) ∨ (i = .trlMasterLost ∧ (s.chip.up .trl = false ∨ s.chip.pos = 0)) ∨ (i = .stkAckSample low ∧ (s.chip.up .trl = false ∨ s.chip.pos ≠ 0 ∨ s.chip.rb rTRL_CTRL 0 0 1 = false))) :=
  ⟨(st), .trlMasterLost, true, true, true, 0, by decide +kernel⟩
theorem wit_trellis_links_and_time_15_c : ∃ (s : State) (i : Instr) (d : Bool) (low : Bool) (timed : Bool) (off : Int),
    ((i = .trellisLinkUp d ∧ (s.chip.up .trl = false ∨ s.chip.rb rTRL_CTRL 0 0 0 = false ∨ (s.chip.trlSide d).lock = true)) ∨ (i = .trellisLinkDown d ∧ s.chip.alive .trl = false) ∨ (i = .trellisTimeSend ∧ (s.chip.up .trl = false ∨ s.chip.pos ≠ 0 ∨ s.chip.rb rTRL_CTRL 0 0 0 = false)) ∨ (i = .stkSyncEdge off timed ∧ (s.chip.up .trl = false ∨ s.chip.alive .ts = false ∨ s.chip.pos = 0)) ∨ (i = .trlMasterLost ∧ (s.chip.up .trl = false ∨ s.chip.pos = 0)) ∨ (i = .stkAckSample low ∧ (s.chip.up .trl = false ∨ s.chip.pos ≠ 0 ∨ s.chip.rb rTRL_CTRL 0 0 1 = false))) :=
  ⟨(st), (.stkAckSample true), true, true, true, 0, by decide +kernel⟩
theorem wit_trellis_messages_and_slices_1 : ∃ (s : State) (i : Instr) (t : Nat) (m : TrlMsg),
    (trlMessage i = some (t, m)) ∧ (s.chip.trlOpen m.fromUp) ∧ (m.crcOk = false) :=
  ⟨(st (tp 2)), (.stackMsg { fromUp := true, dest := 2, body := [3], crcOk := false }), 5, { fromUp := true, dest := 2, body := [3], crcOk := false }, by decide +kernel⟩
theorem wit_trellis_messages_and_slices_1_b : ∃ (s : State) (i : Instr) (t : Nat) (m : TrlMsg),
    (trlMessage i = some (t, m)) ∧ (s.chip.trlOpen m.fromUp) ∧ (m.crcOk = false) :=
  ⟨(st (tp 2)), (.trellisHello { fromUp := true, dest := 2, body := [3], crcOk := false }), 1, { fromUp := true, dest := 2, body := [3], crcOk := false }, by decide +kernel⟩
theorem wit_trellis_messages_and_slices_2 : ∃ (s : State) (i : Instr) (t : Nat) (m : TrlMsg),
    (trlMessage i = some (t, m)) ∧ (¬ s.chip.trlOpen m.fromUp ∨ (t ≠ 1 ∧ m.crcOk = true ∧ s.chip.rb rTRL_STATUS 0 0 (linkBit m.fromUp) = false)) :=
  ⟨(st fun c => (tp 2 c).wr rTRL_STATUS 0 0 4), (.stackMsg { fromUp := true, dest := 2, body := [3] }), 5, { fromUp := true, dest := 2, body := [3] }, by decide +kernel⟩
theorem wit_trellis_messages_and_slices_2_b : ∃ (s : State) (i : Instr) (t : Nat) (m : TrlMsg),
    (trlMessage i = some (t, m)) ∧ (¬ s.chip.trlOpen m.fromUp ∨ (t ≠ 1 ∧ m.crcOk = true ∧ s.chip.rb rTRL_STATUS 0 0 (linkBit m.fromUp) = false)) :=
  ⟨(st), (.trellisHello { fromUp := true, dest := 2, body := [3] }), 1, { fromUp := true, dest := 2, body := [3] }, by decide +kernel⟩
theorem wit_trellis_messages_and_slices_3 : ∃ (s : State) (i : Instr) (t : Nat) (m : TrlMsg),
    (trlMessage i = some (t, m)) ∧ (t ≠ 1) ∧ (s.chip.trlOpen m.fromUp) ∧ (m.crcOk = true) ∧ (s.chip.rb rTRL_STATUS 0 0 (linkBit m.fromUp) = true) ∧ (m.dest.val ≠ s.chip.pos) ∧ (m.bcast = false) :=
  ⟨(st (tp 2)), (.stackMsg { fromUp := true, dest := 3, body := [3] }), 5, { fromUp := true, dest := 3, body := [3] }, by decide +kernel⟩
theorem wit_trellis_messages_and_slices_3_b : ∃ (s : State) (i : Instr) (t : Nat) (m : TrlMsg),
    (trlMessage i = some (t, m)) ∧ (t ≠ 1) ∧ (s.chip.trlOpen m.fromUp) ∧ (m.crcOk = true) ∧ (s.chip.rb rTRL_STATUS 0 0 (linkBit m.fromUp) = true) ∧ (m.dest.val ≠ s.chip.pos) ∧ (m.bcast = false) :=
  ⟨(st (tp 2)), (.sliceMsg { fromUp := false, dest := 1, body := [3] }), 3, { fromUp := false, dest := 1, body := [3] }, by decide +kernel⟩
theorem wit_trellis_messages_and_slices_4 : ∃ (s : State) (m : TrlMsg),
    (s.chip.trlHere m) ∧ (fld (m.body.getD 0 0) 31 28 ≠ 1) ∧ (fld (m.body.getD 0 0) 31 28 ≠ 2) :=
  ⟨(st (tp 2)), { fromUp := true, dest := 2, body := [3] }, by decide +kernel⟩
theorem wit_trellis_messages_and_slices_4_b : ∃ (s : State) (m : TrlMsg),
    (s.chip.trlHere m) ∧ (fld (m.body.getD 0 0) 31 28 ≠ 1) ∧ (fld (m.body.getD 0 0) 31 28 ≠ 2) :=
  ⟨(st (tp 2)), { fromUp := true, dest := 7, bcast := true, body := [3] }, by decide +kernel⟩
theorem wit_trellis_messages_and_slices_5 : ∃ (s : State) (m : TrlMsg),
    (s.chip.trlHere m) ∧ (fld (m.body.getD 0 0) 31 28 = 1 ∨ fld (m.body.getD 0 0) 31 28 = 2) ∧ ((s.chip.trl.stackIn.all fun x => x.take 5 ≠ m.body.take 5) = true) ∧ ((stackPart m.body).1 ≠ 0) ∧ (0 < (m.body.getD 5 0).toNat / 65536) :=
  ⟨(st (tp 2)), { fromUp := true, dest := 2, body := [0x10000004, 1, 2, 3, 4, 0x00080004, 7] }, by decide +kernel⟩
theorem wit_trellis_messages_and_slices_6 : ∃ (s : State) (m : TrlMsg) (l : List Byte),
    (s.chip.trlHere m) ∧ (fld (m.body.getD 0 0) 31 28 = 2) ∧ (s.chip.pos = 0) ∧ (m.bcast = false) ∧ ((s.chip.trl.stackIn.all fun x => x.take 5 ≠ m.body.take 5) = true) ∧ ((0, l) = stackPart m.body) ∧ (l.length = (m.body.getD 5 0).toNat / 65536) :=
  ⟨(st (tp 0)), { fromUp := false, dest := 0, body := [0x20001234, 9, 2, 3, 4, 0x00040000, 0x04030201] }, [1, 2, 3, 4], by decide +kernel⟩
def dc (n : Nat) (x : DCanv) (f : Chip → Chip := id) : State := st fun c => f ((celOn ((((tp 2 c).wr rTRL_DCANV 1 0 (BitVec.ofNat 32 (0x80000000 + n * 256))).wr rTRL_DSIZE 1 0 0x000F001F).wr rTRL_DBASE 1 1 0x80010000)).setDcanv 1 x)
theorem wit_trellis_messages_and_slices_7 : ∃ (s : State) (m : TrlMsg) (h : Word) (ws : List Word) (cv : Nat) (k : Nat) (x : Nat) (y : Nat) (a : Nat) (o : Nat) (n : Nat) (g : Geom),
    (s.chip.trlHere m) ∧ (m.body = h :: ws) ∧ (cv = fld h 31 30) ∧ (s.chip.dcanvOn cv = true) ∧ ((s.chip.dcanv cv).openBuf = some k) ∧ (g = s.chip.viewGeom cv) ∧ (x = fld h 12 0) ∧ (y = fld h 28 16) ∧ (x < g.w) ∧ (y < g.h) ∧ (x % ppgOf g.fmt = 0) ∧ (o = x / ppgOf g.fmt * groupBytes g.fmt) ∧ (n = min (4 * ws.length / groupBytes g.fmt) ((g.w + ppgOf g.fmt - 1 - x) / ppgOf g.fmt) * groupBytes g.fmt) ∧ (a = g.base k + y * g.stride + o) ∧ (celBase ≤ a) ∧ (celRegion a = 0) ∧ (celRegion (g.base k + (y + 1) * g.stride) = 0) ∧ (s.chip.rb rRGN_WMASK 0 0 8 = true) ∧ (s.chip.celCalm) :=
  ⟨(dc 1 { openBuf := some 1 }), { fromUp := true, dest := 2, body := [0x40020003, 0x04030201, 0x08070605] }, 0x40020003, [0x04030201, 0x08070605], 1, 1, 3, 2, (0x80010000 + 2 * 128 + 9), 9, 6, ((dc 1 {}).chip.viewGeom 1), by and_intros <;> first | with_reducible rfl | decide +kernel | rfl⟩
def f12 : Chip → Chip := fun c => (c.wr rTRL_DCANV 1 0 0x80000102).wr rTRL_DSIZE 1 0 0x000F0003
theorem wit_trellis_messages_and_slices_7_b : ∃ (s : State) (m : TrlMsg) (h : Word) (ws : List Word) (cv : Nat) (k : Nat) (x : Nat) (y : Nat) (a : Nat) (o : Nat) (n : Nat) (g : Geom),
    (s.chip.trlHere m) ∧ (m.body = h :: ws) ∧ (cv = fld h 31 30) ∧ (s.chip.dcanvOn cv = true) ∧ ((s.chip.dcanv cv).openBuf = some k) ∧ (g = s.chip.viewGeom cv) ∧ (x = fld h 12 0) ∧ (y = fld h 28 16) ∧ (x < g.w) ∧ (y < g.h) ∧ (x % ppgOf g.fmt = 0) ∧ (o = x / ppgOf g.fmt * groupBytes g.fmt) ∧ (n = min (4 * ws.length / groupBytes g.fmt) ((g.w + ppgOf g.fmt - 1 - x) / ppgOf g.fmt) * groupBytes g.fmt) ∧ (a = g.base k + y * g.stride + o) ∧ (celBase ≤ a) ∧ (celRegion a = 0) ∧ (celRegion (g.base k + (y + 1) * g.stride) = 0) ∧ (s.chip.rb rRGN_WMASK 0 0 8 = true) ∧ (s.chip.celCalm) :=
  ⟨(dc 1 { openBuf := some 1 } f12), { fromUp := true, dest := 2, body := [0x40020002, 0x04030201, 0x08070605, 9, 10] }, 0x40020002, [0x04030201, 0x08070605, 9, 10], 1, 1, 2, 2, (0x80010000 + 2 * 64 + 9), 9, 9, ((dc 1 {} f12).chip.viewGeom 1), by and_intros <;> first | with_reducible rfl | decide +kernel | rfl⟩
theorem wit_trellis_messages_and_slices_8 : ∃ (s : State) (m : TrlMsg) (h : Word) (ws : List Word) (cv : Nat),
    (s.chip.trlHere m) ∧ (m.body = h :: ws) ∧ (cv = fld h 31 30) ∧ (s.chip.dcanvOn cv = false ∨ ((s.chip.dcanv cv).openBuf ≠ none ∧ ((s.chip.viewGeom cv).w ≤ fld h 12 0 ∨ (s.chip.viewGeom cv).h ≤ fld h 28 16 ∨ fld h 12 0 % ppgOf (s.chip.viewGeom cv).fmt ≠ 0))) :=
  ⟨(dc 1 { openBuf := some 1 }), { fromUp := true, dest := 2, body := [0x40020020, 0x04030201] }, 0x40020020, [0x04030201], 1, by decide +kernel⟩
theorem wit_trellis_messages_and_slices_8_b : ∃ (s : State) (m : TrlMsg) (h : Word) (ws : List Word) (cv : Nat),
    (s.chip.trlHere m) ∧ (m.body = h :: ws) ∧ (cv = fld h 31 30) ∧ (s.chip.dcanvOn cv = false ∨ ((s.chip.dcanv cv).openBuf ≠ none ∧ ((s.chip.viewGeom cv).w ≤ fld h 12 0 ∨ (s.chip.viewGeom cv).h ≤ fld h 28 16 ∨ fld h 12 0 % ppgOf (s.chip.viewGeom cv).fmt ≠ 0))) :=
  ⟨(st (tp 2)), { fromUp := true, dest := 2, body := [0x40020020, 0x04030201] }, 0x40020020, [0x04030201], 1, by decide +kernel⟩
theorem wit_trellis_messages_and_slices_9 : ∃ (s : State) (m : TrlMsg) (h : Word) (w : Word) (ws : List Word) (cv : Fin 4) (b : Nat),
    (s.chip.trlHere m) ∧ (m.body = h :: ws) ∧ (cv.val = fld h 31 30) ∧ (s.chip.dcanvOn cv = true) ∧ ((s.chip.dcanv cv).openBuf = none) ∧ (w = s.chip.word (recAddr cv)) ∧ (bufsIn w 0 ≠ []) ∧ (b = (bufsIn w 0).headD 0) ∧ (s.chip.rb rRGN_WMASK 6 0 8 = true) ∧ (s.chip.celCalm) ∧ ((s.chip.viewGeom cv).w ≤ fld h 12 0) :=
  ⟨(dc 1 {} fun c => c.setWord 0x96000080 2), { fromUp := true, dest := 2, body := [0x40020020, 0x04030201] }, 0x40020020, 2, [0x04030201], 1, 1, by decide +kernel⟩
def en1 : TrlMsg := { fromUp := true, dest := 2, body := [0x40000000, 9, 1, 2, 3, 1] }
theorem wit_trellis_messages_and_slices_10 : ∃ (s : State) (m : TrlMsg) (cv : Fin 4) (w0 : Word) (q : Word) (t0 : Word) (t1 : Word) (t2 : Word) (w5 : Word) (sig : Word) (k : Fin 3) (x : DCanv),
    (s.chip.trlHere m) ∧ (m.body = [w0, q, t0, t1, t2, w5]) ∧ (cv.val = fld w0 31 30) ∧ (s.chip.dcanvOn cv = true) ∧ (s.chip.dcanv cv = x) ∧ (x.openBuf = some k.val) ∧ (x.seq = some q ∨ x.seq = none) ∧ (max 1 (s.chip.rf rTRL_DCANV cv 0 11 8) ≤ x.ends + 1) ∧ (s.chip.rb rRGN_WMASK 6 0 8 = true) ∧ (s.chip.celCalm) ∧ (sig = s.chip.canvSig (s.chip.viewGeom cv) k) :=
  ⟨(dc 1 { openBuf := some 1, seq := some 9 }), en1, 1, 0x40000000, 9, 1, 2, 3, 1, ((dc 1 {}).chip.canvSig ((dc 1 {}).chip.viewGeom 1) 1), 1, { openBuf := some 1, seq := some 9 }, by and_intros <;> first | with_reducible rfl | decide +kernel | rfl⟩
theorem wit_trellis_messages_and_slices_11 : ∃ (s : State) (m : TrlMsg) (cv : Fin 4) (w0 : Word) (q : Word) (t0 : Word) (t1 : Word) (t2 : Word) (w5 : Word) (k : Fin 3) (x : DCanv),
    (s.chip.trlHere m) ∧ (m.body = [w0, q, t0, t1, t2, w5]) ∧ (cv.val = fld w0 31 30) ∧ (s.chip.dcanvOn cv = true) ∧ (s.chip.dcanv cv = x) ∧ (x.openBuf = some k.val) ∧ (x.seq = some q ∨ x.seq = none) ∧ (x.ends + 1 < max 1 (s.chip.rf rTRL_DCANV cv 0 11 8)) :=
  ⟨(dc 3 { openBuf := some 1, seq := some 9 }), en1, 1, 0x40000000, 9, 1, 2, 3, 1, 1, { openBuf := some 1, seq := some 9 }, by and_intros <;> first | with_reducible rfl | decide +kernel | rfl⟩
theorem wit_trellis_messages_and_slices_12 : ∃ (s : State) (m : TrlMsg) (cv : Fin 4) (w0 : Word) (q : Word) (p : Word) (t0 : Word) (t1 : Word) (t2 : Word) (w5 : Word) (sig : Word) (k : Fin 3) (x : DCanv),
    (s.chip.trlHere m) ∧ (m.body = [w0, q, t0, t1, t2, w5]) ∧ (cv.val = fld w0 31 30) ∧ (s.chip.dcanvOn cv = true) ∧ (s.chip.dcanv cv = x) ∧ (x.openBuf = some k.val) ∧ (x.seq = some p) ∧ (0 < (q - p).toInt) ∧ (s.chip.rb rRGN_WMASK 6 0 8 = true) ∧ (s.chip.celCalm) ∧ (1 < s.chip.rf rTRL_DCANV cv 0 11 8) ∧ (sig = s.chip.canvSig (s.chip.viewGeom cv) k) ∧ (bufsIn (s.chip.word (recAddr cv)) 0 ≠ []) ∧ (bufsIn (s.chip.word (recAddr cv)) 2 = []) ∧ (bufState (s.chip.word (recAddr cv)) k = 1) :=
  ⟨(dc 3 { openBuf := some 1, seq := some 8 } fun c => c.setWord 0x96000080 4), en1, 1, 0x40000000, 9, 8, 1, 2, 3, 1, ((dc 1 {}).chip.canvSig ((dc 1 {}).chip.viewGeom 1) 1), 1, { openBuf := some 1, seq := some 8 }, by and_intros <;> first | with_reducible rfl | decide +kernel | rfl⟩
theorem wit_trellis_messages_and_slices_13 : ∃ (s : State) (m : TrlMsg) (cv : Nat) (w0 : Word) (q : Word) (p : Word) (t : List Word),
    (s.chip.trlHere m) ∧ (m.body = w0 :: q :: t) ∧ (cv = fld w0 31 30) ∧ (s.chip.dcanvOn cv = false ∨ ((s.chip.dcanv cv).seq = some p ∧ (q - p).toInt < 0)) :=
  ⟨(dc 3 { openBuf := some 1, seq := some 10 }), en1, 1, 0x40000000, 9, 10, [1, 2, 3, 1], by decide +kernel⟩
theorem wit_trellis_messages_and_slices_13_b : ∃ (s : State) (m : TrlMsg) (cv : Nat) (w0 : Word) (q : Word) (p : Word) (t : List Word),
    (s.chip.trlHere m) ∧ (m.body = w0 :: q :: t) ∧ (cv = fld w0 31 30) ∧ (s.chip.dcanvOn cv = false ∨ ((s.chip.dcanv cv).seq = some p ∧ (q - p).toInt < 0)) :=
  ⟨(st (tp 2)), en1, 1, 0x40000000, 9, 10, [1, 2, 3, 1], by decide +kernel⟩
def fj (l : List Nat) : SlJob := { buf := 1, seq := 9, ts := [1, 2, 3], incomplete := false, slices := l }
theorem wit_trellis_messages_and_slices_14 : ∃ (s : State) (cv : Fin 4) (j : SlJob),
    (s.chip.up .trl = true) ∧ (s.chip.fwd cv = { cur := some j, waiting := none }) ∧ (2 ≤ fld (s.chip.word (recAddr cv)) (2 * j.buf + 1) (2 * j.buf)) ∧ (s.chip.celUp = false ∨ s.chip.celCalm) ∧ (s.chip.rb rTRL_STATUS 0 0 2 = true) :=
  ⟨(st fun c => ((tp 0 c).setWord 0x96000080 8).setFwd 1 { cur := some (fj [4]), waiting := none }), 1, (fj [4]), by decide +kernel⟩
theorem wit_trellis_messages_and_slices_14_b : ∃ (s : State) (cv : Fin 4) (j : SlJob),
    (s.chip.up .trl = true) ∧ (s.chip.fwd cv = { cur := some j, waiting := none }) ∧ (2 ≤ fld (s.chip.word (recAddr cv)) (2 * j.buf + 1) (2 * j.buf)) ∧ (s.chip.celUp = false ∨ s.chip.celCalm) ∧ (s.chip.rb rTRL_STATUS 0 0 2 = true) :=
  ⟨(st fun c => ((celOn (tp 0 c)).setWord 0x96000080 8).setFwd 1 { cur := some (fj [4, 5]), waiting := none }), 1, (fj [4, 5]), by decide +kernel⟩
theorem wit_trellis_messages_and_slices_15 : ∃ (s : State) (cv : Fin 4) (j : SlJob),
    (s.chip.up .trl = true) ∧ (s.chip.fwd cv = { cur := some j, waiting := none }) ∧ (fld (s.chip.word (recAddr cv)) (2 * j.buf + 1) (2 * j.buf) < 2) ∧ (s.chip.celCalm) :=
  ⟨(st fun c => ((celOn (tp 0 c)).setWord 0x96000080 4).setFwd 1 { cur := some (fj [4, 5]), waiting := none }), 1, (fj [4, 5]), by decide +kernel⟩
theorem wit_trellis_messages_and_slices_16 : ∃ (s : State) (cv : Fin 4),
    (s.chip.up .trl = false ∨ (s.chip.fwd cv).cur = none) :=
  ⟨(st), 1, by decide +kernel⟩
theorem wit_trellis_messages_and_slices_17 : ∃ (s : State) (a : Access) (q : Fin 16) (v : Word) (g : Nat),
    (s.chip.takes a rTRL_SL q 0 (v ||| 0x80000000)) ∧ (g = ppgOf (s.chip.rf rCANV_CTRL (fld v 27 26) 0 1 0)) ∧ (s.chip.rf rTRL_SL_ORG q 0 12 0 % g = 0) ∧ (s.chip.rf rTRL_SL_DORG q 0 12 0 % g = 0) ∧ ((s.chip.rf rTRL_SL_EXT q 0 12 0 + 1) % g = 0) ∧ (fld v 30 28 ≠ 0) :=
  ⟨(st), hc, 4, 0x20000000, 1, by decide +kernel⟩
theorem wit_trellis_messages_and_slices_18 : ∃ (s : State) (a : Access) (q : Fin 16) (v : Word) (g : Nat),
    (s.chip.takes a rTRL_SL q 0 (v ||| 0x80000000)) ∧ (g = ppgOf (s.chip.rf rCANV_CTRL (fld v 27 26) 0 1 0)) ∧ (s.chip.rf rTRL_SL_ORG q 0 12 0 % g ≠ 0 ∨ s.chip.rf rTRL_SL_DORG q 0 12 0 % g ≠ 0 ∨ (s.chip.rf rTRL_SL_EXT q 0 12 0 + 1) % g ≠ 0 ∨ fld v 30 28 = 0) :=
  ⟨(st), hc, 4, 0, 1, by decide +kernel⟩
theorem wit_trellis_messages_and_slices_18_b : ∃ (s : State) (a : Access) (q : Fin 16) (v : Word) (g : Nat),
    (s.chip.takes a rTRL_SL q 0 (v ||| 0x80000000)) ∧ (g = ppgOf (s.chip.rf rCANV_CTRL (fld v 27 26) 0 1 0)) ∧ (s.chip.rf rTRL_SL_ORG q 0 12 0 % g ≠ 0 ∨ s.chip.rf rTRL_SL_DORG q 0 12 0 % g ≠ 0 ∨ (s.chip.rf rTRL_SL_EXT q 0 12 0 + 1) % g ≠ 0 ∨ fld v 30 28 = 0) :=
  ⟨(st fun c => (c.wr rCANV_CTRL 1 0 1).wr rTRL_SL_ORG 4 0 3), hc, 4, 0x24000000, 4, by decide +kernel⟩

end Sys2Proof.Tests.WitnessN
end

