-- ==== Sys2Proof/Tests/WitnessO.lean ====
section
/-! SUPPORT. States and operands that meet the hypotheses of the statements, part O. -/

namespace Sys2Proof.Tests.WitnessO

open Sys2Proof Sys2Proof.Machine Sys2Proof.Tests

set_option maxRecDepth 100000
set_option Elab.async false
set_option linter.unusedVariables false
set_option linter.unreachableTactic false
set_option linter.unusedTactic false

def hb (type : Nat) (sid : Nat) (body : List Byte) : List Byte :=
  DopHdr.bytes { ver := 1, type := type, src := 7, dst := 16383, sid := BitVec.ofNat 32 sid, seq := 0, len := body.length, flags := 1, level := 0 } ++ body
def dm (b : List Byte) : DopMsg := { bytes := b, ip := 0x0A000001, udp := 30480, ts := 5000000 }
def fw : Chip → Chip := fun c => { c with boot := { c.boot with hc0 := .monitor }, time := { c.time with now := 9000000 } }
def hello : List Byte := hb 1 0 ([1, 3] ++ natBE 2 9130 ++ List.replicate 36 0)
def se : DopSess := { sid := 5, src := 7, level := 0, ver := 3, maxBody := 9130, entry := none, at_ := 0 }
def ss : State := st fun c => { fw c with dop := { sess := [se] }, objs := [(0x101000, some [0xFF, 0x3F])] }
def getB : List Byte := hb 0x10 5 ([0, 9, 0, 1, 0x10, 0, 0, 0xFF, 0, 0, 0, 4])
def setB : List Byte := hb 0x12 5 ([0, 9, 0, 1, 0x10, 0x10, 0, 2, 0, 0, 0, 2, 5, 0, 0, 0])
def it1 : DopItem := { idx := 0x1010, sub := 0, ty := 2, flags := 0, vlen := 2, val := [5, 0] }
def rq : DopReq := { ts := 5000000, src := 7, dst := 16383, ver := 3, level := 3, sid := 5, req := 9, items := [it1], ip := 1, udp := 2 }
/-- A DOP message of type `type` to `dst` with FLAGS `fl` and LEVEL `lv`. -/
def hb2 (type dst fl lv : Nat) (body : List Byte) : List Byte :=
  DopHdr.bytes { ver := 1, type := type, src := 7, dst := dst, sid := if fl / 2 % 2 = 1 then 0x80000005 else 5, seq := 3, len := body.length, flags := fl, level := lv } ++ body ++ (if fl % 2 = 1 then [] else List.replicate 16 0)
def helloL (lv : Nat) (b : List Byte) : List Byte := DopHdr.bytes { ver := 1, type := 1, src := 7, dst := 16383, sid := 0, seq := 0, len := 40, flags := 1, level := lv } ++ b ++ List.replicate 36 0
def mst : Chip → Chip := fun c => { (((fw c).wr rTRL_CTRL 0 0 0x00044007).wr rTRL_STATUS 0 0 6) with trl := { up := ⟨true, true⟩, down := ⟨true, true⟩ }, objs := [(0x101303, some [9, 0])] }
def halves : List DopSess := (List.range 8).map fun k => { se with sid := BitVec.ofNat 32 (40 + k), entry := if k = 0 then some 2 else none }
def opens : List DopSess := (List.range 32).map fun k => { se with sid := BitVec.ofNat 32 (40 + k), opened := true }
def held (l : List DopSess) (f : Chip → Chip := id) : State := st fun c => f { (fw c) with dop := { sess := l }, objs := [(0x101000, some [0xFF, 0x3F])] }
def room (s : State) : Chip := ({ s.chip with cyc := s.chip.cyc + 1 }.dopCount 0).halfRoom
theorem wit_protocol_sessions_1 : ∃ (s : State) (i : Instr) (ty : Nat) (m : DopMsg),
    (dopMessage i = some (ty, m)) ∧ (s.chip.dopRuns = false ∨ s.chip.dopAddressed m = false) :=
  ⟨(st), (.dopGet { dm getB with destPort := 5 }), 0x10, { dm getB with destPort := 5 }, by decide +kernel⟩
theorem wit_protocol_sessions_1_b : ∃ (s : State) (i : Instr) (ty : Nat) (m : DopMsg),
    (dopMessage i = some (ty, m)) ∧ (s.chip.dopRuns = false ∨ s.chip.dopAddressed m = false) :=
  ⟨(st fun c => { c with boot := { c.boot with ncRun := false } }), (.dopHello (dm hello)), 1, (dm hello), by decide +kernel⟩
theorem wit_protocol_sessions_2 : ∃ (s : State) (i : Instr) (ty : Nat) (m : DopMsg),
    (dopMessage i = some (ty, m)) ∧ (s.chip.dopRuns = true) ∧ (s.chip.dopAddressed m = true) ∧ (m.frag = true ∨ headOk m.bytes ty = false) :=
  ⟨(st fw), (.dopSet { dm [] with frag := true }), 0x12, { dm [] with frag := true }, by decide +kernel⟩
theorem wit_protocol_sessions_2_b : ∃ (s : State) (i : Instr) (ty : Nat) (m : DopMsg),
    (dopMessage i = some (ty, m)) ∧ (s.chip.dopRuns = true) ∧ (s.chip.dopAddressed m = true) ∧ (m.frag = true ∨ headOk m.bytes ty = false) :=
  ⟨(st fw), (.dopGet (dm [1, 2])), 0x10, (dm [1, 2]), by decide +kernel⟩
theorem wit_protocol_sessions_3 : ∃ (s : State) (i : Instr) (ty : Nat) (m : DopMsg) (h : DopHdr),
    (dopMessage i = some (ty, m)) ∧ (s.chip.dopWhole m ty h) ∧ (s.chip.forMe h.dst = false) ∧ (s.chip.hasFollowers = false) :=
  ⟨(st fw), (.dopGet (dm (hb2 0x10 44 1 0 []))), 0x10, (dm (hb2 0x10 44 1 0 [])), (dopHdr (hb2 0x10 44 1 0 [])), by decide +kernel⟩
theorem wit_protocol_sessions_4 : ∃ (s : State) (i : Instr) (ty : Nat) (q : Nat) (m : DopMsg) (h : DopHdr),
    (dopMessage i = some (ty, m)) ∧ (s.chip.dopWhole m ty h) ∧ (s.chip.forMe h.dst = false) ∧ (s.chip.hasFollowers = true) ∧ (s.chip.rb rTRL_STATUS 0 0 2 = true) ∧ (s.chip.up .trl = true) ∧ (m.bytes.length ≤ 4080) ∧ ((h.group = false ∧ (List.range 7).find? (fun j => s.chip.objNat 0x1013 (j + 1) 0 = h.dst && h.dst ≠ 0) = some q) ∨ (h.group = true ∧ q = 6 ∧ s.chip.followerDst h = false)) :=
  ⟨(st mst), (.dopGet (dm (hb2 0x10 9 1 0 [1]))), 0x10, 2, (dm (hb2 0x10 9 1 0 [1])), (dopHdr (hb2 0x10 9 1 0 [1])), by decide +kernel⟩
theorem wit_protocol_sessions_4_b : ∃ (s : State) (i : Instr) (ty : Nat) (q : Nat) (m : DopMsg) (h : DopHdr),
    (dopMessage i = some (ty, m)) ∧ (s.chip.dopWhole m ty h) ∧ (s.chip.forMe h.dst = false) ∧ (s.chip.hasFollowers = true) ∧ (s.chip.rb rTRL_STATUS 0 0 2 = true) ∧ (s.chip.up .trl = true) ∧ (m.bytes.length ≤ 4080) ∧ ((h.group = false ∧ (List.range 7).find? (fun j => s.chip.objNat 0x1013 (j + 1) 0 = h.dst && h.dst ≠ 0) = some q) ∨ (h.group = true ∧ q = 6 ∧ s.chip.followerDst h = false)) :=
  ⟨(st mst), (.dopSet (dm (hb2 0x12 0x8009 2 3 [1]))), 0x12, 6, (dm (hb2 0x12 0x8009 2 3 [1])), (dopHdr (hb2 0x12 0x8009 2 3 [1])), by decide +kernel⟩
theorem wit_protocol_sessions_5 : ∃ (s : State) (m : DopMsg) (h : DopHdr),
    (s.chip.dopMine m 1 h) ∧ (¬ helloOk h (m.bytes.drop 24)) :=
  ⟨(st fw), (dm (hb 1 0 (List.replicate 40 0))), (dopHdr (hb 1 0 (List.replicate 40 0))), by decide +kernel⟩
theorem wit_protocol_sessions_6 : ∃ (s : State) (m : DopMsg) (h : DopHdr) (st : Nat) (ver : Nat),
    (s.chip.dopMine m 1 h) ∧ (helloOk h (m.bytes.drop 24)) ∧ (s.chip.helloStatus h (m.bytes.drop 24) = some (st, ver)) :=
  ⟨(st fw), (dm (helloL 0 ([5, 3] ++ natBE 2 9130))), (dopHdr (helloL 0 ([5, 3] ++ natBE 2 9130))), 0x1B, 0, by decide +kernel⟩
theorem wit_protocol_sessions_6_b : ∃ (s : State) (m : DopMsg) (h : DopHdr) (st : Nat) (ver : Nat),
    (s.chip.dopMine m 1 h) ∧ (helloOk h (m.bytes.drop 24)) ∧ (s.chip.helloStatus h (m.bytes.drop 24) = some (st, ver)) :=
  ⟨(held opens), (dm hello), (dopHdr hello), stBusy, 3, by decide +kernel⟩
theorem wit_protocol_sessions_6_c : ∃ (s : State) (m : DopMsg) (h : DopHdr) (st : Nat) (ver : Nat),
    (s.chip.dopMine m 1 h) ∧ (helloOk h (m.bytes.drop 24)) ∧ (s.chip.helloStatus h (m.bytes.drop 24) = some (st, ver)) :=
  ⟨(st fw), (dm (helloL 3 ([1, 3] ++ natBE 2 9130))), (dopHdr (helloL 3 ([1, 3] ++ natBE 2 9130))), stLifecycle, 3, by decide +kernel⟩
theorem wit_protocol_sessions_7 : ∃ (s : State) (m : DopMsg) (h : DopHdr) (b : List Byte) (ver : Nat) (d : Chip),
    (s.chip.dopMine m 1 h) ∧ (b = m.bytes.drop 24) ∧ (helloOk h b) ∧ (s.chip.helloStatus h b = none) ∧ (h.level = 0) ∧ (ver = min (beNat (slice b 1 1)) 3) ∧ (d = ({ s.chip with cyc := s.chip.cyc + 1 }.dopCount 0).halfRoom) :=
  ⟨(st fw), (dm hello), (dopHdr hello), (hello.drop 24), 3, (room (st fw)), by and_intros <;> first | with_reducible rfl | decide +kernel | rfl⟩
theorem wit_protocol_sessions_7_b : ∃ (s : State) (m : DopMsg) (h : DopHdr) (b : List Byte) (ver : Nat) (d : Chip),
    (s.chip.dopMine m 1 h) ∧ (b = m.bytes.drop 24) ∧ (helloOk h b) ∧ (s.chip.helloStatus h b = none) ∧ (h.level = 0) ∧ (ver = min (beNat (slice b 1 1)) 3) ∧ (d = ({ s.chip with cyc := s.chip.cyc + 1 }.dopCount 0).halfRoom) :=
  ⟨(held halves), (dm hello), (dopHdr hello), (hello.drop 24), 3, (room (held halves)), by and_intros <;> first | with_reducible rfl | decide +kernel | rfl⟩
/-- The operator's show key in its slot, a unit in life-cycle state 1. -/
def key3 : State := st fun c => let c := (fw c).wr (rATTR0 3) 0 0 0xFFFFBFF0 |>.wf (rATTR0 3) 0 0 15 14 2 |>.setKeySlot 3 { key := some (List.replicate 32 7), seq := 0 }; { c with fuses := { c.fuses with p := 7 } }
def hello3 : List Byte := helloL 3 ([1, 3] ++ natBE 2 9130)
abbrev ns3 : List Byte := (List.range 32).map fun j => Config.randomByte (key3.chip.cyc + 1) j
theorem wit_protocol_sessions_8 : ∃ (s : State) (m : DopMsg) (h : DopHdr) (b : List Byte) (ns : List Byte) (ver : Nat) (e : Nat) (k : SessEnt) (d : Chip),
    (s.chip.dopMine m 1 h) ∧ (b = m.bytes.drop 24) ∧ (helloOk h b) ∧ (s.chip.helloStatus h b = none) ∧ (h.level ≠ 0) ∧ (ver = min (beNat (slice b 1 1)) 3) ∧ (d = ({ s.chip with cyc := s.chip.cyc + 1 }.dopCount 0).halfRoom) ∧ (d.entryPick = some e) ∧ (ns = (List.range 32).map (fun j => Config.randomByte (s.chip.cyc + 1) j)) ∧ (k = sessionOf (s.chip.keyOf h.level) (slice b 8 32 ++ ns) (ascii "DOP-S" ++ slice (s.chip.helloHdr h d.freshSid).bytes 8 4 ++ slice (s.chip.helloHdr h d.freshSid).bytes 4 4) s.chip.now) :=
  ⟨key3, (dm hello3), (dopHdr hello3), (hello3.drop 24), ns3, 3, 0, (sessionOf (key3.chip.keyOf (dopHdr hello3).level) (slice (hello3.drop 24) 8 32 ++ ns3) (ascii "DOP-S" ++ slice (key3.chip.helloHdr (dopHdr hello3) (room key3).freshSid).bytes 8 4 ++ slice (key3.chip.helloHdr (dopHdr hello3) (room key3).freshSid).bytes 4 4) key3.chip.now), (room key3), by and_intros <;> first | with_reducible rfl | decide +kernel | rfl⟩
theorem wit_protocol_sessions_9 : ∃ (s : State) (m : DopMsg) (h : DopHdr) (x : DopSess) (b : List Byte),
    (s.chip.dopMine m 4 h) ∧ (s.chip.admits m h x b) ∧ (b = []) ∧ (x.tx + 2 < 2 ^ 64) :=
  ⟨ss, (dm (hb 4 5 [])), (dopHdr (hb 4 5 [])), se, [], by decide +kernel⟩
theorem wit_protocol_sessions_10 : ∃ (s : State) (m : DopMsg) (h : DopHdr) (x : DopSess) (b : List Byte),
    (s.chip.dopMine m 4 h) ∧ (s.chip.admits m h x b) ∧ (b ≠ []) :=
  ⟨ss, (dm (hb 4 5 [7])), (dopHdr (hb 4 5 [7])), se, [7], by decide +kernel⟩
theorem wit_protocol_sessions_11 : ∃ (s : State) (m : DopMsg) (h : DopHdr) (x : DopSess) (b : List Byte),
    (s.chip.dopMine m 3 h) ∧ (s.chip.admits m h x b) :=
  ⟨ss, (dm (hb 3 5 [])), (dopHdr (hb 3 5 [])), se, [], by decide +kernel⟩
theorem wit_protocol_sessions_12 : ∃ (s : State) (i : Instr) (ty : Nat) (m : DopMsg) (h : DopHdr),
    (dopMessage i = some (ty, m)) ∧ (ty ≠ 1) ∧ (ty ≠ 0x12) ∧ (s.chip.dopMine m ty h) ∧ (h.group = true) :=
  ⟨(st fw), (.dopClose (dm (hb2 3 0xFFFF 3 0 []))), 3, (dm (hb2 3 0xFFFF 3 0 [])), (dopHdr (hb2 3 0xFFFF 3 0 [])), by decide +kernel⟩
theorem wit_protocol_sessions_13 : ∃ (s : State) (i : Instr) (ty : Nat) (m : DopMsg) (h : DopHdr),
    (dopMessage i = some (ty, m)) ∧ (ty ≠ 1) ∧ (s.chip.dopMine m ty h) ∧ (h.group = false) ∧ (s.chip.liveSession h.sid = none) :=
  ⟨ss, (.dopGet (dm (hb 0x10 6 []))), 0x10, (dm (hb 0x10 6 [])), (dopHdr (hb 0x10 6 [])), by decide +kernel⟩
theorem wit_protocol_sessions_14 : ∃ (s : State) (i : Instr) (ty : Nat) (m : DopMsg) (h : DopHdr) (x : DopSess),
    (dopMessage i = some (ty, m)) ∧ (ty ≠ 1) ∧ (s.chip.dopMine m ty h) ∧ (h.group = false) ∧ (s.chip.liveSession h.sid = some x) ∧ (h.plain ≠ x.entry.isNone) :=
  ⟨ss, (.dopGet (dm (hb2 0x10 16383 0 0 []))), 0x10, (dm (hb2 0x10 16383 0 0 [])), (dopHdr (hb2 0x10 16383 0 0 [])), se, by decide +kernel⟩
def sk : DopSess := { se with entry := some 3, opened := true }
def keyed (x : DopSess) : State := held [x] fun c => c.setSess 3 { used := true, keyIn := List.replicate 32 1, keyOut := List.replicate 32 1 }
theorem wit_protocol_sessions_15 : ∃ (s : State) (i : Instr) (ty : Nat) (m : DopMsg) (h : DopHdr) (x : DopSess),
    (dopMessage i = some (ty, m)) ∧ (ty ≠ 1) ∧ (s.chip.dopMine m ty h) ∧ (h.group = false) ∧ (s.chip.liveSession h.sid = some x) ∧ (x.entry ≠ none) ∧ (h.plain = false) ∧ (s.chip.sessBody x m = none ∨ x.rx.refuses h.seq = true) :=
  ⟨(keyed sk), (.dopGet (dm (hb2 0x10 16383 0 0 []))), 0x10, (dm (hb2 0x10 16383 0 0 [])), (dopHdr (hb2 0x10 16383 0 0 [])), sk, by decide +kernel⟩
theorem wit_protocol_sessions_16 : ∃ (s : State) (i : Instr) (ty : Nat) (m : DopMsg) (h : DopHdr) (x : DopSess),
    (dopMessage i = some (ty, m)) ∧ (ty ≠ 1) ∧ (s.chip.dopMine m ty h) ∧ (h.group = false) ∧ (s.chip.liveSession h.sid = some x) ∧ (x.entry = none) ∧ (h.plain = true) ∧ (x.opened = false) ∧ (s.chip.openFull = true) :=
  ⟨(held (opens ++ [se])), (.dopGet (dm getB)), 0x10, (dm getB), (dopHdr getB), se, by decide +kernel⟩
theorem wit_protocol_sessions_17 : ∃ (s : State) (x : DopSess) (i : Instr),
    (s.chip.dopRuns = true) ∧ (s.chip.dopSess x.sid = some x) ∧ ((i = .halfSessionExpiry x.sid ∧ x.opened = false) ∨ (i = .sessionIdleTimeout x.sid ∧ x.opened = true)) :=
  ⟨ss, se, (.halfSessionExpiry 5), by decide +kernel⟩
theorem wit_protocol_sessions_17_b : ∃ (s : State) (x : DopSess) (i : Instr),
    (s.chip.dopRuns = true) ∧ (s.chip.dopSess x.sid = some x) ∧ ((i = .halfSessionExpiry x.sid ∧ x.opened = false) ∨ (i = .sessionIdleTimeout x.sid ∧ x.opened = true)) :=
  ⟨(keyed sk), sk, (.sessionIdleTimeout 5), by decide +kernel⟩
theorem wit_protocol_sessions_18 : ∃ (s : State) (sid : BitVec 32) (i : Instr),
    ((i = .halfSessionExpiry sid ∧ (s.chip.dopRuns = false ∨ (s.chip.dopSess sid).all (fun x => x.opened) = true)) ∨ (i = .sessionIdleTimeout sid ∧ (s.chip.dopRuns = false ∨ (s.chip.dopSess sid).all (fun x => !x.opened) = true))) :=
  ⟨(keyed sk), 5, (.halfSessionExpiry 5), by decide +kernel⟩
theorem wit_protocol_sessions_18_b : ∃ (s : State) (sid : BitVec 32) (i : Instr),
    ((i = .halfSessionExpiry sid ∧ (s.chip.dopRuns = false ∨ (s.chip.dopSess sid).all (fun x => x.opened) = true)) ∨ (i = .sessionIdleTimeout sid ∧ (s.chip.dopRuns = false ∨ (s.chip.dopSess sid).all (fun x => !x.opened) = true))) :=
  ⟨ss, 5, (.sessionIdleTimeout 5), by decide +kernel⟩
def acc (s : State) (m : DopMsg) (x : DopSess) : Chip := { s.chip with cyc := s.chip.cyc + 1, dop := { s.chip.dop with sess := s.chip.admitted m (dopHdr m.bytes) x, counts := countsOf s.chip.dop.counts 0 } }
def items2 : List DopItem := [{ idx := 0x1000, sub := 0, ty := 0xFF, flags := 0, vlen := 4 }, { idx := 0x1010, sub := 0, ty := 2, flags := 0, vlen := 2 }]
def get2 : List Byte := hb 0x10 5 ([0, 9, 0, 2, 0x10, 0, 0, 0xFF, 0, 0, 0, 4, 0x10, 0x10, 0, 2, 0, 0, 0, 2])
theorem wit_protocol_requests_1 : ∃ (s : State) (i : Instr) (m : DopMsg) (h : DopHdr) (x : DopSess) (b : List Byte),
    ((i = .dopGet m ∧ s.chip.dopMine m 0x10 h ∧ dopBody true b = none) ∨ (i = .dopSet m ∧ s.chip.dopMine m 0x12 h ∧ dopBody false b = none)) ∧ (s.chip.admits m h x b) :=
  ⟨ss, (.dopGet (dm (hb 0x10 5 [1, 2]))), (dm (hb 0x10 5 [1, 2])), (dopHdr (hb 0x10 5 [1, 2])), se, [1, 2], by decide +kernel⟩
theorem wit_protocol_requests_1_b : ∃ (s : State) (i : Instr) (m : DopMsg) (h : DopHdr) (x : DopSess) (b : List Byte),
    ((i = .dopGet m ∧ s.chip.dopMine m 0x10 h ∧ dopBody true b = none) ∨ (i = .dopSet m ∧ s.chip.dopMine m 0x12 h ∧ dopBody false b = none)) ∧ (s.chip.admits m h x b) :=
  ⟨ss, (.dopSet (dm (hb 0x12 5 [1, 2]))), (dm (hb 0x12 5 [1, 2])), (dopHdr (hb 0x12 5 [1, 2])), se, [1, 2], by decide +kernel⟩
def sc : DopSess := { se with cache := [{ req := 9, type := 0x13, body := [7] }] }
theorem wit_protocol_requests_2 : ∃ (s : State) (i : Instr) (m : DopMsg) (h : DopHdr) (x : DopSess) (b : List Byte) (req : Nat) (items : List DopItem) (k : KeptReply),
    ((i = .dopGet m ∧ s.chip.dopMine m 0x10 h ∧ dopBody true b = some (req, items)) ∨ (i = .dopSet m ∧ s.chip.dopMine m 0x12 h ∧ dopBody false b = some (req, items))) ∧ (s.chip.admits m h x b) ∧ (x.cache.find? (fun k => k.req = req) = some k) ∧ (x.tx + 2 < 2 ^ 64) :=
  ⟨(held [sc]), (.dopGet (dm getB)), (dm getB), (dopHdr getB), sc, (getB.drop 24), 9, [{ idx := 0x1000, sub := 0, ty := 0xFF, flags := 0, vlen := 4 }], { req := 9, type := 0x13, body := [7] }, by decide +kernel⟩
theorem wit_protocol_requests_3 : ∃ (s : State) (m : DopMsg) (h : DopHdr) (x : DopSess) (b : List Byte) (req : Nat) (items : List DopItem) (d : Chip) (d' : Chip) (l : List (List Byte)),
    (s.chip.dopMine m 0x10 h) ∧ (s.chip.admits m h x b) ∧ (dopBody true b = some (req, items)) ∧ ((∀ k ∈ x.cache, k.req ≠ req)) ∧ (x.tx + 2 < 2 ^ 64) ∧ (d = { s.chip with cyc := s.chip.cyc + 1, dop := { s.chip.dop with sess := s.chip.admitted m h x, counts := countsOf s.chip.dop.counts 0 } }) ∧ ((d', l) = d.getItems { level := x.level, ver := x.ver, sid := x.sid, port := m.port } items) :=
  ⟨ss, (dm get2), (dopHdr get2), se, (get2.drop 24), 9, items2, (acc ss (dm get2) se), ((acc ss (dm get2) se).getItems { level := 0, ver := 3, sid := 5, port := 0 } items2).1, ((acc ss (dm get2) se).getItems { level := 0, ver := 3, sid := 5, port := 0 } items2).2, by and_intros <;> first | with_reducible rfl | decide +kernel | rfl⟩
theorem wit_protocol_requests_4 : ∃ (s : State) (m : DopMsg) (h : DopHdr) (x : DopSess) (b : List Byte) (r : List Byte) (req : Nat),
    (s.chip.dopMine m 0x10 h) ∧ (s.chip.admits m h x b) ∧ (x.tx + 2 < 2 ^ 64) ∧ (18 ≤ x.maxBody) ∧ (dopBody true b = some (req, [{ idx := 0x1000, sub := 0, ty := 0xFF, flags := 0, vlen := 4 }])) ∧ ((∀ k ∈ x.cache, k.req ≠ req)) ∧ (r = natBE 2 req ++ [0, 1, 0x10, 0, 0, 3, 0, 0, 0, 4] ++ natLE 4 0x4805) :=
  ⟨ss, (dm getB), (dopHdr getB), se, (getB.drop 24), [0, 9, 0, 1, 0x10, 0, 0, 3, 0, 0, 0, 4, 5, 0x48, 0, 0], 9, by and_intros <;> first | with_reducible rfl | decide +kernel | rfl⟩
def setS : State := held [{ se with tx := 2 }] fun c => { c with dop := { c.dop with reqs := [{ rq with sid := 5, req := 9 }] } }
theorem wit_protocol_requests_5 : ∃ (s : State) (m : DopMsg) (h : DopHdr) (x : DopSess) (b : List Byte) (req : Nat) (items : List DopItem),
    (s.chip.dopMine m 0x12 h) ∧ (s.chip.admits m h x b) ∧ (dopBody false b = some (req, items)) ∧ ((∀ k ∈ x.cache, k.req ≠ req)) ∧ ((s.chip.dop.reqs.any fun r => r.sid = x.sid && r.req = req) = true) :=
  ⟨setS, (dm setB), (dopHdr setB), { se with tx := 2 }, (setB.drop 24), 9, [it1], by decide +kernel⟩
theorem wit_protocol_requests_6 : ∃ (s : State) (m : DopMsg) (h : DopHdr) (x : DopSess) (b : List Byte) (req : Nat) (items : List DopItem) (l : List DopItem),
    (s.chip.dopMine m 0x12 h) ∧ (s.chip.admits m h x b) ∧ (dopBody false b = some (req, items)) ∧ ((∀ k ∈ x.cache, k.req ≠ req)) ∧ ((s.chip.dop.reqs.any fun r => r.sid = x.sid && r.req = req) = false) ∧ (s.chip.isLate m.ts = false) ∧ (l = s.chip.itemsEarly x.ver s.chip.scheduled items) ∧ ((l.all fun it => it.status.isSome) = false) :=
  ⟨ss, (dm setB), (dopHdr setB), se, (setB.drop 24), 9, [it1], [it1], by and_intros <;> first | with_reducible rfl | decide +kernel | rfl⟩
def setF : List Byte := hb 0x12 5 ([0, 9, 0, 1, 0x10, 0x10, 0, 2, 2, 0, 0, 2, 5, 0, 0, 0])
def itF : DopItem := { it1 with flags := 2, status := some stFeature }
theorem wit_protocol_requests_7 : ∃ (s : State) (m : DopMsg) (h : DopHdr) (x : DopSess) (b : List Byte) (r : List Byte) (req : Nat) (items : List DopItem) (l : List DopItem),
    (s.chip.dopMine m 0x12 h) ∧ (s.chip.admits m h x b) ∧ (dopBody false b = some (req, items)) ∧ ((∀ k ∈ x.cache, k.req ≠ req)) ∧ (s.chip.dop.reqs = []) ∧ (s.chip.isLate m.ts = false) ∧ (l = s.chip.itemsEarly x.ver s.chip.scheduled items) ∧ ((l.all fun it => it.status.isSome) = true) ∧ (x.tx + 2 < 2 ^ 64) ∧ (r = replyBody req x.maxBody (l.map fun it => replyItem it it.ty (it.status.getD 0) none [])) :=
  ⟨(held [{ se with ver := 2 }]), (dm setF), (dopHdr setF), { se with ver := 2 }, (setF.drop 24), (replyBody 9 9130 [replyItem itF 2 stFeature none []]), 9, [{ it1 with flags := 2 }], [itF], by and_intros <;> first | with_reducible rfl | decide +kernel | rfl⟩
theorem wit_protocol_requests_8 : ∃ (s : State) (m : DopMsg) (h : DopHdr) (x : DopSess) (b : List Byte) (r : List Byte) (req : Nat) (items : List DopItem),
    (s.chip.dopMine m 0x12 h) ∧ (s.chip.admits m h x b) ∧ (dopBody false b = some (req, items)) ∧ ((∀ k ∈ x.cache, k.req ≠ req)) ∧ (s.chip.dop.reqs = []) ∧ (s.chip.isLate m.ts = true) ∧ (items ≠ []) ∧ ((∀ it ∈ items, it.featureOk x.ver = true ∧ it.timed = false ∧ it.status = none)) ∧ (x.level = 0) ∧ (x.tx + 2 < 2 ^ 64) ∧ (r = replyBody req x.maxBody (items.map fun it => replyItem it it.ty stLevel none [])) :=
  ⟨(held [se] fun c => { c with dop := { c.dop with tick := some 6 } }), (dm setB), (dopHdr setB), se, (setB.drop 24), (replyBody 9 9130 [replyItem it1 2 stLevel none []]), 9, [it1], by and_intros <;> first | with_reducible rfl | decide +kernel | rfl⟩
theorem wit_protocol_requests_9 : ∃ (s : State) (m : DopMsg) (h : DopHdr),
    (s.chip.dopMine m 0x12 h) ∧ (h.group = true) ∧ (h.ver < 2 ∨ h.level = 0 ∨ h.plain = true ∨ h.dst < 0x8000 ∨ (s.chip.keyRefusal h.level).isSome = true) :=
  ⟨(st fw), (dm (hb2 0x12 0xFFFF 2 3 [])), (dopHdr (hb2 0x12 0xFFFF 2 3 [])), by decide +kernel⟩
def gh : DopHdr := { ver := 3, type := 0x12, src := 7, dst := 0xFFFF, sid := 0x80000005, seq := 3, len := 16, flags := 2, level := 3 }
def gk : SessEnt := (key3.chip.groupKeys 0xFFFF 5 3).2
def gm : List Byte := sealed gk.keyIn gh (setB.drop 24)
def gbad : List Byte := gh.bytes ++ List.replicate 32 0
theorem wit_protocol_requests_10 : ∃ (s : State) (m : DopMsg) (h : DopHdr) (b : Option (List Byte)),
    (s.chip.dopMine m 0x12 h) ∧ (h.group = true) ∧ (2 ≤ h.ver) ∧ (h.level ≠ 0) ∧ (h.plain = false) ∧ (0x8000 ≤ h.dst) ∧ (s.chip.keyRefusal h.level = none) ∧ (b = unsealed (s.chip.groupKeys h.dst (h.sid.toNat % 2 ^ 31) h.level).2.keyIn m.bytes h.len) ∧ (b = none ∨ s.chip.groupRefuses h.dst h.src (h.sid.toNat % 2 ^ 31) h.seq = true) :=
  ⟨key3, (dm gbad), (dopHdr gbad), none, by decide +kernel⟩
theorem wit_protocol_requests_11 : ∃ (s : State) (m : DopMsg) (h : DopHdr) (b : List Byte) (ke : Nat) (req : Nat) (items : List DopItem) (l : List DopItem),
    (s.chip.dopMine m 0x12 h) ∧ (h.group = true) ∧ (2 ≤ h.ver) ∧ (h.level ≠ 0) ∧ (h.plain = false) ∧ (0x8000 ≤ h.dst) ∧ (s.chip.keyRefusal h.level = none) ∧ (ke = h.sid.toNat % 2 ^ 31) ∧ (some b = unsealed (s.chip.groupKeys h.dst ke h.level).2.keyIn m.bytes h.len) ∧ (s.chip.groupRefuses h.dst h.src ke h.seq = false) ∧ (dopBody false b = some (req, items)) ∧ (s.chip.isLate m.ts = false) ∧ (l = s.chip.itemsEarly h.ver s.chip.scheduled items) ∧ ((l.all fun it => it.status.isSome) = false) :=
  ⟨key3, (dm gm), (dopHdr gm), (setB.drop 24), 5, 9, [it1], [it1], by and_intros <;> first | with_reducible rfl | decide +kernel | rfl⟩
theorem wit_protocol_requests_12 : ∃ (s : State),
    (s.chip.dopRuns = true) ∧ (s.chip.dop.reqs = []) ∧ (s.chip.firmQuiet) :=
  ⟨(st fun c => (fw c).wr rRAS_CTRL 0 0 1), by decide +kernel⟩
theorem wit_protocol_requests_12_b : ∃ (s : State),
    (s.chip.dopRuns = true) ∧ (s.chip.dop.reqs = []) ∧ (s.chip.firmQuiet) :=
  ⟨(st fun c => fw { c with time := { c.time with now := 5 } }), by decide +kernel⟩
theorem wit_protocol_requests_13 : ∃ (s : State) (q : DopReq) (x : DopSess) (e : Nat) (b0 : Byte) (b1 : Byte),
    (s.chip.dopRuns = true) ∧ (s.chip.dop.reqs = [q]) ∧ (q.items = [{ idx := 0x1010, sub := 0, ty := 2, flags := 0, vlen := 2, val := [b0, b1] }]) ∧ (q.level = 3) ∧ (q.group = false) ∧ (q.relayed = false) ∧ (leNat [b0, b1] ≤ 16383) ∧ (q.ts / 1000000 + 2 ≤ s.chip.now / 1000000) ∧ (s.chip.firmQuiet) ∧ (s.chip.pairState = 0) ∧ (s.chip.liveSession q.sid = some x) ∧ (x.entry = some e) ∧ (x.tx + 2 < 2 ^ 64) ∧ (12 ≤ x.maxBody) ∧ (leNat [b0, b1] ≠ 0) :=
  ⟨(st fun c => ({ ((fw c).wr rRAS_CTRL 0 0 1) with dop := { sess := [{ se with entry := some 3 }], reqs := [rq] } }).setSess 3 { used := true, keyOut := List.replicate 32 1 }), rq, { se with entry := some 3 }, 3, 5, 0, by decide +kernel⟩
theorem wit_protocol_requests_14 : ∃ (s : State) (i : Fin 4),
    (s.chip.dopRuns = true) :=
  ⟨(st fw), 2, by decide +kernel⟩
theorem wit_protocol_requests_15 : ∃ (s : State) (key : Nat) (v : List Byte) (t : List (Nat × List Byte)) (b : List Byte) (o : Nat),
    (s.chip.fwRuns = true) ∧ (s.chip.dop.dirty = (key, v) :: t) ∧ (s.chip.pwr.pfw = false) ∧ (b = storeBytes (key / 256) (key % 256) (objType key) v (s.chip.dop.rseq + 1)) ∧ (s.chip.dop.off + storeLen v.length ≤ stSize) ∧ (o = flashBase + stBase s.chip.dop.half + s.chip.dop.off) ∧ ((∀ i < b.length, s.chip.byte (o + i) = 0xFF)) :=
  ⟨(st fun c => { fw c with dop := { dirty := [(0x101000, [5, 0])], off := 256 } }), 0x101000, [5, 0], [], (storeBytes 0x1010 0 2 [5, 0] 1), 0x23080100, by decide +kernel, by decide +kernel, by decide +kernel, rfl, by decide +kernel⟩
theorem wit_protocol_requests_16 : ∃ (s : State) (key : Nat) (v : List Byte) (t : List (Nat × List Byte)) (b : List Byte) (o : Nat),
    (s.chip.fwRuns = true) ∧ (s.chip.dop.dirty = (key, v) :: t) ∧ (s.chip.pwr.pfw = false) ∧ (b = storeBytes (key / 256) (key % 256) (objType key) v (s.chip.dop.rseq + 1)) ∧ (s.chip.dop.off + storeLen v.length ≤ stSize) ∧ (o = flashBase + stBase s.chip.dop.half + s.chip.dop.off) :=
  ⟨(st fun c => { (fw c).setBytes 0x23080100 [0] with dop := { dirty := [(0x101000, [5, 0])], off := 256 } }), 0x101000, [5, 0], [], (storeBytes 0x1010 0 2 [5, 0] 1), 0x23080100, by decide +kernel, by decide +kernel, by decide +kernel, rfl, by decide +kernel⟩
theorem wit_protocol_requests_17 : ∃ (s : State) (i : Instr) (j : Fin 4),
    ((i = .storeFlush ∧ (s.chip.fwRuns = false ∨ s.chip.dop.dirty = [] ∨ s.chip.pwr.pfw = true)) ∨ (i = .controlTickApply ∧ s.chip.dopRuns = false) ∨ (i = .assemblyTimeout j ∧ s.chip.dopRuns = false)) :=
  ⟨(st), .storeFlush, 0, by decide +kernel⟩
theorem wit_protocol_requests_17_b : ∃ (s : State) (i : Instr) (j : Fin 4),
    ((i = .storeFlush ∧ (s.chip.fwRuns = false ∨ s.chip.dop.dirty = [] ∨ s.chip.pwr.pfw = true)) ∨ (i = .controlTickApply ∧ s.chip.dopRuns = false) ∨ (i = .assemblyTimeout j ∧ s.chip.dopRuns = false)) :=
  ⟨(st fun c => { c with boot := { c.boot with ncRun := false } }), .controlTickApply, 0, by decide +kernel⟩

end Sys2Proof.Tests.WitnessO
end

