-- ==== Sys2Proof/Tests/WitnessP.lean ====
section
/-! SUPPORT. States and operands that meet the hypotheses of the statements, part P. -/

namespace Sys2Proof.Tests.WitnessP

open Sys2Proof Sys2Proof.Machine Sys2Proof.Tests

set_option maxRecDepth 100000
set_option Elab.async false
set_option linter.unusedVariables false
set_option linter.unreachableTactic false
set_option linter.unusedTactic false

def celOn : Chip → Chip := fun c => { (c.wr rCEL_CTRL 0 0 0x100F) with cel := { c.cel with serving := true } }
/-- Word copy of 8 bytes in the Cellar from 0x80000100 to 0x80000200, LAST and IRQ. -/
def dd : List Word := [0xC4B00000, 8, 0x80000100, 0x80000200, 0, 0, 0, 0]
def dx : DmaCh := { desc := dd, src := 0x80000100, dst := 0x80000200, toRead := 8, toWrite := 8 }
/-- The same with write-back, and not LAST: the next is at 0x80000400. -/
def ddn : List Word := [0x64B00000, 8, 0x80000100, 0x80000200, 0x80000400, 0, 0, 0]
def don : Chip → Chip := fun c => ((((((celOn c).wr rDMA_CTRL 0 0 1).wr rDMA_CFG 3 0 0x80000000).wr rDMA_DESC 3 0 0x80000300).setWords 0x80000300 dd).setWords 0x80000400 dd).setWord 0x80000100 0x12345678
def dgo (st : Nat) (x : DmaCh) : Chip → Chip := fun c => (((don c).setDmaState 3 st).setDmaCh 3 x).wr rDMA_CUR 3 0 0x80000300
def dwm : Chip → Chip := fun c => c.wr rRGN_WMASK 1 0 0xFFFF
def db : DmaCh := { dx with phase := .readBack, dst := 0x80000208, toRead := 0, toWrite := 0 }
/-- Channel 5, of a higher priority, has a burst ready. -/
def dhi : Chip → Chip := fun c => (((c.wr rDMA_CFG 5 0 0xB0000000).setDmaState 5 1).setDmaCh 5 dx)
theorem wit_dma_channels_1 : ∃ (s : State) (a : Access) (n : Fin 16) (v : Word) (w : Word),
    (s.chip.takes a rDMA_CFG n 0 (v ||| 0x80000000)) ∧ (w = rDMA_CFG.merge (s.chip.rd rDMA_CFG n) (v ||| 0x80000000)) ∧ (fld w 27 26 ≠ 3 ∨ fld w 25 22 ≠ n.val) :=
  ⟨(st), hc, 3, 0x04000000, 0x84000000, by decide +kernel⟩
theorem wit_dma_channels_2 : ∃ (s : State) (a : Access) (n : Fin 16) (v : Word) (w : Word),
    (s.chip.takes a rDMA_CFG n 0 (v ||| 0x80000000)) ∧ (w = rDMA_CFG.merge (s.chip.rd rDMA_CFG n) (v ||| 0x80000000)) ∧ (fld w 27 26 = 3) ∧ (fld w 25 22 = n.val) :=
  ⟨(st), hc, 3, 0x0CC00000, 0x8CC00000, by decide +kernel⟩
theorem wit_dma_channels_3 : ∃ (s : State) (a : Access) (n : Fin 16) (d : Nat),
    (s.chip.takes a rDMA_CMD n 0 1) ∧ (s.chip.dmaState n = 0) ∧ (s.chip.dmaOn n = true) ∧ (d = (s.chip.rd rDMA_DESC n).toNat) ∧ (s.chip.descOk d) ∧ ((s.chip.descOf d).malformed = false) :=
  ⟨(st don), hc, 3, 0x80000300, by decide +kernel⟩
theorem wit_dma_channels_4 : ∃ (s : State) (a : Access) (n : Fin 16) (d : Nat),
    (s.chip.takes a rDMA_CMD n 0 1) ∧ (s.chip.dmaState n = 0) ∧ (s.chip.dmaOn n = true) ∧ (d = (s.chip.rd rDMA_DESC n).toNat) ∧ (s.chip.descOk d) ∧ (s.chip.dmaMay (d + 24) 4) ∧ ((s.chip.descOf d).malformed = true) :=
  ⟨(st fun c => (don c).setWord 0x8000031C 1), hc, 3, 0x80000300, by decide +kernel⟩
theorem wit_dma_channels_5 : ∃ (s : State) (a : Access) (n : Fin 16),
    (s.chip.takes a rDMA_CMD n 0 1) ∧ (s.chip.dmaState n = 0) ∧ (s.chip.dmaOn n = false) :=
  ⟨(st), hc, 3, by decide +kernel⟩
theorem wit_dma_channels_6 : ∃ (s : State) (a : Access) (n : Fin 16),
    (s.chip.takes a rDMA_CMD n 0 1) ∧ (s.chip.dmaState n = 1 ∨ s.chip.dmaState n = 4) :=
  ⟨(st (dgo 1 dx)), hc, 3, by decide +kernel⟩
theorem wit_dma_channels_6_b : ∃ (s : State) (a : Access) (n : Fin 16),
    (s.chip.takes a rDMA_CMD n 0 1) ∧ (s.chip.dmaState n = 1 ∨ s.chip.dmaState n = 4) :=
  ⟨(st (dgo 4 dx)), hc, 3, by decide +kernel⟩
theorem wit_dma_channels_7 : ∃ (s : State) (a : Access) (n : Fin 16),
    (s.chip.takes a rDMA_CMD n 0 1) ∧ (4 < s.chip.dmaState n ∨ s.chip.dmaState n = 3) :=
  ⟨(st (dgo 3 dx)), hc, 3, by decide +kernel⟩
theorem wit_dma_channels_8 : ∃ (s : State) (a : Access) (n : Fin 16) (d : Nat),
    (s.chip.takes a rDMA_CMD n 0 1) ∧ (s.chip.dmaState n = 2) ∧ (d = (s.chip.rd rDMA_CUR n).toNat) ∧ (s.chip.descOk d) ∧ (bit (s.chip.word d) 31 = true) :=
  ⟨(st (dgo 2 dx)), hc, 3, 0x80000300, by decide +kernel⟩
theorem wit_dma_channels_9 : ∃ (s : State) (a : Access) (i : Instr) (n : Fin 16) (d : Nat) (e : Nat),
    ((i = .dmaDb a n ∧ s.chip.takes a rDMA_CMD n 0 1 ∧ s.chip.dmaState n = 2) ∨ (i = .tailRecheck n ∧ s.chip.alive .sys = true ∧ s.chip.dmaState n = 1 ∧ (s.chip.dmaCh n).phase = .recheck)) ∧ (d = (s.chip.rd rDMA_CUR n).toNat) ∧ (s.chip.descOk d) ∧ (bit (s.chip.word d) 31 = false) ∧ (e = (s.chip.word (d + 16)).toNat / 32 * 32) ∧ (s.chip.descOk e) ∧ ((s.chip.descOf e).malformed = false) :=
  ⟨(st fun c => (dgo 2 dx c).setWords 0x80000300 ddn), hc, (.dmaDb hc 3), 3, 0x80000300, 0x80000400, by decide +kernel⟩
theorem wit_dma_channels_9_b : ∃ (s : State) (a : Access) (i : Instr) (n : Fin 16) (d : Nat) (e : Nat),
    ((i = .dmaDb a n ∧ s.chip.takes a rDMA_CMD n 0 1 ∧ s.chip.dmaState n = 2) ∨ (i = .tailRecheck n ∧ s.chip.alive .sys = true ∧ s.chip.dmaState n = 1 ∧ (s.chip.dmaCh n).phase = .recheck)) ∧ (d = (s.chip.rd rDMA_CUR n).toNat) ∧ (s.chip.descOk d) ∧ (bit (s.chip.word d) 31 = false) ∧ (e = (s.chip.word (d + 16)).toNat / 32 * 32) ∧ (s.chip.descOk e) ∧ ((s.chip.descOf e).malformed = false) :=
  ⟨(st fun c => (dgo 1 { dx with phase := .recheck } c).setWords 0x80000300 ddn), hc, (.tailRecheck 3), 3, 0x80000300, 0x80000400, by decide +kernel⟩
theorem wit_dma_channels_10 : ∃ (s : State) (i : Bool) (j : Bool) (n : Fin 16) (x : DmaCh) (y : DmaCh) (w : Nat) (k : Nat) (first : Bool),
    (s.chip.alive .sys = true) ∧ (s.chip.dmaChoose i j = some n.val) ∧ (s.chip.dmaCh n = x) ∧ (w = x.sw) ∧ (w = x.dw) ∧ (w ≤ 16) ∧ (x.hold = []) ∧ (x.poison = none) ∧ (s.chip.dmaState n = 1) ∧ ((x.left ≠ 0 ∧ k = x.left) ∨ (x.left = 0 ∧ k = s.chip.rf rDMA_CFG n 0 21 18 + 1)) ∧ (first = (x.left == 0 && (bit (x.word 0) 28 || !x.begun))) ∧ (x.src % w = 0) ∧ (x.dst % w = 0) ∧ (celBase ≤ x.src) ∧ (x.src + w ≤ 0x9FC00000) ∧ (s.chip.dmaMay x.dst w) ∧ (w ≤ x.toRead) ∧ (w ≤ x.toWrite) ∧ (y = { x with begun := x.begun || x.left == 0, toRead := x.toRead - w, toWrite := x.toWrite - w, src := wrapAdd (bit (x.word 0) 21) (fld (x.word 0) 19 15) x.src w, dst := wrapAdd (bit (x.word 0) 20) (fld (x.word 0) 14 10) x.dst w, left := 0 }) ∧ (y.toWrite = 0 ∨ y.atEdge = true ∨ k = 1) :=
  ⟨(st fun c => (dgo 1 dx c).wf rDMA_CFG 3 0 29 28 2), false, false, 3, dx, { dx with begun := true, toRead := 4, toWrite := 4, src := 0x80000104, dst := 0x80000204 }, 4, 1, true, by and_intros <;> first | with_reducible rfl | decide +kernel | rfl⟩
theorem wit_dma_channels_10_b : ∃ (s : State) (i : Bool) (j : Bool) (n : Fin 16) (x : DmaCh) (y : DmaCh) (w : Nat) (k : Nat) (first : Bool),
    (s.chip.alive .sys = true) ∧ (s.chip.dmaChoose i j = some n.val) ∧ (s.chip.dmaCh n = x) ∧ (w = x.sw) ∧ (w = x.dw) ∧ (w ≤ 16) ∧ (x.hold = []) ∧ (x.poison = none) ∧ (s.chip.dmaState n = 1) ∧ ((x.left ≠ 0 ∧ k = x.left) ∨ (x.left = 0 ∧ k = s.chip.rf rDMA_CFG n 0 21 18 + 1)) ∧ (first = (x.left == 0 && (bit (x.word 0) 28 || !x.begun))) ∧ (x.src % w = 0) ∧ (x.dst % w = 0) ∧ (celBase ≤ x.src) ∧ (x.src + w ≤ 0x9FC00000) ∧ (s.chip.dmaMay x.dst w) ∧ (w ≤ x.toRead) ∧ (w ≤ x.toWrite) ∧ (y = { x with begun := x.begun || x.left == 0, toRead := x.toRead - w, toWrite := x.toWrite - w, src := wrapAdd (bit (x.word 0) 21) (fld (x.word 0) 19 15) x.src w, dst := wrapAdd (bit (x.word 0) 20) (fld (x.word 0) 14 10) x.dst w, left := 0 }) ∧ (y.toWrite = 0 ∨ y.atEdge = true ∨ k = 1) :=
  ⟨(st fun c => ((dgo 1 dx c).wf rDMA_CFG 3 0 27 26 1).wf rDMA_STAT 3 0 15 8 2), false, false, 3, dx, { dx with begun := true, toRead := 4, toWrite := 4, src := 0x80000104, dst := 0x80000204 }, 4, 1, true, by and_intros <;> first | with_reducible rfl | decide +kernel | rfl⟩
theorem wit_dma_channels_10_c : ∃ (s : State) (i : Bool) (j : Bool) (n : Fin 16) (x : DmaCh) (y : DmaCh) (w : Nat) (k : Nat) (first : Bool),
    (s.chip.alive .sys = true) ∧ (s.chip.dmaChoose i j = some n.val) ∧ (s.chip.dmaCh n = x) ∧ (w = x.sw) ∧ (w = x.dw) ∧ (w ≤ 16) ∧ (x.hold = []) ∧ (x.poison = none) ∧ (s.chip.dmaState n = 1) ∧ ((x.left ≠ 0 ∧ k = x.left) ∨ (x.left = 0 ∧ k = s.chip.rf rDMA_CFG n 0 21 18 + 1)) ∧ (first = (x.left == 0 && (bit (x.word 0) 28 || !x.begun))) ∧ (x.src % w = 0) ∧ (x.dst % w = 0) ∧ (celBase ≤ x.src) ∧ (x.src + w ≤ 0x9FC00000) ∧ (s.chip.dmaMay x.dst w) ∧ (w ≤ x.toRead) ∧ (w ≤ x.toWrite) ∧ (y = { x with begun := x.begun || x.left == 0, toRead := x.toRead - w, toWrite := x.toWrite - w, src := wrapAdd (bit (x.word 0) 21) (fld (x.word 0) 19 15) x.src w, dst := wrapAdd (bit (x.word 0) 20) (fld (x.word 0) 14 10) x.dst w, left := 0 }) ∧ (y.toWrite = 0 ∨ y.atEdge = true ∨ k = 1) :=
  ⟨(st (dgo 1 { dx with toRead := 4, toWrite := 4, begun := true })), false, false, 3, { dx with toRead := 4, toWrite := 4, begun := true }, { dx with begun := true, toRead := 0, toWrite := 0, src := 0x80000104, dst := 0x80000204 }, 4, 1, false, by and_intros <;> first | with_reducible rfl | decide +kernel | rfl⟩
theorem wit_dma_channels_10_d : ∃ (s : State) (i : Bool) (j : Bool) (n : Fin 16) (x : DmaCh) (y : DmaCh) (w : Nat) (k : Nat) (first : Bool),
    (s.chip.alive .sys = true) ∧ (s.chip.dmaChoose i j = some n.val) ∧ (s.chip.dmaCh n = x) ∧ (w = x.sw) ∧ (w = x.dw) ∧ (w ≤ 16) ∧ (x.hold = []) ∧ (x.poison = none) ∧ (s.chip.dmaState n = 1) ∧ ((x.left ≠ 0 ∧ k = x.left) ∨ (x.left = 0 ∧ k = s.chip.rf rDMA_CFG n 0 21 18 + 1)) ∧ (first = (x.left == 0 && (bit (x.word 0) 28 || !x.begun))) ∧ (x.src % w = 0) ∧ (x.dst % w = 0) ∧ (celBase ≤ x.src) ∧ (x.src + w ≤ 0x9FC00000) ∧ (s.chip.dmaMay x.dst w) ∧ (w ≤ x.toRead) ∧ (w ≤ x.toWrite) ∧ (y = { x with begun := x.begun || x.left == 0, toRead := x.toRead - w, toWrite := x.toWrite - w, src := wrapAdd (bit (x.word 0) 21) (fld (x.word 0) 19 15) x.src w, dst := wrapAdd (bit (x.word 0) 20) (fld (x.word 0) 14 10) x.dst w, left := 0 }) ∧ (y.toWrite = 0 ∨ y.atEdge = true ∨ k = 1) :=
  ⟨(st fun c => (dgo 1 { dx with left := 1, begun := true } c)), false, false, 3, { dx with left := 1, begun := true }, { dx with begun := true, toRead := 4, toWrite := 4, src := 0x80000104, dst := 0x80000204 }, 4, 1, false, by and_intros <;> first | with_reducible rfl | decide +kernel | rfl⟩
theorem wit_dma_channels_11 : ∃ (s : State) (i : Bool) (j : Bool) (n : Fin 16) (x : DmaCh) (y : DmaCh) (w : Nat) (k : Nat),
    (s.chip.alive .sys = true) ∧ (s.chip.dmaChoose i j = some n.val) ∧ (s.chip.dmaCh n = x) ∧ (w = x.sw) ∧ (w = x.dw) ∧ (w ≤ 16) ∧ (x.hold = []) ∧ (x.poison = none) ∧ (s.chip.dmaState n = 1) ∧ (x.left = 0) ∧ (s.chip.rf rDMA_CFG n 0 27 26 = 0) ∧ (k = min (s.chip.rf rDMA_CFG n 0 21 18 + 1) (min (x.toWrite / w) ((64 - x.dst % 64) / w))) ∧ (0 < k) ∧ ((∀ m : Fin 16, s.chip.dmaPrio n < s.chip.dmaPrio m → s.chip.dmaState m = 0)) ∧ (bit (x.word 0) 21 = true) ∧ (bit (x.word 0) 20 = true) ∧ (fld (x.word 0) 19 15 = 0) ∧ (fld (x.word 0) 14 10 = 0) ∧ (x.toWrite % w = 0) ∧ (x.toWrite ≤ x.toRead) ∧ (x.src % w = 0) ∧ (x.dst % w = 0) ∧ (celBase ≤ x.src) ∧ (x.src + k * w ≤ 0x9FC00000) ∧ (s.chip.dmaMay x.dst (k * w)) ∧ (x.src + k * w ≤ x.dst ∨ x.dst + k * w ≤ x.src) ∧ (y = { x with begun := true, toRead := x.toRead - k * w, toWrite := x.toWrite - k * w, src := x.src + k * w, dst := x.dst + k * w }) :=
  ⟨(st fun c => (dgo 1 dx c).wf rDMA_CFG 3 0 21 18 7), false, false, 3, dx, { dx with begun := true, toRead := 0, toWrite := 0, src := 0x80000108, dst := 0x80000208 }, 4, 2, by and_intros <;> first | with_reducible rfl | decide +kernel | rfl⟩
theorem wit_dma_channels_12 : ∃ (s : State) (i : Bool) (j : Bool),
    (s.chip.alive .sys = false ∨ s.chip.dmaChoose i j = none) :=
  ⟨(st don), false, false, by decide +kernel⟩
theorem wit_dma_channels_13 : ∃ (s : State) (n : Fin 16) (x : DmaCh),
    (s.chip.completes n x 1) ∧ (x.poison = none) ∧ (bit (x.word 0) 31 = true) :=
  ⟨(st (dgo 1 db)), 3, db, by decide +kernel⟩
theorem wit_dma_channels_13_b : ∃ (s : State) (n : Fin 16) (x : DmaCh),
    (s.chip.completes n x 1) ∧ (x.poison = none) ∧ (bit (x.word 0) 31 = true) :=
  ⟨(st fun c => ((dgo 1 { db with desc := 0xE4B00000 :: dd.tail } c).wr rDMA_CFG 6 0 0x8CC00000).setDmaState 6 2), 3, { db with desc := 0xE4B00000 :: dd.tail }, by decide +kernel⟩
theorem wit_dma_channels_14 : ∃ (s : State) (n : Fin 16) (x : DmaCh) (d : Nat),
    (s.chip.completes n x 1) ∧ (x.poison = none) ∧ (bit (x.word 0) 31 = false) ∧ (d = (x.word 4).toNat) ∧ (s.chip.descOk d) ∧ ((s.chip.descOf d).malformed = false) :=
  ⟨(st (dgo 1 { db with desc := ddn })), 3, { db with desc := ddn }, 0x80000400, by decide +kernel⟩
theorem wit_dma_channels_15 : ∃ (s : State) (n : Fin 16) (x : DmaCh),
    (s.chip.completes n x 4) ∧ (x.poison = none) :=
  ⟨(st (dgo 4 db)), 3, db, by decide +kernel⟩
theorem wit_dma_channels_16 : ∃ (s : State) (n : Fin 16) (x : DmaCh) (st : Nat) (at_ : Nat),
    (s.chip.completes n x st) ∧ (x.poison = some at_) :=
  ⟨(st (dgo 1 { db with poison := some 0x10000000, desc := ddn })), 3, { db with poison := some 0x10000000, desc := ddn }, 1, 0x10000000, by decide +kernel⟩
theorem wit_dma_channels_17 : ∃ (s : State) (n : Fin 16),
    (s.chip.alive .sys = false ∨ (s.chip.dmaState n ≠ 1 ∧ s.chip.dmaState n ≠ 4) ∨ (s.chip.dmaCh n).phase ≠ .readBack) :=
  ⟨(st don), 3, by decide +kernel⟩
theorem wit_dma_channels_18 : ∃ (s : State) (n : Fin 16) (d : Nat),
    (s.chip.alive .sys = true) ∧ (s.chip.dmaState n = 1) ∧ ((s.chip.dmaCh n).phase = .recheck) ∧ (d = (s.chip.rd rDMA_CUR n).toNat) ∧ (s.chip.descOk d) ∧ (bit (s.chip.word d) 31 = true) :=
  ⟨(st (dgo 1 { dx with phase := .recheck })), 3, 0x80000300, by decide +kernel⟩
theorem wit_dma_channels_18_b : ∃ (s : State) (n : Fin 16) (d : Nat),
    (s.chip.alive .sys = true) ∧ (s.chip.dmaState n = 1) ∧ ((s.chip.dmaCh n).phase = .recheck) ∧ (d = (s.chip.rd rDMA_CUR n).toNat) ∧ (s.chip.descOk d) ∧ (bit (s.chip.word d) 31 = true) :=
  ⟨(st fun c => (dgo 1 { dx with phase := .recheck } c).wb rDMA_STAT 3 0 19 true), 3, 0x80000300, by decide +kernel⟩
theorem wit_dma_channels_19 : ∃ (s : State) (n : Fin 16),
    (s.chip.alive .sys = false ∨ s.chip.dmaState n ≠ 1 ∨ (s.chip.dmaCh n).phase ≠ .recheck) :=
  ⟨(st don), 3, by decide +kernel⟩
theorem wit_dma_channels_20 : ∃ (s : State) (a : Access) (n : Fin 16) (x : DmaCh),
    (s.chip.takes a rDMA_CMD n 0 2) ∧ (s.chip.dmaCh n = x) ∧ (s.chip.dmaState n ≠ 1 ∨ x.phase ≠ .beats ∨ x.left ≠ 0) :=
  ⟨(st (dgo 2 dx)), hc, 3, dx, by decide +kernel⟩
theorem wit_dma_channels_20_b : ∃ (s : State) (a : Access) (n : Fin 16) (x : DmaCh),
    (s.chip.takes a rDMA_CMD n 0 2) ∧ (s.chip.dmaCh n = x) ∧ (s.chip.dmaState n ≠ 1 ∨ x.phase ≠ .beats ∨ x.left ≠ 0) :=
  ⟨(st (dgo 1 { dx with left := 2 })), hc, 3, { dx with left := 2 }, by decide +kernel, rfl, by decide +kernel⟩
theorem wit_dma_channels_20_c : ∃ (s : State) (a : Access) (n : Fin 16) (x : DmaCh),
    (s.chip.takes a rDMA_CMD n 0 2) ∧ (s.chip.dmaCh n = x) ∧ (s.chip.dmaState n ≠ 1 ∨ x.phase ≠ .beats ∨ x.left ≠ 0) :=
  ⟨(st (dgo 1 { dx with phase := .recheck })), hc, 3, { dx with phase := .recheck }, by decide +kernel, rfl, by decide +kernel⟩
theorem wit_dma_channels_20_d : ∃ (s : State) (a : Access) (n : Fin 16) (x : DmaCh),
    (s.chip.takes a rDMA_CMD n 0 2) ∧ (s.chip.dmaCh n = x) ∧ (s.chip.dmaState n ≠ 1 ∨ x.phase ≠ .beats ∨ x.left ≠ 0) :=
  ⟨(st (dgo 3 dx)), hc, 3, dx, by decide +kernel⟩
theorem wit_dma_channels_21 : ∃ (s : State) (a : Access) (n : Fin 16) (x : DmaCh),
    (s.chip.takes a rDMA_CMD n 0 2) ∧ (s.chip.dmaCh n = x) ∧ (s.chip.dmaState n = 1) ∧ (x.phase = .beats) ∧ (x.left = 0) ∧ ((x.toWrite < x.count → celBase ≤ x.lastWord ∧ x.lastWord < 0x9FC00000 ∧ s.chip.celCalm)) ∧ ((bit (x.word 0) 29 = true → s.chip.dmaMay (s.chip.word6At n) 4 ∧ s.chip.word6At n % 32 = 24)) :=
  ⟨(st (dgo 1 { dx with desc := ddn, toWrite := 4, dst := 0x80000204 })), hc, 3, { dx with desc := ddn, toWrite := 4, dst := 0x80000204 }, by decide +kernel, rfl, by decide +kernel⟩
theorem wit_dma_channels_22 : ∃ (s : State) (a : Access) (n : Fin 16),
    (s.chip.takes a rDMA_CMD n 0 4) :=
  ⟨(st (dgo 3 dx)), hc, 3, by decide +kernel⟩
theorem wit_dma_channels_22_b : ∃ (s : State) (a : Access) (n : Fin 16),
    (s.chip.takes a rDMA_CMD n 0 4) :=
  ⟨(st (dgo 1 dx)), hc, 3, by decide +kernel⟩
theorem wit_dma_channels_23 : ∃ (s : State) (a : Access),
    (s.chip.takes a rDMA_CTRL 0 0 0) ∧ ((∀ n : Fin 16, s.chip.dmaState n = 1 → (s.chip.dmaCh n).phase = .beats → (s.chip.dmaCh n).left = 0 → (s.chip.dmaCh n).count ≤ (s.chip.dmaCh n).toWrite ∧ bit ((s.chip.dmaCh n).word 0) 29 = false)) :=
  ⟨(st fun c => (dhi (dgo 2 dx c)).setDmaCh 5 { dx with left := 1 }), hc, by decide +kernel⟩
def rqd : Chip → Chip := fun c => { c with dma := { c.dma with cmpReq := [5, 3] } }
theorem wit_dma_channels_24 : ∃ (s : State) (n : Fin 16),
    (s.chip.alive .sys = true) ∧ (s.chip.rf rDMA_CFG n 0 27 26 = 1) ∧ (s.chip.dmaState n = 1 ∨ s.chip.dmaState n = 2) ∧ (s.chip.rf rDMA_STAT n 0 15 8 < 255) ∧ (n.val ∈ s.chip.dma.cmpReq) :=
  ⟨(st fun c => rqd (((don c).setDmaState 3 2).wr rDMA_CFG 3 0 0x84000000)), 3, by decide +kernel⟩
theorem wit_dma_channels_25 : ∃ (s : State) (n : Fin 16),
    (s.chip.alive .sys = true) ∧ (s.chip.rf rDMA_CFG n 0 27 26 = 1) ∧ (s.chip.dmaState n = 1 ∨ s.chip.dmaState n = 2) ∧ (s.chip.rf rDMA_STAT n 0 15 8 = 255) ∧ (n.val ∈ s.chip.dma.cmpReq) :=
  ⟨(st fun c => rqd ((((don c).setDmaState 3 2).wr rDMA_CFG 3 0 0x84000000).wf rDMA_STAT 3 0 15 8 255)), 3, by decide +kernel⟩
theorem wit_dma_channels_26 : ∃ (s : State) (n : Fin 16),
    (s.chip.alive .sys = true) ∧ (s.chip.rf rDMA_CFG n 0 27 26 ≠ 1 ∨ (s.chip.dmaState n ≠ 1 ∧ s.chip.dmaState n ≠ 2)) ∧ (n.val ∈ s.chip.dma.cmpReq) :=
  ⟨(st fun c => rqd c), 3, by decide +kernel⟩
theorem wit_dma_channels_27 : ∃ (s : State) (n : Fin 16),
    (s.chip.alive .sys = false ∨ n.val ∉ s.chip.dma.cmpReq) :=
  ⟨(st fun c => rqd c), 4, by decide +kernel⟩
def mb : Chip → Chip := fun c => (c.wr rQUE_CFG 4 0 0x80020000).setMail 4 [5, 6]
theorem wit_mailboxes_and_queues_1 : ∃ (s : State) (a : Access) (q : Fin 32) (v : Word),
    (s.chip.takes a rQUE_PUSH q 0 v) ∧ (s.chip.rb rQUE_CFG q 0 31 = true) ∧ ((s.chip.mail q).length < s.chip.mailSize q) :=
  ⟨(st mb), hc, 4, 7, by decide +kernel⟩
theorem wit_mailboxes_and_queues_2 : ∃ (s : State) (a : Access) (q : Fin 32) (v : Word),
    (s.chip.takes a rQUE_PUSH q 0 v) ∧ (s.chip.rb rQUE_CFG q 0 31 = true) ∧ (s.chip.mailSize q ≤ (s.chip.mail q).length) :=
  ⟨(st fun c => (mb c).setMail 4 [1, 2, 3, 4]), hc, 4, 7, by decide +kernel⟩
theorem wit_mailboxes_and_queues_3 : ∃ (s : State) (a : Access) (q : Fin 32) (v : Word),
    (s.chip.takes a rQUE_PUSH q 0 v) ∧ (s.chip.rb rQUE_CFG q 0 31 = false) :=
  ⟨(st), hc, 4, 7, by decide +kernel⟩
theorem wit_mailboxes_and_queues_4 : ∃ (s : State) (a : Access) (q : Fin 32) (v : Word) (t : List Word),
    (s.chip.reads a rQUE_POP q 0) ∧ (s.chip.mailMay a q true = true) ∧ (s.chip.mail q = v :: t) :=
  ⟨(st mb), hc, 4, 5, [6], by decide +kernel⟩
theorem wit_mailboxes_and_queues_5 : ∃ (s : State) (a : Access) (q : Fin 32),
    (s.chip.reads a rQUE_POP q 0) ∧ (s.chip.mailMay a q true = true) ∧ (s.chip.mail q = []) :=
  ⟨(st), hc, 4, by decide +kernel⟩
theorem wit_mailboxes_and_queues_6 : ∃ (s : State) (a : Access) (q : Fin 32),
    (s.chip.reads a rQUE_POP q 0) ∧ (s.chip.mailMay a q true = false) :=
  ⟨(st fun c => c.wr rQUE_MASK 4 0 0xFFF0FFFF), hc, 4, by decide +kernel⟩
theorem wit_mailboxes_and_queues_7 : ∃ (s : State) (a : Access) (q : Fin 32),
    (s.chip.takes a rQUE_CFG q 0 (setBit (s.chip.rd rQUE_CFG q) 31 false)) ∧ (s.chip.rb rQUE_CFG q 0 31 = true) :=
  ⟨(st mb), hc, 4, by decide +kernel⟩
theorem wit_mailboxes_and_queues_8 : ∃ (s : State) (a : Access) (q : Fin 32),
    (s.chip.takes a rQUE_CFG q 0 (setBit (s.chip.rd rQUE_CFG q) 31 false)) ∧ (s.chip.rb rQUE_CFG q 0 31 = false) :=
  ⟨(st), hc, 4, by decide +kernel⟩
theorem wit_mailboxes_and_queues_9 : ∃ (s : State) (q : Fin 32),
    (s.chip.alive .sys = true) ∧ (s.chip.mail q ≠ []) ∧ (s.chip.rf rQUE_STALE q 0 23 0 ≠ 0) :=
  ⟨(st mb), 4, by decide +kernel⟩
theorem wit_mailboxes_and_queues_10 : ∃ (s : State) (q : Fin 32),
    (s.chip.alive .sys = false ∨ s.chip.mail q = [] ∨ s.chip.rf rQUE_STALE q 0 23 0 = 0) :=
  ⟨(st), 4, by decide +kernel⟩
theorem wit_mailboxes_and_queues_11 : ∃ (s : State) (id : Fin 256) (lost : Nat),
    (s.chip.alive .sys = false ∨ queueId id = false) :=
  ⟨(st), 0x06, 5, by decide +kernel⟩
def rxf (n : Nat) : RxFrame := { bytes := List.replicate n 0 }
theorem wit_mailboxes_and_queues_12 : ∃ (s : State) (id : Fin 256) (lost : Nat) (n : Nat) (p : Nat) (w : Nat) (d : Nat),
    (s.chip.alive .sys = true) ∧ ((id.val < 2 ∧ p = id.val ∧ w = 32 ∧ d = 64) ∨ (id.val = 4 ∧ p = 2 ∧ w = 8 ∧ d = 32)) ∧ (n = min lost (min d (rxEntries w (s.chip.mac p).rxq))) :=
  ⟨(st fun c => (c.setMac 1 { c.mac 1 with rxq := [rxf 40, rxf 64, rxf 32] })), 1, 3, 3, 1, 32, 64, by decide +kernel⟩
theorem wit_mailboxes_and_queues_12_b : ∃ (s : State) (id : Fin 256) (lost : Nat) (n : Nat) (p : Nat) (w : Nat) (d : Nat),
    (s.chip.alive .sys = true) ∧ ((id.val < 2 ∧ p = id.val ∧ w = 32 ∧ d = 64) ∨ (id.val = 4 ∧ p = 2 ∧ w = 8 ∧ d = 32)) ∧ (n = min lost (min d (rxEntries w (s.chip.mac p).rxq))) :=
  ⟨(st), 4, 0, 0, 2, 8, 32, by decide +kernel⟩
theorem wit_mailboxes_and_queues_13 : ∃ (s : State) (id : Fin 256) (lost : Nat) (p : Nat) (k : Nat),
    (s.chip.alive .sys = true) ∧ (k < 6) ∧ ((p = 0 ∧ id.val = 0x08 + k) ∨ (p = 1 ∧ id.val = 0x10 + k)) :=
  ⟨(st fun c => c.setUrgQueue 1 3 [{ mask := 5, word := 1, words := 2, ts := 3, left := 5 }, { mask := 5, word := 2, words := 0, ts := 3, left := 7 }]), 0x13, 5, 1, 3, by decide +kernel⟩
theorem wit_mailboxes_and_queues_14 : ∃ (s : State) (lost : Nat),
    (s.chip.alive .sys = true) :=
  ⟨(st fun c => { c with time := { c.time with evtQ := [7] } }), 5, by decide +kernel⟩
theorem wit_mailboxes_and_queues_15 : ∃ (s : State) (lost : Nat),
    (s.chip.alive .sys = true) :=
  ⟨(st), 5, by decide +kernel⟩
theorem wit_mailboxes_and_queues_16 : ∃ (s : State) (id : Fin 256) (lost : Nat),
    (s.chip.alive .sys = true) ∧ (0x1A ≤ id.val) ∧ (id.val ≤ 0x1F) :=
  ⟨(st fun c => c.setPort 9 { c.port 9 with presentDue := true }), 0x1B, 5, by decide +kernel⟩
theorem wit_mailboxes_and_queues_17 : ∃ (s : State) (id : Fin 256) (lost : Nat),
    (s.chip.alive .sys = true) ∧ (0x38 ≤ id.val) ∧ (id.val ≤ 0x3D) :=
  ⟨(st), 0x38, 5, by decide +kernel⟩
theorem wit_mailboxes_and_queues_18 : ∃ (s : State) (lost : Nat),
    (s.chip.alive .sys = true) :=
  ⟨(st), 5, by decide +kernel⟩
theorem wit_mailboxes_and_queues_19 : ∃ (s : State) (lost : Nat),
    (s.chip.alive .sys = true) ∧ ((∀ cv : Fin 4, (s.chip.dcanv cv).openBuf = none)) :=
  ⟨(st), 5, by decide +kernel⟩
def qsl : State := st fun c => (((celOn c).wr rTRL_DSIZE 1 0 0x00000003).wr rTRL_DBASE 1 1 0x80010000).setDcanv 1 { openBuf := some 1, seq := some 9 }
theorem wit_mailboxes_and_queues_20 : ∃ (s : State) (lost : Nat) (cv : Fin 4) (k : Fin 3) (x : DCanv) (sig : Word),
    (s.chip.alive .sys = true) ∧ (s.chip.dcanv cv = x) ∧ (x.openBuf = some k.val) ∧ ((∀ d : Fin 4, d ≠ cv → (s.chip.dcanv d).openBuf = none)) ∧ (s.chip.rb rRGN_WMASK 6 0 8 = true) ∧ (s.chip.celCalm) ∧ (s.chip.rb rECC_INJ 0 0 31 = false) ∧ (sig = s.chip.canvSig (s.chip.viewGeom cv) k) :=
  ⟨qsl, 5, 1, 1, { openBuf := some 1, seq := some 9 }, (qsl.chip.canvSig (qsl.chip.viewGeom 1) 1), by and_intros <;> first | with_reducible rfl | decide +kernel | rfl⟩
theorem wit_mailboxes_and_queues_21 : ∃ (s : State) (id : Fin 256) (lost : Nat),
    (s.chip.alive .sys = true) ∧ (id.val ∈ [0x02, 0x03, 0x05, 0x20, 0x21, 0x22, 0x23, 0x40, 0x42] ∨ (0x28 ≤ id.val ∧ id.val ≤ 0x2D) ∨ (0x30 ≤ id.val ∧ id.val ≤ 0x35) ∨ (0x80 ≤ id.val ∧ id.val ≤ 0x93) ∨ (0xA0 ≤ id.val ∧ id.val ≤ 0xA5)) :=
  ⟨(st), 0x28, 5, by decide +kernel⟩
theorem wit_mailboxes_and_queues_21_b : ∃ (s : State) (id : Fin 256) (lost : Nat),
    (s.chip.alive .sys = true) ∧ (id.val ∈ [0x02, 0x03, 0x05, 0x20, 0x21, 0x22, 0x23, 0x40, 0x42] ∨ (0x28 ≤ id.val ∧ id.val ≤ 0x2D) ∨ (0x30 ≤ id.val ∧ id.val ≤ 0x35) ∨ (0x80 ≤ id.val ∧ id.val ≤ 0x93) ∨ (0xA0 ≤ id.val ∧ id.val ≤ 0xA5)) :=
  ⟨(st), 0xA5, 0, by decide +kernel⟩
theorem wit_mailboxes_and_queues_22 : ∃ (s : State) (p : Fin 48),
    (s.chip.up (.bank (bankOf p)) = true) :=
  ⟨(st), 9, by decide +kernel⟩
theorem wit_mailboxes_and_queues_23 : ∃ (s : State) (p : Fin 48),
    (s.chip.up (.bank (bankOf p)) = false) :=
  ⟨(st fun c => { c with pwr := { c.pwr with phase := .rails } }), 9, by decide +kernel⟩

end Sys2Proof.Tests.WitnessP
end

