-- ==== Sys2Proof/Tests/WitnessQ.lean ====
section
/-! SUPPORT. States and operands that meet the hypotheses of the statements, part Q. -/

namespace Sys2Proof.Tests.WitnessQ

open Sys2Proof Sys2Proof.Machine Sys2Proof.Tests

set_option maxRecDepth 100000
set_option Elab.async false
set_option linter.unusedVariables false
set_option linter.unreachableTactic false
set_option linter.unusedTactic false

/-- Slot `k` for every master, world and use in every state, not stored, with a key of 32 bytes 7. -/
def slot (k : Nat) : Chip → Chip := fun c => (c.wr (rATTR0 k) 0 0 0xFFFFBFF0 |>.wf (rATTR0 k) 0 0 15 14 2).setKeySlot k { key := some (List.replicate 32 7), seq := 0 }
def arg (i : Nat) (v : Word) : Chip → Chip := fun c => c.wr rVLT_ARG 0 i v
/-- A slot that is stored. -/
def pslot (k : Nat) : Chip → Chip := fun c => (slot k c).wb (rATTR0 k) 0 0 2 true
def wmac : State := st fun c => { slot 2 c with vlt := { (slot 2 c).vlt with nonces := [(0, some [1])] } }
def lc1 : Chip → Chip := fun c => { c with fuses := { c.fuses with p := 7 } }
def pfwOn : Chip → Chip := fun c => { c with pwr := { c.pwr with pfw := true } }
theorem wit_vault_keys_1 : ∃ (s : State) (i : Instr) (a : Access) (w : Fin 4) (v : Word),
    (vltCmdOf i = some (a, w, v)) ∧ (s.chip.takes a rVLT_CMD w 0 v) ∧ ((s.chip.vlt.lcTarget ≠ none ∨ s.chip.vlt.queue ≠ []) ∨ (s.chip.vltGo i ∧ s.chip.vltStores i = true ∧ s.chip.pwr.pfw = true)) :=
  ⟨(st fun c => c.setVlt { c.vlt with lcTarget := some 1 }), (.vltRandom hc 0), hc, 0, (cmdWord 13 0 0), by decide +kernel⟩
theorem wit_vault_keys_1_b : ∃ (s : State) (i : Instr) (a : Access) (w : Fin 4) (v : Word),
    (vltCmdOf i = some (a, w, v)) ∧ (s.chip.takes a rVLT_CMD w 0 v) ∧ ((s.chip.vlt.lcTarget ≠ none ∨ s.chip.vlt.queue ≠ []) ∨ (s.chip.vltGo i ∧ s.chip.vltStores i = true ∧ s.chip.pwr.pfw = true)) :=
  ⟨(st fun c => pfwOn (pslot 9 c)), (.vltDelete hc 0 9), hc, 0, (cmdWord 11 9 0), by decide +kernel⟩
theorem wit_vault_keys_2 : ∃ (s : State) (i : Instr) (a : Access) (b : Access) (w : Fin 4) (v : Word) (k : Nat) (u : Nat) (n : Nat),
    (vltCmdOf i = some (a, w, v)) ∧ (s.chip.vltTakes i) ∧ (s.chip.vltNeeds i = some (b, k, u)) ∧ (s.chip.slotRefusal b k u = some (.refuse n)) :=
  ⟨(st), (.vltHmac hc 0 9), hc, hc, 0, (cmdWord 1 9 0), 9, 0, 1, by decide +kernel⟩
theorem wit_vault_keys_2_b : ∃ (s : State) (i : Instr) (a : Access) (b : Access) (w : Fin 4) (v : Word) (k : Nat) (u : Nat) (n : Nat),
    (vltCmdOf i = some (a, w, v)) ∧ (s.chip.vltTakes i) ∧ (s.chip.vltNeeds i = some (b, k, u)) ∧ (s.chip.slotRefusal b k u = some (.refuse n)) :=
  ⟨(st fun c => (slot 9 c).setKeySlot 9 {}), (.vltAttest hc 0 9), hc, hc, 0, (cmdWord 6 9 0), 9, 4, 2, by decide +kernel⟩
theorem wit_vault_keys_3 : ∃ (s : State) (i : Instr) (a : Access) (w : Fin 4) (v : Word) (n : Nat),
    (vltCmdOf i = some (a, w, v)) ∧ (s.chip.vltTakes i) ∧ (s.chip.slotGiven i) ∧ (s.chip.vltWrong i = some n) :=
  ⟨(st fun c => arg 0 2000 c), (.vltRandom hc 0), hc, 0, (cmdWord 13 0 0), 5, by decide +kernel⟩
theorem wit_vault_keys_3_b : ∃ (s : State) (i : Instr) (a : Access) (w : Fin 4) (v : Word) (n : Nat),
    (vltCmdOf i = some (a, w, v)) ∧ (s.chip.vltTakes i) ∧ (s.chip.slotGiven i) ∧ (s.chip.vltWrong i = some n) :=
  ⟨(st fun c => arg 2 1 c), (.sealOp hc 0 9), hc, 0, (cmdWord 2 9 0), 1, by decide +kernel⟩
theorem wit_vault_keys_3_c : ∃ (s : State) (i : Instr) (a : Access) (w : Fin 4) (v : Word) (n : Nat),
    (vltCmdOf i = some (a, w, v)) ∧ (s.chip.vltTakes i) ∧ (s.chip.slotGiven i) ∧ (s.chip.vltWrong i = some n) :=
  ⟨(st), (.vltDelete hc 0 9), hc, 0, (cmdWord 11 9 0), 1, by decide +kernel⟩
theorem wit_vault_keys_4 : ∃ (s : State) (a : Access) (w : Fin 4) (k : Fin 64) (r : List Byte),
    (s.chip.vltGo (.vltHmac a w k)) ∧ (r = hmac (s.chip.keyOf k) (s.chip.vltBuf w (s.chip.vltArg w 0))) :=
  ⟨(st fun c => arg 0 5 (slot 9 c)), hc, 0, 9, (hmac (List.replicate 32 7) [0, 0, 0, 0, 0]), by decide +kernel, rfl⟩
def sl0 : State := st fun c => arg 0 5 (arg 1 2 (slot 9 c))
theorem wit_vault_keys_5 : ∃ (s : State) (a : Access) (w : Fin 4) (k : Fin 64) (n : Nat) (m : Nat) (b : List Byte) (r : List Byte),
    (s.chip.vltGo (.sealOp a w k)) ∧ (n = s.chip.vltArg w 0) ∧ (m = s.chip.vltArg w 1) ∧ (12 + m + n ≤ 1024) ∧ (n + 16 ≤ 1024) ∧ (b = s.chip.vltBuf w (12 + m + n)) ∧ (r = (gcmSeal (s.chip.aeadOf w k true) (b.take 12) (slice b 12 m) (b.drop (12 + m))).1 ++ (gcmSeal (s.chip.aeadOf w k true) (b.take 12) (slice b 12 m) (b.drop (12 + m))).2) :=
  ⟨sl0, hc, 0, 9, 5, 2, (List.replicate 19 0), ((gcmSeal (List.replicate 32 7) (List.replicate 12 0) [0, 0] (List.replicate 5 0)).1 ++ (gcmSeal (List.replicate 32 7) (List.replicate 12 0) [0, 0] (List.replicate 5 0)).2), by and_intros <;> first | with_reducible rfl | decide +kernel | rfl⟩
theorem wit_vault_keys_6 : ∃ (s : State) (a : Access) (w : Fin 4) (k : Fin 64) (n : Nat) (m : Nat) (b : List Byte) (r : Option (List Byte)),
    (s.chip.vltGo (.openOp a w k)) ∧ (n = s.chip.vltArg w 0) ∧ (m = s.chip.vltArg w 1) ∧ (12 + m + n + 16 ≤ 1024) ∧ (b = s.chip.vltBuf w (12 + m + n + 16)) ∧ (r = gcmOpen (s.chip.aeadOf w k false) (b.take 12) (slice b 12 m) (slice b (12 + m) n) (b.drop (12 + m + n))) :=
  ⟨(st fun c => arg 0 5 (arg 1 2 (slot 9 c))), hc, 0, 9, 5, 2, (List.replicate 35 0), none, by decide +kernel⟩
def seald : State := match exec (.sealOp hc 0 9) (st fun c => arg 0 5 (slot 9 c)) with | .next t => ⟨[], (t.chip.setVltBuf 0 (List.replicate 12 0 ++ t.chip.vltBuf 0 21))⟩ | _ => st
theorem wit_vault_keys_7 : ∃ (s : State) (a : Access) (w : Fin 4) (k : Fin 64) (d : Fin 64),
    (s.chip.vltGo (.vltDerive a w k d)) ∧ ((s.chip.persist d = true → s.chip.recRoom 4)) :=
  ⟨(st fun c => arg 0 1 (c.wr (rATTR0 9) 0 0 0xFFFFBFF0)), hc, 0, 0, 9, by decide +kernel⟩
theorem wit_vault_keys_7_b : ∃ (s : State) (a : Access) (w : Fin 4) (k : Fin 64) (d : Fin 64),
    (s.chip.vltGo (.vltDerive a w k d)) ∧ ((s.chip.persist d = true → s.chip.recRoom 4)) :=
  ⟨(st fun c => slot 8 ((pslot 9 c).setKeySlot 9 {})), hc, 0, 8, 9, by decide +kernel⟩
theorem wit_vault_keys_8 : ∃ (s : State) (a : Access) (w : Fin 4) (e : Fin 64) (n : Nat) (m : Nat),
    (s.chip.vltGo (.vltSession a w e)) ∧ (n = s.chip.vltArg w 0) ∧ (m = s.chip.vltArg w 1) :=
  ⟨(st fun c => arg 2 9 (arg 0 5 (slot 9 c))), hc, 0, 3, 5, 0, by decide +kernel⟩
theorem wit_vault_keys_9 : ∃ (s : State) (a : Access) (w : Fin 4) (k : Fin 64) (j : Nat),
    (s.chip.vltGo (.loadUrg a w k)) ∧ (j = s.chip.vltArg w 0) :=
  ⟨(st (slot 9)), hc, 0, 9, 0, by decide +kernel⟩
theorem wit_vault_keys_9_b : ∃ (s : State) (a : Access) (w : Fin 4) (k : Fin 64) (j : Nat),
    (s.chip.vltGo (.loadUrg a w k)) ∧ (j = s.chip.vltArg w 0) :=
  ⟨(st fun c => arg 0 1 (slot 9 c)), hc, 0, 9, 1, by decide +kernel⟩
theorem wit_vault_keys_10 : ∃ (s : State) (a : Access) (w : Fin 4) (k : Fin 64) (key : List Byte),
    (s.chip.vltGo (.vltInstall a w k)) ∧ ((s.chip.persist k = true → s.chip.recRoom 4)) ∧ ((s.chip.lc = 0 ∧ key = s.chip.vltBuf w 32) ∨ (s.chip.lc ≠ 0 ∧ keyUnwrap (s.chip.sessEnt (s.chip.vltArg w 0 % 64)).kekS (s.chip.vltBuf w 40) = some key)) :=
  ⟨(st fun c => c.wr (rATTR0 9) 0 0 0xFFFFBFF0), hc, 0, 9, (List.replicate 32 0), by decide +kernel⟩
theorem wit_vault_keys_10_b : ∃ (s : State) (a : Access) (w : Fin 4) (k : Fin 64) (key : List Byte),
    (s.chip.vltGo (.vltInstall a w k)) ∧ ((s.chip.persist k = true → s.chip.recRoom 4)) ∧ ((s.chip.lc = 0 ∧ key = s.chip.vltBuf w 32) ∨ (s.chip.lc ≠ 0 ∧ keyUnwrap (s.chip.sessEnt (s.chip.vltArg w 0 % 64)).kekS (s.chip.vltBuf w 40) = some key)) :=
  ⟨(st fun c => pslot 9 c), hc, 0, 9, (List.replicate 32 0), by decide +kernel⟩
def wrapd : State := st fun c => (lc1 ((c.wr (rATTR0 9) 0 0 0xFFFFBFF0).setSess 0 { used := true })).setVltBuf 0 (keyWrap (({ used := true } : SessEnt).kekS) (List.replicate 32 5))
theorem wit_vault_keys_11 : ∃ (s : State) (a : Access) (w : Fin 4) (k : Fin 64),
    (s.chip.vltGo (.vltDelete a w k)) ∧ (s.chip.persist k = false) :=
  ⟨(st (slot 9)), hc, 0, 9, by decide +kernel⟩
theorem wit_vault_keys_12 : ∃ (s : State) (a : Access) (w : Fin 4) (k : Fin 64),
    (s.chip.vltGo (.vltDelete a w k)) ∧ (s.chip.persist k = true) ∧ (s.chip.recRoom 4) ∧ ((∀ x : Fin 2, s.chip.scanArea x = ([], 0, false))) ∧ (s.chip.vlt.unit = 0) :=
  ⟨(st (pslot 9)), hc, 0, 9, by decide +kernel⟩
theorem wit_vault_keys_13 : ∃ (s : State) (a : Access) (w : Fin 4) (k : Fin 64),
    (s.chip.vltGo (.vltSetattr a w k)) :=
  ⟨(st fun c => arg 0 0xFFFF (arg 1 8 c)), hc, 0, 9, by decide +kernel⟩
theorem wit_vault_measurements_and_life_cycle_1 : ∃ (s : State) (a : Access) (w : Fin 4) (i : Nat),
    (s.chip.vltGo (.vltExtend a w)) ∧ (i = s.chip.vltArg w 0) :=
  ⟨(st (arg 0 3)), hc, 0, 3, by decide +kernel⟩
theorem wit_vault_measurements_and_life_cycle_2 : ∃ (s : State) (a : Access),
    (s.chip.takes a rVLT_CTRL 0 0 1) :=
  ⟨(st), hc, by decide +kernel⟩
theorem wit_vault_measurements_and_life_cycle_3 : ∃ (s : State) (a : Access) (v : Word),
    (s.chip.takes a rVINTAGE 0 0 v) ∧ (s.chip.vlt.vintageWritten = false) :=
  ⟨(st), hc, 5, by decide +kernel⟩
theorem wit_vault_measurements_and_life_cycle_4 : ∃ (s : State) (a : Access) (v : Word),
    (s.chip.takes a rVINTAGE 0 0 v) ∧ (s.chip.vlt.vintageWritten = true) :=
  ⟨(st fun c => c.setVlt { vintageWritten := true }), hc, 5, by decide +kernel⟩
def atd : State := st fun c => (slot 9 c).wb rVLT_STATUS 0 0 4 true
theorem wit_vault_measurements_and_life_cycle_5 : ∃ (s : State) (a : Access) (w : Fin 4) (k : Fin 64) (m : List Byte),
    (s.chip.vltGo (.vltAttest a w k)) ∧ (m = s.chip.attestation (s.chip.vltBuf w 32) ++ hmac (s.chip.keyOf k) (s.chip.attestation (s.chip.vltBuf w 32))) :=
  ⟨atd, hc, 0, 9, (atd.chip.attestation (List.replicate 32 0) ++ hmac (List.replicate 32 7) (atd.chip.attestation (List.replicate 32 0))), by decide +kernel, rfl⟩
theorem wit_vault_measurements_and_life_cycle_6 : ∃ (s : State) (a : Access) (w : Fin 4) (k : Fin 64) (n : List Byte),
    (s.chip.vltGo (.unonce a w k)) ∧ (n = (List.range 32).map (fun j => Config.randomByte (s.chip.cyc + 1) j)) :=
  ⟨(st (slot 2)), hc, 0, 2, ((List.range 32).map (fun j => Config.randomByte (st.chip.cyc + 1) j)), by decide +kernel, rfl⟩
theorem wit_vault_measurements_and_life_cycle_7 : ∃ (s : State) (a : Access) (w : Fin 4) (k : Fin 64) (good : Bool),
    (s.chip.vltGo (.unlock a w k)) ∧ (good = (mget none s.chip.vlt.nonces w).any (fun n => s.chip.vltBuf w 32 == s.chip.unlockMac k n)) :=
  ⟨wmac, hc, 0, 2, false, by decide +kernel⟩
theorem wit_vault_measurements_and_life_cycle_7_b : ∃ (s : State) (a : Access) (w : Fin 4) (k : Fin 64) (good : Bool),
    (s.chip.vltGo (.unlock a w k)) ∧ (good = (mget none s.chip.vlt.nonces w).any (fun n => s.chip.vltBuf w 32 == s.chip.unlockMac k n)) :=
  ⟨(⟨[], wmac.chip.setVltBuf 0 ((wmac.chip.unlockMac 2 [1]).take 32)⟩), hc, 0, 2, true, by decide +kernel⟩
theorem wit_vault_measurements_and_life_cycle_7_c : ∃ (s : State) (a : Access) (w : Fin 4) (k : Fin 64) (good : Bool),
    (s.chip.vltGo (.unlock a w k)) ∧ (good = (mget none s.chip.vlt.nonces w).any (fun n => s.chip.vltBuf w 32 == s.chip.unlockMac k n)) :=
  ⟨(⟨[], wmac.chip.setVlt { wmac.chip.vlt with fails := 2 }⟩), hc, 0, 2, false, by decide +kernel⟩
theorem wit_vault_measurements_and_life_cycle_8 : ∃ (s : State) (a : Access) (w : Fin 4) (r : List Byte),
    (s.chip.vltGo (.vltRandom a w)) ∧ (r = (List.range (s.chip.vltArg w 0)).map (fun j => Config.randomByte (s.chip.cyc + 1) j)) :=
  ⟨(st (arg 0 10)), hc, 0, ((List.range 10).map (fun j => Config.randomByte (st.chip.cyc + 1) j)), by decide +kernel, rfl⟩
def commb : State := st fun c => (lc1 (arg 0 0x01050000 (arg 1 11 (slot 0 c)))).setBytes 0x01050000 [1, 2, 3, 4, 3, 0, 7, 8, 9, 10, 11]
theorem wit_vault_measurements_and_life_cycle_9 : ∃ (s : State) (a : Access) (w : Fin 4) (k : Fin 64) (nn : Nat) (u : Nat) (b : List Byte) (r : List Byte),
    (s.chip.vltGo (.commrec a w k)) ∧ (b = s.chip.bytes (s.chip.vltArg w 0) (s.chip.vltArg w 1)) ∧ (nn = leNat (slice b 4 2)) ∧ (u = 2 + (nn + 31) / 32) ∧ (s.chip.recRoom u) ∧ (r = natLE 4 magicComm ++ recBytes u ([0xC0, 0] ++ List.replicate 6 0) s.chip.nextSeq (b ++ List.replicate (32 * (u - 2) - nn) 0) s.chip.kcom) :=
  ⟨commb, hc, 0, 0, 3, 3, [1, 2, 3, 4, 3, 0, 7, 8, 9, 10, 11], (natLE 4 magicComm ++ recBytes 3 ([0xC0, 0] ++ List.replicate 6 0) commb.chip.nextSeq ([1, 2, 3, 4, 3, 0, 7, 8, 9, 10, 11] ++ List.replicate 29 0) commb.chip.kcom), by and_intros <;> first | with_reducible rfl | decide +kernel | rfl⟩
theorem wit_vault_measurements_and_life_cycle_10 : ∃ (s : State),
    (s.chip.alive .sys = false ∨ s.chip.dusOk = false) :=
  ⟨(st fun c => { c with fuses := { c.fuses with s := 7 } }), by decide +kernel⟩
theorem wit_vault_measurements_and_life_cycle_11 : ∃ (s : State) (l : List VRec) (area : Nat),
    (s.chip.alive .sys = true) ∧ (s.chip.dusOk = true) ∧ (l = (s.chip.scanArea 0).1 ++ (s.chip.scanArea 1).1) ∧ ((∀ r ∈ l, r.del = false ∧ (r.valid = true → s.chip.recDoomed r = false))) ∧ (area = ((newestRec (l.filter (·.valid))).map fun r => if r.off < vltArea 1 then 0 else 1).getD 0) :=
  ⟨(st), [], 0, by decide +kernel⟩
def storedk : State := match exec (.vltInstall hc 0 9) (st fun c => pslot 9 c) with | .next t => t | _ => st
theorem wit_vault_measurements_and_life_cycle_12 : ∃ (s : State) (a : Access) (v : Word) (t : Nat),
    (s.chip.takes a rLC_REQ 0 0 v) ∧ (fld v 31 8 = 0x4C4354) ∧ (t = fld v 7 0) ∧ (s.chip.lcMay a.master t = true) ∧ (s.chip.pwr.pfw = false) ∧ (s.chip.rb rVLT_STATUS 0 0 0 = false) :=
  ⟨(st fun c => (slot 9 (slot 2 c)).wr (rATTR1 9) 0 0 2), hc, 0x4C435401, 1, by decide +kernel⟩
theorem wit_vault_measurements_and_life_cycle_13 : ∃ (s : State) (a : Access) (v : Word) (t : Nat),
    (s.chip.takes a rLC_REQ 0 0 v) ∧ (fld v 31 8 = 0x4C4354) ∧ (t = fld v 7 0) ∧ (s.chip.lcMay a.master t = false ∨ s.chip.pwr.pfw = true ∨ s.chip.rb rVLT_STATUS 0 0 0 = true) :=
  ⟨(st), hc, 0x4C435407, 7, by decide +kernel⟩
theorem wit_vault_measurements_and_life_cycle_14 : ∃ (s : State) (a : Access) (v : Word),
    (s.chip.takes a rLC_REQ 0 0 v) ∧ (fld v 31 8 ≠ 0x4C4354) :=
  ⟨(st), hc, 0x00000001, by decide +kernel⟩
theorem wit_vault_measurements_and_life_cycle_15 : ∃ (s : State) (t : Nat),
    (s.chip.alive .sys = true) ∧ (s.chip.vlt.lcTarget = some t) ∧ (s.chip.vlt.queue = []) ∧ (s.chip.pwr.pfw = false) :=
  ⟨(st fun c => c.setVlt { lcTarget := some 1 }), 1, by decide +kernel⟩
theorem wit_vault_measurements_and_life_cycle_16 : ∃ (s : State) (t : Nat),
    (s.chip.alive .sys = true) ∧ (s.chip.vlt.lcTarget = some t) ∧ (s.chip.vlt.queue = []) ∧ (s.chip.pwr.pfw = true) :=
  ⟨(st fun c => pfwOn (c.setVlt { lcTarget := some 1 })), 1, by decide +kernel⟩
theorem wit_vault_measurements_and_life_cycle_17 : ∃ (s : State),
    (s.chip.alive .sys = false ∨ s.chip.vlt.lcTarget = none) :=
  ⟨(st), by decide +kernel⟩

end Sys2Proof.Tests.WitnessQ
end

