-- ==== Sys2Proof/Tests/WitnessR.lean ====
section
/-! SUPPORT. States and operands that meet the hypotheses of the statements, part R. -/

namespace Sys2Proof.Tests.WitnessR

open Sys2Proof Sys2Proof.Machine Sys2Proof.Tests

set_option maxRecDepth 100000
set_option Elab.async false
set_option linter.unusedVariables false
set_option linter.unreachableTactic false
set_option linter.unusedTactic false

def fw : Chip → Chip := fun c => { c with boot := { c.boot with hc0 := .monitor } }
def ann : List Byte := List.replicate 32 5 ++ natLE 4 3000 ++ natLE 4 0 ++ natLE 4 7
def up (x : UpdSt) : State := st fun c => { fw c with upd := x }
def pcs : UpdSt := { state := 1, cid := List.replicate 32 5, clen := 3000, toV := 7 }
def armV : List Byte := [1, 3, 0, 0] ++ List.replicate 24 0
def armed : Arm := { mode := 1, trials := 3, from_ := 0, until_ := 0, bytes := armV }
def chk4 : State := st fun c => { ((((fw c).wr rRUNSLOT 0 0 0).setBytes (flashBase + stagingBase + 112) (natLE 4 4 ++ natLE 4 2 ++ natLE 4 8)).setBytes (flashBase + stagingBase + 256) (natLE 4 0 ++ natLE 4 8)).setBytes (flashBase + stagingBase + 336) (natLE 4 0x20000004 ++ [1, 2, 3, 4]) with upd := { state := 4 } }
def rom : Chip → Chip := fun c => { c with boot := { c.boot with hc0 := .rom } }
def pwf : Chip → Chip := fun c => { c with pwr := { c.pwr with pfw := true } }
def upn (x : UpdSt) : State := st fun c => { fw c with upd := x, boot := { (fw c).boot with ncRun := true } }
theorem wit_start_and_announce_1 : ∃ (s : State) (t : Bool) (ab : Bool),
    (s.chip.alive .sys = true) ∧ (s.chip.boot.hc0 = .reset) ∧ (t = (s.chip.rb rCEL_STATUS 0 0 1 || Config.trains (s.chip.cyc + 1))) ∧ (ab = s.chip.boot.abandoned) :=
  ⟨(st fun c => { (c.wr rCEL_STATUS 0 0 2) with boot := { c.boot with hc0 := .reset, abandoned := true } }), true, true, by decide +kernel⟩
theorem wit_start_and_announce_1_b : ∃ (s : State) (t : Bool) (ab : Bool),
    (s.chip.alive .sys = true) ∧ (s.chip.boot.hc0 = .reset) ∧ (t = (s.chip.rb rCEL_STATUS 0 0 1 || Config.trains (s.chip.cyc + 1))) ∧ (ab = s.chip.boot.abandoned) :=
  ⟨(st fun c => { c with boot := { c.boot with hc0 := .reset } }), (Config.trains ((st fun c => c).chip.cyc + 1)), false, by decide +kernel, by decide +kernel, rfl, by decide +kernel⟩
theorem wit_start_and_announce_2 : ∃ (s : State),
    (s.chip.alive .sys = false ∨ s.chip.boot.hc0 ≠ .reset) :=
  ⟨(st fw), by decide +kernel⟩
theorem wit_start_and_announce_3 : ∃ (s : State) (held : Bool),
    (s.chip.alive .sys = true) ∧ (s.chip.boot.hc0 = .rom) ∧ (s.chip.pwr.pfw = false) ∧ (s.chip.rb rCEL_STATUS 0 0 1 = false ∨ s.chip.celCalm) ∧ (s.chip.rb rSTRAP 0 0 5 = false ∨ held = true ∨ s.chip.dumpPorch.2 = true ∨ s.chip.fuses.crcOk = false) :=
  ⟨(st rom), true, by decide +kernel⟩
theorem wit_start_and_announce_3_b : ∃ (s : State) (held : Bool),
    (s.chip.alive .sys = true) ∧ (s.chip.boot.hc0 = .rom) ∧ (s.chip.pwr.pfw = false) ∧ (s.chip.rb rCEL_STATUS 0 0 1 = false ∨ s.chip.celCalm) ∧ (s.chip.rb rSTRAP 0 0 5 = false ∨ held = true ∨ s.chip.dumpPorch.2 = true ∨ s.chip.fuses.crcOk = false) :=
  ⟨(st fun c => { (rom c).wr rSTRAP 0 0 32 with fuses := { c.fuses with crc := 5 } }), false, by decide +kernel⟩
def rom3 : State := st fun c => { c with fuses := { c.fuses with crc := 0 }, boot := { c.boot with hc0 := .rom } }
theorem wit_start_and_announce_4 : ∃ (s : State) (d : Chip),
    (s.chip.alive .sys = true) ∧ (s.chip.boot.hc0 = .rom) ∧ (s.chip.pwr.pfw = false) ∧ (s.chip.rb rSTRAP 0 0 5 = true) ∧ (Chip.dumpPorch { s.chip with cyc := s.chip.cyc + 1 } = (d, false)) :=
  ⟨rom3, { rom3.chip with cyc := rom3.chip.cyc + 1 }, by decide +kernel⟩
def slots : Chip := (c0.setBytes (flashBase + slotBase 0 + 12) (natLE 4 1024)).setBytes (flashBase + slotBase 1 + 12) (natLE 4 1024)
theorem wit_start_and_announce_5 : ∃ (c : Chip) (b : Chip) (d : Chip) (e : Chip) (rolled : Bool) (l : List Byte) (m : List Byte) (a : Nat),
    (c.fuses.crcOk = true) ∧ ((c.cfg.state ≠ 1 → b = c ∧ rolled = false)) ∧ ((c.cfg.state = 1 → c.cfg.trials ≠ 0 → b = c.cfgWrite { c.cfg with trials := c.cfg.trials - 1 } ∧ rolled = false)) ∧ ((c.cfg.state = 1 → c.cfg.trials = 0 → b = (c.cfgWrite { c.cfg with active := c.cfg.prev, state := 2 }).log 0x0C 0x07 ∧ rolled = true)) ∧ (a = (if b.cfg.active = 1 then 1 else 0)) ∧ (b.slotCopy a = (d, l)) ∧ (d.slotCopy (1 - a) = (e, m)) :=
  ⟨slots, slots, (slots.slotCopy 0).1, ((slots.slotCopy 0).1.slotCopy (1 - 0)).1, false, (slots.slotCopy 0).2, ((slots.slotCopy 0).1.slotCopy (1 - 0)).2, 0, by decide +kernel⟩
theorem wit_start_and_announce_6 : ∃ (s : State) (held : Bool),
    (s.chip.alive .sys = false ∨ s.chip.boot.hc0 ≠ .rom ∨ s.chip.pwr.pfw = true) :=
  ⟨(st fw), true, by decide +kernel⟩
theorem wit_start_and_announce_7 : ∃ (s : State) (v : List Byte),
    (s.chip.firm) ∧ (s.chip.upd.state ∈ [0, 8, 9]) ∧ (s.chip.upd.cid = [] ∨ v.take 32 ≠ s.chip.upd.cid) ∧ (s.chip.upd.erasing = false) ∧ (s.chip.announcable v) ∧ (s.chip.upd.half ≤ 1) :=
  ⟨(up {}), ann, by decide +kernel⟩
theorem wit_start_and_announce_7_b : ∃ (s : State) (v : List Byte),
    (s.chip.firm) ∧ (s.chip.upd.state ∈ [0, 8, 9]) ∧ (s.chip.upd.cid = [] ∨ v.take 32 ≠ s.chip.upd.cid) ∧ (s.chip.upd.erasing = false) ∧ (s.chip.announcable v) ∧ (s.chip.upd.half ≤ 1) :=
  ⟨(up { state := 9, recs := 1008, seq := 7 }), ann, by decide +kernel⟩
theorem wit_start_and_announce_8 : ∃ (s : State) (v : List Byte),
    (s.chip.firm) ∧ (s.chip.upd.state ∈ [0, 8, 9]) ∧ (s.chip.upd.cid = [] ∨ v.take 32 ≠ s.chip.upd.cid) ∧ (s.chip.upd.erasing = true) :=
  ⟨(up { erasing := true }), ann, by decide +kernel⟩
theorem wit_start_and_announce_9 : ∃ (s : State) (v : List Byte),
    (s.chip.firm) ∧ (s.chip.upd.cid ≠ []) ∧ (v.take 32 = s.chip.upd.cid) :=
  ⟨(up pcs), ann, by decide +kernel⟩
theorem wit_start_and_announce_10 : ∃ (s : State) (v : List Byte),
    (s.chip.firm) ∧ (s.chip.upd.cid = [] ∨ v.take 32 ≠ s.chip.upd.cid) ∧ (s.chip.upd.state ∉ [0, 8, 9] ∨ (s.chip.upd.erasing = false ∧ ¬ s.chip.announcable v)) :=
  ⟨(up { state := 3, cid := [1] }), ann, by decide +kernel⟩
theorem wit_start_and_announce_10_b : ∃ (s : State) (v : List Byte),
    (s.chip.firm) ∧ (s.chip.upd.cid = [] ∨ v.take 32 ≠ s.chip.upd.cid) ∧ (s.chip.upd.state ∉ [0, 8, 9] ∨ (s.chip.upd.erasing = false ∧ ¬ s.chip.announcable v)) :=
  ⟨(up {}), [1, 2], by decide +kernel⟩
theorem wit_start_and_announce_11 : ∃ (s : State) (v : List Byte),
    (s.chip.fwRuns = false ∨ s.chip.pwr.pfw = true) :=
  ⟨(st rom), ann, by decide +kernel⟩
theorem wit_start_and_announce_12 : ∃ (s : State) (v : List Byte) (p : Fin 3) (g : Bool),
    (s.chip.dopRuns = true) ∧ (s.chip.upd.cid = [] ∨ v.take 4 ≠ s.chip.upd.cid.take 4) :=
  ⟨(upn pcs), [1, 2, 3, 4], 0, false, by decide +kernel⟩
theorem wit_start_and_announce_13 : ∃ (s : State) (v : List Byte) (p : Fin 3) (g : Bool),
    (s.chip.dopRuns = true) ∧ (s.chip.upd.cid ≠ []) ∧ (v.take 4 = s.chip.upd.cid.take 4) ∧ (s.chip.overCap p = true) :=
  ⟨(upn { pcs with rateBits := 2000000 }), (List.replicate 4 5 ++ natLE 4 2 ++ List.replicate 952 9), 0, false, by decide +kernel⟩
theorem wit_start_and_announce_14 : ∃ (s : State) (v : List Byte) (p : Fin 3) (g : Bool) (i : Nat) (d : List Byte),
    (s.chip.dopRuns = true) ∧ (s.chip.upd.cid ≠ []) ∧ (v.take 4 = s.chip.upd.cid.take 4) ∧ (s.chip.overCap p = false) ∧ (i = leNat (slice v 4 4)) ∧ (d = v.drop 8) ∧ (s.chip.upd.pieceFits i d = false ∨ s.chip.missing i = false ∨ s.chip.upd.state ≠ 1 ∨ s.chip.pwr.pfw = true) :=
  ⟨(upn pcs), (List.replicate 4 5 ++ natLE 4 2 ++ List.replicate 95 9), 0, false, 2, (List.replicate 95 9), by decide +kernel⟩
theorem wit_start_and_announce_14_b : ∃ (s : State) (v : List Byte) (p : Fin 3) (g : Bool) (i : Nat) (d : List Byte),
    (s.chip.dopRuns = true) ∧ (s.chip.upd.cid ≠ []) ∧ (v.take 4 = s.chip.upd.cid.take 4) ∧ (s.chip.overCap p = false) ∧ (i = leNat (slice v 4 4)) ∧ (d = v.drop 8) ∧ (s.chip.upd.pieceFits i d = false ∨ s.chip.missing i = false ∨ s.chip.upd.state ≠ 1 ∨ s.chip.pwr.pfw = true) :=
  ⟨(upn { pcs with state := 2 }), (List.replicate 4 5 ++ natLE 4 2 ++ List.replicate 952 9), 2, true, 2, (List.replicate 952 9), by decide +kernel⟩
theorem wit_start_and_announce_15 : ∃ (s : State) (v : List Byte) (p : Fin 3) (g : Bool) (i : Nat) (d : List Byte),
    (s.chip.dopRuns = true) ∧ (s.chip.pwr.pfw = false) ∧ (s.chip.upd.state = 1) ∧ (s.chip.upd.cid ≠ []) ∧ (v.take 4 = s.chip.upd.cid.take 4) ∧ (s.chip.overCap p = false) ∧ (i = leNat (slice v 4 4)) ∧ (d = v.drop 8) ∧ (s.chip.upd.clen ≠ 0) ∧ (s.chip.upd.clen ≤ 8257536) ∧ (s.chip.upd.pieceFits i d = true) ∧ (s.chip.missing i = true) ∧ (s.chip.upd.half ≤ 1) ∧ ((∀ n < d.length, s.chip.byte (flashBase + stagingBase + 1024 * i + n) = 0xFF)) :=
  ⟨(upn pcs), (List.replicate 4 5 ++ natLE 4 2 ++ List.replicate 952 9), 0, false, 2, (List.replicate 952 9), by decide +kernel⟩
theorem wit_start_and_announce_15_b : ∃ (s : State) (v : List Byte) (p : Fin 3) (g : Bool) (i : Nat) (d : List Byte),
    (s.chip.dopRuns = true) ∧ (s.chip.pwr.pfw = false) ∧ (s.chip.upd.state = 1) ∧ (s.chip.upd.cid ≠ []) ∧ (v.take 4 = s.chip.upd.cid.take 4) ∧ (s.chip.overCap p = false) ∧ (i = leNat (slice v 4 4)) ∧ (d = v.drop 8) ∧ (s.chip.upd.clen ≠ 0) ∧ (s.chip.upd.clen ≤ 8257536) ∧ (s.chip.upd.pieceFits i d = true) ∧ (s.chip.missing i = true) ∧ (s.chip.upd.half ≤ 1) ∧ ((∀ n < d.length, s.chip.byte (flashBase + stagingBase + 1024 * i + n) = 0xFF)) :=
  ⟨(upn { pcs with clen := 5 }), (List.replicate 4 5 ++ natLE 4 0 ++ List.replicate 5 9), 2, false, 0, (List.replicate 5 9), by decide +kernel⟩
theorem wit_start_and_announce_16 : ∃ (s : State) (v : List Byte) (p : Fin 3) (g : Bool),
    (s.chip.dopRuns = false) :=
  ⟨(st rom), [1], 0, false, by decide +kernel⟩
theorem wit_start_and_announce_17 : ∃ (s : State),
    (s.chip.firm) ∧ (s.chip.upd.erasing = true) ∧ (s.chip.upd.waiting = []) :=
  ⟨(up { erasing := true }), by decide +kernel⟩
theorem wit_start_and_announce_18 : ∃ (s : State) (v : List Byte),
    (s.chip.firm) ∧ (s.chip.upd.erasing = true) ∧ (s.chip.upd.waiting = [v]) ∧ (s.chip.upd.state ∈ [0, 8, 9]) ∧ (s.chip.upd.cid = [] ∨ v.take 32 ≠ s.chip.upd.cid) ∧ (s.chip.announcable v) ∧ (s.chip.upd.half ≤ 1) :=
  ⟨(up { erasing := true, waiting := [ann] }), ann, by decide +kernel⟩
theorem wit_start_and_announce_19 : ∃ (s : State),
    (¬ s.chip.firm ∨ s.chip.upd.erasing = false) :=
  ⟨(up {}), by decide +kernel⟩
theorem wit_start_and_announce_20 : ∃ (s : State) (e : Nat),
    (s.chip.firm) ∧ (s.chip.upd.state = 2) ∧ (s.chip.upd.half ≤ 1) ∧ (e = s.chip.verifyErr) :=
  ⟨(up { state := 2, clen := 4, cid := [1] }), 6, by decide +kernel⟩
theorem wit_start_and_announce_21 : ∃ (s : State),
    (¬ s.chip.firm ∨ s.chip.upd.state ≠ 2) :=
  ⟨(up {}), by decide +kernel⟩
theorem wit_start_and_announce_22 : ∃ (s : State) (i : Nat) (o : Nat) (out : List Byte),
    (s.chip.firm) ∧ (s.chip.upd.half ≤ 1) ∧ (i + 1 < s.chip.nchunk) ∧ (i < 384) ∧ ((s.chip.upd.state = 4 ∧ i = s.chip.upd.built) ∨ (s.chip.upd.state = 3 ∧ s.chip.buildsNow = true ∧ s.chip.verifyErr = 0 ∧ s.chip.cfg.fits ∧ i = 0)) ∧ (s.chip.runOps ((s.chip.chunk i).length + 1) (s.chip.chunk i) [] = some out) ∧ (out.length = s.chip.chunkLen i) ∧ (o = slotBase s.chip.otherSlot + 65536 * i) :=
  ⟨chk4, 0, 0x01840000, [1, 2, 3, 4], by decide +kernel⟩
def chk5 : State := { chk4 with chip := chk4.chip.setBytes (flashBase + stagingBase + 336) (natLE 4 0x20000003 ++ [1, 2, 3, 0]) }
theorem wit_start_and_announce_23 : ∃ (s : State) (i : Nat),
    (s.chip.firm) ∧ (s.chip.upd.half ≤ 1) ∧ (s.chip.upd.state = 4) ∧ (i = s.chip.upd.built) ∧ ((s.chip.runOps ((s.chip.chunk i).length + 1) (s.chip.chunk i) []).all (fun out => out.length ≠ s.chip.chunkLen i) = true) :=
  ⟨chk5, 0, by decide +kernel⟩
theorem wit_start_and_announce_24 : ∃ (s : State),
    (s.chip.firm) ∧ (s.chip.upd.half ≤ 1) ∧ (s.chip.upd.state = 3) ∧ (s.chip.buildsNow = true) ∧ (s.chip.verifyErr ≠ 0) :=
  ⟨(up { state := 3, arm := some armed }), by decide +kernel⟩
theorem wit_start_and_announce_25 : ∃ (s : State),
    (¬ s.chip.firm ∨ (s.chip.upd.state ≠ 4 ∧ (s.chip.upd.state ≠ 3 ∨ s.chip.buildsNow = false))) :=
  ⟨(up {}), by decide +kernel⟩
theorem wit_arming_trial_and_refresh_1 : ∃ (s : State) (v : List Byte) (a : Arm),
    (s.chip.firm) ∧ (s.chip.upd.half ≤ 1) ∧ (v.length = 28) ∧ (a = { mode := leNat (slice v 0 1), trials := leNat (slice v 1 1), from_ := ts80Of (slice v 4 12), until_ := ts80Of (slice v 16 12), bytes := v }) ∧ (a.mode = 1 ∨ a.mode = 2) ∧ (1 ≤ a.trials) ∧ (a.trials ≤ 7) ∧ (3 ≤ s.chip.upd.state) ∧ (s.chip.upd.state ≤ 6) :=
  ⟨(up { state := 3 }), armV, armed, by decide +kernel⟩
theorem wit_arming_trial_and_refresh_1_b : ∃ (s : State) (v : List Byte) (a : Arm),
    (s.chip.firm) ∧ (s.chip.upd.half ≤ 1) ∧ (v.length = 28) ∧ (a = { mode := leNat (slice v 0 1), trials := leNat (slice v 1 1), from_ := ts80Of (slice v 4 12), until_ := ts80Of (slice v 16 12), bytes := v }) ∧ (a.mode = 1 ∨ a.mode = 2) ∧ (1 ≤ a.trials) ∧ (a.trials ≤ 7) ∧ (3 ≤ s.chip.upd.state) ∧ (s.chip.upd.state ≤ 6) :=
  ⟨(up { state := 6 }), armV, armed, by decide +kernel⟩
theorem wit_arming_trial_and_refresh_1_c : ∃ (s : State) (v : List Byte) (a : Arm),
    (s.chip.firm) ∧ (s.chip.upd.half ≤ 1) ∧ (v.length = 28) ∧ (a = { mode := leNat (slice v 0 1), trials := leNat (slice v 1 1), from_ := ts80Of (slice v 4 12), until_ := ts80Of (slice v 16 12), bytes := v }) ∧ (a.mode = 1 ∨ a.mode = 2) ∧ (1 ≤ a.trials) ∧ (a.trials ≤ 7) ∧ (3 ≤ s.chip.upd.state) ∧ (s.chip.upd.state ≤ 6) :=
  ⟨(st fun c => { fw c with upd := { state := 5 }, time := { c.time with now := 9 } }), armV, armed, by decide +kernel⟩
theorem wit_arming_trial_and_refresh_1_d : ∃ (s : State) (v : List Byte) (a : Arm),
    (s.chip.firm) ∧ (s.chip.upd.half ≤ 1) ∧ (v.length = 28) ∧ (a = { mode := leNat (slice v 0 1), trials := leNat (slice v 1 1), from_ := ts80Of (slice v 4 12), until_ := ts80Of (slice v 16 12), bytes := v }) ∧ (a.mode = 1 ∨ a.mode = 2) ∧ (1 ≤ a.trials) ∧ (a.trials ≤ 7) ∧ (3 ≤ s.chip.upd.state) ∧ (s.chip.upd.state ≤ 6) :=
  ⟨(st fun c => { fw c with upd := { state := 6 }, time := { c.time with now := 9 } }), armV, armed, by decide +kernel⟩
theorem wit_arming_trial_and_refresh_2 : ∃ (s : State) (v : List Byte) (m : Nat) (n : Nat),
    (s.chip.firm) ∧ (m = leNat (slice v 0 1)) ∧ (n = leNat (slice v 1 1)) ∧ (s.chip.upd.state < 3 ∨ 6 < s.chip.upd.state ∨ v.length ≠ 28 ∨ (m ≠ 1 ∧ m ≠ 2) ∨ n = 0 ∨ 7 < n) :=
  ⟨(up { state := 3 }), [5], 5, 0, by decide +kernel⟩
theorem wit_arming_trial_and_refresh_2_b : ∃ (s : State) (v : List Byte) (m : Nat) (n : Nat),
    (s.chip.firm) ∧ (m = leNat (slice v 0 1)) ∧ (n = leNat (slice v 1 1)) ∧ (s.chip.upd.state < 3 ∨ 6 < s.chip.upd.state ∨ v.length ≠ 28 ∨ (m ≠ 1 ∧ m ≠ 2) ∨ n = 0 ∨ 7 < n) :=
  ⟨(up { state := 2 }), armV, 1, 3, by decide +kernel⟩
theorem wit_arming_trial_and_refresh_3 : ∃ (s : State) (v : List Byte),
    (¬ s.chip.firm) :=
  ⟨(st pwf), armV, by decide +kernel⟩
theorem wit_arming_trial_and_refresh_4 : ∃ (s : State),
    (¬ s.chip.firm ∨ s.chip.activates = false) :=
  ⟨(up {}), by decide +kernel⟩
theorem wit_arming_trial_and_refresh_5 : ∃ (s : State) (a : Arm),
    (s.chip.firm) ∧ (s.chip.upd.state = 6) ∧ (s.chip.upd.arm = some a) ∧ ((a.mode = 1 ∧ a.from_ ≤ s.chip.now) ∨ (a.mode ≠ 1 ∧ s.chip.upd.rose = true)) ∧ (s.chip.pairState ≠ 4 ∨ s.chip.rf rCDR_STATUS 0 0 5 3 ≠ 3) ∧ (a.trials < 256) ∧ (s.chip.cfg.fits) ∧ (s.chip.runSlot < 256) :=
  ⟨(up { state := 6, arm := some armed }), armed, by decide +kernel⟩
theorem wit_arming_trial_and_refresh_6 : ∃ (s : State) (a : Arm),
    (s.chip.fwRuns = true) ∧ (s.chip.upd.arm = some a) ∧ (s.chip.upd.state = 6) ∧ (a.mode = 2) ∧ (a.until_ < s.chip.now) ∧ (s.chip.upd.rose = false) ∧ (s.chip.upd.expired = false) :=
  ⟨(st fun c => { fw c with upd := { state := 6, arm := some { armed with mode := 2 } }, time := { c.time with now := 9 } }), { armed with mode := 2 }, by decide +kernel⟩
theorem wit_arming_trial_and_refresh_7 : ∃ (s : State),
    (s.chip.fwRuns = false ∨ s.chip.upd.state ≠ 6 ∨ s.chip.upd.rose = true ∨ s.chip.upd.expired = true ∨ s.chip.upd.arm.all (fun a => a.mode ≠ 2 || s.chip.now ≤ a.until_) = true) :=
  ⟨(st), by decide +kernel⟩
theorem wit_arming_trial_and_refresh_8 : ∃ (s : State),
    (s.chip.firm) ∧ (s.chip.upd.half ≤ 1) ∧ (s.chip.upd.state ≠ 0) ∧ (s.chip.upd.state ≠ 7) :=
  ⟨(up { pcs with state := 4, arm := some armed }), by decide +kernel⟩
theorem wit_arming_trial_and_refresh_9 : ∃ (s : State) (i : Instr) (k : Nat) (b : Bool),
    ((i = .updAbort ∧ k = 1 ∧ b = true) ∨ (i = .updConfirm ∧ k = 2 ∧ b = false) ∨ (i = .updRollback ∧ k = 3 ∧ b = false)) ∧ (s.chip.firm) ∧ ((b = true ∧ (s.chip.upd.state = 0 ∨ s.chip.upd.state = 7)) ∨ (b = false ∧ s.chip.upd.state ≠ 7)) :=
  ⟨(up {}), .updAbort, 1, true, by decide +kernel⟩
theorem wit_arming_trial_and_refresh_9_b : ∃ (s : State) (i : Instr) (k : Nat) (b : Bool),
    ((i = .updAbort ∧ k = 1 ∧ b = true) ∨ (i = .updConfirm ∧ k = 2 ∧ b = false) ∨ (i = .updRollback ∧ k = 3 ∧ b = false)) ∧ (s.chip.firm) ∧ ((b = true ∧ (s.chip.upd.state = 0 ∨ s.chip.upd.state = 7)) ∨ (b = false ∧ s.chip.upd.state ≠ 7)) :=
  ⟨(up { state := 7 }), .updAbort, 1, true, by decide +kernel⟩
theorem wit_arming_trial_and_refresh_9_c : ∃ (s : State) (i : Instr) (k : Nat) (b : Bool),
    ((i = .updAbort ∧ k = 1 ∧ b = true) ∨ (i = .updConfirm ∧ k = 2 ∧ b = false) ∨ (i = .updRollback ∧ k = 3 ∧ b = false)) ∧ (s.chip.firm) ∧ ((b = true ∧ (s.chip.upd.state = 0 ∨ s.chip.upd.state = 7)) ∨ (b = false ∧ s.chip.upd.state ≠ 7)) :=
  ⟨(up {}), .updRollback, 3, false, by decide +kernel⟩
theorem wit_arming_trial_and_refresh_10 : ∃ (s : State) (i : Instr) (k : Nat),
    ((i, k) ∈ [(.updAbort, 1), (.updConfirm, 2), (.updRollback, 3), (.refreshNow, 4)]) ∧ (s.chip.fwRuns = true) ∧ (s.chip.pwr.pfw = true ∨ (k = 4 ∧ s.chip.mayRefresh = false)) :=
  ⟨(st fun c => pwf (fw c)), .updConfirm, 2, by decide +kernel⟩
theorem wit_arming_trial_and_refresh_10_b : ∃ (s : State) (i : Instr) (k : Nat),
    ((i, k) ∈ [(.updAbort, 1), (.updConfirm, 2), (.updRollback, 3), (.refreshNow, 4)]) ∧ (s.chip.fwRuns = true) ∧ (s.chip.pwr.pfw = true ∨ (k = 4 ∧ s.chip.mayRefresh = false)) :=
  ⟨(up { state := 7 }), .refreshNow, 4, by decide +kernel⟩
theorem wit_arming_trial_and_refresh_11 : ∃ (s : State) (i : Instr),
    (i ∈ [.updAbort, .updConfirm, .updRollback, .refreshNow, .autoConfirm]) ∧ (s.chip.fwRuns = false) :=
  ⟨(st rom), .updConfirm, by decide +kernel⟩
theorem wit_arming_trial_and_refresh_12 : ∃ (s : State) (i : Instr) (k : Nat),
    ((i = .updConfirm ∧ k = 2) ∨ (i = .autoConfirm ∧ k = s.chip.upd.cmd ∧ s.chip.rb rRAS_STATUS 0 0 0 = true ∧ s.chip.objNat 0xA020 2 600 ≠ 0)) ∧ (s.chip.firm) ∧ (s.chip.upd.state = 7) ∧ (s.chip.upd.half ≤ 1) ∧ (s.chip.cfg.fits) :=
  ⟨(up { state := 7 }), .updConfirm, 2, by decide +kernel⟩
theorem wit_arming_trial_and_refresh_12_b : ∃ (s : State) (i : Instr) (k : Nat),
    ((i = .updConfirm ∧ k = 2) ∨ (i = .autoConfirm ∧ k = s.chip.upd.cmd ∧ s.chip.rb rRAS_STATUS 0 0 0 = true ∧ s.chip.objNat 0xA020 2 600 ≠ 0)) ∧ (s.chip.firm) ∧ (s.chip.upd.state = 7) ∧ (s.chip.upd.half ≤ 1) ∧ (s.chip.cfg.fits) :=
  ⟨(st fun c => { (fw c).wr rRAS_STATUS 0 0 1 with upd := { state := 7 } }), .autoConfirm, 0, by decide +kernel⟩
theorem wit_arming_trial_and_refresh_13 : ∃ (s : State),
    (s.chip.pwr.pfw = true ∨ s.chip.upd.state ≠ 7 ∨ s.chip.rb rRAS_STATUS 0 0 0 = false ∨ s.chip.objNat 0xA020 2 600 = 0) :=
  ⟨(up {}), by decide +kernel⟩
theorem wit_arming_trial_and_refresh_14 : ∃ (s : State),
    (s.chip.firm) ∧ (s.chip.upd.state = 7) ∧ (s.chip.cfg.fits) :=
  ⟨(up { state := 7 }), by decide +kernel⟩
def rfr : Chip → Chip := fun c => { ((fw c).wr rRUNSLOT 0 0 0).setBytes (flashBase + slotBase 0) (natLE 4 0x444C494D ++ [1, 0, 1, 0] ++ natLE 4 7 ++ natLE 4 1024) with time := { c.time with servo := { c.time.servo with fromFreerun := false } } }
theorem wit_arming_trial_and_refresh_15 : ∃ (s : State) (i : Instr) (k : Nat) (o : Nat) (r : Nat) (n : Nat),
    ((i = .refreshNow ∧ k = 4) ∨ (i = .updRefresh 0 ∧ k = s.chip.upd.cmd ∧ s.chip.refreshDue = true)) ∧ (s.chip.fwRuns = true) ∧ (s.chip.mayRefresh = true) ∧ (s.chip.cfg.fits) ∧ (s.chip.ptpSec < 2 ^ 64) ∧ (r = flashBase + slotBase s.chip.runSlot) ∧ (o = flashBase + slotBase s.chip.otherSlot) ∧ (n = 65536 * min 384 ((imgLen (s.chip.bytes r 1024) + 65535) / 65536)) :=
  ⟨(st rfr), .refreshNow, 4, (flashBase + 0x01840000), (flashBase + 0x40000), 65536, by and_intros <;> first | with_reducible rfl | decide +kernel | rfl⟩
def rfr2 : Chip → Chip := fun c => { (rfr c).cfgWrite { wrtA := 1 } with time := { (rfr c).time with now := 200000000 * 1000000000 } }
theorem wit_arming_trial_and_refresh_15_b : ∃ (s : State) (i : Instr) (k : Nat) (o : Nat) (r : Nat) (n : Nat),
    ((i = .refreshNow ∧ k = 4) ∨ (i = .updRefresh 0 ∧ k = s.chip.upd.cmd ∧ s.chip.refreshDue = true)) ∧ (s.chip.fwRuns = true) ∧ (s.chip.mayRefresh = true) ∧ (s.chip.cfg.fits) ∧ (s.chip.ptpSec < 2 ^ 64) ∧ (r = flashBase + slotBase s.chip.runSlot) ∧ (o = flashBase + slotBase s.chip.otherSlot) ∧ (n = 65536 * min 384 ((imgLen (s.chip.bytes r 1024) + 65535) / 65536)) :=
  ⟨(st rfr2), (.updRefresh 0), 0, (flashBase + 0x01840000), (flashBase + 0x40000), 65536, by and_intros <;> first | with_reducible rfl | decide +kernel | rfl⟩
theorem wit_arming_trial_and_refresh_16 : ∃ (s : State),
    (s.chip.fwRuns = true) ∧ (s.chip.mayRefresh = true) ∧ (s.chip.dop.half ≤ 1) :=
  ⟨(st rfr), by decide +kernel⟩
theorem wit_arming_trial_and_refresh_17 : ∃ (s : State),
    (s.chip.fwRuns = true) ∧ (s.chip.mayRefresh = true) ∧ (s.chip.vlt.area ≤ 1) :=
  ⟨(st rfr), by decide +kernel⟩
theorem wit_arming_trial_and_refresh_18 : ∃ (s : State) (w : Fin 3),
    (s.chip.fwRuns = false ∨ s.chip.mayRefresh = false ∨ (w = 0 ∧ s.chip.refreshDue = false)) :=
  ⟨(st), 1, by decide +kernel⟩

end Sys2Proof.Tests.WitnessR
end

