-- ==== Sys2Proof/Tests/WitnessS.lean ====
section
/-! SUPPORT. States and operands that meet the hypotheses of the statements, part S. -/

namespace Sys2Proof.Tests.WitnessS

open Sys2Proof Sys2Proof.Machine Sys2Proof.Tests

set_option maxRecDepth 100000
set_option Elab.async false
set_option linter.unusedVariables false
set_option linter.unreachableTactic false
set_option linter.unusedTactic false

def rep (c t k : Nat) : Rep := { code := c, detail := 5, t := t, cyc := k }
def eq (l : List (Nat × List Rep)) (o : List (Nat × Option OpenEnt)) : Chip → Chip := fun c => { c with err := { queues := l, opens := o } }
theorem wit_error_log_1 : ∃ (s : State) (src : Fin 70) (code : BitVec 8) (detail : Word),
    (s.chip.alive .sys = true) ∧ (s.chip.rb rERR_CTRL 0 0 0 = true) ∧ ((mget [] s.chip.err.queues src).length < 4) :=
  ⟨(st), 3, 7, 9, by decide +kernel⟩
theorem wit_error_log_2 : ∃ (s : State) (src : Fin 70) (code : BitVec 8) (detail : Word),
    (s.chip.alive .sys = false ∨ s.chip.rb rERR_CTRL 0 0 0 = false) :=
  ⟨(st fun c => { c with pwr := { c.pwr with phase := .rails } }), 3, 7, 9, by decide +kernel⟩
theorem wit_error_log_2_b : ∃ (s : State) (src : Fin 70) (code : BitVec 8) (detail : Word),
    (s.chip.alive .sys = false ∨ s.chip.rb rERR_CTRL 0 0 0 = false) :=
  ⟨(st fun c => c.wr rERR_CTRL 0 0 6), 3, 7, 9, by decide +kernel⟩
theorem wit_error_log_3 : ∃ (s : State) (src : Fin 70) (code : BitVec 8) (detail : Word),
    (s.chip.alive .sys = true) ∧ (s.chip.rb rERR_CTRL 0 0 0 = true) ∧ (4 ≤ (mget [] s.chip.err.queues src).length) :=
  ⟨(st (eq [(3, [rep 1 1 1, rep 1 1 1, rep 1 1 1, rep 1 1 1])] [])), 3, 7, 9, by decide +kernel⟩
theorem wit_error_log_4 : ∃ (l : List (Nat × Rep)) (p : Nat × Rep),
    (firstHead l = some p) :=
  ⟨[(1, rep 1 2 5), (3, rep 1 2 3), (4, rep 1 2 3)], (3, rep 1 2 3), by decide +kernel⟩
theorem wit_error_log_5 : ∃ (s : State) (src : Nat) (r : Rep) (e : OpenEnt),
    (s.chip.alive .sys = true) ∧ (firstHead s.chip.errHeads = some (src, r)) ∧ (mget none s.chip.err.opens src = some e) ∧ (e.code = r.code ∧ r.t < e.t + 1000000 ∧ (s.chip.rd rERR_SEQ - BitVec.ofNat 32 e.seq).toNat ≤ 256) :=
  ⟨(st fun c => eq [(1, [rep 1 2 5]), (3, [rep 1 999999 3, rep 2 2 4])] [(3, some ⟨7, 1, 0, 65535⟩)] (c.wr rERR_SEQ 0 0 263)), 3, (rep 1 999999 3), ⟨7, 1, 0, 65535⟩, by decide +kernel⟩
theorem wit_error_log_6 : ∃ (s : State) (src : Nat) (r : Rep) (q : Nat),
    (s.chip.alive .sys = true) ∧ (firstHead s.chip.errHeads = some (src, r)) ∧ (q = (s.chip.rd rERR_SEQ).toNat) ∧ ((∀ e ∈ mget none s.chip.err.opens src, ¬(e.code = r.code ∧ r.t < e.t + 1000000 ∧ (s.chip.rd rERR_SEQ - BitVec.ofNat 32 e.seq).toNat ≤ 256))) :=
  ⟨(st fun c => eq [(1, [rep 1 2 5]), (3, [rep 1 1000000 3, rep 2 2 4])] [(3, some ⟨7, 1, 0, 65535⟩)] (c.wr rERR_SEQ 0 0 263)), 3, (rep 1 1000000 3), 263, by decide +kernel⟩
theorem wit_error_log_6_b : ∃ (s : State) (src : Nat) (r : Rep) (q : Nat),
    (s.chip.alive .sys = true) ∧ (firstHead s.chip.errHeads = some (src, r)) ∧ (q = (s.chip.rd rERR_SEQ).toNat) ∧ ((∀ e ∈ mget none s.chip.err.opens src, ¬(e.code = r.code ∧ r.t < e.t + 1000000 ∧ (s.chip.rd rERR_SEQ - BitVec.ofNat 32 e.seq).toNat ≤ 256))) :=
  ⟨(st fun c => eq [(3, [rep 1 1000000 3, rep 2 2 4])] [] (c.wr rERR_SEQ 0 0 255)), 3, (rep 1 1000000 3), 255, by decide +kernel⟩
theorem wit_error_log_7 : ∃ (s : State),
    (s.chip.alive .sys = false ∨ firstHead s.chip.errHeads = none) :=
  ⟨(st), by decide +kernel⟩
theorem wit_error_log_8 : ∃ (s : State) (a : Access) (v : Word),
    (s.chip.takes a rERR_RDSEQ 0 0 v) :=
  ⟨(st), hc, 5, by decide +kernel⟩
def ua (x : Uart) : State := st fun c => { c with uarts := [(1, x)] }
theorem wit_uarts_debugger_and_dump_1 : ∃ (s : State) (n : Fin 2) (b : Byte) (g : Bool),
    (s.chip.alive .slow = true) ∧ (s.chip.rb rUART_CTRL n 0 0 = true) ∧ ((s.chip.uart n).rx.length < 256) :=
  ⟨(ua { rx := [1] }), 1, 7, true, by decide +kernel⟩
theorem wit_uarts_debugger_and_dump_2 : ∃ (s : State) (n : Fin 2) (b : Byte) (g : Bool),
    (s.chip.alive .slow = true) ∧ (s.chip.rb rUART_CTRL n 0 0 = true) ∧ (256 ≤ (s.chip.uart n).rx.length) :=
  ⟨(ua { rx := List.replicate 256 3 }), 1, 7, true, by decide +kernel⟩
theorem wit_uarts_debugger_and_dump_3 : ∃ (s : State) (n : Fin 2) (b : Byte) (t : List Byte),
    (s.chip.alive .slow = true) ∧ (s.chip.rb rUART_CTRL n 0 0 = true) ∧ ((s.chip.uart n).tx = b :: t) :=
  ⟨(ua { tx := [1, 2] }), 1, 1, [2], by decide +kernel⟩
theorem wit_uarts_debugger_and_dump_4 : ∃ (s : State) (n : Fin 2),
    (s.chip.alive .slow = true) ∧ (s.chip.rb rUART_CTRL n 0 0 = true) :=
  ⟨(st), 1, by decide +kernel⟩
theorem wit_uarts_debugger_and_dump_6 : ∃ (s : State) (n : Fin 2),
    ((s.chip.uart n).tx = []) :=
  ⟨(st), 1, by decide +kernel⟩
theorem wit_uarts_debugger_and_dump_5 : ∃ (s : State) (n : Fin 2) (b : Byte) (g : Bool),
    (s.chip.alive .slow = false ∨ s.chip.rb rUART_CTRL n 0 0 = false) :=
  ⟨(st fun c => c.wr rUART_CTRL 1 0 0), 1, 7, true, by decide +kernel⟩
theorem wit_uarts_debugger_and_dump_7 : ∃ (s : State),
    (s.chip.pwr.phase = .running) :=
  ⟨(st), by decide +kernel⟩
def celOn : Chip → Chip := fun c => { (c.wr rCEL_CTRL 0 0 0x100F) with cel := { c.cel with serving := true } }
def down : State := st fun c => { c with pwr := { c.pwr with phase := .rails } }
theorem wit_uarts_debugger_and_dump_8 : ∃ (s : State) (who : Fin 3) (cause : Word) (cores : List Byte) (nc : List Byte) (fw : List Byte) (a : Nat) (q : Nat),
    (s.chip.pwr.phase = .running) ∧ (s.chip.celCalm) ∧ (a = (match s.chip.newestDump.2 with | some b => 1 - b.1 | none => 0)) ∧ (q = (match s.chip.newestDump.2 with | some b => dumpSeq b.2 + 1 | none => 1)) :=
  ⟨(st celOn), 1, 0x43F90005, [1, 2, 3], [4, 5, 6], [7, 8, 9], 0, 1, by decide +kernel⟩
theorem wit_uarts_debugger_and_dump_8_b : ∃ (s : State) (who : Fin 3) (cause : Word) (cores : List Byte) (nc : List Byte) (fw : List Byte) (a : Nat) (q : Nat),
    (s.chip.pwr.phase = .running) ∧ (s.chip.celCalm) ∧ (a = (match s.chip.newestDump.2 with | some b => 1 - b.1 | none => 0)) ∧ (q = (match s.chip.newestDump.2 with | some b => dumpSeq b.2 + 1 | none => 1)) :=
  ⟨(st fun c => { celOn c with pwr := { c.pwr with pfw := true } }), 1, 0x43F90005, [1, 2, 3], [4, 5, 6], [7, 8, 9], 0, 1, by decide +kernel⟩
theorem wit_uarts_debugger_and_dump_9 : ∃ (s : State) (who : Fin 3) (cause : Word) (cores : List Byte) (nc : List Byte) (fw : List Byte),
    (s.chip.pwr.phase = .running) :=
  ⟨(st), 1, 0x43F90005, [1], [4], [7], by decide +kernel⟩
theorem wit_uarts_debugger_and_dump_9_b : ∃ (s : State) (who : Fin 3) (cause : Word) (cores : List Byte) (nc : List Byte) (fw : List Byte),
    (s.chip.pwr.phase = .running) :=
  ⟨(st fun c => { celOn c with pwr := { c.pwr with pfw := true } }), 1, 0x43F90005, [1], [4], [7], by decide +kernel⟩
theorem wit_uarts_debugger_and_dump_9_c : ∃ (s : State) (who : Fin 3) (cause : Word) (cores : List Byte) (nc : List Byte) (fw : List Byte),
    (s.chip.pwr.phase = .running) :=
  ⟨(st fun c => { c with pwr := { c.pwr with pfw := true } }), 1, 0x43F90005, [1], [4], [7], by decide +kernel⟩
theorem wit_uarts_debugger_and_dump_10 : ∃ (s : State) (who : Fin 3) (cause : Word) (cores : List Byte) (nc : List Byte) (fw : List Byte),
    (s.chip.pwr.phase = .running) ∧ (s.chip.celUp = false) :=
  ⟨(st), 1, 0x43F90005, [1], [4], [7], by decide +kernel⟩
theorem wit_uarts_debugger_and_dump_11 : ∃ (s : State) (who : Fin 3) (cause : Word) (cores : List Byte) (nc : List Byte) (fw : List Byte) (i : Instr),
    (s.chip.pwr.phase ≠ .running) ∧ (i = .dbgAttach ∨ i = .fatalDump who cause cores nc fw) :=
  ⟨down, 1, 0x43F90005, [1], [4], [7], .dbgAttach, by decide +kernel⟩

end Sys2Proof.Tests.WitnessS
end

