-- ==== Sys2Proof/Tests/WitnessT.lean ====
section
/-! SUPPORT. States and operands that meet the hypotheses of the statements, part T. -/

namespace Sys2Proof.Tests.WitnessT

open Sys2Proof Sys2Proof.Machine Sys2Proof.Tests

set_option maxRecDepth 100000
set_option Elab.async false
set_option linter.unusedVariables false
set_option linter.unreachableTactic false
set_option linter.unusedTactic false

def po : Chip → Chip := fun c => { c with boot := { c.boot with hc0 := .porch } }
def pst (f : Chip → Chip := id) : State := st fun c => f (po c)
/-- DEPLOYED: only the read-only set. -/
def dep : Chip → Chip := fun c => { c with fuses := { c.fuses with p := 7, d := 7 } }
def badCrc : Chip → Chip := fun c => { c with fuses := { c.fuses with crc := 0 } }
def ld (x : PorchLoad) : State := pst fun c => { c with boot := { c.boot with load := some x } }
def celOn : Chip → Chip := fun c => { (c.wr rCEL_CTRL 0 0 0x100F) with cel := { c.cel with serving := true } }
def slot2 (k : Nat) : Chip → Chip := fun c => (c.wr (rATTR0 k) 0 0 0xFFFFBFF0 |>.wf (rATTR0 k) 0 0 15 14 2).setKeySlot k { key := some (List.replicate 32 7), seq := 0 }
def ch (k : Nat) : State := pst fun c => { (slot2 k c) with vlt := { (slot2 k c).vlt with nonces := [(0, some [1])] } }
theorem wit_porch_reads_1 : ∃ (s : State) (rate : BitVec 32),
    (s.chip.inPorch) ∧ (9600 ≤ rate.toNat) ∧ (rate.toNat ≤ 3000000) :=
  ⟨(pst), 9600, by decide +kernel⟩
theorem wit_porch_reads_1_b : ∃ (s : State) (rate : BitVec 32),
    (s.chip.inPorch) ∧ (9600 ≤ rate.toNat) ∧ (rate.toNat ≤ 3000000) :=
  ⟨(pst), 3000000, by decide +kernel⟩
theorem wit_porch_reads_2 : ∃ (s : State) (rate : BitVec 32),
    (s.chip.inPorch) ∧ (rate.toNat < 9600 ∨ 3000000 < rate.toNat) :=
  ⟨(pst), 9599, by decide +kernel⟩
theorem wit_porch_reads_2_b : ∃ (s : State) (rate : BitVec 32),
    (s.chip.inPorch) ∧ (rate.toNat < 9600 ∨ 3000000 < rate.toNat) :=
  ⟨(pst), 3000001, by decide +kernel⟩
theorem wit_porch_reads_3 : ∃ (s : State),
    (s.chip.inPorch) :=
  ⟨(pst), by decide +kernel⟩
theorem wit_porch_reads_4 : ∃ (s : State),
    (s.chip.inPorch) :=
  ⟨(pst), by decide +kernel⟩
theorem wit_porch_reads_5 : ∃ (s : State),
    (s.chip.inPorch) :=
  ⟨(pst), by decide +kernel⟩
theorem wit_porch_reads_6 : ∃ (s : State) (addr : Addr) (d : Chip),
    (s.chip.inPorch) ∧ (d = (s.chip.echoed [ascii "PEEK", hexNat addr.toNat]).busRead porchAccess addr) :=
  ⟨(pst), 0x01050000, (((pst).chip.echoed [ascii "PEEK", hexNat 0x01050000]).busRead porchAccess 0x01050000), by decide +kernel, rfl⟩
theorem wit_porch_reads_6_b : ∃ (s : State) (addr : Addr) (d : Chip),
    (s.chip.inPorch) ∧ (d = (s.chip.echoed [ascii "PEEK", hexNat addr.toNat]).busRead porchAccess addr) :=
  ⟨(pst), 0x03050000, (((pst).chip.echoed [ascii "PEEK", hexNat 0x03050000]).busRead porchAccess 0x03050000), by decide +kernel, rfl⟩
theorem wit_porch_reads_7 : ∃ (s : State) (addr : Addr) (n : BitVec 32),
    (s.chip.inPorch) ∧ (n.toNat = 0 ∨ 65536 < n.toNat) :=
  ⟨(pst), 0x03050000, 0, by decide +kernel⟩
theorem wit_porch_reads_7_b : ∃ (s : State) (addr : Addr) (n : BitVec 32),
    (s.chip.inPorch) ∧ (n.toNat = 0 ∨ 65536 < n.toNat) :=
  ⟨(pst), 0x03050000, 65537, by decide +kernel⟩
theorem wit_porch_reads_8 : ∃ (s : State) (addr : Addr) (n : BitVec 32) (l : List Byte),
    (s.chip.inPorch) ∧ (1 ≤ n.toNat) ∧ (n.toNat ≤ 65536) ∧ (0x01000000 ≤ addr.toNat) ∧ (addr.toNat + n.toNat ≤ 0x01100000) ∧ (s.chip.gateOpen = true ∨ 0x01040000 ≤ addr.toNat) ∧ (s.chip.sram.errs = []) ∧ (l = s.chip.bytes addr.toNat n.toNat) :=
  ⟨(pst fun c => c.setBytes 0x01050000 [1, 2, 3, 4, 5, 6]), 0x01050001, 21, ((pst fun c => c.setBytes 0x01050000 [1, 2, 3, 4, 5, 6]).chip.bytes 0x01050001 21), by and_intros <;> first | with_reducible rfl | decide +kernel | rfl⟩
theorem wit_porch_reads_8_b : ∃ (s : State) (addr : Addr) (n : BitVec 32) (l : List Byte),
    (s.chip.inPorch) ∧ (1 ≤ n.toNat) ∧ (n.toNat ≤ 65536) ∧ (0x01000000 ≤ addr.toNat) ∧ (addr.toNat + n.toNat ≤ 0x01100000) ∧ (s.chip.gateOpen = true ∨ 0x01040000 ≤ addr.toNat) ∧ (s.chip.sram.errs = []) ∧ (l = s.chip.bytes addr.toNat n.toNat) :=
  ⟨(pst), 0x010FFFFE, 2, ((pst).chip.bytes 0x010FFFFE 2), by and_intros <;> first | with_reducible rfl | decide +kernel | rfl⟩
def rds (a n : Nat) : Chip × Option (List Byte) := ((pst).chip.echoed [ascii "DUMP", hexNat a, hexNat n]).porchReads (a / 4 * 4) ((a + n + 3) / 4 - a / 4)
theorem wit_porch_reads_9 : ∃ (s : State) (addr : Addr) (n : BitVec 32) (a : Nat) (d : Chip × Option (List Byte)),
    (s.chip.inPorch) ∧ (1 ≤ n.toNat) ∧ (n.toNat ≤ 65536) ∧ (a = addr.toNat) ∧ (d = (s.chip.echoed [ascii "DUMP", hexNat a, hexNat n.toNat]).porchReads (a / 4 * 4) ((a + n.toNat + 3) / 4 - a / 4)) :=
  ⟨(pst), 0x03050000, 1, 0x03050000, (rds 0x03050000 1), by decide +kernel⟩
theorem wit_porch_reads_9_b : ∃ (s : State) (addr : Addr) (n : BitVec 32) (a : Nat) (d : Chip × Option (List Byte)),
    (s.chip.inPorch) ∧ (1 ≤ n.toNat) ∧ (n.toNat ≤ 65536) ∧ (a = addr.toNat) ∧ (d = (s.chip.echoed [ascii "DUMP", hexNat a, hexNat n.toNat]).porchReads (a / 4 * 4) ((a + n.toNat + 3) / 4 - a / 4)) :=
  ⟨(pst), 0x20000003, 18, 0x20000003, (rds 0x20000003 18), by decide +kernel⟩
theorem wit_porch_reads_10 : ∃ (s : State) (addr : Addr) (n : BitVec 32) (m : Nat),
    (s.chip.inPorch) ∧ (1 ≤ n.toNat) ∧ (n.toNat ≤ 65536) ∧ (s.chip.refusal porchAccess (wordAddr addr) = some m) :=
  ⟨(pst), 0x03050000, 1, 0, by decide +kernel⟩
theorem wit_porch_reads_11 : ∃ (s : State) (i : Fin 2) (l : List Byte),
    (s.chip.inPorch) ∧ (s.chip.celCalm) ∧ (l = (s.chip.dumpBytes i).2) :=
  ⟨(pst celOn), 0, [], by decide +kernel⟩
def atr (s : State) (i : Nat) : Chip × List Byte × Bool := (s.chip.echoed [ascii "ATTIC", hexNat i]).dumpRead i
theorem wit_porch_reads_12 : ∃ (s : State) (i : Fin 2) (x : Chip × List Byte × Bool) (y : Chip × List Byte),
    (s.chip.inPorch) ∧ (x = (s.chip.echoed [ascii "ATTIC", hexNat i]).dumpRead i) ∧ (y = (x.1.line (ascii (if x.2.2 = true then "VALID" else "INVALID"))).dumpBytes i) :=
  ⟨(pst), 1, (atr pst 1), (((atr pst 1).1.line (ascii "INVALID")).dumpBytes 1), by decide +kernel, by decide +kernel, rfl⟩
theorem wit_porch_reads_13 : ∃ (s : State) (addr : Addr) (n : BitVec 32) (a : Fin 2),
    (¬ s.chip.inPorch) :=
  ⟨(st), 0x03050000, 1, 1, by decide +kernel⟩
theorem wit_porch_reads_13_b : ∃ (s : State) (addr : Addr) (n : BitVec 32) (a : Fin 2),
    (¬ s.chip.inPorch) :=
  ⟨(ld { addr := none, want := 50 }), 0x03050000, 10000, 1, by decide +kernel⟩
theorem wit_porch_writes_1 : ∃ (s : State) (addr : Addr) (n : BitVec 32) (v : Word) (b : Byte),
    (s.chip.inPorch) ∧ (s.chip.porchFull = false) :=
  ⟨(pst dep), 0x01050000, 4, 5, 1, by decide +kernel⟩
theorem wit_porch_writes_2 : ∃ (s : State) (addr : Addr) (v : Word) (d : Chip),
    (s.chip.inPorch) ∧ (s.chip.porchFull = true) ∧ (d = (s.chip.echoed [ascii "POKE", hexNat addr.toNat, hexNat v.toNat]).busWrite porchAccess addr v) :=
  ⟨(pst), 0x01050000, 7, (((pst).chip.echoed [ascii "POKE", hexNat 0x01050000, hexNat 7]).busWrite porchAccess 0x01050000 7), by decide +kernel, by decide +kernel, rfl⟩
theorem wit_porch_writes_2_b : ∃ (s : State) (addr : Addr) (v : Word) (d : Chip),
    (s.chip.inPorch) ∧ (s.chip.porchFull = true) ∧ (d = (s.chip.echoed [ascii "POKE", hexNat addr.toNat, hexNat v.toNat]).busWrite porchAccess addr v) :=
  ⟨(pst), 0x03050000, 7, (((pst).chip.echoed [ascii "POKE", hexNat 0x03050000, hexNat 7]).busWrite porchAccess 0x03050000 7), by decide +kernel, by decide +kernel, rfl⟩
theorem wit_porch_writes_3 : ∃ (s : State) (addr : Addr) (n : BitVec 32) (v : Word),
    (s.chip.inPorch) ∧ (s.chip.porchFull = true) ∧ (n.toNat % 4 ≠ 0) :=
  ⟨(pst), 0x01050000, 6, 5, by decide +kernel⟩
theorem wit_porch_writes_4 : ∃ (s : State) (addr : Addr) (n : BitVec 32) (v : Word),
    (s.chip.inPorch) ∧ (s.chip.porchFull = true) ∧ (n.toNat % 4 = 0) ∧ (addr.toNat % 4 = 0) ∧ (0x01000000 ≤ addr.toNat) ∧ (addr.toNat + n.toNat ≤ 0x01100000) ∧ (s.chip.gateOpen = true ∨ 0x01040000 ≤ addr.toNat) :=
  ⟨(pst), 0x01050000, 8, 5, by decide +kernel⟩
theorem wit_porch_writes_5 : ∃ (s : State) (addr : Addr) (n : BitVec 32) (v : Word) (d : Chip × PorchEnd),
    (s.chip.inPorch) ∧ (s.chip.porchFull = true) ∧ (n.toNat % 4 = 0) ∧ (d = (s.chip.echoed [ascii "FILL", hexNat addr.toNat, hexNat n.toNat, hexNat v.toNat]).porchFills addr.toNat v (n.toNat / 4)) :=
  ⟨(pst), 0x03050000, 8, 5, (((pst).chip.echoed [ascii "FILL", hexNat 0x03050000, hexNat 8, hexNat 5]).porchFills 0x03050000 5 2), by decide +kernel, by decide +kernel, by decide +kernel, rfl⟩
theorem wit_porch_writes_6 : ∃ (s : State),
    (s.chip.inPorch) ∧ (s.chip.porchFull = true) ∧ (s.chip.celCalm) :=
  ⟨(pst celOn), by decide +kernel⟩
theorem wit_porch_writes_7 : ∃ (s : State) (b : Byte) (d : Chip),
    (s.chip.inPorch) ∧ (s.chip.porchFull = true) ∧ (d = (s.chip.echoed [ascii "LIFE", hexNat b.toNat]).busWrite porchAccess (BitVec.ofNat 32 rLC_REQ.base) (BitVec.ofNat 32 (0x4C435400 + b.toNat))) :=
  ⟨(pst), 1, (((pst).chip.echoed [ascii "LIFE", hexNat 1]).busWrite porchAccess (BitVec.ofNat 32 rLC_REQ.base) 0x4C435401), by decide +kernel, by decide +kernel, rfl⟩
theorem wit_porch_writes_8 : ∃ (s : State),
    (s.chip.alive .sys = true) ∧ (s.chip.boot.hc0 = .porch) :=
  ⟨(pst fun c => { c with boot := { c.boot with wdogOnce := 7 }, cdr := { c.cdr with wdExpired := true } }), by decide +kernel⟩
theorem wit_porch_writes_9 : ∃ (s : State) (addr : Addr) (n : BitVec 32) (v : Word) (b : Byte),
    (¬ s.chip.inPorch) :=
  ⟨(st), 0x01050000, 8, 5, 1, by decide +kernel⟩
theorem wit_porch_writes_10 : ∃ (s : State),
    (s.chip.alive .sys = false ∨ s.chip.boot.hc0 ≠ .porch) :=
  ⟨(st), by decide +kernel⟩
def xs : PorchLoad := { addr := some 0x01050000, want := 5, got := 3, block := 255 }
def xf : PorchLoad := { addr := none, want := 50, got := 3, block := 1 }
def xe : PorchLoad := { addr := none, want := 3, got := 3, block := 1 }
def xb : PorchLoad := { addr := some 0x03050000, want := 5, got := 3, block := 255 }
def pfl (x : PorchLoad) : State := pst fun c => { c with boot := { c.boot with load := some x }, pwr := { c.pwr with pfw := true } }
theorem wit_porch_load_1 : ∃ (s : State) (addr : Addr) (n : BitVec 32),
    (s.chip.inPorch) ∧ (s.chip.porchFull = true) :=
  ⟨(pst), 0x01050000, 5, by decide +kernel⟩
theorem wit_porch_load_2 : ∃ (s : State) (n : BitVec 32),
    (s.chip.inPorch) ∧ (s.chip.porchFull = true) ∧ (n.toNat ≤ stagingSize) :=
  ⟨(pst), 5, by decide +kernel⟩
theorem wit_porch_load_2_b : ∃ (s : State) (n : BitVec 32),
    (s.chip.inPorch) ∧ (s.chip.porchFull = true) ∧ (n.toNat ≤ stagingSize) :=
  ⟨(pst fun c => { c with pwr := { c.pwr with pfw := true } }), 5, by decide +kernel⟩
theorem wit_porch_load_3 : ∃ (s : State) (n : BitVec 32),
    (s.chip.inPorch) ∧ (s.chip.porchFull = true) ∧ (stagingSize < n.toNat) :=
  ⟨(pst), 0x007E0001, by decide +kernel⟩
theorem wit_porch_load_4 : ∃ (s : State) (x : PorchLoad) (num : Byte) (len : BitVec 16) (data : List Byte) (l : List Byte) (crc : Word) (a : Nat),
    (s.chip.loading x) ∧ (x.right num len data crc) ∧ (x.addr = some a) ∧ (0x01000000 ≤ a) ∧ (a + x.want ≤ 0x01100000) ∧ (x.got ≤ x.want) ∧ (s.chip.gateOpen = true ∨ 0x01040000 ≤ a) ∧ (l = data.take (x.want - x.got)) :=
  ⟨(ld xs), xs, 0, 4, [1, 2, 3, 4], [1, 2], (crc32c [1, 2, 3, 4]), 0x01050000, by decide +kernel⟩
theorem wit_porch_load_5 : ∃ (s : State) (x : PorchLoad) (num : Byte) (len : BitVec 16) (data : List Byte) (crc : Word) (a : Nat) (d : Chip × Bool),
    (s.chip.loading x) ∧ (x.right num len data crc) ∧ (x.addr = some a) ∧ (d = Chip.porchStore { s.chip with cyc := s.chip.cyc + 1, boot := s.chip.withLoad (x.next num data) } (a + x.got) (data.take (x.want - x.got))) :=
  ⟨(ld xb), xb, 0, 4, [1, 2, 3, 4], (crc32c [1, 2, 3, 4]), 0x03050000, (Chip.porchStore { (ld xb).chip with cyc := (ld xb).chip.cyc + 1, boot := (ld xb).chip.withLoad (xb.next 0 [1, 2, 3, 4]) } 0x03050003 [1, 2]), by decide +kernel, by decide +kernel, by decide +kernel, rfl⟩
theorem wit_porch_load_6 : ∃ (s : State) (x : PorchLoad) (num : Byte) (len : BitVec 16) (data : List Byte) (l : List Byte) (crc : Word),
    (s.chip.loading x) ∧ (s.chip.pwr.pfw = false) ∧ (x.right num len data crc) ∧ (x.addr = none) ∧ (l = data.take (x.want - x.got)) ∧ ((∀ i < l.length, s.chip.byte (flashBase + stagingBase + x.got + i) = 0xFF)) :=
  ⟨(ld xf), xf, 2, 4, [1, 2, 3, 4], [1, 2, 3, 4], (crc32c [1, 2, 3, 4]), by decide +kernel⟩
theorem wit_porch_load_7 : ∃ (s : State) (x : PorchLoad) (num : Byte) (len : BitVec 16) (data : List Byte) (crc : Word),
    (s.chip.loading x) ∧ (s.chip.pwr.pfw = true) ∧ (x.right num len data crc) ∧ (x.addr = none) :=
  ⟨(pfl xf), xf, 2, 4, [1, 2, 3, 4], (crc32c [1, 2, 3, 4]), by decide +kernel⟩
theorem wit_porch_load_8 : ∃ (s : State) (x : PorchLoad) (num : Byte) (len : BitVec 16) (data : List Byte) (crc : Word),
    (s.chip.loading x) ∧ (len = 0 ∨ 1024 < len.toNat ∨ data.length ≠ len.toNat ∨ crc ≠ crc32c data ∨ (num ≠ x.block + 1 ∧ ¬(num = x.block ∧ x.got ≠ 0))) :=
  ⟨(ld xf), xf, 2, 4, [1, 2, 3, 4], 0, by decide +kernel⟩
theorem wit_porch_load_8_b : ∃ (s : State) (x : PorchLoad) (num : Byte) (len : BitVec 16) (data : List Byte) (crc : Word),
    (s.chip.loading x) ∧ (len = 0 ∨ 1024 < len.toNat ∨ data.length ≠ len.toNat ∨ crc ≠ crc32c data ∨ (num ≠ x.block + 1 ∧ ¬(num = x.block ∧ x.got ≠ 0))) :=
  ⟨(ld xf), xf, 3, 4, [1, 2, 3, 4], (crc32c [1, 2, 3, 4]), by decide +kernel⟩
theorem wit_porch_load_9 : ∃ (s : State) (x : PorchLoad) (len : BitVec 16) (data : List Byte) (crc : Word),
    (s.chip.loading x) ∧ (1 ≤ len.toNat) ∧ (len.toNat ≤ 1024) ∧ (data.length = len.toNat) ∧ (crc = crc32c data) ∧ (x.got ≠ 0) :=
  ⟨(ld xf), xf, 4, [1, 2, 3, 4], (crc32c [1, 2, 3, 4]), by and_intros <;> first | with_reducible rfl | decide +kernel | rfl⟩
theorem wit_porch_load_10 : ∃ (s : State) (x : PorchLoad),
    (s.chip.loading x) ∧ (x.got ≠ x.want ∨ x.addr ≠ none ∨ s.chip.pwr.pfw = true) :=
  ⟨(ld xf), xf, by decide +kernel⟩
theorem wit_porch_load_10_b : ∃ (s : State) (x : PorchLoad),
    (s.chip.loading x) ∧ (x.got ≠ x.want ∨ x.addr ≠ none ∨ s.chip.pwr.pfw = true) :=
  ⟨(pfl xe), xe, by decide +kernel⟩
theorem wit_porch_load_11 : ∃ (s : State) (x : PorchLoad),
    (s.chip.loading x) ∧ (x.got = x.want) ∧ (x.addr = none) ∧ (s.chip.pwr.pfw = false) :=
  ⟨(ld xe), xe, by decide +kernel⟩
theorem wit_porch_load_12 : ∃ (s : State) (x : PorchLoad),
    (s.chip.loading x) :=
  ⟨(ld xe), xe, by decide +kernel⟩
theorem wit_porch_load_13 : ∃ (s : State) (addr : Addr) (n : BitVec 32),
    (¬ s.chip.inPorch) :=
  ⟨(ld xe), 5, 5, by decide +kernel⟩
theorem wit_porch_load_14 : ∃ (s : State) (num : Byte) (len : BitVec 16) (data : List Byte) (crc : Word),
    (s.chip.alive .sys = false ∨ s.chip.boot.hc0 ≠ .porch ∨ s.chip.boot.load = none) :=
  ⟨(pst), 1, 1, [], 0, by decide +kernel⟩
theorem wit_porch_start_and_unlock_1 : ∃ (s : State) (addr : Addr) (d : Chip) (e : Chip × List Byte),
    (s.chip.inPorch) ∧ (s.chip.porchFull = true) ∧ (d = s.chip.echoed [ascii "GO", hexNat addr.toNat]) ∧ (e = d.imageAt addr.toNat) :=
  ⟨(pst), 0x01050000, ((pst).chip.echoed [ascii "GO", hexNat 0x01050000]), (((pst).chip.echoed [ascii "GO", hexNat 0x01050000]).imageAt 0x01050000), by decide +kernel, by decide +kernel, rfl, rfl⟩
theorem wit_porch_start_and_unlock_2 : ∃ (s : State) (addr : Addr),
    (s.chip.inPorch) ∧ (s.chip.porchFull = true) ∧ (s.chip.celCalm ∨ addr.toNat + 1024 < celBase) ∧ (s.chip.imageValid (s.chip.imageAt addr.toNat).2 = false ∨ s.chip.cfg.vfloor > imgVint (s.chip.imageAt addr.toNat).2) :=
  ⟨(pst), 0x01050000, by decide +kernel⟩
theorem wit_porch_start_and_unlock_3 : ∃ (s : State) (d : Chip),
    (s.chip.inPorch) ∧ (s.chip.pwr.pfw = false) ∧ (d = (s.chip.echoed [ascii "BOOT"]).line (ascii "OK")) :=
  ⟨(pst badCrc), (((pst badCrc).chip.echoed [ascii "BOOT"]).line (ascii "OK")), by decide +kernel, by decide +kernel, rfl⟩
theorem wit_porch_start_and_unlock_5 : ∃ (c : Chip) (l : List Byte),
    ((c.monitor l).2 = true) :=
  ⟨c0, [], by decide +kernel⟩
theorem wit_porch_start_and_unlock_6 : ∃ (s : State) (vendor : Bool),
    (s.chip.inPorch) ∧ (s.chip.dusOk = true) ∧ (s.chip.vlt.lcTarget = none) ∧ (s.chip.vlt.queue = []) ∧ (s.chip.slotRefusal fwAccess (chalSlot vendor) 4 = none) ∧ (s.chip.unlkLocked = false) :=
  ⟨(ch 3), true, by decide +kernel⟩
theorem wit_porch_start_and_unlock_7 : ∃ (s : State) (vendor : Bool) (good : Bool) (r : List Byte),
    (s.chip.inPorch) ∧ (s.chip.dusOk = true) ∧ (s.chip.vlt.lcTarget = none) ∧ (s.chip.vlt.queue = []) ∧ (s.chip.slotRefusal fwAccess (chalSlot vendor) 4 = none) ∧ (s.chip.unlkLocked = false) ∧ (good = (mget none s.chip.vlt.nonces 0).any (fun n => fitBytes r 32 == s.chip.unlockMac (chalSlot vendor) n)) :=
  ⟨(ch 2), false, true, (((ch 2).chip.unlockMac 2 [1]).take 32), by decide +kernel⟩
theorem wit_porch_start_and_unlock_7_b : ∃ (s : State) (vendor : Bool) (good : Bool) (r : List Byte),
    (s.chip.inPorch) ∧ (s.chip.dusOk = true) ∧ (s.chip.vlt.lcTarget = none) ∧ (s.chip.vlt.queue = []) ∧ (s.chip.slotRefusal fwAccess (chalSlot vendor) 4 = none) ∧ (s.chip.unlkLocked = false) ∧ (good = (mget none s.chip.vlt.nonces 0).any (fun n => fitBytes r 32 == s.chip.unlockMac (chalSlot vendor) n)) :=
  ⟨(ch 3), true, false, [5], by decide +kernel⟩
theorem wit_porch_start_and_unlock_7_c : ∃ (s : State) (vendor : Bool) (good : Bool) (r : List Byte),
    (s.chip.inPorch) ∧ (s.chip.dusOk = true) ∧ (s.chip.vlt.lcTarget = none) ∧ (s.chip.vlt.queue = []) ∧ (s.chip.slotRefusal fwAccess (chalSlot vendor) 4 = none) ∧ (s.chip.unlkLocked = false) ∧ (good = (mget none s.chip.vlt.nonces 0).any (fun n => fitBytes r 32 == s.chip.unlockMac (chalSlot vendor) n)) :=
  ⟨(pst fun c => { (slot2 3 c) with vlt := { (slot2 3 c).vlt with fails := 2 } }), true, false, [5], by decide +kernel⟩
theorem wit_porch_start_and_unlock_8 : ∃ (s : State) (vendor : Bool) (r : List Byte),
    (s.chip.inPorch) ∧ (s.chip.dusOk = true) ∧ (s.chip.vlt.lcTarget = none) ∧ (s.chip.vlt.queue = []) ∧ (s.chip.slotRefusal fwAccess (chalSlot vendor) 4 ≠ none ∨ s.chip.unlkLocked = true) :=
  ⟨(pst), true, [5], by decide +kernel⟩
theorem wit_porch_start_and_unlock_9 : ∃ (s : State) (vendor : Bool) (r : List Byte),
    (s.chip.inPorch) ∧ (s.chip.dusOk = false ∨ s.chip.vlt.lcTarget ≠ none) :=
  ⟨(pst badCrc), true, [1], by decide +kernel⟩
theorem wit_porch_start_and_unlock_10 : ∃ (s : State) (addr : Addr) (vendor : Bool) (r : List Byte),
    (¬ s.chip.inPorch) :=
  ⟨(st), 5, true, [1], by decide +kernel⟩
theorem wit_porch_start_and_unlock_11 : ∃ (s : State),
    (¬ s.chip.inPorch ∨ s.chip.pwr.pfw = true) :=
  ⟨(pst fun c => { c with pwr := { c.pwr with pfw := true } }), by decide +kernel⟩

end Sys2Proof.Tests.WitnessT
end

