-- ==== Sys2Proof/Tests/WitnessU.lean ====
section
/-! SUPPORT. States and operands that meet the hypotheses of the statements, part U. -/

namespace Sys2Proof.Tests.WitnessU

open Sys2Proof Sys2Proof.Machine Sys2Proof.Tests

set_option maxRecDepth 100000
set_option Elab.async false
set_option linter.unusedVariables false
set_option linter.unreachableTactic false
set_option linter.unusedTactic false

def tinfo : State := st fun c => c.wr rBUSERR_INFO 0 0 0x80000000
def ers (n : Nat) (w : BitVec 39) : Chip → Chip := fun c => { c with sram := { c.sram with errs := [(n, w)] } }
theorem wit_register_accesses_1 : ∃ (s : State) (a : Access) (addr : Addr) (v : Word) (r : RegRow) (i : Nat) (j : Nat),
    (s.chip.lands a (wordAddr addr)) ∧ (areaFor a.master (wordAddr addr) = .regs) ∧ (regAt (wordAddr addr) = some (r, i, j)) ∧ (r.hook = .plain) ∧ (s.chip.writeRefused a r i j v = false) :=
  ⟨(st), hc, 0x10110000, 6, rERR_CTRL, 0, 0, by decide +kernel⟩
theorem wit_register_accesses_1_b : ∃ (s : State) (a : Access) (addr : Addr) (v : Word) (r : RegRow) (i : Nat) (j : Nat),
    (s.chip.lands a (wordAddr addr)) ∧ (areaFor a.master (wordAddr addr) = .regs) ∧ (regAt (wordAddr addr) = some (r, i, j)) ∧ (r.hook = .plain) ∧ (s.chip.writeRefused a r i j v = false) :=
  ⟨(st), hc, 0x10110006, 0xFFFFFFFF, rERR_STATUS, 0, 0, by decide +kernel⟩
theorem wit_register_accesses_2 : ∃ (s : State) (a : Access) (addr : Addr) (v : Word),
    ((s.chip.lands a (wordAddr addr) ∧ areaFor a.master (wordAddr addr) = .regs ∧ regAt (wordAddr addr) = none) ∨ (s.chip.mayAccess a = true ∧ inPcw a (wordAddr addr) = true ∧ regAt (pcwKey a.core (wordAddr addr)) = none)) :=
  ⟨(st), hc, 0x10110FF4, 7, by decide +kernel⟩
theorem wit_register_accesses_2_b : ∃ (s : State) (a : Access) (addr : Addr) (v : Word),
    ((s.chip.lands a (wordAddr addr) ∧ areaFor a.master (wordAddr addr) = .regs ∧ regAt (wordAddr addr) = none) ∨ (s.chip.mayAccess a = true ∧ inPcw a (wordAddr addr) = true ∧ regAt (pcwKey a.core (wordAddr addr)) = none)) :=
  ⟨(st), (pc 3), 0x000200FC, 7, by decide +kernel⟩
theorem wit_register_accesses_3 : ∃ (s : State) (a : Access) (addr : Addr) (v : Word) (k : Nat),
    (s.chip.lands a (wordAddr addr)) ∧ (onDie a (wordAddr addr) k) :=
  ⟨(st (ers 0x01050004 3)), nc, 0x01050005, 7, 0x01050004, by decide +kernel⟩
theorem wit_register_accesses_3_b : ∃ (s : State) (a : Access) (addr : Addr) (v : Word) (k : Nat),
    (s.chip.lands a (wordAddr addr)) ∧ (onDie a (wordAddr addr) k) :=
  ⟨(st), (pc 3), 0x00010004, 7, (localKey 3 0x00010004), by decide +kernel⟩
theorem wit_register_accesses_4 : ∃ (s : State) (a : Access) (addr : Addr) (k : Nat),
    (s.chip.lands a (wordAddr addr)) ∧ (onDie a (wordAddr addr) k ∨ (areaFor a.master (wordAddr addr) = .rom ∧ k = wordAddr addr)) :=
  ⟨(st (ers 0x01050008 3)), nc, 0x01050005, 0x01050004, by decide +kernel⟩
theorem wit_register_accesses_4_b : ∃ (s : State) (a : Access) (addr : Addr) (k : Nat),
    (s.chip.lands a (wordAddr addr)) ∧ (onDie a (wordAddr addr) k ∨ (areaFor a.master (wordAddr addr) = .rom ∧ k = wordAddr addr)) :=
  ⟨(st (ers 0x01050004 8)), nc, 0x01050005, 0x01050004, by decide +kernel⟩
theorem wit_register_accesses_4_c : ∃ (s : State) (a : Access) (addr : Addr) (k : Nat),
    (s.chip.lands a (wordAddr addr)) ∧ (onDie a (wordAddr addr) k ∨ (areaFor a.master (wordAddr addr) = .rom ∧ k = wordAddr addr)) :=
  ⟨(st (ers 0x01050004 9)), nc, 0x01050005, 0x01050004, by decide +kernel⟩
theorem wit_register_accesses_4_d : ∃ (s : State) (a : Access) (addr : Addr) (k : Nat),
    (s.chip.lands a (wordAddr addr)) ∧ (onDie a (wordAddr addr) k ∨ (areaFor a.master (wordAddr addr) = .rom ∧ k = wordAddr addr)) :=
  ⟨(st), hc, 0x00000004, 0x00000004, by decide +kernel⟩
theorem wit_register_accesses_5 : ∃ (s : State) (a : Access) (addr : Addr) (v : Word),
    (s.chip.lands a (wordAddr addr)) ∧ (areaFor a.master (wordAddr addr) = .flash ∨ areaFor a.master (wordAddr addr) = .rom) :=
  ⟨(st), nc, 0x20000005, 7, by decide +kernel⟩
theorem wit_register_accesses_5_b : ∃ (s : State) (a : Access) (addr : Addr) (v : Word),
    (s.chip.lands a (wordAddr addr)) ∧ (areaFor a.master (wordAddr addr) = .flash ∨ areaFor a.master (wordAddr addr) = .rom) :=
  ⟨(st), hc, 0x00000004, 7, by decide +kernel⟩
theorem wit_register_accesses_6 : ∃ (s : State) (a : Access) (addr : Addr),
    (s.chip.lands a (wordAddr addr)) ∧ (areaFor a.master (wordAddr addr) = .flash) :=
  ⟨(st), nc, 0x20000005, by decide +kernel⟩
theorem wit_register_accesses_7 : ∃ (s : State) (a : Access) (addr : Addr) (v : Word) (r : RegRow) (i : Nat) (j : Nat),
    (s.chip.lands a (wordAddr addr)) ∧ (areaFor a.master (wordAddr addr) = .regs) ∧ (regAt (wordAddr addr) = some (r, i, j)) ∧ (s.chip.writeRefused a r i j v = true) ∧ (r.hook ≠ .lutWin) ∧ (r.hook ≠ .pixZone) :=
  ⟨(st), nc, 0x10060064, 5, rRGN_WMASK, 1, 0, by decide +kernel⟩
theorem wit_register_accesses_8 : ∃ (s : State) (a : Access) (addr : Addr) (r : RegRow) (i : Nat) (j : Nat),
    (s.chip.lands a (wordAddr addr)) ∧ (areaFor a.master (wordAddr addr) = .regs) ∧ (regAt (wordAddr addr) = some (r, i, j)) ∧ (r.hook = .plain) :=
  ⟨(st), nc, 0x10110000, rERR_CTRL, 0, 0, by decide +kernel⟩
theorem wit_register_accesses_9 : ∃ (s : State) (a : Access) (p : Fin 3) (g : Bool) (addr : Addr) (n : Nat),
    (addr = BitVec.ofNat 32 (rMAC_CNT.addr p (if g = true then 14 else 1))) ∧ (n = (if g = true then (s.chip.mac p).txBytes else (s.chip.mac p).rxBytes)) ∧ (s.chip.lands a (wordAddr addr)) :=
  ⟨(st fun c => c.setMac 1 { rxBytes := 0x500000007 }), nc, 1, false, (BitVec.ofNat 32 (rMAC_CNT.addr 1 1)), 0x500000007, rfl, by decide +kernel⟩
theorem wit_register_accesses_9_b : ∃ (s : State) (a : Access) (p : Fin 3) (g : Bool) (addr : Addr) (n : Nat),
    (addr = BitVec.ofNat 32 (rMAC_CNT.addr p (if g = true then 14 else 1))) ∧ (n = (if g = true then (s.chip.mac p).txBytes else (s.chip.mac p).rxBytes)) ∧ (s.chip.lands a (wordAddr addr)) :=
  ⟨(st fun c => c.setMac 2 { txBytes := 0x500000007 }), nc, 2, true, (BitVec.ofNat 32 (rMAC_CNT.addr 2 14)), 0x500000007, rfl, by decide +kernel⟩
theorem wit_register_accesses_10 : ∃ (s : State) (a : Access) (addr : Addr) (v : Word) (l : List Nat),
    (l = busQueues a.master (wordAddr addr)) ∧ (s.chip.mayAccess a = true) ∧ (inPcw a (wordAddr addr) = false) ∧ (s.chip.refusal a (wordAddr addr) = none) ∧ (s.chip.cutOff l = true) :=
  ⟨(st fun c => { c with que := { c.que with cut := [0x81, 0x82] } }), nc, 0x10010004, 4, [0x81], rfl, by decide +kernel⟩
theorem wit_register_accesses_11 : ∃ (s : State) (a : Access) (addr : Addr) (v : Word),
    (s.chip.mayAccess a = false) :=
  ⟨(⟨[], { c0 with pwr := { c0.pwr with phase := .off } }⟩ : State), nc, 0x10110000, 4, by decide +kernel⟩
theorem wit_register_accesses_11_b : ∃ (s : State) (a : Access) (addr : Addr) (v : Word),
    (s.chip.mayAccess a = false) :=
  ⟨(st fun c => { c with boot := { c.boot with ncRun := false } }), nc, 0x10110000, 4, by decide +kernel⟩
theorem wit_bus_errors_recorded_1 : ∃ (c : Chip) (d : Chip) (m : Master) (sec : Bool) (wr : Bool) (addr : Word) (cause : Nat),
    (d = c.busErr m sec wr addr cause) ∧ (c.rb rBUSERR_INFO 0 0 31 = true) :=
  ⟨tinfo.chip, (tinfo.chip.busErr .dma true false 5 3), .dma, true, false, 5, 3, by decide +kernel⟩
theorem wit_bus_errors_recorded_2 : ∃ (c : Chip) (d : Chip) (m : Master) (sec : Bool) (wr : Bool) (addr : Word) (cause : Nat),
    (d = c.busErr m sec wr addr cause) ∧ (c.rb rBUSERR_INFO 0 0 31 = false) :=
  ⟨c0, (c0.busErr .dma true false 5 3), .dma, true, false, 5, 3, by decide +kernel⟩
theorem wit_bus_errors_recorded_3 : ∃ (s : State) (a : Access) (addr : Addr) (v : Word) (cause : Nat),
    (s.chip.mayAccess a = true) ∧ (inPcw a (wordAddr addr) = false) ∧ (s.chip.refusal a (wordAddr addr) = some cause) :=
  ⟨(st), nc, 0x03050000, 4, 0, by decide +kernel⟩
theorem wit_bus_errors_recorded_3_b : ∃ (s : State) (a : Access) (addr : Addr) (v : Word) (cause : Nat),
    (s.chip.mayAccess a = true) ∧ (inPcw a (wordAddr addr) = false) ∧ (s.chip.refusal a (wordAddr addr) = some cause) :=
  ⟨(st), nc, 0x01000000, 4, 1, by decide +kernel⟩
theorem wit_clock_start_and_rate_3 : ∃ (s : State),
    (s.chip.pwr.phase = .running) ∧ (s.chip.rb rCLKSTAT 0 0 6 = true) :=
  ⟨(st fun c => c.wr rCLKSTAT 0 0 0x3FFFF), by decide +kernel⟩
theorem wit_clock_start_and_rate_4 : ∃ (s : State),
    (s.chip.pwr.phase = .running) :=
  ⟨(st), by decide +kernel⟩
theorem wit_clock_start_and_rate_5 : ∃ (s : State) (a : Access) (v : Word),
    (s.chip.takes a rTIME_ADDEND 0 0 v) :=
  ⟨(st), nc, 5, by decide +kernel⟩
theorem wit_clock_start_and_rate_6 : ∃ (s : State),
    (s.pending = []) ∧ (s.chip.alive .ts = true) ∧ (s.chip.rb rTIME_CTRL 0 0 0 = true) ∧ (s.chip.time.now < clockMod) :=
  ⟨(st fun c => c.wr rTIME_ADDEND 0 0 0xFFFFFFFF), by decide +kernel⟩
theorem wit_clock_start_and_rate_6_b : ∃ (s : State),
    (s.pending = []) ∧ (s.chip.alive .ts = true) ∧ (s.chip.rb rTIME_CTRL 0 0 0 = true) ∧ (s.chip.time.now < clockMod) :=
  ⟨(st fun c => { c with time := { c.time with now := clockMod - 1, frac := 0xFFFFFFFF, evtQ := [1, 2] } }), by decide +kernel⟩

end Sys2Proof.Tests.WitnessU
end

/-! SUPPORT. The accesses that have no behaviour of their own (spec/00, spec/01): where an access of a bus master ends, what the
two accesses to a plain register, a reserved offset or an on-die memory leave, and what a power-on reset leaves. -/

namespace Sys2Proof.Machine

/-! ## Where an access ends (R20, R22, R468) -/

section Ends

variable {c : Chip} {a : Access} {addr v : Word} {r : RegRow} {i j : Nat}

theorem busWrite_not_released (h : c.mayAccess a = false) : c.busWrite a addr v = c := by
  simp [Chip.busWrite, h]

theorem busRead_not_released (h : c.mayAccess a = false) : c.busRead a addr = c := by
  simp [Chip.busRead, h]

theorem busWrite_register (h : c.lands a (wordAddr addr)) (ha : areaFor a.master (wordAddr addr) = .regs)
    (hr : regAt (wordAddr addr) = some (r, i, j)) : c.busWrite a addr v = c.regWrite a addr r i j v := by
  obtain ⟨hmay, hpcw, hrefusal, hcut⟩ := h
  simp [Chip.busWrite, hmay, hpcw, hrefusal, hcut, ha, hr]

theorem busRead_register (h : c.lands a (wordAddr addr)) (ha : areaFor a.master (wordAddr addr) = .regs)
    (hr : regAt (wordAddr addr) = some (r, i, j)) : c.busRead a addr = c.regRead a r i j := by
  obtain ⟨hmay, hpcw, hrefusal, hcut⟩ := h
  simp [Chip.busRead, hmay, hpcw, hrefusal, hcut, ha, hr]

/-- No register stands where the access goes: at a reserved offset of a block, or of a press core's own window (R20, R231). -/
abbrev Chip.landsReserved (c : Chip) (a : Access) (n : Nat) : Prop :=
  (c.lands a n ∧ areaFor a.master n = .regs ∧ regAt n = none)
    ∨ (c.mayAccess a = true ∧ inPcw a n = true ∧ regAt (pcwKey a.core n) = none)

theorem busWrite_reserved (h : c.landsReserved a (wordAddr addr)) : c.busWrite a addr v = c.answer 0 := by
  obtain ⟨⟨hmay, hpcw, hrefusal, hcut⟩, ha, hr⟩ | ⟨hmay, hpcw, hr⟩ := h
  · simp [Chip.busWrite, hmay, hpcw, hrefusal, hcut, ha, hr]
  · simp [Chip.busWrite, hmay, hpcw, hr]

theorem busRead_reserved (h : c.landsReserved a (wordAddr addr)) : c.busRead a addr = c.answer 0 := by
  obtain ⟨⟨hmay, hpcw, hrefusal, hcut⟩, ha, hr⟩ | ⟨hmay, hpcw, hr⟩ := h
  · simp [Chip.busRead, hmay, hpcw, hrefusal, hcut, ha, hr]
  · simp [Chip.busRead, hmay, hpcw, hr]

theorem busWrite_memory (h : c.lands a (wordAddr addr)) (ha : areaFor a.master (wordAddr addr) ≠ .regs) :
    c.busWrite a addr v = c.memWrite a (wordAddr addr) (wordBytes v) := by
  obtain ⟨hmay, hpcw, hrefusal, hcut⟩ := h
  simp [Chip.busWrite, hmay, hpcw, hrefusal, hcut, ha]

theorem busRead_flash (h : c.lands a (wordAddr addr)) (ha : areaFor a.master (wordAddr addr) = .flash) :
    c.busRead a addr = c.answer (c.word (wordAddr addr)) := by
  obtain ⟨hmay, hpcw, hrefusal, hcut⟩ := h
  simp [Chip.busRead, hmay, hpcw, hrefusal, hcut, ha]

/-- The four memories under SECDED that are written (R1, R13). -/
theorem onDie_area {n k : Nat} (h : onDie a n k) : areaFor a.master n = .sram ∨ areaFor a.master n = .press
    ∨ areaFor a.master n = .local_ ∨ areaFor a.master n = .portBuf := by simpa using h.1

/-- A read of a memory under SECDED, the boot ROM among them (R1, R13). -/
theorem busRead_sram {k : Nat} (h : c.lands a (wordAddr addr))
    (hk : onDie a (wordAddr addr) k ∨ (areaFor a.master (wordAddr addr) = .rom ∧ k = wordAddr addr)) :
    c.busRead a addr = c.sramBusRead a addr k := by
  obtain ⟨hmay, hpcw, hrefusal, hcut⟩ := h
  obtain hdie | ⟨hrom, rfl⟩ := hk
  · obtain ha | ha | ha | ha := onDie_area hdie <;> simp [Chip.busRead, hmay, hpcw, hrefusal, hcut, ha, hdie.2]
  · simp [Chip.busRead, hmay, hpcw, hrefusal, hcut, hrom]

/-- What a reset of the access's queues caught (R468). -/
theorem busWrite_cut (hmay : c.mayAccess a = true) (hpcw : inPcw a (wordAddr addr) = false) (hrefusal : c.refusal a (wordAddr addr) = none)
    (hcut : c.cutOff (busQueues a.master (wordAddr addr)) = true) :
    c.busWrite a addr v = (c.cutDone (busQueues a.master (wordAddr addr))).answer 0 := by
  simp [Chip.busWrite, hmay, hpcw, hrefusal, hcut]

theorem busRead_cut (hmay : c.mayAccess a = true) (hpcw : inPcw a (wordAddr addr) = false) (hrefusal : c.refusal a (wordAddr addr) = none)
    (hcut : c.cutOff (busQueues a.master (wordAddr addr)) = true) :
    c.busRead a addr = (c.cutDone (busQueues a.master (wordAddr addr))).busErr a.master (c.worldS a) false addr 3 := by
  simp [Chip.busRead, hmay, hpcw, hrefusal, hcut]

/-! ## What it does there (R6, R14, R106, R591) -/

theorem regWrite_plain (hk : r.hook = .plain) (hw : c.writeRefused a r i j v = false) :
    c.regWrite a addr r i j v = (c.wr r i j (r.merge (c.rd r i j) v)).answer 0 := by
  simp [Chip.regWrite, Chip.afterWrite, hk, hw]

/-- A refused write, but of a table that counts its refusals (R216), is a bus error alone. -/
theorem regWrite_refused (hw : c.writeRefused a r i j v = true) (h1 : r.hook ≠ .lutWin) (h2 : r.hook ≠ .pixZone) :
    c.regWrite a addr r i j v = c.busErr a.master (c.worldS a) true addr 1 := by
  simp [Chip.regWrite, hw, h1, h2]

theorem regRead_plain (hk : r.hook = .plain) : c.regRead a r i j = c.answer (c.rd r i j) := by
  simp [Chip.regRead, hk]

theorem rMAC_CNT_stands : ∀ (p : Fin 3) (j : Fin 21), rMAC_CNT.stands p j := by unfold RegRow.stands; decide

theorem regRead_rxBytes (p : Nat) : c.regRead a rMAC_CNT p 1
    = (c.wr rMAC_CNT p 2 (BitVec.ofNat 32 ((c.mac p).rxBytes / 2 ^ 32))).answer (BitVec.ofNat 32 (c.mac p).rxBytes) := .trans rfl rfl

theorem regRead_txBytes (p : Nat) : c.regRead a rMAC_CNT p 14
    = (c.wr rMAC_CNT p 15 (BitVec.ofNat 32 ((c.mac p).txBytes / 2 ^ 32))).answer (BitVec.ofNat 32 (c.mac p).txBytes) := .trans rfl rfl

/-- A port buffer an access reaches is open: its port's MODE is OFF (R269). -/
theorem bufOpen_of_lands {n : Nat} (h : c.lands a n) (ha : areaFor a.master n = .portBuf) : c.bufOpen n = true := by
  obtain ⟨-, -, hrefusal, -⟩ := h
  by_contra hno
  simp only [Chip.refusal, ha, hno] at hrefusal
  split at hrefusal <;> simp at hrefusal

theorem memWrite_onDie {n k : Nat} {b : List Byte} (h : c.lands a n) (hk : onDie a n k) :
    c.memWrite a n b = ((c.setBytes k b).sramStore k b.length).answer 0 := by
  obtain ha | ha | ha | ha := onDie_area hk
  case inr.inr.inr => simp [Chip.memWrite, ha, hk.2, bufOpen_of_lands h ha]
  all_goals simp [Chip.memWrite, ha, hk.2]

theorem memWrite_readOnly {n : Nat} {b : List Byte} (ha : areaFor a.master n = .flash ∨ areaFor a.master n = .rom) :
    c.memWrite a n b = c.busErr a.master (c.worldS a) true (BitVec.ofNat 32 n) 1 := by
  obtain ha | ha := ha <;> simp [Chip.memWrite, ha]

/-! ## The on-die memories' words and codewords (R1, R5) -/

theorem onDie_aligned {n k : Nat} (h : onDie a n k) (hn : n % 4 = 0) : k % 4 = 0 := by
  obtain ⟨-, rfl⟩ := h
  split
  · unfold localKey; omega
  · exact hn

theorem wordAddr_aligned (x : Word) : wordAddr x % 4 = 0 := by unfold wordAddr; omega

theorem wordOfBytes_byteOf (w : Word) : wordOfBytes (byteOf w 0) (byteOf w 1) (byteOf w 2) (byteOf w 3) = w := by
  unfold wordOfBytes byteOf
  rw [BitVec.extractLsb'_append_extractLsb'_eq_extractLsb' (show 8 * 3 = 8 * 2 + 8 from rfl),
    BitVec.extractLsb'_append_extractLsb'_eq_extractLsb' (show 8 * 2 = 8 * 1 + 8 from rfl),
    BitVec.extractLsb'_append_extractLsb'_eq_extractLsb' (show 8 * 1 = 8 * 0 + 8 from rfl)]
  exact BitVec.extractLsb'_eq_self

/-- A word stored reads back. -/
theorem word_setBytes_wordBytes (c : Chip) (k : Nat) (w : Word) : (c.setBytes k (wordBytes w)).word k = w := by
  have h0 : (c.setBytes k (wordBytes w)).byte k = byteOf w 0 := Chip.byte_setBytes_same (wordBytes w) c k 0 (by simp [wordBytes])
  have h1 : (c.setBytes k (wordBytes w)).byte (k + 1) = byteOf w 1 := Chip.byte_setBytes_same (wordBytes w) c k 1 (by simp [wordBytes])
  have h2 : (c.setBytes k (wordBytes w)).byte (k + 2) = byteOf w 2 := Chip.byte_setBytes_same (wordBytes w) c k 2 (by simp [wordBytes])
  have h3 : (c.setBytes k (wordBytes w)).byte (k + 3) = byteOf w 3 := Chip.byte_setBytes_same (wordBytes w) c k 3 (by simp [wordBytes])
  rw [Chip.word, h0, h1, h2, h3, wordOfBytes_byteOf]

theorem upsets_of_clean {k : Nat} (h : mget 0#39 c.sram.errs (k / 4 * 4) = 0#39) : c.upsets k = 0 := by
  simp [Chip.upsets, h]

/-- A word stored has a clean codeword. -/
theorem upsets_sramStore {k : Nat} (hk : k % 4 = 0) : (c.sramStore k 4).upsets k = 0 := by
  apply upsets_of_clean
  have hm := mget_filter 0#39 (fun e => decide (e + 4 ≤ k) || decide (k + 4 ≤ e)) c.sram.errs (k / 4 * 4)
  rw [if_neg (by simp; omega)] at hm
  exact hm

theorem sramBusRead_clean {k : Nat} (h : c.upsets k = 0) : c.sramBusRead a addr k = c.answer (c.word k) := by
  simp [Chip.sramBusRead, Chip.sramRead, h]

/-- The on-die word at `k` with its codeword corrected, and the correction counted. -/
def Chip.corrected (c : Chip) (k : Nat) : Chip :=
  { c with sram := { errs := mset 0#39 c.sram.errs (k / 4 * 4) 0, fixed := c.sram.fixed + 1 } }

theorem sramBusRead_corrected {k : Nat} (h : c.upsets k = 1) : c.sramBusRead a addr k = (c.corrected k).answer (c.word k) := by
  simp [Chip.sramBusRead, Chip.sramRead, h, Chip.corrected, Chip.word, Chip.byte]

theorem sramBusRead_double {k : Nat} (h : 2 ≤ c.upsets k) :
    c.sramBusRead a addr k = c.busErr a.master (c.worldS a) false addr 2 := by
  obtain ⟨n, hn⟩ := Nat.exists_eq_add_of_le' h
  simp [Chip.sramBusRead, Chip.sramRead, hn]

theorem upsets_corrected (c : Chip) (k : Nat) : (c.corrected k).upsets k = 0 :=
  upsets_of_clean (mget_mset_same 0#39 0#39 c.sram.errs (k / 4 * 4))

end Ends

/-! ## The two commands -/

/-- The module with one more command counted: what a command's effect is applied to. -/
abbrev Chip.counted (c : Chip) : Chip := { c with cyc := c.cyc + 1 }

section Commands

variable {s : State} {a : Access} {addr : Addr} {v : Word} {r : RegRow} {i j k : Nat} {w : Chip} {P : Chip → Prop}

theorem does_registerWrite (e : s.chip.counted.busWrite a addr v = w) (h : P (settle w)) :
    Does s (exec (.registerWrite a addr v) s) P := by
  subst e
  exact does_run (f := fun c => c.busWrite a addr v) h

theorem does_registerRead (e : s.chip.counted.busRead a addr = w) (h : P (settle w)) :
    Does s (exec (.registerRead a addr) s) P := by
  subst e
  exact does_run (f := fun c => c.busRead a addr) h

/-- A frame looks past the level-driven sources, which alone follow at a command's end. -/
theorem frame_settle {c d : Chip} {l : List Nat} (hr : SameRegs l c d) (hi : d.irqs = c.irqs) : Frame l [] c (settle d) :=
  ⟨hr.settle, (SameIrqs.of_irqs hi).settle⟩

/-- An answer and nothing else. -/
theorem answer_quiet (c : Chip) (v : Word) : (settle (c.counted.answer v)).rsp = { val := v, err := false }
    ∧ (settle (c.counted.answer v)).rest = c.rest ∧ Frame [] [] c (settle (c.counted.answer v)) :=
  ⟨rfl, by simp, frame_settle (SameRegs.of_regs rfl) rfl⟩

/-- A command that is only counted. -/
theorem counted_quiet (c : Chip) : (settle c.counted).rsp = c.rsp ∧ (settle c.counted).rest = c.rest ∧ Frame [] [] c (settle c.counted) :=
  ⟨rfl, by simp, frame_settle (SameRegs.of_regs rfl) rfl⟩

/-- A register without behaviour of its own takes a write by its access codes (R6). -/
theorem plain_write (h : s.chip.lands a (wordAddr addr)) (ha : areaFor a.master (wordAddr addr) = .regs)
    (hr : regAt (wordAddr addr) = some (r, i, j)) (hk : r.hook = .plain) (hw : s.chip.writeRefused a r i j v = false) :
    Does s (exec (.registerWrite a addr v) s) fun c => c.rd r i j = r.merge (s.chip.rd r i j) v
      ∧ c.rsp = { val := 0, err := false } ∧ c.rest = s.chip.rest ∧ Frame [r.addr i j] [] s.chip c := by
  have e := (busWrite_register (c := s.chip.counted) (v := v) h ha hr).trans (regWrite_plain hk hw)
  refine does_registerWrite e ⟨by simp, rfl, by simp, frame_settle ?_ rfl⟩
  exact ((SameRegs.of_regs rfl : SameRegs _ s.chip s.chip.counted).wr _ (by simp)).answer 0

/-- A write of an on-die memory stores the aligned word with a clean codeword (R1, R5). -/
theorem onDie_write (h : s.chip.lands a (wordAddr addr)) (hk : onDie a (wordAddr addr) k) :
    Does s (exec (.registerWrite a addr v) s) fun c => c.word k = v ∧ c.upsets k = 0 ∧ c.rsp = { val := 0, err := false }
      ∧ SameBytes (fun x => k ≤ x ∧ x < k + 4) s.chip c
      ∧ c.rest = { s.chip.rest with mem := c.mem, sram := (s.chip.sramStore k 4).sram } ∧ Frame [] [] s.chip c := by
  have ha : areaFor a.master (wordAddr addr) ≠ .regs := fun e => by simp [onDie, e] at hk
  have e := (busWrite_memory (c := s.chip.counted) (v := v) h ha).trans (memWrite_onDie h hk)
  rw [Chip.setBytes_eq] at e
  refine does_registerWrite e ⟨word_setBytes_wordBytes s.chip.counted k v, ?_, rfl, fun x hx => ?_, rfl, frame_settle (SameRegs.of_regs rfl) rfl⟩
  · exact upsets_sramStore (c := s.chip) (onDie_aligned hk (wordAddr_aligned addr))
  · exact Chip.byte_setBytes_other (wordBytes v) s.chip.counted k x (by simp only [wordBytes, List.length_cons, List.length_nil]; omega)

/-- A read of an on-die memory, by how many bits of the word's codeword are wrong (R1, R590). -/
theorem sram_read (h : s.chip.lands a (wordAddr addr))
    (hk : onDie a (wordAddr addr) k ∨ (areaFor a.master (wordAddr addr) = .rom ∧ k = wordAddr addr)) :
    Does s (exec (.registerRead a addr) s) fun c =>
      (s.chip.upsets k = 0 → c.rsp = { val := s.chip.word k, err := false } ∧ c.rest = s.chip.rest ∧ Frame [] [] s.chip c)
      ∧ (s.chip.upsets k = 1 → c.rsp = { val := s.chip.word k, err := false } ∧ c.upsets k = 0 ∧ c.sram.fixed = s.chip.sram.fixed + 1
        ∧ c.rest = { s.chip.rest with sram := c.sram } ∧ Frame [] [] s.chip c)
      ∧ (2 ≤ s.chip.upsets k → c = settle (s.chip.counted.busErr a.master (s.chip.worldS a) false addr 2)) := by
  refine does_registerRead (busRead_sram (c := s.chip.counted) h hk) ⟨fun h0 => ?_, fun h1 => ?_, fun h2 => ?_⟩
  · rw [sramBusRead_clean (c := s.chip.counted) h0]
    exact answer_quiet s.chip _
  · rw [sramBusRead_corrected (c := s.chip.counted) h1]
    exact ⟨rfl, upsets_corrected s.chip.counted k, rfl, rfl, frame_settle (SameRegs.of_regs rfl) rfl⟩
  · rw [sramBusRead_double (c := s.chip.counted) h2]
    rfl

/-- A read of a MAC byte counter's low half returns it and latches the high half (R106). -/
theorem macBytes_read {p : Fin 3} {g : Bool} {n : Nat} (hn : n = if g = true then (s.chip.mac p).txBytes else (s.chip.mac p).rxBytes)
    (h : s.chip.lands a (wordAddr (BitVec.ofNat 32 (rMAC_CNT.addr p (if g = true then 14 else 1))))) :
    Does s (exec (.registerRead a (BitVec.ofNat 32 (rMAC_CNT.addr p (if g = true then 14 else 1)))) s) fun c =>
      c.rsp = { val := BitVec.ofNat 32 n, err := false } ∧ c.rd rMAC_CNT p (if g = true then 15 else 2) = BitVec.ofNat 32 (n / 2 ^ 32)
      ∧ c.rest = s.chip.rest ∧ Frame [rMAC_CNT.addr p (if g = true then 15 else 2)] [] s.chip c := by
  have hs : rMAC_CNT.stands p (if g = true then 14 else 1) := by
    cases g
    · exact rMAC_CNT_stands p 1
    · exact rMAC_CNT_stands p 14
  rw [hs.word] at h
  obtain ⟨hmay, -, hrefusal, hcut⟩ := h
  have e := busRead_reads (c := s.chip.counted) hs ⟨hmay, hrefusal, hcut⟩
  have hw : s.chip.counted.regRead a rMAC_CNT p (if g = true then 14 else 1)
      = (s.chip.counted.wr rMAC_CNT p (if g = true then 15 else 2) (BitVec.ofNat 32 (n / 2 ^ 32))).answer (BitVec.ofNat 32 n) := by
    subst hn
    cases g
    · exact regRead_rxBytes p
    · exact regRead_txBytes p
  refine does_registerRead (e.trans hw) ⟨rfl, by simp, by simp, frame_settle ?_ rfl⟩
  exact ((SameRegs.of_regs rfl : SameRegs _ s.chip s.chip.counted).wr _ (by simp)).answer _

end Commands

/-- Settles O55: each access by where it ends. -/
theorem registerAccesses : Obligations.register_accesses := by
  refine ⟨fun s a addr v r i j h ha hr hk hw => plain_write h ha hr hk hw, ?_, fun s a addr v k h hk => onDie_write h hk,
    fun s a addr k h hk => sram_read h hk, ?_, ?_, ?_, ?_, ?_, ?_, ?_⟩
  · intro s a addr v h
    exact ⟨does_registerWrite (busWrite_reserved (c := s.chip.counted) h) (answer_quiet s.chip 0),
      does_registerRead (busRead_reserved (c := s.chip.counted) h) (answer_quiet s.chip 0)⟩
  · intro s a addr v h ha
    have hne : areaFor a.master (wordAddr addr) ≠ .regs := by obtain ha | ha := ha <;> simp [ha]
    exact does_registerWrite ((busWrite_memory (c := s.chip.counted) h hne).trans (memWrite_readOnly ha)) rfl
  · intro s a addr h ha
    exact does_registerRead (busRead_flash (c := s.chip.counted) h ha) (answer_quiet s.chip _)
  · intro s a addr v r i j h ha hr hw h1 h2
    exact does_registerWrite ((busWrite_register (c := s.chip.counted) h ha hr).trans (regWrite_refused hw h1 h2)) rfl
  · intro s a addr r i j h ha hr hk
    exact does_registerRead ((busRead_register (c := s.chip.counted) h ha hr).trans (regRead_plain hk)) (answer_quiet s.chip _)
  · rintro s a p g addr n rfl hn h
    exact macBytes_read hn h
  · rintro s a addr v l rfl hmay hpcw hrefusal hcut
    exact ⟨does_registerWrite (busWrite_cut (c := s.chip.counted) hmay hpcw hrefusal hcut)
        ⟨rfl, rfl, frame_settle (SameRegs.of_regs rfl) rfl⟩,
      does_registerRead (busRead_cut (c := s.chip.counted) hmay hpcw hrefusal hcut) rfl⟩
  · intro s a addr v h
    exact ⟨does_registerWrite (busWrite_not_released (c := s.chip.counted) h) (counted_quiet s.chip),
      does_registerRead (busRead_not_released (c := s.chip.counted) h) (counted_quiet s.chip)⟩

/-! ## What a power-on reset leaves (R5, R559) -/

/-- A register that `resetRegs` does not list holds its row's reset value. -/
theorem reset_rd {r : RegRow} {i j : Nat} (h : r.addr i j ∉ [0x10000010, 0x10000018, 0x1000001C]) :
    State.reset.chip.rd r i j = BitVec.ofNat 32 r.reset := by
  simp only [List.mem_cons, List.not_mem_nil, or_false, not_or] at h
  obtain ⟨hcause, hstrap, hpwr⟩ := h
  simp [Chip.rd, State.reset, resetRegs, mget, Ne.symm hcause, Ne.symm hstrap, Ne.symm hpwr]

/-- The three registers that the release sets stand at the bottom of SYS, below every other block. -/
theorem reset_rd_above {r : RegRow} (h : 0x1000001C < r.base) (i j : Nat) :
    State.reset.chip.rd r i j = BitVec.ofNat 32 r.reset :=
  reset_rd (by simp only [List.mem_cons, List.not_mem_nil, or_false, not_or, RegRow.addr]; omega)

/-- No cause of a level-driven interrupt stands after the reset: the statuses of the DMA channels and the enables of the mailboxes
and the ports are 0. -/
theorem reset_level (n : Nat) : State.reset.chip.level n = false := by
  have hne : State.reset.chip.rd rQUE_NE_EN = 0 := reset_rd_above (by decide) 0 0
  have hstale : State.reset.chip.rd rQUE_STALE_EN = 0 := reset_rd_above (by decide) 0 0
  have hdma : ∀ i k, State.reset.chip.rb rDMA_STAT i 0 k = false := fun i k => by
    rw [Chip.rb, reset_rd_above (by decide) i 0]
    simp [rDMA_STAT, bit]
  have hport : ∀ p, State.reset.chip.rd rPIRQ_EN p = 0 := fun p => reset_rd_above (by decide) p 0
  unfold Chip.level
  split
  · simp [hne]
  · split
    · simp [hstale]
    · split
      · simp [hdma]
      · simp [hport]

theorem reset_settled : State.reset.settled := fun n _ => by
  rw [reset_level n]
  exact BitVec.getLsbD_zero

/-- Settles O59: the reset state lists three registers and nothing else. -/
theorem resetState : Obligations.reset_state :=
  ⟨rfl, wf_reset, rfl, reset_settled, rfl, rfl, rfl, rfl, reset_rd_above (by decide) 0 0, fun _ _ _ h => reset_rd h⟩

end Sys2Proof.Machine

/-! SUPPORT. What every command and every step has in common (spec/01): the effect a command takes by `run`, the queue it leaves
and the interrupts that follow the state by level. -/

namespace Sys2Proof.Machine

/-! ## Commands -/

/-- Every command is an effect on the module, carried out by `run`: none answers a fault or a refusal. -/
theorem exec_eq_run (i : Instr) (s : State) : ∃ f : Chip → Chip, exec i s = run f s := by
  cases i
  case workSubmit a m v => cases m <;> exact ⟨_, rfl⟩
  case commissioningWrite a r v => cases r <;> exact ⟨_, rfl⟩
  all_goals exact ⟨_, rfl⟩

theorem exec_completes (i : Instr) (s : State) : ∃ t : State, exec i s = .next t ∧ t.pending = s.pending ∧ t.settled := by
  obtain ⟨f, hf⟩ := exec_eq_run i s
  exact ⟨s.after f, hf, rfl, after_settled s f⟩

/-! ## Steps -/

theorem step_nil {s : State} (h : s.pending = []) : step s = run Chip.idle s := by
  simp only [step, h]

theorem step_cons {s : State} {i : Instr} {l : List Instr} (h : s.pending = i :: l) : step s = exec i { s with pending := l } := by
  simp only [step, h]

/-- A step takes the command at the front, if one waits, and settles the interrupts. -/
theorem step_completes (s : State) : ∃ t : State, step s = .next t ∧ t.pending = s.pending.drop 1 ∧ t.settled := by
  cases h : s.pending with
  | nil => exact ⟨s.after Chip.idle, step_nil h, h, after_settled s Chip.idle⟩
  | cons i l => rw [step_cons h]; exact exec_completes i { s with pending := l }

theorem step_settles {s t : State} (h : step s = .next t) : t.settled := by
  obtain ⟨u, hu, -, hset⟩ := step_completes s
  cases h.symm.trans hu
  exact hset

/-- A run of one step more begins with that step. -/
theorem run_succ_of_step {M : Host.Core} {s t : M.State} (k : Nat) (h : M.step s = .next t) : M.run (k + 1) s = M.run k t := by
  simp only [Host.Core.run, h]

/-- `k` steps take the first `k` commands, first in, first out. -/
theorem run_completes (k : Nat) (s : State) :
    ∃ t : State, core.run k s = .next t ∧ t.pending = s.pending.drop k ∧ (k ≠ 0 → t.settled) := by
  induction k generalizing s with
  | zero => exact ⟨s, rfl, rfl, fun h => absurd rfl h⟩
  | succ k ih =>
    obtain ⟨u, hu, hpend, hset⟩ := step_completes s
    obtain ⟨t, ht, hdrop, htset⟩ := ih u
    refine ⟨t, (run_succ_of_step (M := core) k hu).trans ht, by rw [hdrop, hpend, List.drop_drop, Nat.add_comm], fun _ => ?_⟩
    cases k with
    | zero => cases ht; exact hset
    | succ n => exact htset n.succ_ne_zero

/-- Settles O60, by induction on the number of steps. -/
theorem everyRunCompletes : Obligations.every_run_completes :=
  ⟨exec_completes, run_completes, fun _ _ _ => step_settles⟩

/-- Settles O58. -/
theorem stepRunsTheFrontCommand : Obligations.step_runs_the_front_command :=
  fun _ _ _ => step_cons rfl

end Sys2Proof.Machine

/-! SUPPORT. Bus errors (spec/01 R23, R31): what SYS_BUSERR_INFO and SYS_BUSERR_ADDR hold after one, and what else it leaves. -/

namespace Sys2Proof.Machine

/-! ## What the registers record -/

/-- SYS_BUSERR_INFO of a first bus error: VALID, OVERRUN `o` as it was, master, world, direction and cause (R31). -/
def busErrWord (o : Bool) (m : Master) (sec wr : Bool) (cause : Nat) : Word :=
  BitVec.ofNat 32 (2 ^ 31 + b2n o * 2 ^ 30 + masterId m * 2 ^ 20 + b2n sec * 2 ^ 19 + b2n wr * 2 ^ 18 + cause % 4 * 2 ^ 16)

theorem masterId_lt (m : Master) : masterId m < 16 := by cases m <;> decide

theorem b2n_le (b : Bool) : b2n b ≤ 1 := by cases b <;> decide

/-- A bit told by its number. -/
theorem bit_of_b2n {w : Word} {i : Nat} {b : Bool} (h : w.toNat / 2 ^ i % 2 = b2n b) : bit w i = b := by
  rw [bit, h]
  cases b <;> rfl

section BusErrWord

variable (o sec wr : Bool) (m : Master) (cause : Nat)

theorem toNat_busErrWord : (busErrWord o m sec wr cause).toNat
    = 2 ^ 31 + b2n o * 2 ^ 30 + masterId m * 2 ^ 20 + b2n sec * 2 ^ 19 + b2n wr * 2 ^ 18 + cause % 4 * 2 ^ 16 := by
  have := masterId_lt m
  have := b2n_le o
  have := b2n_le sec
  have := b2n_le wr
  rw [busErrWord, BitVec.toNat_ofNat, Nat.mod_eq_of_lt (by omega)]

theorem busErrWord_master : fld (busErrWord o m sec wr cause) 23 20 = masterId m := by
  have := masterId_lt m
  have := b2n_le o
  have := b2n_le sec
  have := b2n_le wr
  rw [fld, toNat_busErrWord]
  omega

theorem busErrWord_cause : fld (busErrWord o m sec wr cause) 17 16 = cause % 4 := by
  rw [fld, toNat_busErrWord]
  omega

theorem busErrWord_world : bit (busErrWord o m sec wr cause) 19 = sec := by
  have := b2n_le sec
  have := b2n_le wr
  refine bit_of_b2n ?_
  rw [toNat_busErrWord]
  omega

theorem busErrWord_write : bit (busErrWord o m sec wr cause) 18 = wr := by
  have := b2n_le wr
  refine bit_of_b2n ?_
  rw [toNat_busErrWord]
  omega

theorem busErrWord_overrun : bit (busErrWord o m sec wr cause) 30 = o := by
  have := masterId_lt m
  have := b2n_le o
  have := b2n_le sec
  have := b2n_le wr
  refine bit_of_b2n ?_
  rw [toNat_busErrWord]
  omega

theorem busErrWord_valid : bit (busErrWord o m sec wr cause) 31 = true := by
  have := masterId_lt m
  have := b2n_le o
  have := b2n_le sec
  have := b2n_le wr
  rw [bit, toNat_busErrWord, beq_iff_eq]
  omega

end BusErrWord

/-! ## What a bus error does to the module -/

/-- The module with the bus's answer of an error. -/
def Chip.busFail (c : Chip) : Chip := { c with rsp := { val := 0, err := true } }

@[simp] theorem Chip.busFail_regs (c : Chip) : c.busFail.regs = c.regs := .trans rfl rfl
@[simp] theorem Chip.busFail_irqs (c : Chip) : c.busFail.irqs = c.irqs := .trans rfl rfl
@[simp] theorem Chip.busFail_rsp (c : Chip) : c.busFail.rsp = { val := 0, err := true } := .trans rfl rfl
@[simp] theorem Chip.rest_busFail (c : Chip) : c.busFail.rest = c.rest := .trans rfl rfl

section BusErr

variable {c e : Chip} {l : List Nat} {m : Master} {sec wr : Bool} {addr : Word} {cause code : Nat}

/-- While VALID is 1 only OVERRUN is set (R31). -/
theorem busErr_of_valid (h : c.rb rBUSERR_INFO 0 0 31 = true) : c.busErr m sec wr addr cause
    = ((c.busFail.wb rBUSERR_INFO 0 0 30 true).log 0x00 (cause % 4 + 1) addr).irq 1 := by
  unfold Chip.busErr
  exact congrArg (fun x : Chip => (x.log 0x00 (cause % 4 + 1) addr).irq 1) (if_pos h)

/-- While VALID is 0 the error is recorded (R31). -/
theorem busErr_of_not_valid (h : c.rb rBUSERR_INFO 0 0 31 = false) : c.busErr m sec wr addr cause
    = (((c.busFail.wr rBUSERR_INFO 0 0 (busErrWord (c.rb rBUSERR_INFO 0 0 30) m sec wr cause)).wr rBUSERR_ADDR 0 0 addr).log
        0x00 (cause % 4 + 1) addr).irq 1 := by
  unfold Chip.busErr
  exact congrArg (fun x : Chip => (x.log 0x00 (cause % 4 + 1) addr).irq 1) (if_neg (ne_true_of_eq_false h))

theorem rd_reported {r : RegRow} {i j : Nat} (h : r.addr i j ∉ logRegs 0) : ((e.log 0x00 code addr).irq 1).rd r i j = e.rd r i j :=
  (Chip.rd_irq _ 1 r i j).trans (Chip.rd_log_other h)

/-- The report and the interrupt of a bus error that has been recorded in `e`, which differs from `c` in registers `l` alone. -/
theorem reported_of_recorded (hregs : SameRegs l c e) (hirqs : e.irqs = c.irqs) (hrest : e.rest = c.rest)
    (hctrl : rERR_CTRL.addr 0 0 ∉ l) :
    ((e.log 0x00 code addr).irq 1).irqs.getLsbD 1 = true ∧ Reports 0 code c ((e.log 0x00 code addr).irq 1)
    ∧ ((e.log 0x00 code addr).irq 1).rsp = e.rsp
    ∧ ((e.log 0x00 code addr).irq 1).rest = { c.rest with err := ((e.log 0x00 code addr).irq 1).err }
    ∧ Frame (l ++ logRegs 0) [1, 209] c ((e.log 0x00 code addr).irq 1) := by
  have herr : e.rest.err = c.rest.err := congrArg Chip.err hrest
  refine ⟨irq_irqs_same _ (by decide), (Reports.log 0 code addr (hregs.rd hctrl).symm herr (by decide)).irq 1, by simp, ?_, ?_, ?_⟩
  · rw [← hrest]
    exact rest_log e 0x00 code addr
  · exact (SameRegs.log (hregs.mono (by simp +contextual)) _ _ _ (by simp +contextual)).irq 1
  · exact SameIrqs.irq (SameIrqs.log (SameIrqs.of_irqs hirqs) _ _ _ (by decide)) (by decide)

theorem busErr_overruns (h : c.rb rBUSERR_INFO 0 0 31 = true) {d : Chip} (hd : d = c.busErr m sec wr addr cause) :
    d.rd rBUSERR_INFO = setBit (c.rd rBUSERR_INFO) 30 true ∧ d.rd rBUSERR_ADDR = c.rd rBUSERR_ADDR
    ∧ d.irqs.getLsbD 1 = true ∧ Reports 0 (cause % 4 + 1) c d ∧ d.rsp = { val := 0, err := true }
    ∧ d.rest = { c.rest with err := d.err } ∧ Frame (rBUSERR_INFO.addr 0 0 :: logRegs 0) [1, 209] c d := by
  rw [busErr_of_valid h] at hd
  subst hd
  have hregs : SameRegs [rBUSERR_INFO.addr 0 0] c (c.busFail.wb rBUSERR_INFO 0 0 30 true) :=
    (SameRegs.of_regs c.busFail_regs : SameRegs _ c c.busFail).wb 30 true (by simp)
  refine ⟨?_, ?_, reported_of_recorded hregs rfl rfl (by decide)⟩
  · exact (rd_reported (by decide)).trans (Chip.rd_wr_same ..)
  · exact (rd_reported (by decide)).trans (hregs.rd (by decide))

theorem busErr_recorded (h : c.rb rBUSERR_INFO 0 0 31 = false) {d : Chip} (hd : d = c.busErr m sec wr addr cause) :
    d.rf rBUSERR_INFO 0 0 23 20 = masterId m ∧ d.rb rBUSERR_INFO 0 0 19 = sec ∧ d.rb rBUSERR_INFO 0 0 18 = wr
    ∧ d.rf rBUSERR_INFO 0 0 17 16 = cause % 4 ∧ d.rb rBUSERR_INFO 0 0 31 = true
    ∧ d.rb rBUSERR_INFO 0 0 30 = c.rb rBUSERR_INFO 0 0 30 ∧ d.rd rBUSERR_ADDR = addr
    ∧ d.irqs.getLsbD 1 = true ∧ Reports 0 (cause % 4 + 1) c d ∧ d.rsp = { val := 0, err := true }
    ∧ d.rest = { c.rest with err := d.err }
    ∧ Frame (rBUSERR_INFO.addr 0 0 :: rBUSERR_ADDR.addr 0 0 :: logRegs 0) [1, 209] c d := by
  rw [busErr_of_not_valid h] at hd
  have hinfo : d.rd rBUSERR_INFO = busErrWord (c.rb rBUSERR_INFO 0 0 30) m sec wr cause := by
    rw [hd, rd_reported (by decide), Chip.rd_wr_other _ _ (by decide), Chip.rd_wr_same]
  have haddr : d.rd rBUSERR_ADDR = addr := by
    rw [hd, rd_reported (by decide), Chip.rd_wr_same]
  have hregs : SameRegs [rBUSERR_INFO.addr 0 0, rBUSERR_ADDR.addr 0 0] c
      ((c.busFail.wr rBUSERR_INFO 0 0 (busErrWord (c.rb rBUSERR_INFO 0 0 30) m sec wr cause)).wr rBUSERR_ADDR 0 0 addr) :=
    SameRegs.wr (SameRegs.wr (SameRegs.of_regs c.busFail_regs : SameRegs _ c c.busFail) _ (by simp)) _ (by simp)
  refine ⟨?_, ?_, ?_, ?_, ?_, ?_, haddr, ?_⟩
  · rw [Chip.rf, hinfo, busErrWord_master]
  · rw [Chip.rb, hinfo, busErrWord_world]
  · rw [Chip.rb, hinfo, busErrWord_write]
  · rw [Chip.rf, hinfo, busErrWord_cause]
  · rw [Chip.rb, hinfo, busErrWord_valid]
  · rw [Chip.rb, hinfo, busErrWord_overrun]
  · subst hd
    simpa using reported_of_recorded hregs (by simp) (by simp) (by decide)

end BusErr

/-! ## A refused access -/

theorem busWrite_refused {c : Chip} {a : Access} {addr v : Word} {cause : Nat} (hmay : c.mayAccess a = true)
    (hpcw : inPcw a (wordAddr addr) = false) (hrefusal : c.refusal a (wordAddr addr) = some cause) :
    c.busWrite a addr v = c.busErr a.master (c.worldS a) true addr cause := by
  simp [Chip.busWrite, hmay, hpcw, hrefusal]

theorem busRead_refused {c : Chip} {a : Access} {addr : Word} {cause : Nat} (hmay : c.mayAccess a = true)
    (hpcw : inPcw a (wordAddr addr) = false) (hrefusal : c.refusal a (wordAddr addr) = some cause) :
    c.busRead a addr = c.busErr a.master (c.worldS a) false addr cause := by
  simp [Chip.busRead, hmay, hpcw, hrefusal]

/-- Settles O56: the record by VALID, and the two refused accesses. -/
theorem busErrorsRecorded : Obligations.bus_errors_recorded := by
  refine ⟨fun c d m sec wr addr cause hd h => busErr_overruns h hd, fun c d m sec wr addr cause hd h => busErr_recorded h hd, ?_⟩
  intro s a addr v cause hmay hpcw hrefusal
  exact ⟨does_registerWrite (busWrite_refused (c := s.chip.counted) hmay hpcw hrefusal) rfl,
    does_registerRead (busRead_refused (c := s.chip.counted) hmay hpcw hrefusal) rfl⟩

end Sys2Proof.Machine

/-! SUPPORT. Frames with a view of what stands beside registers and interrupts, and the frames of the TIME block's edges, of the
servo's states and of the loss of its parent (spec/02 R45, R56..R58, R65, R67). -/

namespace Sys2Proof.Machine

/-! ## Frames with a view -/

/-- `c'` holds what `c` does in every register outside `rs`, at every source outside `is` that does not follow the state by level,
and in what `g` shows of the rest. -/
structure Chip.Keeps {α : Type} (g : Chip → α) (rs is : List Nat) (c c' : Chip) : Prop where
  sameRegs : SameRegs rs c c'
  sameIrqs : SameIrqs is c c'
  sameView : g c'.rest = g c.rest

namespace Chip.Keeps

variable {α : Type} {g : Chip → α} {rs is rs' is' : List Nat} {a c d : Chip}

theorem refl : c.Keeps g rs is c := ⟨.refl rs c, .refl is c, rfl⟩

theorem trans (h : a.Keeps g rs is c) (k : c.Keeps g rs is d) : a.Keeps g rs is d :=
  ⟨h.sameRegs.trans k.sameRegs, h.sameIrqs.trans k.sameIrqs, k.sameView.trans h.sameView⟩

theorem mono (h : a.Keeps g rs is c) (hr : ∀ n ∈ rs, n ∈ rs') (hi : ∀ n ∈ is, n ∈ is') : a.Keeps g rs' is' c :=
  ⟨h.sameRegs.mono hr, h.sameIrqs.mono hi, h.sameView⟩

/-- A view of the view. -/
theorem view {β : Type} {g' : Chip → β} (h : a.Keeps g rs is c) (p : α → β) (hp : ∀ r, g' r = p (g r)) : a.Keeps g' rs is c :=
  ⟨h.sameRegs, h.sameIrqs, by rw [hp, hp, h.sameView]⟩

/-- What can be told from the view is the same. -/
theorem same {β : Type} {g : Chip → Chip} (h : a.Keeps g rs is c) (p : Chip → β) (hp : ∀ r : Chip, p (g r.rest) = p r) : p c = p a := by
  rw [← hp, ← hp a, h.sameView]

/-- An update of neither registers nor interrupts, which the view does not show. -/
theorem of_eq (h : a.Keeps g rs is c) (er : d.regs = c.regs) (ei : d.irqs = c.irqs) (ev : g d.rest = g c.rest) : a.Keeps g rs is d :=
  ⟨h.sameRegs.of_eq er, h.sameIrqs.of_eq ei, ev.trans h.sameView⟩

theorem wr (h : a.Keeps g rs is c) {r : RegRow} {i j : Nat} (v : Word) (m : r.addr i j ∈ rs) : a.Keeps g rs is (c.wr r i j v) :=
  ⟨h.sameRegs.wr v m, h.sameIrqs.wr r i j v, by rw [Chip.rest_wr]; exact h.sameView⟩

theorem wb (h : a.Keeps g rs is c) {r : RegRow} {i j : Nat} (k : Nat) (v : Bool) (m : r.addr i j ∈ rs) : a.Keeps g rs is (c.wb r i j k v) :=
  h.wr _ m

theorem wf (h : a.Keeps g rs is c) {r : RegRow} {i j : Nat} (hi lo v : Nat) (m : r.addr i j ∈ rs) : a.Keeps g rs is (c.wf r i j hi lo v) :=
  h.wr _ m

theorem incSat (h : a.Keeps g rs is c) {r : RegRow} {i j : Nat} (n : Nat) (m : r.addr i j ∈ rs) : a.Keeps g rs is (c.incSat r i j n) :=
  h.wr _ m

theorem irq (h : a.Keeps g rs is c) {n : Nat} (m : n ∈ is) : a.Keeps g rs is (c.irq n) :=
  ⟨h.sameRegs.irq n, h.sameIrqs.irq m, by rw [Chip.rest_irq]; exact h.sameView⟩

/-- A report, where the view does not show the reports. -/
theorem log (h : a.Keeps g rs is c) {src code : Nat} {x : Word} (hg : ∀ r e, g { r with err := e } = g r)
    (m : ∀ n ∈ logRegs src, n ∈ rs) (mi : 209 ∈ is) : a.Keeps g rs is (c.log src code x) :=
  ⟨h.sameRegs.log src code x m, h.sameIrqs.log src code x mi, by rw [rest_log, hg]; exact h.sameView⟩

/-- What each turn of a fold keeps, the fold keeps. -/
theorem each {β : Type} (h : a.Keeps g rs is c) (l : List β) (f : Chip → β → Chip)
    (hf : ∀ (e : Chip) x, x ∈ l → e.Keeps g rs is (f e x)) : a.Keeps g rs is (c.each l f) :=
  Chip.each_ind l f (fun e x hx he => he.trans (hf e x hx)) c h

theorem ite {p : Prop} [Decidable p] (h : a.Keeps g rs is c) (k : a.Keeps g rs is d) : a.Keeps g rs is (if p then c else d) := by
  split
  · exact h
  · exact k

theorem when (h : a.Keeps g rs is c) {ok : Bool} {f : Chip → Chip} (hf : ok = true → a.Keeps g rs is (f c)) :
    a.Keeps g rs is (c.when ok f) := by
  unfold Chip.when
  split
  · next hok => exact hf hok
  · exact h

end Chip.Keeps

/-! ## Edges and the servo's states (R56..R58, R65, R67) -/

/-- The module beside reports and the TIME block, and of that the servo's parent. -/
def servoView (r : Chip) : Chip × Option Foreign := ({ r with err := {}, time := {} }, r.time.servo.parent)

theorem servoView_err (r : Chip) (e : ErrSt) : servoView { r with err := e } = servoView r := rfl

/-- The frame of what a change of the servo's state does. -/
abbrev Chip.KeepsServo (c c' : Chip) : Prop := c.Keeps servoView servoRegs servoIrqs c'

theorem Chip.KeepsServo.parent {c c' : Chip} (h : c.KeepsServo c') : c'.time.servo.parent = c.time.servo.parent :=
  congrArg Prod.snd h.sameView

theorem evtPush_keeps (c : Chip) (kind unit : Nat) (body : BitVec 80) : c.KeepsServo (c.evtPush kind unit body) := by
  refine .ite (.irq (.log (.incSat .refl 1 ?_) servoView_err ?_ ?_) ?_) (.of_eq .refl rfl rfl rfl) <;> decide

theorem capture_keeps (c : Chip) {u : Nat} (hu : u < 8) (src now : Nat) : c.KeepsServo (c.capture u src now) :=
  have hirq : 20 + u ∈ servoIrqs := by simp only [servoIrqs, List.mem_cons]; omega
  .ite ((evtPush_keeps ..).irq hirq) (evtPush_keeps ..)

theorem edgeAt_keeps (c : Chip) (src : Nat) (rising : Bool) (now : Nat) {u : Nat} (hu : u < 8) :
    c.KeepsServo (c.edgeAt src rising now u) := by
  refine .ite (.ite (.trans ?_ (capture_keeps _ hu src now)) ?_) .refl <;> exact .of_eq .refl rfl rfl rfl

theorem edge_keeps (c : Chip) (src : Nat) (rising : Bool) (now : Nat) : c.KeepsServo (c.edge src rising now) :=
  .each .refl _ _ fun e _ hu => edgeAt_keeps e src rising now (List.mem_range.mp hu)

theorem ppsLow_keeps (c : Chip) : c.KeepsServo c.ppsLow := by
  unfold Chip.ppsLow
  refine .ite (.trans ?_ (edge_keeps _ 10 false _)) .refl
  exact .of_eq .refl rfl rfl rfl

theorem ppsRise_keeps (c : Chip) : c.KeepsServo c.ppsRise := by
  have hpulse : c.KeepsServo { c with time := { c.time with ppsPulse := true } } := .of_eq .refl rfl rfl rfl
  unfold Chip.ppsRise
  refine .ite (.trans ?_ (edge_keeps _ 10 true _)) hpulse
  exact .of_eq (hpulse.irq (n := 30) (by decide)) rfl rfl rfl

theorem ppsGate_keeps (c : Chip) : c.KeepsServo c.ppsGate :=
  .ite (ppsLow_keeps c) (.ite (ppsRise_keeps c) .refl)

theorem servoState_keeps (c : Chip) (old new : Nat) : c.KeepsServo (c.servoState old new) := by
  have hold : c.KeepsServo (if new = 3 then { c with time := { c.time with servo := { c.time.servo with holdStart := c.now } } } else c) :=
    .ite (.of_eq .refl rfl rfl rfl) .refl
  unfold Chip.servoState
  refine .ite .refl (.trans (.irq ?_ (n := 16) (by decide)) (ppsGate_keeps _))
  exact .ite (hold.log servoView_err (by decide) (by decide)) hold

theorem servoEnter_keeps (c : Chip) (st : Nat) : c.KeepsServo (c.servoEnter st) := by
  unfold Chip.servoEnter Chip.setServoState
  refine .trans (.wf ?_ 2 0 st (by decide)) (servoState_keeps ..)
  exact .of_eq .refl rfl rfl rfl

/-! ## The parent lost (R45) -/

/-- The module beside reports and the TIME block. -/
def timelessView (r : Chip) : Chip := { r with err := {}, time := {} }

theorem parentLost_keeps (c : Chip) : c.Keeps timelessView (rTIME_ADDEND.addr 0 0 :: servoRegs) servoIrqs c.parentLost := by
  unfold Chip.parentLost
  split
  · exact .refl
  · refine .trans (.wr ?_ _ (by simp)) (.mono (.view (servoEnter_keeps _ 3) Prod.fst fun _ => rfl) (by simp +contextual) fun _ h => h)
    exact .of_eq .refl rfl rfl rfl

theorem parentLost_parent (c : Chip) : c.parentLost.time.servo.parent = none := by
  unfold Chip.parentLost
  split
  · assumption
  · exact (servoEnter_keeps _ 3).parent

end Sys2Proof.Machine

/-! SUPPORT. The frames of the pair's states (spec/12 R368, R369, R389), and what a unit that has lost the clock of its Corridor goes on
with (R366). -/

namespace Sys2Proof.Machine

/-! ## CDR_STATUS.STATE -/

theorem pairState_congr {c c' : Chip} (h : c'.rd rCDR_STATUS = c.rd rCDR_STATUS) : c'.pairState = c.pairState := by
  simp only [Chip.pairState, Chip.rf, h]

theorem Chip.Keeps.pairState {α : Type} {g : Chip → α} {rs is : List Nat} {c c' : Chip} (h : c.Keeps g rs is c')
    (m : rCDR_STATUS.addr 0 0 ∉ rs) : c'.pairState = c.pairState := pairState_congr (h.sameRegs.rd m)

theorem rCDR_STATUS_notLog (src : Nat) : rCDR_STATUS.addr 0 0 ∉ logRegs src := by
  simp [logRegs, RegRow.addr, rCDR_STATUS, rERR_LOST, rERR_STATUS]
  omega

section PairState

variable (c : Chip)

@[simp] theorem pairState_log (src code : Nat) (d : Word) : (c.log src code d).pairState = c.pairState :=
  pairState_congr (Chip.rd_log_other (rCDR_STATUS_notLog src))

@[simp] theorem pairState_irq (n : Nat) : (c.irq n).pairState = c.pairState := pairState_congr (Chip.rd_irq ..)

@[simp] theorem pairState_setCdr (x : CdrSt) : (c.setCdr x).pairState = c.pairState := pairState_congr (Chip.rd_setCdr ..)

theorem pairState_wr {r : RegRow} {i j : Nat} (v : Word) (h : r.addr i j ≠ rCDR_STATUS.addr 0 0) : (c.wr r i j v).pairState = c.pairState :=
  pairState_congr (Chip.rd_wr_other c v h.symm)

/-- The bits of CDR_STATUS above STATE. -/
theorem pairState_wb {k : Nat} (v : Bool) (h : 3 ≤ k) : (c.wb rCDR_STATUS 0 0 k v).pairState = c.pairState := by
  rw [Chip.pairState, Chip.rf, Chip.wb, Chip.rd_wr_same, fld_setBit_other _ _ (by omega)]
  rfl

theorem pairState_wf {st : Nat} (h : st < 8) : (c.wf rCDR_STATUS 0 0 2 0 st).pairState = st := by
  rw [Chip.pairState, Chip.rf, Chip.wf, Chip.rd_wr_same, fld_setFld_same _ _ (by omega)]
  exact Nat.mod_eq_of_lt h

theorem pairState_lt : c.pairState < 8 := Nat.mod_lt _ (by decide)

@[simp] theorem pairState_bulkStop : c.bulkStop.pairState = c.pairState := by
  rw [Chip.bulkStop, Chip.wb, pairState_wr _ _ (by decide), pairState_setCdr]

@[simp] theorem pairState_versionCheck : c.versionCheck.pairState = c.pairState := by
  unfold Chip.versionCheck
  split
  · rw [pairState_irq, pairState_log, pairState_wb _ _ (by decide)]
  · rfl

theorem pairState_setPair_syncing : (c.setPair 2).pairState = 2 := by
  unfold Chip.setPair
  split
  · assumption
  · rw [if_pos rfl, if_neg (by decide), pairState_versionCheck, pairState_wb _ _ (by decide)]
    simp [pairState_wf]

end PairState

/-! ## The clock of the Corridor lost (R366) -/

/-- The module beside reports, the pair logic and the ports. -/
def pairView (r : Chip) : Chip := { r with err := {}, cdr := {}, ports := [] }

/-- The registers a unit that enters SYNCING can change. -/
def syncingRegs : List Nat := [rCDR_SWAP.addr 0 0, rCDR_STATUS.addr 0 0, rCDR_BULK.addr 0 0] ++ logRegs 0x0D

/-- The frame of a unit's way into SYNCING. -/
abbrev Chip.KeepsPair (c c' : Chip) : Prop := c.Keeps pairView syncingRegs [176, 209] c'

theorem Chip.Keeps.setCdr {rs is : List Nat} {a c : Chip} (h : a.Keeps pairView rs is c) (x : CdrSt) : a.Keeps pairView rs is (c.setCdr x) :=
  h.of_eq rfl rfl rfl

theorem pairView_err (r : Chip) (e : ErrSt) : pairView { r with err := e } = pairView r := rfl

theorem swapRefuse_keeps (c : Chip) : c.KeepsPair c.swapRefuse := by
  refine .log (.wb (.wb (.setCdr .refl _) 31 false ?_) 15 false ?_) pairView_err ?_ ?_ <;> decide

theorem bulkStop_keeps (c : Chip) : c.KeepsPair c.bulkStop :=
  .wb (.setCdr .refl _) 31 false (by decide)

theorem versionCheck_keeps (c : Chip) : c.KeepsPair c.versionCheck := by
  refine .ite (.irq (.log (.wb .refl 14 true ?_) pairView_err ?_ ?_) ?_) .refl <;> decide

theorem setPair_syncing_keeps (c : Chip) : c.KeepsPair (c.setPair 2) := by
  have hstate : c.KeepsPair (((c.wf rCDR_STATUS 0 0 2 0 2).log 0x0D 0xD0).irq 176) := by
    refine .irq (.log (.wf .refl 2 0 2 ?_) pairView_err ?_ ?_) ?_ <;> decide
  unfold Chip.setPair
  refine .ite .refl ?_
  rw [if_pos rfl, if_neg (by decide)]
  refine .trans (.wb ?_ 13 false (by decide)) (versionCheck_keeps _)
  exact (((hstate.setCdr _).trans (bulkStop_keeps _)).setCdr _).setCdr _

theorem pairDrop_keeps (c : Chip) : c.KeepsPair c.pairDrop := by
  have hswap : c.KeepsPair (if c.cdr.swap.isSome then c.swapRefuse else c) := .ite (swapRefuse_keeps c) .refl
  unfold Chip.pairDrop
  refine .ite .refl (.trans (.each hswap _ _ fun e p _ => ?_) (setPair_syncing_keeps _))
  exact .of_eq .refl rfl rfl rfl

theorem pairDrop_of_unpaired {c : Chip} (h : c.pairState < 3) : c.pairDrop = c := if_pos h

/-- A unit beyond JOINING goes on in SYNCING. -/
theorem pairState_pairDrop (c : Chip) : c.pairDrop.pairState = if c.pairState < 3 then c.pairState else 2 := by
  split
  · next h => rw [pairDrop_of_unpaired h]
  · next h =>
    unfold Chip.pairDrop
    rw [if_neg h]
    exact pairState_setPair_syncing _

end Sys2Proof.Machine

/-! SUPPORT. A clock domain that loses lock and regains it (spec/01 R30): the bit's fall, the reset of the domain's blocks, and the
record of the loss. -/

namespace Sys2Proof.Machine

/-! ## MAC addresses from the fuses (R480) -/

/-- MAC_ADDR of the Ethernet ports `l`. -/
def macRegs (l : List Nat) : List Nat := l.flatMap fun p => [rMAC_ADDR_LO.addr p 0, rMAC_ADDR_HI.addr p 0]

theorem mem_macRegs {l : List Nat} {n : Nat} : n ∈ macRegs l ↔ ∃ p ∈ l, n = rMAC_ADDR_LO.addr p 0 ∨ n = rMAC_ADDR_HI.addr p 0 := by
  simp [macRegs]

theorem loadMacAddr_keeps (c : Chip) (l : List Nat) : c.Keeps id (macRegs l) [] (c.each l Chip.loadMacAddr) :=
  .each .refl _ _ fun _ p hp => .wr (.wr .refl _ (mem_macRegs.mpr ⟨p, hp, .inl rfl⟩)) _ (mem_macRegs.mpr ⟨p, hp, .inr rfl⟩)

/-- What stands beside registers and interrupts is as it was. -/
theorem loadMacAddr_view {α : Type} (g : Chip → α) (hg : ∀ r : Chip, g r.rest = g r) (c : Chip) (l : List Nat) :
    g (c.each l Chip.loadMacAddr) = g c := (loadMacAddr_keeps c l).same g hg

theorem loadMacAddr_irqs (c : Chip) (l : List Nat) : (c.each l Chip.loadMacAddr).irqs = c.irqs :=
  Chip.each_ind (P := fun e => e.irqs = c.irqs) l Chip.loadMacAddr (fun _ _ _ h => h) c rfl

/-! ## The blocks of a domain at their reset state -/

/-- The Ethernet ports that go with bit `b` of SYS_CLKSTAT. -/
def lockMacs (b : Nat) : List Nat := [0, 1, 2].filter fun p => b = 0 || p + 3 = b

/-- What a loss of bit `b` keeps of the registers. -/
def lockSpares (b n : Nat) : Bool := !lockBlocks b n || (b = 15 && pairKept n)

/-- The processors, blocks of SYS, go with bit `b` (R17). -/
def lockSys (b : Nat) : Bool := b = 0 || b = 1 || b = 2

theorem lockSys_iff {b : Nat} : lockSys b = true ↔ b ≤ 2 := by simp [lockSys]; omega

section LockReset

variable {c : Chip} {b : Nat}

theorem lockReset_regs {n : Nat} (h : n ∉ macRegs (lockMacs b)) (d : Word) :
    mget d (c.lockReset b).regs n = if lockSpares b n then mget d c.regs n else d :=
  ((loadMacAddr_keeps _ (lockMacs b)).sameRegs n h d).trans (mget_filter d (lockSpares b) c.regs n)

theorem lockReset_irqs : (c.lockReset b).irqs = c.irqs := by
  unfold Chip.lockReset
  exact loadMacAddr_irqs ..

theorem lockReset_held : (c.lockReset b).held = c.held := by
  unfold Chip.lockReset
  exact loadMacAddr_view Chip.held (fun _ => rfl) ..

theorem lockReset_mem : (c.lockReset b).mem = c.mem := by
  unfold Chip.lockReset
  exact loadMacAddr_view Chip.mem (fun _ => rfl) ..

theorem lockReset_pwr : (c.lockReset b).pwr = c.pwr := by
  unfold Chip.lockReset
  exact loadMacAddr_view Chip.pwr (fun _ => rfl) ..

theorem lockReset_boot : (c.lockReset b).boot =
    if lockSys b then
      { flashOp := c.boot.flashOp, abandoned := c.boot.abandoned, badSectors := c.boot.badSectors
        runslotWritten := c.boot.runslotWritten, wdogOnce := c.boot.wdogOnce }
    else c.boot := by
  unfold Chip.lockReset
  exact loadMacAddr_view Chip.boot (fun _ => rfl) ..

theorem lockReset_upd : (c.lockReset b).upd = if lockSys b then {} else c.upd := by
  unfold Chip.lockReset
  exact loadMacAddr_view Chip.upd (fun _ => rfl) ..

theorem lockReset_vlt : (c.lockReset b).vlt = if lockSys b then {} else c.vlt := by
  unfold Chip.lockReset
  exact loadMacAddr_view Chip.vlt (fun _ => rfl) ..

theorem lockReset_dop (h : lockSys b = true) : (c.lockReset b).dop = {} := by
  unfold Chip.lockReset
  exact (loadMacAddr_view Chip.dop (fun _ => rfl) ..).trans (if_pos h)

theorem lockReset_fuses : (c.lockReset b).fuses = if lockSys b then c.fusesCut else c.fuses := by
  unfold Chip.lockReset
  exact loadMacAddr_view Chip.fuses (fun _ => rfl) ..

theorem lockReset_time : (c.lockReset b).time =
    if b = 0 || b = 6 then {} else if lockSys b then { c.time with servo := {} } else c.time := by
  unfold Chip.lockReset
  exact loadMacAddr_view Chip.time (fun _ => rfl) ..

/-- The servo's parent goes with NC and with TIME; another domain's loss leaves it. -/
theorem lockReset_parent : (c.lockReset b).time.servo.parent = if b ≤ 2 ∨ b = 6 then none else c.time.servo.parent := by
  rw [lockReset_time]
  split
  · next h => rw [if_pos (by simp at h; omega)]
  · next h =>
    split
    · next hs => rw [if_pos (.inl (lockSys_iff.mp hs))]
    · next hs => rw [if_neg (by rw [lockSys_iff] at hs; simp at h; omega)]

end LockReset

/-! ## The fall of the bit (R30) -/

section Lock

variable {c : Chip} {b : Fin 18}

/-- Before the blocks' reset: the bit of SYS_CLKSTAT falls, interrupt 2 is raised, and a unit leaves STANDBY or ACTIVE with CDR's clock. -/
def Chip.lockFall (c : Chip) (b : Fin 18) : Chip := ((c.wb rCLKSTAT 0 0 b false).irq 2).when (b.val = 15) Chip.pairDrop

/-- CDR_STATUS.STATE kept at `st`. -/
def Chip.pairStays (c : Chip) (st : Nat) : Chip := c.when (st ≠ 0) fun c => c.wf rCDR_STATUS 0 0 2 0 st

/-- The blocks' reset, in which the pair's state stands. -/
def Chip.lockHold (c : Chip) (b : Fin 18) : Chip := (c.lockReset b).pairStays (if b.val = 15 then c.pairState else 0)

/-- After it, the parent heard on the MAC is lost. -/
def Chip.parentGone (c : Chip) (b : Fin 18) : Chip := c.when (c.time.servo.parent.any fun f => f.port + 3 = b.val) Chip.parentLost

/-- CEL_STATUS shows what the Cellar kept. -/
def Chip.lockShow (c : Chip) (b : Fin 18) : Chip := if b.val = 0 || b.val = 7 then (c.parentGone b).celRetain else c.parentGone b

/-- The domain is held, and the loss is reported. -/
def Chip.lockReport (c : Chip) (b : Fin 18) : Chip := ({ c with held := c.held ||| (1#18 <<< b.val) }).log 0x00 0x05 (BitVec.ofNat 32 b)

/-! ### Before the reset -/

theorem lockFall_keeps (c : Chip) (b : Fin 18) : c.Keeps pairView (rCLKSTAT.addr 0 0 :: syncingRegs) [2, 176, 209] (c.lockFall b) := by
  have hfall : c.Keeps pairView (rCLKSTAT.addr 0 0 :: syncingRegs) [2, 176, 209] ((c.wb rCLKSTAT 0 0 b false).irq 2) :=
    .irq (.wb .refl _ _ (by simp)) (by simp)
  exact hfall.when fun _ => hfall.trans ((pairDrop_keeps _).mono (by simp +contextual) (by simp +contextual))

theorem lockFall_irq (c : Chip) (b : Fin 18) : (c.lockFall b).irqs.getLsbD 2 = true := by
  have hfall : ((c.wb rCLKSTAT 0 0 b false).irq 2).irqs.getLsbD 2 = true := irq_irqs_same _ (by decide)
  unfold Chip.lockFall Chip.when
  split
  · exact ((pairDrop_keeps _).sameIrqs 2 (by decide) (by decide)).trans hfall
  · exact hfall

theorem lockFall_view {α : Type} (g : Chip → α) (hg : ∀ r : Chip, g (pairView r.rest) = g r) : g (c.lockFall b) = g c :=
  (lockFall_keeps c b).same g hg

theorem pairState_clkstat (c : Chip) (b : Fin 18) : ((c.wb rCLKSTAT 0 0 b false).irq 2).pairState = c.pairState := by
  rw [pairState_irq, Chip.wb, pairState_wr _ _ (by decide)]

theorem lockFall_of_unpaired (h : b.val = 15 → c.pairState < 3) : c.lockFall b = (c.wb rCLKSTAT 0 0 b false).irq 2 := by
  unfold Chip.lockFall Chip.when
  split
  · next hb => exact pairDrop_of_unpaired ((pairState_clkstat c b).trans_lt (h (of_decide_eq_true hb)))
  · rfl

theorem pairState_lockFall (h : b.val = 15) : (c.lockFall b).pairState = if c.pairState < 3 then c.pairState else 2 := by
  rw [Chip.lockFall, Chip.when, if_pos (decide_eq_true h), pairState_pairDrop, pairState_clkstat]

/-! ### The reset -/

theorem pairStays_keeps (c : Chip) (st : Nat) : c.Keeps id [rCDR_STATUS.addr 0 0] [] (c.pairStays st) :=
  .when .refl fun _ => .wf .refl 2 0 st (by simp)

theorem pairStays_irqs (c : Chip) (st : Nat) : (c.pairStays st).irqs = c.irqs := by
  unfold Chip.pairStays Chip.when
  split <;> rfl

theorem pairState_pairStays {st : Nat} (hst : st < 8) (h : c.pairState = 0) : (c.pairStays st).pairState = st := by
  unfold Chip.pairStays Chip.when
  split
  · exact pairState_wf _ hst
  · next hz => rw [h]; exact (show st = 0 by simpa using hz).symm

theorem lockHold_view {α : Type} (g : Chip → α) (hg : ∀ r : Chip, g r.rest = g r) : g (c.lockHold b) = g (c.lockReset b) :=
  (pairStays_keeps ..).same g hg

theorem lockHold_irqs : (c.lockHold b).irqs = c.irqs := (pairStays_irqs ..).trans lockReset_irqs

theorem lockHold_regs {n : Nat} (hmac : n ∉ macRegs (lockMacs b)) (hcdr : b.val = 15 → n ≠ rCDR_STATUS.addr 0 0) (d : Word) :
    mget d (c.lockHold b).regs n = if lockSpares b n then mget d c.regs n else d := by
  rw [← lockReset_regs hmac d, Chip.lockHold]
  split
  · next hb => exact (pairStays_keeps ..).sameRegs n (by simpa using hcdr hb) d
  · rfl

theorem lockReset_status (c : Chip) : (c.lockReset 15).pairState = 0 := by
  have hreset : (c.lockReset 15).rd rCDR_STATUS = 0 := (lockReset_regs (by decide) _).trans (if_neg (by decide))
  rw [Chip.pairState, Chip.rf, hreset]
  rfl

/-- The pair's state stands with the loss of CDR's clock. -/
theorem pairState_lockHold (h : b.val = 15) : (c.lockHold b).pairState = c.pairState := by
  rw [Chip.lockHold, if_pos h, h]
  exact pairState_pairStays (pairState_lt c) (lockReset_status c)

/-! ### After the reset -/

theorem celRetain_keeps (c : Chip) : c.Keeps id [rCEL_STATUS.addr 0 0] [] c.celRetain :=
  .ite (.wb .refl 1 true (by simp)) .refl

theorem parentGone_of_elsewhere (h : ∀ f, c.time.servo.parent = some f → f.port + 3 ≠ b.val) : c.parentGone b = c := by
  refine if_neg ?_
  cases hp : c.time.servo.parent with
  | none => simp
  | some f => simpa using h f hp

theorem parentGone_parent (h : ∀ f, c.time.servo.parent = some f → f.port + 3 = b.val) : (c.parentGone b).time.servo.parent = none := by
  unfold Chip.parentGone Chip.when
  split
  · exact parentLost_parent c
  · next hany =>
    cases hp : c.time.servo.parent with
    | none => rfl
    | some f => simp [hp, h f hp] at hany

/-- The registers and interrupts that the loss of the parent and CEL_STATUS can touch. -/
theorem lockShow_keeps (c : Chip) (b : Fin 18) :
    c.Keeps timelessView (rCEL_STATUS.addr 0 0 :: rTIME_ADDEND.addr 0 0 :: servoRegs) servoIrqs (c.lockShow b) := by
  have hparent : c.Keeps timelessView (rCEL_STATUS.addr 0 0 :: rTIME_ADDEND.addr 0 0 :: servoRegs) servoIrqs (c.parentGone b) :=
    .when .refl fun _ => (parentLost_keeps c).mono (by simp +contextual) fun _ h => h
  exact .ite (hparent.trans (((celRetain_keeps _).view timelessView fun _ => rfl).mono (by simp) (by simp))) hparent

/-- A parent heard on no port that goes stays. -/
theorem lockShow_quiet (h : ∀ f, c.time.servo.parent = some f → f.port + 3 ≠ b.val) :
    c.Keeps id (if b.val = 0 ∨ b.val = 7 then [rCEL_STATUS.addr 0 0] else []) [] (c.lockShow b) := by
  rw [Chip.lockShow, parentGone_of_elsewhere h]
  by_cases hb : b.val = 0 ∨ b.val = 7
  · rw [if_pos hb, if_pos (by simpa using hb)]
    exact celRetain_keeps c
  · rw [if_neg hb, if_neg (by simpa using hb)]
    exact .refl

/-- The parent heard on the MAC that goes is lost. -/
theorem lockShow_parent (h : ∀ f, c.time.servo.parent = some f → f.port + 3 = b.val) : (c.lockShow b).time.servo.parent = none := by
  unfold Chip.lockShow
  split
  · exact ((celRetain_keeps _).same (·.time.servo.parent) fun _ => rfl).trans (parentGone_parent h)
  · exact parentGone_parent h

/-- The module beside reports, the TIME block and the domains held. -/
def lockView (r : Chip) : Chip := { r with err := {}, time := {}, held := 0 }

theorem lockReport_keeps (c : Chip) (b : Fin 18) : c.Keeps lockView (logRegs 0) [209] (c.lockReport b) := by
  refine .log ?_ (fun _ _ => rfl) ?_ ?_
  · exact .of_eq .refl rfl rfl rfl
  all_goals simp

theorem lockReport_held (c : Chip) (b : Fin 18) : (c.lockReport b).held = c.held ||| (1#18 <<< b.val) := Chip.log_held ..

theorem lockReport_time (c : Chip) (b : Fin 18) : (c.lockReport b).time = c.time := Chip.log_time ..

/-! ### The whole of it -/

/-- What the fall of bit `b` leaves of a running module. -/
def Chip.lockLost (c : Chip) (b : Fin 18) : Chip := (((c.lockFall b).lockHold b).lockShow b).lockReport b

theorem does_pllLockLost {s : State} {P : Chip → Prop} (hrun : s.chip.pwr.phase = .running) (hlock : s.chip.rb rCLKSTAT 0 0 b = true)
    (h : P (settle (s.chip.counted.lockLost b))) : Does s (exec (.pllLockLost b) s) P := by
  refine does_run (f := fun c => if c.pwr.phase == .running && c.rb rCLKSTAT 0 0 b then c.lockLost b else c) ?_
  have hif : (s.chip.counted.pwr.phase == .running && s.chip.counted.rb rCLKSTAT 0 0 b) = true := by
    rw [show s.chip.counted.pwr.phase = .running from hrun]
    exact hlock
  rw [if_pos hif]
  exact h

theorem lockLost_held : (c.lockLost b).held = c.held ||| (1#18 <<< b.val) := by
  rw [Chip.lockLost, lockReport_held, (lockShow_keeps _ b).same Chip.held fun _ => rfl, lockHold_view Chip.held fun _ => rfl,
    lockReset_held, lockFall_view Chip.held fun _ => rfl]

/-- What the view shows is as the reset of the blocks leaves it. -/
theorem lockLost_view {α : Type} (g : Chip → α) (hg : ∀ r : Chip, g (lockView r.rest) = g r) :
    g (c.lockLost b) = g ((c.lockFall b).lockReset b) := by
  have hrest : ∀ r : Chip, g r.rest = g r := fun r => (hg r.rest).symm.trans (hg r)
  rw [Chip.lockLost, (lockReport_keeps _ b).same g hg, ((lockShow_keeps _ b).view lockView fun _ => rfl).same g hg,
    lockHold_view g hrest]

theorem lockLost_irq : (c.lockLost b).irqs.getLsbD 2 = true := by
  rw [Chip.lockLost, (lockReport_keeps _ b).sameIrqs 2 (by decide) (by decide), (lockShow_keeps _ b).sameIrqs 2 (by decide) (by decide),
    lockHold_irqs, lockFall_irq]

theorem lockLost_mem : (c.lockLost b).mem = c.mem := by
  rw [lockLost_view Chip.mem fun _ => rfl, lockReset_mem, lockFall_view Chip.mem fun _ => rfl]

theorem lockLost_pwr : (c.lockLost b).pwr = c.pwr := by
  rw [lockLost_view Chip.pwr fun _ => rfl, lockReset_pwr, lockFall_view Chip.pwr fun _ => rfl]

theorem fusesCut_of_idle (h : c.vlt.lcTarget = none) : c.fusesCut = c.fuses := by
  rw [Chip.fusesCut, h]

theorem lockLost_fuses (h : c.vlt.lcTarget = none) : (c.lockLost b).fuses = c.fuses := by
  rw [lockLost_view Chip.fuses fun _ => rfl, lockReset_fuses, fusesCut_of_idle (by rw [lockFall_view Chip.vlt fun _ => rfl, h]),
    ite_self, lockFall_view Chip.fuses fun _ => rfl]

theorem lockLost_processors (h : b.val ≤ 2) : (c.lockLost b).boot.hc0 = .reset ∧ (c.lockLost b).boot.ncRun = false
    ∧ (c.lockLost b).boot.hc1Run = false ∧ (c.lockLost b).dop = {} ∧ (c.lockLost b).vlt = {} := by
  have hsys := lockSys_iff.mpr h
  rw [lockLost_view Chip.boot fun _ => rfl, lockLost_view Chip.dop fun _ => rfl, lockLost_view Chip.vlt fun _ => rfl, lockReset_boot,
    lockReset_vlt, lockReset_dop hsys, if_pos hsys, if_pos hsys]
  exact ⟨rfl, rfl, rfl, rfl, rfl⟩

theorem lockLost_block (h : 3 ≤ b.val) : (c.lockLost b).boot = c.boot ∧ (c.lockLost b).upd = c.upd ∧ (c.lockLost b).vlt = c.vlt := by
  have hsys : ¬ lockSys b = true := by rw [lockSys_iff]; omega
  rw [lockLost_view Chip.boot fun _ => rfl, lockLost_view Chip.upd fun _ => rfl, lockLost_view Chip.vlt fun _ => rfl, lockReset_boot,
    lockReset_upd, lockReset_vlt, if_neg hsys, if_neg hsys, if_neg hsys]
  exact ⟨lockFall_view Chip.boot fun _ => rfl, lockFall_view Chip.upd fun _ => rfl, lockFall_view Chip.vlt fun _ => rfl⟩

theorem lockHold_parent : ((c.lockFall b).lockHold b).time.servo.parent
    = if b.val ≤ 2 ∨ b.val = 6 then none else c.time.servo.parent := by
  rw [lockHold_view (·.time.servo.parent) fun _ => rfl, lockReset_parent, lockFall_view (·.time.servo.parent) fun _ => rfl]

/-- After the reset of the blocks the parent is the one before, if one is left. -/
theorem parent_of_lockHold {f : Foreign} (h : ((c.lockFall b).lockHold b).time.servo.parent = some f) :
    ¬ (b.val ≤ 2 ∨ b.val = 6) ∧ c.time.servo.parent = some f := by
  rw [lockHold_parent] at h
  split at h
  · cases h
  · next hb => exact ⟨hb, h⟩

theorem lockLost_parent {f : Foreign} (h : c.time.servo.parent = some f) (hf : f.port + 3 = b.val) :
    (c.lockLost b).time.servo.parent = none := by
  rw [Chip.lockLost, lockReport_time]
  refine lockShow_parent fun g hg => ?_
  cases (parent_of_lockHold hg).2.symm.trans h
  exact hf

theorem lockLost_pairState (h : b.val = 15) : (c.lockLost b).pairState = if c.pairState < 3 then c.pairState else 2 := by
  rw [Chip.lockLost, (lockReport_keeps _ b).pairState (by decide), (lockShow_keeps _ b).pairState (by decide), pairState_lockHold h,
    pairState_lockFall h]

/-! ### The registers -/

theorem lockMacs_in_blocks : ∀ b : Fin 18, ∀ n ∈ macRegs (lockMacs b), lockBlocks b n = true := by decide

theorem celStatus_in_blocks : ∀ b : Fin 18, b.val = 0 ∨ b.val = 7 → lockBlocks b (rCEL_STATUS.addr 0 0) = true := by decide

theorem addend_in_blocks : ∀ b : Fin 18, lockBlocks b (rTIME_ADDEND.addr 0 0) = true → b.val ≤ 2 ∨ b.val = 6 := by decide

theorem lockMacs_subset {n : Nat} (h : ∀ p < 3, n ≠ rMAC_ADDR_LO.addr p 0 ∧ n ≠ rMAC_ADDR_HI.addr p 0) : n ∉ macRegs (lockMacs b) := by
  intro hn
  obtain ⟨p, hp, hn⟩ := mem_macRegs.mp hn
  have hp3 : p < 3 := by
    have := List.mem_of_mem_filter hp
    simp at this
    omega
  obtain ⟨hlo, hhi⟩ := h p hp3
  exact hn.elim hlo hhi

/-- A register of the domain is at its reset value. -/
theorem lockLost_reg_reset {n : Nat} (hb : lockBlocks b n = true) (hpair : b.val = 15 → pairKept n = false ∧ n ≠ rCDR_STATUS.addr 0 0)
    (hn : n ∉ rCEL_STATUS.addr 0 0 :: (servoRegs ++ logRegs 0x00))
    (hmac : ∀ p < 3, n ≠ rMAC_ADDR_LO.addr p 0 ∧ n ≠ rMAC_ADDR_HI.addr p 0) (d : Word) : mget d (c.lockLost b).regs n = d := by
  have hspare : lockSpares b n = false := by
    simp only [lockSpares, hb, Bool.not_true, Bool.false_or, Bool.and_eq_false_iff, decide_eq_false_iff_not]
    by_cases h15 : b.val = 15
    · exact .inr (hpair h15).1
    · exact .inl h15
  have hhold : mget d ((c.lockFall b).lockHold b).regs n = d := by
    rw [lockHold_regs (lockMacs_subset hmac) fun h => (hpair h).2, hspare]
    rfl
  simp only [List.mem_cons, List.mem_append, not_or] at hn
  obtain ⟨hcel, hservo, hlog⟩ := hn
  have hshow : mget d (((c.lockFall b).lockHold b).lockShow b).regs n = mget d ((c.lockFall b).lockHold b).regs n := by
    by_cases ha : n = rTIME_ADDEND.addr 0 0
    · refine (lockShow_quiet fun f hf => ?_).sameRegs n (by split <;> simp [hcel]) d
      exact absurd (addend_in_blocks b (ha ▸ hb)) (parent_of_lockHold hf).1
    · exact (lockShow_keeps _ b).sameRegs n (by simp [hcel, ha, hservo]) d
  rw [Chip.lockLost, (lockReport_keeps _ b).sameRegs n hlog, hshow, hhold]

section Elsewhere

variable (hparent : ∀ f, c.time.servo.parent = some f → f.port + 3 ≠ b.val) (hpair : b.val = 15 → c.pairState < 3)

include hparent

theorem lockShow_elsewhere : ((c.lockFall b).lockHold b).Keeps id (if b.val = 0 ∨ b.val = 7 then [rCEL_STATUS.addr 0 0] else []) []
    (((c.lockFall b).lockHold b).lockShow b) :=
  lockShow_quiet fun f hf => hparent f (parent_of_lockHold hf).2

include hpair

/-- A register outside the domain stands. -/
theorem lockLost_reg_stands {n : Nat} (hb : lockBlocks b n = false) (hn : n ∉ rCLKSTAT.addr 0 0 :: logRegs 0x00) (d : Word) :
    mget d (c.lockLost b).regs n = mget d c.regs n := by
  simp only [List.mem_cons, not_or] at hn
  obtain ⟨hclk, hlog⟩ := hn
  have hcel : n ∉ if b.val = 0 ∨ b.val = 7 then [rCEL_STATUS.addr 0 0] else [] := by
    split
    · next h =>
      have := celStatus_in_blocks b h
      rintro hn
      simp_all
    · simp
  have hmac : n ∉ macRegs (lockMacs b) := fun h => by simp [lockMacs_in_blocks b n h] at hb
  have hcdr : b.val = 15 → n ≠ rCDR_STATUS.addr 0 0 := by
    rintro h15 rfl
    rw [h15] at hb
    exact absurd hb (by decide)
  rw [Chip.lockLost, (lockReport_keeps _ b).sameRegs n hlog, (lockShow_elsewhere hparent).sameRegs n hcel, lockHold_regs hmac hcdr,
    if_pos (by simp [lockSpares, hb]), lockFall_of_unpaired hpair]
  exact mget_mset_other _ _ _ _ hclk

theorem lockLost_irqs : SameIrqs [2, 209] c (c.lockLost b) := by
  have hfall : SameIrqs [2, 209] c ((c.lockFall b).lockHold b) := by
    refine SameIrqs.of_eq (c := c.lockFall b) ?_ lockHold_irqs
    rw [lockFall_of_unpaired hpair]
    exact SameIrqs.irq ((SameIrqs.refl _ c).wb _ _ _ _ _) (by simp)
  exact (hfall.trans ((lockShow_elsewhere hparent).sameIrqs.mono (by simp))).trans ((lockReport_keeps _ b).sameIrqs.mono (by simp))

end Elsewhere

end Lock

/-! ## The rise of the bit (R30) -/

theorem does_pllLockRegained {s : State} {b : Fin 18} {P : Chip → Prop} (hrun : s.chip.pwr.phase = .running)
    (h : P (settle { s.chip.counted.wb rCLKSTAT 0 0 b true with held := s.chip.held &&& ~~~(1#18 <<< b.val) })) :
    Does s (exec (.pllLockRegained b) s) P := by
  refine does_run (f := fun c => if c.pwr.phase == .running then
    { c.wb rCLKSTAT 0 0 b true with held := c.held &&& ~~~(1#18 <<< b.val) } else c) ?_
  rw [if_pos (by rw [show s.chip.counted.pwr.phase = .running from hrun]; rfl)]
  exact h

/-- Settles O6: the fall by what it does before, with and after the reset of the domain's blocks. -/
theorem lockLostAndRegained : Obligations.lock_lost_and_regained := by
  refine ⟨fun s b hrun hlock => does_pllLockLost hrun hlock ?_, fun s b hrun => does_pllLockRegained hrun ?_⟩
  · refine ⟨lockLost_held (c := s.chip.counted), (settle_irqs_other _ (by decide)).trans (lockLost_irq (c := s.chip.counted)),
      lockLost_mem (c := s.chip.counted), lockLost_pwr (c := s.chip.counted), lockLost_fuses (c := s.chip.counted),
      lockLost_processors (c := s.chip.counted), lockLost_block (c := s.chip.counted), ?_, fun hparent hpair => ⟨?_, ?_⟩,
      lockLost_pairState (c := s.chip.counted), fun f => lockLost_parent (c := s.chip.counted)⟩
    · exact fun n hb hpair hn hmac d => lockLost_reg_reset (c := s.chip.counted) hb hpair hn hmac d
    · exact fun n hb hn d => lockLost_reg_stands (c := s.chip.counted) hparent hpair hb hn d
    · exact (lockLost_irqs (c := s.chip.counted) hparent hpair).settle
  · exact ⟨rfl, Chip.rd_wr_same .., SameRegs.wr (SameRegs.of_regs rfl) _ (by simp), SameIrqs.settle (SameIrqs.of_irqs rfl)⟩

end Sys2Proof.Machine

/-! SUPPORT. WD_REL on a bank that is in no watchdog hold (spec/09 R273), where the list of banks is not canonical. -/

namespace Sys2Proof.Machine

/-- A running module whose list of banks holds bank 0 at its default, which a canonical list leaves out. -/
def bankListed : State := { chip := { pwr := { phase := .running }, banks := [(0, {})] } }

/-- HC0 in world S. -/
def houseAccess : Access := { master := .hc0, secure := true }

theorem bankListed_takes : bankListed.chip.takes houseAccess rBCTRL 0 0 (0 ||| 0x100) := by decide

/-- WD_REL meets no hold to release: no bank is written. -/
theorem wdRel_bankListed {t : State} (h : exec (.wdRel houseAccess 0 0) bankListed = .next t) : t.chip.banks = [(0, {})] := by
  cases h
  rfl

/-- Refutes O30: WD_REL with no hold to release writes no bank, while the statement has the list of banks hold bank 0 written with the
value it has. The two differ where the list is not canonical: written at its default, bank 0 leaves a list in which it stood. -/
theorem not_banksRingsAndInserts : ¬ Obligations.banks_rings_and_inserts := by
  intro h
  obtain ⟨-, -, -, -, -, -, -, hrel, -⟩ := h
  obtain ⟨t, ht, -, hbank, -, -, hrest, -⟩ := hrel bankListed houseAccess 0 0 bankListed_takes fun j hj => absurd hj (by simp [bit])
  have hbanks : t.chip.banks = mset ({} : Bank) bankListed.chip.banks 0 (t.chip.bank 0) := congrArg Chip.banks hrest
  have hbank0 : t.chip.bank 0 = {} := hbank
  rw [wdRel_bankListed ht, hbank0] at hbanks
  exact absurd hbanks (by decide)

end Sys2Proof.Machine

/-! SUPPORT. Laws that the statements of spec/02 and spec/03 rest on beside those of Laws/: a key written twice, a bit set to what
it holds, folds that change nothing, and frames at a command's end. -/

namespace Sys2Proof.Machine

/-! ## Maps -/

theorem filter_minsert_same {α : Type} (k : Nat) (v : α) (m : List (Nat × α)) :
    (minsert k v m).filter (fun p => p.1 ≠ k) = m.filter fun p => p.1 ≠ k := by
  induction m with
  | nil => simp [minsert]
  | cons p t ih =>
    unfold minsert
    split
    · simp
    · rw [List.filter_cons, List.filter_cons, ih]

/-- A key written is gone with its entry. -/
theorem filter_mset_same {α : Type} [DecidableEq α] (d v : α) (m : List (Nat × α)) (k : Nat) :
    (mset d m k v).filter (fun p => p.1 ≠ k) = m.filter fun p => p.1 ≠ k := by
  unfold mset
  split
  · rw [List.filter_filter]
    simp
  · rw [filter_minsert_same, List.filter_filter]
    simp

/-- Of two writes of one key the second counts. -/
theorem mset_mset {α : Type} [DecidableEq α] (d v w : α) (m : List (Nat × α)) (k : Nat) :
    mset d (mset d m k v) k w = mset d m k w := by
  rw [mset, filter_mset_same, mset]

/-! ## Words -/

theorem setFld_self {w : Word} {hi lo v : Nat} (h : ∀ k, lo ≤ k → k ≤ hi → v.testBit (k - lo) = w.getLsbD k) :
    setFld w hi lo v = w := by
  refine BitVec.eq_of_getLsbD_eq fun k hk => ?_
  rw [getLsbD_setFld _ _ _ _ _ hk]
  split
  · next hin => exact h k hin.1 hin.2
  · rfl

/-- A bit set to what it holds. -/
theorem setBit_self {w : Word} {i : Nat} {b : Bool} (h : bit w i = b) : setBit w i b = w := by
  refine setFld_self fun k hlo hhi => ?_
  obtain rfl : k = i := by omega
  rw [← bit_eq, h, Nat.sub_self]
  cases b <;> rfl

theorem bit_or_of_bit {v w : Word} {i : Nat} (h : bit w i = true) : bit (v ||| w) i = true := by rw [bit_or, h, Bool.or_true]

theorem bit_or_of_no_bit {v w : Word} {i : Nat} (h : bit w i = false) : bit (v ||| w) i = bit v i := by rw [bit_or, h, Bool.or_false]

/-! ## Registers -/

section Registers

variable (c : Chip) {r q : RegRow} {i j i' j' k : Nat} {b : Bool}

theorem Chip.rd_wb_same : (c.wb r i j k b).rd r i j = setBit (c.rd r i j) k b := Chip.rd_wr_same ..

theorem Chip.rb_wb_same (h : k < 32) : (c.wb r i j k b).rb r i j k = b := by
  rw [Chip.rb, Chip.rd_wb_same, bit_setBit_same _ _ h]

/-- Setting one bit leaves the register's others. -/
theorem Chip.rb_wb_bit {m : Nat} (h : m ≠ k) : (c.wb r i j k b).rb r i j m = c.rb r i j m := by
  rw [Chip.rb, Chip.rd_wb_same, bit_setBit_other _ _ h, ← Chip.rb]

end Registers

theorem SameRegs.rb {l : List Nat} {a c : Chip} (h : SameRegs l a c) {r : RegRow} {i j : Nat} (k : Nat) (m : r.addr i j ∉ l) :
    c.rb r i j k = a.rb r i j k := by
  rw [Chip.rb, Chip.rb, h.rd m]

theorem SameRegs.rf {l : List Nat} {a c : Chip} (h : SameRegs l a c) {r : RegRow} {i j : Nat} (hi lo : Nat) (m : r.addr i j ∉ l) :
    c.rf r i j hi lo = a.rf r i j hi lo := by
  rw [Chip.rf, Chip.rf, h.rd m]

/-! ## Folds -/

theorem Chip.each_cons {α : Type} (c : Chip) (x : α) (l : List α) (f : Chip → α → Chip) : c.each (x :: l) f = (f c x).each l f := rfl

/-- A fold none of whose turns changes anything. -/
theorem Chip.each_of_fixed {α : Type} {c : Chip} {l : List α} {f : Chip → α → Chip} (h : ∀ x ∈ l, f c x = c) : c.each l f = c := by
  induction l with
  | nil => rfl
  | cons x t ih =>
    rw [Chip.each_cons, h x (by simp)]
    exact ih fun y hy => h y (by simp [hy])

/-- A fold that does something at one turn alone. -/
theorem Chip.each_of_single {α : Type} {c : Chip} {l : List α} {f : Chip → α → Chip} {u : α} (hu : u ∈ l) (hl : l.Nodup)
    (hbefore : ∀ x ∈ l, x ≠ u → f c x = c) (hafter : ∀ x ∈ l, x ≠ u → f (f c u) x = f c u) : c.each l f = f c u := by
  induction l with
  | nil => simp at hu
  | cons x t ih =>
    obtain ⟨hx, ht⟩ := List.nodup_cons.mp hl
    rw [Chip.each_cons]
    by_cases e : x = u
    · subst e
      exact Chip.each_of_fixed fun y hy => hafter y (by simp [hy]) fun h => hx (h ▸ hy)
    · rw [hbefore x (by simp) e]
      exact ih (by simpa [Ne.symm e] using hu) ht (fun y hy => hbefore y (by simp [hy])) fun y hy => hafter y (by simp [hy])

/-! ## Frames at a command's end -/

section Frames

variable {α : Type} {g : Chip → α} {rs is : List Nat} {c d : Chip}

theorem Chip.Keeps.frame (h : c.Keeps g rs is d) : Frame rs is c (settle d) := ⟨h.sameRegs.settle, h.sameIrqs.settle⟩

theorem Chip.Keeps.rd (h : c.Keeps g rs is d) {r : RegRow} {i j : Nat} (m : r.addr i j ∉ rs) : d.rd r i j = c.rd r i j :=
  h.sameRegs.rd m

/-- A source the frame leaves is pending at the command's end where it was. -/
theorem Chip.Keeps.settled_irq (h : c.Keeps g rs is d) {n : Nat} (hn : n ∉ is) (hl : n ∉ levelSources) :
    (settle d).irqs.getLsbD n = c.irqs.getLsbD n := h.sameIrqs.settle n hn hl

/-- A source raised stands at the command's end, unless it follows the state by level. -/
theorem settled_irq_raised {n : Nat} (hn : n < 224) (hl : n ∉ levelSources) : (settle (c.irq n)).irqs.getLsbD n = true :=
  (settle_irqs_other _ hl).trans (irq_irqs_same _ hn)

/-- What is raised in `c` still stands in what keeps it. -/
theorem Chip.Keeps.raised (h : c.Keeps g rs is d) {n : Nat} (hc : c.irqs.getLsbD n = true) (hn : n ∉ is) (hl : n ∉ levelSources) :
    (settle d).irqs.getLsbD n = true := (h.settled_irq hn hl).trans hc

end Frames

/-! ## Commands that are one access -/

/-- Register (i, j) of row `r` set to `v` by an access that is answered with 0. -/
abbrev Chip.stored (c : Chip) (r : RegRow) (i j : Nat) (v : Word) : Chip := (c.wr r i j v).answer 0

theorem stored_keeps (c : Chip) (r : RegRow) (i j : Nat) (v : Word) : c.Keeps id [r.addr i j] [] (c.stored r i j v) :=
  .of_eq (.wr .refl v (by simp)) rfl rfl rfl

section Access

variable {s : State} {a : Access} {r : RegRow} {i j : Nat} {v : Word} {w : Chip} {P : Chip → Prop}

theorem does_write (h : r.stands i j) (ht : s.chip.takes a r i j v) (hk : (r.hook == .cmpCtrl) = false)
    (hw : (s.chip.counted.stored r i j (r.merge (s.chip.rd r i j) v)).afterWrite a r i j (s.chip.rd r i j) v = w) (hP : P (settle w)) :
    Does s (wrReg a r i j v s) P := by
  subst hw
  refine does_wrReg h ht hk fun c hc => ?_
  subst hc
  exact hP

theorem does_read (h : r.stands i j) (ht : s.chip.reads a r i j) (hw : s.chip.counted.regRead a r i j = w) (hP : P (settle w)) :
    Does s (rdReg a r i j s) P := by
  subst hw
  refine does_rdReg h ht fun c hc => ?_
  subst hc
  exact hP

end Access

/-- A command with nothing to do. -/
theorem quiet (c : Chip) : (settle c.counted).rest = c.rest ∧ Frame [] [] c (settle c.counted) := (counted_quiet c).2

end Sys2Proof.Machine

/-! SUPPORT. The register commands of the TIME block (spec/02 R36..R54, R592): what a write of each commanded register leaves. -/

namespace Sys2Proof.Machine

section

variable {s : State} {c : Chip} {a : Access} {v : Word}

/-! ## The clock (R36, R41) -/

theorem stepWrite_of_step (h : bit v 2 = true) : c.stepWrite v
    = { c.wb rTIME_STATUS 0 0 2 true with time := { c.time with stepReq := some c.stepRequest } } := if_pos h

/-- The request the step registers spell when TIME_CTRL has been written with `v`. -/
theorem stepRequest_written (c : Chip) (o v : Word) : Chip.stepRequest ((c.wr rTIME_CTRL 0 0 (rTIME_CTRL.merge o v)).answer 0)
    = ⟨bit v 3, if bit v 3 = true ∧ c.rb rSTEP_SHI 0 0 31 = true then -(tsOf (c.rd rSTEP_NS) (c.rd rSTEP_SLO) (c.rd rSTEP_SHI) : Int)
        else tsOf (c.rd rSTEP_NS) (c.rd rSTEP_SLO) (c.rd rSTEP_SHI)⟩ := by
  have hrel : ((c.wr rTIME_CTRL 0 0 (rTIME_CTRL.merge o v)).answer 0).rb rTIME_CTRL 0 0 3 = bit v 3 := by
    rw [Chip.rb, Chip.rd_answer, Chip.rd_wr_same, RegRow.bit_merge (by decide)]
    simp [rTIME_CTRL, Nat.testBit]
  have hregs : SameRegs [rTIME_CTRL.addr 0 0] c ((c.wr rTIME_CTRL 0 0 (rTIME_CTRL.merge o v)).answer 0) :=
    ((SameRegs.refl _ c).wr _ (by simp)).answer 0
  rw [Chip.stepRequest, hrel, hregs.rd (by decide), hregs.rd (by decide), hregs.rd (by decide), hregs.rb 31 (by decide)]
  cases bit v 3 <;> simp

theorem does_timeAddendWrite (ht : s.chip.takes a rTIME_ADDEND 0 0 v) :
    Does s (exec (.timeAddendWrite a v) s) fun c => c.rest = s.chip.rest ∧ c.rd rTIME_ADDEND = v
      ∧ Frame [rTIME_ADDEND.addr 0 0] [] s.chip c := by
  refine does_write rTIME_ADDEND_stands ht rfl rfl ⟨rfl, ?_, (stored_keeps s.chip.counted _ _ _ _).frame⟩
  exact (Chip.rd_wr_same ..).trans (RegRow.merge_full rfl rfl _ _)

theorem does_stepWrite (ht : s.chip.takes a rTIME_CTRL 0 0 (v ||| 0x4)) :
    Does s (exec (.stepWrite a v) s) fun c =>
      c.time.stepReq = some ⟨bit v 3, if bit v 3 = true ∧ s.chip.rb rSTEP_SHI 0 0 31 = true
        then -(tsOf (s.chip.rd rSTEP_NS) (s.chip.rd rSTEP_SLO) (s.chip.rd rSTEP_SHI) : Int)
        else tsOf (s.chip.rd rSTEP_NS) (s.chip.rd rSTEP_SLO) (s.chip.rd rSTEP_SHI)⟩
      ∧ c.rest = { s.chip.rest with time := { s.chip.time with stepReq := c.time.stepReq } }
      ∧ c.rb rTIME_STATUS 0 0 2 = true ∧ Frame [rTIME_CTRL.addr 0 0, rTIME_STATUS.addr 0 0] [] s.chip c := by
  refine does_write rTIME_CTRL_stands ht rfl (stepWrite_of_step (bit_or_of_bit (by decide))) ?_
  rw [stepRequest_written, bit_or_of_no_bit (by decide)]
  have hkeeps := ((stored_keeps s.chip.counted rTIME_CTRL 0 0 (rTIME_CTRL.merge (s.chip.rd rTIME_CTRL) (v ||| 0x4))).mono
    (rs' := [rTIME_CTRL.addr 0 0, rTIME_STATUS.addr 0 0]) (by simp) fun _ h => h).wb (r := rTIME_STATUS) (i := 0) (j := 0) 2 true (by simp)
  exact ⟨rfl, rfl, Chip.rb_wb_same _ (by decide), hkeeps.frame⟩

/-! ## The grid (R62) -/

theorem gridApply_of_apply (h : bit v 0 = true) : c.gridApply v
    = { c.wb rGRID_CTRL 0 0 1 true with time := { c.time with gridPend := some ⟨c.gridWritten, switchFrame c.gridWritten c.time.now,
        gridF c.gridWritten (switchFrame c.gridWritten c.time.now)⟩ } } := if_pos h

theorem gridWritten_of_sameRegs {l : List Nat} {d : Chip} (h : SameRegs l c d)
    (hl : ∀ r ∈ [rGRID_NUM, rGRID_DEN, rGRID_OFS], r.addr 0 0 ∉ l) : d.gridWritten = c.gridWritten := by
  rw [Chip.gridWritten, h.rf 15 0 (hl _ (by simp)), h.rf 23 0 (hl _ (by simp)), h.rd (hl _ (by simp)), ← Chip.gridWritten]

theorem does_gridApply (ht : s.chip.takes a rGRID_CTRL 0 0 (v ||| 0x1)) :
    Does s (exec (.gridApply a v) s) fun c =>
      c.time.gridPend = some ⟨s.chip.gridWritten, switchFrame s.chip.gridWritten s.chip.time.now,
          gridF s.chip.gridWritten (switchFrame s.chip.gridWritten s.chip.time.now)⟩
      ∧ c.rest = { s.chip.rest with time := { s.chip.time with gridPend := c.time.gridPend } }
      ∧ c.rb rGRID_CTRL 0 0 1 = true ∧ Frame [rGRID_CTRL.addr 0 0] [] s.chip c := by
  have hkeeps := stored_keeps s.chip.counted rGRID_CTRL 0 0 (rGRID_CTRL.merge (s.chip.rd rGRID_CTRL) (v ||| 0x1))
  refine does_write rGRID_CTRL_stands ht rfl (gridApply_of_apply (bit_or_of_bit (by decide))) ?_
  rw [gridWritten_of_sameRegs hkeeps.sameRegs (by decide)]
  exact ⟨rfl, rfl, Chip.rb_wb_same _ (by decide), (hkeeps.wb (r := rGRID_CTRL) (i := 0) (j := 0) 1 true (by simp)).frame⟩

/-! ## Snapshots and transmit timestamps (R40, R43) -/

theorem does_timeSnapRead {m : Fin 4} (ht : s.chip.reads a rSNAP m 0) :
    Does s (exec (.timeSnapRead a m) s) fun c =>
      c.rsp = { val := tsWord s.chip.time.now 0, err := false }
      ∧ c.rest = { s.chip.rest with time := { s.chip.time with snaps := mset ({} : Snap) s.chip.time.snaps (snapSet a) { t := s.chip.time.now, frac := s.chip.time.frac } } }
      ∧ Frame [] [] s.chip c := by
  refine does_read (rSNAP_stands m) ht rfl ⟨?_, rfl, frame_settle (SameRegs.of_regs rfl) rfl⟩
  show Rsp.mk (tsWord (mget ({} : Snap) (mset ({} : Snap) s.chip.time.snaps (snapSet a) _) (snapSet a)).t 0) false = _
  rw [mget_mset_same]
  rfl

theorem txtsPop_of_empty (h : c.time.txts = []) : c.txtsPop = (c.wr rTXTS_TAG 0 0 0, 0) := by
  rw [Chip.txtsPop, h]

/-- TIME_TXTS_TAG of transmit timestamp `x`. -/
def TxTs.tag (x : TxTs) : Word := BitVec.ofNat 32 (2 ^ 31 + x.port % 4 * 2 ^ 16 + x.seq % 2 ^ 16)

/-- The registers that show transmit timestamp `x`. -/
def Chip.showTxts (c : Chip) (x : TxTs) : Chip :=
  (((c.wr rTXTS_TAG 0 0 x.tag).wr rTXTS 0 0 (tsWord x.t 0)).wr rTXTS 1 0 (tsWord x.t 1)).wr rTXTS 2 0 (tsWord x.t 2)

theorem txtsPop_of_cons {x : TxTs} {q : List TxTs} (h : c.time.txts = x :: q) :
    c.txtsPop = (Chip.showTxts { c with time := { c.time with txts := q } } x, x.tag) := by
  rw [Chip.txtsPop, h]
  rfl

theorem regRead_txtsTag {d : Chip} {w : Word} (h : c.txtsPop = (d, w)) : c.regRead a rTXTS_TAG 0 0 = d.answer w := by
  rw [show c.regRead a rTXTS_TAG 0 0 = c.txtsPop.1.answer c.txtsPop.2 from rfl, h]

theorem does_txtsPop_of_cons {x : TxTs} {q : List TxTs} (ht : s.chip.reads a rTXTS_TAG 0 0) (hq : s.chip.time.txts = x :: q) :
    Does s (exec (.txtsPop a) s) fun c =>
      c.rsp = { val := BitVec.ofNat 32 (2 ^ 31 + x.port % 4 * 2 ^ 16 + x.seq % 2 ^ 16), err := false }
      ∧ c.rd rTXTS 0 = tsWord x.t 0 ∧ c.rd rTXTS 1 = tsWord x.t 1 ∧ c.rd rTXTS 2 = tsWord x.t 2
      ∧ c.rest = { s.chip.rest with time := { s.chip.time with txts := q } }
      ∧ Frame [rTXTS_TAG.addr 0 0, rTXTS.addr 0 0, rTXTS.addr 1 0, rTXTS.addr 2 0] [] s.chip c := by
  refine does_read rTXTS_TAG_stands ht (regRead_txtsTag (txtsPop_of_cons hq)) ⟨rfl, ?_, ?_, Chip.rd_wr_same .., rfl, frame_settle ?_ rfl⟩
  · exact (Chip.rd_wr_other _ _ (by decide)).trans ((Chip.rd_wr_other _ _ (by decide)).trans (Chip.rd_wr_same ..))
  · exact (Chip.rd_wr_other _ _ (by decide)).trans (Chip.rd_wr_same ..)
  · exact .wr (.wr (.wr (.wr (.of_regs rfl) _ (by simp)) _ (by simp)) _ (by simp)) _ (by simp)

theorem does_txtsPop_of_empty (ht : s.chip.reads a rTXTS_TAG 0 0) (hq : s.chip.time.txts = []) :
    Does s (exec (.txtsPop a) s) fun c =>
      c.rsp = { val := 0, err := false } ∧ c.rest = s.chip.rest ∧ Frame [rTXTS_TAG.addr 0 0] [] s.chip c :=
  does_read rTXTS_TAG_stands ht (regRead_txtsTag (txtsPop_of_empty hq)) ⟨rfl, rfl,
    frame_settle (.answer (.wr (.of_regs rfl : SameRegs [rTXTS_TAG.addr 0 0] s.chip s.chip.counted) _ (by simp)) 0) rfl⟩

end

end Sys2Proof.Machine

/-! SUPPORT. Edges at the capture units, PPS_OUT, fires of the comparators (spec/02 R49..R58, R65, R66): what each leaves unchanged. -/

namespace Sys2Proof.Machine

/-! ## Reports of the TIME block -/

/-- The reports beside those of the TIME block. -/
def otherReports (e : ErrSt) : ErrSt := { e with queues := e.queues.filter fun p => p.1 ≠ 0x01 }

theorem otherReports_otherReports (e : ErrSt) : otherReports (otherReports e) = otherReports e := by
  simp [otherReports]

theorem otherReports_log (c : Chip) (code : Nat) (d : Word) : otherReports (c.log 0x01 code d).err = otherReports c.err := by
  unfold Chip.log
  dsimp only
  split
  · rfl
  · split
    · split <;> rfl
    · rw [otherReports, filter_mset_same, ← otherReports]

/-- The queues of the other sources are told by what is left. -/
theorem queues_of_otherReports {e e' : ErrSt} (h : otherReports e' = otherReports e) {src : Nat} (hs : src ≠ 0x01) :
    mget [] e'.queues src = mget [] e.queues src := by
  rw [← mget_filter_other [] e'.queues hs, ← mget_filter_other [] e.queues hs]
  exact congrArg (fun x : ErrSt => mget [] x.queues src) h

/-- A report of the TIME block, where the view does not show those. -/
theorem Chip.Keeps.logTime {α : Type} {g : Chip → α} {rs is : List Nat} {a c : Chip} (h : a.Keeps g rs is c) {code : Nat} {d : Word}
    (hg : ∀ r e, otherReports e = otherReports r.err → g { r with err := e } = g r) (m : ∀ n ∈ logRegs 0x01, n ∈ rs) (mi : 209 ∈ is) :
    a.Keeps g rs is (c.log 0x01 code d) :=
  ⟨h.sameRegs.log 0x01 code d m, h.sameIrqs.log 0x01 code d mi, by rw [rest_log, hg c.rest _ (otherReports_log c code d)]; exact h.sameView⟩

/-! ## Edges (R56..R58) -/

/-- The module beside the TIME block's reports and the capture units' state. -/
def captureView (r : Chip) : Chip := { r with err := otherReports r.err, time := { r.time with capCnt := [], capTick := [], evtQ := [] } }

/-- The registers an edge can change: the count of lost records with its report (R58). -/
def edgeRegs : List Nat := rCAP_LOST.addr 0 0 :: logRegs 0x01

/-- The interrupts an edge can raise: a lost record, the capture units', the log's. -/
def captureIrqs : List Nat := [18, 20, 21, 22, 23, 24, 25, 26, 27, 209]

/-- The frame of an edge. -/
abbrev Chip.KeepsCapture (c c' : Chip) : Prop := c.Keeps captureView edgeRegs captureIrqs c'

theorem captureView_err (r : Chip) (e : ErrSt) (h : otherReports e = otherReports r.err) : captureView { r with err := e } = captureView r := by
  simp only [captureView, h]

theorem evtPush_captured (c : Chip) (kind unit : Nat) (body : BitVec 80) : c.KeepsCapture (c.evtPush kind unit body) := by
  refine .ite (.irq (.logTime (.incSat .refl 1 ?_) captureView_err ?_ ?_) ?_) (.of_eq .refl rfl rfl rfl) <;> decide

theorem capture_captured (c : Chip) {u : Nat} (hu : u < 8) (src now : Nat) : c.KeepsCapture (c.capture u src now) :=
  have hirq : 20 + u ∈ captureIrqs := by simp only [captureIrqs, List.mem_cons]; omega
  .ite ((evtPush_captured ..).irq hirq) (evtPush_captured ..)

theorem edgeAt_captured (c : Chip) (src : Nat) (rising : Bool) (now : Nat) {u : Nat} (hu : u < 8) :
    c.KeepsCapture (c.edgeAt src rising now u) := by
  refine .ite (.ite (.trans ?_ (capture_captured _ hu src now)) ?_) .refl <;> exact .of_eq .refl rfl rfl rfl

theorem edge_captured (c : Chip) (src : Nat) (rising : Bool) (now : Nat) : c.KeepsCapture (c.edge src rising now) :=
  .each .refl _ _ fun e _ hu => edgeAt_captured e src rising now (List.mem_range.mp hu)

/-! ## PPS_OUT (R65) -/

/-- The module beside the TIME block's reports, the capture units' state and PPS_OUT. -/
def edgeView (r : Chip) : Chip :=
  { r with err := otherReports r.err, time := { r.time with capCnt := [], capTick := [], evtQ := [], ppsPulse := false, ppsOut := false } }

/-- The interrupts an edge of PPS_OUT can raise: its own, and the captures'. -/
def edgeIrqs : List Nat := 30 :: captureIrqs

/-- The frame of an edge of PPS_OUT. -/
abbrev Chip.KeepsEdge (c c' : Chip) : Prop := c.Keeps edgeView edgeRegs edgeIrqs c'

theorem edgeView_err (r : Chip) (e : ErrSt) (h : otherReports e = otherReports r.err) : edgeView { r with err := e } = edgeView r := by
  simp only [edgeView, h]

theorem edgeView_captureView (r : Chip) : edgeView r = edgeView (captureView r) := by
  simp only [edgeView, captureView, otherReports_otherReports]

theorem Chip.KeepsCapture.edge {c d : Chip} (h : c.KeepsCapture d) : c.KeepsEdge d :=
  .mono (.view h edgeView edgeView_captureView) (fun _ h => h) (by decide)

theorem edge_edge (c : Chip) (src : Nat) (rising : Bool) (now : Nat) : c.KeepsEdge (c.edge src rising now) := (edge_captured ..).edge

theorem ppsLow_edge (c : Chip) : c.KeepsEdge c.ppsLow := by
  unfold Chip.ppsLow
  refine .ite (.trans ?_ (edge_edge _ 10 false _)) .refl
  exact .of_eq .refl rfl rfl rfl

theorem ppsRise_edge (c : Chip) : c.KeepsEdge c.ppsRise := by
  have hpulse : c.KeepsEdge { c with time := { c.time with ppsPulse := true } } := .of_eq .refl rfl rfl rfl
  unfold Chip.ppsRise
  refine .ite (.trans ?_ (edge_edge _ 10 true _)) hpulse
  exact .of_eq (hpulse.irq (n := 30) (by decide)) rfl rfl rfl

theorem ppsGate_edge (c : Chip) : c.KeepsEdge c.ppsGate := .ite (ppsLow_edge c) (.ite (ppsRise_edge c) .refl)

section Edges

variable {c : Chip} {src now u : Nat} {rising : Bool}

theorem edgeAt_of_unselected (h : c.selects src rising u = false) : c.edgeAt src rising now u = c :=
  if_neg (by simp [h])

/-- A unit that is off, or listens to another source, takes no edge. -/
theorem selects_of_deaf (h : c.rb rCAP_CTRL u 0 0 = false ∨ c.rf rCAP_CTRL u 0 9 5 ≠ src) : c.selects src rising u = false := by
  obtain h | h := h <;> simp [Chip.selects, h]

theorem edge_of_deaf (h : ∀ u < 8, c.rb rCAP_CTRL u 0 0 = false ∨ c.rf rCAP_CTRL u 0 9 5 ≠ src) : c.edge src rising now = c :=
  Chip.each_of_fixed fun u hu => edgeAt_of_unselected (selects_of_deaf (h u (List.mem_range.mp hu)))

theorem edge_of_off (h : ∀ u < 8, c.rb rCAP_CTRL u 0 0 = false) : c.edge src rising now = c :=
  edge_of_deaf fun u hu => .inl (h u hu)

/-- An edge reaches the one unit that is on. -/
theorem edge_of_single (hu : u < 8) (h : ∀ k < 8, k ≠ u → c.rb rCAP_CTRL k 0 0 = false) :
    c.edge src rising now = c.edgeAt src rising now u := by
  have hoff : ∀ k < 8, k ≠ u → (c.edgeAt src rising now u).rb rCAP_CTRL k 0 0 = false := fun k hk hne => by
    have hkeep : ∀ k < 8, rCAP_CTRL.addr k 0 ∉ edgeRegs := by decide
    rw [(edgeAt_captured c src rising now hu).sameRegs.rb 0 (hkeep k hk), h k hk hne]
  refine Chip.each_of_single (List.mem_range.mpr hu) List.nodup_range (fun k hk hne => ?_) fun k hk hne => ?_
  · exact edgeAt_of_unselected (selects_of_deaf (.inl (h k (List.mem_range.mp hk) hne)))
  · exact edgeAt_of_unselected (selects_of_deaf (.inl (hoff k (List.mem_range.mp hk) hne)))

end Edges

/-! ## The servo's state written (R45, R65, R67) -/

/-- The age of a holdover counts from its entry. -/
def Chip.holdMark (c : Chip) (old new : Nat) : Chip :=
  if old ≠ new ∧ new = 3 then { c with time := { c.time with servo := { c.time.servo with holdStart := c.now } } } else c

theorem holdMark_regs (c : Chip) (old new : Nat) : (c.holdMark old new).regs = c.regs := by
  unfold Chip.holdMark
  split <;> rfl

theorem holdMark_err (c : Chip) (old new : Nat) : (c.holdMark old new).err = c.err := by
  unfold Chip.holdMark
  split <;> rfl

theorem edgeRegs_servo : ∀ n ∈ edgeRegs, n ∈ servoRegs := by decide

theorem servoState_of_same (c : Chip) (st : Nat) : c.servoState st st = c := if_pos rfl

theorem servoState_of_new {c : Chip} {old new : Nat} (h : old ≠ new) : c.servoState old new
    = ((if old = 2 || new = 2 then (c.holdMark old new).log 0x01 0x10 else c.holdMark old new).irq 16).ppsGate := by
  have hmark : c.holdMark old new = if new = 3 then { c with time := { c.time with servo := { c.time.servo with holdStart := c.now } } } else c := by
    simp [Chip.holdMark, h]
  rw [hmark]
  exact if_neg h

/-- A new state's interrupt, and before it the report, which only LOCKED has. -/
theorem servoState_signalled {c : Chip} {old new : Nat} : (c.holdMark old new).Keeps edgeView edgeRegs (16 :: edgeIrqs)
    ((if old = 2 || new = 2 then (c.holdMark old new).log 0x01 0x10 else c.holdMark old new).irq 16) := by
  refine .irq (.ite (.logTime .refl edgeView_err ?_ ?_) .refl) ?_ <;> decide

/-- Beside the mark of a holdover a change of the servo's state is an interrupt, a report and edges of PPS_OUT. -/
theorem servoState_edge (c : Chip) (old new : Nat) : (c.holdMark old new).Keeps edgeView edgeRegs (16 :: edgeIrqs) (c.servoState old new) := by
  by_cases h : old = new
  · subst h
    rw [servoState_of_same, Chip.holdMark, if_neg (by simp)]
    exact .refl
  · rw [servoState_of_new h]
    exact servoState_signalled.trans ((ppsGate_edge _).mono (fun _ h => h) (by simp +contextual))

theorem servoState_irq {c : Chip} {old new : Nat} (h : old ≠ new) : (settle (c.servoState old new)).irqs.getLsbD 16 = true := by
  rw [servoState_of_new h]
  exact (ppsGate_edge _).raised (irq_irqs_same _ (by decide)) (by decide) (by decide)

/-- The module beside reports and the TIME block, and of that the clock. -/
def clockView (r : Chip) : Chip × Nat := (timelessView r, r.time.now)

/-- Beside the reports and the TIME block nothing differs. -/
theorem rest_of_timeless {c d : Chip} (h : timelessView d.rest = timelessView c.rest) : d.rest = { c.rest with err := d.err, time := d.time } :=
  congrArg (fun r : Chip => { r with err := d.err, time := d.time }) h

theorem servoState_clock (c : Chip) (old new : Nat) : c.Keeps clockView servoRegs servoIrqs (c.servoState old new) := by
  have hmark : c.Keeps clockView servoRegs servoIrqs (c.holdMark old new) := .ite (.of_eq .refl rfl rfl rfl) .refl
  exact hmark.trans (.mono (.view (servoState_edge c old new) clockView fun _ => rfl) edgeRegs_servo (by decide))

theorem does_tsState {s : State} {a : Access} {v : Word} (ht : s.chip.takes a rTIME_SERVO 0 0 v) :
    Does s (exec (.tsState a v) s) fun c =>
      c.rf rTIME_SERVO 0 0 2 0 = fld v 2 0 ∧ (fld v 2 0 ≠ s.chip.rf rTIME_SERVO 0 0 2 0 → c.irqs.getLsbD 16 = true)
      ∧ c.rest = { s.chip.rest with err := c.err, time := c.time } ∧ c.time.now = s.chip.time.now
      ∧ Frame servoRegs servoIrqs s.chip c := by
  refine does_write rTIME_SERVO_stands ht rfl rfl ?_
  have hstored : s.chip.counted.Keeps clockView servoRegs servoIrqs (s.chip.counted.stored rTIME_SERVO 0 0 (rTIME_SERVO.merge (s.chip.rd rTIME_SERVO) v)) :=
    .mono (.view (stored_keeps ..) clockView fun _ => rfl) (by decide) (by decide)
  generalize hd : s.chip.counted.stored rTIME_SERVO 0 0 (rTIME_SERVO.merge (s.chip.rd rTIME_SERVO) v) = d at hstored
  have hkeeps := hstored.trans (servoState_clock d (fld (s.chip.rd rTIME_SERVO) 2 0) (fld v 2 0))
  refine ⟨?_, fun h => servoState_irq (Ne.symm h), rest_of_timeless (congrArg Prod.fst hkeeps.sameView), congrArg Prod.snd hkeeps.sameView,
    hkeeps.frame⟩
  have hservo := (servoState_edge d (fld (s.chip.rd rTIME_SERVO) 2 0) (fld v 2 0)).rd (r := rTIME_SERVO) (i := 0) (j := 0) (by decide)
  have hrd : d.rd rTIME_SERVO = rTIME_SERVO.merge (s.chip.rd rTIME_SERVO) v := by
    subst hd
    exact Chip.rd_wr_same ..
  rw [Chip.rd_congr (holdMark_regs ..), hrd] at hservo
  exact (congrArg (fld · 2 0) hservo).trans (RegRow.fld_merge (by decide) (by decide))

end Sys2Proof.Machine

/-! SUPPORT. Fires of the comparators and the writes of their control registers (spec/02 R49..R55, R66, R592). -/

namespace Sys2Proof.Machine

/-! ## What a fire delivers, part by part (R55, R66) -/

/-- The fire's event and its destination. -/
def Chip.fireTo (c : Chip) (n t : Nat) (late : Bool) : Chip :=
  let ctl := c.rd rCMP_CTRL n
  let dest := fld ctl 18 15
  let c := c.emit (.tcmp n dest)
  if dest = 1 then
    let e := (if late then t else (c.cmp n).target, c.time.switchMark)
    let q := if c.time.pixQ.length < 4 then c.time.pixQ ++ [e] else c.time.pixQ
    { c with time := { c.time with pixQ := q, switchMark := false } }
  else if dest = 2 then { c with ras := { c.ras with commitDue := c.ras.commitDue + 1 } }
  else if dest = 3 then { c with prs := { c.prs with kickDue := c.prs.kickDue + 1 } }
  else if dest = 4 then c.inc rPWM_CNT 0 0
  else if dest = 5 then c.stkDrive
  else if dest = 6 then { c with dma := { c.dma with cmpReq := c.dma.cmpReq ++ [fld ctl 22 19] } } else c

/-- Its event record, where `on`. -/
def Chip.recordFire (c : Chip) (n t : Nat) (late on : Bool) : Chip := if on then c.evtPush (if late then 3 else 2) n (tsPack t) else c

/-- Its LATE bit with code 0x13 and interrupt 29, and where `on` its PEND bit with interrupt 28. -/
def Chip.signalFire (c : Chip) (n : Nat) (late on : Bool) : Chip :=
  let c := if late then ((c.wb rCMP_PEND 0 0 (16 + n) true).log 0x01 0x13).irq 29 else c
  if on then (c.wb rCMP_PEND 0 0 n true).irq 28 else c

/-- The lands that follow it. -/
def Chip.landFire (c : Chip) (n : Nat) : Chip := c.each [0, 1, 2, 3] fun c j => c.timeOut n j

theorem deliver_eq (c : Chip) (n t : Nat) (late : Bool) : c.deliver n t late
    = (((((c.fireTo n t late).recordFire n t late (c.rb rCMP_CTRL n 0 4)).signalFire n late (c.rb rCMP_CTRL n 0 5)).landFire n).edge (16 + n) true t) := rfl

/-- The clock, the comparators and what waits for a tick: all of the TIME block that a delivery leaves. -/
def fireView (r : Chip) : TimeSt :=
  { r.time with capCnt := [], capTick := [], evtQ := [], ppsPulse := false, ppsOut := false, pixQ := [], switchMark := false, outLvl := 0, outPulse := 0 }

/-- The registers a delivery can change. -/
def fireRegs : List Nat := rCMP_PEND.addr 0 0 :: rPWM_CNT.addr 0 0 :: edgeRegs

/-- The interrupts it can raise. -/
def fireIrqs : List Nat := 28 :: 29 :: edgeIrqs

/-- The frame of a delivery. -/
abbrev Chip.KeepsFire (c c' : Chip) : Prop := c.Keeps fireView fireRegs fireIrqs c'

theorem Chip.KeepsEdge.fire {c d : Chip} (h : c.KeepsEdge d) : c.KeepsFire d :=
  .mono (.view h fireView fun _ => rfl) (by decide) (by decide)

theorem stkDrive_fire (c : Chip) : c.KeepsFire c.stkDrive := .ite (.of_eq .refl rfl rfl rfl) .refl

theorem fireTo_fire (c : Chip) (n t : Nat) (late : Bool) : c.KeepsFire (c.fireTo n t late) := by
  have hemit : c.KeepsFire (c.emit (.tcmp n (fld (c.rd rCMP_CTRL n) 18 15))) := .of_eq .refl rfl rfl rfl
  refine .trans hemit ?_
  refine .ite (.of_eq .refl rfl rfl rfl) (.ite (.of_eq .refl rfl rfl rfl) (.ite (.of_eq .refl rfl rfl rfl) (.ite ?_ (.ite ?_ (.ite ?_ .refl)))))
  · exact .wr .refl _ (by decide)
  · exact stkDrive_fire _
  · exact .of_eq .refl rfl rfl rfl

theorem recordFire_fire (c : Chip) (n t : Nat) (late on : Bool) : c.KeepsFire (c.recordFire n t late on) :=
  .ite (evtPush_captured ..).edge.fire .refl

theorem signalFire_fire (c : Chip) (n : Nat) (late on : Bool) : c.KeepsFire (c.signalFire n late on) := by
  have hlate : c.KeepsFire (if late then ((c.wb rCMP_PEND 0 0 (16 + n) true).log 0x01 0x13).irq 29 else c) := by
    refine .ite (.irq (.log (.wb .refl _ true ?_) (fun _ _ => rfl) ?_ ?_) ?_) .refl <;> decide
  exact .ite (.irq (.wb hlate _ true (by decide)) (by decide)) hlate

theorem timeOut_fire (c : Chip) (n j : Nat) : c.KeepsFire (c.timeOut n j) := by
  unfold Chip.timeOut
  refine .ite ?_ .refl
  dsimp only
  split <;> exact .of_eq .refl rfl rfl rfl

theorem landFire_fire (c : Chip) (n : Nat) : c.KeepsFire (c.landFire n) := .each .refl _ _ fun e j _ => timeOut_fire e n j

theorem deliver_fire (c : Chip) (n t : Nat) (late : Bool) : c.KeepsFire (c.deliver n t late) := by
  rw [deliver_eq]
  exact ((((fireTo_fire ..).trans (recordFire_fire ..)).trans (signalFire_fire ..)).trans (landFire_fire ..)).trans (edge_edge ..).fire

/-! ## PEND and LATE (R55) -/

theorem landFire_regs (c : Chip) (n : Nat) : (c.landFire n).regs = c.regs := by
  refine Chip.each_ind (P := fun e => e.regs = c.regs) _ _ (fun e j _ h => ?_) c rfl
  rw [← h, Chip.timeOut]
  split
  · dsimp only
    split <;> rfl
  · rfl

section Signal

variable {c : Chip} {n t : Nat} {late on : Bool}

/-- The bits of TIME_CMP_PEND are as the fire's signals leave them. -/
theorem deliver_pend : (c.deliver n t late).rd rCMP_PEND
    = (((c.fireTo n t late).recordFire n t late (c.rb rCMP_CTRL n 0 4)).signalFire n late (c.rb rCMP_CTRL n 0 5)).rd rCMP_PEND := by
  rw [deliver_eq, (edge_edge ..).rd (by decide), Chip.rd_congr (landFire_regs ..)]

/-- What the signals raise still stands after the lands and the edge have followed. -/
theorem deliver_raised {k : Nat} (hk : k ∉ edgeIrqs) (hl : k ∉ levelSources)
    (h : (((c.fireTo n t late).recordFire n t late (c.rb rCMP_CTRL n 0 4)).signalFire n late (c.rb rCMP_CTRL n 0 5)).irqs.getLsbD k = true) :
    (c.deliver n t late).irqs.getLsbD k = true := by
  have hland : ∀ e : Chip, (e.landFire n).irqs = e.irqs := fun e => by
    refine Chip.each_ind (P := fun d => d.irqs = e.irqs) _ _ (fun d j _ h => ?_) e rfl
    rw [← h, Chip.timeOut]
    split
    · dsimp only
      split <;> rfl
    · rfl
  rw [deliver_eq, (edge_edge ..).sameIrqs k hk hl, hland]
  exact h

theorem signalFire_pend (hn : n < 16) : (c.signalFire n late true).rb rCMP_PEND 0 0 n = true := Chip.rb_wb_same _ (by omega)

theorem signalFire_irq : (c.signalFire n late true).irqs.getLsbD 28 = true := irq_irqs_same _ (by decide)

/-- A late fire's bit and interrupt, whatever follows by IRQ. -/
theorem signalFire_late (hn : n < 16) : (c.signalFire n true on).rb rCMP_PEND 0 0 (16 + n) = true
    ∧ (c.signalFire n true on).irqs.getLsbD 29 = true := by
  have hpend : (((c.wb rCMP_PEND 0 0 (16 + n) true).log 0x01 0x13).irq 29).rb rCMP_PEND 0 0 (16 + n) = true := by
    rw [Chip.rb, Chip.rd_irq, Chip.rd_log_other (by decide), ← Chip.rb, Chip.rb_wb_same _ (by omega)]
  have hirq : (((c.wb rCMP_PEND 0 0 (16 + n) true).log 0x01 0x13).irq 29).irqs.getLsbD 29 = true := irq_irqs_same _ (by decide)
  cases on with
  | false => exact ⟨hpend, hirq⟩
  | true => exact ⟨(Chip.rb_wb_bit _ (by omega)).trans hpend, (irq_irqs_other _ (by decide)).trans hirq⟩

end Signal

/-! ## A comparator set, and its fire (R49, R50, R592) -/

section Fire

variable {c : Chip} {n t : Nat} {late passed : Bool}

theorem cmp_setCmp (c : Chip) (n : Nat) (x : Cmp) : (c.setCmp n x).cmp n = x := mget_mset_same ..

theorem armBit_setCmp (c : Chip) (n : Nat) (x : Cmp) : (c.setCmp n x).rb rCMP_CTRL n 0 0 = x.armed := Chip.rb_wb_same _ (by decide)

/-- The module beside the comparators. -/
def cmpView (r : Chip) : Chip := { r with time := { r.time with cmps := [] } }

theorem setCmp_keeps (c : Chip) (n : Nat) (x : Cmp) : c.Keeps cmpView [rCMP_CTRL.addr n 0] [] (c.setCmp n x) :=
  .of_eq (.wb .refl 0 x.armed (by simp)) rfl rfl rfl

theorem cmp_fire : (c.fire n t late passed).cmp n = c.afterFire (c.cmp n) t passed := cmp_setCmp ..

theorem armBit_fire : (c.fire n t late passed).rb rCMP_CTRL n 0 0 = (c.afterFire (c.cmp n) t passed).armed := armBit_setCmp ..

/-- The frame of a fire. -/
theorem fire_keeps (c : Chip) (n t : Nat) (late passed : Bool) :
    c.Keeps (fun r => fireView (cmpView r)) (rCMP_CTRL.addr n 0 :: fireRegs) fireIrqs (c.fire n t late passed) := by
  have hdeliver := ((deliver_fire c n t late).mono (rs' := rCMP_CTRL.addr n 0 :: fireRegs) (by simp +contextual) fun _ h => h).view
    (g' := fun r => fireView (cmpView r)) (fun x => { x with cmps := [] }) fun _ => rfl
  exact hdeliver.trans (((setCmp_keeps _ n _).mono (by simp) (by simp)).view fireView fun _ => rfl)

theorem fire_now : (c.fire n t late passed).time.now = c.time.now := by
  have h := congrArg TimeSt.now (fire_keeps c n t late passed).sameView
  exact h

theorem cmpPend_ne_cmpCtrl : ∀ n < 16, rCMP_PEND.addr 0 0 ≠ rCMP_CTRL.addr n 0 := by decide

/-- A fire whose CTRL has IRQ sets its PEND bit and raises interrupt 28. -/
theorem fire_pend (hn : n < 16) (h : c.rb rCMP_CTRL n 0 5 = true) : (c.fire n t late passed).rb rCMP_PEND 0 0 n = true
    ∧ (c.fire n t late passed).irqs.getLsbD 28 = true := by
  constructor
  · rw [Chip.rb, Chip.fire, (setCmp_keeps ..).rd (by simpa using cmpPend_ne_cmpCtrl n hn), deliver_pend, h, ← Chip.rb]
    exact signalFire_pend hn
  · refine deliver_raised (by decide) (by decide) ?_
    rw [h]
    exact signalFire_irq

/-- A late fire sets its LATE bit and raises interrupt 29 (R52). -/
theorem fire_late (hn : n < 16) : (c.fire n t true passed).rb rCMP_PEND 0 0 (16 + n) = true
    ∧ (c.fire n t true passed).irqs.getLsbD 29 = true := by
  constructor
  · rw [Chip.rb, Chip.fire, (setCmp_keeps ..).rd (by simpa using cmpPend_ne_cmpCtrl n hn), deliver_pend, ← Chip.rb]
    exact (signalFire_late hn).1
  · exact deliver_raised (by decide) (by decide) (signalFire_late hn).2

theorem Cmp.advance_armed (x : Cmp) : x.advance.armed = x.armed := by
  unfold Cmp.advance
  dsimp only
  split <;> rfl

/-- A one-shot comparator is disarmed by its fire (R49). -/
theorem afterFire_oneShot {x : Cmp} (h : x.mode = 0) : (c.afterFire x t passed).armed = false := by
  simp [Chip.afterFire, h]

/-- Any other stays armed. -/
theorem afterFire_repeating {x : Cmp} (h : x.mode ≠ 0) (hx : x.armed = true) : (c.afterFire x t passed).armed = true := by
  unfold Chip.afterFire
  split
  · contradiction
  · split
    · exact hx
    · exact (Cmp.advance_armed x).trans hx
  · exact hx

end Fire

end Sys2Proof.Machine

/-! SUPPORT. ARM and DISARM (spec/02 R51, R52, R54, R592), and the register commands of the TIME block together. -/

namespace Sys2Proof.Machine

/-! ## A comparator's control register written -/

/-- TIME_CMPn_CTRL written with `v`: a match of the tick first, then the fields. -/
def Chip.cmpStored (c : Chip) (n : Nat) (v : Word) : Chip :=
  (c.matchNow n).stored rCMP_CTRL n 0 (rCMP_CTRL.merge ((c.matchNow n).rd rCMP_CTRL n) v)

theorem regWrite_cmp {c : Chip} {a : Access} {addr : Word} {n : Nat} {v : Word} (h : c.writeRefused a rCMP_CTRL n 0 v = false) :
    c.regWrite a addr rCMP_CTRL n 0 v = (c.cmpStored n v).cmpCtrl n v := if_neg (ne_true_of_eq_false h)

theorem does_cmpWrite {s : State} {a : Access} {n : Fin 16} {v : Word} {w : Chip} {P : Chip → Prop} (ht : s.chip.takes a rCMP_CTRL n 0 v)
    (hw : (s.chip.counted.cmpStored n v).cmpCtrl n v = w) (hP : P (settle w)) : Does s (wrReg a rCMP_CTRL n 0 v s) P := by
  subst hw
  refine does_run (f := fun c => c.busWrite a (BitVec.ofNat 32 (rCMP_CTRL.addr n 0)) v) ?_
  have hwrite := (busWrite_regWrite (c := s.chip.counted) (rCMP_CTRL_stands n) ht).trans (regWrite_cmp ht.2.2.1)
  exact hwrite ▸ hP

section Written

variable {c : Chip} {n : Nat} {v : Word}

/-- No match of the tick is at hand (R54). -/
theorem matchNow_of_quiet (h : (c.cmp n).armed = false ∨ c.time.now < (c.cmp n).target) : c.matchNow n = c := by
  refine if_neg ?_
  obtain h | h := h
  · simp [Chip.fires, h]
  · simp [Chip.now, Nat.not_le.mpr h]

/-- A one-shot comparator whose target has come matches. -/
theorem matchNow_of_due (halive : c.alive .ts = true) (harmed : (c.cmp n).armed = true) (hmode : (c.cmp n).mode = 0)
    (hdue : (c.cmp n).target ≤ c.time.now) : c.matchNow n = c.fire n c.now false false := by
  have hfires : c.fires n c.now = true := by
    simp only [Chip.fires, harmed, hmode, Chip.now, hdue, if_true]
    cases c.time.gridPend <;> rfl
  have hdue' : (c.cmp n).target ≤ c.now := hdue
  exact if_pos (by simp [halive, hfires, hdue'])

theorem cmpStored_of_quiet (h : (c.cmp n).armed = false ∨ c.time.now < (c.cmp n).target) :
    c.cmpStored n v = c.stored rCMP_CTRL n 0 (rCMP_CTRL.merge (c.rd rCMP_CTRL n) v) := by
  rw [Chip.cmpStored, matchNow_of_quiet h]

theorem cmpCtrl_of_disarm (h : bit v 1 = true) : c.cmpCtrl n v = c.setCmp n { c.cmp n with armed := false } := if_pos h

theorem cmpCtrl_of_refused (h : bit v 1 = false) (h0 : bit v 0 = true) (hm : c.rf rCMP_CTRL n 0 3 2 = 3) :
    c.cmpCtrl n v = c.setCmp n { c.cmp n with armed := false } := by
  rw [Chip.cmpCtrl, if_neg (ne_true_of_eq_false h), if_pos h0, if_pos hm]

/-- An ARM of a target that has not passed, or of the grid's next. -/
theorem cmpCtrl_of_ahead (h : bit v 1 = false) (h0 : bit v 0 = true) (hm : c.rf rCMP_CTRL n 0 3 2 ≠ 3)
    (hahead : (c.armed n).mode = 2 ∨ c.time.now < (c.armed n).target) : c.cmpCtrl n v = c.setCmp n (c.armed n) := by
  rw [Chip.cmpCtrl, if_neg (ne_true_of_eq_false h), if_pos h0, if_neg hm]
  refine if_neg ?_
  obtain hahead | hahead := hahead
  · simp [hahead]
  · simp [Chip.now, Nat.not_le.mpr hahead]

/-- An ARM of a target that has passed fires it (R52). -/
theorem cmpCtrl_of_passed (h : bit v 1 = false) (h0 : bit v 0 = true) (hm : c.rf rCMP_CTRL n 0 3 2 ≠ 3) (habs : (c.armed n).mode ≠ 2)
    (hpassed : (c.armed n).target ≤ c.time.now) :
    c.cmpCtrl n v = (c.setCmp n (c.armed n)).fire n (c.setCmp n (c.armed n)).tick.now true false := by
  rw [Chip.cmpCtrl, if_neg (ne_true_of_eq_false h), if_pos h0, if_neg hm]
  exact if_pos (by simp [habs, Chip.now, hpassed])

/-! ## What ARM latches (R51, R52, R592) -/

theorem armed_of_absolute (h : c.rf rCMP_CTRL n 0 3 2 ≠ 2) : c.armed n
    = { armed := true, mode := c.rf rCMP_CTRL n 0 3 2, div := divOf (c.rf rCMP_CTRL n 0 29 23), target := tsOf (c.rd rCMP_NS n) (c.rd rCMP_SLO n) (c.rd rCMP_SHI n)
        perNs := (c.rd rCMP_PER_NS n).toNat, perRem := c.rf rCMP_PER_REM n 0 23 0, perDen := zeroAsOne (c.rf rCMP_PER_DEN n 0 23 0) } := if_neg h

theorem armed_of_gridded (h : c.rf rCMP_CTRL n 0 3 2 = 2) : c.armed n
    = { armed := true, mode := 2, div := divOf (c.rf rCMP_CTRL n 0 29 23), ofs := sgn (c.rd rCMP_NS n)
        idx := gridFirst c.time.grid (sgn (c.rd rCMP_NS n)) (divOf (c.rf rCMP_CTRL n 0 29 23)) (c.now + 1)
        target := (gridTarget c.time.grid (sgn (c.rd rCMP_NS n)) (divOf (c.rf rCMP_CTRL n 0 29 23))
          (gridFirst c.time.grid (sgn (c.rd rCMP_NS n)) (divOf (c.rf rCMP_CTRL n 0 29 23)) (c.now + 1))).toNat } := if_pos h

/-- MODE and DIV in the control register once `v` is written with ARM or DISARM. -/
theorem cmpStored_field {hi lo : Nat} (c : Chip) (w : Word) (h : hi < 32)
    (hr : ∀ k, lo ≤ k → k ≤ hi → Nat.testBit rCMP_CTRL.rw k = true ∧ Nat.testBit rCMP_CTRL.w1c k = false)
    (hw : ∀ k, lo ≤ k → k ≤ hi → bit w k = false) : (c.cmpStored n (v ||| w)).rf rCMP_CTRL n 0 hi lo = fld v hi lo := by
  rw [Chip.rf, Chip.cmpStored, Chip.rd_answer, Chip.rd_wr_same, RegRow.fld_merge h hr, fld_or_other hw]

theorem cmpStored_mode (c : Chip) : (c.cmpStored n (v ||| 0x1)).rf rCMP_CTRL n 0 3 2 = fld v 3 2 :=
  cmpStored_field c _ (by decide) (by decide) (by decide)

theorem cmpStored_div (c : Chip) : (c.cmpStored n (v ||| 0x1)).rf rCMP_CTRL n 0 29 23 = fld v 29 23 :=
  cmpStored_field c _ (by decide) (by decide) (by decide)

theorem cmpRegs_ne_cmpCtrl : ∀ n < 16, ∀ r ∈ [rCMP_NS, rCMP_SLO, rCMP_SHI], r.addr n 0 ≠ rCMP_CTRL.addr n 0 := by decide

/-- The written target. -/
theorem stored_target (hn : n < 16) (w : Word) : tsOf ((c.stored rCMP_CTRL n 0 w).rd rCMP_NS n) ((c.stored rCMP_CTRL n 0 w).rd rCMP_SLO n)
    ((c.stored rCMP_CTRL n 0 w).rd rCMP_SHI n) = tsOf (c.rd rCMP_NS n) (c.rd rCMP_SLO n) (c.rd rCMP_SHI n) := by
  have hne := cmpRegs_ne_cmpCtrl n hn
  rw [Chip.rd_answer, Chip.rd_answer, Chip.rd_answer, Chip.rd_wr_other _ _ (hne _ (by simp)), Chip.rd_wr_other _ _ (hne _ (by simp)),
    Chip.rd_wr_other _ _ (hne _ (by simp))]

/-- What ARM latches of a one-shot or periodic comparator. -/
theorem armed_stored_absolute (hn : n < 16) (hquiet : (c.cmp n).armed = false ∨ c.time.now < (c.cmp n).target) (hm : fld v 3 2 ≠ 2) :
    ((c.cmpStored n (v ||| 0x1)).armed n).armed = true ∧ ((c.cmpStored n (v ||| 0x1)).armed n).mode = fld v 3 2
    ∧ ((c.cmpStored n (v ||| 0x1)).armed n).target = tsOf (c.rd rCMP_NS n) (c.rd rCMP_SLO n) (c.rd rCMP_SHI n) := by
  have hmode := cmpStored_mode (n := n) (v := v) c
  rw [armed_of_absolute (by rw [hmode]; exact hm)]
  refine ⟨rfl, hmode, ?_⟩
  rw [cmpStored_of_quiet hquiet]
  exact stored_target hn _

/-- What ARM latches of a gridded comparator. -/
theorem armed_stored_gridded (hn : n < 16) (hquiet : (c.cmp n).armed = false ∨ c.time.now < (c.cmp n).target) (hm : fld v 3 2 = 2) :
    (c.cmpStored n (v ||| 0x1)).armed n =
      { armed := true, mode := 2, div := divOf (fld v 29 23), ofs := sgn (c.rd rCMP_NS n)
        idx := gridFirst c.time.grid (sgn (c.rd rCMP_NS n)) (divOf (fld v 29 23)) (c.now + 1)
        target := (gridTarget c.time.grid (sgn (c.rd rCMP_NS n)) (divOf (fld v 29 23))
          (gridFirst c.time.grid (sgn (c.rd rCMP_NS n)) (divOf (fld v 29 23)) (c.now + 1))).toNat } := by
  have hns : (c.cmpStored n (v ||| 0x1)).rd rCMP_NS n = c.rd rCMP_NS n := by
    rw [cmpStored_of_quiet hquiet, Chip.rd_answer, Chip.rd_wr_other _ _ (cmpRegs_ne_cmpCtrl n hn _ (by simp))]
  rw [armed_of_gridded ((cmpStored_mode c).trans hm), cmpStored_div, hns, cmpStored_of_quiet hquiet]
  rfl

end Written

/-- What a comparator set after its control register is written leaves of the rest. -/
theorem setCmp_stored_frame (c : Chip) (n : Nat) (w : Word) (x : Cmp) :
    ((c.stored rCMP_CTRL n 0 w).setCmp n x).rest = { c.rest with time := { c.time with cmps := mset ({} : Cmp) c.time.cmps n x } }
    ∧ Frame [rCMP_CTRL.addr n 0] [] c (settle ((c.stored rCMP_CTRL n 0 w).setCmp n x)) :=
  ⟨rfl, (((stored_keeps c rCMP_CTRL n 0 w).view cmpView fun _ => rfl).trans (setCmp_keeps ..)).frame⟩

/-- What an ARM that fires nothing leaves: the comparator as latched, and nothing else but its control register. -/
theorem setCmp_stored_latched (c : Chip) (n : Nat) (w : Word) {x : Cmp} (hx : x.armed = true) :
    (settle ((c.stored rCMP_CTRL n 0 w).setCmp n x)).cmp n = x
    ∧ (settle ((c.stored rCMP_CTRL n 0 w).setCmp n x)).rest
      = { c.rest with time := { c.time with cmps := mset ({} : Cmp) c.time.cmps n ((settle ((c.stored rCMP_CTRL n 0 w).setCmp n x)).cmp n) } }
    ∧ (settle ((c.stored rCMP_CTRL n 0 w).setCmp n x)).rb rCMP_CTRL n 0 0 = true
    ∧ Frame [rCMP_CTRL.addr n 0] [] c (settle ((c.stored rCMP_CTRL n 0 w).setCmp n x)) := by
  have hcmp : (settle ((c.stored rCMP_CTRL n 0 w).setCmp n x)).cmp n = x := cmp_setCmp ..
  obtain ⟨hrest, hframe⟩ := setCmp_stored_frame c n w x
  rw [hcmp]
  exact ⟨rfl, hrest, (armBit_setCmp ..).trans hx, hframe⟩

section Commands

variable {s : State} {a : Access} {n : Fin 16} {v : Word}

theorem does_cmpDisarm (ht : s.chip.takes a rCMP_CTRL n 0 (v ||| 0x2)) :
    Does s (exec (.cmpDisarm a n v) s) fun c =>
      (c.cmp n).armed = false ∧ c.rb rCMP_CTRL n 0 0 = false
      ∧ ((s.chip.cmp n).armed = false ∨ s.chip.time.now < (s.chip.cmp n).target →
          c.rest = { s.chip.rest with time := { s.chip.time with cmps := mset ({} : Cmp) s.chip.time.cmps n { s.chip.cmp n with armed := false } } }
          ∧ Frame [rCMP_CTRL.addr n 0] [] s.chip c)
      ∧ (s.chip.alive .ts = true → (s.chip.cmp n).armed = true → (s.chip.cmp n).mode = 0 → (s.chip.cmp n).target ≤ s.chip.time.now →
          s.chip.rb rCMP_CTRL n 0 5 = true → c.rb rCMP_PEND 0 0 n = true ∧ c.irqs.getLsbD 28 = true) := by
  refine does_cmpWrite ht (cmpCtrl_of_disarm (bit_or_of_bit (by decide))) ⟨congrArg Cmp.armed (cmp_setCmp ..), armBit_setCmp .., fun hquiet => ?_, ?_⟩
  · rw [cmpStored_of_quiet (c := s.chip.counted) hquiet]
    exact setCmp_stored_frame s.chip.counted n _ _
  · intro halive harmed hmode hdue hirq
    have hfire := fire_pend (c := s.chip.counted) (t := s.chip.now) (late := false) (passed := false) n.isLt hirq
    rw [Chip.cmpStored, matchNow_of_due (c := s.chip.counted) halive harmed hmode hdue]
    have hkeeps := ((stored_keeps (s.chip.counted.fire n s.chip.now false false) rCMP_CTRL n 0
      (rCMP_CTRL.merge ((s.chip.counted.fire n s.chip.now false false).rd rCMP_CTRL n) (v ||| 0x2))).view cmpView fun _ => rfl).trans
      (setCmp_keeps _ n { ((s.chip.counted.fire n s.chip.now false false).stored rCMP_CTRL n 0
        (rCMP_CTRL.merge ((s.chip.counted.fire n s.chip.now false false).rd rCMP_CTRL n) (v ||| 0x2))).cmp n with armed := false })
    exact ⟨(hkeeps.sameRegs.rb n (by simpa using cmpPend_ne_cmpCtrl n n.isLt)).trans hfire.1, hkeeps.raised hfire.2 (by simp) (by decide)⟩

theorem does_cmpArm_ahead (ht : s.chip.takes a rCMP_CTRL n 0 (v ||| 0x1)) (h1 : bit v 1 = false) (hm : fld v 3 2 < 2)
    (hquiet : (s.chip.cmp n).armed = false ∨ s.chip.time.now < (s.chip.cmp n).target)
    (hahead : s.chip.time.now < tsOf (s.chip.rd rCMP_NS n) (s.chip.rd rCMP_SLO n) (s.chip.rd rCMP_SHI n)) :
    Does s (exec (.cmpArm a n v) s) fun c =>
      (c.cmp n).armed = true ∧ (c.cmp n).mode = fld v 3 2
      ∧ (c.cmp n).target = tsOf (s.chip.rd rCMP_NS n) (s.chip.rd rCMP_SLO n) (s.chip.rd rCMP_SHI n)
      ∧ c.rest = { s.chip.rest with time := { s.chip.time with cmps := mset ({} : Cmp) s.chip.time.cmps n (c.cmp n) } }
      ∧ c.rb rCMP_CTRL n 0 0 = true ∧ Frame [rCMP_CTRL.addr n 0] [] s.chip c := by
  obtain ⟨harmed, hmode, htarget⟩ := armed_stored_absolute (c := s.chip.counted) (v := v) n.isLt hquiet (by omega)
  have hrefused : (s.chip.counted.cmpStored n (v ||| 0x1)).rf rCMP_CTRL n 0 3 2 ≠ 3 := by rw [cmpStored_mode]; omega
  have hnow : (s.chip.counted.cmpStored n (v ||| 0x1)).time.now = s.chip.time.now := by rw [cmpStored_of_quiet (c := s.chip.counted) hquiet]; rfl
  refine does_cmpWrite ht (cmpCtrl_of_ahead ((bit_or_of_no_bit (by decide)).trans h1) (bit_or_of_bit (by decide)) hrefused
    (.inr (by rw [hnow, htarget]; exact hahead))) ?_
  generalize (s.chip.counted.cmpStored n (v ||| 0x1)).armed n = x at harmed hmode htarget
  rw [cmpStored_of_quiet (c := s.chip.counted) hquiet]
  obtain ⟨hcmp, hrest, harm, hframe⟩ := setCmp_stored_latched s.chip.counted n (rCMP_CTRL.merge (s.chip.counted.rd rCMP_CTRL n) (v ||| 0x1)) harmed
  exact ⟨(congrArg Cmp.armed hcmp).trans harmed, (congrArg Cmp.mode hcmp).trans hmode, (congrArg Cmp.target hcmp).trans htarget, hrest, harm, hframe⟩

theorem does_cmpArm_passed (ht : s.chip.takes a rCMP_CTRL n 0 (v ||| 0x1)) (h1 : bit v 1 = false) (hm : fld v 3 2 < 2)
    (hquiet : (s.chip.cmp n).armed = false ∨ s.chip.time.now < (s.chip.cmp n).target)
    (hpassed : tsOf (s.chip.rd rCMP_NS n) (s.chip.rd rCMP_SLO n) (s.chip.rd rCMP_SHI n) ≤ s.chip.time.now) :
    Does s (exec (.cmpArm a n v) s) fun c =>
      (c.cmp n).armed = decide (fld v 3 2 = 1) ∧ c.rb rCMP_PEND 0 0 (16 + n) = true ∧ c.irqs.getLsbD 29 = true
      ∧ c.time.now = s.chip.time.now := by
  obtain ⟨harmed, hmode, htarget⟩ := armed_stored_absolute (c := s.chip.counted) (v := v) n.isLt hquiet (by omega)
  have hrefused : (s.chip.counted.cmpStored n (v ||| 0x1)).rf rCMP_CTRL n 0 3 2 ≠ 3 := by rw [cmpStored_mode]; omega
  have hnow : (s.chip.counted.cmpStored n (v ||| 0x1)).time.now = s.chip.time.now := by rw [cmpStored_of_quiet (c := s.chip.counted) hquiet]; rfl
  refine does_cmpWrite ht (cmpCtrl_of_passed ((bit_or_of_no_bit (by decide)).trans h1) (bit_or_of_bit (by decide)) hrefused
    (by rw [hmode]; omega) (by rw [hnow, htarget]; exact hpassed)) ?_
  generalize (s.chip.counted.cmpStored n (v ||| 0x1)).armed n = x at harmed hmode htarget
  obtain ⟨hpend, hirq⟩ := fire_late (c := (s.chip.counted.cmpStored n (v ||| 0x1)).setCmp n x)
    (t := ((s.chip.counted.cmpStored n (v ||| 0x1)).setCmp n x).tick.now) (passed := false) n.isLt
  refine ⟨(congrArg Cmp.armed cmp_fire).trans ?_, hpend, (settle_irqs_other _ (by decide)).trans hirq, fire_now.trans hnow⟩
  rw [cmp_setCmp]
  by_cases h0 : x.mode = 0
  · rw [afterFire_oneShot h0, decide_eq_false (by omega)]
  · rw [afterFire_repeating h0 harmed, decide_eq_true (by omega)]

theorem does_cmpArm_gridded (ht : s.chip.takes a rCMP_CTRL n 0 (v ||| 0x1)) (h1 : bit v 1 = false) (hm : fld v 3 2 = 2)
    (hquiet : (s.chip.cmp n).armed = false ∨ s.chip.time.now < (s.chip.cmp n).target) :
    Does s (exec (.cmpArm a n v) s) fun c =>
      (c.cmp n).armed = true ∧ (c.cmp n).mode = 2 ∧ (c.cmp n).ofs = sgn (s.chip.rd rCMP_NS n) ∧ (c.cmp n).div = divOf (fld v 29 23)
      ∧ (c.cmp n).target = (gridTarget s.chip.time.grid (c.cmp n).ofs (c.cmp n).div
          (gridFirst s.chip.time.grid (c.cmp n).ofs (c.cmp n).div ((s.chip.time.now + 1 : Nat) : Int))).toNat
      ∧ c.rest = { s.chip.rest with time := { s.chip.time with cmps := mset ({} : Cmp) s.chip.time.cmps n (c.cmp n) } }
      ∧ c.rb rCMP_CTRL n 0 0 = true ∧ Frame [rCMP_CTRL.addr n 0] [] s.chip c := by
  have hx := armed_stored_gridded (c := s.chip.counted) (v := v) n.isLt hquiet hm
  have hrefused : (s.chip.counted.cmpStored n (v ||| 0x1)).rf rCMP_CTRL n 0 3 2 ≠ 3 := by rw [cmpStored_mode]; omega
  refine does_cmpWrite ht (cmpCtrl_of_ahead ((bit_or_of_no_bit (by decide)).trans h1) (bit_or_of_bit (by decide)) hrefused
    (.inl (by rw [hx]))) ?_
  generalize (s.chip.counted.cmpStored n (v ||| 0x1)).armed n = x at hx ⊢
  rw [cmpStored_of_quiet (c := s.chip.counted) hquiet]
  have harmed : x.armed = true := congrArg Cmp.armed hx
  obtain ⟨hcmp, hrest, harm, hframe⟩ := setCmp_stored_latched s.chip.counted n (rCMP_CTRL.merge (s.chip.counted.rd rCMP_CTRL n) (v ||| 0x1)) harmed
  have hlatched := hcmp.trans hx
  refine ⟨(congrArg Cmp.armed hcmp).trans harmed, congrArg Cmp.mode hlatched, congrArg Cmp.ofs hlatched, congrArg Cmp.div hlatched, ?_, hrest, harm, hframe⟩
  rw [hlatched]
  rfl

theorem does_cmpArm_refused (ht : s.chip.takes a rCMP_CTRL n 0 (v ||| 0x1)) (h : bit v 1 = true ∨ fld v 3 2 = 3) :
    Does s (exec (.cmpArm a n v) s) fun c => (c.cmp n).armed = false ∧ c.rb rCMP_CTRL n 0 0 = false := by
  have hctrl : (s.chip.counted.cmpStored n (v ||| 0x1)).cmpCtrl n (v ||| 0x1) = (s.chip.counted.cmpStored n (v ||| 0x1)).setCmp n
      { (s.chip.counted.cmpStored n (v ||| 0x1)).cmp n with armed := false } := by
    by_cases h1 : bit v 1 = true
    · exact cmpCtrl_of_disarm (by rw [bit_or, h1, Bool.true_or])
    · exact cmpCtrl_of_refused ((bit_or_of_no_bit (by decide)).trans (by simpa using h1)) (bit_or_of_bit (by decide))
        ((cmpStored_mode _).trans (h.resolve_left h1))
  exact does_cmpWrite ht hctrl ⟨congrArg Cmp.armed (cmp_setCmp ..), armBit_setCmp ..⟩

end Commands

/-- Settles O10: each command by what its register does beyond its access codes. -/
theorem timeRegisterCommands : Obligations.time_register_commands :=
  ⟨fun _ _ _ => does_timeAddendWrite, fun _ _ _ => does_stepWrite, fun _ _ _ => does_gridApply, fun _ _ _ _ => does_cmpDisarm,
    fun _ _ _ _ => does_cmpArm_ahead, fun _ _ _ _ => does_cmpArm_passed, fun _ _ _ _ => does_cmpArm_gridded,
    fun _ _ _ _ => does_cmpArm_refused, fun _ _ _ => does_tsState, fun _ _ _ => does_timeSnapRead, fun _ _ _ _ => does_txtsPop_of_cons,
    fun _ _ => does_txtsPop_of_empty⟩

end Sys2Proof.Machine

/-! SUPPORT. The TIME block's own events (spec/02 R41, R49..R62, R65, R66). -/

namespace Sys2Proof.Machine

/-- A command that acts where `ok` holds, and it does. -/
theorem does_when {s : State} {ok : Chip → Bool} {f : Chip → Chip} {w : Chip} {P : Chip → Prop} (hok : ok s.chip.counted = true)
    (hw : f s.chip.counted = w) (h : P (settle w)) : Does s (run (fun c => c.when (ok c) f) s) P := by
  subst hw
  refine does_run (f := fun c => c.when (ok c) f) ?_
  rw [Chip.when, show ok { s.chip with cyc := s.chip.cyc + 1 } = true from hok]
  exact h

/-- A command that acts where `ok` holds, with an effect that changes nothing. -/
theorem does_when_quiet {s : State} {ok : Chip → Bool} {f : Chip → Chip} (hf : f s.chip.counted = s.chip.counted) :
    Does s (run (fun c => c.when (ok c) f) s) fun c => c.rest = s.chip.rest ∧ Frame [] [] s.chip c := by
  refine does_run (f := fun c => c.when (ok c) f) ?_
  rw [Chip.when, show f { s.chip with cyc := s.chip.cyc + 1 } = _ from hf, ite_self]
  exact quiet s.chip

/-! ## A step of the clock (R41, R53) -/

/-- The clock set to `t`, the servo's reference times moved along. -/
def Chip.clockSet (c : Chip) (t : Nat) : Chip :=
  { c with time := { c.time with now := t, frac := 0, stepReq := none, servo := { c.time.servo with
      holdStart := c.time.servo.holdStart + ((t : Int) - c.time.now), runMark := c.time.servo.runMark + ((t : Int) - c.time.now) } } }

/-- STEPPED shown for STEP_PEND. -/
def Chip.stepShown (c : Chip) : Chip := (c.wb rTIME_STATUS 0 0 2 false).wb rTIME_STATUS 0 0 1 true

/-- The clock stepped to `t`, shown, reported and signalled. -/
def Chip.stepped (c : Chip) (t : Nat) : Chip := ((c.clockSet t).stepShown.log 0x01 0x11).irq 17

/-- The fires of the targets between `old` and `t` (R53). -/
def Chip.passedFires (c : Chip) (old t : Nat) : Chip :=
  c.each (List.range 16) fun c n => if (c.cmp n).armed && old < (c.cmp n).target && (c.cmp n).target ≤ t then c.fire n t true true else c

theorem stepApply_of_pending {c : Chip} {q : StepReq} (h : c.time.stepReq = some q) : c.stepApply
    = if stepTarget c.time.now q / nsPerSec ≠ c.time.now / nsPerSec
      then ((c.stepped (stepTarget c.time.now q)).passedFires c.time.now (stepTarget c.time.now q)).ppsRise
      else (c.stepped (stepTarget c.time.now q)).passedFires c.time.now (stepTarget c.time.now q) := by
  rw [Chip.stepApply, h]
  rfl

theorem stepApply_of_none {c : Chip} (h : c.time.stepReq = none) : c.stepApply = c := by
  rw [Chip.stepApply, h]

/-- The clock and what waits for a tick, beside the comparators. -/
def clockedView (r : Chip) : TimeSt := fireView (cmpView r)

/-- The control registers of the comparators. -/
def cmpCtrlRegs : List Nat := (List.range 16).map (rCMP_CTRL.addr · 0)

theorem mem_cmpCtrlRegs {n : Nat} (hn : n ∈ List.range 16) : rCMP_CTRL.addr n 0 ∈ cmpCtrlRegs := List.mem_map.mpr ⟨n, hn, rfl⟩

/-- The registers that fires of any comparators can change. -/
def firesRegs : List Nat := cmpCtrlRegs ++ fireRegs

theorem passedFires_keeps (c : Chip) (old t : Nat) : c.Keeps clockedView firesRegs fireIrqs (c.passedFires old t) := by
  refine .each .refl _ _ fun e n hn => .ite ((fire_keeps e n t true true).mono ?_ fun _ h => h) .refl
  intro k hk
  rcases List.mem_cons.mp hk with rfl | hk
  · exact List.mem_append_left _ (mem_cmpCtrlRegs hn)
  · exact List.mem_append_right _ hk

theorem passedFires_of_unarmed {c : Chip} {old t : Nat} (h : ∀ n < 16, (c.cmp n).armed = false) : c.passedFires old t = c :=
  Chip.each_of_fixed fun n hn => if_neg (by simp [h n (List.mem_range.mp hn)])

theorem ppsRise_clocked (c : Chip) : c.Keeps clockedView firesRegs fireIrqs c.ppsRise :=
  .mono (.view (ppsRise_edge c) clockedView fun _ => rfl) (fun _ h => List.mem_append_right _ (List.mem_cons_of_mem _ (List.mem_cons_of_mem _ h)))
    (by decide)

/-- A step, whatever it passes over. -/
theorem stepApply_keeps {c : Chip} {q : StepReq} (h : c.time.stepReq = some q) :
    (c.stepped (stepTarget c.time.now q)).Keeps clockedView firesRegs fireIrqs c.stepApply := by
  rw [stepApply_of_pending h]
  exact .ite ((passedFires_keeps ..).trans (ppsRise_clocked _)) (passedFires_keeps ..)

theorem stepped_time (c : Chip) (t : Nat) : (c.stepped t).time = (c.clockSet t).time := by
  rw [Chip.stepped, Chip.irq_time, Chip.log_time]
  rfl

theorem stepped_status (c : Chip) (t : Nat) : (c.stepped t).rb rTIME_STATUS 0 0 1 = true ∧ (c.stepped t).rb rTIME_STATUS 0 0 2 = false := by
  have hlog : ∀ k, (c.stepped t).rb rTIME_STATUS 0 0 k = (c.clockSet t).stepShown.rb rTIME_STATUS 0 0 k := fun k => by
    rw [Chip.rb, Chip.stepped, Chip.rd_irq, Chip.rd_log_other (by decide), ← Chip.rb]
  rw [hlog, hlog]
  exact ⟨Chip.rb_wb_same _ (by decide), (Chip.rb_wb_bit _ (by decide)).trans (Chip.rb_wb_same _ (by decide))⟩

theorem stepShown_keeps (c : Chip) (t : Nat) : c.Keeps timelessView [rTIME_STATUS.addr 0 0] [] (c.clockSet t).stepShown := by
  have hset : c.Keeps timelessView [rTIME_STATUS.addr 0 0] [] (c.clockSet t) := .of_eq .refl rfl rfl rfl
  exact .wb (.wb hset 2 false (by simp)) 1 true (by simp)

theorem stepped_keeps (c : Chip) (t : Nat) : c.Keeps timelessView (rTIME_STATUS.addr 0 0 :: logRegs 0x01) [17, 209] (c.stepped t) := by
  refine .irq (.log ((stepShown_keeps c t).mono ?_ ?_) (fun _ _ => rfl) ?_ ?_) ?_ <;> simp +contextual

theorem stepped_reports (c : Chip) (t : Nat) : Reports 0x01 0x11 c (c.stepped t) :=
  (Reports.log 0x01 0x11 _ ((stepShown_keeps c t).rd (by decide)).symm rfl (by decide)).irq 17

theorem does_stepApply {s : State} {q : StepReq} (halive : s.chip.alive .ts = true) (hq : s.chip.time.stepReq = some q) :
    Does s (exec .stepApply s) fun c =>
      c.time.now = stepTarget s.chip.time.now q ∧ c.time.frac = 0 ∧ c.time.stepReq = none
      ∧ c.rb rTIME_STATUS 0 0 1 = true ∧ c.rb rTIME_STATUS 0 0 2 = false ∧ c.irqs.getLsbD 17 = true
      ∧ ((∀ n < 16, (s.chip.cmp n).armed = false) → stepTarget s.chip.time.now q / nsPerSec = s.chip.time.now / nsPerSec →
          c.rest = { s.chip.rest with
            time := { s.chip.time with now := stepTarget s.chip.time.now q, frac := 0, stepReq := none
                                       servo := { s.chip.time.servo with
                                         holdStart := s.chip.time.servo.holdStart + ((stepTarget s.chip.time.now q : Int) - s.chip.time.now)
                                         runMark := s.chip.time.servo.runMark + ((stepTarget s.chip.time.now q : Int) - s.chip.time.now) } }
            err := c.err }
          ∧ Reports 0x01 0x11 s.chip c ∧ Frame (rTIME_STATUS.addr 0 0 :: logRegs 0x01) [17, 209] s.chip c) := by
  refine does_when halive rfl ?_
  have hkeeps := stepApply_keeps (c := s.chip.counted) hq
  have htime := hkeeps.sameView
  obtain ⟨hstepped, hpend⟩ := stepped_status s.chip.counted (stepTarget s.chip.time.now q)
  have hstatus : ∀ k, s.chip.counted.stepApply.rb rTIME_STATUS 0 0 k = _ := fun k => hkeeps.sameRegs.rb k (by decide)
  have hclock := stepped_time s.chip.counted (stepTarget s.chip.time.now q)
  refine ⟨(congrArg TimeSt.now htime).trans (congrArg TimeSt.now hclock), (congrArg TimeSt.frac htime).trans (congrArg TimeSt.frac hclock),
    (congrArg TimeSt.stepReq htime).trans (congrArg TimeSt.stepReq hclock), (hstatus 1).trans hstepped, (hstatus 2).trans hpend,
    hkeeps.raised (irq_irqs_same _ (by decide)) (by decide) (by decide), fun hunarmed hsecond => ?_⟩
  have hcmps : ∀ n < 16, ((s.chip.counted.stepped (stepTarget s.chip.time.now q)).cmp n).armed = false := fun n hn => by
    rw [Chip.cmp, hclock]
    exact hunarmed n hn
  have hquiet : s.chip.counted.stepApply = s.chip.counted.stepped (stepTarget s.chip.time.now q) := by
    rw [stepApply_of_pending (c := s.chip.counted) hq, if_neg (not_not.mpr hsecond)]
    exact passedFires_of_unarmed hcmps
  have hframe := stepped_keeps s.chip.counted (stepTarget s.chip.time.now q)
  have hrest := rest_of_timeless hframe.sameView
  rw [hclock] at hrest
  rw [hquiet]
  exact ⟨hrest, (stepped_reports s.chip.counted _).settle, hframe.frame⟩

/-! ## The switch of the grid (R62) -/

/-- Grid `p` in force from its switch tick on. -/
def Chip.gridTaken (c : Chip) (p : GridPend) : Chip :=
  Chip.wb { c with time := { c.time with now := max c.time.now p.tick.toNat, grid := p.grid, gridPend := none, switchMark := true } } rGRID_CTRL 0 0 1 false

/-- Every armed gridded comparator at its first target by the new grid. -/
def Chip.retarget (c : Chip) (p : GridPend) : Chip :=
  c.each (List.range 16) fun c n =>
    if (c.cmp n).armed && (c.cmp n).mode = 2 then
      c.setCmp n { c.cmp n with
        idx := gridFirst p.grid (c.cmp n).ofs (c.cmp n).div p.tick
        target := (gridTarget p.grid (c.cmp n).ofs (c.cmp n).div (gridFirst p.grid (c.cmp n).ofs (c.cmp n).div p.tick)).toNat }
    else c

theorem gridSwitch_of_due {c : Chip} {p : GridPend} (h : c.time.gridPend = some p)
    (hdue : p.tick ≤ (c.time.now : Int) ∨ c.rb rTIME_CTRL 0 0 0 = true) :
    c.gridSwitch = (((c.gridTaken p).retarget p).log 0x01 0x14).irq 31 := by
  rw [Chip.gridSwitch, h]
  refine if_neg ?_
  obtain hdue | hdue := hdue
  · simp [Chip.now, Int.not_lt.mpr hdue]
  · simp [hdue]

theorem gridTaken_keeps (c : Chip) (p : GridPend) : c.Keeps timelessView [rGRID_CTRL.addr 0 0] [] (c.gridTaken p) := by
  refine .wb ?_ 1 false (by simp)
  exact .of_eq .refl rfl rfl rfl

theorem retarget_keeps (c : Chip) (p : GridPend) : c.Keeps cmpView cmpCtrlRegs [] (c.retarget p) :=
  .each .refl _ _ fun e n hn => .ite ((setCmp_keeps e n _).mono (by simpa using mem_cmpCtrlRegs hn) fun _ h => h) .refl

theorem retarget_of_unarmed {c : Chip} {p : GridPend} (h : ∀ n < 16, (c.cmp n).armed = false) : c.retarget p = c :=
  Chip.each_of_fixed fun n hn => if_neg (by simp [h n (List.mem_range.mp hn)])

theorem gridReported_time (c : Chip) (p : GridPend) : (((c.retarget p).log 0x01 0x14).irq 31).time = (c.retarget p).time := by
  rw [Chip.irq_time, Chip.log_time]

theorem retarget_reports (c : Chip) (p : GridPend) : Reports 0x01 0x14 c ((((c.gridTaken p).retarget p).log 0x01 0x14).irq 31) := by
  have hkeeps := retarget_keeps (c.gridTaken p) p
  refine (Reports.log 0x01 0x14 _ ?_ ?_ (by decide)).irq 31
  · rw [hkeeps.rd (by decide), (gridTaken_keeps c p).rd (by decide)]
  · exact hkeeps.same Chip.err fun _ => rfl

theorem does_gridSwitch {s : State} {p : GridPend} (halive : s.chip.alive .ts = true) (hp : s.chip.time.gridPend = some p)
    (hdue : p.tick ≤ (s.chip.time.now : Int) ∨ s.chip.rb rTIME_CTRL 0 0 0 = true) :
    Does s (exec .gridSwitch s) fun c =>
      c.time.grid = p.grid ∧ c.time.gridPend = none ∧ c.time.switchMark = true ∧ c.time.now = max s.chip.time.now p.tick.toNat
      ∧ c.rb rGRID_CTRL 0 0 1 = false ∧ c.irqs.getLsbD 31 = true ∧ Reports 0x01 0x14 s.chip c
      ∧ ((∀ n < 16, (s.chip.cmp n).armed = false) → c.rest = { s.chip.rest with
            time := { s.chip.time with now := max s.chip.time.now p.tick.toNat, grid := p.grid, gridPend := none, switchMark := true }, err := c.err }
          ∧ Frame (rGRID_CTRL.addr 0 0 :: logRegs 0x01) [31, 209] s.chip c) := by
  refine does_when halive (gridSwitch_of_due (c := s.chip.counted) hp hdue) ?_
  have htaken := gridTaken_keeps s.chip.counted p
  have hkeeps := retarget_keeps (s.chip.counted.gridTaken p) p
  have htime := gridReported_time (s.chip.counted.gridTaken p) p
  refine ⟨(congrArg TimeSt.grid htime).trans (hkeeps.same (·.time.grid) fun _ => rfl),
    (congrArg TimeSt.gridPend htime).trans (hkeeps.same (·.time.gridPend) fun _ => rfl),
    (congrArg TimeSt.switchMark htime).trans (hkeeps.same (·.time.switchMark) fun _ => rfl),
    (congrArg TimeSt.now htime).trans (hkeeps.same (·.time.now) fun _ => rfl), ?_, settled_irq_raised (by decide) (by decide),
    (retarget_reports s.chip.counted p).settle, fun hunarmed => ?_⟩
  · show Chip.rb ((((s.chip.counted.gridTaken p).retarget p).log 0x01 0x14).irq 31) rGRID_CTRL 0 0 1 = false
    rw [Chip.rb, Chip.rd_irq, Chip.rd_log_other (by decide), hkeeps.rd (by decide), ← Chip.rb]
    exact Chip.rb_wb_same _ (by decide)
  · rw [retarget_of_unarmed (c := s.chip.counted.gridTaken p) hunarmed] at htime ⊢
    have hlogged : s.chip.counted.Keeps timelessView (rGRID_CTRL.addr 0 0 :: logRegs 0x01) [31, 209] (((s.chip.counted.gridTaken p).log 0x01 0x14).irq 31) := by
      refine .irq (.log (htaken.mono ?_ ?_) (fun _ _ => rfl) ?_ ?_) ?_ <;> simp +contextual
    have hrest := rest_of_timeless hlogged.sameView
    rw [htime] at hrest
    exact ⟨hrest, hlogged.frame⟩

/-! ## Fires (R49, R55, R66) -/

theorem does_cmpFire {s : State} {n : Fin 16} {t : Nat} (halive : s.chip.alive .ts = true) (hfires : s.chip.fires n t = true) :
    Does s (exec (.cmpFire n t) s) fun c =>
      c.time.now = t ∧ ((s.chip.cmp n).mode = 0 → (c.cmp n).armed = false ∧ c.rb rCMP_CTRL n 0 0 = false)
      ∧ ((s.chip.cmp n).mode ≠ 0 → (c.cmp n).armed = true)
      ∧ (s.chip.rb rCMP_CTRL n 0 5 = true → c.rb rCMP_PEND 0 0 n = true ∧ c.irqs.getLsbD 28 = true) := by
  have harmed : (s.chip.cmp n).armed = true := by
    rw [Chip.fires] at hfires
    simp only [Bool.and_eq_true] at hfires
    exact hfires.1.1
  refine does_run (f := fun c => if c.alive .ts && c.fires n t then Chip.fire { c with time := { c.time with now := t } } n t false false else c) ?_
  have hok : (s.chip.counted.alive .ts && s.chip.counted.fires n t) = true := by
    rw [show s.chip.counted.alive .ts = true from halive, show s.chip.counted.fires n t = true from hfires]
    rfl
  rw [if_pos hok]
  refine ⟨fire_now, fun hmode => ⟨?_, ?_⟩, fun hmode => ?_, fun hirq => ?_⟩
  · exact (congrArg Cmp.armed cmp_fire).trans (afterFire_oneShot hmode)
  · exact armBit_fire.trans (afterFire_oneShot hmode)
  · exact (congrArg Cmp.armed cmp_fire).trans (afterFire_repeating hmode harmed)
  · obtain ⟨hpend, hraised⟩ := fire_pend (c := { s.chip.counted with time := { s.chip.counted.time with now := t } }) (t := t) (late := false)
      (passed := false) n.isLt hirq
    exact ⟨hpend, (settle_irqs_other _ (by decide)).trans hraised⟩

/-- A fire that has no destination, no record and nothing that follows it is its event, its PEND bit and its interrupt. -/
theorem deliver_plain {c : Chip} {n t : Nat} (hdest : c.rf rCMP_CTRL n 0 18 15 = 0) (hrec : c.rb rCMP_CTRL n 0 4 = false)
    (hirq : c.rb rCMP_CTRL n 0 5 = true) (hout : c.rd rOUT_CTRL = 0) (hcap : ∀ u < 8, c.rb rCAP_CTRL u 0 0 = false) :
    c.deliver n t false = ((c.emit (.tcmp n 0)).wb rCMP_PEND 0 0 n true).irq 28 := by
  have hto : c.fireTo n t false = c.emit (.tcmp n 0) := by
    rw [Chip.fireTo, show fld (c.rd rCMP_CTRL n) 18 15 = 0 from hdest]
    rfl
  have hsignal : ((c.fireTo n t false).recordFire n t false (c.rb rCMP_CTRL n 0 4)).signalFire n false (c.rb rCMP_CTRL n 0 5)
      = ((c.emit (.tcmp n 0)).wb rCMP_PEND 0 0 n true).irq 28 := by
    rw [hto, hrec, hirq]
    rfl
  have hregs : SameRegs [rCMP_PEND.addr 0 0] c (((c.emit (.tcmp n 0)).wb rCMP_PEND 0 0 n true).irq 28) :=
    ((SameRegs.refl _ c).emit _).wb n true (by simp)
  have hland : (((c.emit (.tcmp n 0)).wb rCMP_PEND 0 0 n true).irq 28).landFire n = ((c.emit (.tcmp n 0)).wb rCMP_PEND 0 0 n true).irq 28 := by
    refine Chip.each_of_fixed fun j _ => ?_
    rw [Chip.timeOut, hregs.rd (by decide), hout]
    exact if_neg (by simp [fld])
  have hdeaf : ∀ u < 8, rCAP_CTRL.addr u 0 ∉ [rCMP_PEND.addr 0 0] := by decide
  rw [deliver_eq, hsignal, hland]
  exact edge_of_off fun u hu => (hregs.rb 0 (hdeaf u hu)).trans (hcap u hu)

theorem does_cmpFire_plain {s : State} {n : Fin 16} (halive : s.chip.alive .ts = true) (hfires : s.chip.fires n s.chip.time.now = true)
    (hdest : s.chip.rf rCMP_CTRL n 0 18 15 = 0) (hrec : s.chip.rb rCMP_CTRL n 0 4 = false) (hirq : s.chip.rb rCMP_CTRL n 0 5 = true)
    (hout : s.chip.rd rOUT_CTRL = 0) (hcap : ∀ u < 8, s.chip.rb rCAP_CTRL u 0 0 = false) :
    Does s (exec (.cmpFire n s.chip.time.now) s) fun c => c.wire = .tcmp n 0 :: s.chip.wire ∧ c.time.evtQ = s.chip.time.evtQ
      ∧ Frame [rCMP_CTRL.addr n 0, rCMP_PEND.addr 0 0] [28] s.chip c := by
  refine does_run (f := fun c => if c.alive .ts && c.fires n s.chip.time.now then
    Chip.fire { c with time := { c.time with now := s.chip.time.now } } n s.chip.time.now false false else c) ?_
  have hok : (s.chip.counted.alive .ts && s.chip.counted.fires n s.chip.time.now) = true := by
    rw [show s.chip.counted.alive .ts = true from halive, show s.chip.counted.fires n s.chip.time.now = true from hfires]
    rfl
  rw [if_pos hok, Chip.fire, show Chip.deliver _ n _ false = _ from deliver_plain (c := s.chip.counted) hdest hrec hirq hout hcap]
  have hframe : s.chip.counted.Keeps (fun _ => ()) [rCMP_CTRL.addr n 0, rCMP_PEND.addr 0 0] [28]
      (((s.chip.counted.emit (.tcmp n 0)).wb rCMP_PEND 0 0 n true).irq 28) := by
    have hemit : s.chip.counted.Keeps (fun _ => ()) [rCMP_CTRL.addr n 0, rCMP_PEND.addr 0 0] [28] (s.chip.counted.emit (.tcmp n 0)) :=
      .of_eq .refl rfl rfl rfl
    exact (hemit.wb (r := rCMP_PEND) (i := 0) (j := 0) n true (by simp)).irq (n := 28) (by simp)
  exact ⟨rfl, rfl, (hframe.wb (r := rCMP_CTRL) (i := n) (j := 0) 0 _ (by simp)).frame⟩

/-! ## Captured edges (R56..R58) -/

theorem does_captureEdge_deaf {s : State} {src : Fin 32} {rising : Bool}
    (h : ∀ u < 8, s.chip.rb rCAP_CTRL u 0 0 = false ∨ s.chip.rf rCAP_CTRL u 0 9 5 ≠ src.val) :
    Does s (exec (.captureEdge src rising) s) fun c => c.rest = s.chip.rest ∧ Frame [] [] s.chip c :=
  does_when_quiet (ok := fun c => c.alive .ts && src.val ≤ 9) (f := fun c => c.edge src rising) (edge_of_deaf (c := s.chip.counted) h)

/-- A record with room in its queue. -/
theorem evtPush_of_room {c : Chip} {kind unit : Nat} {body : BitVec 80} (h : c.time.evtQ.length < 16) : c.evtPush kind unit body
    = { c with time := { c.time with evtQ := c.time.evtQ ++ [BitVec.ofNat 8 kind ++ BitVec.ofNat 8 unit ++ body] } } :=
  if_neg (Nat.not_le.mpr h)

/-- The record of an external source's edge: the time before the synchroniser (R56, R59). -/
theorem capture_external {c : Chip} {u src : Nat} (hsrc : src ≤ 9) (hphase : c.rb rCAP_CTRL u 0 12 = false) (hroom : c.time.evtQ.length < 16) :
    (c.capture u src c.now).time.evtQ = c.time.evtQ ++ [BitVec.ofNat 8 1 ++ BitVec.ofNat 8 u ++ tsPack (c.time.now - syncDelay)]
    ∧ (c.capture u src c.now).time.now = c.time.now ∧ c.Keeps (fun _ => ()) [] [20 + u] (c.capture u src c.now) := by
  have hpush : c.capture u src c.now = if c.rb rCAP_CTRL u 0 13 then (c.evtPush 1 u (tsPack (c.time.now - syncDelay))).irq (20 + u)
      else c.evtPush 1 u (tsPack (c.time.now - syncDelay)) := by
    simp only [Chip.capture, hphase, if_pos hsrc, Nat.not_le.mpr hroom, decide_false, Bool.not_false, Bool.true_and, Bool.false_eq_true, if_false,
      evtPush_of_room hroom]
    rfl
  rw [hpush, evtPush_of_room hroom]
  have hkeeps : c.Keeps (fun _ => ()) [] [20 + u] { c with time := { c.time with
      evtQ := c.time.evtQ ++ [BitVec.ofNat 8 1 ++ BitVec.ofNat 8 u ++ tsPack (c.time.now - syncDelay)] } } := .of_eq .refl rfl rfl rfl
  split
  · exact ⟨rfl, rfl, hkeeps.irq (by simp)⟩
  · exact ⟨rfl, rfl, hkeeps⟩

/-- The edge counted and the tick marked by unit `u`. -/
def Chip.edgeMarked (c : Chip) (u : Nat) : Chip :=
  { c with time := { c.time with capCnt := mset 0 c.time.capCnt u 0, capTick := mset none c.time.capTick u (some c.now) } }

/-- An edge selected by a unit with PRESCALE 0 is captured, once in a tick. -/
theorem edgeAt_of_selected {c : Chip} {src u : Nat} {rising : Bool} (hsel : c.selects src rising u = true) (hpre : c.rf rCAP_CTRL u 0 31 16 = 0) :
    c.edgeAt src rising c.now u = if mget none c.time.capTick u = some c.now then c else (c.edgeMarked u).capture u src c.now := by
  simp only [Chip.edgeAt, hsel, hpre, Bool.true_and, Nat.succ_pos, gt_iff_lt, if_true, Chip.edgeMarked]
  by_cases htick : mget none c.time.capTick u = some c.now <;> simp [htick]

theorem does_captureEdge_selected {s : State} {src : Fin 32} {u : Nat} (halive : s.chip.alive .ts = true) (hsrc : src.val ≤ 9) (hu : u < 8)
    (hon : s.chip.rb rCAP_CTRL u 0 0 = true) (hsel : s.chip.rf rCAP_CTRL u 0 9 5 = src) (hedge : s.chip.rf rCAP_CTRL u 0 11 10 = 2)
    (hpre : s.chip.rf rCAP_CTRL u 0 31 16 = 0) (hphase : s.chip.rb rCAP_CTRL u 0 12 = false) (hroom : s.chip.time.evtQ.length < 16)
    (hother : ∀ k < 8, k ≠ u → s.chip.rb rCAP_CTRL k 0 0 = false) :
    Does s (exec (.captureEdge src true) s) fun c =>
      c.time.evtQ = (if mget none s.chip.time.capTick u = some s.chip.time.now then s.chip.time.evtQ
        else s.chip.time.evtQ ++ [BitVec.ofNat 8 1 ++ BitVec.ofNat 8 u ++ tsPack (s.chip.time.now - syncDelay)])
      ∧ c.time.now = s.chip.time.now ∧ Frame [] [20 + u] s.chip c := by
  have hselects : s.chip.counted.selects src true u = true := by
    have hon' : s.chip.counted.rb rCAP_CTRL u 0 0 = true := hon
    have hsel' : s.chip.counted.rf rCAP_CTRL u 0 9 5 = src := hsel
    have hedge' : s.chip.counted.rf rCAP_CTRL u 0 11 10 = 2 := hedge
    simp [Chip.selects, hon', hsel', hedge']
  have hw : s.chip.counted.edge src true = if mget none s.chip.time.capTick u = some s.chip.time.now then s.chip.counted
      else (s.chip.counted.edgeMarked u).capture u src s.chip.now :=
    (edge_of_single (c := s.chip.counted) hu hother).trans (edgeAt_of_selected (c := s.chip.counted) hselects hpre)
  refine does_when (ok := fun c => c.alive .ts && src.val ≤ 9) (f := fun c => c.edge src true) ?_ hw ?_
  · show (s.chip.alive .ts && decide (src.val ≤ 9)) = true
    rw [halive, decide_eq_true hsrc]
    rfl
  · split
    · exact ⟨rfl, rfl, (counted_quiet s.chip).2.2.1, (SameIrqs.refl _ s.chip.counted).settle⟩
    · obtain ⟨hq, hnow, hframe⟩ := capture_external (c := s.chip.counted.edgeMarked u) (u := u) hsrc hphase hroom
      exact ⟨hq, hnow, hframe.frame⟩

/-! ## PPS_OUT and the pulses of TIME_OUT (R65, R66) -/

theorem ppsRise_of_barred {c : Chip} (h : c.ppsAllowed = false) : c.ppsRise = { c with time := { c.time with ppsPulse := true } } :=
  if_neg (ne_true_of_eq_false h)

theorem ppsRise_of_allowed {c : Chip} (h : c.ppsAllowed = true) :
    c.ppsRise = Chip.edge { c.irq 30 with time := { c.time with ppsPulse := true, ppsOut := true } } 10 true := if_pos h

theorem does_ppsRise {s : State} (halive : s.chip.alive .ts = true) :
    Does s (exec .ppsRise s) fun c =>
      c.time.ppsPulse = true ∧ (s.chip.ppsAllowed = true → c.time.ppsOut = true ∧ c.irqs.getLsbD 30 = true)
      ∧ (s.chip.ppsAllowed = false → c.rest = { s.chip.rest with time := { s.chip.time with ppsPulse := true } } ∧ Frame [] [] s.chip c)
      ∧ ((∀ u < 8, s.chip.rb rCAP_CTRL u 0 0 = false) → s.chip.ppsAllowed = true →
          c.rest = { s.chip.rest with time := { s.chip.time with ppsPulse := true, ppsOut := true } } ∧ Frame [] [30] s.chip c) := by
  refine does_when halive rfl ?_
  cases hallowed : s.chip.ppsAllowed with
  | false =>
    rw [ppsRise_of_barred (c := s.chip.counted) hallowed]
    exact ⟨rfl, nofun, fun _ => ⟨rfl, frame_settle (SameRegs.of_regs rfl) rfl⟩, nofun⟩
  | true =>
    rw [ppsRise_of_allowed (c := s.chip.counted) hallowed]
    have hraised : s.chip.counted.Keeps (fun _ => ()) [] [30] { s.chip.counted.irq 30 with
        time := { s.chip.time with ppsPulse := true, ppsOut := true } } :=
      .of_eq (.irq .refl (by simp)) rfl rfl rfl
    have hkeeps := edge_captured { s.chip.counted.irq 30 with time := { s.chip.time with ppsPulse := true, ppsOut := true } } 10 true s.chip.now
    refine ⟨hkeeps.same (·.time.ppsPulse) fun _ => rfl, fun _ => ⟨hkeeps.same (·.time.ppsOut) fun _ => rfl,
      hkeeps.raised (irq_irqs_same s.chip.counted (by decide)) (by decide) (by decide)⟩, nofun, fun hoff _ => ?_⟩
    rw [edge_of_off (c := { s.chip.counted.irq 30 with time := { s.chip.time with ppsPulse := true, ppsOut := true } }) hoff]
    exact ⟨rfl, hraised.frame⟩

theorem ppsLow_of_low {c : Chip} (h : c.time.ppsOut = false) : c.ppsLow = c := if_neg (ne_true_of_eq_false h)

theorem ppsLow_of_high {c : Chip} (h : c.time.ppsOut = true) :
    c.ppsLow = Chip.edge { c with time := { c.time with ppsOut := false } } 10 false := if_pos h

/-- PPS_OUT is low, the pulse as it was. -/
theorem ppsLow_time (c : Chip) : c.ppsLow.time.ppsOut = false ∧ c.ppsLow.time.ppsPulse = c.time.ppsPulse := by
  cases h : c.time.ppsOut with
  | false => rw [ppsLow_of_low h]; exact ⟨h, rfl⟩
  | true =>
    rw [ppsLow_of_high h]
    have hkeeps := edge_captured { c with time := { c.time with ppsOut := false } } 10 false c.now
    exact ⟨hkeeps.same (·.time.ppsOut) fun _ => rfl, hkeeps.same (·.time.ppsPulse) fun _ => rfl⟩

/-- Where no capture unit is on, nothing else differs. -/
theorem ppsLow_of_off {c : Chip} (h : ∀ u < 8, c.rb rCAP_CTRL u 0 0 = false) : c.ppsLow = { c with time := { c.time with ppsOut := false } } := by
  cases hout : c.time.ppsOut with
  | false => rw [ppsLow_of_low hout, ← hout]
  | true => exact (ppsLow_of_high hout).trans (edge_of_off h)

theorem does_ppsFall {s : State} (halive : s.chip.alive .ts = true) :
    Does s (exec .ppsFall s) fun c => c.time.ppsPulse = false ∧ c.time.ppsOut = false
      ∧ ((∀ u < 8, s.chip.rb rCAP_CTRL u 0 0 = false) →
          c.rest = { s.chip.rest with time := { s.chip.time with ppsPulse := false, ppsOut := false } } ∧ Frame [] [] s.chip c) := by
  refine does_when halive rfl ?_
  obtain ⟨hout, hpulse⟩ := ppsLow_time { s.chip.counted with time := { s.chip.time with ppsPulse := false } }
  refine ⟨hpulse, hout, fun hoff => ?_⟩
  rw [ppsLow_of_off (c := { s.chip.counted with time := { s.chip.time with ppsPulse := false } }) hoff]
  exact ⟨rfl, frame_settle (SameRegs.of_regs rfl) rfl⟩

/-- One bit of a four-bit level cleared. -/
theorem getLsbD_clear (w : BitVec 4) (i j : Fin 4) : (w &&& ~~~(1#4 <<< j.val)).getLsbD i = (w.getLsbD i && decide (i ≠ j)) := by
  revert w i j
  decide

theorem does_timeOutPulseEnd {s : State} {j : Fin 4} (halive : s.chip.alive .ts = true) (hpulse : s.chip.time.outPulse.getLsbD j = true) :
    Does s (exec (.timeOutPulseEnd j) s) fun c =>
      c.time.outLvl.getLsbD j = false ∧ (∀ i : Fin 4, i ≠ j → c.time.outLvl.getLsbD i = s.chip.time.outLvl.getLsbD i)
      ∧ c.rest = { s.chip.rest with time := { s.chip.time with outLvl := c.time.outLvl, outPulse := c.time.outPulse } }
      ∧ Frame [] [] s.chip c := by
  refine does_when (ok := fun c => c.alive .ts && c.time.outPulse.getLsbD j) ?_ rfl
    ⟨(getLsbD_clear ..).trans (by simp), fun i hi => (getLsbD_clear ..).trans (by simp [hi]), rfl, frame_settle (SameRegs.of_regs rfl) rfl⟩
  show (s.chip.alive .ts && s.chip.time.outPulse.getLsbD j) = true
  rw [halive, hpulse]
  rfl

/-- Settles O11: each event by what it is made of; a step and a switch also by the comparators that are armed, an edge by the capture units that
select it. -/
theorem timeEvents : Obligations.time_events :=
  ⟨fun _ _ => does_stepApply, fun _ h => does_when_quiet (stepApply_of_none h), fun _ _ => does_gridSwitch, fun _ _ _ => does_cmpFire,
    fun _ _ halive hfires _ => does_cmpFire_plain halive hfires, fun _ _ _ => does_captureEdge_deaf, fun _ _ _ => does_captureEdge_selected,
    fun _ => does_ppsRise, fun _ => does_ppsFall, fun _ _ => does_timeOutPulseEnd⟩

end Sys2Proof.Machine

/-! SUPPORT. NC's servo (spec/02 R32..R35, R42..R47): its state entered, what its messages and timeouts do. -/

namespace Sys2Proof.Machine

/-- A command whose effect is known. -/
theorem does_eq {s : State} {f : Chip → Chip} {w : Chip} {P : Chip → Prop} (hw : f s.chip.counted = w) (h : P (settle w)) : Does s (run f s) P := by
  subst hw
  exact does_run h

/-! ## A state entered (R45, R67) -/

section Enter

variable {c : Chip} {st : Nat}

theorem holdMark_time (c : Chip) (old new : Nat) : (c.holdMark old new).time = { c.time with servo :=
    { c.time.servo with holdStart := if old ≠ new ∧ new = 3 then c.now else c.time.servo.holdStart } } := by
  by_cases h : old ≠ new ∧ new = 3
  · simp only [Chip.holdMark, if_pos h]
  · simp only [Chip.holdMark, if_neg h]

/-- State `st` written and, of a holdover, its start marked, before the signals of a change. -/
def Chip.servoMarked (c : Chip) (st : Nat) : Chip :=
  ((c.setServo { c.time.servo with runAcc := c.servoRun, runMark := c.now }).wf rTIME_SERVO 0 0 2 0 st).holdMark c.servoNow st

/-- The servo once it has entered `st`. -/
def Chip.servoIn (c : Chip) (st : Nat) : Servo :=
  { c.time.servo with runAcc := c.servoRun, runMark := c.now, holdStart := if c.servoNow ≠ st ∧ st = 3 then c.now else c.time.servo.holdStart }

theorem servoEnter_edge (c : Chip) (st : Nat) : (c.servoMarked st).Keeps edgeView edgeRegs (16 :: edgeIrqs) (c.servoEnter st) :=
  servoState_edge ..

theorem servoMarked_time (c : Chip) (st : Nat) : (c.servoMarked st).time = { c.time with servo := c.servoIn st } := holdMark_time ..

theorem servoEnter_servo (c : Chip) (st : Nat) : (c.servoEnter st).time.servo = c.servoIn st :=
  ((servoEnter_edge c st).same (fun r => r.time.servo) fun _ => rfl).trans (congrArg TimeSt.servo (servoMarked_time c st))

theorem servoEnter_stepReq (c : Chip) (st : Nat) : (c.servoEnter st).time.stepReq = c.time.stepReq :=
  ((servoEnter_edge c st).same (fun r => r.time.stepReq) fun _ => rfl).trans (by rw [servoMarked_time])

theorem servoEnter_now (c : Chip) (st : Nat) : (c.servoEnter st).time.now = c.time.now :=
  ((servoEnter_edge c st).same (fun r => r.time.now) fun _ => rfl).trans (by rw [servoMarked_time])

theorem servoEnter_state (h : st < 8) : (c.servoEnter st).rf rTIME_SERVO 0 0 2 0 = st := by
  rw [(servoEnter_edge c st).sameRegs.rf 2 0 (by decide), Chip.servoMarked, Chip.rf, Chip.rd_congr (holdMark_regs ..), Chip.wf, Chip.rd_wr_same,
    fld_setFld_same _ _ (by decide)]
  exact Nat.mod_eq_of_lt h

/-- The servo put to `x` and then in `st`. -/
theorem setServo_enter_keeps (c : Chip) (x : Servo) (st : Nat) : c.Keeps timelessView servoRegs servoIrqs ((c.setServo x).servoEnter st) := by
  refine .trans ?_ (.view (servoEnter_keeps _ st) Prod.fst fun _ => rfl)
  exact .of_eq .refl rfl rfl rfl

end Enter

/-! ## Messages of the parent and of those that would be it (R33..R35, R44, R46) -/

section Messages

variable {s : State} {c : Chip} {p : Fin 3}

/-- A master that an Announce brings. -/
def announced (p : Fin 3) (m : Announce) : Foreign :=
  ⟨p, m.clk, m.gm, m.prio1, m.cls, m.acc, m.var, m.prio2, m.steps, if m.dst.ip = ptpGroup then ptpGroup else m.dst.src⟩

theorem newParent_servo (c : Chip) (f : Foreign) : (c.newParent f).time.servo.parent = some f
    ∧ (c.newParent f).time.servo.foreigns = c.time.servo.foreigns := by
  rw [Chip.newParent, servoEnter_servo]
  exact ⟨rfl, rfl⟩

theorem newParent_keeps (c : Chip) (f : Foreign) : c.Keeps timelessView servoRegs servoIrqs (c.newParent f) := setServo_enter_keeps ..

theorem newParent_state (c : Chip) (f : Foreign) : (c.newParent f).rf rTIME_SERVO 0 0 2 0 = 4 := servoEnter_state (by decide)

/-- The first master heard is the parent. -/
theorem bmca_of_first {f : Foreign} (hf : c.time.servo.foreigns = [f]) (hp : c.time.servo.parent = none) : c.bmca = c.newParent f := by
  have hbest : c.bestMaster = some f := by rw [Chip.bestMaster, hf]; rfl
  rw [Chip.bmca, hbest, hp]

theorem does_announceRx {m : Announce} (hon : s.chip.ptpOn p m.domain = true) (hto : ptpTo m.dst 320 = true) (hlo : -3 ≤ m.log) (hhi : m.log ≤ 3)
    (hacc : s.chip.acceptable m.clk = true) (hparent : s.chip.time.servo.parent = none) (hnone : s.chip.time.servo.foreigns = []) :
    Does s (exec (.announceRx p m) s) fun c =>
      c.time.servo.foreigns = [announced p m] ∧ c.time.servo.parent = c.time.servo.foreigns.head? ∧ c.rf rTIME_SERVO 0 0 2 0 = 4
      ∧ Frame servoRegs servoIrqs s.chip c := by
  refine does_when (ok := fun c => c.ptpOn p m.domain && ptpTo m.dst 320 && -3 ≤ m.log && m.log ≤ 3 && c.acceptable m.clk)
    (w := Chip.newParent (s.chip.counted.setServo { s.chip.time.servo with foreigns := [announced p m] }) (announced p m)) ?_ ?_ ?_
  · rw [show s.chip.counted.ptpOn p m.domain = true from hon, show s.chip.counted.acceptable m.clk = true from hacc, hto]
    simp [hlo, hhi]
  · refine Eq.trans (congrArg Chip.bmca ?_) (bmca_of_first rfl hparent)
    rw [show s.chip.counted.time.servo.foreigns = [] from hnone]
    rfl
  · have hset : s.chip.counted.Keeps timelessView servoRegs servoIrqs (s.chip.counted.setServo { s.chip.time.servo with foreigns := [announced p m] }) :=
      .of_eq .refl rfl rfl rfl
    obtain ⟨hp, hf⟩ := newParent_servo (s.chip.counted.setServo { s.chip.time.servo with foreigns := [announced p m] }) (announced p m)
    refine ⟨hf, ?_, newParent_state .., (hset.trans (newParent_keeps ..)).frame⟩
    exact hp.trans (congrArg List.head? hf).symm

/-- The guard of a Sync. -/
theorem does_syncRx {m : SyncMsg} {w : Chip} {P : Chip → Prop} (hon : s.chip.ptpOn p m.domain = true) (hto : ptpTo m.dst 319 = true)
    (hlo : -7 ≤ m.log) (hhi : m.log ≤ 1) (hfrom : s.chip.fromParent p m.clk = true) (hsync : m.followUp = false)
    (hw : s.chip.counted.syncRx m = w) (hP : P (settle w)) : Does s (exec (.syncRx p m) s) P := by
  refine does_when (ok := fun c => c.ptpOn p m.domain && ptpTo m.dst (if m.followUp then 320 else 319) && -7 ≤ m.log && m.log ≤ 1
    && c.fromParent p m.clk) ?_ hw hP
  rw [show s.chip.counted.ptpOn p m.domain = true from hon, show s.chip.counted.fromParent p m.clk = true from hfrom, hsync,
    if_neg Bool.false_ne_true, hto]
  simp [hlo, hhi]

theorem syncRx_of_twoStep {m : SyncMsg} (hsync : m.followUp = false) (htwo : m.twoStep = true) : c.syncRx m
    = c.setServo { c.time.servo with syncWait := some (m.seq.toNat, (m.rx - c.asym).toNat, m.corr) } := by
  simp [Chip.syncRx, hsync, htwo]

theorem syncRx_of_oneStep {m : SyncMsg} (hsync : m.followUp = false) (hone : m.twoStep = false) : c.syncRx m
    = c.offset (m.origin + m.corr) (m.rx - c.asym).toNat := by
  simp [Chip.syncRx, hsync, hone]

theorem does_syncRx_twoStep {m : SyncMsg} (hon : s.chip.ptpOn p m.domain = true) (hto : ptpTo m.dst 319 = true)
    (hlo : -7 ≤ m.log) (hhi : m.log ≤ 1) (hfrom : s.chip.fromParent p m.clk = true) (hsync : m.followUp = false) (htwo : m.twoStep = true) :
    Does s (exec (.syncRx p m) s) fun c =>
      c.rest = { s.chip.rest with time := { s.chip.time with servo := { s.chip.time.servo with
        syncWait := some (m.seq.toNat, ((m.rx : Int) - s.chip.asym).toNat, m.corr) } } } ∧ Frame [] [] s.chip c :=
  does_syncRx hon hto hlo hhi hfrom hsync (syncRx_of_twoStep hsync htwo) ⟨rfl, (quiet s.chip).2⟩

/-! ## Offsets (R44, R45, R47) -/

/-- The offset and the Sync it was told by, kept. -/
def Chip.offsetKept (c : Chip) (o org : Int) (rx : Nat) : Chip := c.setServo { c.time.servo with offset := o, lastSync := some (org, rx) }

theorem offset_of_settling {org : Int} {rx : Nat} (h : c.servoNow = 4) : c.offset org rx
    = (c.offsetKept (rx - org - c.time.servo.delay) org rx).setServo { (c.offsetKept (rx - org - c.time.servo.delay) org rx).time.servo with
        settleOffs := (rx - org - c.time.servo.delay) :: c.time.servo.settleOffs } := by
  have hnow : ∀ x, (c.setServo x).servoNow = 4 := fun _ => h
  simp only [Chip.offset, hnow]
  rfl

theorem offset_of_acquiring {org : Int} {rx : Nat} (h : c.servoNow = 1) : c.offset org rx
    = ((c.offsetKept (rx - org - c.time.servo.delay) org rx).correct (rx - org - c.time.servo.delay)).lockCount (rx - org - c.time.servo.delay) := by
  have hnow : ∀ x, (c.setServo x).servoNow = 1 := fun _ => h
  simp only [Chip.offset, hnow]
  rfl

theorem lockCount_offset (c : Chip) (o : Int) : (c.lockCount o).time.servo.offset = c.time.servo.offset := by
  have henter : ∀ x st, x.offset = c.time.servo.offset → ((c.setServo x).servoEnter st).time.servo.offset = c.time.servo.offset := fun x st h => by
    rw [servoEnter_servo]
    exact h
  unfold Chip.lockCount
  refine iteInduction (motive := fun d : Chip => d.time.servo.offset = _) (fun _ => henter _ 2 rfl) fun _ => ?_
  exact iteInduction (motive := fun d : Chip => d.time.servo.offset = _) (fun _ => henter _ 1 rfl) fun _ => rfl

theorem lockCount_keeps (c : Chip) (o : Int) : c.Keeps timelessView servoRegs servoIrqs (c.lockCount o) := by
  have hset : ∀ x, c.Keeps timelessView servoRegs servoIrqs (c.setServo x) := fun x => .of_eq .refl rfl rfl rfl
  exact .ite ((hset _).trans (setServo_enter_keeps ..)) (.ite ((hset _).trans (setServo_enter_keeps ..)) (hset _))

/-- Out of a slew a correction is limited to 500 ppm alone. -/
theorem correct_addend {o : Int} (h : c.time.servo.slewing = false) :
    (c.correct o).rd rTIME_ADDEND = wordOf (max (-4294967) (min 4294967 (Config.servoAddend c.cyc o))) := by
  unfold Chip.correct
  simp only [h, Bool.false_eq_true, if_false]
  exact Chip.rd_wr_same ..

/-- An offset is kept whatever the servo does with it. -/
theorem offset_kept (c : Chip) (org : Int) (rx : Nat) : (c.offset org rx).time.servo.offset = rx - org - c.time.servo.delay := by
  unfold Chip.offset
  dsimp only
  split
  · rfl
  · exact lockCount_offset ..
  · exact lockCount_offset ..
  · rfl

theorem offset_addend {org : Int} {rx : Nat} (h : c.servoNow = 1) (hslew : c.time.servo.slewing = false) : (c.offset org rx).rd rTIME_ADDEND
    = wordOf (max (-4294967) (min 4294967 (Config.servoAddend c.cyc (rx - org - c.time.servo.delay)))) := by
  rw [offset_of_acquiring h]
  exact ((lockCount_keeps _ _).rd (by decide)).trans (correct_addend (c := c.offsetKept _ org rx) hslew)

theorem does_syncRx_oneStep {m : SyncMsg} {o : Int} (hon : s.chip.ptpOn p m.domain = true) (hto : ptpTo m.dst 319 = true)
    (hlo : -7 ≤ m.log) (hhi : m.log ≤ 1) (hfrom : s.chip.fromParent p m.clk = true) (hsync : m.followUp = false) (hone : m.twoStep = false)
    (ho : o = ((((m.rx : Int) - s.chip.asym).toNat : Nat) : Int) - (m.origin + m.corr) - s.chip.time.servo.delay) :
    Does s (exec (.syncRx p m) s) fun c =>
      c.time.servo.offset = o
      ∧ (s.chip.servoNow = 4 → c.time.servo.settleOffs = o :: s.chip.time.servo.settleOffs ∧ Frame [] [] s.chip c)
      ∧ (s.chip.servoNow = 1 → s.chip.time.servo.slewing = false →
          c.rd rTIME_ADDEND = wordOf (max (-4294967) (min 4294967 (Config.servoAddend (s.chip.cyc + 1) o)))) := by
  subst ho
  refine does_syncRx hon hto hlo hhi hfrom hsync (syncRx_of_oneStep hsync hone) ⟨offset_kept .., fun h => ?_, fun h hslew => ?_⟩
  · rw [offset_of_settling (c := s.chip.counted) h]
    exact ⟨rfl, (quiet s.chip).2⟩
  · exact offset_addend (c := s.chip.counted) h hslew

/-! ## The path delay (R33, R42) -/

theorem does_delayRespRx {m : DelayResp} {q t3 : Nat} {t1 : Int} {t2 : Nat} (hon : s.chip.ptpOn p m.domain = true) (hto : ptpTo m.dst 320 = true)
    (hfrom : s.chip.fromParent p m.clk = true) (hreq : s.chip.time.servo.reqWait = some (q, t3)) (hlast : s.chip.time.servo.lastSync = some (t1, t2))
    (hq : m.seq.toNat = q) : Does s (exec (.delayRespRx p m) s) fun c =>
      c.rest = { s.chip.rest with time := { s.chip.time with servo := { s.chip.time.servo with
        reqWait := none, delay := max 0 (((t2 - t1) + ((m.rcv : Int) - m.corr - t3)) / 2) } } } ∧ Frame [] [] s.chip c := by
  refine does_when (ok := fun c => c.ptpOn p m.domain && ptpTo m.dst 320 && c.fromParent p m.clk)
    (w := s.chip.counted.setServo { s.chip.time.servo with reqWait := none, delay := max 0 (((t2 - t1) + ((m.rcv : Int) - m.corr - t3)) / 2) })
    ?_ ?_ ⟨rfl, (quiet s.chip).2⟩
  · rw [show s.chip.counted.ptpOn p m.domain = true from hon, show s.chip.counted.fromParent p m.clk = true from hfrom, hto]
    rfl
  · simp [hreq, hlast, hq]

/-- The Delay_Req numbered `q` sent to `f`. -/
def Chip.delayReq (c : Chip) (f : Foreign) (q : Nat) : Chip :=
  (c.setServo { c.time.servo with reqSeq := q, reqWait := none }).emit (.ptp f.port f.reply 319 (delayReqBytes (c.objNat 0x2010 2 127) q))

theorem delayReq_keeps (c : Chip) (f : Foreign) (q : Nat) : c.Keeps (fun _ => ()) [] [] (c.delayReq f q) := .of_eq .refl rfl rfl rfl

/-- The Delay_Req's timestamp kept by the servo, where the queue takes it. -/
def Chip.delayStamped (c : Chip) (f : Foreign) (q : Nat) : Chip :=
  if c.time.txts.length < 8 then c.setServo { c.time.servo with reqWait := some (q, ((c.txStamp f.port : Int) + c.asym).toNat) } else c

theorem delayStamped_servo (c : Chip) (f : Foreign) (q : Nat) : (c.delayStamped f q).time.servo.reqSeq = c.time.servo.reqSeq
    ∧ (c.delayStamped f q).time.servo.reqWait = if c.time.txts.length < 8 then some (q, ((c.txStamp f.port : Int) + c.asym).toNat) else c.time.servo.reqWait := by
  unfold Chip.delayStamped
  split <;> exact ⟨rfl, rfl⟩

theorem delayStamped_keeps (c : Chip) (f : Foreign) (q : Nat) : c.Keeps (fun r => r.wire) [] [] (c.delayStamped f q) :=
  .ite (.of_eq .refl rfl rfl rfl) .refl

theorem txtsPush_servo (c : Chip) (p seq t : Nat) : (c.txtsPush p seq t).time.servo = c.time.servo := by
  unfold Chip.txtsPush
  split <;> rfl

theorem txtsPush_keeps (c : Chip) (p seq t : Nat) : c.Keeps (fun r => r.wire) [rTIME_STATUS.addr 0 0] [19] (c.txtsPush p seq t) := by
  have hirq : c.Keeps (fun r => r.wire) [rTIME_STATUS.addr 0 0] [19] (c.irq 19) := .irq .refl (by simp)
  exact .ite (.wb .refl 3 true (by simp)) (.of_eq hirq rfl rfl rfl)

/-- The Delay_Req stamped by TS_STAMP_EN. -/
def Chip.delayTimed (c : Chip) (f : Foreign) (q : Nat) : Chip :=
  if c.rb rTIME_CTRL 0 0 1 then (c.delayStamped f q).txtsPush f.port q (c.txStamp f.port) else c

theorem delayTimed_servo (c : Chip) (f : Foreign) (q : Nat) : (c.delayTimed f q).time.servo.reqSeq = c.time.servo.reqSeq
    ∧ (c.time.servo.reqWait = none → (c.delayTimed f q).time.servo.reqWait.isSome = (c.rb rTIME_CTRL 0 0 1 && decide (c.time.txts.length < 8))) := by
  unfold Chip.delayTimed
  split
  · next hen =>
    obtain ⟨hseq, hwait⟩ := delayStamped_servo c f q
    rw [txtsPush_servo, hseq, hwait, hen]
    refine ⟨rfl, fun h => ?_⟩
    split
    · next hroom => simp [hroom]
    · next hfull => simp [hfull, h]
  · next hen => exact ⟨rfl, fun h => by simp [hen, h]⟩

theorem delayTimed_keeps (c : Chip) (f : Foreign) (q : Nat) : c.Keeps (fun r => r.wire) [rTIME_STATUS.addr 0 0] [19] (c.delayTimed f q) :=
  .ite (((delayStamped_keeps c f q).mono (by simp) (by simp)).trans (txtsPush_keeps ..)) .refl

theorem does_delayReqSend {f : Foreign} (hparent : s.chip.time.servo.parent = some f) (halive : s.chip.alive .ts = true)
    (hrun : s.chip.boot.ncRun = true) (hlink : s.chip.link f.port = true) (hstop : s.chip.txStop f.port = false) :
    Does s (exec .delayReqSend s) fun c =>
      c.wire = .ptp f.port f.reply 319 (delayReqBytes (s.chip.objNat 0x2010 2 127) ((s.chip.time.servo.reqSeq + 1) % 65536)) :: s.chip.wire
      ∧ c.time.servo.reqSeq = (s.chip.time.servo.reqSeq + 1) % 65536
      ∧ c.time.servo.reqWait.isSome = (s.chip.rb rTIME_CTRL 0 0 1 && decide (s.chip.time.txts.length < 8))
      ∧ Frame [rTIME_STATUS.addr 0 0] [19] s.chip c := by
  refine does_eq (w := (s.chip.counted.delayReq f ((s.chip.time.servo.reqSeq + 1) % 65536)).delayTimed f ((s.chip.time.servo.reqSeq + 1) % 65536)) ?_ ?_
  · have hgo : (!(s.chip.counted.alive .ts && s.chip.counted.boot.ncRun && s.chip.counted.link f.port) || s.chip.counted.txStop f.port) = false := by
      rw [show s.chip.counted.alive .ts = true from halive, show s.chip.counted.boot.ncRun = true from hrun,
        show s.chip.counted.link f.port = true from hlink, show s.chip.counted.txStop f.port = false from hstop]
      rfl
    dsimp only
    split
    · next hnone => exact absurd (hnone.symm.trans hparent) nofun
    · next g hg =>
      obtain rfl : g = f := Option.some.inj (hg.symm.trans hparent)
      exact if_neg (by rw [hgo]; exact Bool.false_ne_true)
  · obtain ⟨hseq, hwait⟩ := delayTimed_servo (s.chip.counted.delayReq f ((s.chip.time.servo.reqSeq + 1) % 65536)) f ((s.chip.time.servo.reqSeq + 1) % 65536)
    have hkeeps := delayTimed_keeps (s.chip.counted.delayReq f ((s.chip.time.servo.reqSeq + 1) % 65536)) f ((s.chip.time.servo.reqSeq + 1) % 65536)
    refine ⟨hkeeps.sameView, hseq, hwait rfl, ?_⟩
    exact (((delayReq_keeps ..).mono (by simp) (by simp)).trans (hkeeps.view (fun _ => ()) fun _ => rfl)).frame

end Messages

/-! ## Loss, holdover, settling (R45..R47) -/

section Timeouts

variable {s : State} {c : Chip}

/-- The loss of parent `f` kept, with the holdover's rate. -/
def Chip.parentForgotten (c : Chip) (f : Foreign) : Chip :=
  (c.setServo { c.time.servo with parent := none, foreigns := c.time.servo.foreigns.filter fun g => !(g.clk = f.clk && g.port = f.port)
                                  holdStart := c.now, syncWait := none, reqWait := none, slewing := false }).wr rTIME_ADDEND 0 0 (wordOf c.meanAddend)

theorem parentLost_of_parent {f : Foreign} (h : c.time.servo.parent = some f) : c.parentLost = (c.parentForgotten f).servoEnter 3 := by
  rw [Chip.parentLost, h]
  rfl

/-- The holdover of a lost parent starts where it is lost, at the mean of TIME_ADDEND. -/
theorem parentLost_holds {f : Foreign} (h : c.time.servo.parent = some f) : c.parentLost.time.servo.holdStart = c.time.now
    ∧ c.parentLost.time.now = c.time.now ∧ c.parentLost.rf rTIME_SERVO 0 0 2 0 = 3 ∧ c.parentLost.rd rTIME_ADDEND = wordOf c.meanAddend := by
  rw [parentLost_of_parent h, servoEnter_servo, servoEnter_now]
  refine ⟨ite_self _, rfl, servoEnter_state (by decide), ?_⟩
  exact ((servoEnter_keeps _ 3).rd (by decide)).trans (Chip.rd_wr_same ..)

theorem does_parentLost {f : Foreign} (halive : s.chip.alive .ts = true) (hrun : s.chip.boot.ncRun = true) (hparent : s.chip.time.servo.parent = some f) :
    Does s (exec .parentLost s) fun c =>
      c.time.servo.parent = none ∧ c.time.servo.holdStart = s.chip.time.now ∧ c.rf rTIME_SERVO 0 0 2 0 = 3
      ∧ c.rd rTIME_ADDEND = wordOf s.chip.meanAddend ∧ Frame (rTIME_ADDEND.addr 0 0 :: servoRegs) servoIrqs s.chip c := by
  refine does_when (ok := fun c => c.alive .ts && c.boot.ncRun) (f := Chip.parentLost) (Bool.and_eq_true_iff.mpr ⟨halive, hrun⟩) rfl ?_
  obtain ⟨hhold, -, hstate, hmean⟩ := parentLost_holds (c := s.chip.counted) hparent
  exact ⟨parentLost_parent _, hhold, hstate, hmean, (parentLost_keeps s.chip.counted).frame⟩

theorem does_holdoverExpired (halive : s.chip.alive .ts = true) (hrun : s.chip.boot.ncRun = true) (hstate : s.chip.servoNow = 3) :
    Does s (exec .holdoverExpired s) fun c => c.rest = s.chip.rest ∧ c.rd rTIME_STATUS = setBit (s.chip.rd rTIME_STATUS) 4 true
      ∧ Frame [rTIME_STATUS.addr 0 0] [] s.chip c := by
  have hok : (s.chip.counted.alive .ts && s.chip.counted.boot.ncRun && decide (s.chip.counted.servoNow = 3)) = true := by
    rw [show s.chip.counted.alive .ts = true from halive, show s.chip.counted.boot.ncRun = true from hrun, show s.chip.counted.servoNow = 3 from hstate]
    rfl
  refine does_when (ok := fun c => c.alive .ts && c.boot.ncRun && c.servoNow = 3) hok rfl ⟨rfl, Chip.rd_wb_same _, ?_⟩
  have hkeeps : s.chip.counted.Keeps (fun _ => ()) [rTIME_STATUS.addr 0 0] [] (s.chip.counted.wb rTIME_STATUS 0 0 4 true) := .wb .refl 4 true (by simp)
  exact hkeeps.frame

/-! ## A step by an offset (R39, R41, R47) -/

theorem toNat_tsWord_one (t : Nat) : (tsWord t 1).toNat = t / nsPerSec % 2 ^ 32 := by
  simp [tsWord]

theorem fld_tsWord_zero (t : Nat) : fld (tsWord t 0) 29 0 = t % nsPerSec := by
  have h : t % nsPerSec < 2 ^ 30 := (Nat.mod_lt _ (by decide)).trans (by decide)
  simp only [fld, tsWord, BitVec.toNat_ofNat, Nat.pow_zero, Nat.div_one, Nat.sub_zero, Nat.reduceAdd]
  rw [Nat.mod_mod_of_dvd _ (by decide), Nat.mod_eq_of_lt h]

theorem fld_tsWord_two (t : Nat) : fld (tsWord t 2) 15 0 = t / nsPerSec / 2 ^ 32 % 2 ^ 16 := by
  simp only [fld, tsWord, BitVec.toNat_ofNat, Nat.pow_zero, Nat.div_one, Nat.sub_zero, Nat.reduceAdd]
  rw [Nat.mod_mod_of_dvd _ (by decide), Nat.mod_mod]

/-- A time reads back from its words, a sign in the last beside it. -/
theorem tsOf_tsWord {t : Nat} (h : t < clockMod) (b : Bool) : tsOf (tsWord t 0) (tsWord t 1) (setBit (tsWord t 2) 31 b) = t := by
  have hsec : t / nsPerSec / 2 ^ 32 < 2 ^ 16 := by
    rw [Nat.div_div_eq_div_mul, Nat.div_lt_iff_lt_mul (by decide)]
    exact h.trans_le (by decide)
  rw [tsOf, fld_setBit_other _ _ (by decide), fld_tsWord_zero, fld_tsWord_two, toNat_tsWord_one, Nat.mod_eq_of_lt hsec, Nat.div_add_mod', Nat.div_add_mod']

/-- The step registers and TIME_CTRL.STEP_REL written for a step by `d`. -/
def Chip.stepSpelt (c : Chip) (d : Int) : Chip :=
  (((c.wr rSTEP_NS 0 0 (tsWord d.natAbs 0)).wr rSTEP_SLO 0 0 (tsWord d.natAbs 1)).wr rSTEP_SHI 0 0 (setBit (tsWord d.natAbs 2) 31 (d < 0))).wb
    rTIME_CTRL 0 0 3 true

theorem stepRequest_spelt {d : Int} (h : d.natAbs < clockMod) : (c.stepSpelt d).stepRequest = ⟨true, d⟩ := by
  have hns : (c.stepSpelt d).rd rSTEP_NS = tsWord d.natAbs 0 := by
    rw [Chip.stepSpelt, Chip.wb, Chip.rd_wr_other _ _ (by decide), Chip.rd_wr_other _ _ (by decide), Chip.rd_wr_other _ _ (by decide), Chip.rd_wr_same]
  have hslo : (c.stepSpelt d).rd rSTEP_SLO = tsWord d.natAbs 1 := by
    rw [Chip.stepSpelt, Chip.wb, Chip.rd_wr_other _ _ (by decide), Chip.rd_wr_other _ _ (by decide), Chip.rd_wr_same]
  have hshi : (c.stepSpelt d).rd rSTEP_SHI = setBit (tsWord d.natAbs 2) 31 (d < 0) := by
    rw [Chip.stepSpelt, Chip.wb, Chip.rd_wr_other _ _ (by decide), Chip.rd_wr_same]
  have hrel : (c.stepSpelt d).rb rTIME_CTRL 0 0 3 = true := Chip.rb_wb_same _ (by decide)
  have hsign : (c.stepSpelt d).rb rSTEP_SHI 0 0 31 = decide (d < 0) := by
    rw [Chip.rb, hshi, bit_setBit_same _ _ (by decide)]
  rw [Chip.stepRequest, hrel, hsign, hns, hslo, hshi, tsOf_tsWord h]
  simp only [if_true, decide_eq_true_eq, StepReq.mk.injEq, true_and]
  split <;> omega

theorem stepBy_eq (c : Chip) (d : Int) : c.stepBy d
    = { (c.stepSpelt d).wb rTIME_STATUS 0 0 2 true with time := { c.time with stepReq := some (c.stepSpelt d).stepRequest } } := by
  rw [Chip.stepBy]
  exact stepWrite_of_step (c := c.stepSpelt d) (by decide)

/-- A step by an offset waits for its tick. -/
theorem stepBy_pending {d : Int} (h : d.natAbs < clockMod) : (c.stepBy d).time.stepReq = some ⟨true, d⟩ ∧ (c.stepBy d).rb rTIME_STATUS 0 0 2 = true := by
  rw [stepBy_eq, stepRequest_spelt h]
  exact ⟨rfl, Chip.rb_wb_same _ (by decide)⟩

/-- The servo slews, or steps, out of settling. -/
def Chip.settled (c : Chip) (step : Bool) : Servo :=
  { c.time.servo with settleOffs := [], okRun := 0, badRun := 0, fromFreerun := false, slewing := !step }

/-- Whether the end of settling steps the clock (R47). -/
def Chip.settlingSteps (c : Chip) : Bool :=
  c.time.servo.fromFreerun || ((median c.time.servo.settleOffs).natAbs > c.objNat 0x2020 2 10000
    && (c.objNat 0x2020 3 1 = 0 || (c.objNat 0x2020 3 1 = 1 && !c.showing)))

/-- What the end of settling leaves. -/
def Chip.settlingEnded (c : Chip) : Chip :=
  if c.settlingSteps then ((c.setServo (c.settled c.settlingSteps)).servoEnter 1).stepBy (-median c.time.servo.settleOffs)
  else (c.setServo (c.settled c.settlingSteps)).servoEnter 1

theorem settlingEnded_slews (h : c.settlingSteps = false) :
    c.settlingEnded.time.stepReq = c.time.stepReq ∧ c.Keeps timelessView servoRegs servoIrqs c.settlingEnded := by
  rw [Chip.settlingEnded, h, if_neg Bool.false_ne_true]
  exact ⟨servoEnter_stepReq _ 1, setServo_enter_keeps ..⟩

theorem settlingEnded_steps (h : c.settlingSteps = true) (hm : (median c.time.servo.settleOffs).natAbs < clockMod) :
    c.settlingEnded.time.stepReq = some ⟨true, -median c.time.servo.settleOffs⟩ ∧ c.settlingEnded.rb rTIME_STATUS 0 0 2 = true := by
  rw [Chip.settlingEnded, h, if_pos rfl]
  exact stepBy_pending ((Int.natAbs_neg _).trans_lt hm)

/-- The registers a step by an offset writes. -/
def stepRegs : List Nat := [rSTEP_NS, rSTEP_SLO, rSTEP_SHI, rTIME_CTRL, rTIME_STATUS].map (·.addr 0 0)

theorem stepBy_keeps (c : Chip) (d : Int) : c.Keeps (fun r => r.time.servo) stepRegs [] (c.stepBy d) := by
  have hns : c.Keeps (fun r => r.time.servo) stepRegs [] (c.wr rSTEP_NS 0 0 (tsWord d.natAbs 0)) := .wr .refl _ (by simp [stepRegs])
  have hslo := hns.wr (r := rSTEP_SLO) (i := 0) (j := 0) (tsWord d.natAbs 1) (by simp [stepRegs])
  have hshi := hslo.wr (r := rSTEP_SHI) (i := 0) (j := 0) (setBit (tsWord d.natAbs 2) 31 (d < 0)) (by simp [stepRegs])
  have hspelt : c.Keeps (fun r => r.time.servo) stepRegs [] (c.stepSpelt d) := hshi.wb (r := rTIME_CTRL) (i := 0) (j := 0) 3 true (by simp [stepRegs])
  have hpend := hspelt.wb (r := rTIME_STATUS) (i := 0) (j := 0) 2 true (by simp [stepRegs])
  rw [stepBy_eq]
  exact .of_eq hpend rfl rfl rfl

/-- Slewing or stepping, the servo acquires. -/
theorem settlingEnded_keeps (c : Chip) : ((c.setServo (c.settled c.settlingSteps)).servoEnter 1).Keeps (fun r => r.time.servo) stepRegs [] c.settlingEnded :=
  .ite (stepBy_keeps ..) .refl

theorem settlingEnded_state (c : Chip) : c.settlingEnded.rf rTIME_SERVO 0 0 2 0 = 1 :=
  ((settlingEnded_keeps c).sameRegs.rf 2 0 (by decide)).trans (servoEnter_state (by decide))

theorem settlingEnded_servo (c : Chip) : c.settlingEnded.time.servo = (c.setServo (c.settled c.settlingSteps)).servoIn 1 :=
  (settlingEnded_keeps c).sameView.trans (servoEnter_servo _ 1)

theorem settlingEnded_offs (c : Chip) : c.settlingEnded.time.servo.settleOffs = [] := congrArg Servo.settleOffs (settlingEnded_servo c)

theorem settlingEnded_slewing (c : Chip) : c.settlingEnded.time.servo.slewing = !c.settlingSteps := congrArg Servo.slewing (settlingEnded_servo c)

theorem does_settlingEnd (halive : s.chip.alive .ts = true) (hrun : s.chip.boot.ncRun = true) (hstate : s.chip.servoNow = 4)
    (hoffs : s.chip.time.servo.settleOffs ≠ []) : Does s (exec .settlingEnd s) fun c =>
      c.rf rTIME_SERVO 0 0 2 0 = 1 ∧ c.time.servo.settleOffs = []
      ∧ (s.chip.time.servo.fromFreerun = false → (median s.chip.time.servo.settleOffs).natAbs ≤ s.chip.objNat 0x2020 2 10000 →
          c.time.servo.slewing = true ∧ c.time.stepReq = s.chip.time.stepReq ∧ Frame servoRegs servoIrqs s.chip c)
      ∧ (s.chip.time.servo.fromFreerun = true → (median s.chip.time.servo.settleOffs).natAbs < clockMod →
          c.time.servo.slewing = false ∧ c.time.stepReq = some ⟨true, -median s.chip.time.servo.settleOffs⟩ ∧ c.rb rTIME_STATUS 0 0 2 = true) := by
  have hok : (s.chip.counted.alive .ts && s.chip.counted.boot.ncRun && decide (s.chip.counted.servoNow = 4)
      && !s.chip.counted.time.servo.settleOffs.isEmpty) = true := by
    rw [show s.chip.counted.alive .ts = true from halive, show s.chip.counted.boot.ncRun = true from hrun, show s.chip.counted.servoNow = 4 from hstate]
    simpa using hoffs
  refine does_when (ok := fun c => c.alive .ts && c.boot.ncRun && c.servoNow = 4 && !c.time.servo.settleOffs.isEmpty) hok
    (w := s.chip.counted.settlingEnded) rfl ⟨settlingEnded_state _, settlingEnded_offs _, fun hfree hsmall => ?_, fun hfree hm => ?_⟩
  · have hslew : s.chip.counted.settlingSteps = false := by
      have hbig : decide ((median s.chip.counted.time.servo.settleOffs).natAbs > s.chip.counted.objNat 0x2020 2 10000) = false :=
        decide_eq_false (Nat.not_lt.mpr hsmall)
      rw [Chip.settlingSteps, show s.chip.counted.time.servo.fromFreerun = false from hfree, hbig, Bool.false_and, Bool.or_false]
    obtain ⟨hreq, hkeeps⟩ := settlingEnded_slews hslew
    exact ⟨(settlingEnded_slewing _).trans (congrArg not hslew), hreq, hkeeps.frame⟩
  · have hstep : s.chip.counted.settlingSteps = true := by
      rw [Chip.settlingSteps, show s.chip.counted.time.servo.fromFreerun = true from hfree, Bool.true_or]
    exact ⟨(settlingEnded_slewing _).trans (congrArg not hstep), settlingEnded_steps hstep hm⟩

end Timeouts

/-- Settles O12: an Announce, a Sync or a Delay_Resp is one update of the servo, its guard given; a state entered leaves of the
servo its own marks alone, whatever PPS_OUT does with it; and a step by the median is spelt in the step registers and read back
from them. -/
theorem ptpServo : Obligations.ptp_servo := by
  unfold Obligations.ptp_servo
  exact ⟨fun _ _ _ => does_announceRx, fun _ _ _ => does_syncRx_twoStep, fun _ _ _ _ => does_syncRx_oneStep, fun _ _ _ _ _ _ _ => does_delayRespRx,
    fun _ _ => does_delayReqSend, fun _ _ => does_parentLost, fun _ => does_holdoverExpired, fun _ => does_settlingEnd⟩

end Sys2Proof.Machine

/-! SUPPORT. Links, sidebands, MDIO and the counters' clear of a MAC (spec/03 R70..R73, R106, R107). -/

namespace Sys2Proof.Machine

/-! ## Reports, one after another -/

section Reports

variable {a b c : Chip} {src : Nat} {l m : List Nat}

theorem Logs.nil (h : mget [] c.err.queues src = mget [] a.err.queues src) : Logs src [] a c := fun _ _ => ⟨[], rfl, by rw [h, List.append_nil]⟩

theorem Logs.of_reports {code : Nat} (h : Reports src code a c) : Logs src [code] a c := fun hen hroom => by
  obtain ⟨r, hcode, hq⟩ := h hen (by simpa using hroom)
  exact ⟨[r], by rw [List.map_singleton, hcode], hq⟩

theorem Logs.append (h : Logs src l a b) (k : Logs src m b c) (hen : b.rb rERR_CTRL 0 0 0 = a.rb rERR_CTRL 0 0 0) : Logs src (l ++ m) a c := by
  intro ha hroom
  rw [List.length_append] at hroom
  obtain ⟨x, hx, hqx⟩ := h ha (by omega)
  have hlen : x.length = l.length := by rw [← hx, List.length_map]
  obtain ⟨y, hy, hqy⟩ := k (hen.trans ha) (by rw [hqx, List.length_append]; omega)
  exact ⟨x ++ y, by rw [List.map_append, hx, hy], by rw [hqy, hqx, List.append_assoc]⟩

/-- What comes after leaves the queue of `src`. -/
theorem Logs.same (h : Logs src l a b) (hq : mget [] c.err.queues src = mget [] b.err.queues src) : Logs src l a c := fun ha hroom => by
  rw [hq]
  exact h ha hroom

end Reports

/-- The module beside reports. -/
def reportless (r : Chip) : Chip := { r with err := {} }

theorem rest_of_reportless {c d : Chip} (h : reportless d.rest = reportless c.rest) : d.rest = { c.rest with err := d.err } :=
  congrArg (fun r : Chip => { r with err := d.err }) h

/-! ## Addresses of a port -/

section Ports

variable {c : Chip} {p : Nat}

theorem macStatus_not_logged (hp : p < 3) : rMAC_STATUS.addr p 0 ∉ logRegs (2 + p) := by
  revert p; decide

theorem macCnt_not_logged (hp : p < 3) {j : Nat} (hj : j < 21) : rMAC_CNT.addr p j ∉ logRegs (2 + p) := by
  revert p j; decide

theorem macCnt_ne_status (hp : p < 3) {j : Nat} (hj : j < 21) : rMAC_CNT.addr p j ≠ rMAC_STATUS.addr p 0 := by
  revert p j; decide

theorem linkIrq_edge (hp : p < 3) : 32 + 4 * p < 224 ∧ 32 + 4 * p ∉ servoIrqs ∧ 32 + 4 * p ∉ levelSources ∧ 32 + 4 * p ≠ 209 := by
  revert p; decide

/-! ## LINK falls (R72) -/

/-- LINK taken down and counted, before its report. -/
def Chip.linkDowned (c : Chip) (p : Nat) : Chip := (c.wb rMAC_STATUS p 0 0 false).macCnt p 20

/-- The registers a fall of LINK changes, and the interrupts it raises. -/
def Chip.downRegs (c : Chip) (p : Nat) : List Nat := if c.link p then rMAC_STATUS.addr p 0 :: rMAC_CNT.addr p 20 :: logRegs (2 + p) else []
def Chip.downIrqs (c : Chip) (p : Nat) : List Nat := if c.link p then [32 + 4 * p, 209] else []

theorem linkFall_of_link (h : c.link p = true) : c.linkFall p = ((c.linkDowned p).log (2 + p) 0x21).irq (32 + 4 * p) := if_pos h

theorem linkFall_of_down (h : c.link p = false) : c.linkFall p = c := if_neg (by simp [h])

theorem linkDowned_keeps (c : Chip) (p : Nat) : c.Keeps id [rMAC_STATUS.addr p 0, rMAC_CNT.addr p 20] [] (c.linkDowned p) := by
  have hstatus : c.Keeps id [rMAC_STATUS.addr p 0, rMAC_CNT.addr p 20] [] (c.wb rMAC_STATUS p 0 0 false) := .wb .refl 0 false (by simp)
  exact hstatus.wr (r := rMAC_CNT) (i := p) (j := 20) _ (by simp)

theorem linkFall_keeps (c : Chip) (p : Nat) : c.Keeps reportless (c.downRegs p) (c.downIrqs p) (c.linkFall p) := by
  by_cases h : c.link p = true
  · have hdown : c.Keeps reportless (rMAC_STATUS.addr p 0 :: rMAC_CNT.addr p 20 :: logRegs (2 + p)) [32 + 4 * p, 209] (c.linkDowned p) :=
      .mono (.view (linkDowned_keeps c p) reportless fun _ => rfl) (by simp +contextual) (by simp)
    rw [linkFall_of_link h, Chip.downRegs, Chip.downIrqs, if_pos h, if_pos h]
    exact (hdown.log (fun _ _ => rfl) (by simp +contextual) (by simp)).irq (by simp)
  · rw [linkFall_of_down (by simpa using h)]
    exact .refl

theorem linkFall_time (c : Chip) (p : Nat) : (c.linkFall p).time = c.time := (linkFall_keeps c p).same (fun r => r.time) fun _ => rfl

theorem linkFall_status (hp : p < 3) : (c.linkFall p).rd rMAC_STATUS p = setBit (c.rd rMAC_STATUS p) 0 false := by
  by_cases h : c.link p = true
  · rw [linkFall_of_link h, Chip.rd_irq, Chip.rd_log_other (macStatus_not_logged hp), Chip.linkDowned, Chip.macCnt, Chip.inc,
      Chip.rd_wr_other _ _ (macCnt_ne_status hp (by decide : 20 < 21)).symm, Chip.rd_wb_same]
  · rw [linkFall_of_down (by simpa using h), setBit_self (Bool.eq_false_iff.mpr h)]

theorem linkFall_count (hp : p < 3) : (c.linkFall p).rd rMAC_CNT p 20 = c.rd rMAC_CNT p 20 + if c.link p = true then 1 else 0 := by
  by_cases h : c.link p = true
  · rw [linkFall_of_link h, if_pos h, Chip.rd_irq, Chip.rd_log_other (macCnt_not_logged hp (by decide)), Chip.linkDowned, Chip.macCnt, Chip.inc,
      Chip.rd_wr_same, Chip.wb, Chip.rd_wr_other _ _ (macCnt_ne_status hp (by decide : 20 < 21))]
    rfl
  · rw [linkFall_of_down (by simpa using h), if_neg h]
    exact (BitVec.add_zero _).symm

theorem linkFall_signal (hp : p < 3) (h : c.link p = true) : (c.linkFall p).irqs.getLsbD (32 + 4 * p) = true := by
  rw [linkFall_of_link h]
  exact irq_irqs_same _ (linkIrq_edge hp).1

theorem linkFall_logs (hp : p < 3) : Logs (2 + p) (if c.link p = true then [0x21] else []) c (c.linkFall p) := by
  by_cases h : c.link p = true
  · have hctrl : ∀ p < 3, rERR_CTRL.addr 0 0 ∉ [rMAC_STATUS.addr p 0, rMAC_CNT.addr p 20] := by decide
    rw [linkFall_of_link h, if_pos h]
    exact .of_reports ((Reports.log (2 + p) 0x21 _ ((linkDowned_keeps c p).rd (hctrl p hp)).symm rfl (by omega)).irq _)
  · rw [linkFall_of_down (by simpa using h), if_neg h]
    exact .nil rfl

/-! ## The link lost, and with it the parent heard there (R45, R72) -/

theorem parentOn_some (h : c.parentOn p = true) : ∃ f, c.time.servo.parent = some f := by
  unfold Chip.parentOn at h
  cases hp : c.time.servo.parent with
  | none => simp [hp] at h
  | some f => exact ⟨f, rfl⟩

theorem linkLost_of_parent (h : c.parentOn p = true) : c.linkLost p = (c.linkFall p).parentLost := by
  unfold Chip.linkLost
  dsimp only
  rw [linkFall_time]
  unfold Chip.parentOn at h
  split
  · next f hf => exact if_pos (by simpa [hf] using h)
  · next hf => simp [hf] at h

theorem linkLost_of_other (h : c.parentOn p = false) : c.linkLost p = c.linkFall p := by
  unfold Chip.linkLost
  dsimp only
  rw [linkFall_time]
  unfold Chip.parentOn at h
  split
  · next f hf => exact if_neg (by simpa [hf] using h)
  · rfl

/-- What the loss of the parent heard on the port adds. -/
theorem linkLost_adds (c : Chip) (p : Nat) : (c.linkFall p).Keeps timelessView (if c.parentOn p then rTIME_ADDEND.addr 0 0 :: servoRegs else [])
    (if c.parentOn p then servoIrqs else []) (c.linkLost p) := by
  by_cases h : c.parentOn p = true
  · rw [linkLost_of_parent h, if_pos h, if_pos h]
    exact parentLost_keeps _
  · rw [linkLost_of_other (by simpa using h)]
    exact .refl

theorem linkLost_adds_within (c : Chip) (p : Nat) :
    (c.linkFall p).Keeps timelessView (rTIME_ADDEND.addr 0 0 :: servoRegs) servoIrqs (c.linkLost p) := by
  refine (linkLost_adds c p).mono ?_ ?_ <;> split <;> simp

theorem linkLost_keeps (c : Chip) (p : Nat) : c.Keeps timelessView (c.fallRegs p) (c.fallIrqs p) (c.linkLost p) := by
  refine .trans (.mono (.view (linkFall_keeps c p) timelessView fun _ => rfl) ?_ ?_) ((linkLost_adds c p).mono ?_ ?_)
  · exact fun n => List.mem_append_left _
  · exact fun n => List.mem_append_left _
  · exact fun n => List.mem_append_right _
  · exact fun n => List.mem_append_right _

theorem parentLost_reports (c : Chip) : otherReports c.parentLost.err = otherReports c.err := by
  by_cases h : c.time.servo.parent = none
  · rw [Chip.parentLost, h]
  · obtain ⟨f, hf⟩ := Option.ne_none_iff_exists'.mp h
    rw [parentLost_of_parent hf]
    have hedge := (servoEnter_edge (c.parentForgotten f) 3).sameView
    exact (congrArg Chip.err hedge).trans (congrArg otherReports (holdMark_err ..))

/-- The reports of every source but the TIME block's are those of the fall. -/
theorem linkLost_queue (c : Chip) (p : Nat) {src : Nat} (hs : src ≠ 0x01) :
    mget [] (c.linkLost p).err.queues src = mget [] (c.linkFall p).err.queues src := by
  by_cases h : c.parentOn p = true
  · rw [linkLost_of_parent h]
    exact queues_of_otherReports (parentLost_reports _) hs
  · rw [linkLost_of_other (by simpa using h)]

theorem linkLost_status (hp : p < 3) : (c.linkLost p).rd rMAC_STATUS p = setBit (c.rd rMAC_STATUS p) 0 false := by
  have hout : ∀ p < 3, rMAC_STATUS.addr p 0 ∉ rTIME_ADDEND.addr 0 0 :: servoRegs := by decide
  rw [(linkLost_adds_within c p).rd (hout p hp), linkFall_status hp]

theorem linkLost_count (hp : p < 3) : (c.linkLost p).rd rMAC_CNT p 20 = c.rd rMAC_CNT p 20 + if c.link p = true then 1 else 0 := by
  have hout : ∀ p < 3, rMAC_CNT.addr p 20 ∉ rTIME_ADDEND.addr 0 0 :: servoRegs := by decide
  rw [(linkLost_adds_within c p).rd (hout p hp), linkFall_count hp]

theorem linkLost_logs (hp : p < 3) : Logs (2 + p) (if c.link p = true then [0x21] else []) c (c.linkLost p) :=
  (linkFall_logs hp).same (linkLost_queue c p (by omega))

theorem linkLost_macs (c : Chip) (p : Nat) : (c.linkLost p).macs = c.macs := (linkLost_keeps c p).same (fun r => r.macs) fun _ => rfl

theorem linkLost_now (c : Chip) (p : Nat) : (c.linkLost p).time.now = c.time.now := by
  by_cases h : c.parentOn p = true
  · obtain ⟨f, hf⟩ := parentOn_some h
    rw [linkLost_of_parent h]
    rw [← linkFall_time c p] at hf
    exact (parentLost_holds hf).2.1.trans (congrArg TimeSt.now (linkFall_time c p))
  · rw [linkLost_of_other (by simpa using h), linkFall_time]

/-- The registers a port's own settings and counters stand in. -/
def portRegs (p : Nat) : List Nat := rMAC_CTRL.addr p 0 :: rMAC_STATUS.addr p 0 :: (List.range 21).map (rMAC_CNT.addr p) ++ logRegs (2 + p)

/-- The module beside reports and the MACs' state. -/
def macless (r : Chip) : Chip := { r with err := {}, macs := [] }

/-- The port's link lost once nothing but the port's own registers has changed, LINK as it was. -/
structure Chip.PortOnly (p : Nat) (a d : Chip) : Prop where
  keeps : a.Keeps macless (portRegs p) [209] d
  link : d.link p = a.link p

theorem Chip.PortOnly.time {a d : Chip} (h : Chip.PortOnly p a d) : d.time = a.time := h.keeps.same (fun r => r.time) fun _ => rfl

theorem Chip.PortOnly.parentOn {a d : Chip} (h : Chip.PortOnly p a d) : d.parentOn p = a.parentOn p := by
  rw [Chip.parentOn, h.time, ← Chip.parentOn]

theorem Chip.PortOnly.fallRegs {a d : Chip} (h : Chip.PortOnly p a d) : d.fallRegs p = a.fallRegs p ∧ d.fallIrqs p = a.fallIrqs p := by
  rw [Chip.fallRegs, Chip.fallIrqs, h.link, h.parentOn]
  exact ⟨rfl, rfl⟩

/-- The mean of TIME_ADDEND is told by the servo and by its two registers. -/
theorem meanAddend_congr {a d : Chip} (ht : d.time = a.time) (hs : d.rd rTIME_SERVO = a.rd rTIME_SERVO) (ha : d.rd rTIME_ADDEND = a.rd rTIME_ADDEND) :
    d.meanAddend = a.meanAddend := by
  have hrun : d.servoRun = a.servoRun := by
    rw [Chip.servoRun, Chip.servoNow, Chip.rf, Chip.now, hs, ht]
    rfl
  rw [Chip.meanAddend, hrun, ht, ha]
  rfl

theorem linkFall_mean (hp : p < 3) : (c.linkFall p).meanAddend = c.meanAddend := by
  have hout : ∀ p < 3, ∀ r ∈ [rTIME_SERVO, rTIME_ADDEND], r.addr 0 0 ∉ rMAC_STATUS.addr p 0 :: rMAC_CNT.addr p 20 :: logRegs (2 + p) := by decide
  have hin : ∀ n ∈ c.downRegs p, n ∈ rMAC_STATUS.addr p 0 :: rMAC_CNT.addr p 20 :: logRegs (2 + p) := fun n hn => by
    unfold Chip.downRegs at hn
    split at hn
    · exact hn
    · simp at hn
  have hkeeps := (linkFall_keeps c p).mono hin fun _ h => h
  exact meanAddend_congr (linkFall_time c p) (hkeeps.rd (hout p hp _ (by simp))) (hkeeps.rd (hout p hp _ (by simp)))

theorem linkLost_falls (hp : p < 3) {a d : Chip} (h : Chip.PortOnly p a d) : LinkFalls p a (settle (d.linkLost p)) := by
  obtain ⟨-, hservo, hlevel, -⟩ := linkIrq_edge hp
  have hview : timelessView (d.linkLost p).rest = timelessView d.rest := (linkLost_keeps d p).sameView
  refine ⟨?_, fun hl => ?_, fun hon => ?_, fun hoff => ?_, ?_, ?_⟩
  · exact (congrArg (bit · 0) (linkLost_status hp)).trans (bit_setBit_same _ _ (by decide))
  · exact (linkLost_adds_within d p).raised (linkFall_signal hp (h.link.trans hl)) hservo hlevel
  · have hdon : d.parentOn p = true := h.parentOn.trans hon
    obtain ⟨f, hf⟩ := parentOn_some hdon
    rw [← linkFall_time d p] at hf
    obtain ⟨hhold, -, hstate, hmean⟩ := parentLost_holds hf
    have hout : ∀ p < 3, ∀ r ∈ [rTIME_SERVO, rTIME_ADDEND], r.addr 0 0 ∉ portRegs p := by decide
    rw [linkFall_time, h.time] at hhold
    rw [linkFall_mean hp, meanAddend_congr h.time (h.keeps.rd (hout p hp _ (by simp))) (h.keeps.rd (hout p hp _ (by simp)))] at hmean
    rw [linkLost_of_parent hdon]
    exact ⟨parentLost_parent _, hhold, hstate, hmean⟩
  · rw [linkLost_of_other (h.parentOn.trans hoff)]
    exact (linkFall_time d p).trans h.time
  · exact (linkLost_now d p).trans (congrArg TimeSt.now h.time)
  · have hd : d.rest = { a.rest with err := d.err, macs := d.macs } := congrArg (fun r : Chip => { r with err := d.err, macs := d.macs }) h.keeps.sameView
    have hrest := rest_of_timeless hview
    have hmacs := linkLost_macs d p
    rw [hd] at hrest
    rw [← hmacs] at hrest
    exact hrest

end Ports

end Sys2Proof.Machine

/-! SUPPORT. The commands of a MAC's link, of its sidebands, of MDIO and of its counters' clear (spec/03 R70..R73, R106, R107). -/

namespace Sys2Proof.Machine

/-- What a command does, weakened. -/
theorem Does.mono {s : State} {o : Host.Outcome State Fault Refusal} {P Q : Chip → Prop} (h : Does s o P) (hpq : ∀ c, P c → Q c) : Does s o Q := by
  obtain ⟨t, ho, hpend, ht⟩ := h
  exact ⟨t, ho, hpend, hpq _ ht⟩

/-- A frame alone. -/
theorem Chip.Keeps.plain {α : Type} {g : Chip → α} {rs is : List Nat} {a c : Chip} (h : a.Keeps g rs is c) : a.Keeps (fun _ => ()) rs is c :=
  h.view (fun _ => ()) fun _ => rfl

theorem Chip.Keeps.setMac {rs is : List Nat} {a c : Chip} (h : a.Keeps (fun _ => ()) rs is c) (p : Nat) (x : Mac) :
    a.Keeps (fun _ => ()) rs is (c.setMac p x) := .of_eq h rfl rfl rfl

section

variable {s : State} {c : Chip} {p : Nat}

/-! ## The counters cleared (R106) -/

/-- A row's registers cleared in turn read 0. -/
theorem rd_each_clear {r : RegRow} {l : List Nat} {j : Nat} (h : j ∈ l ∨ c.rd r p j = 0) : (c.each l fun c j => c.wr r p j 0).rd r p j = 0 := by
  induction l generalizing c with
  | nil => exact h.resolve_left (by simp)
  | cons k t ih =>
    rw [Chip.each_cons]
    refine ih (or_iff_not_imp_left.mpr fun ht => ?_)
    by_cases e : r.addr p j = r.addr p k
    · rw [Chip.rd, Chip.wr, e]
      exact mget_mset_same ..
    · rw [Chip.rd_wr_other _ _ e]
      refine h.resolve_left fun hj => ?_
      rcases List.mem_cons.mp hj with rfl | hj
      · exact e rfl
      · exact ht hj

/-- MAC `p` with its byte counters cleared. -/
def Chip.bytesCleared (c : Chip) (p : Nat) : Mac := { c.mac p with rxBytes := 0, txBytes := 0 }

/-- The counters of R106. -/
def cntRegs (p : Nat) : List Nat := (List.range 21).map (rMAC_CNT.addr p)

/-- The counters' words cleared. -/
def Chip.wordsCleared (c : Chip) (p : Nat) : Chip := c.each (List.range 21) fun c j => c.wr rMAC_CNT p j 0

theorem wordsCleared_keeps (c : Chip) (p : Nat) : c.Keeps id (cntRegs p) [] (c.wordsCleared p) :=
  .each .refl _ _ fun _ _ hj => .wr .refl 0 (List.mem_map_of_mem hj)

theorem cntClr_eq (c : Chip) (p : Nat) : c.cntClr p = (c.wordsCleared p).setMac p ((c.wordsCleared p).bytesCleared p) := rfl

theorem cntClr_rest (c : Chip) (p : Nat) : (c.cntClr p).rest = { c.rest with macs := mset ({} : Mac) c.macs p (c.bytesCleared p) } := by
  have hrest : (c.wordsCleared p).rest = c.rest := (wordsCleared_keeps c p).sameView
  have hmacs : (c.wordsCleared p).macs = c.macs := (wordsCleared_keeps c p).same (fun r => r.macs) fun _ => rfl
  have hset : ∀ d : Chip, (d.setMac p (d.bytesCleared p)).rest = { d.rest with macs := mset ({} : Mac) d.macs p (d.bytesCleared p) } := fun _ => rfl
  have hmac : (c.wordsCleared p).bytesCleared p = c.bytesCleared p := by rw [Chip.bytesCleared, Chip.mac, hmacs, Chip.bytesCleared, Chip.mac]
  rw [cntClr_eq, hset, hrest, hmacs, hmac]

theorem cntClr_keeps (c : Chip) (p : Nat) : c.Keeps (fun _ => ()) (cntRegs p) [] (c.cntClr p) := by
  rw [cntClr_eq]
  exact (wordsCleared_keeps c p).plain.setMac p _

theorem cntClr_count {j : Nat} (hj : j < 21) : (c.cntClr p).rd rMAC_CNT p j = 0 := by
  have hwords : (c.wordsCleared p).rd rMAC_CNT p j = 0 := rd_each_clear (.inl (List.mem_range.mpr hj))
  have hset : ∀ (d : Chip) (x : Mac), (d.setMac p x).rd rMAC_CNT p j = d.rd rMAC_CNT p j := fun _ _ => rfl
  rw [cntClr_eq, hset, hwords]

/-! ## MAC_CTRL written (R70, R72, R106) -/

/-- The fields that port `p` does not have, out of a value of MAC_CTRL. -/
def macFieldsOf (p : Nat) (w : Word) : Word := if p = 2 then setFld (setBit w 1 false) 7 6 0 else setFld w 21 20 0

/-- MAC_CTRL without those fields. -/
def Chip.macFields (c : Chip) (p : Nat) : Chip := if p = 2 then (c.wb rMAC_CTRL p 0 1 false).wf rMAC_CTRL p 0 7 6 0 else c.wf rMAC_CTRL p 0 21 20 0

theorem macFields_ctrl (c : Chip) (p : Nat) : (c.macFields p).rd rMAC_CTRL p = macFieldsOf p (c.rd rMAC_CTRL p) := by
  unfold Chip.macFields macFieldsOf
  split
  · rw [Chip.wf, Chip.rd_wr_same, Chip.rd_wb_same]
  · rw [Chip.wf, Chip.rd_wr_same]

theorem bit_macFieldsOf (p : Nat) (w : Word) : bit (macFieldsOf p w) 0 = bit w 0 := by
  unfold macFieldsOf
  split
  · rw [bit_setFld_other _ _ (by decide), bit_setBit_other _ _ (by decide)]
  · rw [bit_setFld_other _ _ (by decide)]

theorem macFields_keeps (c : Chip) (p : Nat) : c.Keeps id [rMAC_CTRL.addr p 0] [] (c.macFields p) := by
  have hfec : c.Keeps id [rMAC_CTRL.addr p 0] [] (c.wb rMAC_CTRL p 0 1 false) := .wb .refl 1 false (by simp)
  exact .ite (hfec.wf 7 6 0 (by simp)) (.wf .refl 21 20 0 (by simp))

/-- MAC_CTRL's value taken and the counters cleared where it says so. -/
def Chip.macTaken (c : Chip) (p : Nat) (v : Word) : Chip := if bit v 31 then (c.macFields p).cntClr p else c.macFields p

theorem macTaken_of_clear {v : Word} (h : bit v 31 = true) : c.macTaken p v = (c.macFields p).cntClr p := if_pos h

theorem macTaken_of_plain {v : Word} (h : bit v 31 = false) : c.macTaken p v = c.macFields p := if_neg (by simp [h])

theorem macTaken_count {v : Word} (h : bit v 31 = true) {j : Nat} (hj : j < 21) : (c.macTaken p v).rd rMAC_CNT p j = 0 := by
  rw [macTaken_of_clear h]
  exact cntClr_count hj

theorem macTaken_ctrl (hp : p < 3) (v : Word) : (c.macTaken p v).rd rMAC_CTRL p = macFieldsOf p (c.rd rMAC_CTRL p) := by
  have hout : ∀ p < 3, rMAC_CTRL.addr p 0 ∉ cntRegs p := by decide
  rw [← macFields_ctrl]
  cases h : bit v 31 with
  | false => rw [macTaken_of_plain h]
  | true => rw [macTaken_of_clear h, (cntClr_keeps _ p).rd (hout p hp)]

theorem macTaken_enable (hp : p < 3) (v : Word) : (c.macTaken p v).rb rMAC_CTRL p 0 0 = c.rb rMAC_CTRL p 0 0 := by
  rw [Chip.rb, macTaken_ctrl hp, bit_macFieldsOf, ← Chip.rb]

theorem macCtrl_of_enabled {v : Word} (hp : p < 3) (h : c.rb rMAC_CTRL p 0 0 = true) : c.macCtrl p v = c.macTaken p v := by
  have he : (c.macTaken p v).rb rMAC_CTRL p 0 0 = true := (macTaken_enable hp v).trans h
  exact if_neg (c := (!(c.macTaken p v).rb rMAC_CTRL p 0 0) = true) (by simp [he])

theorem macCtrl_of_disabled {v : Word} (hp : p < 3) (h : c.rb rMAC_CTRL p 0 0 = false) : c.macCtrl p v = (c.macTaken p v).linkLost p := by
  have he : (c.macTaken p v).rb rMAC_CTRL p 0 0 = false := (macTaken_enable hp v).trans h
  exact if_pos (c := (!(c.macTaken p v).rb rMAC_CTRL p 0 0) = true) (by simp [he])

/-- The registers a write of MAC_CTRL can change, beside what a fall of LINK does. -/
def ctrlRegs (p : Nat) (clear : Bool) : List Nat := rMAC_CTRL.addr p 0 :: if clear then cntRegs p else []

theorem macTaken_keeps (c : Chip) (p : Nat) (v : Word) : c.Keeps (fun _ => ()) (ctrlRegs p (bit v 31)) [] (c.macTaken p v) := by
  have hfields : c.Keeps (fun _ => ()) (ctrlRegs p (bit v 31)) [] (c.macFields p) := (macFields_keeps c p).plain.mono (by simp [ctrlRegs]) (by simp)
  cases h : bit v 31 with
  | false => rw [macTaken_of_plain h, ← h]; exact hfields
  | true =>
    rw [macTaken_of_clear h, ← h]
    exact hfields.trans ((cntClr_keeps _ p).mono (by rw [h, ctrlRegs, if_pos rfl]; exact fun n => List.mem_cons_of_mem _) fun _ h => h)

theorem macTaken_rest (c : Chip) (p : Nat) (v : Word) : (c.macTaken p v).rest
    = if bit v 31 then { c.rest with macs := mset ({} : Mac) c.macs p (c.bytesCleared p) } else c.rest := by
  have hfields : (c.macFields p).rest = c.rest := (macFields_keeps c p).sameView
  have hmacs : (c.macFields p).macs = c.macs := (macFields_keeps c p).same (fun r => r.macs) fun _ => rfl
  unfold Chip.macTaken
  split
  · rw [cntClr_rest, hfields, Chip.bytesCleared, Chip.mac, hmacs, ← Chip.mac, ← Chip.bytesCleared]
  · exact hfields

/-! ## Writes of MAC_CTRL as commands -/

/-- MAC_CTRL of port `p` written with `v`. -/
abbrev Chip.ctrlStored (c : Chip) (p : Nat) (v : Word) : Chip := c.stored rMAC_CTRL p 0 (rMAC_CTRL.merge (c.rd rMAC_CTRL p) v)

theorem ctrlStored_enable (c : Chip) (p : Nat) (v : Word) : (c.ctrlStored p v).rb rMAC_CTRL p 0 0 = bit v 0 := by
  rw [Chip.rb, Chip.rd_answer, Chip.rd_wr_same, RegRow.bit_merge (by decide)]
  simp [rMAC_CTRL, Nat.testBit]

theorem ctrlTaken_ctrl (hp : p < 3) (v : Word) : ((c.ctrlStored p v).macTaken p v).rd rMAC_CTRL p
    = macFieldsOf p (rMAC_CTRL.merge (c.rd rMAC_CTRL p) v) := by
  rw [macTaken_ctrl hp, Chip.rd_answer, Chip.rd_wr_same]

theorem ctrlTaken_keeps (c : Chip) (p : Nat) (v : Word) :
    c.Keeps (fun _ => ()) (ctrlRegs p (bit v 31)) [] ((c.ctrlStored p v).macTaken p v) :=
  ((stored_keeps c rMAC_CTRL p 0 _).plain.mono (by simp [ctrlRegs]) fun _ h => h).trans (macTaken_keeps ..)

theorem ctrlTaken_rest (c : Chip) (p : Nat) (v : Word) : ((c.ctrlStored p v).macTaken p v).rest
    = if bit v 31 then { c.rest with macs := mset ({} : Mac) c.macs p (c.bytesCleared p) } else c.rest := by
  rw [macTaken_rest]
  rfl

/-- The port's registers that a write of MAC_CTRL changes are its own. -/
theorem ctrlRegs_port (p : Nat) (b : Bool) : ∀ n ∈ ctrlRegs p b, n ∈ portRegs p := by
  intro n hn
  cases b with
  | false => exact List.mem_append_left _ (List.mem_cons.mpr (.inl (by simpa [ctrlRegs] using hn)))
  | true =>
    rcases List.mem_cons.mp hn with rfl | hn
    · simp [portRegs]
    · exact List.mem_append_left _ (List.mem_cons_of_mem _ (List.mem_cons_of_mem _ hn))

theorem macStatus_not_ctrl (hp : p < 3) (b : Bool) : rMAC_STATUS.addr p 0 ∉ ctrlRegs p b := by
  revert p b; decide

theorem ctrlTaken_port (hp : p < 3) (v : Word) : Chip.PortOnly p c ((c.ctrlStored p v).macTaken p v) := by
  have hkeeps := (ctrlTaken_keeps c p v).mono (ctrlRegs_port p _) (is' := [209]) (by simp)
  have hview : macless ((c.ctrlStored p v).macTaken p v).rest = macless c.rest := by
    rw [ctrlTaken_rest]
    split <;> rfl
  refine ⟨⟨hkeeps.sameRegs, hkeeps.sameIrqs, hview⟩, ?_⟩
  exact (ctrlTaken_keeps c p v).sameRegs.rb 0 (macStatus_not_ctrl hp _)

/-- What a write of MAC_CTRL with EN 1 does (R70, R72, R106). -/
theorem does_macEnable {a : Access} {p : Fin 3} {v : Word} (ht : s.chip.takes a rMAC_CTRL p 0 v) (hen : bit v 0 = true) :
    Does s (exec (.macEnable a p v) s) fun c =>
      c.rd rMAC_CTRL p = (if p = 2 then setFld (setBit (rMAC_CTRL.merge (s.chip.rd rMAC_CTRL p) v) 1 false) 7 6 0
          else setFld (rMAC_CTRL.merge (s.chip.rd rMAC_CTRL p) v) 21 20 0)
      ∧ c.rb rMAC_CTRL p 0 0 = true
      ∧ (bit v 31 = false → c.rest = s.chip.rest ∧ Frame [rMAC_CTRL.addr p 0] [] s.chip c)
      ∧ (bit v 31 = true → (∀ j < 21, c.rd rMAC_CNT p j = 0)
          ∧ c.rest = { s.chip.rest with macs := mset ({} : Mac) s.chip.macs p { s.chip.mac p with rxBytes := 0, txBytes := 0 } }
          ∧ Frame (rMAC_CTRL.addr p 0 :: (List.range 21).map (rMAC_CNT.addr p)) [] s.chip c) := by
  have hen' := (ctrlStored_enable s.chip.counted p v).trans hen
  refine does_write (rMAC_CTRL_stands p) ht rfl (macCtrl_of_enabled p.isLt hen') ?_
  have hrest := ctrlTaken_rest s.chip.counted p v
  have hframe := (ctrlTaken_keeps s.chip.counted p v).frame
  refine ⟨?_, (macTaken_enable p.isLt v).trans hen', fun h => ?_, fun h => ?_⟩
  · exact (ctrlTaken_ctrl p.isLt v).trans (if_congr (Fin.ext_iff (b := 2)).symm rfl rfl)
  · rw [h] at hrest hframe
    exact ⟨hrest, hframe⟩
  · rw [h] at hrest hframe
    exact ⟨fun j hj => (rd_settle ..).trans (macTaken_count h hj), hrest, hframe⟩

theorem ctrlTaken_err (c : Chip) (p : Nat) (v : Word) : ((c.ctrlStored p v).macTaken p v).err = c.err := by
  have herr := congrArg Chip.err (ctrlTaken_rest c p v)
  split at herr <;> exact herr

theorem ctrlTaken_macs (c : Chip) (p : Nat) (v : Word) : ((c.ctrlStored p v).macTaken p v).macs
    = if bit v 31 then mset ({} : Mac) c.macs p (c.bytesCleared p) else c.macs := by
  have hmacs := congrArg Chip.macs (ctrlTaken_rest c p v)
  refine Eq.trans hmacs ?_
  split <;> rfl

theorem ctrlTaken_count (hp : p < 3) (v : Word) : ((c.ctrlStored p v).macTaken p v).rd rMAC_CNT p 20 = if bit v 31 = true then 0 else c.rd rMAC_CNT p 20 := by
  have hout : ∀ p < 3, rMAC_CNT.addr p 20 ∉ ctrlRegs p false := by decide
  cases h : bit v 31 with
  | false => exact (ctrlTaken_keeps c p v).rd (by rw [h]; exact hout p hp)
  | true => exact macTaken_count h (by decide)

/-- The registers that the loss of a port's link can change, whatever stood. -/
def fallAll (p : Nat) : List Nat := rMAC_STATUS.addr p 0 :: rMAC_CNT.addr p 20 :: logRegs (2 + p) ++ rTIME_ADDEND.addr 0 0 :: servoRegs

theorem fallRegs_all (c : Chip) (p : Nat) : ∀ n ∈ c.fallRegs p, n ∈ fallAll p := by
  intro n hn
  unfold Chip.fallRegs at hn
  rcases List.mem_append.mp hn with hn | hn <;> split at hn
  · exact List.mem_append_left _ hn
  · simp at hn
  · exact List.mem_append_right _ hn
  · simp at hn

theorem linkLost_other (c : Chip) {p : Nat} {r : RegRow} {i j : Nat} (h : r.addr i j ∉ fallAll p) : (c.linkLost p).rd r i j = c.rd r i j :=
  (linkLost_keeps c p).rd fun hn => h (fallRegs_all c p _ hn)

/-- Reports of what comes after an update that reports nothing. -/
theorem Logs.after {a b c : Chip} {src : Nat} {l : List Nat} (h : Logs src l b c) (he : b.err = a.err) (hr : b.rd rERR_CTRL = a.rd rERR_CTRL) :
    Logs src l a c :=
  (Logs.nil (by rw [he])).append h (by rw [Chip.rb, Chip.rb, hr])

/-- What a write of MAC_CTRL with EN 0 does (R70, R72, R106). -/
theorem does_macDisable {a : Access} {p : Fin 3} {v : Word} (ht : s.chip.takes a rMAC_CTRL p 0 v) (hen : bit v 0 = false) :
    Does s (exec (.macEnable a p v) s) fun c =>
      c.rd rMAC_CTRL p = (if p = 2 then setFld (setBit (rMAC_CTRL.merge (s.chip.rd rMAC_CTRL p) v) 1 false) 7 6 0
          else setFld (rMAC_CTRL.merge (s.chip.rd rMAC_CTRL p) v) 21 20 0)
      ∧ c.rb rMAC_CTRL p 0 0 = false ∧ LinkFalls p s.chip c ∧ Logs (2 + p) (if s.chip.link p = true then [0x21] else []) s.chip c
      ∧ c.rd rMAC_CNT p 20 = (if bit v 31 = true then 0 else s.chip.rd rMAC_CNT p 20) + (if s.chip.link p = true then 1 else 0)
      ∧ (bit v 31 = false → c.macs = s.chip.macs ∧ Frame (rMAC_CTRL.addr p 0 :: s.chip.fallRegs p) (s.chip.fallIrqs p) s.chip c)
      ∧ (bit v 31 = true → (∀ j < 20, c.rd rMAC_CNT p j = 0)
          ∧ c.macs = mset ({} : Mac) s.chip.macs p { s.chip.mac p with rxBytes := 0, txBytes := 0 }
          ∧ Frame (rMAC_CTRL.addr p 0 :: (List.range 21).map (rMAC_CNT.addr p) ++ s.chip.fallRegs p) (s.chip.fallIrqs p) s.chip c) := by
  have hen' := (ctrlStored_enable s.chip.counted p v).trans hen
  have hwritten := macCtrl_of_disabled (v := v) p.isLt hen'
  have hport := ctrlTaken_port (c := s.chip.counted) p.isLt v
  have hregs := ctrlTaken_keeps s.chip.counted p v
  have hctrl := ctrlTaken_ctrl (c := s.chip.counted) p.isLt v
  have hbit := (macTaken_enable (c := s.chip.counted.ctrlStored p v) p.isLt v).trans hen'
  have hcount := ctrlTaken_count (c := s.chip.counted) p.isLt v
  have hclear : bit v 31 = true → ∀ j < 21, ((s.chip.counted.ctrlStored p v).macTaken p v).rd rMAC_CNT p j = 0 := fun h _ hj => macTaken_count h hj
  have herr := ctrlTaken_err s.chip.counted p v
  have hmacs := ctrlTaken_macs s.chip.counted p v
  generalize (s.chip.counted.ctrlStored p v).macTaken p v = d at *
  refine does_write (rMAC_CTRL_stands p) ht rfl hwritten ?_
  have hlost := (linkLost_macs d p).trans hmacs
  have hout : ∀ p < 3, rMAC_CTRL.addr p 0 ∉ fallAll p := by decide
  have hcnt : ∀ p < 3, ∀ j < 20, rMAC_CNT.addr p j ∉ fallAll p := by decide
  have herrs : ∀ p < 3, ∀ b, rERR_CTRL.addr 0 0 ∉ ctrlRegs p b := by decide
  have hlink : d.link p = s.chip.link p := hport.link
  have hkeeps : s.chip.counted.Keeps (fun _ => ()) (ctrlRegs p (bit v 31) ++ s.chip.fallRegs p) (s.chip.fallIrqs p) (d.linkLost p) := by
    obtain ⟨hfr, hfi⟩ := hport.fallRegs
    have hfall := (linkLost_keeps d p).plain
    rw [hfr, hfi] at hfall
    exact (hregs.mono (fun _ => List.mem_append_left _) (by simp)).trans (hfall.mono (fun _ => List.mem_append_right _) fun _ h => h)
  have hframe := hkeeps.frame
  refine ⟨?_, ?_, (linkLost_falls p.isLt hport :), ?_, ?_, fun h => ?_, fun h => ?_⟩
  · exact (linkLost_other d (hout p p.isLt)).trans (hctrl.trans (if_congr (Fin.ext_iff (b := 2)).symm rfl rfl))
  · exact (congrArg (bit · 0) (linkLost_other d (hout p p.isLt))).trans hbit
  · have hlogs := (linkLost_logs (c := d) p.isLt).after herr (hregs.rd (herrs p p.isLt _))
    rw [hlink] at hlogs
    exact hlogs
  · have h20 := linkLost_count (c := d) p.isLt
    rw [hcount, hlink] at h20
    exact h20
  · rw [h] at hframe hlost
    exact ⟨hlost, hframe⟩
  · rw [h] at hframe hlost
    exact ⟨fun j hj => (linkLost_other d (hcnt p p.isLt j hj)).trans (hclear h j (by omega)), hlost, hframe⟩

/-- CNT_CLR is a write of MAC_CTRL with bit 31 set. -/
theorem does_cntClr {a : Access} {p : Fin 3} {v : Word} (ht : s.chip.takes a rMAC_CTRL p 0 (v ||| 0x80000000)) :
    Does s (exec (.cntClr a p v) s) fun c =>
      (∀ j < 20, c.rd rMAC_CNT p j = 0) ∧ (c.mac p).rxBytes = 0 ∧ (c.mac p).txBytes = 0
      ∧ c.rd rMAC_CTRL p = (if p = 2 then setFld (setBit (rMAC_CTRL.merge (s.chip.rd rMAC_CTRL p) (v ||| 0x80000000)) 1 false) 7 6 0
          else setFld (rMAC_CTRL.merge (s.chip.rd rMAC_CTRL p) (v ||| 0x80000000)) 21 20 0)
      ∧ c.macs = mset ({} : Mac) s.chip.macs p { s.chip.mac p with rxBytes := 0, txBytes := 0 }
      ∧ (bit v 0 = true → c.rd rMAC_CNT p 20 = 0 ∧ c.rest = { s.chip.rest with macs := c.macs }
          ∧ Frame (rMAC_CTRL.addr p 0 :: (List.range 21).map (rMAC_CNT.addr p)) [] s.chip c)
      ∧ (bit v 0 = false → LinkFalls p s.chip c ∧ Logs (2 + p) (if s.chip.link p = true then [0x21] else []) s.chip c
          ∧ c.rd rMAC_CNT p 20 = (if s.chip.link p = true then 1 else 0)
          ∧ Frame (rMAC_CTRL.addr p 0 :: (List.range 21).map (rMAC_CNT.addr p) ++ s.chip.fallRegs p) (s.chip.fallIrqs p) s.chip c) := by
  have hclear : bit (v ||| 0x80000000) 31 = true := bit_or_of_bit (by decide)
  have hen : bit (v ||| 0x80000000) 0 = bit v 0 := bit_or_of_no_bit (by decide)
  have hmac : ∀ c : Chip, c.macs = mset ({} : Mac) s.chip.macs p { s.chip.mac p with rxBytes := 0, txBytes := 0 } →
      (c.mac p).rxBytes = 0 ∧ (c.mac p).txBytes = 0 := fun c h => by
    rw [Chip.mac, h, mget_mset_same]
    exact ⟨rfl, rfl⟩
  cases hv : bit v 0 with
  | true =>
    refine (does_macEnable ht (hen.trans hv)).mono fun c ⟨hctrl, _, _, hwith⟩ => ?_
    obtain ⟨hcnt, hrest, hframe⟩ := hwith hclear
    have hmacs := congrArg Chip.macs hrest
    change c.macs = mset ({} : Mac) s.chip.macs p { s.chip.mac p with rxBytes := 0, txBytes := 0 } at hmacs
    obtain ⟨hrx, htx⟩ := hmac c hmacs
    exact ⟨fun j hj => hcnt j (by omega), hrx, htx, hctrl, hmacs, fun _ => ⟨hcnt 20 (by decide), by rw [hmacs]; exact hrest, hframe⟩, nofun⟩
  | false =>
    refine (does_macDisable ht (hen.trans hv)).mono fun c ⟨hctrl, _, hfalls, hlogs, h20, _, hwith⟩ => ?_
    obtain ⟨hcnt, hmacs, hframe⟩ := hwith hclear
    obtain ⟨hrx, htx⟩ := hmac c hmacs
    rw [if_pos hclear] at h20
    exact ⟨hcnt, hrx, htx, hctrl, hmacs, nofun, fun _ => ⟨hfalls, hlogs, h20.trans (BitVec.zero_add _), hframe⟩⟩

end

end Sys2Proof.Machine

/-! SUPPORT. LINK's rise and fall, the sidebands and MDIO as commands (spec/03 R71..R73, R106, R107). -/

namespace Sys2Proof.Machine

section

variable {s : State} {c : Chip} {p : Nat}

/-! ## LINK rises and falls (R71, R72) -/

/-- The latency registers of port `p`. -/
def latRegs (p : Nat) : List Nat := if p = 2 then [rLAT_SV_TX.addr 0 0, rLAT_SV_RX.addr 0 0] else [rLAT_N_TX.addr p 0, rLAT_N_RX.addr p 0]

theorem loadLat_service (c : Chip) : c.loadLat 2 = (c.wr rLAT_SV_TX 0 0 384).wr rLAT_SV_RX 0 0 480 := rfl

theorem loadLat_port (hp : p ≠ 2) {tx rx : Word} (h : (if c.rb rMAC_CTRL p 0 1 then ((1480, 1888) : Word × Word)
    else if c.rf rMAC_CTRL p 0 7 6 = 1 then (1024, 2984) else (608, 840)) = (tx, rx)) :
    c.loadLat p = (c.wr rLAT_N_TX p 0 tx).wr rLAT_N_RX p 0 rx := by
  rw [Chip.loadLat, if_neg hp]
  exact congrArg (fun x : Word × Word => (c.wr rLAT_N_TX p 0 x.1).wr rLAT_N_RX p 0 x.2) h

theorem loadLat_keeps (c : Chip) (p : Nat) : c.Keeps id (latRegs p) [] (c.loadLat p) := by
  by_cases hp : p = 2
  · subst hp
    have htx : c.Keeps id (latRegs 2) [] (c.wr rLAT_SV_TX 0 0 384) := .wr .refl _ (by simp [latRegs])
    rw [loadLat_service]
    exact htx.wr _ (by simp [latRegs])
  · rw [loadLat_port (c := c) hp rfl]
    have htx : ∀ x, c.Keeps id (latRegs p) [] (c.wr rLAT_N_TX p 0 x) := fun x => .wr .refl _ (by simp [latRegs, hp])
    exact (htx _).wr _ (by simp [latRegs, hp])

theorem lat_ne (hp : p < 3) : rLAT_N_TX.addr p 0 ≠ rLAT_N_RX.addr p 0 := by
  revert p; decide

/-- Port `p`'s link shown, with the latencies of its mode. -/
def Chip.linkShown (c : Chip) (p : Nat) : Chip := (c.wb rMAC_STATUS p 0 0 true).loadLat p

/-- The registers in which LINK and the latencies stand. -/
def upRegs (p : Nat) : List Nat := rMAC_STATUS.addr p 0 :: latRegs p

theorem linkShown_keeps (c : Chip) (p : Nat) : c.Keeps id (upRegs p) [] (c.linkShown p) := by
  have hstatus : c.Keeps id (upRegs p) [] (c.wb rMAC_STATUS p 0 0 true) := .wb .refl 0 true (by simp [upRegs])
  exact hstatus.trans ((loadLat_keeps _ p).mono (fun _ => List.mem_cons_of_mem _) fun _ h => h)

theorem macStatus_not_lat (hp : p < 3) : rMAC_STATUS.addr p 0 ∉ latRegs p := by
  revert p; decide

theorem linkShown_status (hp : p < 3) : (c.linkShown p).rd rMAC_STATUS p = setBit (c.rd rMAC_STATUS p) 0 true := by
  rw [Chip.linkShown, (loadLat_keeps _ p).rd (macStatus_not_lat hp), Chip.rd_wb_same]

theorem linkShown_service (c : Chip) : (c.linkShown 2).rd rLAT_SV_TX = 384 ∧ (c.linkShown 2).rd rLAT_SV_RX = 480 := by
  rw [Chip.linkShown, loadLat_service]
  exact ⟨(Chip.rd_wr_other _ _ (by decide)).trans (Chip.rd_wr_same ..), Chip.rd_wr_same ..⟩

theorem linkShown_port (hp : p < 3) (h2 : p ≠ 2) {tx rx : Word} (h : (if c.rb rMAC_CTRL p 0 1 then ((1480, 1888) : Word × Word)
    else if c.rf rMAC_CTRL p 0 7 6 = 1 then (1024, 2984) else (608, 840)) = (tx, rx)) :
    (c.linkShown p).rd rLAT_N_TX p = tx ∧ (c.linkShown p).rd rLAT_N_RX p = rx := by
  have hout : ∀ p < 3, rMAC_CTRL.addr p 0 ≠ rMAC_STATUS.addr p 0 := by decide
  have hctrl : (c.wb rMAC_STATUS p 0 0 true).rd rMAC_CTRL p = c.rd rMAC_CTRL p := Chip.rd_wr_other _ _ (hout p hp)
  have hmode : (if (c.wb rMAC_STATUS p 0 0 true).rb rMAC_CTRL p 0 1 then ((1480, 1888) : Word × Word)
      else if (c.wb rMAC_STATUS p 0 0 true).rf rMAC_CTRL p 0 7 6 = 1 then (1024, 2984) else (608, 840)) = (tx, rx) := by
    rw [Chip.rb, Chip.rf, hctrl]
    exact h
  rw [Chip.linkShown, loadLat_port h2 hmode]
  exact ⟨(Chip.rd_wr_other _ _ (lat_ne hp)).trans (Chip.rd_wr_same ..), Chip.rd_wr_same ..⟩

theorem lat_not_logged (hp : p < 3) : ∀ r ∈ [rLAT_SV_TX, rLAT_SV_RX], r.addr 0 0 ∉ logRegs (2 + p) := by
  revert p; decide

theorem portLat_not_logged (hp : p < 3) : ∀ r ∈ [rLAT_N_TX, rLAT_N_RX], r.addr p 0 ∉ logRegs (2 + p) := by
  revert p; decide

theorem does_linkUp {p : Fin 3} (halive : s.chip.alive (macDom p) = true) (hen : s.chip.rb rMAC_CTRL p 0 0 = true)
    (hlos : s.chip.rb rMAC_STATUS p 0 4 = false) (hdown : s.chip.link p = false) : Does s (exec (.linkUp p) s) fun c =>
      c.rest = { s.chip.rest with err := c.err } ∧ c.rd rMAC_STATUS p = setBit (s.chip.rd rMAC_STATUS p) 0 true
      ∧ c.irqs.getLsbD (32 + 4 * p) = true ∧ Reports (2 + p) 0x20 s.chip c
      ∧ (p.val = 2 → c.rd rLAT_SV_TX = 384 ∧ c.rd rLAT_SV_RX = 480)
      ∧ (p.val ≠ 2 → s.chip.rb rMAC_CTRL p 0 1 = true → c.rd rLAT_N_TX p = 1480 ∧ c.rd rLAT_N_RX p = 1888)
      ∧ (p.val ≠ 2 → s.chip.rb rMAC_CTRL p 0 1 = false → s.chip.rf rMAC_CTRL p 0 7 6 = 1 → c.rd rLAT_N_TX p = 1024 ∧ c.rd rLAT_N_RX p = 2984)
      ∧ (p.val ≠ 2 → s.chip.rb rMAC_CTRL p 0 1 = false → s.chip.rf rMAC_CTRL p 0 7 6 ≠ 1 → c.rd rLAT_N_TX p = 608 ∧ c.rd rLAT_N_RX p = 840)
      ∧ Frame (rMAC_STATUS.addr p 0 :: (if p.val = 2 then [rLAT_SV_TX.addr 0 0, rLAT_SV_RX.addr 0 0]
          else [rLAT_N_TX.addr p 0, rLAT_N_RX.addr p 0]) ++ logRegs (2 + p)) [32 + 4 * p, 209] s.chip c := by
  have hgo : (s.chip.counted.alive (macDom p) && s.chip.counted.rb rMAC_CTRL p 0 0 && !s.chip.counted.rb rMAC_STATUS p 0 4 && !s.chip.counted.link p) = true := by
    rw [show s.chip.counted.alive (macDom p) = true from halive, show s.chip.counted.rb rMAC_CTRL p 0 0 = true from hen,
      show s.chip.counted.rb rMAC_STATUS p 0 4 = false from hlos, show s.chip.counted.link p = false from hdown]
    rfl
  have hstatus := linkShown_status (c := s.chip.counted) p.isLt
  have hservice := linkShown_service s.chip.counted
  have hlat := fun h2 (tx rx : Word) => linkShown_port (c := s.chip.counted) (p := p) (tx := tx) (rx := rx) p.isLt h2
  have hkeeps : s.chip.counted.Keeps reportless (upRegs p) [] (s.chip.counted.linkShown p) := .view (linkShown_keeps s.chip.counted p) reportless fun _ => rfl
  have hw : s.chip.counted.linkUp p = ((s.chip.counted.linkShown p).log (2 + p) 0x20).irq (32 + 4 * p) := if_pos hgo
  refine does_eq hw ?_
  have hserviceOf : p.val = 2 → (s.chip.counted.linkShown p).rd rLAT_SV_TX = 384 ∧ (s.chip.counted.linkShown p).rd rLAT_SV_RX = 480 := fun h2 => by
    rw [h2]
    exact hservice
  have hctrl : ∀ p < 3, rERR_CTRL.addr 0 0 ∉ upRegs p := by decide
  have hreport : Reports (2 + p) 0x20 s.chip (((s.chip.counted.linkShown p).log (2 + p) 0x20).irq (32 + 4 * p)) :=
    (Reports.log (2 + p) 0x20 _ (hkeeps.rd (hctrl p p.isLt)).symm ((linkShown_keeps s.chip.counted p).same (fun r => r.err) fun _ => rfl) (by omega)).irq _
  have hframe := (hkeeps.mono (rs' := upRegs p ++ logRegs (2 + p)) (is' := [32 + 4 * p, 209]) (fun _ => List.mem_append_left _) (by simp)).log
    (src := 2 + p) (code := 0x20) (x := Config.freeWord (s.chip.counted.linkShown p).cyc 0x20) (fun _ _ => rfl) (fun _ => List.mem_append_right _) (by simp)
  have hsignalled := hframe.irq (n := 32 + 4 * p) (by simp)
  have hrd : ∀ {r : RegRow} {i j : Nat}, r.addr i j ∉ logRegs (2 + p) →
      (settle (((s.chip.counted.linkShown p).log (2 + p) 0x20).irq (32 + 4 * p))).rd r i j = (s.chip.counted.linkShown p).rd r i j :=
    fun h => Chip.rd_log_other h
  have hportRd := portLat_not_logged p.isLt
  refine ⟨rest_of_reportless hsignalled.sameView, (hrd (macStatus_not_logged p.isLt)).trans hstatus, ?_, hreport, fun h2 => ?_, fun h2 hf => ?_,
    fun h2 hf hr => ?_, fun h2 hf hr => ?_, hsignalled.frame⟩
  · exact settled_irq_raised (linkIrq_edge p.isLt).1 (linkIrq_edge p.isLt).2.2.1
  · obtain ⟨htx, hrx⟩ := hserviceOf h2
    exact ⟨(hrd (lat_not_logged p.isLt _ (by simp))).trans htx, (hrd (lat_not_logged p.isLt _ (by simp))).trans hrx⟩
  · obtain ⟨htx, hrx⟩ := hlat h2 1480 1888 (if_pos hf)
    exact ⟨(hrd (hportRd _ (by simp))).trans htx, (hrd (hportRd _ (by simp))).trans hrx⟩
  · obtain ⟨htx, hrx⟩ := hlat h2 1024 2984 ((if_neg (Bool.eq_false_iff.mp hf)).trans (if_pos hr))
    exact ⟨(hrd (hportRd _ (by simp))).trans htx, (hrd (hportRd _ (by simp))).trans hrx⟩
  · obtain ⟨htx, hrx⟩ := hlat h2 608 840 ((if_neg (Bool.eq_false_iff.mp hf)).trans (if_neg hr))
    exact ⟨(hrd (hportRd _ (by simp))).trans htx, (hrd (hportRd _ (by simp))).trans hrx⟩

theorem does_linkUp_quiet {p : Fin 3} (h : s.chip.rb rMAC_CTRL p 0 0 = false ∨ s.chip.rb rMAC_STATUS p 0 4 = true ∨ s.chip.link p = true) :
    Does s (exec (.linkUp p) s) fun c => c.rest = s.chip.rest ∧ Frame [] [] s.chip c := by
  have hstay : (s.chip.counted.alive (macDom p) && s.chip.counted.rb rMAC_CTRL p 0 0 && !s.chip.counted.rb rMAC_STATUS p 0 4 && !s.chip.counted.link p) = false := by
    obtain h | h | h := h
    · rw [show s.chip.counted.rb rMAC_CTRL p 0 0 = false from h]
      simp
    · rw [show s.chip.counted.rb rMAC_STATUS p 0 4 = true from h]
      simp
    · rw [show s.chip.counted.link p = true from h]
      simp
  have hw : s.chip.counted.linkUp p = s.chip.counted := if_neg (by simp [hstay])
  exact does_eq hw (quiet s.chip)

theorem portOnly_self (c : Chip) (p : Nat) : Chip.PortOnly p c c := ⟨.refl, rfl⟩

theorem does_linkDown {p : Fin 3} (halive : s.chip.alive (macDom p) = true) : Does s (exec (.linkDown p) s) fun c =>
    LinkFalls p s.chip c ∧ Logs (2 + p) (if s.chip.link p = true then [0x21] else []) s.chip c ∧ c.macs = s.chip.macs
    ∧ c.rd rMAC_STATUS p = setBit (s.chip.rd rMAC_STATUS p) 0 false
    ∧ c.rd rMAC_CNT p 20 = s.chip.rd rMAC_CNT p 20 + (if s.chip.link p = true then 1 else 0)
    ∧ Frame (s.chip.fallRegs p) (s.chip.fallIrqs p) s.chip c := by
  refine does_when (ok := fun c => c.alive (macDom p)) (f := fun c => c.linkLost p) halive rfl ?_
  exact ⟨(linkLost_falls p.isLt (portOnly_self s.chip.counted p) :), (linkLost_logs (c := s.chip.counted) p.isLt :), linkLost_macs .., linkLost_status p.isLt, linkLost_count p.isLt,
    (linkLost_keeps s.chip.counted p).frame⟩

/-! ## Sidebands (R73) -/

/-- The levels of the sidebands mirrored. -/
def Chip.sideShown (c : Chip) (p : Nat) (modabs rxlos txfault : Bool) : Chip :=
  ((c.wb rMAC_STATUS p 0 3 modabs).wb rMAC_STATUS p 0 4 rxlos).wb rMAC_STATUS p 0 5 txfault

/-- The levels mirrored and a rising TXFAULT reported. -/
def Chip.sideReported (c : Chip) (p : Nat) (modabs rxlos txfault : Bool) : Chip :=
  if txfault && !bit (c.rd rMAC_STATUS p) 5 then (c.sideShown p modabs rxlos txfault).log (2 + p) 0x27 else c.sideShown p modabs rxlos txfault

/-- The registers a change of the sidebands can change, LINK's fall apart. -/
def sideRegs (p : Nat) : List Nat := rMAC_STATUS.addr p 0 :: logRegs (2 + p)

section Sidebands

variable {modabs rxlos txfault : Bool}

theorem sideShown_keeps (c : Chip) (p : Nat) (modabs rxlos txfault : Bool) : c.Keeps id [rMAC_STATUS.addr p 0] [] (c.sideShown p modabs rxlos txfault) := by
  have h3 : c.Keeps id [rMAC_STATUS.addr p 0] [] (c.wb rMAC_STATUS p 0 3 modabs) := .wb .refl 3 modabs (by simp)
  have h4 := h3.wb (r := rMAC_STATUS) (i := p) (j := 0) 4 rxlos (by simp)
  exact h4.wb (r := rMAC_STATUS) (i := p) (j := 0) 5 txfault (by simp)

theorem sideShown_status (c : Chip) (p : Nat) : (c.sideShown p modabs rxlos txfault).rd rMAC_STATUS p
    = setBit (setBit (setBit (c.rd rMAC_STATUS p) 3 modabs) 4 rxlos) 5 txfault := by
  rw [Chip.sideShown, Chip.rd_wb_same, Chip.rd_wb_same, Chip.rd_wb_same]

theorem sideReported_keeps (c : Chip) (p : Nat) (modabs rxlos txfault : Bool) : c.Keeps reportless (sideRegs p) [209] (c.sideReported p modabs rxlos txfault) := by
  have hshown : c.Keeps reportless (sideRegs p) [209] (c.sideShown p modabs rxlos txfault) :=
    .mono (.view (sideShown_keeps c p modabs rxlos txfault) reportless fun _ => rfl) (by simp [sideRegs]) (by simp)
  exact .ite (hshown.log (fun _ _ => rfl) (fun _ => List.mem_cons_of_mem _) (by simp)) hshown

theorem sideReported_status (hp : p < 3) : (c.sideReported p modabs rxlos txfault).rd rMAC_STATUS p
    = setBit (setBit (setBit (c.rd rMAC_STATUS p) 3 modabs) 4 rxlos) 5 txfault := by
  unfold Chip.sideReported
  split
  · rw [Chip.rd_log_other (macStatus_not_logged hp), sideShown_status]
  · rw [sideShown_status]

theorem sideReported_link (hp : p < 3) : (c.sideReported p modabs rxlos txfault).link p = c.link p := by
  rw [Chip.link, Chip.rb, sideReported_status hp, bit_setBit_other _ _ (by decide), bit_setBit_other _ _ (by decide), bit_setBit_other _ _ (by decide)]
  rfl

theorem sideReported_logs (hp : p < 3) : Logs (2 + p) (if c.rb rMAC_STATUS p 0 5 = false ∧ txfault = true then [0x27] else []) c
    (c.sideReported p modabs rxlos txfault) := by
  have hshown := sideShown_keeps c p modabs rxlos txfault
  have herr : (c.sideShown p modabs rxlos txfault).err = c.err := hshown.same (fun r => r.err) fun _ => rfl
  have hout : ∀ p < 3, rERR_CTRL.addr 0 0 ∉ [rMAC_STATUS.addr p 0] := by decide
  by_cases h : c.rb rMAC_STATUS p 0 5 = false ∧ txfault = true
  · rw [if_pos h, Chip.sideReported, if_pos (by rw [h.2, ← Chip.rb, h.1]; rfl)]
    exact .of_reports (.log (2 + p) 0x27 _ (hshown.rd (hout p hp)).symm herr (by omega))
  · rw [if_neg h, Chip.sideReported, if_neg (by rw [← Chip.rb]; intro he; simp_all)]
    exact .nil (by rw [herr])

theorem sideReported_port (hp : p < 3) : Chip.PortOnly p c (c.sideReported p modabs rxlos txfault) := by
  have hport : ∀ n ∈ sideRegs p, n ∈ portRegs p := fun n hn => by
    rcases List.mem_cons.mp hn with rfl | hn
    · simp [portRegs]
    · exact List.mem_append_right _ hn
  exact ⟨.mono (.view (sideReported_keeps c p modabs rxlos txfault) macless fun _ => rfl) hport fun _ h => h, sideReported_link hp⟩

/-- The loss of a link is told by the registers, by its own interrupt and by what stands beside them. -/
theorem LinkFalls.congr {a d e : Chip} (h : LinkFalls p a d) (hregs : e.regs = d.regs) (hrest : e.rest = d.rest)
    (hirq : e.irqs.getLsbD (32 + 4 * p) = d.irqs.getLsbD (32 + 4 * p)) : LinkFalls p a e := by
  have htime : e.time = d.time := by have h := congrArg Chip.time hrest; exact h
  have herr : e.err = d.err := by have h := congrArg Chip.err hrest; exact h
  have hmacs : e.macs = d.macs := by have h := congrArg Chip.macs hrest; exact h
  unfold LinkFalls at h ⊢
  rw [hirq, htime, herr, hmacs, hrest, Chip.link, Chip.rb, Chip.rf, Chip.rd_congr hregs, Chip.rd_congr hregs, Chip.rd_congr hregs]
  exact h

/-- Another interrupt beside the loss of a link. -/
theorem LinkFalls.irq {a d : Chip} {n : Nat} (h : LinkFalls p a (settle d)) (hp : p < 3) (hn : 32 + 4 * p ≠ n) : LinkFalls p a (settle (d.irq n)) := by
  obtain ⟨-, -, hlevel, -⟩ := linkIrq_edge hp
  refine h.congr ?_ ?_ ?_
  · rw [settle_regs, settle_regs, Chip.irq_regs]
  · rw [rest_settle, rest_settle, Chip.rest_irq]
  · rw [settle_irqs_other _ hlevel, settle_irqs_other _ hlevel, irq_irqs_other _ hn]

/-- What a change of the levels leaves. -/
def Chip.sideTaken (c : Chip) (p : Nat) (modabs rxlos txfault : Bool) : Chip :=
  (if rxlos then (c.sideReported p modabs rxlos txfault).linkLost p else c.sideReported p modabs rxlos txfault).irq 44

theorem does_sfp {p : Fin 2} (halive : s.chip.alive (macDom p) = true)
    (hnew : s.chip.rb rMAC_STATUS p 0 3 ≠ modabs ∨ s.chip.rb rMAC_STATUS p 0 4 ≠ rxlos ∨ s.chip.rb rMAC_STATUS p 0 5 ≠ txfault) {P : Chip → Prop}
    (h : P (settle (s.chip.counted.sideTaken p modabs rxlos txfault))) : Does s (exec (.sfpSidebandChange p modabs rxlos txfault) s) P := by
  have hchange : ¬ (bit (s.chip.counted.rd rMAC_STATUS p) 3 = modabs && bit (s.chip.counted.rd rMAC_STATUS p) 4 = rxlos
      && bit (s.chip.counted.rd rMAC_STATUS p) 5 = txfault) = true := by
    rw [Bool.and_eq_true, Bool.and_eq_true, decide_eq_true_eq, decide_eq_true_eq, decide_eq_true_eq]
    rintro ⟨⟨h3, h4⟩, h5⟩
    exact hnew.elim (· h3) fun hnew => hnew.elim (· h4) (· h5)
  exact does_when (ok := fun c => c.alive (macDom p)) halive (if_neg hchange) h

theorem does_sfp_signalLost {p : Fin 2} (halive : s.chip.alive (macDom p) = true)
    (hnew : s.chip.rb rMAC_STATUS p 0 3 ≠ modabs ∨ s.chip.rb rMAC_STATUS p 0 4 ≠ true ∨ s.chip.rb rMAC_STATUS p 0 5 ≠ txfault) :
    Does s (exec (.sfpSidebandChange p modabs true txfault) s) fun c =>
      c.irqs.getLsbD 44 = true
      ∧ c.rd rMAC_STATUS p = setBit (setBit (setBit (setBit (s.chip.rd rMAC_STATUS p) 3 modabs) 4 true) 5 txfault) 0 false
      ∧ Logs (2 + p) ((if s.chip.rb rMAC_STATUS p 0 5 = false ∧ txfault = true then [0x27] else [])
          ++ (if s.chip.link p = true then [0x21] else [])) s.chip c
      ∧ c.macs = s.chip.macs
      ∧ LinkFalls p s.chip c
      ∧ c.rd rMAC_CNT p 20 = s.chip.rd rMAC_CNT p 20 + (if s.chip.link p = true then 1 else 0)
      ∧ Frame (rMAC_STATUS.addr p 0 :: logRegs (2 + p) ++ s.chip.fallRegs p) (44 :: 209 :: s.chip.fallIrqs p) s.chip c := by
  have hp : p.val < 3 := by omega
  refine does_sfp halive hnew ?_
  have hport := sideReported_port (c := s.chip.counted) (modabs := modabs) (rxlos := true) (txfault := txfault) hp
  have hside := sideReported_keeps s.chip.counted p modabs true txfault
  have hstatus := sideReported_status (c := s.chip.counted) (modabs := modabs) (rxlos := true) (txfault := txfault) hp
  have hlogs := sideReported_logs (c := s.chip.counted) (modabs := modabs) (rxlos := true) (txfault := txfault) hp
  have hw : s.chip.counted.sideTaken p modabs true txfault = ((s.chip.counted.sideReported p modabs true txfault).linkLost p).irq 44 := rfl
  rw [hw]
  generalize s.chip.counted.sideReported p modabs true txfault = d at *
  have hlink : d.link p = s.chip.link p := hport.link
  have hout : ∀ p < 3, rERR_CTRL.addr 0 0 ∉ sideRegs p ∧ rMAC_CNT.addr p 20 ∉ sideRegs p := by decide
  have hkeeps : s.chip.counted.Keeps (fun _ => ()) (sideRegs p ++ s.chip.fallRegs p) (44 :: 209 :: s.chip.fallIrqs p) (d.linkLost p) := by
    obtain ⟨hfr, hfi⟩ := hport.fallRegs
    have hfall := (linkLost_keeps d p).plain
    rw [hfr, hfi] at hfall
    exact (hside.plain.mono (fun _ => List.mem_append_left _) (by simp)).trans
      (hfall.mono (fun _ => List.mem_append_right _) fun _ h => List.mem_cons_of_mem _ (List.mem_cons_of_mem _ h))
  refine ⟨settled_irq_raised (by decide) (by decide), ?_, ?_, (linkLost_macs d p).trans (hside.same (fun r => r.macs) fun _ => rfl), ?_, ?_,
    (hkeeps.irq (n := 44) (by simp)).frame⟩
  · exact (linkLost_status hp).trans (congrArg (setBit · 0 false) hstatus)
  · have hfall := linkLost_logs (c := d) hp
    rw [hlink] at hfall
    exact hlogs.append hfall (hside.sameRegs.rb 0 (hout p hp).1)
  · exact (linkLost_falls hp hport).irq hp (by omega)
  · have h20 := linkLost_count (c := d) hp
    rw [hlink, hside.rd (hout p hp).2] at h20
    exact h20

theorem does_sfp_signalled {p : Fin 2} (halive : s.chip.alive (macDom p) = true)
    (hnew : s.chip.rb rMAC_STATUS p 0 3 ≠ modabs ∨ s.chip.rb rMAC_STATUS p 0 4 ≠ false ∨ s.chip.rb rMAC_STATUS p 0 5 ≠ txfault) :
    Does s (exec (.sfpSidebandChange p modabs false txfault) s) fun c =>
      c.irqs.getLsbD 44 = true
      ∧ c.rd rMAC_STATUS p = setBit (setBit (setBit (setBit (s.chip.rd rMAC_STATUS p) 3 modabs) 4 false) 5 txfault) 0 (s.chip.link p)
      ∧ Logs (2 + p) (if s.chip.rb rMAC_STATUS p 0 5 = false ∧ txfault = true then [0x27] else []) s.chip c
      ∧ c.macs = s.chip.macs ∧ c.rest = { s.chip.rest with err := c.err }
      ∧ Frame (rMAC_STATUS.addr p 0 :: logRegs (2 + p)) [44, 209] s.chip c := by
  have hp : p.val < 3 := by omega
  refine does_sfp halive hnew ?_
  have hside := (sideReported_keeps s.chip.counted p modabs false txfault).mono (is' := [44, 209]) (fun _ h => h) (by simp)
  have hsignalled := hside.irq (n := 44) (by simp)
  refine ⟨settled_irq_raised (by decide) (by decide), ?_, (sideReported_logs (c := s.chip.counted) hp :), hside.same (fun r => r.macs) fun _ => rfl,
    rest_of_reportless hsignalled.sameView, hsignalled.frame⟩
  rw [setBit_self]
  · exact sideReported_status hp
  · rw [bit_setBit_other _ _ (by decide), bit_setBit_other _ _ (by decide), bit_setBit_other _ _ (by decide)]
    rfl

theorem does_sfpSidebandChange {p : Fin 2} (halive : s.chip.alive (macDom p) = true)
    (hnew : s.chip.rb rMAC_STATUS p 0 3 ≠ modabs ∨ s.chip.rb rMAC_STATUS p 0 4 ≠ rxlos ∨ s.chip.rb rMAC_STATUS p 0 5 ≠ txfault) :
    Does s (exec (.sfpSidebandChange p modabs rxlos txfault) s) fun c =>
      c.irqs.getLsbD 44 = true
      ∧ c.rd rMAC_STATUS p = setBit (setBit (setBit (setBit (s.chip.rd rMAC_STATUS p) 3 modabs) 4 rxlos) 5 txfault) 0 (s.chip.link p && !rxlos)
      ∧ Logs (2 + p) ((if s.chip.rb rMAC_STATUS p 0 5 = false ∧ txfault = true then [0x27] else [])
          ++ (if s.chip.link p = true ∧ rxlos = true then [0x21] else [])) s.chip c
      ∧ c.macs = s.chip.macs
      ∧ (rxlos = true → LinkFalls p s.chip c
          ∧ c.rd rMAC_CNT p 20 = s.chip.rd rMAC_CNT p 20 + (if s.chip.link p = true then 1 else 0)
          ∧ Frame (rMAC_STATUS.addr p 0 :: logRegs (2 + p) ++ s.chip.fallRegs p) (44 :: 209 :: s.chip.fallIrqs p) s.chip c)
      ∧ (rxlos = false → c.rest = { s.chip.rest with err := c.err }
          ∧ Frame (rMAC_STATUS.addr p 0 :: logRegs (2 + p)) [44, 209] s.chip c) := by
  cases rxlos with
  | true =>
    refine (does_sfp_signalLost halive hnew).mono fun c ⟨hirq, hstatus, hlogs, hmacs, hfalls⟩ => ?_
    simp only [and_true, Bool.not_true, Bool.and_false]
    exact ⟨hirq, hstatus, hlogs, hmacs, fun _ => hfalls, nofun⟩
  | false =>
    refine (does_sfp_signalled halive hnew).mono fun c ⟨hirq, hstatus, hlogs, hmacs, hrest⟩ => ?_
    simp only [Bool.false_eq_true, and_false, if_false, List.append_nil, Bool.not_false, Bool.and_true]
    exact ⟨hirq, hstatus, hlogs, hmacs, nofun, fun _ => hrest⟩

theorem does_sfp_quiet {p : Fin 2} (h3 : s.chip.rb rMAC_STATUS p 0 3 = modabs) (h4 : s.chip.rb rMAC_STATUS p 0 4 = rxlos)
    (h5 : s.chip.rb rMAC_STATUS p 0 5 = txfault) :
    Does s (exec (.sfpSidebandChange p modabs rxlos txfault) s) fun c => c.rest = s.chip.rest ∧ Frame [] [] s.chip c := by
  have hsame : (bit (s.chip.counted.rd rMAC_STATUS p) 3 = modabs && bit (s.chip.counted.rd rMAC_STATUS p) 4 = rxlos
      && bit (s.chip.counted.rd rMAC_STATUS p) 5 = txfault) = true := by
    rw [Bool.and_eq_true, Bool.and_eq_true, decide_eq_true_eq, decide_eq_true_eq, decide_eq_true_eq]
    exact ⟨⟨h3, h4⟩, h5⟩
  exact does_when_quiet (ok := fun c => c.alive (macDom p)) (if_pos hsame)

end Sidebands

/-! ## MDIO (R73) -/

/-- What is not the default is read whatever the default. -/
theorem mget_of_ne {α : Type} {d e : α} {m : List (Nat × α)} {k : Nat} (h : mget d m k ≠ d) : mget e m k = mget d m k := by
  induction m with
  | nil => exact absurd rfl h
  | cons x t ih =>
    rw [mget] at h ⊢
    rw [mget]
    split
    · rfl
    · next hk => exact ih (by rwa [if_neg hk] at h)

/-- A register that holds what it did, and not its reset value, is as it was. -/
theorem SameRegs.of_held {a d : Chip} {r : RegRow} {i j : Nat} (h : SameRegs [r.addr i j] a d) (hrd : d.rd r i j = a.rd r i j)
    (hne : a.rd r i j ≠ BitVec.ofNat 32 r.reset) : SameRegs [] a d := fun n _ e => by
  by_cases hn : n = r.addr i j
  · subst hn
    have ha : mget e a.regs (r.addr i j) = a.rd r i j := mget_of_ne hne
    have hd : mget e d.regs (r.addr i j) = d.rd r i j := mget_of_ne (by rw [← hrd] at hne; exact hne)
    rw [ha, hd, hrd]
  · exact h n (by simpa using hn) e

section Mdio

variable {a : Access} {v : Word} {data : BitVec 16}

/-- The frame started by a write of GO. -/
def Chip.mdioStarted (c : Chip) (v : Word) : Chip :=
  ((c.wb rMDIO 0 0 31 true).setMac 2 { c.mac 2 with mdioRead := bit v 26 }).emit (.mdio v)

theorem mdioWrite_of_idle {old : Word} (hgo : bit v 31 = true) (h : bit old 31 = false) : c.mdioWrite old v = c.mdioStarted v :=
  (if_pos hgo).trans (if_neg (by simp [h]))

theorem mdioWrite_of_busy {old : Word} (hgo : bit v 31 = true) (h : bit old 31 = true) : c.mdioWrite old v = c.wr rMDIO 0 0 old :=
  (if_pos hgo).trans (if_pos h)

theorem does_mdioTransaction (ht : s.chip.takes a rMDIO 0 0 (v ||| 0x80000000)) (hidle : s.chip.rb rMDIO 0 0 31 = false) :
    Does s (exec (.mdioTransaction a v) s) fun c =>
      c.wire = .mdio (v ||| 0x80000000) :: s.chip.wire ∧ (c.mac 2).mdioRead = bit v 26
      ∧ c.rd rMDIO = setBit (rMDIO.merge (s.chip.rd rMDIO) (v ||| 0x80000000)) 31 true
      ∧ c.rest = { s.chip.rest with wire := c.wire, macs := mset ({} : Mac) s.chip.macs 2 { s.chip.mac 2 with mdioRead := bit v 26 } }
      ∧ Frame [rMDIO.addr 0 0] [] s.chip c := by
  have hread : bit (v ||| 0x80000000) 26 = bit v 26 := bit_or_of_no_bit (by decide)
  refine does_write rMDIO_stands ht rfl (mdioWrite_of_idle (bit_or_of_bit (by decide)) hidle) ?_
  have hkeeps := (stored_keeps s.chip.counted rMDIO 0 0 (rMDIO.merge (s.chip.rd rMDIO) (v ||| 0x80000000))).plain.wb (r := rMDIO) (i := 0) (j := 0)
    31 true (by simp)
  have hstarted : s.chip.counted.Keeps (fun _ => ()) [rMDIO.addr 0 0] []
      ((s.chip.counted.stored rMDIO 0 0 (rMDIO.merge (s.chip.rd rMDIO) (v ||| 0x80000000))).mdioStarted (v ||| 0x80000000)) := .of_eq hkeeps rfl rfl rfl
  rw [← hread]
  refine ⟨rfl, congrArg Mac.mdioRead (mget_mset_same ..), ?_, rfl, hstarted.frame⟩
  exact (Chip.rd_wb_same _).trans (congrArg (setBit · 31 true) (Chip.rd_wr_same ..))

theorem does_mdioTransaction_busy (ht : s.chip.takes a rMDIO 0 0 (v ||| 0x80000000)) (hbusy : s.chip.rb rMDIO 0 0 31 = true) :
    Does s (exec (.mdioTransaction a v) s) fun c => c.rest = s.chip.rest ∧ c.rd rMDIO = s.chip.rd rMDIO ∧ Frame [] [] s.chip c := by
  refine does_write rMDIO_stands ht rfl (mdioWrite_of_busy (bit_or_of_bit (by decide)) hbusy) ?_
  have hkeeps := (stored_keeps s.chip.counted rMDIO 0 0 (rMDIO.merge (s.chip.rd rMDIO) (v ||| 0x80000000))).wr (r := rMDIO) (i := 0) (j := 0)
    (s.chip.rd rMDIO) (by simp)
  have hne : s.chip.rd rMDIO ≠ BitVec.ofNat 32 rMDIO.reset := fun h => by
    rw [Chip.rb, h] at hbusy
    revert hbusy
    decide
  have hheld : ((s.chip.counted.stored rMDIO 0 0 (rMDIO.merge (s.chip.rd rMDIO) (v ||| 0x80000000))).wr rMDIO 0 0 (s.chip.rd rMDIO)).rd rMDIO
      = s.chip.rd rMDIO := Chip.rd_wr_same ..
  exact ⟨hkeeps.sameView, hheld, (hkeeps.sameRegs.of_held hheld hne).settle, hkeeps.sameIrqs.settle⟩

theorem does_mdioDone (halive : s.chip.alive .svc = true) (hbusy : s.chip.rb rMDIO 0 0 31 = true) : Does s (exec (.mdioDone data) s) fun c =>
    c.rest = s.chip.rest ∧ c.rd rMDIO = (if (s.chip.mac 2).mdioRead = true then setFld (setBit (s.chip.rd rMDIO) 31 false) 15 0 data.toNat
      else setBit (s.chip.rd rMDIO) 31 false) ∧ Frame [rMDIO.addr 0 0] [] s.chip c := by
  have hidle : s.chip.counted.Keeps id [rMDIO.addr 0 0] [] (s.chip.counted.wb rMDIO 0 0 31 false) := .wb .refl 31 false (by simp)
  have hrd := Chip.rd_wb_same (r := rMDIO) (i := 0) (j := 0) (k := 31) (b := false) s.chip.counted
  have hok : (s.chip.counted.alive .svc && s.chip.counted.rb rMDIO 0 0 31) = true := Bool.and_eq_true_iff.mpr ⟨halive, hbusy⟩
  by_cases hread : (s.chip.mac 2).mdioRead = true
  · refine does_when (ok := fun c => c.alive .svc && c.rb rMDIO 0 0 31) hok (if_pos hread) ?_
    have hdone := hidle.wf (r := rMDIO) (i := 0) (j := 0) 15 0 data.toNat (by simp)
    rw [if_pos hread]
    exact ⟨hdone.sameView, (Chip.rd_wr_same ..).trans (congrArg (setFld · 15 0 data.toNat) hrd), hdone.frame⟩
  · refine does_when (ok := fun c => c.alive .svc && c.rb rMDIO 0 0 31) hok (if_neg hread) ?_
    rw [if_neg hread]
    exact ⟨hidle.sameView, hrd, hidle.frame⟩

theorem does_mdioDone_quiet (hidle : s.chip.rb rMDIO 0 0 31 = false) : Does s (exec (.mdioDone data) s) fun c =>
    c.rest = s.chip.rest ∧ Frame [] [] s.chip c := by
  refine does_eq (w := s.chip.counted) (if_neg ?_) (quiet s.chip)
  rw [show s.chip.counted.rb rMDIO 0 0 31 = false from hidle, Bool.and_false]
  exact Bool.false_ne_true

end Mdio

end

/-- Settles O13: a write of MAC_CTRL, a rise and a fall of LINK are each a chain of register updates with one report, and what the
loss of the parent adds behind a fall touches the servo's registers alone; a busy MDIO register written back is as it was. -/
theorem macLinksAndMdio : Obligations.mac_links_and_mdio := by
  unfold Obligations.mac_links_and_mdio
  exact ⟨fun _ _ _ _ => does_macEnable, fun _ _ _ _ => does_macDisable, fun _ _ => does_linkUp, fun _ _ => does_linkUp_quiet, fun _ _ => does_linkDown,
    fun _ _ _ _ _ => does_sfpSidebandChange, fun _ _ _ _ _ => does_sfp_quiet, fun _ _ _ => does_mdioTransaction, fun _ _ _ => does_mdioTransaction_busy,
    fun _ _ => does_mdioDone, fun _ _ => does_mdioDone_quiet, fun _ _ _ _ => does_cntClr⟩

end Sys2Proof.Machine

/-! SUPPORT. Reception of a frame at a MAC (spec/03 R72..R85, R106): what counting leaves unread, the port's state in one step, and the
branches of a frame's way. -/

namespace Sys2Proof.Machine

section

variable {a c d : Chip} {p : Nat}

/-! ## What the counters do not tell -/

theorem macCnt_inj {j k : Nat} : rMAC_CNT.addr p j = rMAC_CNT.addr p k ↔ j = k := by
  simp only [RegRow.addr, rMAC_CNT]
  omega

section Counted

variable (hp : p < 3) (h : SameRegs (cntRegs p) c d)
include hp h

theorem counted_ctrl : d.rd rMAC_CTRL p = c.rd rMAC_CTRL p := by
  have hout : ∀ p < 3, rMAC_CTRL.addr p 0 ∉ cntRegs p := by decide
  exact h.rd (hout p hp)

theorem counted_qClass (q : Nat) : d.qClass p q = c.qClass p q := by
  have hout : ∀ p < 3, rQCLASS.addr p 0 ∉ cntRegs p := by decide
  rw [Chip.qClass, h.rd (hout p hp), ← Chip.qClass]

theorem counted_steer {f : Hdr} (hf : f.dscp < 64) (pcp : Nat) : d.steer p f pcp = c.steer p f pcp := by
  have hpcp : ∀ p < 3, rPCP_MAP.addr p 0 ∉ cntRegs p := by decide
  have hdscp : ∀ p < 3, ∀ k < 8, (rDSCP_MAP k).addr p 0 ∉ cntRegs p := by decide
  have hk : f.dscp / 8 < 8 := by omega
  simp only [Chip.steer, Chip.rf, h.rd (hpcp p hp), h.rd (hdscp p hp _ hk), counted_ctrl hp h]

theorem counted_spillQueue : d.spillQueue p = c.spillQueue p := by
  have hclass : d.qClass p = c.qClass p := funext (counted_qClass hp h)
  rw [Chip.spillQueue, Chip.rf, counted_ctrl hp h, hclass]
  rfl

theorem counted_rxStamp (sfd : Nat) : d.rxStamp p sfd = c.rxStamp p sfd := by
  have hlat : ∀ p < 3, rLAT_SV_RX.addr 0 0 ∉ cntRegs p ∧ rLAT_N_RX.addr p 0 ∉ cntRegs p := by decide
  simp only [Chip.rxStamp, Chip.rxLat, h.rd (hlat p hp).1, h.rd (hlat p hp).2]

theorem counted_pmFind (da : List Byte) : d.pmFind p da = c.pmFind p da := by
  have hpm : ∀ p < 3, ∀ i < 8, rPM_HI.addr p i ∉ cntRegs p ∧ rPM_LO.addr p i ∉ cntRegs p := by decide
  refine List.find?_congr fun i hi => ?_
  obtain ⟨hhi, hlo⟩ := hpm p hp i (List.mem_range.mp hi)
  rw [h.rb 31 hhi, h.rd hhi, h.rd hlo]

theorem counted_vlanAccept (f : Hdr) : d.vlanAccept p f = c.vlanAccept p f := by
  have hvlan : ∀ p < 3, ∀ i < 4, rMAC_VLAN.addr p i ∉ cntRegs p := by decide
  have hany : ((List.range 4).any fun i => d.rb rMAC_VLAN p i 15 && d.rf rMAC_VLAN p i 11 0 = f.vid)
      = (List.range 4).any fun i => c.rb rMAC_VLAN p i 15 && c.rf rMAC_VLAN p i 11 0 = f.vid := by
    rw [Bool.eq_iff_iff, List.any_eq_true, List.any_eq_true]
    refine exists_congr fun i => and_congr_right fun hi => ?_
    have hout := hvlan p hp i (List.mem_range.mp hi)
    rw [h.rb 15 hout, h.rf 11 0 hout]
  rw [Chip.vlanAccept, hany, Chip.rb, counted_ctrl hp h]
  rfl

theorem counted_urgent : d.rb rURG_CTRL p 0 31 = c.rb rURG_CTRL p 0 31 := by
  have hout : ∀ p < 3, rURG_CTRL.addr p 0 ∉ cntRegs p := by decide
  exact h.rb 31 (hout p hp)

end Counted

theorem parseHdr_dscp (b : List Byte) : (parseHdr b).dscp < 64 := by
  have hbyte : ∀ (v4 : Bool) (x : Byte), (if v4 then x.toNat / 4 else 0) < 64 := fun v4 x => by
    have hx := x.isLt
    split <;> omega
  exact hbyte _ _

/-! ## A port's state in one step -/

/-- `d` is `a` with MAC `p` at `m`, beside the registers `rs`. -/
structure Chip.MacStep (p : Nat) (m : Mac) (rs : List Nat) (a d : Chip) : Prop where
  regs : SameRegs rs a d
  irqs : d.irqs = a.irqs
  rest : d.rest = { a.rest with macs := mset ({} : Mac) a.macs p m }

namespace Chip.MacStep

variable {m m' : Mac} {rs rs' : List Nat}

theorem of_setMac (a : Chip) (p : Nat) (m : Mac) : Chip.MacStep p m rs a (a.setMac p m) := ⟨.refl rs a, rfl, rfl⟩

theorem macs (h : Chip.MacStep p m rs a d) : d.macs = mset ({} : Mac) a.macs p m := by
  have h := congrArg Chip.macs h.rest
  exact h

theorem mac (h : Chip.MacStep p m rs a d) : d.mac p = m := by
  rw [Chip.mac, h.macs, mget_mset_same]

theorem err (h : Chip.MacStep p m rs a d) : d.err = a.err := by
  have h := congrArg Chip.err h.rest
  exact h

theorem mono (h : Chip.MacStep p m rs a d) (hr : ∀ n ∈ rs, n ∈ rs') : Chip.MacStep p m rs' a d := ⟨h.regs.mono hr, h.irqs, h.rest⟩

theorem wr (h : Chip.MacStep p m rs a d) {r : RegRow} {i j : Nat} (v : Word) (hr : r.addr i j ∈ rs) : Chip.MacStep p m rs a (d.wr r i j v) :=
  ⟨h.regs.wr v hr, h.irqs, (Chip.rest_wr ..).trans h.rest⟩

theorem wb (h : Chip.MacStep p m rs a d) {r : RegRow} {i j : Nat} (k : Nat) (b : Bool) (hr : r.addr i j ∈ rs) :
    Chip.MacStep p m rs a (d.wb r i j k b) := h.wr _ hr

theorem cnt (h : Chip.MacStep p m rs a d) {j : Nat} (hr : rMAC_CNT.addr p j ∈ rs) : Chip.MacStep p m rs a (d.macCnt p j) := h.wr _ hr

theorem setMac (h : Chip.MacStep p m rs a d) (m' : Mac) : Chip.MacStep p m' rs a (d.setMac p m') := by
  refine ⟨h.regs.setMac p m', h.irqs, ?_⟩
  have hset : (d.setMac p m').rest = { d.rest with macs := mset ({} : Mac) d.macs p m' } := rfl
  rw [hset, h.macs, mset_mset, h.rest]

theorem frame (h : Chip.MacStep p m rs a d) : Frame rs [] a (settle d) := ⟨h.regs.settle, (SameIrqs.of_irqs h.irqs).settle⟩

end Chip.MacStep

/-! ## Counters (R79, R106) -/

theorem macCnt_count (c : Chip) (p j k : Nat) : (c.macCnt p j).rd rMAC_CNT p k = c.rd rMAC_CNT p k + if k = j then 1 else 0 := by
  rw [Chip.macCnt, Chip.inc]
  by_cases h : k = j
  · subst h
    rw [if_pos rfl]
    exact Chip.rd_wr_same ..
  · rw [if_neg h]
    exact (Chip.rd_wr_other _ _ (macCnt_inj.not.mpr h)).trans (BitVec.add_zero _).symm

theorem cntIf_count (c : Chip) (p j k : Nat) (b : Bool) : (if b then c.macCnt p j else c).rd rMAC_CNT p k
    = c.rd rMAC_CNT p k + if k = j ∧ b = true then 1 else 0 := by
  cases b with
  | false => simp
  | true => simpa using macCnt_count c p j k

/-- A counter of R79 goes up with its flag. -/
theorem cntFlags_count (c : Chip) (p : Nat) (f : RxFrame) : ∀ k ∈ [(3, f.fcs), (4, f.runt), (5, f.oversize), (6, f.code), (7, f.lenerr)],
    (c.cntFlags p f).rd rMAC_CNT p k.1 = c.rd rMAC_CNT p k.1 + if k.2 = true then 1 else 0 := by
  have hcount : ∀ k, (c.cntFlags p f).rd rMAC_CNT p k = c.rd rMAC_CNT p k + (if k = 3 ∧ f.fcs = true then 1 else 0)
      + (if k = 4 ∧ f.runt = true then 1 else 0) + (if k = 5 ∧ f.oversize = true then 1 else 0) + (if k = 6 ∧ f.code = true then 1 else 0)
      + (if k = 7 ∧ f.lenerr = true then 1 else 0) := fun k => by
    rw [Chip.cntFlags, cntIf_count, cntIf_count, cntIf_count, cntIf_count, cntIf_count]
  simp only [List.forall_mem_cons, hcount]
  simp

theorem Chip.MacStep.cntIf {m : Mac} {rs : List Nat} {b : Bool} {j : Nat} (h : Chip.MacStep p m rs a d) (hr : b = true → rMAC_CNT.addr p j ∈ rs) :
    Chip.MacStep p m rs a (if b then d.macCnt p j else d) := by
  split
  · next hb => exact h.cnt (hr hb)
  · exact h

/-- The counters of a frame's faults, that of its length where it has that fault. -/
theorem Chip.MacStep.cntFlags {m : Mac} {rs : List Nat} (h : Chip.MacStep p m rs a d) {f : RxFrame} (hr : ∀ j ∈ [3, 4, 5, 6], rMAC_CNT.addr p j ∈ rs)
    (h7 : f.lenerr = true → rMAC_CNT.addr p 7 ∈ rs) : Chip.MacStep p m rs a (d.cntFlags p f) := by
  have h3 := h.cntIf (b := f.fcs) fun _ => hr 3 (by simp)
  have h4 := h3.cntIf (b := f.runt) fun _ => hr 4 (by simp)
  have h5 := h4.cntIf (b := f.oversize) fun _ => hr 5 (by simp)
  exact (h5.cntIf (b := f.code) fun _ => hr 6 (by simp)).cntIf h7

/-! ## A frame's way (R74..R85) -/

/-- A frame that the address filter accepts, counted with its bytes up to the limit. -/
def Chip.rxCounted (c : Chip) (p : Nat) (w : WireFrame) (lim : Nat) : Chip := (c.macCnt p 0).macRxBytes p (min (w.bytes.length + 4) lim)

/-- The priority a frame comes with. -/
def Chip.rxPcp (c : Chip) (p : Nat) (h : Hdr) : Nat := if h.tagged then h.pcpTag else c.rf rMAC_CTRL p 0 16 14

/-- The frame as it stands in the FIFO. -/
def Chip.rxFrame (c : Chip) (p : Nat) (w : WireFrame) (h : Hdr) (lim : Nat) : RxFrame :=
  { bytes := w.bytes.take lim, fcs := !w.fcsOk, runt := decide (w.bytes.length + 4 < 64), oversize := decide (lim < w.bytes.length + 4), code := !w.codeOk
    lenerr := lenErr h w.bytes.length, ts := c.rxStamp p w.sfd, queue := c.steer p h (c.rxPcp p h), cls := c.qClass p (c.steer p h (c.rxPcp p h))
    pcp := c.rxPcp p h, pm := if (h.da.getD 0 0).getLsbD 0 && h.da != List.replicate 6 0xFF then c.pmFind p h.da else none, hidx := hashIdx h.da }

/-- A flow-control frame with its faults counted. -/
def Chip.rxControl (c : Chip) (p : Nat) (w : WireFrame) (h : Hdr) (f : RxFrame) : Chip :=
  if f.fcs || f.runt || f.oversize || f.code then c else
    match pauseOf w.bytes (if h.tagged then 18 else 14) with
    | some x => (c.macCnt p 12).setMac p { (c.macCnt p 12).mac p with pauseIn := (c.mac p).pauseIn ++ [x] }
    | none => c

/-- A frame that is counted, judged by R75 and R76 and passed on. -/
def Chip.rxTaken (c : Chip) (p : Nat) (w : WireFrame) (h : Hdr) (lim : Nat) : Chip :=
  if !c.vlanAccept p h then (if h.tagged || h.tpid88a8 then c.macCnt p 9 else c)
  else if h.etype = 0x86DD then c.macCnt p 10
  else if h.etype = 0x8808 then (c.cntFlags p (c.rxFrame p w h lim)).rxControl p w h (c.rxFrame p w h lim)
  else (c.cntFlags p (c.rxFrame p w h lim)).rxPass p h (c.rxFrame p w h lim)

/-- The size limit of a frame with header `h`. -/
def Chip.rxLimit (c : Chip) (p : Nat) (h : Hdr) : Nat := c.maxLen p (h.tagged || h.tpid88a8)

section Branches

variable {w : WireFrame} {h : Hdr} {lim : Nat} {f : RxFrame}

theorem counted_rxFrame (hp : p < 3) (hs : SameRegs (cntRegs p) c d) (hh : h.dscp < 64) : d.rxFrame p w h lim = c.rxFrame p w h lim := by
  have hpcp : d.rxPcp p h = c.rxPcp p h := by rw [Chip.rxPcp, Chip.rf, counted_ctrl hp hs, ← Chip.rf, ← Chip.rxPcp]
  rw [Chip.rxFrame, hpcp, counted_rxStamp hp hs, counted_steer hp hs hh, counted_qClass hp hs, counted_pmFind hp hs, ← Chip.rxFrame]

theorem frameRx_of_down (hlink : c.link p = false) : c.frameRx p w = c := if_pos (by simp [hlink])

theorem frameRx_of_missed (halive : c.alive (macDom p) = true) (hlink : c.link p = true) (hda : c.daAccept p (parseHdr w.bytes).da = false) :
    c.frameRx p w = c.macCnt p 8 := (if_neg (by simp [halive, hlink])).trans (if_pos (by simp [hda]))

theorem frameRx_of_accepted (halive : c.alive (macDom p) = true) (hlink : c.link p = true) (hda : c.daAccept p (parseHdr w.bytes).da = true) :
    c.frameRx p w = (c.rxCounted p w (c.rxLimit p (parseHdr w.bytes))).rxTaken p w (parseHdr w.bytes) (c.rxLimit p (parseHdr w.bytes)) :=
  (if_neg (by simp [halive, hlink])).trans (if_neg (by simp [hda]))

theorem rxTaken_of_refused (hv : c.vlanAccept p h = false) : c.rxTaken p w h lim = if h.tagged || h.tpid88a8 then c.macCnt p 9 else c :=
  if_pos (by simp [hv])

theorem rxTaken_of_ipv6 (hv : c.vlanAccept p h = true) (ht : h.etype = 0x86DD) : c.rxTaken p w h lim = c.macCnt p 10 :=
  (if_neg (by simp [hv])).trans (if_pos ht)

theorem rxTaken_of_control (hv : c.vlanAccept p h = true) (ht : h.etype = 0x8808) : c.rxTaken p w h lim
    = (c.cntFlags p (c.rxFrame p w h lim)).rxControl p w h (c.rxFrame p w h lim) :=
  (if_neg (by simp [hv])).trans ((if_neg (by simp [ht])).trans (if_pos ht))

theorem rxTaken_of_passed (hv : c.vlanAccept p h = true) (h6 : h.etype ≠ 0x86DD) (h8 : h.etype ≠ 0x8808) : c.rxTaken p w h lim
    = (c.cntFlags p (c.rxFrame p w h lim)).rxPass p h (c.rxFrame p w h lim) :=
  (if_neg (by simp [hv])).trans ((if_neg h6).trans (if_neg h8))

theorem rxControl_of_fault (hf : (f.fcs || f.runt || f.oversize || f.code) = true) : c.rxControl p w h f = c := if_pos hf

theorem rxControl_of_other (hn : pauseOf w.bytes (if h.tagged then 18 else 14) = none) : c.rxControl p w h f = c := by
  rw [Chip.rxControl, hn, ite_self]

theorem rxControl_of_good {x : PauseIn} (hf : (f.fcs || f.runt || f.oversize || f.code) = false)
    (hx : pauseOf w.bytes (if h.tagged then 18 else 14) = some x) :
    c.rxControl p w h f = (c.macCnt p 12).setMac p { c.mac p with pauseIn := (c.mac p).pauseIn ++ [x] } := by
  rw [Chip.rxControl, hf, if_neg Bool.false_ne_true, hx]
  rfl

/-- A class-3 frame that the urgent parser takes (R83). -/
def Chip.cueHere (c : Chip) (p : Nat) (h : Hdr) (f : RxFrame) : Bool :=
  decide (f.cls = 3) && decide (p ≤ 1) && c.rb rURG_CTRL p 0 31 && isDlc h

/-- The queue a frame passes under (R83). -/
def Chip.rxQueue (c : Chip) (p : Nat) (f : RxFrame) : Option Nat := if f.cls = 3 then c.spillQueue p else some f.queue

theorem counted_cueHere (hp : p < 3) (hs : SameRegs (cntRegs p) c d) : d.cueHere p h f = c.cueHere p h f := by
  rw [Chip.cueHere, counted_urgent hp hs, ← Chip.cueHere]

theorem counted_rxQueue (hp : p < 3) (hs : SameRegs (cntRegs p) c d) : d.rxQueue p f = c.rxQueue p f := by
  rw [Chip.rxQueue, counted_spillQueue hp hs, ← Chip.rxQueue]

theorem rxPass_of_cue (hc : c.cueHere p h f = true) : c.rxPass p h f = c.setMac p { c.mac p with dlcIn := (c.mac p).dlcIn ++ [f] } := if_pos hc

theorem rxPass_of_none (hc : c.cueHere p h f = false) (hq : c.rxQueue p f = none) : c.rxPass p h f = c.macCnt p 8 := by
  unfold Chip.rxQueue at hq
  rw [Chip.rxPass, ← Chip.cueHere, hc, if_neg Bool.false_ne_true, hq]

theorem rxPass_of_full {q : Nat} (hc : c.cueHere p h f = false) (hq : c.rxQueue p f = some q) (hfull : 65536 < (c.mac p).held + f.bytes.length) :
    c.rxPass p h f = ((c.macCnt p 11).wb rMAC_STATUS p 0 6 true).macFault p 0x23 := by
  unfold Chip.rxQueue at hq
  rw [Chip.rxPass, ← Chip.cueHere, hc, if_neg Bool.false_ne_true, hq]
  exact if_pos hfull

theorem rxPass_of_room {q : Nat} (hc : c.cueHere p h f = false) (hq : c.rxQueue p f = some q) (hroom : (c.mac p).held + f.bytes.length ≤ 65536) :
    c.rxPass p h f = c.setMac p { c.mac p with rxq := (c.mac p).rxq ++ [{ f with queue := q, cls := c.qClass p q }] } := by
  unfold Chip.rxQueue at hq
  rw [Chip.rxPass, ← Chip.cueHere, hc, if_neg Bool.false_ne_true, hq]
  exact if_neg (Nat.not_lt.mpr hroom)

end Branches

end

end Sys2Proof.Machine

/-! SUPPORT. FRAME_RECEIVE as a command (spec/03 R72..R85, R106, R107). -/

namespace Sys2Proof.Machine

section

variable {s : State} {a c d : Chip} {p : Nat} {w : WireFrame} {h : Hdr} {lim : Nat} {f : RxFrame}

theorem settled_mac (c : Chip) (p : Nat) : (settle c).mac p = c.mac p := .trans rfl rfl

/-- What an update of the port's state leaves at the command's end, the bytes counted read back from it. -/
theorem Chip.MacStep.leaves {m n : Mac} {rs : List Nat} (hs : Chip.MacStep p m rs a d)
    (hm : m = { n with rxBytes := m.rxBytes }) :
    (settle d).rest = { a.rest with macs := mset ({} : Mac) a.macs p { n with rxBytes := ((settle d).mac p).rxBytes } } ∧ Frame rs [] a (settle d) := by
  refine ⟨?_, hs.frame⟩
  rw [settled_mac, hs.mac, ← hm, rest_settle, hs.rest]

/-! ## The port's fault (R107) -/

theorem faultIrq_edge (hp : p < 3) : 35 + 4 * p < 224 ∧ 35 + 4 * p ∉ levelSources := by
  revert p; decide

/-- A fault of the port on top of an update of its state. -/
theorem macFault_after {m : Mac} {rs : List Nat} {code : Nat} (hp : p < 3) (hs : Chip.MacStep p m rs a d) (hr : rERR_CTRL.addr 0 0 ∉ rs) :
    (settle (d.macFault p code)).rest = { a.rest with macs := mset ({} : Mac) a.macs p m, err := (settle (d.macFault p code)).err }
    ∧ Reports (2 + p) code a (settle (d.macFault p code)) ∧ (settle (d.macFault p code)).irqs.getLsbD (35 + 4 * p) = true
    ∧ Frame (rs ++ logRegs (2 + p)) [35 + 4 * p, 209] a (settle (d.macFault p code)) := by
  have hrest : d.Keeps reportless (logRegs (2 + p)) [35 + 4 * p, 209] (d.macFault p code) :=
    .irq (.log .refl (fun _ _ => rfl) (fun _ h => h) (by simp)) (by simp)
  have hplain : a.Keeps (fun _ => ()) (rs ++ logRegs (2 + p)) [35 + 4 * p, 209] d :=
    ⟨hs.regs.mono fun _ => List.mem_append_left _, .of_irqs hs.irqs, rfl⟩
  refine ⟨?_, (Reports.log (2 + p) code _ (hs.regs.rd hr).symm hs.err (by omega)).irq (35 + 4 * p),
    settled_irq_raised (faultIrq_edge hp).1 (faultIrq_edge hp).2,
    (hplain.trans (hrest.plain.mono (fun _ => List.mem_append_right _) fun _ h => h)).frame⟩
  rw [rest_settle, rest_of_reportless hrest.sameView, hs.rest]
  rfl

/-! ## A frame not lost to the filters is counted (R74, R106) -/

/-- MAC `p` with the bytes of a frame counted. -/
def Chip.rxMac (c : Chip) (p : Nat) (w : WireFrame) (lim : Nat) : Mac :=
  { c.mac p with rxBytes := ((c.mac p).rxBytes + min (w.bytes.length + 4) lim) % 2 ^ 64 }

theorem rxCounted_step (c : Chip) (p : Nat) (w : WireFrame) (lim : Nat) :
    Chip.MacStep p (c.rxMac p w lim) [rMAC_CNT.addr p 0] c (c.rxCounted p w lim) := by
  have hcnt : SameRegs [rMAC_CNT.addr p 0] c (c.macCnt p 0) := .wr (.refl _ c) _ (by simp)
  exact ⟨hcnt.setMac p _, rfl, rfl⟩

theorem rxCounted_count (c : Chip) (p : Nat) (w : WireFrame) (lim k : Nat) :
    (c.rxCounted p w lim).rd rMAC_CNT p k = c.rd rMAC_CNT p k + if k = 0 then 1 else 0 := macCnt_count c p 0 k

theorem rxCounted_counted (c : Chip) (p : Nat) (w : WireFrame) (lim : Nat) : SameRegs (cntRegs p) c (c.rxCounted p w lim) :=
  (rxCounted_step c p w lim).regs.mono (List.forall_mem_singleton.mpr (List.mem_map_of_mem (List.mem_range.mpr (by decide))))

/-- The bytes counted at the port. -/
def rxView (p : Nat) (r : Chip) : Nat := (r.mac p).rxBytes

/-- The frame of what comes after a frame is counted. -/
abbrev Chip.KeepsRx (p : Nat) (rs : List Nat) (c d : Chip) : Prop := c.Keeps (rxView p) rs [35 + 4 * p, 209] d

/-- The registers that the passing of a frame can change, and those that any frame counted still can. -/
def passRegs (p : Nat) : List Nat := [rMAC_CNT.addr p 8, rMAC_CNT.addr p 11, rMAC_STATUS.addr p 0] ++ logRegs (2 + p)
def takenRegs (p : Nat) : List Nat := [3, 4, 5, 6, 7, 9, 10, 12].map (rMAC_CNT.addr p) ++ passRegs p

theorem KeepsRx.setMac {rs : List Nat} (hs : Chip.KeepsRx p rs a c) {m : Mac} (hm : m.rxBytes = (c.mac p).rxBytes) : Chip.KeepsRx p rs a (c.setMac p m) :=
  .of_eq hs rfl rfl ((congrArg Mac.rxBytes (mget_mset_same ..)).trans hm)

theorem cntFlags_taken (c : Chip) (p : Nat) (f : RxFrame) : Chip.KeepsRx p (takenRegs p) c (c.cntFlags p f) := by
  have hcnt : ∀ {e : Chip} {j : Nat} {b : Bool}, j ∈ [3, 4, 5, 6, 7, 9, 10, 12] → Chip.KeepsRx p (takenRegs p) c e →
      Chip.KeepsRx p (takenRegs p) c (if b then e.macCnt p j else e) := fun hj he => .ite (he.wr _ (List.mem_append_left _ (List.mem_map_of_mem hj))) he
  exact hcnt (by simp) (hcnt (by simp) (hcnt (by simp) (hcnt (by simp) (hcnt (by simp) .refl))))

theorem rxPass_passed (c : Chip) (p : Nat) (h : Hdr) (f : RxFrame) : Chip.KeepsRx p (passRegs p) c (c.rxPass p h f) := by
  have hself : Chip.KeepsRx p (passRegs p) c c := .refl
  have hcnt : ∀ j, rMAC_CNT.addr p j ∈ passRegs p → Chip.KeepsRx p (passRegs p) c (c.macCnt p j) := fun _ hj => hself.wr _ hj
  have hfull := (hcnt 11 (by simp [passRegs])).wb (r := rMAC_STATUS) (i := p) (j := 0) 6 true (by simp [passRegs])
  have hlogged := hfull.log (src := 2 + p) (code := 0x23) (x := Config.freeWord ((c.macCnt p 11).wb rMAC_STATUS p 0 6 true).cyc 0x23) (fun _ _ => rfl)
    (fun _ => List.mem_append_right _) (by simp)
  unfold Chip.rxPass
  refine .ite (KeepsRx.setMac hself rfl) ?_
  split
  · exact hcnt 8 (by simp [passRegs])
  · exact .ite (hlogged.irq (n := 35 + 4 * p) (by simp)) (KeepsRx.setMac hself rfl)

theorem rxControl_taken (c : Chip) (p : Nat) (w : WireFrame) (h : Hdr) (f : RxFrame) : Chip.KeepsRx p (takenRegs p) c (c.rxControl p w h f) := by
  have hcnt : Chip.KeepsRx p (takenRegs p) c (c.macCnt p 12) := .wr .refl _ (List.mem_append_left _ (List.mem_map_of_mem (by simp)))
  unfold Chip.rxControl
  refine .ite .refl ?_
  split
  · exact KeepsRx.setMac hcnt rfl
  · exact .refl

theorem rxTaken_taken (c : Chip) (p : Nat) (w : WireFrame) (h : Hdr) (lim : Nat) : Chip.KeepsRx p (takenRegs p) c (c.rxTaken p w h lim) := by
  have hcnt : ∀ j ∈ [3, 4, 5, 6, 7, 9, 10, 12], Chip.KeepsRx p (takenRegs p) c (c.macCnt p j) := fun _ hj =>
    .wr .refl _ (List.mem_append_left _ (List.mem_map_of_mem hj))
  refine .ite (.ite (hcnt 9 (by simp)) .refl) (.ite (hcnt 10 (by simp)) (.ite ?_ ?_))
  · exact (cntFlags_taken ..).trans (rxControl_taken ..)
  · exact (cntFlags_taken ..).trans ((rxPass_passed ..).mono (fun _ => List.mem_append_right _) fun _ h => h)

end

section Commands

variable {s : State} {p : Fin 3} {f : WireFrame} {h : Hdr}

theorem does_frameReceive_down (hlink : s.chip.link p = false) : Does s (exec (.frameReceive p f) s) fun c => c.rest = s.chip.rest ∧ Frame [] [] s.chip c :=
  does_eq (frameRx_of_down (c := s.chip.counted) hlink) (quiet s.chip)

theorem does_frameReceive_missed (halive : s.chip.alive (macDom p) = true) (hlink : s.chip.link p = true)
    (hda : s.chip.daAccept p (parseHdr f.bytes).da = false) : Does s (exec (.frameReceive p f) s) fun c =>
      c.rest = s.chip.rest ∧ c.rd rMAC_CNT p 8 = s.chip.rd rMAC_CNT p 8 + 1 ∧ Frame [rMAC_CNT.addr p 8] [] s.chip c := by
  have hcnt : s.chip.counted.Keeps id [rMAC_CNT.addr p 8] [] (s.chip.counted.macCnt p 8) := .wr .refl _ (by simp)
  exact does_eq (frameRx_of_missed (c := s.chip.counted) halive hlink hda) ⟨hcnt.sameView, Chip.rd_wr_same .., hcnt.frame⟩

/-- A frame that a filter accepts, on a port with LINK. -/
theorem does_frameReceive {P : Chip → Prop} {w : Chip} (halive : s.chip.alive (macDom p) = true) (hlink : s.chip.link p = true)
    (hda : s.chip.daAccept p (parseHdr f.bytes).da = true)
    (hw : (s.chip.counted.rxCounted p f (s.chip.rxLimit p (parseHdr f.bytes))).rxTaken p f (parseHdr f.bytes) (s.chip.rxLimit p (parseHdr f.bytes)) = w)
    (hP : P (settle w)) : Does s (exec (.frameReceive p f) s) P :=
  does_eq ((frameRx_of_accepted (c := s.chip.counted) halive hlink hda).trans hw) hP

theorem does_frameReceive_counted (halive : s.chip.alive (macDom p) = true) (hlink : s.chip.link p = true)
    (hda : s.chip.daAccept p (parseHdr f.bytes).da = true) : Does s (exec (.frameReceive p f) s) fun c =>
      c.rd rMAC_CNT p 0 = s.chip.rd rMAC_CNT p 0 + 1
      ∧ (c.mac p).rxBytes = ((s.chip.mac p).rxBytes + min (f.bytes.length + 4) (s.chip.maxLen p ((parseHdr f.bytes).tagged || (parseHdr f.bytes).tpid88a8))) % 2 ^ 64 := by
  have hout : ∀ p < 3, rMAC_CNT.addr p 0 ∉ takenRegs p := by decide
  have hcount := rxCounted_count s.chip.counted p f (s.chip.rxLimit p (parseHdr f.bytes)) 0
  have hmac := (rxCounted_step s.chip.counted p f (s.chip.rxLimit p (parseHdr f.bytes))).mac
  refine does_frameReceive halive hlink hda rfl ?_
  generalize s.chip.counted.rxCounted p f (s.chip.rxLimit p (parseHdr f.bytes)) = d at *
  have htaken := rxTaken_taken d p f (parseHdr f.bytes) (s.chip.rxLimit p (parseHdr f.bytes))
  exact ⟨(htaken.rd (hout p p.isLt)).trans hcount, (show _ = rxView p d.rest from htaken.sameView).trans (congrArg Mac.rxBytes hmac)⟩

/-- After a frame is counted the rules and maps it meets are those that stood. -/
theorem counted_rules (hh : h = parseHdr f.bytes) (lim : Nat) : SameRegs (cntRegs p) s.chip (s.chip.counted.rxCounted p f lim)
    ∧ (s.chip.counted.rxCounted p f lim).vlanAccept p h = s.chip.vlanAccept p h
    ∧ (s.chip.counted.rxCounted p f lim).rxFrame p f h lim = s.chip.rxFrame p f h lim := by
  have hregs : SameRegs (cntRegs p) s.chip (s.chip.counted.rxCounted p f lim) := rxCounted_counted s.chip.counted p f lim
  exact ⟨hregs, counted_vlanAccept p.isLt hregs h, counted_rxFrame p.isLt hregs (hh ▸ parseHdr_dscp _)⟩

theorem does_frameReceive_refused (halive : s.chip.alive (macDom p) = true) (hlink : s.chip.link p = true) (hh : h = parseHdr f.bytes)
    (hda : s.chip.daAccept p h.da = true) (hv : s.chip.vlanAccept p h = false) : Does s (exec (.frameReceive p f) s) fun c =>
      c.rd rMAC_CNT p 9 = s.chip.rd rMAC_CNT p 9 + (if h.tagged = true ∨ h.tpid88a8 = true then 1 else 0)
      ∧ c.rest = { s.chip.rest with macs := mset ({} : Mac) s.chip.macs p { s.chip.mac p with rxBytes := (c.mac p).rxBytes } }
      ∧ Frame [rMAC_CNT.addr p 0, rMAC_CNT.addr p 9] [] s.chip c := by
  subst hh
  obtain ⟨-, hrule, -⟩ := counted_rules (s := s) (p := p) (f := f) rfl (s.chip.rxLimit p (parseHdr f.bytes))
  refine does_frameReceive halive hlink hda (rxTaken_of_refused (hrule.trans hv)) ?_
  have hstep : Chip.MacStep p (s.chip.counted.rxMac p f (s.chip.rxLimit p (parseHdr f.bytes))) [rMAC_CNT.addr p 0, rMAC_CNT.addr p 9] s.chip.counted
      (s.chip.counted.rxCounted p f (s.chip.rxLimit p (parseHdr f.bytes))) := (rxCounted_step ..).mono (by simp)
  have hcount := rxCounted_count s.chip.counted p f (s.chip.rxLimit p (parseHdr f.bytes)) 9
  generalize s.chip.counted.rxCounted p f (s.chip.rxLimit p (parseHdr f.bytes)) = d at *
  have hjudged := hstep.cntIf (b := (parseHdr f.bytes).tagged || (parseHdr f.bytes).tpid88a8) (j := 9) fun _ => by simp
  refine ⟨?_, hjudged.leaves (n := s.chip.mac p) rfl⟩
  rw [rd_settle, cntIf_count, hcount]
  simp

theorem does_frameReceive_ipv6 (halive : s.chip.alive (macDom p) = true) (hlink : s.chip.link p = true) (hh : h = parseHdr f.bytes)
    (hda : s.chip.daAccept p h.da = true) (hv : s.chip.vlanAccept p h = true) (ht : h.etype = 0x86DD) : Does s (exec (.frameReceive p f) s) fun c =>
      c.rd rMAC_CNT p 10 = s.chip.rd rMAC_CNT p 10 + 1
      ∧ c.rest = { s.chip.rest with macs := mset ({} : Mac) s.chip.macs p { s.chip.mac p with rxBytes := (c.mac p).rxBytes } }
      ∧ Frame [rMAC_CNT.addr p 0, rMAC_CNT.addr p 10] [] s.chip c := by
  subst hh
  obtain ⟨-, hrule, -⟩ := counted_rules (s := s) (p := p) (f := f) rfl (s.chip.rxLimit p (parseHdr f.bytes))
  refine does_frameReceive halive hlink hda (rxTaken_of_ipv6 (hrule.trans hv) ht) ?_
  have hstep : Chip.MacStep p (s.chip.counted.rxMac p f (s.chip.rxLimit p (parseHdr f.bytes))) [rMAC_CNT.addr p 0, rMAC_CNT.addr p 10] s.chip.counted
      (s.chip.counted.rxCounted p f (s.chip.rxLimit p (parseHdr f.bytes))) := (rxCounted_step ..).mono (by simp)
  have hcount := rxCounted_count s.chip.counted p f (s.chip.rxLimit p (parseHdr f.bytes)) 10
  generalize s.chip.counted.rxCounted p f (s.chip.rxLimit p (parseHdr f.bytes)) = d at *
  have hjudged := hstep.cnt (j := 10) (by simp)
  refine ⟨?_, hjudged.leaves (n := s.chip.mac p) rfl⟩
  rw [rd_settle, macCnt_count, hcount]
  simp

/-- The frame a statement writes out is the one the model makes. -/
theorem rxFrame_spelt {pcp lim : Nat} (c : Chip) (hpcp : pcp = if h.tagged = true then h.pcpTag else c.rf rMAC_CTRL p 0 16 14) : c.rxFrame p f h lim
    = { bytes := f.bytes.take lim, fcs := !f.fcsOk, runt := decide (f.bytes.length + 4 < 64), oversize := decide (lim < f.bytes.length + 4), code := !f.codeOk,
        lenerr := lenErr h f.bytes.length, ts := c.rxStamp p f.sfd, queue := c.steer p h pcp, cls := c.qClass p (c.steer p h pcp), pcp := pcp,
        pm := if (h.da.getD 0 0).getLsbD 0 = true ∧ h.da ≠ List.replicate 6 0xFF then c.pmFind p h.da else none, hidx := hashIdx h.da } := by
  have hpm : (if (h.da.getD 0 0).getLsbD 0 = true ∧ h.da ≠ List.replicate 6 0xFF then c.pmFind p h.da else none)
      = if ((h.da.getD 0 0).getLsbD 0 && h.da != List.replicate 6 0xFF) = true then c.pmFind p h.da else none :=
    if_congr (by rw [Bool.and_eq_true, bne_iff_ne]) rfl rfl
  rw [hpm, hpcp]
  rfl

/-! ## A frame that passes (R79, R83..R85) -/

/-- A frame that passes, with its faults counted. -/
def Chip.rxFlagged (c : Chip) (p : Nat) (w : WireFrame) (lim : Nat) (x : RxFrame) : Chip := (c.rxCounted p w lim).cntFlags p x

theorem rxFlagged_step (c : Chip) (p : Nat) (w : WireFrame) (lim : Nat) (x : RxFrame) {rs : List Nat}
    (hr : ∀ j ∈ [0, 3, 4, 5, 6], rMAC_CNT.addr p j ∈ rs) (h7 : x.lenerr = true → rMAC_CNT.addr p 7 ∈ rs) :
    Chip.MacStep p (c.rxMac p w lim) rs c (c.rxFlagged p w lim x) :=
  ((rxCounted_step ..).mono (List.forall_mem_singleton.mpr (hr 0 (by simp)))).cntFlags (fun j hj => hr j (List.mem_cons_of_mem _ hj)) h7

/-- The same of any frame. -/
theorem rxFlagged_any (c : Chip) (p : Nat) (w : WireFrame) (lim : Nat) (x : RxFrame) {rs : List Nat} (hr : ∀ j ∈ [0, 3, 4, 5, 6, 7], rMAC_CNT.addr p j ∈ rs) :
    Chip.MacStep p (c.rxMac p w lim) rs c (c.rxFlagged p w lim x) :=
  rxFlagged_step c p w lim x (fun j hj => hr j (List.mem_append_left [7] hj)) fun _ => hr 7 (by simp)

theorem rxFlagged_count (c : Chip) (p : Nat) (w : WireFrame) (lim : Nat) (x : RxFrame) :
    ∀ k ∈ [(3, x.fcs), (4, x.runt), (5, x.oversize), (6, x.code), (7, x.lenerr)],
      (c.rxFlagged p w lim x).rd rMAC_CNT p k.1 = c.rd rMAC_CNT p k.1 + if k.2 = true then 1 else 0 := by
  intro k hk
  have hne : k.1 ≠ 0 := by
    revert k
    simp
  rw [Chip.rxFlagged, cntFlags_count _ _ _ _ hk, rxCounted_count, if_neg hne]
  congr 1
  exact BitVec.add_zero _

theorem rxFlagged_other (c : Chip) (p : Nat) (w : WireFrame) (lim : Nat) (x : RxFrame) {k : Nat} (hk : k ∉ [0, 3, 4, 5, 6, 7]) :
    (c.rxFlagged p w lim x).rd rMAC_CNT p k = c.rd rMAC_CNT p k := by
  refine (rxFlagged_any c p w lim x (rs := [0, 3, 4, 5, 6, 7].map (rMAC_CNT.addr p)) fun _ => List.mem_map_of_mem).regs.rd fun hm => hk ?_
  obtain ⟨j, hj, he⟩ := List.mem_map.mp hm
  rwa [← macCnt_inj.mp he]

theorem errCtrl_not_port {p : Nat} (hp : p < 3) : rERR_CTRL.addr 0 0 ∉ [0, 3, 4, 5, 6, 7, 11].map (rMAC_CNT.addr p) ++ [rMAC_STATUS.addr p 0] := by
  revert p; decide

theorem macFault_mac (c : Chip) (p q code : Nat) : (c.macFault p code).mac q = c.mac q := by
  rw [Chip.macFault, Chip.mac, Chip.irq_macs, Chip.log_macs, ← Chip.mac]

/-- A frame that finds the FIFO full is counted in word 11 and shown. -/
theorem overflow_shown (c : Chip) {p : Nat} (hp : p < 3) :
    (settle (((c.macCnt p 11).wb rMAC_STATUS p 0 6 true).macFault p 0x23)).rd rMAC_CNT p 11 = c.rd rMAC_CNT p 11 + 1
    ∧ (settle (((c.macCnt p 11).wb rMAC_STATUS p 0 6 true).macFault p 0x23)).rb rMAC_STATUS p 0 6 = true := by
  refine ⟨?_, ?_⟩
  · rw [rd_settle, Chip.macFault, Chip.rd_irq, macSrc, Chip.rd_log_other (macCnt_not_logged hp (by decide)), Chip.wb,
      Chip.rd_wr_other _ _ (macCnt_ne_status hp (by decide)), macCnt_count, if_pos rfl]
  · rw [Chip.rb, rd_settle, Chip.macFault, Chip.rd_irq, macSrc, Chip.rd_log_other (macStatus_not_logged hp), ← Chip.rb]
    exact Chip.rb_wb_same _ (by decide)

/-- A frame that passes, of any other type than flow control. -/
theorem does_frameReceive_passed {P : Chip → Prop} {lim : Nat} {x : RxFrame} (halive : s.chip.alive (macDom p) = true) (hlink : s.chip.link p = true)
    (hh : h = parseHdr f.bytes) (hda : s.chip.daAccept p h.da = true) (hv : s.chip.vlanAccept p h = true) (h6 : h.etype ≠ 0x86DD)
    (h8 : h.etype ≠ 0x8808) (hlim : lim = s.chip.rxLimit p h) (hx : x = s.chip.rxFrame p f h lim)
    (hP : P (settle ((s.chip.counted.rxFlagged p f lim x).rxPass p h x))) : Does s (exec (.frameReceive p f) s) P := by
  subst hh hlim hx
  obtain ⟨-, hrule, hframe⟩ := counted_rules (s := s) (p := p) (f := f) rfl (s.chip.rxLimit p (parseHdr f.bytes))
  refine does_frameReceive halive hlink hda (rxTaken_of_passed (hrule.trans hv) h6 h8) ?_
  rw [hframe]
  exact hP

/-- The parts of a MAC that a frame passed on meets. -/
structure RxMeets (p : Nat) (h : Hdr) (x : RxFrame) (m : Mac) (c e : Chip) : Prop where
  mac : e.mac p = m
  cue : e.cueHere p h x = c.cueHere p h x
  queue : e.rxQueue p x = c.rxQueue p x
  class_ : ∀ q, e.qClass p q = c.qClass p q

theorem rxFlagged_meets (hp : p.val < 3) (c : Chip) (lim : Nat) (x : RxFrame) : RxMeets p h x (c.rxMac p f lim) c (c.rxFlagged p f lim x) := by
  have hlt : ∀ j ∈ [0, 3, 4, 5, 6, 7], j ∈ List.range 21 := by decide
  have hstep := rxFlagged_any c p f lim x (rs := cntRegs p) fun j hj => List.mem_map_of_mem (hlt j hj)
  exact ⟨hstep.mac, counted_cueHere hp hstep.regs, counted_rxQueue hp hstep.regs, counted_qClass hp hstep.regs⟩

theorem does_frameReceive_frame {lim pcp : Nat} {x : RxFrame} {dlc : Bool} (halive : s.chip.alive (macDom p) = true) (hlink : s.chip.link p = true)
    (hh : h = parseHdr f.bytes) (hda : s.chip.daAccept p h.da = true) (hv : s.chip.vlanAccept p h = true) (h6 : h.etype ≠ 0x86DD) (h8 : h.etype ≠ 0x8808)
    (hlim : lim = s.chip.maxLen p (h.tagged || h.tpid88a8)) (hpcp : pcp = if h.tagged = true then h.pcpTag else s.chip.rf rMAC_CTRL p 0 16 14)
    (hx : x = { bytes := f.bytes.take lim, fcs := !f.fcsOk, runt := decide (f.bytes.length + 4 < 64), oversize := decide (lim < f.bytes.length + 4), code := !f.codeOk,
                lenerr := lenErr h f.bytes.length, ts := s.chip.rxStamp p f.sfd, queue := s.chip.steer p h pcp, cls := s.chip.qClass p (s.chip.steer p h pcp), pcp := pcp,
                pm := if (h.da.getD 0 0).getLsbD 0 = true ∧ h.da ≠ List.replicate 6 0xFF then s.chip.pmFind p h.da else none, hidx := hashIdx h.da })
    (hdlc : dlc = (decide (x.cls = 3) && decide (p.val ≤ 1) && s.chip.rb rURG_CTRL p 0 31 && isDlc h)) :
    Does s (exec (.frameReceive p f) s) fun c =>
      (∀ k ∈ [(3, x.fcs), (4, x.runt), (5, x.oversize), (6, x.code), (7, x.lenerr)],
          c.rd rMAC_CNT p k.1 = s.chip.rd rMAC_CNT p k.1 + (if k.2 = true then 1 else 0))
      ∧ (dlc = true → c.rest = { s.chip.rest with macs := mset ({} : Mac) s.chip.macs p { s.chip.mac p with rxBytes := (c.mac p).rxBytes, dlcIn := (s.chip.mac p).dlcIn ++ [x] } }
          ∧ Frame ([0, 3, 4, 5, 6, 7].map (rMAC_CNT.addr p)) [] s.chip c)
      ∧ (dlc = false → ∀ q ∈ (if x.cls = 3 then s.chip.spillQueue p else some x.queue),
          ((s.chip.mac p).held + x.bytes.length ≤ 65536 →
            c.rest = { s.chip.rest with macs := mset ({} : Mac) s.chip.macs p { s.chip.mac p with rxBytes := (c.mac p).rxBytes, rxq := (s.chip.mac p).rxq ++ [{ x with queue := q, cls := s.chip.qClass p q }] } }
            ∧ Frame ([0, 3, 4, 5, 6, 7].map (rMAC_CNT.addr p)) [] s.chip c)
          ∧ (65536 < (s.chip.mac p).held + x.bytes.length →
            c.rd rMAC_CNT p 11 = s.chip.rd rMAC_CNT p 11 + 1 ∧ c.rb rMAC_STATUS p 0 6 = true ∧ Reports (2 + p) 0x23 s.chip c ∧ c.irqs.getLsbD (35 + 4 * p) = true
            ∧ c.rest = { s.chip.rest with macs := mset ({} : Mac) s.chip.macs p { s.chip.mac p with rxBytes := (c.mac p).rxBytes }, err := c.err }
            ∧ Frame ([0, 3, 4, 5, 6, 7, 11].map (rMAC_CNT.addr p) ++ rMAC_STATUS.addr p 0 :: logRegs (2 + p)) [35 + 4 * p, 209] s.chip c))
      ∧ (dlc = false → x.cls = 3 → s.chip.spillQueue p = none →
          c.rd rMAC_CNT p 8 = s.chip.rd rMAC_CNT p 8 + 1
          ∧ c.rest = { s.chip.rest with macs := mset ({} : Mac) s.chip.macs p { s.chip.mac p with rxBytes := (c.mac p).rxBytes } }
          ∧ Frame ([0, 3, 4, 5, 6, 7, 8].map (rMAC_CNT.addr p)) [] s.chip c) := by
  rw [← rxFrame_spelt s.chip hpcp] at hx
  refine does_frameReceive_passed halive hlink hh hda hv h6 h8 hlim hx ?_
  have hcount := rxFlagged_count s.chip.counted p f lim x
  have hmeets := rxFlagged_meets (h := h) (f := f) p.isLt s.chip.counted lim x
  have h11 := rxFlagged_other s.chip.counted p f lim x (k := 11) (by decide)
  have h8c := rxFlagged_other s.chip.counted p f lim x (k := 8) (by decide)
  have hstep : ∀ l m : List Nat, (∀ j ∈ [0, 3, 4, 5, 6, 7], j ∈ l) → Chip.MacStep p (s.chip.counted.rxMac p f lim) (l.map (rMAC_CNT.addr p) ++ m)
      s.chip.counted (s.chip.counted.rxFlagged p f lim x) :=
    fun _ _ hl => rxFlagged_any s.chip.counted p f lim x fun j hj => List.mem_append_left _ (List.mem_map_of_mem (hl j hj))
  generalize s.chip.counted.rxFlagged p f lim x = e at *
  refine ⟨fun k hk => ?_, fun hcue => ?_, fun hcue q hq => ⟨fun hroom => ?_, fun hfull => ?_⟩, fun hcue hcls hnone => ?_⟩
  · have hout : ∀ p < 3, ∀ k ∈ [3, 4, 5, 6, 7], rMAC_CNT.addr p k ∉ passRegs p := by decide
    have hflag : k.1 ∈ [3, 4, 5, 6, 7] := List.mem_map_of_mem (f := Prod.fst) hk
    exact ((rxPass_passed e p h x).rd (hout p p.isLt _ hflag)).trans (hcount k hk)
  · rw [rxPass_of_cue (hmeets.cue.trans (hdlc.symm.trans hcue)), hmeets.mac]
    exact ((hstep [0, 3, 4, 5, 6, 7] [] fun _ h => h).setMac { s.chip.counted.rxMac p f lim with dlcIn := (s.chip.counted.rxMac p f lim).dlcIn ++ [x] }).leaves
      (n := { s.chip.mac p with dlcIn := (s.chip.mac p).dlcIn ++ [x] }) rfl
  · rw [rxPass_of_room (hmeets.cue.trans (hdlc.symm.trans hcue)) (hmeets.queue.trans hq) (by rw [hmeets.mac]; exact hroom), hmeets.mac, hmeets.class_]
    exact ((hstep [0, 3, 4, 5, 6, 7] [] fun _ h => h).setMac { s.chip.counted.rxMac p f lim with
      rxq := (s.chip.counted.rxMac p f lim).rxq ++ [{ x with queue := q, cls := s.chip.counted.qClass p q }] }).leaves
      (n := { s.chip.mac p with rxq := (s.chip.mac p).rxq ++ [{ x with queue := q, cls := s.chip.qClass p q }] }) rfl
  · rw [rxPass_of_full (hmeets.cue.trans (hdlc.symm.trans hcue)) (hmeets.queue.trans hq) (by rw [hmeets.mac]; exact hfull)]
    have hshown := ((hstep [0, 3, 4, 5, 6, 7, 11] [rMAC_STATUS.addr p 0] (by decide)).cnt (j := 11) (by simp)).wb
      (r := rMAC_STATUS) (i := p) (j := 0) 6 true (by simp)
    obtain ⟨h11', h6'⟩ := overflow_shown e p.isLt
    obtain ⟨hrest, hreport, hirq, hframe⟩ := macFault_after (code := 0x23) p.isLt hshown (errCtrl_not_port p.isLt)
    rw [h11] at h11'
    rw [List.append_assoc] at hframe
    refine ⟨h11', h6', hreport, hirq, ?_, hframe⟩
    rw [settled_mac, macFault_mac, hshown.mac, hrest]
    rfl
  · rw [rxPass_of_none (hmeets.cue.trans (hdlc.symm.trans hcue)) (hmeets.queue.trans ((if_pos hcls).trans hnone))]
    have hpassed := (hstep [0, 3, 4, 5, 6, 7, 8] [] (by decide)).cnt (j := 8) (by simp)
    refine ⟨?_, hpassed.leaves rfl⟩
    rw [rd_settle, macCnt_count, h8c]
    rfl

/-! ## Flow control received (R85, R95) -/

/-- A flow-control frame has a type, and so no length to be wrong. -/
theorem lenErr_of_control (ht : h.etype = 0x8808) (n : Nat) : lenErr h n = false := by
  rw [lenErr, ht]
  rfl

/-- A flow-control frame is good where none of its faults is flagged. -/
theorem rxFrame_good (c : Chip) (p lim : Nat) : ((c.rxFrame p f h lim).fcs || (c.rxFrame p f h lim).runt || (c.rxFrame p f h lim).oversize || (c.rxFrame p f h lim).code)
    = !(f.fcsOk && f.codeOk && decide (60 ≤ f.bytes.length) && decide (f.bytes.length + 4 ≤ lim)) := by
  have hrunt : decide (f.bytes.length + 4 < 64) = !decide (60 ≤ f.bytes.length) := by
    rw [← decide_not]
    exact decide_eq_decide.mpr (by omega)
  have hover : decide (lim < f.bytes.length + 4) = !decide (f.bytes.length + 4 ≤ lim) := by
    rw [← decide_not]
    exact decide_eq_decide.mpr (by omega)
  simp only [Chip.rxFrame, hrunt, hover]
  cases f.fcsOk <;> cases f.codeOk <;> simp

theorem does_frameReceive_control {good : Bool} (halive : s.chip.alive (macDom p) = true) (hlink : s.chip.link p = true) (hh : h = parseHdr f.bytes)
    (hda : s.chip.daAccept p h.da = true) (hv : s.chip.vlanAccept p h = true) (ht : h.etype = 0x8808)
    (hgood : good = (f.fcsOk && f.codeOk && decide (60 ≤ f.bytes.length) && decide (f.bytes.length + 4 ≤ s.chip.maxLen p (h.tagged || h.tpid88a8)))) :
    Does s (exec (.frameReceive p f) s) fun c =>
      (good = true → ∀ y ∈ pauseOf f.bytes (if h.tagged = true then 18 else 14),
          c.rest = { s.chip.rest with macs := mset ({} : Mac) s.chip.macs p { s.chip.mac p with rxBytes := (c.mac p).rxBytes, pauseIn := (s.chip.mac p).pauseIn ++ [y] } }
          ∧ c.rd rMAC_CNT p 12 = s.chip.rd rMAC_CNT p 12 + 1)
      ∧ (good = false ∨ pauseOf f.bytes (if h.tagged = true then 18 else 14) = none →
          c.rest = { s.chip.rest with macs := mset ({} : Mac) s.chip.macs p { s.chip.mac p with rxBytes := (c.mac p).rxBytes } }
          ∧ c.rd rMAC_CNT p 12 = s.chip.rd rMAC_CNT p 12)
      ∧ Frame ([0, 3, 4, 5, 6, 12].map (rMAC_CNT.addr p)) [] s.chip c := by
  obtain ⟨-, hrule, hframe⟩ := counted_rules (s := s) (p := p) (f := f) hh (s.chip.rxLimit p h)
  have hbad := rxFrame_good (f := f) (h := h) s.chip p (s.chip.rxLimit p h)
  have hlen : (s.chip.rxFrame p f h (s.chip.rxLimit p h)).lenerr = false := lenErr_of_control ht _
  have h12 := rxFlagged_other s.chip.counted p f (s.chip.rxLimit p h) (s.chip.rxFrame p f h (s.chip.rxLimit p h)) (k := 12) (by decide)
  have hstep := rxFlagged_step s.chip.counted p f (s.chip.rxLimit p h) (s.chip.rxFrame p f h (s.chip.rxLimit p h))
    (rs := [0, 3, 4, 5, 6, 12].map (rMAC_CNT.addr p)) (fun j hj => List.mem_map_of_mem (by revert j; decide)) (by simp [hlen])
  have hw : (s.chip.counted.rxCounted p f (s.chip.rxLimit p h)).rxTaken p f h (s.chip.rxLimit p h)
      = (s.chip.counted.rxFlagged p f (s.chip.rxLimit p h) (s.chip.rxFrame p f h (s.chip.rxLimit p h))).rxControl p f h (s.chip.rxFrame p f h (s.chip.rxLimit p h)) := by
    rw [rxTaken_of_control (hrule.trans hv) ht, hframe]
    rfl
  subst hh
  refine does_frameReceive halive hlink hda hw ?_
  generalize s.chip.rxFrame p f (parseHdr f.bytes) (s.chip.rxLimit p (parseHdr f.bytes)) = x at *
  generalize s.chip.counted.rxFlagged p f (s.chip.rxLimit p (parseHdr f.bytes)) x = e at *
  have hquiet : (settle e).rest = { s.chip.rest with macs := mset ({} : Mac) s.chip.macs p { s.chip.mac p with rxBytes := ((settle e).mac p).rxBytes } }
      ∧ Frame ([0, 3, 4, 5, 6, 12].map (rMAC_CNT.addr p)) [] s.chip (settle e) := hstep.leaves (n := s.chip.mac p) rfl
  cases hg : good with
  | false =>
    rw [rxControl_of_fault (hbad.trans (congrArg not (hgood.symm.trans hg)))]
    exact ⟨nofun, fun _ => ⟨hquiet.1, h12⟩, hquiet.2⟩
  | true =>
    cases hy : pauseOf f.bytes (if (parseHdr f.bytes).tagged = true then 18 else 14) with
    | none =>
      rw [rxControl_of_other hy]
      exact ⟨nofun, fun _ => ⟨hquiet.1, h12⟩, hquiet.2⟩
    | some y =>
      have hin := ((hstep.cnt (j := 12) (by simp)).setMac { s.chip.counted.rxMac p f (s.chip.rxLimit p (parseHdr f.bytes)) with
        pauseIn := (s.chip.counted.rxMac p f (s.chip.rxLimit p (parseHdr f.bytes))).pauseIn ++ [y] }).leaves
        (n := { s.chip.mac p with pauseIn := (s.chip.mac p).pauseIn ++ [y] }) rfl
      have hcount : (e.macCnt p 12).rd rMAC_CNT p 12 = s.chip.rd rMAC_CNT p 12 + 1 := (macCnt_count e p 12 12).trans (congrArg (· + 1) h12)
      rw [rxControl_of_good (hbad.trans (congrArg not (hgood.symm.trans hg))) hy, hstep.mac]
      refine ⟨fun _ z hz => ?_, fun hn => ?_, hin.2⟩
      · obtain rfl := Option.mem_some.mp hz
        exact ⟨hin.1, hcount⟩
      · simp at hn

end Commands

end Sys2Proof.Machine

/-! SUPPORT. Received pause (spec/03 R95, R96): the holds, their ends, and the watchdog. -/

namespace Sys2Proof.Machine

/-! ## Masks of PCP values -/

/-- A fold that clears bits of a mask of classes. -/
theorem getLsbD_foldl_clear (b : Nat → Bool) (l : List Nat) (g : BitVec 4) {k : Nat} (hk : k < 4) :
    (l.foldl (fun g t => if b t then g &&& ~~~(1#4 <<< t) else g) g).getLsbD k = (g.getLsbD k && !(decide (k ∈ l) && b k)) := by
  induction l generalizing g with
  | nil => simp
  | cons t l ih =>
    have hstep : (if b t then g &&& ~~~(1#4 <<< t) else g).getLsbD k = (g.getLsbD k && !(decide (k = t) && b t)) := by
      have hone : (1#4 <<< t).getLsbD k = decide (k = t) := by
        rw [BitVec.getLsbD_shiftLeft, BitVec.getLsbD_one]
        by_cases hkt : k = t <;> simp [hk, hkt] <;> omega
      cases b t with
      | false => simp
      | true => rw [if_pos rfl, BitVec.getLsbD_and, BitVec.getLsbD_not, hone, decide_eq_true hk, Bool.true_and, Bool.and_true]
    rw [List.foldl_cons, ih, hstep]
    by_cases hkt : k = t
    · subst hkt
      cases b k <;> simp
    · simp [hkt]

/-- A byte moved to its class. -/
theorem getLsbD_classByte (m : BitVec 8) {t k i : Nat} (hk : k < 4) (hi : i < 8) :
    (m.setWidth 32 <<< (8 * t)).getLsbD (8 * k + i) = (decide (k = t) && m.getLsbD i) := by
  rw [BitVec.getLsbD_shiftLeft, BitVec.getLsbD_setWidth]
  obtain hlt | rfl | hgt := Nat.lt_trichotomy k t
  · have hn : 8 * k + i < 8 * t := by omega
    simp [hn, hlt.ne]
  · have hn : 8 * k + i < 32 := by omega
    have hi' : i < 32 := by omega
    simp [hn, hi']
  · rw [BitVec.getLsbD_of_ge m _ (by omega)]
    simp [hgt.ne']

theorem getLsbD_foldl_classes (cls : BitVec 4) (m : BitVec 8) (l : List Nat) (x : BitVec 32) {k i : Nat} (hk : k < 4) (hi : i < 8) :
    (l.foldl (fun x t => if cls.getLsbD t then x ||| (m.setWidth 32 <<< (8 * t)) else x) x).getLsbD (8 * k + i)
      = (x.getLsbD (8 * k + i) || (decide (k ∈ l) && cls.getLsbD k && m.getLsbD i)) := by
  induction l generalizing x with
  | nil => simp
  | cons t l ih =>
    have hstep : (if cls.getLsbD t then x ||| (m.setWidth 32 <<< (8 * t)) else x).getLsbD (8 * k + i)
        = (x.getLsbD (8 * k + i) || (decide (k = t) && cls.getLsbD t && m.getLsbD i)) := by
      cases cls.getLsbD t <;> simp [getLsbD_classByte m hk hi]
    rw [List.foldl_cons, ih, hstep]
    by_cases hkt : k = t
    · subst hkt
      cases cls.getLsbD k <;> cases m.getLsbD i <;> simp
    · simp [hkt]

/-- What `perCls` gives a class. -/
theorem perCls_class (cls : BitVec 4) (m : BitVec 8) {k : Nat} (hk : k < 4) : (perCls cls m).extractLsb' (8 * k) 8 = if cls.getLsbD k then m else 0 := by
  refine BitVec.eq_of_getLsbD_eq fun i hi => ?_
  rw [BitVec.getLsbD_extractLsb', perCls, getLsbD_foldl_classes cls m _ _ hk hi]
  cases cls.getLsbD k <;> simp [hi, hk]

/-- The classes still ignored once PCP values `off` are released. -/
def Chip.ignoredAfter (c : Chip) (p : Nat) (off : BitVec 8) (g : BitVec 4) : BitVec 4 :=
  (List.range 4).foldl (fun g t => if (off &&& c.pfcSet p t) != 0 then g &&& ~~~(1#4 <<< t) else g) g

theorem ignoredAfter_class (c : Chip) (p : Nat) (off : BitVec 8) (g : BitVec 4) {k : Nat} (hk : k < 4) :
    (c.ignoredAfter p off g).getLsbD k = (g.getLsbD k && decide (off &&& c.pfcSet p k = 0)) := by
  rw [Chip.ignoredAfter, getLsbD_foldl_clear (fun t => (off &&& c.pfcSet p t) != 0) _ _ hk, decide_eq_true (List.mem_range.mpr hk), Bool.true_and,
    bne, Bool.not_not]
  rfl

/-- The PCP values held once PFC has released `off` and holds `on` where class `ign` does not ignore it. -/
def heldAfter (held : BitVec 32) (off on : BitVec 8) (ign : BitVec 4) : BitVec 32 := (held &&& ~~~(perCls 15 off)) ||| perCls (~~~ign) on

theorem extractLsb'_compl (x : BitVec 32) {k : Nat} (hk : k < 4) : (~~~x).extractLsb' (8 * k) 8 = ~~~x.extractLsb' (8 * k) 8 := by
  refine BitVec.eq_of_getLsbD_eq fun i hi => ?_
  have hn : 8 * k + i < 32 := by omega
  simp [hi, hn]

theorem heldAfter_class (held : BitVec 32) (off on : BitVec 8) (ign : BitVec 4) {k : Nat} (hk : k < 4) :
    (heldAfter held off on ign).extractLsb' (8 * k) 8 = (held.extractLsb' (8 * k) 8 &&& ~~~off) ||| (if ign.getLsbD k = true then 0 else on) := by
  have hall : ∀ k < 4, (15 : BitVec 4).getLsbD k = true := by decide
  have hign : (~~~ign).getLsbD k = !ign.getLsbD k := by rw [BitVec.getLsbD_not, decide_eq_true hk, Bool.true_and]
  rw [heldAfter, BitVec.extractLsb'_or, BitVec.extractLsb'_and, extractLsb'_compl _ hk, perCls_class 15 off hk,
    perCls_class _ on hk, hall k hk, hign]
  cases ign.getLsbD k <;> rfl

/-! ## MAC_STATUS.PAUSED (R95) -/

section Paused

variable {a c d : Chip} {p : Nat} {m : Mac} {rs : List Nat}

theorem Chip.MacStep.paused (hs : Chip.MacStep p m rs a d) (hr : rMAC_STATUS.addr p 0 ∈ rs) : Chip.MacStep p m rs a (d.pausedBit p) := hs.wb 2 _ hr

theorem pausedBit_of_port (h : (d.mac p).pausePort = true) : (d.pausedBit p).rb rMAC_STATUS p 0 2 = true := by
  rw [Chip.pausedBit, Chip.rb_wb_same _ (by decide), List.any_eq_true]
  exact ⟨0, by simp, by rw [Chip.txHeld, h, Bool.true_or]⟩

theorem pausedBit_of_free (hport : (d.mac p).pausePort = false) (hpcp : (d.mac p).pausedPcp = 0) : (d.pausedBit p).rb rMAC_STATUS p 0 2 = false := by
  rw [Chip.pausedBit, Chip.rb_wb_same _ (by decide), List.any_eq_false]
  intro t _
  rw [Chip.txHeld, hport, Chip.pcpHeld, hpcp]
  simp

end Paused

/-! ## A received frame takes effect (R95) -/

section Commands

variable {s : State} {c : Chip} {p : Fin 3} {x : PauseIn} {t : List PauseIn}

/-- The oldest received frame taken. -/
def Chip.pauseTaken (c : Chip) (p : Nat) (t : List PauseIn) : Chip := c.setMac p { c.mac p with pauseIn := t }

theorem pauseTaken_step (c : Chip) (p : Nat) (t : List PauseIn) {rs : List Nat} : Chip.MacStep p { c.mac p with pauseIn := t } rs c (c.pauseTaken p t) := .of_setMac ..

theorem does_pauseRx {P : Chip → Prop} {w : Chip} (hq : (s.chip.mac p).pauseIn = x :: t)
    (hw : (if (s.chip.counted.pauseTaken p t).rb rMAC_FC p 0 4 then ((s.chip.counted.pauseTaken p t).pauseApply p x).pausedBit p
      else s.chip.counted.pauseTaken p t) = w) (hP : P (settle w)) : Does s (exec (.pauseRx p) s) P := by
  refine does_eq ?_ hP
  dsimp only
  split
  · next hnone => exact absurd (hnone.symm.trans hq) nofun
  · next y u hcons =>
    obtain ⟨rfl, rfl⟩ := List.cons.inj (hcons.symm.trans hq)
    exact hw

theorem does_pauseRx_ignored (hq : (s.chip.mac p).pauseIn = x :: t) (hoff : s.chip.rb rMAC_FC p 0 4 = false) : Does s (exec (.pauseRx p) s) fun c =>
    c.rest = { s.chip.rest with macs := mset ({} : Mac) s.chip.macs p { s.chip.mac p with pauseIn := t } } ∧ Frame [] [] s.chip c := by
  refine does_pauseRx hq (if_neg ?_) ⟨rfl, (pauseTaken_step s.chip.counted p t).frame⟩
  rw [show (s.chip.counted.pauseTaken p t).rb rMAC_FC p 0 4 = false from hoff]
  exact Bool.false_ne_true

/-- Where pause is honoured, the frame is applied and PAUSED follows. -/
theorem does_pauseRx_honoured {P : Chip → Prop} {w : Chip} (hq : (s.chip.mac p).pauseIn = x :: t) (hon : s.chip.rb rMAC_FC p 0 4 = true)
    (hw : (s.chip.counted.pauseTaken p t).pauseApply p x = w) (hP : P (settle (w.pausedBit p))) : Does s (exec (.pauseRx p) s) P :=
  does_pauseRx hq ((if_pos hon).trans (congrArg (Chip.pausedBit · p) hw)) hP

theorem does_pauseRx_empty (hq : (s.chip.mac p).pauseIn = []) : Does s (exec (.pauseRx p) s) fun c => c.rest = s.chip.rest ∧ Frame [] [] s.chip c := by
  refine does_eq (w := s.chip.counted) ?_ (quiet s.chip)
  dsimp only
  split
  · rfl
  · next hcons => exact absurd (hcons.symm.trans hq) nofun

theorem does_pauseRx_held (hq : (s.chip.mac p).pauseIn = x :: t) (hx : x.pfc = false) (hquanta : x.quanta.getD 0 0 ≠ 0) (hon : s.chip.rb rMAC_FC p 0 4 = true) :
    Does s (exec (.pauseRx p) s) fun c =>
      c.rest = { s.chip.rest with macs := mset ({} : Mac) s.chip.macs p { s.chip.mac p with pauseIn := t, pausePort := (s.chip.mac p).pausePort || !(s.chip.mac p).ignPort } }
      ∧ ((s.chip.mac p).ignPort = false → c.rb rMAC_STATUS p 0 2 = true) ∧ Frame [rMAC_STATUS.addr p 0] [] s.chip c := by
  have htaken := pauseTaken_step s.chip.counted p t (rs := [rMAC_STATUS.addr p 0])
  have happly : (s.chip.counted.pauseTaken p t).pauseApply p x = if ((s.chip.counted.pauseTaken p t).mac p).ignPort then s.chip.counted.pauseTaken p t
      else (s.chip.counted.pauseTaken p t).setMac p { (s.chip.counted.pauseTaken p t).mac p with pausePort := true } :=
    (if_neg (by simp [hx])).trans (if_neg hquanta)
  rw [htaken.mac] at happly
  cases hign : (s.chip.mac p).ignPort with
  | true =>
    refine does_pauseRx_honoured hq hon (happly.trans (if_pos hign)) ⟨?_, nofun, (htaken.paused (by simp)).frame⟩
    have hrest := (htaken.paused (by simp)).rest
    rw [Bool.not_true, Bool.or_false]
    exact hrest
  | false =>
    have hheld := htaken.setMac { s.chip.mac p with pauseIn := t, pausePort := true }
    refine does_pauseRx_honoured hq hon (happly.trans (if_neg (Bool.eq_false_iff.mp hign))) ⟨?_, fun _ => ?_, (hheld.paused (by simp)).frame⟩
    · have hrest := (hheld.paused (by simp)).rest
      rw [Bool.not_false, Bool.or_true]
      exact hrest
    · exact pausedBit_of_port (congrArg Mac.pausePort hheld.mac)

theorem does_pauseRx_released (hq : (s.chip.mac p).pauseIn = x :: t) (hx : x.pfc = false) (hquanta : x.quanta.getD 0 0 = 0) (hon : s.chip.rb rMAC_FC p 0 4 = true) :
    Does s (exec (.pauseRx p) s) fun c =>
      c.rest = { s.chip.rest with macs := mset ({} : Mac) s.chip.macs p { s.chip.mac p with pauseIn := t, pausePort := false, ignPort := false } }
      ∧ ((s.chip.mac p).pausedPcp = 0 → c.rb rMAC_STATUS p 0 2 = false) ∧ Frame [rMAC_STATUS.addr p 0] [] s.chip c := by
  have htaken := pauseTaken_step s.chip.counted p t (rs := [rMAC_STATUS.addr p 0])
  have happly : (s.chip.counted.pauseTaken p t).pauseApply p x
      = (s.chip.counted.pauseTaken p t).setMac p { (s.chip.counted.pauseTaken p t).mac p with pausePort := false, ignPort := false } :=
    (if_neg (by simp [hx])).trans (if_pos hquanta)
  rw [htaken.mac] at happly
  have hfree := htaken.setMac { s.chip.mac p with pauseIn := t, pausePort := false, ignPort := false }
  refine does_pauseRx_honoured hq hon happly ⟨(hfree.paused (by simp)).rest, fun hpcp => ?_, (hfree.paused (by simp)).frame⟩
  exact pausedBit_of_free (congrArg Mac.pausePort hfree.mac) ((congrArg Mac.pausedPcp hfree.mac).trans hpcp)

/-- MAC `m` once a PFC frame has released `off` and holds `on`, classes `ign` ignoring it. -/
def Mac.pfcHeld (m : Mac) (off on : BitVec 8) (ign : BitVec 4) : Mac := { m with pausedPcp := heldAfter m.pausedPcp off on ign, ignCls := ign }

theorem does_pauseRx_pfc (hq : (s.chip.mac p).pauseIn = x :: t) (hx : x.pfc = true) (hon : s.chip.rb rMAC_FC p 0 4 = true) :
    Does s (exec (.pauseRx p) s) fun c =>
      (∀ k : Fin 4, (c.mac p).ignCls.getLsbD k = ((s.chip.mac p).ignCls.getLsbD k && decide (pfcMask x false &&& s.chip.pfcSet p k = 0))
        ∧ (c.mac p).pausedPcp.extractLsb' (8 * k) 8 = ((s.chip.mac p).pausedPcp.extractLsb' (8 * k) 8 &&& ~~~(pfcMask x false))
            ||| (if (c.mac p).ignCls.getLsbD k = true then 0 else pfcMask x true))
      ∧ c.rest = { s.chip.rest with macs := mset ({} : Mac) s.chip.macs p { s.chip.mac p with pauseIn := t, pausedPcp := (c.mac p).pausedPcp, ignCls := (c.mac p).ignCls } }
      ∧ Frame [rMAC_STATUS.addr p 0] [] s.chip c := by
  have htaken := pauseTaken_step s.chip.counted p t (rs := [rMAC_STATUS.addr p 0])
  have happly : (s.chip.counted.pauseTaken p t).pauseApply p x = (s.chip.counted.pauseTaken p t).setMac p
      (((s.chip.counted.pauseTaken p t).mac p).pfcHeld (pfcMask x false) (pfcMask x true)
        (s.chip.counted.ignoredAfter p (pfcMask x false) ((s.chip.counted.pauseTaken p t).mac p).ignCls)) := if_pos hx
  rw [htaken.mac] at happly
  obtain ⟨m, hm⟩ : ∃ m, m = Mac.pfcHeld { s.chip.mac p with pauseIn := t } (pfcMask x false) (pfcMask x true)
    (s.chip.counted.ignoredAfter p (pfcMask x false) (s.chip.mac p).ignCls) := ⟨_, rfl⟩
  have hheld := (htaken.setMac m).paused (by simp)
  refine does_pauseRx_honoured (w := (s.chip.counted.pauseTaken p t).setMac p m) hq hon (by rw [hm]; exact happly) ⟨fun k => ?_, ?_, hheld.frame⟩
  · rw [settled_mac, hheld.mac, hm]
    exact ⟨ignoredAfter_class _ _ _ _ k.isLt, heldAfter_class _ _ _ _ k.isLt⟩
  · rw [settled_mac, hheld.mac, rest_settle, hheld.rest, hm]
    rfl

/-! ## Quanta, watchdog and ignore period (R95, R96) -/

theorem does_pauseQuantaExpiry_port : Does s (exec (.pauseQuantaExpiry p 8) s) fun c =>
    c.rest = { s.chip.rest with macs := mset ({} : Mac) s.chip.macs p { s.chip.mac p with pausePort := false } }
    ∧ ((s.chip.mac p).pausedPcp = 0 → c.rb rMAC_STATUS p 0 2 = false) ∧ Frame [rMAC_STATUS.addr p 0] [] s.chip c := by
  have hfree := Chip.MacStep.of_setMac s.chip.counted p { s.chip.mac p with pausePort := false } (rs := [rMAC_STATUS.addr p 0])
  have hpaused := hfree.paused (by simp)
  refine does_eq (w := (s.chip.counted.setMac p { s.chip.mac p with pausePort := false }).pausedBit p) rfl ⟨hpaused.rest, fun hpcp => ?_, hpaused.frame⟩
  exact pausedBit_of_free (congrArg Mac.pausePort hfree.mac) ((congrArg Mac.pausedPcp hfree.mac).trans hpcp)

theorem does_pauseQuantaExpiry_pcp {u : Fin 8} : Does s (exec (.pauseQuantaExpiry p u.castSucc) s) fun c =>
    (c.mac p).pausedPcp = (s.chip.mac p).pausedPcp &&& ~~~(perCls 15 (1#8 <<< u.val))
    ∧ c.rest = { s.chip.rest with macs := mset ({} : Mac) s.chip.macs p { s.chip.mac p with pausedPcp := (c.mac p).pausedPcp } }
    ∧ Frame [rMAC_STATUS.addr p 0] [] s.chip c := by
  obtain ⟨m, hm⟩ : ∃ m : Mac, m = { s.chip.mac p with pausedPcp := (s.chip.mac p).pausedPcp &&& ~~~(perCls 15 (1#8 <<< u.val)) } := ⟨_, rfl⟩
  have hfree := (Chip.MacStep.of_setMac s.chip.counted p m (rs := [rMAC_STATUS.addr p 0])).paused (by simp)
  have hu : u.castSucc.val ≠ 8 := u.isLt.ne
  refine does_eq (w := (s.chip.counted.setMac p m).pausedBit p) (by rw [hm]; exact congrArg (Chip.pausedBit · p) (if_neg hu)) ⟨?_, ?_, hfree.frame⟩
  · rw [settled_mac, hfree.mac, hm]
  · rw [settled_mac, hfree.mac, rest_settle, hfree.rest, hm]
    rfl

theorem does_pauseIgnoreEnd_port : Does s (exec (.pauseIgnoreEnd p 4) s) fun c =>
    c.rest = { s.chip.rest with macs := mset ({} : Mac) s.chip.macs p { s.chip.mac p with ignPort := false } } ∧ Frame [] [] s.chip c :=
  have hset := Chip.MacStep.of_setMac s.chip.counted p { s.chip.mac p with ignPort := false } (rs := [])
  does_eq rfl ⟨hset.rest, hset.frame⟩

theorem does_pauseIgnoreEnd_class {u : Fin 4} : Does s (exec (.pauseIgnoreEnd p u.castSucc) s) fun c =>
    c.rest = { s.chip.rest with macs := mset ({} : Mac) s.chip.macs p { s.chip.mac p with ignCls := (s.chip.mac p).ignCls &&& ~~~(1#4 <<< u.val) } }
    ∧ Frame [] [] s.chip c := by
  have hset := Chip.MacStep.of_setMac s.chip.counted p { s.chip.mac p with ignCls := (s.chip.mac p).ignCls &&& ~~~(1#4 <<< u.val) } (rs := [])
  have hu : u.castSucc.val ≠ 4 := u.isLt.ne
  exact does_eq (if_neg hu) ⟨hset.rest, hset.frame⟩

/-- MAC `p` once the watchdog of unit `u` has broken its hold. -/
def Mac.broken (m : Mac) (u : Nat) : Mac :=
  if u = 4 then { m with pausePort := false, ignPort := true }
  else { m with pausedPcp := m.pausedPcp &&& ~~~(perCls (1#4 <<< u) 255), ignCls := m.ignCls ||| (1#4 <<< u) }

/-- A broken hold counted and shown. -/
def Chip.holdBroken (c : Chip) (p : Nat) (m : Mac) : Chip := (((c.setMac p m).macCnt p 19).wb rMAC_STATUS p 0 7 true).pausedBit p

theorem holdBroken_step (c : Chip) (p : Nat) (m : Mac) : Chip.MacStep p m [rMAC_CNT.addr p 19, rMAC_STATUS.addr p 0] c (c.holdBroken p m) :=
  (((Chip.MacStep.of_setMac c p m).cnt (j := 19) (by simp)).wb (r := rMAC_STATUS) (i := p) (j := 0) 7 true (by simp)).paused (by simp)

theorem holdBroken_shown (c : Chip) {p : Nat} (hp : p < 3) (m : Mac) :
    (settle ((c.holdBroken p m).macFault p 0x24)).rd rMAC_CNT p 19 = c.rd rMAC_CNT p 19 + 1
    ∧ (settle ((c.holdBroken p m).macFault p 0x24)).rb rMAC_STATUS p 0 7 = true := by
  refine ⟨?_, ?_⟩
  · rw [rd_settle, Chip.macFault, Chip.rd_irq, macSrc, Chip.rd_log_other (macCnt_not_logged hp (by decide)), Chip.holdBroken, Chip.pausedBit, Chip.wb,
      Chip.rd_wr_other _ _ (macCnt_ne_status hp (by decide)), Chip.wb, Chip.rd_wr_other _ _ (macCnt_ne_status hp (by decide)), macCnt_count, if_pos rfl]
    rfl
  · rw [Chip.rb, rd_settle, Chip.macFault, Chip.rd_irq, macSrc, Chip.rd_log_other (macStatus_not_logged hp), ← Chip.rb, Chip.holdBroken, Chip.pausedBit,
      Chip.rb_wb_bit _ (by decide)]
    exact Chip.rb_wb_same _ (by decide)

theorem does_pauseWdog {u : Fin 5} (hheld : s.chip.unitHeld p u = true) (hperiod : s.chip.rf rPAUSE_WDOG p 0 15 0 ≠ 0) :
    Does s (exec (.pauseWdog p u) s) fun c =>
      c.rest = { s.chip.rest with macs := mset ({} : Mac) s.chip.macs p ((s.chip.mac p).broken u), err := c.err }
      ∧ c.rd rMAC_CNT p 19 = s.chip.rd rMAC_CNT p 19 + 1 ∧ c.rb rMAC_STATUS p 0 7 = true ∧ Reports (2 + p) 0x24 s.chip c
      ∧ c.irqs.getLsbD (35 + 4 * p) = true
      ∧ Frame (rMAC_CNT.addr p 19 :: rMAC_STATUS.addr p 0 :: logRegs (2 + p)) [35 + 4 * p, 209] s.chip c := by
  have hok : (s.chip.counted.unitHeld p u && s.chip.counted.rf rPAUSE_WDOG p 0 15 0 ≠ 0) = true := by
    rw [show s.chip.counted.unitHeld p u = true from hheld, Bool.true_and]
    exact decide_eq_true hperiod
  have hout : ∀ p < 3, rERR_CTRL.addr 0 0 ∉ [rMAC_CNT.addr p 19, rMAC_STATUS.addr p 0] := by decide
  have hmac : (if u.val = 4 then s.chip.counted.setMac p { s.chip.mac p with pausePort := false, ignPort := true }
      else s.chip.counted.setMac p { s.chip.mac p with pausedPcp := (s.chip.mac p).pausedPcp &&& ~~~(perCls (1#4 <<< u.val) 255), ignCls := (s.chip.mac p).ignCls ||| (1#4 <<< u.val) })
      = s.chip.counted.setMac p ((s.chip.mac p).broken u) := by
    rw [Mac.broken]
    split <;> rfl
  refine does_when (ok := fun c => c.unitHeld p u && c.rf rPAUSE_WDOG p 0 15 0 ≠ 0) hok (w := (s.chip.counted.holdBroken p ((s.chip.mac p).broken u)).macFault p 0x24)
    (by rw [Chip.holdBroken, ← hmac]; rfl) ?_
  obtain ⟨hrest, hreport, hirq, hframe⟩ := macFault_after (code := 0x24) p.isLt (holdBroken_step s.chip.counted p ((s.chip.mac p).broken u)) (hout p p.isLt)
  obtain ⟨hcount, hshown⟩ := holdBroken_shown s.chip.counted p.isLt ((s.chip.mac p).broken u)
  exact ⟨hrest, hcount, hshown, hreport, hirq, hframe⟩

theorem does_pauseWdog_quiet {u : Fin 5} (h : s.chip.unitHeld p u = false ∨ s.chip.rf rPAUSE_WDOG p 0 15 0 = 0) :
    Does s (exec (.pauseWdog p u) s) fun c => c.rest = s.chip.rest ∧ Frame [] [] s.chip c := by
  refine does_eq (w := s.chip.counted) (if_neg ?_) (quiet s.chip)
  obtain h | h := h
  · rw [show s.chip.counted.unitHeld p u = false from h, Bool.false_and]
    exact Bool.false_ne_true
  · rw [show s.chip.counted.rf rPAUSE_WDOG p 0 15 0 = 0 from h]
    simp

theorem does_pauseWdog_port (hheld : (s.chip.mac p).pausePort = true) (hperiod : s.chip.rf rPAUSE_WDOG p 0 15 0 ≠ 0) :
    Does s (exec (.pauseWdog p 4) s) fun c =>
      c.rest = { s.chip.rest with macs := mset ({} : Mac) s.chip.macs p { s.chip.mac p with pausePort := false, ignPort := true }, err := c.err }
      ∧ c.rd rMAC_CNT p 19 = s.chip.rd rMAC_CNT p 19 + 1 ∧ c.rb rMAC_STATUS p 0 7 = true ∧ Reports (2 + p) 0x24 s.chip c
      ∧ c.irqs.getLsbD (35 + 4 * p) = true
      ∧ Frame (rMAC_CNT.addr p 19 :: rMAC_STATUS.addr p 0 :: logRegs (2 + p)) [35 + 4 * p, 209] s.chip c :=
  does_pauseWdog (u := 4) hheld hperiod

theorem does_pauseWdog_class {u : Fin 4} (hheld : s.chip.unitHeld p u = true) (hperiod : s.chip.rf rPAUSE_WDOG p 0 15 0 ≠ 0) :
    Does s (exec (.pauseWdog p u.castSucc) s) fun c =>
      c.rest = { s.chip.rest with macs := mset ({} : Mac) s.chip.macs p { s.chip.mac p with pausedPcp := (s.chip.mac p).pausedPcp &&& ~~~(perCls (1#4 <<< u.val) 255), ignCls := (s.chip.mac p).ignCls ||| (1#4 <<< u.val) }, err := c.err }
      ∧ c.rd rMAC_CNT p 19 = s.chip.rd rMAC_CNT p 19 + 1 ∧ c.rb rMAC_STATUS p 0 7 = true ∧ Reports (2 + p) 0x24 s.chip c
      ∧ c.irqs.getLsbD (35 + 4 * p) = true
      ∧ Frame (rMAC_CNT.addr p 19 :: rMAC_STATUS.addr p 0 :: logRegs (2 + p)) [35 + 4 * p, 209] s.chip c := by
  have hbroken : (s.chip.mac p).broken u.castSucc = { s.chip.mac p with
      pausedPcp := (s.chip.mac p).pausedPcp &&& ~~~(perCls (1#4 <<< u.val) 255), ignCls := (s.chip.mac p).ignCls ||| (1#4 <<< u.val) } := if_neg u.isLt.ne
  rw [← hbroken]
  exact does_pauseWdog hheld hperiod

end Commands

/-- Settles O14: counting a frame changes none of the rules and maps that judge it, so that each branch of its way is told by the
state that stood; a mask of PCP values is folded class by class, and read back by the class's byte. -/
theorem macReceiveAndPause : Obligations.mac_receive_and_pause := by
  unfold Obligations.mac_receive_and_pause
  exact ⟨fun _ _ _ => does_frameReceive_down, fun _ _ _ => does_frameReceive_missed, fun _ _ _ => does_frameReceive_counted,
    fun _ _ _ _ => does_frameReceive_refused, fun _ _ _ _ => does_frameReceive_ipv6, fun _ _ _ _ _ _ _ _ => does_frameReceive_frame,
    fun _ _ _ _ _ => does_frameReceive_control, fun _ _ _ _ => does_pauseRx_ignored, fun _ _ _ _ => does_pauseRx_held,
    fun _ _ _ _ => does_pauseRx_released, fun _ _ _ _ => does_pauseRx_pfc, fun _ _ => does_pauseRx_empty, fun _ _ => does_pauseQuantaExpiry_port,
    fun _ _ _ => does_pauseQuantaExpiry_pcp, fun _ _ => does_pauseWdog_port, fun _ _ _ => does_pauseWdog_class, fun _ _ => does_pauseIgnoreEnd_port,
    fun _ _ _ => does_pauseIgnoreEnd_class, fun _ _ _ => does_pauseWdog_quiet⟩

end Sys2Proof.Machine

/-! SUPPORT. The tick that a step with no command is, and what it forgets (spec/02 R36, R58). -/

namespace Sys2Proof.Machine

/-- A module that runs, its capture unit 0 having taken an edge at the clock reading it still shows. -/
def edgeTaken : State := { chip := { pwr := { phase := .running }, time := { capTick := [(0, some 0)] } } }

/-- The tick after that reading drops the mark of the edge taken in it. -/
theorem step_edgeTaken {t : State} (h : step edgeTaken = .next t) : t.chip.time.capTick = [] := by
  cases h
  decide

/-- Refutes O57: a tick drops the marks by which a capture unit takes one edge in a tick (R58), while the statement has everything of
the TIME block but the clock and the records taken from XQ_TS_EVT stand. The two differ where a unit has taken an edge before the tick. -/
theorem not_clockStartAndRate : ¬ Obligations.clock_start_and_rate := by
  intro h
  obtain ⟨-, -, -, -, -, htick⟩ := h
  obtain ⟨t, ht, -, -, htime, -⟩ := htick edgeTaken rfl (by decide) (by decide) (by decide)
  have hkept : t.chip.time.capTick = [(0, some 0)] := congrArg TimeSt.capTick htime
  rw [step_edgeTaken ht] at hkept
  cases hkept

end Sys2Proof.Machine

/-! SUPPORT. Flow control sent (spec/03 R93, R94, R97, R106). -/

namespace Sys2Proof.Machine

section

variable {a c d : Chip} {p : Nat} {b x : List Byte}

/-! ## A frame that leaves (R97) -/

/-- `d` is `a` once frame `b` has left port `p` with its FCS, MAC `p` at `m`, beside the registers `rs`. -/
structure Chip.EthStep (p : Nat) (m : Mac) (b : List Byte) (rs : List Nat) (a d : Chip) : Prop where
  regs : SameRegs rs a d
  irqs : d.irqs = a.irqs
  rest : d.rest = { a.rest with wire := .eth p (b ++ wordBytes (crc32 b)) :: a.wire, macs := mset ({} : Mac) a.macs p m }

namespace Chip.EthStep

variable {m : Mac} {rs rs' : List Nat}

theorem wire (h : Chip.EthStep p m b rs a d) : d.wire = .eth p (b ++ wordBytes (crc32 b)) :: a.wire := congrArg Chip.wire h.rest

theorem macs (h : Chip.EthStep p m b rs a d) : d.macs = mset ({} : Mac) a.macs p m := congrArg Chip.macs h.rest

theorem mac (h : Chip.EthStep p m b rs a d) : d.mac p = m := by
  rw [Chip.mac, h.macs, mget_mset_same]

theorem mono (h : Chip.EthStep p m b rs a d) (hr : ∀ n ∈ rs, n ∈ rs') : Chip.EthStep p m b rs' a d := ⟨h.regs.mono hr, h.irqs, h.rest⟩

theorem cnt (h : Chip.EthStep p m b rs a d) {j : Nat} (hr : rMAC_CNT.addr p j ∈ rs) : Chip.EthStep p m b rs a (d.macCnt p j) :=
  ⟨h.regs.wr _ hr, h.irqs, h.rest⟩

theorem setMac (h : Chip.EthStep p m b rs a d) (m' : Mac) : Chip.EthStep p m' b rs a (d.setMac p m') := by
  refine ⟨h.regs.setMac p m', h.irqs, ?_⟩
  have hset : (d.setMac p m').rest = { d.rest with macs := mset ({} : Mac) d.macs p m' } := rfl
  rw [hset, h.macs, mset_mset, h.rest]

theorem frame (h : Chip.EthStep p m b rs a d) : Frame rs [] a (settle d) := ⟨h.regs.settle, (SameIrqs.of_irqs h.irqs).settle⟩

end Chip.EthStep

/-- MAC `p` once `n` more bytes have been sent. -/
def Mac.sent (m : Mac) (n : Nat) : Mac := { m with txBytes := (m.txBytes + n) % 2 ^ 64 }

/-- A frame padded to the least length, without its FCS. -/
def padded (x : List Byte) : List Byte := x ++ List.replicate (60 - x.length) 0

theorem sendEth_step (c : Chip) (p : Nat) (x : List Byte) :
    Chip.EthStep p ((c.mac p).sent ((padded x).length + 4)) (padded x) [rMAC_CNT.addr p 13] c (c.sendEth p x) :=
  ⟨.wr (.refl _ c) _ (by simp), rfl, rfl⟩

theorem sendEth_count (c : Chip) (p : Nat) (x : List Byte) (k : Nat) :
    (c.sendEth p x).rd rMAC_CNT p k = c.rd rMAC_CNT p k + if k = 13 then 1 else 0 := macCnt_count c p 13 k

/-! ## A flow-control frame (R93, R94) -/

/-- The PCP sets of the classes in `m`. -/
def Chip.pcpsOf (c : Chip) (p : Nat) (m : BitVec 4) : BitVec 8 :=
  (List.range 4).foldl (fun s t => if m.getLsbD t then s ||| c.pfcSet p t else s) 0#8

/-- A flow-control frame up to its type. -/
def Chip.fcHead (c : Chip) (p : Nat) : List Byte :=
  [0x01, 0x80, 0xC2, 0, 0, 1] ++ addrBytes (c.rd rMAC_ADDR_LO p) (c.rd rMAC_ADDR_HI p) ++ [0x88, 0x08]

/-- What a flow-control frame says: the classes that changed, with quanta for those that are on. -/
def Chip.fcBody (c : Chip) (p : Nat) (chg on : BitVec 4) : List Byte :=
  if c.fcMode p = 1 then [0, 1] ++ natBE 2 (if on != 0 then c.rf rPAUSE_QUANTA p 0 15 0 else 0)
  else [1, 1] ++ natBE 2 (c.pcpsOf p chg).toNat ++
    (List.range 8).flatMap fun i => natBE 2 (if (c.pcpsOf p on).getLsbD i then c.rf rPAUSE_QUANTA p 0 15 0 else 0)

theorem sendFc_eq (c : Chip) (p : Nat) (chg on : BitVec 4) : c.sendFc p chg on = (c.sendEth p (c.fcHead p ++ c.fcBody p chg on)).macCnt p 16 := rfl

theorem getLsbD_foldl_sets (m : BitVec 4) (f : Nat → BitVec 8) (l : List Nat) (g : BitVec 8) (i : Nat) :
    (l.foldl (fun g t => if m.getLsbD t then g ||| f t else g) g).getLsbD i = (g.getLsbD i || l.any fun t => m.getLsbD t && (f t).getLsbD i) := by
  induction l generalizing g with
  | nil => simp
  | cons t l ih =>
    rw [List.foldl_cons, ih, List.any_cons, ← Bool.or_assoc]
    cases m.getLsbD t <;> simp

theorem pcpsOf_eq {m : BitVec 4} {e : BitVec 8}
    (he : ∀ i : Fin 8, e.getLsbD i = (List.range 4).any fun t => m.getLsbD t && (c.pfcSet p t).getLsbD i) : c.pcpsOf p m = e := by
  refine BitVec.eq_of_getLsbD_eq fun i hi => ?_
  rw [Chip.pcpsOf, getLsbD_foldl_sets, he ⟨i, hi⟩]
  simp

theorem length_natBE (n v : Nat) : (natBE n v).length = n := by simp [natBE]

theorem length_fcHead (c : Chip) (p : Nat) : (c.fcHead p).length = 14 := rfl

theorem fcBody_of_pause {chg on : BitVec 4} (hmode : c.fcMode p = 1) :
    c.fcBody p chg on = [0, 1] ++ natBE 2 (if on != 0 then c.rf rPAUSE_QUANTA p 0 15 0 else 0) := if_pos hmode

theorem fcBody_of_pfc {chg on : BitVec 4} (hmode : c.fcMode p ≠ 1) : c.fcBody p chg on = [1, 1] ++ natBE 2 (c.pcpsOf p chg).toNat
    ++ (List.range 8).flatMap fun i => natBE 2 (if (c.pcpsOf p on).getLsbD i then c.rf rPAUSE_QUANTA p 0 15 0 else 0) := if_neg hmode

theorem length_fcBody_of_pause {chg on : BitVec 4} (hmode : c.fcMode p = 1) : (c.fcBody p chg on).length = 4 := by
  rw [fcBody_of_pause hmode, List.length_append, length_natBE]
  rfl

theorem length_fcBody_of_pfc {chg on : BitVec 4} (hmode : c.fcMode p ≠ 1) : (c.fcBody p chg on).length = 20 := by
  rw [fcBody_of_pfc hmode]
  simp [List.length_flatMap, length_natBE]

/-- A flow-control frame is of the least length. -/
theorem length_padded_fc (c : Chip) (p : Nat) (chg on : BitVec 4) : (padded (c.fcHead p ++ c.fcBody p chg on)).length = 60 := by
  have hbody : (c.fcBody p chg on).length ≤ 20 := by
    by_cases hmode : c.fcMode p = 1
    · rw [length_fcBody_of_pause hmode]
      decide
    · rw [length_fcBody_of_pfc hmode]
  rw [padded, List.length_append, List.length_replicate, List.length_append, length_fcHead]
  omega

/-- A PAUSE frame. -/
theorem padded_pause {chg on : BitVec 4} (hmode : c.fcMode p = 1) : padded (c.fcHead p ++ c.fcBody p chg on)
    = [0x01, 0x80, 0xC2, 0, 0, 1] ++ addrBytes (c.rd rMAC_ADDR_LO p) (c.rd rMAC_ADDR_HI p) ++ [0x88, 0x08, 0, 1]
      ++ natBE 2 (if on != 0 then c.rf rPAUSE_QUANTA p 0 15 0 else 0) ++ List.replicate 42 0 := by
  rw [padded, List.length_append, length_fcHead, length_fcBody_of_pause hmode, fcBody_of_pause hmode, Chip.fcHead]
  simp only [List.append_assoc]
  rfl

/-- A PFC frame. -/
theorem padded_pfc {chg on : BitVec 4} (hmode : c.fcMode p ≠ 1) : padded (c.fcHead p ++ c.fcBody p chg on)
    = [0x01, 0x80, 0xC2, 0, 0, 1] ++ addrBytes (c.rd rMAC_ADDR_LO p) (c.rd rMAC_ADDR_HI p) ++ [0x88, 0x08, 1, 1] ++ natBE 2 (c.pcpsOf p chg).toNat
      ++ ((List.range 8).flatMap fun i => natBE 2 (if (c.pcpsOf p on).getLsbD i = true then c.rf rPAUSE_QUANTA p 0 15 0 else 0))
      ++ List.replicate 26 0 := by
  rw [padded, List.length_append, length_fcHead, length_fcBody_of_pfc hmode, fcBody_of_pfc hmode, Chip.fcHead]
  simp only [List.append_assoc]
  rfl

theorem fcMode_of_pause (h : c.rf rMAC_FC p 0 1 0 = 1) : c.fcMode p = 1 := by
  rw [Chip.fcMode, h]
  rfl

theorem fcMode_of_pfc (hp : p ≤ 1) (h : c.rf rMAC_FC p 0 1 0 = 2) : c.fcMode p = 2 := by
  rw [Chip.fcMode, h]
  simp [hp]

theorem fcState_of_pause (h : c.fcMode p = 1) : c.fcState p = if c.asrtCls p != 0 then 0xF else 0 := if_pos h

theorem fcState_of_pfc (h : c.fcMode p ≠ 1) : c.fcState p = c.asrtCls p := if_neg h

/-- A flow-control frame that leaves. -/
theorem sendFc_step {chg on : BitVec 4} (hb : padded (c.fcHead p ++ c.fcBody p chg on) = b) :
    Chip.EthStep p ((c.mac p).sent 64) b [rMAC_CNT.addr p 13, rMAC_CNT.addr p 16] c (c.sendFc p chg on) := by
  have hlen := length_padded_fc c p chg on
  have hstep := ((sendEth_step c p (c.fcHead p ++ c.fcBody p chg on)).mono (rs' := [rMAC_CNT.addr p 13, rMAC_CNT.addr p 16]) (by simp)).cnt
    (j := 16) (by simp)
  rw [hb] at hlen hstep
  rw [hlen] at hstep
  exact hstep

theorem sendFc_count (c : Chip) (p : Nat) (chg on : BitVec 4) {k : Nat} (hk : k = 13 ∨ k = 16) :
    (c.sendFc p chg on).rd rMAC_CNT p k = c.rd rMAC_CNT p k + 1 := by
  rw [sendFc_eq, macCnt_count, sendEth_count]
  obtain rfl | rfl := hk <;> simp

end

/-! ## The commands -/

section

variable {s : State} {p : Fin 3} {b : List Byte}

/-- What sending frame `b` with MAC `p` at `m` afterwards leaves. -/
structure FcLeaves (s : State) (p : Nat) (m : Mac) (b : List Byte) (c : Chip) : Prop where
  wire : c.wire = .eth p (b ++ wordBytes (crc32 b)) :: s.chip.wire
  rest : c.rest = { s.chip.rest with wire := c.wire, macs := mset ({} : Mac) s.chip.macs p m }
  frames : c.rd rMAC_CNT p 13 = s.chip.rd rMAC_CNT p 13 + 1
  pauses : c.rd rMAC_CNT p 16 = s.chip.rd rMAC_CNT p 16 + 1
  frame : Frame [rMAC_CNT.addr p 13, rMAC_CNT.addr p 16] [] s.chip c

theorem fcLeaves_of_step {m : Mac} {d : Chip} (h : Chip.EthStep p m b [rMAC_CNT.addr p 13, rMAC_CNT.addr p 16] s.chip.counted d)
    (h13 : d.rd rMAC_CNT p 13 = s.chip.rd rMAC_CNT p 13 + 1) (h16 : d.rd rMAC_CNT p 16 = s.chip.rd rMAC_CNT p 16 + 1) :
    FcLeaves s p m b (settle d) :=
  ⟨h.wire, by rw [show (settle d).wire = _ from h.wire]; exact h.rest, h13, h16, h.frame⟩

theorem does_flowControlFrameTx (hup : s.chip.up (macDom p) = true) (hstop : s.chip.txStop p = false) (hlink : s.chip.link p = true)
    (hmode : s.chip.fcMode p ≠ 0) (hst : s.chip.fcState p ≠ (s.chip.mac p).fcSent)
    (hb : padded (s.chip.fcHead p ++ s.chip.fcBody p (s.chip.fcState p ^^^ (s.chip.mac p).fcSent) (s.chip.fcState p)) = b) :
    Does s (exec (.flowControlFrameTx p) s)
      (FcLeaves s p { (s.chip.mac p).sent 64 with fcSent := s.chip.fcState p } b) := by
  have hok : (s.chip.counted.up (macDom p) && !s.chip.counted.txStop p && s.chip.counted.link p && s.chip.counted.fcMode p ≠ 0
      && s.chip.counted.fcState p != (s.chip.counted.mac p).fcSent) = true := by
    simp only [Bool.and_eq_true, Bool.not_eq_true', decide_eq_true_eq, bne_iff_ne]
    exact ⟨⟨⟨⟨hup, hstop⟩, hlink⟩, hmode⟩, hst⟩
  have hstep := sendFc_step (c := s.chip.counted) hb
  have h13 := sendFc_count s.chip.counted p (s.chip.fcState p ^^^ (s.chip.mac p).fcSent) (s.chip.fcState p) (.inl rfl)
  have h16 := sendFc_count s.chip.counted p (s.chip.fcState p ^^^ (s.chip.mac p).fcSent) (s.chip.fcState p) (.inr rfl)
  refine does_eq (if_pos hok) ?_
  dsimp only
  rw [show s.chip.counted.fcState p = s.chip.fcState p from rfl, show s.chip.counted.mac p = s.chip.mac p from rfl, hstep.mac]
  exact fcLeaves_of_step (hstep.setMac _) h13 h16

/-- A state already sent sends nothing. -/
theorem does_flowControlFrameTx_sent (h : (s.chip.mac p).fcSent = s.chip.fcState p) :
    Does s (exec (.flowControlFrameTx p) s) fun c => c.rest = s.chip.rest ∧ Frame [] [] s.chip c := by
  refine does_eq (w := s.chip.counted) (if_neg ?_) (quiet s.chip)
  rw [show s.chip.counted.fcState p = (s.chip.counted.mac p).fcSent from h.symm]
  simp

theorem does_flowControlRepeat (hup : s.chip.up (macDom p) = true) (hstop : s.chip.txStop p = false) (hlink : s.chip.link p = true)
    (hmode : s.chip.fcMode p ≠ 0) (hon : (s.chip.mac p).fcSent &&& s.chip.fcState p ≠ 0)
    (hb : padded (s.chip.fcHead p ++ s.chip.fcBody p ((s.chip.mac p).fcSent &&& s.chip.fcState p) ((s.chip.mac p).fcSent &&& s.chip.fcState p)) = b) :
    Does s (exec (.flowControlRepeat p) s) (FcLeaves s p ((s.chip.mac p).sent 64) b) := by
  have hok : (s.chip.counted.up (macDom p) && !s.chip.counted.txStop p && s.chip.counted.link p && s.chip.counted.fcMode p ≠ 0
      && (s.chip.counted.mac p).fcSent &&& s.chip.counted.fcState p != 0) = true := by
    simp only [Bool.and_eq_true, Bool.not_eq_true', decide_eq_true_eq, bne_iff_ne]
    exact ⟨⟨⟨⟨hup, hstop⟩, hlink⟩, hmode⟩, hon⟩
  exact does_eq (if_pos hok) (fcLeaves_of_step (sendFc_step (c := s.chip.counted) hb) (sendFc_count _ _ _ _ (.inl rfl)) (sendFc_count _ _ _ _ (.inr rfl)))

/-- Without an assertion that was sent nothing is repeated. -/
theorem does_flowControlRepeat_none (h : (s.chip.mac p).fcSent &&& s.chip.fcState p = 0) :
    Does s (exec (.flowControlRepeat p) s) fun c => c.rest = s.chip.rest ∧ Frame [] [] s.chip c := by
  refine does_eq (w := s.chip.counted) (if_neg ?_) (quiet s.chip)
  rw [show (s.chip.counted.mac p).fcSent &&& s.chip.counted.fcState p = 0 from h]
  simp

theorem does_flowControlFrameTx_pause {on : Bool} (hup : s.chip.up (macDom p) = true) (hstop : s.chip.txStop p = false)
    (hlink : s.chip.link p = true) (hfc : s.chip.rf rMAC_FC p 0 1 0 = 1) (hon : on = true ↔ s.chip.asrtCls p ≠ 0)
    (hsent : (s.chip.mac p).fcSent = if on = true then 0 else 0xF)
    (hb : b = [0x01, 0x80, 0xC2, 0, 0, 1] ++ addrBytes (s.chip.rd rMAC_ADDR_LO p) (s.chip.rd rMAC_ADDR_HI p) ++ [0x88, 0x08, 0, 1]
      ++ natBE 2 (if on = true then s.chip.rf rPAUSE_QUANTA p 0 15 0 else 0) ++ List.replicate 42 0) :
    Does s (exec (.flowControlFrameTx p) s)
      (FcLeaves s p { (s.chip.mac p).sent 64 with fcSent := if on = true then 0xF else 0 } b) := by
  have hmode := fcMode_of_pause hfc
  have hst : s.chip.fcState p = if on = true then 0xF else 0 := by
    rw [fcState_of_pause hmode, show (s.chip.asrtCls p != 0) = on from Bool.eq_iff_iff.mpr (bne_iff_ne.trans hon.symm)]
  have hfull : (s.chip.fcState p != 0) = on := by
    rw [hst]
    cases on <;> rfl
  rw [← hst]
  refine does_flowControlFrameTx hup hstop hlink (by rw [hmode]; decide) ?_ ((padded_pause hmode).trans (by rw [hfull, hb]))
  rw [hst, hsent]
  cases on <;> decide

theorem does_flowControlRepeat_pause (hup : s.chip.up (macDom p) = true) (hstop : s.chip.txStop p = false) (hlink : s.chip.link p = true)
    (hfc : s.chip.rf rMAC_FC p 0 1 0 = 1) (hon : s.chip.asrtCls p ≠ 0) (hsent : (s.chip.mac p).fcSent = 0xF)
    (hb : b = [0x01, 0x80, 0xC2, 0, 0, 1] ++ addrBytes (s.chip.rd rMAC_ADDR_LO p) (s.chip.rd rMAC_ADDR_HI p) ++ [0x88, 0x08, 0, 1]
      ++ natBE 2 (s.chip.rf rPAUSE_QUANTA p 0 15 0) ++ List.replicate 42 0) :
    Does s (exec (.flowControlRepeat p) s) (FcLeaves s p ((s.chip.mac p).sent 64) b) := by
  have hmode := fcMode_of_pause hfc
  have hboth : (s.chip.mac p).fcSent &&& s.chip.fcState p = 0xF := by
    rw [hsent, fcState_of_pause hmode, if_pos (bne_iff_ne.mpr hon)]
    rfl
  refine does_flowControlRepeat hup hstop hlink (by rw [hmode]; decide) (by rw [hboth]; decide) ((padded_pause hmode).trans ?_)
  rw [hboth, hb]
  rfl

/-- What the frames of the two commands leave of the wire. -/
theorem FcLeaves.sent {p : Nat} {m : Mac} {c : Chip} (h : FcLeaves s p m b c) : c.wire.length = s.chip.wire.length + 1 ∧ c.wire.drop 1 = s.chip.wire := by
  rw [h.wire]
  exact ⟨rfl, rfl⟩

theorem FcLeaves.mac {p : Nat} {m : Mac} {c : Chip} (h : FcLeaves s p m b c) : c.mac p = m := by
  have hmacs : c.macs = mset ({} : Mac) s.chip.macs p m := congrArg Chip.macs h.rest
  rw [Chip.mac, hmacs, mget_mset_same]

theorem FcLeaves.all {p : Nat} {m : Mac} {c : Chip} (h : FcLeaves s p m b c) :
    c.wire = .eth p (b ++ wordBytes (crc32 b)) :: s.chip.wire
    ∧ c.rest = { s.chip.rest with wire := c.wire, macs := mset ({} : Mac) s.chip.macs p m }
    ∧ c.rd rMAC_CNT p 13 = s.chip.rd rMAC_CNT p 13 + 1 ∧ c.rd rMAC_CNT p 16 = s.chip.rd rMAC_CNT p 16 + 1
    ∧ Frame [rMAC_CNT.addr p 13, rMAC_CNT.addr p 16] [] s.chip c := ⟨h.wire, h.rest, h.frames, h.pauses, h.frame⟩

end

section

variable {s : State} {p : Fin 2} {b : List Byte}

theorem does_flowControlFrameTx_pfc {e on : BitVec 8} (hup : s.chip.up (macDom p) = true) (hstop : s.chip.txStop p = false)
    (hlink : s.chip.link p = true) (hfc : s.chip.rf rMAC_FC p 0 1 0 = 2) (hst : s.chip.asrtCls p ≠ (s.chip.mac p).fcSent)
    (he : ∀ i : Fin 8, e.getLsbD i = (List.range 4).any fun t =>
      (s.chip.asrtCls p ^^^ (s.chip.mac p).fcSent).getLsbD t && (s.chip.pfcSet p t).getLsbD i)
    (hon : ∀ i : Fin 8, on.getLsbD i = (List.range 4).any fun t => (s.chip.asrtCls p).getLsbD t && (s.chip.pfcSet p t).getLsbD i)
    (hb : b = [0x01, 0x80, 0xC2, 0, 0, 1] ++ addrBytes (s.chip.rd rMAC_ADDR_LO p) (s.chip.rd rMAC_ADDR_HI p) ++ [0x88, 0x08, 1, 1] ++ natBE 2 e.toNat
      ++ ((List.range 8).flatMap fun i => natBE 2 (if on.getLsbD i = true then s.chip.rf rPAUSE_QUANTA p 0 15 0 else 0)) ++ List.replicate 26 0) :
    Does s (exec (.flowControlFrameTx ⟨p, by omega⟩) s)
      (FcLeaves s p { (s.chip.mac p).sent 64 with fcSent := s.chip.asrtCls p } b) := by
  have hmode := fcMode_of_pfc (by omega) hfc
  have hmode1 : s.chip.fcMode p ≠ 1 := by rw [hmode]; decide
  rw [← fcState_of_pfc hmode1] at he hon hst ⊢
  refine does_flowControlFrameTx (p := ⟨p, by omega⟩) hup hstop hlink (by rw [hmode]; decide) hst ((padded_pfc hmode1).trans ?_)
  rw [pcpsOf_eq he, pcpsOf_eq hon, hb]

theorem does_flowControlRepeat_pfc {e : BitVec 8} (hup : s.chip.up (macDom p) = true) (hstop : s.chip.txStop p = false)
    (hlink : s.chip.link p = true) (hfc : s.chip.rf rMAC_FC p 0 1 0 = 2) (hboth : (s.chip.mac p).fcSent &&& s.chip.asrtCls p ≠ 0)
    (he : ∀ i : Fin 8, e.getLsbD i = (List.range 4).any fun t =>
      ((s.chip.mac p).fcSent &&& s.chip.asrtCls p).getLsbD t && (s.chip.pfcSet p t).getLsbD i)
    (hb : b = [0x01, 0x80, 0xC2, 0, 0, 1] ++ addrBytes (s.chip.rd rMAC_ADDR_LO p) (s.chip.rd rMAC_ADDR_HI p) ++ [0x88, 0x08, 1, 1] ++ natBE 2 e.toNat
      ++ ((List.range 8).flatMap fun i => natBE 2 (if e.getLsbD i = true then s.chip.rf rPAUSE_QUANTA p 0 15 0 else 0)) ++ List.replicate 26 0) :
    Does s (exec (.flowControlRepeat ⟨p, by omega⟩) s) (FcLeaves s p ((s.chip.mac p).sent 64) b) := by
  have hmode := fcMode_of_pfc (by omega) hfc
  have hmode1 : s.chip.fcMode p ≠ 1 := by rw [hmode]; decide
  rw [← fcState_of_pfc hmode1] at he hboth
  refine does_flowControlRepeat (p := ⟨p, by omega⟩) hup hstop hlink (by rw [hmode]; decide) hboth ((padded_pfc hmode1).trans ?_)
  rw [pcpsOf_eq he, hb]

end

/-- Settles O15: both commands send the frame that `sendFc` spells, whose PCP sets are told bit by bit. -/
theorem flowControlSent : Obligations.flow_control_sent := by
  unfold Obligations.flow_control_sent
  refine ⟨fun s p on b hup hstop hlink hfc hon hsent hb => (does_flowControlFrameTx_pause hup hstop hlink hfc hon hsent hb).mono fun _ h => h.all,
    fun s p hup hstop hlink hmode hst => (does_flowControlFrameTx hup hstop hlink hmode hst rfl).mono fun _ h => ?_,
    fun _ _ => does_flowControlFrameTx_sent,
    fun s p b hup hstop hlink hfc hon hsent hb => (does_flowControlRepeat_pause hup hstop hlink hfc hon hsent hb).mono fun _ h => h.all,
    fun s p e on b hup hstop hlink hfc hst he hon hb => (does_flowControlFrameTx_pfc hup hstop hlink hfc hst he hon hb).mono fun _ h => h.all,
    fun s p e b hup hstop hlink hfc hboth he hb => (does_flowControlRepeat_pfc hup hstop hlink hfc hboth he hb).mono fun _ h => h.all,
    fun _ _ => does_flowControlRepeat_none⟩
  obtain ⟨hlen, hdrop⟩ := h.sent
  exact ⟨congrArg Mac.fcSent h.mac, hlen, hdrop, h.pauses, h.frame⟩

end Sys2Proof.Machine

/-! SUPPORT. What the Cellar's clients and the forwarding of slices leave unchanged: of the registers all but the Cellar's, the bus
error's, the Trellis's counters and their reports', and of the rest all but memory, its codewords, the queues' resets, the reports, the
Trellis and the wire (spec/05 R146..R170; spec/13 R406, R407). -/

namespace Sys2Proof.Machine

/-! ## The frame -/

/-- The registers that accesses to the Cellar and the forwarding of slices can change. -/
def storeRegs : List Nat :=
  [0, 1, 2, 4, 5, 6].map (rCEL_CNT.addr · 0) ++ [0, 1, 2].map (rCEL_RES.addr · 0) ++ [0, 1, 2].map (rTRL_CNT.addr · 0)
    ++ [rCEL_STATUS, rECC_INFO, rECC_ADDR, rECC_INJ, rBUSERR_INFO, rBUSERR_ADDR, rTRL_STATUS].map (·.addr 0 0)
    ++ logRegs 0x00 ++ logRegs 0x06 ++ logRegs 0x0E

/-- The interrupts they can raise. -/
def storeIrqs : List Nat := [1, 56, 57, 58, 59, 62, 187, 209]

/-- The module beside memory, its codewords, the queues' resets, reports, the Trellis and the wire. -/
def storeView (r : Chip) : Chip := { r with mem := [], sram := {}, cel := {}, err := {}, que := {}, trl := {}, wire := [] }

/-- The frame of an access to memory, of one that may end in a bus error, and of a slice sent. -/
abbrev Chip.KeepsStore (c d : Chip) : Prop := c.Keeps storeView storeRegs storeIrqs d

section

variable {a c d : Chip}

theorem Chip.Keeps.storeLog (h : a.KeepsStore c) {src code : Nat} {x : Word} (hs : src ∈ [0x00, 0x06, 0x0E]) : a.KeepsStore (c.log src code x) := by
  have hregs : ∀ src ∈ [0x00, 0x06, 0x0E], ∀ n ∈ logRegs src, n ∈ storeRegs := by decide
  exact Chip.Keeps.log h (fun _ _ => rfl) (hregs src hs) (by decide)

/-! ## Codewords (R146..R153) -/

theorem countSec_keeps (c : Chip) (n : Nat) : c.KeepsStore (c.countSec n) := by
  have hsecond : ∀ x : CelSt, c.KeepsStore { c with cel := x } := fun _ => .of_eq .refl rfl rfl rfl
  have hcount : ∀ x : CelSt, c.KeepsStore ({ c with cel := x }.inc rCEL_CNT 0 0) := fun x => .wr (hsecond x) _ (by decide)
  exact .ite (.irq (.storeLog (hcount _) (by decide)) (by decide)) (hcount _)

theorem poisonRead_keeps (c : Chip) (n : Nat) : c.KeepsStore (c.poisonRead n) :=
  .irq (.storeLog (.wr .refl _ (by decide)) (by decide)) (by decide)

theorem queueWb_keeps (c : Chip) (n : Nat) (v : Word) (poison : Bool) : c.KeepsStore (c.queueWb n v poison) := .of_eq .refl rfl rfl rfl

theorem doubleError_keeps (c : Chip) (who : CelReader) (n : Nat) (v : Word) : c.KeepsStore (c.doubleError who n v) := by
  have hcount : c.KeepsStore ((c.inc rCEL_CNT 1 0).wb rCEL_STATUS 0 0 6 true) := .wr (.wr .refl _ (by decide)) _ (by decide)
  refine .trans (.irq (.storeLog (.ite hcount (.wr (.wr hcount _ (by decide)) _ (by decide))) (by decide)) (by decide)) (queueWb_keeps ..)

theorem celRead_keeps (c : Chip) (who : CelReader) (n : Nat) : c.KeepsStore (c.celRead who n).1 := by
  unfold Chip.celRead
  dsimp only
  split
  · exact poisonRead_keeps c n
  · split
    · exact .refl
    · exact .ite (.trans (countSec_keeps c n) (queueWb_keeps ..)) (countSec_keeps c n)
    · have hread := (countSec_keeps c n).trans (poisonRead_keeps _ n)
      exact .ite (hread.trans (queueWb_keeps ..)) hread
    · exact poisonRead_keeps c n
    · exact doubleError_keeps ..

theorem setBytes_keeps (l : List Byte) (c : Chip) (n : Nat) : c.KeepsStore (c.setBytes n l) := by
  rw [Chip.setBytes_eq]
  exact .of_eq .refl rfl rfl rfl

theorem setEcc_keeps (c : Chip) (n : Nat) (e : BitVec 8) : c.KeepsStore (c.setEcc n e) := .of_eq .refl rfl rfl rfl

theorem cancelWb_keeps (c : Chip) (n : Nat) : c.KeepsStore (c.cancelWb n) :=
  .ite .refl (Chip.Keeps.of_eq (.wr (r := rCEL_CNT) (i := 6) (j := 0) .refl _ (by decide)) rfl rfl rfl)

theorem celStore_keeps (c : Chip) (secure : Bool) (n : Nat) (v : Word) : c.KeepsStore (c.celStore secure n v) := by
  have hword : c.KeepsStore ((c.cancelWb n).setWord n v) := (cancelWb_keeps c n).trans (setBytes_keeps ..)
  exact .ite (.wr (hword.trans (setEcc_keeps ..)) _ (by decide)) (hword.trans (setEcc_keeps ..))

theorem celNarrow_keeps (c : Chip) (m : Master) (secure : Bool) (n o : Nat) (l : List Byte) : c.KeepsStore (c.celNarrow m secure n o l).1 := by
  have hread := celRead_keeps c (.master m) n
  unfold Chip.celNarrow
  split
  next c' v bad e =>
  rw [e] at hread
  split
  · exact hread
  · exact hread.trans (celStore_keeps ..)

/-! ## Clients (R154..R157, R165..R170) -/

theorem celDeny_keeps (c : Chip) (n : Nat) : c.KeepsStore (c.celDeny n) :=
  .irq (.storeLog (.wr .refl _ (by decide)) (by decide)) (by decide)

theorem celWake_keeps (c : Chip) : c.KeepsStore c.celWake := by
  have hres : ∀ k < 3, rCEL_RES.addr k 0 ∈ storeRegs := by decide
  have hlt : c.pstate - 1 < 3 := by
    have : c.pstate < 4 := Nat.mod_lt _ (by decide)
    omega
  refine .ite .refl (Chip.Keeps.of_eq (c := (c.incSat rCEL_RES (c.pstate - 1) 0 ((c.now - c.cel.since) / 1000)).wf rCEL_STATUS 0 0 4 3 0) ?_ rfl rfl rfl)
  exact .wr (.wr .refl _ (hres _ hlt)) _ (by decide)

theorem tolCheck_keeps (c : Chip) (m : Master) : c.KeepsStore (c.tolCheck m) :=
  .ite (.irq (.storeLog (.wr .refl _ (by decide)) (by decide)) (by decide)) .refl

theorem celClientRead_keeps (c : Chip) (m : Master) (secure : Bool) (n : Nat) : c.KeepsStore (c.celClientRead m secure n).1 := by
  have hread := ((tolCheck_keeps c m).trans (celWake_keeps _)).trans (celRead_keeps _ (.master m) n)
  unfold Chip.celClientRead
  split
  · exact .refl
  · split
    · exact celDeny_keeps c n
    · split
      next c' v bad e =>
      rw [e] at hread
      split <;> exact hread

theorem celWriteLoop_keeps (m : Master) (secure : Bool) (k : Nat) (c : Chip) (n : Nat) (l : List Byte) (r : CelRes) :
    c.KeepsStore (c.celWriteLoop m secure k n l r).1 := by
  induction k generalizing c n l r with
  | zero => exact .refl
  | succ k ih =>
    cases l with
    | nil => exact .refl
    | cons b t =>
      unfold Chip.celWriteLoop
      dsimp only
      split
      · exact .trans (.ite .refl (celDeny_keeps ..)) (ih ..)
      · split
        · exact (celStore_keeps ..).trans (ih ..)
        · exact (celNarrow_keeps ..).trans (ih ..)

theorem celPost_keeps (c : Chip) (n : Nat) : c.KeepsStore (c.celPost n) := by
  have hposted : c.KeepsStore { c with cel := { c.cel with posted := c.cel.posted + n } } := .of_eq .refl rfl rfl rfl
  exact .ite .refl (.ite (hposted.trans (celWake_keeps _)) hposted)

theorem celClientWrite_keeps (c : Chip) (m : Master) (secure : Bool) (n : Nat) (l : List Byte) : c.KeepsStore (c.celClientWrite m secure n l).1 := by
  have hloop := (tolCheck_keeps c m).trans (celWriteLoop_keeps m secure (l.length + 2) (c.tolCheck m) n l .ok)
  unfold Chip.celClientWrite
  split
  · exact .refl
  · exact .ite hloop (hloop.trans (celPost_keeps ..))

theorem celGet_keeps (c : Chip) (m : Master) (n : Nat) : c.KeepsStore (c.celGet m n).1 := by
  have hread := celClientRead_keeps c m false n
  unfold Chip.celGet
  split <;> (next e => rw [e] at hread; exact hread)

theorem celGets_keeps (m : Master) (k : Nat) (c : Chip) (n : Nat) : c.KeepsStore (c.celGets m n k).1 := by
  induction k generalizing c n with
  | zero => exact .refl
  | succ k ih => exact (celGet_keeps c m n).trans (ih ..)

theorem celWords_keeps (m : Master) (k : Nat) (c : Chip) (n : Nat) : c.KeepsStore (c.celWords m n k).1 := by
  induction k generalizing c n with
  | zero => exact .refl
  | succ k ih => exact (celClientRead_keeps c m false n).trans (ih ..)

theorem celBytes_keeps (c : Chip) (m : Master) (n k : Nat) : c.KeepsStore (c.celBytes m n k).1 := by
  have hwords : c.KeepsStore (bytesBy (c.celWords m) n k).1 := celWords_keeps ..
  unfold Chip.celBytes
  dsimp only
  split
  · exact .of_eq hwords rfl rfl rfl
  · exact hwords

/-! ## Bus errors (R31, R152, R153) -/

theorem busErr_keeps (c : Chip) (m : Master) (secure write : Bool) (addr : Word) (cause : Nat) : c.KeepsStore (c.busErr m secure write addr cause) := by
  have hfail : c.KeepsStore c.busFail := .of_eq .refl rfl rfl rfl
  cases h : c.rb rBUSERR_INFO 0 0 31 with
  | true =>
    rw [busErr_of_valid h]
    exact .irq (.storeLog (.wr hfail _ (by decide)) (by decide)) (by decide)
  | false =>
    rw [busErr_of_not_valid h]
    exact .irq (.storeLog (.wr (.wr hfail _ (by decide)) _ (by decide)) (by decide)) (by decide)

theorem celWrite_keeps (c : Chip) (m : Master) (secure : Bool) (n : Nat) (l : List Byte) : c.KeepsStore (c.celWrite m secure n l).1 :=
  have hwrite := celClientWrite_keeps c m secure n l
  Chip.Keeps.ite (hwrite.trans (busErr_keeps ..)) hwrite

theorem celPut_keeps (c : Chip) (m : Master) (n : Nat) (l : List Byte) : c.KeepsStore (c.celPut m n l) := celWrite_keeps ..

/-! ## Slices forwarded (R406, R407) -/

theorem trlSend_keeps (c : Chip) (down : Bool) (type dest : Nat) (bcast : Bool) (body : List Word) :
    c.KeepsStore (c.trlSend down type dest bcast body) := by
  have hseq : c.KeepsStore { c with trl := { c.trl with mseq := c.trl.mseq + 1 } } := .of_eq .refl rfl rfl rfl
  exact .ite (.ite (.of_eq hseq rfl rfl rfl) (.of_eq hseq rfl rfl rfl)) hseq

theorem sliceRow_keeps (dest dcanv fmt row : Nat) (k : Nat) (c : Chip) (col : Nat) (l : List Byte) :
    c.KeepsStore (c.sliceRow dest dcanv fmt row k col l) := by
  induction k generalizing c col l with
  | zero => exact .refl
  | succ k ih => exact .ite .refl ((trlSend_keeps ..).trans (ih ..))

theorem sliceSend_keeps (c : Chip) (cv b s : Nat) : c.KeepsStore (c.sliceSend cv b s) :=
  .each .refl _ _ fun e _ _ => (celBytes_keeps e .trellis _ _).trans (sliceRow_keeps ..)

theorem sliceAbandon_keeps (c : Chip) (n : Nat) : c.KeepsStore (c.sliceAbandon n) :=
  .irq (.storeLog (.wr .refl _ (by decide)) (by decide)) (by decide)

theorem setFwd_keeps (c : Chip) (cv : Nat) (x : SlFwd) : c.KeepsStore (c.setFwd cv x) := .of_eq .refl rfl rfl rfl

theorem sliceStart_keeps (c : Chip) (cv b : Nat) : c.KeepsStore (c.sliceStart cv b) := by
  have hdesc := celGets_keeps .trellis 5 c (0x96000000 + 0x80 * cv + 0x20 * (b + 1))
  unfold Chip.sliceStart
  dsimp only
  split
  · exact setFwd_keeps ..
  · split
    · next e =>
      rw [e] at hdesc
      exact (hdesc.trans (sliceAbandon_keeps ..)).trans (setFwd_keeps ..)
    · next e =>
      rw [e] at hdesc
      exact .each (hdesc.trans (setFwd_keeps ..)) _ _ fun _ _ _ => sliceSend_keeps ..

theorem sliceNext_keeps (c : Chip) (cv : Nat) : c.KeepsStore (c.sliceNext cv) := by
  unfold Chip.sliceNext
  split
  · exact sliceStart_keeps ..
  · exact setFwd_keeps ..

theorem sliceCheck_keeps (c : Chip) (cv : Nat) : c.KeepsStore (c.sliceCheck cv) := by
  have hstate := celGet_keeps c .trellis (0x96000000 + 0x80 * cv)
  unfold Chip.sliceCheck
  split
  · exact .refl
  · split
    · next e =>
      rw [e] at hstate
      exact hstate
    · next e =>
      rw [e] at hstate
      exact .ite hstate ((hstate.trans (sliceAbandon_keeps ..)).trans (sliceNext_keeps ..))

end

end Sys2Proof.Machine

/-! SUPPORT. The registers of the merge slots, and writes that only store (spec/03 R101, R104, R105). -/

namespace Sys2Proof.Machine

/-! ## Writes that only store -/

/-- A register no bit of which a write sets or clears. -/
theorem RegRow.merge_none {r : RegRow} (h : r.rw = 0) (h2 : r.w1c = 0) (o v : Word) : r.merge o v = o := by
  simp only [RegRow.merge, h, h2]
  rw [show BitVec.ofNat 32 0 = 0#32 from rfl]
  simp only [BitVec.not_zero, BitVec.and_zero, BitVec.or_zero, BitVec.and_allOnes]

/-- What a write that only stores leaves. -/
def Stores (s : State) (r : RegRow) (i j : Nat) (v : Word) (c : Chip) : Prop :=
  c.rest = s.chip.rest ∧ c.rd r i j = r.merge (s.chip.rd r i j) v ∧ Frame [r.addr i j] [] s.chip c

section

variable {s : State} {c : Chip} {a : Access} {r : RegRow} {i j : Nat} {v : Word}

/-- A register of row `r` as a write of `v` leaves it, before what the register does beyond. -/
abbrev Chip.written (c : Chip) (r : RegRow) (i j : Nat) (v : Word) : Chip := c.stored r i j (r.merge (c.rd r i j) v)

theorem written_rd (c : Chip) (r : RegRow) (i j : Nat) (v : Word) : (c.written r i j v).rd r i j = r.merge (c.rd r i j) v := Chip.rd_wr_same ..

theorem written_regs (c : Chip) (r : RegRow) (i j : Nat) (v : Word) : SameRegs [r.addr i j] c (c.written r i j v) := (stored_keeps ..).sameRegs

/-- A field that a write sets, once written. -/
theorem written_rf {hi lo : Nat} (h : hi < 32) (hr : ∀ k, lo ≤ k → k ≤ hi → Nat.testBit r.rw k = true ∧ Nat.testBit r.w1c k = false) :
    (c.written r i j v).rf r i j hi lo = fld v hi lo := by
  rw [Chip.rf, written_rd, RegRow.fld_merge h hr]

/-- A bit that a write sets, once written. -/
theorem written_rb {k : Nat} (h : k < 32) (hr : Nat.testBit r.rw k = true ∧ Nat.testBit r.w1c k = false) :
    (c.written r i j v).rb r i j k = bit v k := by
  rw [Chip.rb, written_rd, RegRow.bit_merge h, hr.1, hr.2]
  simp

theorem does_written {w : Chip} {P : Chip → Prop} (h : r.stands i j) (ht : s.chip.takes a r i j v) (hk : (r.hook == .cmpCtrl) = false)
    (hw : (s.chip.counted.written r i j v).afterWrite a r i j (s.chip.rd r i j) v = w) (hP : P (settle w)) : Does s (wrReg a r i j v s) P :=
  does_write h ht hk hw hP

theorem does_stored (h : r.stands i j) (ht : s.chip.takes a r i j v) (hk : (r.hook == .cmpCtrl) = false)
    (hw : (s.chip.counted.written r i j v).afterWrite a r i j (s.chip.rd r i j) v = s.chip.counted.written r i j v) :
    Does s (wrReg a r i j v s) (Stores s r i j v) :=
  does_written h ht hk hw ⟨rfl, written_rd .., (stored_keeps s.chip.counted ..).frame⟩

end

/-! ## A merge slot enabled (R101, R105) -/

section

variable {s : State} {c : Chip} {a : Access} {i : Fin 16} {v : Word}

/-- Slot `i` with an empty window and no path down. -/
def Chip.mrgFresh (c : Chip) (i : Nat) : Chip := ((c.setMrg i {}).wb rMRG_CTRL i 0 29 false).wb rMRG_CTRL i 0 28 false

/-- The registers of the slot's counters. -/
def mrgCntRegs (i : Nat) : List Nat := (List.range 8).map (rMRG_CNT.addr i)

/-- Slot `i` with its counters cleared. -/
def Chip.mrgZeroed (c : Chip) (i : Nat) : Chip := c.each (List.range 8) fun c j => c.wr rMRG_CNT i j 0

theorem mrgZeroed_keeps (c : Chip) (i : Nat) : c.Keeps id (mrgCntRegs i) [] (c.mrgZeroed i) :=
  .each .refl _ _ fun _ _ hj => .wr .refl 0 (List.mem_map_of_mem hj)

theorem mrgZeroed_count {i j : Nat} (hj : j < 8) : (c.mrgZeroed i).rd rMRG_CNT i j = 0 := rd_each_clear (.inl (List.mem_range.mpr hj))

theorem mrgCtrl_of_rise {i : Nat} {old : Word} (hold : bit old 31 = false) (hv : bit v 31 = true) : c.mrgCtrl i old v = (c.mrgFresh i).mrgZeroed i :=
  if_pos (by rw [hv, hold]; rfl)

theorem mrgCtrl_of_enabled {i : Nat} {old : Word} (hold : bit old 31 = true) : c.mrgCtrl i old v = c :=
  if_neg (by rw [hold]; simp)

theorem mrgFresh_ctrl (c : Chip) (i : Nat) : (c.mrgFresh i).rd rMRG_CTRL i = setBit (setBit (c.rd rMRG_CTRL i) 29 false) 28 false := by
  rw [Chip.mrgFresh, Chip.rd_wb_same, Chip.rd_wb_same, Chip.rd_setMrg]

theorem mrgFresh_regs (c : Chip) (i : Nat) : SameRegs [rMRG_CTRL.addr i 0] c (c.mrgFresh i) :=
  .wb (.wb (.setMrg (.refl _ c) i {}) 29 false (by simp)) 28 false (by simp)

/-- Bit 31 of a written value that names EN. -/
theorem bit_enabled (v : Word) : bit (v ||| 0x80000000) 31 = true := bit_or_of_bit (by decide)

theorem does_mrgSlotEnable (ht : s.chip.takes a rMRG_CTRL i 0 (v ||| 0x80000000)) (hold : s.chip.rb rMRG_CTRL i 0 31 = false) :
    Does s (exec (.mrgSlotEnable a i v) s) fun c =>
      c.rest = { s.chip.rest with mrgs := mset ({} : Mrg) s.chip.mrgs i {} } ∧ c.rb rMRG_CTRL i 0 31 = true
      ∧ c.rb rMRG_CTRL i 0 29 = false ∧ c.rb rMRG_CTRL i 0 28 = false ∧ c.rf rMRG_CTRL i 0 14 0 = fld v 14 0 ∧ (∀ j < 8, c.rd rMRG_CNT i j = 0)
      ∧ Frame (rMRG_CTRL.addr i 0 :: (List.range 8).map (rMRG_CNT.addr i)) [] s.chip c := by
  have hout : ∀ i : Fin 16, rMRG_CTRL.addr i 0 ∉ mrgCntRegs i := by decide
  have hzero := mrgZeroed_keeps ((s.chip.counted.written rMRG_CTRL i 0 (v ||| 0x80000000)).mrgFresh i) i
  have hctrl : (((s.chip.counted.written rMRG_CTRL i 0 (v ||| 0x80000000)).mrgFresh i).mrgZeroed i).rd rMRG_CTRL i
      = setBit (setBit (rMRG_CTRL.merge (s.chip.rd rMRG_CTRL i) (v ||| 0x80000000)) 29 false) 28 false := by
    rw [hzero.rd (hout i), mrgFresh_ctrl, written_rd]
    rfl
  have hfresh := SameRegs.trans (written_regs s.chip.counted rMRG_CTRL i 0 (v ||| 0x80000000)) (mrgFresh_regs _ i)
  refine does_written (rMRG_CTRL_stands i) ht rfl (mrgCtrl_of_rise hold (bit_enabled v)) ⟨?_, ?_, ?_, ?_, ?_, fun j hj => (rd_settle ..).trans (mrgZeroed_count hj),
    ((hfresh.mono (by simp)).trans (hzero.sameRegs.mono (fun _ => List.mem_cons_of_mem _))).settle, ?_⟩
  · exact (rest_settle _).trans (hzero.sameView.trans rfl)
  · rw [Chip.rb, rd_settle, hctrl, bit_setBit_other _ _ (by decide), bit_setBit_other _ _ (by decide), RegRow.bit_merge (by decide), bit_enabled]
    simp [rMRG_CTRL, Nat.testBit]
  · rw [Chip.rb, rd_settle, hctrl, bit_setBit_other _ _ (by decide), bit_setBit_same _ _ (by decide)]
  · rw [Chip.rb, rd_settle, hctrl, bit_setBit_same _ _ (by decide)]
  · rw [Chip.rf, rd_settle, hctrl, fld_setBit_other _ _ (by decide), fld_setBit_other _ _ (by decide), RegRow.fld_merge (by decide) (by decide),
      fld_or_other (by decide)]
  · exact hzero.sameIrqs.settle

theorem does_mrgSlotEnable_enabled (ht : s.chip.takes a rMRG_CTRL i 0 (v ||| 0x80000000)) (hold : s.chip.rb rMRG_CTRL i 0 31 = true) :
    Does s (exec (.mrgSlotEnable a i v) s) (Stores s rMRG_CTRL i 0 (v ||| 0x80000000)) :=
  does_stored (rMRG_CTRL_stands i) ht rfl (mrgCtrl_of_enabled hold)

/-! ## SKEWMAX (R104) -/

theorem does_skewmaxWrite (ht : s.chip.takes a rMRG_SKEWMAX i 0 v) : Does s (exec (.skewmaxWrite a i v) s) fun c =>
    c.rest = s.chip.rest ∧ c.rd rMRG_SKEWMAX i = (if v = 0 then 0 else s.chip.rd rMRG_SKEWMAX i) ∧ Frame [rMRG_SKEWMAX.addr i 0] [] s.chip c := by
  have hkept : (s.chip.counted.written rMRG_SKEWMAX i 0 v).rd rMRG_SKEWMAX i = s.chip.rd rMRG_SKEWMAX i :=
    (written_rd ..).trans (RegRow.merge_none rfl rfl _ _)
  by_cases hv : v = 0
  · rw [if_pos hv]
    exact does_written (rMRG_SKEWMAX_stands i) ht rfl (if_pos hv)
      ⟨rfl, (rd_settle ..).trans (Chip.rd_wr_same ..), ((stored_keeps s.chip.counted ..).wr (r := rMRG_SKEWMAX) (i := i) (j := 0) 0 (by simp)).frame⟩
  · rw [if_neg hv]
    exact does_written (rMRG_SKEWMAX_stands i) ht rfl (if_neg hv) ⟨rfl, hkept, (stored_keeps s.chip.counted ..).frame⟩

end

end Sys2Proof.Machine

/-! SUPPORT. Canvases enabled, disabled and given their timeout (spec/03 R114, R132, R593). -/

namespace Sys2Proof.Machine

section

variable {s : State} {c d : Chip} {a : Access} {cv : Fin 4} {v old : Word}

/-! ## The registers of ING beside those of the Cellar -/

/-- No register of ING is one of those that accesses to the Cellar change. -/
theorem not_storeRegs_of_ing {n : Nat} (h : 0x10050000 ≤ n ∧ n < 0x10060000) : n ∉ storeRegs := by
  have hall : ∀ n ∈ storeRegs, n < 0x10050000 ∨ 0x10060000 ≤ n := by decide
  intro hn
  have := hall n hn
  omega

theorem canvStat_ing (k : Fin 4) : rCANV_STAT.addr k 0 ∉ storeRegs := by
  revert k; decide

theorem canvStat_ne_ctrl (j k : Fin 4) : rCANV_STAT.addr j 0 ≠ rCANV_CTRL.addr k 0 := by
  revert j k; decide

theorem canvCtrl_ne_stat (j k : Fin 4) : rCANV_CTRL.addr j 0 ≠ rCANV_STAT.addr k 0 := (canvStat_ne_ctrl k j).symm

/-! ## EN 0 to 1 (R114) -/

/-- Canvas `cv`'s buffers stand as R114 asks, apart from every other enabled canvas's. -/
def Chip.canvRoom (c : Chip) (cv : Nat) : Bool := (c.geom cv).fits && ([0, 1, 2, 3].all fun k => k = cv || !c.canvOn k || (c.geom cv).apart (c.geom k))

theorem canvRoom_iff : c.canvRoom cv = true
    ↔ (c.geom cv).fits = true ∧ ∀ k : Fin 4, k ≠ cv → c.canvOn k = true → (c.geom cv).apart (c.geom k) = true := by
  have hmem : ∀ k : Fin 4, k.val ∈ [0, 1, 2, 3] := by decide
  rw [Chip.canvRoom, Bool.and_eq_true, List.all_eq_true]
  refine and_congr_right fun _ => ⟨fun h k hk hon => ?_, fun h k hk => ?_⟩
  · have hv : k.val ≠ cv.val := fun e => hk (Fin.ext e)
    simpa [hv, hon] using h k (hmem k)
  · have hlt : k < 4 := by
      simp only [List.mem_cons, List.not_mem_nil, or_false] at hk
      omega
    by_cases hv : k = cv
    · simp [hv]
    · cases hon : c.canvOn k with
      | false => simp
      | true => simp [h ⟨k, hlt⟩ (fun e => hv (congrArg Fin.val e)) hon]

/-- A rise of EN of a follower's destination canvas. -/
def Chip.canvBarred (c : Chip) (cv : Nat) : Bool := c.pos ≠ 0 && c.rb rTRL_DCANV cv 0 31

/-- A canvas enabled, and one that does not fit. -/
def Chip.canvStarted (c : Chip) (cv : Nat) : Chip := (c.wb rCANV_STAT cv 0 3 false).setCanv cv { since := c.now }
def Chip.canvNoFit (c : Chip) (cv : Nat) : Chip := (c.wb rCANV_CTRL cv 0 31 false).wb rCANV_STAT cv 0 3 true

theorem canvCtrl_of_rise (hold : bit old 31 = false) (hv : bit v 31 = true) (hbar : c.canvBarred cv = false) :
    c.canvCtrl cv old v = if c.canvRoom cv then c.canvStarted cv else c.canvNoFit cv :=
  (if_pos (by rw [hv, hold]; rfl)).trans (if_neg (Bool.eq_false_iff.mp hbar))

theorem canvCtrl_of_barred (hold : bit old 31 = false) (hv : bit v 31 = true) (hbar : c.canvBarred cv = true) :
    c.canvCtrl cv old v = c.wb rCANV_CTRL cv 0 31 false :=
  (if_pos (by rw [hv, hold]; rfl)).trans (if_pos hbar)

theorem canvCtrl_of_same (h : bit old 31 = bit v 31) : c.canvCtrl cv old v = c := by
  have hon : (bit v 31 && !bit v 31) = false := by cases bit v 31 <;> rfl
  have hoff : (!bit v 31 && bit v 31) = false := by cases bit v 31 <;> rfl
  rw [← h] at hon hoff
  exact (if_neg (by rw [← h, hon]; exact Bool.false_ne_true)).trans (if_neg (by rw [← h, hoff]; exact Bool.false_ne_true))

/-- A canvas's geometry is its format, size and bases. -/
theorem geom_congr {k : Nat} (hfmt : d.rf rCANV_CTRL k 0 1 0 = c.rf rCANV_CTRL k 0 1 0) (hsize : d.rd rCANV_SIZE k = c.rd rCANV_SIZE k)
    (hbase : ∀ b < 3, d.rd rCANV_BASE k b = c.rd rCANV_BASE k b) : d.geom k = c.geom k := by
  have hfield : ∀ hi lo, d.rf rCANV_SIZE k 0 hi lo = c.rf rCANV_SIZE k 0 hi lo := fun hi lo => congrArg (fld · hi lo) hsize
  rw [Chip.geom, hfmt, hfield, hfield, hbase 0 (by decide), hbase 1 (by decide), hbase 2 (by decide), ← Chip.geom]

/-- The registers a rise of EN can change. -/
def canvEnRegs (cv : Nat) : List Nat := [rCANV_CTRL.addr cv 0, rCANV_STAT.addr cv 0]

section Same

variable (h : SameRegs (canvEnRegs cv) c d)
include h

theorem same_geom (hfmt : d.rf rCANV_CTRL cv 0 1 0 = c.rf rCANV_CTRL cv 0 1 0) : d.geom cv = c.geom cv := by
  have hsize : ∀ cv : Fin 4, rCANV_SIZE.addr cv 0 ∉ canvEnRegs cv := by decide
  have hbase : ∀ cv : Fin 4, ∀ b < 3, rCANV_BASE.addr cv b ∉ canvEnRegs cv := by decide
  exact geom_congr hfmt (h.rd (hsize cv)) fun b hb => h.rd (hbase cv b hb)

theorem same_other {k : Fin 4} (hk : k ≠ cv) : d.geom k = c.geom k ∧ d.canvOn k = c.canvOn k := by
  have hctrl : ∀ k cv : Fin 4, k ≠ cv → rCANV_CTRL.addr k 0 ∉ canvEnRegs cv := by decide
  have hsize : ∀ k cv : Fin 4, rCANV_SIZE.addr k 0 ∉ canvEnRegs cv := by decide
  have hbase : ∀ k cv : Fin 4, ∀ b < 3, rCANV_BASE.addr k b ∉ canvEnRegs cv := by decide
  exact ⟨geom_congr (h.rf 1 0 (hctrl k cv hk)) (h.rd (hsize k cv)) fun b hb => h.rd (hbase k cv b hb), h.rb 31 (hctrl k cv hk)⟩

theorem same_barred : d.canvBarred cv = c.canvBarred cv := by
  have hstrap : ∀ cv : Fin 4, rSTRAP.addr 0 0 ∉ canvEnRegs cv ∧ rTRL_DCANV.addr cv 0 ∉ canvEnRegs cv := by decide
  rw [Chip.canvBarred, Chip.pos, h.rf 2 0 (hstrap cv).1, h.rb 31 (hstrap cv).2, ← Chip.pos, ← Chip.canvBarred]

/-- The room of a canvas, told by its geometry at the end and the other canvases' before. -/
theorem same_room (hfmt : d.rf rCANV_CTRL cv 0 1 0 = fld v 1 0) {e : Chip} (he : SameRegs (canvEnRegs cv) d e)
    (hefmt : e.rf rCANV_CTRL cv 0 1 0 = fld v 1 0) : d.canvRoom cv = true
      ↔ (e.geom cv).fits = true ∧ ∀ k : Fin 4, k ≠ cv → c.canvOn k = true → (e.geom cv).apart (c.geom k) = true := by
  rw [canvRoom_iff, same_geom he (hefmt.trans hfmt.symm)]
  refine and_congr_right fun _ => forall_congr' fun k => forall_congr' fun hk => ?_
  obtain ⟨hgeom, hon⟩ := same_other h hk
  rw [hgeom, hon]

end Same

/-- CANV_CTRL of canvas `cv` written. -/
abbrev Chip.canvWritten (c : Chip) (cv : Nat) (v : Word) : Chip := c.written rCANV_CTRL cv 0 v

theorem canvWritten_regs (c : Chip) (cv : Nat) (v : Word) : SameRegs (canvEnRegs cv) c (c.canvWritten cv v) :=
  (stored_keeps c rCANV_CTRL cv 0 _).sameRegs.mono (by simp [canvEnRegs])

theorem canvWritten_fmt (c : Chip) (cv : Nat) (v : Word) : (c.canvWritten cv v).rf rCANV_CTRL cv 0 1 0 = fld v 1 0 :=
  written_rf (by decide) (by decide)

theorem canvWritten_on (c : Chip) (cv : Nat) (v : Word) : (c.canvWritten cv v).rb rCANV_CTRL cv 0 31 = bit v 31 :=
  written_rb (by decide) (by decide)

theorem canvStarted_regs (c : Chip) (cv : Nat) : SameRegs (canvEnRegs cv) c (c.canvStarted cv) :=
  (SameRegs.wb (.refl _ c) 3 false (by simp [canvEnRegs])).setCanv cv _

theorem canvNoFit_regs (c : Chip) (cv : Nat) : SameRegs (canvEnRegs cv) c (c.canvNoFit cv) :=
  .wb (.wb (.refl _ c) 31 false (by simp [canvEnRegs])) 3 true (by simp [canvEnRegs])

theorem canvStarted_ctrl (c : Chip) : (c.canvStarted cv).rd rCANV_CTRL cv = c.rd rCANV_CTRL cv := by
  rw [Chip.canvStarted, Chip.rd_setCanv, Chip.wb, Chip.rd_wr_other _ _ (canvCtrl_ne_stat cv cv)]

theorem canvNoFit_ctrl (c : Chip) : (c.canvNoFit cv).rd rCANV_CTRL cv = setBit (c.rd rCANV_CTRL cv) 31 false := by
  rw [Chip.canvNoFit, Chip.wb, Chip.rd_wr_other _ _ (canvCtrl_ne_stat cv cv), Chip.rd_wb_same]

theorem canvStarted_rest (c : Chip) (cv : Nat) : (c.canvStarted cv).rest = { c.rest with canvs := mset ({} : Canv) c.canvs cv { since := c.now } } := rfl

theorem canvStarted_noFit (c : Chip) (cv : Nat) : (c.canvStarted cv).rb rCANV_STAT cv 0 3 = false := Chip.rb_wb_same _ (by decide)

theorem canvNoFit_noFit (c : Chip) (cv : Nat) : (c.canvNoFit cv).rb rCANV_STAT cv 0 3 = true := Chip.rb_wb_same _ (by decide)

theorem does_canvasEnable_rise (ht : s.chip.takes a rCANV_CTRL cv 0 v) (hoff : s.chip.canvOn cv = false) (hv : bit v 31 = true)
    (hbar : s.chip.pos = 0 ∨ s.chip.rb rTRL_DCANV cv 0 31 = false) : Does s (exec (.canvasEnable a cv v) s) fun c =>
      c.rf rCANV_CTRL cv 0 1 0 = fld v 1 0
      ∧ ((c.geom cv).fits = true → (∀ k : Fin 4, k ≠ cv → s.chip.canvOn k = true → (c.geom cv).apart (s.chip.geom k) = true) →
          c.rd rCANV_CTRL cv = rCANV_CTRL.merge (s.chip.rd rCANV_CTRL cv) v ∧ c.canvOn cv = true ∧ c.rb rCANV_STAT cv 0 3 = false
          ∧ c.rest = { s.chip.rest with canvs := mset ({} : Canv) s.chip.canvs cv { since := s.chip.time.now } })
      ∧ ((c.geom cv).fits = false ∨ (∃ k : Fin 4, k ≠ cv ∧ s.chip.canvOn k = true ∧ (c.geom cv).apart (s.chip.geom k) = false) →
          c.rd rCANV_CTRL cv = setBit (rCANV_CTRL.merge (s.chip.rd rCANV_CTRL cv) v) 31 false ∧ c.rb rCANV_STAT cv 0 3 = true ∧ c.rest = s.chip.rest)
      ∧ Frame [rCANV_CTRL.addr cv 0, rCANV_STAT.addr cv 0] [] s.chip c := by
  have hbarred : s.chip.canvBarred cv = false := by
    obtain h | h := hbar <;> simp [Chip.canvBarred, h]
  have hregs := canvWritten_regs s.chip.counted cv v
  have hfmt := canvWritten_fmt s.chip.counted cv v
  have hrd : (s.chip.counted.canvWritten cv v).rd rCANV_CTRL cv = rCANV_CTRL.merge (s.chip.rd rCANV_CTRL cv) v := written_rd ..
  have hon := canvWritten_on s.chip.counted cv v
  have hctrl := canvCtrl_of_rise (c := s.chip.counted.canvWritten cv v) (cv := cv) hoff hv ((same_barred hregs).trans hbarred)
  have hrest : (s.chip.counted.canvWritten cv v).rest = s.chip.rest := rfl
  have hirqs : (s.chip.counted.canvWritten cv v).irqs = s.chip.irqs := rfl
  have hcanvs : (s.chip.counted.canvWritten cv v).canvs = s.chip.canvs := rfl
  have hnow : (s.chip.counted.canvWritten cv v).now = s.chip.time.now := rfl
  refine does_written (rCANV_CTRL_stands cv) ht rfl hctrl ?_
  generalize s.chip.counted.canvWritten cv v = d at *
  cases hroom : d.canvRoom cv with
  | true =>
    have hstarted := canvStarted_regs d cv
    have hfmt' : (d.canvStarted cv).rf rCANV_CTRL cv 0 1 0 = fld v 1 0 := by rw [Chip.rf, canvStarted_ctrl, ← Chip.rf, hfmt]
    rw [if_pos rfl]
    obtain ⟨hfits, hapart⟩ := (same_room hregs hfmt hstarted hfmt').mp hroom
    refine ⟨hfmt', fun _ _ => ⟨(canvStarted_ctrl d).trans hrd, ?_, canvStarted_noFit d cv, ?_⟩, fun hno => ?_, frame_settle (hregs.trans hstarted) hirqs⟩
    · exact (congrArg (bit · 31) (canvStarted_ctrl d)).trans (hon.trans hv)
    · rw [rest_settle, canvStarted_rest, hrest, hcanvs, hnow]
    · obtain hno | ⟨k, hk, hkon, hno⟩ := hno
      · exact absurd (hfits.symm.trans hno) (by decide)
      · exact absurd ((hapart k hk hkon).symm.trans hno) (by decide)
  | false =>
    have hnofit := canvNoFit_regs d cv
    have hfmt' : (d.canvNoFit cv).rf rCANV_CTRL cv 0 1 0 = fld v 1 0 := by
      rw [Chip.rf, canvNoFit_ctrl, fld_setBit_other _ _ (by decide), ← Chip.rf, hfmt]
    rw [if_neg Bool.false_ne_true]
    refine ⟨hfmt', fun hfits hapart => ?_, fun _ => ⟨(canvNoFit_ctrl d).trans (by rw [hrd]), canvNoFit_noFit d cv, hrest⟩,
      frame_settle (hregs.trans hnofit) hirqs⟩
    exact absurd (((same_room hregs hfmt hnofit hfmt').mpr ⟨hfits, hapart⟩).symm.trans hroom) (by decide)

theorem does_canvasEnable_barred (ht : s.chip.takes a rCANV_CTRL cv 0 v) (hoff : s.chip.canvOn cv = false) (hv : bit v 31 = true)
    (hpos : s.chip.pos ≠ 0) (hdst : s.chip.rb rTRL_DCANV cv 0 31 = true) : Does s (exec (.canvasEnable a cv v) s) fun c =>
      c.rest = s.chip.rest ∧ c.rd rCANV_CTRL cv = setBit (rCANV_CTRL.merge (s.chip.rd rCANV_CTRL cv) v) 31 false ∧ Frame [rCANV_CTRL.addr cv 0] [] s.chip c := by
  have hbarred : s.chip.canvBarred cv = true := by simp [Chip.canvBarred, hpos, hdst]
  have hkeeps := (stored_keeps s.chip.counted rCANV_CTRL cv 0 (rCANV_CTRL.merge (s.chip.rd rCANV_CTRL cv) v)).wb
    (r := rCANV_CTRL) (i := cv) (j := 0) 31 false (by simp)
  refine does_written (rCANV_CTRL_stands cv) ht rfl (canvCtrl_of_barred hoff hv ((same_barred (canvWritten_regs s.chip.counted cv v)).trans hbarred))
    ⟨rfl, ?_, hkeeps.frame⟩
  rw [rd_settle, Chip.rd_wb_same, written_rd]
  rfl

theorem does_canvasEnable_same (ht : s.chip.takes a rCANV_CTRL cv 0 v) (h : s.chip.canvOn cv = bit v 31) :
    Does s (exec (.canvasEnable a cv v) s) (Stores s rCANV_CTRL cv 0 v) :=
  does_stored (rCANV_CTRL_stands cv) ht rfl (canvCtrl_of_same h)

/-! ## EN 1 to 0 (R114, R593) -/

/-- A fold that resets what its turns name, where a condition that no turn changes holds. -/
theorem each_reset {α : Type} {cond : Chip → Nat → Bool} {put : Chip → Nat → Chip} {get : Chip → Nat → α} {x : α}
    (hcond : ∀ c u w, cond (put c u) w = cond c w) (hsame : ∀ c u, get (put c u) u = x) (hother : ∀ c u w, w ≠ u → get (put c u) w = get c w)
    (l : List Nat) (c : Chip) (w : Nat) :
    get (c.each l fun c u => if cond c u then put c u else c) w = if w ∈ l ∧ cond c w = true then x else get c w := by
  induction l generalizing c with
  | nil => simp [Chip.each]
  | cons u t ih =>
    rw [Chip.each_cons, ih]
    cases hu : cond c u with
    | false =>
      by_cases hw : w = u
      · subst hw
        simp [hu]
      · simp [hw]
    | true =>
      by_cases hw : w = u
      · subst hw
        simp [hu, hcond, hsame]
      · simp [hw, hcond, hother _ _ _ hw]

/-- The canvas `cv` stopped: a clean state word, fresh, no frame filling, nothing forwarded that has left it. -/
def Chip.canvStopped (c : Chip) (cv : Nat) : Chip :=
  ((((c.celPut .ingress (recAddr cv) [0, 0, 0, 0]).wb rCANV_STAT cv 0 2 false).wf rCANV_STAT cv 0 1 0 0).setCanv cv {}).sliceCheck cv

/-- Its universes and slots forgotten. -/
def Chip.unisForgotten (c : Chip) (cv : Nat) : Chip :=
  c.each (List.range 1024) fun c u => if c.rf rUNI_W0 u 0 17 16 = cv then c.setUni u {} else c
def Chip.slotsForgotten (c : Chip) (cv : Nat) : Chip :=
  c.each (List.range 32) fun c i => if c.rf rSLOT_CTRL i 0 24 23 = cv then c.setSlot i {} else c

theorem canvCtrl_of_fall (hold : bit old 31 = true) (hv : bit v 31 = false) :
    c.canvCtrl cv old v = ((c.canvStopped cv).unisForgotten cv).slotsForgotten cv :=
  (if_neg (by rw [hv]; exact Bool.false_ne_true)).trans (if_pos (by rw [hv, hold]; rfl))

/-- The module beside its universes and slots. -/
def mapless (r : Chip) : Chip := { r with unis := [], slots := [] }

theorem unisForgotten_keeps (c : Chip) (k : Nat) : c.Keeps (fun r => { r with unis := [] }) [] [] (c.unisForgotten k) :=
  .each .refl _ _ fun _ _ _ => .ite (.of_eq .refl rfl rfl rfl) .refl

theorem slotsForgotten_keeps (c : Chip) (k : Nat) : c.Keeps (fun r => { r with slots := [] }) [] [] (c.slotsForgotten k) :=
  .each .refl _ _ fun _ _ _ => .ite (.of_eq .refl rfl rfl rfl) .refl

theorem forgotten_keeps (c : Chip) (k : Nat) : c.Keeps mapless [] [] ((c.unisForgotten k).slotsForgotten k) :=
  ((unisForgotten_keeps c k).view mapless fun _ => rfl).trans ((slotsForgotten_keeps _ k).view mapless fun _ => rfl)

theorem uni_setUni_same (c : Chip) (u : Nat) (x : Uni) : (c.setUni u x).uni u = x := mget_mset_same ..

theorem uni_setUni_other {u w : Nat} (c : Chip) (x : Uni) (h : w ≠ u) : (c.setUni u x).uni w = c.uni w := mget_mset_other _ _ _ c.unis h

theorem slot_setSlot_same (c : Chip) (i : Nat) (x : SlotSt) : (c.setSlot i x).slot i = x := mget_mset_same ..

theorem slot_setSlot_other {i k : Nat} (c : Chip) (x : SlotSt) (h : k ≠ i) : (c.setSlot i x).slot k = c.slot k := mget_mset_other _ _ _ c.slots h

theorem unisForgotten_uni (c : Chip) (k : Nat) (u : Fin 1024) : (c.unisForgotten k).uni u = if c.rf rUNI_W0 u 0 17 16 = k then {} else c.uni u := by
  have hreset := each_reset (cond := fun c u => decide (c.rf rUNI_W0 u 0 17 16 = k)) (put := fun c u => c.setUni u {}) (get := Chip.uni) (x := ({} : Uni))
    (fun _ _ _ => rfl) (fun c u => uni_setUni_same c u {}) (fun c _ _ hw => uni_setUni_other c {} hw) (List.range 1024) c u
  simpa [Chip.unisForgotten] using hreset

theorem slotsForgotten_slot (c : Chip) (k : Nat) (i : Fin 32) : (c.slotsForgotten k).slot i = if c.rf rSLOT_CTRL i 0 24 23 = k then {} else c.slot i := by
  have hreset := each_reset (cond := fun c i => decide (c.rf rSLOT_CTRL i 0 24 23 = k)) (put := fun c i => c.setSlot i {}) (get := Chip.slot) (x := ({} : SlotSt))
    (fun _ _ _ => rfl) (fun c i => slot_setSlot_same c i {}) (fun c _ _ hw => slot_setSlot_other c {} hw) (List.range 32) c i
  simpa [Chip.slotsForgotten] using hreset

theorem forgotten_uni (c : Chip) (k : Nat) (u : Fin 1024) :
    ((c.unisForgotten k).slotsForgotten k).uni u = if c.rf rUNI_W0 u 0 17 16 = k then {} else c.uni u := by
  rw [Chip.uni, (slotsForgotten_keeps (c.unisForgotten k) k).same (fun r => r.unis) fun _ => rfl]
  exact unisForgotten_uni c k u

theorem forgotten_slot (c : Chip) (k : Nat) (i : Fin 32) :
    ((c.unisForgotten k).slotsForgotten k).slot i = if c.rf rSLOT_CTRL i 0 24 23 = k then {} else c.slot i := by
  have hkeeps := unisForgotten_keeps c k
  have hslot : (c.unisForgotten k).slot i = c.slot i := hkeeps.same (fun r => r.slot i) fun _ => rfl
  rw [slotsForgotten_slot, hslot, hkeeps.sameRegs.rf 24 23 (by simp)]

/-- The registers of ING that a stop leaves. -/
theorem canvStopped_rd {r : RegRow} {i j : Nat} (hr : 0x10050000 ≤ r.addr i j ∧ r.addr i j < 0x10060000) (hs : r.addr i j ≠ rCANV_STAT.addr cv 0) :
    (c.canvStopped cv).rd r i j = c.rd r i j := by
  have hout := not_storeRegs_of_ing hr
  rw [Chip.canvStopped, (sliceCheck_keeps ..).rd hout, Chip.rd_setCanv, Chip.wf, Chip.rd_wr_other _ _ hs, Chip.wb, Chip.rd_wr_other _ _ hs,
    (celPut_keeps ..).rd hout]

theorem canvStopped_stat (c : Chip) : (c.canvStopped cv).rb rCANV_STAT cv 0 2 = false ∧ (c.canvStopped cv).rf rCANV_STAT cv 0 1 0 = 0 := by
  have hstat : (c.canvStopped cv).rd rCANV_STAT cv
      = setFld (setBit ((c.celPut .ingress (recAddr cv) [0, 0, 0, 0]).rd rCANV_STAT cv) 2 false) 1 0 0 := by
    rw [Chip.canvStopped, (sliceCheck_keeps ..).rd (canvStat_ing cv), Chip.rd_setCanv, Chip.wf, Chip.rd_wr_same, Chip.rd_wb_same]
  rw [Chip.rb, Chip.rf, hstat]
  exact ⟨(bit_setFld_other _ _ (by decide)).trans (bit_setBit_same _ _ (by decide)), fld_setFld_same _ _ (by decide)⟩

theorem canvStopped_canvs (c : Chip) (k : Nat) : (c.canvStopped k).canvs = mset ({} : Canv) c.canvs k {} := by
  have hput : (c.celPut .ingress (recAddr k) [0, 0, 0, 0]).canvs = c.canvs := (celPut_keeps ..).same (fun r => r.canvs) fun _ => rfl
  rw [← hput]
  exact (sliceCheck_keeps ..).same (fun r => r.canvs) fun _ => rfl

theorem canvStopped_maps (c : Chip) (k : Nat) : (c.canvStopped k).unis = c.unis ∧ (c.canvStopped k).slots = c.slots :=
  ⟨((sliceCheck_keeps ..).same (fun r => r.unis) fun _ => rfl).trans ((celPut_keeps ..).same (fun r => r.unis) fun _ => rfl),
    ((sliceCheck_keeps ..).same (fun r => r.slots) fun _ => rfl).trans ((celPut_keeps ..).same (fun r => r.slots) fun _ => rfl)⟩

theorem uniW0_ing (u : Fin 1024) : (0x10050000 ≤ rUNI_W0.addr u 0 ∧ rUNI_W0.addr u 0 < 0x10060000)
    ∧ rUNI_W0.addr u 0 ≠ rCANV_STAT.addr cv 0 ∧ rUNI_W0.addr u 0 ≠ rCANV_CTRL.addr cv 0 := by
  have hu := u.isLt
  have hcv := cv.isLt
  simp only [RegRow.addr, rUNI_W0, rCANV_STAT, rCANV_CTRL]
  omega

theorem slotCtrl_ing (i : Fin 32) : (0x10050000 ≤ rSLOT_CTRL.addr i 0 ∧ rSLOT_CTRL.addr i 0 < 0x10060000)
    ∧ rSLOT_CTRL.addr i 0 ≠ rCANV_STAT.addr cv 0 ∧ rSLOT_CTRL.addr i 0 ≠ rCANV_CTRL.addr cv 0 := by
  have hi := i.isLt
  have hcv := cv.isLt
  simp only [RegRow.addr, rSLOT_CTRL, rCANV_STAT, rCANV_CTRL]
  omega

theorem uni_settle (c : Chip) (u : Nat) : (settle c).uni u = c.uni u := congrArg (mget ({} : Uni) · u) (settle_unis c)

theorem slot_settle (c : Chip) (i : Nat) : (settle c).slot i = c.slot i := congrArg (mget ({} : SlotSt) · i) (settle_slots c)

theorem canv_settle (c : Chip) (k : Nat) : (settle c).canv k = c.canv k := congrArg (mget ({} : Canv) · k) (settle_canvs c)

theorem does_canvasEnable_fall (ht : s.chip.takes a rCANV_CTRL cv 0 v) (hon : s.chip.canvOn cv = true) (hv : bit v 31 = false) :
    Does s (exec (.canvasEnable a cv v) s) fun c => c.rd rCANV_CTRL cv = rCANV_CTRL.merge (s.chip.rd rCANV_CTRL cv) v
      ∧ c.rb rCANV_STAT cv 0 2 = false ∧ c.rf rCANV_STAT cv 0 1 0 = 0 ∧ c.canv cv = {}
      ∧ (∀ u : Fin 1024, c.uni u = if s.chip.rf rUNI_W0 u 0 17 16 = cv then {} else s.chip.uni u)
      ∧ (∀ i : Fin 32, c.slot i = if s.chip.rf rSLOT_CTRL i 0 24 23 = cv then {} else s.chip.slot i) := by
  have hrd : (s.chip.counted.canvWritten cv v).rd rCANV_CTRL cv = rCANV_CTRL.merge (s.chip.rd rCANV_CTRL cv) v := written_rd ..
  have hregs : SameRegs [rCANV_CTRL.addr cv 0] s.chip.counted (s.chip.counted.canvWritten cv v) := written_regs s.chip.counted rCANV_CTRL cv 0 v
  have hunis : (s.chip.counted.canvWritten cv v).unis = s.chip.unis := rfl
  have hslots : (s.chip.counted.canvWritten cv v).slots = s.chip.slots := rfl
  refine does_written (rCANV_CTRL_stands cv) ht rfl (canvCtrl_of_fall (c := s.chip.counted.canvWritten cv v) hon hv) ?_
  generalize s.chip.counted.canvWritten cv v = d at *
  have hforgot := forgotten_keeps (d.canvStopped cv) cv
  obtain ⟨hfresh, hfill⟩ := canvStopped_stat (cv := cv) d
  obtain ⟨hunis', hslots'⟩ := canvStopped_maps d cv
  have hcanvs := (hforgot.same (fun r => r.canvs) fun _ => rfl).trans (canvStopped_canvs d cv)
  have huni := forgotten_uni (d.canvStopped cv) cv
  have hslot := forgotten_slot (d.canvStopped cv) cv
  have hctrl : ∀ cv : Fin 4, 0x10050000 ≤ rCANV_CTRL.addr cv 0 ∧ rCANV_CTRL.addr cv 0 < 0x10060000 := by decide
  have hstopped := canvStopped_rd (c := d) (hctrl cv) (canvCtrl_ne_stat cv cv)
  have hing : ∀ {r : RegRow} {k : Nat}, (0x10050000 ≤ r.addr k 0 ∧ r.addr k 0 < 0x10060000) ∧ r.addr k 0 ≠ rCANV_STAT.addr cv 0 ∧ r.addr k 0 ≠ rCANV_CTRL.addr cv 0 →
      (d.canvStopped cv).rd r k = s.chip.rd r k := fun ⟨hr, hstat, hw⟩ => (canvStopped_rd hr hstat).trans (hregs.rd (by simpa using hw))
  generalize d.canvStopped cv = f at *
  generalize (f.unisForgotten cv).slotsForgotten cv = e at *
  refine ⟨?_, ?_, ?_, ?_, fun u => ((uni_settle e u).trans (huni u)).trans ?_, fun i => ((slot_settle e i).trans (hslot i)).trans ?_⟩
  · rw [rd_settle, hforgot.rd (by simp), hstopped, hrd]
  · rw [Chip.rb, rd_settle]
    exact (hforgot.sameRegs.rb 2 (by simp)).trans hfresh
  · rw [Chip.rf, rd_settle]
    exact (hforgot.sameRegs.rf 1 0 (by simp)).trans hfill
  · exact (canv_settle ..).trans <| (congrArg (mget ({} : Canv) · cv.val) hcanvs).trans (mget_mset_same ..)
  · rw [Chip.rf, hing (uniW0_ing u), Chip.uni, hunis', hunis, ← Chip.uni, ← Chip.rf]
  · rw [Chip.rf, hing (slotCtrl_ing i), Chip.slot, hslots', hslots, ← Chip.slot, ← Chip.rf]

end

end Sys2Proof.Machine

/-! SUPPORT. The Cellar's writes where every codeword is clean, and the record of a canvas that is disabled (spec/05 R153, R155; spec/03 R114, R593). -/

namespace Sys2Proof.Machine

section

variable {s : State} {c d : Chip} {a : Access} {cv : Fin 4} {v : Word}

/-! ## A word stored in a Cellar of clean codewords -/

theorem setEcc_clean (h : c.cel.ecc = []) (n : Nat) : c.setEcc n 0 = c := by
  have hecc : mset 0 c.cel.ecc (n / 4) 0 = c.cel.ecc := by
    rw [h]
    rfl
  rw [Chip.setEcc, hecc]

theorem cancelWb_none (h : c.cel.wb = []) (n : Nat) : c.cancelWb n = c := if_pos (by rw [h]; rfl)

theorem setWord_cel (c : Chip) (n : Nat) (w : Word) : (c.setWord n w).cel = c.cel := by
  rw [Chip.setWord, Chip.setBytes_eq]

theorem celStore_clean (hwb : c.cel.wb = []) (hecc : c.cel.ecc = []) (n : Nat) (w : Word) : c.celStore false n w = c.setWord n w := by
  rw [Chip.celStore, cancelWb_none hwb]
  exact setEcc_clean (by rw [setWord_cel, hecc]) n

theorem leWordAt_wordBytes (w : Word) : leWordAt (wordBytes w) 0 = w := by
  simp only [leWordAt, slice, wordBytes, List.drop_zero, List.take, leNat, List.foldr, byteOf]
  apply BitVec.eq_of_toNat_eq
  simp only [BitVec.toNat_ofNat, BitVec.extractLsb'_toNat, Nat.shiftRight_eq_div_pow]
  have := w.isLt
  omega

/-- A word that an engine outside the raster writes while the Cellar is awake and clean. -/
theorem celPut_word {m : Master} {n : Nat} (hcalm : c.celCalm) (hm : m ≠ .raster) (hn : n % 4 = 0) (hmay : c.celMayWrite m false n = true) (w : Word) :
    c.celPut m n (wordBytes w) = c.setWord n w := by
  obtain ⟨hup, hp, hwb, hecc⟩ := hcalm
  have htol : c.tolCheck m = c := if_neg (by simp [hm])
  have hloop : c.celWriteLoop m false 6 n (wordBytes w) .ok = (c.setWord n w, .ok) := by
    have hlen : min (4 - n % 4) (wordBytes w).length = 4 := by rw [hn]; rfl
    rw [wordBytes, Chip.celWriteLoop.eq_3 _ _ _ _ _ _ _ (List.cons_ne_nil _ _), ← wordBytes]
    dsimp only
    rw [hlen, hn, Nat.sub_zero, hmay, leWordAt_wordBytes, celStore_clean hwb hecc]
    rfl
  have hpost : (c.setWord n w).pstate = 0 := by rw [Chip.setWord, Chip.setBytes_eq]; exact hp
  have hwrite : c.celClientWrite m false n (wordBytes w) = (c.setWord n w, .ok) := by
    rw [Chip.celClientWrite, hup, htol]
    dsimp only [wordBytes, List.length]
    rw [← wordBytes, hloop]
    simp [hpost]
  rw [Chip.celPut, Chip.celWrite, hwrite]
  rfl

/-! ## The record of a canvas that is disabled -/

theorem celMayWrite_record (c : Chip) (cv : Fin 4) : c.celMayWrite .ingress false (recAddr cv) = c.rb rRGN_WMASK 6 0 5 := by
  have hregion : ∀ cv : Fin 4, celRegion (recAddr cv) = 6 := by decide
  rw [Chip.celMayWrite, hregion]
  rfl

theorem celPut_record (hcalm : c.celCalm) (hmask : c.rb rRGN_WMASK 6 0 5 = true) :
    c.celPut .ingress (recAddr cv) [0, 0, 0, 0] = c.setWord (recAddr cv) 0 :=
  have hrec : ∀ cv : Fin 4, recAddr cv % 4 = 0 := by decide
  celPut_word hcalm (by decide) (hrec cv) ((celMayWrite_record c cv).trans hmask) 0

theorem sliceCheck_idle {k : Nat} (h : (c.fwd k).cur = none) : c.sliceCheck k = c := by
  rw [Chip.sliceCheck, h]

/-- A stop where the Cellar takes the state word and nothing is being forwarded. -/
theorem canvStopped_calm (hcalm : c.celCalm) (hmask : c.rb rRGN_WMASK 6 0 5 = true) (hfwd : (c.fwd cv).cur = none) :
    c.canvStopped cv = (((c.setWord (recAddr cv) 0).wb rCANV_STAT cv 0 2 false).wf rCANV_STAT cv 0 1 0 0).setCanv cv {} := by
  have hidle : (((((c.setWord (recAddr cv) 0).wb rCANV_STAT cv 0 2 false).wf rCANV_STAT cv 0 1 0 0).setCanv cv {}).fwd cv).cur = none := by
    rw [Chip.setWord, Chip.setBytes_eq]
    exact hfwd
  rw [Chip.canvStopped, celPut_record hcalm hmask, sliceCheck_idle hidle]

/-- The module beside memory, the canvases' state, and their universes and slots. -/
def recordless (r : Chip) : Chip := { r with mem := [], canvs := [], unis := [], slots := [] }

theorem rest_of_recordless (h : recordless c.rest = recordless d.rest) :
    c.rest = { d.rest with mem := c.mem, cel := c.cel, canvs := c.canvs, unis := c.unis, slots := c.slots } :=
  congrArg (fun r : Chip => { r with mem := c.mem, cel := c.cel, canvs := c.canvs, unis := c.unis, slots := c.slots }) h

theorem byte_congr (h : d.mem = c.mem) (n : Nat) : d.byte n = c.byte n := congrArg (mget (memDefault n) · n) h

theorem canvStopped_calm_keeps (hcalm : c.celCalm) (hmask : c.rb rRGN_WMASK 6 0 5 = true) (hfwd : (c.fwd cv).cur = none) :
    c.Keeps recordless [rCANV_STAT.addr cv 0] [] (c.canvStopped cv) := by
  have hword : c.Keeps recordless [rCANV_STAT.addr cv 0] [] (c.setWord (recAddr cv) 0) := by
    rw [Chip.setWord, Chip.setBytes_eq]
    exact .of_eq .refl rfl rfl rfl
  have hstat := (hword.wb (r := rCANV_STAT) (i := cv) (j := 0) 2 false (by simp)).wf (r := rCANV_STAT) (i := cv) (j := 0) 1 0 0 (by simp)
  rw [canvStopped_calm hcalm hmask hfwd]
  generalize ((c.setWord (recAddr cv) 0).wb rCANV_STAT cv 0 2 false).wf rCANV_STAT cv 0 1 0 0 = d at *
  exact .of_eq hstat rfl rfl rfl

theorem canvStopped_calm_byte (hcalm : c.celCalm) (hmask : c.rb rRGN_WMASK 6 0 5 = true) (hfwd : (c.fwd cv).cur = none) (n : Nat) :
    (c.canvStopped cv).byte n = (c.setWord (recAddr cv) 0).byte n := by
  rw [canvStopped_calm hcalm hmask hfwd]
  rfl

theorem celCalm_congr (hregs : SameRegs [rCANV_CTRL.addr cv 0] c d) (hcel : d.cel = c.cel) (hpwr : d.pwr = c.pwr) (hheld : d.held = c.held)
    (hcalm : c.celCalm) : d.celCalm := by
  obtain ⟨hup, hp, hwb, hecc⟩ := hcalm
  have hout : ∀ cv : Fin 4, rCEL_CTRL.addr 0 0 ∉ [rCANV_CTRL.addr cv 0] ∧ rCEL_STATUS.addr 0 0 ∉ [rCANV_CTRL.addr cv 0] := by decide
  refine ⟨?_, (hregs.rf 4 3 (hout cv).2).trans hp, by rw [hcel, hwb], by rw [hcel, hecc]⟩
  rw [Chip.celUp, hcel, hregs.rb 0 (hout cv).1, Chip.alive, Chip.domHeld, hpwr, hheld, ← Chip.domHeld, ← Chip.alive, ← Chip.celUp, hup]

theorem does_canvasEnable_fall_calm (ht : s.chip.takes a rCANV_CTRL cv 0 v) (hon : s.chip.canvOn cv = true) (hv : bit v 31 = false)
    (hcalm : s.chip.celCalm) (hmask : s.chip.rb rRGN_WMASK 6 0 5 = true) (hfwd : (s.chip.fwd cv).cur = none) :
    Does s (exec (.canvasEnable a cv v) s) fun c => c.word (recAddr cv) = 0 ∧ SameBytes (fun n => recAddr cv ≤ n ∧ n < recAddr cv + 4) s.chip c
      ∧ c.rest = { s.chip.rest with mem := c.mem, cel := c.cel, canvs := mset ({} : Canv) s.chip.canvs cv {}, unis := c.unis, slots := c.slots }
      ∧ Frame [rCANV_CTRL.addr cv 0, rCANV_STAT.addr cv 0] [] s.chip c := by
  have hregs : SameRegs [rCANV_CTRL.addr cv 0] s.chip (s.chip.counted.canvWritten cv v) := written_regs s.chip.counted rCANV_CTRL cv 0 v
  have hmask' : (s.chip.counted.canvWritten cv v).rb rRGN_WMASK 6 0 5 = true := by
    have hout : ∀ cv : Fin 4, rRGN_WMASK.addr 6 0 ∉ [rCANV_CTRL.addr cv 0] := by decide
    exact (hregs.rb 5 (hout cv)).trans hmask
  have hcalm' : (s.chip.counted.canvWritten cv v).celCalm := celCalm_congr hregs rfl rfl rfl hcalm
  have hfwd' : ((s.chip.counted.canvWritten cv v).fwd cv).cur = none := hfwd
  have hrest : (s.chip.counted.canvWritten cv v).rest = s.chip.rest := rfl
  have hirqs : (s.chip.counted.canvWritten cv v).irqs = s.chip.irqs := rfl
  have hbyte : ∀ n, (s.chip.counted.canvWritten cv v).byte n = s.chip.byte n := fun _ => rfl
  have hcanvs : (s.chip.counted.canvWritten cv v).canvs = s.chip.canvs := rfl
  refine does_written (rCANV_CTRL_stands cv) ht rfl (canvCtrl_of_fall (c := s.chip.counted.canvWritten cv v) hon hv) ?_
  generalize s.chip.counted.canvWritten cv v = d at *
  have hcanvs' := (canvStopped_canvs d cv).trans (by rw [hcanvs])
  have hbyte' := canvStopped_calm_byte hcalm' hmask' hfwd'
  have hstopped := canvStopped_calm_keeps hcalm' hmask' hfwd'
  generalize d.canvStopped cv = f at *
  have hforgot := forgotten_keeps f cv
  generalize (f.unisForgotten cv).slotsForgotten cv = e at *
  have hmem : e.mem = f.mem := hforgot.same (fun r => r.mem) fun _ => rfl
  have hset : ∀ n, (settle e).byte n = (d.setWord (recAddr cv) 0).byte n := fun n =>
    (byte_congr ((settle_mem e).trans hmem) n).trans (hbyte' n)
  have hkeeps := hstopped.trans ((hforgot.view (g' := recordless) recordless fun _ => rfl).mono (fun _ h => absurd h (by simp)) fun _ h => h)
  have hcanvsE : e.canvs = f.canvs := hforgot.same (fun r => r.canvs) fun _ => rfl
  refine ⟨?_, fun n hn => ?_, ?_, ?_⟩
  · rw [Chip.word, hset, hset, hset, hset]
    exact word_setBytes_wordBytes d (recAddr cv) 0
  · rw [hset, ← hbyte]
    exact Chip.byte_setBytes_other _ _ _ _ (by simp only [wordBytes, List.length_cons, List.length_nil]; omega)
  · have hview : recordless (settle e).rest = recordless d.rest := (congrArg recordless (rest_settle e)).trans hkeeps.sameView
    rw [rest_of_recordless hview, settle_canvs, hcanvsE, hcanvs', hrest]
  · exact ⟨((hregs.mono (by simp)).trans (hkeeps.sameRegs.mono (by simp))).settle, ((SameIrqs.of_irqs hirqs).trans hkeeps.sameIrqs).settle⟩

end

end Sys2Proof.Machine

/-! SUPPORT. The time limit of a canvas and the stream slots rewritten (spec/03 R118, R132). -/

namespace Sys2Proof.Machine

section

variable {s : State} {c d : Chip} {a : Access} {cv : Fin 4} {v old : Word}

/-! ## The time limit (R132) -/

/-- STALE of canvas `cv` set to `b`, reported with `code` and signalled. -/
def Chip.canvTurned (c : Chip) (cv : Nat) (b : Bool) (code : Nat) : Chip :=
  ((c.wb rCANV_STAT cv 0 2 b).log 0x05 code (BitVec.ofNat 32 cv)).irq (48 + cv)

theorem canvTurned_keeps (c : Chip) (cv : Nat) (b : Bool) (code : Nat) :
    c.Keeps reportless (rCANV_STAT.addr cv 0 :: logRegs 0x05) [48 + cv, 209] (c.canvTurned cv b code) :=
  .irq (.log (.wb .refl 2 b List.mem_cons_self) (fun _ _ => rfl) (fun _ => List.mem_cons_of_mem _) (by simp)) (by simp)

theorem canvTurned_stat (c : Chip) (b : Bool) (code : Nat) : (settle (c.canvTurned cv b code)).rb rCANV_STAT cv 0 2 = b := by
  have hout : ∀ cv : Fin 4, rCANV_STAT.addr cv 0 ∉ logRegs 0x05 := by decide
  rw [Chip.rb, rd_settle, Chip.canvTurned, Chip.rd_irq, Chip.rd_log_other (hout cv), ← Chip.rb, Chip.rb_wb_same _ (by decide)]

theorem canvTurned_irq (c : Chip) (b : Bool) (code : Nat) : (settle (c.canvTurned cv b code)).irqs.getLsbD (48 + cv) = true := by
  have hsource : ∀ cv : Fin 4, 48 + cv.val < 224 ∧ 48 + cv.val ∉ levelSources := by decide
  exact settled_irq_raised (hsource cv).1 (hsource cv).2

theorem canvTurned_reports {b : Bool} {code : Nat} (hctrl : d.rd rERR_CTRL = c.rd rERR_CTRL) (herr : d.err = c.err) :
    Reports 0x05 code c (settle (d.canvTurned cv b code)) := by
  have hout : ∀ cv : Fin 4, rERR_CTRL.addr 0 0 ≠ rCANV_STAT.addr cv 0 := by decide
  have hctrl' : c.rd rERR_CTRL = (d.wb rCANV_STAT cv 0 2 b).rd rERR_CTRL := by rw [Chip.wb, Chip.rd_wr_other _ _ (hout cv), hctrl]
  exact .settle (.irq (.log 0x05 code _ hctrl' herr (by decide)) _)

theorem canvFresh_stale (h : c.rb rCANV_STAT cv 0 2 = true) : c.canvFresh cv = c.canvTurned cv false 0x51 := if_pos h

theorem canvFresh_fresh (h : c.rb rCANV_STAT cv 0 2 = false) : c.canvFresh cv = c := if_neg (by rw [h]; exact Bool.false_ne_true)

theorem canvStale_fresh (hon : c.canvOn cv = true) (htout : c.rf rCANV_TOUT cv 0 15 0 ≠ 0) (h : c.rb rCANV_STAT cv 0 2 = false) :
    c.canvStale cv = c.canvTurned cv true 0x50 := if_pos (by simp [hon, htout, h])

theorem canvStale_not (h : c.canvOn cv = false ∨ c.rb rCANV_STAT cv 0 2 = true) : c.canvStale cv = c := by
  refine if_neg ?_
  obtain h | h := h <;> simp [h]

theorem canvTout_zero (h : fld v 15 0 = 0) : c.canvTout cv v = c.canvFresh cv := if_pos h

theorem canvTout_passed (h : fld v 15 0 ≠ 0) (hon : c.canvOn cv = true) (hdue : (c.canv cv).since + fld v 15 0 * 1000000 ≤ c.now) :
    c.canvTout cv v = c.canvStale cv := (if_neg h).trans (if_pos (by simp [hon, hdue]))

theorem canvTout_same (h : if fld v 15 0 = 0 then c.rb rCANV_STAT cv 0 2 = false
    else c.canvOn cv = false ∨ c.rb rCANV_STAT cv 0 2 = true ∨ c.now < (c.canv cv).since + fld v 15 0 * 1000000) : c.canvTout cv v = c := by
  by_cases hv : fld v 15 0 = 0
  · rw [if_pos hv] at h
    exact (canvTout_zero hv).trans (canvFresh_fresh h)
  · rw [if_neg hv] at h
    refine (if_neg hv).trans ?_
    split
    · next hdue =>
      obtain ⟨hon, hdue⟩ := Bool.and_eq_true_iff.mp hdue
      refine canvStale_not (h.imp_right fun h => h.resolve_right fun hearly => ?_)
      exact absurd hearly (Nat.not_lt.mpr (of_decide_eq_true hdue))
    · rfl

/-- CANV_TOUT of canvas `cv` written. -/
abbrev Chip.toutWritten (c : Chip) (cv : Nat) (v : Word) : Chip := c.written rCANV_TOUT cv 0 v

theorem toutWritten_stat (c : Chip) : (c.toutWritten cv v).rb rCANV_STAT cv 0 2 = c.rb rCANV_STAT cv 0 2 := by
  have hout : ∀ cv : Fin 4, rCANV_STAT.addr cv 0 ∉ [rCANV_TOUT.addr cv 0] := by decide
  exact (written_regs c rCANV_TOUT cv 0 v).rb 2 (hout cv)

theorem toutWritten_on (c : Chip) : (c.toutWritten cv v).canvOn cv = c.canvOn cv := by
  have hout : ∀ cv : Fin 4, rCANV_CTRL.addr cv 0 ∉ [rCANV_TOUT.addr cv 0] := by decide
  exact (written_regs c rCANV_TOUT cv 0 v).rb 31 (hout cv)

theorem toutWritten_tout (c : Chip) : (c.toutWritten cv v).rf rCANV_TOUT cv 0 15 0 = fld v 15 0 := written_rf (by decide) (by decide)

theorem does_canvasToutWrite_turned (ht : s.chip.takes a rCANV_TOUT cv 0 v) (b : Bool) (code : Nat)
    (h : (s.chip.counted.toutWritten cv v).canvTout cv v = (s.chip.counted.toutWritten cv v).canvTurned cv b code) :
    Does s (exec (.canvasToutWrite a cv v) s) fun c =>
      c.rest = { s.chip.rest with err := c.err } ∧ c.rb rCANV_STAT cv 0 2 = b ∧ c.rf rCANV_TOUT cv 0 15 0 = fld v 15 0
      ∧ Reports 0x05 code s.chip c ∧ c.irqs.getLsbD (48 + cv) = true
      ∧ Frame (rCANV_TOUT.addr cv 0 :: rCANV_STAT.addr cv 0 :: logRegs 0x05) [48 + cv, 209] s.chip c := by
  have hout : ∀ cv : Fin 4, rCANV_TOUT.addr cv 0 ∉ rCANV_STAT.addr cv 0 :: logRegs 0x05 ∧ rERR_CTRL.addr 0 0 ∉ [rCANV_TOUT.addr cv 0] := by decide
  have hwritten := stored_keeps s.chip.counted rCANV_TOUT cv 0 (rCANV_TOUT.merge (s.chip.rd rCANV_TOUT cv) v)
  have hctrl : (s.chip.counted.toutWritten cv v).rd rERR_CTRL = s.chip.rd rERR_CTRL := hwritten.rd (hout cv).2
  have htout : (s.chip.counted.toutWritten cv v).rf rCANV_TOUT cv 0 15 0 = fld v 15 0 := toutWritten_tout _
  have hrest : (s.chip.counted.toutWritten cv v).rest = s.chip.rest := rfl
  have herr : (s.chip.counted.toutWritten cv v).err = s.chip.err := rfl
  refine does_written (rCANV_TOUT_stands cv) ht rfl h ?_
  replace hwritten : s.chip.counted.Keeps id [rCANV_TOUT.addr cv 0] [] (s.chip.counted.toutWritten cv v) := hwritten
  generalize s.chip.counted.toutWritten cv v = d at *
  have hturned := canvTurned_keeps d cv b code
  refine ⟨?_, ?_, ?_, canvTurned_reports hctrl herr, canvTurned_irq d b code, ?_⟩
  · rw [rest_settle, settle_err, ← hrest]
    exact rest_of_reportless hturned.sameView
  · exact canvTurned_stat d b code
  · rw [Chip.rf, rd_settle, hturned.rd (hout cv).1, ← Chip.rf, htout]
  · exact ⟨((hwritten.sameRegs.mono (by simp)).trans (hturned.sameRegs.mono fun _ => List.mem_cons_of_mem _)).settle,
      ((hwritten.sameIrqs.mono (by simp)).trans hturned.sameIrqs).settle⟩

theorem does_canvasToutWrite_fresh (ht : s.chip.takes a rCANV_TOUT cv 0 v) (hv : fld v 15 0 = 0) (hstale : s.chip.rb rCANV_STAT cv 0 2 = true) :
    Does s (exec (.canvasToutWrite a cv v) s) fun c =>
      c.rest = { s.chip.rest with err := c.err } ∧ c.rb rCANV_STAT cv 0 2 = false ∧ c.rf rCANV_TOUT cv 0 15 0 = 0
      ∧ Reports 0x05 0x51 s.chip c ∧ c.irqs.getLsbD (48 + cv) = true
      ∧ Frame (rCANV_TOUT.addr cv 0 :: rCANV_STAT.addr cv 0 :: logRegs 0x05) [48 + cv, 209] s.chip c := by
  have hturned := (canvTout_zero (c := s.chip.counted.toutWritten cv v) hv).trans (canvFresh_stale ((toutWritten_stat _).trans hstale))
  simpa only [hv] using does_canvasToutWrite_turned ht false 0x51 hturned

theorem does_canvasToutWrite_stale (ht : s.chip.takes a rCANV_TOUT cv 0 v) (hv : fld v 15 0 ≠ 0) (hon : s.chip.canvOn cv = true)
    (hfresh : s.chip.rb rCANV_STAT cv 0 2 = false) (hdue : (s.chip.canv cv).since + fld v 15 0 * 1000000 ≤ s.chip.time.now) :
    Does s (exec (.canvasToutWrite a cv v) s) fun c =>
      c.rest = { s.chip.rest with err := c.err } ∧ c.rb rCANV_STAT cv 0 2 = true ∧ c.rf rCANV_TOUT cv 0 15 0 = fld v 15 0
      ∧ Reports 0x05 0x50 s.chip c ∧ c.irqs.getLsbD (48 + cv) = true
      ∧ Frame (rCANV_TOUT.addr cv 0 :: rCANV_STAT.addr cv 0 :: logRegs 0x05) [48 + cv, 209] s.chip c := by
  have hon' : (s.chip.counted.toutWritten cv v).canvOn cv = true := (toutWritten_on _).trans hon
  have htout : (s.chip.counted.toutWritten cv v).rf rCANV_TOUT cv 0 15 0 ≠ 0 := by rwa [toutWritten_tout]
  exact does_canvasToutWrite_turned ht true 0x50 ((canvTout_passed hv hon' hdue).trans (canvStale_fresh hon' htout ((toutWritten_stat _).trans hfresh)))

theorem does_canvasToutWrite_same (ht : s.chip.takes a rCANV_TOUT cv 0 v)
    (h : if fld v 15 0 = 0 then s.chip.rb rCANV_STAT cv 0 2 = false
      else s.chip.canvOn cv = false ∨ s.chip.rb rCANV_STAT cv 0 2 = true ∨ s.chip.time.now < (s.chip.canv cv).since + fld v 15 0 * 1000000) :
    Does s (exec (.canvasToutWrite a cv v) s) fun c =>
      c.rest = s.chip.rest ∧ c.rf rCANV_TOUT cv 0 15 0 = fld v 15 0 ∧ Frame [rCANV_TOUT.addr cv 0] [] s.chip c := by
  have hsame : (s.chip.counted.toutWritten cv v).canvTout cv v = s.chip.counted.toutWritten cv v := by
    refine canvTout_same ?_
    rw [toutWritten_stat, toutWritten_on]
    exact h
  exact does_written (rCANV_TOUT_stands cv) ht rfl hsame ⟨rfl, toutWritten_tout .., (stored_keeps s.chip.counted ..).frame⟩

/-! ## Stream slots rewritten (R118) -/

section

variable {i k : Fin 32} {w : Nat}

theorem canvCheck_closed (h : (c.canv w).openBuf = none) : c.canvCheck w = c := if_neg (by simp [h])

/-- An enabled slot of the canvas that has not closed its frame keeps the canvas's frame open. -/
theorem canvCheck_waiting (hon : c.rb rSLOT_CTRL k 0 31 = true) (hof : c.rf rSLOT_CTRL k 0 24 23 = w) (hopen : (c.canv w).closedSlots.getLsbD k = false) :
    c.canvCheck w = c := by
  refine if_neg fun h => ?_
  have hmem : k.val ∈ c.slotsOf w := List.mem_filter.mpr ⟨List.mem_range.mpr k.isLt, by simp [hon, hof]⟩
  have hall := (Bool.and_eq_true_iff.mp h).2
  exact absurd ((List.all_eq_true.mp hall k hmem).symm.trans hopen) (by decide)

theorem slotCtrl_same (hfield : fld v 30 20 = fld old 30 20) (hon : bit v 31 = true ∨ bit old 31 = false) : c.slotCtrl i old v = c := by
  refine if_pos ?_
  obtain hon | hon := hon <;> simp [hon, hfield]

/-- The write takes the slot from its frame. -/
def slotCut (old v : Word) : Prop := fld v 30 20 ≠ fld old 30 20 ∨ (bit v 31 = false ∧ bit old 31 = true)

theorem slotCtrl_of_cut (h : slotCut old v) : c.slotCtrl i old v
    = ((if (c.canv (fld old 24 23)).openBuf.isSome && (c.slot i).tag.isSome && (c.slot i).tag = (c.canv (fld old 24 23)).tag
        then c.slotClose (fld old 24 23) i false else c.setSlot i {}).canvCheck (fld old 24 23)).canvCheck (fld v 24 23) := by
  refine if_neg ?_
  obtain h | ⟨hoff, hon⟩ := h
  · simp [Ne.symm h]
  · simp [hoff, hon]

theorem slotCtrl_forgets (h : slotCut old v) (hnone : ∀ k : Fin 4, (c.canv k).openBuf = none) : c.slotCtrl i old v = c.setSlot i {} := by
  have hfld : ∀ v, (c.canv (fld v 24 23)).openBuf = none := fun v => hnone ⟨fld v 24 23, Nat.mod_lt _ (by decide)⟩
  rw [slotCtrl_of_cut h, if_neg (by simp [hfld]), canvCheck_closed (c := c.setSlot i {}) (hfld old), canvCheck_closed (c := c.setSlot i {}) (hfld v)]

theorem canv_slotClose_same (c : Chip) (w i : Nat) (b : Bool) : (c.slotClose w i b).canv w
    = { c.canv w with closedSlots := (c.canv w).closedSlots ||| (1#32 <<< i), allComplete := (c.canv w).allComplete && b } := mget_mset_same ..

theorem canv_slotClose_other {x : Nat} (c : Chip) (i : Nat) (b : Bool) (h : x ≠ w) : (c.slotClose w i b).canv x = c.canv x :=
  mget_mset_other _ _ _ c.canvs h

theorem slotClose_incomplete (c : Chip) (w i : Nat) : c.slotClose w i false
    = (c.setCanv w { c.canv w with closedSlots := (c.canv w).closedSlots ||| (1#32 <<< i), allComplete := false }).setSlot i { last := (c.slot i).tag } := by
  rw [Chip.slotClose, Bool.and_false]
  rfl

theorem closed_or_other {x : BitVec 32} (h : k ≠ i) (hopen : x.getLsbD k = false) : (x ||| (1#32 <<< i.val)).getLsbD k = false := by
  have hne : ¬ k.val - i.val = 0 ∨ k.val < i.val := by
    have : k.val ≠ i.val := fun e => h (Fin.ext e)
    omega
  rw [BitVec.getLsbD_or, hopen, BitVec.getLsbD_shiftLeft]
  obtain hne | hlt := hne
  · simp [hne]
  · simp [hlt]

theorem slotCtrl_closes (h : slotCut old v) (hw : w = fld old 24 23) (hopen : (c.canv w).openBuf ≠ none) (htag : (c.slot i).tag ≠ none)
    (hsame : (c.slot i).tag = (c.canv w).tag) (hnew : fld v 24 23 = w ∨ (c.canv (fld v 24 23)).openBuf = none) (hk : k ≠ i)
    (hon : c.rb rSLOT_CTRL k 0 31 = true) (hof : c.rf rSLOT_CTRL k 0 24 23 = w) (hwait : (c.canv w).closedSlots.getLsbD k = false) :
    c.slotCtrl i old v = c.slotClose w i false := by
  have hstay : (c.slotClose w i false).canvCheck w = c.slotClose w i false := by
    refine canvCheck_waiting (k := k) hon hof ?_
    rw [canv_slotClose_same]
    exact closed_or_other hk hwait
  have hheld : ((c.canv w).openBuf.isSome && (c.slot i).tag.isSome && decide ((c.slot i).tag = (c.canv w).tag)) = true := by
    simp [Option.isSome_iff_ne_none.mpr hopen, Option.isSome_iff_ne_none.mpr (hsame ▸ htag), hsame]
  rw [slotCtrl_of_cut h, ← hw, if_pos hheld, hstay]
  obtain hnew | hnew := hnew
  · rw [hnew, hstay]
  · have hne : fld v 24 23 ≠ w := fun e => hopen (e ▸ hnew)
    exact canvCheck_closed (by rw [canv_slotClose_other _ _ _ hne, hnew])

theorem does_slotRewrite_same (ht : s.chip.takes a rSLOT_CTRL i 0 v) (hfield : fld v 30 20 = s.chip.rf rSLOT_CTRL i 0 30 20)
    (hon : bit v 31 = true ∨ s.chip.rb rSLOT_CTRL i 0 31 = false) : Does s (exec (.slotRewrite a i v) s) (Stores s rSLOT_CTRL i 0 v) :=
  does_stored (rSLOT_CTRL_stands i) ht rfl (slotCtrl_same hfield hon)

theorem does_slotRewrite_forgets (ht : s.chip.takes a rSLOT_CTRL i 0 v)
    (hcut : fld v 30 20 ≠ s.chip.rf rSLOT_CTRL i 0 30 20 ∨ (bit v 31 = false ∧ s.chip.rb rSLOT_CTRL i 0 31 = true))
    (hnone : ∀ k : Fin 4, (s.chip.canv k).openBuf = none) : Does s (exec (.slotRewrite a i v) s) fun c =>
      c.rest = { s.chip.rest with slots := mset ({} : SlotSt) s.chip.slots i {} }
      ∧ c.rd rSLOT_CTRL i = rSLOT_CTRL.merge (s.chip.rd rSLOT_CTRL i) v ∧ Frame [rSLOT_CTRL.addr i 0] [] s.chip c :=
  does_written (rSLOT_CTRL_stands i) ht rfl (slotCtrl_forgets (c := s.chip.counted.written rSLOT_CTRL i 0 v) hcut hnone)
    ⟨rfl, written_rd .., frame_settle (SameRegs.setSlot (written_regs s.chip.counted rSLOT_CTRL i 0 v) i {}) rfl⟩

theorem does_slotRewrite_closes (ht : s.chip.takes a rSLOT_CTRL i 0 v)
    (hcut : fld v 30 20 ≠ s.chip.rf rSLOT_CTRL i 0 30 20 ∨ (bit v 31 = false ∧ s.chip.rb rSLOT_CTRL i 0 31 = true))
    (hw : w = s.chip.rf rSLOT_CTRL i 0 24 23) (hopen : (s.chip.canv w).openBuf ≠ none) (htag : (s.chip.slot i).tag ≠ none)
    (hsame : (s.chip.slot i).tag = (s.chip.canv w).tag) (hnew : fld v 24 23 = w ∨ (s.chip.canv (fld v 24 23)).openBuf = none) (hk : k ≠ i)
    (hon : s.chip.rb rSLOT_CTRL k 0 31 = true) (hof : s.chip.rf rSLOT_CTRL k 0 24 23 = w) (hwait : (s.chip.canv w).closedSlots.getLsbD k = false) :
    Does s (exec (.slotRewrite a i v) s) fun c =>
      c.rest = { s.chip.rest with slots := mset ({} : SlotSt) s.chip.slots i { last := (s.chip.slot i).tag }
                                  canvs := mset ({} : Canv) s.chip.canvs w { s.chip.canv w with closedSlots := (s.chip.canv w).closedSlots ||| (1#32 <<< i.val), allComplete := false } }
      ∧ c.rd rSLOT_CTRL i = rSLOT_CTRL.merge (s.chip.rd rSLOT_CTRL i) v ∧ Frame [rSLOT_CTRL.addr i 0] [] s.chip c := by
  have hregs := written_regs s.chip.counted rSLOT_CTRL i 0 v
  have hout : rSLOT_CTRL.addr k 0 ∉ [rSLOT_CTRL.addr i 0] := by
    have : k.val ≠ i.val := fun e => hk (Fin.ext e)
    simp only [RegRow.addr, rSLOT_CTRL, List.mem_singleton]
    omega
  have hcloses := slotCtrl_closes (c := s.chip.counted.written rSLOT_CTRL i 0 v) hcut hw hopen htag hsame hnew hk
    ((hregs.rb 31 hout).trans hon) ((hregs.rf 24 23 hout).trans hof) hwait
  exact does_written (rSLOT_CTRL_stands i) ht rfl (hcloses.trans (slotClose_incomplete ..))
    ⟨rfl, written_rd .., frame_settle (SameRegs.setSlot (SameRegs.setCanv hregs w _) i _) rfl⟩

end

end

/-- Settles O17: each write is the register's stored value and what its hook makes of it — a fresh window, a canvas started, barred, without room or
stopped, a canvas turned stale or fresh, a slot that closes or forgets its frame. -/
theorem mergeSlotsAndCanvasRegisters : Obligations.merge_slots_and_canvas_registers := by
  unfold Obligations.merge_slots_and_canvas_registers
  refine ⟨?_, ?_, ?_, ?_, ?_, ?_, ?_, ?_, ?_, ?_, ?_, ?_, ?_, ?_⟩
  · exact fun s a i v ht hold => does_mrgSlotEnable ht hold
  · exact fun s a i v ht hold => does_mrgSlotEnable_enabled ht hold
  · exact fun s a i v ht => does_skewmaxWrite ht
  · exact fun s a cv v ht hoff hv hbar => does_canvasEnable_rise ht hoff hv hbar
  · exact fun s a cv v ht hoff hv hpos hdst => does_canvasEnable_barred ht hoff hv hpos hdst
  · exact fun s a cv v ht hon hv => does_canvasEnable_fall ht hon hv
  · exact fun s a cv v ht hon hv hcalm hmask hfwd => does_canvasEnable_fall_calm ht hon hv hcalm hmask hfwd
  · exact fun s a cv v ht hsame => does_canvasEnable_same ht hsame
  · exact fun s a cv v ht hv hstale => does_canvasToutWrite_fresh ht hv hstale
  · exact fun s a cv v ht h => does_canvasToutWrite_same ht h
  · exact fun s a cv v ht hv hon hfresh hdue => does_canvasToutWrite_stale ht hv hon hfresh hdue
  · exact fun s a i v ht hcut hnone => does_slotRewrite_forgets ht hcut hnone
  · exact fun s a i k v cv ht hcut hw hopen htag hsame hnew hk hon hof hwait =>
      does_slotRewrite_closes ht hcut hw hopen htag hsame hnew hk hon hof hwait
  · exact fun s a i v ht hfield hon => does_slotRewrite_same ht hfield hon

end Sys2Proof.Machine

/-! SUPPORT. A write of ING_RQ_TAIL that is refused (spec/03 R86), where the list of registers is not canonical. -/

namespace Sys2Proof.Machine

/-- A running module whose list of registers holds TAIL of port 0's queue 0 at its reset value, which a canonical list leaves out. -/
def tailListed : State := { chip := { pwr := { phase := .running }, regs := [(rRQ_TAIL.addr 0 0, 0)] } }

theorem tailListed_takes : tailListed.chip.takes houseAccess rRQ_TAIL 0 0 2 := by decide

/-- A register written at its reset value stands in the list no more. -/
theorem mget_stored_reset (c : Chip) (r : RegRow) (i j : Nat) (e : Word) : mget e (c.stored r i j (BitVec.ofNat 32 r.reset)).regs (r.addr i j) = e := by
  have hregs : (c.stored r i j (BitVec.ofNat 32 r.reset)).regs = c.regs.filter fun p => p.1 ≠ r.addr i j := if_pos rfl
  rw [hregs, mget_filter_same]

/-- A write that would give hardware too many descriptors is a fault of the port. -/
theorem rqTailWrite_refused {c : Chip} {p q : Nat} {v : Word}
    (h : 2 ^ c.rf rRQ_CTRL p q 3 0 < (fld v 15 0 + 2 ^ 16 - c.rf rRQ_HEAD p q 15 0) % 2 ^ 16) : c.rqTailWrite p q v = c.macFault p 0x26 := if_pos h

/-- TAIL is given two descriptors of a ring of one: the write stores what TAIL holds, and the list holds it no more. -/
theorem does_rqTailWrite_tailListed : Does tailListed (exec (.rqTailWrite houseAccess 0 0 2) tailListed) fun c =>
    mget 1 c.regs (rRQ_TAIL.addr 0 0) = 1 := by
  have hkept : SameRegs (logRegs 2) (tailListed.chip.counted.written rRQ_TAIL 0 0 2) ((tailListed.chip.counted.written rRQ_TAIL 0 0 2).macFault 0 0x26) :=
    .irq (.log (.refl _ _) _ _ _ fun _ h => h) _
  have hreset : rRQ_TAIL.merge (tailListed.chip.counted.rd rRQ_TAIL 0 0) 2 = BitVec.ofNat 32 rRQ_TAIL.reset := by decide
  have howned : (tailListed.chip.counted.written rRQ_TAIL 0 0 2).rf rRQ_CTRL 0 0 3 0 = 0
      ∧ (tailListed.chip.counted.written rRQ_TAIL 0 0 2).rf rRQ_HEAD 0 0 15 0 = 0 ∧ fld (2 : Word) 15 0 = 2 := by decide
  obtain ⟨hsize, hhead, htail⟩ := howned
  have hfault : (tailListed.chip.counted.written rRQ_TAIL 0 0 2).rqTailWrite 0 0 2 = (tailListed.chip.counted.written rRQ_TAIL 0 0 2).macFault 0 0x26 :=
    rqTailWrite_refused (by rw [hsize, hhead, htail]; omega)
  refine does_written (rRQ_TAIL_stands 0 0) tailListed_takes rfl hfault ?_
  refine (hkept.settle _ (by decide) 1).trans ?_
  rw [Chip.written, hreset]
  exact mget_stored_reset ..

/-- Refutes O16: a write of TAIL that is refused stores what TAIL holds, while the statement has every register outside the report's stand
in the list as it stood. The two differ where the list is not canonical: written at its reset value, TAIL leaves a list in which it stood. -/
theorem not_frameRings : ¬ Obligations.frame_rings := by
  intro h
  obtain ⟨-, -, -, -, -, htail, -⟩ := h
  obtain ⟨t, ht, -, -, hrefused⟩ := htail tailListed houseAccess 0 0 2 tailListed_takes
  obtain ⟨-, -, -, hregs, -⟩ := hrefused (by decide)
  obtain ⟨u, hu, -, hgone⟩ := does_rqTailWrite_tailListed
  cases ht.symm.trans hu
  have hlisted := hregs (rRQ_TAIL.addr 0 0) (by decide) 1
  rw [hgone] at hlisted
  exact absurd hlisted (by decide)

end Sys2Proof.Machine

/-! SUPPORT. The Cellar where it serves, is awake and every codeword is clean: what its clients read, and what a write of any bytes
stores (spec/05 R147, R153..R157, R165..R170). -/

namespace Sys2Proof.Machine

section

variable {c d e : Chip} {m : Master} {n : Nat} {l x : List Byte}

/-! ## Bytes stored -/

/-- A byte of memory once bytes are stored. -/
theorem Chip.byte_setBytes (c : Chip) (n : Nat) (l : List Byte) (k : Nat) :
    (c.setBytes n l).byte k = if n ≤ k ∧ k < n + l.length then l.getD (k - n) 0 else c.byte k := by
  split
  · next h =>
    obtain ⟨i, rfl⟩ := Nat.exists_eq_add_of_le h.1
    have hi : i < l.length := by omega
    rw [Chip.byte_setBytes_same l c n i hi, Nat.add_sub_cancel_left, List.getD_eq_getElem _ _ hi]
  · next h => exact Chip.byte_setBytes_other l c n k (by omega)

/-- `d` is `c` with bytes `l` stored from `n` on, whatever the form of its list of bytes. -/
structure Chip.Puts (n : Nat) (l : List Byte) (c d : Chip) : Prop where
  only : d = { c with mem := d.mem }
  byte : ∀ k, d.byte k = (c.setBytes n l).byte k

theorem Chip.Puts.mem (h : Chip.Puts n l c d) : ∃ x, d = { c with mem := x } := ⟨_, h.only⟩

theorem Chip.Puts.nil (c : Chip) (n : Nat) : Chip.Puts n [] c c := ⟨rfl, fun _ => rfl⟩

theorem Chip.Puts.of_setBytes (c : Chip) (n : Nat) (l : List Byte) : Chip.Puts n l c (c.setBytes n l) := ⟨Chip.setBytes_eq l c n, fun _ => rfl⟩

theorem Chip.Puts.append (h : Chip.Puts n l c d) (g : Chip.Puts (n + l.length) x d e) : Chip.Puts n (l ++ x) c e := by
  refine ⟨g.only.trans ?_, fun k => ?_⟩
  · obtain ⟨y, rfl⟩ := h.mem
    rfl
  · rw [g.byte, Chip.byte_setBytes, Chip.byte_setBytes, h.byte, Chip.byte_setBytes, List.length_append]
    by_cases hl : n ≤ k ∧ k < n + l.length
    · rw [if_neg (by omega), if_pos hl, if_pos (by omega), List.getD_append _ _ _ _ (by omega)]
    · rw [if_neg hl]
      by_cases hx : n + l.length ≤ k ∧ k < n + l.length + x.length
      · rw [if_pos hx, if_pos (by omega), List.getD_append_right _ _ _ _ (by omega), Nat.sub_sub]
      · rw [if_neg hx, if_neg (by omega)]

/-- Bytes outside those stored stand. -/
theorem Chip.Puts.other (h : Chip.Puts n l c d) {k : Nat} (hk : k < n ∨ n + l.length ≤ k) : d.byte k = c.byte k :=
  (h.byte k).trans (Chip.byte_setBytes_other l c n k hk)

theorem length_bytes (c : Chip) (n k : Nat) : (c.bytes n k).length = k := by
  induction k generalizing n with
  | zero => rfl
  | succ k ih => rw [Chip.bytes, List.length_cons, ih]

theorem getD_bytes (c : Chip) {n k i : Nat} (hi : i < k) : (c.bytes n k).getD i 0 = c.byte (n + i) := by
  induction k generalizing n i with
  | zero => omega
  | succ k ih =>
    cases i with
    | zero => rfl
    | succ i =>
      rw [Chip.bytes, List.getD_cons_succ, ih (by omega)]
      congr 1
      omega

/-- The bytes stored read back. -/
theorem Chip.Puts.bytes (h : Chip.Puts n l c d) {k : Nat} (hk : k ≤ l.length) : d.bytes n k = l.take k := by
  refine List.ext_getElem (by rw [length_bytes, List.length_take]; omega) fun i hi _ => ?_
  rw [length_bytes] at hi
  rw [← List.getD_eq_getElem (d := 0), getD_bytes d hi, h.byte, Chip.byte_setBytes_same l c n i (by omega), List.getElem_take]

/-- Some of the bytes at `n` replaced by storing all of them again. -/
theorem Chip.Puts.of_overlay (c : Chip) {n o k : Nat} (h : o + x.length ≤ k) :
    Chip.Puts (n + o) x c (c.setBytes n ((c.bytes n k).take o ++ x ++ (c.bytes n k).drop (o + x.length))) := by
  refine ⟨Chip.setBytes_eq .., fun i => ?_⟩
  have hlen : ((c.bytes n k).take o).length = o := by rw [List.length_take, length_bytes]; omega
  have hall : ((c.bytes n k).take o ++ x ++ (c.bytes n k).drop (o + x.length)).length = k := by
    rw [List.length_append, List.length_append, hlen, List.length_drop, length_bytes]
    omega
  rw [Chip.byte_setBytes, Chip.byte_setBytes, hall]
  by_cases hx : n + o ≤ i ∧ i < n + o + x.length
  · rw [if_pos hx, if_pos (by omega), List.append_assoc, List.getD_append_right _ _ _ _ (by omega), List.getD_append _ _ _ _ (by omega), hlen,
      Nat.sub_sub]
  · rw [if_neg hx]
    split
    · next hi =>
      have hbyte : (c.bytes n k).getD (i - n) 0 = c.byte i := by rw [getD_bytes c (by omega)]; congr 1; omega
      rw [← hbyte]
      by_cases hlt : i < n + o
      · rw [List.append_assoc, List.getD_append _ _ _ _ (by omega)]
        simp only [List.getD_eq_getElem?_getD, List.getElem?_take, if_pos (show i - n < o by omega)]
      · rw [List.getD_append_right _ _ _ _ (by rw [List.length_append]; omega)]
        simp only [List.getD_eq_getElem?_getD, List.getElem?_drop, List.length_append, hlen]
        rw [show o + x.length + (i - n - (o + x.length)) = i - n by omega]
    · rfl

/-- The four bytes of the word that four bytes spell. -/
theorem wordBytes_leNat (h : l.length = 4) : wordBytes (BitVec.ofNat 32 (leNat l)) = l := by
  obtain ⟨a, b, y, z, rfl⟩ : ∃ a b y z, l = [a, b, y, z] := by
    match l, h with
    | [a, b, y, z], _ => exact ⟨a, b, y, z, rfl⟩
  have ha := a.isLt
  have hb := b.isLt
  have hy := y.isLt
  have hz := z.isLt
  simp only [wordBytes, List.cons.injEq, and_true]
  refine ⟨?_, ?_, ?_, ?_⟩ <;>
  · apply BitVec.eq_of_toNat_eq
    simp only [byteOf, leNat, List.foldr, BitVec.extractLsb'_toNat, BitVec.toNat_ofNat, Nat.shiftRight_eq_div_pow]
    omega

theorem wordBytes_word (c : Chip) (n : Nat) : wordBytes (c.word n) = c.bytes n 4 := by
  have hbytes : ∀ a b y z : Byte, wordBytes (wordOfBytes a b y z) = [a, b, y, z] := fun a b y z => by
    simp only [wordBytes, List.cons.injEq, and_true]
    refine ⟨?_, ?_, ?_, ?_⟩ <;>
    · apply BitVec.eq_of_getLsbD_eq
      intro i hi
      simp only [byteOf, wordOfBytes, BitVec.getLsbD_extractLsb', BitVec.getLsbD_append]
      grind
  exact hbytes ..

/-! ## Accesses while the Cellar is calm -/

theorem Chip.Puts.calm (h : Chip.Puts n l c d) (hcalm : c.celCalm) : d.celCalm := by
  obtain ⟨y, rfl⟩ := h.mem
  exact hcalm

theorem Chip.Puts.mayWrite (h : Chip.Puts n l c d) (m : Master) (s : Bool) (k : Nat) : d.celMayWrite m s k = c.celMayWrite m s k := by
  obtain ⟨y, rfl⟩ := h.mem
  rfl

theorem tolCheck_awake (h : c.pstate = 0) (m : Master) : c.tolCheck m = c := if_neg (by simp [h])

theorem celWake_awake (h : c.pstate = 0) : c.celWake = c := if_pos h

/-- A clean word is read as it is stored. -/
theorem celRead_calm (hcalm : c.celCalm) (who : CelReader) (n : Nat) : c.celRead who n = (c, c.word n, false) := by
  obtain ⟨-, -, hwb, hecc⟩ := hcalm
  have hclean : c.ecc n = 0 := by rw [Chip.ecc, hecc]; rfl
  have hstatus : cwDecode (c.word n) 0 = .clean := rfl
  simp only [Chip.celRead, hwb, hclean, hstatus, List.any_nil, Bool.false_eq_true, if_false]

theorem celClientRead_calm (hcalm : c.celCalm) {s : Bool} (hmay : celMayRead m s n = true) : c.celClientRead m s n = (c, c.word n, .ok) := by
  obtain ⟨hup, hp, -⟩ := id hcalm
  simp only [Chip.celClientRead, hup, hmay, tolCheck_awake hp, celWake_awake hp, celRead_calm hcalm, Bool.not_true, Bool.false_eq_true, if_false]

theorem celGet_calm (hcalm : c.celCalm) (hmay : celMayRead m false n = true) : c.celGet m n = (c, some (c.word n)) := by
  rw [Chip.celGet, celClientRead_calm hcalm hmay]

theorem celCas_calm (hcalm : c.celCalm) (hmay : c.celMayWrite m false n = true) (w : Word) :
    c.celCas m false n (c.word n) w = (c.setWord n w, some (c.word n)) := by
  obtain ⟨hup, hp, hwb, hecc⟩ := id hcalm
  have hswap : c.celSwap m false n (c.word n) w = (c.setWord n w, c.word n, .ok) := by
    simp only [Chip.celSwap, hup, hmay, tolCheck_awake hp, celWake_awake hp, celRead_calm hcalm, celStore_clean hwb hecc, Bool.not_true,
      Bool.false_eq_true, if_false, if_true]
  rw [Chip.celCas, hswap]

/-- A write of some of a word's bytes: the word's others are read and stored again. -/
theorem celNarrow_calm (hcalm : c.celCalm) {o : Nat} (h : o + x.length ≤ 4) :
    ∃ d, c.celNarrow m false n o x = (d, false) ∧ Chip.Puts (n + o) x c d := by
  obtain ⟨-, -, hwb, hecc⟩ := id hcalm
  have hlen : ((c.bytes n 4).take o ++ x ++ (c.bytes n 4).drop (o + x.length)).length = 4 := by
    simp only [List.length_append, List.length_take, List.length_drop, length_bytes]
    omega
  refine ⟨_, ?_, Chip.Puts.of_overlay c h⟩
  rw [Chip.celNarrow, celRead_calm hcalm]
  simp only [Bool.false_eq_true, if_false, wordBytes_word, celStore_clean hwb hecc, Chip.setWord, wordBytes_leNat hlen]

/-- A write up to the end of the first word. -/
theorem celWriteLoop_word {k : Nat} (hcalm : c.celCalm) (hl : l ≠ []) (hmay : c.celMayWrite m false (n - n % 4) = true) :
    ∃ d, Chip.Puts n (l.take (4 - n % 4)) c d
      ∧ c.celWriteLoop m false (k + 1) n l .ok = d.celWriteLoop m false k (n - n % 4 + 4) (l.drop (4 - n % 4)) .ok := by
  obtain ⟨-, -, hwb, hecc⟩ := id hcalm
  have htake : l.take (min (4 - n % 4) l.length) = l.take (4 - n % 4) := by rw [List.take_eq_take_iff]; omega
  have hdrop : l.drop (min (4 - n % 4) l.length) = l.drop (4 - n % 4) := by
    by_cases h : 4 - n % 4 ≤ l.length
    · rw [Nat.min_eq_left h]
    · rw [Nat.min_eq_right (by omega), List.drop_length, List.drop_of_length_le (by omega)]
  rw [Chip.celWriteLoop.eq_3 _ _ _ _ _ _ _ hl]
  dsimp only
  rw [hmay, htake, hdrop]
  by_cases hword : min (4 - n % 4) l.length = 4
  · have hn : n % 4 = 0 := by omega
    have hlen : (slice l 0 4).length = 4 := by simp only [slice, List.drop_zero, List.length_take]; omega
    refine ⟨c.setBytes n (l.take 4), by rw [hn]; exact .of_setBytes .., ?_⟩
    rw [if_pos hword, hn, celStore_clean hwb hecc, Chip.setWord, leWordAt, wordBytes_leNat hlen, slice]
    rfl
  · have hx : n % 4 + (l.take (4 - n % 4)).length ≤ 4 := by rw [List.length_take]; omega
    obtain ⟨d, hd, hput⟩ := celNarrow_calm (m := m) (n := n - n % 4) hcalm hx
    rw [if_neg hword, hd, Nat.sub_add_cancel (Nat.mod_le ..)] at *
    exact ⟨d, hput, rfl⟩

/-- A write of bytes word by word. -/
theorem celWriteLoop_calm (k : Nat) (hcalm : c.celCalm) (hk : l.length ≤ k)
    (hmay : ∀ w, n / 4 * 4 ≤ w → w < n + l.length → c.celMayWrite m false w = true) :
    ∃ d, c.celWriteLoop m false k n l .ok = (d, .ok) ∧ Chip.Puts n l c d := by
  induction k generalizing c n l with
  | zero =>
    obtain rfl : l = [] := List.eq_nil_of_length_eq_zero (by omega)
    exact ⟨c, rfl, .nil c n⟩
  | succ k ih =>
    by_cases hl : l = []
    · subst hl
      exact ⟨c, rfl, .nil c n⟩
    · have hlen : 0 < l.length := List.length_pos_iff.mpr hl
      obtain ⟨d, hput, hloop⟩ := celWriteLoop_word (k := k) hcalm hl (hmay (n - n % 4) (by omega) (by omega))
      by_cases hlast : l.length ≤ 4 - n % 4
      · rw [List.take_of_length_le hlast] at hput
        rw [List.drop_of_length_le hlast] at hloop
        refine ⟨d, hloop.trans ?_, hput⟩
        cases k <;> rfl
      · have hdone : (l.take (4 - n % 4)).length = 4 - n % 4 := by rw [List.length_take]; omega
        obtain ⟨e, he, hrest⟩ := ih (c := d) (n := n - n % 4 + 4) (l := l.drop (4 - n % 4)) (hput.calm hcalm) (by rw [List.length_drop]; omega)
          fun w hw hlt => (hput.mayWrite m false w).trans (hmay w (by omega) (by rw [List.length_drop] at hlt; omega))
        refine ⟨e, hloop.trans he, ?_⟩
        rw [← List.take_append_drop (4 - n % 4) l]
        refine hput.append ?_
        rwa [hdone, show n + (4 - n % 4) = n - n % 4 + 4 by omega]

/-- What an engine's write stores. -/
theorem celPut_calm (hcalm : c.celCalm) (hmay : ∀ w, n / 4 * 4 ≤ w → w < n + l.length → c.celMayWrite m false w = true) :
    Chip.Puts n l c (c.celPut m n l) := by
  obtain ⟨hup, hp, -⟩ := id hcalm
  obtain ⟨d, hloop, hput⟩ := celWriteLoop_calm (l.length + 2) hcalm (by omega) hmay
  obtain ⟨-, hpd, -⟩ := hput.calm hcalm
  have hwrite : c.celWrite m false n l = (d, .ok) := by
    simp only [Chip.celWrite, Chip.celClientWrite, hup, tolCheck_awake hp, hloop, hpd, Bool.not_true, Bool.false_eq_true, if_false, if_true]
    rfl
  rw [Chip.celPut, hwrite]
  exact hput

end

end Sys2Proof.Machine

/-! SUPPORT. The record of a canvas while the Cellar is calm: its state word read and changed, a buffer claimed, a frame's descriptor
written and its buffer made READY (spec/04 R115, R117, R131; spec/05 R156, R157, R593). -/

namespace Sys2Proof.Machine

section

variable {c d : Chip} {m : Master} {n b : Nat} {cv : Fin 4} {ws : List Word}

/-! ## Regions (R154, R155) -/

theorem celMayWrite_region {r : Nat} (h : celRegion n = r) (hr : r ≠ 9) (c : Chip) (m : Master) (s : Bool) :
    c.celMayWrite m s n = c.rb rRGN_WMASK r 0 (masterId m) := by
  rw [Chip.celMayWrite, h]
  exact if_neg hr

theorem celMayRead_region {r : Nat} (h : celRegion n = r) (hr : r ≠ 9) (m : Master) (s : Bool) : celMayRead m s n = true := by
  rw [celMayRead, h]
  simp [hr]

theorem celRegion_record (h : recAddr cv ≤ n ∧ n < recAddr cv + 0x80) : celRegion n = 6 := by
  have hcv := cv.isLt
  simp only [recAddr] at h
  rw [celRegion, if_neg, if_neg, if_neg, if_neg, if_neg, if_neg, if_pos] <;> omega

theorem recAddr_aligned (cv : Fin 4) : recAddr cv % 4 = 0 := by
  simp only [recAddr]
  omega

/-! ## The state word (R156, R593) -/

theorem canvState_calm (hcalm : c.celCalm) (m : Master) (cv : Fin 4) : c.canvState m cv = (c, some (c.word (recAddr cv))) :=
  celGet_calm hcalm (celMayRead_region (celRegion_record (cv := cv) (by omega)) (by decide) m false)

theorem canvCas_calm (hcalm : c.celCalm) (hmask : c.rb rRGN_WMASK 6 0 (masterId m) = true) (f : Word → Word) :
    c.canvCas m cv f = (c.setWord (recAddr cv) (f (c.word (recAddr cv))), true) := by
  have hmay := (celMayWrite_region (celRegion_record (cv := cv) (n := recAddr cv) (by omega)) (by decide) c m false).trans hmask
  rw [Chip.canvCas, canvState_calm hcalm]
  simp only [celCas_calm hcalm hmay]

/-- The first FREE buffer is claimed. -/
theorem canvClaim_free (hcalm : c.celCalm) (hmask : c.rb rRGN_WMASK 6 0 (masterId m) = true)
    (hfree : (bufsIn (c.word (recAddr cv)) 0).head? = some b) :
    c.canvClaim m cv = (c.setWord (recAddr cv) (setBufState (c.word (recAddr cv)) b 1), some b) := by
  obtain ⟨t, ht⟩ := List.head?_eq_some_iff.mp hfree
  have hstate : bufState (c.word (recAddr cv)) b = 0 := by
    have hmem : b ∈ bufsIn (c.word (recAddr cv)) 0 := by rw [ht]; exact List.mem_cons_self
    simpa using (List.mem_filter.mp hmem).2
  rw [Chip.canvClaim, canvState_calm hcalm]
  simp only [Chip.claimable, ht, canvCas_calm hcalm hmask, hstate]
  rfl

/-- A buffer's state in a state word that puts it in another. -/
theorem bufState_setBufState_same (w : Word) (b : Fin 3) {st : Nat} (h : st < 4) : bufState (setBufState w b st) b = st := by
  have hb := b.isLt
  rw [bufState, setBufState, fld_setFld_same _ _ (by omega), show 2 * b.val + 1 + 1 - 2 * b = 2 by omega]
  exact Nat.mod_eq_of_lt h

theorem bufState_setBufState_other (w : Word) {a b : Nat} (h : a ≠ b) (st : Nat) : bufState (setBufState w b st) a = bufState w a :=
  fld_setFld_other _ _ (by omega)

/-! ## A frame's descriptor (R117, R131, R156) -/

/-- The words of a frame's descriptor. -/
def descWords (incomplete : Bool) (seq : Word) (t : Nat) (sig : Word) : List Word :=
  [BitVec.ofNat 32 (b2n incomplete), seq, tsWord t 0, tsWord t 1, tsWord t 2, sig, 0, 0]

/-- The descriptor `ws` of buffer `b` written and the buffer made READY. -/
def Chip.frameStored (c : Chip) (m : Master) (cv b : Nat) (ws : List Word) : Chip :=
  (c.celPut m (descAddr cv b) (ws.flatMap wordBytes)).setWord (recAddr cv)
    (setBufState ((c.celPut m (descAddr cv b) (ws.flatMap wordBytes)).word (recAddr cv)) b 2)

theorem length_flatMap_wordBytes (ws : List Word) : (ws.flatMap wordBytes).length = 4 * ws.length := by
  induction ws with
  | nil => rfl
  | cons w t ih =>
    rw [List.flatMap_cons, List.length_append, ih, List.length_cons]
    simp only [wordBytes, List.length_cons, List.length_nil]
    omega

theorem word_congr_bytes (h : ∀ k, n ≤ k → k < n + 4 → d.byte k = c.byte k) : d.word n = c.word n := by
  rw [Chip.word, Chip.word, h _ (by omega) (by omega), h _ (by omega) (by omega), h _ (by omega) (by omega), h _ (by omega) (by omega)]

theorem word_setWord_other (c : Chip) (w : Word) {a n : Nat} (h : n + 4 ≤ a ∨ a + 4 ≤ n) : (c.setWord a w).word n = c.word n :=
  word_congr_bytes fun k _ _ => Chip.byte_setBytes_other _ _ _ _ (by simp only [wordBytes, List.length_cons, List.length_nil]; omega)

/-- Words stored as bytes read back as words. -/
theorem word_setBytes_words (c : Chip) (n : Nat) (ws : List Word) {i : Nat} (h : i < ws.length) :
    (c.setBytes n (ws.flatMap wordBytes)).word (n + 4 * i) = ws.getD i 0 := by
  induction ws generalizing c n i with
  | nil => exact absurd h (Nat.not_lt_zero i)
  | cons w t ih =>
    have hcons : c.setBytes n ((w :: t).flatMap wordBytes) = (c.setBytes n (wordBytes w)).setBytes (n + 4) (t.flatMap wordBytes) := rfl
    rw [hcons]
    cases i with
    | zero =>
      exact (word_congr_bytes fun k _ hk => Chip.byte_setBytes_other (t.flatMap wordBytes) _ (n + 4) k (.inl hk)).trans (word_setBytes_wordBytes c n w)
    | succ i =>
      rw [show n + 4 * (i + 1) = n + 4 + 4 * i by omega, List.getD_cons_succ]
      exact ih _ _ (by simpa using h)

theorem Chip.Puts.word (h : Chip.Puts n (ws.flatMap wordBytes) c d) {i : Nat} (hi : i < ws.length) : d.word (n + 4 * i) = ws.getD i 0 :=
  (word_congr_bytes fun k _ _ => h.byte k).trans (word_setBytes_words c n ws hi)

section Stored

variable {b : Fin 3} (hcalm : c.celCalm) (hmask : c.rb rRGN_WMASK 6 0 (masterId m) = true) (hws : ws.length = 8)
include hcalm hmask hws

theorem described_puts : Chip.Puts (descAddr cv b) (ws.flatMap wordBytes) c (c.celPut m (descAddr cv b) (ws.flatMap wordBytes)) := by
  have hb := b.isLt
  refine celPut_calm hcalm fun w hlo hhi => ?_
  rw [length_flatMap_wordBytes, hws] at hhi
  refine (celMayWrite_region (celRegion_record (cv := cv) ?_) (by decide) c m false).trans hmask
  simp only [descAddr, recAddr] at hlo hhi ⊢
  omega

/-- The state word after the descriptor's write. -/
theorem described_state : (c.celPut m (descAddr cv b) (ws.flatMap wordBytes)).word (recAddr cv) = c.word (recAddr cv) :=
  word_congr_bytes fun k _ _ => (described_puts hcalm hmask hws).other (by simp only [descAddr]; omega)

theorem described_canvCas :
    (c.celPut m (descAddr cv b) (ws.flatMap wordBytes)).canvCas m cv (fun w => setBufState w b 2) = (c.frameStored m cv b ws, true) := by
  have hput := described_puts (cv := cv) (b := b) hcalm hmask hws
  have hmask' : (c.celPut m (descAddr cv b) (ws.flatMap wordBytes)).rb rRGN_WMASK 6 0 (masterId m) = true := by
    obtain ⟨x, hx⟩ := hput.mem
    rw [hx]
    exact hmask
  exact canvCas_calm (hput.calm hcalm) hmask' _

theorem frameStored_mem : ∃ x, c.frameStored m cv b ws = { c with mem := x } := by
  obtain ⟨x, hx⟩ := (described_puts (cv := cv) (b := b) hcalm hmask hws).mem
  rw [Chip.frameStored, Chip.setWord, Chip.setBytes_eq, hx]
  exact ⟨_, rfl⟩

theorem frameStored_state : (c.frameStored m cv b ws).word (recAddr cv) = setBufState (c.word (recAddr cv)) b 2 := by
  rw [Chip.frameStored, described_state hcalm hmask hws]
  exact word_setBytes_wordBytes ..

theorem frameStored_desc {i : Nat} (hi : i < 8) : (c.frameStored m cv b ws).word (descAddr cv b + 4 * i) = ws.getD i 0 := by
  rw [Chip.frameStored, word_setWord_other _ _ (by simp only [descAddr]; omega)]
  exact (described_puts hcalm hmask hws).word (by omega)

theorem frameStored_bytes : SameBytes (fun i => (recAddr cv ≤ i ∧ i < recAddr cv + 4) ∨ (descAddr cv b ≤ i ∧ i < descAddr cv b + 32)) c
    (c.frameStored m cv b ws) := fun i hi => by
  have hword : ∀ w : Word, (wordBytes w).length = 4 := fun _ => rfl
  rw [Chip.frameStored, Chip.setWord, Chip.byte_setBytes_other _ _ _ _ (by rw [hword]; omega)]
  exact (described_puts hcalm hmask hws).other (by rw [length_flatMap_wordBytes, hws]; omega)

end Stored

/-! ## What signatures and geometry are told from (R131, R156, R408) -/

theorem canvSig_congr (hmem : d.mem = c.mem) (hcel : d.cel = c.cel) (g : Geom) (b : Nat) : d.canvSig g b = c.canvSig g b := by
  have hview : d.celView = c.celView := funext fun a => by simp only [Chip.celView, Chip.word, Chip.byte, Chip.ecc, hmem, hcel]
  simp only [Chip.canvSig, Chip.canvBytes, Chip.celStored, hview, Chip.word, Chip.byte, hmem]

theorem viewGeom_congr (hregs : d.regs = c.regs) (k : Nat) : d.viewGeom k = c.viewGeom k := by
  have hrd : @Chip.rd d = @Chip.rd c := funext fun r => funext fun i => funext fun j => Chip.rd_congr hregs r i j
  unfold Chip.viewGeom Chip.geom Chip.pos Chip.rb Chip.rf
  rw [hrd]

end

end Sys2Proof.Machine

/-! SUPPORT. Canvases that fall stale, E1.31 frames that close and sources that fall silent (spec/04 R117, R128, R130..R132). -/

namespace Sys2Proof.Machine

section

variable {s : State} {c d : Chip} {m : Master} {cv : Fin 4} {b : Fin 3} {g : Geom}

/-! ## Stale canvases (R132) -/

theorem does_canvStale (hon : s.chip.canvOn cv = true) (htout : s.chip.rf rCANV_TOUT cv 0 15 0 ≠ 0) (hfresh : s.chip.rb rCANV_STAT cv 0 2 = false) :
    Does s (exec (.canvStale cv) s) fun c =>
      c.rest = { s.chip.rest with err := c.err } ∧ c.rd rCANV_STAT cv = setBit (s.chip.rd rCANV_STAT cv) 2 true
      ∧ Reports 0x05 0x50 s.chip c ∧ c.irqs.getLsbD (48 + cv) = true
      ∧ Frame (rCANV_STAT.addr cv 0 :: logRegs 0x05) [48 + cv, 209] s.chip c := by
  have hout : ∀ cv : Fin 4, rCANV_STAT.addr cv 0 ∉ logRegs 0x05 := by decide
  have hturned := canvTurned_keeps s.chip.counted cv true 0x50
  refine does_eq (canvStale_fresh (c := s.chip.counted) hon htout hfresh)
    ⟨rest_of_reportless hturned.sameView, ?_, canvTurned_reports rfl rfl, canvTurned_irq .., hturned.frame⟩
  rw [rd_settle, Chip.canvTurned, Chip.rd_irq, Chip.rd_log_other (hout cv), Chip.rd_wb_same]
  rfl

theorem canvStale_unlimited (h : c.rf rCANV_TOUT cv 0 15 0 = 0) : c.canvStale cv = c := if_neg (by simp [h])

theorem does_canvStale_not (h : s.chip.rf rCANV_TOUT cv 0 15 0 = 0 ∨ s.chip.canvOn cv = false ∨ s.chip.rb rCANV_STAT cv 0 2 = true) :
    Does s (exec (.canvStale cv) s) fun c => c.rest = s.chip.rest ∧ Frame [] [] s.chip c := by
  have hsame : s.chip.counted.canvStale cv = s.chip.counted := by
    obtain h | h := h
    · have hkept : s.chip.counted.rf rCANV_TOUT cv 0 15 0 = s.chip.rf rCANV_TOUT cv 0 15 0 := rfl
      exact canvStale_unlimited (hkept.trans h)
    · exact canvStale_not (c := s.chip.counted) h
  exact does_eq hsame (quiet s.chip)

/-! ## The bytes of universes not received (R130) -/

/-- The descriptor of the first of some buffers is read, then the others'. The reads are generalised: their equation would be
evaluated else. -/
theorem bufDescs_cons (c : Chip) (m : Master) (k b : Nat) (t : List Nat) : c.bufDescs m k (b :: t) =
    match c.celGets m (descAddr k b + 4) 5 with
    | (c, some ws) =>
      let w := fun i => ws.getD i 0
      let (c, l) := c.bufDescs m k t
      (c, l.map fun l => { buf := b, seq := w 0, pts := tsOf (w 1) (w 2) (w 3), sig := w 4 } :: l)
    | (c, none) => (c, none) := by
  delta Chip.bufDescs Chip.bufDescs._f
  generalize Chip.celGets = gets
  rfl

theorem bufDescs_keeps (m : Master) (k : Nat) (l : List Nat) (c : Chip) : c.KeepsStore (c.bufDescs m k l).1 := by
  induction l generalizing c with
  | nil => exact .refl
  | cons b t ih =>
    have hgets := celGets_keeps m 5 c (descAddr k b + 4)
    rw [bufDescs_cons]
    split
    · next e =>
      rw [e] at hgets
      exact hgets.trans (ih _)
    · next e =>
      rw [e] at hgets
      exact hgets

theorem uniSource_keeps (c : Chip) (k : Nat) : c.KeepsStore (c.uniSource k).1 := by
  have hstate := celGet_keeps c .ingress (recAddr k)
  unfold Chip.uniSource Chip.canvState
  split
  · next e =>
    rw [e] at hstate
    exact hstate
  · next e =>
    rw [e] at hstate
    exact hstate.trans (bufDescs_keeps ..)

theorem uniGet_keeps (g : Geom) (src n : Nat) (c : Chip) (k len : Nat) : c.KeepsStore (c.uniGet g src n k len).1 := by
  induction n generalizing c k len with
  | zero => exact .refl
  | succ n ih =>
    unfold Chip.uniGet
    split
    · exact .refl
    · exact (celBytes_keeps ..).trans (ih ..)

theorem uniPut_keeps (g : Geom) (b n : Nat) (c : Chip) (k : Nat) (l : List Byte) : c.KeepsStore (c.uniPut g b n k l) := by
  induction n generalizing c k l with
  | zero => exact .refl
  | succ n ih => exact .ite .refl ((celPut_keeps ..).trans (ih ..))

theorem uniCopy_keeps (c : Chip) (g : Geom) (src b u : Nat) : c.KeepsStore (c.uniCopy g src b u) := by
  unfold Chip.uniCopy
  split
  next k n _ =>
  have hread := uniGet_keeps g src 512 c k (min n (3 * g.w * g.h - k))
  split
  next e =>
  rw [e] at hread
  exact hread.trans (uniPut_keeps ..)

/-- The universes of canvas `cv` not received copied to buffer `b` from the newest frame. -/
def Chip.e131Filled (c : Chip) (cv b : Nat) : Chip :=
  match c.uniSource cv with
  | (d, none) => d
  | (d, some src) => d.each ((d.unisOf cv).filter fun u => !(d.uni u).got) fun e u => e.uniCopy (c.geom cv) src b u

theorem e131Filled_keeps (c : Chip) (k b : Nat) : c.KeepsStore (c.e131Filled k b) := by
  have hsource := uniSource_keeps c k
  unfold Chip.e131Filled
  split
  · next e =>
    rw [e] at hsource
    exact hsource
  · next e =>
    rw [e] at hsource
    exact .each hsource _ _ fun _ _ _ => uniCopy_keeps ..

/-! ## Universes forgotten at a close (R130) -/

/-- The enabled universes of canvas `cv` with nothing received. -/
def Chip.unisReset (c : Chip) (cv : Nat) : Chip := c.each (c.unisOf cv) fun c u => c.setUni u {}

theorem mem_unisOf {k : Nat} {u : Fin 1024} : u.val ∈ c.unisOf k ↔ c.rb rUNI_W0 u 0 31 = true ∧ c.rf rUNI_W0 u 0 17 16 = k := by
  simp [Chip.unisOf, u.isLt]

theorem exists_of_mem_unisOf {k u : Nat} (h : u ∈ c.unisOf k) : ∃ x : Fin 1024, x.val = u :=
  ⟨⟨u, List.mem_range.mp (List.mem_filter.mp h).1⟩, rfl⟩

theorem unisReset_uni (c : Chip) (k u : Nat) : (c.unisReset k).uni u = if u ∈ c.unisOf k then {} else c.uni u := by
  have hreset := each_reset (cond := fun _ _ => true) (put := fun c u => c.setUni u {}) (get := Chip.uni) (x := ({} : Uni))
    (fun _ _ _ => rfl) (fun c u => uni_setUni_same c u {}) (fun c _ _ hw => uni_setUni_other c {} hw) (c.unisOf k) c u
  simpa [Chip.unisReset] using hreset

theorem unisReset_unis (c : Chip) (k : Nat) : c.unisReset k = { c with unis := (c.unisReset k).unis } := by
  refine Chip.each_ind (P := fun e => e = { c with unis := e.unis }) _ _ (fun e u _ he => ?_) c rfl
  rw [he]
  rfl

theorem unisReset_canvs (c : Chip) (k : Nat) : (c.unisReset k).canvs = c.canvs := by rw [unisReset_unis]

/-! ## The open frame closed (R130) -/

/-- PDLY after now. -/
def Chip.e131Time (c : Chip) (cv : Nat) : Nat := (((c.now : Int) + sgn (c.rd rCANV_PDLY cv)) % (clockMod : Int)).toNat

/-- Canvas `cv` with no frame open and its presentation time set to `t`. -/
def Chip.frameClosed (c : Chip) (cv t : Nat) : Chip :=
  c.setCanv cv { c.canv cv with pts := t, openBuf := none, closedSlots := 0, allComplete := true, e131Open := false }

theorem e131Close_idle {k : Nat} (h : (c.canv k).e131Open = false) : c.e131Close k = c := by rw [Chip.e131Close, h]; rfl

theorem setCanv_setCanv (c : Chip) (k : Nat) (x y : Canv) : (c.setCanv k x).setCanv k y = c.setCanv k y := by
  rw [Chip.setCanv, Chip.setCanv, Chip.setCanv, mset_mset]

theorem canv_setCanv_same (c : Chip) (k : Nat) (x : Canv) : (c.setCanv k x).canv k = x := mget_mset_same ..

theorem e131Close_open {k x : Nat} (ho : (c.canv k).e131Open = true) (hb : (c.canv k).openBuf = some x)
    (hd : (c.e131Filled k x).unisReset k = d) : c.e131Close k = (d.frameClosed k (d.e131Time k)).canvReady k x (d.e131Time k) false := by
  have hcanv : d.canv k = c.canv k := by
    have hfilled : (c.e131Filled k x).canv k = c.canv k := (e131Filled_keeps c k x).same (fun r => r.canv k) fun _ => rfl
    rw [← hd, Chip.canv, unisReset_canvs]
    exact hfilled
  have hclose : c.e131Close k = (d.setCanv k { d.canv k with pts := d.e131Time k }).canvClose k true := by
    rw [Chip.e131Close, ho, hb]
    subst hd
    rfl
  rw [hclose, Chip.canvClose, canv_setCanv_same, hcanv, hb]
  dsimp only
  rw [if_pos rfl, setCanv_setCanv, Chip.frameClosed, hcanv]

/-- What a canvas's readying leaves: whether a frame is open on it, and the universes. -/
def openState (k : Nat) (c : Chip) : Option Nat × Bool × List (Nat × Uni) := ((c.canv k).openBuf, (c.canv k).e131Open, c.unis)

theorem Chip.Keeps.openState (h : c.KeepsStore d) (k : Nat) : openState k d = openState k c := h.same (Machine.openState k) fun _ => rfl

theorem celCas_keeps (c : Chip) (m : Master) (n : Nat) (x y : Word) : c.KeepsStore (c.celCas m false n x y).1 := by
  have hread := ((tolCheck_keeps c m).trans (celWake_keeps _)).trans (celRead_keeps _ (.master m) n)
  have hswap : c.KeepsStore (c.celSwap m false n x y).1 := by
    unfold Chip.celSwap
    dsimp only
    split
    · exact .refl
    · split
      · exact celDeny_keeps c n
      · split
        · exact hread
        · exact .ite (hread.trans (celStore_keeps ..)) hread
  unfold Chip.celCas
  split <;> (next e => rw [e] at hswap; exact hswap)

theorem canvCas_keeps (c : Chip) (m : Master) (k : Nat) (f : Word → Word) : c.KeepsStore (c.canvCas m k f).1 := by
  have hstate := celGet_keeps c m (recAddr k)
  unfold Chip.canvCas Chip.canvState
  split
  · next e =>
    rw [e] at hstate
    exact hstate
  · next d w e =>
    rw [e] at hstate
    have hcas := hstate.trans (celCas_keeps d m (recAddr k) w (f w))
    split <;> (next e => rw [e] at hcas; exact hcas)

end

end Sys2Proof.Machine

/-! SUPPORT. A frame READY, and the hold of an E1.31 frame that expires (spec/04 R117, R130, R131). -/

namespace Sys2Proof.Machine

section

variable {s : State} {c d : Chip} {m : Master} {cv : Fin 4} {b : Fin 3} {g : Geom}

/-! ## A buffer made READY (R117, R131) -/

theorem sliceForward_keeps (c : Chip) (k b : Nat) : c.KeepsStore (c.sliceForward k b) := by
  have hover : c.KeepsStore ((((c.inc rTRL_CNT 1 0).wb rTRL_STATUS 0 0 5 true).log 0x0E 0xE5).irq 187) :=
    .irq (.storeLog (.wb (.wr .refl _ (by decide)) _ _ (by decide)) (by decide)) (by decide)
  unfold Chip.sliceForward
  dsimp only
  split
  · exact .refl
  · split
    · exact sliceStart_keeps ..
    · exact (Chip.Keeps.ite hover .refl).trans (setFwd_keeps ..)

/-- The frame counted, its signature taken, and a stale canvas fresh. -/
def Chip.frameCounted (c : Chip) (cv : Nat) (seq sig : Word) : Chip := ((c.wr rCANV_CNT cv 0 seq).wr rCANV_SIG cv 0 sig).canvFresh cv

/-- A frame READY in buffer `b`: its moment kept, signalled where CTRL asks for it. -/
def Chip.frameReady (c : Chip) (cv : Nat) : Chip :=
  (c.setCanv cv { c.canv cv with since := c.now }).when (c.rb rCANV_CTRL cv 0 7) fun c => c.irq (52 + cv)

theorem canvReady_eq {k b t : Nat} {inc : Bool} {seq sig : Word} (hseq : seq = c.rd rCANV_CNT k 0 + 1) (hsig : sig = c.canvSig (c.geom k) b) :
    c.canvReady k b t inc = match (c.celPut .ingress (descAddr k b) ((descWords inc seq t sig).flatMap wordBytes)).canvCas .ingress k
        (fun w => setBufState w b 2) with
      | (d, false) => d
      | (d, true) => ((d.frameCounted k seq sig).frameReady k).sliceForward k b := by
  subst hseq hsig
  rfl

theorem frameCounted_openState (c : Chip) (k : Nat) (seq sig : Word) : openState k (c.frameCounted k seq sig) = openState k c := by
  rw [Chip.frameCounted]
  have hcounted : openState k ((c.wr rCANV_CNT k 0 seq).wr rCANV_SIG k 0 sig) = openState k c := rfl
  rw [← hcounted]
  generalize (c.wr rCANV_CNT k 0 seq).wr rCANV_SIG k 0 sig = d
  unfold Chip.canvFresh
  split
  · exact (canvTurned_keeps d k false 0x51).same (openState k) fun _ => rfl
  · rfl

theorem frameReady_openState (c : Chip) (k : Nat) : openState k (c.frameReady k) = openState k c := by
  have hcanv : openState k (c.setCanv k { c.canv k with since := c.now }) = openState k c := by
    rw [openState, canv_setCanv_same]
    rfl
  rw [Chip.frameReady, Chip.when]
  split <;> exact hcanv

theorem canvReady_openState (c : Chip) (k b t : Nat) (inc : Bool) : openState k (c.canvReady k b t inc) = openState k c := by
  have hcas := (celPut_keeps c .ingress (descAddr k b)
    ((descWords inc (c.rd rCANV_CNT k 0 + 1) t (c.canvSig (c.geom k) b)).flatMap wordBytes)).trans (canvCas_keeps _ .ingress k fun w => setBufState w b 2)
  rw [canvReady_eq rfl rfl]
  split
  · next e =>
    rw [e] at hcas
    exact hcas.openState k
  · next e =>
    rw [e] at hcas
    rw [(sliceForward_keeps ..).openState, frameReady_openState, frameCounted_openState]
    exact hcas.openState k

theorem does_e131HoldExpiry_idle (h : s.chip.e131Canv cv = false ∨ (s.chip.canv cv).e131Open = false ∨ s.chip.rf rCANV_E131 cv 0 15 0 ≠ 0) :
    Does s (exec (.e131HoldExpiry cv) s) fun c => c.rest = s.chip.rest ∧ Frame [] [] s.chip c := by
  have hok : (s.chip.e131Canv cv && (s.chip.canv cv).e131Open && s.chip.rf rCANV_E131 cv 0 15 0 = 0) = false := by
    obtain h | h | h := h <;> simp [h]
  exact does_eq (if_neg (ne_true_of_eq_false hok)) (quiet s.chip)

section Hold

variable (hcanv : s.chip.e131Canv cv = true) (hopen : (s.chip.canv cv).e131Open = true) (hsync : s.chip.rf rCANV_E131 cv 0 15 0 = 0)
include hcanv hopen hsync

theorem does_e131Hold {w : Chip} {P : Chip → Prop} (hw : s.chip.counted.e131Close cv = w) (h : P (settle w)) : Does s (exec (.e131HoldExpiry cv) s) P := by
  have hok : (s.chip.e131Canv cv && (s.chip.canv cv).e131Open && s.chip.rf rCANV_E131 cv 0 15 0 = 0) = true := by simp [hcanv, hopen, hsync]
  exact does_eq ((if_pos hok).trans hw) h

theorem does_e131HoldExpiry (hbuf : (s.chip.canv cv).openBuf ≠ none) : Does s (exec (.e131HoldExpiry cv) s) fun c =>
    (c.canv cv).openBuf = none ∧ (c.canv cv).e131Open = false
    ∧ (∀ u : Fin 1024, s.chip.rb rUNI_W0 u 0 31 = true → s.chip.rf rUNI_W0 u 0 17 16 = cv → (c.uni u).got = false) := by
  obtain ⟨b, hb⟩ := Option.ne_none_iff_exists'.mp hbuf
  have hfilled := e131Filled_keeps s.chip.counted cv b
  have hunis := unisReset_uni (s.chip.counted.e131Filled cv b) cv
  refine does_e131Hold hcanv hopen hsync (e131Close_open (c := s.chip.counted) hopen hb rfl) ?_
  generalize (s.chip.counted.e131Filled cv b).unisReset cv = d at *
  have hclosed : openState cv (d.frameClosed cv (d.e131Time cv)) = (none, false, d.unis) := by
    rw [openState, Chip.frameClosed, canv_setCanv_same]
    rfl
  have hstate := (canvReady_openState (d.frameClosed cv (d.e131Time cv)) cv b (d.e131Time cv) false).trans hclosed
  generalize (d.frameClosed cv (d.e131Time cv)).canvReady cv b (d.e131Time cv) false = e at *
  simp only [openState, Prod.mk.injEq] at hstate
  obtain ⟨hbuf, hopen, hmap⟩ := hstate
  refine ⟨(congrArg Canv.openBuf (canv_settle e cv)).trans hbuf, (congrArg Canv.e131Open (canv_settle e cv)).trans hopen, fun u hon hof => ?_⟩
  have hmem : u.val ∈ (s.chip.counted.e131Filled cv b).unisOf cv := by
    rw [mem_unisOf, hfilled.sameRegs.rb 31 (not_storeRegs_of_ing (uniW0_ing (cv := cv) u).1), hfilled.sameRegs.rf 17 16 (not_storeRegs_of_ing (uniW0_ing (cv := cv) u).1)]
    exact ⟨hon, hof⟩
  have huni : e.uni u = d.uni u := congrArg (mget ({} : Uni) · u) hmap
  rw [uni_settle, huni, hunis, if_pos hmem]

end Hold

end

end Sys2Proof.Machine

/-! SUPPORT. The close of an E1.31 frame while the Cellar is calm (spec/04 R117, R128, R130..R132; spec/05 R593). -/

namespace Sys2Proof.Machine

section

variable {s : State} {c d : Chip} {m : Master} {cv : Fin 4} {b : Fin 3} {g : Geom}

/-! ## The close while the Cellar is calm -/

theorem celGets_calm (hcalm : c.celCalm) {k n : Nat} (hread : ∀ i < k, celMayRead m false (n + 4 * i) = true) :
    c.celGets m n k = (c, some (c.words n k)) := by
  induction k generalizing n with
  | zero => rfl
  | succ k ih =>
    have hwords : c.words n (k + 1) = c.word n :: c.words (n + 4) k := by
      simp only [Chip.words, List.range_succ_eq_map, List.map_cons, List.map_map, Nat.mul_zero, Nat.add_zero]
      congr 1
      refine List.map_congr_left fun i _ => congrArg c.word ?_
      show n + 4 * (i + 1) = n + 4 + 4 * i
      omega
    have hnext : ∀ i < k, celMayRead m false (n + 4 + 4 * i) = true := fun i hi => by
      rw [show n + 4 + 4 * i = n + 4 * (i + 1) by omega]
      exact hread (i + 1) (by omega)
    have hfirst : celMayRead m false n = true := hread 0 (by omega)
    rw [Chip.celGets, celGet_calm hcalm hfirst]
    dsimp only
    rw [ih hnext, hwords]

theorem bufDescs_calm (hcalm : c.celCalm) (m : Master) (cv : Fin 4) {l : List Nat} (hl : ∀ b ∈ l, b < 3) :
    (c.bufDescs m cv l).1 = c := by
  induction l with
  | nil => rfl
  | cons b t ih =>
    have hb := hl b List.mem_cons_self
    have hgets : c.celGets m (descAddr cv b + 4) 5 = (c, some (c.words (descAddr cv b + 4) 5)) := celGets_calm hcalm fun i hi =>
      celMayRead_region (celRegion_record (cv := cv) (by simp only [descAddr]; omega)) (by decide) m false
    rw [bufDescs_cons, hgets]
    exact ih fun b hb => hl b (List.mem_cons_of_mem _ hb)

theorem uniSource_calm (hcalm : c.celCalm) (cv : Fin 4) : (c.uniSource cv).1 = c := by
  have hbufs : ∀ (w : Word) (k : Nat), ∀ b ∈ bufsIn w k, b < 3 := fun w k b hb => by
    have := (List.mem_filter.mp hb).1
    simp only [List.mem_cons, List.not_mem_nil, or_false] at this
    omega
  rw [Chip.uniSource, canvState_calm hcalm]
  exact bufDescs_calm hcalm .ingress cv fun b hb => (List.mem_append.mp hb).elim (hbufs _ 2 b) (hbufs _ 3 b)

/-- Where every universe has been received, a close copies nothing. -/
theorem e131Filled_calm (hcalm : c.celCalm) {k : Nat}
    (hgot : ∀ u : Fin 1024, c.rb rUNI_W0 u 0 31 = true → c.rf rUNI_W0 u 0 17 16 = cv → (c.uni u).got = true) : c.e131Filled cv k = c := by
  have hnone : (c.unisOf cv).filter (fun u => !(c.uni u).got) = [] := List.filter_eq_nil_iff.mpr fun u hu => by
    obtain ⟨x, rfl⟩ := exists_of_mem_unisOf hu
    obtain ⟨hon, hof⟩ := mem_unisOf.mp hu
    simp [hgot x hon hof]
  have hsource := uniSource_calm hcalm cv
  unfold Chip.e131Filled
  split
  · next e =>
    rw [e] at hsource
    exact hsource
  · next e =>
    rw [e] at hsource
    dsimp only at hsource
    rw [hsource, hnone]
    rfl

/-- The registers that a frame becoming READY can change. -/
def frameRegs (cv : Nat) : List Nat := rCANV_CNT.addr cv 0 :: rCANV_SIG.addr cv 0 :: rCANV_STAT.addr cv 0 :: logRegs 0x05

theorem frameCounted_keeps (c : Chip) (k : Nat) (seq sig : Word) : c.Keeps reportless (frameRegs k) [48 + k, 209] (c.frameCounted k seq sig) := by
  have hcounted : c.Keeps reportless (frameRegs k) [48 + k, 209] ((c.wr rCANV_CNT k 0 seq).wr rCANV_SIG k 0 sig) :=
    .wr (.wr .refl _ (by simp [frameRegs])) _ (by simp [frameRegs])
  have hturned : ((c.wr rCANV_CNT k 0 seq).wr rCANV_SIG k 0 sig).Keeps reportless (frameRegs k) [48 + k, 209]
      (((c.wr rCANV_CNT k 0 seq).wr rCANV_SIG k 0 sig).canvTurned k false 0x51) :=
    (canvTurned_keeps ..).mono (fun _ h => List.mem_cons_of_mem _ (List.mem_cons_of_mem _ h)) fun _ h => h
  exact .ite (hcounted.trans hturned) hcounted

theorem frameCounted_rd {r : RegRow} {i j : Nat} {seq sig : Word} (h : r.addr i j ∉ rCANV_STAT.addr cv 0 :: logRegs 0x05) :
    (c.frameCounted cv seq sig).rd r i j = ((c.wr rCANV_CNT cv 0 seq).wr rCANV_SIG cv 0 sig).rd r i j := by
  rw [Chip.frameCounted]
  unfold Chip.canvFresh
  split
  · exact (canvTurned_keeps _ cv false 0x51).rd h
  · rfl

section Stale

variable {seq sig : Word}

theorem counted_stat : ((c.wr rCANV_CNT cv 0 seq).wr rCANV_SIG cv 0 sig).rb rCANV_STAT cv 0 2 = c.rb rCANV_STAT cv 0 2 := by
  have hne : ∀ cv : Fin 4, rCANV_STAT.addr cv 0 ≠ rCANV_CNT.addr cv 0 ∧ rCANV_STAT.addr cv 0 ≠ rCANV_SIG.addr cv 0 := by decide
  rw [Chip.rb, Chip.rd_wr_other _ _ (hne cv).2, Chip.rd_wr_other _ _ (hne cv).1, ← Chip.rb]

theorem frameCounted_fresh (h : c.rb rCANV_STAT cv 0 2 = false) :
    c.frameCounted cv seq sig = (c.wr rCANV_CNT cv 0 seq).wr rCANV_SIG cv 0 sig := canvFresh_fresh (counted_stat.trans h)

theorem frameCounted_stale (h : c.rb rCANV_STAT cv 0 2 = true) :
    c.frameCounted cv seq sig = ((c.wr rCANV_CNT cv 0 seq).wr rCANV_SIG cv 0 sig).canvTurned cv false 0x51 := canvFresh_stale (counted_stat.trans h)

theorem frameCounted_stat : (c.frameCounted cv seq sig).rb rCANV_STAT cv 0 2 = false := by
  cases h : c.rb rCANV_STAT cv 0 2 with
  | false => rw [frameCounted_fresh h, counted_stat, h]
  | true =>
    rw [frameCounted_stale h]
    exact (congrArg (bit · 2) (rd_settle ..)).symm.trans (canvTurned_stat ..)

end Stale

theorem frameReady_keeps (c : Chip) (k : Nat) : c.Keeps (fun r => { r with canvs := [] }) [] [52 + k] (c.frameReady k) :=
  have hset : c.Keeps (fun r => { r with canvs := [] }) [] [52 + k] (c.setCanv k { c.canv k with since := c.now }) := .of_eq .refl rfl rfl rfl
  hset.when fun _ => hset.irq List.mem_cons_self

theorem frameReady_irq (h : c.rb rCANV_CTRL cv 0 7 = true) : (settle (c.frameReady cv)).irqs.getLsbD (52 + cv) = true := by
  have hsource : ∀ cv : Fin 4, 52 + cv.val < 224 ∧ 52 + cv.val ∉ levelSources := by decide
  rw [Chip.frameReady, Chip.when, if_pos h]
  exact settled_irq_raised (hsource cv).1 (hsource cv).2

theorem sliceForward_off {k b : Nat} (h : c.rb rTRL_CTRL 0 0 0 = false) : c.sliceForward k b = c := if_pos (by simp [h])

/-- The frame in FILLING buffer `b` stored, counted and READY. -/
theorem canvReady_calm (hcalm : c.celCalm) (hmask : c.rb rRGN_WMASK 6 0 5 = true) (hfwd : c.rb rTRL_CTRL 0 0 0 = false) {t : Nat} {inc : Bool} {seq sig : Word}
    (hseq : seq = c.rd rCANV_CNT cv 0 + 1) (hsig : sig = c.canvSig (c.geom cv) b) :
    c.canvReady cv b t inc = ((c.frameStored .ingress cv b (descWords inc seq t sig)).frameCounted cv seq sig).frameReady cv := by
  have hout : ∀ cv : Fin 4, rTRL_CTRL.addr 0 0 ∉ frameRegs cv := by decide
  rw [canvReady_eq hseq hsig, described_canvCas (m := .ingress) hcalm hmask rfl]
  refine sliceForward_off ?_
  obtain ⟨x, hx⟩ := frameStored_mem (cv := cv) (b := b) hcalm (m := .ingress) hmask (ws := descWords inc seq t sig) rfl
  rw [Chip.rb, (frameReady_keeps ..).rd (by simp), (frameCounted_keeps ..).rd (hout cv), hx]
  exact hfwd

end

end Sys2Proof.Machine

namespace Sys2Proof.Machine

section

variable {s : State} {c d : Chip} {cv : Fin 4} {b : Fin 3}

/-- The module beside memory, canvases, universes and reports. -/
def frameless (r : Chip) : Chip := { r with mem := [], canvs := [], unis := [], err := {} }

theorem rest_of_frameless (h : frameless d.rest = frameless c.rest) :
    d.rest = { c.rest with mem := d.mem, cel := d.cel, canvs := d.canvs, unis := d.unis, err := d.err } :=
  congrArg (fun r : Chip => { r with mem := d.mem, cel := d.cel, canvs := d.canvs, unis := d.unis, err := d.err }) h

/-- The frame in buffer `b` with descriptor `ws` as a calm Cellar leaves it READY. -/
def Chip.frameDone (c : Chip) (cv b : Nat) (ws : List Word) (seq sig : Word) : Chip :=
  ((c.frameStored .ingress cv b ws).frameCounted cv seq sig).frameReady cv

theorem counted_errCtrl (c : Chip) {seq sig : Word} : ((c.wr rCANV_CNT cv 0 seq).wr rCANV_SIG cv 0 sig).rd rERR_CTRL = c.rd rERR_CTRL := by
  have hne : ∀ cv : Fin 4, rERR_CTRL.addr 0 0 ≠ rCANV_CNT.addr cv 0 ∧ rERR_CTRL.addr 0 0 ≠ rCANV_SIG.addr cv 0 := by decide
  rw [Chip.rd_wr_other _ _ (hne cv).2, Chip.rd_wr_other _ _ (hne cv).1]

section Done

variable {ws : List Word} {seq sig : Word}

theorem frameDone_mem : (c.frameDone cv b ws seq sig).mem = (c.frameStored .ingress cv b ws).mem :=
  ((frameReady_keeps ..).same (fun r => r.mem) fun _ => rfl).trans ((frameCounted_keeps ..).same (fun r => r.mem) fun _ => rfl)

theorem frameDone_count : (c.frameDone cv b ws seq sig).rd rCANV_CNT cv 0 = seq := by
  have hout : ∀ cv : Fin 4, rCANV_CNT.addr cv 0 ∉ rCANV_STAT.addr cv 0 :: logRegs 0x05 := by decide
  have hne : ∀ cv : Fin 4, rCANV_CNT.addr cv 0 ≠ rCANV_SIG.addr cv 0 := by decide
  rw [Chip.frameDone, (frameReady_keeps ..).rd (by simp), frameCounted_rd (hout cv), Chip.rd_wr_other _ _ (hne cv), Chip.rd_wr_same]

theorem frameDone_sig : (c.frameDone cv b ws seq sig).rd rCANV_SIG cv = sig := by
  have hout : ∀ cv : Fin 4, rCANV_SIG.addr cv 0 ∉ rCANV_STAT.addr cv 0 :: logRegs 0x05 := by decide
  rw [Chip.frameDone, (frameReady_keeps ..).rd (by simp), frameCounted_rd (hout cv), Chip.rd_wr_same]

theorem frameDone_fresh : (c.frameDone cv b ws seq sig).rb rCANV_STAT cv 0 2 = false := by
  rw [Chip.frameDone, Chip.rb, (frameReady_keeps ..).rd (by simp)]
  exact frameCounted_stat

theorem frameDone_word (n : Nat) : (c.frameDone cv b ws seq sig).word n = (c.frameStored .ingress cv b ws).word n :=
  word_congr_bytes fun k _ _ => byte_congr frameDone_mem k

section Calm

variable (hcalm : c.celCalm) (hmask : c.rb rRGN_WMASK 6 0 5 = true) (hws : ws.length = 8)
include hcalm hmask hws

theorem frameDone_keeps : c.Keeps frameless (frameRegs cv) [48 + cv, 52 + cv, 209] (c.frameDone cv b ws seq sig) := by
  have hstored : c.Keeps frameless (frameRegs cv) [48 + cv, 52 + cv, 209] (c.frameStored .ingress cv b ws) := by
    obtain ⟨x, hx⟩ := frameStored_mem (cv := cv) (b := b) hcalm (m := .ingress) hmask hws
    rw [hx]
    exact .of_eq .refl rfl rfl rfl
  have hcounted := frameCounted_keeps (c.frameStored .ingress cv b ws) cv seq sig
  have hready := frameReady_keeps ((c.frameStored .ingress cv b ws).frameCounted cv seq sig) cv
  exact hstored.trans (((hcounted.view frameless fun _ => rfl).mono (fun _ h => h) (by simp)).trans
    ((hready.view frameless fun _ => rfl).mono (by simp) (by simp)))

theorem frameDone_openState : openState cv (c.frameDone cv b ws seq sig) = openState cv c := by
  obtain ⟨x, hx⟩ := frameStored_mem (cv := cv) (b := b) hcalm (m := .ingress) hmask hws
  rw [Chip.frameDone, frameReady_openState, frameCounted_openState, hx]
  rfl

theorem frameDone_state : bufState ((c.frameDone cv b ws seq sig).word (recAddr cv)) b = 2 := by
  rw [frameDone_word, frameStored_state (m := .ingress) hcalm hmask hws]
  exact bufState_setBufState_same _ _ (by decide)

theorem frameDone_desc : (c.frameDone cv b ws seq sig).words (descAddr cv b) 6 = ws.take 6 := by
  refine List.ext_getElem (by simp [Chip.words, hws]) fun i hi hi' => ?_
  have hlt : i < 6 := by simpa [Chip.words] using hi
  simp only [Chip.words, List.getElem_map, List.getElem_range, List.getElem_take]
  rw [frameDone_word, frameStored_desc (m := .ingress) hcalm hmask hws (by omega), List.getD_eq_getElem _ _ (by omega)]

theorem frameDone_bytes : SameBytes (fun n => recAddr cv ≤ n ∧ n < recAddr cv + 0x80) c (c.frameDone cv b ws seq sig) := fun n hn => by
  have hb := b.isLt
  rw [byte_congr frameDone_mem]
  exact frameStored_bytes (m := .ingress) hcalm hmask hws n (by simp only [descAddr]; omega)

theorem frameDone_stale (h : c.rb rCANV_STAT cv 0 2 = true) :
    Reports 0x05 0x51 c (settle (c.frameDone cv b ws seq sig)) ∧ (settle (c.frameDone cv b ws seq sig)).irqs.getLsbD (48 + cv) = true := by
  have hsource : ∀ cv : Fin 4, 48 + cv.val < 224 ∧ 48 + cv.val ∉ levelSources ∧ 48 + cv.val ∉ [52 + cv.val] := by decide
  obtain ⟨x, hx⟩ := frameStored_mem (cv := cv) (b := b) hcalm (m := .ingress) hmask hws
  have hstale : (c.frameStored .ingress cv b ws).rb rCANV_STAT cv 0 2 = true := by rwa [hx]
  have hreports : Reports 0x05 0x51 c (settle ((c.frameStored .ingress cv b ws).frameCounted cv seq sig)) := by
    rw [frameCounted_stale hstale, hx]
    exact canvTurned_reports (counted_errCtrl _) rfl
  have hready := frameReady_keeps ((c.frameStored .ingress cv b ws).frameCounted cv seq sig) cv
  refine ⟨hreports.of_eq ?_, hready.raised ?_ (hsource cv).2.2 (hsource cv).2.1⟩
  · rw [settle_err, settle_err]
    exact hready.same (fun r => r.err) fun _ => rfl
  · rw [frameCounted_stale hstale]
    exact irq_irqs_same _ (hsource cv).1

theorem frameDone_irq (h : c.rb rCANV_CTRL cv 0 7 = true) : (settle (c.frameDone cv b ws seq sig)).irqs.getLsbD (52 + cv) = true := by
  have hout : ∀ cv : Fin 4, rCANV_CTRL.addr cv 0 ∉ frameRegs cv := by decide
  obtain ⟨x, hx⟩ := frameStored_mem (cv := cv) (b := b) hcalm (m := .ingress) hmask hws
  refine frameReady_irq ?_
  rw [Chip.rb, (frameCounted_keeps ..).rd (hout cv), hx]
  exact h

end Calm

end Done
end
end Sys2Proof.Machine

namespace Sys2Proof.Machine

section

variable {s : State} {c d : Chip} {cv : Fin 4} {b : Fin 3}

/-! ## The hold's expiry while the Cellar is calm (R130) -/

/-- Canvas `cv` with no frame open and its universes forgotten. -/
def Chip.e131Closed (c : Chip) (cv : Nat) : Chip := (c.unisReset cv).frameClosed cv (c.e131Time cv)

theorem unisReset_only (c : Chip) (k : Nat) : ∃ x, c.unisReset k = { c with unis := x } := ⟨_, unisReset_unis c k⟩

theorem e131Closed_only (c : Chip) (k : Nat) : ∃ x y, c.e131Closed k = { c with unis := x, canvs := y } := by
  obtain ⟨x, hx⟩ := unisReset_only c k
  rw [Chip.e131Closed, hx]
  exact ⟨_, _, rfl⟩

theorem e131Closed_keeps (c : Chip) (k : Nat) : c.Keeps frameless [] [] (c.e131Closed k) := by
  obtain ⟨x, y, hxy⟩ := e131Closed_only c k
  rw [hxy]
  exact .of_eq .refl rfl rfl rfl

theorem e131Closed_openState (c : Chip) (k : Nat) : openState k (c.e131Closed k) = (none, false, (c.e131Closed k).unis) := by
  rw [openState, Chip.e131Closed, Chip.frameClosed, canv_setCanv_same]

/-- Where every universe has been received, the close stores the frame and no pixels. -/
theorem e131Close_calm (hcalm : c.celCalm) (hmask : c.rb rRGN_WMASK 6 0 5 = true) (hfwd : c.rb rTRL_CTRL 0 0 0 = false)
    (hopen : (c.canv cv).e131Open = true) (hb : (c.canv cv).openBuf = some b.val)
    (hgot : ∀ u : Fin 1024, c.rb rUNI_W0 u 0 31 = true → c.rf rUNI_W0 u 0 17 16 = cv → (c.uni u).got = true) :
    c.e131Close cv = (c.e131Closed cv).frameDone cv b (descWords false (c.rd rCANV_CNT cv 0 + 1) (c.e131Time cv) (c.canvSig (c.geom cv) b))
      (c.rd rCANV_CNT cv 0 + 1) (c.canvSig (c.geom cv) b) := by
  have htime : (c.unisReset cv).e131Time cv = c.e131Time cv := by
    obtain ⟨x, hx⟩ := unisReset_only c cv
    rw [hx]
    rfl
  rw [e131Close_open hopen hb rfl, e131Filled_calm hcalm hgot, htime, ← Chip.e131Closed]
  have hclosed := e131Closed_keeps c cv
  obtain ⟨x, y, hxy⟩ := e131Closed_only c cv
  generalize c.e131Closed cv = f at hxy hclosed ⊢
  have hcalm' : f.celCalm := by rwa [hxy]
  have hmask' : f.rb rRGN_WMASK 6 0 5 = true := (hclosed.sameRegs.rb 5 List.not_mem_nil).trans hmask
  have hfwd' : f.rb rTRL_CTRL 0 0 0 = false := (hclosed.sameRegs.rb 0 List.not_mem_nil).trans hfwd
  have hseq : c.rd rCANV_CNT cv 0 + 1 = f.rd rCANV_CNT cv 0 + 1 := by rw [hclosed.rd List.not_mem_nil]
  have hsig : c.canvSig (c.geom cv) b = f.canvSig (f.geom cv) b := by
    rw [geom_congr (hclosed.sameRegs.rf 1 0 List.not_mem_nil) (hclosed.rd List.not_mem_nil) fun _ _ => hclosed.rd List.not_mem_nil]
    exact (canvSig_congr (by rw [hxy]) (by rw [hxy]) _ _).symm
  exact canvReady_calm hcalm' hmask' hfwd' hseq hsig

theorem word_settle (c : Chip) (n : Nat) : (settle c).word n = c.word n := word_congr_bytes fun k _ _ => byte_congr (settle_mem c) k

theorem words_settle (c : Chip) (n k : Nat) : (settle c).words n k = c.words n k := by
  simp only [Chip.words, word_settle]

theorem does_e131HoldExpiry_calm {pts : Nat} (hcanv : s.chip.e131Canv cv = true) (hopen : (s.chip.canv cv).e131Open = true)
    (hsync : s.chip.rf rCANV_E131 cv 0 15 0 = 0) (hb : (s.chip.canv cv).openBuf = some b.val)
    (hgot : ∀ u : Fin 1024, s.chip.rb rUNI_W0 u 0 31 = true → s.chip.rf rUNI_W0 u 0 17 16 = cv → (s.chip.uni u).got = true) (hcalm : s.chip.celCalm)
    (hmask : s.chip.rb rRGN_WMASK 6 0 5 = true) (hfwd : s.chip.rb rTRL_CTRL 0 0 0 = false)
    (hpts : pts = (((s.chip.time.now : Int) + sgn (s.chip.rd rCANV_PDLY cv)) % (clockMod : Int)).toNat) :
    Does s (exec (.e131HoldExpiry cv) s) fun c =>
      (c.canv cv).openBuf = none ∧ (c.canv cv).e131Open = false ∧ c.rd rCANV_CNT cv 0 = s.chip.rd rCANV_CNT cv 0 + 1
      ∧ c.rd rCANV_SIG cv = s.chip.canvSig (s.chip.geom cv) b ∧ bufState (c.word (recAddr cv)) b = 2
      ∧ c.words (descAddr cv b) 6 = [0, s.chip.rd rCANV_CNT cv 0 + 1, tsWord pts 0, tsWord pts 1, tsWord pts 2, s.chip.canvSig (s.chip.geom cv) b]
      ∧ c.rb rCANV_STAT cv 0 2 = false ∧ (s.chip.rb rCANV_STAT cv 0 2 = true → Reports 0x05 0x51 s.chip c ∧ c.irqs.getLsbD (48 + cv) = true)
      ∧ (s.chip.rb rCANV_CTRL cv 0 7 = true → c.irqs.getLsbD (52 + cv) = true)
      ∧ SameBytes (fun n => recAddr cv ≤ n ∧ n < recAddr cv + 0x80) s.chip c
      ∧ c.rest = { s.chip.rest with mem := c.mem, cel := c.cel, canvs := c.canvs, unis := c.unis, err := c.err }
      ∧ Frame (rCANV_CNT.addr cv 0 :: rCANV_SIG.addr cv 0 :: rCANV_STAT.addr cv 0 :: logRegs 0x05) [48 + cv, 52 + cv, 209] s.chip c := by
  subst hpts
  refine does_e131Hold hcanv hopen hsync (e131Close_calm (c := s.chip.counted) hcalm hmask hfwd hopen hb hgot) ?_
  have hstate := e131Closed_openState s.chip.counted cv
  have hclosed := e131Closed_keeps s.chip.counted cv
  obtain ⟨x, y, hxy⟩ := e131Closed_only s.chip.counted cv
  generalize s.chip.counted.e131Closed cv = f at hstate hclosed hxy ⊢
  have hcalm' : f.celCalm := by rwa [hxy]
  have hmask' : f.rb rRGN_WMASK 6 0 5 = true := (hclosed.sameRegs.rb 5 List.not_mem_nil).trans hmask
  have hmem : f.mem = s.chip.mem := by rw [hxy]
  have herr : f.err = s.chip.err := by rw [hxy]
  have hstale : f.rb rCANV_STAT cv 0 2 = s.chip.rb rCANV_STAT cv 0 2 := hclosed.sameRegs.rb 2 List.not_mem_nil
  have hready : f.rb rCANV_CTRL cv 0 7 = s.chip.rb rCANV_CTRL cv 0 7 := hclosed.sameRegs.rb 7 List.not_mem_nil
  have herrc : f.rd rERR_CTRL = s.chip.rd rERR_CTRL := hclosed.rd List.not_mem_nil
  have hseq : s.chip.counted.rd rCANV_CNT cv 0 + 1 = s.chip.rd rCANV_CNT cv 0 + 1 := rfl
  have hsig : s.chip.counted.canvSig (s.chip.counted.geom cv) b = s.chip.canvSig (s.chip.geom cv) b := rfl
  have htime : s.chip.counted.e131Time cv = (((s.chip.time.now : Int) + sgn (s.chip.rd rCANV_PDLY cv)) % (clockMod : Int)).toNat := rfl
  rw [hseq, hsig, htime]
  generalize s.chip.rd rCANV_CNT cv 0 + 1 = seq
  generalize s.chip.canvSig (s.chip.geom cv) b = sig
  generalize (((s.chip.time.now : Int) + sgn (s.chip.rd rCANV_PDLY cv)) % (clockMod : Int)).toNat = t
  have hlen : (descWords false seq t sig).length = 8 := rfl
  have hdone := frameDone_keeps (cv := cv) (b := b) (seq := seq) (sig := sig) hcalm' hmask' hlen
  have hopen := frameDone_openState (cv := cv) (b := b) (seq := seq) (sig := sig) hcalm' hmask' hlen
  rw [hstate] at hopen
  simp only [openState, Prod.mk.injEq] at hopen
  obtain ⟨hbuf, ho, -⟩ := hopen
  refine ⟨?_, ?_, (rd_settle ..).trans frameDone_count, (rd_settle ..).trans frameDone_sig, ?_, ?_, ?_, fun h => ?_,
    fun h => frameDone_irq hcalm' hmask' hlen (hready.trans h), fun n hn => ?_, ?_, ?_⟩
  · rw [canv_settle, hbuf]
  · rw [canv_settle, ho]
  · rw [word_settle, frameDone_state hcalm' hmask' hlen]
  · rw [words_settle, frameDone_desc hcalm' hmask' hlen]
    rfl
  · exact (congrArg (bit · 2) (rd_settle ..)).trans frameDone_fresh
  · obtain ⟨hreports, hirq⟩ := frameDone_stale (b := b) (seq := seq) (sig := sig) hcalm' hmask' hlen (hstale.trans h)
    refine ⟨fun hon hroom => ?_, hirq⟩
    rw [← herr] at hroom ⊢
    exact hreports (by rwa [Chip.rb, herrc]) hroom
  · rw [byte_congr (settle_mem _), frameDone_bytes hcalm' hmask' hlen n hn, byte_congr hmem]
  · rw [rest_settle, settle_mem, settle_cel, settle_canvs, settle_unis, settle_err]
    exact rest_of_frameless (c := s.chip.counted) (hdone.sameView.trans hclosed.sameView)
  · exact ⟨(hclosed.sameRegs.mono (by simp)).trans hdone.sameRegs |>.settle, (hclosed.sameIrqs.mono (by simp)).trans hdone.sameIrqs |>.settle⟩

theorem does_e131SourceTimeout {u : Fin 1024} {i : Fin 2} {l : List E131Src} (hl : l = mget [] s.chip.uniSrcs (s.chip.rf rUNI_W0 u 0 15 0)) :
    Does s (exec (.e131SourceTimeout u i) s) fun c =>
    mget [] c.uniSrcs (s.chip.rf rUNI_W0 u 0 15 0) = l.eraseIdx i
    ∧ c.rest = { s.chip.rest with uniSrcs := if i < l.length then mset [] s.chip.uniSrcs (s.chip.rf rUNI_W0 u 0 15 0) (l.eraseIdx i) else s.chip.uniSrcs }
    ∧ Frame [] [] s.chip c := by
  by_cases hi : i.val < l.length
  · have hforget : (if i.val < l.length then s.chip.counted.setSrcs (s.chip.rf rUNI_W0 u 0 15 0) (l.eraseIdx i) else s.chip.counted) = _ := if_pos hi
    subst hl
    refine does_eq hforget ⟨?_, ?_, frame_settle (.refl _ _) rfl⟩
    · rw [settle_uniSrcs]
      exact mget_mset_same ..
    · rw [if_pos hi]
      rfl
  · have hnone : (if i.val < l.length then s.chip.counted.setSrcs (s.chip.rf rUNI_W0 u 0 15 0) (l.eraseIdx i) else s.chip.counted) = _ := if_neg hi
    subst hl
    refine does_eq hnone ⟨?_, ?_, (quiet s.chip).2⟩
    · rw [settle_uniSrcs, List.eraseIdx_of_length_le (by omega)]
    · rw [if_neg hi]
      exact (quiet s.chip).1

end

/-- Settles O18: a canvas turns stale in one update; the hold's close sets the canvas and its universes, then readies the frame, which
touches neither; and while the Cellar is calm every access of the close is as it stores. -/
theorem canvasFramesAndSources : Obligations.canvas_frames_and_sources := by
  unfold Obligations.canvas_frames_and_sources
  refine ⟨?_, ?_, ?_, ?_, ?_, ?_⟩
  · exact fun _ _ => does_canvStale
  · exact fun _ _ => does_canvStale_not
  · exact fun _ _ => does_e131HoldExpiry_idle
  · exact fun _ _ hcanv hopen hbuf hsync => does_e131HoldExpiry hcanv hopen hsync hbuf
  · exact fun _ _ _ _ hcanv hopen hsync hb hgot hcalm hmask _ hfwd hpts => does_e131HoldExpiry_calm hcanv hopen hsync hb hgot hcalm hmask hfwd hpts
  · exact fun _ _ _ _ => does_e131SourceTimeout

end Sys2Proof.Machine

/-! SUPPORT. A Dalilo Live Cue frame in its urgent parser: its layout, its authentication and its sequence number (spec/04 R134..R136). -/

namespace Sys2Proof.Machine

section

variable {s : State} {c d : Chip} {p : Fin 2} {f : RxFrame} {t : List RxFrame} {b : List Byte}

/-! ## The layout (R134, R135) -/

/-- The layout of a cue: its length, its magic and version, its fields in their ranges. -/
structure CueFits (b : List Byte) : Prop where
  length : b.length = 24
  magic : slice b 0 3 = [0x44, 0x4C, 1]
  flags : (b.getD 3 0).toNat < 2
  kid : (b.getD 8 0).toNat < 2
  cue : (b.getD 9 0).toNat < 32
  zero : slice b 10 2 = [0, 0]

/-- The two bytes of the magic number and the version's. -/
theorem magic_iff (hb : b.length = 24) : slice b 0 3 = [0x44, 0x4C, 1] ↔ beNat (slice b 0 2) = 0x444C ∧ b.getD 2 0 = 1 := by
  obtain ⟨x, y, z, l, rfl⟩ : ∃ x y z l, b = x :: y :: z :: l := by
    match b, hb with
    | x :: y :: z :: l, _ => exact ⟨x, y, z, l, rfl⟩
  have hx := x.isLt
  have hy := y.isLt
  have hnum : beNat [x, y] = 256 * x.toNat + y.toNat := by simp [beNat, Nat.mul_comm]
  have hbytes : beNat [x, y] = 0x444C ↔ x = 0x44 ∧ y = 0x4C := by
    have hhi : x = 0x44 ↔ x.toNat = 0x44 := BitVec.toNat_inj.symm
    have hlo : y = 0x4C ↔ y.toNat = 0x4C := BitVec.toNat_inj.symm
    rw [hnum, hhi, hlo]
    omega
  show [x, y, z] = _ ↔ beNat [x, y] = _ ∧ z = 1
  rw [hbytes]
  simp [and_assoc]

/-- What the parser refuses. -/
def dlcBad (f : RxFrame) (b : List Byte) : Bool :=
  f.flagged || b.length ≠ 24 || beNat (slice b 0 2) ≠ 0x444C || (b.getD 2 0) ≠ 1
    || (b.getD 3 0).toNat ≥ 2 || (b.getD 8 0).toNat ≥ 2 || (b.getD 9 0).toNat ≥ 32 || slice b 10 2 != [0, 0]

theorem dlcBad_iff : dlcBad f b = false ↔ f.flagged = false ∧ CueFits b := by
  simp only [dlcBad, Bool.or_eq_false_iff, decide_eq_false_iff_not, bne_eq_false_iff_eq, not_not, ge_iff_le, Nat.not_le]
  constructor
  · rintro ⟨⟨⟨⟨⟨⟨⟨hflag, hb⟩, hnum⟩, hver⟩, hflags⟩, hkid⟩, hcue⟩, hzero⟩
    exact ⟨hflag, hb, (magic_iff hb).mpr ⟨hnum, hver⟩, hflags, hkid, hcue, hzero⟩
  · rintro ⟨hflag, hfits⟩
    obtain ⟨hnum, hver⟩ := (magic_iff hfits.length).mp hfits.magic
    exact ⟨⟨⟨⟨⟨⟨⟨hflag, hfits.length⟩, hnum⟩, hver⟩, hfits.flags⟩, hfits.kid⟩, hfits.cue⟩, hfits.zero⟩

/-- SEQ is a word. -/
theorem beNat_four_lt (b : List Byte) (o : Nat) : beNat (slice b o 4) < 2 ^ 32 := by
  have hlt : ∀ (l : List Byte) (n k : Nat), n < 2 ^ (8 * k) → l.foldl (fun n b => n * 256 + b.toNat) n < 2 ^ (8 * (k + l.length)) := by
    intro l
    induction l with
    | nil => exact fun _ _ h => h
    | cons x t ih =>
      intro n k h
      have hx := x.isLt
      have hstep : n * 256 + x.toNat < 2 ^ (8 * (k + 1)) := by
        rw [Nat.mul_add, Nat.pow_add]
        omega
      simpa [Nat.add_assoc, Nat.add_comm 1] using ih _ _ hstep
  refine (hlt (slice b o 4) 0 0 (by decide)).trans_le (Nat.pow_le_pow_right (by decide) ?_)
  simp only [slice, List.length_take]
  omega

/-! ## The frame taken (R134) -/

/-- The parser's oldest frame taken and counted. -/
def Chip.dlcTaken (c : Chip) (p : Nat) (t : List RxFrame) : Chip := (c.setMac p { c.mac p with dlcIn := t }).urgCnt p 0

theorem dlc_bad {k : Nat} (hb : b = (parseHdr f.bytes).payload) (h : dlcBad f b = true) :
    (c.setMac k { c.mac k with dlcIn := t }).dlc k f = (c.dlcTaken k t).urgCnt k 3 := by
  subst hb
  exact if_pos h

theorem dlc_fits {k : Nat} (hb : b = (parseHdr f.bytes).payload) (h : dlcBad f b = false) :
    (c.setMac k { c.mac k with dlcIn := t }).dlc k f = (c.dlcTaken k t).cue k (parseHdr f.bytes).src b f.ts := by
  subst hb
  exact if_neg (ne_true_of_eq_false h)

section Taken

variable (halive : s.chip.alive (macDom p) = true) (hin : (s.chip.mac p).dlcIn = f :: t)
include halive hin

theorem does_dlcFrame {w : Chip} {P : Chip → Prop} (hw : (s.chip.counted.setMac p { s.chip.counted.mac p with dlcIn := t }).dlc p f = w)
    (h : P (settle w)) : Does s (exec (.dlcFrame p) s) P := by
  refine does_eq ?_ h
  have halive' : s.chip.counted.alive (macDom p) = true := halive
  have hin' : (s.chip.counted.mac p).dlcIn = f :: t := hin
  rw [if_neg (by rw [halive']; decide), hin']
  exact hw

end Taken

theorem does_dlcFrame_idle (hin : (s.chip.mac p).dlcIn = []) :
    Does s (exec (.dlcFrame p) s) fun c => c.rest = s.chip.rest ∧ Frame [] [] s.chip c := by
  have hin' : (s.chip.counted.mac p).dlcIn = [] := hin
  refine does_eq (w := s.chip.counted) ?_ (quiet s.chip)
  rw [hin']
  exact ite_self _

/-! ## The parser's counters (R134, R140) -/

theorem urgCnt_inj (p : Fin 2) {i j : Nat} (h : i ≠ j) : rURG_CNT.addr p i ≠ rURG_CNT.addr p j := by
  simp only [RegRow.addr, rURG_CNT]
  omega

theorem urgCnt_same (c : Chip) (p j : Nat) : (c.urgCnt p j).rd rURG_CNT p j = c.rd rURG_CNT p j + 1 := Chip.rd_wr_same ..

theorem urgCnt_other (c : Chip) (p : Fin 2) {i j : Nat} (h : i ≠ j) :
    (c.urgCnt p j).rd rURG_CNT p i = c.rd rURG_CNT p i := Chip.rd_wr_other _ _ (urgCnt_inj p h)

theorem dlcTaken_step (c : Chip) (p : Nat) (t : List RxFrame) :
    Chip.MacStep p { c.mac p with dlcIn := t } [rURG_CNT.addr p 0] c (c.dlcTaken p t) :=
  .wr (.of_setMac ..) _ (by simp)

theorem dlcTaken_counted (c : Chip) (p : Nat) (t : List RxFrame) : (c.dlcTaken p t).rd rURG_CNT p 0 = c.rd rURG_CNT p 0 + 1 := urgCnt_same ..

/-- A frame taken and counted once more. -/
theorem dlcCounted_step (c : Chip) (p j : Nat) (t : List RxFrame) :
    Chip.MacStep p { c.mac p with dlcIn := t } [rURG_CNT.addr p 0, rURG_CNT.addr p j] c ((c.dlcTaken p t).urgCnt p j) :=
  .wr ((dlcTaken_step c p t).mono (by simp)) _ (by simp)

theorem dlcCounted_counts (c : Chip) (p : Fin 2) {j : Nat} (h0 : j ≠ 0) (t : List RxFrame) :
    ((c.dlcTaken p t).urgCnt p j).rd rURG_CNT p 0 = c.rd rURG_CNT p 0 + 1
    ∧ ((c.dlcTaken p t).urgCnt p j).rd rURG_CNT p j = c.rd rURG_CNT p j + 1 := by
  rw [urgCnt_other _ p h0.symm, dlcTaken_counted, urgCnt_same, Chip.dlcTaken, urgCnt_other _ p h0, Chip.rd_setMac]
  exact ⟨rfl, rfl⟩

/-- What a frame that is only counted once more leaves. -/
theorem does_dlcCounted {j : Nat} (halive : s.chip.alive (macDom p) = true) (hin : (s.chip.mac p).dlcIn = f :: t) (h0 : j ≠ 0)
    (hdlc : (s.chip.counted.setMac p { s.chip.counted.mac p with dlcIn := t }).dlc p f = (s.chip.counted.dlcTaken p t).urgCnt p j) :
    Does s (exec (.dlcFrame p) s) fun c =>
      c.rest = { s.chip.rest with macs := mset ({} : Mac) s.chip.macs p { s.chip.mac p with dlcIn := t } }
      ∧ c.rd rURG_CNT p 0 = s.chip.rd rURG_CNT p 0 + 1 ∧ c.rd rURG_CNT p j = s.chip.rd rURG_CNT p j + 1
      ∧ Frame [rURG_CNT.addr p 0, rURG_CNT.addr p j] [] s.chip c := by
  have hstep := dlcCounted_step s.chip.counted p j t
  obtain ⟨hrx, hcnt⟩ := dlcCounted_counts s.chip.counted p h0 t
  refine does_dlcFrame halive hin hdlc ⟨?_, (rd_settle ..).trans hrx, (rd_settle ..).trans hcnt, hstep.frame⟩
  rw [rest_settle, hstep.rest]
  rfl

theorem does_dlcFrame_bad (halive : s.chip.alive (macDom p) = true) (hin : (s.chip.mac p).dlcIn = f :: t) (hb : b = (parseHdr f.bytes).payload)
    (hbad : ¬ (f.flagged = false ∧ CueFits b)) : Does s (exec (.dlcFrame p) s) fun c =>
      c.rest = { s.chip.rest with macs := mset ({} : Mac) s.chip.macs p { s.chip.mac p with dlcIn := t } }
      ∧ c.rd rURG_CNT p 0 = s.chip.rd rURG_CNT p 0 + 1 ∧ c.rd rURG_CNT p 3 = s.chip.rd rURG_CNT p 3 + 1
      ∧ Frame [rURG_CNT.addr p 0, rURG_CNT.addr p 3] [] s.chip c :=
  does_dlcCounted halive hin (by decide) (dlc_bad hb (by rwa [← Bool.not_eq_false, dlcBad_iff]))

end

end Sys2Proof.Machine

/-! SUPPORT. A Dalilo Live Cue that fits: authenticated, taken in sequence, and put in the queues of the banks it names (spec/04 R135..R140). -/

namespace Sys2Proof.Machine

section

variable {s : State} {c d : Chip} {p : Fin 2} {f : RxFrame} {t : List RxFrame} {b key : List Byte} {src : BitVec 32} {kid seq ts : Nat}

/-! ## Authentication and sequence (R135, R136) -/

/-- The key of id `kid`. -/
def Chip.cueKey (c : Chip) (p kid : Nat) : Option (List Byte) := if kid = 0 then (c.urg p).key0 else (c.urg p).key1

/-- No key, or another tag than the key's. -/
def Chip.cueBad (c : Chip) (p : Nat) (src : BitVec 32) (b : List Byte) : Bool :=
  match c.cueKey p (b.getD 8 0).toNat with
  | none => true
  | some k => dlcTag k src b != slice b 16 8

/-- The last cue taken is closer than the gap. -/
def Chip.urgBurst (c : Chip) (p : Nat) : Bool :=
  match (c.urg p).lastAccept with
  | none => false
  | some t => c.now < t + c.rf rURG_GAP p 0 15 0

/-- A cue taken: its SEQ and its time kept, a burst counted. -/
def Chip.cueTaken (c : Chip) (p kid : Nat) (seq : BitVec 32) : Chip :=
  let d := (c.wr rURG_LASTSEQ p kid seq).setUrg p { c.urg p with lastAccept := some c.now }
  if c.urgBurst p then d.urgCnt p 6 else d

/-- Words `ws` offered to each bank that cue `q` names. -/
def Chip.cueOffered (c : Chip) (p q : Nat) (ws : List Word) (ts : Nat) : Chip :=
  c.each (List.range 6) fun c k => c.urgPush p k (c.cueMask p q k) ws ts

/-- The argument of a cue. -/
def cueArg (b : List Byte) : Option Word := if (b.getD 3 0).getLsbD 0 then some (BitVec.ofNat 32 (beNat (slice b 12 4))) else none

/-- What a cue that is taken does by its table's entry. -/
def Chip.cueGiven (c : Chip) (p q : Nat) (seq : BitVec 32) (arg : Option Word) (ts : Nat) : Chip :=
  if !c.rb rCUE_MHI p q 31 then c.urgCnt p 4 else c.cueOffered p q (c.cueWords p q seq arg) ts

theorem cue_eq (c : Chip) (p : Nat) (src : BitVec 32) (b : List Byte) (ts : Nat) : c.cue p src b ts =
    if c.cueBad p src b then (c.urgCnt p 1).macFault p 0x28
    else if (BitVec.ofNat 32 (beNat (slice b 4 4))).toNat ≤ (c.rd rURG_LASTSEQ p (b.getD 8 0).toNat).toNat then c.urgCnt p 2
    else (c.cueTaken p (b.getD 8 0).toNat (BitVec.ofNat 32 (beNat (slice b 4 4)))).cueGiven p (b.getD 9 0).toNat
      (BitVec.ofNat 32 (beNat (slice b 4 4))) (cueArg b) ts := rfl

theorem cue_refused (h : ∀ k ∈ c.cueKey p (b.getD 8 0).toNat, dlcTag k src b ≠ slice b 16 8) :
    c.cue p src b ts = (c.urgCnt p 1).macFault p 0x28 := by
  have hbad : c.cueBad p src b = true := by
    cases hkey : c.cueKey p (b.getD 8 0).toNat with
    | none => rw [Chip.cueBad, hkey]
    | some k =>
      rw [Chip.cueBad, hkey]
      exact bne_iff_ne.mpr (h k hkey)
  rw [cue_eq, if_pos hbad]

section Authentic

variable (hkey : c.cueKey p (b.getD 8 0).toNat = some key) (htag : dlcTag key src b = slice b 16 8)
include hkey htag

theorem cueBad_authentic : c.cueBad p src b = false := by
  rw [Chip.cueBad, hkey]
  exact bne_eq_false_iff_eq.mpr htag

theorem cue_replayed (hseq : beNat (slice b 4 4) ≤ (c.rd rURG_LASTSEQ p (b.getD 8 0).toNat).toNat) : c.cue p src b ts = c.urgCnt p 2 := by
  have hword : (BitVec.ofNat 32 (beNat (slice b 4 4))).toNat = beNat (slice b 4 4) := Nat.mod_eq_of_lt (beNat_four_lt b 4)
  rw [cue_eq, cueBad_authentic hkey htag, if_neg Bool.false_ne_true, hword, if_pos hseq]

theorem cue_accepted (hseq : (c.rd rURG_LASTSEQ p (b.getD 8 0).toNat).toNat < beNat (slice b 4 4)) : c.cue p src b ts
    = (c.cueTaken p (b.getD 8 0).toNat (BitVec.ofNat 32 (beNat (slice b 4 4)))).cueGiven p (b.getD 9 0).toNat
      (BitVec.ofNat 32 (beNat (slice b 4 4))) (cueArg b) ts := by
  have hword : (BitVec.ofNat 32 (beNat (slice b 4 4))).toNat = beNat (slice b 4 4) := Nat.mod_eq_of_lt (beNat_four_lt b 4)
  rw [cue_eq, cueBad_authentic hkey htag, if_neg Bool.false_ne_true, hword, if_neg (Nat.not_le.mpr hseq)]

end Authentic

/-! ## Frames refused and replayed (R135, R136) -/

theorem lastSeq_taken (c : Chip) (p : Fin 2) (t : List RxFrame) {kid : Nat} (h : kid < 2) :
    (c.dlcTaken p t).rd rURG_LASTSEQ p kid = c.rd rURG_LASTSEQ p kid := by
  have hne : ∀ p : Fin 2, ∀ k < 2, rURG_LASTSEQ.addr p k ≠ rURG_CNT.addr p 0 := by decide
  rw [Chip.dlcTaken, Chip.urgCnt, Chip.inc, Chip.rd_wr_other _ _ (hne p kid h), Chip.rd_setMac]

section Frames

variable (halive : s.chip.alive (macDom p) = true) (hin : (s.chip.mac p).dlcIn = f :: t) (hflag : f.flagged = false)
  (hb : b = (parseHdr f.bytes).payload) (hfits : CueFits b)
include halive hin hflag hb hfits

theorem does_dlcFrame_cue {w : Chip} {P : Chip → Prop} (hw : (s.chip.counted.dlcTaken p t).cue p (parseHdr f.bytes).src b f.ts = w)
    (h : P (settle w)) : Does s (exec (.dlcFrame p) s) P :=
  does_dlcFrame halive hin ((dlc_fits hb (dlcBad_iff.mpr ⟨hflag, hfits⟩)).trans hw) h

theorem does_dlcFrame_refused (htag : ∀ k ∈ s.chip.cueKey p (b.getD 8 0).toNat, dlcTag k (parseHdr f.bytes).src b ≠ slice b 16 8) :
    Does s (exec (.dlcFrame p) s) fun c =>
      c.rest = { s.chip.rest with macs := mset ({} : Mac) s.chip.macs p { s.chip.mac p with dlcIn := t }, err := c.err }
      ∧ c.rd rURG_CNT p 0 = s.chip.rd rURG_CNT p 0 + 1 ∧ c.rd rURG_CNT p 1 = s.chip.rd rURG_CNT p 1 + 1
      ∧ Reports (2 + p) 0x28 s.chip c ∧ c.irqs.getLsbD (35 + 4 * p) = true
      ∧ Frame (rURG_CNT.addr p 0 :: rURG_CNT.addr p 1 :: logRegs (2 + p)) [35 + 4 * p, 209] s.chip c := by
  have hctrl : ∀ p : Fin 2, rERR_CTRL.addr 0 0 ∉ [rURG_CNT.addr p 0, rURG_CNT.addr p 1] := by decide
  have hcnt : ∀ p : Fin 2, rURG_CNT.addr p 0 ∉ logRegs (2 + p) ∧ rURG_CNT.addr p 1 ∉ logRegs (2 + p) := by decide
  obtain ⟨hrest, hreports, hirq, hframe⟩ := macFault_after (code := 0x28) (by omega) (dlcCounted_step s.chip.counted p 1 t) (hctrl p)
  obtain ⟨hrx, hfail⟩ := dlcCounted_counts s.chip.counted p (j := 1) (by decide) t
  refine does_dlcFrame_cue halive hin hflag hb hfits (cue_refused (c := s.chip.counted.dlcTaken p t) htag) ⟨hrest, ?_, ?_, hreports, hirq, hframe⟩
  · rw [rd_settle, Chip.macFault, Chip.rd_irq, macSrc, Chip.rd_log_other (hcnt p).1, hrx]
    rfl
  · rw [rd_settle, Chip.macFault, Chip.rd_irq, macSrc, Chip.rd_log_other (hcnt p).2, hfail]
    rfl

theorem does_dlcFrame_replayed (hkey : s.chip.cueKey p (b.getD 8 0).toNat = some key) (htag : dlcTag key (parseHdr f.bytes).src b = slice b 16 8)
    (hseq : beNat (slice b 4 4) ≤ (s.chip.rd rURG_LASTSEQ p (b.getD 8 0).toNat).toNat) : Does s (exec (.dlcFrame p) s) fun c =>
      c.rest = { s.chip.rest with macs := mset ({} : Mac) s.chip.macs p { s.chip.mac p with dlcIn := t } }
      ∧ c.rd rURG_CNT p 0 = s.chip.rd rURG_CNT p 0 + 1 ∧ c.rd rURG_CNT p 2 = s.chip.rd rURG_CNT p 2 + 1
      ∧ Frame [rURG_CNT.addr p 0, rURG_CNT.addr p 2] [] s.chip c := by
  have hlast : (s.chip.counted.dlcTaken p t).rd rURG_LASTSEQ p (b.getD 8 0).toNat = s.chip.rd rURG_LASTSEQ p (b.getD 8 0).toNat :=
    lastSeq_taken s.chip.counted p t hfits.kid
  refine does_dlcCounted halive hin (by decide) ((dlc_fits hb (dlcBad_iff.mpr ⟨hflag, hfits⟩)).trans ?_)
  exact cue_replayed (c := s.chip.counted.dlcTaken p t) hkey htag (by rwa [hlast])

end Frames

end

end Sys2Proof.Machine

/-! SUPPORT. A cue's insert offered to the six banks: what each queue holds, which banks were without room (spec/04 R137, R138, R140). -/

namespace Sys2Proof.Machine

section

variable {c d : Chip} {p : Fin 2} {q : Fin 32} {m : BitVec 8} {ws : List Word} {k ts : Nat}

/-! ## One bank (R138) -/

/-- The entries of an insert of words `ws` for the ports of mask `m`. -/
def insertEnts (m : BitVec 8) (ws : List Word) (ts : Nat) : List UrgEnt :=
  ws.mapIdx fun i w => { mask := m, word := w, words := if i = 0 then ws.length else 0, ts := ts, left := m }

/-- Bank `k` is named by cue `q` and has no room for `n` words. -/
def Chip.bankFull (c : Chip) (p q n k : Nat) : Bool := decide (c.cueMask p q k ≠ 0) && decide (16 < (c.urgQueue p k).length + n)

/-- What bank `k` gets of an insert of cue `q`. -/
def Chip.bankEnts (c : Chip) (p q : Nat) (ws : List Word) (ts k : Nat) : List UrgEnt :=
  if c.cueMask p q k = 0 ∨ 16 < (c.urgQueue p k).length + ws.length then [] else insertEnts (c.cueMask p q k) ws ts

/-- The insert of cue `q` offered to bank `k`. -/
def Chip.bankOffered (c : Chip) (p q : Nat) (ws : List Word) (ts k : Nat) : Chip := c.urgPush p k (c.cueMask p q k) ws ts

theorem bankOffered_full (h : c.bankFull p q ws.length k = true) :
    c.bankOffered p q ws ts k = (c.urgCnt p 5).macFault p 0x29 ∧ c.bankEnts p q ws ts k = [] := by
  obtain ⟨hm, hroom⟩ := Bool.and_eq_true_iff.mp h
  exact ⟨(if_neg (of_decide_eq_true hm)).trans (if_pos (of_decide_eq_true hroom)), if_pos (.inr (of_decide_eq_true hroom))⟩

theorem setUrgQueue_queue (c : Chip) (p k j : Nat) (l : List UrgEnt) : (c.setUrgQueue p k l).urgQueue p j = if j = k then l else c.urgQueue p j := by
  rw [Chip.urgQueue, Chip.setUrgQueue, mget_mset]
  exact if_congr (by omega) rfl rfl

/-- The module beside the urgent queues and reports. -/
def queueless (r : Chip) : Chip := { r with urgQ := [], err := {} }

/-- A bank with room: its queue has what it gets, and nothing else changes. -/
theorem bankOffered_room (h : c.bankFull p q ws.length k = false) :
    c.Keeps queueless [] [] (c.bankOffered p q ws ts k) ∧ (c.bankOffered p q ws ts k).err = c.err
    ∧ ∀ j, (c.bankOffered p q ws ts k).urgQueue p j = c.urgQueue p j ++ if j = k then c.bankEnts p q ws ts j else [] := by
  by_cases hm : c.cueMask p q k = 0
  · have hnone : c.bankOffered p q ws ts k = c := if_pos hm
    have hents : c.bankEnts p q ws ts k = [] := if_pos (.inl hm)
    rw [hnone]
    refine ⟨.refl, rfl, fun j => ?_⟩
    by_cases hj : j = k
    · rw [if_pos hj, hj, hents, List.append_nil]
    · rw [if_neg hj, List.append_nil]
  · have hroom : ¬ 16 < (c.urgQueue p k).length + ws.length := fun hfull => by
      rw [Chip.bankFull, decide_eq_true hm, decide_eq_true hfull] at h
      exact absurd h (by decide)
    have hset : c.bankOffered p q ws ts k = c.setUrgQueue p k (c.urgQueue p k ++ insertEnts (c.cueMask p q k) ws ts) := (if_neg hm).trans (if_neg hroom)
    have hents : c.bankEnts p q ws ts k = insertEnts (c.cueMask p q k) ws ts := if_neg (not_or.mpr ⟨hm, hroom⟩)
    rw [hset]
    refine ⟨.of_eq .refl rfl rfl rfl, rfl, fun j => ?_⟩
    rw [setUrgQueue_queue]
    by_cases hj : j = k
    · rw [if_pos hj, if_pos hj, hj, hents]
    · rw [if_neg hj, if_neg hj, List.append_nil]

/-! ## All banks (R138, R140) -/

/-- The registers and interrupts that banks without room change. -/
def fullRegs (p n : Nat) : List Nat := rURG_CNT.addr p 5 :: (if n = 0 then [] else logRegs (2 + p))
def fullIrqs (p n : Nat) : List Nat := if n = 0 then [] else [35 + 4 * p, 209]

/-- How `c` becomes `d` when cue `q`'s insert is offered to banks `l`. -/
structure Chip.Offers (p q : Nat) (ws : List Word) (ts : Nat) (l : List Nat) (c d : Chip) (n : Nat) : Prop where
  full : n = (l.filter (c.bankFull p q ws.length)).length
  keeps : c.Keeps queueless (fullRegs p n) (fullIrqs p n) d
  queues : ∀ k, d.urgQueue p k = c.urgQueue p k ++ if k ∈ l then c.bankEnts p q ws ts k else []
  count : d.rd rURG_CNT p 5 = c.rd rURG_CNT p 5 + BitVec.ofNat 32 n
  logs : Logs (2 + p) (List.replicate n 0x29) c d
  raised : n ≠ 0 → d.irqs.getLsbD (35 + 4 * p) = true

theorem cueMask_congr (h : ∀ r ∈ [rCUE_MHI, rCUE_MLO], d.rd r p q = c.rd r p q) (k : Nat) : d.cueMask p q k = c.cueMask p q k := by
  rw [Chip.cueMask, Chip.rf, h rCUE_MHI (by simp), h rCUE_MLO (by simp)]
  rfl

/-- One bank's offer in the same words. -/
theorem bankOffered_offers (c : Chip) (p : Fin 2) (q : Fin 32) (ws : List Word) (ts k : Nat) :
    c.Offers p q ws ts [k] (c.bankOffered p q ws ts k) (if c.bankFull p q ws.length k then 1 else 0) := by
  cases h : c.bankFull p q ws.length k with
  | false =>
    obtain ⟨hkeeps, herr, hqueues⟩ := bankOffered_room (ts := ts) h
    exact ⟨by simp [h], hkeeps.mono (by simp) (by simp), fun j => by simpa using hqueues j, by simpa using hkeeps.rd List.not_mem_nil, .nil (by rw [herr]), by simp⟩
  | true =>
    obtain ⟨hfault, hents⟩ := bankOffered_full (ts := ts) h
    have hcnt : ∀ p : Fin 2, rURG_CNT.addr p 5 ∉ logRegs (2 + p) ∧ rERR_CTRL.addr 0 0 ≠ rURG_CNT.addr p 5 := by decide
    rw [hfault]
    refine ⟨by simp [h], ?_, fun j => ?_, ?_, ?_, fun _ => irq_irqs_same _ (by omega)⟩
    · exact .irq (.log (.wr .refl _ List.mem_cons_self) (fun _ _ => rfl) (fun _ h => List.mem_cons_of_mem _ h) (by simp [fullIrqs])) (by simp [fullIrqs])
    · have hqueue : ((c.urgCnt p 5).macFault p 0x29).urgQueue p j = c.urgQueue p j := by
        rw [Chip.urgQueue, Chip.macFault, Chip.irq_urgQ, Chip.log_urgQ]
        rfl
      rw [hqueue]
      by_cases hj : j ∈ [k]
      · rw [if_pos hj, List.mem_singleton.mp hj, hents, List.append_nil]
      · rw [if_neg hj, List.append_nil]
    · rw [Chip.macFault, Chip.rd_irq, macSrc, Chip.rd_log_other (hcnt p).1, urgCnt_same]
      rfl
    · exact .of_reports (.irq (.log _ _ _ (Chip.rd_wr_other _ _ (hcnt p).2).symm rfl (by omega)) _)

theorem fullRegs_sub (p : Nat) {n k : Nat} (h : k = 0 → n = 0) : ∀ x ∈ fullRegs p n, x ∈ fullRegs p k := by
  by_cases hk : k = 0
  · rw [hk, h hk]
    exact fun _ => id
  · have hall : fullRegs p k = rURG_CNT.addr p 5 :: logRegs (2 + p) := by rw [fullRegs, if_neg hk]
    rw [hall, fullRegs]
    split <;> simp +contextual

theorem fullIrqs_sub (p : Nat) {n k : Nat} (h : k = 0 → n = 0) : ∀ x ∈ fullIrqs p n, x ∈ fullIrqs p k := by
  by_cases hk : k = 0
  · rw [hk, h hk]
    exact fun _ => id
  · have hall : fullIrqs p k = [35 + 4 * p, 209] := if_neg hk
    rw [hall, fullIrqs]
    split <;> simp

theorem not_fullRegs {r : RegRow} {i j n : Nat} (h : r.addr i j ∉ rURG_CNT.addr p 5 :: logRegs (2 + p)) : r.addr i j ∉ fullRegs p n := fun hn => by
  refine h ?_
  rw [fullRegs] at hn
  split at hn <;> simp_all

/-- The registers of cue `q` and the log's control are none of them. -/
theorem Chip.Offers.rd {l : List Nat} {n : Nat} (h : c.Offers p q ws ts l d n) :
    (∀ r ∈ [rCUE_MHI, rCUE_MLO], d.rd r p q = c.rd r p q) ∧ d.rd rERR_CTRL = c.rd rERR_CTRL := by
  have hcue : ∀ p : Fin 2, ∀ q : Fin 32, ∀ r ∈ [rCUE_MHI, rCUE_MLO], r.addr p q ∉ rURG_CNT.addr p 5 :: logRegs (2 + p) := by decide
  have hctrl : ∀ p : Fin 2, rERR_CTRL.addr 0 0 ∉ rURG_CNT.addr p 5 :: logRegs (2 + p) := by decide
  exact ⟨fun r hr => h.keeps.rd (not_fullRegs (hcue p q r hr)), h.keeps.rd (not_fullRegs (hctrl p))⟩

/-- What a bank gets and whether it is full stand while others are offered the insert. -/
theorem Chip.Offers.other {l : List Nat} {n : Nat} (h : c.Offers p q ws ts l d n) (hk : k ∉ l) :
    d.bankFull p q ws.length k = c.bankFull p q ws.length k ∧ d.bankEnts p q ws ts k = c.bankEnts p q ws ts k := by
  have hmask := cueMask_congr (c := c) (d := d) h.rd.1 k
  have hqueue : d.urgQueue p k = c.urgQueue p k := by rw [h.queues, if_neg hk, List.append_nil]
  rw [Chip.bankFull, Chip.bankEnts, hmask, hqueue]
  exact ⟨rfl, rfl⟩

/-- One bank, then others. -/
theorem Chip.Offers.cons {e : Chip} {l : List Nat} {n j : Nat} (h : c.Offers p q ws ts [k] d n) (g : d.Offers p q ws ts l e j) (hk : k ∉ l) :
    c.Offers p q ws ts (k :: l) e (n + j) := by
  have hother : ∀ x ∈ l, x ∉ [k] := fun x hx hxk => hk (List.mem_singleton.mp hxk ▸ hx)
  have hfull : l.filter (d.bankFull p q ws.length) = l.filter (c.bankFull p q ws.length) :=
    List.filter_congr fun x hx => (h.other (hother x hx)).1
  refine ⟨?_, ?_, fun x => ?_, ?_, ?_, fun hnj => ?_⟩
  · rw [g.full, hfull, h.full, ← List.length_append, ← List.filter_append]
    rfl
  · exact (h.keeps.mono (fullRegs_sub p (by omega)) (fullIrqs_sub p (by omega))).trans
      (g.keeps.mono (fullRegs_sub p (by omega)) (fullIrqs_sub p (by omega)))
  · rw [g.queues, h.queues]
    by_cases hx : x = k
    · subst hx
      rw [if_neg hk, if_pos List.mem_cons_self, if_pos List.mem_cons_self, List.append_nil]
    · have hxk : x ∉ [k] := fun hxk => hx (List.mem_singleton.mp hxk)
      rw [if_neg hxk, List.append_nil, (h.other hxk).2]
      simp [hx]
  · rw [g.count, h.count, BitVec.add_assoc, BitVec.ofNat_add]
  · rw [List.replicate_add]
    exact h.logs.append g.logs (by rw [Chip.rb, h.rd.2, Chip.rb])
  · by_cases hj : j = 0
    · have hirq : e.irqs.getLsbD (35 + 4 * p) = d.irqs.getLsbD (35 + 4 * p) :=
        g.keeps.sameIrqs _ (by rw [fullIrqs, if_pos hj]; exact List.not_mem_nil) (faultIrq_edge (by omega)).2
      rw [hirq]
      exact h.raised (by omega)
    · exact g.raised hj

/-- The insert of a cue offered to distinct banks one after another. -/
theorem each_offers (p : Fin 2) (q : Fin 32) (ws : List Word) (ts : Nat) {l : List Nat} (hl : l.Nodup) (c : Chip) :
    c.Offers p q ws ts l (c.each l fun c k => c.bankOffered p q ws ts k) (l.filter (c.bankFull p q ws.length)).length := by
  induction l generalizing c with
  | nil => exact ⟨rfl, .refl, fun _ => (List.append_nil _).symm, (BitVec.add_zero _).symm, .nil rfl, fun h => absurd rfl h⟩
  | cons k l ih =>
    obtain ⟨hk, hl⟩ := List.nodup_cons.mp hl
    have hcons := (bankOffered_offers c p q ws ts k).cons (ih hl (c.bankOffered p q ws ts k)) hk
    rw [← hcons.full]
    exact hcons

end

end Sys2Proof.Machine

/-! SUPPORT. A Dalilo Live Cue taken (spec/04 R134, R136..R138, R140). -/

namespace Sys2Proof.Machine

section

variable {s : State} {a c d : Chip} {p : Fin 2} {q : Fin 32} {f : RxFrame} {t : List RxFrame} {b key : List Byte} {ws : List Word} {k n ts : Nat}
  {kid : Fin 2} {seq : BitVec 32} {arg : Option Word}

/-! ## What a cue's entry makes of it (R137, R140) -/

theorem urgLast_ne (p i : Fin 2) {j : Nat} (hj : j < 7) : rURG_LASTSEQ.addr p i ≠ rURG_CNT.addr p j := by
  have hp := p.isLt
  have hi := i.isLt
  simp only [RegRow.addr, rURG_LASTSEQ, rURG_CNT]
  omega

/-- How `c` becomes `d` when a cue taken is given to entry `q`. -/
structure Chip.Gives (p q : Nat) (ws : List Word) (ts : Nat) (c d : Chip) (n : Nat) : Prop where
  full : n = if c.rb rCUE_MHI p q 31 = true then ((List.range 6).filter (c.bankFull p q ws.length)).length else 0
  keeps : c.Keeps queueless (rURG_CNT.addr p 4 :: fullRegs p n) (fullIrqs p n) d
  queues : ∀ k : Fin 6, d.urgQueue p k = c.urgQueue p k ++ if c.rb rCUE_MHI p q 31 = false then [] else c.bankEnts p q ws ts k
  noCue : d.rd rURG_CNT p 4 = c.rd rURG_CNT p 4 + if c.rb rCUE_MHI p q 31 = true then 0 else 1
  count : d.rd rURG_CNT p 5 = c.rd rURG_CNT p 5 + BitVec.ofNat 32 n
  logs : Logs (2 + p) (List.replicate n 0x29) c d
  raised : n ≠ 0 → d.irqs.getLsbD (35 + 4 * p) = true

theorem cueGiven_gives (c : Chip) (p : Fin 2) (q : Fin 32) (seq : BitVec 32) (arg : Option Word) (ts : Nat) :
    ∃ n, c.Gives p q (c.cueWords p q seq arg) ts (c.cueGiven p q seq arg ts) n := by
  cases hon : c.rb rCUE_MHI p q 31 with
  | false =>
    have hgiven : c.cueGiven p q seq arg ts = c.urgCnt p 4 := if_pos (by rw [hon]; rfl)
    rw [hgiven]
    refine ⟨0, by simp [hon], .wr .refl _ List.mem_cons_self, fun k => ?_, ?_, ?_, .nil rfl, fun h => absurd rfl h⟩
    · rw [if_pos hon, List.append_nil]
      rfl
    · rw [urgCnt_same, hon]
      rfl
    · rw [urgCnt_other _ p (by decide)]
      exact (BitVec.add_zero _).symm
  | true =>
    have hgiven : c.cueGiven p q seq arg ts = c.each (List.range 6) fun e k => e.bankOffered p q (c.cueWords p q seq arg) ts k := if_neg (by rw [hon]; decide)
    have hoffers := each_offers p q (c.cueWords p q seq arg) ts (List.nodup_range (n := 6)) c
    have hcnt : ∀ p : Fin 2, rURG_CNT.addr p 4 ∉ rURG_CNT.addr p 5 :: logRegs (2 + p) := by decide
    rw [hgiven]
    refine ⟨_, by rw [if_pos hon], hoffers.keeps.mono (fun _ => List.mem_cons_of_mem _) fun _ => id, fun k => ?_, ?_, hoffers.count, hoffers.logs, hoffers.raised⟩
    · rw [hoffers.queues, if_pos (List.mem_range.mpr k.isLt), if_neg (by rw [hon]; decide)]
    · rw [hoffers.keeps.rd (not_fullRegs (hcnt p)), hon]
      exact (BitVec.add_zero _).symm

/-! ## The cue taken (R136, R140) -/

/-- The module beside the parsers. -/
def parserless (r : Chip) : Chip := { r with urgs := [] }

theorem cueTaken_keeps (c : Chip) (p kid : Nat) (seq : BitVec 32) :
    c.Keeps parserless [rURG_LASTSEQ.addr p kid, rURG_CNT.addr p 6] [] (c.cueTaken p kid seq) := by
  have hset : c.Keeps parserless [rURG_LASTSEQ.addr p kid, rURG_CNT.addr p 6] []
      ((c.wr rURG_LASTSEQ p kid seq).setUrg p { c.urg p with lastAccept := some c.now }) :=
    .of_eq (.wr (r := rURG_LASTSEQ) (i := p) (j := kid) .refl seq List.mem_cons_self) rfl rfl rfl
  exact .ite (hset.wr _ (by simp)) hset

theorem cueTaken_last (c : Chip) (p kid : Fin 2) (seq : BitVec 32) : (c.cueTaken p kid seq).rd rURG_LASTSEQ p kid = seq := by
  have hset : ((c.wr rURG_LASTSEQ p kid seq).setUrg p { c.urg p with lastAccept := some c.now }).rd rURG_LASTSEQ p kid = seq := Chip.rd_wr_same ..
  unfold Chip.cueTaken
  dsimp only
  split
  · rw [Chip.urgCnt, Chip.inc, Chip.rd_wr_other _ _ (urgLast_ne p kid (by decide)), hset]
  · exact hset

theorem cueTaken_accept (c : Chip) (p kid : Nat) (seq : BitVec 32) : ((c.cueTaken p kid seq).urg p).lastAccept = some c.now := by
  have hset : ((c.wr rURG_LASTSEQ p kid seq).setUrg p { c.urg p with lastAccept := some c.now }).urg p = { c.urg p with lastAccept := some c.now } :=
    mget_mset_same ..
  unfold Chip.cueTaken
  dsimp only
  split
  · exact congrArg Urg.lastAccept hset
  · exact congrArg Urg.lastAccept hset

theorem urgBurst_eq (c : Chip) (p : Nat) : c.urgBurst p = (c.urg p).lastAccept.any fun t => decide (c.now < t + c.rf rURG_GAP p 0 15 0) := by
  unfold Chip.urgBurst
  cases (c.urg p).lastAccept <;> rfl

theorem cueTaken_burst (c : Chip) (p kid : Fin 2) (seq : BitVec 32) :
    (c.cueTaken p kid seq).rd rURG_CNT p 6 = c.rd rURG_CNT p 6 + if c.urgBurst p = true then 1 else 0 := by
  have hset : ((c.wr rURG_LASTSEQ p kid seq).setUrg p { c.urg p with lastAccept := some c.now }).rd rURG_CNT p 6 = c.rd rURG_CNT p 6 :=
    Chip.rd_wr_other _ _ (urgLast_ne p kid (by decide)).symm
  unfold Chip.cueTaken
  dsimp only
  split
  · rw [urgCnt_same, hset]
  · exact hset.trans (BitVec.add_zero _).symm

/-! ## The frame of a cue taken (R134, R136..R138, R140) -/

/-- The frame and its cue taken. -/
def Chip.cueAccepted (c : Chip) (p : Nat) (t : List RxFrame) (kid : Nat) (seq : BitVec 32) : Chip := (c.dlcTaken p t).cueTaken p kid seq

/-- The registers they change. -/
def acceptRegs (p kid : Nat) : List Nat := [rURG_CNT.addr p 0, rURG_LASTSEQ.addr p kid, rURG_CNT.addr p 6]

/-- The module beside the MACs and the parsers. -/
def cueless (r : Chip) : Chip := { r with macs := [], urgs := [] }

/-- The module beside all that a cue reaches. -/
def cueView (r : Chip) : Chip := { r with macs := [], urgs := [], urgQ := [], err := {} }

theorem cueAccepted_keeps (c : Chip) (p kid : Nat) (t : List RxFrame) (seq : BitVec 32) :
    c.Keeps cueless (acceptRegs p kid) [] (c.cueAccepted p t kid seq) := by
  have htaken := cueTaken_keeps (c.dlcTaken p t) p kid seq
  have hset : c.Keeps cueless (acceptRegs p kid) [] (c.setMac p { c.mac p with dlcIn := t }) := .of_eq .refl rfl rfl rfl
  have hframe : c.Keeps cueless (acceptRegs p kid) [] (c.dlcTaken p t) := hset.wr _ List.mem_cons_self
  exact hframe.trans ((htaken.view cueless fun _ => rfl).mono (by simp [acceptRegs]) fun _ => id)

theorem cueAccepted_macs (c : Chip) (p kid : Nat) (t : List RxFrame) (seq : BitVec 32) :
    (c.cueAccepted p t kid seq).macs = mset ({} : Mac) c.macs p { c.mac p with dlcIn := t } :=
  ((cueTaken_keeps (c.dlcTaken p t) p kid seq).same (fun r => r.macs) fun _ => rfl).trans (dlcTaken_step c p t).macs

section Accepted

variable (h : d = c.cueAccepted p t kid seq)
include h

theorem accepted_rd {r : RegRow} {i j : Nat} (hr : r.addr i j ∉ acceptRegs p kid) : d.rd r i j = c.rd r i j := by
  rw [h]
  exact (cueAccepted_keeps ..).rd hr

theorem accepted_queue (k : Nat) : d.urgQueue p k = c.urgQueue p k := by
  rw [h]
  exact (cueAccepted_keeps ..).same (fun r => r.urgQueue p k) fun _ => rfl

theorem accepted_cue {r : RegRow} (hr : r ∈ [rCUE_MHI, rCUE_MLO, rCUE_TPL]) : d.rd r p q = c.rd r p q := by
  have hcue : ∀ p kid : Fin 2, ∀ q : Fin 32, ∀ r ∈ [rCUE_MHI, rCUE_MLO, rCUE_TPL], r.addr p q ∉ acceptRegs p kid := by decide
  exact accepted_rd h (hcue p kid q r hr)

theorem accepted_mask (k : Nat) : d.cueMask p q k = c.cueMask p q k :=
  cueMask_congr (fun r hr => accepted_cue h (by simp only [List.mem_cons] at hr ⊢; tauto)) k

theorem accepted_full (n k : Nat) : d.bankFull p q n k = c.bankFull p q n k := by
  rw [Chip.bankFull, accepted_mask h, accepted_queue h, Chip.bankFull]

theorem accepted_ents (ws : List Word) (ts k : Nat) : d.bankEnts p q ws ts k = c.bankEnts p q ws ts k := by
  rw [Chip.bankEnts, accepted_mask h, accepted_queue h, Chip.bankEnts]

theorem accepted_on : d.rb rCUE_MHI p q 31 = c.rb rCUE_MHI p q 31 := by
  rw [Chip.rb, accepted_cue h (by simp), Chip.rb]

theorem accepted_words (seq : BitVec 32) (arg : Option Word) : d.cueWords p q seq arg = c.cueWords p q seq arg := by
  have hmhi : d.rb rCUE_MHI p q 30 = c.rb rCUE_MHI p q 30 := by rw [Chip.rb, accepted_cue h (by simp), Chip.rb]
  unfold Chip.cueWords
  rw [hmhi, accepted_cue h (by simp)]

theorem accepted_counts : d.rd rURG_CNT p 0 = c.rd rURG_CNT p 0 + 1 ∧ d.rd rURG_CNT p 6 = c.rd rURG_CNT p 6 + if c.urgBurst p = true then 1 else 0 := by
  have hrx : ∀ p kid : Fin 2, rURG_CNT.addr p 0 ∉ [rURG_LASTSEQ.addr p kid, rURG_CNT.addr p 6] := by decide
  have hgap : ∀ p : Fin 2, rURG_GAP.addr p 0 ≠ rURG_CNT.addr p 0 := by decide
  have hburst : (c.dlcTaken p t).urgBurst p = c.urgBurst p := by
    have hrf : (c.dlcTaken p t).rf rURG_GAP p 0 15 0 = c.rf rURG_GAP p 0 15 0 := by
      rw [Chip.rf, Chip.dlcTaken, Chip.urgCnt, Chip.inc, Chip.rd_wr_other _ _ (hgap p), Chip.rd_setMac, ← Chip.rf]
    rw [urgBurst_eq, urgBurst_eq, hrf]
    rfl
  have hsix : (c.dlcTaken p t).rd rURG_CNT p 6 = c.rd rURG_CNT p 6 := by
    rw [Chip.dlcTaken, urgCnt_other _ p (by decide), Chip.rd_setMac]
  rw [h, Chip.cueAccepted, cueTaken_burst, (cueTaken_keeps ..).rd (hrx p kid), dlcTaken_counted, hburst, hsix]
  exact ⟨rfl, rfl⟩

end Accepted

/-- The words of a cue's insert. -/
theorem cueWords_eq (c : Chip) {seq : Nat} (hseq : seq < 2 ^ 32) (hflags : (b.getD 3 0).toNat < 2) :
    c.cueWords p q (BitVec.ofNat 32 seq) (cueArg b) = if (b.getD 3 0).toNat = 1 ∧ c.rb rCUE_MHI p q 30 = true
      then [setFld (setFld (c.rd rCUE_TPL p q) 15 8 seq) 3 2 1, BitVec.ofNat 32 (beNat (slice b 12 4))]
      else [setFld (setFld (c.rd rCUE_TPL p q) 15 8 seq) 3 2 0] := by
  have hword : (BitVec.ofNat 32 seq).toNat = seq := Nat.mod_eq_of_lt hseq
  have hbit : (b.getD 3 0).getLsbD 0 = decide ((b.getD 3 0).toNat = 1) := by
    rw [BitVec.getLsbD, Nat.testBit_zero]
    exact decide_eq_decide.mpr (by omega)
  rw [Chip.cueWords.eq_def, cueArg, hword, hbit]
  by_cases h1 : (b.getD 3 0).toNat = 1
  · cases hon : c.rb rCUE_MHI p q 30 with
    | true => rw [decide_eq_true h1, if_pos rfl, if_pos ⟨h1, rfl⟩]; rfl
    | false => rw [decide_eq_true h1, if_pos rfl, if_neg (by simp)]; rfl
  · rw [decide_eq_false h1, if_neg Bool.false_ne_true, if_neg (fun h => h1 h.1)]
    rfl

/-- The registers of an accepted cue, whether banks were full or none. -/
theorem urgRegs_eq (p kid n : Nat) : ∀ x, x ∈ acceptRegs p kid ∨ x ∈ rURG_CNT.addr p 4 :: fullRegs p n →
    x ∈ rURG_CNT.addr p 0 :: rURG_CNT.addr p 4 :: rURG_CNT.addr p 5 :: rURG_CNT.addr p 6 :: rURG_LASTSEQ.addr p kid
      :: (if n = 0 then [] else logRegs (2 + p)) := by
  intro x hx
  simp only [acceptRegs, fullRegs, List.mem_cons, List.not_mem_nil, or_false] at hx ⊢
  tauto

theorem does_dlcFrame_accepted {q' kid' seq full : Nat} (halive : s.chip.alive (macDom p) = true) (hin : (s.chip.mac p).dlcIn = f :: t) (hflag : f.flagged = false)
    (hb : b = (parseHdr f.bytes).payload) (hfits : CueFits b) (hkid : kid' = (b.getD 8 0).toNat) (hq : q' = (b.getD 9 0).toNat)
    (hkey : s.chip.cueKey p kid' = some key) (htag : dlcTag key (parseHdr f.bytes).src b = slice b 16 8)
    (hseq : seq = beNat (slice b 4 4)) (hlast : (s.chip.rd rURG_LASTSEQ p kid').toNat < seq)
    (hws : ws = (if (b.getD 3 0).toNat = 1 ∧ s.chip.rb rCUE_MHI p q' 30 = true
      then [setFld (setFld (s.chip.rd rCUE_TPL p q') 15 8 seq) 3 2 1, BitVec.ofNat 32 (beNat (slice b 12 4))]
      else [setFld (setFld (s.chip.rd rCUE_TPL p q') 15 8 seq) 3 2 0]))
    (hfull : full = (if s.chip.rb rCUE_MHI p q' 31 = true
      then ((List.range 6).filter fun k => decide (s.chip.cueMask p q' k ≠ 0) && decide (16 < (s.chip.urgQueue p k).length + ws.length)).length else 0)) :
    Does s (exec (.dlcFrame p) s) fun c =>
    c.rd rURG_LASTSEQ p kid' = BitVec.ofNat 32 seq ∧ (c.urg p).lastAccept = some s.chip.time.now
    ∧ c.rd rURG_CNT p 0 = s.chip.rd rURG_CNT p 0 + 1
    ∧ c.rd rURG_CNT p 6 = s.chip.rd rURG_CNT p 6
        + (if (s.chip.urg p).lastAccept.any (fun t => decide (s.chip.time.now < t + s.chip.rf rURG_GAP p 0 15 0)) = true then 1 else 0)
    ∧ c.rd rURG_CNT p 4 = s.chip.rd rURG_CNT p 4 + (if s.chip.rb rCUE_MHI p q' 31 = true then 0 else 1)
    ∧ c.rd rURG_CNT p 5 = s.chip.rd rURG_CNT p 5 + BitVec.ofNat 32 full
    ∧ (∀ k : Fin 6, c.urgQueue p k = s.chip.urgQueue p k
        ++ (if s.chip.rb rCUE_MHI p q' 31 = false ∨ s.chip.cueMask p q' k = 0 ∨ 16 < (s.chip.urgQueue p k).length + ws.length then [] else
          ws.mapIdx fun i w => { mask := s.chip.cueMask p q' k, word := w, words := if i = 0 then ws.length else 0, ts := f.ts, left := s.chip.cueMask p q' k }))
    ∧ Logs (2 + p) (List.replicate full 0x29) s.chip c ∧ (full ≠ 0 → c.irqs.getLsbD (35 + 4 * p) = true)
    ∧ c.rest = { s.chip.rest with macs := mset ({} : Mac) s.chip.macs p { s.chip.mac p with dlcIn := t }, urgs := c.urgs, urgQ := c.urgQ, err := c.err }
    ∧ Frame (rURG_CNT.addr p 0 :: rURG_CNT.addr p 4 :: rURG_CNT.addr p 5 :: rURG_CNT.addr p 6 :: rURG_LASTSEQ.addr p kid'
        :: (if full = 0 then [] else logRegs (2 + p))) (if full = 0 then [] else [35 + 4 * p, 209]) s.chip c := by
  obtain ⟨kid, rfl⟩ : ∃ kid : Fin 2, kid.val = kid' := ⟨⟨kid', hkid ▸ hfits.kid⟩, rfl⟩
  obtain ⟨q, rfl⟩ : ∃ q : Fin 32, q.val = q' := ⟨⟨q', hq ▸ hfits.cue⟩, rfl⟩
  have hlt : seq < 2 ^ 32 := hseq ▸ beNat_four_lt b 4
  have haccept : (s.chip.counted.dlcTaken p t).cue p (parseHdr f.bytes).src b f.ts
      = (s.chip.counted.cueAccepted p t kid (BitVec.ofNat 32 seq)).cueGiven p q (BitVec.ofNat 32 seq) (cueArg b) f.ts := by
    rw [hkid, hseq, hq]
    have hlast' : (s.chip.counted.dlcTaken p t).rd rURG_LASTSEQ p (b.getD 8 0).toNat = s.chip.rd rURG_LASTSEQ p (b.getD 8 0).toNat :=
      lastSeq_taken s.chip.counted p t hfits.kid
    exact cue_accepted (c := s.chip.counted.dlcTaken p t) (hkid ▸ hkey) htag (by rw [hlast', ← hkid, ← hseq]; exact hlast)
  refine does_dlcFrame_cue halive hin hflag hb hfits haccept ?_
  generalize he : s.chip.counted.cueAccepted p t kid (BitVec.ofNat 32 seq) = e
  replace he := he.symm
  obtain ⟨n, hgives⟩ := cueGiven_gives e p q (BitVec.ofNat 32 seq) (cueArg b) f.ts
  generalize e.cueGiven p q (BitVec.ofNat 32 seq) (cueArg b) f.ts = w at *
  have hwords : e.cueWords p q (BitVec.ofNat 32 seq) (cueArg b) = ws := by
    rw [accepted_words he, hws]
    exact cueWords_eq s.chip hlt hfits.flags
  rw [hwords] at hgives
  have hn : n = full := by
    rw [hgives.full, hfull, accepted_on he, funext (accepted_full he ws.length)]
    rfl
  subst hn
  have haccepted : s.chip.counted.Keeps cueless (acceptRegs p kid) [] e := he ▸ cueAccepted_keeps ..
  have hmacs : e.macs = mset ({} : Mac) s.chip.macs p { s.chip.mac p with dlcIn := t } := he ▸ cueAccepted_macs ..
  have hseqs : e.rd rURG_LASTSEQ p kid = BitVec.ofNat 32 seq := he ▸ cueTaken_last ..
  have htime : (e.urg p).lastAccept = some s.chip.time.now := he ▸ cueTaken_accept ..
  have herr : e.err = s.chip.err := haccepted.same (fun r => r.err) fun _ => rfl
  obtain ⟨hrx, hburst⟩ := accepted_counts he
  have hcnt : ∀ p kid : Fin 2, rURG_CNT.addr p 4 ∉ acceptRegs p kid ∧ rURG_CNT.addr p 5 ∉ acceptRegs p kid ∧ rERR_CTRL.addr 0 0 ∉ acceptRegs p kid := by decide
  obtain ⟨hcnt4, hcnt5, hctrl⟩ := hcnt p kid
  have hstand : ∀ p kid : Fin 2, ∀ x ∈ [rURG_LASTSEQ.addr p kid, rURG_CNT.addr p 0, rURG_CNT.addr p 6], x ∉ rURG_CNT.addr p 4 :: rURG_CNT.addr p 5 :: logRegs (2 + p) := by
    decide
  have hleft : ∀ x ∈ [rURG_LASTSEQ.addr p kid, rURG_CNT.addr p 0, rURG_CNT.addr p 6], x ∉ rURG_CNT.addr p 4 :: fullRegs p n := fun x hx hmem => by
    refine hstand p kid x hx (List.mem_cons.mpr ((List.mem_cons.mp hmem).imp_right fun hfull => ?_))
    exact fullRegs_sub p (n := n) (k := 1) (by omega) x hfull
  refine ⟨?_, ?_, ?_, ?_, ?_, ?_, fun k => ?_, ?_, fun hn => ?_, ?_, ?_⟩
  · rw [rd_settle, hgives.keeps.rd (hleft _ (by simp)), hseqs]
  · rw [← htime]
    exact congrArg Urg.lastAccept (hgives.keeps.same (fun r => r.urg p) fun _ => rfl)
  · rw [rd_settle, hgives.keeps.rd (hleft _ (by simp)), hrx]
    rfl
  · rw [rd_settle, hgives.keeps.rd (hleft _ (by simp)), hburst, urgBurst_eq]
    rfl
  · rw [rd_settle, hgives.noCue, accepted_rd he hcnt4, accepted_on he]
    rfl
  · rw [rd_settle, hgives.count, accepted_rd he hcnt5]
    rfl
  · have hqueue := hgives.queues k
    rw [accepted_queue he, accepted_on he, accepted_ents he] at hqueue
    rw [ite_or]
    exact hqueue
  · exact (hgives.logs.after herr (accepted_rd he hctrl)).same (by rw [settle_err])
  · exact (settle_irqs_other _ (faultIrq_edge (by omega)).2).trans (hgives.raised hn)
  · have hview : cueView w.rest = cueView s.chip.counted.rest :=
      ((hgives.keeps.view cueView fun _ => rfl).sameView).trans (haccepted.view cueView fun _ => rfl).sameView
    have hmacs' : w.macs = e.macs := hgives.keeps.same (fun r => r.macs) fun _ => rfl
    rw [rest_settle, settle_urgs, settle_urgQ, settle_err, ← hmacs, ← hmacs']
    exact congrArg (fun r : Chip => { r with macs := w.macs, urgs := w.urgs, urgQ := w.urgQ, err := w.err }) hview
  · have hregs : SameRegs _ s.chip.counted w := (haccepted.sameRegs.mono fun x hx => urgRegs_eq p kid n x (.inl hx)).trans
      (hgives.keeps.sameRegs.mono fun x hx => urgRegs_eq p kid n x (.inr hx))
    exact ⟨hregs.settle, ((haccepted.sameIrqs.mono (by simp)).trans hgives.keeps.sameIrqs).settle⟩

/-! ## Every frame (R134) -/

/-- The registers that a cue can change beside the count of frames. -/
def cueRegs (p : Nat) : List Nat := (List.range 6).map (fun j => rURG_CNT.addr p (j + 1)) ++ (List.range 2).map (rURG_LASTSEQ.addr p) ++ logRegs (2 + p)

theorem urgCnt_mem_cueRegs (p : Nat) {j : Nat} (hj : j < 6) : rURG_CNT.addr p (j + 1) ∈ cueRegs p :=
  List.mem_append_left _ (List.mem_append_left _ (List.mem_map_of_mem (List.mem_range.mpr hj)))

theorem lastSeq_mem_cueRegs (p : Nat) {k : Nat} (hk : k < 2) : rURG_LASTSEQ.addr p k ∈ cueRegs p :=
  List.mem_append_left _ (List.mem_append_right _ (List.mem_map_of_mem (List.mem_range.mpr hk)))

/-- The module beside the parsers, their queues and the reports. -/
def cueLeft (r : Chip) : Chip := { r with urgs := [], urgQ := [], err := {} }

/-- The frame of a cue. -/
abbrev Chip.KeepsCue (c : Chip) (p : Nat) (d : Chip) : Prop := c.Keeps cueLeft (cueRegs p) [35 + 4 * p, 209] d

theorem cueGiven_keeps (c : Chip) (p : Fin 2) {q : Nat} (hq : q < 32) (seq : BitVec 32) (arg : Option Word) (ts : Nat) :
    c.KeepsCue p (c.cueGiven p q seq arg ts) := by
  obtain ⟨n, hgives⟩ := cueGiven_gives c p ⟨q, hq⟩ seq arg ts
  refine (hgives.keeps.view cueLeft fun _ => rfl).mono (fun x hx => ?_) (fullIrqs_sub p (k := 1) (by omega))
  obtain rfl | hx := List.mem_cons.mp hx
  · exact urgCnt_mem_cueRegs p (j := 3) (by decide)
  · obtain rfl | hx := List.mem_cons.mp (fullRegs_sub p (n := n) (k := 1) (by omega) x hx)
    · exact urgCnt_mem_cueRegs p (j := 4) (by decide)
    · exact List.mem_append_right _ hx

theorem cue_keeps (c : Chip) (p : Fin 2) (src : BitVec 32) (hfits : CueFits b) (ts : Nat) : c.KeepsCue p (c.cue p src b ts) := by
  rw [cue_eq]
  split
  · exact .irq (.log (.wr .refl _ (urgCnt_mem_cueRegs p (j := 0) (by decide))) (fun _ _ => rfl) (fun _ => List.mem_append_right _) (by simp)) (by simp)
  · split
    · exact .wr .refl _ (urgCnt_mem_cueRegs p (j := 1) (by decide))
    · refine .trans (((cueTaken_keeps c p _ _).view cueLeft fun _ => rfl).mono (fun x hx => ?_) (by simp)) (cueGiven_keeps _ p hfits.cue ..)
      obtain rfl | hx := List.mem_cons.mp hx
      · exact lastSeq_mem_cueRegs p hfits.kid
      · exact List.mem_singleton.mp hx ▸ urgCnt_mem_cueRegs p (j := 5) (by decide)

theorem does_dlcFrame_any (halive : s.chip.alive (macDom p) = true) (hin : (s.chip.mac p).dlcIn = f :: t) :
    Does s (exec (.dlcFrame p) s) fun c => (c.mac p).dlcIn = t ∧ c.rd rURG_CNT p 0 = s.chip.rd rURG_CNT p 0 + 1 := by
  have hrx : ∀ p : Fin 2, rURG_CNT.addr p 0 ∉ cueRegs p := by decide
  cases hbad : dlcBad f (parseHdr f.bytes).payload with
  | true =>
    refine does_dlcFrame halive hin (dlc_bad rfl hbad) ⟨?_, ?_⟩
    · rw [settled_mac, (dlcCounted_step ..).mac]
    · rw [rd_settle, (dlcCounted_counts _ p (j := 3) (by decide) t).1]
      rfl
  | false =>
    obtain ⟨hflag, hfits⟩ := dlcBad_iff.mp hbad
    have hcue := cue_keeps (s.chip.counted.dlcTaken p t) p (parseHdr f.bytes).src hfits f.ts
    refine does_dlcFrame_cue halive hin hflag rfl hfits rfl ⟨?_, ?_⟩
    · have hmac := hcue.same (fun r => r.mac p) fun _ => rfl
      rw [settled_mac, hmac, (dlcTaken_step ..).mac]
    · rw [rd_settle, hcue.rd (hrx p), dlcTaken_counted]
      rfl

end

/-- Settles O19: a frame is taken and counted, and then only counted again, or a cue that fits is refused, a replay, or taken; the banks
are offered a cue's insert one after another, and none touches what another's offer depends on. -/
theorem urgentCues : Obligations.urgent_cues := by
  unfold Obligations.urgent_cues
  refine ⟨?_, ?_, ?_, ?_, ?_, ?_⟩
  · exact fun _ _ _ _ => does_dlcFrame_any
  · exact fun _ _ => does_dlcFrame_idle
  · intro s p f t b halive hin hb hbad
    refine does_dlcFrame_bad halive hin hb fun ⟨hflag, hfits⟩ => ?_
    obtain h | h | h | h | h | h | h := hbad
    · exact absurd (hflag.symm.trans h) (by decide)
    · exact h hfits.length
    · exact h hfits.magic
    · exact absurd hfits.flags (Nat.not_lt.mpr h)
    · exact absurd hfits.kid (Nat.not_lt.mpr h)
    · exact absurd hfits.cue (Nat.not_lt.mpr h)
    · exact h hfits.zero
  · intro s p f t b key halive hin hflag hb hlen hmagic hflags hkid hcue hzero hkey htag
    subst hkey
    exact does_dlcFrame_refused halive hin hflag hb ⟨hlen, hmagic, hflags, hkid, hcue, hzero⟩ htag
  · intro s p f t b key kid halive hin hflag hb hlen hmagic hflags hkid hkid2 hcue hzero hkey htag hseq
    subst hkid
    exact does_dlcFrame_replayed halive hin hflag hb ⟨hlen, hmagic, hflags, hkid2, hcue, hzero⟩ hkey htag hseq
  · intro s p f t b key kid seq q full ws halive hin hflag hb hlen hmagic hflags hkid hkid2 hq hcue hzero hkey htag hseq hlast hws hfull
    exact does_dlcFrame_accepted halive hin hflag hb ⟨hlen, hmagic, hflags, hkid ▸ hkid2, hq ▸ hcue, hzero⟩ hkid hq hkey htag hseq hlast hws hfull

end Sys2Proof.Machine

/-! SUPPORT. Trellis messages: what passes XQ_TRL_TX, what goes on, what is taken (spec/13 R397, R398; spec/15 R468). -/

namespace Sys2Proof.Machine

section

variable {s : State} {c d : Chip} {i : Instr} {t : Nat} {m : TrlMsg} {f : Chip → Chip}

/-! ## Words that go out (R398, R468) -/

/-- Where a reset has caught nothing, the queues stand. -/
theorem trlQue_whole (h : c.cutOff [0x42] = false) : c.trlQue = c.que := by
  have hcut : c.que.cut.filter (fun i => !([0x42].contains i)) = c.que.cut := List.filter_eq_self.mpr fun i hi => by
    have hnone := List.any_eq_false.mp h i hi
    simpa using hnone
  rw [Chip.trlQue, Chip.cutDone, hcut]

theorem trlPass_eq (c : Chip) (down : Bool) (l : List Word) :
    c.trlPass down l = { c with wire := c.trlOut down l ++ c.wire, que := c.trlQue } := by
  cases h : c.cutOff [0x42] with
  | true =>
    rw [Chip.trlPass, Chip.trlOut, h]
    rfl
  | false =>
    rw [Chip.trlPass, Chip.trlOut, trlQue_whole h, h]
    rfl

/-- Message `m` of type `t` sent on where it goes on. -/
def Chip.trlOn (c : Chip) (t : Nat) (m : TrlMsg) : Chip := { c with wire := c.trlOnward t m ++ c.wire, que := c.trlQueOn m }

theorem trlOn_goes (h : c.trlGoes m) : c.trlOn t m
    = c.trlPass (if m.bcast then m.fromUp else decide (c.pos < m.dest.val)) (trlHead t m.dest m.bcast m.body.length m.mseq :: m.body) := by
  rw [trlPass_eq, Chip.trlOn, Chip.trlOnward, if_pos h, Chip.trlQueOn, if_pos h]

theorem trlOn_stays (h : ¬ c.trlGoes m) : c.trlOn t m = c := by
  rw [Chip.trlOn, Chip.trlOnward, if_neg h, Chip.trlQueOn, if_neg h]
  rfl

/-- The sending of a message that is not for this position alone. -/
theorem trlOn_eq (hup : c.up .trl = true) : (if !decide (m.dest.val = c.pos) || m.bcast then
    c.trlRaw (if m.bcast then m.fromUp else decide (c.pos < m.dest.val)) t m.dest m.bcast m.mseq m.body else c) = c.trlOn t m := by
  by_cases haway : m.dest.val ≠ c.pos ∨ m.bcast = true
  · rw [if_pos (by simpa using haway), Chip.trlRaw, hup]
    by_cases hside : c.rb rTRL_STATUS 0 0 (if (if m.bcast then m.fromUp else decide (c.pos < m.dest.val)) then 2 else 1) = true
    · rw [hside, trlOn_goes ⟨haway, hside⟩]
      rfl
    · rw [Bool.not_eq_true] at hside
      rw [hside, trlOn_stays fun h => absurd (hside.symm.trans h.2) (by decide)]
      rfl
  · rw [if_neg (by simpa using haway), trlOn_stays fun h => haway h.1]

/-! ## A message on a side (R397, R398) -/

theorem trlTake_closed (h : ¬ c.trlOpen m.fromUp) : c.trlTake t m f = c := by
  refine if_pos ?_
  rw [Chip.trlOpen] at h
  cases hup : c.up .trl <;> cases hctrl : c.rb rTRL_CTRL 0 0 0 <;> cases hlock : (c.trlSide m.fromUp).lock <;> simp_all

section Open

variable (hopen : c.trlOpen m.fromUp)
include hopen

theorem trlTake_open : c.trlTake t m f = if m.crcOk = false then c.inc rTRL_CNT 3 0
    else if t ≠ 1 ∧ c.rb rTRL_STATUS 0 0 (linkBit m.fromUp) = false then c
    else if t = 1 then f c
    else if m.dest.val = c.pos ∨ m.bcast = true then f (c.trlOn t m) else c.trlOn t m := by
  obtain ⟨hup, hctrl, hlock⟩ := hopen
  have hwhole : (c.up .trl && (c.trlSide m.fromUp).lock && c.rb rTRL_CTRL 0 0 0) = true := by rw [hup, hctrl, hlock]; rfl
  have hon := trlOn_eq (m := m) (t := t) hup
  rw [Chip.trlTake, hwhole]
  dsimp only
  rw [hon]
  simp

theorem trlTake_crc (hcrc : m.crcOk = false) : c.trlTake t m f = c.inc rTRL_CNT 3 0 := by rw [trlTake_open hopen, if_pos hcrc]

variable (hcrc : m.crcOk = true)
include hcrc

theorem trlTake_down (ht : t ≠ 1) (hside : c.rb rTRL_STATUS 0 0 (linkBit m.fromUp) = false) : c.trlTake t m f = c := by
  rw [trlTake_open hopen, if_neg (by simp [hcrc]), if_pos ⟨ht, hside⟩]

theorem trlTake_up (ht : t ≠ 1) (hside : c.rb rTRL_STATUS 0 0 (linkBit m.fromUp) = true) :
    c.trlTake t m f = if m.dest.val = c.pos ∨ m.bcast = true then f (c.trlOn t m) else c.trlOn t m := by
  rw [trlTake_open hopen, if_neg (by simp [hcrc]), if_neg (by simp [hside]), if_neg ht]

end Open

theorem trlTake_here (h : c.trlHere m) (ht : t ≠ 1) : c.trlTake t m f = f (c.trlOn t m) := by
  obtain ⟨hopen, hside, hcrc, hmine⟩ := h
  rw [trlTake_up hopen hcrc ht hside, if_pos hmine]

/-! ## Commands that bring a message -/

theorem trlMessage_exec (h : trlMessage i = some (t, m)) : ∃ f : Chip → Chip, ∀ s, exec i s = run (fun c => c.trlTake t m f) s := by
  unfold trlMessage at h
  split at h <;> cases h
  all_goals exact ⟨_, fun _ => rfl⟩

theorem does_trl_crc (h : trlMessage i = some (t, m)) (hopen : s.chip.trlOpen m.fromUp) (hcrc : m.crcOk = false) : Does s (exec i s) fun c =>
    c.rest = s.chip.rest ∧ c.rd rTRL_CNT 3 = s.chip.rd rTRL_CNT 3 + 1 ∧ Frame [rTRL_CNT.addr 3 0] [] s.chip c := by
  obtain ⟨f, hf⟩ := trlMessage_exec h
  have hcount : s.chip.counted.Keeps id [rTRL_CNT.addr 3 0] [] (s.chip.counted.inc rTRL_CNT 3 0) := .wr .refl _ List.mem_cons_self
  rw [hf]
  refine does_eq (trlTake_crc (c := s.chip.counted) hopen hcrc) ⟨hcount.sameView, ?_, hcount.frame⟩
  exact (rd_settle ..).trans (Chip.rd_wr_same ..)

theorem does_trl_none (h : trlMessage i = some (t, m))
    (hnone : ¬ s.chip.trlOpen m.fromUp ∨ (t ≠ 1 ∧ m.crcOk = true ∧ s.chip.rb rTRL_STATUS 0 0 (linkBit m.fromUp) = false)) :
    Does s (exec i s) fun c => c.rest = s.chip.rest ∧ Frame [] [] s.chip c := by
  obtain ⟨f, hf⟩ := trlMessage_exec h
  have hsame : s.chip.counted.trlTake t m f = s.chip.counted := by
    by_cases hopen : s.chip.trlOpen m.fromUp
    · obtain ⟨ht, hcrc, hside⟩ := hnone.resolve_left (not_not.mpr hopen)
      exact trlTake_down (c := s.chip.counted) hopen hcrc ht hside
    · exact trlTake_closed (c := s.chip.counted) hopen
  rw [hf]
  exact does_eq hsame (quiet s.chip)

theorem does_trl_onward (h : trlMessage i = some (t, m)) (ht : t ≠ 1) (hopen : s.chip.trlOpen m.fromUp) (hcrc : m.crcOk = true)
    (hside : s.chip.rb rTRL_STATUS 0 0 (linkBit m.fromUp) = true) (hdest : m.dest.val ≠ s.chip.pos) (hone : m.bcast = false) :
    Does s (exec i s) fun c => c.wire = s.chip.trlOnward t m ++ s.chip.wire ∧ c.que = s.chip.trlQueOn m
      ∧ c.rest = { s.chip.rest with wire := c.wire, que := c.que } ∧ Frame [] [] s.chip c := by
  obtain ⟨f, hf⟩ := trlMessage_exec h
  have haway : ¬ (m.dest.val = s.chip.counted.pos ∨ m.bcast = true) := by simp [hone, show s.chip.counted.pos = s.chip.pos from rfl, hdest]
  rw [hf]
  refine does_eq ((trlTake_up (c := s.chip.counted) hopen hcrc ht hside).trans (if_neg haway)) ⟨?_, ?_, ?_, frame_settle (.refl _ _) rfl⟩
  · exact settle_wire ..
  · exact settle_que ..
  · rfl

end

end Sys2Proof.Machine

/-! SUPPORT. STACK messages taken: firmware's words, parts kept, a reply that goes out (spec/13 R398; spec/14 R440). -/

namespace Sys2Proof.Machine

section

variable {s : State} {c d : Chip} {t : Nat} {m : TrlMsg} {b : List Word} {l : List Byte}

/-! ## What has gone on besides (R398) -/

theorem does_stackMsg {w : Chip} {P : Chip → Prop} (h : s.chip.trlHere m) (hw : (s.chip.counted.trlOn 5 m).stackTake m.body = w) (hP : P (settle w)) :
    Does s (exec (.stackMsg m) s) P :=
  does_eq ((trlTake_here (c := s.chip.counted) (f := fun c => c.stackTake m.body) h (by decide)).trans hw) hP

/-- A message for this position alone does not go on. -/
theorem trlOn_here (h : c.trlHere m) (hone : m.bcast = false) : c.trlOn t m = c := by
  obtain ⟨-, -, -, hmine⟩ := h
  refine trlOn_stays fun hgoes => ?_
  obtain hdest | hb := hgoes.1
  · exact hmine.elim hdest fun hb => absurd (hone.symm.trans hb) (by decide)
  · exact absurd (hone.symm.trans hb) (by decide)

/-! ## STACK words (R398, R440) -/

theorem stackTake_own (h1 : fld (b.getD 0 0) 31 28 ≠ 1) (h2 : fld (b.getD 0 0) 31 28 ≠ 2) :
    c.stackTake b = c.setTrl { c.trl with stackIn := c.trl.stackIn ++ [b] } := 
  if_pos (Bool.and_eq_true_iff.mpr ⟨decide_eq_true h1, decide_eq_true h2⟩)

/-- A part alone covers its bytes where it is the first. -/
theorem asmBytes_single (o : Nat) (l : List Byte) : asmBytes [(o, l)] = if o = 0 then l else [] := by
  by_cases h : o = 0
  · subst h
    rfl
  · rw [if_neg h]
    exact if_neg (by simpa using h)

/-- A first part of a message of which nothing is kept. -/
def Chip.stackFirst (c : Chip) (b : List Word) : Chip :=
  let w := b.getD 0 0
  let bytes := asmBytes [stackPart b]
  if bytes.length < (b.getD 5 0).toNat / 65536 then c.setTrl { c.trl with stackIn := c.trl.stackIn ++ [b] }
  else c.stackWhole (fld w 31 28)
    { bytes := bytes, ip := b.getD 1 0, udp := BitVec.ofNat 16 (fld w 15 0), ts := tsOf (b.getD 2 0) (b.getD 3 0) (b.getD 4 0)
      port := ⟨fld w 27 24 % 3, Nat.mod_lt _ (by decide)⟩ }

theorem stackTake_first (hkind : fld (b.getD 0 0) 31 28 = 1 ∨ fld (b.getD 0 0) 31 28 = 2)
    (hnew : (c.trl.stackIn.all fun x => x.take 5 ≠ b.take 5) = true) : c.stackTake b = c.stackFirst b := by
  have hkey : ∀ x ∈ c.trl.stackIn, (x.take 5, (x.getD 5 0).toNat / 65536) ≠ (b.take 5, (b.getD 5 0).toNat / 65536) := fun x hx h => by
    have := List.all_eq_true.mp hnew x hx
    exact absurd (Prod.mk.inj h).1 (of_decide_eq_true this)
  have hparts : c.trl.stackIn.filter (fun x => decide ((x.take 5, (x.getD 5 0).toNat / 65536) = (b.take 5, (b.getD 5 0).toNat / 65536))
      && decide ((stackPart x).1 < (stackPart b).1)) = [] := 
    List.filter_eq_nil_iff.mpr fun x hx h => hkey x hx (of_decide_eq_true (Bool.and_eq_true_iff.mp h).1)
  have hrest : c.trl.stackIn.filter (fun x => decide ((x.take 5, (x.getD 5 0).toNat / 65536) ≠ (b.take 5, (b.getD 5 0).toNat / 65536))) = c.trl.stackIn :=
    List.filter_eq_self.mpr fun x hx => decide_eq_true (hkey x hx)
  have hown : ¬ ((fld (b.getD 0 0) 31 28 ≠ 1 && fld (b.getD 0 0) 31 28 ≠ 2) = true) := fun h => by
    obtain ⟨h1, h2⟩ := Bool.and_eq_true_iff.mp h
    have hne1 : fld (b.getD 0 0) 31 28 ≠ 1 := of_decide_eq_true h1
    have hne2 : fld (b.getD 0 0) 31 28 ≠ 2 := of_decide_eq_true h2
    exact hkind.elim hne1 hne2
  rw [Chip.stackTake, if_neg hown]
  dsimp only
  rw [hparts, hrest]
  rfl

theorem does_stackMsg_own (h : s.chip.trlHere m) (h1 : fld (m.body.getD 0 0) 31 28 ≠ 1) (h2 : fld (m.body.getD 0 0) 31 28 ≠ 2) :
    Does s (exec (.stackMsg m) s) fun c => c.wire = s.chip.trlOnward 5 m ++ s.chip.wire ∧ c.que = s.chip.trlQueOn m
      ∧ c.rest = { s.chip.rest with wire := c.wire, que := c.que, trl := { s.chip.trl with stackIn := s.chip.trl.stackIn ++ [m.body] } }
      ∧ Frame [] [] s.chip c := by
  refine does_stackMsg h (stackTake_own h1 h2) ⟨?_, ?_, rfl, frame_settle (.refl _ _) rfl⟩
  · exact settle_wire ..
  · exact settle_que ..

theorem does_stackMsg_part (h : s.chip.trlHere m) (hkind : fld (m.body.getD 0 0) 31 28 = 1 ∨ fld (m.body.getD 0 0) 31 28 = 2)
    (hnew : (s.chip.trl.stackIn.all fun x => x.take 5 ≠ m.body.take 5) = true) (hoff : (stackPart m.body).1 ≠ 0) (htotal : 0 < (m.body.getD 5 0).toNat / 65536) :
    Does s (exec (.stackMsg m) s) fun c => c.wire = s.chip.trlOnward 5 m ++ s.chip.wire ∧ c.que = s.chip.trlQueOn m
      ∧ c.rest = { s.chip.rest with wire := c.wire, que := c.que, trl := { s.chip.trl with stackIn := s.chip.trl.stackIn ++ [m.body] } }
      ∧ Frame [] [] s.chip c := by
  have hnone : asmBytes [stackPart m.body] = [] := (asmBytes_single (stackPart m.body).1 (stackPart m.body).2).trans (if_neg hoff)
  have hkept : (s.chip.counted.trlOn 5 m).stackFirst m.body = (s.chip.counted.trlOn 5 m).setTrl
      { (s.chip.counted.trlOn 5 m).trl with stackIn := (s.chip.counted.trlOn 5 m).trl.stackIn ++ [m.body] } :=
    if_pos (by rw [hnone]; exact htotal)
  refine does_stackMsg h ((stackTake_first (c := s.chip.counted.trlOn 5 m) hkind hnew).trans hkept) ⟨?_, ?_, rfl, frame_settle (.refl _ _) rfl⟩
  · exact settle_wire ..
  · exact settle_que ..

theorem does_stackMsg_reply (h : s.chip.trlHere m) (hkind : fld (m.body.getD 0 0) 31 28 = 2) (hpos : s.chip.pos = 0) (hone : m.bcast = false)
    (hnew : (s.chip.trl.stackIn.all fun x => x.take 5 ≠ m.body.take 5) = true) (hl : (0, l) = stackPart m.body)
    (hwhole : l.length = (m.body.getD 5 0).toNat / 65536) : Does s (exec (.stackMsg m) s) fun c =>
      c.rest = { s.chip.rest with wire := .dop (m.body.getD 1 0) (BitVec.ofNat 16 (fld (m.body.getD 0 0) 15 0)) l :: s.chip.wire } ∧ Frame [] [] s.chip c := by
  have hbytes : asmBytes [stackPart m.body] = l := by
    rw [← hl, asmBytes_single, if_pos rfl]
  have hgone : s.chip.counted.stackFirst m.body
      = s.chip.counted.emit (.dop (m.body.getD 1 0) (BitVec.ofNat 16 (fld (m.body.getD 0 0) 15 0)) l) := by
    rw [Chip.stackFirst, hbytes, if_neg (by omega), hkind]
    exact if_pos hpos
  have hsame : (s.chip.counted.trlOn 5 m).stackTake m.body = s.chip.counted.stackFirst m.body := by
    rw [trlOn_here (c := s.chip.counted) h hone]
    exact stackTake_first (.inr hkind) hnew
  exact does_stackMsg h (hsame.trans hgone) ⟨rfl, frame_settle (.refl _ _) rfl⟩

end

end Sys2Proof.Machine

/-! SUPPORT. Slices received: where their pixel groups are stored, the buffer claimed where no frame is open (spec/13 R406, R408). -/

namespace Sys2Proof.Machine

section

variable {s : State} {c d : Chip} {m : TrlMsg} {mst : Master} {g : Geom} {h : Word} {ws : List Word} {l : List Byte} {k x y cv t : Nat}

/-! ## Whole pixel groups in a row (R112, R156) -/

theorem ppgOf_pos (fmt : Nat) : 0 < ppgOf fmt := by
  unfold ppgOf
  split <;> decide

/-- A group's bits are its pixels'. -/
theorem ppgOf_bits (fmt : Nat) : ppgOf fmt * (groupBytes fmt * 8 / ppgOf fmt) = groupBytes fmt * 8 := by
  unfold ppgOf groupBytes
  split
  · rfl
  · rfl
  · rw [Nat.one_mul, Nat.div_one]

theorem groupBits_eq {fmt : Nat} (hx : x % ppgOf fmt = 0) : x * (groupBytes fmt * 8 / ppgOf fmt) = x / ppgOf fmt * groupBytes fmt * 8 := by
  obtain ⟨j, rfl⟩ := Nat.dvd_of_mod_eq_zero hx
  rw [Nat.mul_div_cancel_left j (ppgOf_pos fmt), Nat.mul_comm (ppgOf fmt) j, Nat.mul_assoc, ppgOf_bits, Nat.mul_assoc]

theorem rowBytes_le_stride (g : Geom) : g.rowBytes ≤ g.stride := by
  rw [Geom.stride]
  omega

/-- The bytes of whole pixel groups with the row's padding, where they reach its end. -/
def Geom.padded (g : Geom) (o : Nat) (l : List Byte) : List Byte :=
  if o + l.length = g.rowBytes then l ++ List.replicate (g.stride - g.rowBytes) 0 else l

theorem canvPut_groups (hx : x % ppgOf g.fmt = 0) (c : Chip) (mst : Master) (k y : Nat) (l : List Byte) : c.canvPut mst g k x y l
    = c.celPut mst (g.base k + y * g.stride + x / ppgOf g.fmt * groupBytes g.fmt) (g.padded (x / ppgOf g.fmt * groupBytes g.fmt) l) := by
  have hbits := groupBits_eq hx
  have hmod : x * (groupBytes g.fmt * 8 / ppgOf g.fmt) % 8 = 0 := by rw [hbits, Nat.mul_mod_left]
  have hdiv : x * (groupBytes g.fmt * 8 / ppgOf g.fmt) / 8 = x / ppgOf g.fmt * groupBytes g.fmt := by rw [hbits, Nat.mul_div_cancel _ (by decide)]
  rw [Chip.canvPut, hmod, hdiv]
  rfl

theorem padded_end (g : Geom) (o : Nat) (l : List Byte) :
    o + (g.padded o l).length = if o + l.length = g.rowBytes then g.stride else o + l.length := by
  have hle := rowBytes_le_stride g
  unfold Geom.padded
  split
  · rw [List.length_append, List.length_replicate]
    omega
  · rfl

/-- Groups from column `x` on that lie inside the row end in it. -/
theorem groups_le_rowBytes {n : Nat} (hx : x % ppgOf g.fmt = 0) (hlt : x < g.w) (hn : n ≤ (g.w + ppgOf g.fmt - 1 - x) / ppgOf g.fmt) :
    x / ppgOf g.fmt * groupBytes g.fmt + n * groupBytes g.fmt ≤ g.rowBytes := by
  obtain ⟨j, hj⟩ := Nat.dvd_of_mod_eq_zero hx
  have hp := ppgOf_pos g.fmt
  rw [← Nat.add_mul, Geom.rowBytes]
  refine Nat.mul_le_mul_right _ ?_
  have hcol : x / ppgOf g.fmt = j := by rw [hj, Nat.mul_div_cancel_left j hp]
  rw [hcol]
  have hsum : n + j ≤ (g.w + ppgOf g.fmt - 1 - x) / ppgOf g.fmt + j := by omega
  have hwhole : (g.w + ppgOf g.fmt - 1 - x) / ppgOf g.fmt + j = (g.w + ppgOf g.fmt - 1) / ppgOf g.fmt := by
    rw [← Nat.add_mul_div_left _ _ hp, ← hj, Nat.sub_add_cancel (by omega)]
  omega

/-! ## A slice taken (R408) -/

theorem dcanvOpen_open {cv : Nat} (hopen : (c.dcanv cv).openBuf ≠ none) : c.dcanvOpen cv = c := if_pos (Option.isSome_iff_ne_none.mpr hopen)

/-- A buffer claimed for canvas `cv`. -/
def Chip.dcanvClaimed (c : Chip) (cv b : Nat) : Chip :=
  (c.setWord (recAddr cv) (setBufState (c.word (recAddr cv)) b 1)).setDcanv cv { c.dcanv cv with openBuf := some b }

theorem setWord_only (c : Chip) (n : Nat) (w : Word) : ∃ x, c.setWord n w = { c with mem := x } := (Chip.Puts.of_setBytes c n (wordBytes w)).mem

theorem dcanv_setDcanv_same (c : Chip) (k : Nat) (x : DCanv) : (c.setDcanv k x).dcanv k = x := mget_mset_same ..

theorem dcanvClaimed_only (c : Chip) (k b : Nat) : ∃ x y, c.dcanvClaimed k b = { c with mem := x, trl := y } := by
  obtain ⟨x, hx⟩ := setWord_only c (recAddr k) (setBufState (c.word (recAddr k)) b 1)
  rw [Chip.dcanvClaimed, hx]
  exact ⟨_, _, rfl⟩

theorem word_congr_mem (hmem : d.mem = c.mem) (n : Nat) : d.word n = c.word n := word_congr_bytes fun k _ _ => byte_congr hmem k

theorem dcanvClaimed_mem (c : Chip) (k b : Nat) : (c.dcanvClaimed k b).mem = (c.setWord (recAddr k) (setBufState (c.word (recAddr k)) b 1)).mem := by
  rw [Chip.dcanvClaimed, Chip.setDcanv, Chip.setTrl_mem]

theorem dcanvClaimed_word (c : Chip) (k b : Nat) : (c.dcanvClaimed k b).word (recAddr k) = setBufState (c.word (recAddr k)) b 1 := by
  rw [word_congr_mem (dcanvClaimed_mem c k b)]
  exact word_setBytes_wordBytes ..

theorem dcanvClaimed_bytes (c : Chip) (k b : Nat) : SameBytes (fun i => recAddr k ≤ i ∧ i < recAddr k + 4) c (c.dcanvClaimed k b) := fun i hi => by
  rw [byte_congr (dcanvClaimed_mem c k b)]
  exact Chip.byte_setBytes_other _ _ _ _ (by simp only [wordBytes, List.length_cons, List.length_nil]; omega)

/-- The first FREE buffer is claimed. -/
theorem dcanvOpen_free {cv : Fin 4} {b : Nat} (hcalm : c.celCalm) (hmask : c.rb rRGN_WMASK 6 0 8 = true) (hopen : (c.dcanv cv).openBuf = none)
    (hfree : (bufsIn (c.word (recAddr cv)) 0).head? = some b) :
    c.dcanvOpen cv = c.dcanvClaimed cv b := by
  have hkept : (c.setWord (recAddr cv) (setBufState (c.word (recAddr cv)) b 1)).dcanv cv = c.dcanv cv := by
    rw [Chip.setWord, Chip.setBytes_eq]
    rfl
  rw [Chip.dcanvOpen, hopen, canvClaim_free (m := .trellis) hcalm hmask hfree, if_neg (by decide)]
  dsimp only
  rw [hkept, Chip.dcanvClaimed]

theorem sliceTake_off (hoff : c.dcanvOn (fld h 31 30) = false) : c.sliceTake (h :: ws) = c := if_pos (by rw [List.getD_cons_zero, hoff]; rfl)

/-- A slice stored in buffer `k`, where it lies inside canvas `g`. -/
def Chip.sliceStored (c : Chip) (g : Geom) (k : Nat) (h : Word) (ws : List Word) : Chip :=
  if fld h 12 0 ≥ g.w || fld h 28 16 ≥ g.h || fld h 12 0 % ppgOf g.fmt ≠ 0 then c else
    c.canvPut .trellis g k (fld h 12 0) (fld h 28 16) ((ws.flatMap wordBytes).take
      (min (4 * ws.length / groupBytes g.fmt) ((g.w + ppgOf g.fmt - 1 - fld h 12 0) / ppgOf g.fmt) * groupBytes g.fmt))

theorem sliceTake_on (hcv : cv = fld h 31 30) (hon : c.dcanvOn cv = true) (hopen : ((c.dcanvOpen cv).dcanv cv).openBuf = some k) :
    c.sliceTake (h :: ws) = (c.dcanvOpen cv).sliceStored ((c.dcanvOpen cv).viewGeom cv) k h ws := by
  subst hcv
  have hhead : (h :: ws).getD 0 0 = h := rfl
  have htail : (h :: ws).drop 1 = ws := rfl
  rw [Chip.sliceTake, hhead, htail, hon, if_neg (by decide)]
  dsimp only
  rw [hopen, length_flatMap_wordBytes]
  rfl

theorem sliceStored_outside (hout : g.w ≤ fld h 12 0 ∨ g.h ≤ fld h 28 16 ∨ fld h 12 0 % ppgOf g.fmt ≠ 0) : c.sliceStored g k h ws = c :=
  if_pos (by simpa [or_assoc] using hout)

theorem sliceStored_inside (hx : fld h 12 0 < g.w) (hy : fld h 28 16 < g.h) (hmod : fld h 12 0 % ppgOf g.fmt = 0) : c.sliceStored g k h ws
    = c.celPut .trellis (g.base k + fld h 28 16 * g.stride + fld h 12 0 / ppgOf g.fmt * groupBytes g.fmt)
      (g.padded (fld h 12 0 / ppgOf g.fmt * groupBytes g.fmt) ((ws.flatMap wordBytes).take
        (min (4 * ws.length / groupBytes g.fmt) ((g.w + ppgOf g.fmt - 1 - fld h 12 0) / ppgOf g.fmt) * groupBytes g.fmt))) := by
  rw [Chip.sliceStored, if_neg (by simp [hmod]; omega), canvPut_groups hmod]

theorem sliceTake_none (hcv : cv = fld h 31 30) (hnone : c.dcanvOn cv = false ∨ ((c.dcanv cv).openBuf ≠ none
    ∧ ((c.viewGeom cv).w ≤ fld h 12 0 ∨ (c.viewGeom cv).h ≤ fld h 28 16 ∨ fld h 12 0 % ppgOf (c.viewGeom cv).fmt ≠ 0))) :
    c.sliceTake (h :: ws) = c := by
  cases hon : c.dcanvOn cv with
  | false => exact sliceTake_off (hcv ▸ hon)
  | true =>
    obtain ⟨hopen, hout⟩ := hnone.resolve_left (by simp [hon])
    obtain ⟨k, hk⟩ := Option.ne_none_iff_exists'.mp hopen
    have hkeep := dcanvOpen_open hopen
    rw [sliceTake_on hcv hon (by rw [hkeep, hk]), hkeep, sliceStored_outside hout]

theorem celRegion_zero_iff {n : Nat} : celRegion n = 0 ↔ n < 0x8C000000 := by
  unfold celRegion
  split_ifs <;> simp_all

theorem bytes_settle (c : Chip) (n k : Nat) : (settle c).bytes n k = c.bytes n k := by
  induction k generalizing n with
  | zero => rfl
  | succ k ih => rw [Chip.bytes, Chip.bytes, ih, byte_congr (settle_mem c)]

/-! ## Commands (R408) -/

/-- What TRL's registers say of a canvas stands while a message goes on. -/
theorem trlOn_canvas (c : Chip) (t : Nat) (m : TrlMsg) (k : Nat) :
    (c.trlOn t m).viewGeom k = c.viewGeom k ∧ (c.trlOn t m).dcanvOn k = c.dcanvOn k ∧ (c.trlOn t m).dcanv k = c.dcanv k :=
  ⟨viewGeom_congr rfl k, rfl, rfl⟩

section Message

variable (hhere : s.chip.trlHere m)
include hhere

theorem does_sliceMsg {w : Chip} {P : Chip → Prop} (hw : (s.chip.counted.trlOn 3 m).sliceTake m.body = w) (hP : P (settle w)) :
    Does s (exec (.sliceMsg m) s) P :=
  does_eq ((trlTake_here (c := s.chip.counted) (f := fun c => c.sliceTake m.body) hhere (by decide)).trans hw) hP

theorem does_sliceMsg_none (hbody : m.body = h :: ws) (hcv : cv = fld h 31 30)
    (hnone : s.chip.dcanvOn cv = false ∨ ((s.chip.dcanv cv).openBuf ≠ none
      ∧ ((s.chip.viewGeom cv).w ≤ fld h 12 0 ∨ (s.chip.viewGeom cv).h ≤ fld h 28 16 ∨ fld h 12 0 % ppgOf (s.chip.viewGeom cv).fmt ≠ 0))) :
    Does s (exec (.sliceMsg m) s) fun c => c.wire = s.chip.trlOnward 3 m ++ s.chip.wire ∧ c.que = s.chip.trlQueOn m
      ∧ c.rest = { s.chip.rest with wire := c.wire, que := c.que } ∧ Frame [] [] s.chip c := by
  obtain ⟨hgeom, hon, hdcanv⟩ := trlOn_canvas s.chip.counted 3 m cv
  have hsame : (s.chip.counted.trlOn 3 m).sliceTake m.body = s.chip.counted.trlOn 3 m := by
    rw [hbody]
    refine sliceTake_none hcv ?_
    rw [hgeom, hon, hdcanv]
    exact hnone
  exact does_sliceMsg hhere hsame ⟨settle_wire .., settle_que .., rfl, frame_settle (.refl _ _) rfl⟩

theorem does_sliceMsg_claim {cv : Fin 4} {w : Word} {b : Nat} (hbody : m.body = h :: ws) (hcv : cv.val = fld h 31 30) (hon : s.chip.dcanvOn cv = true)
    (hopen : (s.chip.dcanv cv).openBuf = none) (hw : w = s.chip.word (recAddr cv)) (hfree : bufsIn w 0 ≠ []) (hb : b = (bufsIn w 0).headD 0)
    (hmask : s.chip.rb rRGN_WMASK 6 0 8 = true) (hcalm : s.chip.celCalm) (hout : (s.chip.viewGeom cv).w ≤ fld h 12 0) :
    Does s (exec (.sliceMsg m) s) fun c =>
      c.dcanv cv = { s.chip.dcanv cv with openBuf := some b } ∧ c.word (recAddr cv) = setBufState w b 1
      ∧ SameBytes (fun i => recAddr cv ≤ i ∧ i < recAddr cv + 4) s.chip c
      ∧ c.rest = { s.chip.rest with mem := c.mem, cel := c.cel, trl := c.trl, wire := c.wire, que := c.que } ∧ Frame [] [] s.chip c := by
  have hhead : (bufsIn w 0).head? = some b := by
    obtain ⟨x, t, ht⟩ := List.exists_cons_of_ne_nil hfree
    rw [hb, ht]
    rfl
  obtain ⟨hgeom, hon', hdcanv⟩ := trlOn_canvas s.chip.counted 3 m cv
  subst hw
  have hclaimed : (s.chip.counted.trlOn 3 m).dcanvOpen cv = (s.chip.counted.trlOn 3 m).dcanvClaimed cv b :=
    dcanvOpen_free (c := s.chip.counted.trlOn 3 m) hcalm hmask hopen hhead
  obtain ⟨x, y, hxy⟩ := dcanvClaimed_only (s.chip.counted.trlOn 3 m) cv b
  have hopened : (((s.chip.counted.trlOn 3 m).dcanvOpen cv).dcanv cv).openBuf = some b := by rw [hclaimed, Chip.dcanvClaimed, dcanv_setDcanv_same]
  have hgeom' : ((s.chip.counted.trlOn 3 m).dcanvOpen cv).viewGeom cv = s.chip.viewGeom cv := by
    rw [hclaimed, hxy]
    exact viewGeom_congr rfl cv
  have htaken : (s.chip.counted.trlOn 3 m).sliceTake m.body = (s.chip.counted.trlOn 3 m).dcanvClaimed cv b := by
    rw [hbody, sliceTake_on hcv (hon'.trans hon) hopened, hgeom', sliceStored_outside (.inl hout), hclaimed]
  refine does_sliceMsg hhere htaken ⟨?_, ?_, fun i hi => ?_, ?_, ?_⟩
  · exact (congrArg (fun t : TrlSt => mget ({} : DCanv) t.dst cv) (settle_trl _)).trans (dcanv_setDcanv_same ..)
  · rw [word_settle, dcanvClaimed_word]
    rfl
  · exact (byte_congr (settle_mem _) i).trans (dcanvClaimed_bytes (s.chip.counted.trlOn 3 m) cv b i hi)
  · rw [hxy]
    rfl
  · rw [hxy]
    exact frame_settle (.refl _ _) rfl

theorem does_sliceMsg_stored {x y a o n : Nat} (hbody : m.body = h :: ws) (hcv : cv = fld h 31 30) (hon : s.chip.dcanvOn cv = true)
    (hopen : (s.chip.dcanv cv).openBuf = some k) (hg : g = s.chip.viewGeom cv) (hx : x = fld h 12 0) (hy : y = fld h 28 16) (hxw : x < g.w) (hyh : y < g.h)
    (hmod : x % ppgOf g.fmt = 0) (ho : o = x / ppgOf g.fmt * groupBytes g.fmt)
    (hn : n = min (4 * ws.length / groupBytes g.fmt) ((g.w + ppgOf g.fmt - 1 - x) / ppgOf g.fmt) * groupBytes g.fmt)
    (ha : a = g.base k + y * g.stride + o) (hend : celRegion (g.base k + (y + 1) * g.stride) = 0)
    (hmask : s.chip.rb rRGN_WMASK 0 0 8 = true) (hcalm : s.chip.celCalm) : Does s (exec (.sliceMsg m) s) fun c =>
      c.bytes a n = (ws.flatMap wordBytes).take n
      ∧ SameBytes (fun i => a ≤ i ∧ i < (if o + n = g.rowBytes then g.base k + (y + 1) * g.stride else a + n)) s.chip c
      ∧ c.wire = s.chip.trlOnward 3 m ++ s.chip.wire ∧ c.que = s.chip.trlQueOn m
      ∧ c.rest = { s.chip.rest with mem := c.mem, cel := c.cel, wire := c.wire, que := c.que } ∧ Frame [] [] s.chip c := by
  obtain ⟨hgeom, hon', hdcanv⟩ := trlOn_canvas s.chip.counted 3 m cv
  have hgeom' : (s.chip.counted.trlOn 3 m).viewGeom cv = g := hgeom.trans hg.symm
  have hopen' : ((s.chip.counted.trlOn 3 m).dcanv cv).openBuf = some k := (congrArg DCanv.openBuf hdcanv).trans hopen
  have hkeep : (s.chip.counted.trlOn 3 m).dcanvOpen cv = s.chip.counted.trlOn 3 m := dcanvOpen_open (by rw [hopen']; simp)
  have hfit : o + n ≤ g.rowBytes := by
    rw [ho, hn]
    exact groups_le_rowBytes hmod hxw (Nat.min_le_right ..)
  have hlen : ((ws.flatMap wordBytes).take n).length = n := by
    rw [List.length_take, length_flatMap_wordBytes, hn]
    have := Nat.div_mul_le_self (4 * ws.length) (groupBytes g.fmt)
    have := Nat.mul_le_mul_right (groupBytes g.fmt) (Nat.min_le_left (4 * ws.length / groupBytes g.fmt) ((g.w + ppgOf g.fmt - 1 - x) / ppgOf g.fmt))
    omega
  have htaken : (s.chip.counted.trlOn 3 m).sliceTake m.body
      = (s.chip.counted.trlOn 3 m).celPut .trellis a (g.padded o ((ws.flatMap wordBytes).take n)) := by
    rw [hbody, sliceTake_on hcv (hon'.trans hon) (by rw [hkeep, hopen']), hkeep, hgeom', sliceStored_inside (hx ▸ hxw) (hy ▸ hyh) (hx ▸ hmod),
      ← hx, ← hy, ← ho, ← hn, ← ha]
  have hpad := padded_end g o ((ws.flatMap wordBytes).take n)
  rw [hlen] at hpad
  have hrow : (y + 1) * g.stride = y * g.stride + g.stride := Nat.succ_mul ..
  have hstride := rowBytes_le_stride g
  have hlast : a + (g.padded o ((ws.flatMap wordBytes).take n)).length ≤ g.base k + (y + 1) * g.stride := by
    rw [hrow, ha]
    split at hpad <;> omega
  have hput : Chip.Puts a (g.padded o ((ws.flatMap wordBytes).take n)) (s.chip.counted.trlOn 3 m) _ := celPut_calm (m := .trellis) hcalm fun w _ hhi => by
    exact (celMayWrite_region (celRegion_zero_iff.mpr (by have := celRegion_zero_iff.mp hend; omega)) (by decide) _ _ _).trans hmask
  have hbytes : (g.padded o ((ws.flatMap wordBytes).take n)).take n = (ws.flatMap wordBytes).take n := by
    unfold Geom.padded
    split
    · rw [List.take_append_of_le_length (by omega), List.take_of_length_le (by omega)]
    · exact List.take_of_length_le (by omega)
  have hlong : n ≤ (g.padded o ((ws.flatMap wordBytes).take n)).length := by split at hpad <;> omega
  generalize hw : (s.chip.counted.trlOn 3 m).celPut .trellis a (g.padded o ((ws.flatMap wordBytes).take n)) = w at hput htaken
  obtain ⟨z, hz⟩ := hput.mem
  refine does_sliceMsg hhere htaken ⟨?_, fun i hi => ?_, ?_, ?_, ?_, ?_⟩
  · rw [bytes_settle, hput.bytes hlong, hbytes]
  · rw [byte_congr (settle_mem w)]
    refine (hput.other ?_).trans rfl
    split at hpad <;> next hrowEnd =>
      simp only [hrowEnd, if_true, if_false] at hi
      omega
  · rw [hz]
    exact settle_wire ..
  · rw [hz]
    exact settle_que ..
  · rw [hz]
    rfl
  · rw [hz]
    exact frame_settle (.refl _ _) rfl

end Message

end

end Sys2Proof.Machine

/-! SUPPORT. Slice ends received: a frame counted on, closed, and closed as incomplete by a newer one (spec/13 R408; spec/04 R117, R131). -/

namespace Sys2Proof.Machine

section

variable {s : State} {c d : Chip} {m : TrlMsg} {cv : Fin 4} {k : Fin 3} {x : DCanv} {w0 q p t0 t1 t2 w5 sig : Word} {inc : Bool}

/-! ## The open frame READY (R117, R131) -/

/-- The frame of a destination canvas in buffer `k` as a calm Cellar leaves it READY. -/
def Chip.dcanvDone (c : Chip) (cv k : Nat) (x : DCanv) (inc : Bool) (sig : Word) : Chip :=
  ((c.frameStored .trellis cv k (descWords inc (x.seq.getD 0) x.ts sig)).wr rCANV_SIG cv 0 sig).setDcanv cv {}

theorem dcanvReady_eq {j i : Nat} (hsig : sig = c.canvSig (c.viewGeom j) i) : c.dcanvReady j i x inc =
    match (c.celPut .trellis (descAddr j i) ((descWords inc (x.seq.getD 0) x.ts sig).flatMap wordBytes)).canvCas .trellis j (fun w => setBufState w i 2) with
      | (d, false) => d.setDcanv j {}
      | (d, true) => (d.wr rCANV_SIG j 0 sig).setDcanv j {} := by
  subst hsig
  rfl

theorem dcanvDone_mem : (c.dcanvDone cv k x inc sig).mem = (c.frameStored .trellis cv k (descWords inc (x.seq.getD 0) x.ts sig)).mem := by
  rw [Chip.dcanvDone, Chip.setDcanv, Chip.setTrl_mem, Chip.wr_mem]

section Calm

variable (hcalm : c.celCalm) (hmask : c.rb rRGN_WMASK 6 0 8 = true)
include hcalm hmask

theorem dcanvReady_calm (hsig : sig = c.canvSig (c.viewGeom cv) k) : c.dcanvReady cv k x inc = c.dcanvDone cv k x inc sig := by
  rw [dcanvReady_eq hsig, described_canvCas (m := .trellis) hcalm hmask rfl]
  rfl

theorem dcanvDone_only : ∃ y z, c.dcanvDone cv k x inc sig = { c.wr rCANV_SIG cv 0 sig with mem := y, trl := z } := by
  obtain ⟨y, hy⟩ := frameStored_mem (cv := cv) (b := k) (m := .trellis) (ws := descWords inc (x.seq.getD 0) x.ts sig) hcalm hmask rfl
  rw [Chip.dcanvDone, hy]
  exact ⟨_, _, rfl⟩

theorem dcanvDone_state : (c.dcanvDone cv k x inc sig).word (recAddr cv) = setBufState (c.word (recAddr cv)) k 2 := by
  rw [word_congr_mem dcanvDone_mem, frameStored_state (m := .trellis) hcalm hmask rfl]

theorem dcanvDone_desc {i : Nat} (hi : i < 8) :
    (c.dcanvDone cv k x inc sig).word (descAddr cv k + 4 * i) = (descWords inc (x.seq.getD 0) x.ts sig).getD i 0 := by
  rw [word_congr_mem dcanvDone_mem, frameStored_desc (m := .trellis) hcalm hmask rfl hi]

theorem dcanvDone_words {n j : Nat} (hn : j + n ≤ 8) :
    (c.dcanvDone cv k x inc sig).words (descAddr cv k + 4 * j) n = ((descWords inc (x.seq.getD 0) x.ts sig).drop j).take n := by
  have hlen : (descWords inc (x.seq.getD 0) x.ts sig).length = 8 := rfl
  refine List.ext_getElem (by simp only [Chip.words, List.length_map, List.length_range, List.length_take, List.length_drop, hlen]; omega) fun i hi _ => ?_
  have hlt : i < n := by simpa [Chip.words] using hi
  simp only [Chip.words, List.getElem_map, List.getElem_range, List.getElem_take, List.getElem_drop]
  rw [Nat.add_assoc, ← Nat.mul_add, dcanvDone_desc hcalm hmask (by omega), List.getD_eq_getElem _ _ (by omega)]

theorem dcanvDone_bytes : SameBytes (fun i => (recAddr cv ≤ i ∧ i < recAddr cv + 4) ∨ (descAddr cv k ≤ i ∧ i < descAddr cv k + 32)) c
    (c.dcanvDone cv k x inc sig) := fun i hi => by
  rw [byte_congr dcanvDone_mem]
  exact frameStored_bytes (m := .trellis) hcalm hmask rfl i hi

end Calm

theorem dcanvDone_sig : (c.dcanvDone cv k x inc sig).rd rCANV_SIG cv = sig := Chip.rd_wr_same ..

theorem dcanvDone_closed : (c.dcanvDone cv k x inc sig).dcanv cv = {} := dcanv_setDcanv_same ..

/-! ## The next frame opened at once (R115, R408) -/

/-- A buffer that leaves another state than `st` for another is in none of those lists. -/
theorem bufsIn_setBufState {w : Word} {st n : Nat} (h : bufState w k ≠ st) (hn : n ≠ st) (h4 : n < 4) : bufsIn (setBufState w k n) st = bufsIn w st := by
  refine List.filter_congr fun a _ => ?_
  by_cases ha : a = k
  · rw [ha, bufState_setBufState_same w k h4, decide_eq_false hn, decide_eq_false h]
  · rw [bufState_setBufState_other w ha]

/-- What a calm Cellar is told from. -/
theorem celCalm_of_registers (hcel : d.cel = c.cel) (halive : d.alive .cel = c.alive .cel) (hstatus : d.rd rCEL_STATUS = c.rd rCEL_STATUS)
    (hctrl : d.rd rCEL_CTRL = c.rd rCEL_CTRL) (h : c.celCalm) : d.celCalm := by
  obtain ⟨hup, hp, hwb, hecc⟩ := h
  refine ⟨?_, ?_, by rw [hcel, hwb], by rw [hcel, hecc]⟩
  · rw [Chip.celUp, hcel, halive, Chip.rb, hctrl]
    exact hup
  · rw [Chip.pstate, Chip.rf, hstatus]
    exact hp

theorem words_congr {a n : Nat} (h : ∀ i < n, d.word (a + 4 * i) = c.word (a + 4 * i)) : d.words a n = c.words a n :=
  List.map_congr_left fun i hi => h i (List.mem_range.mp hi)

theorem setDcanv_mem (c : Chip) (k : Nat) (x : DCanv) : (c.setDcanv k x).mem = c.mem := Chip.setTrl_mem ..

theorem setDcanv_words (c : Chip) (k : Nat) (x : DCanv) (a n : Nat) : (c.setDcanv k x).words a n = c.words a n :=
  words_congr fun _ _ => word_congr_mem (setDcanv_mem c k x) _

/-- The claim of a buffer leaves the descriptors. -/
theorem dcanvClaimed_words (c : Chip) (k b : Nat) {a n : Nat} (h : recAddr k + 4 ≤ a) : (c.dcanvClaimed k b).words a n = c.words a n :=
  words_congr fun i _ => word_congr_bytes fun j _ _ => dcanvClaimed_bytes c k b j (by omega)

section Reopened

variable {b : Nat} (hcalm : c.celCalm) (hmask : c.rb rRGN_WMASK 6 0 8 = true)
include hcalm hmask

theorem dcanvDone_rd {r : RegRow} {i j : Nat} (h : r.addr i j ≠ rCANV_SIG.addr cv 0) : (c.dcanvDone cv k x inc sig).rd r i j = c.rd r i j := by
  obtain ⟨y, z, hyz⟩ := dcanvDone_only (cv := cv) (k := k) (x := x) (inc := inc) (sig := sig) hcalm hmask
  rw [hyz]
  exact Chip.rd_wr_other _ _ h

theorem dcanvDone_calm : (c.dcanvDone cv k x inc sig).celCalm := by
  have hrows : ∀ cv : Fin 4, rCEL_STATUS.addr 0 0 ≠ rCANV_SIG.addr cv 0 ∧ rCEL_CTRL.addr 0 0 ≠ rCANV_SIG.addr cv 0 := by decide
  obtain ⟨y, z, hyz⟩ := dcanvDone_only (cv := cv) (k := k) (x := x) (inc := inc) (sig := sig) hcalm hmask
  refine celCalm_of_registers (by rw [hyz]; rfl) (by rw [hyz]; rfl) (dcanvDone_rd hcalm hmask (hrows cv).1) (dcanvDone_rd hcalm hmask (hrows cv).2) hcalm

theorem dcanvDone_reopened (hfill : bufState (c.word (recAddr cv)) k ≠ 0) (hfree : (bufsIn (c.word (recAddr cv)) 0).head? = some b) :
    (c.dcanvDone cv k x inc sig).dcanvOpen cv = (c.dcanvDone cv k x inc sig).dcanvClaimed cv b := by
  have hmaskRow : ∀ cv : Fin 4, rRGN_WMASK.addr 6 0 ≠ rCANV_SIG.addr cv 0 := by decide
  refine dcanvOpen_free (dcanvDone_calm hcalm hmask) ?_ (by rw [dcanvDone_closed]) ?_
  · rw [Chip.rb, dcanvDone_rd hcalm hmask (hmaskRow cv)]
    exact hmask
  · rw [dcanvDone_state hcalm hmask, bufsIn_setBufState hfill (by decide) (by decide), hfree]

end Reopened

/-! ## A slice end taken (R408) -/

/-- The frame's state once a slice end of number `q` is in. -/
def DCanv.ended (x : DCanv) (q : Word) (inc : Bool) (ts : Nat) : DCanv :=
  { x with seq := some q, ends := x.ends + 1, incomplete := x.incomplete || inc, ts := ts }

/-- The last slice end of the frame open in canvas `cv`, and an earlier one. -/
def Chip.dcanvEnded (c : Chip) (cv : Nat) (q : Word) (inc : Bool) (ts : Nat) : Chip :=
  let x := (c.dcanv cv).ended q inc ts
  if x.ends ≥ max 1 (c.rf rTRL_DCANV cv 0 11 8) then
    (match x.openBuf with
      | some k => c.dcanvReady cv k x x.incomplete
      | none => c.setDcanv cv {})
  else c.setDcanv cv x

/-- Number `q` is older than the open frame's, and newer. -/
def Chip.dcanvOld (c : Chip) (cv : Nat) (q : Word) : Bool := match (c.dcanv cv).seq with | some n => decide ((q - n).toInt < 0) | none => false
def Chip.dcanvNewer (c : Chip) (cv : Nat) (q : Word) : Bool := match (c.dcanv cv).seq with | some n => decide ((q - n).toInt > 0) | none => false

/-- The open frame closed as incomplete where `q` is newer. -/
def Chip.dcanvPassed (c : Chip) (cv : Nat) (q : Word) : Chip :=
  if c.dcanvNewer cv q then (match (c.dcanv cv).openBuf with
    | some k => c.dcanvReady cv k (c.dcanv cv) true
    | none => c.setDcanv cv {}) else c

theorem sliceEndTake_eq (c : Chip) (w0 q : Word) (t : List Word) : c.sliceEndTake (w0 :: q :: t) =
    if !c.dcanvOn (fld w0 31 30) then c else
    if c.dcanvOld (fld w0 31 30) q then c else
    ((c.dcanvPassed (fld w0 31 30) q).dcanvOpen (fld w0 31 30)).dcanvEnded (fld w0 31 30) q (bit (t.getD 3 0) 0)
      (tsOf (t.getD 0 0) (t.getD 1 0) (t.getD 2 0)) := rfl

theorem sliceEndTake_none {t : List Word} {j : Nat} (hcv : j = fld w0 31 30) (h : c.dcanvOn j = false ∨ ((c.dcanv j).seq = some p ∧ (q - p).toInt < 0)) :
    c.sliceEndTake (w0 :: q :: t) = c := by
  rw [sliceEndTake_eq, ← hcv]
  cases hon : c.dcanvOn j with
  | false => rfl
  | true =>
    obtain ⟨hseq, hlt⟩ := h.resolve_left (by simp [hon])
    have hold : c.dcanvOld j q = true := by
      rw [Chip.dcanvOld, hseq]
      exact decide_eq_true hlt
    rw [hold]
    rfl

section Taken

variable (hcv : cv.val = fld w0 31 30) (hon : c.dcanvOn cv = true)
include hcv hon

theorem sliceEndTake_on (hold : c.dcanvOld cv q = false) : c.sliceEndTake [w0, q, t0, t1, t2, w5]
    = ((c.dcanvPassed cv q).dcanvOpen cv).dcanvEnded cv q (bit w5 0) (tsOf t0 t1 t2) := by
  rw [sliceEndTake_eq, ← hcv, hon, if_neg (by decide), hold, if_neg (by decide)]
  rfl

theorem sliceEndTake_current (hopen : (c.dcanv cv).openBuf ≠ none) (hseq : (c.dcanv cv).seq = some q ∨ (c.dcanv cv).seq = none) :
    c.sliceEndTake [w0, q, t0, t1, t2, w5] = c.dcanvEnded cv q (bit w5 0) (tsOf t0 t1 t2) := by
  have hold : c.dcanvOld cv q = false := by
    rw [Chip.dcanvOld]
    obtain h | h := hseq <;> simp [h]
  have hnewer : c.dcanvNewer cv q = false := by
    rw [Chip.dcanvNewer]
    obtain h | h := hseq <;> simp [h]
  rw [sliceEndTake_on hcv hon hold, Chip.dcanvPassed, hnewer, if_neg (by decide), dcanvOpen_open hopen]

theorem sliceEndTake_newer (hopen : (c.dcanv cv).openBuf = some k.val) (hseq : (c.dcanv cv).seq = some p) (hlt : 0 < (q - p).toInt) :
    c.sliceEndTake [w0, q, t0, t1, t2, w5]
      = ((c.dcanvReady cv k (c.dcanv cv) true).dcanvOpen cv).dcanvEnded cv q (bit w5 0) (tsOf t0 t1 t2) := by
  have hold : c.dcanvOld cv q = false := by
    rw [Chip.dcanvOld, hseq]
    exact decide_eq_false (by omega)
  have hnewer : c.dcanvNewer cv q = true := by
    rw [Chip.dcanvNewer, hseq]
    exact decide_eq_true hlt
  rw [sliceEndTake_on hcv hon hold, Chip.dcanvPassed, hnewer, if_pos rfl, hopen]

end Taken

theorem dcanvEnded_earlier (h : (c.dcanv cv).ends + 1 < max 1 (c.rf rTRL_DCANV cv 0 11 8)) {ts : Nat} :
    c.dcanvEnded cv q inc ts = c.setDcanv cv ((c.dcanv cv).ended q inc ts) := if_neg (Nat.not_le.mpr h)

theorem dcanvEnded_last (h : max 1 (c.rf rTRL_DCANV cv 0 11 8) ≤ (c.dcanv cv).ends + 1) (hopen : (c.dcanv cv).openBuf = some k.val) {ts : Nat} :
    c.dcanvEnded cv q inc ts = c.dcanvReady cv k ((c.dcanv cv).ended q inc ts) ((c.dcanv cv).incomplete || inc) := by
  have hopen' : ((c.dcanv cv).ended q inc ts).openBuf = some k.val := hopen
  rw [Chip.dcanvEnded, hopen']
  exact if_pos h

/-! ## Commands (R408) -/

section Message

variable (hhere : s.chip.trlHere m)
include hhere

theorem does_sliceEnd {w : Chip} {P : Chip → Prop} (hw : (s.chip.counted.trlOn 4 m).sliceEndTake m.body = w) (hP : P (settle w)) :
    Does s (exec (.sliceEnd m) s) P :=
  does_eq ((trlTake_here (c := s.chip.counted) (f := fun c => c.sliceEndTake m.body) hhere (by decide)).trans hw) hP

theorem does_sliceEnd_none {j : Nat} {t : List Word} (hbody : m.body = w0 :: q :: t) (hcv : j = fld w0 31 30)
    (h : s.chip.dcanvOn j = false ∨ ((s.chip.dcanv j).seq = some p ∧ (q - p).toInt < 0)) : Does s (exec (.sliceEnd m) s) fun c =>
      c.wire = s.chip.trlOnward 4 m ++ s.chip.wire ∧ c.que = s.chip.trlQueOn m ∧ c.rest = { s.chip.rest with wire := c.wire, que := c.que }
      ∧ Frame [] [] s.chip c := by
  have hsame : (s.chip.counted.trlOn 4 m).sliceEndTake m.body = s.chip.counted.trlOn 4 m := by
    rw [hbody]
    exact sliceEndTake_none (c := s.chip.counted.trlOn 4 m) hcv h
  exact does_sliceEnd hhere hsame ⟨settle_wire .., settle_que .., rfl, frame_settle (.refl _ _) rfl⟩

section Frames

variable (hbody : m.body = [w0, q, t0, t1, t2, w5]) (hcv : cv.val = fld w0 31 30) (hon : s.chip.dcanvOn cv = true) (hx : s.chip.dcanv cv = x)
  (hopen : x.openBuf = some k.val)
include hbody hcv hon hx hopen

theorem does_sliceEnd_earlier (hseq : x.seq = some q ∨ x.seq = none) (hends : x.ends + 1 < max 1 (s.chip.rf rTRL_DCANV cv 0 11 8)) :
    Does s (exec (.sliceEnd m) s) fun c =>
      c.dcanv cv = { x with seq := some q, ends := x.ends + 1, incomplete := x.incomplete || bit w5 0, ts := tsOf t0 t1 t2 }
      ∧ c.wire = s.chip.trlOnward 4 m ++ s.chip.wire ∧ c.que = s.chip.trlQueOn m
      ∧ c.rest = { s.chip.rest with trl := c.trl, wire := c.wire, que := c.que } ∧ Frame [] [] s.chip c := by
  obtain ⟨-, hon', hdcanv⟩ := trlOn_canvas s.chip.counted 4 m cv
  have hx' : (s.chip.counted.trlOn 4 m).dcanv cv = x := hdcanv.trans hx
  have htaken : (s.chip.counted.trlOn 4 m).sliceEndTake m.body = (s.chip.counted.trlOn 4 m).setDcanv cv (x.ended q (bit w5 0) (tsOf t0 t1 t2)) := by
    rw [hbody, sliceEndTake_current hcv (hon'.trans hon) (by rw [hx', hopen]; simp) (by rwa [hx']), dcanvEnded_earlier (by rw [hx']; exact hends), hx']
  refine does_sliceEnd hhere htaken ⟨?_, settle_wire .., settle_que .., rfl, frame_settle (.refl _ _) rfl⟩
  exact (congrArg (fun t : TrlSt => mget ({} : DCanv) t.dst cv) (settle_trl _)).trans (dcanv_setDcanv_same ..)

theorem does_sliceEnd_last (hseq : x.seq = some q ∨ x.seq = none) (hends : max 1 (s.chip.rf rTRL_DCANV cv 0 11 8) ≤ x.ends + 1)
    (hmask : s.chip.rb rRGN_WMASK 6 0 8 = true) (hcalm : s.chip.celCalm) (hsig : sig = s.chip.canvSig (s.chip.viewGeom cv) k) :
    Does s (exec (.sliceEnd m) s) fun c =>
      c.words (descAddr cv k) 6 = [BitVec.ofNat 32 (b2n (x.incomplete || bit w5 0)), q, tsWord (tsOf t0 t1 t2) 0, tsWord (tsOf t0 t1 t2) 1, tsWord (tsOf t0 t1 t2) 2, sig]
      ∧ c.word (recAddr cv) = setBufState (s.chip.word (recAddr cv)) k 2 ∧ c.dcanv cv = {} ∧ c.rd rCANV_SIG cv = sig
      ∧ SameBytes (fun i => (recAddr cv ≤ i ∧ i < recAddr cv + 4) ∨ (descAddr cv k ≤ i ∧ i < descAddr cv k + 32)) s.chip c
      ∧ c.wire = s.chip.trlOnward 4 m ++ s.chip.wire ∧ c.que = s.chip.trlQueOn m
      ∧ c.rest = { s.chip.rest with mem := c.mem, cel := c.cel, trl := c.trl, wire := c.wire, que := c.que } ∧ Frame [rCANV_SIG.addr cv 0] [] s.chip c := by
  obtain ⟨hgeom, hon', hdcanv⟩ := trlOn_canvas s.chip.counted 4 m cv
  have hx' : (s.chip.counted.trlOn 4 m).dcanv cv = x := hdcanv.trans hx
  have hsig' : sig = (s.chip.counted.trlOn 4 m).canvSig ((s.chip.counted.trlOn 4 m).viewGeom cv) k := by
    rw [hgeom, hsig]
    exact (canvSig_congr rfl rfl _ _).symm
  have hready : (s.chip.counted.trlOn 4 m).dcanvReady cv k (x.ended q (bit w5 0) (tsOf t0 t1 t2)) (x.incomplete || bit w5 0)
      = (s.chip.counted.trlOn 4 m).dcanvDone cv k (x.ended q (bit w5 0) (tsOf t0 t1 t2)) (x.incomplete || bit w5 0) sig :=
    dcanvReady_calm (c := s.chip.counted.trlOn 4 m) hcalm hmask hsig'
  have htaken : (s.chip.counted.trlOn 4 m).sliceEndTake m.body
      = (s.chip.counted.trlOn 4 m).dcanvDone cv k (x.ended q (bit w5 0) (tsOf t0 t1 t2)) (x.incomplete || bit w5 0) sig := by
    rw [hbody, sliceEndTake_current hcv (hon'.trans hon) (by rw [hx', hopen]; simp) (by rwa [hx']),
      dcanvEnded_last (k := k) (by rw [hx']; exact hends) (by rw [hx', hopen]), hx', hready]
  have hcalm' : (s.chip.counted.trlOn 4 m).celCalm := hcalm
  have hmask' : (s.chip.counted.trlOn 4 m).rb rRGN_WMASK 6 0 8 = true := hmask
  have hword : (s.chip.counted.trlOn 4 m).word (recAddr cv) = s.chip.word (recAddr cv) := rfl
  have hbyte : ∀ i, (s.chip.counted.trlOn 4 m).byte i = s.chip.byte i := fun _ => rfl
  obtain ⟨y, z, hyz⟩ := dcanvDone_only (cv := cv) (k := k) (x := x.ended q (bit w5 0) (tsOf t0 t1 t2)) (inc := x.incomplete || bit w5 0) (sig := sig) hcalm' hmask'
  refine does_sliceEnd hhere htaken ⟨?_, ?_, ?_, (rd_settle ..).trans dcanvDone_sig, fun i hi => ?_, ?_, ?_, ?_, ?_⟩
  · rw [words_settle, ← Nat.add_zero (descAddr cv k), ← Nat.mul_zero 4, dcanvDone_words hcalm' hmask' (by decide)]
    rfl
  · rw [word_settle, dcanvDone_state hcalm' hmask', hword]
  · exact (congrArg (fun t : TrlSt => mget ({} : DCanv) t.dst cv) (settle_trl _)).trans dcanvDone_closed
  · rw [byte_congr (settle_mem _), dcanvDone_bytes hcalm' hmask' i hi, hbyte]
  · rw [hyz]
    exact settle_wire ..
  · rw [hyz]
    exact settle_que ..
  · rw [hyz]
    rfl
  · rw [hyz]
    exact frame_settle ((SameRegs.refl _ s.chip).wr sig List.mem_cons_self) rfl

theorem does_sliceEnd_newer (hseq : x.seq = some p) (hlt : 0 < (q - p).toInt) (hmask : s.chip.rb rRGN_WMASK 6 0 8 = true) (hcalm : s.chip.celCalm)
    (hmany : 1 < s.chip.rf rTRL_DCANV cv 0 11 8) (hsig : sig = s.chip.canvSig (s.chip.viewGeom cv) k) (hfree : bufsIn (s.chip.word (recAddr cv)) 0 ≠ [])
    (hfill : bufState (s.chip.word (recAddr cv)) k = 1) : Does s (exec (.sliceEnd m) s) fun c =>
      c.words (descAddr cv k) 2 = [1, p] ∧ c.words (descAddr cv k + 20) 1 = [sig] ∧ c.rd rCANV_SIG cv = sig ∧ bufState (c.word (recAddr cv)) k = 2
      ∧ c.dcanv cv = { openBuf := (bufsIn (s.chip.word (recAddr cv)) 0).head?, seq := some q, ends := 1, incomplete := bit w5 0, ts := tsOf t0 t1 t2 }
      ∧ SameBytes (fun i => (recAddr cv ≤ i ∧ i < recAddr cv + 4) ∨ (descAddr cv k ≤ i ∧ i < descAddr cv k + 32)) s.chip c ∧ Frame [rCANV_SIG.addr cv 0] [] s.chip c := by
  obtain ⟨hgeom, hon', hdcanv⟩ := trlOn_canvas s.chip.counted 4 m cv
  have hx' : (s.chip.counted.trlOn 4 m).dcanv cv = x := hdcanv.trans hx
  have hsig' : sig = (s.chip.counted.trlOn 4 m).canvSig ((s.chip.counted.trlOn 4 m).viewGeom cv) k := by
    rw [hgeom, hsig]
    exact (canvSig_congr rfl rfl _ _).symm
  obtain ⟨b, t, hb⟩ := List.exists_cons_of_ne_nil hfree
  have hbk : b ≠ k.val := fun h => by
    have hmem : b ∈ bufsIn (s.chip.word (recAddr cv)) 0 := by rw [hb]; exact List.mem_cons_self
    have hzero : bufState (s.chip.word (recAddr cv)) b = 0 := of_decide_eq_true (List.mem_filter.mp hmem).2
    rw [h, hfill] at hzero
    exact absurd hzero (by decide)
  have hcalm' : (s.chip.counted.trlOn 4 m).celCalm := hcalm
  have hmask' : (s.chip.counted.trlOn 4 m).rb rRGN_WMASK 6 0 8 = true := hmask
  have hword : (s.chip.counted.trlOn 4 m).word (recAddr cv) = s.chip.word (recAddr cv) := rfl
  have hbyte : ∀ i, (s.chip.counted.trlOn 4 m).byte i = s.chip.byte i := fun _ => rfl
  have htaken : (s.chip.counted.trlOn 4 m).sliceEndTake m.body
      = (((s.chip.counted.trlOn 4 m).dcanvDone cv k x true sig).dcanvOpen cv).dcanvEnded cv q (bit w5 0) (tsOf t0 t1 t2) := by
    rw [hbody, sliceEndTake_newer (k := k) hcv (hon'.trans hon) (by rw [hx', hopen]) (by rw [hx', hseq]) hlt, hx', dcanvReady_calm hcalm' hmask' hsig']
  have hreopened : ((s.chip.counted.trlOn 4 m).dcanvDone cv k x true sig).dcanvOpen cv = ((s.chip.counted.trlOn 4 m).dcanvDone cv k x true sig).dcanvClaimed cv b :=
    dcanvDone_reopened hcalm' hmask' (by rw [hword, hfill]; decide) (by rw [hword, hb]; rfl)
  have hstate := dcanvClaimed_word ((s.chip.counted.trlOn 4 m).dcanvDone cv k x true sig) cv b
  have hclaimed := dcanvClaimed_bytes ((s.chip.counted.trlOn 4 m).dcanvDone cv k x true sig) cv b
  have hframe : (((s.chip.counted.trlOn 4 m).dcanvDone cv k x true sig).dcanvClaimed cv b).dcanv cv = { openBuf := some b } := by
    rw [Chip.dcanvClaimed, dcanv_setDcanv_same, dcanvDone_closed]
  have hrows : ∀ cv : Fin 4, rTRL_DCANV.addr cv 0 ≠ rCANV_SIG.addr cv 0 := by decide
  obtain ⟨y, z, hyz⟩ := dcanvClaimed_only ((s.chip.counted.trlOn 4 m).dcanvDone cv k x true sig) cv b
  have hnsl : (((s.chip.counted.trlOn 4 m).dcanvDone cv k x true sig).dcanvClaimed cv b).rf rTRL_DCANV cv 0 11 8 = s.chip.rf rTRL_DCANV cv 0 11 8 := by
    have hrd : (((s.chip.counted.trlOn 4 m).dcanvDone cv k x true sig).dcanvClaimed cv b).rd rTRL_DCANV cv = s.chip.rd rTRL_DCANV cv := by
      rw [hyz]
      exact dcanvDone_rd hcalm' hmask' (hrows cv)
    rw [Chip.rf, hrd, Chip.rf]
  have hkept := htaken.trans ((congrArg (fun e : Chip => e.dcanvEnded cv q (bit w5 0) (tsOf t0 t1 t2)) hreopened).trans
    (dcanvEnded_earlier (by rw [hframe, hnsl]; simpa using hmany)))
  rw [hframe] at hkept
  obtain ⟨y', z', hdone⟩ := dcanvDone_only (cv := cv) (k := k) (x := x) (inc := true) (sig := sig) hcalm' hmask'
  have hwords := fun n j (hn : j + n ≤ 8) => (dcanvClaimed_words ((s.chip.counted.trlOn 4 m).dcanvDone cv k x true sig) cv b (a := descAddr cv k + 4 * j) (n := n)
    (by simp only [descAddr]; omega)).trans (dcanvDone_words hcalm' hmask' hn)
  refine does_sliceEnd hhere hkept ⟨?_, ?_, ?_, ?_, ?_, fun i hi => ?_, ?_⟩
  · have hfirst := hwords 2 0 (by decide)
    rw [Nat.mul_zero, Nat.add_zero] at hfirst
    rw [words_settle, setDcanv_words, hfirst, hseq]
    rfl
  · have hlast := hwords 1 5 (by decide)
    rw [words_settle, setDcanv_words]
    exact hlast
  · rw [rd_settle, hyz]
    exact dcanvDone_sig
  · rw [word_settle, word_congr_mem (setDcanv_mem ..), hstate, bufState_setBufState_other _ hbk.symm, dcanvDone_state hcalm' hmask', bufState_setBufState_same _ _ (by decide)]
  · refine (congrArg (fun t : TrlSt => mget ({} : DCanv) t.dst cv) (settle_trl _)).trans ((dcanv_setDcanv_same ..).trans ?_)
    rw [hb]
    simp [DCanv.ended]
  · rw [byte_congr (settle_mem _), byte_congr (setDcanv_mem ..), hclaimed i fun h => hi (.inl h), dcanvDone_bytes hcalm' hmask' i hi, hbyte]
  · rw [hyz, hdone]
    exact frame_settle ((SameRegs.refl _ s.chip).wr sig List.mem_cons_self) rfl

end Frames

end Message

end

end Sys2Proof.Machine

/-! SUPPORT. Slices forwarded to their end or abandoned, and their descriptors enabled or refused (spec/13 R406, R407). -/

namespace Sys2Proof.Machine

section

variable {s : State} {c d : Chip} {cv : Fin 4} {j : SlJob}

/-! ## The slice ends of a frame (R407, R398) -/

/-- Words sent downstream as a message with the next sequence number. -/
def Chip.trlDown (c : Chip) (l : List Word) : Chip :=
  { c with wire := c.trlOut true l ++ c.wire, que := c.trlQue, trl := { c.trl with mseq := c.trl.mseq + 1 } }

/-- A message of the module's own on a side that is up. -/
theorem trlSend_down (hup : c.up .trl = true) (hside : c.rb rTRL_STATUS 0 0 2 = true) (type dest : Nat) (bcast : Bool) (body : List Word) :
    c.trlSend true type dest bcast body = c.trlDown (trlHead type dest bcast body.length c.trl.mseq :: body) := by
  have hsent : (({ c with trl := { c.trl with mseq := c.trl.mseq + 1 } }).up .trl && ({ c with trl := { c.trl with mseq := c.trl.mseq + 1 } }).rb rTRL_STATUS 0 0 2) = true :=
    Bool.and_eq_true_iff.mpr ⟨hup, hside⟩
  rw [Chip.trlSend, Chip.trlRaw]
  refine (if_pos hsent).trans ?_
  rw [trlPass_eq]
  rfl

/-- The body of the SLICE_END of slice `q`. -/
def Chip.sliceEndBody (c : Chip) (j : SlJob) (q : Nat) : List Word :=
  [BitVec.ofNat 32 (c.rf rTRL_SL q 0 25 24 * 2 ^ 30), j.seq] ++ j.ts ++ [BitVec.ofNat 32 (b2n j.incomplete)]

/-- The end of slice `q` sent and counted. -/
def Chip.sliceEnded (c : Chip) (j : SlJob) (q : Nat) : Chip :=
  (c.trlSend true 4 (c.rf rTRL_SL q 0 30 28) false (c.sliceEndBody j q)).inc rTRL_CNT 0 0

theorem sliceEndBody_length (c : Chip) (j : SlJob) (q : Nat) : (c.sliceEndBody j q).length = 3 + j.ts.length := by
  simp [Chip.sliceEndBody]
  omega

/-- The module beside the wire, the queues' resets and the messages' number. -/
def endless (r : Chip) : Chip := { r with wire := [], que := {}, trl := { r.trl with mseq := 0 } }

theorem rest_of_endless (h : endless d.rest = endless c.rest) :
    d.rest = { c.rest with wire := d.wire, que := d.que, trl := { c.trl with mseq := d.trl.mseq } } :=
  congrArg (fun r : Chip => { r with wire := d.wire, que := d.que, trl := { r.trl with mseq := d.trl.mseq } }) h

theorem trlDown_keeps {rs is : List Nat} (c : Chip) (l : List Word) : c.Keeps endless rs is (c.trlDown l) := .of_eq .refl rfl rfl rfl

/-- A quantity that every turn of a fold advances by one. -/
theorem each_counts {α : Type} {n : Nat} {P : Chip → Prop} {f : Chip → α → Chip} {g : Chip → BitVec n} (hP : ∀ e x, P e → P (f e x))
    (hg : ∀ e x, P e → g (f e x) = g e + 1) (l : List α) {c : Chip} (hc : P c) : g (c.each l f) = g c + BitVec.ofNat n l.length := by
  induction l generalizing c with
  | nil => exact (BitVec.add_zero _).symm
  | cons x t ih =>
    rw [Chip.each_cons, ih (hP c x hc), hg c x hc, BitVec.add_assoc, List.length_cons, Nat.add_comm t.length, BitVec.ofNat_add]
    rfl

/-- Messages go out downstream. -/
def Chip.sends (c : Chip) : Prop := c.up .trl = true ∧ c.rb rTRL_STATUS 0 0 2 = true

section Turn

variable (h : c.sends) (q : Nat)
include h

theorem sliceEnded_eq : c.sliceEnded j q
    = (c.trlDown (trlHead 4 (c.rf rTRL_SL q 0 30 28) false (3 + j.ts.length) c.trl.mseq :: c.sliceEndBody j q)).inc rTRL_CNT 0 0 := by
  rw [Chip.sliceEnded, trlSend_down h.1 h.2, sliceEndBody_length]

theorem sliceEnded_keeps : c.Keeps endless [rTRL_CNT.addr 0 0] [] (c.sliceEnded j q) := by
  rw [sliceEnded_eq h]
  exact .wr (trlDown_keeps ..) _ List.mem_cons_self

theorem sliceEnded_sends : (c.sliceEnded j q).sends := by
  have hstatus : (c.sliceEnded j q).rd rTRL_STATUS = c.rd rTRL_STATUS := (sliceEnded_keeps h q).rd (by decide)
  refine ⟨?_, ?_⟩
  · rw [sliceEnded_eq h]
    exact h.1
  · rw [Chip.rb, hstatus]
    exact h.2

theorem sliceEnded_mseq : (c.sliceEnded j q).trl.mseq = c.trl.mseq + 1 := by rw [sliceEnded_eq h]; rfl

theorem sliceEnded_count : (c.sliceEnded j q).rd rTRL_CNT = c.rd rTRL_CNT + 1 := by
  rw [sliceEnded_eq h]
  exact Chip.rd_wr_same ..

theorem sliceEnded_wire : (c.sliceEnded j q).wire
    = c.trlOut true (trlHead 4 (c.rf rTRL_SL q 0 30 28) false (3 + j.ts.length) c.trl.mseq :: c.sliceEndBody j q) ++ c.wire := by
  rw [sliceEnded_eq h]
  rfl

theorem sliceEnded_que : (c.sliceEnded j q).que = c.trlQue := by
  rw [sliceEnded_eq h]
  rfl

/-- What a reset of the queue caught is lost once. -/
theorem sliceEnded_whole : (c.sliceEnded j q).cutOff [0x42] = false := by
  rw [Chip.cutOff, sliceEnded_que h]
  refine List.any_eq_false.mpr fun i hi => ?_
  have hkept := (List.mem_filter.mp hi).2
  simpa using hkept

end Turn

theorem trlOut_length (c : Chip) (down : Bool) (l : List Word) : (c.trlOut down l).length = if c.cutOff [0x42] = true then 0 else 1 := by
  rw [Chip.trlOut]
  split <;> rfl

/-- Where no reset has caught anything, every slice's end goes out. -/
theorem sliceEnds_whole (h : c.sends) (hcut : c.cutOff [0x42] = false) (l : List Nat) :
    (c.each l fun c q => c.sliceEnded j q).wire.length = c.wire.length + l.length ∧ (c.each l fun c q => c.sliceEnded j q).que = c.que := by
  induction l generalizing c with
  | nil => exact ⟨rfl, rfl⟩
  | cons q t ih =>
    obtain ⟨hwire, hque⟩ := ih (sliceEnded_sends (j := j) h q) (sliceEnded_whole h q)
    refine ⟨?_, ?_⟩
    · rw [Chip.each_cons, hwire, sliceEnded_wire h, List.length_append, trlOut_length, hcut, List.length_cons]
      simp only [Bool.false_eq_true, if_false]
      omega
    · rw [Chip.each_cons, hque, sliceEnded_que h, trlQue_whole hcut]

/-- The ends of slices `l`: the first is lost where a reset has caught it. -/
theorem sliceEnds_out (h : c.sends) (l : List Nat) :
    (c.each l fun c q => c.sliceEnded j q).wire.length = c.wire.length + l.length - (if c.cutOff [0x42] = true ∧ l ≠ [] then 1 else 0)
      ∧ (l ≠ [] → (c.each l fun c q => c.sliceEnded j q).que = c.trlQue) := by
  cases l with
  | nil => exact ⟨by simp [Chip.each], fun hne => absurd rfl hne⟩
  | cons q t =>
    obtain ⟨hwire, hque⟩ := sliceEnds_whole (sliceEnded_sends (j := j) h q) (sliceEnded_whole h q) t
    refine ⟨?_, fun _ => ?_⟩
    · rw [Chip.each_cons, hwire, sliceEnded_wire h, List.length_append, trlOut_length, List.length_cons]
      by_cases hcut : c.cutOff [0x42] = true
      · simp [hcut]
      · simp [hcut]
        omega
    · rw [Chip.each_cons, hque, sliceEnded_que h]

theorem sliceEnds_keeps (h : c.sends) (l : List Nat) : c.Keeps endless [rTRL_CNT.addr 0 0] [] (c.each l fun c q => c.sliceEnded j q) := by
  induction l generalizing c with
  | nil => exact .refl
  | cons q t ih => exact (sliceEnded_keeps h q).trans (ih (sliceEnded_sends h q))

theorem sliceEnds_mseq (h : c.sends) (l : List Nat) :
    (c.each l fun c q => c.sliceEnded j q).trl.mseq = c.trl.mseq + BitVec.ofNat 12 l.length :=
  each_counts (g := fun e => e.trl.mseq) (fun _ q he => sliceEnded_sends he q) (fun _ q he => sliceEnded_mseq he q) l h

theorem sliceEnds_count (h : c.sends) (l : List Nat) :
    (c.each l fun c q => c.sliceEnded j q).rd rTRL_CNT = c.rd rTRL_CNT + BitVec.ofNat 32 l.length :=
  each_counts (g := fun e => e.rd rTRL_CNT) (fun _ q he => sliceEnded_sends he q) (fun _ q he => sliceEnded_count he q) l h

/-! ## Slices abandoned (R407) -/

theorem sliceAbandon_reportless (c : Chip) (n : Nat) : c.Keeps reportless (rTRL_CNT.addr 2 0 :: logRegs 0x0E) [187, 209] (c.sliceAbandon n) :=
  .irq (.log (.wr .refl _ List.mem_cons_self) (fun _ _ => rfl) (fun _ => List.mem_cons_of_mem _) (by simp)) List.mem_cons_self

theorem sliceAbandon_count (c : Chip) (n : Nat) : (c.sliceAbandon n).rd rTRL_CNT 2 = c.rd rTRL_CNT 2 + BitVec.ofNat 32 n := by
  rw [Chip.sliceAbandon, Chip.rd_irq, Chip.rd_log_other (by decide), Chip.inc, Chip.rd_wr_same]

theorem sliceAbandon_irq (c : Chip) (n : Nat) : (c.sliceAbandon n).irqs.getLsbD 187 = true := irq_irqs_same _ (by decide)

theorem sliceAbandon_reports (c : Chip) (n : Nat) : Reports 0x0E 0xE6 c (c.sliceAbandon n) :=
  .irq (.log 0x0E 0xE6 _ (Chip.rd_wr_other _ _ (by decide)).symm rfl (by decide)) 187

/-! ## A forward ends (R407) -/

theorem celGet_down {m : Master} {n : Nat} (h : c.celUp = false) : c.celGet m n = (c, none) := by
  rw [Chip.celGet, Chip.celClientRead, h]
  rfl

/-- TRL's read of the state word of a canvas while the Cellar is calm. -/
theorem celGet_record (hcalm : c.celCalm) (cv : Fin 4) : c.celGet .trellis (recAddr cv) = (c, some (c.word (recAddr cv))) :=
  celGet_calm hcalm (celMayRead_region (celRegion_record (cv := cv) (by omega)) (by decide) .trellis false)

theorem sliceNext_none {k : Nat} (h : (c.fwd k).waiting = none) : c.sliceNext k = c.setFwd k {} := by
  rw [Chip.sliceNext, h]

theorem fwd_setFwd_same (c : Chip) (k : Nat) (x : SlFwd) : (c.setFwd k x).fwd k = x := mget_mset_same ..

theorem sliceDone_idle {k : Nat} (h : (c.fwd k).cur = none) : c.sliceDone k = c := by
  rw [Chip.sliceDone, sliceCheck_idle h]
  dsimp only
  rw [h]

section Current

variable (hfwd : c.fwd cv = { cur := some j, waiting := none })
include hfwd

theorem sliceCheck_stands (hstate : 2 ≤ fld (c.word (recAddr cv)) (2 * j.buf + 1) (2 * j.buf)) (hcel : c.celUp = false ∨ c.celCalm) :
    c.sliceCheck cv = c := by
  rw [Chip.sliceCheck, hfwd]
  dsimp only
  rw [← recAddr]
  obtain hdown | hcalm := hcel
  · rw [celGet_down hdown]
  · rw [celGet_record hcalm]
    exact if_pos hstate

theorem sliceDone_stands (h : c.sends) (hstate : 2 ≤ fld (c.word (recAddr cv)) (2 * j.buf + 1) (2 * j.buf)) (hcel : c.celUp = false ∨ c.celCalm) :
    c.sliceDone cv = (c.each j.slices fun c q => c.sliceEnded j q).setFwd cv {} := by
  have hkept : (c.each j.slices fun c q => c.sliceEnded j q).fwd cv = c.fwd cv :=
    (sliceEnds_keeps h j.slices).same (fun r => r.fwd cv) fun _ => rfl
  have hends : c.sliceDone cv = (c.each j.slices fun c q => c.sliceEnded j q).sliceNext cv := by
    rw [Chip.sliceDone, sliceCheck_stands hfwd hstate hcel]
    dsimp only
    rw [hfwd]
    rfl
  rw [hends, sliceNext_none (by rw [hkept, hfwd])]

theorem sliceCheck_gone (hstate : fld (c.word (recAddr cv)) (2 * j.buf + 1) (2 * j.buf) < 2) (hcalm : c.celCalm) :
    c.sliceCheck cv = (c.sliceAbandon j.slices.length).setFwd cv {} := by
  have hkept : (c.sliceAbandon j.slices.length).fwd cv = c.fwd cv := by
    rw [Chip.fwd, Chip.fwd, Chip.sliceAbandon, Chip.irq_trl, Chip.log_trl, Chip.inc, Chip.wr_trl]
  rw [Chip.sliceCheck, hfwd]
  dsimp only
  rw [← recAddr, celGet_record hcalm]
  exact (if_neg (Nat.not_le.mpr hstate)).trans (sliceNext_none (by rw [hkept, hfwd]))

theorem sliceDone_gone (hstate : fld (c.word (recAddr cv)) (2 * j.buf + 1) (2 * j.buf) < 2) (hcalm : c.celCalm) :
    c.sliceDone cv = (c.sliceAbandon j.slices.length).setFwd cv {} := by
  rw [Chip.sliceDone, sliceCheck_gone hfwd hstate hcalm]
  dsimp only
  rw [fwd_setFwd_same]

end Current

/-! ## SLICE_FORWARD_DONE (R407) -/

theorem does_forwardDone_idle (h : s.chip.up .trl = false ∨ (s.chip.fwd cv).cur = none) : Does s (exec (.sliceForwardDone cv) s) fun c =>
    c.rest = s.chip.rest ∧ Frame [] [] s.chip c := by
  have hsame : s.chip.counted.when (s.chip.counted.up .trl) (fun c => c.sliceDone cv) = s.chip.counted := by
    rw [Chip.when]
    obtain hdown | hidle := h
    · exact if_neg (by rw [show s.chip.counted.up .trl = s.chip.up .trl from rfl, hdown]; decide)
    · rw [sliceDone_idle (c := s.chip.counted) hidle, ite_self]
  exact does_eq (f := fun c => c.when (c.up .trl) fun c => c.sliceDone cv) hsame (quiet s.chip)

section Current

variable (hup : s.chip.up .trl = true) (hfwd : s.chip.fwd cv = { cur := some j, waiting := none })
include hup hfwd

theorem does_forwardDone_stands (hstate : 2 ≤ fld (s.chip.word (recAddr cv)) (2 * j.buf + 1) (2 * j.buf)) (hcel : s.chip.celUp = false ∨ s.chip.celCalm)
    (hside : s.chip.rb rTRL_STATUS 0 0 2 = true) : Does s (exec (.sliceForwardDone cv) s) fun c =>
      c.wire.length = s.chip.wire.length + j.slices.length - (if s.chip.cutOff [0x42] = true ∧ j.slices ≠ [] then 1 else 0) ∧ (j.slices ≠ [] → c.que = s.chip.trlQue)
      ∧ (∀ q : Fin 16, j.slices = [q.val] → c.wire = s.chip.trlOut true (trlHead 4 (s.chip.rf rTRL_SL q 0 30 28) false (3 + j.ts.length) s.chip.trl.mseq
          :: ([BitVec.ofNat 32 (s.chip.rf rTRL_SL q 0 25 24 * 2 ^ 30), j.seq] ++ j.ts ++ [BitVec.ofNat 32 (b2n j.incomplete)])) ++ s.chip.wire)
      ∧ c.rd rTRL_CNT 0 = s.chip.rd rTRL_CNT 0 + BitVec.ofNat 32 j.slices.length
      ∧ c.rest = { s.chip.rest with wire := c.wire, que := c.que, trl := { s.chip.trl with mseq := s.chip.trl.mseq + BitVec.ofNat 12 j.slices.length, fwd := mset ({} : SlFwd) s.chip.trl.fwd cv {} } }
      ∧ Frame [rTRL_CNT.addr 0 0] [] s.chip c := by
  have hsends : s.chip.counted.sends := ⟨hup, hside⟩
  have hkeeps := sliceEnds_keeps (j := j) hsends j.slices
  obtain ⟨hwire, hque⟩ := sliceEnds_out (j := j) hsends j.slices
  refine does_when (ok := fun c => c.up .trl) hup (sliceDone_stands (c := s.chip.counted) hfwd hsends hstate hcel) ⟨?_, fun hne => ?_, fun q hq => ?_, ?_, ?_, ?_⟩
  · rw [settle_wire]
    exact hwire
  · rw [settle_que]
    exact hque hne
  · rw [settle_wire, hq]
    exact sliceEnded_wire hsends q
  · rw [rd_settle]
    exact sliceEnds_count hsends j.slices
  · have hrest := rest_of_endless hkeeps.sameView
    rw [sliceEnds_mseq hsends] at hrest
    rw [rest_settle]
    exact congrArg (fun r : Chip => { r with trl := { r.trl with fwd := mset ({} : SlFwd) r.trl.fwd cv {} } }) hrest
  · exact (Chip.Keeps.of_eq hkeeps.plain rfl rfl rfl).frame

theorem does_forwardDone_gone (hstate : fld (s.chip.word (recAddr cv)) (2 * j.buf + 1) (2 * j.buf) < 2) (hcalm : s.chip.celCalm) :
    Does s (exec (.sliceForwardDone cv) s) fun c =>
      c.rd rTRL_CNT 2 = s.chip.rd rTRL_CNT 2 + BitVec.ofNat 32 j.slices.length ∧ c.irqs.getLsbD 187 = true ∧ Reports 0x0E 0xE6 s.chip c
      ∧ c.rest = { s.chip.rest with err := c.err, trl := { s.chip.trl with fwd := mset ({} : SlFwd) s.chip.trl.fwd cv {} } }
      ∧ Frame (rTRL_CNT.addr 2 0 :: logRegs 0x0E) [187, 209] s.chip c := by
  have hkeeps := sliceAbandon_reportless s.chip.counted j.slices.length
  refine does_when (ok := fun c => c.up .trl) hup (sliceDone_gone (c := s.chip.counted) hfwd hstate hcalm) ⟨?_, ?_, ?_, ?_, ?_⟩
  · rw [rd_settle]
    exact sliceAbandon_count ..
  · exact (settle_irqs_other _ (by decide)).trans (sliceAbandon_irq ..)
  · exact .settle (.of_eq (sliceAbandon_reports s.chip.counted j.slices.length) rfl)
  · rw [rest_settle]
    exact congrArg (fun r : Chip => { r with trl := { r.trl with fwd := mset ({} : SlFwd) r.trl.fwd cv {} } }) (rest_of_reportless hkeeps.sameView)
  · exact (Chip.Keeps.of_eq hkeeps.plain rfl rfl rfl).frame

end Current

/-! ## A slice's descriptor written with EN (R406) -/

section Enable

variable {a : Access} {q : Fin 16} {v : Word} {g : Nat}

/-- The slice is of whole groups of `g` pixels and goes to a follower. -/
abbrev Chip.sliceFits (c : Chip) (q : Nat) (v : Word) (g : Nat) : Prop :=
  c.rf rTRL_SL_ORG q 0 12 0 % g = 0 ∧ c.rf rTRL_SL_DORG q 0 12 0 % g = 0 ∧ (c.rf rTRL_SL_EXT q 0 12 0 + 1) % g = 0 ∧ fld v 30 28 ≠ 0

theorem trlSl_eq {k : Nat} (hen : bit v 31 = true) (hg : g = ppgOf (c.rf rCANV_CTRL (fld v 27 26) 0 1 0)) :
    c.trlSl k v = if c.sliceFits k v g then c else (c.wb rTRL_SL k 0 31 false).wb rTRL_STATUS 0 0 9 true := by
  subst hg
  rw [Chip.trlSl, hen, if_neg (by decide)]
  dsimp only
  refine if_congr ?_ rfl rfl
  simp [and_assoc]

/-- The registers a slice is told from stand as its control register is written. -/
theorem slice_written (s : State) (q : Fin 16) (v : Word) : ((s.chip.counted.written rTRL_SL q 0 (v ||| 0x80000000)).sliceFits q (v ||| 0x80000000) g
      ↔ s.chip.sliceFits q v g)
    ∧ (s.chip.counted.written rTRL_SL q 0 (v ||| 0x80000000)).rf rCANV_CTRL (fld (v ||| 0x80000000) 27 26) 0 1 0 = s.chip.rf rCANV_CTRL (fld v 27 26) 0 1 0 := by
  have horg : ∀ q : Fin 16, rTRL_SL_ORG.addr q 0 ∉ [rTRL_SL.addr q 0] ∧ rTRL_SL_DORG.addr q 0 ∉ [rTRL_SL.addr q 0] ∧ rTRL_SL_EXT.addr q 0 ∉ [rTRL_SL.addr q 0] := by
    decide
  have hcanv : ∀ (q : Fin 16) (k : Fin 4), rCANV_CTRL.addr k 0 ∉ [rTRL_SL.addr q 0] := by decide
  obtain ⟨horg, hdorg, hext⟩ := horg q
  have hregs := written_regs s.chip.counted rTRL_SL q 0 (v ||| 0x80000000)
  have hdest : fld (v ||| 0x80000000) 30 28 = fld v 30 28 := fld_or_other (by decide)
  have hsource : fld (v ||| 0x80000000) 27 26 = fld v 27 26 := fld_or_other (by decide)
  refine ⟨?_, ?_⟩
  · rw [Chip.sliceFits, hregs.rf _ _ horg, hregs.rf _ _ hdorg, hregs.rf _ _ hext, hdest]
    rfl
  · rw [hsource, hregs.rf _ _ (hcanv q ⟨fld v 27 26, Nat.mod_lt _ (by decide)⟩)]
    rfl

variable (ht : s.chip.takes a rTRL_SL q 0 (v ||| 0x80000000)) (hg : g = ppgOf (s.chip.rf rCANV_CTRL (fld v 27 26) 0 1 0))
include ht hg

theorem does_sliceEnable_taken (hfits : s.chip.sliceFits q v g) : Does s (exec (.sliceEnable a q v) s) fun c =>
    c.rest = s.chip.rest ∧ c.rd rTRL_SL q = rTRL_SL.merge (s.chip.rd rTRL_SL q) (v ||| 0x80000000) ∧ c.rb rTRL_SL q 0 31 = true
    ∧ Frame [rTRL_SL.addr q 0] [] s.chip c := by
  obtain ⟨hsame, hctrl⟩ := slice_written (g := g) s q v
  have hkept := (trlSl_eq (k := q) (bit_enabled v) (hg.trans (by rw [hctrl]))).trans (if_pos (hsame.mpr hfits))
  refine does_written (rTRL_SL_stands q) ht rfl hkept ⟨rfl, written_rd .., ?_, (stored_keeps s.chip.counted ..).frame⟩
  exact (written_rb (by decide) (by decide)).trans (bit_enabled v)

theorem does_sliceEnable_refused (hfits : ¬ s.chip.sliceFits q v g) : Does s (exec (.sliceEnable a q v) s) fun c =>
    c.rest = s.chip.rest ∧ c.rd rTRL_SL q = setBit (rTRL_SL.merge (s.chip.rd rTRL_SL q) (v ||| 0x80000000)) 31 false
    ∧ c.rd rTRL_STATUS = setBit (s.chip.rd rTRL_STATUS) 9 true ∧ Frame [rTRL_SL.addr q 0, rTRL_STATUS.addr 0 0] [] s.chip c := by
  have hrows : ∀ q : Fin 16, rTRL_SL.addr q 0 ≠ rTRL_STATUS.addr 0 0 := by decide
  obtain ⟨hsame, hctrl⟩ := slice_written (g := g) s q v
  have hrefused := (trlSl_eq (k := q) (bit_enabled v) (hg.trans (by rw [hctrl]))).trans (if_neg fun h => hfits (hsame.mp h))
  refine does_written (rTRL_SL_stands q) ht rfl hrefused ⟨rfl, ?_, ?_, ?_⟩
  · rw [rd_settle, Chip.wb, Chip.rd_wr_other _ _ (hrows q), Chip.rd_wb_same, written_rd]
    rfl
  · rw [rd_settle, Chip.rd_wb_same, Chip.wb, Chip.rd_wr_other _ _ (hrows q).symm, Chip.rd_answer, Chip.rd_wr_other _ _ (hrows q).symm]
    rfl
  · exact (((stored_keeps s.chip.counted ..).mono (by simp) (by simp)).wb 31 false (by simp) |>.wb 9 true (by simp)).frame

end Enable

end

/-- Settles O40: what passes XQ_TRL_TX, what is taken, the slices received and their ends, the forward's end, and the descriptors. -/
theorem trellisMessagesAndSlices : Obligations.trellis_messages_and_slices := by
  unfold Obligations.trellis_messages_and_slices
  refine ⟨fun _ _ _ _ => does_trl_crc, fun _ _ _ _ => does_trl_none, fun _ _ _ _ => does_trl_onward, fun _ _ => does_stackMsg_own,
    fun _ _ => does_stackMsg_part, fun _ _ _ => does_stackMsg_reply,
    fun s m h ws cv k x y a o n g hhere hbody hcv hon hopen hg hx hy hxw hyh hmod ho hn ha _ _ hend hmask hcalm =>
      does_sliceMsg_stored hhere hbody hcv hon hopen hg hx hy hxw hyh hmod ho hn ha hend hmask hcalm,
    fun _ _ _ _ _ => does_sliceMsg_none, fun s m h w ws cv b hhere hbody hcv hon hopen hw hfree hb hmask hcalm hout =>
      does_sliceMsg_claim hhere hbody hcv hon hopen hw hfree hb hmask hcalm hout,
    fun s m cv w0 q t0 t1 t2 w5 sig k x hhere hbody hcv hon hx hopen hseq hends hmask hcalm hsig =>
      does_sliceEnd_last hhere hbody hcv hon hx hopen hseq hends hmask hcalm hsig,
    fun s m cv w0 q t0 t1 t2 w5 k x hhere hbody hcv hon hx hopen hseq hends => does_sliceEnd_earlier hhere hbody hcv hon hx hopen hseq hends,
    fun s m cv w0 q p t0 t1 t2 w5 sig k x hhere hbody hcv hon hx hopen hseq hlt hmask hcalm hmany hsig hfree _ hfill =>
      does_sliceEnd_newer hhere hbody hcv hon hx hopen hseq hlt hmask hcalm hmany hsig hfree hfill,
    fun _ _ _ _ _ _ _ hhere hbody hcv h => does_sliceEnd_none hhere hbody hcv h, fun _ _ _ => does_forwardDone_stands, fun _ _ _ => does_forwardDone_gone, fun _ _ => does_forwardDone_idle,
    fun s a q v g ht hg horg hdorg hext hdest => does_sliceEnable_taken ht hg ⟨horg, hdorg, hext, hdest⟩,
    fun s a q v g ht hg hpart => does_sliceEnable_refused ht hg fun ⟨horg, hdorg, hext, hdest⟩ => ?_⟩
  obtain h | h | h | h := hpart
  · exact h horg
  · exact h hdorg
  · exact h hext
  · exact hdest h

end Sys2Proof.Machine

/-! SUPPORT. A Corridor message with a wrong CRC while a region is being received whose number is none of the four (spec/12 R365, R387). -/

namespace Sys2Proof.Machine

/-- A running module with lock on the Corridor's lanes that is receiving a region 0, which no BULK message begins (R387). -/
def regionZero : State := { chip := { pwr := { phase := .running }, cdr := { lock := true, bulkIn := some { region := 0, off := 0 } } } }

theorem regionZero_open : regionZero.chip.cdrOpen := by decide

/-- A message with a wrong CRC spoils the region being received, whichever it is. -/
theorem crcError_regionZero {t : State} (h : exec (.fwmsg [] false) regionZero = .next t) : t.chip.cdr.bulkLost = 1#5 := by
  cases h
  rfl

/-- Refutes O37: a message with a wrong CRC marks the region being received as lost, bit 0 for a region 0, while the statement marks
none for it (`spoiled 0`). The two differ where region 0 is being received, which no run from reset comes to. -/
theorem not_corridorMessages : ¬ Obligations.corridor_messages := by
  intro h
  obtain ⟨hcrc, -⟩ := h
  obtain ⟨t, ht, -, -, hrest, -⟩ := hcrc regionZero (.fwmsg [] false) rfl regionZero_open
  have hlost : t.chip.cdr.bulkLost = regionZero.chip.spoiled 0 := congrArg (fun r : Chip => r.cdr.bulkLost) hrest
  rw [crcError_regionZero ht] at hlost
  exact absurd hlost (by decide)

end Sys2Proof.Machine

/-! SUPPORT. What reading words of the Cellar leaves unchanged, and what a read finds (spec/05 R146..R153, R165..R170; spec/01 R31). -/

namespace Sys2Proof.Machine

section

variable {a c d : Chip} {m : Master} {who : CelReader} {n : Nat} {v : Word}

/-! ## The frame -/

/-- The module beside the Cellar's controller and the reports. -/
def readView (r : Chip) : Chip := { r with cel := {}, err := {} }

/-- The frame of an access that reads words of the Cellar, and of its end. -/
abbrev Chip.KeepsRead (c d : Chip) : Prop := c.Keeps readView celRegs celIrqs d

theorem Chip.Keeps.read_rest (h : c.KeepsRead d) : d.rest = { c.rest with cel := d.cel, err := d.err } := by
  have hview : d.rest = { readView d.rest with cel := d.cel, err := d.err } := rfl
  rw [hview, h.sameView]
  rfl

theorem Chip.Keeps.read_mem (h : c.KeepsRead d) : d.mem = c.mem := h.same Chip.mem fun _ => rfl

theorem Chip.Keeps.readLog (h : a.KeepsRead c) {src code : Nat} {x : Word} (hs : src ∈ [0x00, 0x06]) : a.KeepsRead (c.log src code x) := by
  have hregs : ∀ src ∈ [0x00, 0x06], ∀ n ∈ logRegs src, n ∈ celRegs := by decide
  exact Chip.Keeps.log h (fun _ _ => rfl) (hregs src hs) (by decide)

/-! ## The power state -/

theorem pstate_congr (h : d.rd rCEL_STATUS = c.rd rCEL_STATUS) : d.pstate = c.pstate := by
  simp only [Chip.pstate, Chip.rf, h]

theorem rCEL_STATUS_notLog (src : Nat) : rCEL_STATUS.addr 0 0 ∉ logRegs src := by
  simp [logRegs, RegRow.addr, rCEL_STATUS, rERR_LOST, rERR_STATUS]
  omega

@[simp] theorem pstate_log (c : Chip) (src code : Nat) (x : Word) : (c.log src code x).pstate = c.pstate :=
  pstate_congr (Chip.rd_log_other (rCEL_STATUS_notLog src))

@[simp] theorem pstate_irq (c : Chip) (k : Nat) : (c.irq k).pstate = c.pstate := pstate_congr (Chip.rd_irq ..)

theorem pstate_wr (c : Chip) {r : RegRow} {i j : Nat} (v : Word) (h : r.addr i j ≠ rCEL_STATUS.addr 0 0) : (c.wr r i j v).pstate = c.pstate :=
  pstate_congr (Chip.rd_wr_other c v h.symm)

/-- The bits of CEL_STATUS beside the power state. -/
theorem pstate_wb (c : Chip) {k : Nat} (b : Bool) (h : k < 3 ∨ 4 < k) : (c.wb rCEL_STATUS 0 0 k b).pstate = c.pstate := by
  rw [Chip.pstate, Chip.rf, Chip.wb, Chip.rd_wr_same, fld_setBit_other _ _ h]
  rfl

theorem pstate_wf (c : Chip) {p : Nat} (h : p < 4) : (c.wf rCEL_STATUS 0 0 4 3 p).pstate = p := by
  rw [Chip.pstate, Chip.rf, Chip.wf, Chip.rd_wr_same, fld_setFld_same _ _ (by omega)]
  exact Nat.mod_eq_of_lt h

theorem pstate_lt (c : Chip) : c.pstate < 4 := Nat.mod_lt _ (by decide)

/-! ## A read's effects -/

theorem countSec_keepsRead (c : Chip) (n : Nat) : c.KeepsRead (c.countSec n) := by
  have hsecond : ∀ x : CelSt, c.KeepsRead { c with cel := x } := fun _ => .of_eq .refl rfl rfl rfl
  have hcount : ∀ x : CelSt, c.KeepsRead ({ c with cel := x }.inc rCEL_CNT 0 0) := fun x => .wr (hsecond x) _ (by decide)
  exact .ite (.irq (.readLog (hcount _) (by decide)) (by decide)) (hcount _)

theorem poisonRead_keepsRead (c : Chip) (n : Nat) : c.KeepsRead (c.poisonRead n) :=
  .irq (.readLog (.wr .refl _ (by decide)) (by decide)) (by decide)

theorem queueWb_keepsRead (c : Chip) (n : Nat) (v : Word) (poison : Bool) : c.KeepsRead (c.queueWb n v poison) := .of_eq .refl rfl rfl rfl

theorem doubleError_keepsRead (c : Chip) (who : CelReader) (n : Nat) (v : Word) : c.KeepsRead (c.doubleError who n v) := by
  have hcount : c.KeepsRead ((c.inc rCEL_CNT 1 0).wb rCEL_STATUS 0 0 6 true) := .wr (.wr .refl _ (by decide)) _ (by decide)
  refine .trans (.irq (.readLog (.ite hcount (.wr (.wr hcount _ (by decide)) _ (by decide))) (by decide)) (by decide)) (queueWb_keepsRead ..)

theorem tolCheck_keepsRead (c : Chip) (m : Master) : c.KeepsRead (c.tolCheck m) :=
  .ite (.irq (.readLog (.wr .refl _ (by decide)) (by decide)) (by decide)) .refl

theorem celWake_keepsRead (c : Chip) : c.KeepsRead c.celWake := by
  have hres : ∀ k < 3, rCEL_RES.addr k 0 ∈ celRegs := by decide
  have hlt := pstate_lt c
  refine .ite .refl (Chip.Keeps.of_eq (c := (c.incSat rCEL_RES (c.pstate - 1) 0 ((c.now - c.cel.since) / 1000)).wf rCEL_STATUS 0 0 4 3 0) ?_ rfl rfl rfl)
  exact .wr (.wr .refl _ (hres _ (by omega))) _ (by decide)

theorem celDeny_keepsRead (c : Chip) (n : Nat) : c.KeepsRead (c.celDeny n) :=
  .irq (.readLog (.wr .refl _ (by decide)) (by decide)) (by decide)

theorem celPost_keepsRead (c : Chip) (n : Nat) : c.KeepsRead (c.celPost n) := by
  have hposted : c.KeepsRead { c with cel := { c.cel with posted := c.cel.posted + n } } := .of_eq .refl rfl rfl rfl
  exact .ite .refl (.ite (hposted.trans (celWake_keepsRead _)) hposted)

@[simp] theorem poisonRead_cel (c : Chip) (n : Nat) : (c.poisonRead n).cel = c.cel := by
  simp [Chip.poisonRead, Chip.inc]

@[simp] theorem tolCheck_cel (c : Chip) (m : Master) : (c.tolCheck m).cel = c.cel := by
  unfold Chip.tolCheck
  split
  · simp [Chip.inc]
  · rfl

/-- The controller once `t` has been noted as the second of a corrected error and `k` as its count there, and `l` has been queued. -/
def CelSt.noted (x : CelSt) (t k : Nat) (l : List WriteBack) : CelSt := { x with secAt := t, secCount := k, wb := x.wb ++ l }

/-- A corrected error counted, but for the report of a full second's count. -/
def Chip.secNoted (c : Chip) : Chip :=
  { c with cel := { c.cel with secAt := c.now / nsPerSec, secCount := if c.cel.secAt = c.now / nsPerSec then c.cel.secCount + 1 else 1 } }.inc rCEL_CNT 0 0

theorem countSec_cases (c : Chip) (n : Nat) :
    c.countSec n = (c.secNoted.log 0x06 0x70 (BitVec.ofNat 32 n)).irq 56 ∨ c.countSec n = c.secNoted := ite_eq_or_eq ..

theorem countSec_cel (c : Chip) (n : Nat) : (c.countSec n).cel = c.secNoted.cel := by
  obtain h | h := countSec_cases c n <;> rw [h]
  rw [Chip.irq_cel, Chip.log_cel]

@[simp] theorem pstate_countSec (c : Chip) (n : Nat) : (c.countSec n).pstate = c.pstate := by
  have hnoted : c.secNoted.pstate = c.pstate := pstate_wr { c with cel := _ } _ (by decide)
  obtain h | h := countSec_cases c n <;> rw [h]
  · rw [pstate_irq, pstate_log, hnoted]
  · exact hnoted

@[simp] theorem pstate_poisonRead (c : Chip) (n : Nat) : (c.poisonRead n).pstate = c.pstate := by
  rw [Chip.poisonRead, pstate_irq, pstate_log]
  exact pstate_wr c _ (by decide)

/-- A double error counted and shown, and recorded where none is (R150). -/
def Chip.doubleNoted (c : Chip) (who : CelReader) (n : Nat) : Chip :=
  let e := (c.inc rCEL_CNT 1 0).wb rCEL_STATUS 0 0 6 true
  if e.rb rECC_INFO 0 0 31 then e else
    (e.wr rECC_INFO 0 0 (BitVec.ofNat 32 (2 ^ 31 + b2n (who == .scrub) * 2 ^ 30 + e.readerId who * 2 ^ 20 + n / 256 % 2 * 2 ^ 19
      + ((e.ecc n).setWidth 7).toNat))).wr rECC_ADDR 0 0 (BitVec.ofNat 32 n)

theorem doubleError_eq (c : Chip) (who : CelReader) (n : Nat) (v : Word) :
    c.doubleError who n v = (((c.doubleNoted who n).log 0x06 0x71 (BitVec.ofNat 32 n)).irq 57).queueWb n v true := rfl

theorem doubleNoted_cel (c : Chip) (who : CelReader) (n : Nat) : (c.doubleNoted who n).cel = c.cel := by
  have hstatus : ((c.inc rCEL_CNT 1 0).wb rCEL_STATUS 0 0 6 true).cel = c.cel := by rw [Chip.wb, Chip.wr_cel, Chip.inc, Chip.wr_cel]
  unfold Chip.doubleNoted
  dsimp only
  split
  · exact hstatus
  · rw [Chip.wr_cel, Chip.wr_cel, hstatus]

theorem doubleNoted_pstate (c : Chip) (who : CelReader) (n : Nat) : (c.doubleNoted who n).pstate = c.pstate := by
  have hstatus : ((c.inc rCEL_CNT 1 0).wb rCEL_STATUS 0 0 6 true).pstate = c.pstate := by
    rw [pstate_wb _ _ (by decide)]
    exact pstate_wr c _ (by decide)
  unfold Chip.doubleNoted
  dsimp only
  split
  · exact hstatus
  · rw [pstate_wr _ _ (by decide), pstate_wr _ _ (by decide)]
    exact hstatus

theorem doubleError_cel (c : Chip) (who : CelReader) (n : Nat) (v : Word) :
    (c.doubleError who n v).cel = { c.cel with wb := c.cel.wb ++ [{ addr := n, data := v, poison := true }] } := by
  rw [doubleError_eq, Chip.queueWb, Chip.irq_cel, Chip.log_cel, doubleNoted_cel]

@[simp] theorem pstate_queueWb (c : Chip) (n : Nat) (v : Word) (poison : Bool) : (c.queueWb n v poison).pstate = c.pstate := .trans rfl rfl

@[simp] theorem pstate_doubleError (c : Chip) (who : CelReader) (n : Nat) (v : Word) : (c.doubleError who n v).pstate = c.pstate := by
  rw [doubleError_eq, pstate_queueWb, pstate_irq, pstate_log, doubleNoted_pstate]

/-! ## What a read finds -/

/-- The write-back that the word at `n` calls for: the corrected word, poisoned where it was, or a double error's word as poisoned (R149, R150). -/
def Chip.wbOf (c : Chip) (n : Nat) : Option WriteBack :=
  match cwDecode (c.word n) (c.ecc n) with
  | .corrected d p => some { addr := n, data := d, poison := p }
  | .double => some { addr := n, data := c.word n, poison := true }
  | _ => none

/-- A poisoned write-back waits for the word at `n`. -/
def Chip.poisonQueued (c : Chip) (n : Nat) : Bool := c.cel.wb.any fun w => w.addr = n && w.poison

/-- The reader takes what it finds wrong to be written back (R148, R149). -/
def Chip.fixes (c : Chip) (who : CelReader) : Bool := who == .scrub || c.rb rCEL_CTRL 0 0 3

/-- What a read of the word at `n` leaves: of the module what a read leaves, of the controller what it had beside the count of corrected
errors and the write-backs, which are those of this word; and the word is found as `celView` shows it. -/
structure Chip.Reads (who : CelReader) (n : Nat) (c : Chip) (x : Chip × Word × Bool) : Prop where
  keeps : c.KeepsRead x.1
  pstate : x.1.pstate = c.pstate
  cel : ∃ t k l, x.1.cel = c.cel.noted t k l ∧ (∀ w ∈ l, w.addr = n) ∧ (who = .scrub → c.poisonQueued n = false → l = (c.wbOf n).toList)
  found : c.celView n = if x.2.2 = true then none else some x.2.1

theorem CelSt.noted_nil (x : CelSt) : x.noted x.secAt x.secCount [] = x := by rw [CelSt.noted, List.append_nil]

theorem noted_nil_append (x : CelSt) (t k : Nat) (l : List WriteBack) : (x.noted t k []).noted t k l = x.noted t k l := by
  simp only [CelSt.noted, List.append_nil]

theorem countSec_noted (c : Chip) (n : Nat) : ∃ t k, (c.countSec n).cel = c.cel.noted t k [] :=
  ⟨c.now / nsPerSec, if c.cel.secAt = c.now / nsPerSec then c.cel.secCount + 1 else 1, by
    rw [countSec_cel, CelSt.noted, List.append_nil, Chip.secNoted, Chip.inc, Chip.wr_cel]⟩

/-- The word at `n` queued for its write-back where `b` holds, in `d`, which a read has left. -/
theorem queued_of_noted {b p : Bool} {t k : Nat} (hkeeps : c.KeepsRead d) (hstate : d.pstate = c.pstate) (hcel : d.cel = c.cel.noted t k []) :
    c.KeepsRead (if b = true then d.queueWb n v p else d) ∧ (if b = true then d.queueWb n v p else d).pstate = c.pstate
    ∧ (if b = true then d.queueWb n v p else d).cel = c.cel.noted t k (if b = true then [{ addr := n, data := v, poison := p }] else []) := by
  cases b with
  | true =>
    refine ⟨hkeeps.trans (queueWb_keepsRead ..), hstate, ?_⟩
    rw [if_pos rfl, if_pos rfl, Chip.queueWb, hcel]
    exact noted_nil_append ..
  | false => exact ⟨hkeeps, hstate, hcel⟩

theorem celRead_reads (c : Chip) (who : CelReader) (n : Nat) : c.Reads who n (c.celRead who n) := by
  obtain ⟨t, k, hnoted⟩ := countSec_noted c n
  cases hq : c.poisonQueued n with
  | true =>
    have hread : c.celRead who n = (c.poisonRead n, c.word n, true) := if_pos hq
    rw [hread]
    exact ⟨poisonRead_keepsRead c n, pstate_poisonRead c n, ⟨_, _, [], (poisonRead_cel c n).trans (CelSt.noted_nil _).symm, by simp,
      fun _ h => absurd (hq.symm.trans h) (by decide)⟩, if_pos hq⟩
  | false =>
    have hany : ¬ (c.cel.wb.any fun w => w.addr = n && w.poison) = true := fun h => absurd (hq.symm.trans h) (by decide)
    cases h : cwDecode (c.word n) (c.ecc n) with
    | clean =>
      have hread : c.celRead who n = (c, c.word n, false) := by rw [Chip.celRead, if_neg hany, h]
      have hview : c.celView n = some (c.word n) := by rw [Chip.celView, if_neg hany, h]
      rw [hread]
      exact ⟨.refl, rfl, ⟨_, _, [], (CelSt.noted_nil _).symm, by simp, fun _ _ => by rw [Chip.wbOf, h]; rfl⟩, hview⟩
    | corrected v p =>
      obtain ⟨e, hread, hkeeps, hstate, hcel⟩ : ∃ e : Chip, c.celRead who n = (if e.fixes who = true then e.queueWb n v p else e, v, p)
          ∧ c.KeepsRead e ∧ e.pstate = c.pstate ∧ e.cel = c.cel.noted t k [] := by
        rw [Chip.celRead, if_neg hany, h]
        cases p with
        | false => exact ⟨c.countSec n, rfl, countSec_keepsRead c n, pstate_countSec c n, hnoted⟩
        | true => exact ⟨(c.countSec n).poisonRead n, rfl, (countSec_keepsRead c n).trans (poisonRead_keepsRead _ n), by simp, by simp [hnoted]⟩
      have hview : c.celView n = if p = true then none else some v := by
        rw [Chip.celView, if_neg hany, h]
        cases p <;> rfl
      obtain ⟨hkeeps, hstate, hcel⟩ := queued_of_noted (b := e.fixes who) (p := p) (n := n) (v := v) hkeeps hstate hcel
      rw [hread]
      refine ⟨hkeeps, hstate, ⟨t, k, _, hcel, by split <;> simp, fun hwho _ => ?_⟩, hview⟩
      subst hwho
      rw [Chip.wbOf, h]
      rfl
    | poisoned =>
      have hread : c.celRead who n = (c.poisonRead n, c.word n, true) := by rw [Chip.celRead, if_neg hany, h]
      have hview : c.celView n = none := by rw [Chip.celView, if_neg hany, h]
      rw [hread]
      exact ⟨poisonRead_keepsRead c n, pstate_poisonRead c n, ⟨_, _, [], (poisonRead_cel c n).trans (CelSt.noted_nil _).symm, by simp,
        fun _ _ => by rw [Chip.wbOf, h]; rfl⟩, hview⟩
    | double =>
      have hread : c.celRead who n = (c.doubleError who n (c.word n), c.word n, true) := by rw [Chip.celRead, if_neg hany, h]
      have hview : c.celView n = none := by rw [Chip.celView, if_neg hany, h]
      rw [hread]
      exact ⟨doubleError_keepsRead .., pstate_doubleError .., ⟨_, _, [_], doubleError_cel .., by simp, fun _ _ => by rw [Chip.wbOf, h]; rfl⟩, hview⟩

/-! ## A client's read (R154, R165..R170) -/

theorem celView_congr (hmem : d.mem = c.mem) (hwb : d.cel.wb = c.cel.wb) (hecc : d.cel.ecc = c.cel.ecc) (n : Nat) : d.celView n = c.celView n := by
  simp only [Chip.celView, Chip.word, Chip.byte, Chip.ecc, hmem, hwb, hecc]

theorem celWake_cel (c : Chip) : c.celWake.cel = if c.pstate = 0 then c.cel else { c.cel with posted := 0 } := by
  unfold Chip.celWake
  dsimp only
  split
  · rfl
  · rw [Chip.wf, Chip.wr_cel, Chip.incSat, Chip.wr_cel]

@[simp] theorem pstate_celWake (c : Chip) : c.celWake.pstate = 0 := by
  unfold Chip.celWake
  dsimp only
  split
  · assumption
  · exact pstate_wf (c.incSat rCEL_RES (c.pstate - 1) 0 ((c.now - c.cel.since) / 1000)) (by decide)

/-- The module as a client's read of the Cellar comes to the word: awake. -/
def Chip.woken (c : Chip) (m : Master) : Chip := (c.tolCheck m).celWake

theorem woken_keepsRead (c : Chip) (m : Master) : c.KeepsRead (c.woken m) := (tolCheck_keepsRead c m).trans (celWake_keepsRead _)

theorem woken_cel (c : Chip) (m : Master) : ∃ k, (c.woken m).cel = { c.cel with posted := k } := by
  rw [Chip.woken, celWake_cel, tolCheck_cel]
  split
  · exact ⟨c.cel.posted, rfl⟩
  · exact ⟨0, rfl⟩

theorem woken_celView (c : Chip) (m : Master) (n : Nat) : (c.woken m).celView n = c.celView n := by
  obtain ⟨k, hk⟩ := woken_cel c m
  exact celView_congr (woken_keepsRead c m).read_mem (by rw [hk]) (by rw [hk]) n

/-- What a client's read or compare-and-swap of the word at `n` comes to: the module `e` it leaves, which has read the word, and what
it has found. -/
theorem woken_reads (c : Chip) (m : Master) (n : Nat) : ∃ e w bad, (c.woken m).celRead (.master m) n = (e, w, bad) ∧ c.KeepsRead e ∧ e.pstate = 0
    ∧ c.celView n = (if bad = true then none else some w) := by
  have hreads := celRead_reads (c.woken m) (.master m) n
  generalize (c.woken m).celRead (.master m) n = x at hreads ⊢
  obtain ⟨e, w, bad⟩ := x
  obtain ⟨hkeeps, hstate, -, hfound⟩ := hreads
  rw [woken_celView] at hfound
  exact ⟨e, w, bad, rfl, (woken_keepsRead c m).trans hkeeps, hstate.trans (pstate_celWake _), hfound⟩

end

end Sys2Proof.Machine

/-! SUPPORT. How an access to the Cellar ends for its master, and what a client's read and compare-and-swap come to (spec/05 R147, R152..R157, R165..R170;
spec/01 R31). -/

namespace Sys2Proof.Machine

section

variable {a : Access} {c d e : Chip} {m : Master} {secure write : Bool} {n cause src k code : Nat} {v addr expect new : Word} {r : CelRes}

/-! ## An access's end -/

/-- A report of one source leaves the queue of every other. -/
theorem queue_log_other (h : k ≠ src) : mget [] (c.log src code v).err.queues k = mget [] c.err.queues k := by
  unfold Chip.log
  dsimp only
  split
  · rfl
  · split
    · split
      · rw [Chip.irq_err, Chip.wb, Chip.wr_err, Chip.inc, Chip.wr_err]
      · rw [Chip.wb, Chip.wr_err, Chip.inc, Chip.wr_err]
    · exact mget_mset_other _ _ _ _ h

/-- The registers a bus error can change. -/
def busRegs : List Nat := rBUSERR_INFO.addr 0 0 :: rBUSERR_ADDR.addr 0 0 :: logRegs 0x00

/-- The module beside the reports, and those of the Cellar. -/
def busView (r : Chip) : Chip × List Rep := ({ r with err := {} }, mget [] r.err.queues 0x06)

/-- The frame of the end of an access to the Cellar. -/
abbrev Chip.KeepsBus (c d : Chip) : Prop := c.Keeps busView busRegs [1, 209] d

theorem Chip.Keeps.ofBus (h : c.KeepsBus d) : c.KeepsRead d :=
  (h.mono (by decide) (by decide)).view (fun x => readView x.1) fun _ => rfl

theorem Chip.Keeps.bus_rest (h : c.KeepsBus d) : d.rest = { c.rest with err := d.err } := by
  have hview : d.rest = { (busView d.rest).1 with err := d.err } := rfl
  rw [hview, h.sameView]
  rfl

theorem Chip.Keeps.bus_pstate (h : c.KeepsBus d) : d.pstate = c.pstate := pstate_congr (h.rd (by decide))

/-- What has been reported of the Cellar still stands once the access has ended. -/
theorem Chip.Keeps.bus_reports (h : c.KeepsBus d) (hr : Reports 0x06 code e c) : Reports 0x06 code e d := by
  have hqueue : mget [] d.err.queues 0x06 = mget [] c.err.queues 0x06 := congrArg Prod.snd h.sameView
  intro hen hroom
  obtain ⟨x, hcode, hx⟩ := hr hen hroom
  exact ⟨x, hcode, hqueue.trans hx⟩

theorem busErr_queue (h : k ≠ 0x00) : mget [] (c.busErr m secure write addr cause).err.queues k = mget [] c.err.queues k := by
  cases hvalid : c.rb rBUSERR_INFO 0 0 31 with
  | true =>
    rw [busErr_of_valid hvalid, Chip.irq_err, queue_log_other h, Chip.wb, Chip.wr_err]
    rfl
  | false =>
    rw [busErr_of_not_valid hvalid, Chip.irq_err, queue_log_other h, Chip.wr_err, Chip.wr_err]
    rfl

theorem busErr_fails (c : Chip) (m : Master) (secure write : Bool) (addr : Word) (cause : Nat) :
    (c.busErr m secure write addr cause).rsp = { val := 0, err := true } ∧ (c.busErr m secure write addr cause).irqs.getLsbD 1 = true
    ∧ c.KeepsBus (c.busErr m secure write addr cause) := by
  cases h : c.rb rBUSERR_INFO 0 0 31 with
  | true =>
    obtain ⟨-, -, hirq, -, hrsp, hrest, hregs, hirqs⟩ := busErr_overruns (m := m) (sec := secure) (wr := write) (addr := addr) (cause := cause) h rfl
    refine ⟨hrsp, hirq, hregs.mono (by decide), hirqs, ?_⟩
    rw [hrest]
    exact Prod.ext rfl (busErr_queue (by decide))
  | false =>
    obtain ⟨-, -, -, -, -, -, -, hirq, -, hrsp, hrest, hregs, hirqs⟩ :=
      busErr_recorded (m := m) (sec := secure) (wr := write) (addr := addr) (cause := cause) h rfl
    refine ⟨hrsp, hirq, hregs, hirqs, ?_⟩
    rw [hrest]
    exact Prod.ext rfl (busErr_queue (by decide))

theorem busErr_keepsBus (c : Chip) (m : Master) (secure write : Bool) (addr : Word) (cause : Nat) :
    c.KeepsBus (c.busErr m secure write addr cause) := (busErr_fails ..).2.2

theorem celEnd_keepsBus (c : Chip) (a : Access) (write : Bool) (addr v : Word) (r : CelRes) : c.KeepsBus (c.celEnd a write addr v r) := by
  have hanswer : ∀ x : Rsp, c.KeepsBus { c with rsp := x } := fun _ => .of_eq .refl rfl rfl rfl
  cases r with
  | ok => exact hanswer _
  | poison | denied => exact .ite (busErr_keepsBus ..) (hanswer _)
  | down => exact busErr_keepsBus ..

/-- An access that does not end well is answered with an error, which a processor finds as interrupt 1. -/
theorem celEnd_fails (c : Chip) (a : Access) (write : Bool) (addr v : Word) (hr : r ≠ .ok) :
    (c.celEnd a write addr v r).rsp = { val := 0, err := true } ∧ (sysProc a.master = true → (c.celEnd a write addr v r).irqs.getLsbD 1 = true) := by
  have herror : ∀ cause, (c.busErr a.master (c.worldS a) write addr cause).rsp = { val := 0, err := true }
      ∧ (sysProc a.master = true → (c.busErr a.master (c.worldS a) write addr cause).irqs.getLsbD 1 = true) := fun cause =>
    have hfails := busErr_fails c a.master (c.worldS a) write addr cause
    ⟨hfails.1, fun _ => hfails.2.1⟩
  have hplain : ∀ (p : Bool) (cause : Nat), (sysProc a.master = true → p = true) →
      (if p = true then c.busErr a.master (c.worldS a) write addr cause else { c with rsp := { val := 0, err := true } }).rsp = { val := 0, err := true }
      ∧ (sysProc a.master = true →
        (if p = true then c.busErr a.master (c.worldS a) write addr cause else { c with rsp := { val := 0, err := true } }).irqs.getLsbD 1 = true) := by
    intro p cause hp
    cases p with
    | true => exact herror cause
    | false => exact ⟨rfl, fun h => absurd (hp h) (by decide)⟩
  cases r with
  | ok => exact absurd rfl hr
  | poison => exact hplain _ 2 fun h => by rw [h]; rfl
  | denied => exact hplain _ 1 fun h => by rw [h]; rfl
  | down => exact herror 3

theorem celEnd_down (c : Chip) (a : Access) (write : Bool) (addr v : Word) : (c.celEnd a write addr v .down).irqs.getLsbD 1 = true :=
  (busErr_fails ..).2.1

/-! ## A client's read (R147, R152, R154) -/

theorem celClientRead_down (h : c.celUp = false) : c.celClientRead m secure n = (c, 0, .down) := if_pos (by rw [h]; rfl)

theorem celClientRead_denied (hup : c.celUp = true) (h : celMayRead m secure n = false) : c.celClientRead m secure n = (c.celDeny n, 0, .denied) :=
  (if_neg (by rw [hup]; decide)).trans (if_pos (by rw [h]; rfl))

theorem celClientRead_some (hup : c.celUp = true) (hmay : celMayRead m secure n = true) (hv : c.celView n = some v) :
    ∃ d, c.celClientRead m secure n = (d, v, .ok) ∧ c.KeepsRead d ∧ d.pstate = 0 := by
  obtain ⟨e, w, bad, hread, hkeeps, hstate, hview⟩ := woken_reads c m n
  cases bad with
  | true => exact absurd (hv.symm.trans hview) (by simp)
  | false =>
    obtain rfl : v = w := Option.some.inj (hv.symm.trans hview)
    refine ⟨e, ?_, hkeeps, hstate⟩
    rw [Chip.celClientRead, if_neg (by rw [hup]; decide), if_neg (by rw [hmay]; decide), ← Chip.woken, hread]
    rfl

theorem celClientRead_none (hup : c.celUp = true) (hmay : celMayRead m secure n = true) (hv : c.celView n = none) :
    ∃ d, c.celClientRead m secure n = (d, 0, .poison) ∧ c.KeepsRead d ∧ d.pstate = 0 := by
  obtain ⟨e, w, bad, hread, hkeeps, hstate, hview⟩ := woken_reads c m n
  cases bad with
  | false => exact absurd (hv.symm.trans hview) (by simp)
  | true =>
    refine ⟨e, ?_, hkeeps, hstate⟩
    rw [Chip.celClientRead, if_neg (by rw [hup]; decide), if_neg (by rw [hmay]; decide), ← Chip.woken, hread]
    rfl

/-! ## A compare-and-swap (R157) -/

theorem celSwap_down (h : c.celUp = false) : c.celSwap m secure n expect new = (c, 0, .down) := if_pos (by rw [h]; rfl)

theorem celSwap_denied (hup : c.celUp = true) (h : c.celMayWrite m secure n = false) :
    c.celSwap m secure n expect new = (c.celDeny n, 0, .denied) :=
  (if_neg (by rw [hup]; decide)).trans (if_pos (by rw [h]; rfl))

theorem celSwap_some (hup : c.celUp = true) (hmay : c.celMayWrite m secure n = true) (hv : c.celView n = some v) :
    ∃ d, c.celSwap m secure n expect new = (if v = expect then d.celStore secure n new else d, v, .ok) ∧ c.KeepsRead d ∧ d.pstate = 0 := by
  obtain ⟨e, w, bad, hread, hkeeps, hstate, hview⟩ := woken_reads c m n
  cases bad with
  | true => exact absurd (hv.symm.trans hview) (by simp)
  | false =>
    obtain rfl : v = w := Option.some.inj (hv.symm.trans hview)
    refine ⟨e, ?_, hkeeps, hstate⟩
    rw [Chip.celSwap, if_neg (by rw [hup]; decide), if_neg (by rw [hmay]; decide), ← Chip.woken, hread]
    rfl

theorem celSwap_none (hup : c.celUp = true) (hmay : c.celMayWrite m secure n = true) (hv : c.celView n = none) :
    ∃ d, c.celSwap m secure n expect new = (d, 0, .poison) ∧ c.KeepsRead d ∧ d.pstate = 0 := by
  obtain ⟨e, w, bad, hread, hkeeps, hstate, hview⟩ := woken_reads c m n
  cases bad with
  | false => exact absurd (hv.symm.trans hview) (by simp)
  | true =>
    refine ⟨e, ?_, hkeeps, hstate⟩
    rw [Chip.celSwap, if_neg (by rw [hup]; decide), if_neg (by rw [hmay]; decide), ← Chip.woken, hread]
    rfl

end

end Sys2Proof.Machine

/-! SUPPORT. What a write of bytes stores in the Cellar, in any power state and at any place (spec/05 R149, R153..R155). -/

namespace Sys2Proof.Machine

section

variable {c d e : Chip} {m : Master} {secure : Bool} {n o k w : Nat} {v : Word} {l x : List Byte} {r : CelRes}

/-! ## Regions (R154, R155) -/

/-- A region holds whole words. -/
theorem celRegion_word (n : Nat) : celRegion (n / 4 * 4) = celRegion n := by
  have hbound : ∀ b, b % 4 = 0 → (n / 4 * 4 < b) = (n < b) := fun b hb => propext (by omega)
  simp (disch := decide) only [celRegion, hbound]

theorem celMayWrite_word (c : Chip) (m : Master) (secure : Bool) (n : Nat) : c.celMayWrite m secure (n / 4 * 4) = c.celMayWrite m secure n := by
  rw [Chip.celMayWrite, Chip.celMayWrite, celRegion_word]

/-! ## The frame -/

/-- The module beside memory, the Cellar's controller and the reports. -/
def writeView (r : Chip) : Chip := { r with mem := [], cel := {}, err := {} }

/-- The registers that a write to the Cellar can change. -/
def writeRegs : List Nat := rCEL_CNT.addr 6 0 :: rECC_INJ.addr 0 0 :: celRegs

/-- The frame of a write to the Cellar. -/
abbrev Chip.KeepsWrite (c d : Chip) : Prop := c.Keeps writeView writeRegs celIrqs d

theorem Chip.Keeps.ofRead (h : c.KeepsRead d) : c.KeepsWrite d :=
  (h.mono (fun _ hn => List.mem_cons_of_mem _ (List.mem_cons_of_mem _ hn)) fun _ hn => hn).view (fun r => { r with mem := [] }) fun _ => rfl

theorem Chip.Keeps.write_rest (h : c.KeepsWrite d) : d.rest = { c.rest with mem := d.mem, cel := d.cel, err := d.err } := by
  have hview : d.rest = { writeView d.rest with mem := d.mem, cel := d.cel, err := d.err } := rfl
  rw [hview, h.sameView]
  rfl

theorem celRegion_le (n : Nat) : celRegion n ≤ 9 := by
  unfold celRegion
  repeat' split
  all_goals decide

/-- The masks of the regions stand. -/
theorem celMayWrite_congr (h : c.KeepsWrite d) (m : Master) (secure : Bool) (n : Nat) : d.celMayWrite m secure n = c.celMayWrite m secure n := by
  have hmask : ∀ r ≤ 9, rRGN_WMASK.addr r 0 ∉ writeRegs := by decide
  simp only [Chip.celMayWrite, Chip.rb, h.rd (hmask _ (celRegion_le n))]

/-! ## Bytes stored in whole codewords -/

/-- Bytes `l` stored from `n` on, in the words that hold them: they read back, the bytes and the words beyond those words are as they
were. -/
structure Chip.Stored (n : Nat) (l : List Byte) (c d : Chip) : Prop where
  keeps : c.KeepsWrite d
  pstate : d.pstate = c.pstate
  inside : ∀ k < l.length, d.byte (n + k) = l.getD k 0
  outside : ∀ k, ¬ (n / 4 * 4 ≤ k ∧ k < (n + l.length + 3) / 4 * 4) → d.byte k = c.byte k
  view : ∀ w, w % 4 = 0 → ¬ (n / 4 * 4 ≤ w ∧ w < (n + l.length + 3) / 4 * 4) → d.celView w = c.celView w

theorem Chip.Stored.nil (c : Chip) (n : Nat) : Chip.Stored n [] c c := ⟨.refl, rfl, by simp, fun _ _ => rfl, fun _ _ _ => rfl⟩

theorem Chip.Stored.append (h : Chip.Stored n l c d) (g : Chip.Stored (n + l.length) x d e) (hn : (n + l.length) % 4 = 0) :
    Chip.Stored n (l ++ x) c e := by
  refine ⟨h.keeps.trans g.keeps, g.pstate.trans h.pstate, fun k hk => ?_, fun k hk => ?_, fun w hw hk => ?_⟩
  · rw [List.length_append] at hk
    by_cases hkl : k < l.length
    · rw [g.outside _ (by omega), h.inside k hkl, List.getD_append _ _ _ _ hkl]
    · have hbyte := g.inside (k - l.length) (by omega)
      rwa [show n + l.length + (k - l.length) = n + k by omega, ← List.getD_append_right _ _ _ _ (by omega)] at hbyte
  all_goals rw [List.length_append] at hk
  · rw [g.outside k (by omega), h.outside k (by omega)]
  · rw [g.view w hw (by omega), h.view w hw (by omega)]

/-- The bytes stored read back. -/
theorem Chip.Stored.bytes (h : Chip.Stored n l c d) : d.bytes n l.length = l := by
  refine List.ext_getElem (length_bytes ..) fun i hi hil => ?_
  rw [← List.getD_eq_getElem (d := 0), getD_bytes d hil, h.inside i hil, List.getD_eq_getElem]

/-! ## One word -/

theorem cancelWb_wb (c : Chip) (n : Nat) : (c.cancelWb n).cel.wb = c.cel.wb.filter fun w => w.addr ≠ n := by
  unfold Chip.cancelWb
  dsimp only
  split
  · next h =>
    rw [List.length_eq_zero_iff, List.filter_eq_nil_iff] at h
    refine (List.filter_eq_self.mpr fun w hw => ?_).symm
    simpa using h w hw
  · rfl

theorem cancelWb_mem (c : Chip) (n : Nat) : (c.cancelWb n).mem = c.mem := by
  unfold Chip.cancelWb
  dsimp only
  split <;> rfl

theorem cancelWb_ecc (c : Chip) (n : Nat) : (c.cancelWb n).cel.ecc = c.cel.ecc := by
  unfold Chip.cancelWb
  dsimp only
  split <;> rfl

theorem cancelWb_pstate (c : Chip) (n : Nat) : (c.cancelWb n).pstate = c.pstate := by
  unfold Chip.cancelWb
  dsimp only
  split
  · rfl
  · exact pstate_wr c _ (by decide)

theorem cancelWb_keepsWrite (c : Chip) (n : Nat) : c.KeepsWrite (c.cancelWb n) :=
  .ite .refl (Chip.Keeps.of_eq (.wr (r := rCEL_CNT) (i := 6) (j := 0) .refl _ (by decide)) rfl rfl rfl)

theorem setBytes_keepsWrite (l : List Byte) (c : Chip) (n : Nat) : c.KeepsWrite (c.setBytes n l) := by
  rw [Chip.setBytes_eq]
  exact .of_eq .refl rfl rfl rfl

theorem setEcc_keepsWrite (c : Chip) (n : Nat) (e : BitVec 8) : c.KeepsWrite (c.setEcc n e) := .of_eq .refl rfl rfl rfl

/-- What a word stored leaves of the controller: its codeword's deviation, and none of the word's write-backs. -/
theorem celStore_cel (c : Chip) (secure : Bool) (n : Nat) (v : Word) :
    ∃ e, (c.celStore secure n v).cel = { (c.cancelWb n).cel with ecc := mset 0 c.cel.ecc (n / 4) e } := by
  have hword : ((c.cancelWb n).setWord n v).cel = (c.cancelWb n).cel := setWord_cel ..
  rw [← cancelWb_ecc c n]
  unfold Chip.celStore
  dsimp only
  split
  · exact ⟨((((c.cancelWb n).setWord n v).rd rECC_INJ).setWidth 8), by rw [Chip.wb, Chip.wr_cel, Chip.setEcc, hword]⟩
  · exact ⟨0, by rw [Chip.setEcc, hword]⟩

theorem celStore_mem (c : Chip) (secure : Bool) (n : Nat) (v : Word) : (c.celStore secure n v).mem = ((c.cancelWb n).setWord n v).mem := by
  unfold Chip.celStore
  dsimp only
  split
  · rw [Chip.wb, Chip.wr_mem, Chip.setEcc]
  · rfl

theorem celStore_keepsWrite (c : Chip) (secure : Bool) (n : Nat) (v : Word) : c.KeepsWrite (c.celStore secure n v) := by
  have hword : c.KeepsWrite ((c.cancelWb n).setWord n v) := (cancelWb_keepsWrite c n).trans (setBytes_keepsWrite ..)
  exact .ite (.wr (hword.trans (setEcc_keepsWrite ..)) _ (by decide)) (hword.trans (setEcc_keepsWrite ..))

theorem celStore_pstate (c : Chip) (secure : Bool) (n : Nat) (v : Word) : (c.celStore secure n v).pstate = c.pstate := by
  have hword : ∀ e, (((c.cancelWb n).setWord n v).setEcc n e).pstate = c.pstate := fun e => by
    rw [← cancelWb_pstate c n]
    exact pstate_congr (by rw [Chip.setWord, Chip.setBytes_eq]; rfl)
  unfold Chip.celStore
  dsimp only
  split
  · rw [Chip.wb, pstate_wr _ _ (by decide), hword]
  · exact hword 0

theorem celStore_byte (c : Chip) (secure : Bool) (n : Nat) (v : Word) (k : Nat) : (c.celStore secure n v).byte k = (c.setBytes n (wordBytes v)).byte k := by
  rw [Chip.byte, celStore_mem, Chip.setWord]
  change ((c.cancelWb n).setBytes n (wordBytes v)).byte k = _
  rw [Chip.byte_setBytes, Chip.byte_setBytes, Chip.byte, Chip.byte, cancelWb_mem]

theorem celStore_word (c : Chip) (secure : Bool) (n : Nat) (v : Word) : (c.celStore secure n v).word n = v :=
  (word_congr_bytes fun k _ _ => celStore_byte c secure n v k).trans (word_setBytes_wordBytes ..)

theorem celView_of_same (hword : d.word n = c.word n) (hecc : d.ecc n = c.ecc n) (hq : d.poisonQueued n = c.poisonQueued n) :
    d.celView n = c.celView n := by
  unfold Chip.poisonQueued at hq
  simp only [Chip.celView, hword, hecc, hq]

/-- A word stored leaves what a read of another finds. -/
theorem celStore_view (c : Chip) (secure : Bool) (v : Word) (hn : n % 4 = 0) (hw : w % 4 = 0) (hne : w ≠ n) :
    (c.celStore secure n v).celView w = c.celView w := by
  obtain ⟨e, hcel⟩ := celStore_cel c secure n v
  refine celView_of_same ?_ ?_ ?_
  · refine word_congr_bytes fun k hk hlt => ?_
    rw [celStore_byte, Chip.byte_setBytes_other]
    simp only [wordBytes, List.length_cons, List.length_nil]
    omega
  · rw [Chip.ecc, hcel, Chip.ecc]
    exact mget_mset_other _ _ _ _ (by omega)
  · rw [Chip.poisonQueued, hcel, Chip.poisonQueued]
    change List.any (c.cancelWb n).cel.wb _ = _
    rw [cancelWb_wb, List.any_filter]
    refine congrArg (List.any c.cel.wb) (funext fun x => ?_)
    by_cases hx : x.addr = w
    · simp [hx, hne]
    · simp [hx]

/-- A whole word stored. -/
theorem celStore_stored (c : Chip) (secure : Bool) (v : Word) (hn : n % 4 = 0) : Chip.Stored n (wordBytes v) c (c.celStore secure n v) := by
  have hlen : (wordBytes v).length = 4 := rfl
  refine ⟨celStore_keepsWrite .., celStore_pstate .., fun k hk => ?_, fun k hk => ?_, fun w hw hk => celStore_view c secure v hn hw (by omega)⟩
  · rw [celStore_byte, Chip.byte_setBytes_same _ _ _ _ hk, List.getD_eq_getElem]
  · rw [celStore_byte, Chip.byte_setBytes_other _ _ _ _ (by omega)]

/-- A word read leaves what a read of another finds. -/
theorem reads_view {who : CelReader} {x : Chip × Word × Bool} (h : c.Reads who n x) (hne : w ≠ n) : x.1.celView w = c.celView w := by
  obtain ⟨t, k, q, hcel, hq, -⟩ := h.cel
  refine celView_of_same (word_congr_mem h.keeps.read_mem w) (by rw [Chip.ecc, hcel]; rfl) ?_
  have hnone : (q.any fun x => x.addr = w && x.poison) = false := by
    rw [List.any_eq_false]
    intro y hy
    simp [hq y hy, Ne.symm hne]
  rw [Chip.poisonQueued, hcel, CelSt.noted, List.any_append, hnone, Bool.or_false, Chip.poisonQueued]

/-- Some bytes of four replaced. -/
theorem length_overlay {y : List Byte} (hy : y.length = 4) (ho : o + l.length ≤ 4) : (y.take o ++ l ++ y.drop (o + l.length)).length = 4 := by
  simp only [List.length_append, List.length_take, List.length_drop, hy]
  omega

theorem getD_overlay {y : List Byte} (hy : y.length = 4) (ho : o + l.length ≤ 4) (hk : k < l.length) :
    (y.take o ++ l ++ y.drop (o + l.length)).getD (o + k) 0 = l.getD k 0 := by
  have hlen : (y.take o).length = o := by rw [List.length_take, hy]; omega
  rw [List.append_assoc, List.getD_append_right _ _ _ _ (by omega), hlen, Nat.add_sub_cancel_left, List.getD_append _ _ _ _ hk]

/-- A read-modify-write of a word that is not poisoned stores its bytes. -/
theorem celNarrow_stored (hn : n % 4 = 0) (hl : l ≠ []) (ho : o + l.length ≤ 4) (hv : c.celView n ≠ none) :
    ∃ d, c.celNarrow m secure n o l = (d, false) ∧ Chip.Stored (n + o) l c d := by
  have hpos : 0 < l.length := List.length_pos_iff.mpr hl
  have hreads := celRead_reads c (.master m) n
  unfold Chip.celNarrow
  generalize c.celRead (.master m) n = x at hreads ⊢
  obtain ⟨e, v, bad⟩ := x
  have hfound := hreads.found
  cases bad with
  | true => exact absurd hfound hv
  | false =>
    have hlen := length_overlay (y := wordBytes v) (o := o) rfl ho
    have hstore := celStore_stored e secure (BitVec.ofNat 32 (leNat ((wordBytes v).take o ++ l ++ (wordBytes v).drop (o + l.length)))) hn
    rw [wordBytes_leNat hlen] at hstore
    refine ⟨_, rfl, hreads.keeps.ofRead.trans hstore.keeps, hstore.pstate.trans hreads.pstate, fun k hk => ?_, fun k hk => ?_, fun w hw hk => ?_⟩
    · rw [Nat.add_assoc, hstore.inside _ (by omega), getD_overlay rfl ho hk]
    · rw [hstore.outside k (by omega), byte_congr hreads.keeps.read_mem]
    · rw [hstore.view w hw (by omega), reads_view hreads (by omega)]

/-- A read-modify-write of a poisoned word stores nothing. -/
theorem celNarrow_poisoned (hv : c.celView n = none) : ∃ d, c.celNarrow m secure n o l = (d, true) ∧ c.KeepsRead d ∧ d.pstate = c.pstate := by
  have hreads := celRead_reads c (.master m) n
  unfold Chip.celNarrow
  generalize c.celRead (.master m) n = x at hreads ⊢
  obtain ⟨e, v, bad⟩ := x
  have hfound := hv.symm.trans hreads.found
  cases bad with
  | true => exact ⟨e, rfl, hreads.keeps, hreads.pstate⟩
  | false => exact absurd hfound (by simp)

/-! ## Word by word -/

/-- A write up to the end of the first word. -/
theorem celWriteLoop_first (hl : l ≠ []) (hmay : c.celMayWrite m secure n = true) (hv : (n % 4 = 0 ∧ 4 ≤ l.length) ∨ c.celView (n / 4 * 4) ≠ none) :
    ∃ d, Chip.Stored n (l.take (4 - n % 4)) c d
      ∧ c.celWriteLoop m secure (k + 1) n l .ok = d.celWriteLoop m secure k (n - n % 4 + 4) (l.drop (4 - n % 4)) .ok := by
  have hpos : 0 < l.length := List.length_pos_iff.mpr hl
  have htake : l.take (min (4 - n % 4) l.length) = l.take (4 - n % 4) := by rw [List.take_eq_take_iff]; omega
  have hdrop : l.drop (min (4 - n % 4) l.length) = l.drop (4 - n % 4) := by
    by_cases h : 4 - n % 4 ≤ l.length
    · rw [Nat.min_eq_left h]
    · rw [Nat.min_eq_right (by omega), List.drop_length, List.drop_of_length_le (by omega)]
  have hbase : n - n % 4 = n / 4 * 4 := by omega
  rw [Chip.celWriteLoop.eq_3 _ _ _ _ _ _ _ hl]
  dsimp only
  rw [hbase, celMayWrite_word, hmay, htake, hdrop]
  by_cases hword : min (4 - n % 4) l.length = 4
  · have hn : n % 4 = 0 := by omega
    have hlen : (slice l 0 4).length = 4 := by simp only [slice, List.drop_zero, List.length_take]; omega
    have hstore := celStore_stored c secure (leWordAt l 0) hn
    rw [leWordAt, wordBytes_leNat hlen] at hstore
    refine ⟨_, by rw [hn]; exact hstore, ?_⟩
    rw [if_pos hword, hn, show n / 4 * 4 = n by omega]
    rfl
  · have hx : n % 4 + (l.take (4 - n % 4)).length ≤ 4 := by rw [List.length_take]; omega
    have hne : l.take (4 - n % 4) ≠ [] := by rw [← List.length_pos_iff, List.length_take]; omega
    obtain ⟨d, hd, hstore⟩ := celNarrow_stored (m := m) (secure := secure) (n := n / 4 * 4) (by omega) hne hx (hv.resolve_left (by omega))
    rw [if_neg hword, hd]
    refine ⟨d, ?_, rfl⟩
    rwa [show n / 4 * 4 + n % 4 = n by omega] at hstore

/-- A write that the regions permit, where the words it holds in part are not poisoned. -/
theorem celWriteLoop_stored (k : Nat) (hk : l.length ≤ k) (hmay : ∀ i < l.length, c.celMayWrite m secure (n + i) = true)
    (hhead : n % 4 = 0 ∨ c.celView (n / 4 * 4) ≠ none) (htail : (n + l.length) % 4 = 0 ∨ c.celView ((n + l.length) / 4 * 4) ≠ none) :
    ∃ d, c.celWriteLoop m secure k n l .ok = (d, .ok) ∧ Chip.Stored n l c d := by
  induction k generalizing c n l with
  | zero =>
    obtain rfl : l = [] := List.eq_nil_of_length_eq_zero (by omega)
    exact ⟨c, rfl, .nil c n⟩
  | succ k ih =>
    by_cases hl : l = []
    · subst hl
      exact ⟨c, rfl, .nil c n⟩
    · have hpos : 0 < l.length := List.length_pos_iff.mpr hl
      have hpart : (n % 4 = 0 ∧ 4 ≤ l.length) ∨ c.celView (n / 4 * 4) ≠ none := by
        by_cases hn : n % 4 = 0
        · by_cases hlen : 4 ≤ l.length
          · exact .inl ⟨hn, hlen⟩
          · refine .inr ?_
            rw [show n / 4 * 4 = (n + l.length) / 4 * 4 by omega]
            exact htail.resolve_left (by omega)
        · exact .inr (hhead.resolve_left hn)
      obtain ⟨d, hfirst, hloop⟩ := celWriteLoop_first (n := n) (k := k) hl (hmay 0 hpos) hpart
      by_cases hlast : l.length ≤ 4 - n % 4
      · rw [List.take_of_length_le hlast] at hfirst
        rw [List.drop_of_length_le hlast] at hloop
        refine ⟨d, hloop.trans ?_, hfirst⟩
        cases k <;> rfl
      · have hdone : (l.take (4 - n % 4)).length = 4 - n % 4 := by rw [List.length_take]; omega
        have hleft : (l.drop (4 - n % 4)).length = l.length - (4 - n % 4) := List.length_drop
        have hend : n - n % 4 + 4 + (l.drop (4 - n % 4)).length = n + l.length := by omega
        obtain ⟨e, he, hrest⟩ := ih (c := d) (n := n - n % 4 + 4) (l := l.drop (4 - n % 4)) (by omega)
          (fun i hi => by
            rw [celMayWrite_congr hfirst.keeps, show n - n % 4 + 4 + i = n + (4 - n % 4 + i) by omega]
            exact hmay _ (by omega))
          (.inl (by omega))
          (by
            rw [hend]
            exact htail.imp_right fun h => by rwa [hfirst.view _ (by omega) (by omega)])
        refine ⟨e, hloop.trans he, ?_⟩
        rw [← List.take_append_drop (4 - n % 4) l]
        refine hfirst.append ?_ (by omega)
        rwa [hdone, show n + (4 - n % 4) = n - n % 4 + 4 by omega]

/-- A word that its region refuses is counted where none has been before. -/
theorem celWriteLoop_refusedWord (hl : l ≠ []) (hmay : c.celMayWrite m secure n = false) :
    c.celWriteLoop m secure (k + 1) n l r = (if r == .denied then c else c.celDeny (n / 4 * 4)).celWriteLoop m secure k (n / 4 * 4 + 4)
      (l.drop (min (4 - n % 4) l.length)) .denied := by
  have hbase : n - n % 4 = n / 4 * 4 := by omega
  rw [Chip.celWriteLoop.eq_3 _ _ _ _ _ _ _ hl]
  dsimp only
  rw [hbase, celMayWrite_word, hmay]
  rfl

/-- The rest of a write that no region permits. -/
theorem refused_rest (hmay : ∀ i < l.length, c.celMayWrite m secure (n + i) = false) :
    ∀ i < (l.drop (min (4 - n % 4) l.length)).length, c.celMayWrite m secure (n / 4 * 4 + 4 + i) = false := by
  intro i hi
  rw [List.length_drop] at hi
  rw [show n / 4 * 4 + 4 + i = n + (4 - n % 4 + i) by omega]
  exact hmay _ (by omega)

/-- A refusal counted goes on without another. -/
theorem celWriteLoop_denied (k : Nat) (hmay : ∀ i < l.length, c.celMayWrite m secure (n + i) = false) :
    c.celWriteLoop m secure k n l .denied = (c, .denied) := by
  induction k generalizing n l with
  | zero => rfl
  | succ k ih =>
    by_cases hl : l = []
    · subst hl
      rfl
    · exact (celWriteLoop_refusedWord hl (hmay 0 (List.length_pos_iff.mpr hl))).trans (ih (refused_rest hmay))

/-- A write that no region permits is refused once. -/
theorem celWriteLoop_refused (hl : l ≠ []) (hmay : ∀ i < l.length, c.celMayWrite m secure (n + i) = false) :
    c.celWriteLoop m secure (k + 1) n l .ok = (c.celDeny (n / 4 * 4), .denied) :=
  (celWriteLoop_refusedWord hl (hmay 0 (List.length_pos_iff.mpr hl))).trans
    (celWriteLoop_denied k fun i hi => (celMayWrite_congr (celDeny_keepsRead ..).ofRead ..).trans (refused_rest hmay i hi))

/-- A write to a part of one poisoned word. -/
theorem celWriteLoop_poisoned (hl : l ≠ []) (hlen : l.length < 4) (hend : n % 4 + l.length ≤ 4) (hmay : c.celMayWrite m secure (n / 4 * 4) = true)
    (hv : c.celView (n / 4 * 4) = none) :
    ∃ d, c.celWriteLoop m secure (k + 1) n l .ok = (d, .poison) ∧ c.KeepsRead d ∧ d.pstate = c.pstate := by
  have hbase : n - n % 4 = n / 4 * 4 := by omega
  obtain ⟨d, hd, hkeeps⟩ := celNarrow_poisoned (m := m) (secure := secure) (o := n % 4) (l := l.take (min (4 - n % 4) l.length)) hv
  refine ⟨d, ?_, hkeeps⟩
  rw [Chip.celWriteLoop.eq_3 _ _ _ _ _ _ _ hl]
  dsimp only
  rw [hbase, hmay, if_neg (show ¬ min (4 - n % 4) l.length = 4 by omega), hd, List.drop_of_length_le (by omega)]
  cases k <;> rfl

end

end Sys2Proof.Machine

/-! SUPPORT. What a client's write comes to, refused ones with their counts, and words stored while the Cellar is awake (spec/05 R153..R155, R157,
R165..R170). -/

namespace Sys2Proof.Machine

section

variable {a : Access} {c d e : Chip} {m : Master} {secure : Bool} {n o k w : Nat} {v addr expect new : Word} {l x : List Byte} {r : CelRes}

/-! ## The power state (R166..R170) -/

/-- The module beside the Cellar's controller. -/
def powerView (r : Chip) : Chip := { r with cel := {} }

/-- The registers of the power state and of its residence. -/
def powerRegs : List Nat := rCEL_STATUS.addr 0 0 :: [0, 1, 2].map (rCEL_RES.addr · 0)

theorem celWake_keepsPower (c : Chip) : c.Keeps powerView powerRegs [] c.celWake := by
  have hres : ∀ k < 3, rCEL_RES.addr k 0 ∈ powerRegs := by decide
  have hlt := pstate_lt c
  refine .ite .refl (Chip.Keeps.of_eq (c := (c.incSat rCEL_RES (c.pstate - 1) 0 ((c.now - c.cel.since) / 1000)).wf rCEL_STATUS 0 0 4 3 0) ?_ rfl rfl rfl)
  exact .wr (.wr .refl _ (hres _ (by omega))) _ (by decide)

theorem celPost_keepsPower (c : Chip) (n : Nat) : c.Keeps powerView powerRegs [] (c.celPost n) := by
  have hposted : c.Keeps powerView powerRegs [] { c with cel := { c.cel with posted := c.cel.posted + n } } := .of_eq .refl rfl rfl rfl
  exact .ite .refl (.ite (hposted.trans (celWake_keepsPower _)) hposted)

theorem tolCheck_keepsTol (c : Chip) (m : Master) : c.Keeps readView (rCEL_CNT.addr 4 0 :: logRegs 0x06) [62, 209] (c.tolCheck m) :=
  .ite (.irq (.log (.wr .refl _ (by decide)) (fun _ _ => rfl) (by decide) (by decide)) (by decide)) .refl

theorem tolCheck_other (h : m ≠ .raster) : c.tolCheck m = c := if_neg (by simp [h])

theorem bytes_congr (h : d.mem = c.mem) (n k : Nat) : d.bytes n k = c.bytes n k := by
  induction k generalizing n with
  | zero => rfl
  | succ k ih => rw [Chip.bytes, Chip.bytes, ih, byte_congr h]

/-! ## A refusal (R155) -/

theorem celDeny_count (c : Chip) (n : Nat) : (c.celDeny n).rd rCEL_CNT 5 = c.rd rCEL_CNT 5 + 1 := by
  rw [Chip.celDeny, Chip.rd_irq, Chip.rd_log_other (by decide), Chip.inc, Chip.rd_wr_same]
  rfl

theorem celDeny_reports (c : Chip) (n : Nat) : Reports 0x06 0x73 c (c.celDeny n) := by
  have hctrl : c.rd rERR_CTRL = (c.inc rCEL_CNT 5 0).rd rERR_CTRL := (Chip.rd_wr_other c _ (by decide)).symm
  exact (Reports.log 0x06 0x73 _ hctrl (by rw [Chip.inc, Chip.wr_err]) (by decide)).irq 59

theorem celDeny_raised (c : Chip) (n : Nat) : (c.celDeny n).irqs.getLsbD 59 = true := irq_irqs_same _ (by decide)

/-! ## A client's write -/

theorem celClientWrite_down (h : c.celUp = false) : c.celClientWrite m secure n l = (c, .down) := if_pos (by rw [h]; rfl)

/-- What the words of a write have come to, posted where the controller sleeps. -/
theorem celClientWrite_of_loop (hup : c.celUp = true) (hloop : (c.tolCheck m).celWriteLoop m secure (l.length + 2) n l .ok = (d, r)) :
    ∃ k, c.celClientWrite m secure n l = (d.celPost k, r) := by
  refine ⟨d.celTaken m secure n l.length, ?_⟩
  rw [Chip.celClientWrite, if_neg (by rw [hup]; decide), hloop]
  dsimp only
  split
  · next hawake => rw [Chip.celPost, if_pos hawake]
  · rfl

/-- A write that the regions permit, where the words it holds in part are not poisoned, stores its bytes. -/
theorem celClientWrite_stored (hup : c.celUp = true) (hmay : ∀ i < l.length, c.celMayWrite m secure (n + i) = true)
    (hhead : n % 4 = 0 ∨ c.celView (n / 4 * 4) ≠ none) (htail : (n + l.length) % 4 = 0 ∨ c.celView ((n + l.length) / 4 * 4) ≠ none) :
    ∃ d, c.celClientWrite m secure n l = (d, .ok) ∧ c.KeepsWrite d ∧ d.bytes n l.length = l
      ∧ SameBytes (fun k => n / 4 * 4 ≤ k ∧ k < (n + l.length + 3) / 4 * 4) c d := by
  have htol := tolCheck_keepsRead c m
  have hview : ∀ w, (c.tolCheck m).celView w = c.celView w := celView_congr htol.read_mem (by rw [tolCheck_cel]) (by rw [tolCheck_cel])
  obtain ⟨d, hloop, hstore⟩ := celWriteLoop_stored (c := c.tolCheck m) (m := m) (secure := secure) (n := n) (l := l) (l.length + 2) (by omega)
    (fun i hi => (celMayWrite_congr htol.ofRead ..).trans (hmay i hi)) (by rwa [hview]) (by rwa [hview])
  obtain ⟨k, hwrite⟩ := celClientWrite_of_loop hup hloop
  have hpost := celPost_keepsRead d k
  refine ⟨d.celPost k, hwrite, (htol.ofRead.trans hstore.keeps).trans hpost.ofRead, ?_, fun i hi => ?_⟩
  · rw [bytes_congr hpost.read_mem, hstore.bytes]
  · rw [byte_congr hpost.read_mem, hstore.outside i hi, byte_congr htol.read_mem]

/-- A write that no region permits is counted and reported once, and stores nothing. -/
theorem celClientWrite_refused (hup : c.celUp = true) (hl : l ≠ []) (hmay : ∀ i < l.length, c.celMayWrite m secure (n + i) = false) :
    ∃ d, c.celClientWrite m secure n l = (d, .denied) ∧ c.KeepsRead d ∧ d.rd rCEL_CNT 5 = c.rd rCEL_CNT 5 + 1
      ∧ (m ≠ .raster → Reports 0x06 0x73 c d) ∧ d.irqs.getLsbD 59 = true := by
  have htol := tolCheck_keepsTol c m
  have hloop := celWriteLoop_refused (c := c.tolCheck m) (m := m) (secure := secure) (k := l.length + 1) hl
    fun i hi => (celMayWrite_congr (tolCheck_keepsRead c m).ofRead ..).trans (hmay i hi)
  obtain ⟨k, hwrite⟩ := celClientWrite_of_loop hup hloop
  have hpost := celPost_keepsPower ((c.tolCheck m).celDeny (n / 4 * 4)) k
  refine ⟨_, hwrite, ((tolCheck_keepsRead c m).trans (celDeny_keepsRead ..)).trans (celPost_keepsRead ..), ?_, fun hm => ?_, ?_⟩
  · rw [hpost.rd (by decide), celDeny_count, htol.rd (by decide)]
  · rw [tolCheck_other hm] at hpost ⊢
    exact (celDeny_reports c _).of_eq (hpost.same Chip.err fun _ => rfl)
  · rw [hpost.sameIrqs 59 (by decide) (by decide)]
    exact celDeny_raised ..

/-- A write to a part of one poisoned word stores nothing. -/
theorem celClientWrite_poisoned (hup : c.celUp = true) (hl : l ≠ []) (hlen : l.length < 4) (hend : n % 4 + l.length ≤ 4)
    (hmay : c.celMayWrite m secure (n / 4 * 4) = true) (hv : c.celView (n / 4 * 4) = none) :
    ∃ d, c.celClientWrite m secure n l = (d, .poison) ∧ c.KeepsRead d := by
  have htol := tolCheck_keepsRead c m
  have hview : (c.tolCheck m).celView (n / 4 * 4) = none :=
    (celView_congr htol.read_mem (by rw [tolCheck_cel]) (by rw [tolCheck_cel]) _).trans hv
  obtain ⟨d, hloop, hkeeps, -⟩ := celWriteLoop_poisoned (k := l.length + 1) hl hlen hend ((celMayWrite_congr htol.ofRead ..).trans hmay) hview
  obtain ⟨k, hwrite⟩ := celClientWrite_of_loop hup hloop
  exact ⟨_, hwrite, (htol.trans hkeeps).trans (celPost_keepsRead ..)⟩

/-! ## A bus master's write (R153) -/

theorem celBusWrite_ok (h : c.celClientWrite a.master (c.worldS a) addr.toNat l = (d, .ok)) : c.celBusWrite a addr l = d.answer 0 := by
  rw [Chip.celBusWrite, Chip.celWrite, h]
  rfl

/-- A write that does not end well is answered with an error, which a processor finds as interrupt 1. -/
theorem celBusWrite_fails (h : c.celClientWrite a.master (c.worldS a) addr.toNat l = (d, r)) (hr : r ≠ .ok) :
    (c.celBusWrite a addr l).rsp = { val := 0, err := true } ∧ (sysProc a.master = true → (c.celBusWrite a addr l).irqs.getLsbD 1 = true)
    ∧ d.KeepsBus (c.celBusWrite a addr l) := by
  rw [Chip.celBusWrite, Chip.celWrite, h]
  dsimp only
  split
  · next hpoison =>
    obtain ⟨hrsp, hirq, hbus⟩ := busErr_fails d a.master (c.worldS a) true (BitVec.ofNat 32 addr.toNat) 2
    exact ⟨hrsp, fun _ => hirq, hbus⟩
  · exact ⟨(celEnd_fails d a true addr 0 hr).1, (celEnd_fails d a true addr 0 hr).2, celEnd_keepsBus ..⟩

theorem celBusWrite_down (h : c.celUp = false) : c.celBusWrite a addr l = c.celEnd a true addr 0 .down := by
  rw [Chip.celBusWrite, Chip.celWrite, celClientWrite_down h]
  rfl

/-! ## Codewords stored while nothing waits to be written back -/

/-- The word `v` stored at `n` with its codeword's deviation. -/
def Chip.coded (c : Chip) (n : Nat) (v : Word) (e : BitVec 8) : Chip := (c.setWord n v).setEcc n e

section Coded

variable {e : BitVec 8}

theorem coded_keeps (c : Chip) (n : Nat) (v : Word) (e : BitVec 8) : c.Keeps (fun r => { r with mem := [], cel := {} }) [] [] (c.coded n v e) := by
  rw [Chip.coded, Chip.setWord, Chip.setBytes_eq]
  exact .of_eq .refl rfl rfl rfl

theorem coded_word (c : Chip) (n : Nat) (v : Word) (e : BitVec 8) : (c.coded n v e).word n = v :=
  word_setBytes_wordBytes c n v

theorem coded_ecc (c : Chip) (n : Nat) (v : Word) (e : BitVec 8) : (c.coded n v e).ecc n = e := mget_mset_same ..

theorem coded_bytes (c : Chip) (n : Nat) (v : Word) (e : BitVec 8) : SameBytes (fun k => n ≤ k ∧ k < n + 4) c (c.coded n v e) := fun k hk =>
  Chip.byte_setBytes_other (wordBytes v) c n k (by simp only [wordBytes, List.length_cons, List.length_nil]; omega)

theorem coded_cel (c : Chip) (n : Nat) (v : Word) (e : BitVec 8) : (c.coded n v e).cel = { c.cel with ecc := (c.coded n v e).cel.ecc } := by
  rw [Chip.coded, Chip.setEcc, setWord_cel]

theorem coded_rest (c : Chip) (n : Nat) (v : Word) (e : BitVec 8) :
    (c.coded n v e).rest = { c.rest with mem := (c.coded n v e).mem, cel := { c.cel with ecc := (c.coded n v e).cel.ecc } } := by
  rw [← coded_cel, Chip.coded, Chip.setWord, Chip.setBytes_eq]
  rfl

theorem coded_pstate (c : Chip) (n : Nat) (v : Word) (e : BitVec 8) : (c.coded n v e).pstate = c.pstate :=
  pstate_congr ((coded_keeps c n v e).rd (by decide))

end Coded

/-- A store that no error is injected into. -/
theorem celStore_unarmed (hwb : c.cel.wb = []) (harm : c.rb rECC_INJ 0 0 31 = false) (secure : Bool) (n : Nat) (v : Word) :
    c.celStore secure n v = c.coded n v 0 := by
  have hword : (c.setWord n v).rb rECC_INJ 0 0 31 = false := by
    rw [Chip.setWord, Chip.setBytes_eq]
    exact harm
  rw [Chip.celStore, cancelWb_none hwb]
  exact if_neg (by rw [hword, Bool.and_false]; decide)

/-- A clean word is read as it is stored. -/
theorem celRead_clean (hwb : c.cel.wb = []) (hecc : c.ecc n = 0) (who : CelReader) : c.celRead who n = (c, c.word n, false) := by
  have hstatus : cwDecode (c.word n) 0 = .clean := rfl
  simp only [Chip.celRead, hwb, hecc, hstatus, List.any_nil, Bool.false_eq_true, if_false]

theorem celClientRead_clean (hup : c.celUp = true) (hawake : c.pstate = 0) (hwb : c.cel.wb = []) (hecc : c.ecc n = 0)
    (hmay : celMayRead m secure n = true) : c.celClientRead m secure n = (c, c.word n, .ok) := by
  simp only [Chip.celClientRead, hup, hmay, tolCheck_awake hawake, celWake_awake hawake, celRead_clean hwb hecc, Bool.not_true, Bool.false_eq_true, if_false]

theorem celSwap_clean (hup : c.celUp = true) (hawake : c.pstate = 0) (hwb : c.cel.wb = []) (hecc : c.ecc n = 0)
    (hmay : c.celMayWrite m secure n = true) (harm : c.rb rECC_INJ 0 0 31 = false) :
    c.celSwap m secure n expect new = (if c.word n = expect then c.coded n new 0 else c, c.word n, .ok) := by
  simp only [Chip.celSwap, hup, hmay, tolCheck_awake hawake, celWake_awake hawake, celRead_clean hwb hecc, celStore_unarmed hwb harm, Bool.not_true,
    Bool.false_eq_true, if_false]

/-- A word written while the controller is awake. -/
theorem celClientWrite_word (hup : c.celUp = true) (hawake : c.pstate = 0) (hwb : c.cel.wb = []) (harm : c.rb rECC_INJ 0 0 31 = false)
    (hn : n % 4 = 0) (hmay : c.celMayWrite m secure n = true) : c.celClientWrite m secure n (wordBytes v) = (c.coded n v 0, .ok) := by
  have hlen : min (4 - n % 4) (wordBytes v).length = 4 := by rw [hn]; rfl
  have hloop : c.celWriteLoop m secure 6 n (wordBytes v) .ok = (c.coded n v 0, .ok) := by
    rw [Chip.celWriteLoop.eq_3 _ _ _ _ _ _ _ (show wordBytes v ≠ [] from List.cons_ne_nil _ _)]
    dsimp only
    rw [hlen, hn, Nat.sub_zero, hmay, leWordAt_wordBytes, celStore_unarmed hwb harm]
    rfl
  obtain ⟨k, hwrite⟩ := celClientWrite_of_loop (l := wordBytes v) hup ((congrArg (fun x => Chip.celWriteLoop x m secure 6 n (wordBytes v) .ok) (tolCheck_awake hawake m)).trans hloop)
  rw [hwrite, Chip.celPost, if_pos ((coded_pstate ..).trans hawake)]

end

end Sys2Proof.Machine

/-! SUPPORT. The Cellar's commands: its enable and fill, a client's read, write and compare-and-swap in each of their ends, the write-back
(spec/05 R146..R160, R165..R170; spec/01 R31). -/

namespace Sys2Proof.Machine

section

variable {s : State} {a : Access} {c d e f : Chip} {m : Master} {secure write : Bool} {n k : Nat} {v addr expect new : Word} {l : List Byte} {r : CelRes}
  {P : Chip → Prop}

/-! ## Enable and fill (R159, R160) -/

theorem celEnable_serves (c : Chip) : c.celEnable true = { c with cel := { c.cel with serving := c.cel.serving || c.rb rCEL_STATUS 0 0 1 || c.rb rCEL_STATUS 0 0 2 } } := by
  unfold Chip.celEnable
  rw [if_neg (by decide)]
  split
  · next h => rw [Bool.or_assoc, h, Bool.or_true]
  · next h => rw [Bool.or_assoc, Bool.eq_false_iff.mpr h, Bool.or_false]

theorem does_cellarEnable (ht : s.chip.takes a rCEL_CTRL 0 0 (v ||| 0x1)) : Does s (exec (.cellarEnable a v) s) fun c =>
    c.rest = { s.chip.rest with cel := { s.chip.cel with serving := s.chip.cel.serving || s.chip.rb rCEL_STATUS 0 0 1 || s.chip.rb rCEL_STATUS 0 0 2 } }
    ∧ c.rd rCEL_CTRL = rCEL_CTRL.merge (s.chip.rd rCEL_CTRL) (v ||| 0x1) ∧ c.rb rCEL_CTRL 0 0 0 = true ∧ Frame [rCEL_CTRL.addr 0 0] [] s.chip c := by
  have hbit : bit (v ||| 0x1) 0 = true := bit_or_of_bit (by decide)
  have hserve : (s.chip.counted.written rCEL_CTRL 0 0 (v ||| 0x1)).celEnable (bit (v ||| 0x1) 0) = _ := (congrArg _ hbit).trans (celEnable_serves _)
  have hstatus : (s.chip.counted.written rCEL_CTRL 0 0 (v ||| 0x1)).rd rCEL_STATUS = s.chip.rd rCEL_STATUS := Chip.rd_wr_other s.chip.counted _ (by decide)
  refine does_written rCEL_CTRL_stands ht rfl hserve ⟨?_, written_rd .., ?_, ?_⟩
  · simp only [Chip.rb, hstatus]
    rfl
  · exact (written_rb (c := s.chip.counted) (r := rCEL_CTRL) (by decide) (by decide)).trans hbit
  · exact (Chip.Keeps.of_eq (d := { s.chip.counted.written rCEL_CTRL 0 0 (v ||| 0x1) with cel := _ })
      (stored_keeps s.chip.counted ..).plain rfl rfl rfl).frame

/-- The Cellar filled with clean zeros, before FILL_DONE shows it. -/
def Chip.filled (c : Chip) : Chip :=
  { c with mem := c.mem.filter fun p => p.1 < celBase || 0xA0000000 ≤ p.1, cel := { c.cel with ecc := [], wb := [], serving := true } }

theorem celFillDone_fills (halive : c.alive .cel = true) (hen : c.rb rCEL_CTRL 0 0 0 = true) (hserve : c.cel.serving = false) :
    c.celFillDone = c.filled.wb rCEL_STATUS 0 0 2 true := if_pos (by rw [halive, hen, hserve]; rfl)

theorem celFillDone_waits (h : c.rb rCEL_CTRL 0 0 0 = false ∨ c.cel.serving = true) : c.celFillDone = c := by
  refine if_neg ?_
  obtain h | h := h <;> simp [h]

theorem filled_byte (c : Chip) (n : Nat) : c.filled.byte n = if celBase ≤ n ∧ n < 0xA0000000 then 0 else c.byte n := by
  refine (mget_filter (memDefault n) (fun k => k < celBase || 0xA0000000 ≤ k) c.mem n).trans ?_
  by_cases h : celBase ≤ n ∧ n < 0xA0000000
  · have hzero : memDefault n = 0 := by
      have hlow : 0x80000000 ≤ n := h.1
      rw [memDefault, if_neg]
      simp only [Bool.and_eq_true, decide_eq_true_eq]
      omega
    rw [if_pos h, if_neg (by simp; omega), hzero]
  · have hkept : (decide (n < celBase) || decide (0xA0000000 ≤ n)) = true := by
      simp only [Bool.or_eq_true, decide_eq_true_eq]
      omega
    rw [if_neg h]
    exact if_pos hkept

theorem does_cellarFillDone (halive : s.chip.alive .cel = true) (hen : s.chip.rb rCEL_CTRL 0 0 0 = true) (hserve : s.chip.cel.serving = false) :
    Does s (exec .cellarFillDone s) fun c =>
    (∀ n, celBase ≤ n → n < 0xA0000000 → c.byte n = 0) ∧ SameBytes (fun n => celBase ≤ n ∧ n < 0xA0000000) s.chip c
    ∧ c.cel = { s.chip.cel with ecc := [], wb := [], serving := true } ∧ c.rd rCEL_STATUS = setBit (s.chip.rd rCEL_STATUS) 2 true
    ∧ c.rest = { s.chip.rest with cel := c.cel, mem := c.mem } ∧ Frame [rCEL_STATUS.addr 0 0] [] s.chip c := by
  have hfill : s.chip.Keeps (fun _ => ()) [rCEL_STATUS.addr 0 0] [] s.chip.counted.filled := .of_eq .refl rfl rfl rfl
  have hbyte : ∀ n, (settle (s.chip.counted.filled.wb rCEL_STATUS 0 0 2 true)).byte n = if celBase ≤ n ∧ n < 0xA0000000 then 0 else s.chip.byte n :=
    fun n => (byte_congr (by rw [settle_mem, Chip.wb, Chip.wr_mem]; rfl) n).trans (filled_byte s.chip n)
  refine does_eq (celFillDone_fills halive hen hserve) ⟨fun n hlow hhigh => ?_, fun n hn => ?_, ?_, ?_, ?_, ?_⟩
  · rw [hbyte, if_pos ⟨hlow, hhigh⟩]
  · rw [hbyte, if_neg hn]
  · rw [settle_cel, Chip.wb, Chip.wr_cel]
    rfl
  · rw [rd_settle]
    exact Chip.rd_wr_same ..
  · rw [rest_settle, Chip.wb, Chip.rest_wr, settle_cel, settle_mem, Chip.wr_cel, Chip.wr_mem]
    rfl
  · exact (hfill.wb 2 true (List.mem_singleton_self _)).frame

theorem does_cellarFillDone_waits (h : s.chip.rb rCEL_CTRL 0 0 0 = false ∨ s.chip.cel.serving = true) : Does s (exec .cellarFillDone s) fun c =>
    c.rest = s.chip.rest ∧ Frame [] [] s.chip c := does_eq (celFillDone_waits h) (quiet s.chip)

/-! ## Accesses that reach the Cellar -/

theorem areaOf_cellar (hlow : celBase ≤ n) (hhigh : n < 0xA0000000) : areaOf n = .cellar := by
  simp only [celBase] at hlow
  rw [areaOf, if_neg, if_neg, if_neg, if_neg, if_neg, if_neg, if_pos] <;> simp <;> omega

theorem does_cellarRead (hmay : s.chip.mayAccess a = true) (hlow : celBase ≤ addr.toNat) (hhigh : addr.toNat < 0xA0000000)
    (h : P (settle (s.chip.counted.celBusRead a addr))) : Does s (exec (.cellarRead a addr) s) P := by
  refine does_eq ?_ h
  have hmay' : s.chip.counted.mayAccess a = true := hmay
  rw [hmay', areaOf_cellar hlow hhigh]
  rfl

theorem does_cellarWrite (hmay : s.chip.mayAccess a = true) (hlow : celBase ≤ addr.toNat) (hhigh : addr.toNat < 0xA0000000)
    (hend : addr.toNat + l.length ≤ 0xA0000000) (h : P (settle (s.chip.counted.celBusWrite a addr l))) : Does s (exec (.cellarWrite a addr l) s) P := by
  refine does_eq ?_ h
  have hmay' : s.chip.counted.mayAccess a = true := hmay
  rw [hmay', areaOf_cellar hlow hhigh, decide_eq_true hend]
  rfl

theorem does_cellarCas (hmay : s.chip.mayAccess a = true) (hlow : celBase ≤ addr.toNat) (hhigh : addr.toNat < 0xA0000000)
    (hswap : s.chip.counted.celSwap a.master (s.chip.worldS a) (addr.toNat / 4 * 4) expect new = (d, v, r))
    (h : P (settle (d.celEnd a true addr v r))) : Does s (exec (.cellarCas a addr expect new) s) P := by
  refine does_eq ?_ h
  have hmay' : s.chip.counted.mayAccess a = true := hmay
  have hworld : s.chip.counted.worldS a = s.chip.worldS a := rfl
  rw [hmay', areaOf_cellar hlow hhigh, hworld, hswap]
  rfl

theorem counted_keepsRead (c : Chip) : c.KeepsRead c.counted := .of_eq .refl rfl rfl rfl

/-- What an access that has read words of the Cellar leaves, at the end of its command. -/
theorem read_settled (h : c.KeepsRead d) : (settle d).mem = c.mem ∧ (settle d).rest = { c.rest with cel := (settle d).cel, err := (settle d).err }
    ∧ Frame celRegs celIrqs c (settle d) := ⟨h.read_mem, h.read_rest, h.frame⟩

theorem settled_irq_one (h : d.irqs.getLsbD 1 = true) : (settle d).irqs.getLsbD 1 = true := (settle_irqs_other d (by decide)).trans h

/-! ## Reads -/

theorem celBusRead_eq (h : c.celClientRead a.master (c.worldS a) (addr.toNat / 4 * 4) = (d, v, r)) : c.celBusRead a addr = d.celEnd a false addr v r := by
  rw [Chip.celBusRead, h]

/-- Beside the Attic. -/
theorem celRegion_open (h : n < 0x9FC00000) : celRegion n ≠ 9 := by
  unfold celRegion
  repeat' split
  all_goals decide

theorem does_cellarRead_clean (hmay : s.chip.mayAccess a = true) (hlow : celBase ≤ addr.toNat) (hhigh : addr.toNat < 0x9FC00000)
    (hn : addr.toNat % 4 = 0) (hup : s.chip.celUp = true) (hawake : s.chip.pstate = 0) (hwb : s.chip.cel.wb = []) (hecc : s.chip.ecc addr.toNat = 0) :
    Does s (exec (.cellarRead a addr) s) fun c =>
    c.rsp = { val := s.chip.word addr.toNat, err := false } ∧ c.rest = s.chip.rest ∧ Frame [] [] s.chip c := by
  have hword : addr.toNat / 4 * 4 = addr.toNat := by omega
  have hread : celMayRead a.master (s.chip.worldS a) (addr.toNat / 4 * 4) = true := celMayRead_region rfl (celRegion_open (by omega)) ..
  have hend := celBusRead_eq (c := s.chip.counted) (celClientRead_clean hup hawake hwb (by rw [hword]; exact hecc) hread)
  refine does_cellarRead hmay hlow (by omega) ?_
  rw [hend, hword]
  exact ⟨rfl, rfl, (Chip.Keeps.of_eq (g := id) (Chip.Keeps.refl (c := s.chip)) rfl rfl rfl).frame⟩

/-- How a client's read ends: with the word as a read shows it, or in an error. -/
theorem celClientRead_ends (c : Chip) (m : Master) (secure : Bool) (n : Nat) : ∃ d v r, c.celClientRead m secure n = (d, v, r) ∧ c.KeepsRead d
    ∧ (c.celUp = true → celMayRead m secure n = true → d.pstate = 0 ∧ (∀ w, c.celView n = some w → v = w ∧ r = .ok) ∧ (c.celView n = none → r ≠ .ok))
    ∧ (c.celUp = false ∨ celMayRead m secure n = false → r ≠ .ok) := by
  cases hup : c.celUp with
  | false => exact ⟨c, 0, .down, celClientRead_down hup, .refl, nofun, fun _ => nofun⟩
  | true =>
    cases hmay : celMayRead m secure n with
    | false => exact ⟨_, 0, .denied, celClientRead_denied hup hmay, celDeny_keepsRead .., nofun, fun _ => nofun⟩
    | true =>
      cases hv : c.celView n with
      | none =>
        obtain ⟨d, hread, hkeeps, hstate⟩ := celClientRead_none hup hmay hv
        exact ⟨d, 0, .poison, hread, hkeeps, fun _ _ => ⟨hstate, nofun, fun _ => nofun⟩, fun _ => nofun⟩
      | some v =>
        obtain ⟨d, hread, hkeeps, hstate⟩ := celClientRead_some hup hmay hv
        exact ⟨d, v, .ok, hread, hkeeps, fun _ _ => ⟨hstate, fun w hw => ⟨Option.some.inj hw, rfl⟩, nofun⟩, fun h => by simp at h⟩

/-- What an access that does not end well shows its master once its command is over. -/
theorem settled_fails (d : Chip) (a : Access) (write : Bool) (addr v : Word) (hr : r ≠ .ok) :
    (settle (d.celEnd a write addr v r)).rsp = { val := 0, err := true }
    ∧ (sysProc a.master = true → (settle (d.celEnd a write addr v r)).irqs.getLsbD 1 = true) := by
  obtain ⟨hrsp, hirq⟩ := celEnd_fails d a write addr v hr
  exact ⟨hrsp, fun h => settled_irq_one (hirq h)⟩

theorem does_cellarRead_any (hmay : s.chip.mayAccess a = true) (hlow : celBase ≤ addr.toNat) (hhigh : addr.toNat < 0xA0000000) :
    Does s (exec (.cellarRead a addr) s) fun c =>
    c.mem = s.chip.mem
    ∧ (s.chip.celUp = true → celMayRead a.master (s.chip.worldS a) (addr.toNat / 4 * 4) = true → c.pstate = 0
        ∧ (s.chip.celView (addr.toNat / 4 * 4) ≠ none → c.rsp = { val := (s.chip.celView (addr.toNat / 4 * 4)).getD 0, err := false })
        ∧ (s.chip.celView (addr.toNat / 4 * 4) = none → c.rsp = { val := 0, err := true } ∧ (sysProc a.master = true → c.irqs.getLsbD 1 = true)))
    ∧ (s.chip.celUp = false ∨ celMayRead a.master (s.chip.worldS a) (addr.toNat / 4 * 4) = false →
        c.rsp = { val := 0, err := true } ∧ (sysProc a.master = true → c.irqs.getLsbD 1 = true))
    ∧ c.rest = { s.chip.rest with cel := c.cel, err := c.err } ∧ Frame celRegs celIrqs s.chip c := by
  obtain ⟨d, v, r, hread, hkeeps, hserved, hrefused⟩ := celClientRead_ends s.chip.counted a.master (s.chip.worldS a) (addr.toNat / 4 * 4)
  have hbus := celEnd_keepsBus d a false addr v r
  obtain ⟨hmem, hrest, hframe⟩ := read_settled (((counted_keepsRead s.chip).trans hkeeps).trans hbus.ofBus)
  refine does_cellarRead hmay hlow hhigh ?_
  rw [celBusRead_eq (c := s.chip.counted) hread]
  refine ⟨hmem, fun hup hallowed => ?_, fun h => settled_fails d a false addr v (hrefused h), hrest, hframe⟩
  obtain ⟨hstate, hsome, hnone⟩ := hserved hup hallowed
  refine ⟨(pstate_congr (rd_settle ..)).trans (hbus.bus_pstate.trans hstate), fun hv => ?_, fun hv => settled_fails d a false addr v (hnone hv)⟩
  obtain ⟨w, hw⟩ := Option.ne_none_iff_exists'.mp hv
  obtain ⟨rfl, rfl⟩ := hsome w hw
  rw [hw]
  rfl

/-! ## Writes -/

/-- What a codeword stored shows in a module with its memory and its controller. -/
theorem coded_shown {e : BitVec 8} (hmem : f.mem = (c.coded n v e).mem) (hcel : f.cel = (c.coded n v e).cel) :
    f.word n = v ∧ f.ecc n = e ∧ SameBytes (fun k => n ≤ k ∧ k < n + 4) c f :=
  ⟨(word_congr_mem hmem n).trans (coded_word ..), (congrArg (fun x : CelSt => mget 0 x.ecc (n / 4)) hcel).trans (coded_ecc ..),
    fun k hk => (byte_congr hmem k).trans (coded_bytes c n v e k hk)⟩

/-- An answer with a codeword stored, at the end of the command. -/
theorem coded_answered (c : Chip) (n : Nat) (v w : Word) (e : BitVec 8) (hf : f = settle ((c.counted.coded n v e).answer w)) :
    f.rsp = { val := w, err := false } ∧ f.word n = v ∧ f.ecc n = e ∧ SameBytes (fun k => n ≤ k ∧ k < n + 4) c f
    ∧ f.rest = { c.rest with mem := f.mem, cel := { c.cel with ecc := f.cel.ecc } } ∧ Frame [] [] c f := by
  subst hf
  have hrest := coded_rest c.counted n v e
  have hframe := coded_keeps c.counted n v e
  have hshown := coded_shown (c := c.counted) (n := n) (v := v) (e := e) (f := settle ((c.counted.coded n v e).answer w))
  generalize c.counted.coded n v e = d at *
  obtain ⟨hword, hecc, hbytes⟩ := hshown rfl rfl
  exact ⟨rfl, hword, hecc, hbytes, hrest, hframe.frame⟩

theorem does_cellarWrite_word (hmay : s.chip.mayAccess a = true) (hlow : celBase ≤ addr.toNat) (hend : addr.toNat + 4 ≤ 0x9FC00000)
    (hn : addr.toNat % 4 = 0) (hup : s.chip.celUp = true) (hawake : s.chip.pstate = 0) (hwb : s.chip.cel.wb = [])
    (hallowed : s.chip.celMayWrite a.master (s.chip.worldS a) addr.toNat = true) (harm : s.chip.rb rECC_INJ 0 0 31 = false) :
    Does s (exec (.cellarWrite a addr (wordBytes v)) s) fun c =>
    c.rsp = { val := 0, err := false } ∧ c.word addr.toNat = v ∧ c.ecc addr.toNat = 0
    ∧ SameBytes (fun n => addr.toNat ≤ n ∧ n < addr.toNat + 4) s.chip c
    ∧ c.rest = { s.chip.rest with mem := c.mem, cel := { s.chip.cel with ecc := c.cel.ecc } } ∧ Frame [] [] s.chip c := by
  have hwrite : s.chip.counted.celClientWrite a.master (s.chip.counted.worldS a) addr.toNat (wordBytes v) = (s.chip.counted.coded addr.toNat v 0, .ok) :=
    celClientWrite_word hup hawake hwb harm hn hallowed
  refine does_cellarWrite hmay hlow (by omega) (by simp only [wordBytes, List.length_cons, List.length_nil]; omega) ?_
  rw [celBusWrite_ok hwrite]
  exact coded_answered s.chip addr.toNat v 0 0 rfl

theorem does_cellarWrite_stored (hmay : s.chip.mayAccess a = true) (hlow : celBase ≤ addr.toNat) (hhigh : addr.toNat < 0xA0000000)
    (hend : addr.toNat + l.length ≤ 0xA0000000) (hup : s.chip.celUp = true)
    (hallowed : ∀ k < l.length, s.chip.celMayWrite a.master (s.chip.worldS a) (addr.toNat + k) = true)
    (hhead : addr.toNat % 4 = 0 ∨ s.chip.celView (addr.toNat / 4 * 4) ≠ none)
    (htail : (addr.toNat + l.length) % 4 = 0 ∨ s.chip.celView ((addr.toNat + l.length) / 4 * 4) ≠ none) : Does s (exec (.cellarWrite a addr l) s) fun c =>
    c.rsp = { val := 0, err := false } ∧ c.bytes addr.toNat l.length = l
    ∧ SameBytes (fun n => addr.toNat / 4 * 4 ≤ n ∧ n < (addr.toNat + l.length + 3) / 4 * 4) s.chip c
    ∧ c.rest = { s.chip.rest with mem := c.mem, cel := c.cel, err := c.err }
    ∧ Frame (rCEL_CNT.addr 6 0 :: rECC_INJ.addr 0 0 :: celRegs) celIrqs s.chip c := by
  obtain ⟨d, hwrite, hkeeps, hbytes, hsame⟩ := celClientWrite_stored (c := s.chip.counted) hup hallowed hhead htail
  have hdone : s.chip.KeepsWrite (d.answer 0) := .of_eq ((counted_keepsRead s.chip).ofRead.trans hkeeps) rfl rfl rfl
  refine does_cellarWrite hmay hlow hhigh hend ?_
  rw [celBusWrite_ok (c := s.chip.counted) hwrite]
  exact ⟨rfl, (bytes_congr (c := d) (d := settle (d.answer 0)) rfl ..).trans hbytes, hsame, hdone.write_rest, hdone.frame⟩

theorem does_cellarWrite_refused (hmay : s.chip.mayAccess a = true) (hlow : celBase ≤ addr.toNat) (hhigh : addr.toNat < 0xA0000000)
    (hend : addr.toNat + l.length ≤ 0xA0000000) (hl : l ≠ []) (hup : s.chip.celUp = true)
    (hrefused : ∀ k < l.length, s.chip.celMayWrite a.master (s.chip.worldS a) (addr.toNat + k) = false) : Does s (exec (.cellarWrite a addr l) s) fun c =>
    c.rsp = { val := 0, err := true } ∧ c.mem = s.chip.mem ∧ c.rd rCEL_CNT 5 = s.chip.rd rCEL_CNT 5 + 1
    ∧ (a.master ≠ .raster → Reports 0x06 0x73 s.chip c) ∧ c.irqs.getLsbD 59 = true ∧ (sysProc a.master = true → c.irqs.getLsbD 1 = true)
    ∧ c.rest = { s.chip.rest with cel := c.cel, err := c.err } ∧ Frame celRegs celIrqs s.chip c := by
  obtain ⟨d, hwrite, hkeeps, hcount, hreport, hirq⟩ := celClientWrite_refused (c := s.chip.counted) hup hl hrefused
  obtain ⟨hrsp, hone, hbus⟩ := celBusWrite_fails (c := s.chip.counted) hwrite nofun
  obtain ⟨hmem, hrest, hframe⟩ := read_settled (((counted_keepsRead s.chip).trans hkeeps).trans hbus.ofBus)
  refine does_cellarWrite hmay hlow hhigh hend ⟨hrsp, hmem, (hbus.rd (by decide)).trans hcount, fun hm => ?_, ?_, fun h => settled_irq_one (hone h), hrest,
    hframe⟩
  · exact (hbus.bus_reports (hreport hm)).settle
  · exact hbus.raised hirq (by decide) (by decide)

theorem does_cellarWrite_poisoned (hmay : s.chip.mayAccess a = true) (hlow : celBase ≤ addr.toNat) (hhigh : addr.toNat < 0xA0000000)
    (hl : l ≠ []) (hlen : l.length < 4) (hword : addr.toNat % 4 + l.length ≤ 4) (hup : s.chip.celUp = true)
    (hallowed : s.chip.celMayWrite a.master (s.chip.worldS a) (addr.toNat / 4 * 4) = true) (hv : s.chip.celView (addr.toNat / 4 * 4) = none) :
    Does s (exec (.cellarWrite a addr l) s) fun c =>
    c.rsp = { val := 0, err := true } ∧ c.mem = s.chip.mem ∧ (sysProc a.master = true → c.irqs.getLsbD 1 = true)
    ∧ c.rest = { s.chip.rest with cel := c.cel, err := c.err } ∧ Frame celRegs celIrqs s.chip c := by
  obtain ⟨d, hwrite, hkeeps⟩ := celClientWrite_poisoned (c := s.chip.counted) hup hl hlen hword hallowed hv
  obtain ⟨hrsp, hone, hbus⟩ := celBusWrite_fails (c := s.chip.counted) hwrite nofun
  obtain ⟨hmem, hrest, hframe⟩ := read_settled (((counted_keepsRead s.chip).trans hkeeps).trans hbus.ofBus)
  exact does_cellarWrite hmay hlow hhigh (by omega) ⟨hrsp, hmem, fun h => settled_irq_one (hone h), hrest, hframe⟩

/-- An access that finds nothing to serve it ends in a bus error: it is answered with one, interrupt 1 is raised, and of the
rest of the module its reports alone change (R31). -/
def Chip.BusFails (c d : Chip) : Prop :=
  d.rsp = { val := 0, err := true } ∧ d.irqs.getLsbD 1 = true ∧ d.rest = { c.rest with err := d.err } ∧ Frame celRegs celIrqs c d

theorem bus_settled (h : c.KeepsBus d) : (settle d).rest = { c.rest with err := (settle d).err } ∧ Frame celRegs celIrqs c (settle d) :=
  ⟨h.bus_rest, h.ofBus.frame⟩

theorem counted_keepsBus (c : Chip) : c.KeepsBus c.counted := .of_eq .refl rfl rfl rfl

theorem does_cellarWrite_down (hmay : s.chip.mayAccess a = true) (hlow : celBase ≤ addr.toNat) (hhigh : addr.toNat < 0xA0000000)
    (hend : addr.toNat + l.length ≤ 0xA0000000) (hup : s.chip.celUp = false) : Does s (exec (.cellarWrite a addr l) s) s.chip.BusFails := by
  have hbus := celEnd_keepsBus s.chip.counted a true addr 0 .down
  refine does_cellarWrite hmay hlow hhigh hend ?_
  rw [celBusWrite_down (c := s.chip.counted) hup]
  exact ⟨(settled_fails (r := .down) s.chip.counted a true addr 0 nofun).1, settled_irq_one (celEnd_down ..), bus_settled ((counted_keepsBus _).trans hbus)⟩

/-! ## Compare-and-swaps (R157) -/

theorem does_cellarCas_clean (hmay : s.chip.mayAccess a = true) (hlow : celBase ≤ addr.toNat) (hend : addr.toNat + 4 ≤ 0x9FC00000)
    (hn : addr.toNat % 4 = 0) (hup : s.chip.celUp = true) (hawake : s.chip.pstate = 0) (hwb : s.chip.cel.wb = [])
    (hallowed : s.chip.celMayWrite a.master (s.chip.worldS a) addr.toNat = true) (hecc : s.chip.ecc addr.toNat = 0)
    (harm : s.chip.rb rECC_INJ 0 0 31 = false) : Does s (exec (.cellarCas a addr expect new) s) fun c =>
    c.rsp = { val := s.chip.word addr.toNat, err := false } ∧ c.word addr.toNat = (if s.chip.word addr.toNat = expect then new else s.chip.word addr.toNat)
    ∧ SameBytes (fun n => addr.toNat ≤ n ∧ n < addr.toNat + 4) s.chip c ∧ c.rest = { s.chip.rest with mem := c.mem, cel := { s.chip.cel with ecc := c.cel.ecc } }
    ∧ Frame [] [] s.chip c := by
  have hword : addr.toNat / 4 * 4 = addr.toNat := by omega
  have hswap := celSwap_clean (c := s.chip.counted) (n := addr.toNat / 4 * 4) (expect := expect) (new := new) hup hawake hwb
    (by rw [hword]; exact hecc) (by rw [hword]; exact hallowed) harm
  refine does_cellarCas hmay hlow (by omega) hswap ?_
  rw [hword]
  by_cases heq : s.chip.word addr.toNat = expect
  · rw [if_pos (show s.chip.counted.word addr.toNat = expect from heq), if_pos heq]
    obtain ⟨hrsp, hnew, -, hbytes, hrest, hframe⟩ := coded_answered s.chip addr.toNat new (s.chip.word addr.toNat) 0 rfl
    exact ⟨hrsp, hnew, hbytes, hrest, hframe⟩
  · rw [if_neg (show ¬ s.chip.counted.word addr.toNat = expect from heq), if_neg heq]
    exact ⟨rfl, rfl, fun _ _ => rfl, rfl, (Chip.Keeps.of_eq (g := id) (Chip.Keeps.refl (c := s.chip)) rfl rfl rfl).frame⟩

theorem does_cellarCas_any (hmay : s.chip.mayAccess a = true) (hlow : celBase ≤ addr.toNat) (hhigh : addr.toNat < 0xA0000000)
    (hup : s.chip.celUp = true) (hallowed : s.chip.celMayWrite a.master (s.chip.worldS a) (addr.toNat / 4 * 4) = true) :
    Does s (exec (.cellarCas a addr expect new) s) fun c =>
    (s.chip.celView (addr.toNat / 4 * 4) ≠ none → c.rsp = { val := (s.chip.celView (addr.toNat / 4 * 4)).getD 0, err := false })
    ∧ (s.chip.celView (addr.toNat / 4 * 4) = some expect → c.word (addr.toNat / 4 * 4) = new)
    ∧ (s.chip.celView (addr.toNat / 4 * 4) ≠ some expect → c.mem = s.chip.mem)
    ∧ (s.chip.celView (addr.toNat / 4 * 4) = none → c.rsp = { val := 0, err := true } ∧ c.mem = s.chip.mem ∧ (sysProc a.master = true → c.irqs.getLsbD 1 = true))
    ∧ c.pstate = 0 ∧ SameBytes (fun n => addr.toNat / 4 * 4 ≤ n ∧ n < addr.toNat / 4 * 4 + 4) s.chip c
    ∧ c.rest = { s.chip.rest with mem := c.mem, cel := c.cel, err := c.err }
    ∧ Frame (rCEL_CNT.addr 6 0 :: rECC_INJ.addr 0 0 :: celRegs) celIrqs s.chip c := by
  have hn : addr.toNat / 4 * 4 % 4 = 0 := by omega
  cases hv : s.chip.celView (addr.toNat / 4 * 4) with
  | none =>
    obtain ⟨d, hswap, hkeeps, hstate⟩ := celSwap_none (c := s.chip.counted) (expect := expect) (new := new) hup hallowed hv
    have hbus := celEnd_keepsBus d a true addr 0 .poison
    have hall := ((counted_keepsRead s.chip).trans hkeeps).trans hbus.ofBus
    obtain ⟨hrsp, hirq⟩ := settled_fails (r := .poison) d a true addr 0 nofun
    exact does_cellarCas hmay hlow hhigh hswap ⟨fun h => absurd rfl h, nofun, fun _ => hall.read_mem, fun _ => ⟨hrsp, hall.read_mem, hirq⟩,
      (pstate_congr (rd_settle ..)).trans (hbus.bus_pstate.trans hstate), fun _ _ => byte_congr hall.read_mem _, hall.ofRead.write_rest, hall.ofRead.frame⟩
  | some w =>
    obtain ⟨d, hswap, hkeeps, hstate⟩ := celSwap_some (c := s.chip.counted) (expect := expect) (new := new) hup hallowed hv
    have hread := (counted_keepsRead s.chip).trans hkeeps
    by_cases heq : w = expect
    · rw [if_pos heq] at hswap
      have hstore := celStore_stored d (s.chip.worldS a) new hn
      have hword := celStore_word d (s.chip.worldS a) (addr.toNat / 4 * 4) new
      generalize d.celStore (s.chip.worldS a) (addr.toNat / 4 * 4) new = e at *
      have hall : s.chip.KeepsWrite (e.answer w) := .of_eq (hread.ofRead.trans hstore.keeps) rfl rfl rfl
      have hlen : (wordBytes new).length = 4 := rfl
      refine does_cellarCas hmay hlow hhigh hswap ⟨fun _ => rfl, fun _ => hword, fun h => absurd (congrArg some heq) h, nofun, hstore.pstate.trans hstate,
        fun k hk => ?_, hall.write_rest, hall.frame⟩
      exact (hstore.outside k (by omega)).trans (byte_congr hread.read_mem k)
    · rw [if_neg heq] at hswap
      have hall : s.chip.KeepsRead (d.answer w) := .of_eq hread rfl rfl rfl
      exact does_cellarCas hmay hlow hhigh hswap ⟨fun _ => rfl, fun h => absurd (Option.some.inj h) heq, fun _ => hall.read_mem, nofun, hstate,
        fun _ _ => byte_congr hall.read_mem _, hall.ofRead.write_rest, hall.ofRead.frame⟩

theorem does_cellarCas_refused (hmay : s.chip.mayAccess a = true) (hlow : celBase ≤ addr.toNat) (hhigh : addr.toNat < 0xA0000000)
    (hrefused : s.chip.celUp = false ∨ s.chip.celMayWrite a.master (s.chip.worldS a) (addr.toNat / 4 * 4) = false) :
    Does s (exec (.cellarCas a addr expect new) s) fun c =>
    c.rsp = { val := 0, err := true } ∧ c.mem = s.chip.mem ∧ (sysProc a.master = true → c.irqs.getLsbD 1 = true)
    ∧ (s.chip.celUp = true → c.rd rCEL_CNT 5 = s.chip.rd rCEL_CNT 5 + 1 ∧ Reports 0x06 0x73 s.chip c ∧ c.irqs.getLsbD 59 = true)
    ∧ c.rest = { s.chip.rest with cel := c.cel, err := c.err } ∧ Frame celRegs celIrqs s.chip c := by
  cases hup : s.chip.celUp with
  | false =>
    have hbus := celEnd_keepsBus s.chip.counted a true addr 0 .down
    obtain ⟨hmem, hrest, hframe⟩ := read_settled ((counted_keepsRead s.chip).trans hbus.ofBus)
    obtain ⟨hrsp, hirq⟩ := settled_fails (r := .down) s.chip.counted a true addr 0 nofun
    exact does_cellarCas hmay hlow hhigh (celSwap_down hup) ⟨hrsp, hmem, hirq, nofun, hrest, hframe⟩
  | true =>
    have hdenied : s.chip.counted.celMayWrite a.master (s.chip.worldS a) (addr.toNat / 4 * 4) = false := hrefused.resolve_left (by rw [hup]; decide)
    have hdeny := celDeny_keepsRead s.chip.counted (addr.toNat / 4 * 4)
    have hbus := celEnd_keepsBus (s.chip.counted.celDeny (addr.toNat / 4 * 4)) a true addr 0 .denied
    obtain ⟨hmem, hrest, hframe⟩ := read_settled (((counted_keepsRead s.chip).trans hdeny).trans hbus.ofBus)
    obtain ⟨hrsp, hirq⟩ := settled_fails (r := .denied) (s.chip.counted.celDeny (addr.toNat / 4 * 4)) a true addr 0 nofun
    refine does_cellarCas hmay hlow hhigh (celSwap_denied hup hdenied) ⟨hrsp, hmem, hirq, fun _ => ⟨?_, ?_, ?_⟩, hrest, hframe⟩
    · exact (hbus.rd (by decide)).trans (celDeny_count ..)
    · exact (hbus.bus_reports (celDeny_reports s.chip.counted _)).settle
    · exact hbus.raised (celDeny_raised ..) (by decide) (by decide)

/-! ## Accesses outside the Cellar -/

/-- What a bus error leaves at the end of its command. -/
theorem busErr_settled (c : Chip) (m : Master) (secure write : Bool) (addr : Word) (cause : Nat) :
    c.BusFails (settle (c.counted.busErr m secure write addr cause)) := by
  obtain ⟨hrsp, hirq, hbus⟩ := busErr_fails c.counted m secure write addr cause
  exact ⟨hrsp, settled_irq_one hirq, bus_settled ((counted_keepsBus c).trans hbus)⟩

theorem does_cellar_outside (hmay : s.chip.mayAccess a = true) (harea : areaOf addr.toNat ≠ Area.cellar) :
    Does s (exec (.cellarRead a addr) s) s.chip.BusFails ∧ Does s (exec (.cellarWrite a addr l) s) s.chip.BusFails
    ∧ Does s (exec (.cellarCas a addr expect new) s) s.chip.BusFails := by
  have hmay' : s.chip.counted.mayAccess a = true := hmay
  have hout : (areaOf addr.toNat == Area.cellar) = false := by simpa using harea
  refine ⟨does_eq (w := s.chip.counted.busErr a.master (s.chip.worldS a) false addr 0) ?_ (busErr_settled s.chip ..),
    does_eq (w := s.chip.counted.busErr a.master (s.chip.worldS a) true addr 0) ?_ (busErr_settled s.chip ..),
    does_eq (w := s.chip.counted.busErr a.master (s.chip.worldS a) true addr 0) ?_ (busErr_settled s.chip ..)⟩
  all_goals
    rw [hmay', hout]
    rfl

/-! ## The write-back (R149, R150) -/

/-- The oldest write-back taken. -/
def Chip.wbTaken (c : Chip) (t : List WriteBack) : Chip := { c with cel := { c.cel with wb := t } }

theorem does_cellarWriteback {w : WriteBack} {t : List WriteBack} (halive : s.chip.alive .cel = true) (hwb : s.chip.cel.wb = w :: t) :
    Does s (exec .cellarWriteback s) fun c =>
    c.cel.wb = t ∧ c.word w.addr = w.data ∧ c.ecc w.addr = (if w.poison = true then 0xFF else 0)
    ∧ SameBytes (fun n => w.addr ≤ n ∧ n < w.addr + 4) s.chip c ∧ c.rest = { s.chip.rest with mem := c.mem, cel := { s.chip.cel with wb := t, ecc := c.cel.ecc } }
    ∧ Frame [] [] s.chip c := by
  have hrest := coded_rest (s.chip.counted.wbTaken t) w.addr w.data (if w.poison = true then 0xFF else 0)
  have hcel := coded_cel (s.chip.counted.wbTaken t) w.addr w.data (if w.poison = true then 0xFF else 0)
  have hkeeps := coded_keeps (s.chip.counted.wbTaken t) w.addr w.data (if w.poison = true then 0xFF else 0)
  have hshown := coded_shown (c := s.chip.counted.wbTaken t) (n := w.addr) (v := w.data) (e := if w.poison = true then 0xFF else 0)
    (f := settle ((s.chip.counted.wbTaken t).coded w.addr w.data (if w.poison = true then 0xFF else 0)))
  refine does_eq (w := (s.chip.counted.wbTaken t).coded w.addr w.data (if w.poison = true then 0xFF else 0)) ?_ ?_
  · have halive' : s.chip.counted.alive .cel = true := halive
    have hwb' : s.chip.counted.cel.wb = w :: t := hwb
    rw [halive', hwb']
    exact (apply_ite (Chip.coded (s.chip.counted.wbTaken t) w.addr w.data) (w.poison = true) 0xFF 0).symm
  · generalize (s.chip.counted.wbTaken t).coded w.addr w.data (if w.poison = true then 0xFF else 0) = d at *
    obtain ⟨hword, hecc, hbytes⟩ := hshown rfl rfl
    have htaken : s.chip.Keeps (fun _ => ()) [] [] (s.chip.counted.wbTaken t) := .of_eq .refl rfl rfl rfl
    exact ⟨congrArg CelSt.wb hcel, hword, hecc, hbytes, hrest, (htaken.trans hkeeps.plain).frame⟩

theorem does_cellarWriteback_none (hwb : s.chip.cel.wb = []) : Does s (exec .cellarWriteback s) fun c => c.rest = s.chip.rest ∧ Frame [] [] s.chip c := by
  refine does_eq ?_ (quiet s.chip)
  have hwb' : s.chip.counted.cel.wb = [] := hwb
  rw [hwb']
  exact ite_self _

end

/-- Settles O20: each way an access to the Cellar can end, and what it then leaves; a write goes word by word, each word a whole one stored or
a read-modify-write, which leaves what a read of every other word finds. -/
theorem cellarAccesses : Obligations.cellar_accesses := by
  unfold Obligations.cellar_accesses
  exact ⟨fun _ _ _ => does_cellarEnable,
    fun _ => does_cellarFillDone,
    fun _ => does_cellarFillDone_waits,
    fun _ _ _ => does_cellarRead_clean,
    fun _ _ _ _ => does_cellarWrite_word,
    fun _ _ _ _ _ => does_cellarCas_clean,
    fun _ _ _ => does_cellarWriteback,
    fun _ => does_cellarWriteback_none,
    fun _ _ _ => does_cellarRead_any,
    fun _ _ _ _ => does_cellarWrite_stored,
    fun _ _ _ _ => does_cellarWrite_refused,
    fun _ _ _ _ => does_cellarWrite_poisoned,
    fun _ _ _ _ => does_cellarWrite_down,
    fun _ _ _ _ _ => does_cellarCas_any,
    fun _ _ _ _ _ => does_cellarCas_refused,
    fun _ _ _ _ _ _ => does_cellar_outside⟩

end Sys2Proof.Machine

/-! SUPPORT. The scrubber's bursts, the tolerance and the power states of the Cellar (spec/05 R148, R165..R170). -/

namespace Sys2Proof.Machine

section

variable {s : State} {a : Access} {c d e f : Chip} {n k p t : Nat} {v : Word} {l : List WriteBack} {P : Chip → Prop}

/-! ## The words of a burst (R148, R149) -/

theorem noted_noted (x : CelSt) (t k t' k' : Nat) (l l' : List WriteBack) : (x.noted t k l).noted t' k' l' = x.noted t' k' (l ++ l') := by
  simp only [CelSt.noted, List.append_assoc]

theorem wbOf_congr (hmem : d.mem = c.mem) (hecc : d.cel.ecc = c.cel.ecc) (n : Nat) : d.wbOf n = c.wbOf n := by
  have hdev : d.ecc n = c.ecc n := by rw [Chip.ecc, hecc, Chip.ecc]
  rw [Chip.wbOf, word_congr_mem hmem, hdev, Chip.wbOf]

/-- Each word of a burst is read, and those that are wrong are queued to be written back. -/
theorem scrubWords_reads (k : Nat) (c : Chip) (n : Nat) (hwb : ∀ w ∈ c.cel.wb, w.addr < n) : c.KeepsRead (c.scrubWords n k) ∧ (c.scrubWords n k).pstate = c.pstate
    ∧ ∃ t q, (c.scrubWords n k).cel = c.cel.noted t q ((List.range k).filterMap fun i => c.wbOf (n + 4 * i)) := by
  induction k generalizing c n with
  | zero => exact ⟨.refl, rfl, _, _, (CelSt.noted_nil _).symm⟩
  | succ k ih =>
    obtain ⟨hkeeps, hstate, ⟨t, q, l, hcel, hl, hscrub⟩, -⟩ := celRead_reads c .scrub n
    have hnone : c.poisonQueued n = false := by
      rw [Chip.poisonQueued, List.any_eq_false]
      intro w hw
      have hlt := hwb w hw
      simp only [Bool.and_eq_true, decide_eq_true_eq]
      omega
    obtain ⟨hkeeps', hstate', t', q', hcel'⟩ := ih (c.celRead .scrub n).1 (n + 4) fun w hw => by
      rw [hcel, CelSt.noted] at hw
      obtain h | h := List.mem_append.mp hw
      · exact Nat.lt_of_lt_of_le (hwb w h) (by omega)
      · rw [hl w h]
        omega
    refine ⟨hkeeps.trans hkeeps', hstate'.trans hstate, t', q', hcel'.trans ?_⟩
    have hsame : ∀ i, (c.celRead .scrub n).1.wbOf i = c.wbOf i := wbOf_congr hkeeps.read_mem (by rw [hcel]; rfl)
    rw [hcel, noted_noted, hscrub rfl hnone, List.range_succ_eq_map, List.filterMap_cons, List.filterMap_map]
    congr 1
    have htail : (List.range k).filterMap (fun i => (c.celRead .scrub n).1.wbOf (n + 4 + 4 * i))
        = (List.range k).filterMap ((fun i => c.wbOf (n + 4 * i)) ∘ Nat.succ) := by
      refine List.filterMap_congr fun i _ => ?_
      rw [hsame, Function.comp_apply]
      congr 1
      omega
    rw [htail, Nat.mul_zero, Nat.add_zero]
    cases c.wbOf n <;> rfl

/-- The words of a burst that finds nothing wrong. -/
theorem scrubWords_clean (hecc : c.cel.ecc = []) (hwb : c.cel.wb = []) (n k : Nat) : c.scrubWords n k = c := by
  induction k generalizing n with
  | zero => rfl
  | succ k ih =>
    rw [Chip.scrubWords, celRead_clean hwb (by rw [Chip.ecc, hecc]; rfl)]
    exact ih _

/-! ## A burst's end (R148) -/

/-- The controller with a scrub burst due or not. -/
def Chip.setDue (c : Chip) (b : Bool) : Chip := { c with cel := { c.cel with scrubDue := b } }

/-- The scrubber's position advanced past burst `p`. -/
def Chip.scrubMoved (c : Chip) (p : Nat) : Chip := c.wr rCEL_SCRUB_POS 0 0 (BitVec.ofNat 32 ((p + 1) % 2 ^ 23))

/-- Burst `p` read: the position moved, and a pass counted where it was the last. -/
def Chip.scrubDone (c : Chip) (p : Nat) : Chip := if p + 1 = 2 ^ 23 then ((c.scrubMoved p).inc rCEL_CNT 3 0).irq 60 else c.scrubMoved p

theorem scrubMoved_keeps (c : Chip) (p : Nat) : c.Keeps id [rCEL_SCRUB_POS.addr 0 0] [] (c.scrubMoved p) := .wr .refl _ (List.mem_singleton_self _)

theorem scrubDone_pass (h : p + 1 = 2 ^ 23) : c.scrubDone p = ((c.scrubMoved p).inc rCEL_CNT 3 0).irq 60 := if_pos h

theorem scrubDone_short (h : p + 1 ≠ 2 ^ 23) : c.scrubDone p = c.scrubMoved p := if_neg h

theorem scrubDone_keeps (c : Chip) (p : Nat) : c.Keeps id [rCEL_SCRUB_POS.addr 0 0, rCEL_CNT.addr 3 0] [60] (c.scrubDone p) := by
  have hmoved := (scrubMoved_keeps c p).mono (rs' := [rCEL_SCRUB_POS.addr 0 0, rCEL_CNT.addr 3 0]) (is' := [60]) (by simp) (by simp)
  exact .ite ((hmoved.wr _ (by simp)).irq (by simp)) hmoved

theorem scrubDone_pos (c : Chip) (p : Nat) : (c.scrubDone p).rd rCEL_SCRUB_POS = BitVec.ofNat 32 ((p + 1) % 2 ^ 23) := by
  by_cases h : p + 1 = 2 ^ 23
  · rw [scrubDone_pass h, Chip.rd_irq, Chip.inc, Chip.rd_wr_other _ _ (by decide)]
    exact Chip.rd_wr_same ..
  · rw [scrubDone_short h]
    exact Chip.rd_wr_same ..

theorem scrubDone_passes (c : Chip) (h : p + 1 = 2 ^ 23) : (c.scrubDone p).rd rCEL_CNT 3 = c.rd rCEL_CNT 3 + 1 ∧ (c.scrubDone p).irqs.getLsbD 60 = true := by
  rw [scrubDone_pass h, Chip.rd_irq, Chip.inc, Chip.rd_wr_same, (scrubMoved_keeps c p).rd (by decide)]
  exact ⟨rfl, irq_irqs_same _ (by decide)⟩

theorem scrubDone_cel (c : Chip) (p : Nat) : (c.scrubDone p).cel = c.cel := (scrubDone_keeps c p).same Chip.cel fun _ => rfl

theorem scrubDone_pstate (c : Chip) (p : Nat) : (c.scrubDone p).pstate = c.pstate := pstate_congr ((scrubDone_keeps c p).rd (by decide))

theorem does_scrubBurst (hup : s.chip.celUp = true) (hscrub : s.chip.rb rCEL_CTRL 0 0 1 = true) (hp : p = s.chip.rf rCEL_SCRUB_POS 0 0 22 0)
    (h : P (settle (((s.chip.counted.setDue false).celWake.scrubWords (celBase + 64 * p) 16).scrubDone p))) : Does s (exec (.scrubBurst false) s) P := by
  subst hp
  refine does_eq ?_ h
  have hup' : s.chip.counted.celUp = true := hup
  have hscrub' : s.chip.counted.rb rCEL_CTRL 0 0 1 = true := hscrub
  rw [hup', hscrub']
  rfl

theorem does_scrubBurst_clean (hup : s.chip.celUp = true) (hscrub : s.chip.rb rCEL_CTRL 0 0 1 = true) (hawake : s.chip.pstate = 0)
    (hecc : s.chip.cel.ecc = []) (hwb : s.chip.cel.wb = []) : Does s (exec (.scrubBurst false) s) fun c =>
    c.rest = { s.chip.rest with cel := { s.chip.cel with scrubDue := false } } ∧ c.rd rCEL_SCRUB_POS = BitVec.ofNat 32 ((s.chip.rf rCEL_SCRUB_POS 0 0 22 0 + 1) % 2 ^ 23)
    ∧ (s.chip.rf rCEL_SCRUB_POS 0 0 22 0 + 1 = 2 ^ 23 → c.rd rCEL_CNT 3 = s.chip.rd rCEL_CNT 3 + 1 ∧ c.irqs.getLsbD 60 = true)
    ∧ (s.chip.rf rCEL_SCRUB_POS 0 0 22 0 + 1 < 2 ^ 23 → Frame [rCEL_SCRUB_POS.addr 0 0] [] s.chip c)
    ∧ Frame [rCEL_SCRUB_POS.addr 0 0, rCEL_CNT.addr 3 0] [60] s.chip c := by
  refine does_scrubBurst hup hscrub rfl ?_
  rw [celWake_awake (c := s.chip.counted.setDue false) hawake, scrubWords_clean (c := s.chip.counted.setDue false) hecc hwb]
  generalize s.chip.rf rCEL_SCRUB_POS 0 0 22 0 = p
  have hdue : s.chip.Keeps (fun _ => ()) [] [] (s.chip.counted.setDue false) := .of_eq .refl rfl rfl rfl
  have hdone := scrubDone_keeps (s.chip.counted.setDue false) p
  refine ⟨?_, (rd_settle ..).trans (scrubDone_pos ..), fun h => ?_, fun h => ?_, ?_⟩
  · exact hdone.sameView
  · obtain ⟨hcount, hirq⟩ := scrubDone_passes (s.chip.counted.setDue false) h
    exact ⟨hcount, (settle_irqs_other _ (by decide)).trans hirq⟩
  · rw [scrubDone_short (by omega)]
    exact ((hdue.mono (by simp) (by simp)).trans (scrubMoved_keeps ..).plain).frame
  · exact ((hdue.mono (by simp) (by simp)).trans hdone.plain).frame

theorem does_scrubBurst_queues (hup : s.chip.celUp = true) (hscrub : s.chip.rb rCEL_CTRL 0 0 1 = true) (hwb : s.chip.cel.wb = [])
    (hn : n = celBase + 64 * s.chip.rf rCEL_SCRUB_POS 0 0 22 0) : Does s (exec (.scrubBurst false) s) fun c =>
    c.rd rCEL_SCRUB_POS = BitVec.ofNat 32 ((s.chip.rf rCEL_SCRUB_POS 0 0 22 0 + 1) % 2 ^ 23) ∧ c.cel.scrubDue = false ∧ c.pstate = 0
    ∧ c.cel.wb = (List.range 16).filterMap (fun i => s.chip.wbOf (n + 4 * i))
    ∧ c.rest = { s.chip.rest with cel := c.cel, err := c.err } ∧ c.cel.ecc = s.chip.cel.ecc
    ∧ Frame (rCEL_SCRUB_POS.addr 0 0 :: rCEL_CNT.addr 3 0 :: celRegs) (60 :: celIrqs) s.chip c := by
  refine does_scrubBurst hup hscrub rfl ?_
  rw [← hn]
  have hdue : s.chip.KeepsRead (s.chip.counted.setDue false) := .of_eq .refl rfl rfl rfl
  have hwake := celWake_cel (s.chip.counted.setDue false)
  have hcel : ∃ j, (s.chip.counted.setDue false).celWake.cel = { s.chip.cel with scrubDue := false, posted := j } := by
    rw [hwake]
    split
    · exact ⟨s.chip.cel.posted, rfl⟩
    · exact ⟨0, rfl⟩
  obtain ⟨j, hj⟩ := hcel
  have hawake := hdue.trans (celWake_keepsRead _)
  have hstate := pstate_celWake (s.chip.counted.setDue false)
  generalize (s.chip.counted.setDue false).celWake = e at *
  obtain ⟨hkeeps, hstate', t, q, hread⟩ := scrubWords_reads 16 e n (by rw [hj]; simp [hwb])
  generalize e.scrubWords n 16 = f at *
  generalize s.chip.rf rCEL_SCRUB_POS 0 0 22 0 = p
  have hdone := scrubDone_keeps f p
  have hall := hawake.trans hkeeps
  have hcelf : (settle (f.scrubDone p)).cel = e.cel.noted t q ((List.range 16).filterMap fun i => e.wbOf (n + 4 * i)) := (scrubDone_cel ..).trans hread
  refine ⟨scrubDone_pos .., ?_, ?_, ?_, ?_, ?_, ?_⟩
  · rw [hcelf, hj]
    rfl
  · exact (scrubDone_pstate ..).trans (hstate'.trans hstate)
  · rw [hcelf, CelSt.noted, hj]
    simp only [hwb, List.nil_append]
    exact List.filterMap_congr fun i _ => wbOf_congr hawake.read_mem (by rw [hj]) _
  · have hview : (settle (f.scrubDone p)).rest = f.rest := hdone.sameView
    have hcel' : (settle (f.scrubDone p)).cel = f.cel := scrubDone_cel ..
    have herr : (settle (f.scrubDone p)).err = f.err := hdone.same Chip.err fun _ => rfl
    rw [hview, hcel', herr]
    exact hall.read_rest
  · rw [hcelf, hj]
    rfl
  · exact ((hall.plain.mono (fun _ h => by simp [h]) (fun _ h => by simp [h])).trans (hdone.plain.mono (by simp +contextual) (by simp +contextual))).frame

theorem does_scrubBurst_behind (hup : s.chip.celUp = true) (hscrub : s.chip.rb rCEL_CTRL 0 0 1 = true) : Does s (exec (.scrubBurst true) s) fun c =>
    c.rest = { s.chip.rest with err := c.err, cel := { s.chip.cel with scrubDue := true } } ∧ c.rd rCEL_STATUS = setBit (s.chip.rd rCEL_STATUS) 5 true
    ∧ Reports 0x06 0x74 s.chip c ∧ c.irqs.getLsbD 61 = true ∧ Frame (rCEL_STATUS.addr 0 0 :: logRegs 0x06) [61, 209] s.chip c := by
  have hdue : s.chip.Keeps (fun _ => ()) (rCEL_STATUS.addr 0 0 :: logRegs 0x06) [61, 209] (s.chip.counted.setDue true) := .of_eq .refl rfl rfl rfl
  have hshown := hdue.wb (r := rCEL_STATUS) (i := 0) (j := 0) 5 true List.mem_cons_self
  refine does_eq (w := (((s.chip.counted.setDue true).wb rCEL_STATUS 0 0 5 true).log 0x06 0x74 (s.chip.rd rCEL_SCRUB_POS)).irq 61) ?_ ⟨?_, ?_, ?_, ?_, ?_⟩
  · have hup' : s.chip.counted.celUp = true := hup
    have hscrub' : s.chip.counted.rb rCEL_CTRL 0 0 1 = true := hscrub
    rw [hup', hscrub']
    rfl
  · rw [rest_settle, Chip.rest_irq, rest_log, settle_err, Chip.irq_err, Chip.wb, Chip.rest_wr]
    rfl
  · rw [rd_settle, Chip.rd_irq, Chip.rd_log_other (by decide), Chip.wb, Chip.rd_wr_same]
    rfl
  · exact ((Reports.log 0x06 0x74 _ (hshown.rd (by decide)).symm (by rw [Chip.wb, Chip.wr_err]; rfl) (by decide)).irq 61).settle
  · exact settled_irq_raised (by decide) (by decide)
  · exact (Chip.Keeps.irq (.log hshown (fun _ _ => rfl) (fun _ h => List.mem_cons_of_mem _ h) (by simp)) (by simp)).frame

theorem does_scrubBurst_off {behind : Bool} (h : s.chip.celUp = false ∨ s.chip.rb rCEL_CTRL 0 0 1 = false) : Does s (exec (.scrubBurst behind) s) fun c =>
    c.rest = s.chip.rest ∧ Frame [] [] s.chip c := by
  have hoff : (s.chip.counted.celUp && s.chip.counted.rb rCEL_CTRL 0 0 1) = false := by
    obtain h | h := h
    · exact (congrArg (· && _) h).trans (Bool.false_and _)
    · exact (congrArg (_ && ·) h).trans (Bool.and_false _)
  refine does_eq ?_ (quiet s.chip)
  rw [hoff]
  rfl

/-! ## Error injection (R153, R591) -/

theorem does_eccInjWrite (ht : s.chip.takes a rECC_INJ 0 0 v) : Does s (exec (.eccInjWrite a v) s) fun c =>
    c.rest = s.chip.rest ∧ c.rd rECC_INJ = rECC_INJ.merge (s.chip.rd rECC_INJ) v ∧ c.rf rECC_INJ 0 0 7 0 = fld v 7 0 ∧ c.rb rECC_INJ 0 0 31 = bit v 31
    ∧ Frame [rECC_INJ.addr 0 0] [] s.chip c :=
  does_written rECC_INJ_stands ht rfl rfl ⟨rfl, written_rd .., written_rf (c := s.chip.counted) (by decide) (by decide),
    written_rb (c := s.chip.counted) (by decide) (by decide), (stored_keeps s.chip.counted ..).frame⟩

/-! ## The tolerance (R165, R166) -/

/-- With no port in transmission nothing bounds the tolerance. -/
theorem tolNow_idle (h : ∀ p < 48, c.inTransmission p = false) : c.tolNow = 0xFFFFFFFF := by
  have hnone : (List.range 48).filter (fun p => c.inTransmission p) = [] := by
    rw [List.filter_eq_nil_iff]
    intro p hp
    rw [h p (List.mem_range.mp hp)]
    decide
  rw [Chip.tolNow, hnone]
  rfl

/-- The tolerance is never above the time a transmitting port has left. -/
theorem tolNow_le (hp : p < 48) (h : c.inTransmission p = true) : c.tolNow.toNat ≤ c.tDry p := by
  have hmem : c.tDry p ∈ ((List.range 48).filter fun p => c.inTransmission p).map fun p => c.tDry p :=
    List.mem_map_of_mem (List.mem_filter.mpr ⟨List.mem_range.mpr hp, h⟩)
  unfold Chip.tolNow
  dsimp only
  split
  · next hmin =>
    rw [List.min?_eq_none_iff] at hmin
    rw [hmin] at hmem
    exact absurd hmem List.not_mem_nil
  · next d hmin =>
    have hd : d ≤ c.tDry p := (List.min?_eq_some_iff.mp hmin).2 _ hmem
    have hword : ∀ x, x ≤ d → (BitVec.ofNat 32 (min 0xFFFFFFFF x)).toNat ≤ c.tDry p := fun x hx => by
      rw [BitVec.toNat_ofNat]
      omega
    refine hword _ ?_
    split
    · split
      · exact Nat.le_refl d
      · exact Nat.zero_le d
    · exact Nat.sub_le ..

/-- The tolerance a message carries, taken. -/
def Chip.tolTaken (c : Chip) (v : Word) : Chip := { c.wr rCEL_TOL 0 0 v with cel := { c.cel with tolStale := false } }

theorem does_tolMessage (hpix : s.chip.up .pix = true) (halive : s.chip.alive .cel = true) : Does s (exec (.tolMessage s.chip.tolNow) s) fun c =>
    c.rest = { s.chip.rest with cel := { s.chip.cel with tolStale := false } } ∧ c.rd rCEL_TOL = s.chip.tolNow
    ∧ ((∀ p < 48, s.chip.inTransmission p = false) → c.tol = 0xFFFFFFFF) ∧ (∀ p < 48, s.chip.inTransmission p = true → c.tol ≤ s.chip.tDry p)
    ∧ Frame [rCEL_TOL.addr 0 0] [] s.chip c := by
  have hnow : s.chip.counted.tolNow = s.chip.tolNow := .trans rfl rfl
  have hrd : (settle (s.chip.counted.tolTaken s.chip.tolNow)).rd rCEL_TOL = s.chip.tolNow := Chip.rd_wr_same s.chip.counted ..
  have htol : (settle (s.chip.counted.tolTaken s.chip.tolNow)).tol = s.chip.tolNow.toNat := by
    rw [Chip.tol, hrd]
    rfl
  have htaken : s.chip.Keeps (fun _ => ()) [rCEL_TOL.addr 0 0] [] (s.chip.counted.tolTaken s.chip.tolNow) :=
    .of_eq (Chip.Keeps.wr .refl s.chip.tolNow (List.mem_singleton_self _)) rfl rfl rfl
  refine does_when (w := s.chip.counted.tolTaken s.chip.tolNow) ?_ rfl ⟨rfl, hrd, fun h => ?_, fun p hp h => ?_, htaken.frame⟩
  · have hpix' : s.chip.counted.up .pix = true := hpix
    have halive' : s.chip.counted.alive .cel = true := halive
    rw [hpix', halive', hnow, beq_self_eq_true]
    rfl
  · rw [htol, tolNow_idle h]
    rfl
  · rw [htol]
    exact tolNow_le hp h

theorem does_tolMessage_other (h : v ≠ s.chip.tolNow) : Does s (exec (.tolMessage v) s) fun c => c.rest = s.chip.rest ∧ Frame [] [] s.chip c := by
  have hnow : s.chip.counted.tolNow = s.chip.tolNow := .trans rfl rfl
  refine does_eq (w := s.chip.counted) (if_neg ?_) (quiet s.chip)
  rw [hnow, beq_eq_false_iff_ne.mpr h, Bool.and_false]
  decide

theorem does_tolTimeout (halive : s.chip.alive .cel = true) : Does s (exec .tolTimeout s) fun c =>
    c.rest = { s.chip.rest with cel := { s.chip.cel with tolStale := true } } ∧ c.tol = 0 ∧ Frame [] [] s.chip c := by
  refine does_when halive rfl ⟨rfl, if_pos rfl, ?_⟩
  exact Chip.Keeps.frame (g := fun _ => ()) (.of_eq .refl rfl rfl rfl)

/-! ## Power states (R167..R169) -/

/-- The deepest state up to `m` that the tolerance allows. -/
theorem deepest_eq {d : Nat} (hpos : 1 ≤ d) (htol : celExit d + c.celGuard < c.tol) {m : Nat} (hd : d ≤ m)
    (hdeep : ∀ x, d < x → x ≤ m → c.tol ≤ celExit x + c.celGuard) : c.deepest m = d := by
  induction m with
  | zero => omega
  | succ m ih =>
    by_cases h : d = m + 1
    · subst h
      exact if_pos htol
    · have hnot := hdeep (m + 1) (by omega) (Nat.le_refl _)
      exact (if_neg (by omega)).trans (ih (by omega) fun x hx hm => hdeep x hx (by omega))

theorem deepest_none {m : Nat} (h : ∀ x, 1 ≤ x → x ≤ m → c.tol ≤ celExit x + c.celGuard) : c.deepest m = 0 := by
  induction m with
  | zero => rfl
  | succ m ih =>
    have hnot := h (m + 1) (by omega) (Nat.le_refl _)
    exact (if_neg (by omega)).trans (ih fun x hx hm => h x hx (by omega))

/-- What stands of the states above 3. -/
theorem of_deeper {d m : Nat} (hm : m < 4) {q : Nat → Prop} (h : ∀ e : Fin 4, d < e.val → e.val ≤ m → q e) : ∀ x, d < x → x ≤ m → q x :=
  fun x hx hle => h ⟨x, by omega⟩ hx hle

theorem maxState_lt (c : Chip) : c.rf rCEL_PWR 0 0 5 4 < 4 := Nat.mod_lt _ (by decide)

/-- The controller asleep in state `d`. -/
def Chip.asleep (c : Chip) (d : Nat) : Chip := { c.wf rCEL_STATUS 0 0 4 3 d with cel := { c.cel with since := c.now } }

/-- The controller is awake with nothing to do (R168). -/
def Chip.celIdle (c : Chip) : Bool :=
  c.celUp && c.rb rCEL_CTRL 0 0 2 && c.pstate = 0 && c.cel.posted < 32768 && c.cel.wb.isEmpty && !(c.cel.scrubDue && c.rb rCEL_CTRL 0 0 1)

/-- An idle controller goes to the deepest state allowed. -/
def Chip.powerEntry (c : Chip) : Chip :=
  if c.celIdle then (if c.deepest (c.rf rCEL_PWR 0 0 5 4) = 0 then c else c.asleep (c.deepest (c.rf rCEL_PWR 0 0 5 4))) else c

theorem does_powerEntry (hw : s.chip.counted.powerEntry = f) (h : P (settle f)) : Does s (exec .cellarPowerEntry s) P := does_eq hw h

theorem does_cellarPowerEntry {d : Nat} (hup : s.chip.celUp = true) (hpm : s.chip.rb rCEL_CTRL 0 0 2 = true) (hawake : s.chip.pstate = 0)
    (hposted : s.chip.cel.posted < 32768) (hwb : s.chip.cel.wb = []) (hdue : s.chip.cel.scrubDue = false ∨ s.chip.rb rCEL_CTRL 0 0 1 = false)
    (hpos : 1 ≤ d) (hmax : d ≤ s.chip.rf rCEL_PWR 0 0 5 4) (htol : celExit d + s.chip.celGuard < s.chip.tol)
    (hdeep : ∀ e : Fin 4, d < e.val → e.val ≤ s.chip.rf rCEL_PWR 0 0 5 4 → s.chip.tol ≤ celExit e + s.chip.celGuard) :
    Does s (exec .cellarPowerEntry s) fun c =>
    c.pstate = d ∧ c.rest = { s.chip.rest with cel := { s.chip.cel with since := s.chip.time.now } } ∧ Frame [rCEL_STATUS.addr 0 0] [] s.chip c := by
  have hlt := maxState_lt s.chip
  have hdeepest : s.chip.counted.deepest (s.chip.counted.rf rCEL_PWR 0 0 5 4) = d :=
    deepest_eq (c := s.chip.counted) hpos htol hmax (of_deeper hlt hdeep)
  have hdue' : (s.chip.cel.scrubDue && s.chip.rb rCEL_CTRL 0 0 1) = false := by
    obtain h | h := hdue <;> simp [h]
  have hidle : s.chip.counted.celIdle = true := by
    have hidle' : s.chip.celIdle = true := by
      rw [Chip.celIdle, hup, hpm, hawake, decide_eq_true hposted, hwb, hdue']
      rfl
    exact hidle'
  refine does_powerEntry (f := s.chip.counted.asleep d) ?_ ⟨?_, rfl, ?_⟩
  · rw [Chip.powerEntry, if_pos hidle, hdeepest, if_neg (by omega)]
  · exact pstate_wf s.chip.counted (by omega)
  · exact Chip.Keeps.frame (g := fun _ => ()) (.of_eq (Chip.Keeps.wf (c := s.chip) .refl 4 3 d (List.mem_singleton_self _)) rfl rfl rfl)

/-- An idle controller that has a reason to stay has no state that the tolerance allows. -/
theorem shallow_of_idle {q : Prop} (hidle : c.celIdle = true) (h : c.celUp = false ∨ c.rb rCEL_CTRL 0 0 2 = false ∨ c.pstate ≠ 0 ∨ 32768 ≤ c.cel.posted ∨ c.cel.wb ≠ []
    ∨ (c.cel.scrubDue = true ∧ c.rb rCEL_CTRL 0 0 1 = true) ∨ q) : q := by
  simp only [Chip.celIdle, Bool.and_eq_true, decide_eq_true_eq, List.isEmpty_iff, Bool.not_eq_true', Bool.and_eq_false_iff] at hidle
  obtain ⟨⟨⟨⟨⟨hup, hpm⟩, hawake⟩, hposted⟩, hwb⟩, hdue⟩ := hidle
  obtain h | h | h | h | h | ⟨hburst, hscrub⟩ | h := h
  · exact absurd (hup.symm.trans h) (by decide)
  · exact absurd (hpm.symm.trans h) (by decide)
  · exact absurd hawake h
  · omega
  · exact absurd hwb h
  · rw [hburst, hscrub] at hdue
    simp at hdue
  · exact h

theorem does_cellarPowerEntry_stays (h : s.chip.celUp = false ∨ s.chip.rb rCEL_CTRL 0 0 2 = false ∨ s.chip.pstate ≠ 0 ∨ 32768 ≤ s.chip.cel.posted ∨ s.chip.cel.wb ≠ []
      ∨ (s.chip.cel.scrubDue = true ∧ s.chip.rb rCEL_CTRL 0 0 1 = true)
      ∨ (∀ e : Fin 4, 1 ≤ e.val → e.val ≤ s.chip.rf rCEL_PWR 0 0 5 4 → s.chip.tol ≤ celExit e + s.chip.celGuard)) :
    Does s (exec .cellarPowerEntry s) fun c => c.rest = s.chip.rest ∧ Frame [] [] s.chip c := by
  refine does_powerEntry ?_ (quiet s.chip)
  have hidle : s.chip.counted.celIdle = s.chip.celIdle := .trans rfl rfl
  by_cases hon : s.chip.celIdle = true
  · have hdeepest : s.chip.counted.deepest (s.chip.counted.rf rCEL_PWR 0 0 5 4) = 0 :=
      deepest_none (c := s.chip.counted) (of_deeper (maxState_lt s.chip) (shallow_of_idle hon h))
    rw [Chip.powerEntry, hdeepest, if_pos rfl, ite_self]
  · rw [Chip.powerEntry, hidle, if_neg hon]

/-! ## Wakes (R169) -/

theorem Chip.Keeps.power_rest {rs is : List Nat} (h : c.Keeps powerView rs is d) : d.rest = { c.rest with cel := d.cel } := by
  have hview : d.rest = { powerView d.rest with cel := d.cel } := rfl
  rw [hview, h.sameView]
  rfl

/-- The controller's time in the state it leaves added to that state's residence. -/
theorem celWake_asleep (h : c.pstate ≠ 0) : c.celWake
    = { (c.incSat rCEL_RES (c.pstate - 1) 0 ((c.now - c.cel.since) / 1000)).wf rCEL_STATUS 0 0 4 3 0 with cel := { c.cel with posted := 0 } } := if_neg h

theorem celWake_residence (h : c.pstate ≠ 0) : c.celWake.rd rCEL_RES (c.pstate - 1)
    = BitVec.ofNat 32 (min 0xFFFFFFFF ((c.rd rCEL_RES (c.pstate - 1)).toNat + (c.now - c.cel.since) / 1000)) := by
  have hother : ∀ k < 3, rCEL_RES.addr k 0 ≠ rCEL_STATUS.addr 0 0 := by decide
  have hlt := pstate_lt c
  rw [celWake_asleep h]
  exact (Chip.rd_wr_other _ _ (hother _ (by omega))).trans (Chip.rd_wr_same ..)

theorem celWake_frame (h : c.pstate ≠ 0) : c.Keeps powerView [rCEL_STATUS.addr 0 0, rCEL_RES.addr (c.pstate - 1) 0] [] c.celWake := by
  have hres : c.Keeps powerView [rCEL_STATUS.addr 0 0, rCEL_RES.addr (c.pstate - 1) 0] [] (c.incSat rCEL_RES (c.pstate - 1) 0 ((c.now - c.cel.since) / 1000)) :=
    Chip.Keeps.incSat .refl _ (by simp)
  rw [celWake_asleep h]
  exact .of_eq (hres.wf (r := rCEL_STATUS) 4 3 0 List.mem_cons_self) rfl rfl rfl

/-- Whether a wake event wakes the controller (R169). -/
def Chip.wakes (c : Chip) (why : WakeCause) : Bool :=
  match why with
  | .read | .posted | .scrub => true
  | .refresh => c.pstate = 1
  | .tol => c.tol ≤ celExit c.pstate + c.celGuard

/-- A wake event, taken: a scrub burst stays due. -/
def Chip.wakeBy (c : Chip) (why : WakeCause) : Chip :=
  if (c.setDue (c.cel.scrubDue || decide (why = .scrub))).wakes why then (c.setDue (c.cel.scrubDue || decide (why = .scrub))).celWake
  else c.setDue (c.cel.scrubDue || decide (why = .scrub))

theorem does_wakeBy {why : WakeCause} (halive : s.chip.alive .cel = true) (h : P (settle (s.chip.counted.wakeBy why))) :
    Does s (exec (.cellarWake why) s) P := by
  have hdue : (s.chip.counted.setDue (s.chip.counted.cel.scrubDue || decide (why = .scrub)))
      = if why == .scrub then s.chip.counted.setDue true else s.chip.counted := by
    cases why with
    | scrub => exact congrArg s.chip.counted.setDue (Bool.or_true _)
    | read | posted | refresh | tol => exact congrArg s.chip.counted.setDue (Bool.or_false _)
  refine does_when halive ?_ h
  rw [Chip.wakeBy, hdue]
  cases why <;> rfl

theorem does_cellarWake {why : WakeCause} (halive : s.chip.alive .cel = true) (hasleep : s.chip.pstate ≠ 0)
    (hwhy : why = .read ∨ why = .posted ∨ why = .scrub ∨ (why = .refresh ∧ s.chip.pstate = 1)
      ∨ (why = .tol ∧ s.chip.tol ≤ celExit s.chip.pstate + s.chip.celGuard)) : Does s (exec (.cellarWake why) s) fun c =>
    c.pstate = 0 ∧ c.rest = { s.chip.rest with cel := { s.chip.cel with posted := 0, scrubDue := s.chip.cel.scrubDue || decide (why = .scrub) } }
    ∧ c.rd rCEL_RES (s.chip.pstate - 1) = BitVec.ofNat 32 (min 0xFFFFFFFF ((s.chip.rd rCEL_RES (s.chip.pstate - 1)).toNat + (s.chip.time.now - s.chip.cel.since) / 1000))
    ∧ Frame [rCEL_STATUS.addr 0 0, rCEL_RES.addr (s.chip.pstate - 1) 0] [] s.chip c := by
  have hwakes : ∀ b, (s.chip.counted.setDue b).wakes why = true := by
    intro b
    have hsame : (s.chip.counted.setDue b).wakes why = s.chip.wakes why := by cases why <;> rfl
    rw [hsame]
    obtain rfl | rfl | rfl | ⟨rfl, h⟩ | ⟨rfl, h⟩ := hwhy
    · rfl
    · rfl
    · rfl
    · exact decide_eq_true h
    · exact decide_eq_true h
  have hasleep' : ∀ b, (s.chip.counted.setDue b).pstate ≠ 0 := fun _ => hasleep
  have hdue : ∀ b, s.chip.Keeps powerView [rCEL_STATUS.addr 0 0, rCEL_RES.addr (s.chip.pstate - 1) 0] [] (s.chip.counted.setDue b) :=
    fun _ => .of_eq .refl rfl rfl rfl
  have hframe := fun b => (hdue b).trans (celWake_frame (hasleep' b))
  have hcel : ∀ b, (s.chip.counted.setDue b).celWake.cel = { s.chip.cel with posted := 0, scrubDue := b } :=
    fun b => (celWake_cel _).trans (if_neg (hasleep' b))
  refine does_wakeBy halive ?_
  rw [Chip.wakeBy, if_pos (hwakes _)]
  refine ⟨pstate_celWake _, ?_, celWake_residence (hasleep' _), (hframe _).frame⟩
  rw [rest_settle, (hframe _).power_rest, hcel]

theorem setDue_self (c : Chip) {why : WakeCause} (h : why ≠ .scrub) : c.setDue (c.cel.scrubDue || decide (why = .scrub)) = c := by
  rw [decide_eq_false h, Bool.or_false]
  rfl

theorem does_cellarWake_stays {why : WakeCause} (hscrub : why ≠ .scrub) (h : s.chip.pstate = 0 ∨ (why = .refresh ∧ s.chip.pstate ≠ 1)
      ∨ (why = .tol ∧ celExit s.chip.pstate + s.chip.celGuard < s.chip.tol)) :
    Does s (exec (.cellarWake why) s) fun c => c.rest = s.chip.rest ∧ Frame [] [] s.chip c := by
  by_cases halive : s.chip.alive .cel = true
  · refine does_wakeBy halive ?_
    have hstands : s.chip.counted.wakeBy why = s.chip.counted := by
      rw [Chip.wakeBy, setDue_self _ hscrub]
      obtain hawake | ⟨rfl, hnot⟩ | ⟨rfl, hnot⟩ := h
      · rw [celWake_awake (c := s.chip.counted) hawake, ite_self]
      · exact if_neg fun hw => hnot (of_decide_eq_true hw)
      · exact if_neg fun hw => absurd (of_decide_eq_true hw) (Nat.not_le.mpr hnot)
    rw [hstands]
    exact quiet s.chip
  · exact does_eq (if_neg halive) (quiet s.chip)

theorem does_cellarWake_due (halive : s.chip.alive .cel = true) (hawake : s.chip.pstate = 0) : Does s (exec (.cellarWake .scrub) s) fun c =>
    c.rest = { s.chip.rest with cel := { s.chip.cel with scrubDue := true } } ∧ Frame [] [] s.chip c := by
  have hdue : s.chip.counted.wakeBy .scrub = s.chip.counted.setDue true := by
    rw [Chip.wakeBy, celWake_awake (c := s.chip.counted.setDue _) hawake, ite_self]
    exact congrArg s.chip.counted.setDue (Bool.or_true _)
  refine does_wakeBy halive ?_
  rw [hdue]
  exact ⟨rfl, Chip.Keeps.frame (g := fun _ => ()) (.of_eq .refl rfl rfl rfl)⟩

end

/-- Settles O21: a burst is its sixteen words read one after another, which finds each as it stood and queues its write-back; the power states
move between ACTIVE and the deepest state that the tolerance allows. -/
theorem cellarScrubAndPower : Obligations.cellar_scrub_and_power := by
  unfold Obligations.cellar_scrub_and_power
  exact ⟨fun _ => does_scrubBurst_clean,
    fun _ _ => does_scrubBurst_queues,
    fun _ => does_scrubBurst_behind,
    fun _ _ => does_scrubBurst_off,
    fun _ _ _ => does_eccInjWrite,
    fun _ => does_tolMessage,
    fun _ _ => does_tolMessage_other,
    fun _ => does_tolTimeout,
    fun _ _ => does_cellarPowerEntry,
    fun _ => does_cellarPowerEntry_stays,
    fun _ _ => does_cellarWake,
    fun _ _ => does_cellarWake_stays,
    fun _ => does_cellarWake_due⟩

end Sys2Proof.Machine
